-- ==== Sys2Proof/Word.lean ====
section
/-!
DEFINITION. Words, bytes and keyed tables: the plainest data types of the model.
-/
namespace Sys2Proof

/-- A 32-bit word: a control register, a KIS register, a word of a space (R13, R89, R95). -/
abbrev Word := BitVec 32

/-- A byte of memory or of a wire format (R12). -/
abbrev Byte := BitVec 8

/-- A table keyed by a number (an index, an address): rising keys; an absent key reads as the default the reader names. -/
abbrev Tab (α : Type) := List (Nat × α)

end Sys2Proof
end

