-- ==== Sys2Proof/Syntax.lean ====
section
/-!
DEFINITION. The commands of the block: one constructor of `Instr` per row of the table of operations and events, with
the operands each carries. The operand types come first.
-/
namespace Sys2Proof

/-- The three pass contexts of a core (R92). -/
inductive Pass where
  | top | heart | base
  deriving DecidableEq, Repr

/-- The spaces that the sp field of LD and ST names (R153). -/
inductive Space where
  | stateOld | stateNew | param | imageIn | inbox | imageOut | outbox | scratch
  deriving DecidableEq, Repr

/-- The registers MOVS reads (R148). -/
inductive SpecialReg where
  | obj | typ | cyc
  deriving DecidableEq, Repr

/-- What SECDED reports of the word an access meets (R28, R144). A corrected word names its bank B0 to B7. -/
inductive Ecc where
  | good
  | corrected (bank : Fin 8)
  | uncorrectable
  deriving DecidableEq, Repr

/-- The context that issues an instruction: a pass of a JOINED core, a SPLIT context, or a service core (R89, R122, R477). -/
inductive Ctx where
  | joined (core : Fin 64) (pass : Pass)
  | split (core : Fin 64) (k : Fin 3)
  | service (c : Fin 4)
  deriving DecidableEq, Repr

/-- One issue of an instruction: the context, and whether SECDED reports the fetched word uncorrectable (R144, R481). -/
structure Issue where
  ctx : Ctx
  fetchBad : Bool := false
  deriving DecidableEq, Repr

/-- A register number g0 to g31, or a selector field of five bits (R93, R137). -/
abbrev Reg := Fin 32

/-- The selectors of SCODE: fn[0] the code, fn[1] the source, fn[2] the direction of the identity block (R166). -/
structure ScodeFn where
  kasami : Bool
  fromInbox : Bool
  receiving : Bool
  deriving DecidableEq, Repr

/-- Who makes a control access (R543): a berth, a service core or the lock-keeper core. -/
inductive Requester where
  | berth (b : Fin 8)
  | service (c : Fin 4)
  | keeper
  deriving DecidableEq, Repr

/-- A control access: who makes it, and the DTIME in ns at which it is made (a time in the past means now). -/
structure Access where
  req : Requester
  at_ : Nat := 0
  deriving DecidableEq, Repr

/-- A word that the HOUSEKEEPING scrub visits and SECDED reports as not good: its byte offset and what is reported (R86). -/
structure ScrubFinding where
  addr : Nat
  ecc : Ecc
  deriving DecidableEq, Repr

/-- The path of a comparator lane that a proof-test pair exercises (R189). -/
inductive ProofPath where
  | heart | base
  deriving DecidableEq, Repr

/-- The first failing pair of a comparator proof test: cluster, lane and path (R189, R193). -/
structure ProofFail where
  cluster : Fin 8
  lane : Fin 8
  path : ProofPath
  deriving DecidableEq, Repr

/-- How the dual-rail checker failed: rails of A or of B not complementary, or A and B verdicts that differ (R188). -/
inductive RailFault where
  | compA | compB | both
  deriving DecidableEq, Repr

/-- The 16-byte header of a berth message as it arrived (R306). The operands of the command hold the body, field by field. -/
structure MsgHead where
  version : Byte := 0x10
  typ : Byte
  length : BitVec 16
  tag : Word
  status : BitVec 16 := 0
  reserved : BitVec 16 := 0
  crc : Word
  deriving DecidableEq, Repr

/-- What a TLS client offers (R313): protocol versions, cipher suites, groups and signature schemes by their RFC 8446 numbers, the groups of its key
shares, and those of a second ClientHello, if a HelloRetryRequest brought one. A PSK, early data and every other extension are passed over. -/
structure ClientHello where
  versions : List (BitVec 16)
  suites : List (BitVec 16)
  groups : List (BitVec 16)
  schemes : List (BitVec 16)
  shares : List (BitVec 16)
  again : List (BitVec 16) := []
  deriving DecidableEq, Repr

/-- One entry of a COMMAND (R314): object address, code, bytes 6 to 7, arguments. -/
structure CmdEntry where
  addr : Word
  code : BitVec 16
  zero : BitVec 16 := 0
  arg0 : Word
  arg1 : Word
  deriving DecidableEq, Repr

/-- A frame on an Ethernet port that may carry a Yala unit (R255, R272): by EtherType 0x88B5 (raw) or by UDP over IPv4. -/
structure NetFrame where
  fcsOk : Bool := true
  raw : Bool
  srcMac : BitVec 48
  srcIp : Word := 0
  dstIp : Word := 0
  srcPort : BitVec 16 := 0
  dstPort : BitVec 16 := 0
  /-- The IPv4 packet is a fragment or carries options; its header and UDP checksums are good (R253). -/
  fragment : Bool := false
  sumsOk : Bool := true
  bytes : List Byte
  deriving DecidableEq, Repr
/-- A TCP segment over IPv4 (R253, R254): its destination, whether the packet is whole and without options, and whether its header checksum
is good. -/
structure TcpSegment where
  dstIp : Word
  dstPort : BitVec 16
  plain : Bool := true
  sumOk : Bool := true
  deriving DecidableEq, Repr

/-- A frame that a towpath port has received (R212): the bytes of header, payload and trailer; whether its start and terminate control blocks are
good; the DTIME at the first byte of its start block. -/
structure WireFrame where
  bytes : List Byte
  control : Bool := true
  arrive : Nat
  deriving DecidableEq, Repr

/-- What a BOOT meets (R521): the DTIME at which stages S1 to S10 ended; the first stage that fails on a ground no other field names, with its detail;
slots, by bit in the order of LKP_UPD_SLOT, that do not verify, or that a torn staging write left behind (R534); whether the scan meets a
store fault; whether the hash of settings copy A or B fails, and the stored policy table or connection configuration no longer
verifies; the service cores that report ready; the field blocks that pass their link check; whether PCLK starts; the proof test of S5
that fails, if one does (R188, R193). -/
structure BootRun where
  ends : List Nat := []
  fail : Option (Fin 11 × BitVec 32) := none
  badSlots : BitVec 6 := 0
  tornSlots : BitVec 6 := 0
  scanFault : Bool := false
  badA : Bool := false
  badB : Bool := false
  badPolicy : Bool := false
  badConf : Bool := false
  ready : BitVec 4 := 15
  linkOk : BitVec 4 := 15
  pclk : Bool := true
  proof : Option ProofFail := none
  deriving DecidableEq, Repr

/-- How a power failure or reset meets the journal store: whether the staging buffer and the held records are lost, and whether the
record at the front of the buffer was half programmed (R455 to R457). -/
structure StoreLoss where
  lost : Bool := false
  torn : Bool := false
  deriving DecidableEq, Repr



/-- The commands: one constructor per row of the table of operations and events, in the table's order. -/
inductive Instr where
  /-- ADD (R145): Adds two registers modulo 2^32; Heart uses the dual x + y + 1. -/
  | add (i : Issue) (rd ra rb : Reg)
  /-- SUB (R145): Subtracts two registers modulo 2^32; Heart uses x - y - 1. -/
  | sub (i : Issue) (rd ra rb : Reg)
  /-- AND (R145): Bitwise AND of two registers; Heart computes OR. -/
  | andOp (i : Issue) (rd ra rb : Reg)
  /-- OR (R145): Bitwise OR of two registers; Heart computes AND. -/
  | orOp (i : Issue) (rd ra rb : Reg)
  /-- XOR (R145): Bitwise XOR of two registers; Heart computes XNOR. -/
  | xorOp (i : Issue) (rd ra rb : Reg)
  /-- ANDN (R145): Computes a AND NOT b. -/
  | andn (i : Issue) (rd ra rb : Reg)
  /-- ORN (R145): Computes a OR NOT b. -/
  | orn (i : Issue) (rd ra rb : Reg)
  /-- SLL (R145): Shifts left by a register count, filling with 0 (1 in Heart). -/
  | sll (i : Issue) (rd ra rb : Reg)
  /-- SRL (R145): Shifts right logically by a register count. -/
  | srl (i : Issue) (rd ra rb : Reg)
  /-- SRA (R145): Shifts right arithmetically by a register count. -/
  | sra (i : Issue) (rd ra rb : Reg)
  /-- MUL (R145): Writes the low 32 bits of the product, with latency 2. -/
  | mul (i : Issue) (rd ra rb : Reg)
  /-- DIVU (R145): Unsigned division in 12 slots; the result is 0xFFFF_FFFF when the divisor is 0. -/
  | divu (i : Issue) (rd ra rb : Reg)
  /-- REMU (R145): Unsigned remainder in 12 slots; the result is a when the divisor is 0. -/
  | remu (i : Issue) (rd ra rb : Reg)
  /-- MINU (R145): Unsigned minimum. -/
  | minu (i : Issue) (rd ra rb : Reg)
  /-- MAXU (R145): Unsigned maximum. -/
  | maxu (i : Issue) (rd ra rb : Reg)
  /-- MIN (R145): Signed minimum. -/
  | minOp (i : Issue) (rd ra rb : Reg)
  /-- MAX (R145): Signed maximum. -/
  | maxOp (i : Issue) (rd ra rb : Reg)
  /-- SLTU (R145): Sets 1 if a < b unsigned, else 0. -/
  | sltu (i : Issue) (rd ra rb : Reg)
  /-- SLT (R145): Sets 1 if a < b signed, else 0. -/
  | slt (i : Issue) (rd ra rb : Reg)
  /-- TALL (R150): Tests that all mask bits are set in a. -/
  | tall (i : Issue) (rd ra rb : Reg)
  /-- TANY (R150): Tests that any mask bit is set in a. -/
  | tany (i : Issue) (rd ra rb : Reg)
  /-- TNONE (R150): Tests that no mask bit is set in a. -/
  | tnone (i : Issue) (rd ra rb : Reg)
  /-- MSEL (R150): Selects bits from a or rd by a mask. -/
  | msel (i : Issue) (rd ra rb : Reg)
  /-- POPC (R150): Counts the 1 bits of a. -/
  | popc (i : Issue) (rd ra : Reg)
  /-- FFS (R150): Returns the index of the lowest 1 bit, or 32. -/
  | ffs (i : Issue) (rd ra : Reg)
  /-- CLRLS (R150): Clears the lowest set bit. -/
  | clrls (i : Issue) (rd ra : Reg)
  /-- BMAJ (R150): Bitwise majority of three registers. -/
  | bmaj (i : Issue) (rd ra rb : Reg)
  /-- EXT (R149): Extracts a bit field, zero-extended. -/
  | ext (i : Issue) (rd ra pos wm1 : Reg)
  /-- EXTS (R149): Extracts a bit field, sign-extended. -/
  | exts (i : Issue) (rd ra pos wm1 : Reg)
  /-- INS (R149): Inserts a field into rd. -/
  | ins (i : Issue) (rd ra pos wm1 : Reg)
  /-- ADDI (R146): Adds a sign-extended immediate. -/
  | addi (i : Issue) (rd ra : Reg) (imm : BitVec 16)
  /-- ANDI (R146): ANDs with a zero-extended immediate. -/
  | andi (i : Issue) (rd ra : Reg) (imm : BitVec 16)
  /-- ORI (R146): ORs with a zero-extended immediate; also serves as NOP. -/
  | ori (i : Issue) (rd ra : Reg) (imm : BitVec 16)
  /-- XORI (R146): XORs with a zero-extended immediate. -/
  | xori (i : Issue) (rd ra : Reg) (imm : BitVec 16)
  /-- LUI (R146): Loads the immediate into the upper half. -/
  | lui (i : Issue) (rd : Reg) (imm : BitVec 16)
  /-- SLLI (R147): Shifts left by the encoded count. -/
  | slli (i : Issue) (rd ra sh : Reg)
  /-- SRLI (R147): Shifts right logically by the encoded count. -/
  | srli (i : Issue) (rd ra sh : Reg)
  /-- SRAI (R147): Shifts right arithmetically by the encoded count. -/
  | srai (i : Issue) (rd ra sh : Reg)
  /-- MOVS (R148): Reads OBJ, TYP or CYC into a register. -/
  | movs (i : Issue) (rd : Reg) (sel : SpecialReg)
  /-- LD (R156): Loads a word from a space after the index and permission checks. -/
  | ld (i : Issue) (rt : Reg) (sp : Space) (ra : Reg) (off : BitVec 13) (ecc : Ecc)
  /-- ST (R157): Makes a store bus output after the checks of R155. -/
  | st (i : Issue) (rt : Reg) (sp : Space) (ra : Reg) (off : BitVec 13)
  /-- BEQ (R152): Branches if equal. -/
  | beq (i : Issue) (ra rb : Reg) (disp : BitVec 16)
  /-- BNE (R152): Branches if not equal. -/
  | bne (i : Issue) (ra rb : Reg) (disp : BitVec 16)
  /-- BLT (R152): Branches if less than, signed. -/
  | blt (i : Issue) (ra rb : Reg) (disp : BitVec 16)
  /-- BGE (R152): Branches if greater than or equal, signed. -/
  | bge (i : Issue) (ra rb : Reg) (disp : BitVec 16)
  /-- BLTU (R152): Branches if less than, unsigned. -/
  | bltu (i : Issue) (ra rb : Reg) (disp : BitVec 16)
  /-- BGEU (R152): Branches if greater than or equal, unsigned. -/
  | bgeu (i : Issue) (ra rb : Reg) (disp : BitVec 16)
  /-- BBS (R152): Branches if bit k is set. -/
  | bbs (i : Issue) (ra k : Reg) (disp : BitVec 16)
  /-- BBC (R152): Branches if bit k is clear. -/
  | bbc (i : Issue) (ra k : Reg) (disp : BitVec 16)
  /-- J (R151): Jumps unconditionally by a 26-bit displacement. -/
  | jump (i : Issue) (disp : BitVec 26)
  /-- OLOOP (R159): Starts the object list, records the list-end address and enters the first object. -/
  | oloop (i : Issue) (disp : BitVec 16)
  /-- ONEXT (R160): Ends the object, performs the carries, closes the segment and moves to the next object. -/
  | onext (i : Issue) (eccs : List Ecc)
  /-- ENDC (R161): Closes the segment and ends the pass or SPLIT context. -/
  | endc (i : Issue)
  /-- SEG (R163): Closes the current segment and opens the next. -/
  | seg (i : Issue)
  /-- ASSERT (R164): Raises the ASSERT exception with a 16-bit code. -/
  | assertOp (i : Issue) (imm : BitVec 16)
  /-- TSTART (R165): Starts an owned timer as a voted bus output. -/
  | tstart (i : Issue) (ra : Reg)
  /-- TSTOP (R165): Stops an owned timer as a voted bus output. -/
  | tstop (i : Issue) (ra : Reg)
  /-- TTEST (R116): Reads a timer's running flag and elapsed time. -/
  | ttest (i : Issue) (rd ra : Reg)
  /-- SCODE (R166): Computes a Yala CRC-32C or CRC-32K safety code over an identity block and message words. -/
  | scode (i : Issue) (rd ra rb : Reg) (fn : ScodeFn) (ecc : Ecc)
  /-- MCMD (R170): Posts a motion command into the motion release list. -/
  | mcmd (i : Issue) (ra rb rc : Reg)
  /-- FSET (R171): Posts a field command into the field release list. -/
  | fset (i : Issue) (ra rb rc : Reg)
  /-- INVALID_ENCODING (R173): A fetched word with an invalid encoding raises exception 0x1200. -/
  | invalidEncoding (i : Issue) (w : Word)
  /-- ERET (R504): A service core returns from a handler and restores the frame. -/
  | eret (i : Issue)
  /-- DI (R174): A service core masks interrupt delivery. -/
  | di (i : Issue)
  /-- EI (R174): A service core unmasks interrupt delivery. -/
  | ei (i : Issue)
  /-- WFE (R174): A service core waits until an event is presented. -/
  | wfe (i : Issue)
  /-- MFSR (R480): Reads a system register. -/
  | mfsr (i : Issue) (rd : Reg) (sr : BitVec 10)
  /-- MTSR (R480): Writes a system register, including STATUS and the stack registers. -/
  | mtsr (i : Issue) (ra : Reg) (sr : BitVec 10)
  /-- EOI_WRITE (R503): An MTSR to EOI pops the priority stack and may present a request. -/
  | eoiWrite (i : Issue) (ra : Reg)
  /-- WDKICK_WRITE (R489): An MTSR to WDKICK restarts the core's watchdog. -/
  | wdkickWrite (i : Issue) (ra : Reg)
  /-- LDC (R176): A service core reads a control-space word through the berth gate. -/
  | ldc (i : Issue) (rd ra : Reg) (imm : BitVec 16)
  /-- STC (R176): A service core writes a control-space word through the berth gate. -/
  | stc (i : Issue) (rd ra : Reg) (imm : BitVec 16)
  /-- MPUW (R484): Writes an MPU descriptor word. -/
  | mpuw (i : Issue) (ra rb : Reg)
  /-- MPUR (R482): Reads an MPU descriptor word. -/
  | mpur (i : Issue) (rd ra : Reg)
  /-- MPUSYNC (R484): Waits until earlier MPU writes apply. -/
  | mpusync (i : Issue)
  /-- TRAP (R486): Enters the service exception handler with a code. -/
  | trap (i : Issue) (imm : BitVec 16)
  /-- LOCK_CHAMBER_STALL_END (R185): A pass stalled on a full chamber or store queue resumes when an entry frees. -/
  | lockChamberStallEnd (core : Fin 64) (pass : Pass)
  /-- RUN_AHEAD_STALL_END (R187): Top stalled at its run-ahead depth resumes when Base closes a segment. -/
  | runAheadStallEnd (core : Fin 64)
  /-- CAPTURE (R59): At S(n) the sequencer raises the capture strobe and freezes inputs. -/
  | capture (feedbackOnTime motionOnTime : Bool)
  /-- INBOX_SWAP (R63): The Yala checker finishes its message, swaps the INBOX buffers and acknowledges. -/
  | inboxSwap (ackNs : Nat)
  /-- FREEZE_MARK (R64): The berth gate's freeze mark closes the command batch of the cycle. -/
  | freezeMark (arriveNs : Nat)
  /-- CAPTURE_END (R67): The input image is complete, or 20 µs have passed, and CAPTURE ends. -/
  | captureEnd (endNs : Nat) (notWritten : BitVec 8)
  /-- EVALUATE_END (R75): The last in-service core is done and ACCORD-CLOSE begins. -/
  | evaluateEnd (atNs : Nat)
  /-- ACCORD_CLOSE_END (R80): The final accord completes and the output hash is formed. -/
  | accordCloseEnd (atNs : Nat)
  /-- RELEASE (R82): At D(n) the outputs are handed to the field, motion, sealer and journal. -/
  | release
  /-- RELEASE_END (R86): RELEASE ends and HOUSEKEEPING runs its steps. -/
  | releaseEnd (endNs : Nat) (proof : Option ProofFail) (scrubbed : Nat) (found : List ScrubFinding)
  /-- OVERRUN_CYCLE_COMPLETE (R87): An overrun cycle completes; its lists are discarded and its journal requests passed on. -/
  | overrunCycleComplete (atNs : Nat)
  /-- CLR_OVR (R542): A write of clr_ovr clears LGC_SEQ_OVRTOT. -/
  | clrOvr (acc : Access)
  /-- CLR_MAX (R542): A write of clr_max clears LGC_SEQ_TMAX. -/
  | clrMax (acc : Access)
  /-- CLUSTER_SPLIT_REQUEST (R205): MAINTAIN requests an unused cluster to become SPLIT. -/
  | clusterSplitRequest (acc : Access) (clusters : BitVec 8)
  /-- CLUSTER_PARK_REQUEST (R205): MAINTAIN requests a SPLIT cluster to become unused. -/
  | clusterParkRequest (acc : Access) (clusters : BitVec 8)
  /-- CLUSTER_HANDOVER_COMPLETE (R204): Drain and scrub end and the cluster takes its new mode. -/
  | clusterHandoverComplete (k : Fin 8) (proof : Option ProofFail)
  /-- HELLO (R244): A HELLO frame gives latency, state, view and hashes for link-up and formation. -/
  | hello (p : Fin 2) (w : WireFrame)
  /-- HELLO_TIMER (R240): A member sends HELLO every 1 ms on each link that is up. -/
  | helloTimer (atNs : Nat)
  /-- CYCLE (R219): A peer's CYCLE frame gives its cycle start for alignment. -/
  | cycle (p : Fin 2) (w : WireFrame)
  /-- CONTRIB (R222): A chunk of a member's contribution is received. -/
  | contrib (p : Fin 2) (w : WireFrame)
  /-- RELAY (R231): A peer's checked Yala message is relayed for the INBOX merge. -/
  | relay (p : Fin 2) (w : WireFrame)
  /-- CUT (R231): A peer's CUT closes its relay set of the cycle. -/
  | cut (p : Fin 2) (w : WireFrame)
  /-- SUMMARY (R226): A peer reports which contributions and relay sets it holds, with hashes. -/
  | summary (p : Fin 2) (w : WireFrame)
  /-- HASH (R236): A peer's output hash and image digest are received. -/
  | hash (p : Fin 2) (w : WireFrame)
  /-- JOIN (R245): A joiner asks a pair to take it back. -/
  | join (p : Fin 2) (w : WireFrame) (peerLink : Bool)
  /-- GRANT (R244): A GRANT forms the triad with S(0), or grants a join at cycle J. -/
  | grant (p : Fin 2) (w : WireFrame)
  /-- XFER (R246): A chunk of state transfer data is received by the joiner. -/
  | xfer (p : Fin 2) (w : WireFrame)
  /-- ACK (R217): An ACK acknowledges frames; a repeated ack triggers retransmission. -/
  | ack (p : Fin 2) (w : WireFrame)
  /-- NOTICE (R239): A peer announces its departure and is lost. -/
  | notice (p : Fin 2) (w : WireFrame)
  /-- ACK_DUE (R216): An ACK is sent within 2 µs when no other frame carries the ack. -/
  | ackDue (p : Fin 2) (atNs : Nat)
  /-- RETRANSMIT_TIMEOUT (R217): A frame unacknowledged after 20 µs is retransmitted; after 3 retransmissions the link goes down. -/
  | retransmitTimeout (p : Fin 2) (atNs : Nat)
  /-- BLOCK_LOCK_LOST (R210): Loss of block lock for more than 10 µs takes the link down. -/
  | blockLockLost (p : Fin 2) (atNs : Nat)
  /-- TOWPATH_RECEIVE_TIMEOUT (R210): No valid frame for 2 ms takes the link down. -/
  | towpathReceiveTimeout (p : Fin 2) (atNs : Nat)
  /-- DATA_DEADLINE (R225): At 80 µs the member sends its SUMMARY with what it holds. -/
  | dataDeadline
  /-- SUMMARY_DEADLINE (R226): At 90 µs the member decides which contributions it uses. -/
  | summaryDeadline
  /-- AGREE_END (R225): The agreed image, merged batch and merged INBOX are placed by 96 µs. -/
  | agreeEnd (atNs : Nat)
  /-- IMAGE_DIGEST_COMPLETE (R235): The SHA-256 image digest is ready. -/
  | imageDigestComplete (atNs : Nat)
  /-- HASH_DEADLINE (R237): At D(n) + 15 µs the member compares the HASH frames and decides whether to release. -/
  | hashDeadline
  /-- JOIN_RETRY (R245): A refused joiner repeats JOIN after 1 s. -/
  | joinRetry (atNs : Nat)
  /-- XFER_DEADLINE (R247): 10 µs before S(J+1) the joiner accepts or rejects the transfer. -/
  | xferDeadline (start : Nat)
  /-- TRIAD_LEAVE (R242): A MAINTAIN write of NET_TRI_CTRL.leave makes the member leave and enter HOLD. -/
  | triadLeave (acc : Access) (v : Word)
  /-- YALA_UNIT_RECEIVED (R272): The checker examines a received frame and places a passing message in its slot. -/
  | yalaUnitReceived (p : Fin 4) (f : NetFrame)
  /-- ARP_REQUEST (R253): An ARP request for the port's address is answered. -/
  | arpRequest (p : Fin 4) (mac : BitVec 48) (ip target : Word)
  /-- NON_YALA_FRAME (R254): Berth TCP traffic passes to the service region; other traffic is discarded and counted. -/
  | nonYalaFrame (p : Fin 4) (fcsOk : Bool) (length : BitVec 16) (tcp : Option TcpSegment)
  /-- PORT_LINK_UP (R253): An Ethernet port comes up and sends one gratuitous ARP. -/
  | portLinkUp (p : Fin 4) (fec gigabit : Bool)
  /-- PORT_LINK_DOWN (R28): An Ethernet port goes down and is recorded. -/
  | portLinkDown (p : Fin 4)
  /-- OPEN (R307): A host opens a berth and receives a nonce. -/
  | openBerth (b : Fin 8) (m : MsgHead)
  /-- PROOF (R309): A signed proof and chain grant the berth its roles, or count a failed open. -/
  | proof (b : Fin 8) (m : MsgHead) (sig chain : List Byte)
  /-- CLOSE (R320): A host closes its berth, which then resets. -/
  | close (b : Fin 8) (m : MsgHead)
  /-- CREAD (R308): Reads 1 to 256 control words, refused whole on any failing word. -/
  | cread (b : Fin 8) (m : MsgHead) (addr : Word) (count zero : BitVec 16)
  /-- CWRITE (R542): Writes one control word under the gate checks. -/
  | cwrite (b : Fin 8) (m : MsgHead) (addr value : Word)
  /-- COMMAND (R314): Submits 1 to 64 command entries, which the gate accepts and stamps or refuses. -/
  | command (b : Fin 8) (m : MsgHead) (atNs : Nat) (entries : List CmdEntry)
  /-- COMMAND_REPLY (R319): The gate answers a COMMAND after its cycle's RELEASE. -/
  | commandReply (b : Fin 8)
  /-- HASHREAD (R307): Returns the program and policy hashes. -/
  | hashread (b : Fin 8) (m : MsgHead)
  /-- SREAD (R308): Returns OLD-view object states of one cycle. -/
  | sread (b : Fin 8) (m : MsgHead) (first count : Word)
  /-- ECHUNK (R307): Stages a chunk of an envelope. -/
  | echunk (b : Fin 8) (m : MsgHead) (offset total : Word) (data : List Byte)
  /-- ECOMMIT (R304): Commits a staged envelope for checking. -/
  | ecommit (b : Fin 8) (m : MsgHead) (total : Word) (kind zero : BitVec 16) (atNs : Nat)
  /-- ENVELOPE_CHECK_COMPLETE (R304): The checks end; the envelope is accepted or refused and the reply is sent. -/
  | envelopeCheckComplete (b : Fin 8)
  /-- JSTAT (R462): Returns the journal state words and write point. -/
  | jstat (b : Fin 8) (m : MsgHead)
  /-- JREAD (R463): Returns stored flacon bytes. -/
  | jread (b : Fin 8) (m : MsgHead) (unit offset length : Word)
  /-- JSEAL (R464): Writes and returns a SEAL record. -/
  | jseal (b : Fin 8) (m : MsgHead)
  /-- JACK (R465): Acknowledges the readout up to a checkpoint or seal. -/
  | jack (b : Fin 8) (m : MsgHead) (k : Word) (c : List Byte)
  /-- JREARM (R466): Sets acknowledged units to be erased and writes a REARM record. -/
  | jrearm (b : Fin 8) (m : MsgHead)
  /-- KREAD (R462): Returns bytes of the keeper log. -/
  | kread (b : Fin 8) (m : MsgHead) (unit offset length : Word)
  /-- SHREAD (R462): Returns bytes of a statistics frame. -/
  | shread (b : Fin 8) (m : MsgHead) (frame offset length : Word)
  /-- BERTH_RESET (R320): A berth discards its pending work, clears its roles and returns to closed. -/
  | berthReset (b : Fin 8)
  /-- BERTH_IDLE_TIMEOUT (R320): The policy idle timeout expires and resets the berth. -/
  | berthIdleTimeout (b : Fin 8) (atNs : Nat)
  /-- UART_BREAK (R310): A break of at least 100 ms on UART_K resets BTH0. -/
  | uartBreak
  /-- UART_FRAME_GAP (R310): A gap of more than 100 ms within a frame discards the frame. -/
  | uartFrameGap (line : List Byte)
  /-- BQ_DOORBELL (R311): A write of req_tail announces new requests. -/
  | bqDoorbell (h : Fin 2) (tail : BitVec 16)
  /-- BQ_RPL_HEAD_WRITE (R311): The host reports replies consumed, freeing reply slots. -/
  | bqRplHeadWrite (h : Fin 2) (head : BitVec 16)
  /-- BQ_RESET (R312): A write of BQ_CTRL.reset resets the berth. -/
  | bqReset (h : Fin 2) (v : Word)
  /-- BQ_RING_WRITE (R312): A ring register write while enabled resets the berth. -/
  | bqRingWrite (h : Fin 2) (reg : Fin 5) (v : Word)
  /-- BQ_REQUEST_FETCH (R311): The endpoint fetches the next request when reply slots are free. -/
  | bqRequestFetch (h : Fin 2)
  /-- PCIE_COMPLETION_ERROR (R312): A ring completion that times out or errs resets the berth. -/
  | pcieCompletionError (h : Fin 2)
  /-- REPLY_SLOT_WAIT_TIMEOUT (R312): A reply that waits 1 s for a free slot resets the berth. -/
  | replySlotWaitTimeout (h : Fin 2) (atNs : Nat)
  /-- TCP_CONNECTION_REQUEST (R313): A closed berth accepts one TCP connection; others are reset. -/
  | tcpConnectionRequest (p : Fin 4) (port : BitVec 16) (atNs : Nat)
  /-- TLS_HANDSHAKE_COMPLETE (R289): The lock-keeper verifies the client chain and grants the roles. -/
  | tlsHandshakeComplete (b : Fin 8) (hello : ClientHello) (certs : List (List Byte)) (transcript verify : List Byte) (alert : Option Byte) (atNs : Nat)
  /-- TLS_HANDSHAKE_TIMEOUT (R313): A handshake not finished in 5 s closes the connection. -/
  | tlsHandshakeTimeout (b : Fin 8) (atNs : Nat)
  /-- KEYUPDATE (R313): A TLS KeyUpdate is answered. -/
  | keyupdate (b : Fin 8)
  /-- TCP_CONNECTION_CLOSED (R320): Closure or failure of the TCP or TLS session resets the berth. -/
  | tcpConnectionClosed (b : Fin 8)
  /-- LOCKOUT_END (R323): The lockout time of a berth expires. -/
  | lockoutEnd (b : Fin 8) (atNs : Nat)
  /-- BTH_NARROW_WRITE (R288): Removes roles from a berth. -/
  | bthNarrowWrite (acc : Access) (b : Fin 8) (v : Word)
  /-- BTH_RESET_WRITE (R320): Resets the selected berths. -/
  | bthResetWrite (acc : Access) (v : Word)
  /-- LKP_IDENT_WRITE (R294): Changes the device identity and makes the active policy inactive. -/
  | lkpIdentWrite (acc : Access) (v : Word)
  /-- SERVO_PERIOD (R334): Each axis applies posts, reads feedback, evaluates faults and obstacles and runs its controllers. -/
  | servoPeriod (upTo : Fin 8) (uncorrectable : Bool)
  /-- RELEASE_MARKER (R360): A release marker ends the post list of a release and ends mailbox silence. -/
  | releaseMarker (atNs : Nat)
  /-- ENABLE (R342): Enables a DISABLED axis after its configuration checks. -/
  | enable (a b c : Word)
  /-- DISABLE (R338): Disables an axis at once. -/
  | disable (a b c : Word)
  /-- STOP (R341): Stops an axis at a_stop. -/
  | stop (a b c : Word)
  /-- HOME (R358): Starts the homing procedure. -/
  | home (a b c : Word)
  /-- CLEAR (R341): Clears FAULT to DISABLED, or clears the obstacle latch. -/
  | clear (a b c : Word)
  /-- SETPOS (R341): Sets the origin so that the actual position equals c. -/
  | setpos (a b c : Word)
  /-- RUN (R347): Starts a segment run, or a stop first when the target is behind. -/
  | run (a b c : Word)
  /-- GRUN (R349): Starts a coordinated group run. -/
  | grun (posts : List (Word × Word × Word))
  /-- ENABLING_COMPLETE (R338): After 16 fault-free periods the axis enters HOLDING. -/
  | enablingComplete (n : Fin 32)
  /-- SEGMENT_END (R345): A segment's duration expires and the next segment is entered. -/
  | segmentEnd (n : Fin 32)
  /-- RUN_COMPLETE (R348): The last segment ends; the axis holds, or stops at non-zero velocity. -/
  | runComplete (n : Fin 32)
  /-- STOP_COMPLETE (R338): The velocity setpoint reaches 0 and the axis holds or starts its pending run. -/
  | stopComplete (n : Fin 32)
  /-- OBSTACLE (R356): An obstacle criterion is met, and the axis stops at a_obs and enters OBSTACLE. -/
  | obstacle (n : Fin 32)
  /-- REVERSAL_COMPLETE (R356): The move back ends and the axis holds. -/
  | reversalComplete (n : Fin 32)
  /-- HOMING_REFERENCE (R358): The switch release or index sets the origin and homing completes. -/
  | homingReference (n : Fin 32)
  /-- HOMING_CHATTER_ABORT (R359): Switch changes beyond the chatter limit abort homing. -/
  | homingChatterAbort (n : Fin 32)
  /-- SD_STREAM_STUCK (R329): A bit stream unchanged for 64 edges faults the sample. -/
  | sdStreamStuck (n : Fin 32) (phaseB : Bool)
  /-- SDCLK_FAULT (R330): An SDCLKg readback mismatch at 8 edges faults the whole axis group. -/
  | sdclkFault (g : Fin 4)
  /-- MAILBOX_SILENT (R360): No marker within 2P + 1 ms disables every enabled axis. -/
  | mailboxSilent (atNs : Nat)
  /-- MOT_TEST_END (R362): MOT_TEST kind 0 ends the test. -/
  | motTestEnd (acc : Access) (n : Fin 32)
  /-- MOT_TEST_ENABLE_HOLD (R362): MOT_TEST kind 1 enables and holds the axis. -/
  | motTestEnableHold (acc : Access) (n : Fin 32)
  /-- MOT_TEST_JOG_POSITIVE (R362): MOT_TEST kind 2 jogs in the positive direction. -/
  | motTestJogPositive (acc : Access) (n : Fin 32)
  /-- MOT_TEST_JOG_NEGATIVE (R362): MOT_TEST kind 3 jogs in the negative direction. -/
  | motTestJogNegative (acc : Access) (n : Fin 32)
  /-- MOT_TEST_HOME (R362): MOT_TEST kind 4 homes the axis. -/
  | motTestHome (acc : Access) (n : Fin 32)
  /-- MOT_TEST_NOT_RENEWED (R362): A test not rewritten within 500 ms stops and disables the axis. -/
  | motTestNotRenewed (n : Fin 32) (atNs : Nat)
  /-- QUADRATURE_STEP (R366): A filtered A/B change counts a step or a quadrature error. -/
  | quadratureStep (n : Fin 32) (a b : Bool) (atNs : Nat)
  /-- HALL_CODE_CHANGE (R367): A filtered Hall code change counts a step, a jump or an impossible state. -/
  | hallCodeChange (n : Fin 32) (code : Fin 8) (atNs : Nat)
  /-- INDEX_LATCH (R370): The index input latches the count. -/
  | indexLatch (n : Fin 32) (level : Bool) (atNs : Nat)
  /-- ERROR_LEVEL_DECAY (R373): Every 100 ms the error level falls by 1. -/
  | errorLevelDecay
  /-- PC_CLEAR (R374): MAINTAIN clears the latched invalid state of channels. -/
  | pcClear (acc : Access) (mask : Word)
  /-- PC_CONFIG_WRITE (R375): A write to FBK_PC_CFG or FBK_PC_LINES restarts the channel from first use. -/
  | pcConfigWrite (acc : Access) (n : Fin 32) (lines : Bool) (v : Word)
  /-- FREQUENCY_GATE_END (R377): A gate ends, v_f is computed and the speed mode may change. -/
  | frequencyGateEnd (n : Fin 32)
  /-- ZERO_SPEED_TIMEOUT (R379): With no edge for t_zero, the reported speed becomes 0. -/
  | zeroSpeedTimeout (n : Fin 32) (atNs : Nat)
  /-- STANDSTILL_ASSERT (R383): A detector asserts standstill after t_ss within creep. -/
  | standstillAssert (k : Fin 8) (atNs : Nat)
  /-- HEAD_SAMPLE_TIMEOUT (R385): No new sample within 1 ms makes the head not ready. -/
  | headSampleTimeout (k : Fin 16) (atNs : Nat)
  /-- HEAD_READY (R387): Both systems free for 500 ms make the head ready in IDLE. -/
  | headReady (k : Fin 16) (atNs : Nat)
  /-- WC_CLEAR (R388): MAINTAIN clears a head's axle counters. -/
  | wcClear (acc : Access) (mask : Word)
  /-- WC_CONFIG_WRITE (R387): A write to FBK_WC_CFG makes the head not ready and disturbs its sections. -/
  | wcConfigWrite (acc : Access) (k : Fin 16) (v : Word)
  /-- SEC_CONFIG_WRITE (R391): A write to FBK_SEC_CFG disturbs the section. -/
  | secConfigWrite (acc : Access) (k : Fin 16) (v : Word)
  /-- SECTION_RESET (R392): RESET sets a section CLEAR with occupancy 0. -/
  | sectionReset (a b c : Word) (excess : Bool)
  /-- RESTORE (R392): RESTORE sets a section RESTORING with occupancy 0. -/
  | restore (a b c : Word) (excess : Bool)
  /-- DISTURB (R392): DISTURB sets a section DISTURBED with cause 10. -/
  | disturb (a b c : Word)
  /-- EO_ENABLE (R394): Enabling an emulation output resets its count and takes the source as reference. -/
  | eoEnable (acc : Access) (e : Fin 8) (v : Word)
  /-- EO_OUTPUT_STEP (R396): The output emits one quadrature step of its pending count. -/
  | eoOutputStep (e : Fin 8) (atNs : Nat)
  /-- FIELD_LINK_OUTBOUND_FRAME (R402): Every 25 µs an outbound frame carries states, commands and configuration. -/
  | fieldLinkOutboundFrame (f : Fin 4) (atNs : Nat) (bad : Bool)
  /-- FIELD_LINK_INBOUND_FRAME (R402): The controller receives a block frame, or discards it on a CRC error. -/
  | fieldLinkInboundFrame (f : Fin 4) (atNs : Nat) (bad : Bool) (vfield : Nat) (temp : BitVec 16) (ls : List Nat) (loops : List (Nat × Nat)) (hot : Word)
  /-- FIELD_BLOCK_SILENT (R406): No valid inbound frame for 1 ms marks the block silent and resets it. -/
  | fieldBlockSilent (f : Fin 4) (atNs : Nat)
  /-- FCLK_DEVIATION (R407): FCLKn beyond ±5 % forces the fail-safe states. -/
  | fclkDeviation (f : Fin 4)
  /-- SERIAL_WATCHDOG_EXPIRY (R409): No valid outbound frame for t_wd forces every channel to its fail-safe state. -/
  | serialWatchdogExpiry (f : Fin 4) (atNs : Nat)
  /-- TRIP_LINE_LOW (R410): A low trip line switches safety-marked channels off and latches the trip. -/
  | tripLineLow (f : Fin 4)
  /-- FIELD_BLOCK_RESET (R413): The block holds its fail-safe states, clears its state and is reconfigured. -/
  | fieldBlockReset (f : Fin 4)
  /-- LINK_CHECK_PASSED (R413): The block rejoins, ending its forcing and trip latch. -/
  | linkCheckPassed (f : Fin 4) (atNs : Nat)
  /-- LINK_CHECK_TIMEOUT (R413): A link check not passed within 10 ms isolates the block. -/
  | linkCheckTimeout (f : Fin 4) (atNs : Nat)
  /-- VFIELD_UNDERVOLTAGE (R423): Two low measurements switch the switches and DIO outputs off. -/
  | vfieldUndervoltage (f : Fin 4)
  /-- VFIELD_RESTORED (R423): VFIELDn above the restart threshold for 10 ms restores the outputs. -/
  | vfieldRestored (f : Fin 4)
  /-- DIO_INPUT_LEVEL_CHANGE (R415): A raw input held for the filter time takes its new filtered level. -/
  | dioInputLevelChange (f : Fin 4) (c : Fin 24) (level : Bool) (atNs : Nat)
  /-- WIRE_BREAK_SET (R416): Current below 0.20 mA for 50 ms sets the wire-break flag. -/
  | wireBreakSet (f : Fin 4) (c : Fin 24)
  /-- WIRE_BREAK_CLEAR (R416): Current of 0.35 mA for 50 ms clears the wire-break flag. -/
  | wireBreakClear (f : Fin 4) (c : Fin 24)
  /-- DIO_OVERLOAD (R418): An output at its current limit for 100 µs is driven low and latched. -/
  | dioOverload (f : Fin 4) (c : Fin 24)
  /-- DIO_OVER_TEMPERATURE (R418): A driver junction at 150 °C latches the output low. -/
  | dioOverTemperature (f : Fin 4) (c : Fin 24)
  /-- OPEN_WIRE_SET (R418): An output current below 1 mA for 20 ms sets the open-wire flag. -/
  | openWireSet (f : Fin 4) (c : Fin 24)
  /-- OPEN_WIRE_CLEAR (R418): An output current of 1 mA for 20 ms clears the open-wire flag. -/
  | openWireClear (f : Fin 4) (c : Fin 24)
  /-- DIO_DIAG_CLEAR_WRITE (R418): A MAINTAIN write of FLD_DIO_DIAG clears latched diagnostics. -/
  | dioDiagClearWrite (acc : Access) (f k : Fin 4) (v : Word)
  /-- TWO_CHANNEL_CHECK_SAMPLE (R419): Every 250 µs a two-channel pair counts discrepancy and latches or re-arms. -/
  | twoChannelCheckSample (f : Fin 4) (atNs : Nat)
  /-- PAIR_CONFIG_WRITE (R419): A write to FLD_PAIR_CFG restarts the pair unarmed. -/
  | pairConfigWrite (acc : Access) (f : Fin 4) (j : Fin 12) (v : Word)
  /-- LOAD_SWITCH_INRUSH_END (R423): The inrush window ends and the switch enters ON. -/
  | loadSwitchInrushEnd (f : Fin 4) (i : Fin 8) (atNs : Nat)
  /-- LOAD_SWITCH_CURRENT_LIMIT (R423): A switch at its normal limit enters LIMIT. -/
  | loadSwitchCurrentLimit (f : Fin 4) (i : Fin 8)
  /-- LIMIT_RECOVERY (R423): Current below the limit for 100 µs returns the switch to ON. -/
  | limitRecovery (f : Fin 4) (i : Fin 8)
  /-- THERMAL_SHUTDOWN (R424): A switch at thermal shutdown enters COOLING or LATCHED. -/
  | thermalShutdown (f : Fin 4) (i : Fin 8)
  /-- COOLING_RESTART (R423): A cooled switch with demand 1 restarts in INRUSH. -/
  | coolingRestart (f : Fin 4) (i : Fin 8)
  /-- OPEN_LOAD_SET (R423): On for 100 ms below the open-load threshold sets the flag. -/
  | openLoadSet (f : Fin 4) (i : Fin 8) (atNs : Nat)
  /-- OPEN_LOAD_CLEAR (R423): Current above the threshold clears the open-load flag. -/
  | openLoadClear (f : Fin 4) (i : Fin 8)
  /-- RETRY_COUNT_RESET (R424): 10 s of conduction without shutdown returns u to 0. -/
  | retryCountReset (f : Fin 4) (i : Fin 8) (atNs : Nat)
  /-- SO_CHECK_SAMPLE (R429): A pair checks its feedback and moves between STARTING, ON, STOPPING and OFF. -/
  | soCheckSample (f : Fin 4) (atNs : Nat)
  /-- SO_FEEDBACK_TIMEOUT (R427): N + 1 mismatching check samples put the pair in FAULT, cause 2. -/
  | soFeedbackTimeout (f j : Fin 4)
  /-- SO_CONFIG_WRITE (R429): A pair configuration write restarts it in INTERLOCK, or disables it when out of range. -/
  | soConfigWrite (acc : Access) (f j : Fin 4) (fb : Bool) (v : Word)
  /-- TEST_PULSE_DUE (R430): A pair switch is pulsed off, postponed or skipped. -/
  | testPulseDue (f j : Fin 4) (second : Bool) (atNs : Nat)
  /-- TEST_PULSE_READBACK (R431): At w − 50 µs both outputs are read and the pulse passes or faults the pair. -/
  | testPulseReadback (f j : Fin 4) (pulsed other vfield atNs : Nat)
  /-- TEST_PULSE_END (R430): The pulse ends and the switch returns to ON. -/
  | testPulseEnd (f j : Fin 4) (atNs : Nat)
  /-- WHEEL_SYSTEM_CURRENT_LIMIT (R433): A system at its current limit for 1 ms is switched off for 100 ms. -/
  | wheelSystemCurrentLimit (f j : Fin 4) (sysB : Bool) (atNs : Nat)
  /-- WHEEL_SYSTEM_RETRY (R433): After 100 ms the system is supplied again. -/
  | wheelSystemRetry (f j : Fin 4) (sysB : Bool) (atNs : Nat)
  /-- PWM (R435): Sets the PWM period and high time of a DIO output. -/
  | pwm (f : Fin 4) (a b c : Word)
  /-- CLEAR_DIO_OUTPUT (R435): Clears the ended overload and over-temperature latches of an output. -/
  | clearDioOutput (f : Fin 4) (a b c : Word)
  /-- CLEAR_LOAD_SWITCH (R435): Clears a load switch under R423 and R424. -/
  | clearLoadSwitch (f : Fin 4) (a b c : Word)
  /-- CLEAR_PAIR (R435): Moves a faulted pair with demand 0 to OFF. -/
  | clearPair (f : Fin 4) (a b c dem : Word)
  /-- FLD_TEST_WRITE (R438): A MAINTAIN test switches one field channel in COMMISSION. -/
  | fldTestWrite (acc : Access) (v : Word)
  /-- FLD_TEST_NOT_RENEWED (R438): A test not rewritten within 500 ms ends. -/
  | fldTestNotRenewed (atNs : Nat)
  /-- RECORD_WRITTEN (R444): A record's header, payload and tail are programmed and valid in the flacon. -/
  | recordWritten (unitFails : Bool)
  /-- CHECKPOINT (R447): After 4,095 records, or at HOLD or STABLED, a CHECKPOINT record is written. -/
  | checkpoint
  /-- CHECKPOINT_SIGNED (R448): The lock-keeper completes a checkpoint signature. -/
  | checkpointSigned
  /-- LOST_RECORD (R451): With 64 KiB free, a LOST record accounts the lost records. -/
  | lostRecord
  /-- JOURNAL_STORE_FAULT (R452): A store fault stops the journal and may lead to HOLD. -/
  | journalStoreFault
  /-- FLACON_SCAN_COMPLETE (R455): The scan finds the last valid record and the BOOT record is written. -/
  | flaconScanComplete (atNs : Nat)
  /-- UNIT_ERASED (R466): A re-arm unit is erased and a full flacon resumes. -/
  | unitErased (fails : Bool)
  /-- PROGRAM_RECORD_SLOT (R459): A slot of kind 1 forms a PROGRAM record. -/
  | programRecordSlot (slot : Fin 512) (w0 w1 w2 w3 : Word) (late : Bool)
  /-- DOOR_CYCLE_SLOT (R461): A slot of kind 2 forms a DOOR_CYCLE record and clears accumulators. -/
  | doorCycleSlot (slot : Fin 512) (w0 w1 w2 w3 : Word) (late : Bool)
  /-- METRIC_SAMPLE_SLOT (R470): A slot of kind 3 applies a sample to a program metric. -/
  | metricSampleSlot (slot : Fin 512) (w0 w1 w2 w3 : Word) (late : Bool)
  /-- STATISTICS_PERSIST (R472): A statistics frame is appended each persistence period. -/
  | statisticsPersist (atNs : Nat)
  /-- METRIC_CLEAR (R473): MAINTAIN clears one metric. -/
  | metricClear (acc : Access) (v : Word)
  /-- METRIC_LATCH_READ (R475): A read of word 32 latches the metric's words for the requester. -/
  | metricLatchRead (acc : Access) (m : Fin 4096)
  /-- LATCHING_LOW_WORD_READ (R44): A read of the low word of a split time value latches its other words. -/
  | latchingLowWordRead (acc : Access) (addr : Word)
  /-- RC_FIELD_READ (R16): A permitted read clears the register's RC fields. -/
  | rcFieldRead (acc : Access) (addr : Word)
  /-- EVENT_EDGE (R492): A source edge joins its batch and may make the source pending. -/
  | eventEdge (src : Fin 255) (merge : Bool) (atNs : Nat)
  /-- GATHER_TIME_LIMIT (R492): A gathering batch becomes pending at its time limit. -/
  | gatherTimeLimit (src : Fin 255) (atNs : Nat)
  /-- EVENT_PRESENTATION (R500): A pending request is presented, the frame saved and the source claimed. -/
  | eventPresentation (c : Fin 4) (toClaim tail : Bool)
  /-- SERVICE_WATCHDOG_EXPIRY (R489): A core's watchdog expires, a fatal exception that resets the core. -/
  | serviceWatchdogExpiry (c : Fin 4) (atNs : Nat)
  /-- SERVICE_TIMER_EXPIRY (R507): A service timer expires, raises its source and restarts or stops. -/
  | serviceTimerExpiry (t : Fin 7) (atNs : Nat)
  /-- STMR_ENABLE_WRITE (R507): A write of enable starts or stops a service timer. -/
  | stmrEnableWrite (acc : Access) (t : Fin 7) (v : Word)
  /-- EVC_PEND_WRITE (R493): Clears a source's pending and batch state. -/
  | evcPendWrite (acc : Access) (k : Fin 8) (v : Word)
  /-- EVC_RAISE_WRITE (R493): Acts as one edge of a source. -/
  | evcRaiseWrite (acc : Access) (k : Fin 8) (v : Word)
  /-- SOURCE_ENABLE_WRITE (R509): Enabling or disabling a source sets or clears its state, with wake-latched pending. -/
  | sourceEnableWrite (acc : Access) (src : Fin 255) (v : Word)
  /-- GDIS_WRITE (R494): Global disable withdraws presentations and stops delivery. -/
  | gdisWrite (acc : Access) (v : Word)
  /-- EVC_TEST_WRITE (R496): The lock-keeper forces the fixed order. -/
  | evcTestWrite (acc : Access) (v : Word)
  /-- WAKE_EDGE (R508): The watcher latches an edge of a wake-set source. -/
  | wakeEdge (k : Fin 16)
  /-- WAKEN_FALLING (R537): WAKEn falling raises wake source 5. -/
  | wakenFalling
  /-- STABLED_TIMER_EXPIRY (R537): LKP_STBL_TIMER expiry raises wake source 6. -/
  | stabledTimerExpiry
  /-- UART_K_START_BIT (R537): A start bit on UART_K in STABLED raises wake source 7. -/
  | uartKStartBit
  /-- FB0_WAKE_INPUT (R537): An FB0 wake input reaching its active level raises a source 8 to 11. -/
  | fb0WakeInput (w : Fin 4)
  /-- STABLED_WAKE (R537): A write of LKP_STBL.wake on BTH0 raises wake source 7. -/
  | stabledWake (acc : Access)
  /-- WAKE (R538): A pending wake bit powers the logic die and runs BOOT from S3. -/
  | wake (aclk : Nat)
  /-- STABLED_REQUEST (R535): MAINTAIN requests STABLED. -/
  | stabledRequest (acc : Access)
  /-- STABLED_ENTRY (R536): At the end of the next released cycle the request is accepted or refused, and STABLED is entered. -/
  | stabledEntry
  /-- TEMPERATURE_SAMPLE (R513): Each 1 ms the sensors are sampled, and warnings or limits act. -/
  | temperatureSample (atNs : Nat) (readings : List (BitVec 16))
  /-- VOLTAGE_EXCURSION (R514): A rail outside its window is recorded and acted on. -/
  | voltageExcursion (v : Fin 16) (mv : BitVec 16)
  /-- SENSOR_SUMMARY (R516): Every 10 minutes a sensor summary is written. -/
  | sensorSummary (atNs : Nat)
  /-- KEEPER_WATCHDOG_EXPIRY (R512): The keeper watchdog expires, restarting the core, asserting the trip lines and entering HOLD. -/
  | keeperWatchdogExpiry
  /-- CLOCK_MONITOR_OUT_OF_RANGE (R39): A monitored clock leaves its range and its action applies. -/
  | clockMonitorOutOfRange (n : Fin 8)
  /-- CLOCK_BACK_IN_RANGE (R39): NCLK or PCLK returns, and the network reinitialises or the berths reset. -/
  | clockBackInRange (n : Fin 8)
  /-- REGION_REINIT_COMPLETE (R30): A reinitialisation completes and the region starts from first use. -/
  | regionReinitComplete (region : Fin 7) (atNs : Nat)
  /-- REGION_REINIT_TIMEOUT (R30): A reinitialisation exceeding its bound leads to HOLD. -/
  | regionReinitTimeout (region : Fin 7) (atNs : Nat)
  /-- HOLD_ENTRY (R518): The module stops the sequencer, forces LIVE low, pulls the trip lines, disables the axes and drains. -/
  | holdEntry (cause : BitVec 16)
  /-- BOOT (R521): BOOT runs its stages from reset to the mode decision. -/
  | boot (r : BootRun)
  /-- BOOT_STAGE_TIMEOUT (R521): A stage exceeding its Max time ends BOOT in HOLD. -/
  | bootStageTimeout (n : Fin 11) (atNs : Nat)
  /-- CMSN_LEVEL_CHANGE (R519): A counted CMSN change ends COMMISSION or is recorded. -/
  | cmsnLevelChange (level : Bool)
  /-- POWER_ON_RESET (R525): A power-on reset resets the whole module. -/
  | powerOnReset (loss : StoreLoss)
  /-- PORN_LOW (R525): PORn low resets the whole module. -/
  | pornLow (loss : StoreLoss)
  /-- RAIL_NOT_GOOD (R523): A rail leaving its window isolates its domain boundary. -/
  | railNotGood (v : Fin 16) (loss : StoreLoss)
  /-- LOCK_KEEPER_COMMAND_RESET (R525): LKP_RESET.whole requests a whole-module reset. -/
  | lockKeeperCommandReset (acc : Access)
  /-- LOGIC_REGION_RESET (R525): LKP_RESET.logic requests a logic-region reset through HOLD. -/
  | logicRegionReset (acc : Access)
  /-- FIELD_BLOCK_RESET_REQUEST (R525): LKP_RESET.field requests a field-block reset. -/
  | fieldBlockResetRequest (acc : Access) (blocks : BitVec 4)
  /-- SETTINGS_COMMIT (R528): ENGINEER persists the working copy as a settings record. -/
  | settingsCommit (acc : Access)
  /-- ACT_PROG (R531): Activates the staged program image. -/
  | actProg (acc : Access)
  /-- ACT_LKFW (R531): Sets the staged lock-keeper firmware to trial and resets. -/
  | actLkfw (acc : Access)
  /-- ACT_SVFW (R531): Sets the staged service firmware to trial and resets. -/
  | actSvfw (acc : Access)
  /-- UPDATE_DISCARD (R529): Marks every staged slot empty. -/
  | updateDiscard (acc : Access)
  /-- WALL_TIME_STAGE_LO (R43): MAINTAIN stages seconds[31:0]. -/
  | wallTimeStageLo (acc : Access) (v : Word)
  /-- WALL_TIME_STAGE_HI (R43): MAINTAIN stages seconds[47:32]. -/
  | wallTimeStageHi (acc : Access) (v : Word)
  /-- WALL_TIME_SET (R43): A write of ns applies the staged time and sets valid. -/
  | wallTimeSet (acc : Access) (v : Word)
  /-- SNAP_BALL_EDGE (R45): A SNAP rising edge triggers a snapshot when enabled. -/
  | snapBallEdge (atNs : Nat)
  /-- SNAPSHOT_TRIGGER_COMMAND (R45): The lock-keeper triggers a snapshot through SNP_CTRL.trig. -/
  | snapshotTriggerCommand (acc : Access)
  /-- SNAPSHOT_RELEASE (R49): Releases the held snapshot and clears missed and overwritten. -/
  | snapshotRelease (acc : Access)
  /-- SNAPSHOT_COPIED (R50): The lock-keeper copies the snapshot into the keeper log. -/
  | snapshotCopied
  /-- SNAPSHOT_FB_TIMEOUT (R50): Field-block words missing after 10 ms are recorded with 0x9122. -/
  | snapshotFbTimeout (atNs : Nat)
  /-- CONTROL_REGISTER_WRITE (R542): A write to a register with no row of its own is judged field by field. -/
  | controlRegisterWrite (acc : Access) (addr v : Word)
  /-- BLOCK_LOCK_ACQUIRED (R210): A towpath receiver gains Clause 49 block lock, and the link moves from down to the HELLO exchange. -/
  | blockLockAcquired (p : Fin 2)
  /-- RAIL_BACK_IN_WINDOW (R514): A supply rail returns within its window; for example, after a VDD_SD09 or VDD_SD18 excursion the network region is reinitialised. -/
  | railBackInWindow (v : Fin 16) (mv : BitVec 16)
  /-- CARRIER_PERIOD (R352): At each PWM carrier period start, new high times take effect, the quiet-mode phase command and brake chopper duty are computed, and a pending quiet/strong change applies. -/
  | carrierPeriod (n : Fin 32) (bitsA bitsB : List Bool) (atNs : Nat)
  /-- CHOPPER_CROSSING (R353): In strong mode, after blanking, the sinc2 current first crosses |i*| and the phase switches to slow or fast decay for the rest of the carrier period. -/
  | chopperCrossing (n : Fin 32) (ph : Fin 3) (bitsA bitsB : List Bool) (atNs : Nat)
  /-- SKEW_STALL_END (R186): Heart or Base, stalled at its 64-CCLK skew limit behind the preceding pass, may issue again. -/
  | skewStallEnd (core : Fin 64) (pass : Pass)
  /-- DUAL_RAIL_MISMATCH (R188): The dual-rail checker finds a non-complementary rail pair, or A and B verdicts that differ, on a lane in a CCLK cycle, which is an accord failure with 0x1313. -/
  | dualRailMismatch (k : Fin 8) (lane : Fin 8) (kind : RailFault)
  /-- SEALER_ENGINE_FAULT (R28): A fault of the Yala sealer/checker or AES-GCM engine sends every connection to SAFE and reinitialises the network region. -/
  | sealerEngineFault
  /-- FEEDBACK_UNCORRECTABLE_ERROR (R375): An uncorrectable error in the feedback region's counter or configuration state reinitialises the region with 0x3060. -/
  | feedbackUncorrectableError
  /-- TRAINING_OR_NEGOTIATION_FAILED (R252): Clause 72 training or Clause 73 negotiation on N0 or N1 fails, 0x5002 is recorded, and the port stays down. -/
  | trainingOrNegotiationFailed (p : Fin 4)
  deriving DecidableEq, Repr

end Sys2Proof
end

