-- ==== Sys2Proof/Decode.lean ====
section
/-!
DEFINITION. The table of operations and events gives no row any bits: no word spells a command. The words of PROG and of the service
SRAM do spell KIS instructions, by the formats of R137 (R136 to R139, R162 to R176, R480).
-/
namespace Sys2Proof

/-- The command that a word spells by the table's bits: none, since no row of the table has bits. -/
def decodeTableWord (_nbits _w : Nat) : Option Instr := none

namespace KisWord

/-! ### The fields of R137 -/

/-- Bits [hi:lo] of a word. -/
def field (hi lo : Nat) (w : Word) : Nat := w.toNat / 2 ^ lo % 2 ^ (hi - lo + 1)

/-- The major opcode (R136). -/
def op (w : Word) : Nat := field 31 26 w

/-- A five-bit field whose lowest bit is `lo`. -/
def five (lo : Nat) (w : Word) : Reg := Fin.ofNat 32 (w.toNat / 2 ^ lo)

/-- rd or rt; ra; rb, pos, sh or rc; wm1. -/
def rd (w : Word) : Reg := five 21 w
def ra (w : Word) : Reg := five 16 w
def rb (w : Word) : Reg := five 11 w
def wm1 (w : Word) : Reg := five 6 w

/-- imm or disp of 16 bits; off of 13 bits; disp of 26 bits; sr of 10 bits. -/
def imm (w : Word) : BitVec 16 := w.setWidth 16
def off (w : Word) : BitVec 13 := w.setWidth 13
def disp (w : Word) : BitVec 26 := w.setWidth 26
def sr (w : Word) : BitVec 10 := w.setWidth 10

/-- The space that sp names (R153). -/
def space (w : Word) : Space :=
  match field 15 13 w with
  | 0 => .stateOld | 1 => .stateNew | 2 => .param | 3 => .imageIn | 4 => .inbox | 5 => .imageOut | 6 => .outbox | _ => .scratch

/-! ### The formats -/

/-- Opcode 0x01, format A (R145). -/
def alu (i : Issue) (w : Word) : Option Instr :=
  if field 10 5 w ≠ 0 then none
  else match field 4 0 w with
    | 0 => some (.add i (rd w) (ra w) (rb w)) | 1 => some (.sub i (rd w) (ra w) (rb w)) | 2 => some (.andOp i (rd w) (ra w) (rb w))
    | 3 => some (.orOp i (rd w) (ra w) (rb w)) | 4 => some (.xorOp i (rd w) (ra w) (rb w)) | 5 => some (.andn i (rd w) (ra w) (rb w))
    | 6 => some (.orn i (rd w) (ra w) (rb w)) | 7 => some (.sll i (rd w) (ra w) (rb w)) | 8 => some (.srl i (rd w) (ra w) (rb w))
    | 9 => some (.sra i (rd w) (ra w) (rb w)) | 10 => some (.mul i (rd w) (ra w) (rb w)) | 11 => some (.divu i (rd w) (ra w) (rb w))
    | 12 => some (.remu i (rd w) (ra w) (rb w)) | 13 => some (.minu i (rd w) (ra w) (rb w)) | 14 => some (.maxu i (rd w) (ra w) (rb w))
    | 15 => some (.minOp i (rd w) (ra w) (rb w)) | 16 => some (.maxOp i (rd w) (ra w) (rb w)) | 17 => some (.sltu i (rd w) (ra w) (rb w))
    | 18 => some (.slt i (rd w) (ra w) (rb w))
    | _ => none

/-- Opcode 0x02, format A (R150): POPC, FFS and CLRLS take no rb. -/
def vector (i : Issue) (w : Word) : Option Instr :=
  let one := fun (x : Instr) => if rb w = 0 then some x else none
  if field 10 5 w ≠ 0 then none
  else match field 4 0 w with
    | 0 => some (.tall i (rd w) (ra w) (rb w)) | 1 => some (.tany i (rd w) (ra w) (rb w)) | 2 => some (.tnone i (rd w) (ra w) (rb w))
    | 3 => some (.msel i (rd w) (ra w) (rb w)) | 4 => one (.popc i (rd w) (ra w)) | 5 => one (.ffs i (rd w) (ra w))
    | 6 => one (.clrls i (rd w) (ra w)) | 7 => some (.bmaj i (rd w) (ra w) (rb w))
    | _ => none

/-- Opcode 0x03, format F (R149): a field that ends above bit 31 is invalid. -/
def bitField (i : Issue) (w : Word) : Option Instr :=
  if field 5 2 w ≠ 0 ∨ 32 < (rb w).val + (wm1 w).val + 1 then none
  else match field 1 0 w with
    | 0 => some (.ext i (rd w) (ra w) (rb w) (wm1 w)) | 1 => some (.exts i (rd w) (ra w) (rb w) (wm1 w))
    | 2 => some (.ins i (rd w) (ra w) (rb w) (wm1 w))
    | _ => none

/-- Opcode 0x09, format S (R147). -/
def shift (i : Issue) (w : Word) : Option Instr :=
  if field 10 2 w ≠ 0 then none
  else match field 1 0 w with
    | 0 => some (.slli i (rd w) (ra w) (rb w)) | 1 => some (.srli i (rd w) (ra w) (rb w)) | 2 => some (.srai i (rd w) (ra w) (rb w))
    | _ => none

/-- Opcode 0x0A, format Y (R148). -/
def special (i : Issue) (w : Word) : Option Instr :=
  if field 20 2 w ≠ 0 then none
  else match field 1 0 w with
    | 0 => some (.movs i (rd w) .obj) | 1 => some (.movs i (rd w) .typ) | 2 => some (.movs i (rd w) .cyc)
    | _ => none

/-- Opcodes 0x01 to 0x1C, which both profiles hold (R138). `ecc`: what SECDED reports of the word a load meets. -/
def common (i : Issue) (ecc : Ecc) (w : Word) : Option Instr :=
  match op w with
  | 0x01 => alu i w
  | 0x02 => vector i w
  | 0x03 => bitField i w
  | 0x04 => some (.addi i (rd w) (ra w) (imm w))
  | 0x05 => some (.andi i (rd w) (ra w) (imm w))
  | 0x06 => some (.ori i (rd w) (ra w) (imm w))
  | 0x07 => some (.xori i (rd w) (ra w) (imm w))
  | 0x08 => if ra w = 0 then some (.lui i (rd w) (imm w)) else none
  | 0x09 => shift i w
  | 0x0A => special i w
  | 0x10 => some (.ld i (rd w) (space w) (ra w) (off w) ecc)
  | 0x11 => some (.st i (rd w) (space w) (ra w) (off w))
  | 0x14 => some (.beq i (rd w) (ra w) (imm w))
  | 0x15 => some (.bne i (rd w) (ra w) (imm w))
  | 0x16 => some (.blt i (rd w) (ra w) (imm w))
  | 0x17 => some (.bge i (rd w) (ra w) (imm w))
  | 0x18 => some (.bltu i (rd w) (ra w) (imm w))
  | 0x19 => some (.bgeu i (rd w) (ra w) (imm w))
  | 0x1A => some (.bbs i (rd w) (ra w) (imm w))
  | 0x1B => some (.bbc i (rd w) (ra w) (imm w))
  | 0x1C => some (.jump i (disp w))
  | _ => none

/-- Opcode 0x25, format T (R165): TSTART and TSTOP take no rd. -/
def timer (i : Issue) (w : Word) : Option Instr :=
  if field 15 2 w ≠ 0 then none
  else match field 1 0 w with
    | 0 => if rd w = 0 then some (.tstart i (ra w)) else none
    | 1 => if rd w = 0 then some (.tstop i (ra w)) else none
    | 2 => some (.ttest i (rd w) (ra w))
    | _ => none

/-- Opcodes 0x20 to 0x28, which logic cores alone hold (R159 to R172). The imm field of SEG must be 0 (R163). -/
def logicOnly (i : Issue) (ecc : Ecc) (w : Word) : Option Instr :=
  let control := fun (x : Instr) => if field 25 16 w = 0 then some x else none
  match op w with
  | 0x20 => control (.oloop i (imm w))
  | 0x21 => control (.onext i [ecc])
  | 0x22 => control (.endc i)
  | 0x23 => if imm w = 0 then control (.seg i) else none
  | 0x24 => control (.assertOp i (imm w))
  | 0x25 => timer i w
  | 0x26 =>
    if field 10 3 w ≠ 0 then none
    else some (.scode i (rd w) (ra w) (rb w) { kasami := w.getLsbD 0, fromInbox := w.getLsbD 1, receiving := w.getLsbD 2 } ecc)
  | 0x27 => if field 10 0 w = 0 then some (.mcmd i (rd w) (ra w) (rb w)) else none
  | 0x28 => if field 10 0 w = 0 then some (.fset i (rd w) (ra w) (rb w)) else none
  | _ => none

/-- Opcodes 0x30 to 0x36, which service cores alone hold (R174); a system register that R480 does not list is invalid. -/
def serviceOnly (i : Issue) (w : Word) : Option Instr :=
  match op w with
  | 0x30 =>
    if field 25 16 w ≠ 0 then none
    else match field 15 0 w with
      | 0 => some (.eret i) | 1 => some (.di i) | 2 => some (.ei i) | 3 => some (.wfe i)
      | _ => none
  | 0x31 => if field 20 10 w ≠ 0 ∨ 11 < field 9 0 w then none else some (.mfsr i (rd w) (sr w))
  | 0x32 =>
    if field 25 21 w ≠ 0 ∨ field 15 10 w ≠ 0 then none
    else match field 9 0 w with
      | 6 => some (.eoiWrite i (ra w))
      | 9 => some (.wdkickWrite i (ra w))
      | n => if 11 < n then none else some (.mtsr i (ra w) (sr w))
  | 0x33 => some (.ldc i (rd w) (ra w) (imm w))
  | 0x34 => some (.stc i (rd w) (ra w) (imm w))
  | 0x35 =>
    if field 10 5 w ≠ 0 then none
    else match field 4 0 w with
      | 0 => some (.mpuw i (ra w) (rb w)) | 1 => some (.mpur i (rd w) (ra w)) | 2 => some (.mpusync i)
      | _ => none
  | 0x36 => if field 25 16 w = 0 then some (.trap i (imm w)) else none
  | _ => none

/-- In the service profile LD and ST accept sp 7 alone (R175). -/
def serviceSpace (w : Word) : Bool := (op w != 0x10 && op w != 0x11) || field 15 13 w == 7

end KisWord

/-- The instruction that the word `w` spells in the context of `i`; `none` for a word that is an invalid encoding there by its own bits
(R136 to R139, R173). `ecc`: what SECDED reports of the word that a load meets. -/
def kisDecode (i : Issue) (ecc : Ecc) (w : Word) : Option Instr :=
  let joined := match KisWord.common i ecc w with | some x => some x | none => KisWord.logicOnly i ecc w
  match i.ctx with
  | .joined _ _ => joined
  | .split _ _ => joined
  | .service _ =>
    if KisWord.serviceSpace w then (match KisWord.common i ecc w with | some x => some x | none => KisWord.serviceOnly i w) else none

end Sys2Proof
end

