-- ==== Sys2Proof/Config.lean ====
section
/-!
DEFINITION. What the module's options fix, and the free values: constants without a body for what the spec leaves open.
-/
namespace Sys2Proof.Config

/-- FREE VALUE. The bits the spec leaves open, drawn by the state's counter `free`: a nonce, a signature, an undefined
register, a value between two bounds. No body, so nothing can be proved of it (log entry 3). -/
opaque freeBits (w : Nat) (draw : Nat) : BitVec w

/-- FREE VALUE. The code of `amp` times the cosine of num / den of a revolution: its rounding is not stated (R575, R352; log
entry 3). -/
opaque cosCode (amp num den : Int) : Int

/-- FREE VALUE. How far the DTIME replica of clock domain `domain` stands from DTIME at `ns`, in ns; `State.replica` holds it to
the bound of R40 (log entry 86). -/
opaque replicaError (domain ns : Nat) : Int

/-- Bytes of the logic SRAM (R97, R574). -/
def sramBytes : Nat := 0x0400_0000

/-- Words of the service SRAM (R175). -/
def svcSramWords : Nat := 2_097_152

/-- Entries of a lock chamber (R181). -/
def chamberEntries : Nat := 512

/-- Entries of the private store queue of Heart and of Base (R183). -/
def storeQueue : Nat := 64

/-- The skew between a pass and the pass before it, in CCLK cycles (R186). -/
def skewCycles : Nat := 64

/-- Entries of the motion list and of the field list (R76). -/
def releaseList : Nat := 1024

/-- Commands of one batch (R65). -/
def batchLimit : Nat := 13_311

/-- Bytes of the journal staging buffer (R449). -/
def stagingBytes : Nat := 4 * 1024 * 1024

/-- Bytes of an erase unit of the flacon and of the keeper log (R441, R468). -/
def unitBytes : Nat := 4 * 1024 * 1024

end Sys2Proof.Config
end

