-- ==== Sys2Proof/Machine/State.lean ====
section
/-!
DEFINITION. The state of the block as plain data: every register, buffer, counter, mode and line the spec names, and the
queue of commands that wait. The default value of a field is its value after a power-on reset of a fully fitted module.
-/
namespace Sys2Proof.Machine

/-- Memory by bytes: rising addresses, no entry equal to what an unlisted address reads as (see Ops, `Memory.wf`). -/
abbrev Memory := List Host.Cell

/-- Why a command stops. -/
inductive Fault where
  /-- Raised by nothing: no command of the table stops the block. Safe: the constructor is never used. -/
  | none
  deriving DecidableEq, Repr

/-- Why a command is refused by the model. -/
inductive Refusal where
  /-- Raised by an arm of `exec` whose command has no meaning yet, with the command's name. Safe: nothing can be proved of it. -/
  | notModelled (mnemonic : String)
  deriving DecidableEq, Repr

/-- The major modes (R517). -/
inductive Mode where
  | boot | commission | run | degraded | hold | stabled
  deriving DecidableEq, Repr

/-- DTIME and the clocks derived from it (R40, R41, R43). `t6` counts sixths of a nanosecond: a CCLK cycle is five. -/
structure Time where
  t6 : Nat := 0
  /-- Wall time in ns at `wallRef`, the DTIME at which it was set (R43). -/
  wallBase : Nat := 0
  wallRef : Nat := 0
  wallValid : Bool := false
  /-- Staged seconds (R43). -/
  stageLo : BitVec 32 := 0
  stageHi : BitVec 16 := 0
  deriving DecidableEq, Repr

/-! ### The logic region: passes, accord, sequencer -/

/-- A bus output of a pass in Top form, with what the accord compares (R177, R178). -/
inductive BusOut where
  | store (sp : Space) (index : Nat) (data : Word)
  | carry (record : Nat) (data : Word)
  | timer (t : Nat) (start : Bool)
  | motion (a b c : Word)
  | field (a b c : Word)
  | exception (code : Nat) (pc : BitVec 20) (obj : BitVec 20) (acode : BitVec 16)
  deriving DecidableEq, Repr

/-- What a pass shows at a position: an output, none, or invalid (R180). A spoilt output is invalid in the vote; its pass still holds it,
and forwards it to its own loads (R144, R183). -/
inductive Val where
  | out (o : BusOut)
  | none
  | invalid
  | spoilt (o : BusOut)
  deriving DecidableEq, Repr

/-- A close record: outputs in the segment, next PC, OBJ and the register digest (R179, R180). -/
structure CloseRec where
  count : Nat
  nextPc : BitVec 20
  obj : BitVec 20
  digest : Word
  deriving DecidableEq, Repr

/-- Where a pass stands in its walk of the object list (R112): the entry code, the evaluation of the object with this
ordinal, or the list-end code. -/
inductive Place where
  | entry
  | object (ordinal : Nat)
  | listEnd
  deriving DecidableEq, Repr

/-- The registers of a pass and what a checkpoint keeps of it (R89, R195). Register contents are in the form of the pass
(R92): an unlisted register holds the form of zero. -/
structure Arch where
  regs : Tab Word := []
  poison : List Nat := []
  pc : BitVec 20 := 0
  obj : BitVec 20 := 0
  typ : BitVec 8 := 0
  place : Place := .entry
  lend : BitVec 20 := 0
  /-- Issue slots used by the current object (R113). -/
  weight : Nat := 0
  /-- Records the current evaluation has stored (R102). -/
  stored : List Nat := []
  deriving DecidableEq, Repr

/-- Whether a context issues: not started, running, stopped by its exception, or ended by ENDC (R124, R161). -/
inductive Run where
  | idle | running | excepted | ended
  deriving DecidableEq, Repr

/-- The stalls of a pass (R185 to R187). -/
inductive Stall where
  | none | chamber | queue | depth | skew
  deriving DecidableEq, Repr

/-- What a pass has put out in one segment: its outputs in order, each with the ordinal of its object, whether it
is invalid from there on, and its close record, none once closed when the record is invalid (R178 to R181). -/
structure Segment where
  seg : Nat
  outs : List (Nat × Val) := []
  bad : Bool := false
  closed : Bool := false
  /-- Closed by ENDC (R161, R197). -/
  endc : Bool := false
  record : Option CloseRec := Option.none
  deriving DecidableEq, Repr

/-- One pass context of a JOINED core. -/
structure PassCtx where
  arch : Arch := {}
  run : Run := .idle
  stall : Stall := .none
  /-- The number of the open segment (R178). -/
  seg : Nat := 0
  /-- Segments not yet closed by Base, oldest first. -/
  segs : List Segment := []
  /-- The ring of checkpoints: the segment each closes and what was kept (R195). -/
  ckpts : List (Nat × Arch) := []
  /-- The segment and the CCLK cycle of every issue slot used since Base's last close (R186). -/
  slots : List (Nat × Nat) := []
  /-- The first CCLK cycle at which the pass may issue again (R27, R141). -/
  nextSlot : Nat := 0
  /-- The register that a latency of 2 keeps back for one slot (R142). -/
  late : Option Nat := Option.none
  /-- Private words found uncorrectable: the segment, the space and the index (R197). -/
  poisoned : List (Nat × Space × Nat) := []
  deriving DecidableEq, Repr

/-- One run of objects assigned to a core: first number, count, type (R73). -/
structure ObjRun where
  first : Nat
  count : Nat
  typ : Nat
  deriving DecidableEq, Repr

/-- A logic core: its passes, its lock chamber and the accord's book-keeping (R181 to R200). -/
structure Core where
  top : PassCtx := {}
  heart : PassCtx := {}
  base : PassCtx := {}
  /-- Positions of Base's open segment that have been decided (R182). -/
  decided : Nat := 0
  /-- Passes outvoted so far in Base's open segment (R192). -/
  outvoted : List Pass := []
  /-- MCC of the most recent outvotes of each pass, newest first (R198). -/
  histTop : List Nat := []
  histHeart : List Nat := []
  histBase : List Nat := []
  outTotal : Nat := 0
  /-- Retired, and to be retired at the next cycle boundary (R199, R200). -/
  retired : Bool := false
  retiring : Bool := false
  /-- The pass code and the segment of the outvote that retires it (R198). -/
  retireBy : Nat × Nat := (0, 0)
  /-- The core's object list (R73). -/
  objs : List ObjRun := []
  /-- Committed posts of the current object: its ordinal, MCMD count, FSET count (R172). -/
  posts : Nat × Nat × Nat := (0, 0, 0)
  /-- Objects completed in this cycle (R52). -/
  completed : Nat := 0
  /-- Segments closed in this cycle by Top and by Base (R52). -/
  segTop : Nat := 0
  segBase : Nat := 0
  lastCode : Nat := 0
  deriving DecidableEq, Repr

/-- A SPLIT context (R122): registers in plain form. -/
structure SplitCtx where
  regs : Tab Word := []
  poison : List Nat := []
  pc : BitVec 20 := 0
  run : Run := .idle
  deriving DecidableEq, Repr

/-- A timer: the MCC of the cycle it was started in, while it runs, and what this cycle has ordered for the next (R115 to R117). -/
structure LTimer where
  started : Option Nat := Option.none
  next : Option (Option Nat) := Option.none
  deriving DecidableEq, Repr

/-- One entry of a release list (R172). -/
structure Post where
  a : Word
  b : Word
  c : Word
  w3 : Word
  deriving DecidableEq, Repr

/-- The phases as LGC_SEQ_STATUS gives them (R59). -/
inductive Phase where
  | capture | agree | evaluate | accordClose | release | housekeeping | waiting | notRunning
  deriving DecidableEq, Repr

/-- A type of the program image (R130). -/
structure TypeEntry where
  entry : Nat
  weight : Nat
  classes : BitVec 16
  fieldMask : BitVec 8
  axisMask : BitVec 32
  deriving DecidableEq, Repr

/-- A run of the object table (R131). -/
structure ObjectRun where
  first : Nat
  count : Nat
  typ : Nat
  cluster : Nat
  deriving DecidableEq, Repr

/-- A run of the global record table (R131). -/
structure GlobalRun where
  first : Nat
  count : Nat
  owner : Nat
  deriving DecidableEq, Repr

/-- A block of a run-block section (R133). -/
structure RunBlock where
  first : Nat
  data : List Word
  deriving DecidableEq, Repr

/-- One entry of the command table (R314). -/
structure CommandRow where
  code : Nat
  rank : Nat
  berthMask : BitVec 8
  firstType : Nat
  lastType : Nat
  deriving DecidableEq, Repr

/-- A program image as the lock-keeper holds it after its checks (R127 to R134). -/
structure Image where
  period : Nat := 10_000
  reloff : Nat := 5_000
  quantum : Nat := 16
  depth : Nat := 4
  limit : Nat := 4
  window : Nat := 1_000
  entry : Nat := 0
  modes : List Nat := []
  version : Word := 0
  buildId : List Byte := []
  progLen : Nat := 0
  prog : List Word := []
  types : Tab TypeEntry := []
  objects : List ObjectRun := []
  globals : List GlobalRun := []
  timerOwner : Tab Nat := []
  connOwner : Tab Nat := []
  stateInit : List RunBlock := []
  paramInit : List RunBlock := []
  splitEntry : List (List Nat) := []
  commands : List CommandRow := []
  /-- SHA-256 of the body (R457). -/
  hash : List Byte := []
  deriving DecidableEq, Repr

/-- The capture and release sequencer (R53 to R88) and the accord registers that are not of one core. -/
structure Seq where
  period : Nat := 10_000
  reloff : Nat := 5_000
  quantum : Nat := 16
  depth : Nat := 4
  limit : Nat := 4
  window : Nat := 1_000
  wlim : Nat := 13_107_200
  phase : Phase := .notRunning
  /-- MCC, and whether a CAPTURE has run since BOOT (R55). -/
  mcc : Nat := 0
  captured : Bool := false
  /-- DTIME of S(n), ns, and of the next cycle start (R54, R220). -/
  start : Nat := 0
  nextStart : Nat := 0
  /-- The current cycle has completed; it has overrun at D(n); HOUSEKEEPING has done its steps. -/
  complete : Bool := true
  overrun : Bool := false
  overruns : Nat := 0
  stale : Bool := false
  srcFlags : BitVec 8 := 0xFF
  /-- Sources of the CAPTURE in progress that are not fresh (R66). -/
  notFresh : BitVec 8 := 0
  inboxFill : Nat := 0
  inboxFrozen : Nat := 1
  outboxCur : Nat := 0
  /-- The buffer the sealer holds (R85). -/
  outboxHeld : Option Nat := Option.none
  batchCount : Nat := 0
  batchRefused : Nat := 0
  motionList : List Post := []
  fieldList : List Post := []
  /-- IMAGE_OUT words written in this cycle (R107). -/
  outWritten : List Nat := []
  /-- The program status words of the last released cycle (R545). -/
  statusWords : Tab Word := []
  outHash : List Byte := []
  scrubAddr : Nat := 0
  /-- Words corrected in consecutive scrub visits: count by byte offset (R28, R86). -/
  scrubHits : Tab Nat := []
  /-- Byte offsets of the words that R28 treats as uncorrectable since that count reached 16. -/
  worn : List Nat := []
  teval : Nat := 0
  tclose : Nat := 0
  tmax : Nat := 0
  evalEnd : Nat := 0
  agreeEnd : Nat := 0
  /-- DTIME of the end of ACCORD-CLOSE of the current cycle. -/
  closeEnd : Nat := 0
  /-- The samples of this cycle's connection update (R471). -/
  updSamples : List (Nat × Int) := []
  ovrtot : Nat := 0
  wmax : Nat := 0
  coreload : Tab Nat := []
  /-- Logic SRAM words corrected and outvotes in this cycle (R471), by bank for the snapshot (R52). -/
  corrected : Nat := 0
  correctedBank : Tab Nat := []
  outvotes : Nat := 0
  /-- Samples of an overrun cycle that wait for HOUSEKEEPING (R471). -/
  heldSamples : List (Nat × Int) := []
  lastCode : Nat := 0
  /-- Cluster mode as LGC_ACC_CLMODE gives it, by cluster; 2 where absent (R203). -/
  clMode : Tab Nat := []
  /-- A hand-over asked for, and the one in progress: the mode to take (R203, R204). -/
  clReq : Tab Nat := []
  clTarget : Tab Nat := []
  faulted : BitVec 8 := 0
  proofOk : BitVec 8 := 0
  clLast : Tab Nat := []
  /-- LGC_ACC_LAST: pass, core and code (R198). -/
  lastPass : Nat := 3
  lastCore : Nat := 0
  lastAccord : Nat := 0
  undos : Nat := 0
  /-- The exception status registers (R126). -/
  excCode : Nat := 0
  excCore : Nat := 0
  excCtx : Nat := 0
  excPc : BitVec 20 := 0
  excObj : BitVec 20 := 0
  excTyp : BitVec 8 := 0
  excAcode : BitVec 16 := 0
  /-- The trip flop and the force of LIVE0 and LIVE1 to static low (R201). -/
  tripFlop : Bool := false
  deriving DecidableEq, Repr

/-! ### Snapshot, service cores, event controller -/

/-- The common snapshot (R45 to R52). -/
structure Snapshot where
  held : Bool := false
  src : BitVec 4 := 0
  missed : BitVec 8 := 0
  overwritten : Bool := false
  fbValid : BitVec 4 := 0
  copied : Bool := false
  number : Word := 0
  dtime : Nat := 0
  mcc : Nat := 0
  /-- The block words by their offset from SNP (R52). -/
  words : Tab Word := []
  /-- Field-block words latched in the blocks, on their way in the snapshot slot of the link (R47). -/
  fieldWords : Tab Word := []
  deriving DecidableEq, Repr

/-- A request that a core is entering (R500): its source, its priority, and whether a frame is already saved. -/
structure Presented where
  src : Nat
  prio : Nat
  deriving DecidableEq, Repr

/-- A service core (R477 to R489, R495 to R506). -/
structure SvcCore where
  /-- Out of reset and running (R488, R521 stage S8). -/
  released : Bool := false
  regs : Tab Word := []
  /-- PC as a word index of the service SRAM. -/
  pc : Nat := 0
  priv : Bool := true
  di : Bool := true
  exc : Bool := false
  mpuEn : Bool := false
  vbase : Word := 0
  sp : Word := 0
  splim : Word := 0
  causeReg : Word := 0
  /-- Priorities above entry 0, top first, each with the source that pushed it (R496, R500). -/
  stack : List (Nat × Nat) := []
  mpu : Tab Word := []
  /-- Descriptor words as they stood before MPUWs that no MPUSYNC has followed (R484). -/
  mpuOld : Tab Word := []
  /-- WFE waits (R174). -/
  waiting : Bool := false
  /-- The last instruction was an MTSR to EOI (R503). -/
  eoiJust : Bool := false
  /-- The last instruction was an ERET: 1, or 2 when a request was presentable as it issued (R505). -/
  eretJust : Nat := 0
  presented : Option Presented := none
  /-- DTIME at which the watchdog was last restarted; none until the first instruction (R489). -/
  wdStart : Option Nat := none
  spurious : BitVec 16 := 0
  /-- Spurious claims not yet recorded, and the DTIME of the last 0x8010 (R502). -/
  spurOpen : Nat := 0
  spurAt : Option Nat := none
  lastClaim : BitVec 8 := 0
  resets : BitVec 16 := 0
  fatalCode : BitVec 16 := 0
  /-- Latched upper word of DTIME for MFSR (R44, R480). -/
  dtLatch : Option Word := none
  deriving DecidableEq, Repr

/-- Gathering and pending of one source (R492). -/
structure EvSource where
  pending : Bool := false
  gathering : Bool := false
  t0 : Nat := 0
  batch : Nat := 0
  claimed : Nat := 0
  /-- Thresholds of the batch that gathers (R492: a change applies from the next batch). -/
  n : Nat := 1
  t : Nat := 1
  deriving DecidableEq, Repr

/-- A service timer: the DTIME in ns of its next expiry while it runs (R507). -/
structure SvcTimer where
  expires : Option Nat := none
  deriving DecidableEq, Repr

/-- The service region: cores, service SRAM, event controller, wake watcher. -/
structure Service where
  cores : Tab SvcCore := []
  sram : Memory := []
  /-- MCC as last carried into SCLK (R175). -/
  mcc : Word := 0
  src : Tab EvSource := []
  /-- Toggles of sources that the controller has not detected yet, oldest first: source and DTIME (R491). -/
  toggles : List (Nat × Nat) := []
  timers : Tab SvcTimer := []
  /-- The last service core reset: core and DTIME (R488). -/
  lastReset : Option (Nat × Nat) := none
  /-- The wake watcher: armed, its pending bits, EVC_WAKE.latched, and the sources not yet enabled since the wake (R508, R509). -/
  armed : Bool := false
  wakePend : BitVec 16 := 0
  latched : BitVec 16 := 0
  wakeOwed : BitVec 16 := 0
  /-- The region is held in reset (R521 stage S8, R536). -/
  held : Bool := true
  deriving DecidableEq, Repr

/-! ### Journal and statistics -/

/-- A record before it is numbered: type, DTIME field, payload bytes (R443 to R445). -/
structure Rec where
  typ : Nat
  dtime : Nat
  payload : List Byte
  deriving DecidableEq, Repr

/-- A record as it stands in a store area: its byte offset, number, chain value, and whether its tail is programmed. -/
structure Stored where
  offset : Nat
  number : Nat
  rec_ : Rec
  chain : List Byte := []
  valid : Bool := true
  deriving DecidableEq, Repr

/-- A metric (R469). -/
structure Metric where
  bins : Tab Nat := []
  count : Nat := 0
  min : Int := 0
  max : Int := 0
  sum : Int := 0
  satCount : Bool := false
  satBin : Bool := false
  sumHeld : Bool := false
  deriving DecidableEq, Repr

/-- The door-cycle accumulator of an axis (R460). -/
structure DoorAcc where
  cleared : Nat := 0
  runs : Nat := 0
  obstacles : Nat := 0
  fault : Bool := false
  peakCurrent : Nat := 0
  peakError : Nat := 0
  peakVelocity : Nat := 0
  lastCode : Nat := 0
  deriving DecidableEq, Repr

/-- A statistics frame: its header words and the metrics it carries (R472). -/
structure StatFrame where
  number : Nat
  bootCount : Nat
  dtime : Nat
  wallSec : Nat
  wallNs : Nat
  wallValid : Bool
  mcc : Nat
  metrics : Tab Metric
  deriving DecidableEq, Repr

/-- JNL_STATE.state (R455, R453, R452). -/
inductive JState where
  | notScanned | recording | full | storeFault
  deriving DecidableEq, Repr

/-- The journal store controller and the statistics engine (R440 to R475). -/
structure Journal where
  state : JState := .notScanned
  /-- The flacon: records in the order of the chain. -/
  flacon : List Stored := []
  /-- Write point: byte offset in the flacon. -/
  write : Nat := 0
  /-- Erased units ahead of the write point; the unit numbers that have been retired (R442). -/
  usedUnits : List Nat := []
  retired : List Nat := []
  /-- Number and chain value of the last valid record; `none` before the first (R446). -/
  head : Option Nat := none
  chain : List Byte := []
  /-- Records since the last CHECKPOINT or SEAL (R447). -/
  sinceCkpt : Nat := 0
  acked : Option Nat := none
  arm : Nat := 0
  /-- Units that JREARM set to be erased, in ring order (R466). -/
  erasing : List Nat := []
  lost : Nat := 0
  lostFirst : Nat := 0
  lostLast : Nat := 0
  /-- The staging buffer, oldest first, and the largest fill in bytes since BOOT (R449). -/
  staging : List Rec := []
  high : Nat := 0
  /-- The JSEAL messages that wait for their record: berth and tag, oldest first (R464). -/
  sealWait : List (Nat × Word) := []
  /-- Records held until the scan, each for the flacon, for the keeper log or for both (R474), and a checkpoint and a
  frame held likewise (R447, R518). -/
  held : List (Rec × Bool × Bool) := []
  heldCkpt : Bool := false
  heldFrame : Bool := false
  /-- The keeper log's BOOT record, held likewise (R516), and the torn records that the last scan found. -/
  heldBoot : Bool := false
  tornFound : Nat := 0
  /-- The torn position that a power failure left, if any (R455, R456). -/
  torn : Option Nat := none
  /-- The re-arm that ends the full state: arm number and units (R466). -/
  rearmPend : Option (Nat × Nat) := none
  /-- The keeper log: records and write offset in bytes (R468). -/
  klog : List Stored := []
  klogNext : Nat := 0
  klogNumber : Nat := 0
  metrics : Tab Metric := []
  acc : Tab DoorAcc := []
  frames : List StatFrame := []
  nextFrame : Nat := 0
  lastFrameAt : Nat := 0
  deriving DecidableEq, Repr

/-! ### The lock-keeper -/

/-- What the lock-keeper keeps of a temperature sensor or a voltage monitor (R513, R514). -/
structure Sensor where
  /-- The latest reading: 0.1 °C or mV. -/
  reading : Int := 0
  /-- Consecutive samples beyond the warning, beyond a limit, above and below the window. -/
  warnRun : Nat := 0
  limitRun : Nat := 0
  highRun : Nat := 0
  lowRun : Nat := 0
  warned : Bool := false
  atLimit : Bool := false
  out : Bool := false
  /-- Highest and lowest reading since the last summary (R516). -/
  hi : Option Int := none
  lo : Option Int := none
  deriving DecidableEq, Repr

/-- The states of an update slot (R529). -/
inductive SlotState where
  | empty | staged | trial | active | fallback | failed
  deriving DecidableEq, Repr

/-- An update slot (R529). -/
structure Slot where
  state : SlotState := .empty
  counter : Nat := 0
  hash : List Byte := []
  /-- The payload of the envelope the slot holds, and the anchor slot in use when it was accepted (R299). -/
  payload : List Byte := []
  anchor : Option Nat := none
  deriving DecidableEq, Repr

/-- A policy table as the lock-keeper holds it after its checks (R292). -/
structure Policy where
  identity : Nat := 0
  holdOnLimit : Bool := false
  openLimit : Nat := 5
  lockout : Nat := 60
  globalLimit : Nat := 1000
  roles : Tab Nat := []
  enabled : Tab Bool := []
  tcpPort : Tab Nat := []
  portMask : Tab Nat := []
  idle : Tab Nat := []
  limit : Tab Nat := []
  revoked : List (List Byte × List Byte) := []
  payload : List Byte := []
  /-- The anchor slot in use when it was accepted (R299). -/
  anchor : Option Nat := none
  deriving DecidableEq, Repr

/-- A settings record (R528): generation, every RWC value by control address, the active policy table, connection configuration and
device certificate, the rollback counters of kinds 2, 3, 4 and 6, validity of its hash. -/
structure Settings where
  generation : Nat := 0
  values : Tab Word := []
  policy : Option Policy := none
  conf : Option (List Byte) := none
  confAnchor : Option Nat := none
  devCert : List Byte := []
  rollback : Tab Nat := []
  valid : Bool := false
  deriving DecidableEq, Repr

/-- The kinds of BOOT (R517): whole-module, after a logic-region reset, after a wake. -/
inductive BootKind where
  | whole | logic | wake
  deriving DecidableEq, Repr

/-- What is fused or persisted at manufacture (R2, R83, R297, R530). -/
structure Fused where
  fit : BitVec 7 := 0x75
  serial : BitVec 64 := 0
  macs : Tab (BitVec 48) := []
  /-- The vendor firmware root, a public key of 64 bytes; the private device signing key and device agreement key (R297). -/
  vendorRoot : List Byte := []
  signKey : Nat := 0
  agreeKey : Nat := 0
  fuseLk : Nat := 0
  fuseSvc : Nat := 0
  fuseProg : Nat := 0
  deriving DecidableEq, Repr

/-- The lock-keeper (R510 to R538). -/
structure Keeper where
  mode : Mode := .boot
  prev : Mode := .boot
  cause : BitVec 16 := 0
  resetKind : Nat := 0
  resetCode : BitVec 16 := 0
  bootKind : BootKind := .whole
  bootStage : Nat := 1
  bootFailed : Nat := 0
  bootMs : Nat := 0
  bootStart : Nat := 0
  /-- Counted CMSN level (R519): true is high. -/
  cmsn : Bool := true
  /-- BOOTs since manufacture, this one included; a module's first BOOT (a persisted value, log entry 30). -/
  bootCount : Word := 1
  settingsA : Settings := {}
  settingsB : Settings := {}
  /-- Generation of the record in use (R528). -/
  generation : Nat := 0
  committed : Tab Word := []
  /-- First write of a guarded reset request: its bits and its DTIME (R525). -/
  armed : Option (BitVec 32 × Nat) := none
  temp : Tab Sensor := []
  volt : Tab Sensor := []
  tseen : BitVec 32 := 0
  vseen : BitVec 32 := 0
  lastSummary : Nat := 0
  /-- DTIME of the last temperature samples taken for metrics 80 to 91 (R471). -/
  lastTemp : Nat := 0
  slots : Tab Slot := []
  /-- Rollback counters of the active content of envelope kinds 2, 3, 4 and 6 (R528). -/
  rollback : Tab Nat := []
  stblRequest : Bool := false
  /-- DTIME of the request (R535). -/
  stblAt : Nat := 0
  stblReason : BitVec 8 := 0
  /-- DTIME of entry to STABLED (R536), and the whole ACLK periods that the always-on part has counted since (R41). -/
  stblEntry : Nat := 0
  stblAclk : Nat := 0
  clkSeen : BitVec 8 := 0
  clkNow : BitVec 8 := 0
  /-- What a fault met outside HOLD still owes once its clock or rail is back (R32, R39): bit 4 the network region's
  reinitialisation, bit 5 the resets of BTH1 and BTH2. -/
  owed : BitVec 8 := 0
  /-- Regions that reinitialise, by their number in R24, with the DTIME of the start (R30). -/
  reinit : Tab (Option Nat) := []
  /-- The trip lines are pulled low by the lock-keeper or held low by BOOT; LIVE is forced low (R410, R518). -/
  tripLow : Bool := true
  liveLow : Bool := true
  /-- The monitors whose rail holds the module in reset until it is back in its window (R514, R525). -/
  resetHeld : List Nat := []
  romRecovery : Bool := false
  lastCode : Nat := 0
  /-- The rails, in the order of R523, whose domains are isolated at their boundary. -/
  isolated : List Nat := []
  deriving DecidableEq, Repr

/-! ### Motion -/

/-- The axis states with the codes of R337. -/
inductive AxState where
  | disabled | enabling | holding | moving | stopping | obstacle | homing | fault | test
  deriving DecidableEq, Repr

/-- A RUN or GRUN as accepted: first segment, count, armed, target, and the coordinated group of a GRUN (R341). -/
structure RunPost where
  first : Nat
  count : Nat
  armed : Bool
  target : Word
  group : Option Nat := none
  deriving DecidableEq, Repr

/-- A run in progress: the segment index, the time within the segment in 0.5 µs units, and the start of the segment:
setpoint in 1/65,536 count and velocity in Q16.16 counts/s (R345). A follower of a group holds its ratio r (R349). -/
structure RunState where
  post : RunPost
  seg : Nat
  tick : Nat := 0
  p0 : Int
  v0 : Int
  /-- For a member of a group: the leader, the setpoints of member and leader at the start, and T − s of both. -/
  leader : Nat := 0
  own0 : Int := 0
  lead0 : Int := 0
  num : Int := 1
  den : Int := 1
  deriving DecidableEq, Repr

/-- A ramp to rest: start setpoint and velocity, deceleration acc / den in counts/s², time since the start in 0.5 µs units. -/
structure Ramp where
  p0 : Int
  v0 : Int
  acc : Nat
  den : Nat := 1
  tick : Nat := 0
  deriving DecidableEq, Repr

/-- The move back of OBSTACLE: start setpoint, sign of the move, and time in 0.5 µs units (R356). A member of a group follows
the reversal of axis `cfg` at num / den (R351). -/
structure Reversal where
  p0 : Int
  neg : Bool
  cfg : Nat
  num : Nat := 1
  den : Nat := 1
  tick : Nat := 0
  deriving DecidableEq, Repr

/-- The group run that an axis is in, or whose stop or reversal it still follows: the group, its leader, and |r| (R349, R351). -/
structure Team where
  group : Nat
  leader : Nat
  num : Nat
  den : Nat
  deriving DecidableEq, Repr

/-- The homing procedure: step of R358 (2, 3, 4 for the index, 5 for the final stop), where the step began, whether the
criteria are armed, the switch as last read, and the changes counted (R359). -/
structure Homing where
  step : Nat
  armed : Bool
  startPos : Int
  switch : Bool
  changed : Bool := false
  changes : Nat := 0
  /-- Index latches of the channel when step 4 began. -/
  latch0 : Nat := 0
  /-- The stop of step 2 is running; the reference point has been taken. -/
  stopping : Bool := false
  taken : Bool := false
  deriving DecidableEq, Repr

/-- What of an axis is due and has a command of its own (R338): the servo period finds it, the command performs it. -/
structure AxDue where
  enabled : Bool := false
  segment : Bool := false
  runEnd : Bool := false
  stopEnd : Bool := false
  obstacle : Option (BitVec 3) := none
  reversal : Bool := false
  reference : Option Int := none
  chatter : Bool := false
  deriving DecidableEq, Repr

/-- How a strong-mode phase decays in the rest of the carrier period (R353). -/
inductive Decay where
  | drive | slow | fast
  deriving DecidableEq, Repr

/-- One phase of the current regulator (R352, R353): target and target before, x, command u, decay, last good sample. -/
structure PhaseReg where
  target : Int := 0
  /-- The targets of the present and of the preceding carrier period. -/
  used : Int := 0
  prev : Int := 0
  x : Int := 0
  u : Int := 0
  decay : Decay := .drive
  good : Int := 0
  /-- The bit stream has not changed for 64 edges (R329). -/
  stuck : Bool := false
  deriving DecidableEq, Repr

/-- One axis (R325 to R363). Setpoints are in 1/65,536 count, velocities in Q16.16 counts/s. -/
structure Axis where
  st : AxState := .disabled
  homed : Bool := false
  obst : Bool := false
  causes : BitVec 3 := 0
  obsPos : Word := 0
  strong : Bool := false
  /-- A quiet or strong mode that the next carrier period takes (R354), and the sign of the phase A target before. -/
  modeDue : Option Bool := none
  /-- The change that the sign change of the servo period in progress gives the carrier periods after it (R354). -/
  modeTurn : Option Bool := none
  origin : Word := 0
  p : Int := 0
  v : Int := 0
  /-- Acceleration setpoint, counts/s², for kff. -/
  aSet : Int := 0
  act : Word := 0
  actValid : Bool := false
  actVel : Int := 0
  curMag : Nat := 0
  curMax : Nat := 0
  lastCode : Nat := 0
  refused : Nat := 0
  applied : Nat := 0
  runDone : Bool := false
  target : Word := 0
  run : Option RunState := none
  pendingRun : Option RunPost := none
  ramp : Option Ramp := none
  team : Option Team := none
  /-- The stop began in an armed segment; the envelope of that segment (R355). -/
  stopArmed : Bool := false
  stopEnv : Nat := 0
  reversal : Option Reversal := none
  /-- The direction of v when the obstacle was met: true is negative; the stop leads to HOLDING without reversal. -/
  obsNeg : Bool := false
  obsNoRev : Bool := false
  /-- The axis whose reversal this one makes, and its ratio (R351). -/
  obsCfg : Nat × Nat × Nat := (0, 1, 1)
  homing : Option Homing := none
  /-- A homing that aborts to FAULT after its stop, with its code; a test that ends in DISABLED (R338, R362). -/
  abortCode : Option Nat := none
  testEnding : Bool := false
  testKind : Nat := 0
  /-- DTIME of the last MOT_TEST write that named the axis (R362). -/
  testAt : Nat := 0
  jogStart : Int := 0
  goodPeriods : Nat := 0
  feRun : Nat := 0
  iRun : Nat := 0
  faultPrev : Bool := false
  /-- The servo period in progress: a sample was faulted; the largest magnitude so far (R329, R334). -/
  faultNow : Bool := false
  curAcc : Nat := 0
  due : AxDue := {}
  /-- Setpoint and velocity of the servo period before; those of the present one are formed; its steps 5 and 6 wait for what is due (R334,
  R356). -/
  pPrev : Int := 0
  vPrev : Int := 0
  stepped : Bool := false
  control : Bool := false
  sum : Int := 0
  phA : PhaseReg := {}
  phB : PhaseReg := {}
  phC : PhaseReg := {}
  /-- High times of half-bridges 0 to 3: in effect, and computed for the next carrier period (R331, R332). -/
  high : List Nat := [0, 0, 0, 0]
  highNext : List Nat := [0, 0, 0, 0]
  /-- The MCLK cycle at which the carrier period in progress began (R331). -/
  carrierAt : Nat := 0
  /-- What the last servo slot published: words 0 to 10 of the axis record and the snapshot words 0 to 6 (R52, R334, R363). -/
  status : List Word := []
  latched : List Word := []
  deriving DecidableEq, Repr

/-- The posts of one release on their way through the mailbox: arrived, with the marker that ends them (R343, R360). -/
structure MboxRelease where
  posts : List Post
  deriving DecidableEq, Repr

/-- The motion region. -/
structure Motion where
  axes : Tab Axis := []
  /-- Posts handed over and not yet ended by their marker; releases ended by a marker and not yet applied. -/
  arriving : Option MboxRelease := none
  ready : List MboxRelease := []
  markerAt : Nat := 0
  silent : Bool := false
  refusedRc : Nat := 0
  postsLast : Nat := 0
  sdFault : BitVec 4 := 0
  /-- The boundary of the servo period in progress, and its next slot; 8 when all have been computed (R334). -/
  lastServo : Nat := 0
  slot : Nat := 8
  /-- The MCLK cycle, modulo N, at which the carrier periods of a group begin (R331). -/
  carrier : Tab Nat := []
  deriving DecidableEq, Repr

/-! ### Feedback -/

/-- A position channel PC0 to PC31 (R364 to R382). -/
structure PosChan where
  a : Bool := false
  b : Bool := false
  z : Bool := false
  /-- The last valid Hall code; 0 before the first (R367). -/
  hall : Nat := 0
  inImpossible : Bool := false
  count : Word := 0
  index : Word := 0
  /-- The reference of the line check: the latch before, with no direction change since (R371). -/
  lineRef : Option Word := none
  dirSinceLatch : Bool := false
  neg : Bool := false
  moved : Bool := false
  level : Nat := 0
  bad : Bool := false
  fDir : Bool := false
  fWrap : Bool := false
  fIndex : Bool := false
  fLine : Bool := false
  errQ : Nat := 0
  errImp : Nat := 0
  rcCount : Nat := 0
  rcLines : Nat := 0
  /-- MCLK cycles of the qualified counts of one sign, newest first (R376). -/
  times : List Nat := []
  /-- Qualified counts since first use or since the channel became valid, up to 2 (R380). -/
  qualified : Nat := 0
  freq : Bool := false
  gateNet : Int := 0
  vf : Int := 0
  lastCode : Nat := 0
  /-- MODEL'S OWN: index latches since first use, by which homing sees the next one (R358). -/
  latches : Nat := 0
  /-- Codes 0x3001 to 0x3004 of this cycle that are not yet recorded, each with the measured difference of a 0x3004. -/
  gathered : List (Nat × Nat) := []
  deriving DecidableEq, Repr

/-- A wheel head WC0 to WC15 (R385 to R388). Systems: 0 fault or not renewed, 1 free, 2 occupied. -/
structure Head where
  state : Nat := 0
  sysA : Nat := 0
  sysB : Nat := 0
  freeSince : Option Nat := none
  lastSample : Nat := 0
  lastSeq : Option Nat := none
  inCnt : BitVec 24 := 0
  outCnt : BitVec 24 := 0
  satIn : Bool := false
  satOut : Bool := false
  fSeqErr : Bool := false
  lastWasSeq : Bool := false
  lastCode : Nat := 0
  deriving DecidableEq, Repr

/-- The states of a section with the codes of R389. -/
inductive SecState where
  | disturbed | clear | occupied | restoring
  deriving DecidableEq, Repr

/-- An axle-counting section (R389 to R392). Bit i of `causes` is cause bit 4 + i. -/
structure Section where
  state : SecState := .disturbed
  occ : Nat := 0
  causes : BitVec 8 := 1
  /-- RESTORING has been occupied; it waits only for idle heads. -/
  swept : Bool := false
  fRefused : Bool := false
  fApplied : Bool := false
  deriving DecidableEq, Repr

/-- A standstill detector (R383): since when the condition counts, steps of both channels, whether it asserts. -/
structure Standstill where
  cond : Bool := false
  since : Nat := 0
  stepsA : Nat := 0
  stepsB : Nat := 0
  asserted : Bool := false
  deriving DecidableEq, Repr

/-- An encoder emulation output (R394 to R398). `phase` indexes 00, 10, 11, 01. -/
structure EncOut where
  ref : Word := 0
  rem : Int := 0
  pending : Int := 0
  count : Int := 0
  phase : Nat := 0
  z : Bool := false
  lagging : Bool := false
  srcInvalid : Bool := false
  lastStep : Option Nat := none
  deriving DecidableEq, Repr

/-- The feedback region. -/
structure Feedback where
  chans : Tab PosChan := []
  heads : Tab Head := []
  sections : Tab Section := []
  stand : Tab Standstill := []
  eo : Tab EncOut := []
  deriving DecidableEq, Repr

/-! ### Field blocks -/

/-- A DIO channel (R414 to R418): the raw level at the sampler, the filtered level, flags, and the PWM in force. -/
structure Dio where
  raw : Bool := false
  level : Bool := false
  overload : Bool := false
  overTemp : Bool := false
  openWire : Bool := false
  wireBreak : Bool := false
  /-- The junction is at or above the level below which an over-temperature latch may be cleared (R418). -/
  hot : Bool := false
  /-- DTIME since which the output is low. -/
  lowSince : Nat := 0
  /-- Period and high time in µs. -/
  pwm : Option (Nat × Nat) := none
  /-- Codes 0x4010 to 0x4013 recorded in this cycle. -/
  recorded : List Nat := []
  deriving DecidableEq, Repr

/-- A two-channel pair (R419). -/
structure TwoPair where
  c : Nat := 0
  latched : Bool := false
  armed : Bool := false
  deriving DecidableEq, Repr

/-- The states of a load switch with the codes of R422. -/
inductive LsState where
  | off | inrush | on | limit | cooling | latched | undervolt | pulse
  deriving DecidableEq, Repr

/-- A load switch (R421 to R425). -/
structure LoadSwitch where
  st : LsState := .off
  /-- DTIME at which the present inrush window opened, and since which the switch conducts. -/
  inrushAt : Nat := 0
  condAt : Nat := 0
  u : Nat := 0
  openLoad : Bool := false
  current : Nat := 0
  deriving DecidableEq, Repr

/-- The states of a safety output pair with the codes of R428. -/
inductive SoState where
  | off | starting | on | stopping | fault | interlock | undervolt
  deriving DecidableEq, Repr

/-- A safety output pair (R427 to R432). -/
structure SoPair where
  st : SoState := .interlock
  cause : Nat := 0
  /-- Consecutive check samples that differ from the expectation. -/
  fbRun : Nat := 0
  /-- DTIME of the entry to ON, and the number m of the next pulse of L(2k) and of L(2k+1). -/
  tOn : Nat := 0
  mA : Nat := 1
  mB : Nat := 1
  /-- A pulse that is due and postponed or waiting (R430), by switch. -/
  waitA : Bool := false
  waitB : Bool := false
  /-- The pulse in progress: the second switch of the pair or the first, its start, and whether it has been read back. -/
  pulse : Option (Bool × Nat) := none
  readBack : Bool := false
  lastCode : Nat := 0
  deriving DecidableEq, Repr

/-- One system of a wheel-sensor front-end (R433): report 0 fault, 1 free, 2 occupied; cause as in record word 10. -/
structure WheelSystem where
  cur : Nat := 0
  report : Nat := 0
  cause : Nat := 3
  /-- Switched off after its current limit, since this DTIME. -/
  offAt : Option Nat := none
  deriving DecidableEq, Repr

/-- A front-end: its systems, its sample number and the last four samples, oldest first: number, A, B (R434). -/
structure FrontEnd where
  a : WheelSystem := {}
  b : WheelSystem := {}
  number : Nat := 0
  samples : List (Nat × Nat × Nat) := []
  deriving DecidableEq, Repr

/-- An inbound frame as the controller holds it: the field record words but 13 and 14, the sample stamp, the samples. -/
structure InFrame where
  words : Tab Word := []
  stamp : Nat := 0
  samples : Tab (List (Nat × Nat × Nat)) := []
  deriving DecidableEq, Repr

/-- A field block: the block's die, its trip line, its link and the controller's and the lock-keeper's view of it. -/
structure Block where
  dio : Tab Dio := []
  pairs : Tab TwoPair := []
  ls : Tab LoadSwitch := []
  so : Tab SoPair := []
  wfe : Tab FrontEnd := []
  /-- Demands in force at the block (R437). -/
  dDio : Word := 0
  dLs : Word := 0
  dSo : Word := 0
  /-- Retention registers: the stored fail-safe states (R408). -/
  fsDio : Word := 0
  fsLs : Word := 0
  /-- Watchdog forcing, trip latch, FCLK fault, forcing by the mode (R409, R410, R407, R412). -/
  forced : Bool := false
  trip : Bool := false
  fclk : Bool := false
  uv : Bool := false
  vfield : Nat := 24_000
  temp : Int := 250
  /-- DTIME of the end of the last valid outbound frame. -/
  lastOut : Nat := 0
  /-- Sequence numbers of the frames sent each way, and of the last one accepted each way. -/
  outSeq : Nat := 0
  inSeq : Nat := 0
  outAcc : Nat := 0
  inAcc : Nat := 0
  /-- The controller: link state 0 down, 1 link check, 2 up; last valid inbound frame; errors; the frame held. -/
  link : Nat := 0
  lastIn : Nat := 0
  errIn : Nat := 0
  errOut : Nat := 0
  /-- Inbound frames discarded in this cycle that 0x4001 has not reported. -/
  errCycle : Nat := 0
  /-- Inbound frames discarded in this cycle (R471). -/
  discarded : Nat := 0
  frame : Option InFrame := none
  /-- The frame selected at E_cap (R62). -/
  taken : Option InFrame := none
  /-- A forcing report has been acted on since the last reset (R409). -/
  reported : Bool := false
  silent : Bool := false
  /-- DTIME of the start of a field-block reset in progress; isolated (R413). -/
  resetAt : Option Nat := none
  isolated : Bool := false
  /-- The lock-keeper holds the line low for this block (R413). -/
  lineLow : Bool := false
  /-- The release on its way to the block: its remaining commands, and the output words to apply after them (R405). -/
  cmds : List Post := []
  words : Option (Word × Word × Word) := none
  /-- DTIME at which the controller held that release complete: frames that started earlier do not carry it (R83, R405). -/
  handedAt : Nat := 0
  /-- Commands that earlier frames of the release have carried; forcing by the mode, as the last frame gave it (R412). -/
  carried : List Post := []
  modeForce : Bool := false
  lastCode : Nat := 0
  deriving DecidableEq, Repr

/-- The field blocks FB0 to FB3 and the COMMISSION test (R438). -/
structure Field where
  blocks : Tab Block := []
  testAt : Nat := 0
  deriving DecidableEq, Repr

/-! ### Network ports and Yala -/

/-- An Ethernet port (R252 to R254). -/
structure Port where
  link : Bool := false
  blockLock : Bool := false
  anDone : Bool := false
  fecOn : Bool := false
  trained : Bool := false
  sgmiiSync : Bool := false
  rx : Nat := 0
  tx : Nat := 0
  fcs : Nat := 0
  other : Nat := 0
  /-- The frames in the egress queues, oldest first, each with the number of its queue (R252, R254). -/
  egress : List (Nat × List Byte) := []
  /-- Violations of frames that match no connection: the count of each code in the open interval (R275). -/
  viol : Tab Nat := []
  deriving DecidableEq, Repr

/-- A message in an INBOX slot: its Yala sequence number and the member it came from (R231 to R235). -/
structure SlotMsg where
  seq : Word
  src : Nat
  deriving DecidableEq, Repr

/-- A Yala connection (R264 to R278). `state` as in the status word; undefined until a configuration is active. -/
structure Conn where
  state : Nat := 3
  ref : Option Word := none
  quiet : Nat := 0
  /-- The status word as last formed (R264). -/
  status : Word := 0
  /-- The messages in the fill slot and in the frozen slot. -/
  fill : Option SlotMsg := none
  frozen : Option SlotMsg := none
  /-- The frozen slot as it stood before the last swap: its message and its words, for a swap that does not count (R66, R67). -/
  kept : Option SlotMsg := none
  keptWords : List Word := []
  delivered : Nat := 0
  viol : Nat := 0
  dup : Nat := 0
  missed : Nat := 0
  lastCode : Nat := 0
  /-- The epoch and sequence number of the last protected message sealed (R271). -/
  sealed : Option (BitVec 24 × Word) := none
  /-- Violations by code in the open interval (R275). -/
  open_ : Tab Nat := []
  deriving DecidableEq, Repr

/-- What leaves an Ethernet port: the frame from its destination address to the end of its data, to which the MAC adds padding and FCS
(R252). -/
structure NetOut where
  port : Nat
  frame : List Byte
  deriving DecidableEq, Repr

/-- The Yala sealer and checker, and the ports. -/
structure Net where
  ports : Tab Port := []
  conns : Tab Conn := []
  /-- The active connection table by word (R261), and whether a configuration is active. -/
  table : Tab Word := []
  confActive : Bool := false
  /-- Control words of the last released cycle (R266). -/
  control : Tab Word := []
  valid : Nat := 0
  safe : Nat := 0
  epoch : BitVec 24 := 0
  /-- The persisted ceiling; a value of 2^24 or more leaves no epoch to seal under (R271). -/
  ceiling : Nat := 0
  /-- The epoch has been set from such a ceiling. -/
  spent : Bool := false
  /-- Masquerade alarms since the last read of NET_YALA_ALARM, and since reset (R52). -/
  alarms : Nat := 0
  alarmsTotal : Nat := 0
  lastAlarm : Word := 0
  /-- Messages sealed in this cycle (R52). -/
  sealed : Nat := 0
  /-- The region has its clock and its rails (R39, R514). -/
  up : Bool := true
  sent : List NetOut := []
  /-- Messages of the buffer that the sealer holds and has not sent (R85). -/
  unsent : Nat := 0
  /-- DTIME of the start of the current one-second interval (R275). -/
  interval : Nat := 0
  deriving DecidableEq, Repr

/-! ### Triad and towpath -/

/-- The triad states with the codes of NET_TRI_STATE (R241). -/
inductive TriState where
  | off | forming | triad | pair | joining | out
  deriving DecidableEq, Repr

/-- A frame as sent on a towpath port (R213, R214): type, MCC, payload bytes, and the snapshot request bit. -/
structure TpFrame where
  typ : Nat
  sender : Nat
  receiver : Nat
  triad : Nat
  seq : Word
  ack : Word
  mcc : Nat
  tsend : Nat
  snap : Bool
  payload : List Byte
  deriving DecidableEq, Repr

/-- A frame in the retransmission buffer: its last sending and how often it was retransmitted (R217). -/
structure TpSent where
  frame : TpFrame
  sentAt : Nat
  retx : Nat := 0
  deriving DecidableEq, Repr

/-- A towpath port TP0 or TP1 (R209 to R217). State 0 down, 1 block lock, 2 HELLO exchange, 3 up. -/
structure TpPort where
  state : Nat := 0
  peer : Nat := 0
  latency : Nat := 0
  /-- The last measurements in half nanoseconds, newest first (R211). -/
  meas : List Int := []
  hellosIn : Nat := 0
  hellosOut : Nat := 0
  /-- Last frame accepted, none since link-up; next number to send. -/
  rxSeq : Option Word := none
  txSeq : Word := 0
  /-- Every sequence number has been sent since link-up. -/
  wrapped : Bool := false
  /-- Highest number acknowledged by the partner. -/
  acked : Option Word := none
  buffer : List TpSent := []
  /-- Frames that wait while the buffer is full (R217). -/
  waiting : List TpFrame := []
  lastValid : Nat := 0
  /-- t1 and t2 of the last HELLO received (R211), and what it said. -/
  t1 : Nat := 0
  t2 : Nat := 0
  helloAt : Option Nat := none
  helloState : Nat := 0
  helloView : Nat := 0
  helloMatch : Bool := false
  /-- Consecutive matching HELLO frames of a FORMING peer (R244). -/
  matching : Nat := 0
  snapDue : Bool := false
  ackDue : Option Nat := none
  lateLat : Bool := false
  retx : Nat := 0
  crc : Nat := 0
  late : Nat := 0
  viol : Nat := 0
  deriving DecidableEq, Repr

/-- A relayed message of a peer (R231): connection, sequence number, message words. -/
structure Relay where
  conn : Nat
  seq : Word
  words : List Word
  deriving DecidableEq, Repr

/-- What a member holds of a peer in a cycle, and of its membership. -/
structure Peer where
  present : Bool := false
  /-- The reason of a loss that takes effect at the next boundary (R239). -/
  lostDue : Option Nat := none
  absent : Nat := 0
  /-- d(x) of this cycle's CYCLE frame (R219), and the start it reports. -/
  dev : Option Int := none
  oos : Bool := false
  /-- Frames that carried a wrong MCC in this cycle make the peer absent (R250). -/
  wrong : Bool := false
  /-- The contribution: total length, ranges held, MCC (R222). -/
  total : Nat := 0
  ranges : List (Nat × Nat) := []
  contribMcc : Nat := 0
  complete : Bool := false
  badContrib : Bool := false
  /-- The relay set of this cycle, the frames after the last CUT, and whether the CUT of this cycle is held (R231). -/
  relays : List Relay := []
  relaysNext : List Relay := []
  cut : Bool := false
  /-- The SUMMARY held: for each member flags, contribution hash, relay hash (R226). -/
  summary : Option (List (Nat × List Byte × List Byte)) := none
  /-- The HASH held: ready, output hash, image digest (R236). -/
  hash : Option (Bool × List Byte × List Byte) := none
  deriving DecidableEq, Repr

/-- The towpath engine and the membership (R206 to R250). -/
structure Tri where
  state : TriState := .off
  ports : Tab TpPort := []
  peers : Tab Peer := []
  /-- Members in the own view. -/
  members : BitVec 3 := 0
  used : BitVec 3 := 0
  matched : BitVec 3 := 0
  oos : Bool := false
  oosRun : Nat := 0
  dev : Int := 0
  /-- rate and e_prev of R220, in 1/32 ns. -/
  rate : Int := 0
  ePrev : Int := 0
  outvotedWords : Nat := 0
  restrictive : Nat := 0
  /-- Outvoted words by member and INBOX slots filled from a peer (R229). -/
  outvotedBy : Tab Nat := []
  slotsFilled : Nat := 0
  merged : Nat := 0
  probation : Nat := 0
  attempts : Nat := 0
  /-- The member has sent its SUMMARY; AGREE has ended; used has been decided; relay set of its own. -/
  ownCut : Bool := false
  ownRelays : List Relay := []
  ownRelaysNext : List Relay := []
  summarised : Bool := false
  decided : Bool := false
  digest : List Byte := []
  digestReady : Bool := false
  /-- The release decision of the cycle has been made (R236). -/
  hashed : Bool := false
  /-- Joining: J granted, the next JOIN, cycles since the last join granted. -/
  joinAt : Option Nat := none
  joinTry : Option Nat := none
  /-- The member that a granted join takes back, while it catches up (R245 to R248). -/
  joiner : Option Nat := none
  lastGrant : Option Nat := none
  /-- Transfer data received: by sender, total, ranges, hash; assembled records and timers. -/
  xferTotal : Tab Nat := []
  xferRanges : Tab (List (Nat × Nat)) := []
  xferHash : Tab (List Byte) := []
  xferBytes : Tab (Tab Byte) := []
  xferDone : Bool := false
  /-- DTIME at which the last piece of the transfer was taken. -/
  xferAt : Nat := 0
  /-- Frames handed to each port's transmitter, oldest first. -/
  sent : List (Nat × TpFrame) := []
  helloAt : Nat := 0
  deriving DecidableEq, Repr

/-! ### Berths -/

/-- Where a berth stands (BTH_STATE.state). -/
inductive BthState where
  | closed | opening | open_ | resetting | lockedOut
  deriving DecidableEq, Repr

/-- A message of the gate to a host: type, tag, status, body (R306). -/
structure Reply where
  typ : Nat
  tag : Word
  status : Nat
  body : List Byte
  deriving DecidableEq, Repr

/-- A message as it left its berth: its bytes, framed on UART_K (R306, R310), and on PCI Express the bus address of its slot (R311). -/
structure SentMsg where
  bytes : List Byte
  slot : Option (BitVec 64) := none
  deriving DecidableEq, Repr

/-- One entry of a command batch (R314, R315), with the message it came in. -/
structure BatchEntry where
  obj : Nat
  berth : Nat
  code : Nat
  rank : Nat
  arg0 : Word
  arg1 : Word
  /-- The COMMAND message (its running number at the own gate; none for an entry of another member) and the place in it; the gate's
  stamp, DTIME in ns (R64). -/
  msg : Option Nat
  place : Nat
  stamp : Nat
  member : Nat := 0
  disposition : Nat := 0
  deriving DecidableEq, Repr

/-- The answer to one entry of a COMMAND, as COMMAND_REPLY gives it (R319). -/
structure EntryAnswer where
  status : Nat
  disposition : Nat
  released : Bool
  mcc : Nat
  words : List Word
  deriving DecidableEq, Repr

/-- A COMMAND message that has not been answered: its number, tag, and the answers known so far by place (R319). -/
structure WaitingCommand where
  msg : Nat
  tag : Word
  count : Nat
  answers : Tab EntryAnswer := []
  deriving DecidableEq, Repr

/-- A commit whose checks run: kind, tag of the ECOMMIT, commit stamp, and whether it was committed in COMMISSION (R304, R305). -/
structure Checking where
  kind : Nat
  tag : Word
  stamp : Nat
  commission : Bool
  deriving DecidableEq, Repr

/-- A staged envelope: total length, ranges staged, bytes (R305). -/
structure Staged where
  total : Nat := 0
  ranges : List (Nat × Nat) := []
  bytes : Tab Byte := []
  checking : Option Checking := none
  deriving DecidableEq, Repr

/-- A berth BTH0 to BTH7 (R282 to R323). -/
structure Berth where
  state : BthState := .closed
  nonce : Option (List Byte) := none
  granted : BitVec 6 := 0
  removed : BitVec 6 := 0
  /-- Roles of the certificate that opened the berth, its hash, and issuer hash and serial of each certificate (R291). -/
  certRoles : BitVec 6 := 0
  certHash : List Byte := []
  certIds : List (List Byte × List Byte) := []
  refused : Nat := 0
  opens : Nat := 0
  accepted : Nat := 0
  /-- DTIME of the failed opens within 60 s; end of a lockout. -/
  failAt : List Nat := []
  lockEnd : Option Nat := none
  lastUse : Nat := 0
  /-- By refusal code: DTIME of the last record, refusals since, and the address or type of the last one (R322). -/
  refusals : Tab (Nat × Nat × Nat) := []
  staged : Staged := {}
  /-- A COMMAND's entries in the batch being filled (R314). -/
  filled : Nat := 0
  waiting : List WaitingCommand := []
  /-- Messages sent to the host, oldest first. -/
  out : List SentMsg := []
  /-- Replies that wait for a reply slot, oldest first, each with the DTIME since which it waits (R312). -/
  slotWait : List (Reply × Nat) := []
  alertsDropped : Nat := 0
  /-- The PCIe queue registers (R311). -/
  ringCfg : Word := 0
  reqBase : BitVec 64 := 0
  rplBase : BitVec 64 := 0
  reqTail : BitVec 16 := 0
  reqHead : BitVec 16 := 0
  rplHead : BitVec 16 := 0
  rplTail : BitVec 16 := 0
  enable : Bool := false
  msi : Bool := false
  msiCount : Nat := 0
  /-- Requests fetched that the gate has not taken yet; the bus addresses read for them, oldest first (R311). -/
  fetched : Nat := 0
  reads : List (BitVec 64) := []
  /-- The TCP connection: the DTIME at which it was accepted, and whether TLS is established (R313). -/
  tcp : Option Nat := none
  tls : Bool := false
  /-- The traffic keys of the session, towards the module and from it; records sent under the latter; KeyUpdates sent (R297, R313). -/
  keyIn : List Byte := []
  keyOut : List Byte := []
  records : Nat := 0
  keyUpdates : Nat := 0
  tcpResets : Nat := 0
  deriving DecidableEq, Repr

/-- The berth gate and the key store. -/
structure Berths where
  berths : Tab Berth := []
  policy : Option Policy := none
  /-- The payload of the active connection configuration, for the hash of R296. -/
  confPayload : List Byte := []
  /-- The anchor slot in use when the configuration was accepted (R299). -/
  confAnchor : Option Nat := none
  gfail : List Nat := []
  /-- Batch being filled, and the batch of the current cycle; entries refused under R65 in the current one. -/
  filling : List BatchEntry := []
  batch : List BatchEntry := []
  nextMsg : Nat := 0
  /-- The gate's last stamp: its replica of DTIME never falls back (R40, R41, R64). -/
  lastStamp : Nat := 0
  batchDone : Bool := false
  /-- The anchor fuses: keys by slot, void bits, slot in use, a replacement that waits for BOOT (R298, R299). -/
  anchors : Tab (List Byte) := []
  anchorVoid : BitVec 8 := 0
  anchorSlot : Option Nat := none
  anchorNext : Option Nat := none
  /-- Yala keys by index; the device certificate (R297). -/
  keys : Tab (List Byte) := []
  devCert : List Byte := []
  jtagOpen : Bool := false
  /-- Envelopes accepted by kind: the stamp of the latest commit (R305). -/
  stamps : Tab Nat := []
  deriving DecidableEq, Repr

/-! ### The block -/

/-- The state of the block. The default of each field is its value at reset. -/
structure State where
  /-- The commands that wait, first in, first out. -/
  pending : List Instr := []
  /-- MODEL'S OWN: the number of free values drawn so far (log entry 3). -/
  free : Nat := 0
  fused : Fused := {}
  time : Time := {}
  /-- RW and RWC registers by control address; an unlisted one holds its reset value (RegMap, `rwReset`). -/
  ctl : Tab Word := []
  /-- Latched words of split readings: by requester, by control address (R44, R544). -/
  latches : Tab (Tab Word) := []
  /-- The logic SRAM by byte offset (R97, R574). -/
  sram : Memory := []
  seq : Seq := {}
  image : Option Image := none
  cores : Tab Core := []
  splits : Tab SplitCtx := []
  timers : Tab LTimer := []
  /-- SCRATCH words written in this cycle: by core and word, the ordinal that wrote it, plus one (R105). -/
  scratchTags : Tab Nat := []
  snap : Snapshot := {}
  svc : Service := {}
  jnl : Journal := {}
  keep : Keeper := {}
  mot : Motion := {}
  fbk : Feedback := {}
  fld : Field := {}
  net : Net := {}
  tri : Tri := {}
  bth : Berths := {}
  deriving DecidableEq, Repr

/-- The machine right after a power-on reset: BOOT at stage 1, nothing waiting (R517, R521). -/
def State.reset : State := {}

end Sys2Proof.Machine
end

