-- ==== Sys2Proof/Machine/Tab.lean ====
section
/-!
DEFINITION. Keyed tables and byte memory: reading and writing one entry.
-/
namespace Sys2Proof.Machine

/-- The entry at key `k`, or `d` when the key is not listed. -/
def look {α : Type} (d : α) (k : Nat) : Tab α → α
  | [] => d
  | (j, v) :: t => if j = k then v else look d k t

/-- The table with `v` at key `k`; keys stay in rising order. -/
def put {α : Type} (k : Nat) (v : α) : Tab α → Tab α
  | [] => [(k, v)]
  | (j, w) :: t =>
    if k < j then (k, v) :: (j, w) :: t
    else if j = k then (k, v) :: t
    else (j, w) :: put k v t

/-- The table with `f` applied to the entry at key `k`. -/
def upd {α : Type} (d : α) (k : Nat) (f : α → α) (t : Tab α) : Tab α := put k (f (look d k t)) t

/-- The table without key `k`. -/
def del {α : Type} (k : Nat) (t : Tab α) : Tab α := t.filter (fun e => e.1 != k)

/-- The keys listed. -/
def keysOf {α : Type} (t : Tab α) : List Nat := t.map Prod.fst

/-- The byte at address `a`; an unlisted address reads `d`. -/
def memGet (d : Byte) (a : Nat) : Memory → Byte
  | [] => d
  | (b, v) :: m => if b = a then v else memGet d a m

/-- The memory with `v` at address `a`, where an unlisted address reads `d`: rising addresses, no entry equal to `d`. -/
def memPut (d : Byte) (a : Nat) (v : Byte) : Memory → Memory
  | [] => if v = d then [] else [(a, v)]
  | (b, w) :: m =>
    if a < b then (if v = d then (b, w) :: m else (a, v) :: (b, w) :: m)
    else if b = a then (if v = d then m else (a, v) :: m)
    else (b, w) :: memPut d a v m

/-- The canonical form of a memory whose unlisted addresses read by `dflt`: addresses strictly rising, and no entry equal
to what an unlisted address reads as. -/
def Memory.wf (dflt : Nat → Byte) : Memory → Bool
  | [] => true
  | (a, v) :: m => v != dflt a && (match m with | [] => true | (b, _) :: _ => decide (a < b)) && Memory.wf dflt m

/-- The memory with every byte of `lo` up to `hi` at the value an unlisted address reads as. -/
def memClear (lo hi : Nat) (m : Memory) : Memory := m.filter (fun c => decide (c.1 < lo ∨ hi ≤ c.1))

/-- The memory with the bytes of `lo` up to `hi` replaced by the cells `new`, which lie there. -/
def memSplice (lo hi : Nat) (new m : Memory) : Memory :=
  m.filter (fun c => decide (c.1 < lo)) ++ new ++ m.filter (fun c => decide (hi ≤ c.1))

/-- `x` put in before the first entry that it may stand before. -/
def insertBy {α : Type} (le : α → α → Bool) (x : α) : List α → List α
  | [] => [x]
  | y :: l => if le x y then x :: y :: l else y :: insertBy le x l

/-- The list in order, entries that tie keeping the order they had. -/
def sortBy {α : Type} (le : α → α → Bool) : List α → List α
  | [] => []
  | x :: l => insertBy le x (sortBy le l)

end Sys2Proof.Machine
end

