-- ==== Sys2Proof/Machine/Bytes.lean ====
section
/-!
DEFINITION. Byte order and bit fields (R12): numbers as bytes, least or most significant first, and fields of a word.
-/
namespace Sys2Proof.Machine

/-- `n` bytes of `x`, least significant first. -/
def le : Nat → Nat → List Byte
  | 0, _ => []
  | n + 1, x => BitVec.ofNat 8 x :: le n (x / 256)

/-- `n` bytes of `x`, most significant first. -/
def be (n x : Nat) : List Byte := (le n x).reverse

/-- The number that bytes spell, least significant first. -/
def ofLe : List Byte → Nat
  | [] => 0
  | b :: t => b.toNat + 256 * ofLe t

/-- The number that bytes spell, most significant first. -/
def ofBe (l : List Byte) : Nat := ofLe l.reverse

/-- `n` bytes of `l` from offset `o`. -/
def slice (o n : Nat) (l : List Byte) : List Byte := (l.drop o).take n

/-- The number at bytes `o` to `o + n - 1`, least significant first. -/
def leAt (o n : Nat) (l : List Byte) : Nat := ofLe (slice o n l)

/-- The number at bytes `o` to `o + n - 1`, most significant first. -/
def beAt (o n : Nat) (l : List Byte) : Nat := ofBe (slice o n l)

/-- Zero bytes. -/
def zeros (n : Nat) : List Byte := List.replicate n 0

/-- Bits `hi` down to `lo` of a number. -/
def bits (hi lo x : Nat) : Nat := (x / 2 ^ lo) % 2 ^ (hi - lo + 1)

/-- Bit `i` of a number. -/
def bitAt (i x : Nat) : Bool := x.testBit i

/-- A Bool as 0 or 1. -/
def b2n (b : Bool) : Nat := if b then 1 else 0

/-- A word from a number. -/
def w32 (x : Nat) : Word := BitVec.ofNat 32 x

/-- A word from an integer, two's complement. -/
def wInt (x : Int) : Word := BitVec.ofInt 32 x

/-- The two's complement value of the low `n` bits of `x`. -/
def signed (n x : Nat) : Int := if x % 2 ^ n < 2 ^ (n - 1) then ((x % 2 ^ n : Nat) : Int) else ((x % 2 ^ n : Nat) : Int) - (2 ^ n : Nat)

/-- The bits that are set, each at its place. -/
def packBits (l : List (Nat × Bool)) : Nat := l.foldl (fun x p => x + (if p.2 then 2 ^ p.1 else 0)) 0

/-- A count that saturates. -/
def sat (m x : Nat) : Nat := min m x

/-- Rounds `x` up to a multiple of `m`. -/
def roundUp (m x : Nat) : Nat := (x + m - 1) / m * m

/-- Whether ranges (offset, length) cover every position from `pos` to below `total`, looking through `fuel` of them. -/
def covered : Nat → List (Nat × Nat) → Nat → Nat → Bool
  | 0, _, pos, total => decide (total ≤ pos)
  | fuel + 1, rs, pos, total =>
    if total ≤ pos then true
    else match rs.find? (fun r => decide (r.1 ≤ pos ∧ pos < r.1 + r.2)) with
      | none => false
      | some r => covered fuel rs (r.1 + r.2) total

/-- Whether ranges cover 0 to below `total`. -/
def coversAll (rs : List (Nat × Nat)) (total : Nat) : Bool := covered (rs.length + 1) rs 0 total

end Sys2Proof.Machine
end

