-- ==== Sys2Proof/Machine/Crypto.lean ====
section
/-!
DEFINITION. The checks and hashes the spec names by their standards: CRC-32C and CRC-32K (R128, R259), SHA-256 (FIPS 180-4),
AES-128 and its GCM and GMAC modes (FIPS 197, NIST SP 800-38D; R269).
-/
namespace Sys2Proof.Machine

/-- `f` applied `n` times. -/
def iter {α : Type} (f : α → α) : Nat → α → α
  | 0, x => x
  | n + 1, x => iter f n (f x)

/-- One byte into CRC-32C, reflected, polynomial 0x1EDC_6F41 (R259). -/
def crcCFeed (crc : Word) (b : Byte) : Word :=
  iter (fun c : Word => if c.getLsbD 0 then (c >>> 1) ^^^ 0x82F63B78 else c >>> 1) 8 (crc ^^^ b.setWidth 32)

/-- One byte into CRC-32K, polynomial 0x741B_8CD7, not reflected (R259). -/
def crcKFeed (crc : Word) (b : Byte) : Word :=
  iter (fun c : Word => if c.getLsbD 31 then (c <<< 1) ^^^ 0x741B8CD7 else c <<< 1) 8 (crc ^^^ (b.setWidth 32 <<< 24))

/-- CRC-32C of bytes (R128, R259). -/
def crc32c (l : List Byte) : Word := (l.foldl crcCFeed 0xFFFFFFFF) ^^^ 0xFFFFFFFF

/-- CRC-32K of bytes (R259). -/
def crc32k (l : List Byte) : Word := (l.foldl crcKFeed 0xFFFFFFFF) ^^^ 0xFFFFFFFF

/-! ### SHA-256 -/

/-- The 64 round constants. -/
def shaK : List Word :=
  [0x428a2f98, 0x71374491, 0xb5c0fbcf, 0xe9b5dba5, 0x3956c25b, 0x59f111f1, 0x923f82a4, 0xab1c5ed5,
   0xd807aa98, 0x12835b01, 0x243185be, 0x550c7dc3, 0x72be5d74, 0x80deb1fe, 0x9bdc06a7, 0xc19bf174] ++
  [0xe49b69c1, 0xefbe4786, 0x0fc19dc6, 0x240ca1cc, 0x2de92c6f, 0x4a7484aa, 0x5cb0a9dc, 0x76f988da,
   0x983e5152, 0xa831c66d, 0xb00327c8, 0xbf597fc7, 0xc6e00bf3, 0xd5a79147, 0x06ca6351, 0x14292967] ++
  [0x27b70a85, 0x2e1b2138, 0x4d2c6dfc, 0x53380d13, 0x650a7354, 0x766a0abb, 0x81c2c92e, 0x92722c85,
   0xa2bfe8a1, 0xa81a664b, 0xc24b8b70, 0xc76c51a3, 0xd192e819, 0xd6990624, 0xf40e3585, 0x106aa070] ++
  [0x19a4c116, 0x1e376c08, 0x2748774c, 0x34b0bcb5, 0x391c0cb3, 0x4ed8aa4a, 0x5b9cca4f, 0x682e6ff3,
   0x748f82ee, 0x78a5636f, 0x84c87814, 0x8cc70208, 0x90befffa, 0xa4506ceb, 0xbef9a3f7, 0xc67178f2]

/-- The eight working variables. -/
structure Sha where
  a : Word := 0x6a09e667
  b : Word := 0xbb67ae85
  c : Word := 0x3c6ef372
  d : Word := 0xa54ff53a
  e : Word := 0x510e527f
  f : Word := 0x9b05688c
  g : Word := 0x1f83d9ab
  h : Word := 0x5be0cd19

def shaRound (v : Sha) (kw : Word) : Sha :=
  let s1 := v.e.rotateRight 6 ^^^ v.e.rotateRight 11 ^^^ v.e.rotateRight 25
  let ch := (v.e &&& v.f) ^^^ (~~~v.e &&& v.g)
  let t1 := v.h + s1 + ch + kw
  let s0 := v.a.rotateRight 2 ^^^ v.a.rotateRight 13 ^^^ v.a.rotateRight 22
  let mj := (v.a &&& v.b) ^^^ (v.a &&& v.c) ^^^ (v.b &&& v.c)
  { a := t1 + (s0 + mj), b := v.a, c := v.b, d := v.c, e := v.d + t1, f := v.e, g := v.f, h := v.g }

/-- The message schedule, newest word first: `n` more words. -/
def shaExpand : Nat → List Word → List Word
  | 0, w => w
  | n + 1, w =>
    let x := w.getD 1 0
    let y := w.getD 14 0
    let s1 := x.rotateRight 17 ^^^ x.rotateRight 19 ^^^ (x >>> 10)
    let s0 := y.rotateRight 7 ^^^ y.rotateRight 18 ^^^ (y >>> 3)
    shaExpand n ((s1 + w.getD 6 0 + s0 + w.getD 15 0) :: w)

/-- Big-endian words of bytes, `n` of them. -/
def beWords : Nat → List Byte → List Word
  | 0, _ => []
  | n + 1, l => BitVec.ofNat 32 (ofBe (l.take 4)) :: beWords n (l.drop 4)

def shaBlock (v : Sha) (block : List Byte) : Sha :=
  let w := (shaExpand 48 (beWords 16 block).reverse).reverse
  let r := (List.zipWith (· + ·) shaK w).foldl shaRound v
  { a := v.a + r.a, b := v.b + r.b, c := v.c + r.c, d := v.d + r.d, e := v.e + r.e, f := v.f + r.f, g := v.g + r.g,
    h := v.h + r.h }

def shaBlocks : Nat → Sha → List Byte → Sha
  | 0, v, _ => v
  | n + 1, v, l => shaBlocks n (shaBlock v (l.take 64)) (l.drop 64)

/-- SHA-256 of bytes (FIPS 180-4). -/
def sha256 (m : List Byte) : List Byte :=
  let len := m.length
  let padded := m ++ [0x80] ++ zeros ((119 - len % 64) % 64) ++ be 8 (8 * len)
  let v := shaBlocks (padded.length / 64) {} padded
  [v.a, v.b, v.c, v.d, v.e, v.f, v.g, v.h].flatMap (fun x => be 4 x.toNat)

/-! ### AES-128 and GCM -/

/-- Product in GF(2^8) modulo x^8 + x^4 + x^3 + x + 1. -/
def gmul8 (x y : Byte) : Byte :=
  ((List.range 8).foldl (fun (acc : Byte × Byte) i =>
    (if y.getLsbD i then acc.1 ^^^ acc.2 else acc.1,
     if acc.2.getLsbD 7 then (acc.2 <<< 1) ^^^ 0x1B else acc.2 <<< 1)) (0, x)).1

/-- The S-box: the inverse in GF(2^8), x^254, then the affine map. -/
def sbox (x : Byte) : Byte :=
  let x2 := gmul8 x x
  let x4 := gmul8 x2 x2
  let x8 := gmul8 x4 x4
  let x16 := gmul8 x8 x8
  let x32 := gmul8 x16 x16
  let x64 := gmul8 x32 x32
  let x128 := gmul8 x64 x64
  let i := gmul8 x128 (gmul8 x64 (gmul8 x32 (gmul8 x16 (gmul8 x8 (gmul8 x4 x2)))))
  i ^^^ i.rotateLeft 1 ^^^ i.rotateLeft 2 ^^^ i.rotateLeft 3 ^^^ i.rotateLeft 4 ^^^ 0x63

def xorBytes (a b : List Byte) : List Byte := List.zipWith (· ^^^ ·) a b

/-- The next round key from the last. -/
def aesNextKey (k : List Byte) (rcon : Byte) : List Byte :=
  let t := ((k.drop 13).take 3 ++ (k.drop 12).take 1).map sbox
  let w0 := xorBytes (k.take 4) (xorBytes t [rcon, 0, 0, 0])
  let w1 := xorBytes w0 ((k.drop 4).take 4)
  let w2 := xorBytes w1 ((k.drop 8).take 4)
  w0 ++ w1 ++ w2 ++ xorBytes w2 ((k.drop 12).take 4)

def aesShift (s : List Byte) : List Byte :=
  [0, 5, 10, 15, 4, 9, 14, 3, 8, 13, 2, 7, 12, 1, 6, 11].map (fun i => s.getD i 0)

def aesMixCol (c : List Byte) : List Byte :=
  (List.range 4).map (fun r => gmul8 2 (c.getD r 0) ^^^ gmul8 3 (c.getD ((r + 1) % 4) 0) ^^^ c.getD ((r + 2) % 4) 0
    ^^^ c.getD ((r + 3) % 4) 0)

def aesMix (s : List Byte) : List Byte :=
  (List.range 4).flatMap (fun c => aesMixCol ((s.drop (4 * c)).take 4))

/-- AES-128 of one block (FIPS 197). -/
def aes128 (key block : List Byte) : List Byte :=
  let mid := [0x01, 0x02, 0x04, 0x08, 0x10, 0x20, 0x40, 0x80, 0x1B].foldl (fun (p : List Byte × List Byte) rc =>
    let k := aesNextKey p.2 rc
    (xorBytes (aesMix (aesShift (p.1.map sbox))) k, k)) (xorBytes block key, key)
  xorBytes (aesShift (mid.1.map sbox)) (aesNextKey mid.2 0x36)

/-- Product in GF(2^128) as GCM orders its bits: bit 127 of the number is the first bit of the block. -/
def gmul128 (x y : BitVec 128) : BitVec 128 :=
  ((List.range 128).foldl (fun (acc : BitVec 128 × BitVec 128) i =>
    (if x.getLsbD (127 - i) then acc.1 ^^^ acc.2 else acc.1,
     if acc.2.getLsbD 0 then (acc.2 >>> 1) ^^^ 0xE1000000000000000000000000000000#128 else acc.2 >>> 1)) (0, y)).1

def pad16 (l : List Byte) : List Byte := l ++ zeros ((16 - l.length % 16) % 16)

def ghashBlocks : Nat → BitVec 128 → BitVec 128 → List Byte → BitVec 128
  | 0, _, y, _ => y
  | n + 1, h, y, l => ghashBlocks n h (gmul128 (y ^^^ BitVec.ofNat 128 (ofBe (l.take 16))) h) (l.drop 16)

/-- The key stream of GCM from counter `c` on, `n` blocks. -/
def gcmStream (key iv : List Byte) : Nat → Nat → List Byte
  | 0, _ => []
  | n + 1, c => aes128 key (iv ++ be 4 c) ++ gcmStream key iv n (c + 1)

/-- GCM's cipher text (or plain text again) of `data` (SP 800-38D, 96-bit IV). -/
def gcmCrypt (key iv data : List Byte) : List Byte :=
  xorBytes data (gcmStream key iv ((data.length + 15) / 16) 2)

/-- GCM's tag over additional data and cipher text. -/
def gcmTag (key iv aad cipher : List Byte) : List Byte :=
  let h := BitVec.ofNat 128 (ofBe (aes128 key (zeros 16)))
  let all := pad16 aad ++ pad16 cipher ++ be 8 (8 * aad.length) ++ be 8 (8 * cipher.length)
  xorBytes (be 16 (ghashBlocks (all.length / 16) h 0 all).toNat) (aes128 key (iv ++ be 4 1))

end Sys2Proof.Machine
end

