-- ==== Sys2Proof/Machine/Ec.lean ====
section
/-!
DEFINITION. P-256, ECDSA and ECDH over it, HMAC and HKDF with SHA-256 (FIPS 186-4, RFC 2104, RFC 5869): the checks and keys of chapter 8.
-/
namespace Sys2Proof.Machine

/-! ### Numbers modulo a prime -/

/-- `b` to the power `e` modulo `m`, for an exponent of up to 256 bits. -/
def powMod (b e m : Nat) : Nat :=
  ((List.range 256).foldl (fun (a : Nat × Nat) i => (if e.testBit i then a.1 * a.2 % m else a.1, a.2 * a.2 % m)) (1, b % m)).1

/-- The inverse of `x` modulo the prime `m`. -/
def invMod (x m : Nat) : Nat := powMod x (m - 2) m

/-! ### The curve P-256 -/

def p256P : Nat := 0xFFFFFFFF00000001000000000000000000000000FFFFFFFFFFFFFFFFFFFFFFFF
def p256N : Nat := 0xFFFFFFFF00000000FFFFFFFFFFFFFFFFBCE6FAADA7179E84F3B9CAC2FC632551
def p256B : Nat := 0x5AC635D8AA3A93E7B3EBBD55769886BC651D06B0CC53B0F63BCE3C3E27D2604B

/-- A point of the curve: none is the point at infinity. -/
abbrev Point := Option (Nat × Nat)

/-- The generator. -/
def p256G : Point := some (0x6B17D1F2E12C4247F8BCE6E563A440F277037D812DEB33A0F4A13945D898C296,
  0x4FE342E2FE1A7F9B8EE7EB4A7C0F9E162BCE33576B315ECECBB6406837BF51F5)

/-- The coordinates are those of a point of the curve: y² = x³ − 3x + b. -/
def onCurve (x y : Nat) : Bool := decide (x < p256P ∧ y < p256P) && y * y % p256P == (x * x * x + (p256P - 3) * x + p256B) % p256P

/-- The third point of the line of slope `l` through `a` and a point with x-coordinate `x`, mirrored. -/
def chordTo (l : Nat) (a : Nat × Nat) (x : Nat) : Point :=
  let x3 := (l * l + 2 * p256P - a.1 - x) % p256P
  some (x3, (l * (a.1 + p256P - x3) + p256P - a.2) % p256P)

/-- The sum of two points. -/
def addPoint : Point → Point → Point
  | none, q => q
  | p, none => p
  | some a, some b =>
    if a.1 = b.1 then
      (if a.2 = b.2 ∧ a.2 ≠ 0 then chordTo ((3 * a.1 * a.1 + p256P - 3) * invMod (2 * a.2) p256P % p256P) a b.1 else none)
    else chordTo ((b.2 + p256P - a.2) * invMod (b.1 + p256P - a.1) p256P % p256P) a b.1

/-- `k` times a point. -/
def mulPoint (k : Nat) (p : Point) : Point :=
  ((List.range 256).foldl (fun (a : Point × Point) i => (if k.testBit i then addPoint a.1 a.2 else a.1, addPoint a.2 a.2)) (none, p)).1

/-- The point that 64 bytes spell, X then Y, if it lies on the curve. -/
def pointOf (key : List Byte) : Point :=
  let x := beAt 0 32 key
  let y := beAt 32 32 key
  if key.length = 64 ∧ onCurve x y = true then some (x, y) else none

/-! ### ECDSA and ECDH -/

/-- The signature (r, s) over the SHA-256 of `msg` verifies with the public key of 64 bytes. -/
def ecdsaOk (key msg : List Byte) (sig : Nat × Nat) : Bool :=
  match pointOf key with
  | none => false
  | some q =>
    let w := invMod sig.2 p256N
    let u := ofBe (sha256 msg) * w % p256N
    let v := sig.1 * w % p256N
    decide (1 ≤ sig.1 ∧ sig.1 < p256N ∧ 1 ≤ sig.2 ∧ sig.2 < p256N)
      && (match addPoint (mulPoint u p256G) (mulPoint v (some q)) with
          | none => false
          | some r => decide (r.1 % p256N = sig.1))

/-- The signature that a private key gives the SHA-256 of `msg` with the nonce `k`: 64 bytes, r then s. -/
def ecdsaSign (d k : Nat) (msg : List Byte) : List Byte :=
  let r := ((mulPoint k p256G).map (fun p => p.1 % p256N)).getD 0
  be 32 r ++ be 32 (invMod k p256N * ((ofBe (sha256 msg) + r * d) % p256N) % p256N)

/-- A signature of 64 bytes, r then s. -/
def rawSig (sig : List Byte) : Nat × Nat := (beAt 0 32 sig, beAt 32 32 sig)

/-- The x-coordinate that ECDH gives for a private key and a public key of 64 bytes; none for a key off the curve. -/
def ecdhX (d : Nat) (key : List Byte) : Option (List Byte) :=
  match pointOf key with
  | none => none
  | some q => (mulPoint d (some q)).map (fun r => be 32 r.1)

/-! ### HMAC and HKDF -/

/-- HMAC-SHA256 under a key of up to 64 bytes. -/
def hmac (key msg : List Byte) : List Byte :=
  let k := key ++ zeros (64 - key.length)
  sha256 (k.map (· ^^^ 0x5C) ++ sha256 (k.map (· ^^^ 0x36) ++ msg))

/-- The first 32 bytes of HKDF-SHA256 (RFC 5869). -/
def hkdf (salt ikm info : List Byte) : List Byte := hmac (hmac salt ikm) (info ++ [1])

end Sys2Proof.Machine
end

