-- ==== Sys2Proof/Machine/Cert.lean ====
section
/-!
DEFINITION. Certificates: what the device reads of DER, the fields of an X.509 certificate, and when a chain is valid (R284, R290, R291).
-/
namespace Sys2Proof.Machine

/-! ### DER -/

/-- One element: its tag, its contents, and all its bytes. -/
structure Tlv where
  tag : Nat
  body : List Byte
  raw : List Byte
  deriving DecidableEq, Repr

/-- A length in its shortest form, up to 65,535, and the bytes behind it. -/
def derLen : List Byte → Option (Nat × List Byte)
  | [] => none
  | n :: l =>
    if n.toNat < 128 then some (n.toNat, l)
    else if n = 0x81 ∧ 128 ≤ beAt 0 1 l then some (beAt 0 1 l, l.drop 1)
    else if n = 0x82 ∧ 256 ≤ beAt 0 2 l then some (beAt 0 2 l, l.drop 2)
    else none

/-- The elements that bytes hold, at most `fuel` of them; none when they are no whole number of elements with one-byte tags. -/
def derItems : Nat → List Byte → Option (List Tlv)
  | _, [] => some []
  | 0, _ => none
  | fuel + 1, t :: l =>
    match derLen l with
    | none => none
    | some (n, r) =>
      if r.length < n ∨ t &&& 0x1F = 0x1F then none
      else (derItems fuel (r.drop n)).map (fun x => { tag := t.toNat, body := r.take n, raw := t :: l.take (l.length - r.length + n) } :: x)

/-- The elements that bytes hold. -/
def derList (l : List Byte) : Option (List Tlv) := derItems l.length l

/-- The elements within a constructed element of the given tag. -/
def Tlv.inside (tag : Nat) (t : Tlv) : Option (List Tlv) := if t.tag = tag then derList t.body else none

/-- A positive INTEGER, or zero. -/
def Tlv.uint (t : Tlv) : Option Nat := if t.tag = 0x02 ∧ t.body ≠ [] ∧ beAt 0 1 t.body < 128 then some (ofBe t.body) else none

/-- BOOLEAN. -/
def Tlv.bool (t : Tlv) : Option Bool := if t.tag = 0x01 ∧ t.body.length = 1 then some (t.body != [0]) else none

/-- An ECDSA signature in DER: SEQUENCE of r and s. -/
def derSig (l : List Byte) : Option (Nat × Nat) :=
  match derList l with
  | some [t] =>
    match t.inside 0x30 with
    | some [r, s] => (r.uint).bind (fun r => (s.uint).map (fun s => (r, s)))
    | _ => none
  | _ => none

/-! ### A certificate (R290) -/

/-- An extension. -/
structure Ext where
  oid : List Byte
  critical : Bool
  value : List Byte
  deriving DecidableEq, Repr

/-- The fields that the device reads. -/
structure Cert where
  /-- The signed part and the signature over it. -/
  tbs : List Byte
  sig : Nat × Nat
  serial : List Byte
  issuer : List Byte
  subject : List Byte
  /-- The title attributes of the subject: tag and value. -/
  titles : List (Nat × List Byte)
  key : List Byte
  exts : List Ext
  deriving DecidableEq, Repr

/-- AlgorithmIdentifier ecdsa-with-SHA256. -/
def ecdsaSha256 : List Byte := [0x30, 0x0A, 0x06, 0x08, 0x2A, 0x86, 0x48, 0xCE, 0x3D, 0x04, 0x03, 0x02]

/-- The start of a subjectPublicKeyInfo with id-ecPublicKey on prime256v1 and an uncompressed point. -/
def p256Spki : List Byte :=
  [0x30, 0x59, 0x30, 0x13, 0x06, 0x07, 0x2A, 0x86, 0x48, 0xCE, 0x3D, 0x02, 0x01, 0x06, 0x08, 0x2A, 0x86, 0x48, 0xCE, 0x3D, 0x03, 0x01,
   0x07, 0x03, 0x42, 0x00, 0x04]

/-- The object identifiers of the title attribute, of basicConstraints and of keyUsage. -/
def oidTitle : List Byte := [0x55, 0x04, 0x0C]
def oidBasic : List Byte := [0x55, 0x1D, 0x13]
def oidUsage : List Byte := [0x55, 0x1D, 0x0F]

/-- The title attributes of a Name: a SEQUENCE of SETs of attributes. -/
def nameTitles (name : Tlv) : List (Nat × List Byte) :=
  ((name.inside 0x30).getD []).flatMap (fun set => ((set.inside 0x31).getD []).filterMap (fun a =>
    match a.inside 0x30 with
    | some [o, v] => if o.tag = 0x06 ∧ o.body = oidTitle then some (v.tag, v.body) else none
    | _ => none))

def parseExt (t : Tlv) : Option Ext :=
  match t.inside 0x30 with
  | some [o, v] => if o.tag = 0x06 ∧ v.tag = 0x04 then some { oid := o.body, critical := false, value := v.body } else none
  | some [o, c, v] =>
    if o.tag = 0x06 ∧ v.tag = 0x04 then (c.bool).map (fun c => { oid := o.body, critical := c, value := v.body }) else none
  | _ => none

/-- The extensions among the optional elements at the end of the signed part. -/
def parseExts (rest : List Tlv) : Option (List Ext) :=
  match rest.find? (fun t => t.tag == 0xA3) with
  | none => some []
  | some t =>
    match t.inside 0xA3 with
    | some [l] => (l.inside 0x30).bind (fun es => es.mapM parseExt)
    | _ => none

/-- The fields of a certificate, when it has the form of R290: at most 1,536 bytes, version v3, a serial number of 1 to 20 bytes,
ecdsa-with-SHA256 in both places, a public key on prime256v1. -/
def parseCert (der : List Byte) : Option Cert :=
  match (derList der).bind (fun l => match l with | [c] => c.inside 0x30 | _ => none) with
  | some [tbs, alg, sig] =>
    match tbs.inside 0x30 with
    | some (version :: serial :: alg2 :: issuer :: _validity :: subject :: spki :: rest) =>
      if der.length ≤ 1_536 ∧ version.raw = [0xA0, 0x03, 0x02, 0x01, 0x02] ∧ serial.tag = 0x02 ∧ 1 ≤ serial.body.length ∧ serial.body.length ≤ 20
          ∧ alg.raw = ecdsaSha256 ∧ alg2.raw = ecdsaSha256 ∧ spki.raw.length = 91 ∧ spki.raw.take 27 = p256Spki
          ∧ sig.tag = 0x03 ∧ sig.body.take 1 = [0] then
        (derSig (sig.body.drop 1)).bind (fun rs => (parseExts rest).map (fun es =>
          { tbs := tbs.raw, sig := rs, serial := serial.body, issuer := issuer.raw, subject := subject.raw, titles := nameTitles subject
            key := spki.raw.drop 27, exts := es }))
      else none
    | _ => none
  | _ => none

/-! ### Constraints, usage and roles -/

/-- basicConstraints: cA and pathLenConstraint; absent is cA false. None when the extension does not parse. -/
def Cert.basic (c : Cert) : Option (Bool × Option Nat) :=
  match c.exts.find? (fun e => e.oid == oidBasic) with
  | none => some (false, none)
  | some e =>
    match (derList e.value).bind (fun l => match l with | [t] => t.inside 0x30 | _ => none) with
    | some [] => some (false, none)
    | some [a] => (a.bool).map (fun a => (a, none))
    | some [a, n] => (a.bool).bind (fun a => (n.uint).map (fun n => (a, some n)))
    | _ => none

/-- The first byte of keyUsage: digitalSignature is its bit 7, keyCertSign its bit 2. -/
def Cert.usage (c : Cert) : Byte :=
  match c.exts.find? (fun e => e.oid == oidUsage) with
  | none => 0
  | some e =>
    match derList e.value with
    | some [t] => if t.tag = 0x03 then t.body.getD 1 0 else 0
    | _ => 0

/-- Every critical extension is one that the device reads. -/
def Cert.criticalOk (c : Cert) : Bool := c.exts.all (fun e => !e.critical || e.oid == oidBasic || e.oid == oidUsage)

/-- The certificate in place `i` of its chain is a leaf, or an intermediate that may stand there. -/
def Cert.placeOk (c : Cert) (i : Nat) : Bool :=
  c.criticalOk && (match c.basic with
    | none => false
    | some (ca, len) =>
      if i = 0 then !ca && c.usage.getLsbD 7
      else ca && c.usage.getLsbD 2 && (match len with | none => true | some n => decide (i ≤ n + 1)))

/-- The role bit of a letter (R284). -/
def roleBit (b : Byte) : Option Nat :=
  if b = 0x4F then some 0 else if b = 0x42 then some 1 else if b = 0x4D then some 2 else if b = 0x45 then some 3
  else if b = 0x49 then some 4 else if b = 0x55 then some 5 else none

/-- The roles of a leaf: one title, a PrintableString "ROLES:" with 1 to 6 distinct letters. -/
def Cert.roles (c : Cert) : Option (BitVec 6) :=
  match c.titles with
  | [(0x13, v)] =>
    let letters := v.drop 6
    if v.take 6 = [0x52, 0x4F, 0x4C, 0x45, 0x53, 0x3A] ∧ 1 ≤ letters.length ∧ letters.length ≤ 6 ∧ letters.Nodup then
      (letters.mapM roleBit).map (fun rs => rs.foldl (fun r k => r ||| BitVec.ofNat 6 (2 ^ k)) 0)
    else none
  | _ => none

/-! ### A chain (R290, R291, R301) -/

/-- Each certificate is issued by the next one, and the topmost is signed with the key `root`. -/
def linked (root : List Byte) : List Cert → Bool
  | [] => false
  | [c] => ecdsaOk root c.tbs c.sig
  | c :: d :: l => c.issuer == d.subject && ecdsaOk d.key c.tbs c.sig && linked root (d :: l)

/-- For each certificate the SHA-256 of its issuer's public key, and its serial number, by which a revocation list names it (R291). -/
def certIds (root : List Byte) : List Cert → List (List Byte × List Byte)
  | [] => []
  | [c] => [(sha256 root, c.serial)]
  | c :: d :: l => (sha256 d.key, c.serial) :: certIds root (d :: l)

/-- What a valid chain says of its leaf: roles, SHA-256 of the certificate, public key, and the names of its certificates for revocation. -/
structure Signer where
  roles : BitVec 6
  hash : List Byte
  key : List Byte
  ids : List (List Byte × List Byte)
  deriving DecidableEq, Repr

/-- The leaf of a chain of at most `most` certificates, leaf first, that is valid up to the key `root` (R290); revocation is another
question. -/
def chainLeaf (most : Nat) (root : List Byte) (ders : List (List Byte)) : Option Signer :=
  match ders.mapM parseCert with
  | none => none
  | some [] => none
  | some (leaf :: more) =>
    let cs := leaf :: more
    if cs.length ≤ most ∧ (cs.zipIdx).all (fun p => p.1.placeOk p.2) = true ∧ linked root cs = true then
      leaf.roles.map (fun r => { roles := r, hash := sha256 (ders.headD []), key := leaf.key, ids := certIds root cs })
    else none

/-- The certificates of a signer chain, each behind its length in 4 bytes, up to the padding; none when it is not of that form (R301). -/
def chainCerts : Nat → List Byte → Option (List (List Byte))
  | 0, l => if l.length < 16 ∧ l.all (· == 0) = true then some [] else none
  | n + 1, l =>
    let k := beAt 0 4 l
    if l.length < 16 ∧ l.all (· == 0) = true then some []
    else if k = 0 ∨ l.length < 4 + k then none
    else (chainCerts n (l.drop (4 + k))).map (slice 4 k l :: ·)

end Sys2Proof.Machine
end

