-- ==== Sys2Proof/Machine/Ops.lean ====
section
/-!
DEFINITION. The shared operations of every family: free values, time, control registers, the logic SRAM, events and records.
-/
namespace Sys2Proof.Machine

/-- The outcome of a command. -/
abbrev Outcome := Host.Outcome State Fault Refusal

/-! ### Free values -/

/-- Draws a free value of `w` bits: what the spec leaves open (log entry 3). -/
def State.draw (w : Nat) (s : State) : BitVec w × State :=
  (Config.freeBits w s.free, { s with free := s.free + 1 })

/-- A quotient rounded towards minus infinity, or up where the spec states no rounding: a free choice of one unit in the
last place when it is not exact (log entry 3). -/
def divFree (num : Int) (den : Nat) (s : State) : Int × State :=
  let q := num.fdiv den
  if num = q * den then (q, s)
  else
    let d := s.draw 1
    (q + d.1.toNat, d.2)

/-- Draws `n` free bytes. -/
def drawBytes : Nat → State → List Byte × State
  | 0, s => ([], s)
  | n + 1, s =>
    let p := s.draw 8
    let q := drawBytes n p.2
    (p.1 :: q.1, q.2)

/-! ### Time -/

/-- DTIME in ns (R40). -/
def State.now (s : State) : Nat := s.time.t6 / 6

/-- The clock domains that hold a replica of DTIME (R40). -/
inductive ClockDomain where
  | cclk | sclk | mclk | nclk | pclk | kclk
  deriving DecidableEq, Repr

/-- The domain's place in the table of R33. -/
def ClockDomain.index : ClockDomain → Nat
  | .cclk => 0 | .sclk => 1 | .mclk => 2 | .nclk => 3 | .pclk => 4 | .kclk => 5

/-- The replica of DTIME in domain `d` at DTIME `ns`: no more than 10 ns from DTIME (R40); where in that bound is a free value (log entry 86). -/
def replicaAt (d : ClockDomain) (ns : Nat) : Nat := ((ns : Int) + max (-10) (min 10 (Config.replicaError d.index ns))).toNat

/-- The replica of DTIME in domain `d` now. -/
def State.replica (d : ClockDomain) (s : State) : Nat := replicaAt d s.now

/-- DTIME `k` whole ACLK periods after the entry to STABLED, rounded down (R41). -/
def aclkTime (entry k : Nat) : Nat := entry + k * 30_517_578_125 / 1_000_000

/-- Whole ACLK periods of 1 / 32,768 s in `ns` (R33, R41). -/
def aclkPeriods (ns : Nat) : Nat := ns * 32_768 / 1_000_000_000

/-- In STABLED, DTIME is what the always-on part's count of ACLK periods makes of it (R41). -/
def countAclk (k : Nat) (s : State) : State :=
  let n := max s.keep.stblAclk k
  { s with
    keep := { s.keep with stblAclk := n }
    time := { s.time with t6 := max s.time.t6 (6 * aclkTime s.keep.stblEntry n) } }

/-- Time moves forward to DTIME `ns`, never back (R41); in STABLED by whole ACLK periods. -/
def advance (ns : Nat) (s : State) : State :=
  if s.keep.mode = .stabled then countAclk (aclkPeriods (ns - s.keep.stblEntry)) s
  else { s with time := { s.time with t6 := max s.time.t6 (6 * ns) } }

/-- One CCLK cycle: DTIME gains five sixths of a nanosecond (R33, R40); in STABLED there is none. -/
def tickCclk (s : State) : State :=
  if s.keep.mode = .stabled then s else { s with time := { s.time with t6 := s.time.t6 + 5 } }

/-- The number of CCLK cycles since DTIME 0. -/
def State.cclk (s : State) : Nat := s.time.t6 / 5

/-- Wall time in ns (R43): it counts up from its last setting. -/
def State.wall (s : State) : Nat := s.time.wallBase + (s.now - s.time.wallRef)

/-! ### Options (R2) -/

def State.axesFitted (s : State) : Nat := 16 * min 2 (bits 2 1 s.fused.fit.toNat)

/-- Field blocks fitted: N none, H two, F four. -/
def State.blocksFitted (s : State) : Nat := 2 * min 2 (bits 4 3 s.fused.fit.toNat)

def State.clustersFitted (s : State) : Nat := if bitAt 0 s.fused.fit.toNat then 8 else 4

def State.coresFitted (s : State) : Nat := 8 * s.clustersFitted

/-- The 64 GiB journal store. -/
def State.bigStore (s : State) : Bool := bitAt 5 s.fused.fit.toNat

/-- Grade E. -/
def State.gradeE (s : State) : Bool := bitAt 6 s.fused.fit.toNat

/-- Units of the flacon, and of the keeper log (R440, R441, R468). -/
def State.flaconUnits (s : State) : Nat := if s.bigStore then 12_288 else 3_072

def State.klogUnits (s : State) : Nat := if s.bigStore then 256 else 64

/-! ### Control registers that hold what was written -/

/-- Whether `a` is the element of an array at `base` with `n` elements `stride` apart. -/
def isElem (base stride n a : Nat) : Bool := decide (base ≤ a ∧ (a - base) % stride = 0 ∧ (a - base) / stride < n)

/-- Whether `a` is such an element in the registers of a field block. -/
def isFldElem (base stride n a : Nat) : Bool :=
  decide (0x0300_0000 ≤ a ∧ a < 0x0304_0000) && isElem base stride n (0x0300_0000 + a % 0x1_0000)

/-- Reset values of the RW and RWC registers that are not zero (R547; the fused MAC addresses are in `ctlReset`). -/
def rwReset (a : Nat) : Word :=
  if isElem 0x0700_1000 0x10 255 a then 0x10F
  else if isElem 0x0700_1004 0x10 255 a then 1
  else if isElem 0x0700_0408 0x40 4 a then 0x3E8
  else if isFldElem 0x0300_0000 4 1 a then 0x4000
  else if isFldElem 0x0300_0100 4 24 a then 0x20
  else if isFldElem 0x0300_0300 4 8 a then 0x1005
  else if isFldElem 0x0300_0400 0x10 4 a then 0x590C8064
  else if isFldElem 0x0300_0404 0x10 4 a then 0x7F7F
  else if isElem 0x0200_4004 0x20 8 a then 0x0001_0001
  else if a = 0x0600_0000 then 1
  else if a = 0x0600_0020 then 0x3C
  else if a = 0x0800_0308 then 0x7F7F7F7F
  else if isElem 0x0100_0030 0x100 32 a then 0x7F
  else if isElem 0x0100_0020 0x100 32 a then 0x7F0000
  else if isElem 0x0109_0000 0x10 4 a then 0x1A1388
  else if a = 0x0480_0000 then 0x3000
  else if a = 0x0410_0000 then 0xBC0C0000
  else 0

/-- The reset value of the register at `a`, with the fused MAC address of port p in NET_PORT_MACLO and MACHI. -/
def ctlReset (s : State) (a : Nat) : Word :=
  if isElem 0x0400_0008 0x100 4 a then (look 0 ((a - 0x0400_0008) / 0x100) s.fused.macs).setWidth 32
  else if isElem 0x0400_000C 0x100 4 a then ((look 0 ((a - 0x0400_000C) / 0x100) s.fused.macs) >>> 32).setWidth 32
  else rwReset a

/-- What the register at control address `a` holds. -/
def ctlGet (a : Nat) (s : State) : Word := look (ctlReset s a) a s.ctl

/-- The register at `a` takes `v`. -/
def ctlSet (a : Nat) (v : Word) (s : State) : State := { s with ctl := put a v s.ctl }

/-- Field [hi:lo] of the register at `a`. -/
def cf (a hi lo : Nat) (s : State) : Nat := bits hi lo (ctlGet a s).toNat

/-- Bit `i` of the register at `a`. -/
def cbit (a i : Nat) (s : State) : Bool := (ctlGet a s).toNat.testBit i

/-! ### Logic SRAM (R97, R574) -/

/-- What an unlisted byte of the logic SRAM reads as: zero in Top form, so all ones in the two complemented copies
(R95; no reset value is stated, log entry 5). -/
def sramDefault (a : Nat) : Byte :=
  if (0x0080_0000 ≤ a ∧ a < 0x0100_0000) ∨ (0x0240_0000 ≤ a ∧ a < 0x0300_0000) then 0xFF else 0

/-- The word at byte offset `a` of the logic SRAM, little-endian. -/
def sramWord (a : Nat) (s : State) : Word :=
  BitVec.ofNat 32 (ofLe ((List.range 4).map (fun i => memGet (sramDefault (a + i)) (a + i) s.sram)))

/-- A memory with the word `v` at byte offset `a`, little-endian. -/
def memPutWord (a : Nat) (v : Word) (m : Memory) : Memory :=
  (List.range 4).foldl (fun m i => memPut (sramDefault (a + i)) (a + i) (BitVec.ofNat 8 (v.toNat / 256 ^ i)) m) m

/-- Writes the word at byte offset `a` of the logic SRAM. -/
def sramSet (a : Nat) (v : Word) (s : State) : State := { s with sram := memPutWord a v s.sram }

/-- `n` words from byte offset `a`. -/
def sramWords (a n : Nat) (s : State) : List Word := (List.range n).map (fun i => sramWord (a + 4 * i) s)

/-- Writes words from byte offset `a` on. -/
def sramSetWords (a : Nat) : List Word → State → State
  | [], s => s
  | w :: ws, s => sramSetWords (a + 4) ws (sramSet a w s)

/-- The cells of the word `v` at byte offset `a` that differ from what an unlisted byte reads as. -/
def wordCells (a : Nat) (v : Word) : Memory :=
  (List.range 4).filterMap (fun i =>
    let b : Byte := BitVec.ofNat 8 (v.toNat / 256 ^ i)
    if b = sramDefault (a + i) then none else some (a + i, b))

/-- The cells of words that follow one another from byte offset `a` on. -/
def areaCells (a : Nat) : List Word → Memory
  | [] => []
  | w :: ws => wordCells a w ++ areaCells (a + 4) ws

/-- The words from byte offset `a` on become `ws`. -/
def sramArea (a : Nat) (ws : List Word) (s : State) : State :=
  { s with sram := memSplice a (a + 4 * ws.length) (areaCells a ws) s.sram }

/-- Clears bytes of single plain spaces to zero. -/
def sramClear (lo hi : Nat) (s : State) : State := { s with sram := memClear lo hi s.sram }

def imageInBase : Nat := 0x0340_0000
def imageOutBase : Nat := 0x0344_0000
def inboxBase (b : Nat) : Nat := 0x0348_0000 + 0x20_0000 * b
def outboxBase (b : Nat) : Nat := 0x0388_0000 + 0x20_0000 * b
def scratchBase (c : Nat) : Nat := 0x03C8_0000 + 0xE000 * c
def progBase : Nat := 0x0300_0000

/-- IMAGE_IN and IMAGE_OUT by word index. -/
def imageIn (i : Nat) (s : State) : Word := sramWord (imageInBase + 4 * i) s
def imageInSet (i : Nat) (v : Word) (s : State) : State := sramSet (imageInBase + 4 * i) v s
def imageOut (i : Nat) (s : State) : Word := sramWord (imageOutBase + 4 * i) s

/-- IMAGE_OUT word `i` as released: an unwritten word is 0 (R107). -/
def outWord (i : Nat) (s : State) : Word := if s.seq.outWritten.contains i then imageOut i s else 0

/-! ### Events -/

/-- An edge of event source `src` toggles on its way to the event controller (R491). -/
def raise (src : Nat) (s : State) : State := { s with svc := { s.svc with toggles := s.svc.toggles ++ [(src, s.now)] } }

/-! ### Records (R443 to R451, R468, R474) -/

/-- Stored bytes of a record: header, payload padded to 16, tail (R443). -/
def Rec.size (r : Rec) : Nat := 32 + roundUp 16 r.payload.length

/-- The 16 header bytes of record `r` with number `k`. -/
def Rec.header (r : Rec) (k : Nat) : List Byte := le 2 r.typ ++ le 2 r.payload.length ++ le 4 k ++ le 8 r.dtime

/-- Where a record of `size` bytes goes from write offset `w`: here, or at the start of the next unit (R443). -/
def placeRec (w size : Nat) : Nat :=
  if w % Config.unitBytes + size ≤ Config.unitBytes then w else roundUp Config.unitBytes w

/-- The fill of the staging buffer in bytes. -/
def Journal.fill (j : Journal) : Nat := (j.staging.map Rec.size).foldl (· + ·) 0

/-- A record that cannot be taken is counted, with the DTIME of the first and of the last (R451). -/
def loseRec (r : Rec) (s : State) : State :=
  { s with jnl := { s.jnl with
      lost := sat 0xFFFF_FFFF (s.jnl.lost + 1)
      lostFirst := if s.jnl.lost = 0 then r.dtime else s.jnl.lostFirst
      lostLast := r.dtime } }

/-- A record enters the staging buffer, is held before the scan, or is lost (R449, R451, R452, R454, R474). -/
def stageRec (r : Rec) (s : State) : State :=
  match s.jnl.state with
  | .notScanned => { s with jnl := { s.jnl with held := s.jnl.held ++ [(r, true, false)] } }
  | .recording =>
    if s.jnl.fill + r.size ≤ Config.stagingBytes then
      { s with jnl := { s.jnl with staging := s.jnl.staging ++ [r], high := max s.jnl.high (s.jnl.fill + r.size) } }
    else loseRec r s
  | .full => loseRec r s
  | .storeFault => loseRec r s

/-- A record is appended to the keeper log, a ring of 4 MiB units whose oldest unit is erased first (R468). -/
def klogPut (r : Rec) (s : State) : State :=
  let total := s.klogUnits * Config.unitBytes
  let o := placeRec s.jnl.klogNext r.size % total
  let fresh := if o % Config.unitBytes = 0 then
      s.jnl.klog.filter (fun x => x.offset / Config.unitBytes != o / Config.unitBytes) else s.jnl.klog
  { s with jnl := { s.jnl with
      klog := fresh ++ [{ offset := o, number := s.jnl.klogNumber, rec_ := r }]
      klogNext := o + r.size
      klogNumber := (s.jnl.klogNumber + 1) % 2 ^ 32 } }

/-- The origin region of a condition code, in the order of R24 (R450, R474). -/
def originOf (code : Nat) : Nat :=
  match code / 0x1000 with
  | 1 => 0
  | 2 => 1
  | 3 => 2
  | 4 => 3
  | 5 => 4
  | 8 => 5
  | _ => 6

/-- Codes that go to the keeper log alone (R474). -/
def keeperOnly (code : Nat) : Bool :=
  decide (code = 0x1106 ∨ code = 0x1107 ∨ (0x1110 ≤ code ∧ code ≤ 0x1118) ∨ code = 0x5100 ∨ code = 0x7002 ∨ code = 0x7005 ∨
    code = 0x9010 ∨ code = 0x9080)

/-- Codes that go to both (R474; chapters 13 and 14 name theirs). -/
def keeperBoth (code : Nat) : Bool :=
  decide (code = 0x4004 ∨ code = 0x4006 ∨ (0x8000 ≤ code ∧ code ≤ 0x8002) ∨ (0x9000 ≤ code ∧ code ≤ 0x9FFF)) && !keeperOnly code

/-- The CONDITION record of `code` for `count` occurrences; a record made in a cycle that has overrun says that it was not released
(R450). -/
def condRec (code flags count : Nat) (extra : List Byte) (s : State) : Rec :=
  let fl := (if s.seq.overrun then 1 else flags % 2) + 2 * (flags / 2 % 2) + (if keeperBoth code then 4 else 0)
  { typ := 0x0002, dtime := s.now,
    payload := le 2 code ++ le 1 (originOf code) ++ le 1 fl ++ le 4 s.seq.mcc ++ le 4 count ++ extra }

/-- The last condition code of the lock-keeper and of the sequencer, as the snapshot shows them (R52). -/
def noteCode (code : Nat) (s : State) : State :=
  if code / 0x1000 = 9 then { s with keep := { s.keep with lastCode := code } }
  else if code / 0x100 = 0x11 then { s with seq := { s.seq with lastCode := code } }
  else s

/-- A code with its flags, count and payload is recorded where R474 says; the keeper log first (R516). -/
def recordC (code flags count : Nat) (extra : List Byte) (s0 : State) : State :=
  let r := condRec code flags count extra s0
  let s := noteCode code s0
  if s.jnl.state = .notScanned then
    { s with jnl := { s.jnl with held := s.jnl.held ++ [(r, !keeperOnly code, keeperOnly code || keeperBoth code)] } }
  else
    let s1 := if keeperOnly code || keeperBoth code then klogPut r s else s
    if keeperOnly code then s1 else stageRec r s1

/-- A code with payload bytes is recorded once. -/
def recordB (code : Nat) (extra : List Byte) (s : State) : State := recordC code 0 1 extra s

/-- A code is recorded; its payload values stand as little-endian words in the order the code's chapter names them (log entry 7). -/
def record (code : Nat) (args : List Nat) (s : State) : State := recordB code (args.flatMap (le 4)) s

end Sys2Proof.Machine
end

