-- ==== Sys2Proof/Machine/Chan.lean ====
section
/-!
DEFINITION. Reading a position channel: its mode, its validity, its speed and its standstill bit (R364, R373 to R382).
-/
namespace Sys2Proof.Machine

def State.chan (n : Nat) (s : State) : PosChan := look {} n s.fbk.chans

def setChan (n : Nat) (f : PosChan → PosChan) (s : State) : State :=
  { s with fbk := { s.fbk with chans := upd {} n f s.fbk.chans } }

/-- FBK_PC_* of channel n. -/
def pcReg (n off : Nat) : Nat := 0x0200_0000 + 0x40 * n + off

/-- The position channels PC0 to PC31 that are fitted (R2). -/
def State.chansFitted (s : State) : Nat := s.axesFitted

/-- The wheel channels that are fitted (R2). -/
def State.headsFitted (s : State) : Nat := 4 * s.blocksFitted

/-- 0 off, 1 quadrature, 2 Hall (FBK_PC_CFG.mode; 3 is treated as off). -/
def chanMode (n : Nat) (s : State) : Nat := if cf (pcReg n 0) 1 0 s = 3 then 0 else cf (pcReg n 0) 1 0 s

/-- The channel counts: it is fitted and not off, and its region is not held in reset (R536). -/
def chanOn (n : Nat) (s : State) : Bool := decide (n < s.chansFitted ∧ chanMode n s ≠ 0) && s.keep.mode != .stabled

/-- The channel is valid (R373). -/
def chanValid (n : Nat) (s : State) : Bool := chanOn n s && !(s.chan n).bad

/-- The MCLK cycle of now. -/
def State.mclk (s : State) : Nat := s.now / 5

/-- The window k of R376. -/
def speedWindow (n : Nat) (s : State) : Nat := if chanMode n s = 2 then 6 else 4

/-- v_p of R376, Q24.8 counts/s. -/
def periodSpeed (n : Nat) (s : State) : Int :=
  let c := s.chan n
  let j := min (c.times.length - 1) (speedWindow n s)
  let newest := c.times.headD 0
  let d := newest - c.times.getD j 0
  let t := s.mclk - newest
  if j = 0 then 0
  else
    let m : Int := (j * 51_200_000_000 / max d (j * t) : Nat)
    if c.neg then -m else m

/-- R381. -/
def satSpeed (v : Int) : Int := max (-0x7FFF_FFFF) (min 0x7FFF_FFFF v)

/-- t_zero in ms (R379). -/
def tZero (n : Nat) (s : State) : Nat := max 1 (cf (pcReg n 8) 31 16 s)

/-- No count for more than t_zero (R379). -/
def zeroTimedOut (n : Nat) (s : State) : Bool :=
  decide (tZero n s * 200_000 < s.mclk - (s.chan n).times.headD 0)

/-- The reported speed of channel n, Q24.8 counts/s (R376 to R381). -/
def chanSpeed (n : Nat) (s : State) : Int :=
  let c := s.chan n
  if c.freq then satSpeed c.vf
  else if zeroTimedOut n s then 0
  else satSpeed (periodSpeed n s)

/-- The speed is valid (R380). -/
def speedValid (n : Nat) (s : State) : Bool := chanValid n s && decide (2 ≤ (s.chan n).qualified)

/-- The DTIME from which the speed of a valid channel lies within its standstill threshold by the passing of time alone: in period mode the
speed falls while no count comes, and after t_zero it is 0 (R376, R379). -/
def standFrom (n : Nat) (s : State) : Nat :=
  let c := s.chan n
  let thr := (ctlGet (pcReg n 0x10) s).toNat
  let newest := c.times.headD 0
  if c.freq || decide ((satSpeed (periodSpeed n { s with time := { s.time with t6 := 30 * newest } })).natAbs ≤ thr) then 0
  else 5 * (newest + min (51_200_000_000 / (thr + 1) + 1) (tZero n s * 200_000 + 1))

/-- The standstill bit (R382). -/
def standBit (n : Nat) (s : State) : Bool :=
  speedValid n s && decide ((chanSpeed n s).natAbs ≤ (ctlGet (pcReg n 0x10) s).toNat)

end Sys2Proof.Machine
end

