-- ==== Sys2Proof/Machine/Events.lean ====
section
/-!
DEFINITION. The order of event sources: what is pending and enabled, the order in force, and the source that it chooses (R496, R497).
-/
namespace Sys2Proof.Machine

def State.evSrc (k : Nat) (s : State) : EvSource := look {} k s.svc.src

/-- EVC_SRC_CFG and EVC_SRC_TIME of source `k`. -/
def srcReg (k off : Nat) : Nat := 0x0700_1000 + 0x10 * k + off
def srcEnabled (k : Nat) (s : State) : Bool := cbit (srcReg k 0) 31 s
def srcPrio (k : Nat) (s : State) : Nat := cf (srcReg k 0) 3 0 s

/-- The stacked order is in force (R496). -/
def stacked (s : State) : Bool :=
  (s.keep.mode == .run || s.keep.mode == .degraded || s.keep.mode == .commission) && !cbit 0x0700_0000 1 s

/-- Request `a` wins over request `b`, each a priority and a source (R497). -/
def winsOver (a b : Nat × Nat) (s : State) : Bool :=
  if stacked s then decide (a.1 < b.1 ∨ (a.1 = b.1 ∧ a.2 < b.2)) else decide (a.2 < b.2)

/-- The winner among sources that satisfy `p` (R497). -/
def winnerOf (p : Nat → Bool) (s : State) : Option (Nat × Nat) :=
  ((keysOf s.svc.src).filter p).foldl (fun best k =>
    let r := (srcPrio k s, k)
    match best with
    | none => some r
    | some b => if winsOver r b s then some r else some b) none

/-- The pending enabled source that R497 would choose, ignoring routing and core state; 0x100 for none (EVC_STATUS). -/
def highestSource (s : State) : Nat :=
  match winnerOf (fun k => (s.evSrc k).pending && srcEnabled k s) s with
  | some w => w.2
  | none => 0x100

end Sys2Proof.Machine
end

