-- ==== Sys2Proof/Machine/Store.lean ====
section
/-!
DEFINITION. What every family asks of the journal store controller and the statistics engine: samples, frames, checkpoints.
-/
namespace Sys2Proof.Machine

/-- JNL_MET_CFG, _LO and _W of metric `m`. -/
def metCfg (m : Nat) : Nat := 0x0601_0000 + 0x10 * m

/-- The bin of a sample `v` (R470). -/
def metricBin (lo : Int) (w : Nat) (logScale : Bool) (v : Int) : Nat :=
  let w1 := if w = 0 then 1 else w
  if v < lo then 0
  else if logScale then
    match (List.range 30).find? (fun j => decide (v < lo + (w1 : Int) * ((2 ^ (j + 1) : Nat) - 1))) with
    | some j => j + 1
    | none => 31
  else min 31 (1 + (v - lo).toNat / w1)

/-- A metric after a sample (R469, R470). -/
def Metric.take (M : Metric) (bin : Nat) (v : Int) : Metric :=
  let b := look 0 bin M.bins
  let sum := M.sum + v
  let top : Int := (2 ^ 63 : Nat) - 1
  let low : Int := -(2 ^ 63 : Nat)
  { M with
    bins := put bin (sat 0xFFFF_FFFF (b + 1)) M.bins
    satBin := M.satBin || decide (0xFFFF_FFFF ≤ b + 1)
    min := if M.count = 0 then v else Min.min M.min v
    max := if M.count = 0 then v else Max.max M.max v
    count := sat 0xFFFF_FFFF (M.count + 1)
    satCount := M.satCount || decide (0xFFFF_FFFF ≤ M.count + 1)
    sum := if sum > top then top else if sum < low then low else sum
    sumHeld := M.sumHeld || decide (sum > top ∨ sum < low) }

/-- A sample to metric `m`, taken only while it is enabled (R469). -/
def sample (m : Nat) (v : Int) (s : State) : State :=
  if cbit (metCfg m) 0 s then
    let lo := signed 32 (ctlGet (metCfg m + 4) s).toNat
    let bin := metricBin lo (ctlGet (metCfg m + 8) s).toNat (cbit (metCfg m) 1 s) v
    { s with jnl := { s.jnl with metrics := upd {} m (fun M => M.take bin v) s.jnl.metrics } }
  else s

/-- The samples that an overrun cycle left for the next HOUSEKEEPING are applied (R471). -/
def applyHeldSamples (s : State) : State :=
  let s1 := s.seq.heldSamples.foldl (fun s p => sample p.1 p.2 s) s
  { s1 with seq := { s1.seq with heldSamples := [] } }

/-! ### What a BOOT record holds (R457, R516, R528) -/

/-- Wall time as records carry it: seconds with the valid bit, and nanoseconds (R447, R457). -/
def wallBytes (s : State) : List Byte :=
  le 8 (s.wall / 1_000_000_000 % 2 ^ 48 + (if s.time.wallValid then 2 ^ 63 else 0)) ++ le 4 (s.wall % 1_000_000_000)

/-- The settings copy in use: of the valid ones that with the higher generation (R528). -/
def bestSettings (s : State) : Option Settings :=
  let a := s.keep.settingsA
  let b := s.keep.settingsB
  if a.valid && b.valid then some (if a.generation < b.generation then b else a)
  else if a.valid then some a
  else if b.valid then some b
  else none

/-- The slot of `ks` that is in state `st` (R529). -/
def slotIn (st : SlotState) (ks : List Nat) (s : State) : Option Nat := ks.find? (fun k => (look ({} : Slot) k s.keep.slots).state == st)

/-- The hash of the policy table and connection configuration; zero if none (R296). -/
def policyHash (s : State) : List Byte :=
  match s.bth.policy with
  | none => if s.bth.confPayload = [] then zeros 32 else sha256 s.bth.confPayload
  | some p => sha256 (p.payload ++ s.bth.confPayload)

/-- The same before stage S6 has activated them: of the settings copy in use. -/
def storedPolicyHash (s : State) : List Byte :=
  match s.bth.policy, bestSettings s with
  | none, some g =>
    (match g.policy with | none => if (g.conf.getD []) = [] then zeros 32 else sha256 (g.conf.getD []) | some p => sha256 (p.payload ++ g.conf.getD []))
  | _, _ => policyHash s

/-- The device identity of the working copy, or before S6 that of the settings copy in use; 0 if none. -/
def bootIdent (s : State) : Nat :=
  if cf 0x0800_0028 11 0 s ≠ 0 then cf 0x0800_0028 11 0 s
  else ((bestSettings s).map (fun g => (look 0 0x0800_0028 g.values).toNat % 2 ^ 12)).getD 0

/-- The BOOT record (R457), with what the module holds active: the active program slot, the active policy table and configuration. -/
def bootRec (s : State) : Rec :=
  { typ := 1, dtime := s.now
    payload := le 4 s.keep.bootCount.toNat ++ le 4 s.fused.fit.toNat
      ++ le 2 (bootIdent s) ++ zeros 2 ++ le 4 s.jnl.tornFound ++ le 8 s.fused.serial.toNat ++ wallBytes s
      ++ le 4 s.jnl.arm ++ (match slotIn .active [4, 5] s with | some k => (look ({} : Slot) k s.keep.slots).hash | none => zeros 32)
      ++ storedPolicyHash s }

/-- The keeper log's BOOT record at the end of a BOOT, held while the scan has not ended (R516). -/
def askBootRecord (s : State) : State :=
  if s.jnl.state = .notScanned then { s with jnl := { s.jnl with heldBoot := true } } else klogPut (bootRec s) s

/-! ### Frames and checkpoints -/

/-- Frames that the statistics area holds (R472). -/
def frameLimit (s : State) : Nat := if s.bigStore then 1_638 else 409

/-- A statistics frame is appended to the ring of frames; event source 246 (R472). -/
def persistFrame (s : State) : State :=
  let f : StatFrame := {
    number := s.jnl.nextFrame, bootCount := s.keep.bootCount.toNat, dtime := s.now,
    wallSec := s.wall / 1_000_000_000, wallNs := s.wall % 1_000_000_000, wallValid := s.time.wallValid,
    mcc := s.seq.mcc % 2 ^ 32, metrics := s.jnl.metrics }
  let all := s.jnl.frames ++ [f]
  raise 246 { s with jnl := { s.jnl with
    frames := all.drop (all.length - frameLimit s)
    nextFrame := (s.jnl.nextFrame + 1) % 2 ^ 32
    lastFrameAt := s.now } }

/-- The place of a CHECKPOINT or SEAL in the staging buffer, before it is formed and signed (R447, R448, R464). -/
def signSlot (typ : Nat) (s : State) : Rec := { typ := typ, dtime := s.now, payload := [] }

/-- A checkpoint is asked for (R447): it takes its place behind the records received so far, or is held for the scan. -/
def askCheckpoint (s : State) : State :=
  match s.jnl.state with
  | .notScanned => { s with jnl := { s.jnl with heldCkpt := true } }
  | .recording => { s with jnl := { s.jnl with staging := s.jnl.staging ++ [signSlot 0xF0 s] } }
  | .full => s
  | .storeFault => s

/-- The frame of an entry to HOLD or STABLED, held for the scan where it has not run (R472, R518). -/
def askFrame (s : State) : State :=
  match s.jnl.state with
  | .notScanned => { s with jnl := { s.jnl with heldFrame := true } }
  | .recording => persistFrame s
  | .full => persistFrame s
  | .storeFault => s

end Sys2Proof.Machine
end

