-- ==== Sys2Proof/Machine/Reply.lean ====
section
/-!
DEFINITION. How the berth gate sends a message to a host: the berth's output, and on PCI Express the reply ring (R307, R311).
-/
namespace Sys2Proof.Machine

/-- BTHb. -/
def State.berth (b : Nat) (s : State) : Berth := look {} b s.bth.berths

/-- BTHb changes by `f`. -/
def setBerth (b : Nat) (f : Berth → Berth) (s : State) : State :=
  { s with bth := { s.bth with berths := upd {} b f s.bth.berths } }

/-- Slots of the reply ring, and slots that are free (R311). -/
def Berth.replySlots (B : Berth) : Nat := 2 ^ bits 11 8 B.ringCfg.toNat

def Berth.freeReplies (B : Berth) : Nat := B.replySlots - (B.rplTail - B.rplHead).toNat

/-! ### The bytes of a message (R306, R310) -/

/-- A message header. -/
def headBytes (version typ length tag status reserved crc : Nat) : List Byte :=
  be 1 version ++ be 1 typ ++ be 2 length ++ be 4 tag ++ be 2 status ++ be 2 reserved ++ be 4 crc

/-- The CRC of a message: over the header with its crc field 0, then the body. -/
def msgCrc (version typ length tag status reserved : Nat) (body : List Byte) : Word :=
  crc32c (headBytes version typ length tag status reserved 0 ++ body)

/-- A message of the gate: header and body. -/
def Reply.bytes (r : Reply) : List Byte :=
  let c := msgCrc 0x10 r.typ r.body.length r.tag.toNat r.status 0 r.body
  headBytes 0x10 r.typ r.body.length r.tag.toNat r.status 0 c.toNat ++ r.body

/-- The header of a request is in order for its body: version, length, reserved fields and CRC. -/
def headOk (m : MsgHead) (body : List Byte) : Bool :=
  m.version == 0x10 && m.length.toNat == body.length && m.status == 0 && m.reserved == 0
    && m.crc == msgCrc 0x10 m.typ.toNat body.length m.tag.toNat 0 0 body

/-- A frame on UART_K: delimited by 0x7E, with 0x7E and 0x7D escaped as 0x7D and the byte XOR 0x20. -/
def uartFrame (l : List Byte) : List Byte :=
  0x7E :: l.flatMap (fun x => if x = 0x7E ∨ x = 0x7D then [0x7D, x ^^^ 0x20] else [x]) ++ [0x7E]

/-! ### Rings and sessions (R311 to R313) -/

/-- The bus address of slot `i` of a ring of `n` slots of 4,096 bytes. -/
def ringSlot (base : BitVec 64) (i : BitVec 16) (n : Nat) : BitVec 64 := base + BitVec.ofNat 64 (4096 * (i.toNat % n))

/-- A message is written to the reply ring; MSI is raised when the tail advances (R311). -/
def Berth.push (B : Berth) (r : Reply) : Berth :=
  { B with
    out := B.out ++ [{ bytes := r.bytes, slot := some (ringSlot B.rplBase B.rplTail B.replySlots) }]
    rplTail := B.rplTail + 1, msiCount := if B.msi then B.msiCount + 1 else B.msiCount }

/-- BTHb sends a record under TLS; after 2^24 records a KeyUpdate follows, and the key changes to one that the spec does not give (R313; log
entry 3). -/
def countRecord (b : Nat) (s : State) : State :=
  if 3 ≤ b ∧ (s.berth b).tls = true then
    if (s.berth b).records + 1 < 2 ^ 24 then setBerth b (fun B => { B with records := B.records + 1 }) s
    else
      let g := drawBytes 16 s
      setBerth b (fun B => { B with records := 0, keyOut := g.1, keyUpdates := B.keyUpdates + 1 }) g.2
  else s

/-- The message as BTHb sends it when it is not on PCI Express. -/
def Reply.sent (b : Nat) (r : Reply) : SentMsg := { bytes := if b = 0 then uartFrame r.bytes else r.bytes }

/-- A reply leaves on its berth; on BTH1 and BTH2 it waits while no reply slot is free (R311, R312). -/
def sendReply (b : Nat) (r : Reply) (s : State) : State :=
  let t := s.now
  countRecord b (setBerth b (fun B =>
    if b = 1 ∨ b = 2 then
      if B.slotWait = [] ∧ 1 ≤ B.freeReplies then B.push r else { B with slotWait := B.slotWait ++ [(r, t)] }
    else { B with out := B.out ++ [r.sent b] }) s)

/-- An ALERT to one berth, dropped and counted on PCI Express when fewer than two reply slots are free (R307, R311). -/
def alertTo (b code : Nat) (payload : List Byte) (s : State) : State :=
  let m : Reply := { typ := 0x70, tag := 0, status := 0, body := be 2 code ++ zeros 2 ++ be 4 s.seq.mcc ++ payload.take 32 }
  if (s.berth b).state ≠ .open_ then s
  else if b = 1 ∨ b = 2 then
    setBerth b (fun B => if 2 ≤ B.freeReplies then B.push m else { B with alertsDropped := B.alertsDropped + 1 }) s
  else countRecord b (setBerth b (fun B => { B with out := B.out ++ [m.sent b] }) s)

/-- An ALERT to every open berth. -/
def alertAll (code : Nat) (payload : List Byte) (s : State) : State :=
  (List.range 8).foldl (fun s b => alertTo b code payload s) s

/-- The entry of a COMMAND_REPLY, 24 bytes (R319). -/
def EntryAnswer.bytes (a : EntryAnswer) : List Byte :=
  be 2 a.status ++ be 1 a.disposition ++ be 1 (b2n a.released) ++ be 4 a.mcc ++ a.words.flatMap (fun w => be 4 w.toNat)

/-- The COMMAND_REPLY of a COMMAND whose entries are all answered (R319). -/
def WaitingCommand.reply (w : WaitingCommand) : Reply :=
  { typ := 0x21, tag := w.tag, status := 0,
    body := be 2 w.count ++ zeros 2 ++ w.answers.flatMap (fun p => p.2.bytes) }

/-- Every entry of the COMMAND is answered. -/
def WaitingCommand.done (w : WaitingCommand) : Bool := decide (w.answers.length = w.count)

/-- The COMMAND_REPLY messages of berth `b` that are complete leave, in the order of their COMMAND messages (R319). -/
def flushReplies (b : Nat) (s : State) : State :=
  let B := s.berth b
  let ready := B.waiting.takeWhile WaitingCommand.done
  let s1 := setBerth b (fun B => { B with waiting := B.waiting.drop ready.length }) s
  ready.foldl (fun s w => sendReply b w.reply s) s1

/-- The answer to the entry in place `e.place` of its COMMAND is known; an entry of another member is answered there. -/
def answerEntry (e : BatchEntry) (a : EntryAnswer) (s : State) : State :=
  setBerth e.berth (fun B => { B with waiting := B.waiting.map (fun w =>
    if some w.msg = e.msg then { w with answers := put e.place a w.answers } else w) }) s

end Sys2Proof.Machine
end

