-- ==== Sys2Proof/Machine/Snapshot.lean ====
section
/-!
DEFINITION. The common snapshot: what triggers it, what every block latches, and its release (R45 to R52).
-/
namespace Sys2Proof.Machine

/-- The chamber entries of a core: the positions for which Top, or Heart before it, has made an output, but those of Base's oldest open
segment that have retired (R181, R182). -/
def Core.fill (c : Core) : Nat :=
  let lens := fun (p : PassCtx) => (p.segs.map (fun g => (g.seg, g.outs.length)))
  let both := lens c.top ++ lens c.heart
  let one := fun g => both.foldl (fun m x => if x.1 = g then Max.max m x.2 else m) 0
  let oldest := (c.base.segs.head?.map Segment.seg).getD c.base.seg
  ((both.map Prod.fst).eraseDups.map (fun g => one g - (if g = oldest then c.decided else 0))).foldl (· + ·) 0

/-- The DTIME of the release deadline of the current cycle, ns (R57). -/
def State.deadline (s : State) : Nat := s.seq.start + 10_000 * s.seq.reloff

/-- The phase as LGC_SEQ_STATUS and the snapshot give it. 0 to 5 are R52's; 6 while the sequencer waits, and 7 while it does not run,
are the model's choice in the snapshot, whose table lists no other (DESIGN CHOICE, log entry 88). -/
def Phase.code : Phase → Nat
  | .capture => 0 | .agree => 1 | .evaluate => 2 | .accordClose => 3 | .release => 4 | .housekeeping => 5
  | .waiting => 6 | .notRunning => 7

def Mode.code : Mode → Nat
  | .boot => 0 | .commission => 1 | .run => 2 | .degraded => 3 | .hold => 4 | .stabled => 5

def AxState.code : AxState → Nat
  | .disabled => 0 | .enabling => 1 | .holding => 2 | .moving => 3 | .stopping => 4 | .obstacle => 5 | .homing => 6
  | .fault => 7 | .test => 8

def LsState.code : LsState → Nat
  | .off => 0 | .inrush => 1 | .on => 2 | .limit => 3 | .cooling => 4 | .latched => 5 | .undervolt => 6 | .pulse => 7

def SoState.code : SoState → Nat
  | .off => 0 | .starting => 1 | .on => 2 | .stopping => 3 | .fault => 4 | .interlock => 5 | .undervolt => 6

/-- ENx is 1 (R337). -/
def AxState.en : AxState → Bool
  | .disabled => false | .fault => false | _ => true

/-- The outvotes of a pass within the last W cycles (R198): those whose MCC lies within the window. -/
def inWindow (s : State) (hist : List Nat) : Nat := (hist.filter (fun m => decide (s.seq.mcc < m + s.seq.window))).length

def clusterMode (k : Nat) (s : State) : Nat := look 2 k s.seq.clMode

/-- The snapshot mode of core `n`: 0 JOINED, 1 SPLIT, 2 retired, 3 unfitted. -/
def coreSnapMode (n : Nat) (s : State) : Nat :=
  if s.coresFitted ≤ n then 3
  else if (look ({} : Core) n s.cores).retired then 2
  else if clusterMode (n / 8) s = 1 then 1 else 0

def snapCore (s : State) (n : Nat) : List (Nat × Nat) :=
  let c := look {} n s.cores
  let b := 0x1000 + 0x20 * n
  let sp := fun k => (look ({} : SplitCtx) (3 * n + k) s.splits).pc.toNat
  let split := clusterMode (n / 8) s = 1
  [(b, if split then sp 0 else c.top.arch.pc.toNat), (b + 4, if split then sp 1 else c.heart.arch.pc.toNat),
   (b + 8, if split then sp 2 else c.base.arch.pc.toNat),
   (b + 12, c.top.arch.obj.toNat + 2 ^ 20 * c.top.arch.typ.toNat),
   (b + 16, sat 512 c.fill + 2 ^ 10 * ((c.top.seg - c.base.seg) % 8) + 2 ^ 13 * b2n (c.top.stall == .chamber)
      + 2 ^ 14 * coreSnapMode n s),
   (b + 20, sat 255 (inWindow s c.histTop) + 2 ^ 8 * sat 255 (inWindow s c.histHeart) + 2 ^ 16 * sat 255 (inWindow s c.histBase)),
   (b + 24, c.segTop % 2 ^ 16 + 2 ^ 16 * (c.segBase % 2 ^ 16)), (b + 28, c.lastCode)]

/-- The words of cluster `k`. Comparators A and B reach one verdict: 1 while the cluster is not faulted (DESIGN CHOICE: R52 gives neither the
polarity nor the bit's tie to faulted; log entry 88). -/
def snapCluster (s : State) (k : Nat) : List (Nat × Nat) :=
  let b := 0x1800 + 0x10 * k
  let bad := bitAt k s.seq.faulted.toNat
  let done := (List.range 8).foldl (fun n j => n + (look ({} : Core) (8 * k + j) s.cores).completed) 0
  [(b, b2n (!bad) + 2 * b2n (!bad) + 4 * b2n (bad && decide (look 0 k s.seq.clLast = 0x1313))
      + 8 * b2n (bitAt k s.seq.proofOk.toNat) + 16 * b2n bad),
   (b + 4, done), (b + 8, look 0 k s.seq.correctedBank), (b + 12, look 0 k s.seq.clLast)]

def snapSeq (s : State) : List (Nat × Nat) :=
  [(0x1900, s.seq.phase.code), (0x1904, (s.deadline - s.now) / 1000), (0x1908, s.seq.overruns % 4), (0x190C, s.seq.lastCode)]

/-- The words of axis `n`, as its last servo slot published them (R334). -/
def snapAxis (s : State) (n : Nat) : List (Nat × Nat) :=
  (look {} n s.mot.axes).latched.mapIdx (fun i w => (0x2000 + 0x20 * n + 4 * i, w.toNat))

/-- The words of channel `n`; its speed in counts/s is rounded towards minus infinity (log entry 88). A wheel channel's count is IN − OUT
(R388). -/
def snapChan (s : State) (n : Nat) : List (Nat × Nat) :=
  let b := 0x3000 + 0x20 * n
  if n < 32 then
    let c := look {} n s.fbk.chans
    [(b, c.count.toNat), (b + 4, (wInt ((chanSpeed n s).fdiv 256)).toNat), (b + 8, c.index.toNat),
     (b + 12, b2n (speedValid n s) + 2 * b2n c.neg + 4 * b2n (standBit n s) + 8 * b2n c.bad), (b + 24, c.lastCode)]
  else
    let h := look {} (n - 32) s.fbk.heads
    [(b, (h.inCnt.setWidth 32 - h.outCnt.setWidth 32 : Word).toNat), (b + 16, h.inCnt.toNat), (b + 20, h.outCnt.toNat), (b + 24, h.lastCode)]

/-- Link state, frames received, sent and discarded of port `p`. For the towpath and host ports R52 does not say what these are: the model takes the
link state and the numbered frames of a towpath port, its CRC and gap count, the queue's enable, ring positions and dropped alerts of a host port
(DESIGN CHOICE, log entry 88). -/
def portState (s : State) (p : Nat) : Nat × Nat × Nat × Nat :=
  if p < 4 then
    let q := look {} p s.net.ports
    (b2n q.link, q.rx, q.tx, q.fcs + q.other)
  else if p < 6 then
    let q := look {} (p - 4) s.tri.ports
    (q.state, (q.rxSeq.map (fun x => x.toNat + 1)).getD 0, q.txSeq.toNat, q.crc)
  else
    let q := s.berth (p - 5)
    (b2n q.enable, q.reqHead.toNat, q.rplTail.toNat, q.alertsDropped)

def snapPort (s : State) (p : Nat) : List (Nat × Nat) :=
  let b := 0x5000 + 0x10 * p
  let q := portState s p
  [(b, q.1), (b + 4, q.2.1), (b + 8, q.2.2.1), (b + 12, q.2.2.2)]

def snapService (s : State) : List (Nat × Nat) :=
  (List.range 4).flatMap (fun c =>
    let k := look {} c s.svc.cores
    let b := 0x6000 + 0x10 * c
    [(b, k.pc), (b + 4, (match k.stack with | [] => 15 | p :: _ => p.1) + 16 * k.stack.length), (b + 8, k.lastClaim.toNat)])
  ++ [(0x6040, highestSource s), (0x6044, cf 0x0700_0000 0 0 s), (0x6050, s.svc.wakePend.toNat)]

/-- Rail windows of VM0 to VM11, mV (R514). -/
def railWindow (v : Nat) : Nat × Nat :=
  match v with
  | 0 => (690, 810) | 1 => (690, 810) | 2 => (736, 864) | 3 => (1620, 1980) | 4 => (2970, 3630) | 5 => (855, 945)
  | 6 => (1710, 1890) | 7 => (1620, 1980) | 8 => (2970, 3630) | 9 => (740, 860) | 10 => (840, 960) | 11 => (1120, 1280)
  | _ => (16_000, 62_000)

/-- The smallest supply margin of VM0 to VM11, mV (R514). -/
def supplyMargin (s : State) : Int :=
  (List.range 12).foldl (fun (m : Int) v =>
    let r := (look {} v s.keep.volt).reading
    let w := railWindow v
    Min.min m (Min.min (r - w.1) (w.2 - r))) 100_000

def snapKeeper (s : State) : List (Nat × Nat) :=
  let hot := (List.range 12).foldl (fun (m : Int) i => Max.max m (look {} i s.keep.temp).reading) (-10_000)
  [(0x7000, s.keep.mode.code), (0x7004, (wInt hot).toNat), (0x7008, (wInt (supplyMargin s)).toNat),
   (0x700C, s.jnl.klogNext % 2 ^ 32), (0x7010, s.keep.lastCode)]

/-- The words of field block `n` as the block latches them (R47, R52). -/
def snapBlock (s : State) (n : Nat) : List (Nat × Nat) :=
  let k := look {} n s.fld.blocks
  let b := 0x4000 + 0x40 * n
  let wd := (if cf (0x0300_0000 + 0x1_0000 * n) 21 12 s = 0 then 1 else cf (0x0300_0000 + 0x1_0000 * n) 21 12 s) * 250
  let dioBits := fun (f : Dio → Bool) => (List.range 24).foldl (fun x c => x + (if f (look {} c k.dio) then 2 ^ c else 0)) 0
  [(b, dioBits Dio.level), (b + 4, k.dDio.toNat % 2 ^ 24),
   (b + 8, dioBits (fun d => d.overload || d.overTemp || d.openWire || d.wireBreak)),
   (b + 12, (List.range 8).foldl (fun x i => x + (look ({} : LoadSwitch) i k.ls).st.code * 16 ^ i) 0),
   (b + 16, wd - (s.now - k.lastOut) / 1000), (b + 20, k.vfield), (b + 24, (wInt k.temp).toNat),
   (b + 28, (List.range 4).foldl (fun x j => let w := look ({} : FrontEnd) j k.wfe
      x + (w.a.report + 4 * w.b.report + 16 * (if w.a.report = 0 then w.a.cause else w.b.cause)) * 256 ^ j) 0),
   (b + 32, k.lastCode)]

/-- The block words latched at T0, but those of the field blocks. -/
def snapWords (s : State) : Tab Word :=
  let all := (List.range 64).flatMap (snapCore s) ++ (List.range s.clustersFitted).flatMap (snapCluster s) ++ snapSeq s
    ++ (List.range s.axesFitted).flatMap (snapAxis s) ++ (List.range 48).flatMap (snapChan s)
    ++ (List.range 8).flatMap (snapPort s)
    ++ [(0x5080, s.net.safe), (0x5084, s.net.sealed), (0x5088, s.net.alarmsTotal)]
    ++ snapService s ++ snapKeeper s
  all.foldl (fun t p => if p.2 = 0 then t else put p.1 (w32 p.2) t) []

/-- The field-block words latched in the blocks; they travel to the logic die in the link's snapshot slot (R47). -/
def snapFieldWords (s : State) : Tab Word :=
  ((List.range s.blocksFitted).flatMap (snapBlock s)).foldl (fun t p => put p.1 (w32 p.2) t) []

/-- The blocks of the latched snapshot whose words have not arrived. -/
def missingBlocks (s : State) : List Nat :=
  (List.range s.blocksFitted).filter (fun f => s.snap.fieldWords.any (fun p => decide (0x4000 + 0x40 * f ≤ p.1 ∧ p.1 < 0x4040 + 0x40 * f)))

/-- The blocks whose words will not arrive are recorded, each with 0x9122 (R50). -/
def reportMissing (s : State) : State :=
  (missingBlocks s).foldl (fun s f => record 0x9122 [f] s) { s with snap := { s.snap with fieldWords := [] } }

/-- Words of a snapshot that one record of the keeper log takes: each with its offset, in 8 bytes (R443, R450). -/
def snapRecWords : Nat := 500

/-- The words of the latched snapshot go to the keeper log in records of `snapRecWords` words at most (R50): each holds the snapshot's
number, and offset and value of each word that is not 0 (log entry 41). -/
def logWords (fuel : Nat) (ws : List (Nat × Word)) (s : State) : State :=
  match fuel with
  | 0 => s
  | n + 1 =>
    let s1 := recordB 0x9120 (le 4 s.snap.number.toNat ++ (ws.take snapRecWords).flatMap (fun p => le 4 p.1 ++ le 4 p.2.toNat)) s
    if ws.length ≤ snapRecWords then s1 else logWords n (ws.drop snapRecWords) s1

def logSnapWords (ws : List (Nat × Word)) (s : State) : State := logWords (ws.length / snapRecWords + 1) ws s

/-- The lock-keeper copies the latched snapshot into the keeper log, unless it has done so (R50): T0, MCC and sources as the words from
offset 8 on, then the words of the blocks. -/
def copySnapshot (s : State) : State :=
  if s.snap.copied || s.snap.number == 0 then s
  else
    let head := [(0x4, w32 s.snap.src.toNat), (0x8, w32 s.snap.dtime), (0xC, w32 (s.snap.dtime / 2 ^ 32)), (0x10, w32 s.snap.mcc), (0x14, w32 (s.snap.mcc / 2 ^ 32))]
    logSnapWords (head ++ s.snap.words) { s with snap := { s.snap with copied := true } }

/-- A snapshot is latched (R45, R49): `src` names the sources of T0. -/
def latchSnapshot (src : Nat) (replaces : Bool) (s0 : State) : State :=
  let s := reportMissing s0
  let s1 := { s with snap := { s.snap with
    held := true, src := BitVec.ofNat 4 src
    overwritten := s.snap.overwritten || replaces
    fbValid := 0, copied := false, number := s.snap.number + 1, dtime := s.now, mcc := s.seq.mcc
    words := snapWords s, fieldWords := snapFieldWords s } }
  raise 13 s1

/-- The towpath snapshot request leaves with the next frame on each link (R48, R215). -/
def requestPeers (s : State) : State :=
  if cbit 0x0900_0000 3 s then
    let ports := (List.range 2).foldl (fun t p => upd {} p (fun (q : TpPort) => { q with snapDue := true }) t) s.tri.ports
    { s with tri := { s.tri with ports := ports } }
  else s

/-- Another source of the instant T0 of the held snapshot is recorded in it (R46). -/
def mergeSource (src : Nat) (s : State) : State := { s with snap := { s.snap with src := s.snap.src ||| BitVec.ofNat 4 src } }

/-- The held snapshot was latched at this instant. -/
def sameT0 (s : State) : Bool := s.snap.held && s.snap.dtime == s.now

/-- A trigger from the SNAP ball, the lock-keeper or the towpath: another source of the same T0 is noted in its snapshot; while a snapshot is
held a later trigger is counted (R46, R49, R50). A local source that the snapshot holds makes the module ask its peers (R48). -/
def triggerSnapshot (src : Nat) (local_ : Bool) (s : State) : State :=
  let ask := fun (s : State) => if local_ then requestPeers s else s
  if sameT0 s && s.snap.src &&& BitVec.ofNat 4 src == 0 then ask (mergeSource src s)
  else if s.snap.held then
    record 0x9121 [src] { s with snap := { s.snap with missed := BitVec.ofNat 8 (sat 255 (s.snap.missed.toNat + 1)) } }
  else ask (latchSnapshot src false s)

/-- The accord failure always latches a new snapshot (R49), but for one latched at the same T0, in which it is recorded (R46). -/
def triggerAccordSnapshot (s : State) : State :=
  requestPeers (if sameT0 s then mergeSource 2 s else latchSnapshot 2 (s.snap.held && !s.snap.copied) s)

end Sys2Proof.Machine
end

