-- ==== Sys2Proof/Machine/Tow.lean ====
section
/-!
DEFINITION. Sending on a towpath port: sequence numbers, the retransmission buffer, the acknowledgement (R213 to R217).
-/
namespace Sys2Proof.Machine

/-- Frame types of R214. -/
def tHello : Nat := 0x1
def tCycle : Nat := 0x2
def tContrib : Nat := 0x3
def tRelay : Nat := 0x4
def tCut : Nat := 0x5
def tSummary : Nat := 0x6
def tHash : Nat := 0x7
def tJoin : Nat := 0x8
def tGrant : Nat := 0x9
def tXfer : Nat := 0xA
def tAck : Nat := 0xB
def tNotice : Nat := 0xC

/-- TPp. -/
def State.tp (p : Nat) (s : State) : TpPort := look {} p s.tri.ports

def setTp (p : Nat) (f : TpPort → TpPort) (s : State) : State :=
  { s with tri := { s.tri with ports := upd {} p f s.tri.ports } }

/-- The member index of NET_TRI_CFG, the triad identity, and the loss limit (R206). -/
def State.member (s : State) : Nat := cf 0x0480_0000 2 1 s
def State.triadId (s : State) : Nat := cf 0x0480_0000 31 16 s
def State.triadOn (s : State) : Bool := cbit 0x0480_0000 0 s
def State.lossLimit (s : State) : Nat := max 1 (cf 0x0480_0000 15 12 s)

/-- The member that TPp leads to (R207). -/
def State.peerOf (p : Nat) (s : State) : Nat := (s.member + (if p = 0 then 1 else 2)) % 3

/-- The port that leads to member `x`. -/
def State.portTo (x : Nat) (s : State) : Nat := if x = (s.member + 1) % 3 then 0 else 1

/-! ### A frame on the wire (R212, R213) -/

/-- The bytes of a frame: header, payload, and the trailer with the CRC-32C of both. -/
def TpFrame.wire (f : TpFrame) : List Byte :=
  let body := be 1 (16 + f.typ) ++ be 1 (64 * f.sender + 16 * f.receiver + 8 * b2n f.snap) ++ be 2 f.payload.length ++ be 4 f.seq.toNat
    ++ be 4 f.ack.toNat ++ be 6 f.mcc ++ be 2 f.triad ++ be 8 f.tsend ++ zeros 4 ++ f.payload
  body ++ be 4 (crc32c body).toNat ++ zeros 4

/-- The number in bytes `o` to `o + n - 1` of a frame received. -/
def towField (o n : Nat) (w : WireFrame) : Nat := beAt o n w.bytes

def towType (w : WireFrame) : Nat := bits 3 0 (towField 0 1 w)
def towSender (w : WireFrame) : Nat := bits 7 6 (towField 1 1 w)
def towReceiver (w : WireFrame) : Nat := bits 5 4 (towField 1 1 w)
def towSnap (w : WireFrame) : Bool := bitAt 3 (towField 1 1 w)
def towLength (w : WireFrame) : Nat := towField 2 2 w
def towSeq (w : WireFrame) : Word := w32 (towField 4 4 w)
def towAck (w : WireFrame) : Word := w32 (towField 8 4 w)
def towMcc (w : WireFrame) : Nat := towField 12 6 w
def towTriad (w : WireFrame) : Nat := towField 18 2 w
def towTsend (w : WireFrame) : Nat := towField 20 8 w
def towPayload (w : WireFrame) : List Byte := slice 32 (towLength w) w.bytes

/-- The arrival of a frame on the DTIME replica of NCLK (R211). -/
def towArrival (w : WireFrame) : Nat := replicaAt .nclk w.arrive

/-- Control blocks, length and CRC-32C are good (R250, first row). -/
def towIntact (w : WireFrame) : Bool :=
  let n := towLength w
  w.control && decide (n % 8 = 0 ∧ n ≤ 2_048 ∧ w.bytes.length = n + 40) && crc32c (w.bytes.take (32 + n)) == w32 (towField (32 + n) 4 w)

/-- The payload of type `typ` has the length of R214, and zero where the layout has zero (log entry 92). -/
def towPayloadOk (typ : Nat) (l : List Byte) : Bool :=
  let zero := fun (o n : Nat) => decide (beAt o n l = 0)
  let len := fun (n : Nat) => decide (l.length = n)
  match typ with
  | 0x1 => len 96 && zero 2 2 && zero 88 8 && decide (beAt 0 1 l ≤ 5 ∧ beAt 1 1 l < 8)
  | 0x2 => len 8
  | 0x3 => decide (8 ≤ l.length)
  | 0x4 => decide (8 ≤ l.length) && decide (beAt 2 2 l % 4 = 0 ∧ l.length = roundUp 8 (8 + beAt 2 2 l)) && (l.drop (8 + beAt 2 2 l)).all (· == 0)
  | 0x5 => len 48 && zero 12 4
  | 0x6 => len 208 && zero 204 4 && (List.range 3).all (fun x => decide (beAt (68 * x) 4 l < 4))
  | 0x7 => len 72 && zero 4 4 && decide (beAt 0 4 l ≤ 1)
  | 0x8 => len 8 && zero 4 4
  | 0x9 => len 24 && zero 16 8 && decide (beAt 0 4 l ≤ 1 ∧ beAt 4 4 l < 8)
  | 0xA => decide (8 ≤ l.length)
  | 0xB => len 0
  | 0xC => len 8 && zero 4 4
  | _ => false

/-- Version, type, and every reserved field of header, payload and trailer are good (R250, second row). -/
def towFormOk (w : WireFrame) : Bool :=
  decide (bits 7 4 (towField 0 1 w) = 1 ∧ bits 2 0 (towField 1 1 w) = 0 ∧ towField 28 4 w = 0 ∧ towField (36 + towLength w) 4 w = 0)
  && towPayloadOk (towType w) (towPayload w)

/-- A type of R214 that is not reserved. -/
def towTypeDefined (typ : Nat) : Bool := decide (0x1 ≤ typ ∧ typ ≤ 0xC)

/-- A frame as it leaves now, with the next sequence number and the ack of the port; before a frame has been accepted its ack is the number
before the first, 0xFFFF_FFFF (log entry 92). -/
def mkFrame (p typ : Nat) (payload : List Byte) (s : State) : TpFrame :=
  let q := s.tp p
  { typ := typ, sender := s.member, receiver := s.peerOf p, triad := s.triadId
    seq := if typ = tAck then q.txSeq - 1 else q.txSeq, ack := q.rxSeq.getD 0xFFFF_FFFF
    mcc := if s.seq.captured then s.seq.mcc else 0, tsend := s.replica .nclk, snap := q.snapDue, payload := payload }

/-- A frame is sent on port `p`, or waits while the retransmission buffer is full; an ACK takes no sequence number and is
not kept (R216, R217). -/
def tpSend (p typ : Nat) (payload : List Byte) (s : State) : State :=
  let q := s.tp p
  let f := mkFrame p typ payload s
  if typ = tAck then
    let s1 := setTp p (fun q => { q with ackDue := none, snapDue := false }) s
    { s1 with tri := { s1.tri with sent := s1.tri.sent ++ [(p, f)] } }
  else if 64 ≤ q.buffer.length then
    setTp p (fun q => { q with waiting := q.waiting ++ [f] }) s
  else
    let s1 := setTp p (fun q => { q with
      txSeq := q.txSeq + 1, wrapped := q.wrapped || q.txSeq == 0xFFFF_FFFF, snapDue := false, ackDue := none
      buffer := q.buffer ++ [{ frame := f, sentAt := s.now }] }) s
    { s1 with tri := { s1.tri with sent := s1.tri.sent ++ [(p, f)] } }

/-- A frame on each link that is up. -/
def tpSendAll (typ : Nat) (payload : List Byte) (s : State) : State :=
  (List.range 2).foldl (fun s p => if (s.tp p).state = 3 then tpSend p typ payload s else s) s

/-- The sending priority of a frame type, 0 the highest (R214). -/
def tpPriority (typ : Nat) : Nat :=
  match typ with
  | 0x1 => 5 | 0x2 => 0 | 0x3 => 3 | 0x4 => 2 | 0x5 => 2 | 0x6 => 1 | 0x7 => 0 | 0x8 => 4 | 0x9 => 1 | 0xA => 6 | _ => 0

/-- The frame that leaves next of those that wait: the highest priority, in the order of queueing within a type (R214). -/
def nextWaiting (l : List TpFrame) : Option TpFrame :=
  l.foldl (fun best f => match best with
    | none => some f
    | some g => if tpPriority f.typ < tpPriority g.typ then some f else some g) none

/-- Frames that wait leave while the retransmission buffer has room (R217). -/
def tpDrain (p : Nat) : Nat → State → State
  | 0, s => s
  | n + 1, s =>
    let q := s.tp p
    if 64 ≤ q.buffer.length then s
    else match nextWaiting q.waiting with
      | none => s
      | some f => tpDrain p n (tpSend p f.typ f.payload (setTp p (fun q => { q with waiting := q.waiting.erase f }) s))

/-- The triad state changes; event source 216 (R242). -/
def setTri (t : TriState) (s : State) : State :=
  if s.tri.state = t then s else raise 216 { s with tri := { s.tri with state := t } }

/-! ### Members and peers -/

def State.peer (x : Nat) (s : State) : Peer := look {} x s.tri.peers
def setPeer (x : Nat) (f : Peer → Peer) (s : State) : State := { s with tri := { s.tri with peers := upd {} x f s.tri.peers } }
def setTriF (f : Tri → Tri) (s : State) : State := { s with tri := f s.tri }

/-- The other two member indices. -/
def State.others (s : State) : List Nat := (List.range 3).filter (fun x => x != s.member)

/-- The peers that the member regards as present. -/
def presentPeers (s : State) : List Nat := s.others.filter (fun x => (s.peer x).present)

/-- The member takes part in AGREE: TRIAD, PAIR or JOINING. -/
def triadActive (s : State) : Bool := s.tri.state == .triad || s.tri.state == .pair || s.tri.state == .joining

/-- The members whose contributions may be used: the present peers, and the member itself unless it is JOINING (R248). -/
def contributors (s : State) : List Nat :=
  (List.range 3).filter (fun x => if x = s.member then s.tri.state != .joining else (s.peer x).present)

/-- A cycle frame goes to `x`: a present peer, or the joiner from cycle J + 1 on (R240, R248). -/
def cycleTo (x : Nat) (s : State) : Bool :=
  (s.peer x).present || (s.tri.joiner == some x && decide ((s.tri.joinAt.getD 0) < s.seq.mcc))

/-- A cycle frame on each link that is up to a member it goes to. -/
def sendCycle (typ : Nat) (payload : List Byte) (s : State) : State :=
  (List.range 2).foldl (fun s p => if (s.tp p).state = 3 ∧ cycleTo (s.peerOf p) s = true then tpSend p typ payload s else s) s

/-- A RELAY frame goes to `x`: a present peer, or the joiner from the own CUT of cycle J on (R231, R248). -/
def relayTo (x : Nat) (s : State) : Bool :=
  cycleTo x s || (s.tri.joiner == some x && s.tri.ownCut && decide (s.tri.joinAt = some s.seq.mcc))

/-- The payload of a RELAY frame. -/
def relayPayload (r : Relay) : List Byte :=
  let l := be 2 r.conn ++ be 2 (4 * r.words.length) ++ be 4 r.seq.toNat ++ r.words.flatMap (fun w => be 4 w.toNat)
  l ++ zeros (roundUp 8 l.length - l.length)

/-- A RELAY frame on each link that is up to a member it goes to. -/
def sendRelay (r : Relay) (s : State) : State :=
  (List.range 2).foldl (fun s p => if (s.tp p).state = 3 ∧ relayTo (s.peerOf p) s = true then tpSend p tRelay (relayPayload r) s else s) s

end Sys2Proof.Machine
end

