-- ==== Sys2Proof/Machine/Hold.lean ====
section
/-!
DEFINITION. Changes of the major mode that any family may cause: entry to HOLD, entry to DEGRADED, and the trip (R26, R201,
R361, R518).
-/
namespace Sys2Proof.Machine

/-- AXn. -/
def State.axis (n : Nat) (s : State) : Axis := look {} n s.mot.axes

def setAxis (n : Nat) (f : Axis → Axis) (s : State) : State := { s with mot := { s.mot with axes := upd {} n f s.mot.axes } }

/-- The registers of AXn from its base (MOT_AX_*). -/
def axReg (n off : Nat) : Nat := 0x0100_0000 + 0x100 * n + off

/-- An axis without its bridge: it coasts in state `st`, and whatever it was doing ends (R338, R340). The carrier period that has begun
completes (R332). -/
def Axis.coast (st : AxState) (noFb : Bool) (a : Axis) : Axis :=
  { a with
    st := st, homed := a.homed && !noFb, v := 0, aSet := 0, run := none, pendingRun := none, ramp := none,
    team := none, reversal := none, homing := none, abortCode := none, testEnding := false, testKind := 0, obsNoRev := false, due := {},
    pPrev := a.p, vPrev := 0, control := false, feRun := 0, iRun := 0, goodPeriods := 0, sum := 0, highNext := [0, 0, 0, 0] }

/-- The half-bridge outputs fall in the middle of a carrier period (R332, R361). -/
def Axis.cut (a : Axis) : Axis := { a with high := [0, 0, 0, 0] }

/-- The axis has no feedback channel. -/
def noFeedback (n : Nat) (s : State) : Bool := decide (cf (axReg n 0) 11 10 s = 0)

/-- The axes with ENx at 1. -/
def enMask (s : State) : Nat :=
  (List.range s.axesFitted).foldl (fun m n => m + (if (s.axis n).st.en then 2 ^ n else 0)) 0

/-- The last condition code of axis `n`, and the door accumulator's (R363, R460). -/
def noteAxisCode (n code : Nat) (s : State) : State :=
  let s1 := setAxis n (fun a => { a with lastCode := code }) s
  { s1 with jnl := { s1.jnl with acc := upd {} n (fun (d : DoorAcc) => { d with lastCode := code }) s1.jnl.acc } }

/-- Every axis enters DISABLED; `code` is recorded once with the axes that were enabled, if any (R361). -/
def disableAxes (code : Nat) (s : State) : State :=
  let m := enMask s
  let s1 := (List.range s.axesFitted).foldl (fun s n =>
    let s1 := setAxis n (fun a => (a.coast .disabled (noFeedback n s)).cut) s
    if m.testBit n then noteAxisCode n code s1 else s1) s
  if m = 0 then s1 else record code [m] s1

/-- The releases that wait for the servo boundary are outranked: every post is dropped, and recorded with 0x2012 (R339). -/
def dropReady (s : State) : State :=
  (s.mot.ready.flatMap MboxRelease.posts).foldl (fun s q => record 0x2012 [bits 4 0 q.a.toNat] (noteAxisCode (bits 4 0 q.a.toNat) 0x2012 s))
    { s with mot := { s.mot with ready := [] } }

/-- The mode serves BTHb (R282). -/
def modeServes (b : Nat) (m : Mode) : Bool :=
  if b = 0 then true else if b ≤ 2 then m != .stabled else m != .boot && m != .stabled

/-! ### Berth reset (R320, R321) -/

/-- BTHb is reset: requests announced or fetched and not yet taken, staged envelope, pending replies and transfers are discarded, roles and
traffic keys cleared, the queue disabled; it is closed again when the reset has completed. Commands that the gate has stamped stay in their batch. The number of the cause in 0x6032 is a free value (log entry 3). -/
def resetBerth (b : Nat) (s : State) : State :=
  let s1 := setBerth b (fun B => { B with
    state := .resetting, nonce := none, granted := 0, removed := 0, certRoles := 0, certHash := [], certIds := [], staged := {}, waiting := []
    slotWait := [], tcp := none, tls := false, keyIn := [], keyOut := [], records := 0
    fetched := 0, reqHead := B.reqTail, enable := false }) s
  let s2 := { s1 with jnl := { s1.jnl with sealWait := s1.jnl.sealWait.filter (fun w => w.1 != b) } }
  let d := s2.draw 32
  raise 225 (record 0x6032 [b, d.1.toNat] d.2)

/-- Every berth that mode `m` does not serve is reset when the module enters it (R282). -/
def resetUnserved (m : Mode) (s : State) : State :=
  (List.range 8).foldl (fun s b => if modeServes b m then s else resetBerth b s) s

/-- The mode changes: LKP_MODE, 0x9000, event source 0 (R517); berths that it does not serve are reset, and BTH0, open or opening,
when COMMISSION is left with no policy table active (R282, R295). -/
def setMode (m : Mode) (cause : Nat) (s : State) : State :=
  let old := s.keep.mode
  let s1 := resetUnserved m (raise 0 (record 0x9000 [old.code, m.code, cause]
    { s with keep := { s.keep with mode := m, prev := old, cause := BitVec.ofNat 16 cause } }))
  if old = .commission ∧ s.bth.policy = none ∧ ((s1.berth 0).state = .open_ ∨ (s1.berth 0).state = .opening) then resetBerth 0 s1 else s1

/-- The sequencer stops in whatever phase it is, and every cluster is drained (R53, R203, R518): by the mode change, with no record 0x1320
of a hand-over that MAINTAIN or the lock-keeper asked for (log entry 94). -/
def stopSequencer (s : State) : State :=
  { s with
    seq := { s.seq with
      phase := .notRunning, complete := true, overrun := false, motionList := [], fieldList := [],
      clMode := [], clReq := [], clTarget := [] }
    cores := s.cores.map (fun p => (p.1, { p.2 with
      top := { p.2.top with run := .idle, stall := .none }
      heart := { p.2.heart with run := .idle, stall := .none }
      base := { p.2.base with run := .idle, stall := .none } }))
    splits := s.splits.map (fun p => (p.1, { p.2 with run := .idle })) }

/-- MCC of the batch being filled: that of the next CAPTURE (R55). -/
def State.fillMcc (s : State) : Nat := if s.seq.captured then (s.seq.mcc + 1) % 2 ^ 48 else 0

/-- HOLD answers every entry that the gate has accepted and not yet answered (R319). -/
def answerAllHeld (s : State) : State :=
  let a := fun (disp mcc : Nat) =>
    ({ status := 0x6220, disposition := disp, released := false, mcc := mcc, words := [0, 0, 0, 0] } : EntryAnswer)
  let s1 := s.bth.batch.foldl (fun s e => answerEntry e (a (if s.bth.batchDone then e.disposition else 4) s.seq.mcc) s) s
  let s2 := s.bth.filling.foldl (fun s e => answerEntry e (a 4 s.fillMcc) s) s1
  let s3 := { s2 with bth := { s2.bth with batch := [], filling := [], batchDone := false } }
  (List.range 8).foldl (fun s b => flushReplies b (setBerth b (fun B => { B with filled := 0 }) s)) s3

/-- A triad member leaves with NOTICE (R242). -/
def leaveTriad (cause : Nat) (s : State) : State :=
  if s.tri.state = .off ∨ s.tri.state = .out then s
  else setTri .out (tpSendAll tNotice (be 4 cause ++ zeros 4) s)

/-- A BOOT that is in progress ends, once: LKP_BOOT, and the BOOT record of the keeper log (R516, R521). -/
def endBoot (s : State) : State :=
  if s.keep.mode ≠ .boot ∨ s.keep.bootStage = 15 then s
  else
    let s1 := askBootRecord s
    { s1 with keep := { s1.keep with bootStage := 15, bootMs := (s.now - s.keep.bootStart) / 1_000_000 } }

/-- Entry to HOLD (R518): one entry, whatever the number of causes (R520); a fault in HOLD causes nothing more (R32). -/
def enterHold (cause : Nat) (s : State) : State :=
  if s.keep.mode = .hold then s
  else
    let s1 := stopSequencer s
    let s2 := { s1 with keep := { s1.keep with
      liveLow := true, tripLow := true, stblRequest := false } }
    let s3 := disableAxes 0x2041 (dropReady { s2 with mot := { s2.mot with arriving := none } })
    let s4 := leaveTriad cause s3
    let s5 := setMode .hold cause (endBoot s4)
    let s6 := askFrame (applyHeldSamples (askCheckpoint s5))
    let s7 := answerAllHeld s6
    alertAll cause [] s7

/-- The module enters DEGRADED (R26, R517): from RUN only. -/
def enterDegraded (cause : Nat) (s : State) : State :=
  if s.keep.mode = .run then setMode .degraded cause s else s

/-- The trip net of R201: the flop is set, LIVE0 and LIVE1 are static low, the trip lines fall, the axes coast (R361). -/
def trip (s : State) : State :=
  disableAxes 0x2041 { s with seq := { s.seq with tripFlop := true }, keep := { s.keep with liveLow := true, tripLow := true } }

/-- The region is reinitialising (R30). -/
def State.reiniting (region : Nat) (s : State) : Bool := (look none region s.keep.reinit).isSome

/-- A region reinitialisation begins: 0x9101 with the region number (R30); a second fault during it passes to the module (R31). -/
def startReinit (region : Nat) (s : State) : State :=
  if s.reiniting region then enterHold 0x9103 (record 0x9103 [region] s)
  else record 0x9101 [region] { s with keep := { s.keep with reinit := put region (some s.now) s.keep.reinit } }

/-- A fault, recorded already, has the region reinitialised; in HOLD a fault causes no action (R30 to R32). -/
def beginReinit (region : Nat) (s : State) : State := if s.keep.mode = .hold then s else startReinit region s

end Sys2Proof.Machine
end

