-- ==== Sys2Proof/Machine/BerthOps.lean ====
section
/-!
DEFINITION. The berth gate's shared operations: roles, serving, refusals, failed opens, berth reset (R282 to R288, R307, R320 to
R323).
-/
namespace Sys2Proof.Machine

/-! ### Roles (R284 to R287, R295) -/

def roleO : Nat := 0
def roleB : Nat := 1
def roleM : Nat := 2
def roleE : Nat := 3
def roleI : Nat := 4
def roleU : Nat := 5

/-- The effective roles of BTHb (R287). -/
def Berth.effective (B : Berth) : BitVec 6 := B.granted &&& ~~~B.removed

def hasRole (b r : Nat) (s : State) : Bool := (s.berth b).state == .open_ && ((s.berth b).effective.getLsbD r)

/-- Some role of `rs` is held. -/
def hasAny (b : Nat) (rs : List Nat) (s : State) : Bool := rs.any (fun r => hasRole b r s)

/-- The roles that the active policy table gives BTHb; without one, BTH0 has at most OBSERVE, MAINTAIN and ENGINEER, in COMMISSION only
(R295). -/
def policyRoles (b : Nat) (s : State) : BitVec 6 :=
  match s.bth.policy with
  | none => if b = 0 ∧ s.keep.mode = .commission then 0b001110 else 0
  | some p => BitVec.ofNat 6 (look 0 b p.roles)

/-- A message can come to the gate on BTHb: on PCI Express its queue is active, and a request has been fetched (R311); BTH3 to BTH7 carry
messages in a TLS session. -/
def msgCarried (b : Nat) (s : State) : Bool :=
  if b = 1 ∨ b = 2 then (s.berth b).enable && !s.keep.clkNow.getLsbD 5 && decide (0 < (s.berth b).fetched)
  else if 3 ≤ b then (s.berth b).tls else true

/-- A message on BTHb reaches the gate: the berth is served (R282); none but BTH0 is in ROM recovery (R533), and none once BOOT has failed
at S1 (R521). -/
def served (b : Nat) (s : State) : Bool :=
  modeServes b s.keep.mode && (b == 0 || !s.keep.romRecovery) && !(s.keep.mode == .boot && s.keep.bootFailed == 1) && msgCarried b s

/-- The berth is closed by the loss of PCLK (R39): its roles and its nonce are gone; a lockout goes on. -/
def Berth.shut (B : Berth) : Berth :=
  { B with state := if B.state = .lockedOut then .lockedOut else .closed, nonce := none, granted := 0, certRoles := 0, certHash := [], certIds := [] }

/-! ### Berth reset (R320, R321) -/

/-- The reset of BTHb has completed: it is closed, or locked out while its lockout lasts. -/
def endReset (b : Nat) (s : State) : State :=
  setBerth b (fun B => if B.state = .resetting then { B with state := if B.lockEnd.isSome then .lockedOut else .closed } else B) s

/-! ### Refusals (R307, R322) -/

/-- `n` refusals with one code on BTHb are recorded, with the address or type of the last. -/
def recordRefusals (b code n arg : Nat) (s : State) : State :=
  recordC code (if n = 1 then 0 else 2) n (le 4 b ++ le 4 arg) (setBerth b (fun B => { B with refusals := put code (s.now, 0, arg) B.refusals }) s)

/-- A refusal on BTHb is recorded, at most once per second for one code, with a count (R322). -/
def recordRefusal (b code arg : Nat) (s : State) : State :=
  let r := look (0, 0, 0) code (s.berth b).refusals
  let known := (keysOf (s.berth b).refusals).contains code
  if known ∧ s.now < r.1 + 1_000_000_000 then setBerth b (fun B => { B with refusals := put code (r.1, r.2.1 + 1, arg) B.refusals }) s
  else recordRefusals b code (r.2.1 + 1) arg s

/-- The refusals of BTHb that were only counted are recorded once a second has passed since the last record of their code (R322). -/
def flushRefusals (s : State) (b : Nat) : State :=
  (s.berth b).refusals.foldl (fun s r =>
    if r.2.2.1 ≠ 0 ∧ r.2.1 + 1_000_000_000 ≤ s.now then recordRefusals b r.1 r.2.2.1 r.2.2.2 s else s) s

/-- A refused access: BTH_FAIL counts it, and it is recorded. -/
def refuseAccess (b code arg : Nat) (s : State) : State :=
  recordRefusal b code arg (setBerth b (fun B => { B with refused := sat 0xFFFF (B.refused + 1) }) s)

/-- A message of type `typ` is refused with a reply that carries the code only. -/
def refuseMsg (b typ : Nat) (tag : Word) (code arg : Nat) (s : State) : State :=
  sendReply b { typ := typ, tag := tag, status := code, body := [] } (refuseAccess b code arg s)

/-- A message done: status 0 with a body. -/
def replyOk (b typ : Nat) (tag : Word) (body : List Byte) (s : State) : State :=
  sendReply b { typ := typ, tag := tag, status := 0, body := body } s

/-- The gate takes a message on BTHb: the idle time starts again, and a fetched request is taken. -/
def touch (b : Nat) (s : State) : State := setBerth b (fun B => { B with lastUse := s.now, fetched := B.fetched - 1 }) s

/-- What BTH0 offers in ROM recovery (R533). -/
def recoveryServes (typ : Nat) (s : State) : Bool :=
  !s.keep.romRecovery || decide (typ ≤ 0x03 ∨ typ = 0x31 ∨ typ = 0x40 ∨ typ = 0x41)

/-- The checks every message passes: its header and its type (0x6010; 0x6011 for a type byte that is not the command's, one that is
reserved), its shape (0x6010), what STABLED offers (0x6004, R537), then whether its type is permitted here (0x6011) (R307). -/
def gate (b typ : Nat) (m : MsgHead) (body : List Byte) (shapeOk permitted : Bool) (s : State) (k : State → State) : State :=
  let refuse := fun code => refuseMsg b m.typ.toNat m.tag code m.typ.toNat (touch b s)
  if !served b s then s
  else if !headOk m body then refuse 0x6010
  else if m.typ.toNat ≠ typ then refuse 0x6011
  else if !shapeOk then refuse 0x6010
  else if s.keep.mode = .stabled ∧ 0x11 < typ then refuse 0x6004
  else if !recoveryServes typ s then refuse 0x6011
  else if !permitted then refuse 0x6011
  else k (touch b s)

/-- `gate` for an open berth that holds one of the roles. -/
def gateRoles (b typ : Nat) (m : MsgHead) (body : List Byte) (shapeOk : Bool) (roles : List Nat) (s : State) (k : State → State) : State :=
  gate b typ m body shapeOk (hasAny b roles s) s k

/-! ### Failed opens (R323) -/

def openLimit (s : State) : Nat := (s.bth.policy.map Policy.openLimit).getD 5
def lockoutNs (s : State) : Nat := 1_000_000_000 * (s.bth.policy.map Policy.lockout).getD 60
def globalLimit (s : State) : Nat := (s.bth.policy.map Policy.globalLimit).getD 1000
def holdOnLimit (s : State) : Bool := (s.bth.policy.map Policy.holdOnLimit).getD false

/-- BTHb is locked out for the lockout time; a host that holds it open keeps it, an open in progress ends. -/
def lockBerth (b : Nat) (s : State) : State :=
  let e := some (s.now + lockoutNs s)
  raise 230 (record 0x6024 [b] (setBerth b (fun B =>
    if B.state = .open_ then { B with lockEnd := e } else { B with state := .lockedOut, lockEnd := e, nonce := none, tcp := none }) s))

/-- A failure counts towards the global limit of 3,600 s (R323). -/
def globalFailure (s : State) : State :=
  let recent := s.bth.gfail.filter (fun t => decide (s.now < t + 3_600_000_000_000)) ++ [s.now]
  let s1 := { s with bth := { s.bth with gfail := recent } }
  if recent.length < globalLimit s then s1
  else
    let s2 := raise 231 (record 0x6300 [recent.length] s1)
    if holdOnLimit s then enterHold 0x6300 s2
    else (List.range 8).foldl (fun s b => if b = 0 then s else lockBerth b s) s2

/-- An open of BTHb has failed: the berth is closed, and locked out once it reaches its limit within 60 s (R323). -/
def failedOpen (b : Nat) (s : State) : State :=
  let recent := (s.berth b).failAt.filter (fun t => decide (s.now < t + 60_000_000_000)) ++ [s.now]
  let s1 := raise 226 (setBerth b (fun B => { B with
    state := .closed, nonce := none, opens := sat 0xFFFF (B.opens + 1), failAt := recent, tcp := none, tls := false }) s)
  globalFailure (if openLimit s ≤ recent.length then lockBerth b s1 else s1)

/-! ### Opening (R287 to R291) -/

/-- A certificate of the chain is revoked (R291). -/
def revoked (ids : List (List Byte × List Byte)) (s : State) : Bool :=
  match s.bth.policy with
  | none => false
  | some p => ids.any (fun c => p.revoked.contains c)

/-- The public key of the site trust anchor in use (R297). -/
def State.anchorKey (s : State) : List Byte :=
  match s.bth.anchorSlot with
  | none => []
  | some k => look [] k s.bth.anchors

/-- The leaf of a host's chain, up to the site trust anchor, is valid and not revoked (R290, R291). -/
def hostLeaf (ders : List (List Byte)) (s : State) : Option Signer := (chainLeaf 3 s.anchorKey ders).filter (fun g => !revoked g.ids s)

/-- The code with which an open fails whose chain gave `leaf` and whose signature gave `sigOk`, or 0 (R287, R290, R291, R309). -/
def openCode (b : Nat) (leaf : Option Signer) (sigOk : Signer → Bool) (s : State) : Nat :=
  match leaf with
  | none => 0x6020
  | some g => if !sigOk g then 0x6021 else if g.roles &&& policyRoles b s = 0 then 0x6023 else 0

/-- BTHb is open with the roles of its certificate and the policy table; roles that BTH_NARROW has removed stay removed (R288). 0x6030,
event source 224. -/
def openWith (b : Nat) (leaf : Signer) (s : State) : State :=
  let g := leaf.roles &&& policyRoles b s
  let s1 := setBerth b (fun B => { B with
    state := .open_, nonce := none, granted := g, certRoles := leaf.roles, certHash := leaf.hash, certIds := leaf.ids, lastUse := s.now }) s
  raise 224 (recordB 0x6030 (le 4 b ++ le 4 g.toNat ++ leaf.hash) s1)

/-- The open of BTHb fails with `code`, recorded each time; BTH_FAIL counts it as a failed open, not as a refusal (log entry 55). The
reason that 0x6020 carries has no numbers in the spec: a free value (log entry 3). -/
def openFails (b code : Nat) (s : State) : State :=
  let d := s.draw 32
  if code = 0x6020 then failedOpen b (record code [b, d.1.toNat] d.2) else failedOpen b (record code [b] s)

/-! ### Policy changes (R294 to R296) -/

/-- A new policy table, or none, is active: every open berth whose roles change or whose certificate is revoked is reset. -/
def policyChanged (s : State) : State :=
  (List.range 8).foldl (fun s b =>
    let B := s.berth b
    if B.state == .open_ && (B.certRoles &&& policyRoles b s != B.granted || revoked B.certIds s) then resetBerth b s else s) s

end Sys2Proof.Machine
end

