-- ==== Sys2Proof/Machine/JournalOps.lean ====
section
/-!
DEFINITION. The journal store: the ring of units, writing a record, the full state, sealing and readout, journal slots (R440 to
R475).
-/
namespace Sys2Proof.Machine

def setJnl (f : Journal → Journal) (s : State) : State := { s with jnl := f s.jnl }

/-! ### Stored form (R443, R446) -/

/-- Header and payload bytes of record `r` with number `k`. -/
def Rec.hashed (r : Rec) (k : Nat) : List Byte := r.header k ++ r.payload

/-- A record as it stands in the store; one that is not valid has no tail. -/
def Stored.bytes (x : Stored) : List Byte :=
  let body := x.rec_.header x.number ++ x.rec_.payload ++ zeros (roundUp 16 x.rec_.payload.length - x.rec_.payload.length)
  let crc := (crc32c (x.rec_.hashed x.number)).toNat
  body ++ (if x.valid then le 4 0x544C_4E4A ++ le 4 crc ++ (if x.chain = [] then zeros 8 else x.chain.take 8)
    else List.replicate 16 0xFF)

/-- The chain value before the first record that the flacon ever holds (R446). -/
def chainStart (s : State) : List Byte := sha256 ([0x41, 0x4B, 0x4A, 0x4E] ++ le 8 s.fused.serial.toNat)

/-- The chain value of the last valid record. -/
def State.chain (s : State) : List Byte := if s.jnl.head.isNone then chainStart s else s.jnl.chain

/-- The number of the next record; the first record's is not stated (log entry 8). -/
def State.nextNumber (s : State) : Nat := match s.jnl.head with | none => 0 | some k => (k + 1) % 2 ^ 32

/-! ### Space (R441, R442, R453) -/

def writeUnit (s : State) : Nat := s.jnl.write / Config.unitBytes

/-- The distance of unit `u` ahead of the write point in the ring. -/
def ringDist (u : Nat) (s : State) : Nat := (u + s.flaconUnits - writeUnit s) % s.flaconUnits

/-- Erased units ahead of the write point (JNL_FREE). -/
def erasedAhead (s : State) : Nat :=
  let d := (s.jnl.usedUnits.filter (fun u => !s.jnl.retired.contains u)).foldl (fun (m : Nat) u =>
    if ringDist u s = 0 then m else min m (ringDist u s)) s.flaconUnits
  d - 1 - (s.jnl.retired.filter (fun u => decide (0 < ringDist u s ∧ ringDist u s < d))).length

/-- The next unit in the ring that is not retired. -/
def nextUnit (s : State) : Nat :=
  (((List.range (s.jnl.retired.length + 1)).map (fun k => (writeUnit s + 1 + k) % s.flaconUnits)).find?
    (fun u => !s.jnl.retired.contains u)).getD (writeUnit s)

/-- Bytes left in the unit of the write point; none once it is retired. -/
def unitLeft (s : State) : Nat := if s.jnl.retired.contains (writeUnit s) then 0 else Config.unitBytes - s.jnl.write % Config.unitBytes

/-- A record of `size` bytes fits and leaves 512 bytes of erased space ahead (R453). -/
def recFits (size : Nat) (s : State) : Bool :=
  if size ≤ unitLeft s then
    decide (512 ≤ unitLeft s - size + Config.unitBytes * erasedAhead s)
  else decide (0 < erasedAhead s ∧ 512 ≤ Config.unitBytes * erasedAhead s - size)

/-- The record is programmed at the write point, or at the start of the next unit, and enters the chain (R443 to R446). -/
def writeRec (r : Rec) (s : State) : State :=
  let k := s.nextNumber
  let here := decide (r.size ≤ unitLeft s)
  let o := if here then s.jnl.write else nextUnit s * Config.unitBytes
  let c := sha256 (s.chain ++ r.hashed k)
  let full := decide ((o + r.size) % Config.unitBytes = 0)
  let s1 := setJnl (fun j => { j with
    flacon := j.flacon ++ [{ offset := o, number := k, rec_ := r, chain := c }]
    usedUnits := if j.usedUnits.contains (o / Config.unitBytes) then j.usedUnits else j.usedUnits ++ [o / Config.unitBytes]
    write := o + r.size, head := some k, chain := c
    sinceCkpt := if r.typ = 0xF0 ∨ r.typ = 0xF1 then 0 else j.sinceCkpt + 1 }) s
  -- a unit that is filled exactly: the write point moves to the next one
  if full then setJnl (fun j => { j with write := nextUnit { s1 with jnl := { s1.jnl with write := o } } * Config.unitBytes }) s1 else s1

/-! ### Faults and the full state (R452, R453) -/

/-- A journal store fault: recording stops; 0x7005 in the keeper log, event source 245; HOLD when JNL_CFG says so. -/
def storeFault (s : State) : State :=
  if s.jnl.state = .storeFault then s
  else
    let held := s.jnl.held
    let s0 := if s.jnl.heldBoot then klogPut (bootRec s) s else s
    let s1 := setJnl (fun j => { j with state := .storeFault, staging := [], held := [], heldCkpt := false, heldFrame := false, heldBoot := false }) s0
    let s2 := s.jnl.staging.foldl (fun s r => loseRec r s) s1
    let s3 := held.foldl (fun s h =>
      let s := if h.2.2 then klogPut h.1 s else s
      if h.2.1 then loseRec h.1 s else s) s2
    let s4 := raise 245 (record 0x7005 [] s3)
    if cbit 0x0600_0000 0 s then enterHold 0x7005 s4 else s4

/-- A unit that fails to program or to erase is retired; above 1 % the store has a fault (R442). -/
def retireUnit (u : Nat) (s : State) : State :=
  let s1 := record 0x7006 [u] (setJnl (fun j => { j with retired := j.retired ++ [u] }) s)
  if s.flaconUnits < 100 * s1.jnl.retired.length then storeFault s1 else s1

/-- The flacon fills: a FULL record, then a CHECKPOINT; whatever is staged is lost (R453, R454). Where units that failed leave no erased space,
neither can be written (log entry 98). -/
def fillFlacon (s : State) : State :=
  let left := unitLeft s + Config.unitBytes * erasedAhead s
  let s1 := if left = 0 then s else writeRec { typ := 0xF3, dtime := s.now, payload := le 4 left ++ zeros 4 } s
  let lost := s1.jnl.staging.filter (fun r => r.typ != 0xF0 && r.typ != 0xF1)
  let s2 := setJnl (fun j => { j with state := .full, staging := if left = 0 then [] else [signSlot 0xF0 s1] }) s1
  raise 240 (record 0x7002 [] (lost.foldl (fun s r => loseRec r s) s2))

/-! ### Checkpoints and seals (R447, R448, R464) -/

def Rec.signed (r : Rec) : Bool := r.typ == 0xF0 || r.typ == 0xF1

/-- Bytes 0x00 to 0x3F of a CHECKPOINT or SEAL with the next number. -/
def signBody (s : State) : List Byte :=
  le 4 s.nextNumber ++ le 4 s.jnl.arm ++ le 8 s.fused.serial.toNat ++ s.chain ++ wallBytes s ++ le 4 s.keep.bootCount.toNat

/-- The record at the front of the staging buffer is formed: a checkpoint that is due takes its place there first. -/
def formSigned (s : State) : State :=
  let due := decide (4_095 ≤ s.jnl.sinceCkpt) && !((s.jnl.staging.head?.map Rec.signed).getD false) && s.jnl.state == .recording
  let st := if due then signSlot 0xF0 s :: s.jnl.staging else s.jnl.staging
  match st with
  | r :: t =>
    if r.signed && r.payload == [] then
      setJnl (fun j => { j with staging := { r with dtime := s.now, payload := signBody s } :: t }) s
    else setJnl (fun j => { j with staging := st }) s
  | [] => s

/-- The bytes that the signature of a CHECKPOINT or SEAL covers: "AKJC", the type, bytes 0x00 to 0x3F of the payload (R447). -/
def signedBytes (r : Rec) : List Byte := [0x41, 0x4B, 0x4A, 0x43] ++ le 2 r.typ ++ r.payload

/-- The signature by the device signing key completes the front record (R297, R447, R448); its nonce is a free value (log entry 98). -/
def addSignature (s : State) : State :=
  match s.jnl.staging with
  | r :: t =>
    if r.signed && r.payload.length == 64 then
      let g := drawBytes 32 s
      let sig := ecdsaSign s.fused.signKey (ofLe g.1 % (p256N - 1) + 1) (signedBytes r)
      setJnl (fun j => { j with staging := { r with payload := r.payload ++ sig } :: t }) g.2
    else s
  | [] => s

/-- Record number `k` stands at or before record number `a` in the chain; numbers count modulo 2^32 (R444, R465). -/
def upTo (a k : Nat) : Bool := decide ((a + 2 ^ 32 - k) % 2 ^ 32 < 2 ^ 31)

/-- The last record of the flacon, complete as stored. -/
def lastStored (s : State) : List Byte := (s.jnl.flacon.getLast?.map Stored.bytes).getD []

/-- A seal has been written: it answers the JSEAL messages that wait; in the full state the checkpoint answers them (R464). -/
def answerSeals (all : Bool) (s : State) : State :=
  let body := lastStored s
  let now := if all then s.jnl.sealWait else s.jnl.sealWait.take 1
  let s1 := setJnl (fun j => { j with sealWait := if all then [] else j.sealWait.drop 1 }) s
  now.foldl (fun s w => sendReply w.1 { typ := 0x52, tag := w.2, status := 0, body := body } s) s1

/-! ### Start-up (R455 to R457) -/

/-- The flacon was full: its newest record that is no checkpoint is a FULL record (R454). -/
def endsFull (s : State) : Bool :=
  match (s.jnl.flacon.filter (fun x => x.valid && !x.rec_.signed)).getLast? with
  | some x => x.rec_.typ == 0xF3
  | none => false

/-- The records held before the scan follow the BOOT record (R447, R474, R518). -/
def releaseHeld (s : State) : State :=
  let s0 := if s.jnl.heldBoot then klogPut (bootRec s) s else s
  let s1 := s.jnl.held.foldl (fun s h =>
    let s := if h.2.2 then klogPut h.1 s else s
    if h.2.1 then stageRec h.1 s else s) (setJnl (fun j => { j with held := [], heldBoot := false }) s0)
  let s2 := if s.jnl.heldCkpt then askCheckpoint s1 else s1
  let s3 := setJnl (fun j => { j with heldCkpt := false, heldFrame := false }) s2
  if s.jnl.heldFrame then askFrame s3 else s3

/-- The scan ends: a torn record is stepped over, then BOOT, 0x7000, 0x7001 and what was held (R455 to R457). -/
def finishScan (s : State) : State :=
  let last := s.jnl.head.getD 0
  let torn := s.jnl.torn
  let s1 := match torn with
    | none => setJnl (fun j => { j with state := if endsFull s then .full else .recording, tornFound := 0 }) s
    | some p =>
      let po := p % Config.unitBytes
      let bound := roundUp 4096 (po + 4112)
      let fits := decide (bound < Config.unitBytes)
      let resume := p / Config.unitBytes * Config.unitBytes + bound
      let skipped := (if fits then bound else Config.unitBytes) - po
      let s1 := setJnl (fun j => { j with
        state := if endsFull s then .full else .recording, torn := none, tornFound := 1
        write := if fits then resume else nextUnit s * Config.unitBytes }) s
      stageRec { typ := 0xF4, dtime := s.now, payload := le 4 (p / Config.unitBytes) ++ le 4 po ++ le 4 skipped ++ zeros 4 } s1
  let s2 := stageRec (bootRec s1) s1
  let s3 := record 0x7000 [last, if torn.isSome then 1 else 0] s2
  let s4 := match torn with
    | none => s3
    | some p => record 0x7001 [p / Config.unitBytes, p % Config.unitBytes] s3
  releaseHeld s4

/-! ### Readout and re-arming (R462 to R466): status and reply body -/

/-- Bytes `o` to `o + n - 1` of unit `u` of an area that holds `recs`; erased bytes read 0xFF (R463). -/
def areaBytes (recs : List Stored) (u o n : Nat) : List Byte :=
  let base := u * Config.unitBytes + o
  let near := recs.filter (fun x => decide (x.offset < base + n ∧ base < x.offset + x.rec_.size))
  let bytes := near.map (fun x => (x.offset, x.bytes))
  (List.range n).map (fun i =>
    match bytes.find? (fun p => decide (p.1 ≤ base + i ∧ base + i < p.1 + p.2.length)) with
    | some p => p.2.getD (base + i - p.1) 0xFF
    | none => 0xFF)

/-- The request of JREAD, KREAD and SHREAD: three words; whether offset and length follow the rule. -/
def readArgs (body : List Byte) : Nat × Nat × Nat := (beAt 0 4 body, beAt 4 4 body, beAt 8 4 body)

def readShapeOk (o n : Nat) : Bool := decide (o % 16 = 0 ∧ n % 16 = 0 ∧ 16 ≤ n ∧ n ≤ 4_064)

/-- JREAD or KREAD over an area of `units` units; a read that crosses a unit's or the area's end is refused with 0x7040. -/
def readArea (recs : List Stored) (units : Nat) (body : List Byte) : Nat × List Byte :=
  let a := readArgs body
  if a.1 < units ∧ a.2.1 + a.2.2 ≤ Config.unitBytes then
    (0, be 4 a.1 ++ be 4 a.2.1 ++ be 4 a.2.2 ++ zeros 4 ++ areaBytes recs a.1 a.2.1 a.2.2)
  else (0x7040, [])

/-- JACK of record `k` with chain value `c` (R465). -/
def jack (k : Nat) (c : List Byte) (s : State) : Nat × State :=
  let before := match s.jnl.acked with | none => false | some a => upTo a k
  if before then (0, s)
  else if s.jnl.flacon.any (fun x => x.valid && x.rec_.signed && x.number == k && x.chain == c) then
    (0, raise 243 (record 0x7011 [k] (setJnl (fun j => { j with acked := some k }) s)))
  else (0x7012, s)

/-- The units whose records all stand at or before the acknowledged point, but the write point's, in ring order (R466). -/
def erasable (s : State) : List Nat :=
  match s.jnl.acked with
  | none => []
  | some a =>
    let us := s.jnl.usedUnits.filter (fun u => u != writeUnit s && !s.jnl.retired.contains u && !s.jnl.erasing.contains u
      && s.jnl.flacon.all (fun x => x.offset / Config.unitBytes != u || upTo a x.number))
    sortBy (fun x y => decide (ringDist x s ≤ ringDist y s)) us

/-- The REARM record; the count of lost records starts again at 0 (R466). -/
def rearmRec (arm units : Nat) (s : State) : State :=
  let r : Rec := { typ := 0xF2, dtime := s.now
                   payload := le 4 arm ++ le 4 units ++ le 4 s.jnl.lost ++ zeros 4 ++ le 8 s.jnl.lostFirst ++ le 8 s.jnl.lostLast }
  record 0x7013 [arm, units] (stageRec r (setJnl (fun j => { j with lost := 0, lostFirst := 0, lostLast := 0 }) s))

/-- JREARM: status, units set to be erased and new arm number (R466). -/
def jrearm (s : State) : (Nat × List Byte) × State :=
  let us := erasable s
  if us = [] then ((0x7014, []), s)
  else
    let arm := (s.jnl.arm + 1) % 2 ^ 32
    let s1 := setJnl (fun j => { j with arm := arm, erasing := j.erasing ++ us }) s
    let s2 := if s.jnl.state = .full then setJnl (fun j => { j with rearmPend := some (arm, us.length) }) s1
      else rearmRec arm us.length s1
    ((0, be 4 us.length ++ be 4 arm), s2)

/-- JNL_STATE as a word. -/
def jnlState (s : State) : Nat :=
  let st := match s.jnl.state with | .notScanned => 0 | .recording => 1 | .full => 2 | .storeFault => 3
  st + 8 * b2n (s.jnl.erasing != []) + 2 ^ 16 * sat 0xFFFF s.jnl.retired.length

/-- JSTAT: JNL_STATE, HEAD, ACKED, ARM, FREE, LOST, and the write point (R462). -/
def jstatBody (s : State) : List Byte :=
  [jnlState s, s.jnl.head.getD 0, s.jnl.acked.getD 0, s.jnl.arm, erasedAhead s, s.jnl.lost, writeUnit s,
   s.jnl.write % Config.unitBytes].flatMap (be 4)

/-! ### Statistics (R472, R475) -/

/-- Word `i` (0 to 39) of a metric (R475). -/
def metricWord (M : Metric) (i : Nat) : Nat :=
  let sum := (BitVec.ofInt 64 M.sum).toNat
  if i < 32 then look 0 i M.bins
  else if i = 32 then M.count
  else if i = 33 then (if M.count = 0 then 0 else (wInt M.min).toNat)
  else if i = 34 then (if M.count = 0 then 0 else (wInt M.max).toNat)
  else if i = 35 then sum % 2 ^ 32
  else if i = 36 then sum / 2 ^ 32
  else if i = 37 then b2n M.satCount + 2 * b2n M.satBin + 4 * b2n M.sumHeld
  else 0

/-- Word `i` of a frame: a 16-word header, then the metrics (R472). -/
def frameWord (F : StatFrame) (i : Nat) : Nat :=
  let sec := F.wallSec % 2 ^ 48 + (if F.wallValid then 2 ^ 63 else 0)
  if i < 16 then
    [F.number, F.bootCount, F.dtime % 2 ^ 32, F.dtime / 2 ^ 32, sec % 2 ^ 32, sec / 2 ^ 32, F.wallNs, F.mcc].getD i 0
  else metricWord (look {} ((i - 16) / 40) F.metrics) ((i - 16) % 40)

/-- SHREAD: bytes of a frame that the area holds (R462, R472). -/
def shread (body : List Byte) (s : State) : Nat × List Byte :=
  let a := readArgs body
  match s.jnl.frames.find? (fun F => F.number == a.1) with
  | some F =>
    if a.2.1 + a.2.2 ≤ 655_424 then
      (0, be 4 a.1 ++ be 4 a.2.1 ++ be 4 a.2.2 ++ zeros 4
        ++ (List.range (a.2.2 / 4)).flatMap (fun i => le 4 (frameWord F (a.2.1 / 4 + i))))
    else (0x7040, [])
  | none => (0x7040, [])

/-- A metric is cleared (R473). -/
def clearMetric (m : Nat) (s : State) : State :=
  record 0x7021 [m] (setJnl (fun j => { j with metrics := del m j.metrics }) s)

/-! ### Journal request slots (R458 to R461) -/

/-- The slot's words are in order for its kind. -/
def slotOk (w0 w1 w2 w3 : Word) (s : State) : Bool :=
  let k := bits 7 0 w0.toNat
  let m := bits 31 16 w0.toNat
  decide (bits 15 8 w0.toNat = 0)
  && (if k = 1 then true
      else if k = 2 then decide (w1 ≠ 0 ∧ w1.toNat < 2 ^ s.axesFitted ∧ bits 31 8 w2.toNat = 0)
      else if k = 3 then decide (256 ≤ m ∧ m ≤ 4095 ∧ w2 = 0 ∧ w3 = 0) && cbit (metCfg m) 0 s
      else false)

/-- A DOOR_CYCLE record from the accumulators of the named axes, which are then cleared; metrics 16 to 79 (R461, R471). -/
def doorCycle (w0 w1 w2 w3 : Word) (late : Bool) (dtime : Nat) (s : State) : State :=
  let axes := (List.range 32).filter (fun n => w1.getLsbD n)
  let acc := fun n => look ({} : DoorAcc) n s.jnl.acc
  let largest := fun (f : DoorAcc → Nat) => axes.foldl (fun m n => max m (f (acc n))) 0
  let start := axes.foldl (fun m n => min m (acc n).cleared) s.now
  let ms := sat 0xFFFF_FFFF ((s.now - start) / 1_000_000)
  let flags := b2n (axes.any (fun n => decide (0 < (acc n).obstacles))) + 2 * b2n (axes.any (fun n => (acc n).fault))
    + 4 * b2n late + 8 * b2n (axes.any (fun n => !(s.axis n).homed))
  let r : Rec := { typ := 4, dtime := dtime
                   payload := le 2 (bits 31 16 w0.toNat) ++ le 1 (bits 7 0 w2.toNat) ++ le 1 flags ++ le 4 s.seq.mcc ++ le 4 ms
                     ++ le 4 w1.toNat ++ le 2 (sat 65535 (largest DoorAcc.runs)) ++ le 2 (sat 65535 (largest DoorAcc.obstacles))
                     ++ le 2 (largest DoorAcc.peakCurrent) ++ le 2 (largest DoorAcc.peakError)
                     ++ le 2 (largest DoorAcc.peakVelocity / 65536) ++ le 2 (acc (axes.getLastD 0)).lastCode ++ le 4 w3.toNat }
  let s1 := axes.foldl (fun s n => sample (48 + n) (acc n).peakCurrent (sample (16 + n) ms s)) (stageRec r s)
  axes.foldl (fun s n => setJnl (fun j => { j with acc := put n { cleared := s.now } j.acc }) s) s1

/-- One slot is taken: PROGRAM, DOOR_CYCLE, a sample, or refused with 0x7030 and event source 247. `late`: the cycle was not
released; the record carries D(n) (R445, R458). -/
def journalSlot (slot : Nat) (w0 w1 w2 w3 : Word) (late : Bool) (s : State) : State :=
  let k := bits 7 0 w0.toNat
  if !slotOk w0 w1 w2 w3 s then raise 247 (recordC 0x7030 (b2n late) 1 (le 4 slot ++ le 4 w0.toNat) s)
  else if k = 1 then
    stageRec { typ := 3, dtime := s.deadline
               payload := le 2 slot ++ le 2 (b2n late) ++ le 4 s.seq.mcc ++ [w0, w1, w2, w3].flatMap (fun w => le 4 w.toNat) } s
  else if k = 2 then doorCycle w0 w1 w2 w3 late s.deadline s
  else sample (bits 31 16 w0.toNat) (signed 32 w1.toNat) s

/-- The non-empty slots of a cycle, in ascending order (R458). -/
def journalSlots (late : Bool) (s : State) : State :=
  (List.range 512).foldl (fun s i =>
    let w := fun k => outWord (0x0800 + 4 * i + k) s
    if w 0 = 0 then s else journalSlot i (w 0) (w 1) (w 2) (w 3) late s) s

end Sys2Proof.Machine
end

