-- ==== Sys2Proof/Machine/ServiceOps.lean ====
section
/-!
DEFINITION. Service cores and the event controller: sources, batches, presentation and claim, frames, exceptions, core reset,
service SRAM and MPU (R476 to R507).
-/
namespace Sys2Proof.Machine

def State.svcCore (c : Nat) (s : State) : SvcCore := look {} c s.svc.cores
def setSvc (c : Nat) (f : SvcCore → SvcCore) (s : State) : State := { s with svc := { s.svc with cores := upd {} c f s.svc.cores } }
def setSrc (k : Nat) (f : EvSource → EvSource) (s : State) : State := { s with svc := { s.svc with src := upd {} k f s.svc.src } }

/-! ### Gathering and pending (R492, R493) -/

/-- One detected edge of source `k`. -/
def evEdge (k : Nat) (s : State) : State :=
  if !srcEnabled k s || s.svc.held || decide (254 < k) then s
  else
    let n := max 1 (cf (srcReg k 0) 15 8 s)
    let t := max 1 (cf (srcReg k 4) 15 0 s)
    setSrc k (fun e =>
      let e1 := if e.gathering = false ∧ e.pending = false then { e with gathering := true, t0 := s.now, n := n, t := t } else e
      let e2 := { e1 with batch := min (e1.batch + 1) 255 }
      if e2.gathering = true ∧ e2.n ≤ e2.batch then { e2 with pending := true, gathering := false } else e2) s

/-- The source's pending, gathering and batch state is cleared (R493). -/
def srcClear (k : Nat) (s : State) : State := setSrc k (fun e => { e with pending := false, gathering := false, batch := 0 }) s

/-- EVC_SRC_CFG[k] takes `v`: a cleared enable clears the source; the first enable after a wake finds what the watcher has
latched (R493, R509). -/
def srcCfgWrite (k : Nat) (v : Word) (s : State) : State :=
  let was := srcEnabled k s
  let s1 := ctlSet (srcReg k 0) v s
  let on := v.getLsbD 31
  if !on then srcClear k s1
  else if !was && decide (k < 16) && s.svc.wakeOwed.getLsbD k then
    let s2 := { s1 with svc := { s1.svc with wakeOwed := s1.svc.wakeOwed &&& ~~~(1#16 <<< k) } }
    setSrc k (fun e => { e with pending := true, gathering := false, batch := min (e.batch + 1) 255 }) s2
  else s1

/-! ### Presentation and priority (R495 to R499) -/

def SvcCore.depth (k : SvcCore) : Nat := k.stack.length
def SvcCore.prio (k : SvcCore) : Nat := match k.stack with | [] => 15 | p :: _ => p.1

/-- Source `k` is presentable to core `c` (R495, R496). -/
def presentable (c k : Nat) (s : State) : Bool :=
  let q := s.svcCore c
  (s.evSrc k).pending && srcEnabled k s && cbit (srcReg k 0) (16 + c) s && !cbit 0x0700_0000 0 s
  && q.released && !s.svc.held && !q.di && !q.exc
  && (if stacked s then decide (srcPrio k s < q.prio) else decide (q.depth = 0))

/-- The request that core `c` is presented (R497). -/
def winner (c : Nat) (s : State) : Option (Nat × Nat) := winnerOf (fun k => presentable c k s) s

/-! ### Service SRAM and MPU (R481 to R484) -/

def svcWord (i : Nat) (s : State) : Word :=
  BitVec.ofNat 32 (ofLe ((List.range 4).map (fun j => memGet 0 (4 * i + j) s.svc.sram)))

def svcSet (i : Nat) (v : Word) (s : State) : State :=
  { s with svc := { s.svc with sram := (List.range 4).foldl (fun m j =>
      memPut 0 (4 * i + j) (BitVec.ofNat 8 (v.toNat / 256 ^ j)) m) s.svc.sram } }

/-- The descriptor words that an access is checked against: for each word written since the last MPUSYNC, the old or the new
one, freely (R484; log entry 3). -/
def mpuView (c : Nat) (s : State) : Tab Word × State :=
  (s.svcCore c).mpuOld.foldl (fun (acc : Tab Word × State) p =>
    let d := acc.2.draw 1
    (if d.1 = 1 then put p.1 p.2 acc.1 else acc.1, d.2)) ((s.svcCore c).mpu, s)

/-- Whether descriptors `m` permit an access of kind `kind` (0 read, 1 write, 2 execute) at byte address `a` (R482, R483). -/
def mpuGrants (m : Tab Word) (priv : Bool) (kind a : Nat) : Bool :=
  let page := bits 22 12 a
  match (List.range 16).find? (fun k =>
      let lo := (look 0 (2 * k) m).toNat
      let hi := (look 0 (2 * k + 1) m).toNat
      bitAt 0 hi && decide (bits 22 12 lo ≤ page ∧ page ≤ bits 22 12 hi)) with
  | some k => bitAt ((if priv then 4 else 1) + kind) (look 0 (2 * k + 1) m).toNat
  | none => false

/-- The MPU's answer to an access of core `c` at privilege `priv` (R483). -/
def mpuAllows (c : Nat) (priv : Bool) (kind a : Nat) (s : State) : Bool × State :=
  if !(s.svcCore c).mpuEn then (priv, s)
  else
    let v := mpuView c s
    (mpuGrants v.1 priv kind a, v.2)

/-! ### Core reset and fatal exceptions (R487, R488) -/

/-- The service region is reinitialised, and its sessions end: every core, source, timer and register of it from first use once it completes. -/
def serviceReinit (s : State) : State :=
  let s1 := [3, 4, 5, 6, 7].foldl (fun s b => if (s.berth b).tcp.isSome || (s.berth b).tls then resetBerth b s else s) (beginReinit 5 s)
  { s1 with svc := { s1.svc with held := true, cores := s1.svc.cores.map (fun p => (p.1, { p.2 with released := false, presented := none })) } }

/-- The TLS sessions that the core served end, and their berths are reset. Which berths a core serves is service software's
choice, a free value (log entry 3). -/
def dropSessions (s : State) : State :=
  [3, 4, 5, 6, 7].foldl (fun s b =>
    if (s.berth b).tls || (s.berth b).tcp.isSome then
      let d := s.draw 1
      if d.1 = 1 then resetBerth b d.2 else d.2
    else s) s

/-- A fatal exception resets core `c`; a second core within 1 s passes the fault to the region, 0x9100 (R28, R487, R488). -/
def svcFatal (c cause : Nat) (s : State) : State :=
  let k := s.svcCore c
  let lost := (k.stack.map Prod.snd).filter (fun x => x != 255)
  let s1 := record 0x8000 [c, cause] s
  let s2 := if lost = [] then s1 else record 0x8001 (c :: lost) s1
  let s3 := setSvc c (fun k => {
    released := k.released, spurious := k.spurious, spurOpen := k.spurOpen, spurAt := k.spurAt, lastClaim := k.lastClaim
    resets := BitVec.ofNat 16 (sat 0xFFFF (k.resets.toNat + 1)), fatalCode := BitVec.ofNat 16 cause }) s2
  let s4 := dropSessions s3
  let second := match s.svc.lastReset with | none => false | some p => decide (p.1 ≠ c ∧ s.now < p.2 + 1_000_000_000)
  let s5 := { s4 with svc := { s4.svc with lastReset := some (c, s.now) } }
  if second = true ∧ s.keep.mode ≠ .hold then serviceReinit (record 0x9100 [] (record 0x8002 [c] s5)) else s5

/-- A fatal exception whose cause code the spec does not state: a free value among the codes that are not reserved (R19, R487; log
entry 3). -/
def svcFatalFree (c : Nat) (s : State) : State :=
  let d := s.draw 16
  svcFatal c (0x1000 + d.1.toNat % 0x9000) d.2

/-! ### Frames (R486, R500, R504) -/

/-- STATUS as a word (R480). -/
def SvcCore.status (k : SvcCore) : Nat := b2n k.priv + 2 * b2n k.di + 4 * b2n k.exc + 8 * b2n k.mpuEn + 256 * k.depth

/-- A frame is saved at SP − 32 with saved PC `pc`; a save below SPLIM or refused by the MPU is fatal. -/
def saveFrame (c pc : Nat) (s : State) : Bool × State :=
  let k := s.svcCore c
  let sp := k.sp.toNat
  if sp < 32 + k.splim.toNat then (false, svcFatalFree c s)
  else
    let ok := mpuAllows c true 1 (sp - 32) s
    if !ok.1 then (false, svcFatalFree c ok.2)
    else
      let ws := [w32 pc, w32 k.status] ++ (List.range 6).map (fun i => look 0 (i + 1) k.regs)
      let s1 := (ws.zipIdx).foldl (fun s p => svcSet ((sp - 32) / 4 + p.2) p.1 s) ok.2
      (true, setSvc c (fun k => { k with sp := k.sp - 32 }) s1)

/-- An exception of core `c` with CAUSE `code` and `imm`, at the saved PC `pc` (R485 to R487). -/
def svcException (c code imm pc : Nat) (s : State) : State :=
  if (s.svcCore c).exc then svcFatal c code s
  else
    let f := saveFrame c pc s
    if !f.1 then f.2
    else setSvc c (fun k => { k with
      exc := true, priv := true, waiting := false, presented := none, causeReg := w32 (code + 2 ^ 16 * imm)
      pc := (k.vbase.toNat + 0x1000) / 4 % 2_097_152 }) f.2

/-- ERET: the frame at SP is restored but for its depth; a deeper stack is popped, with 0x8012 (R504, R506). -/
def svcEret (c : Nat) (s : State) : State :=
  let k := s.svcCore c
  let ready := (winner c s).isSome
  let ok := mpuAllows c true 0 k.sp.toNat s
  if !ok.1 then svcFatalFree c ok.2
  else
    let b := k.sp.toNat / 4
    let st := (svcWord (b + 1) ok.2).toNat
    let saved := bits 11 8 st
    let s1 := if saved < k.depth then record 0x8012 [c] ok.2 else ok.2
    setSvc c (fun q => { q with
      pc := (svcWord b ok.2).toNat % 2_097_152, priv := bitAt 0 st, di := bitAt 1 st, exc := bitAt 2 st, mpuEn := bitAt 3 st
      regs := (List.range 6).foldl (fun t i => put (i + 1) (svcWord (b + 2 + i) ok.2) t) q.regs
      sp := q.sp + 32, stack := q.stack.drop (k.depth - saved), eretJust := if ready then 2 else 1 }) s1

/-- A write to EOI pops the running priority; at depth 0 it records 0x8013 (R503). -/
def svcEoi (c : Nat) (s : State) : State :=
  let k := s.svcCore c
  let s1 := if k.stack = [] then record 0x8013 [c] s else s
  setSvc c (fun k => { k with stack := k.stack.drop 1, eoiJust := true }) s1

/-! ### Entry (R500 to R505) -/

/-- The claim edge: source `k` is claimed with priority `prio`, and the handler begins. -/
def claimSource (c k prio : Nat) (s : State) : State :=
  let s1 := if k = 255 then s else setSrc k (fun e => { e with claimed := e.batch, batch := 0, pending := false }) s
  setSvc c (fun q => { q with
    stack := (prio, k) :: q.stack, priv := true, waiting := false, presented := none, eoiJust := false, eretJust := 0
    lastClaim := BitVec.ofNat 8 k, pc := (q.vbase.toNat + 16 * k) / 4 % 2_097_152 }) s1

/-- A spurious claim is counted, and recorded at most once per second per core (R502). -/
def noteSpurious (c : Nat) (s : State) : State :=
  let k := s.svcCore c
  let n := k.spurOpen + 1
  let quiet := match k.spurAt with | none => false | some t => decide (s.now < t + 1_000_000_000)
  let s1 := setSvc c (fun q => { q with
    spurious := BitVec.ofNat 16 (sat 0xFFFF (q.spurious.toNat + 1))
    spurOpen := if quiet then n else 0, spurAt := if quiet then q.spurAt else some s.now }) s
  if quiet then s1 else recordC 0x8010 (if n = 1 then 0 else 2) n (le 4 c ++ le 4 n) s1

/-- What a core has counted since its last 0x8010 is recorded once the second is over (R502). -/
def flushSpurious (s : State) (c : Nat) : State :=
  let k := s.svcCore c
  match k.spurAt with
  | none => s
  | some t =>
    if k.spurOpen ≠ 0 ∧ t + 1_000_000_000 ≤ s.now then
      recordC 0x8010 2 k.spurOpen (le 4 c ++ le 4 k.spurOpen) (setSvc c (fun q => { q with spurOpen := 0, spurAt := some s.now }) s)
    else s

/-- The claim edge of a core that is entering: the presented request, a better one that redirects the entry, or 255 (R500 to
R502). -/
def claimPresented (c : Nat) (s : State) : State :=
  match (s.svcCore c).presented with
  | none => s
  | some p =>
    match winner c s with
    | some w =>
      if winsOver w (p.prio, p.src) s then claimSource c w.2 w.1 s
      else if presentable c p.src s then claimSource c p.src p.prio s
      else claimSource c 255 (if stacked s then p.prio else 15) (noteSpurious c s)
    | none => claimSource c 255 (if stacked s then p.prio else 15) (noteSpurious c s)

/-- A request is presented: the frame is saved, or at a tail entry kept, with g1 to g6 undefined (R500, R505). -/
def presentTo (c : Nat) (tail : Bool) (s : State) : State :=
  let k := s.svcCore c
  match winner c s with
  | none => s
  | some w =>
    let t := decide (k.eretJust = 2) || (decide (k.eretJust = 1) && tail)
    if t then
      let g := (List.range 6).foldl (fun (acc : Tab Word × State) i =>
        let d := acc.2.draw 32
        (put (i + 1) d.1 acc.1, d.2)) (k.regs, s)
      setSvc c (fun q => { q with sp := q.sp - 32, regs := g.1, eretJust := 0, presented := some { src := w.2, prio := w.1 } }) g.2
    else
      let f := saveFrame c k.pc s
      if f.1 then setSvc c (fun q => { q with eretJust := 0, presented := some { src := w.2, prio := w.1 } }) f.2 else f.2

/-! ### Timers (R507) -/

def stmrReg (t off : Nat) : Nat := 0x0700_0800 + 0x10 * t + off

/-- The expiry of a period that begins at `from_`: the first µs boundary at or after it plus L. -/
def stmrExpiry (t from_ : Nat) (s : State) : Nat := roundUp 1000 (from_ + 1000 * max 1 (ctlGet (stmrReg t 4) s).toNat)

/-- EVC_STMR_CFG[t] takes `v`: enable 1 starts the timer, enable 0 stops it. -/
def stmrWrite (t : Nat) (v : Word) (s : State) : State :=
  let s1 := ctlSet (stmrReg t 0) v s
  { s1 with svc := { s1.svc with timers := put t { expires := if v.getLsbD 0 then some (stmrExpiry t s.now s) else none } s1.svc.timers } }

end Sys2Proof.Machine
end

