-- ==== Sys2Proof/Machine/YalaOps.lean ====
section
/-!
DEFINITION. Yala: the connection table, the checker's slot, the update of the connection states, and the sealer (R255 to R278).
-/
namespace Sys2Proof.Machine

/-! ### Ports (R252 to R254) -/

def State.port (p : Nat) (s : State) : Port := look {} p s.net.ports
def setPort (p : Nat) (f : Port → Port) (s : State) : State := { s with net := { s.net with ports := upd {} p f s.net.ports } }

/-- NET_PORT_* of port p. -/
def portReg (p off : Nat) : Nat := 0x0400_0000 + 0x100 * p + off

/-- The configuration lets the port come up (NET_PORT_CFG). -/
def portCfgOk (p : Nat) (s : State) : Bool :=
  let mode := cf (portReg p 0) 2 1 s
  let fec := cf (portReg p 0) 5 4 s
  cbit (portReg p 0) 0 s && (if p < 2 then decide (mode ≤ 1 ∧ fec ≠ 3) else decide (mode = 0 ∧ fec = 0))

/-- The network region works: its clock and rails are good and it does not reinitialise (R30, R39). -/
def netWorks (s : State) : Bool := s.net.up && !s.reiniting 4 && s.keep.mode != .stabled

/-! ### What a port sends (R252 to R255) -/

/-- An Ethernet frame from its destination address on: untagged when `vlan` is 0 (R255). -/
def etherFrame (dst src vlan prio etype : Nat) (data : List Byte) : List Byte :=
  be 6 dst ++ be 6 src ++ (if vlan = 0 then [] else be 2 0x8100 ++ be 2 (2 ^ 13 * prio + vlan)) ++ be 2 etype ++ data

/-- The sum of the 16-bit words of bytes. -/
def inetSum : List Byte → Nat
  | a :: b :: l => 256 * a.toNat + b.toNat + inetSum l
  | [a] => 256 * a.toNat
  | [] => 0

/-- The checksum of IPv4 and UDP over bytes whose checksum field is 0 (RFC 791, RFC 768). -/
def inetCheck (l : List Byte) : Nat :=
  let fold := fun x => x % 2 ^ 16 + x / 2 ^ 16
  0xFFFF - fold (fold (inetSum l))

/-- An IPv4 packet without options: DF set, identification 0, TTL 64, a computed header checksum (R253). -/
def ipPacket (dscp proto src dst : Nat) (data : List Byte) : List Byte :=
  let lo := be 1 0x45 ++ be 1 (4 * dscp) ++ be 2 (20 + data.length) ++ be 2 0 ++ be 2 0x4000 ++ be 1 64 ++ be 1 proto
  let hi := be 4 src ++ be 4 dst
  lo ++ be 2 (inetCheck (lo ++ hi)) ++ hi ++ data

/-- A UDP datagram with a computed checksum; one that comes out as 0 is sent as 0xFFFF (R253, RFC 768). -/
def udpDatagram (src dst sport dport : Nat) (data : List Byte) : List Byte :=
  let n := 8 + data.length
  let head := be 2 sport ++ be 2 dport ++ be 2 n
  let c := inetCheck (be 4 src ++ be 4 dst ++ be 2 17 ++ be 2 n ++ head ++ data)
  head ++ be 2 (if c = 0 then 0xFFFF else c) ++ data

/-- An ARP packet for IPv4 over Ethernet (RFC 826). -/
def arpPacket (oper : Nat) (sha spa tha tpa : Nat) : List Byte :=
  be 2 1 ++ be 2 0x0800 ++ be 1 6 ++ be 1 4 ++ be 2 oper ++ be 6 sha ++ be 4 spa ++ be 6 tha ++ be 4 tpa

/-- The own MAC and IPv4 address of port p. -/
def ownMac (p : Nat) (s : State) : Nat := 2 ^ 32 * cf (portReg p 0xC) 15 0 s + (ctlGet (portReg p 8) s).toNat
def ownIp (p : Nat) (s : State) : Nat := (ctlGet (portReg p 0x10) s).toNat

/-- A frame enters egress queue `q` of port p. -/
def enqueue (p q : Nat) (frame : List Byte) (s : State) : State := setPort p (fun P => { P with egress := P.egress ++ [(q, frame)] }) s

/-- The order in which waiting frames leave: the highest queue first, within a queue the oldest (R27, R252, R254). -/
def egressOrder (l : List (Nat × List Byte)) : List (List Byte) :=
  (List.range 8).reverse.flatMap (fun q => (l.filter (fun e => e.1 == q)).map Prod.snd)

/-- The waiting frames of port p leave. The spec gives the egress no time of its own: they leave as one with the command that formed
them (log entry 95). -/
def drainPort (s : State) (p : Nat) : State :=
  let out := egressOrder (s.port p).egress
  let s1 := setPort p (fun P => { P with egress := [], tx := sat 0xFFFF_FFFF (P.tx + out.length) }) s
  { s1 with net := { s1.net with sent := s1.net.sent ++ out.map (fun f => { port := p, frame := f }) } }

def drainPorts (s : State) : State := (List.range 4).foldl drainPort s

/-- The largest MAC client data (R252). -/
def clientMax (p : Nat) (s : State) : Nat := if cbit (portReg p 0) 6 s then 9_000 else 1_500

/-- The port goes down; 0x5001, event source 195 (R28). -/
def portDown (p : Nat) (s : State) : State :=
  if (s.port p).link then
    raise 195 (record 0x5001 [p] (setPort p (fun q => { q with
      link := false, egress := [], blockLock := false, anDone := false, fecOn := false, trained := false, sgmiiSync := false }) s))
  else s

/-- A frame with a good FCS has arrived. -/
def countRx (p : Nat) (s : State) : State := setPort p (fun q => { q with rx := sat 0xFFFF_FFFF (q.rx + 1) }) s

/-- A frame with an FCS or length error (R272 step 1). -/
def countFcs (p : Nat) (s : State) : State := setPort p (fun q => { q with fcs := sat 0xFFFF (q.fcs + 1) }) s

/-- Discarded traffic that is not Yala (R254). -/
def countOther (p : Nat) (s : State) : State := setPort p (fun q => { q with other := sat 0xFFFF (q.other + 1) }) s

/-! ### The connection table (R261) -/

/-- Word `w` of entry `c` of table `t`. -/
def cword (t : Tab Word) (c w : Nat) : Nat := (look 0 (32 * c + w) t).toNat

def connDefined (t : Tab Word) (c : Nat) : Bool := (cword t c 0).testBit 0
def connRaw (t : Tab Word) (c : Nat) : Bool := (cword t c 0).testBit 1
def connProt (t : Tab Word) (c : Nat) : Nat := bits 3 2 (cword t c 0)
def connPorts (t : Tab Word) (c : Nat) : Nat := bits 7 4 (cword t c 0)
def connAddrs (t : Tab Word) (c : Nat) : Nat := bits 9 8 (cword t c 0)
def connOwn (t : Tab Word) (c : Nat) : Nat := bits 15 0 (cword t c 1)
def connPartner (t : Tab Word) (c : Nat) : Nat := bits 31 16 (cword t c 1)
def connIdent (t : Tab Word) (c : Nat) : Nat := bits 15 0 (cword t c 2)
def connVlan (t : Tab Word) (c : Nat) : Nat := bits 27 16 (cword t c 2)
def connPrio (t : Tab Word) (c : Nat) : Nat := bits 12 10 (cword t c 0)
def connTag (t : Tab Word) (c : Nat) : Nat := cword t c 3
def connSlot (t : Tab Word) (c : Nat) : Nat := cword t c 4
def connArea (t : Tab Word) (c : Nat) : Nat := cword t c 5
def connS (t : Tab Word) (c : Nat) : Nat := bits 15 0 (cword t c 6)
def connG (t : Tab Word) (c : Nat) : Nat := bits 23 16 (cword t c 6)
def connQ (t : Tab Word) (c : Nat) : Nat := bits 31 24 (cword t c 6)
def connUdp (t : Tab Word) (c : Nat) : Nat := bits 15 0 (cword t c 7)
def connSend (t : Tab Word) (c : Nat) : Nat := cword t c 16
def connRecv (t : Tab Word) (c : Nat) : Nat := cword t c 17
def connKey (t : Tab Word) (c : Nat) : Nat := bits 15 0 (cword t c 18)

/-- Byte `j` of entry `c`. -/
def cbyte (t : Tab Word) (c j : Nat) : Byte := BitVec.ofNat 8 (cword t c (j / 4) / 256 ^ (j % 4))

/-- MAC and IPv4 address `k` of entry `c`, in wire order. -/
def connMac (t : Tab Word) (c k : Nat) : Nat := ofBe ((List.range 6).map (fun j => cbyte t c (0x20 + 10 * k + j)))
def connIp (t : Tab Word) (c k : Nat) : Nat := ofBe ((List.range 4).map (fun j => cbyte t c (0x26 + 10 * k + j)))

/-- The defined entries of a table, in ascending order. -/
def definedConns (t : Tab Word) : List Nat :=
  (t.filter (fun p => p.1 % 32 == 0 && p.2.getLsbD 0)).map (fun p => p.1 / 32)

/-- The own device identity (R17). -/
def State.ident (s : State) : Nat := cf 0x0800_0028 11 0 s

/-- The word of an end: connection number and device identity (R257). -/
def endWord (number ident : Nat) : Nat := number * 2 ^ 16 + ident

/-- The identity block of connection `c` (R258); zero when it is not defined (R168). -/
def idBlock (c : Nat) (receiving : Bool) (s : State) : List Nat :=
  let t := s.net.table
  if connDefined t c then
    let own := endWord (connOwn t c) s.ident
    let partner := endWord (connPartner t c) (connIdent t c)
    if receiving then [0x5941_4C41, partner, own, connTag t c] else [0x5941_4C41, own, partner, connTag t c]
  else [0, 0, 0, 0]

/-- A safety code over words, each fed with bits [31:24] first (R166, R167, R259). -/
def safetyCode (kasami : Bool) (ws : List Nat) : Word :=
  let l := ws.flatMap (be 4)
  if kasami then crc32k l else crc32c l

/-! ### Connection configuration (R261, R262, R278) -/

/-- The words of a payload that are not zero, numbered from `i` on. -/
def confWords : Nat → List Byte → Tab Word
  | i, a :: b :: c :: d :: l =>
    let w := w32 (leAt 0 4 [a, b, c, d])
    if w = 0 then confWords (i + 1) l else (i, w) :: confWords (i + 1) l
  | _, _ => []

/-- The words of a configuration payload that are not zero. -/
def confTable (payload : List Byte) : Tab Word := confWords 0 payload

/-- Ranges of one length that do not overlap one another. -/
def disjoint : List (Nat × Nat) → Bool
  | [] => true
  | r :: rs => rs.all (fun q => decide (r.1 + r.2 ≤ q.1 ∨ q.1 + q.2 ≤ r.1)) && disjoint rs

/-- The rules of R261 and R262 that concern entry `c` alone. -/
def entryOk (t : Tab Word) (c : Nat) (s : State) : Bool :=
  let udp := !connRaw t c
  let prot := connProt t c
  let used := connAddrs t c
  decide (cword t c 0 < 2 ^ 13 ∧ prot ≠ 3 ∧ connPorts t c ≠ 0 ∧ 1 ≤ used ∧ 1 ≤ connIdent t c ∧ connIdent t c ≤ 4094
    ∧ cword t c 2 < 2 ^ 28 ∧ 10 ≤ connS t c ∧ connS t c ≤ 360 ∧ 1 ≤ connQ t c ∧ connQ t c ≤ 15
    ∧ connSlot t c + connS t c ≤ 524_288 ∧ connArea t c + connS t c ≤ 524_288)
  && (!udp || connUdp t c != 0)
  && (List.range 3).all (fun k => if k < used then !udp || connIp t c k != 0 else connMac t c k == 0 && connIp t c k == 0)
  && decide (connKey t c < 4096) && (prot == 0 || (connSend t c != connRecv t c && (keysOf s.bth.keys).contains (connKey t c)))

/-- The reserved bytes of an entry are zero. -/
def reservedOk (t : Tab Word) (c : Nat) : Bool :=
  decide (cword t c 7 < 2 ^ 16 ∧ cword t c 15 < 2 ^ 16 ∧ cword t c 18 < 2 ^ 16) && (List.range 13).all (fun k => cword t c (19 + k) == 0)

/-- A connection configuration passes R261 and R262. -/
def confOk (payload : List Byte) (s : State) : Bool :=
  let t := confTable payload
  let cs := definedConns t
  decide (payload.length = 1_048_576) && (List.range 8192).all (reservedOk t) && cs.all (fun c => entryOk t c s)
  && decide (cs.map (connOwn t)).Nodup && decide (cs.map (fun c => (connPartner t c, connIdent t c))).Nodup
  && decide ((cs.filter (fun c => connProt t c != 0)).map (connKey t)).Nodup
  && disjoint (cs.map (fun c => (connSlot t c, connS t c))) && disjoint (cs.map (fun c => (connArea t c, connS t c)))

/-- First use of the connections: every defined one CLOSED, its registers at their reset values (R278). -/
def connsFirstUse (s : State) : State :=
  { s with net := { s.net with
      conns := (definedConns s.net.table).map (fun c => (c, { state := 2, status := 2 })), control := [], valid := 0, safe := 0 } }

/-- A connection configuration becomes active (R278, R304). -/
def activateConf (payload : List Byte) (s : State) : State :=
  connsFirstUse { s with
    net := { s.net with table := confTable payload, confActive := true }
    bth := { s.bth with confPayload := payload } }

/-! ### The epoch (R271) -/

/-- The epoch is set to the ceiling, and a ceiling 256 higher is persisted; from a ceiling that 24 bits cannot hold, the epoch would exceed
0xFF_FFFF: it stays there, spent. -/
def setEpoch (s : State) : State :=
  { s with net := { s.net with
      epoch := BitVec.ofNat 24 (min s.net.ceiling 0xFF_FFFF), spent := decide (0xFF_FFFF < s.net.ceiling), ceiling := s.net.ceiling + 256 } }

/-- The ceiling is raised whenever the epoch comes within 64 of it. -/
def raiseCeiling (s : State) : State :=
  if s.net.ceiling ≤ s.net.epoch.toNat + 64 then { s with net := { s.net with ceiling := s.net.ceiling + 256 } } else s

/-! ### Violations (R272, R274, R275) -/

def State.conn (c : Nat) (s : State) : Conn := look {} c s.net.conns
def setConn (c : Nat) (f : Conn → Conn) (s : State) : State := { s with net := { s.net with conns := upd {} c f s.net.conns } }

/-- A code of connection `c` is recorded; NET_YCON_LAST holds it. -/
def connRecord (c code : Nat) (args : List Nat) (s : State) : State :=
  record code (c :: args) (setConn c (fun k => { k with lastCode := code }) s)

/-- The counts of the interval that ends are recorded, once per connection or port and per code (R275). -/
def flushViolations (s : State) : State :=
  let one := fun (key : Nat) (s : State) (v : Nat × Nat) => recordC v.1 (if v.2 = 1 then 0 else 2) v.2 (le 4 key ++ le 4 v.2) s
  let s1 := s.net.conns.foldl (fun s p => p.2.open_.foldl (one p.1) s) s
  let s2 := s.net.ports.foldl (fun s p => p.2.viol.foldl (one p.1) s) s1
  { s2 with net := { s2.net with
      conns := s2.net.conns.map (fun p => (p.1, { p.2 with open_ := [] }))
      ports := s2.net.ports.map (fun p => (p.1, { p.2 with viol := [] })), interval := s.now } }

/-- Outside RUN and DEGRADED the interval is one second: it ends before the next violation is counted (R275). -/
def closeInterval (s : State) : State :=
  if (s.keep.mode == .run || s.keep.mode == .degraded) then s
  else if s.net.interval + 1_000_000_000 ≤ s.now then flushViolations s else s

/-- A violation of a frame that matches no connection. -/
def portViolation (p code : Nat) (s : State) : State :=
  setPort p (fun q => { q with viol := upd 0 code (· + 1) q.viol }) (closeInterval s)

/-- A violation of a frame of connection `c`; a masquerade alarm for 0x5202 and 0x5203 (R274). -/
def connViolation (c code : Nat) (s : State) : State :=
  let s1 := setConn c (fun k => { k with viol := sat 0xFFFF (k.viol + 1), lastCode := code, open_ := upd 0 code (· + 1) k.open_ })
    (closeInterval s)
  if code = 0x5202 ∨ code = 0x5203 then
    raise 194 { s1 with net := { s1.net with alarms := sat 0xFFFF_FFFF (s1.net.alarms + 1), alarmsTotal := sat 0xFFFF_FFFF (s1.net.alarmsTotal + 1), lastAlarm := w32 (code * 2 ^ 16 + c) } }
  else s1

/-- Sequence number `a` is newer than `b` (R273). -/
def newer (a b : Word) : Bool := decide (1 ≤ (a - b).toNat ∧ (a - b).toNat < 2 ^ 31)

/-! ### The slot (R63, R272) -/

/-- `n` words of the logic SRAM from byte offset `a` become `ws`, then zeros. -/
def sramFill (a n : Nat) (ws : List Word) (s : State) : State :=
  sramArea a ((ws ++ List.replicate n 0).take n) s

/-- A message is placed in the connection's slot of INBOX buffer `buf`, replacing any older one. -/
def placeMsg (c buf : Nat) (ws : List Word) (s : State) : State :=
  sramFill (inboxBase buf + 4 * connSlot s.net.table c) (connS s.net.table c) ws s

/-- The connection a unit names by words 1 and 2: source then destination (R272 step 4). -/
def matchConn (w1 w2 : Nat) (s : State) : Option Nat :=
  (definedConns s.net.table).find? (fun c =>
    w2 == endWord (connOwn s.net.table c) s.ident && w1 == endWord (connPartner s.net.table c) (connIdent s.net.table c))

/-- Source addresses, transport and port are configured for `c` (R272 step 5). -/
def sourceOk (c p : Nat) (f : NetFrame) (s : State) : Bool :=
  let t := s.net.table
  connRaw t c == f.raw && (connPorts t c).testBit p
  && (List.range (connAddrs t c)).any (fun k => connMac t c k == f.srcMac.toNat && (f.raw || connIp t c k == f.srcIp.toNat))
  && (f.raw || connUdp t c == f.srcPort.toNat)

/-- The inner message as protected, decrypted where it is encrypted; `none` when the protection or the tag is wrong (R269, R270). -/
def openUnit (c : Nat) (outer inner tag : List Byte) (s : State) : Option (List Byte) :=
  let t := s.net.table
  let prot := connProt t c
  if bits 3 2 ((outer.headD 0).toNat) ≠ prot then none
  else if prot = 0 then some inner
  else
    let key := look [] (connKey t c) s.bth.keys
    let iv := be 4 (connRecv t c) ++ slice 1 1 outer ++ slice 5 3 outer ++ slice 12 4 inner
    if key = [] then none
    else if prot = 1 then (if gcmTag key iv (outer ++ inner) [] = tag then some inner else none)
    else if gcmTag key iv (outer ++ inner.take 32) (inner.drop 32) = tag then some (inner.take 32 ++ gcmCrypt key iv (inner.drop 32))
    else none

/-- The checker of a JOINING member places no message of its own until the swap of cycle J + 16 (R248). -/
def placesOwn (s : State) : Bool :=
  s.tri.state != .joining || (s.tri.ownCut && decide ((s.tri.joinAt.getD 0) + 16 ≤ s.seq.mcc))

/-- A triad member relays the message that it has placed (R231). -/
def relayOwn (c : Nat) (seq : Word) (ws : List Word) (s : State) : State :=
  if triadActive s then
    let r : Relay := { conn := c, seq := seq, words := ws }
    sendRelay r { s with tri := { s.tri with ownRelaysNext := s.tri.ownRelaysNext ++ [r] } }
  else s

/-- Steps 7 to 10 of R272 for an inner message of connection `c`, and its place in the slot. -/
def acceptInner (c : Nat) (inner : List Byte) (s : State) : State :=
  let t := s.net.table
  let w := fun k => beAt (4 * k) 4 inner
  let plen := bits 15 0 (w 0)
  let n := plen / 4
  let k := s.conn c
  let seq := w32 (w 3)
  let cover := idBlock c true s ++ (List.range (8 + n)).map w
  if bits 31 28 (w 0) ≠ 1 ∨ bits 27 24 (w 0) ≠ 1 ∨ 40 + plen ≠ inner.length ∨ connS t c < 10 + n then connViolation c 0x5205 s
  else if safetyCode false cover ≠ w32 (w (8 + n)) ∨ safetyCode true cover ≠ w32 (w (9 + n)) then connViolation c 0x5204 s
  else
    let fresh := match k.ref with
      | none => true
      | some r => newer seq r && (match k.fill with | none => true | some m => newer seq m.seq)
    if k.state = 2 ∨ fresh = false then setConn c (fun k => { k with dup := sat 0xFFFF (k.dup + 1) }) s
    else if !placesOwn s then s
    else
      let ws := (List.range (10 + n)).map (fun j => w32 (w j))
      relayOwn c seq ws (setConn c (fun k => { k with fill := some { seq := seq, src := s.member } }) (placeMsg c s.seq.inboxFill ws s))

/-- Steps 3 to 10 of R272 for a Yala unit. -/
def checkUnit (p : Nat) (f : NetFrame) (s : State) : State :=
  let u := f.bytes
  let b0 := (u.headD 0).toNat
  let len := beAt 2 2 u
  let prot := bits 3 2 b0
  let tagLen := if prot = 0 then 0 else 16
  if bits 7 4 b0 ≠ 1 ∨ bits 1 0 b0 ≠ 0 ∨ beAt 4 1 u ≠ 0 ∨ prot = 3 ∨ len < 40 ∨ 1440 < len ∨ len % 4 ≠ 0
      ∨ u.length < 8 + len + tagLen then portViolation p 0x5200 s
  else
    let inner := slice 8 len u
    match matchConn (beAt 4 4 inner) (beAt 8 4 inner) s with
    | none => portViolation p 0x5201 s
    | some c =>
      if sourceOk c p f s then
        match openUnit c (u.take 8) inner (slice (8 + len) tagLen u) s with
        | none => connViolation c 0x5203 s
        | some m => acceptInner c m s
      else connViolation c 0x5202 s

/-! ### The update (R264, R276) -/

/-- The status word (R264). -/
def statusWord (st quiet missed : Nat) (new gap : Bool) : Word :=
  w32 (st + 4 * b2n new + 8 * b2n gap + 16 * sat 255 missed + 2 ^ 12 * sat 15 quiet)

/-- The connection goes to `st`; event source 192 or 193 on a change to SAFE or to VALID. -/
def connTo (c st : Nat) (s : State) : State :=
  if (s.conn c).state = st then s
  else
    let s1 := setConn c (fun k => { k with state := st }) s
    if st = 0 then raise 192 s1 else if st = 1 then raise 193 s1 else s1

/-- A message is delivered: the reference, the counts and the status word (R276 steps 5 to 7). -/
def deliver (c : Nat) (m : SlotMsg) (missed shown : Nat) (gap : Bool) (s : State) : State :=
  setConn c (fun k => { k with
    ref := some m.seq, quiet := 0, delivered := sat 0xFFFF_FFFF (k.delivered + 1)
    missed := sat 0xFFFF_FFFF (k.missed + missed), status := statusWord k.state 0 shown true gap }) s

/-- Steps 4 to 7 of R276. -/
def updateMsg (c : Nat) (s : State) : State :=
  let t := s.net.table
  let k := s.conn c
  match k.frozen with
  | none =>
    let q := sat 15 (k.quiet + 1)
    let s1 := setConn c (fun k => { k with quiet := q }) s
    let s2 := if k.state = 1 ∧ connQ t c ≤ q then
        connRecord c 0x5301 [] (connTo c 0 (setConn c (fun k => { k with ref := none }) s1)) else s1
    setConn c (fun k => { k with status := statusWord k.state k.quiet 0 false false }) s2
  | some m =>
    match k.ref with
    | none => deliver c m 0 0 false s
    | some r =>
      let d := (m.seq - r).toNat
      if d = 0 then setConn c (fun k => { k with status := statusWord k.state k.quiet 0 false false }) s
      else if d ≤ connG t c + 1 then
        let s1 := if k.state = 0 ∧ d = 1 then connRecord c 0x5304 [] (connTo c 1 s)
          else if k.state = 1 ∧ 1 < d then connRecord c 0x5305 [d - 1] s else s
        deliver c m (d - 1) (d - 1) (decide (1 < d)) s1
      else
        let s1 := if k.state = 1 then connRecord c 0x5300 [d] (connTo c 0 s) else s
        deliver c m (d - 1) (if 256 < d then 255 else d - 1) true s1

/-- The update of connection `c` (R276). -/
def connUpdate (c : Nat) (s : State) : State :=
  let w := (look 0 c s.net.control).toNat
  if !bitAt 0 w then
    let s1 := sramFill (inboxBase s.seq.inboxFrozen + 4 * connSlot s.net.table c) (connS s.net.table c) [] s
    setConn c (fun k => { k with state := 2, ref := none, quiet := 0, frozen := none, status := 2 }) s1
  else
    let s1 := if (s.conn c).state = 2 then connTo c 0 (setConn c (fun k => { k with ref := none }) s) else s
    let s2 := if bitAt 1 w then s1
      else
        let s2 := connRecord c 0x5303 [bits 5 2 w] (setConn c (fun k => { k with ref := none }) s1)
        if (s2.conn c).state = 1 then connTo c 0 s2 else s2
    updateMsg c s2

/-- NET_YALA_STATUS after an update. -/
def countStates (s : State) : State :=
  let n := fun st => (s.net.conns.filter (fun p => p.2.state == st)).length
  { s with net := { s.net with valid := n 1, safe := n 0 } }

/-- The update of every defined connection, in ascending order (R276). -/
def connUpdateAll (s : State) : State := countStates ((definedConns s.net.table).foldl (fun s c => connUpdate c s) s)

/-- The INBOX swap (R63): the frozen buffer is that of this cycle, and every slot of the other is empty. -/
def swapInbox (s : State) : State :=
  let f := s.seq.inboxFill
  let s1 := { s with
    seq := { s.seq with inboxFill := 1 - f, inboxFrozen := f }
    net := { s.net with conns := s.net.conns.map (fun p => (p.1, { p.2 with
      frozen := p.2.fill, fill := none, kept := p.2.frozen
      keptWords := sramWords (inboxBase (1 - f) + 4 * connSlot s.net.table p.1) (connS s.net.table p.1) s })) } }
  sramClear (inboxBase (1 - f)) (inboxBase (1 - f) + 0x20_0000) s1

/-- A swap that does not count after all, since the buffer was not written into the image by the end of CAPTURE (R66, R67): the buffers are as
if not swapped. A message that came after the swap replaces an older one of its connection (R63). -/
def unswapConn (c : Nat) (s : State) : State :=
  let k := s.conn c
  let g := s.seq.inboxFill
  let f := s.seq.inboxFrozen
  let n := connS s.net.table c
  let late := match k.fill, k.frozen with
    | some m, some q => newer m.seq q.seq
    | some _, none => true
    | none, _ => false
  let s1 := if late then placeMsg c f (sramWords (inboxBase g + 4 * connSlot s.net.table c) n s) s else s
  setConn c (fun k => { k with fill := if late then k.fill else k.frozen, frozen := k.kept, kept := none, keptWords := [] })
    (sramFill (inboxBase g + 4 * connSlot s.net.table c) n k.keptWords s1)

def unswapInbox (s : State) : State :=
  let s1 := (definedConns s.net.table).foldl (fun s c => unswapConn c s) s
  { s1 with seq := { s1.seq with inboxFill := s.seq.inboxFrozen, inboxFrozen := s.seq.inboxFill } }

/-- Every connection goes to SAFE, but those that are CLOSED; references are cleared and fill slots emptied (R28, R39). -/
def allSafe (s : State) : State :=
  let s1 := (definedConns s.net.table).foldl (fun s c =>
    let s := setConn c (fun k => { k with ref := none, fill := none, quiet := 0 }) s
    if (s.conn c).state = 2 then s else setConn c (fun k => { k with status := statusWord 0 0 0 false false }) (connTo c 0 s)) s
  countStates s1

/-- A network-region reinitialisation ends (R271, R278): the connections that are open are SAFE with their reference cleared. -/
def netRestart (s : State) : State := setEpoch (allSafe s)

/-! ### The sealer (R85, R266 to R270) -/

/-- The message in the OUTBOX area of `c` of the held buffer may be sent (R267). -/
def sealable (c : Nat) (w : Nat → Nat) (s : State) : Bool :=
  let t := s.net.table
  let plen := bits 15 0 (w 0)
  decide (bits 31 28 (w 0) = 1 ∧ bits 27 24 (w 0) = 1 ∧ bits 23 16 (w 0) = 0 ∧ plen % 4 = 0 ∧ plen ≤ 1400 ∧ 10 + plen / 4 ≤ connS t c
    ∧ w 1 = endWord (connOwn t c) s.ident ∧ w 2 = endWord (connPartner t c) (connIdent t c))

/-- The member byte: the member index, 0 for a module alone (R256). -/
def memberByte (s : State) : Nat := if s.triadOn then s.member else 0

/-- The unit of connection `c` (R256, R269, R270). -/
def sealUnit (c : Nat) (inner : List Byte) (s : State) : List Byte :=
  let t := s.net.table
  let prot := connProt t c
  let outer := [BitVec.ofNat 8 (0x10 + 4 * prot), BitVec.ofNat 8 (memberByte s)] ++ be 2 inner.length ++ [0] ++ be 3 s.net.epoch.toNat
  let key := look [] (connKey t c) s.bth.keys
  let iv := be 4 (connSend t c) ++ be 1 (memberByte s) ++ be 3 s.net.epoch.toNat ++ slice 12 4 inner
  if prot = 0 then outer ++ inner
  else if prot = 1 then outer ++ inner ++ gcmTag key iv (outer ++ inner) []
  else
    let enc := gcmCrypt key iv (inner.drop 32)
    outer ++ inner.take 32 ++ enc ++ gcmTag key iv (outer ++ inner.take 32) enc

/-- The frame in which unit `u` of connection `c` goes to partner address `k` from port p, by the transport of the connection (R253,
R255). -/
def unitFrame (c p k : Nat) (u : List Byte) (s : State) : List Byte :=
  let t := s.net.table
  let frame := etherFrame (connMac t c k) (ownMac p s) (connVlan t c) (connPrio t c)
  if connRaw t c then frame 0x88B5 u
  else
    let udp := udpDatagram (ownIp p s) (connIp t c k) (cf 0x0410_0000 31 16 s) (connUdp t c) u
    frame 0x0800 (ipPacket (cf (portReg p 0) 28 23 s) 17 (ownIp p s) (connIp t c k) udp)

/-- Port p can send for connection `c`: its link is up, and it has an IPv4 address where the connection needs one (NET_PORT_IPV4). -/
def portSends (c p : Nat) (s : State) : Bool :=
  (connPorts s.net.table c).testBit p && (s.port p).link && (connRaw s.net.table c || ownIp p s != 0)

/-- One copy of a unit to each partner address on each port of the mask enters the egress queue of the connection's priority (R254, R268). -/
def sendUnit (c : Nat) (u : List Byte) (s : State) : State :=
  let t := s.net.table
  let copies := (List.range 4).flatMap (fun p => if portSends c p s then (List.range (connAddrs t c)).map (fun k => (p, k)) else [])
  copies.foldl (fun s q => enqueue q.1 (connPrio t c) (unitFrame c q.1 q.2 u s) s) { s with net := { s.net with sealed := s.net.sealed + 1 } }

/-- A protected message with number `seq` of connection `c` needs the next epoch: the number is not one more than that of the last one
sealed in this epoch (R271). -/
def needsEpoch (c : Nat) (seq : Word) (s : State) : Bool :=
  match (s.conn c).sealed with
  | some (e, q) => e == s.net.epoch && seq != q + 1
  | none => false

/-- The sealer takes connection `c` (R267). -/
def sealConn (c : Nat) (s : State) : State :=
  let base := outboxBase ((s.seq.outboxHeld).getD 0) + 4 * connArea s.net.table c
  let w := fun k => (sramWord (base + 4 * k) s).toNat
  if !bitAt 0 (look 0 c s.net.control).toNat || w 0 == 0 then s
  else if sealable c w s = false then raise 196 (connRecord c 0x5400 [] s)
  else
    let inner := (List.range (10 + bits 15 0 (w 0) / 4)).flatMap (fun k => be 4 (w k))
    if connProt s.net.table c = 0 then sendUnit c (sealUnit c inner s) s
    else
      let next := needsEpoch c (w32 (w 3)) s
      if s.net.spent || (next && s.net.epoch == 0xFF_FFFF) then raise 196 (connRecord c 0x5401 [] s)
      else
        let e := if next then s.net.epoch + 1 else s.net.epoch
        let s1 := raiseCeiling (setConn c (fun k => { k with sealed := some (e, w32 (w 3)) }) { s with net := { s.net with epoch := e } })
        sendUnit c (sealUnit c inner s1) s1

/-- The connections of the held buffer with a message to send. -/
def unsentConns (s : State) : List Nat :=
  (definedConns s.net.table).filter (fun c =>
    bitAt 0 (look 0 c s.net.control).toNat
      && sramWord (outboxBase ((s.seq.outboxHeld).getD 0) + 4 * connArea s.net.table c) s != 0)

/-- The sealer takes the defined connections in ascending order; while the region does not work, the messages stay unsent (R85). -/
def sealAll (s : State) : State :=
  if netWorks s then
    let s1 := (definedConns s.net.table).foldl (fun s c => sealConn c s) s
    drainPorts { s1 with net := { s1.net with unsent := 0 } }
  else { s with net := { s.net with unsent := (unsentConns s).length } }

/-- The control words of a released cycle (R266). -/
def takeControl (s : State) : State :=
  { s with net := { s.net with control := (definedConns s.net.table).map (fun c => (c, outWord (0x1000 + c) s)) } }

end Sys2Proof.Machine
end

