-- ==== Sys2Proof/Machine/Operands.lean ====
section
/-!
DEFINITION. The operand forms of KIS: registers in the form of a pass, the spaces and where each copy holds a word, who owns a
record, a word or a timer, and what a type may do (R89 to R122, R153 to R158, R574).
-/
namespace Sys2Proof.Machine

/-! ### Cores, passes and contexts -/

def State.core (c : Nat) (s : State) : Core := look {} c s.cores
def setCore (c : Nat) (f : Core → Core) (s : State) : State := { s with cores := upd {} c f s.cores }

def Core.pass (p : Pass) (C : Core) : PassCtx := match p with | .top => C.top | .heart => C.heart | .base => C.base

def Core.setPass (p : Pass) (f : PassCtx → PassCtx) (C : Core) : Core :=
  match p with
  | .top => { C with top := f C.top }
  | .heart => { C with heart := f C.heart }
  | .base => { C with base := f C.base }

def setPass (c : Nat) (p : Pass) (f : PassCtx → PassCtx) (s : State) : State := setCore c (Core.setPass p f) s

/-- The architectural registers of a pass change by `f`. -/
def setArch (c : Nat) (p : Pass) (f : Arch → Arch) (s : State) : State := setPass c p (fun P => { P with arch := f P.arch }) s

def State.split (c k : Nat) (s : State) : SplitCtx := look {} (3 * c + k) s.splits
def setSplit (c k : Nat) (f : SplitCtx → SplitCtx) (s : State) : State := { s with splits := upd {} (3 * c + k) f s.splits }

/-- The active program image. -/
def State.img (s : State) : Image := s.image.getD {}

/-- The form in which a pass holds a Top value (R92). -/
def passForm (p : Pass) (v : Word) : Word := match p with | .top => v | .heart => ~~~v | .base => v

/-- Sign extension of a field to 32 bits. -/
def sext {n : Nat} (x : BitVec n) : Word := x.signExtend 32

/-! ### Registers (R89, R92, R140) -/

/-- The Top value of register `g` in a context; g0 reads zero. -/
def regOf (ctx : Ctx) (g : Nat) (s : State) : Word :=
  if g = 0 then 0
  else match ctx with
    | .joined c p => passForm p (look (passForm p 0) g ((s.core c).pass p).arch.regs)
    | .split c k => look 0 g (s.split c k).regs
    | .service c => look 0 g (s.svcCore c).regs

/-- Register `g` carries a poison mark (R144). -/
def poisonOf (ctx : Ctx) (g : Nat) (s : State) : Bool :=
  match ctx with
  | .joined c p => ((s.core c).pass p).arch.poison.contains g
  | .split c k => (s.split c k).poison.contains g
  | .service _ => false

/-- The poison marks after a write to register `g`. -/
def markPoison (g : Nat) (bad : Bool) (l : List Nat) : List Nat :=
  let r := l.filter (fun x => x != g)
  if bad then g :: r else r

/-- Top value `v` is written to register `g`, with or without a poison mark; a write to g0 is discarded. -/
def setReg (ctx : Ctx) (g : Nat) (v : Word) (bad : Bool) (s : State) : State :=
  if g = 0 then s
  else match ctx with
    | .joined c p => setArch c p (fun A => { A with regs := put g (passForm p v) A.regs, poison := markPoison g bad A.poison }) s
    | .split c k => setSplit c k (fun X => { X with regs := put g v X.regs, poison := markPoison g bad X.poison }) s
    | .service c => setSvc c (fun K => { K with regs := put g v K.regs }) s

/-- The PC of a context: a word index in PROG, or in the service SRAM. -/
def pcOf (ctx : Ctx) (s : State) : Nat :=
  match ctx with
  | .joined c p => ((s.core c).pass p).arch.pc.toNat
  | .split c k => (s.split c k).pc.toNat
  | .service c => (s.svcCore c).pc

/-- The PC of a context. A logic PC has 20 bits, so 0 follows word 1,048,575, as for a branch (R151; log entry 99). -/
def setPc (ctx : Ctx) (pc : Nat) (s : State) : State :=
  match ctx with
  | .joined c p => setArch c p (fun A => { A with pc := BitVec.ofNat 20 pc }) s
  | .split c k => setSplit c k (fun X => { X with pc := BitVec.ofNat 20 pc }) s
  | .service c => setSvc c (fun K => { K with pc := pc % Config.svcSramWords }) s

/-- The next instruction follows. -/
def stepPc (ctx : Ctx) (s : State) : State := setPc ctx (pcOf ctx s + 1) s

/-- The target of a branch with displacement `d` (R151). -/
def branchTarget (ctx : Ctx) (d : Word) (s : State) : Nat := ((pcOf ctx s + 1 + d.toNat) % 2 ^ 32) % 2 ^ 20

/-- OBJ, TYP and CYC as MOVS reads them (R89, R122, R148, R175). -/
def specialOf (ctx : Ctx) (sel : SpecialReg) (s : State) : Word :=
  match ctx, sel with
  | .joined c p, .obj => ((s.core c).pass p).arch.obj.setWidth 32
  | .joined c p, .typ => ((s.core c).pass p).arch.typ.setWidth 32
  | .joined _ _, .cyc => w32 s.seq.mcc
  | .split c k, .obj => w32 (4 * c + k)
  | .split _ _, .typ => 0
  | .split _ _, .cyc => w32 s.seq.mcc
  | .service _, .obj => 0
  | .service _, .typ => 0
  | .service _, .cyc => s.svc.mcc

/-! ### Objects, records and owners (R100, R109, R118, R131) -/

/-- The run of the object table that holds object `n`. -/
def objectRun (n : Nat) (s : State) : Option ObjectRun := s.img.objects.find? (fun r => decide (r.first ≤ n ∧ n < r.first + r.count))

def isObject (n : Nat) (s : State) : Bool := (objectRun n s).isSome

/-- The owner of record `n`: an object owns its own record and its global records; an unused record has none. -/
def recordOwner (n : Nat) (s : State) : Option Nat :=
  if isObject n s then some n
  else (s.img.globals.find? (fun r => decide (r.first ≤ n ∧ n < r.first + r.count))).map GlobalRun.owner

/-- The records that object `n` owns, in ascending order. -/
def ownedRecords (n : Nat) (s : State) : List Nat :=
  let gs := (s.img.globals.filter (fun r => r.owner == n)).flatMap (fun r => (List.range r.count).map (fun i => r.first + i))
  sortBy (fun a b => decide (a ≤ b)) (n :: gs)

/-- The type entry of type `t`. -/
def typeEntry (t : Nat) (s : State) : TypeEntry :=
  look { entry := 0xFFFF_FFFF, weight := 0, classes := 0, fieldMask := 0, axisMask := 0 } t s.img.types

/-- The connection whose OUTBOX area holds word `i` (R263). -/
def connOfWord (i : Nat) (s : State) : Option Nat :=
  (definedConns s.net.table).find? (fun c => decide (connArea s.net.table c ≤ i ∧ i < connArea s.net.table c + connS s.net.table c))

/-! ### Spaces (R95 to R99, R153, R574) -/

/-- The highest index of a space (R153). -/
def spaceLimit (sp : Space) : Nat :=
  match sp with
  | .stateOld => 1_048_575
  | .stateNew => 1_048_575
  | .param => 3_145_727
  | .imageIn => 65_535
  | .inbox => 524_287
  | .imageOut => 65_535
  | .outbox => 524_287
  | .scratch => 14_335

/-- Bits [20:0] of a word index reversed. -/
def rev21 (i : Nat) : Nat := ((BitVec.ofNat 21 i).reverse).toNat

/-- The physical word of record `n`: the half of the NEW view or of the OLD view in the current cycle (R99). -/
def stateHalf (n : Nat) (new : Bool) (s : State) : Nat := if new then 2 * n + s.seq.mcc % 2 else 2 * n + 1 - s.seq.mcc % 2

/-- Byte offset of physical STATE word `i` in the copy of a pass. -/
def stateAddr (p : Pass) (i : Nat) : Nat :=
  match p with
  | .top => 4 * i
  | .heart => 0x0080_0000 + 4 * (2_097_151 - i)
  | .base => 0x0100_0000 + 4 * rev21 i

/-- The form in which the copy of a pass stores a STATE word (R95). -/
def stateForm (p : Pass) (v : Word) : Word := match p with | .top => v | .heart => ~~~v | .base => v.reverse

/-- STATE word `i` as the copy of pass `p` gives it, in Top form. -/
def stateRead (p : Pass) (i : Nat) (s : State) : Word := stateForm p (sramWord (stateAddr p i) s)

/-- A committed STATE word is written into all three copies (R96). -/
def stateWrite (i : Nat) (v : Word) (s : State) : State :=
  [Pass.top, .heart, .base].foldl (fun s p => sramSet (stateAddr p i) (stateForm p v) s) s

/-- Byte offset of PARAM word `i` in the copy that a pass reads. -/
def paramAddr (p : Pass) (i : Nat) : Nat :=
  match p with
  | .top => 0x0180_0000 + 4 * i
  | .heart => 0x0240_0000 + 4 * (3_145_727 - i)
  | .base => 0x0180_0000 + 4 * i

/-- PARAM word `i` in Top form. -/
def paramRead (p : Pass) (i : Nat) (s : State) : Word := passForm p (sramWord (paramAddr p i) s)

/-- Both PARAM copies take a value (R104, R133). -/
def paramWrite (i : Nat) (v : Word) (s : State) : State :=
  sramSet (0x0240_0000 + 4 * (3_145_727 - i)) (~~~v) (sramSet (0x0180_0000 + 4 * i) v s)

/-- SCRATCH word `i` of core `c`. -/
def scratchAddr (c i : Nat) : Nat := scratchBase c + 4 * i

/-- The words of a single plain space. -/
def inboxRead (i : Nat) (s : State) : Word := sramWord (inboxBase s.seq.inboxFrozen + 4 * i) s

/-! ### Output classes (R120, R158) -/

/-- The class an ST to IMAGE_OUT word `i` needs; none in the reserved area. -/
def imageOutClass (i : Nat) : Option Nat :=
  if i < 0x40 then some 1 else if i < 0x400 then none else if i < 0x800 then some 2 else if i < 0x1000 then some 3
  else if i < 0x3000 then some 4 else some 5

/-- The type of the evaluating object of a pass holds class `k`. -/
def holdsClass (A : Arch) (k : Nat) (s : State) : Bool := (typeEntry A.typ.toNat s).classes.getLsbD k

/-- The pass is within an object's evaluation (R91). -/
def Arch.inObject (A : Arch) : Bool := match A.place with | .object _ => true | .entry => false | .listEnd => false

/-- The ordinal of the evaluating object (R181). -/
def Arch.ordinal (A : Arch) : Nat := match A.place with | .object k => k | .entry => 0 | .listEnd => 0

end Sys2Proof.Machine
end

