-- ==== Sys2Proof/Machine/Berths.lean ====
section
/-!
DEFINITION. The commands of the berths: messages of hosts, queues, sessions, resets (R282 to R323, R462 to R466).
-/
namespace Sys2Proof.Machine

/-- No anchor is in use, and BTH0 serves the first commissioning while closed (R298). -/
def firstCommissioning (b : Nat) (s : State) : Bool :=
  b == 0 && s.bth.anchorSlot.isNone && (s.berth 0).state == .closed && s.keep.mode == .commission && !s.keep.cmsn

/-- The policy entry of BTHb is enabled; without a policy table BTH0 alone opens, in COMMISSION (R292, R295). -/
def entryEnabled (b : Nat) (s : State) : Bool :=
  match s.bth.policy with
  | none => b == 0 && s.keep.mode == .commission
  | some p => look false b p.enabled

/-! ### Opening and closing (R287, R307, R309, R320) -/

/-- OPEN: a nonce for the host, a value the spec does not give (R307). -/
def execOpenBerth (b : Fin 8) (m : MsgHead) (s : State) : Outcome :=
  let B := s.berth b
  if B.state = .lockedOut ∧ b.val ≤ 2 ∧ headOk m [] = true ∧ m.typ = 1 ∧ served b s = true then .next (refuseMsg b 1 m.tag 0x6024 1 (touch b s))
  else
    .next (gate b 1 m [] true (decide (b.val ≤ 2) && B.state == .closed && s.bth.anchorSlot.isSome && entryEnabled b s) s (fun s =>
      let g := drawBytes 32 s
      replyOk b 1 m.tag (g.1 ++ be 8 s.fused.serial.toNat) (setBerth b (fun B => { B with state := .opening, nonce := some g.1 }) g.2)))

/-- What the PROOF signature covers (R309). -/
def proofText (b : Nat) (s : State) : List Byte := ((s.berth b).nonce.getD []) ++ be 1 b ++ be 8 s.fused.serial.toNat

/-- PROOF: a signature of 64 bytes with the key of the leaf, then the chain as in R301 (R287, R290, R291, R307, R309). -/
def execProof (b : Fin 8) (m : MsgHead) (sig chain : List Byte) (s : State) : Outcome :=
  .next (gate b 2 m (sig ++ chain) (decide (sig.length = 64)) ((s.berth b).state == .opening) s (fun s =>
    let leaf := (chainCerts 3 chain).bind (fun ders => hostLeaf ders s)
    let code := openCode b leaf (fun g => ecdsaOk g.key (proofText b s) (rawSig sig)) s
    match leaf, code with
    | some g, 0 =>
      let s1 := openWith b g s
      replyOk b 2 m.tag (be 1 (s1.berth b).effective.toNat ++ zeros 3) s1
    | _, _ => sendReply b { typ := 2, tag := m.tag, status := code, body := [] } (openFails b code s)))

/-- CLOSE: the reply leaves, then the berth resets. -/
def execClose (b : Fin 8) (m : MsgHead) (s : State) : Outcome :=
  let st := (s.berth b).state
  .next (gate b 3 m [] true (st == .open_ || st == .opening || firstCommissioning b s) s (fun s => resetBerth b (replyOk b 3 m.tag [] s)))

/-- BERTH_RESET: a reset completes, within 1 ms (R320). -/
def execBerthReset (b : Fin 8) (s : State) : Outcome := .next (endReset b s)

/-- LOCKOUT_END (R323). -/
def execLockoutEnd (b : Fin 8) (atNs : Nat) (s : State) : Outcome :=
  let s0 := advance atNs s
  match (s0.berth b).lockEnd with
  | none => .next s0
  | some t =>
    if s0.now < t then .next s0
    else .next (setBerth b (fun B => { B with lockEnd := none, state := if B.state = .lockedOut then .closed else B.state }) s0)

/-- BERTH_IDLE_TIMEOUT: no message for the idle timeout of the policy entry (R292, R320). -/
def execBerthIdleTimeout (b : Fin 8) (atNs : Nat) (s : State) : Outcome :=
  let s0 := advance atNs s
  let idle := (s0.bth.policy.map (fun p => look 0 b.val p.idle)).getD 0
  .next (if idle ≠ 0 ∧ (s0.berth b).state = .open_ ∧ (s0.berth b).lastUse + 1_000_000_000 * idle ≤ s0.now then resetBerth b s0 else s0)

/-! ### Commands (R314, R319) -/

/-- The type of object `o`, when the image holds it (R131). -/
def objectType (o : Nat) (s : State) : Option Nat :=
  (s.img.objects.find? (fun r => decide (r.first ≤ o ∧ o < r.first + r.count))).map ObjectRun.typ

/-- The row of a command code in the command table (R314). -/
def commandRow (code : Nat) (s : State) : Option CommandRow := s.img.commands.find? (fun r => r.code == code)

/-- The gate's answer to an entry: the code of a refusal, or the row of the command table (R314). -/
def judgeEntry (b : Nat) (e : CmdEntry) (s : State) : Except Nat CommandRow :=
  if !hasRole b roleO s || (s.keep.mode != .run && s.keep.mode != .degraded) then .error 0x6211
  else if bits 31 20 e.addr.toNat ≠ s.ident then .error 0x6210
  else
    match objectType (bits 19 0 e.addr.toNat) s, commandRow e.code.toNat s with
    | some t, some r =>
      if r.berthMask.getLsbD b && decide (r.firstType ≤ t ∧ t ≤ r.lastType) then
        (if (s.berth b).filled < (s.bth.policy.map (fun p => look 0 b p.limit)).getD 0 then .ok r else .error 0x6212)
      else .error 0x6210
    | _, _ => .error 0x6210

/-- The gate's stamp: its replica of DTIME, which never falls back (R40, R64). -/
def gateStamp (s : State) : Nat := max s.bth.lastStamp (s.replica .kclk)

/-- An entry is accepted with the stamp of its message, or refused and answered at once (R314, R319). -/
def takeEntry (b msg stamp : Nat) (e : CmdEntry) (place : Nat) (s : State) : State :=
  match judgeEntry b e s with
  | .ok r =>
    let x : BatchEntry := { obj := bits 19 0 e.addr.toNat, berth := b, code := e.code.toNat, rank := r.rank, arg0 := e.arg0, arg1 := e.arg1
                            msg := some msg, place := place, stamp := stamp }
    setBerth b (fun B => { B with filled := B.filled + 1, accepted := sat 0xFFFF_FFFF (B.accepted + 1) })
      { s with bth := { s.bth with filling := s.bth.filling ++ [x] } }
  | .error code =>
    let a : EntryAnswer := { status := code, disposition := 4, released := false, mcc := s.fillMcc, words := [0, 0, 0, 0] }
    setBerth b (fun B => { B with waiting := B.waiting.map (fun w => if w.msg = msg then { w with answers := put place a w.answers } else w) })
      (refuseAccess b code e.addr.toNat s)

/-- The 16 bytes of an entry. -/
def entryBytes (e : CmdEntry) : List Byte :=
  be 4 e.addr.toNat ++ be 2 e.code.toNat ++ be 2 e.zero.toNat ++ be 4 e.arg0.toNat ++ be 4 e.arg1.toNat

/-- COMMAND (R307, R314, R319). -/
def execCommand (b : Fin 8) (m : MsgHead) (atNs : Nat) (entries : List CmdEntry) (s : State) : Outcome :=
  .next (gateRoles b 0x20 m (entries.flatMap entryBytes) (decide (1 ≤ entries.length ∧ entries.length ≤ 64) && entries.all (fun e => e.zero == 0)) [roleO] (advance atNs s)
    (fun s =>
      let msg := s.bth.nextMsg
      let s1 := setBerth b (fun B => { B with waiting := B.waiting ++ [{ msg := msg, tag := m.tag, count := entries.length }] })
        { s with bth := { s.bth with nextMsg := msg + 1, lastStamp := gateStamp s } }
      let s2 := (entries.zipIdx).foldl (fun s p => takeEntry b msg (gateStamp s1) p.1 p.2 s) s1
      let taken := (s2.berth b).filled - (s1.berth b).filled
      flushReplies b (replyOk b 0x20 m.tag (be 2 taken ++ zeros 2) s2)))

/-- COMMAND_REPLY: the answers that are complete leave, in the order of their COMMAND messages (R319). -/
def execCommandReply (b : Fin 8) (s : State) : Outcome := .next (flushReplies b s)

/-! ### Reading (R307, R308, R463) -/

/-- HASHREAD. -/
def execHashread (b : Fin 8) (m : MsgHead) (s : State) : Outcome :=
  .next (gate b 0x31 m [] true (hasAny b [roleB, roleM, roleE, roleI, roleU] s || firstCommissioning b s) s (fun s =>
    replyOk b 0x31 m.tag ((s.image.map Image.hash).getD (zeros 32) ++ policyHash s) s))

/-- The word of object `o` in the Top copy of the OLD view (R99, R308). -/
def oldTopWord (o : Nat) (s : State) : Word := sramWord (4 * (2 * o + (s.seq.mcc + 1) % 2)) s

/-- SREAD: object states of one and the same cycle. -/
def execSread (b : Fin 8) (m : MsgHead) (first count : Word) (s : State) : Outcome :=
  .next (gateRoles b 0x30 m (be 4 first.toNat ++ be 4 count.toNat) (decide (1 ≤ count.toNat ∧ count.toNat ≤ 512 ∧ first.toNat + count.toNat ≤ 2 ^ 20)) [roleB, roleM] s (fun s =>
    replyOk b 0x30 m.tag (be 8 s.seq.mcc ++ (List.range count.toNat).flatMap (fun i => be 4 (oldTopWord (first.toNat + i) s).toNat)) s))

/-- JSTAT (R462). -/
def execJstat (b : Fin 8) (m : MsgHead) (s : State) : Outcome :=
  .next (gateRoles b 0x50 m [] true [roleI] s (fun s => replyOk b 0x50 m.tag (jstatBody s) s))

/-- The reply to a journal message: its body, or the code with which it is refused (R322, R462). -/
def replyRead (b typ : Nat) (tag : Word) (r : Nat × List Byte) (s : State) : State :=
  if r.1 = 0 then replyOk b typ tag r.2 s else refuseMsg b typ tag r.1 typ s

def readBody (u o n : Word) : List Byte := be 4 u.toNat ++ be 4 o.toNat ++ be 4 n.toNat

/-- JREAD (R463). -/
def execJread (b : Fin 8) (m : MsgHead) (unit offset length : Word) (s : State) : Outcome :=
  .next (gateRoles b 0x51 m (readBody unit offset length) (readShapeOk offset.toNat length.toNat) [roleI] s (fun s =>
    replyRead b 0x51 m.tag (readArea s.jnl.flacon s.flaconUnits (readBody unit offset length)) s))

/-- KREAD (R462). -/
def execKread (b : Fin 8) (m : MsgHead) (unit offset length : Word) (s : State) : Outcome :=
  .next (gateRoles b 0x55 m (readBody unit offset length) (readShapeOk offset.toNat length.toNat) [roleM, roleI] s (fun s =>
    replyRead b 0x55 m.tag (readArea s.jnl.klog s.klogUnits (readBody unit offset length)) s))

/-- SHREAD (R462, R472). -/
def execShread (b : Fin 8) (m : MsgHead) (frame offset length : Word) (s : State) : Outcome :=
  .next (gateRoles b 0x56 m (readBody frame offset length) (readShapeOk offset.toNat length.toNat) [roleB, roleM, roleI] s (fun s =>
    replyRead b 0x56 m.tag (shread (readBody frame offset length) s) s))

/-- JACK (R465). -/
def execJack (b : Fin 8) (m : MsgHead) (k : Word) (c : List Byte) (s : State) : Outcome :=
  .next (gateRoles b 0x53 m (be 4 k.toNat ++ c) (decide (c.length = 32)) [roleI] s (fun s =>
    let r := jack k.toNat c s
    replyRead b 0x53 m.tag (r.1, []) r.2))

/-- JREARM (R466). -/
def execJrearm (b : Fin 8) (m : MsgHead) (s : State) : Outcome :=
  .next (gateRoles b 0x54 m [] true [roleI] s (fun s =>
    let r := jrearm s
    replyRead b 0x54 m.tag r.1 r.2))

/-- JSEAL: a SEAL record is staged and the message waits for it; a full flacon answers with its checkpoint; a faulted store seals nothing
(R452, R454, R464). -/
def execJseal (b : Fin 8) (m : MsgHead) (s : State) : Outcome :=
  .next (gateRoles b 0x52 m [] true [roleI] s (fun s =>
    let waits := fun (s : State) => setJnl (fun j => { j with sealWait := j.sealWait ++ [(b.val, m.tag)] }) s
    match s.jnl.state with
    | .recording =>
      if s.jnl.fill + (signSlot 0xF1 s).size ≤ Config.stagingBytes then waits (stageRec (signSlot 0xF1 s) s)
      else sendReply b { typ := 0x52, tag := m.tag, status := 0x7003, body := [] } (stageRec (signSlot 0xF1 s) s)
    | .notScanned => waits (stageRec (signSlot 0xF1 s) s)
    | .full => if s.jnl.staging = [] then replyOk b 0x52 m.tag (lastStored s) s else waits s
    | .storeFault => sendReply b { typ := 0x52, tag := m.tag, status := 0x7005, body := [] } s))

/-! ### Staging an envelope (R305, R307) -/

/-- An envelope on BTHb is refused with `code`: recorded, event source 228, and the ECOMMIT is answered. -/
def refuseEnvelope (b : Nat) (tag : Word) (code : Nat) (s : State) : State :=
  let s1 := raise 228 (record code [b] (setBerth b (fun B => { B with staged := {} }) s))
  sendReply b { typ := 0x41, tag := tag, status := code, body := [] } s1

/-- ECHUNK: bytes of the one envelope that the berth stages; another total length begins anew. -/
def execEchunk (b : Fin 8) (m : MsgHead) (offset total : Word) (data : List Byte) (s : State) : Outcome :=
  .next (gate b 0x40 m (be 4 offset.toNat ++ be 4 total.toNat ++ data) (decide (data.length ≤ 4_072 ∧ offset.toNat + data.length ≤ total.toNat))
    ((hasAny b [roleE, roleU] s || firstCommissioning b s) && (s.berth b).staged.checking.isNone) s (fun s =>
      let s1 := setBerth b (fun B =>
        let g : Staged := if B.staged.total = total.toNat then B.staged else { total := total.toNat }
        { B with staged := { g with
            ranges := (offset.toNat, data.length) :: g.ranges
            bytes := data.zipIdx.foldl (fun t e => put (offset.toNat + e.2) e.1 t) g.bytes } }) s
      replyOk b 0x40 m.tag [] s1))

/-- ECOMMIT: the checks of R304 begin; an envelope that is not staged whole is refused at once with 0x6100. -/
def execEcommit (b : Fin 8) (m : MsgHead) (total : Word) (kind zero : BitVec 16) (atNs : Nat) (s : State) : Outcome :=
  .next (gate b 0x41 m (be 4 total.toNat ++ be 2 kind.toNat ++ be 2 zero.toNat) (zero == 0)
    ((hasAny b [roleE, roleU] s || (firstCommissioning b s && kind == 5)) && (s.berth b).staged.checking.isNone) (advance atNs s) (fun s =>
      let g := (s.berth b).staged
      if g.total = total.toNat ∧ g.total ≠ 0 ∧ coversAll g.ranges g.total = true then
        setBerth b (fun B => { B with staged := { B.staged with checking := some { kind := kind.toNat, tag := m.tag, stamp := s.now, commission := s.keep.mode == .commission } } }) s
      else refuseEnvelope b m.tag 0x6100 s))

/-! ### UART_K and PCI Express (R310 to R312) -/

/-- UART_BREAK: a break of at least 100 ms resets BTH0. -/
def execUartBreak (s : State) : Outcome := .next (resetBerth 0 s)

/-- UART_FRAME_GAP: the frame that has begun is discarded, `line` its bytes so far; a message reaches the gate only with its whole frame. -/
def execUartFrameGap (_line : List Byte) (s : State) : Outcome := .next s

/-- Replies that wait leave while reply slots are free (R311). -/
def pushWaiting : Nat → Berth → Berth
  | 0, B => B
  | n + 1, B =>
    match B.slotWait with
    | [] => B
    | r :: t => if 1 ≤ B.freeReplies then pushWaiting n ({ B with slotWait := t }.push r.1) else B

/-- BTH1 on H0, BTH2 on H1. -/
def queueBerth (h : Fin 2) : Nat := 1 + h.val

/-- BQ_DOORBELL: the host announces requests. -/
def execBqDoorbell (h : Fin 2) (tail : BitVec 16) (s : State) : Outcome := .next (setBerth (queueBerth h) (fun B => { B with reqTail := tail }) s)

/-- BQ_RPL_HEAD_WRITE: replies have been consumed; those that wait take the slots. -/
def execBqRplHeadWrite (h : Fin 2) (head : BitVec 16) (s : State) : Outcome :=
  .next (setBerth (queueBerth h) (fun B => pushWaiting B.slotWait.length { B with rplHead := head }) s)

/-- The ring sizes let the queue be enabled. -/
def ringsOk (v : Word) : Bool := decide (4 ≤ bits 3 0 v.toNat ∧ bits 3 0 v.toNat ≤ 10 ∧ 4 ≤ bits 11 8 v.toNat ∧ bits 11 8 v.toNat ≤ 10)

/-- BQ_RESET: a write of BQ_CTRL: MSI, enable, and the reset of the berth. -/
def execBqReset (h : Fin 2) (v : Word) (s : State) : Outcome :=
  let b := queueBerth h
  let s1 := setBerth b (fun B => { B with msi := v.getLsbD 2, enable := v.getLsbD 0 && ringsOk B.ringCfg }) s
  .next (if v.getLsbD 1 then resetBerth b s1 else s1)

/-- Ring register `reg` (BQ_RING_CFG, request base low and high, reply base low and high) takes `v`. -/
def Berth.ringWrite (reg : Nat) (v : Word) (B : Berth) : Berth :=
  match reg with
  | 0 => { B with ringCfg := v &&& 0xF0F }
  | 1 => { B with reqBase := (B.reqBase &&& 0xFFFF_FFFF_0000_0000) ||| v.setWidth 64 }
  | 2 => { B with reqBase := (B.reqBase &&& 0xFFFF_FFFF) ||| (v.setWidth 64 <<< 32) }
  | 3 => { B with rplBase := (B.rplBase &&& 0xFFFF_FFFF_0000_0000) ||| v.setWidth 64 }
  | _ => { B with rplBase := (B.rplBase &&& 0xFFFF_FFFF) ||| (v.setWidth 64 <<< 32) }

/-- BQ_RING_WRITE: a ring register is written; while the queue is enabled this resets the berth. -/
def execBqRingWrite (h : Fin 2) (reg : Fin 5) (v : Word) (s : State) : Outcome :=
  let b := queueBerth h
  let s1 := setBerth b (Berth.ringWrite reg v) s
  .next (if (s.berth b).enable then resetBerth b s1 else s1)

/-- BQ_REQUEST_FETCH: the next request of the ring is read while at least 2 reply slots are free; its message is a command of its own,
which the gate takes when it comes. -/
def execBqRequestFetch (h : Fin 2) (s : State) : Outcome :=
  let b := queueBerth h
  let B := s.berth b
  .next (if B.enable = true ∧ B.reqHead ≠ B.reqTail ∧ 2 ≤ B.freeReplies ∧ modeServes b s.keep.mode = true then
    setBerth b (fun B => { B with
      reqHead := B.reqHead + 1, fetched := B.fetched + 1
      reads := B.reads ++ [ringSlot B.reqBase B.reqHead (2 ^ bits 3 0 B.ringCfg.toNat)] }) s
  else s)

/-- PCIE_COMPLETION_ERROR. -/
def execPcieCompletionError (h : Fin 2) (s : State) : Outcome :=
  .next (if (s.berth (queueBerth h)).enable then resetBerth (queueBerth h) s else s)

/-- REPLY_SLOT_WAIT_TIMEOUT: a reply has waited 1 s for a free slot. -/
def execReplySlotWaitTimeout (h : Fin 2) (atNs : Nat) (s : State) : Outcome :=
  let s0 := advance atNs s
  .next (match (s0.berth (queueBerth h)).slotWait with
    | [] => s0
    | r :: _ => if r.2 + 1_000_000_000 ≤ s0.now then resetBerth (queueBerth h) s0 else s0)

/-! ### TLS sessions (R289, R313) -/

/-- The berth that listens on TCP port `port` of Np. -/
def listener (p port : Nat) (s : State) : Option Nat :=
  match s.bth.policy with
  | none => none
  | some t => [3, 4, 5, 6, 7].find? (fun b => look false b t.enabled && look 0 b t.tcpPort == port && bitAt p (look 0 b t.portMask))

/-- TCP_CONNECTION_REQUEST: a closed berth accepts one connection; others are answered with a TCP reset, and a locked-out berth refuses
with 0x6024 (R313, R323). -/
def execTcpConnectionRequest (p : Fin 4) (port : BitVec 16) (atNs : Nat) (s : State) : Outcome :=
  let s0 := advance atNs s
  match listener p port.toNat s0 with
  | none => .next s0
  | some b =>
    let B := s0.berth b
    if !(netWorks s0 && (s0.port p).link && ownIp p s0 != 0) then .next s0
    else if !modeServes b s0.keep.mode || s0.svc.held || s0.keep.romRecovery then .next s0
    else if B.state = .closed ∧ B.tcp = none then .next (setBerth b (fun B => { B with state := .opening, tcp := some s0.now }) s0)
    else
      let s1 := setBerth b (fun B => { B with tcpResets := B.tcpResets + 1 }) s0
      .next (if B.state = .lockedOut then refuseAccess b 0x6024 port.toNat s1 else s1)

/-- A handshake has failed: 0x6025 with the alert, and a failed open (R313, R323). -/
def tlsFails (b : Nat) (alert : Nat) (s : State) : State := failedOpen b (record 0x6025 [b, alert] s)

/-- The alert that ends a handshake whose offer leaves out what R313 supports: TLS 1.3, TLS_AES_128_GCM_SHA256, secp256r1, in a key share
of the second ClientHello at the latest, and ecdsa_secp256r1_sha256; 0 when it leaves out nothing (the numbers are RFC 8446's; log entry 96). -/
def helloAlert (h : ClientHello) : Nat :=
  if !h.versions.contains 0x0304 then 70
  else if !(h.suites.contains 0x1301 && h.groups.contains 0x0017 && h.schemes.contains 0x0403) then 40
  else if !(h.shares.contains 0x0017 || h.again.contains 0x0017) then 47
  else 0

/-- What the client's CertificateVerify signs (RFC 8446, 4.4.3): 64 spaces, the context string, a zero byte, the transcript hash. -/
def verifyText (transcript : List Byte) : List Byte :=
  List.replicate 64 0x20
    ++ [0x54, 0x4C, 0x53, 0x20, 0x31, 0x2E, 0x33, 0x2C, 0x20, 0x63, 0x6C, 0x69, 0x65, 0x6E, 0x74, 0x20, 0x43, 0x65, 0x72, 0x74, 0x69, 0x66,
        0x69, 0x63, 0x61, 0x74, 0x65, 0x56, 0x65, 0x72, 0x69, 0x66, 0x79, 0x00] ++ transcript

/-- The session of BTHb is established, with traffic keys that the spec does not give (R297; log entry 3). -/
def startSession (b : Nat) (s : State) : State :=
  let g := drawBytes 32 s
  setBerth b (fun B => { B with tls := true, keyIn := g.1.take 16, keyOut := g.1.drop 16, records := 0 }) g.2

/-- A handshake has not ended within 5 s of the connection (R313). -/
def handshakeLate (b : Nat) (s : State) : Bool := ((s.berth b).tcp.map (fun t => decide (t + 5_000_000_000 ≤ s.now))).getD false

/-- TLS_HANDSHAKE_COMPLETE: the handshake fails with an alert, of its own or for the client's offer, for want of a client certificate, or
for a wrong CertificateVerify; else the lock-keeper judges the client's chain (R289, R313). -/
def execTlsHandshakeComplete (b : Fin 8) (hello : ClientHello) (certs : List (List Byte)) (transcript verify : List Byte)
    (alert : Option Byte) (atNs : Nat) (s : State) : Outcome :=
  let s0 := advance atNs s
  .next (
    if (s0.berth b).tcp.isNone || (s0.berth b).tls || handshakeLate b s0 then s0
    else
      match alert with
      | some a => tlsFails b a.toNat s0
      | none =>
        if helloAlert hello ≠ 0 then tlsFails b (helloAlert hello) s0
        else if certs = [] then tlsFails b 116 s0
        else
          let leaf := hostLeaf certs s0
          let code := openCode b leaf (fun g => ((derSig verify).map (ecdsaOk g.key (verifyText transcript))).getD false) s0
          match leaf, code with
          | some g, 0 => openWith b g (startSession b s0)
          | _, _ => if code = 0x6021 then tlsFails b 51 s0 else openFails b code s0)

/-- TLS_HANDSHAKE_TIMEOUT: 5 s from the connection; the alert in the record is a free value (log entry 3). -/
def execTlsHandshakeTimeout (b : Fin 8) (atNs : Nat) (s : State) : Outcome :=
  let s0 := advance atNs s
  .next (
    if (s0.berth b).tls || !handshakeLate b s0 then s0
    else
      let d := s0.draw 8
      tlsFails b d.1.toNat d.2)

/-- KEYUPDATE: the client's key changes, and the module answers with a KeyUpdate of its own, with which its key changes; the keys are free
values (R313; log entry 3). -/
def execKeyupdate (b : Fin 8) (s : State) : Outcome :=
  .next (if (s.berth b).tls then
    let g := drawBytes 32 s
    setBerth b (fun B => { B with keyIn := g.1.take 16, keyOut := g.1.drop 16, records := 0, keyUpdates := B.keyUpdates + 1 }) g.2
  else s)

/-- TCP_CONNECTION_CLOSED: closure or failure of the connection or the session resets the berth (R320). -/
def execTcpConnectionClosed (b : Fin 8) (s : State) : Outcome := .next (if (s.berth b).tcp.isSome then resetBerth b s else s)

end Sys2Proof.Machine
end

