-- ==== Sys2Proof/Machine/FeedbackOps.lean ====
section
/-!
DEFINITION. Position channels, speeds, standstill, wheel heads, sections and encoder emulation: the shared operations of the
feedback region (R364 to R401).
-/
namespace Sys2Proof.Machine

/-! ### Standstill detectors (R383, R384) -/

def ssReg (k off : Nat) : Nat := 0x0200_3000 + 0x10 * k + off
def ssChA (k : Nat) (s : State) : Nat := cf (ssReg k 0) 20 16 s
def ssChB (k : Nat) (s : State) : Nat := cf (ssReg k 0) 28 24 s
def ssEnabled (k : Nat) (s : State) : Bool := cbit (ssReg k 0) 31 s

/-- The configuration error of R384, a disabled detector among its cases (log entry 43). -/
def ssCfgErr (k : Nat) (s : State) : Bool :=
  !ssEnabled k s || decide (ssChA k s = ssChB k s) || !chanOn (ssChA k s) s || !chanOn (ssChB k s) s
    || decide (cf (ssReg k 0) 15 0 s = 0)

def State.stand (k : Nat) (s : State) : Standstill := look {} k s.fbk.stand

def setStand (k : Nat) (f : Standstill → Standstill) (s : State) : State :=
  { s with fbk := { s.fbk with stand := upd {} k f s.fbk.stand } }

/-- The condition of SDk. -/
def ssCond (k : Nat) (s : State) : Bool :=
  !ssCfgErr k s && standBit (ssChA k s) s && standBit (ssChB k s) s

/-- A withdrawal: 0x3011 with detector and cause (1 condition, 2 creep), event source 100 + k. -/
def ssWithdraw (k cause : Nat) (s : State) : State :=
  if (s.stand k).asserted then
    raise (100 + k) (record 0x3011 [k, cause] (setStand k (fun d => { d with asserted := false }) s))
  else s

/-- Detector k looks at its condition and its creep counts (R383); a condition that has become true did so at DTIME `since`. -/
def ssLook (k since : Nat) (s : State) : State :=
  let d := s.stand k
  let c := ssCond k s
  let creep := cf (ssReg k 4) 15 0 s
  if !c then (if d.cond then setStand k (fun d => { d with cond := false }) (ssWithdraw k 1 s) else s)
  else if !d.cond then setStand k (fun d => { d with cond := true, since := since, stepsA := 0, stepsB := 0 }) s
  else if d.asserted = true ∧ (creep < d.stepsA ∨ creep < d.stepsB) then
    setStand k (fun d => { d with since := s.now, stepsA := 0, stepsB := 0 }) (ssWithdraw k 2 s)
  else s

/-- Detector k after a change in its channels. -/
def ssEval (k : Nat) (s : State) : State := ssLook k s.now s

/-- The detectors before any change of now: a condition may have become true because no count came (R376, R379, R383). -/
def ssPass (s : State) : State :=
  (List.range 8).foldl (fun s k => ssLook k (max (standFrom (ssChA k s) s) (standFrom (ssChB k s) s)) s) s

/-- Time passes for the position channels. -/
def chanTime (atNs : Nat) (s : State) : State := ssPass (advance atNs s)

/-- No more than creep count steps of either channel since the condition became true. -/
def ssWithin (k : Nat) (s : State) : Bool :=
  decide ((s.stand k).stepsA ≤ cf (ssReg k 4) 15 0 s ∧ (s.stand k).stepsB ≤ cf (ssReg k 4) 15 0 s)

def ssEvalAll (s : State) : State := (List.range 8).foldl (fun s k => ssEval k s) s

/-- A count step of channel n counts towards the creep of the detectors that name it. -/
def ssStep (n : Nat) (s : State) : State :=
  (List.range 8).foldl (fun s k => setStand k (fun d => { d with
    stepsA := if d.cond ∧ ssChA k s = n then d.stepsA + 1 else d.stepsA
    stepsB := if d.cond ∧ ssChB k s = n then d.stepsB + 1 else d.stepsB }) s) s

/-! ### Encoder emulation (R394 to R398) -/

def eoReg (e off : Nat) : Nat := 0x0200_4000 + 0x20 * e + off
def State.enc (e : Nat) (s : State) : EncOut := look {} e s.fbk.eo
def setEnc (e : Nat) (f : EncOut → EncOut) (s : State) : State := { s with fbk := { s.fbk with eo := upd {} e f s.fbk.eo } }
def eoSrc (e : Nat) (s : State) : Nat := cf (eoReg e 0) 6 0 s
def eoEnabled (e : Nat) (s : State) : Bool := cbit (eoReg e 0) 15 s && decide (eoSrc e s < 80)
def State.head (k : Nat) (s : State) : Head := look {} k s.fbk.heads

/-- The integer part of a setpoint held in 1/65,536 count, rounded towards minus infinity (R335). -/
def setpointWord (p : Int) : Word := wInt (p.fdiv 65536)

/-- The source value of EOe. -/
def eoValue (e : Nat) (s : State) : Word :=
  let src := eoSrc e s
  if src < 32 then (s.chan src).count
  else if src < 48 then (s.head (src - 32)).inCnt.setWidth 32 - (s.head (src - 32)).outCnt.setWidth 32
  else setpointWord (s.axis (src - 48)).p

/-- The source of EOe is valid: a channel that is valid, a wheel head that is ready, an axis that is fitted (R398). -/
def eoSrcValid (e : Nat) (s : State) : Bool :=
  let src := eoSrc e s
  if src < 32 then chanValid src s
  else if src < 48 then decide (src - 32 < s.headsFitted ∧ (s.head (src - 32)).state ≠ 0)
  else decide (src - 48 < s.axesFitted)

/-- The motion region, to which the outputs belong, is reinitialising or held in reset: EO0 to EO7 stay off (R24, R30, R536). -/
def encodersHeld (s : State) : Bool := s.reiniting 1 || s.keep.mode == .stabled

/-- EOe follows its source (R395, R396, R398). -/
def eoFollow (e : Nat) (s : State) : State :=
  let o := s.enc e
  if !eoEnabled e s || encodersHeld s then s
  else if !eoSrcValid e s then
    (if o.srcInvalid then s else record 0x3051 [e] (setEnc e (fun o => { o with srcInvalid := true }) s))
  else
    let v := eoValue e s
    if o.srcInvalid then setEnc e (fun o => { o with srcInvalid := false, ref := v }) s
    else
      let num : Int := (max 1 (cf (eoReg e 4) 15 0 s) : Nat)
      let den : Int := (max 1 (cf (eoReg e 4) 31 16 s) : Nat)
      let r := o.rem + signed 32 (v - o.ref).toNat * num
      let q := r.fdiv den
      let p := o.pending + q
      let s1 := setEnc e (fun o => { o with ref := v, rem := r - q * den, pending := if 65535 < p.natAbs then 0 else p,
                                            lagging := o.lagging || decide (65535 < p.natAbs) }) s
      if 65535 < p.natAbs then raise 108 (record 0x3050 [e] s1) else s1

/-- The outputs whose sources are channels, or (`axes`) axis setpoints, follow them (R395). -/
def eoFollowAll (axes : Bool) (s : State) : State :=
  (List.range 8).foldl (fun s e => if decide (48 ≤ eoSrc e s) == axes then eoFollow e s else s) s

/-- What follows a change in a channel: detectors and emulation. -/
def chanChanged (s : State) : State := eoFollowAll false (ssEvalAll s)

/-! ### Count steps and errors -/

/-- Occurrences are gathered per major cycle: a cycle will end at the next CAPTURE. -/
def gathers (s : State) : Bool := s.keep.mode == .run || s.keep.mode == .degraded

/-- What was gathered of code `code` of channel `n` is recorded, once, with the count as payload; 0x3004 with its last measured
difference too. -/
def flushChanCode (n code : Nat) (s : State) : State :=
  let hits := (s.chan n).gathered.filter (fun p => p.1 == code)
  match hits.getLast? with
  | none => s
  | some p => recordC code (if hits.length = 1 then 0 else 2) hits.length
      (le 4 n ++ le 4 hits.length ++ (if code = 0x3004 then le 4 p.2 else [])) s

/-- What channel `n` has gathered is recorded, at most once per code. -/
def flushChan (n : Nat) (s : State) : State :=
  if (s.chan n).gathered = [] then s
  else setChan n (fun c => { c with gathered := [] }) ([0x3001, 0x3002, 0x3003, 0x3004].foldl (fun s code => flushChanCode n code s) s)

/-- The cycle ends for every channel. -/
def flushChannels (s : State) : State := (keysOf s.fbk.chans).foldl (fun s n => flushChan n s) s

/-- A code of a channel, at most once per channel, code and cycle; outside RUN and DEGRADED no cycle gathers it. -/
def chanRecord (n code arg : Nat) (s : State) : State :=
  let s1 := setChan n (fun c => { c with lastCode := code, gathered := c.gathered ++ [(code, arg)] }) s
  if gathers s then s1 else flushChan n s1

/-- One qualified count of channel n in the positive order (`up`) or against it (R366 to R372, R376, R380). -/
def countStep (n : Nat) (up : Bool) (s : State) : State :=
  let neg := up == cbit (pcReg n 0) 2 s
  let c := s.chan n
  let new := if neg then c.count - 1 else c.count + 1
  let wrap := (!neg && decide (c.count = 0x7FFF_FFFF)) || (neg && decide (c.count = 0x8000_0000))
  let turned := c.moved && (c.neg != neg)
  let t := s.mclk
  let s1 := setChan n (fun c => { c with
    count := new, neg := neg, moved := true, fWrap := c.fWrap || wrap, fDir := c.fDir || turned
    dirSinceLatch := c.dirSinceLatch || turned
    times := if turned then [t] else (t :: c.times).take (speedWindow n s + 1)
    qualified := min 2 (c.qualified + 1)
    gateNet := if neg then c.gateNet - 1 else c.gateNet + 1 }) s
  let s2 := if wrap then raise 98 s1 else s1
  let s3 := if turned && cbit (pcReg n 0) 6 s then raise 97 s2 else s2
  ssStep n s3

/-- The axis that channel `n` serves loses homed: its channel is invalid or starts afresh (R340). -/
def unhome (n : Nat) (s : State) : State :=
  if noFeedback n s then s else setAxis n (fun a => { a with homed := false, actValid := false }) s

/-- A channel becomes invalid: its speed with it, and the axis it serves loses homed (R340, R373). -/
def chanInvalidate (n : Nat) (s : State) : State :=
  unhome n (raise 96 (record 0x3005 [n] (setChan n (fun c => { c with bad := true, lastCode := 0x3005 }) s)))

/-- An error of channel n raises its level and may make it invalid (R373). `imp`: an impossible state; `line`: a line count. -/
def chanError (n code arg : Nat) (imp line : Bool) (s : State) : State :=
  let s1 := setChan n (fun c => { c with
    level := min 255 (c.level + 1)
    errQ := if imp || line then c.errQ else sat 0xFFFF (c.errQ + 1)
    errImp := if imp then sat 0xFFFF (c.errImp + 1) else c.errImp
    rcCount := if line then c.rcCount else sat 0xFFFF (c.rcCount + 1)
    rcLines := if line then sat 0xFFFF (c.rcLines + 1) else c.rcLines }) s
  let s2 := chanRecord n code arg s1
  let c := s2.chan n
  if cf (pcReg n 0) 31 24 s < c.level ∧ c.bad = false then chanInvalidate n s2 else s2

/-- An invalid channel becomes valid again (R374, R380). -/
def chanValidate (n code : Nat) (s : State) : State :=
  raise 96 (record code [n] (setChan n (fun c => { c with bad := false, level := 0, qualified := 0, times := [], lastCode := code }) s))

/-- The first-use state of a channel (R375); its filtered inputs stay as they are, and the first sample is the reference. -/
def PosChan.firstUse (c : PosChan) : PosChan :=
  let h := b2n c.a + 2 * b2n c.b + 4 * b2n c.z
  let invalid := decide (h = 0 ∨ h = 7)
  { a := c.a, b := c.b, z := c.z, hall := if invalid then 0 else h, inImpossible := invalid, gathered := c.gathered }

def chanFirstUse (n : Nat) (s : State) : State := unhome n (setChan n PosChan.firstUse s)

/-! ### Wheel heads and sections -/

def setHead (k : Nat) (f : Head → Head) (s : State) : State := { s with fbk := { s.fbk with heads := upd {} k f s.fbk.heads } }
def wcReg (k off : Nat) : Nat := 0x0200_1000 + 0x40 * k + off
def secReg (k off : Nat) : Nat := 0x0200_2000 + 0x10 * k + off
def headEnabled (k : Nat) (s : State) : Bool := cbit (wcReg k 0) 0 s
def State.section_ (k : Nat) (s : State) : Section := look {} k s.fbk.sections
def setSection (k : Nat) (f : Section → Section) (s : State) : State :=
  { s with fbk := { s.fbk with sections := upd {} k f s.fbk.sections } }

/-- The heads that bound section k. -/
def secHeads (k : Nat) (s : State) : List Nat := (List.range 16).filter (fun h => cbit (secReg k 0) h s)

/-- Every bounding head is ready and IDLE. -/
def secIdle (k : Nat) (s : State) : Bool := (secHeads k s).all (fun h => decide ((s.head h).state = 1))

def SecState.code : SecState → Nat
  | .disturbed => 0 | .clear => 1 | .occupied => 2 | .restoring => 3

/-- The section takes a state; a change raises event source 112 + k; leaving DISTURBED clears the cause bits (R389, R391). -/
def secState (k : Nat) (t : SecState) (s : State) : State :=
  let old := (s.section_ k).state
  let s1 := setSection k (fun c => { c with state := t, swept := false, causes := if t = .disturbed then c.causes else 0 }) s
  if old = t then s1 else raise (112 + k) s1

/-- Section k is disturbed with cause bit `bit` of R391 (4 to 10). -/
def disturb (k bit : Nat) (s : State) : State :=
  let c := s.section_ k
  let m : BitVec 8 := c.causes ||| (1#8 <<< (bit - 4))
  if c.state = .disturbed then setSection k (fun c => { c with causes := m }) s
  else record 0x3030 [k, 2 ^ bit] (setSection k (fun c => { c with causes := 1#8 <<< (bit - 4) }) (secState k .disturbed s))

/-- A RESTORING section that has been swept becomes CLEAR once its heads are IDLE (R389). -/
def secRestored (k : Nat) (s : State) : State :=
  let c := s.section_ k
  if c.state = .restoring ∧ c.occ = 0 ∧ c.swept = true ∧ secIdle k s = true then
    record 0x3033 [k] (secState k .clear s)
  else s

/-- One count step enters or leaves section k (R389, R390). -/
def secStep (k : Nat) (enter : Bool) (s : State) : State :=
  let c := s.section_ k
  let occ := fun o => setSection k (fun c => { c with occ := o }) s
  match c.state with
  | .disturbed => occ (if enter then min 4095 (c.occ + 1) else c.occ - 1)
  | .restoring =>
    if enter then
      (if c.occ = 4095 then disturb k 8 s else setSection k (fun c => { c with swept := false }) (occ (c.occ + 1)))
    else if c.occ = 0 then disturb k 7 s
    else secRestored k (setSection k (fun c => { c with swept := decide (c.occ = 0) }) (occ (c.occ - 1)))
  | .clear => if enter then secState k .occupied (occ (c.occ + 1)) else disturb k 7 s
  | .occupied =>
    if enter then (if c.occ = 4095 then disturb k 8 s else occ (c.occ + 1))
    else if c.occ = 1 then secState k .clear (occ 0) else occ (c.occ - 1)

/-- A head is not ready any more (R387); sections it bounds are disturbed with cause 5 or 6 (R391). -/
def headNotReady (k : Nat) (seqErr : Bool) (arg1 arg2 : Nat) (s : State) : State :=
  let h := s.head k
  if h.state = 0 then setHead k (fun h => { h with freeSince := none }) s
  else
    let code := if seqErr then 0x3020 else 0x3021
    let s1 := setHead k (fun h => { h with
      state := 0, freeSince := none, lastCode := code, fSeqErr := h.fSeqErr || seqErr, lastWasSeq := seqErr }) s
    let s2 := raise (128 + k) (if seqErr then record code [k, arg1, arg2] s1 else record code [k] s1)
    (List.range 16).foldl (fun s j => if cbit (secReg j 0) k s then disturb j (if seqErr then 6 else 5) s else s) s2

/-- A head counts an axle IN or OUT (R388). -/
def headCount (k : Nat) (isIn : Bool) (s : State) : State :=
  let h := s.head k
  let m : BitVec 24 := 16_777_215
  let old := if isIn then h.inCnt else h.outCnt
  let hit := decide (old.toNat + 1 = 16_777_215)
  let new := if old = m then m else old + 1
  let s1 := setHead k (fun h =>
    if isIn then { h with inCnt := new, satIn := h.satIn || decide (new = m) }
    else { h with outCnt := new, satOut := h.satOut || decide (new = m) }) s
  if hit then raise (128 + k) (record 0x3040 [k] (setHead k (fun h => { h with lastCode := 0x3040 }) s1)) else s1

/-- The next head state for occupancies (A, B) (R386): the state, or none for a sequence error; and a count, IN or OUT. -/
def headNext (st : Nat) (a b : Bool) : Option (Nat × Option Bool) :=
  match st, a, b with
  | 1, false, false => some (1, none) | 1, true, false => some (2, none) | 1, false, true => some (5, none)
  | 2, true, false => some (2, none) | 2, false, false => some (1, none) | 2, true, true => some (3, none)
  | 3, true, true => some (3, none) | 3, true, false => some (2, none) | 3, false, true => some (4, none)
  | 4, false, true => some (4, none) | 4, true, true => some (3, none) | 4, false, false => some (1, some true)
  | 5, false, true => some (5, none) | 5, false, false => some (1, none) | 5, true, true => some (6, none)
  | 6, true, true => some (6, none) | 6, false, true => some (5, none) | 6, true, false => some (7, none)
  | 7, true, false => some (7, none) | 7, true, true => some (6, none) | 7, false, false => some (1, some false)
  | _, _, _ => none

/-- One sample of a head: number, systems A and B as reported (0 fault, 1 free, 2 occupied) (R385 to R387). The count it
causes, if any, is handed back for the sections (R390). -/
def headSample (k num ra rb : Nat) (s : State) : State × Option (Nat × Bool) :=
  let swap := cbit (wcReg k 0) 1 s
  let a := if swap then rb else ra
  let b := if swap then ra else rb
  let h0 := s.head k
  let gap := match h0.lastSeq with | none => false | some q => decide (num ≠ q + 1)
  let s1 := setHead k (fun h => { h with sysA := ra, sysB := rb, lastSeq := some num, lastSample := s.now }) s
  if gap || a == 0 || b == 0 then
    let s2 := headNotReady k false 0 0 s1
    (if a = 1 ∧ b = 1 then setHead k (fun h => { h with freeSince := some s.now }) s2 else s2, none)
  else if h0.state = 0 then
    (setHead k (fun h => { h with freeSince := if a = 1 ∧ b = 1 then some (h.freeSince.getD s.now) else none }) s1, none)
  else if !headEnabled k s then (headNotReady k false 0 0 s1, none)
  else
    match headNext h0.state (a == 2) (b == 2) with
    | none =>
      let s2 := headNotReady k true h0.state (a + 4 * b) s1
      (if a = 1 ∧ b = 1 then setHead k (fun h => { h with freeSince := some s.now }) s2 else s2, none)
    | some (st, c) =>
      let s2 := setHead k (fun h => { h with state := st }) s1
      match c with
      | none => (s2, none)
      | some isIn => (headCount k isIn s2, some (k, isIn))

/-- The count steps of one sample instant reach the sections: every entering step before any leaving step (R390). -/
def applySteps (steps : List (Nat × Bool)) (s : State) : State :=
  let go := fun (enterPass : Bool) (s : State) => steps.foldl (fun s p =>
    (List.range 16).foldl (fun s j =>
      if cbit (secReg j 0) p.1 s then
        let enter := p.2 != cbit (secReg j 0) (16 + p.1) s
        if enter == enterPass then secStep j enter s else s
      else s) s) s
  (List.range 16).foldl (fun s j => secRestored j s) (go false (go true s))

/-- The heads that bound section `k` are all fitted and enabled, and there is one (R391). -/
def secBounded (k : Nat) (s : State) : Bool := secHeads k s != [] && (secHeads k s).all (fun h => decide (h < s.headsFitted) && headEnabled h s)

/-- Section `k` is disturbed with cause `bit`, and with cause 5 where no fitted and enabled heads bound it (R3, R391). -/
def disturbBounds (k bit : Nat) (s : State) : State :=
  let s1 := disturb k bit s
  if secBounded k s1 then s1 else disturb k 5 s1

/-- The first-use state of section `k` (R3, R391): DISTURBED with cause 4, and 5 where no fitted head bounds it; nothing counted. -/
def sectionFirstUse (k : Nat) (s : State) : State :=
  disturbBounds k 4 (setSection k (fun _ => {}) (disturb k 4 s))

/-- The first-use state of the whole region: channels, heads, sections, detectors (R375, R387, R391). The axes that the channels serve
lose homed (R340). -/
def feedbackFirstUse (s : State) : State :=
  let s1 := (List.range 16).foldl (fun s k => sectionFirstUse k s) s
  let s2 := (List.range s.chansFitted).foldl (fun s n => unhome n s) s1
  { s2 with fbk := { s2.fbk with
      chans := s2.fbk.chans.map (fun p => (p.1, p.2.firstUse)), heads := [], stand := [] } }

/-- The first-use state of the encoder emulation, which belongs to the motion region (R24, R30): each enabled output starts again from the
value of its source, with nothing pending. -/
def encodersFirstUse (s : State) : State :=
  eoFollowAll true (eoFollowAll false { s with fbk := { s.fbk with eo := (List.range 8).filterMap (fun e =>
    if eoEnabled e s then some (e, ({ ref := eoValue e s } : EncOut)) else none) } })

/-- A section command (R392): 1 RESET, 2 RESTORE, 3 DISTURB of section k; `over`: the release holds a DISTURB for it (R393). -/
def sectionCommand (cmd k : Nat) (fieldsOk excess : Bool) (s : State) : State :=
  let refuse := fun (reason : Nat) => record 0x3034 [k, reason] (setSection k (fun c => { c with fRefused := true }) s)
  let c := s.section_ k
  if !fieldsOk then refuse 1
  else if secHeads k s = [] then refuse 2
  else if cmd = 3 then setSection k (fun c => { c with fApplied := true }) (disturb k 10 s)
  else if excess then refuse 3
  else if c.state ≠ .disturbed ∧ c.state ≠ .restoring then refuse 3
  else if !secIdle k s then refuse 4
  else
    let s1 := setSection k (fun c => { c with occ := 0, fApplied := true }) s
    if cmd = 1 then record 0x3031 [k] (secState k .clear s1) else record 0x3032 [k] (secState k .restoring s1)

end Sys2Proof.Machine
end

