-- ==== Sys2Proof/Machine/Feedback.lean ====
section
/-!
DEFINITION. The events of the feedback region: steps, codes, index latches, decays, gates, heads and sections (R364 to R401).
-/
namespace Sys2Proof.Machine

/-- The state of (A, B) in the positive order 00, 10, 11, 01 (R366). -/
def quadIndex (a b : Bool) : Nat := match a, b with | false, false => 0 | true, false => 1 | true, true => 2 | false, true => 3

/-- QUADRATURE_STEP (R366): the filtered lines of PCn become (a, b) at DTIME `atNs`. -/
def execQuadratureStep (n : Fin 32) (a b : Bool) (atNs : Nat) (s : State) : Outcome :=
  let s := chanTime atNs s
  let c := s.chan n
  if !chanOn n s || chanMode n s != 1 then .next (setChan n (fun c => { c with a := a, b := b }) s)
  else
    let d := (quadIndex a b + 4 - quadIndex c.a c.b) % 4
    let s1 := setChan n (fun c => { c with a := a, b := b }) s
    .next (chanChanged (
      if d = 1 then countStep n true s1
      else if d = 3 then countStep n false s1
      else if d = 2 then chanError n 0x3001 1 false false s1
      else s1))

/-- The place of a valid Hall code in the positive order 1, 3, 2, 6, 4, 5 (R367). -/
def hallIndex (h : Nat) : Nat := match h with | 1 => 0 | 3 => 1 | 2 => 2 | 6 => 3 | 4 => 4 | _ => 5

/-- HALL_CODE_CHANGE (R367): the filtered code W × 4 + V × 2 + U of PCn becomes `code`. The first valid code is the reference. -/
def execHallCodeChange (n : Fin 32) (code : Fin 8) (atNs : Nat) (s : State) : Outcome :=
  let s := chanTime atNs s
  let h := code.val
  let lv := setChan n (fun c => { c with a := bitAt 0 h, b := bitAt 1 h, z := bitAt 2 h }) s
  let c := s.chan n
  if !chanOn n s || chanMode n s != 2 then .next lv
  else if h = 0 ∨ h = 7 then
    if c.inImpossible then .next lv
    else .next (chanChanged (chanError n 0x3002 1 true false (setChan n (fun c => { c with inImpossible := true }) lv)))
  else
    let s1 := setChan n (fun c => { c with inImpossible := false, hall := h }) lv
    let d := (hallIndex h + 6 - hallIndex c.hall) % 6
    .next (chanChanged (
      if c.hall = 0 ∨ d = 0 then s1
      else if d = 1 then countStep n true s1
      else if d = 5 then countStep n false s1
      else chanError n 0x3003 1 false false s1))

/-- INDEX_LATCH (R370, R371): the filtered Z of PCn takes a level; on becoming active it latches the count. -/
def execIndexLatch (n : Fin 32) (level : Bool) (atNs : Nat) (s : State) : Outcome :=
  let s := chanTime atNs s
  let c := s.chan n
  let s0 := setChan n (fun c => { c with z := level }) s
  let zpol := cbit (pcReg n 0) 4 s
  let becomes := level == zpol && c.z != zpol
  if !chanOn n s || chanMode n s != 1 || !cbit (pcReg n 0) 3 s || !becomes then .next s0
  else
    let s1 := setChan n (fun c => { c with
      index := c.count, fIndex := true, lineRef := some c.count, dirSinceLatch := false, latches := c.latches + 1 }) s0
    let lines : Int := cf (pcReg n 4) 23 0 s
    let tol : Int := cf (pcReg n 4) 31 24 s
    match c.lineRef with
    | none => .next s1
    | some l1 =>
      let d := (signed 32 (c.count - l1).toNat).natAbs
      if lines = 0 ∨ c.dirSinceLatch = true ∨ ((d : Int) - lines).natAbs ≤ tol.toNat then .next s1
      else .next (chanChanged (raise 99 (chanError n 0x3004 (c.count - l1).toNat false true (setChan n (fun c => { c with fLine := true }) s1))))

/-- ERROR_LEVEL_DECAY (R373, R374): at the next multiple of 100 ms every error level falls by 1; with relax a channel
whose level reaches 0 is valid again. -/
def execErrorLevelDecay (s : State) : Outcome :=
  let s := chanTime ((s.now / 100_000_000 + 1) * 100_000_000) s
  .next (chanChanged ((List.range 32).foldl (fun s n =>
    let c := s.chan n
    if c.level = 0 then s
    else
      let s1 := setChan n (fun c => { c with level := c.level - 1 }) s
      if c.level = 1 ∧ c.bad = true ∧ cbit (pcReg n 0) 5 s = true then chanValidate n 0x3006 s1 else s1) s))

/-- The length G of a gate in ns (R377). -/
def gateNs (n : Nat) (s : State) : Nat := 250_000 * 2 ^ cf (pcReg n 8) 1 0 s

/-- FREQUENCY_GATE_END (R377, R378): at the next multiple of G the gate of PCn ends. -/
def execFrequencyGateEnd (n : Fin 32) (s : State) : Outcome :=
  let g := gateNs n s
  let s := chanTime ((s.now / g + 1) * g) s
  let c := s.chan n
  let vf := c.gateNet * 256 * ((1_000_000_000 / g : Nat) : Int)
  let up := cf (pcReg n 0xC) 15 0 s
  let dn := cf (pcReg n 0xC) 31 16 s
  let freq := if up = 0 ∨ up ≤ dn then false
    else if c.freq then !decide (vf.natAbs ≤ dn * 256)
    else decide (up * 256 ≤ (periodSpeed n s).natAbs)
  .next (chanChanged (setChan n (fun c => { c with vf := vf, gateNet := 0, freq := freq }) s))

/-- ZERO_SPEED_TIMEOUT (R379): no count for t_zero; the reported speed is 0 and stays valid. -/
def execZeroSpeedTimeout (_n : Fin 32) (atNs : Nat) (s : State) : Outcome :=
  .next (eoFollowAll false (chanTime atNs s))

/-- STANDSTILL_ASSERT (R383): SDk asserts once its condition has held for t_ss within creep. -/
def execStandstillAssert (k : Fin 8) (atNs : Nat) (s : State) : Outcome :=
  let s := chanTime atNs s
  let d := s.stand k
  if d.cond = true ∧ d.asserted = false ∧ ssWithin k s = true ∧ cf (ssReg k 0) 15 0 s * 1_000_000 ≤ s.now - d.since then
    .next (raise (100 + k.val) (record 0x3010 [k.val] (setStand k (fun d => { d with asserted := true }) s)))
  else .next s

/-- HEAD_SAMPLE_TIMEOUT (R385, R387): no new sample of WCk for 1 ms; both systems read not renewed. -/
def execHeadSampleTimeout (k : Fin 16) (atNs : Nat) (s : State) : Outcome :=
  let s := advance atNs s
  if 1_000_000 ≤ s.now - (s.head k).lastSample then
    .next (headNotReady k false 0 0 (setHead k (fun h => { h with sysA := 0, sysB := 0, freeSince := none }) s))
  else .next s

/-- HEAD_READY (R387): both systems have read free for 500 ms, in samples no more than 1 ms apart up to now, and the head is enabled; it
becomes IDLE. -/
def execHeadReady (k : Fin 16) (atNs : Nat) (s : State) : Outcome :=
  let s := advance atNs s
  let h := s.head k
  match h.freeSince with
  | none => .next s
  | some t =>
    if h.state = 0 ∧ headEnabled k s = true ∧ k.val < s.headsFitted ∧ 500_000_000 ≤ s.now - t ∧ s.now - h.lastSample < 1_000_000 then
      let s1 := record 0x3023 [k.val] (setHead k (fun h => { h with state := 1, freeSince := none, lastCode := 0x3023 }) s)
      .next (eoFollowAll false ((List.range 16).foldl (fun s j => secRestored j s) s1))
    else .next s

/-- The section named by channel 0x80 + k of word a, where every bit that R392 does not name is 0. -/
def sectionFieldsOk (a b c : Word) : Bool :=
  decide (bits 23 8 a.toNat = 0 ∧ b = 0 ∧ c = 0)

/-- A section command as it reaches the feedback region; a channel that names no section is refused as R435 says. -/
def sectionPost (cmd : Nat) (a b c : Word) (excess : Bool) (s : State) : State :=
  let ch := bits 7 0 a.toNat
  if ch / 16 = 8 then sectionCommand cmd (ch % 16) (sectionFieldsOk a b c) excess s
  else
    let fields := decide (bits 23 18 a.toNat = 0 ∧ bits 15 8 a.toNat = 0 ∧ b = 0 ∧ c = 0)
    raise 184 (record 0x4050 [0, if fields then 2 else 1]
      { s with fld := { s.fld with blocks := upd {} 0 (fun (k : Block) => { k with lastCode := 0x4050 }) s.fld.blocks } })

/-- SECTION_RESET (R392). -/
def execSectionReset (a b c : Word) (excess : Bool) (s : State) : Outcome := .next (sectionPost 1 a b c excess s)

/-- RESTORE (R392). -/
def execRestore (a b c : Word) (excess : Bool) (s : State) : Outcome := .next (sectionPost 2 a b c excess s)

/-- DISTURB (R392). -/
def execDisturb (a b c : Word) (s : State) : Outcome := .next (sectionPost 3 a b c false s)

/-- EO_OUTPUT_STEP (R396, R397): EOe emits one step of its pending count, no sooner than 20 MCLK cycles after the last. -/
def execEoOutputStep (e : Fin 8) (atNs : Nat) (s : State) : Outcome :=
  let s := advance atNs s
  let o := s.enc e
  let ok := match o.lastStep with | none => true | some t => decide (100 ≤ s.now - t)
  if eoEnabled e s = true ∧ encodersHeld s = false ∧ o.srcInvalid = false ∧ o.pending ≠ 0 ∧ ok = true then
    let up := decide (0 < o.pending)
    let cnt := if up then o.count + 1 else o.count - 1
    let zper : Int := cf (eoReg e 0) 31 16 s
    .next (setEnc e (fun o => { o with
      pending := if up then o.pending - 1 else o.pending + 1
      count := cnt
      phase := (if up == cbit (eoReg e 0) 14 s then o.phase + 3 else o.phase + 1) % 4
      z := decide (zper ≠ 0 ∧ cnt.fmod zper = 0)
      lastStep := some s.now }) s)
  else .next s

/-- FEEDBACK_UNCORRECTABLE_ERROR (R375): the region is reinitialised; every function starts from first use. In HOLD it is recorded alone
(R32). -/
def execFeedbackUncorrectableError (s : State) : Outcome :=
  let s1 := record 0x3060 [] s
  .next (if s.keep.mode = .hold then s1 else beginReinit 2 (feedbackFirstUse s1))

end Sys2Proof.Machine
end

