-- ==== Sys2Proof/Machine/Flags.lean ====
section
/-!
DEFINITION. What KIS computes beside results. The instruction set has no flags; it has the poison marks of R144, the register
digest of R180, the timer word of R116, and the classification of words that are no instruction (R173).
-/
namespace Sys2Proof.Machine

/-- The register digest of a pass, in Top values (R180). -/
def regDigest (p : Pass) (regs : Tab Word) : Word :=
  (List.range 31).foldl (fun d i => d ^^^ (passForm p (look (passForm p 0) (i + 1) regs)).rotateLeft (i + 1)) 0

/-- Any of the registers carries a poison mark. -/
def anyPoison (ctx : Ctx) (gs : List Nat) (s : State) : Bool := gs.any (fun g => g != 0 && poisonOf ctx g s)

/-- Elapsed time in ms of a timer started in cycle `m`, in cycle `n`, with period P (R115). -/
def elapsed (m n period : Nat) : Nat := min 16_777_215 ((n - m) * period / 100)

/-- The word TTEST returns (R116): bit 31 running, bit 24 the limit reached, bits 23:0 the elapsed time. -/
def timerWord (started : Option Nat) (n period : Nat) : Word :=
  match started with
  | none => 0
  | some m =>
    let e := elapsed m n period
    w32 (2 ^ 31 + (if e = 16_777_215 then 2 ^ 24 else 0) + e)

/-- The major opcode of a word (R136). -/
def opcodeOf (w : Word) : Nat := KisWord.op w

/-- A word that a logic core takes as an invalid encoding, but for the context errors of R162 (R137 to R139, R173). -/
def invalidLogic (w : Word) : Bool := (kisDecode { ctx := .joined 0 .top } .good w).isNone

/-- A word that a service core takes as an invalid encoding (R173 to R175, R480). -/
def invalidService (w : Word) : Bool := (kisDecode { ctx := .service 0 } .good w).isNone

/-- A word with an opcode that R479 reserves to privileged code. -/
def privilegedOp (w : Word) : Bool := decide (0x30 ≤ opcodeOf w ∧ opcodeOf w ≤ 0x35)

end Sys2Proof.Machine
end

