-- ==== Sys2Proof/Machine/Accord.lean ====
section
/-!
DEFINITION. The accord: segments and positions, the decision of the three passes, commits, the close of a segment, recovery, outvote
accounting, accord failures (R177 to R200).
-/
namespace Sys2Proof.Machine

/-! ### The lock chamber and the queues (R181 to R185) -/

/-- The segment numbered `g` of a pass. -/
def PassCtx.find (g : Nat) (P : PassCtx) : Option Segment := P.segs.find? (fun x => x.seg == g)

/-- The output of a value that a pass holds. -/
def Val.held : Val → Option BusOut
  | .out o => some o
  | .none => Option.none
  | .invalid => Option.none
  | .spoilt o => some o

/-- A value whose segment is spoilt (R144). -/
def Val.spoil : Val → Val
  | .out o => .spoilt o
  | .none => .invalid
  | .invalid => .invalid
  | .spoilt o => .spoilt o

/-- Outputs of a segment: 0 when the pass has not opened it. -/
def PassCtx.count (g : Nat) (P : PassCtx) : Nat := ((P.find g).map (fun x => x.outs.length)).getD 0

/-- The oldest segment that Base has not closed under the accord. -/
def Core.oldest (C : Core) : Nat := (C.base.segs.head?.map Segment.seg).getD C.base.seg

/-- The pending stores of a pass: the outputs of its segments that have not retired (R183). -/
def pendingOuts (C : Core) (p : Pass) : List (Nat × BusOut) :=
  ((C.pass p).segs.flatMap (fun g => if g.seg = C.oldest then g.outs.drop C.decided else g.outs)).filterMap (fun x =>
    x.2.held.map (fun o => (x.1, o)))

/-- The stores in the private queue of Heart or Base (R183). -/
def queueFill (C : Core) (p : Pass) : Nat :=
  ((pendingOuts C p).filter (fun x => match x.2 with
    | .store _ _ _ => true
    | .carry _ _ => true
    | .timer _ _ => false
    | .motion _ _ _ => false
    | .field _ _ _ => false
    | .exception _ _ _ _ => false)).length

/-- How many more outputs the pass has room for: Top in the chamber, Heart and Base in their store queues (R185). -/
def passRoom (C : Core) (p : Pass) : Nat :=
  match p with
  | .top => Config.chamberEntries - C.fill
  | .heart => Config.storeQueue - queueFill C .heart
  | .base => Config.storeQueue - queueFill C .base

/-- The pass has no room for another output (R185). -/
def passFull (C : Core) (p : Pass) : Bool := passRoom C p == 0

/-- The lead of a core (R187). -/
def Core.lead (C : Core) : Nat := C.top.seg - C.base.seg

/-! ### Outputs (R177, R178) -/

/-- The pass adds `v` to its open segment. -/
def putVal (c : Nat) (p : Pass) (v : Val) (bad : Bool) (s : State) : State :=
  setPass c p (fun P => { P with
    segs := P.segs.map (fun g => if g.seg = P.seg then
      { g with outs := g.outs ++ [(P.arch.ordinal, if g.bad || bad then v.spoil else v)], bad := g.bad || bad } else g) }) s

/-- The rest of the open segment holds no valid output (R144). -/
def spoil (c : Nat) (p : Pass) (s : State) : State :=
  setPass c p (fun P => { P with segs := P.segs.map (fun g => if g.seg = P.seg then { g with bad := true } else g) }) s

/-- What pass `P` shows at position `j` of segment `g` when Base compares it or closes the segment: its output, or none where it has made
no output by then (R180, R182). -/
def PassCtx.valAt (P : PassCtx) (g j : Nat) : Val :=
  match P.find g with
  | none => .none
  | some x =>
    match x.outs[j]? with
    | some v => v.2
    | none => if x.bad then .invalid else .none

/-- The pass goes no further in segment `g`: it has closed it, or it has stopped. -/
def PassCtx.through (P : PassCtx) (g : Nat) : Bool :=
  P.run == .excepted || P.run == .ended || (P.find g).any (fun x => x.closed) || decide (g < P.seg)

/-- The decision at one position (R190): the value two passes agree on and the pass outvoted, or no decision. -/
def decide3 {α : Type} [DecidableEq α] (ok : α → Bool) (t h b : α) : Option (α × Option Pass) :=
  if ok t ∧ t = h then (if b = t then some (t, none) else some (t, some .base))
  else if ok t ∧ t = b then some (t, some .heart)
  else if ok h ∧ h = b then some (h, some .top)
  else none

/-- A value that can agree with another: an output or none, never invalid (R180). -/
def Val.valid : Val → Bool
  | .out _ => true
  | .none => true
  | .invalid => false
  | .spoilt _ => false

/-! ### Accord failure (R194) -/

/-- Accord failure `code` of core `c` with its payload: the cluster is faulted, the snapshot of that instant is latched (R47), and the trip
path acts. -/
def accordFault (c code : Nat) (args : List Nat) (s : State) : State :=
  let s1 := record code args s
  let s2 := { s1 with seq := { s1.seq with
    faulted := s1.seq.faulted ||| BitVec.ofNat 8 (2 ^ (c / 8)), clLast := put (c / 8) code s1.seq.clLast
    lastPass := 3, lastCore := c, lastAccord := code } }
  let s3 := setCore c (fun C => { C with lastCode := code }) s2
  trip (triggerAccordSnapshot s3)

/-- An accord failure leads to HOLD. -/
def accordFailure (c code : Nat) (args : List Nat) (s : State) : State := enterHold code (accordFault c code args s)

/-! ### Commits (R101, R107, R109, R117, R172, R182) -/

/-- The object with ordinal `k` in a core's list. -/
def objAt : List ObjRun → Nat → Option (Nat × Nat)
  | [], _ => none
  | r :: rs, k => if k < r.count then some (r.first + k, r.typ) else objAt rs (k - r.count)

/-- Objects in a core's list. -/
def objCount (l : List ObjRun) : Nat := (l.map ObjRun.count).foldl (· + ·) 0

/-- A post enters a release list, or the list is full: HOLD with 0x1109 (R76, R172). -/
def postTo (motion : Bool) (c ord : Nat) (a b w : Word) (s : State) : State :=
  let C := s.core c
  let posts := if C.posts.1 = ord then C.posts else (ord, 0, 0)
  let k := if motion then posts.2.1 else posts.2.2
  let obj := ((objAt C.objs ord).map Prod.fst).getD 0
  let e : Post := { a := a, b := b, c := w, w3 := w32 (obj + 2 ^ 20 * k) }
  let full := if motion then decide (Config.releaseList ≤ s.seq.motionList.length) else decide (Config.releaseList ≤ s.seq.fieldList.length)
  if full then enterHold 0x1109 (record 0x1109 [] s)
  else
    let s1 := setCore c (fun C => { C with
      posts := if motion then (ord, posts.2.1 + 1, posts.2.2) else (ord, posts.2.1, posts.2.2 + 1) }) s
    if motion then { s1 with seq := { s1.seq with motionList := s1.seq.motionList ++ [e] } }
    else { s1 with seq := { s1.seq with fieldList := s1.seq.fieldList ++ [e] } }

/-- A committed store (R96, R107, R109, R110). -/
def commitStore (c ord : Nat) (sp : Space) (i : Nat) (v : Word) (s : State) : State :=
  match sp with
  | .stateNew => stateWrite (stateHalf i true s) v s
  | .imageOut =>
    if s.seq.outWritten.contains i then sramSet (imageOutBase + 4 * i) (imageOut i s &&& v) s
    else
      let s1 := sramSet (imageOutBase + 4 * i) v s
      { s1 with seq := { s1.seq with outWritten := i :: s1.seq.outWritten } }
  | .outbox => sramSet (outboxBase s.seq.outboxCur + 4 * i) v s
  | .scratch =>
    let s1 := sramSet (scratchAddr c i) v s
    { s1 with scratchTags := put (14_336 * c + i) (ord + 1) s1.scratchTags }
  | .stateOld => s
  | .param => s
  | .imageIn => s
  | .inbox => s

/-- A committed exception: its code is recorded, the status registers take it, and the module enters HOLD (R125, R126). -/
def commitException (c code : Nat) (pc obj : BitVec 20) (acode : BitVec 16) (typ : BitVec 8) (s : State) : State :=
  let s1 := { s with seq := { s.seq with
    excCode := code, excCore := c, excCtx := 0, excPc := pc, excObj := obj, excTyp := typ, excAcode := if code = 0x1207 then acode else 0 } }
  let s2 := setCore c (fun C => { C with lastCode := code }) s1
  enterHold code (record code ([c, pc.toNat, obj.toNat, typ.toNat] ++ (if code = 0x1207 then [acode.toNat] else [])) s2)

/-- A decided value retires (R182). -/
def commitOut (c ord : Nat) (typ : BitVec 8) (o : BusOut) (s : State) : State :=
  match o with
  | .store sp i v => commitStore c ord sp i v s
  | .carry n v => stateWrite (stateHalf n true s) v s
  | .timer t start =>
    { s with timers := upd {} t (fun T => { T with next := some (if start then some s.seq.mcc else none) }) s.timers }
  | .motion a b w => postTo true c ord a b w s
  | .field a b w => postTo false c ord a b w s
  | .exception code pc obj acode => commitException c code pc obj acode typ s

/-! ### Outvotes (R192, R198) -/

def passCode : Pass → Nat
  | .top => 0 | .heart => 1 | .base => 2

def Core.hist (p : Pass) (C : Core) : List Nat := match p with | .top => C.histTop | .heart => C.histHeart | .base => C.histBase

/-- An outvote of pass `p` in segment `g` is recorded and counted; the core is to be retired when it is the L-th within the window. -/
def countOutvote (c : Nat) (p : Pass) (g : Nat) (s : State) : State :=
  let code := match p with | .base => 0x1300 | .heart => 0x1301 | .top => 0x1302
  let C := s.core c
  let before := (C.hist p).filter (fun m => decide (s.seq.mcc + 1 ≤ m + s.seq.window))
  let retire := decide (s.seq.limit ≤ before.length + 1)
  let h := (s.seq.mcc :: C.hist p).take s.seq.limit
  let s1 := setCore c (fun C => { C with
    histTop := if p = .top then h else C.histTop
    histHeart := if p = .heart then h else C.histHeart
    histBase := if p = .base then h else C.histBase
    outTotal := sat 0xFFFF_FFFF (C.outTotal + 1), retiring := C.retiring || (retire && !C.retired)
    retireBy := if retire && !C.retired && !C.retiring then (passCode p, g) else C.retireBy, lastCode := code }) s
  let s2 := { s1 with seq := { s1.seq with
    outvotes := s1.seq.outvotes + 1, clLast := put (c / 8) code s1.seq.clLast
    lastPass := passCode p, lastCore := c, lastAccord := code
    undos := if p = .top then sat 0xFFFF_FFFF (s1.seq.undos + 1) else s1.seq.undos } }
  raise 20 (record code [c, passCode p, g, s2.seq.mcc % 2 ^ 32] s2)

/-! ### Recovery (R195 to R197) -/

/-- A checkpoint of pass `q` in the register form of pass `p`. -/
def convertArch (q p : Pass) (A : Arch) : Arch :=
  { A with regs := if passForm q 0 = passForm p 0 then A.regs else A.regs.map (fun e => (e.1, passForm p (passForm q e.2))) }

/-- Pass `P` begins segment `g + 1` from checkpoint `A` at `pc`; what it did after segment `g` is discarded. Restoration takes 6 CCLK
cycles. -/
def PassCtx.restore (g now : Nat) (A : Arch) (pc : BitVec 20) (P : PassCtx) : PassCtx :=
  { P with
    arch := { A with pc := pc }, run := .running, stall := .none, seg := g + 1
    segs := P.segs.filter (fun x => decide (x.seg ≤ g)) ++ [{ seg := g + 1 }]
    ckpts := P.ckpts.filter (fun k => decide (k.1 ≤ g))
    slots := P.slots.filter (fun k => decide (k.1 ≤ g)), nextSlot := max P.nextSlot (now + 6), late := none
    poisoned := P.poisoned.filter (fun k => decide (k.1 ≤ g)) }

def PassCtx.ckpt (g : Nat) (P : PassCtx) : Arch := ((P.ckpts.find? (fun k => k.1 == g)).map Prod.snd).getD P.arch

/-- A word is rewritten: what the scrub had counted against it is gone (R28, R197). -/
def renewWord (a : Nat) (v : Word) (s : State) : State :=
  let s1 := sramSet a v s
  { s1 with seq := { s1.seq with worn := s1.seq.worn.filter (fun x => x != a), scrubHits := del a s1.seq.scrubHits } }

/-- The private words that pass `p` found uncorrectable in segment `g` are rewritten (R197). -/
def rewritePoisoned (c : Nat) (p : Pass) (g : Nat) (s : State) : State :=
  let donor : Pass := if p = .top then .heart else .top
  (((s.core c).pass p).poisoned.filter (fun k => k.1 == g)).foldl (fun s k =>
    match k.2.1 with
    | .stateOld => renewWord (stateAddr p k.2.2) (stateForm p (stateRead donor k.2.2 s)) s
    | .stateNew => renewWord (stateAddr p k.2.2) (stateForm p (stateRead donor k.2.2 s)) s
    | .param => if p = .heart then renewWord (paramAddr .heart k.2.2) (~~~(paramRead .top k.2.2 s)) s else s
    | .imageIn => s
    | .inbox => s
    | .imageOut => s
    | .outbox => s
    | .scratch => s) s

/-- Recovery of pass `p` at the close of segment `g`, whose voted next PC is `pc` (R195). -/
def recover (c : Nat) (p : Pass) (g : Nat) (pc : BitVec 20) (s : State) : State :=
  let C := s.core c
  let now := s.cclk
  let s1 := match p with
    | .base => setPass c .base (PassCtx.restore g now (convertArch .top .base (C.top.ckpt g)) pc) s
    | .heart => setPass c .heart (PassCtx.restore g now (convertArch .top .heart (C.top.ckpt g)) pc) s
    | .top =>
      let A := C.heart.ckpt g
      let s1 := setPass c .top (PassCtx.restore g now (convertArch .heart .top A) pc) s
      let s2 := setPass c .heart (PassCtx.restore g now A pc) s1
      if C.base.seg = g + 1 ∧ C.base.count (g + 1) = 0 then s2
      else setPass c .base (PassCtx.restore g now (C.base.ckpt g) pc) s2
  rewritePoisoned c p g s1

/-- The outvoted pass of a segment that ENDC closed does not resume: it has ended (R197). -/
def endPass (c : Nat) (p : Pass) (g : Nat) (s : State) : State :=
  setPass c p (fun P => { P with
    run := .ended, stall := .none, seg := g + 1, segs := P.segs.filter (fun x => decide (x.seg ≤ g)) ++ [{ seg := g + 1 }] }) s

/-! ### The close of a segment (R182, R191, R192) -/

/-- The close record that a pass shows for segment `g` as Base closes it: none where it has not closed it by then, or its record is invalid. -/
def PassCtx.closeAt (P : PassCtx) (g : Nat) : Option CloseRec :=
  match P.find g with
  | some x => if x.closed && !x.bad then x.record else none
  | none => none

/-- Segment `g` is closed for the three passes: its entries retire and its checkpoints of the segment before are released. -/
def dropSegment (c g : Nat) (s : State) : State :=
  let f := fun (P : PassCtx) => { P with
    segs := P.segs.filter (fun x => decide (g < x.seg)), ckpts := P.ckpts.filter (fun k => decide (g ≤ k.1))
    slots := P.slots.filter (fun k => decide (g < k.1)), poisoned := P.poisoned.filter (fun k => decide (g < k.1)) }
  setCore c (fun C => { C with top := f C.top, heart := f C.heart, base := f C.base, decided := 0, outvoted := [] }) s

/-- Base closes segment `g` with close records `t`, `h`, `b`. -/
def closeSegment (c g : Nat) (t h b : Option CloseRec) (s : State) : State :=
  let C := s.core c
  match decide3 Option.isSome t h b with
  | none => accordFailure c 0x1311 [c, 3, g, s.seq.mcc % 2 ^ 32, C.decided] s
  | some (v, out) =>
    let set := (C.outvoted ++ out.toList).eraseDups
    let pc := (v.map CloseRec.nextPc).getD 0
    let ended := [C.top, C.heart, C.base].any (fun P => (P.find g).any (fun x => x.endc && x.record == v))
    match set with
    | [] => dropSegment c g s
    | [p] =>
      let s1 := countOutvote c p g s
      dropSegment c g (if ended then rewritePoisoned c p g (endPass c p g s1) else recover c p g pc s1)
    | _ :: _ :: _ => accordFailure c 0x1312 [c, 3, g, s.seq.mcc % 2 ^ 32] s

/-! ### Settling -/

/-- Base's progress decides: it has compared position `j` of segment `g`, or it goes no further there. A Base that an exception has stopped
closes nothing; the accord then waits until Top and Heart are through the segment (R124, R182, R192). -/
def baseReached (C : Core) (g j : Nat) : Bool :=
  decide (j < C.base.count g) || (C.base.find g).any (fun x => x.closed)
    || (C.base.run == .excepted && C.top.through g && C.heart.through g)

/-- Position `j` of Base's oldest open segment `g` is decided, and what is agreed on retires (R182, R190). -/
def decidePosition (c g j : Nat) (s : State) : State :=
  let C := s.core c
  match decide3 Val.valid (C.top.valAt g j) (C.heart.valAt g j) (C.base.valAt g j) with
  | none => accordFailure c 0x1310 [c, 3, g, s.seq.mcc % 2 ^ 32, j] s
  | some (v, out) =>
    let s1 := setCore c (fun C => { C with decided := C.decided + 1, outvoted := C.outvoted ++ out.toList }) s
    let from_ := if out = some .top then C.heart else C.top
    let ord := (((from_.find g).bind (fun x => x.outs[j]?)).map Prod.fst).getD 0
    match v with
    | .out o => commitOut c ord from_.arch.typ o s1
    | .none => s1
    | .invalid => s1
    | .spoilt _ => s1

/-- One step of the accord of core `c`: the next position of Base's oldest open segment, or its close; `none` when Base has not got there. -/
def settleStep (c : Nat) (s : State) : Option State :=
  let C := s.core c
  let g := C.oldest
  let j := C.decided
  if C.base.segs = [] ∨ baseReached C g j = false then none
  else if j < max (C.top.count g) (max (C.heart.count g) (C.base.count g)) then some (decidePosition c g j s)
  else some (closeSegment c g (C.top.closeAt g) (C.heart.closeAt g) (C.base.closeAt g) s)

/-- The accord goes on while it can and the sequencer runs. -/
def settleN (c : Nat) : Nat → State → State
  | 0, s => s
  | n + 1, s =>
    if s.seq.phase ≠ .evaluate then s
    else match settleStep c s with
      | none => s
      | some s1 => settleN c n s1

/-- The accord of core `c` after an output or a close: no more steps than it has positions and segments. -/
def settle (c : Nat) (s : State) : State :=
  let C := s.core c
  let n := fun (P : PassCtx) => (P.segs.map (fun g => g.outs.length + 1)).foldl (· + ·) 0
  settleN c (n C.top + n C.heart + n C.base + 1) s

/-- A core is done: its passes have ended and its chamber is empty (R75). -/
def Core.done (C : Core) : Bool :=
  let f := fun (P : PassCtx) => P.run == .ended && P.segs.all (fun g => !g.closed && g.outs.isEmpty)
  f C.top && f C.heart && f C.base

end Sys2Proof.Machine
end

