-- ==== Sys2Proof/Machine/Issue.lean ====
section
/-!
DEFINITION. Issuing an instruction: the slot of the pass, its stalls, the PC range, the weight check, and how an exception is raised in
each context (R27, R113, R124 to R126, R141 to R144, R185 to R187, R477 to R489).
-/
namespace Sys2Proof.Machine

/-! ### Exceptions -/

/-- A pass raises an exception and stops issuing (R124, R125); with poisoned operands it makes no valid output (R144). -/
def raiseJoined (c : Nat) (p : Pass) (code : Nat) (acode : BitVec 16) (pois : Bool) (s : State) : State :=
  let A := ((s.core c).pass p).arch
  let s1 := putVal c p (.out (.exception code A.pc A.obj acode)) pois s
  settle c (setPass c p (fun P => { P with run := .excepted }) s1)

/-- A SPLIT context stops until the next cycle; 0x1210, event source 19 (R126). -/
def raiseSplit (c k code : Nat) (acode : BitVec 16) (s : State) : State :=
  let pc := (s.split c k).pc
  let s1 := { s with seq := { s.seq with
    excCode := code, excCore := c, excCtx := k + 1, excPc := pc, excObj := BitVec.ofNat 20 (4 * c + k), excTyp := 0
    excAcode := if code = 0x1207 then acode else 0 } }
  raise 19 (record 0x1210 [code, c, k, pc.toNat] (setSplit c k (fun X => { X with run := .excepted }) s1))

/-- The exception of a context: `code` in a logic core, `svc` in a service core. -/
def raiseIn (ctx : Ctx) (code svc : Nat) (acode : BitVec 16) (pois : Bool) (s : State) : State :=
  match ctx with
  | .joined c p => raiseJoined c p code acode pois s
  | .split c k => raiseSplit c k code acode s
  | .service c => svcException c svc 0 (s.svcCore c).pc s

/-- An invalid encoding (R173). -/
def raiseInvalid (ctx : Ctx) (s : State) : State := raiseIn ctx 0x1200 0x8100 0 false s

/-! ### Slots of a pass (R27, R142, R186) -/

def passIndex : Pass → Nat
  | .top => 0 | .heart => 1 | .base => 2

/-- The first CCLK cycle from `n` on that is a slot of pass `p`. -/
def alignSlot (p : Pass) (n : Nat) : Nat := n + (passIndex p + 3 - n % 3) % 3

/-- The slot an instruction that reads `reads` takes: the next one, or the one after when it reads a result that is not ready. -/
def slotOf (p : Pass) (reads : List Nat) (P : PassCtx) (s : State) : Nat :=
  let a := alignSlot p (max s.cclk P.nextSlot)
  if decide (a = alignSlot p P.nextSlot) && P.late.any (fun r => reads.contains r) then a + 3 else a

/-- The pass before in the order Top, Heart, Base. -/
def Core.before (p : Pass) (C : Core) : Option PassCtx := match p with | .top => none | .heart => some C.top | .base => some C.heart

/-- The pass may issue its next slot at CCLK cycle `t` under the skew of R186. A pass that has stopped holds no other back. -/
def skewMet (p : Pass) (t : Nat) (C : Core) : Bool :=
  match C.before p with
  | none => true
  | some Q =>
    match Q.slots[(C.pass p).slots.length]? with
    | some x => decide (x.2 + Config.skewCycles ≤ t)
    | none => Q.run == .excepted || Q.run == .ended

/-- A pass of core `c` runs: the cycle evaluates, the cluster is JOINED, the core is in service, and the pass has not stopped. -/
def passRuns (c : Nat) (p : Pass) (s : State) : Bool :=
  s.seq.phase == .evaluate && clusterMode (c / 8) s == 0 && !(s.core c).retired && ((s.core c).pass p).run == .running

def setStall (c : Nat) (p : Pass) (x : Stall) (s : State) : State := setPass c p (fun P => { P with stall := x }) s

/-- `n` issue slots are used from CCLK cycle `t` on, counted to the object's weight when `counted`. -/
def useSlots (c : Nat) (p : Pass) (t n : Nat) (counted : Bool) (s : State) : State :=
  let s1 := { s with time := { s.time with t6 := max s.time.t6 (5 * t) } }
  setPass c p (fun P => { P with
    slots := P.slots ++ (List.range n).map (fun i => (P.seg, t + 3 * i)), nextSlot := t + 3 * n, late := none
    arch := if counted then { P.arch with weight := P.arch.weight + n } else P.arch }) s1

/-- The issue of an instruction in a pass: stalls first, then the PC range, then the weight, then the instruction `k`. The weight is that of
all its `slots` slots, of which it uses `used` now. An exception of a word that cannot be corrected, or with poisoned operands, is no valid
output (R144). -/
def issueJoined (c : Nat) (p : Pass) (slots used : Nat) (reads : List Nat) (closes bad : Bool) (k : State → State) (s : State) : State :=
  let C := s.core c
  let P := C.pass p
  if !passRuns c p s || P.stall != .none then s
  else if passFull C p then setStall c p (if p = .top then .chamber else .queue) s
  else
    let t := slotOf p reads P s
    let inProg := decide (P.arch.pc.toNat < s.img.progLen)
    let inObj := P.arch.inObject
    if !skewMet p t C then setStall c p .skew s
    else if closes && inProg && p == .top && decide (s.seq.depth ≤ C.lead) then setStall c p .depth s
    else if !inProg then raiseJoined c p 0x1206 0 false (useSlots c p t 1 false s)
    else
      let excess := inObj && decide ((typeEntry P.arch.typ.toNat s).weight < P.arch.weight + slots)
      if excess then raiseJoined c p 0x1205 0 (bad || reads.any (fun g => g != 0 && P.arch.poison.contains g)) (useSlots c p t 1 false s)
      else
        let s1 := useSlots c p t used inObj s
        k (if bad then spoil c p s1 else s1)

/-- A SPLIT context runs from EVALUATE, which starts it, until ENDC, an exception or the next CAPTURE stops it (R123). -/
def splitRuns (c k : Nat) (s : State) : Bool := clusterMode (c / 8) s == 1 && (s.split c k).run == .running

def issueSplit (c j : Nat) (k : State → State) (s : State) : State :=
  if !splitRuns c j s then s
  else if s.img.progLen ≤ (s.split c j).pc.toNat then raiseSplit c j 0x1206 0 s
  else k s

/-- A service core runs: it is released and does not wait. -/
def svcRuns (c : Nat) (s : State) : Bool := (s.svcCore c).released && !s.svc.held && !(s.svcCore c).waiting

/-- The issue of an instruction in a service core: a presented request is claimed first, the watchdog runs from the first instruction,
the fetch is checked. -/
def issueService (c : Nat) (bad : Bool) (k : State → State) (s : State) : State :=
  if !(s.svcCore c).released || s.svc.held then s
  else
    let s0 := claimPresented c s
    if (s0.svcCore c).waiting then s0
    else
      let s1 := setSvc c (fun q => { q with eoiJust := false, eretJust := 0, wdStart := some (q.wdStart.getD s0.now) }) s0
      let f := mpuAllows c (s1.svcCore c).priv 2 (4 * (s1.svcCore c).pc) s1
      if !f.1 then svcException c 0x8102 0 (s1.svcCore c).pc f.2
      else if bad then svcFatalFree c f.2
      else k f.2

/-- The issue of an instruction in any context. -/
def issueAs (i : Issue) (slots : Nat) (reads : List Nat) (closes : Bool) (k : State → State) (s : State) : State :=
  match i.ctx with
  | .joined c p => issueJoined c p slots slots reads closes i.fetchBad k s
  | .split c j => issueSplit c j k s
  | .service c => issueService c i.fetchBad k s

/-- An instruction that closes no segment. -/
def issue (i : Issue) (slots : Nat) (reads : List Nat) (k : State → State) (s : State) : State := issueAs i slots reads false k s

/-! ### Results -/

/-- `rd` takes the Top value `v`, poisoned where an operand is; the next instruction follows. -/
def writeBack (ctx : Ctx) (rd : Nat) (v : Word) (pois : Bool) (s : State) : State := stepPc ctx (setReg ctx rd v pois s)

/-- The result of latency 2 is kept back for one slot (R142). -/
def keepLate (ctx : Ctx) (rd : Nat) (s : State) : State :=
  match ctx with
  | .joined c p => setPass c p (fun P => { P with late := some rd }) s
  | .split _ _ => s
  | .service _ => s

/-- An instruction that computes `rd` from the Top values of registers. -/
def compute (i : Issue) (rd : Nat) (reads : List Nat) (slots : Nat) (late : Bool) (f : (Nat → Word) → Word) (s : State) : State :=
  issue i slots reads (fun s =>
    let s1 := writeBack i.ctx rd (f (fun g => regOf i.ctx g s)) (anyPoison i.ctx reads s) s
    if late then keepLate i.ctx rd s1 else s1) s

/-- The open segment of a pass holds no valid output any more (R144); the other contexts have no accord. -/
def spoilIn (ctx : Ctx) (s : State) : State :=
  match ctx with
  | .joined c p => spoil c p s
  | .split _ _ => s
  | .service _ => s

/-- A compare-and-branch (R151, R152); on a poisoned operand the segment holds no valid output any more (R144). -/
def branch (i : Issue) (reads : List Nat) (d : Word) (taken : (Nat → Word) → Bool) (s : State) : State :=
  issue i 1 reads (fun s =>
    let s1 := if anyPoison i.ctx reads s then spoilIn i.ctx s else s
    if taken (fun g => regOf i.ctx g s) then setPc i.ctx (branchTarget i.ctx d s) s1 else stepPc i.ctx s1) s

/-! ### Closing a segment and walking the list (R159 to R163, R179, R195) -/

/-- The pass closes its open segment: the close record, the next segment, and the checkpoint of `f` applied to its registers, which go
on at `pc`. -/
def closeOpen (c : Nat) (p : Pass) (endc : Bool) (pc : BitVec 20) (f : Arch → Arch) (s : State) : State :=
  let P := (s.core c).pass p
  let g := P.seg
  let r : Option CloseRec :=
    if P.arch.poison = [] then some { count := P.count g, nextPc := pc, obj := P.arch.obj, digest := regDigest p P.arch.regs } else none
  let A := { f P.arch with pc := pc }
  let ks := P.ckpts ++ [(g, A)]
  let s1 := setPass c p (fun P => { P with
    arch := A, run := if endc then .ended else P.run, seg := g + 1, ckpts := ks.drop (ks.length - 5)
    segs := P.segs.map (fun x => if x.seg = g then { x with closed := true, record := r, endc := endc } else x) ++ [{ seg := g + 1 }] }) s
  settle c (setCore c (fun C => { C with
    segTop := if p = .top then C.segTop + 1 else C.segTop, segBase := if p = .base then C.segBase + 1 else C.segBase }) s1)

/-- The registers at the start of an object's evaluation (R90). -/
def Arch.enter (k n t : Nat) (A : Arch) : Arch :=
  { A with regs := [], poison := [], obj := BitVec.ofNat 20 n, typ := BitVec.ofNat 8 t, place := .object k, weight := 0, stored := [] }

/-- The registers after the last object. -/
def Arch.leave (A : Arch) : Arch := { A with regs := [], poison := [], obj := 0, typ := 0, place := .listEnd, weight := 0, stored := [] }

end Sys2Proof.Machine
end

