-- ==== Sys2Proof/Machine/MotionOps.lean ====
section
/-!
DEFINITION. The motion engine's shared operations: configuration, interpolation, ramps, posts, stops and runs (R325 to R363).
Setpoints are in 1/65,536 count, velocities in Q16.16 counts/s.
-/
namespace Sys2Proof.Machine

/-! ### Configuration of an axis -/

def axKind (n : Nat) (s : State) : Nat := cf (axReg n 0) 1 0 s
def axMs (n : Nat) (s : State) : Nat := cf (axReg n 0) 7 4 s
def axFb (n : Nat) (s : State) : Nat := cf (axReg n 0) 11 10 s
def axRegMode (n : Nat) (s : State) : Nat := cf (axReg n 0) 13 12 s
def axShift (n : Nat) (s : State) : Int := signed 4 (cf (axReg n 0) 19 16 s)
def axVmax (n : Nat) (s : State) : Nat := cf (axReg n 8) 15 0 s
def axVrev (n : Nat) (s : State) : Nat := cf (axReg n 8) 31 16 s
def axVup (n : Nat) (s : State) : Nat := cf (axReg n 0xC) 15 0 s
def axVdn (n : Nat) (s : State) : Nat := cf (axReg n 0xC) 31 16 s
def axAmax (n : Nat) (s : State) : Nat := (ctlGet (axReg n 0x10) s).toNat
def axAstop (n : Nat) (s : State) : Nat := (ctlGet (axReg n 0x14) s).toNat
def axAobs (n : Nat) (s : State) : Nat := (ctlGet (axReg n 0x18) s).toNat
def axImax (n : Nat) (s : State) : Nat := cf (axReg n 0x1C) 15 0 s
def axIhold (n : Nat) (s : State) : Nat := cf (axReg n 0x1C) 31 16 s
def axDrev (n : Nat) (s : State) : Nat := (ctlGet (axReg n 0x28) s).toNat
def axEnv (n : Nat) (s : State) : Nat := cf (axReg n 0x2C) 15 0 s
def axBrake (n : Nat) (s : State) : Nat := cf (axReg n 0x2C) 23 16 s
def axVhome (n : Nat) (s : State) : Nat := cf (axReg n 0x30) 31 16 s
def axHomeDio (n : Nat) (s : State) : Nat := cf (axReg n 0x30) 6 0 s
def axObsDio (n : Nat) (s : State) : Nat := cf (axReg n 0x20) 22 16 s
def axHtrav (n : Nat) (s : State) : Nat := (ctlGet (axReg n 0x38) s).toNat
def axGain (n g : Nat) (s : State) : Int := ((ctlGet (axReg n (0x40 + 4 * g)) s).toNat : Int)
def axModel (n m : Nat) (s : State) : Int := ((ctlGet (axReg n (0x50 + 4 * m)) s).toNat : Int)
def grpReg (g : Nat) : Nat := 0x0109_0000 + 0x10 * g
def carrierN (g : Nat) (s : State) : Nat := cf (grpReg g) 13 0 s
def grpFaulted (g : Nat) (s : State) : Bool := s.mot.sdFault.getLsbD g

/-- DIO channel `d` (D0 to D95) is fitted, or 127 for none. -/
def dioFitted (d : Nat) (s : State) : Bool := decide (d = 127 ∨ d < 24 * s.blocksFitted)

/-- The level of D`d` in the latest field-link frame that the controller holds (R334). -/
def dioLevel (d : Nat) (s : State) : Bool :=
  match (look ({} : Block) (d / 24) s.fld.blocks).frame with
  | none => false
  | some f => (look 0 0 f.words).getLsbD (d % 24)

/-- The checks of R342 that are about the axis and its configuration. -/
def enableConfigOk (n : Nat) (s : State) : Bool :=
  let g := n / 8
  let sd := cf (grpReg g) 19 16 s
  let ok := fun v => decide (1 ≤ v ∧ v ≤ axVmax n s)
  decide (n < s.axesFitted) && !grpFaulted g s
  && (axKind n s == 1 || axKind n s == 2) && axRegMode n s != 3 && axFb n s != 3 && decide (axMs n s ≤ 8)
  && cf (grpReg g) 21 20 s != 3 && !decide (5 ≤ sd ∧ sd ≤ 7)
  && decide (carrierN g s % 2 = 0 ∧ 3126 ≤ carrierN g s ∧ carrierN g s ≤ 12500)
  && (axKind n s != 2 || (axFb n s != 0 && axMs n s == 0 && decide (axShift n s = 0)
      && (axFb n s != 1 || decide (6 ≤ cf (axReg n 4) 15 0 s))))
  && (axFb n s != 2 || axKind n s == 2)
  && (axFb n s == 0 || (chanValid n s && chanMode n s == axFb n s))
  && decide (1 ≤ axVmax n s ∧ axVmax n s ≤ 32767) && ok (axVrev n s) && ok (axVhome n s)
  && (axRegMode n s != 0 || decide (0 < axVdn n s ∧ axVdn n s < axVup n s ∧ axVup n s ≤ axVmax n s))
  && decide (1 ≤ axAmax n s ∧ 1 ≤ axAstop n s ∧ 1 ≤ axAobs n s)
  && decide (axImax n s ≤ 29000 ∧ axIhold n s ≤ axImax n s ∧ axEnv n s ≤ axImax n s)
  && dioFitted (axObsDio n s) s && dioFitted (axHomeDio n s) s

/-- R342 in RUN and DEGRADED. -/
def enableOk (n : Nat) (s : State) : Bool :=
  (s.keep.mode == .run || s.keep.mode == .degraded) && !s.mot.silent && enableConfigOk n s

/-! ### Position and rounding -/

/-- x × 2^k, rounded towards minus infinity for a negative k. -/
def shiftInt (x k : Int) : Int := if 0 ≤ k then x * 2 ^ k.toNat else x.fdiv (2 ^ (-k).toNat : Nat)

/-- The count of the feedback channel in axis counts, before the origin (R336). -/
def feedbackPos (n : Nat) (count : Word) (s : State) : Word := wInt (shiftInt (signed 32 count.toNat) (axShift n s))

/-- The actual position (R336). -/
def actualPos (n : Nat) (s : State) : Word := feedbackPos n (s.chan n).count s - (s.axis n).origin

/-- The actual position is valid: the axis has feedback and its channel is valid. -/
def actualValid (n : Nat) (s : State) : Bool := axFb n s != 0 && chanValid n s

/-- Actual velocity in Q16.16, 0 while the speed is not valid. -/
def actualVel (n : Nat) (s : State) : Int :=
  if axFb n s ≠ 0 ∧ speedValid n s = true then shiftInt (chanSpeed n s * 256) (axShift n s) else 0

/-- The following error: actual position minus setpoint, signed modulo 2^32 (R335). -/
def followErr (a : Axis) : Int := signed 32 (a.act - setpointWord a.p).toNat

/-- Where the axis is, in counts: the actual position, or the setpoint of a stepper without feedback. -/
def axisPos (n : Nat) (s : State) : Int :=
  let a := s.axis n
  if actualValid n s then signed 32 (actualPos n s).toNat else a.p.fdiv 65536

/-! ### Segments (R344 to R346) -/

/-- Word `w` of segment `k` of axis `n`. -/
def segWord (n k w : Nat) (s : State) : Nat := (ctlGet (0x0110_0000 + 0x1000 * n + 0x10 * k + 4 * w) s).toNat
def segDur (n k : Nat) (s : State) : Nat := bits 23 0 (segWord n k 0 s)
def segArm (n k : Nat) (s : State) : Bool := bitAt 24 (segWord n k 0 s)
def segEnd (n k : Nat) (s : State) : Int := signed 32 (segWord n k 1 s)
def segVel (n k : Nat) (s : State) : Int := signed 32 (segWord n k 2 s)
def segEnv (n k : Nat) (s : State) : Nat := bits 15 0 (segWord n k 3 s)

/-- The layout rules of R344. -/
def segLayoutOk (n k : Nat) (s : State) : Bool :=
  decide (1 ≤ segDur n k s ∧ bits 31 25 (segWord n k 0 s) = 0 ∧ (segVel n k s).natAbs ≤ axVmax n s * 65536
    ∧ bits 31 16 (segWord n k 3 s) = 0 ∧ segEnv n k s ≤ axImax n s)

/-- A and B of the velocity A s² + B s + v0 of a segment, times its duration in µs: D is its length in 1/65,536 count. -/
def segA (D v0 v1 : Int) (us : Nat) : Int := -6 * D * 1_000_000 + 3 * (v0 + v1) * us
def segB (D v0 v1 : Int) (us : Nat) : Int := 6 * D * 1_000_000 - (4 * v0 + 2 * v1) * us

/-- R346: the peak velocity and the peak acceleration, scaled by num / den, lie within v_max and a_max. -/
def segPeaksOk (D v0 v1 : Int) (us num den vmax amax : Nat) : Bool :=
  let A := segA D v0 v1 us
  let B := segB D v0 v1 us
  let V := vmax * 65536
  let inside := decide (A ≠ 0 ∧ 0 < (if 0 < A then -B else B) ∧ (if 0 < A then -B else B) < 2 * (A.natAbs : Int))
  decide (v0.natAbs * num ≤ V * den ∧ v1.natAbs * num ≤ V * den)
  && (!inside || decide ((4 * A * us * v0 - B * B).natAbs * num ≤ V * (4 * A * us).natAbs * den))
  && decide (B.natAbs * 1_000_000 * num ≤ amax * 65536 * us * us * den)
  && decide ((2 * A + B).natAbs * 1_000_000 * num ≤ amax * 65536 * us * us * den)

/-- Segment `k` of axis `n` from (p0, v0), judged against the limits of that axis (R346). -/
def segEnterOk (n k : Nat) (p0 v0 : Int) (s : State) : Bool :=
  segPeaksOk (segEnd n k s * 65536 - p0) v0 (segVel n k s) (segDur n k s) 1 1 (axVmax n s) (axAmax n s)

/-- Setpoint, velocity and acceleration (counts/s²) at `t` (0.5 µs) of a segment of `us` µs (R345). -/
def segAt (p0 v0 p1 v1 : Int) (us t : Nat) (s : State) : (Int × Int × Int) × State :=
  let T : Int := ((2 * us : Nat) : Int)
  let t : Int := t
  let A := segA (p1 - p0) v0 v1 us
  let B := segB (p1 - p0) v0 v1 us
  let N := 1_000_000 * ((2 * t ^ 3 - 3 * t ^ 2 * T + T ^ 3) * p0 + (3 * t ^ 2 * T - 2 * t ^ 3) * p1)
    + us * ((t ^ 3 - 2 * t ^ 2 * T + t * T ^ 2) * v0 + (t ^ 3 - t ^ 2 * T) * v1)
  let p := divFree N (1_000_000 * (2 * us) ^ 3) s
  let v := divFree (A * t ^ 2 + B * t * T) (us * (2 * us) ^ 2) p.2
  let a := divFree ((2 * A * t + B * T) * 1_000_000) (us * us * (2 * us) * 65536) v.2
  ((p.1, v0 + v.1, a.1), a.2)

/-! ### Ramps, velocity moves, reversal -/

/-- A ramp has come to rest at tick `k`. -/
def Ramp.done (r : Ramp) (k : Nat) : Bool := decide (r.v0.natAbs * 2_000_000 * r.den ≤ r.acc * 65536 * k)

/-- Setpoint and velocity of a ramp at tick `k` (0.5 µs). -/
def rampAt (r : Ramp) (k : Nat) (s : State) : (Int × Int) × State :=
  let sg : Int := if r.v0 < 0 then -1 else 1
  let m := r.v0.natAbs
  if r.done k then
    let x := divFree (sg * (m * m * r.den : Nat)) (2 * (r.acc * 65536)) s
    ((r.p0 + (if r.acc = 0 then 0 else x.1), 0), x.2)
  else
    let x := divFree (sg * ((m * r.den * k * 4_000_000 : Nat) - (r.acc * 65536 * k * k : Nat) : Int)) (8_000_000_000_000 * r.den) s
    let v := divFree (sg * ((m * r.den * 2_000_000 : Nat) - (r.acc * 65536 * k : Nat) : Int)) (2_000_000 * r.den) x.2
    ((r.p0 + x.1, v.1), v.2)

/-- One servo period of a move whose velocity approaches `target` at `acc` counts/s². -/
def velStep (a : Axis) (target : Int) (acc : Nat) (s : State) : (Int × Int) × State :=
  let d := divFree ((acc * 512 : Nat) : Int) 125 s
  let v := if a.v < target then min target (a.v + d.1) else max target (a.v - d.1)
  let x := divFree (a.v + v) 32_000 d.2
  ((a.p + x.1, v), x.2)

/-- The move back of d_rev counts by a_obs and v_rev at tick `k` (R356): distance, speed, done. All from rest. -/
def revAt (drev vrev aobs k : Nat) (s : State) : (Int × Int × Bool) × State :=
  let U := 2_000_000
  if drev * aobs < vrev * vrev then
    let h := Nat.sqrt (drev * U * U / max 1 aobs)
    if k ≤ h then
      let x := divFree ((aobs * 65536 * k * k : Nat) : Int) (2 * U * U) s
      let v := divFree ((aobs * 65536 * k : Nat) : Int) U x.2
      ((x.1, v.1, false), v.2)
    else
      let r := 2 * h - k
      let x := divFree ((aobs * 65536 * r * r : Nat) : Int) (2 * U * U) s
      let v := divFree ((aobs * 65536 * r : Nat) : Int) U x.2
      ((drev * 65536 - x.1, v.1, r == 0), v.2)
  else if k * aobs ≤ vrev * U then
    let x := divFree ((aobs * 65536 * k * k : Nat) : Int) (2 * U * U) s
    let v := divFree ((aobs * 65536 * k : Nat) : Int) U x.2
    ((x.1, v.1, false), v.2)
  else if k * vrev ≤ U * drev then
    let x := divFree (65536 * ((2 * vrev * k * aobs : Nat) - (vrev * vrev * U : Nat) : Int)) (2 * U * aobs) s
    ((x.1, vrev * 65536, false), x.2)
  else
    let num := U * (drev * aobs + vrev * vrev) - k * vrev * aobs
    let x := divFree ((65536 * num * num : Nat) : Int) (2 * U * U * vrev * vrev * max 1 aobs) s
    let v := divFree ((65536 * num : Nat) : Int) (U * max 1 vrev) x.2
    ((drev * 65536 - x.1, v.1, num == 0), v.2)

/-! ### Codes, refusals, stops -/

/-- The axis records `code`: its last condition code, and the door accumulator's (R363, R460). -/
def axRecord (n code : Nat) (args : List Nat) (s : State) : State :=
  record code (n :: args) (noteAxisCode n code s)

/-- A post of axis `n` is refused with `code`; event source 87 (R341). -/
def refusePost (n code : Nat) (s : State) : State :=
  let s1 := setAxis n (fun a => { a with refused := sat 0xFFFF (a.refused + 1) }) s
  raise 87 (axRecord n code [] { s1 with mot := { s1.mot with refusedRc := sat 0xFFFF (s1.mot.refusedRc + 1) } })

/-- A post is superseded or dropped (R339, R343). -/
def dropPost (n : Nat) (s : State) : State := axRecord n 0x2012 [] s

/-- The members of the group run that axis `n` is in, or whose stop it follows, in rising order; itself alone otherwise (R351). -/
def runMembers (n : Nat) (s : State) : List Nat :=
  match (s.axis n).team with
  | some t => (List.range 32).filter (fun m => (s.axis m).team.map Team.group == some t.group)
  | none => [n]

/-- The axis whose segment table a run reads: its own, or the leader's in a group (R349). -/
def runTable (n : Nat) (r : RunState) : Nat := if r.post.group.isSome then r.leader else n

/-- The axis stops on a ramp at acc / den counts/s² from its setpoint; its run ends (R338). -/
def rampAxis (n acc den : Nat) (st : AxState) (s : State) : State :=
  setAxis n (fun a => { a with
    st := st, ramp := some { p0 := a.p, v0 := a.v, acc := acc, den := max 1 den }, run := none, reversal := none, due := {}
    stopArmed := (match a.run with | some r => r.post.armed && segArm (runTable n r) r.seg s | none => a.st == .stopping && a.stopArmed)
    stopEnv := (match a.run with | some r => segEnv (runTable n r) r.seg s | none => if a.st = .stopping then a.stopEnv else 0) }) s

/-- The leader of the run that axis `n` is in; itself alone. -/
def runLead (n : Nat) (s : State) : Nat := match (s.axis n).team with | some t => t.leader | none => n

/-- The ratio of axis `n` to the leader of its run, in magnitude; 1 alone (R349). -/
def runRatio (n : Nat) (s : State) : Nat × Nat := match (s.axis n).team with | some t => (t.num, max 1 t.den) | none => (1, 1)

/-- Members `ms` of the run led by `l` stop at the deceleration `acc` of the leader, each at its ratio (R351). -/
def stopMembers (ms : List Nat) (acc : Nat) (st : AxState) (s : State) : State :=
  ms.foldl (fun s m => rampAxis m (acc * (runRatio m s).1) (runRatio m s).2 st s) s

/-- A stop at a_stop of the axis and of the group whose run it is in (R338, R351). -/
def stopAxis (n : Nat) (s : State) : State := stopMembers (runMembers n s) (axAstop (runLead n s) s) .stopping s

/-- The other members of a group run stop when one of them coasts (R351). -/
def stopOthers (n : Nat) (s : State) : State :=
  stopMembers ((runMembers n s).filter (fun m => m != n)) (axAstop (runLead n s) s) .stopping s

/-- A group run that is held pending for group `g` is dropped for every member but `n`, for which the caller has dropped it (R338, R341,
R351). -/
def dropPending (g n : Nat) (s : State) : State :=
  (List.range 32).foldl (fun s m =>
    if m ≠ n ∧ (s.axis m).pendingRun.map RunPost.group = some (some g) then dropPost m (setAxis m (fun a => { a with pendingRun := none }) s)
    else s) s

/-- The pending run of axis `n` is dropped: for the whole group, when it is a group run. -/
def dropOwnPending (n : Nat) (s : State) : State :=
  match (s.axis n).pendingRun with
  | none => s
  | some q =>
    let s1 := dropPost n (setAxis n (fun a => { a with pendingRun := none }) s)
    match q.group with | some g => dropPending g n s1 | none => s1

/-- Axis `n` is about to coast: the other members of its group run stop, and what was pending for the group is dropped (R351). -/
def leaveGroup (n : Nat) (s : State) : State :=
  let s1 := stopOthers n s
  match (s.axis n).pendingRun.bind RunPost.group with | some g => dropPending g n s1 | none => s1

/-- A homing in progress is abandoned with `code`; event source 84 (R359). -/
def abortHoming (n code : Nat) (s : State) : State :=
  if (s.axis n).homing.isSome then raise 84 (axRecord n code [] (setAxis n (fun a => { a with homing := none }) s)) else s

/-- FAULT: ENx to 0 at once; event of the axis group (R338, R351, R460). -/
def faultAxis (n code : Nat) (s : State) : State :=
  let s1 := leaveGroup n s
  let s2 := setAxis n (Axis.coast .fault (noFeedback n s)) s1
  let s3 := { s2 with jnl := { s2.jnl with acc := upd {} n (fun (d : DoorAcc) => { d with fault := true }) s2.jnl.acc } }
  raise (80 + n / 8) (axRecord n code [] s3)

/-- DISABLED by a DISABLE or by the end of a test: ENx to 0 at once; 0x2001 with the cause (R338). -/
def disableAxis (n cause : Nat) (s : State) : State :=
  if (s.axis n).st.en then
    let s1 := leaveGroup n (abortHoming n 0x2033 s)
    axRecord n 0x2001 [cause] (setAxis n (Axis.coast .disabled (noFeedback n s)) s1)
  else s

/-! ### Starting a run -/

/-- A run counts for the door accumulator, clears the obstacle latch and sets the target (R356, R363, R460). -/
def runAccepted (n : Nat) (target : Word) (s : State) : State :=
  let s1 := setAxis n (fun a => { a with obst := false, causes := 0, target := target }) s
  { s1 with jnl := { s1.jnl with acc := upd {} n (fun (d : DoorAcc) => { d with runs := d.runs + 1 }) s1.jnl.acc } }

/-- A segment beyond the limits is not entered: the run is abandoned and the axis stops (R346). -/
def limitStop (n : Nat) (s : State) : State := axRecord n 0x2014 [] (stopAxis n s)

/-- The run starts from the setpoint and velocity of the axis; its first segment is judged by R346. -/
def startRun (n : Nat) (q : RunPost) (s : State) : State :=
  let a := s.axis n
  let s1 := setAxis n (fun a => { a with
    st := .moving, ramp := none, team := none, pendingRun := none, run := some { post := q, seg := q.first, p0 := a.p, v0 := a.v } }) s
  if segEnterOk n q.first a.p a.v s then s1 else limitStop n s1

/-- A RUN applied to an axis in HOLDING, MOVING or STOPPING (R347). -/
def applyRun (n : Nat) (q : RunPost) (s0 : State) : State :=
  let s := runAccepted n q.target s0
  let a := s.axis n
  let d := segEnd n q.first s * 65536 - a.p
  match a.st with
  | .stopping =>
    let s1 := match a.pendingRun.bind RunPost.group with | some g => dropPending g n s | none => s
    setAxis n (fun a => { a with pendingRun := some q }) s1
  | .moving =>
    if a.v = 0 then startRun n q s
    else if 0 < d * a.v ∧ segEnterOk n q.first a.p a.v s = true then startRun n q s
    else setAxis n (fun a => { a with pendingRun := some q }) (axRecord n 0x2016 [] (stopAxis n s))
  | _ => startRun n q s

/-! ### One post (R341) -/

def Post.code (q : Post) : Nat := bits 31 24 q.a.toNat
def Post.axis (q : Post) : Nat := bits 4 0 q.a.toNat

/-- First segment, count, armed and target of a RUN or GRUN. -/
def Post.run (q : Post) : RunPost :=
  { first := bits 7 0 q.b.toNat, count := if bits 15 8 q.b.toNat = 0 then 256 else bits 15 8 q.b.toNat
    armed := bitAt 16 q.b.toNat, target := q.c
    group := if q.code = 0x11 then some (bits 10 8 q.a.toNat) else none }

/-- The field rules of R341 and R344. -/
def postFieldsOk (n : Nat) (q : Post) (s : State) : Bool :=
  let a := q.a.toNat
  let b := q.b.toNat
  let zero := decide (q.b = 0 ∧ q.c = 0)
  let common := decide (bits 7 5 a = 0 ∧ bits 23 11 a = 0) && (q.code == 0x11 || bits 10 8 a == 0)
  common && (match q.code with
    | 0x01 => zero | 0x02 => zero | 0x03 => zero | 0x05 => zero
    | 0x04 => decide (b ≤ 1 ∧ q.c = 0) && axHomeDio n s != 127
    | 0x06 => decide (q.b = 0)
    | 0x10 | 0x11 =>
      let r := q.run
      decide (bits 31 17 b = 0 ∧ r.first + r.count ≤ 256)
      && ((List.range r.count).all (fun i => segLayoutOk n (r.first + i) s))
      && decide (segEnd n (r.first + r.count - 1) s = signed 32 q.c.toNat)
    | _ => false)

/-- The axis is in a group run. -/
def inGroupRun (a : Axis) : Bool := match a.run with | some r => r.post.group.isSome | none => false

/-- The homing switch reads active (R358). -/
def homeActive (n : Nat) (s : State) : Bool := dioLevel (axHomeDio n s) s == cbit (axReg n 0x30) 7 s

/-- HOME: homed := 0; step 2, or step 3 when the switch is already active (R338, R358). -/
def startHome (n : Nat) (armed : Bool) (s : State) : State :=
  let act := homeActive n s
  setAxis n (fun a => { a with
    st := .homing, homed := false
    homing := some { step := if act then 3 else 2, armed := armed, startPos := axisPos n s, switch := act } }) s

/-- The reversal of an axis in OBSTACLE ends with a stop at a_obs, or does not begin (R341, R356). -/
def endReversal (n : Nat) (s : State) : State :=
  let a := s.axis n
  setAxis n (fun a => { a with obsNoRev := true })
    (if a.reversal.isSome then rampAxis n (axAobs a.obsCfg.1 s * a.obsCfg.2.1) a.obsCfg.2.2 .obstacle s else s)

/-- A post other than GRUN is judged against the state of the axis, and applied (R341, R342). -/
def applyPost (n : Nat) (q : Post) (s : State) : State :=
  let a := s.axis n
  let took := fun s => setAxis n (fun a => { a with applied := sat 0xFFFF (a.applied + 1) }) s
  match q.code with
  | 0x01 =>
    if a.st ≠ .disabled then refusePost n 0x2010 s
    else if !enableOk n s then refusePost n 0x2060 s
    else took (setAxis n (fun a => { a with st := .enabling, goodPeriods := 0 }) s)
  | 0x02 => took (disableAxis n 0 s)
  | 0x03 =>
    match a.st with
    | .enabling => took s
    | .holding => took s
    | .moving => took (stopAxis n s)
    | .stopping =>
      took (dropOwnPending n s)
    | .homing => took (rampAxis n (axAstop n s) 1 .stopping (abortHoming n 0x2033 s))
    | .obstacle =>
      took ((runMembers n s).foldl (fun s m => endReversal m s) s)
    | _ => refusePost n 0x2010 s
  | 0x04 => if a.st = .holding then took (startHome n (bitAt 0 q.b.toNat) s) else refusePost n 0x2010 s
  | 0x05 =>
    took (setAxis n (fun a => { a with st := if a.st = .fault then .disabled else a.st, obst := false, causes := 0 }) s)
  | 0x06 =>
    if (a.st = .disabled ∨ a.st = .holding) ∧ actualValid n s = true then
      let shift := q.c - actualPos n s
      took (axRecord n 0x2034 [] (setAxis n (fun a => { a with
        origin := a.origin - shift, p := a.p + 65536 * signed 32 shift.toNat, act := q.c, homed := true }) s))
    else refusePost n 0x2010 s
  | 0x10 =>
    if inGroupRun a then refusePost n 0x2013 s
    else if a.homed = true ∧ (a.st = .holding ∨ a.st = .moving ∨ a.st = .stopping) then took (applyRun n q.run s)
    else refusePost n 0x2010 s
  | _ => refusePost n 0x2011 s

/-! ### Group runs (R349, R350) -/

/-- The valid members of CGg. -/
def groupMembers (g : Nat) (s : State) : List Nat :=
  let w := (ctlGet (0x0108_0000 + 4 * g) s).toNat
  ((List.range 4).filter (fun i => bitAt (8 * i + 7) w)).map (fun i => bits (8 * i + 4) (8 * i) w)

/-- The leader: the largest |T − s|, the lowest axis number among equals. -/
def groupLeader (targets : List (Nat × Int)) (s : State) : Nat :=
  let dist := fun (p : Nat × Int) => (p.2 * 65536 - (s.axis p.1).p).natAbs
  match targets with
  | [] => 0
  | p :: t => (t.foldl (fun best q => if dist best < dist q ∨ (dist best = dist q ∧ q.1 < best.1) then q else best) p).1

/-- The ratio of member `m` to leader `l`: T_m − s_m over T_L − s_L. -/
def groupRatio (tm tl : Int) (m l : Nat) (s : State) : Int × Int :=
  (tm * 65536 - (s.axis m).p, tl * 65536 - (s.axis l).p)

/-- Every segment of the leader's post passes R346 for every member, scaled by its ratio (R350). -/
def groupSegsOk (q : RunPost) (l : Nat) (m : Nat) (r : Int × Int) (p0 v0 : Int) (s : State) : Bool :=
  ((List.range q.count).foldl (fun (acc : Bool × Int × Int) i =>
    let k := q.first + i
    let p1 := segEnd l k s * 65536
    (acc.1 && segPeaksOk (p1 - acc.2.1) acc.2.2 (segVel l k s) (segDur l k s) r.1.natAbs r.2.natAbs (axVmax m s) (axAmax m s),
     p1, segVel l k s)) (true, p0, v0)).1

/-- The run of group `g` starts from rest: every member follows the leader's post at its ratio; with T_L = s_L it completes
at once (R349). A member whose scaled segments break its limits refuses it (R350). -/
def startGroup (g : Nat) (ms : List Nat) (post : Nat → RunPost) (s : State) : State :=
  let target := fun m => signed 32 (post m).target.toNat
  let lead := groupLeader (ms.map (fun m => (m, target m))) s
  let lq := post lead
  let ratio := fun m => groupRatio (target m) (target lead) m lead s
  let a := s.axis lead
  let rest := fun s => ms.foldl (fun s m => setAxis m (fun b => { b with st := .holding, ramp := none, team := none, pendingRun := none }) s) s
  if (ratio lead).2 = 0 then
    ms.foldl (fun s m => raise 85 (setAxis m (fun b => { b with runDone := true }) s)) (rest s)
  else if !(ms.all (fun m => groupSegsOk lq lead m (ratio m) a.p 0 s)) then ms.foldl (fun s m => refusePost m 0x2013 s) (rest s)
  else
    ms.foldl (fun s m => setAxis m (fun b => { b with
      st := .moving, ramp := none, pendingRun := none
      team := some { group := g, leader := lead, num := (ratio m).1.natAbs, den := (ratio m).2.natAbs }
      run := some { post := { lq with group := some g, target := (post m).target }, seg := lq.first, p0 := a.p, v0 := 0,
                    leader := lead, own0 := b.p, lead0 := a.p, num := (ratio m).1, den := (ratio m).2 } }) s) s

/-- The GRUNs of one release that name group `g`: by axis, the post (R349, R350). -/
def applyGroup (g : Nat) (posts : List (Nat × Post)) (s : State) : State :=
  let ms := groupMembers g s
  let named := posts.map Prod.fst
  let post := fun n => ((posts.find? (fun p => p.1 == n)).map (fun p => p.2.run)).getD
    ({ first := 0, count := 0, armed := false, target := 0 } : RunPost)
  let inGroup := fun (a : Axis) => (a.run.map (fun r => r.post.group == some g)).getD false
  let moving := ms.any (fun m => (s.axis m).st == .moving && inGroup (s.axis m))
  let stateOk := ms.all (fun m => let a := s.axis m
    a.homed && (a.st == .holding || (a.st == .moving && inGroup a)))
  let target := fun m => signed 32 (post m).target.toNat
  let lead := groupLeader (ms.map (fun m => (m, target m))) s
  let limits := moving || ms.all (fun m => decide ((groupRatio (target m) (target lead) m lead s).2 = 0)
    || groupSegsOk (post lead) lead m (groupRatio (target m) (target lead) m lead s) (s.axis lead).p 0 s)
  if !(ms.all (fun m => named.contains m)) || !(named.all (fun m => ms.contains m)) || decide (ms.length < 2)
      || !(ms.all (fun m => m / 8 == lead / 8)) || !stateOk || !limits then named.foldl (fun s n => refusePost n 0x2013 s) s
  else
    let s1 := ms.foldl (fun s m => setAxis m (fun a => { a with applied := sat 0xFFFF (a.applied + 1) })
      (runAccepted m (post m).target s)) s
    if moving then
      -- the group stops first, and starts from rest when every member has stopped
      ms.foldl (fun s m => axRecord m 0x2016 [] (setAxis m (fun a => { a with pendingRun := some (post m) }) s))
        (stopAxis (ms.headD 0) s1)
    else startGroup g ms post s1

/-! ### One release (R343) -/

/-- Is the post one of those that step 2 to 4 of R343 choose from. -/
def Post.acts (q : Post) : Bool := q.code == 0x03 || q.code == 0x04 || q.code == 0x06 || q.code == 0x10 || q.code == 0x11

/-- The posts of axis `n` in one release: what applies now, and the GRUN that is left for its group. `blocked`: a fault or an
obstacle of this servo period outranks a STOP (R339). -/
def combinePosts (n : Nat) (qs : List Post) (blocked : Bool) (s : State) : State × Option Post :=
  let bad := qs.filter (fun q => !postFieldsOk n q s)
  let good := qs.filter (fun q => postFieldsOk n q s)
  let s1 := bad.foldl (fun s _ => refusePost n 0x2011 s) s
  let s2 := (good.filter (fun q => q.code == 0x01 || q.code == 0x05)).foldl (fun s q => applyPost n q s) s1
  let acts := good.filter Post.acts
  let drops := fun (k : Nat) (s : State) => (List.range k).foldl (fun s _ => dropPost n s) s
  match good.filter (fun q => q.code == 0x02) with
  | q :: more => (drops (more.length + acts.length) (applyPost n q s2), none)
  | [] =>
    match acts.filter (fun q => q.code == 0x03) with
    | q :: _ => (if blocked then drops acts.length s2 else drops (acts.length - 1) (applyPost n q s2), none)
    | [] =>
      match acts.getLast? with
      | none => (s2, none)
      | some q =>
        let s3 := drops (acts.length - 1) s2
        if q.code = 0x11 then
          let a := s3.axis n
          -- a member that is not homed or not enabled has the whole group refused (R350)
          if a.homed = false ∨ a.st.en = false ∨ a.st = .holding ∨ a.st = .moving then (s3, some q) else (refusePost n 0x2010 s3, none)
        else (applyPost n q s3, none)

/-- The posts of one release are applied: axis by axis, then the group runs (R343, R349). -/
def applyRelease (posts : List Post) (blocked : Nat → Bool) (s : State) : State :=
  let r := (List.range 32).foldl (fun (acc : State × List (Nat × Post)) n =>
    let qs := posts.filter (fun q => q.axis == n)
    if qs = [] then acc
    else
      let c := combinePosts n qs (blocked n) acc.1
      (c.1, match c.2 with | some q => acc.2 ++ [(n, q)] | none => acc.2)) (s, [])
  (List.range 8).foldl (fun s g =>
    let ps := r.2.filter (fun p => bits 10 8 p.2.a.toNat == g)
    if ps = [] then s else applyGroup g ps s) r.1

end Sys2Proof.Machine
end

