-- ==== Sys2Proof/Machine/Motion.lean ====
section
/-!
DEFINITION. The commands of the motion region: the servo period, the transitions it finds due, posts, carrier periods, tests
(R325 to R363, R575).
-/
namespace Sys2Proof.Machine

/-! ### Transitions that a servo period finds due, each with a command of its own (R338) -/

def setDue (n : Nat) (f : AxDue → AxDue) (s : State) : State := setAxis n (fun a => { a with due := f a.due }) s

/-- The axis is at rest in HOLDING (R338). -/
def hold (n : Nat) (s : State) : State :=
  setAxis n (fun a => { a with
    st := .holding, v := 0, aSet := 0, run := none, ramp := none, team := none, reversal := none, homing := none, due := {} }) s

/-- ENABLING is over: the setpoint is the actual position; a stepper without feedback keeps its last (R338). -/
def doEnabled (n : Nat) (s : State) : State :=
  if (s.axis n).due.enabled then
    let fb := actualValid n s
    let act := signed 32 (actualPos n s).toNat
    axRecord n 0x2000 [] (setAxis n (fun a => { a with p := if fb then act * 65536 else a.p }) (hold n s))
  else s

/-- The setpoint of a run at its present tick: its leader's segment, and every member at its ratio (R345, R349). -/
def runSetpoint (n : Nat) (r : RunState) (s : State) : State :=
  let x := segAt r.p0 r.v0 (segEnd n r.seg s * 65536) (segVel n r.seg s) (segDur n r.seg s) r.tick s
  let at_ := if 2 * segDur n r.seg s ≤ r.tick then ((segEnd n r.seg s * 65536, segVel n r.seg s, x.1.2.2), s) else x
  let s1 := setAxis n (fun a => { a with p := at_.1.1, v := at_.1.2.1, aSet := at_.1.2.2, run := some r }) at_.2
  if r.post.group.isNone then s1
  else
    (runMembers n s1).foldl (fun s m =>
      if m = n then s
      else match (s.axis m).run with
        | none => s
        | some q =>
          let den := q.den.natAbs
          let num := if q.den < 0 then -q.num else q.num
          let p := divFree ((at_.1.1 - q.lead0) * num) den s
          let v := divFree (at_.1.2.1 * num) den p.2
          let a := divFree (at_.1.2.2 * num) den v.2
          setAxis m (fun b => { b with p := q.own0 + p.1, v := v.1, aSet := a.1, run := some { q with seg := r.seg } }) a.2) s1

/-- A segment's duration has expired: the next one is entered with the excess, or fails R346 (R345, R346). -/
def doSegment (n : Nat) (s : State) : State :=
  let a := s.axis n
  if !a.due.segment then s
  else
    let s1 := setDue n (fun d => { d with segment := false }) s
    match a.run with
    | none => s1
    | some r =>
      let r1 := { r with seg := r.seg + 1, tick := r.tick - 2 * segDur n r.seg s, p0 := segEnd n r.seg s * 65536, v0 := segVel n r.seg s }
      if r.post.group.isNone && !segEnterOk n r1.seg r1.p0 r1.v0 s then limitStop n s1
      else
        let s2 := runSetpoint n r1 s1
        if r1.tick < 2 * segDur n r1.seg s then s2
        else setDue n (fun d => if r1.seg + 1 < r1.post.first + r1.post.count then { d with segment := true } else { d with runEnd := true }) s2

/-- The last segment has ended: HOLDING, or a stop from a velocity that is not 0 (R338, R348). -/
def doRunEnd (n : Nat) (s : State) : State :=
  let a := s.axis n
  if !a.due.runEnd then s
  else
    let ms := runMembers n s
    let s1 := setDue n (fun d => { d with runEnd := false }) s
    if a.v = 0 then ms.foldl (fun s m => raise 85 (setAxis m (fun b => { b with runDone := true }) (hold m s))) s1
    else axRecord n 0x2015 [] (stopAxis n s1)

/-- Bridge off at the end of an aborted homing: FAULT; its code stands already (R338, R359). -/
def faultAfterStop (n : Nat) (s : State) : State :=
  let s1 := setAxis n (Axis.coast .fault (noFeedback n s)) s
  raise (80 + n / 8) { s1 with jnl := { s1.jnl with acc := upd {} n (fun (d : DoorAcc) => { d with fault := true }) s1.jnl.acc } }

/-- Step 3 of the homing begins (R358). -/
def homeStep3 (n : Nat) (h : Homing) (s : State) : State :=
  setAxis n (fun a => { a with ramp := none, homing := some { h with step := 3, stopping := false, startPos := axisPos n s } }) s

/-- A group run that is held pending starts when every member has come to rest (R350). -/
def startPending (n : Nat) (q : RunPost) (s : State) : State :=
  match q.group with
  | none => startRun n q s
  | some g =>
    let ms := groupMembers g s
    if ms.all (fun m => (s.axis m).due.stopEnd && ((s.axis m).pendingRun.map (fun r => r.group == some g)).getD false) then
      startGroup g ms (fun m => (s.axis m).pendingRun.getD q) (ms.foldl (fun s m => setDue m (fun _ => {}) s) s)
    else s

/-- The velocity setpoint has reached 0: what the stop led to (R338, R341, R356, R358, R362). -/
def doStopEnd (n : Nat) (s : State) : State :=
  let a := s.axis n
  if !a.due.stopEnd then s
  else
    let s1 := setAxis n (fun b => { b with ramp := none, v := 0, aSet := 0 }) s
    let done := setDue n (fun d => { d with stopEnd := false }) s1
    if a.abortCode.isSome then faultAfterStop n done
    else if a.testEnding then disableAxis n 1 done
    else match a.st with
      | .homing =>
        (match a.homing with
        | some h =>
          if h.taken then raise 84 (axRecord n 0x2030 [] (setAxis n (fun b => { b with homed := true }) (hold n done)))
          else homeStep3 n h done
        | none => hold n done)
      | .stopping =>
        (match a.pendingRun with
        | some q =>
          if q.group.isSome then startPending n q s1
          else startPending n q done
        | none => hold n done)
      | .test => done
      | _ => hold n done

/-- The setpoint state of the servo period before the present one: its setpoint is not formed yet (R356). -/
def unstep (n : Nat) (s : State) : State :=
  setAxis n (fun a => if a.stepped then { a with p := a.pPrev, v := a.vPrev, stepped := false } else a) s

/-- The setpoint of the present servo period is about to be formed. -/
def beginStep (n : Nat) (s : State) : State := setAxis n (fun a => { a with pPrev := a.p, vPrev := a.v, stepped := true }) s

/-- The acceleration setpoint is the change of the velocity setpoint over the period, where no segment or ramp gives one (log entry 61). -/
def accStep (n : Nat) (s : State) : State :=
  let a := divFree (((s.axis n).v - (s.axis n).vPrev) * 16_000) 65536 s
  setAxis n (fun b => { b with aSet := a.1 }) a.2

/-- One member enters OBSTACLE: a stop at a_obs of the leader, at its ratio (R351, R356). -/
def enterObstacle (lead : Nat) (causes : BitVec 3) (m : Nat) (s0 : State) : State :=
  let s := unstep m s0
  let r := runRatio m s
  let neg := decide ((s.axis m).v < 0)
  let s1 := rampAxis m (axAobs lead s * r.1) r.2 .obstacle s
  let s2 := setAxis m (fun a => { a with
    obst := true, causes := causes, obsPos := if actualValid m s then actualPos m s else 0, obsNeg := neg, obsNoRev := false
    obsCfg := (lead, r.1, r.2), pendingRun := none }) s1
  { s2 with jnl := { s2.jnl with acc := upd {} m (fun (d : DoorAcc) => { d with obstacles := d.obstacles + 1 }) s2.jnl.acc } }

/-- The setpoint of a ramp after one more servo period; `stopEnd` falls due when it has come to rest. -/
def rampPeriod (n : Nat) (s : State) : State :=
  match (s.axis n).ramp with
  | none => s
  | some r =>
    let x := rampAt r (r.tick + 125) s
    let s1 := setAxis n (fun a => { a with
      p := x.1.1, v := x.1.2
      aSet := (if r.v0 < 0 then (r.acc / r.den : Nat) else -((r.acc / r.den : Nat) : Int))
      ramp := some { r with tick := r.tick + 125 } }) x.2
    if r.done (r.tick + 125) then setDue n (fun d => { d with stopEnd := true }) s1 else s1

/-- The setpoint of the move back `r` after one more servo period (R356). -/
def reversalPeriod (n : Nat) (r : Reversal) (s : State) : State :=
  let k := r.tick + 125
  let x := revAt (axDrev r.cfg s) (axVrev r.cfg s) (axAobs r.cfg s) k s
  let sg : Int := if r.neg then -1 else 1
  let p := divFree (x.1.1 * r.num) r.den x.2
  let v := divFree (x.1.2.1 * r.num) r.den p.2
  let s1 := setAxis n (fun b => { b with
    p := r.p0 + sg * p.1, v := if x.1.2.2 then 0 else sg * v.1, reversal := some { r with tick := k } }) v.2
  accStep n (if x.1.2.2 then setDue n (fun d => { d with reversal := true }) s1 else s1)

/-- An obstacle criterion is met: the setpoint of this period lies on the ramp already (R351, R356). -/
def doObstacle (n : Nat) (s : State) : State :=
  let a := s.axis n
  match a.due.obstacle with
  | none => s
  | some causes =>
    let s1 := setDue n (fun _ => {}) s
    let ms := runMembers n s1
    if a.st = .obstacle then
      raise (48 + n) (axRecord n 0x2022 [] (ms.foldl (fun s m => rampPeriod m (beginStep m (endReversal m (unstep m s))))
        (setAxis n (fun b => { b with obst := true, causes := causes, obsPos := if actualValid n s then actualPos n s else 0 }) s1)))
    else
      let lead := runLead n s1
      let s2 := abortHoming n 0x2033 s1
      let s3 := ms.foldl (fun s m => enterObstacle lead causes m s) s2
      let s4 := ms.foldl (fun s m => rampPeriod m (beginStep m s)) s3
      let pos := if actualValid n s then (actualPos n s).toNat else 0
      raise (48 + n) (axRecord n 0x2020 [causes.toNat, pos] s4)

/-- The move back ends (R356). -/
def doReversal (n : Nat) (s : State) : State :=
  if (s.axis n).due.reversal then raise 88 (axRecord n 0x2021 [] (hold n s)) else s

/-- The reference point is taken: the origin makes it the home offset; then the final stop (R358). -/
def doReference (n : Nat) (s : State) : State :=
  let a := s.axis n
  match a.due.reference, a.homing with
  | some ref, some h =>
    let off := signed 32 (ctlGet (axReg n 0x34) s).toNat
    let fb := axFb n s != 0
    let origin := if fb then wInt (ref - off) else a.origin
    let shift := if fb then signed 32 (a.origin - origin).toNat else off - ref
    rampAxis n (axAstop n s) 1 .homing (setAxis n (fun b => { b with
      origin := origin, p := b.p + 65536 * shift, act := if fb then b.act + (a.origin - origin) else b.act
      homing := some { h with step := 5, taken := true }, due := {} }) s)
  | _, _ => setDue n (fun d => { d with reference := none }) s

/-- Homing aborts with a stop at a_stop that leads to FAULT; event source 84 (R338, R359). -/
def homeAbort (n code : Nat) (s : State) : State :=
  raise 84 (axRecord n code [] (setAxis n (fun a => { a with homing := none, abortCode := some code })
    (rampAxis n (axAstop n s) 1 .homing s)))

/-- The switch has changed more often than the chatter limit allows (R359). -/
def doChatter (n : Nat) (s : State) : State := if (s.axis n).due.chatter then homeAbort n 0x2031 s else s

/-! ### The servo period (R334) -/

/-- Step 2: the axis takes its feedback and the current magnitude of the past period. -/
def servoTake (n : Nat) (s : State) : State :=
  let v := actualValid n s
  let p := actualPos n s
  let vel := actualVel n s
  setAxis n (fun a => { a with
    actValid := v, act := if v then p else 0, actVel := vel, curMag := a.curAcc, curMax := max a.curMax a.curAcc, curAcc := 0
    faultPrev := a.faultNow, faultNow := false
    goodPeriods := if a.st = .enabling then (if a.faultNow then 1 else a.goodPeriods + 1) else 0 }) s

/-- A fault that an axis with ENx at 1 meets in this period: its code (R329, R338). -/
def servoFault (n : Nat) (s : State) : Option Nat :=
  let a := s.axis n
  if !a.st.en then none
  else if axFb n s ≠ 0 ∧ actualValid n s = false then some 0x2004
  else if a.faultNow ∧ a.faultPrev then some 0x2002
  else none

/-- The obstacle criteria are armed (R355, R362). -/
def armed (n : Nat) (s : State) : Bool :=
  let a := s.axis n
  let dir := if 0 < a.v then a.testKind != 0 || cbit (axReg n 0x20) 24 s
    else if a.v < 0 then a.testKind != 0 || cbit (axReg n 0x20) 25 s else false
  dir && (match a.st with
    | .moving => (match a.run with | some r => r.post.armed && segArm (runTable n r) r.seg s | none => false)
    | .stopping => a.stopArmed
    | .homing => a.testKind != 0 || ((a.homing.map (fun h => h.armed)).getD false)
    | .test => true
    | .obstacle => a.reversal.isSome
    | _ => false)

/-- The envelope in force (R355). -/
def envelope (n : Nat) (s : State) : Nat :=
  let a := s.axis n
  let e := match a.st with
    | .moving => (match a.run with | some r => segEnv (runTable n r) r.seg s | none => 0)
    | .stopping => a.stopEnv
    | _ => 0
  if e = 0 then axEnv n s else e

/-- Step 3: the counts of the criteria, and the causes that are met (R355). -/
def servoObstacle (n : Nat) (s : State) : State :=
  let a := s.axis n
  if armed n s then
    let feWin := cf (axReg n 0x20) 7 0 s
    let iWin := cf (axReg n 0x20) 15 8 s
    let fe := if a.actValid ∧ (ctlGet (axReg n 0x24) s).toNat < (followErr a).natAbs then a.feRun + 1 else 0
    let i := if envelope n s < a.curMag then a.iRun + 1 else 0
    let m1 := decide (feWin ≠ 0 ∧ feWin ≤ fe)
    let m2 := decide (iWin ≠ 0 ∧ iWin ≤ i)
    let m3 := axObsDio n s != 127 && (dioLevel (axObsDio n s) s == cbit (axReg n 0x20) 23 s)
    let c : BitVec 3 := BitVec.ofNat 3 (b2n m1 + 2 * b2n m2 + 4 * b2n m3)
    setAxis n (fun a => { a with
      feRun := fe, iRun := i, due := { a.due with obstacle := if m1 || m2 || m3 then some c else none } }) s
  else setAxis n (fun a => { a with feRun := 0, iRun := 0 }) s

/-- Step 3: the homing switch and the homing limits (R358, R359). -/
def servoHome (n : Nat) (s : State) : State :=
  let a := s.axis n
  match a.homing with
  | none => s
  | some h =>
    if a.st != .homing || h.taken then s
    else
      let act := homeActive n s
      let change := act != h.switch
      let exempt := decide (h.step = 3) && !act
      let h1 := { h with
        switch := act, changed := h.changed || change
        changes := if change && h.changed && !exempt then h.changes + 1 else h.changes }
      let s1 := setAxis n (fun b => { b with homing := some h1 }) s
      let raw : Int := if axFb n s ≠ 0 then signed 32 (feedbackPos n (s.chan n).count s).toNat else a.p.fdiv 65536
      if cf (axReg n 0x30) 13 10 s < h1.changes then setDue n (fun d => { d with chatter := true }) s1
      else if axHtrav n s < (axisPos n s - h.startPos).natAbs then homeAbort n 0x2032 s1
      else if h.step = 2 then
        if act && !h.stopping then
          setAxis n (fun b => { b with homing := some { h1 with stopping := true } }) (rampAxis n (axAstop n s) 1 .homing s1)
        else s1
      else if h.step = 3 then
        if act then s1
        else if cbit (axReg n 0x30) 9 s then
          setAxis n (fun b => { b with homing := some { h1 with step := 4, latch0 := (s.chan n).latches } }) s1
        else setDue n (fun d => { d with reference := some raw }) s1
      else if h.latch0 < (s.chan n).latches then
        setDue n (fun d => { d with reference := some (signed 32 (feedbackPos n (s.chan n).index s).toNat) }) s1
      else s1

/-- A jog must begin its stop now to stay within htrav counts of its start (R362). -/
def jogStop (n : Nat) (s : State) : Bool :=
  let a := s.axis n
  let acc := axAstop n s * 65536
  let room := (axHtrav n s * 65536 : Nat) - ((a.p - a.jogStart).natAbs : Int)
  decide (room * (2 * acc) < ((a.v.natAbs * a.v.natAbs : Nat) : Int) + (2 * acc * (a.v.natAbs + acc / 16_000) / 16_000 : Nat))

/-- The acceleration setpoint follows the velocity setpoint that has been formed. -/
def velPeriod (n : Nat) (target : Int) (acc : Nat) (s : State) : State :=
  let x := velStep (s.axis n) target acc s
  accStep n (setAxis n (fun b => { b with p := x.1.1, v := x.1.2 }) x.2)

/-- A run advances by one servo period (R345, R349). -/
def runPeriod (n : Nat) (r : RunState) (s : State) : State :=
  let r1 := { r with tick := r.tick + 125 }
  let s1 := runSetpoint n r1 s
  if r1.tick < 2 * segDur n r1.seg s then s1
  else setDue n (fun d => if r1.seg + 1 < r1.post.first + r1.post.count then { d with segment := true } else { d with runEnd := true }) s1

/-- The members of the group run of axis `n` in MOVING form their setpoints together, in the slot of the lowest-numbered one (R349). -/
def groupPeriod (n : Nat) (s : State) : State :=
  let ms := runMembers n s
  let lead := runLead n s
  match (s.axis lead).run with
  | some r => if ms.headD n = n then runPeriod lead r (ms.foldl (fun s m => beginStep m s) s) else s
  | none => s

/-- The setpoint of an axis in OBSTACLE: the stop, then the move back (R356). -/
def obstaclePeriod (n : Nat) (s : State) : State :=
  let a := s.axis n
  match a.reversal, a.ramp with
  | some r, _ => reversalPeriod n r s
  | none, none => s
  | none, some r =>
    if r.done r.tick && !a.obsNoRev && axDrev a.obsCfg.1 s != 0 then
      -- the move back begins in the period after the one whose setpoint is at rest
      reversalPeriod n { p0 := a.p, neg := !a.obsNeg, cfg := a.obsCfg.1, num := a.obsCfg.2.1, den := a.obsCfg.2.2 }
        (setAxis n (fun b => { b with ramp := none }) s)
    else
      let s1 := setDue n (fun d => { d with stopEnd := false }) (rampPeriod n s)
      if !r.done (r.tick + 125) then s1
      else if a.obsNoRev then setDue n (fun d => { d with stopEnd := true }) s1
      else if axDrev a.obsCfg.1 s = 0 then setDue n (fun d => { d with reversal := true }) s1
      else s1

/-- The setpoint of an axis that moves by itself, by its state (R345, R351, R356, R358, R362). -/
def ownPeriod (n : Nat) (s : State) : State :=
  let a := s.axis n
  match a.st with
  | .enabling => if 16 < a.goodPeriods then setDue n (fun d => { d with enabled := true }) s else s
  | .moving => (match a.run with | some r => runPeriod n r s | none => s)
  | .stopping => rampPeriod n s
  | .obstacle => obstaclePeriod n s
  | .homing =>
    if a.ramp.isSome then rampPeriod n s
    else match a.homing with
      | none => s
      | some h =>
        let toward : Int := if cbit (axReg n 0x30) 8 s then 1 else -1
        let full : Int := axVhome n s * 65536
        velPeriod n (if h.step = 2 then toward * full else -toward * full.fdiv 8) (axAstop n s) s
  | .test =>
    if a.ramp.isSome then rampPeriod n s
    else if a.testKind = 2 ∨ a.testKind = 3 then
      if jogStop n s then rampPeriod n (setAxis n (fun b => { b with testKind := 1 }) (rampAxis n (axAstop n s) 1 .test s))
      else velPeriod n (if a.testKind = 2 then axVhome n s * 65536 else -(axVhome n s * 65536 : Nat)) (axAmax n s) s
    else s
  | _ => s

/-- A transition that forms the setpoint itself is due for the axis or for its group (R356, R358, R359). -/
def turnDue (n : Nat) (s : State) : Bool :=
  let a := s.axis n
  (runMembers n s).any (fun m => (s.axis m).due.obstacle.isSome) || a.due.obstacle.isSome || a.due.chatter || a.due.reference.isSome

/-- Step 4: position and velocity setpoint of the period, once in each period. -/
def servoSetpoint (n : Nat) (s : State) : State :=
  let a := s.axis n
  if a.stepped || turnDue n s then s
  else if a.due.stopEnd then beginStep n s
  else if a.st = .moving ∧ a.team.isSome then groupPeriod n s
  else ownPeriod n (beginStep n s)

/-! ### Position controller and phase targets (R352, R575) -/

/-- The place of a Hall code in the positive order 1, 3, 2, 6, 4, 5 (R367). -/
def hallSector (h : Nat) : Nat := match h with | 1 => 0 | 3 => 1 | 2 => 2 | 6 => 3 | 4 => 4 | _ => 5

/-- The electrical angle theta of an axis, as a fraction of a revolution (num, den) (R352, R575). -/
def theta (n : Nat) (s : State) : Int × Int :=
  let a := s.axis n
  let offset : Int := cf (axReg n 4) 31 16 s
  if axKind n s = 1 then (a.p, 65536 * 4 * 2 ^ axMs n s)
  else if axFb n s = 1 then
    let counts : Int := max 1 (cf (axReg n 4) 15 0 s)
    (signed 32 a.act.toNat * 65536 + offset * counts, counts * 65536)
  else
    -- sectors in units of 2^-9 · 10^-9: half a sector is 256 · 10^9
    let c := s.chan n
    let unit : Int := 512_000_000_000
    let adv := 2 * chanSpeed n s * ((s.mclk - c.times.headD s.mclk) * 5 : Nat)
    let lim := max (-unit / 2) (min (unit / 2) adv)
    ((hallSector c.hall * unit + unit / 2 + lim) * 65536 + offset * 6 * unit, 6 * unit * 65536)

/-- theta + delta − phi of phase `ph` (0, 1, 2) (R352). -/
def phaseAngle (n ph : Nat) (s : State) : Int × Int :=
  let t := theta n s
  let den := t.2 * 12
  if axKind n s = 1 then (t.1 * 12 - ph * (den / 4), den) else (t.1 * 12 + den / 4 - ph * (den / 3), den)

/-- The current amplitude I (codes) and the sum of e, which is held while I is at its clamp. -/
def amplitude (n : Nat) (s : State) : (Int × Int) × State :=
  let a := s.axis n
  let imax : Int := axImax n s
  if a.st = .enabling ∨ a.st.en = false then ((0, 0), s)
  else if axKind n s = 1 then (((if a.v ≠ 0 then imax else (axIhold n s : Int)), 0), s)
  else
    let e := -followErr a
    let sum := a.sum + e
    let x := divFree ((axGain n 0 s * e + axGain n 1 s * sum + axGain n 3 s * a.aSet) * 65536 + axGain n 2 s * (a.v - a.actVel)) (2 ^ 32) s
    if x.1 < imax ∧ -imax < x.1 then ((x.1, sum), x.2) else ((max (-imax) (min imax x.1), a.sum), x.2)

/-- Step 5: the current command of the period and the phase targets; the mode change that falls due (R352, R354). -/
def servoControl (n : Nat) (s : State) : State :=
  let x := amplitude n s
  let tgt := fun ph => if x.1.1 = 0 then 0 else Config.cosCode x.1.1 (phaseAngle n ph s).1 (phaseAngle n ph s).2
  let old := (s.axis n).phA.target
  let turned := old.sign != (tgt 0).sign
  let vAbs := (s.axis n).v.natAbs
  setAxis n (fun a => { a with
    sum := x.1.2
    phA := { a.phA with target := tgt 0 }
    phB := { a.phB with target := tgt 1 }
    phC := { a.phC with target := if axKind n s = 2 then tgt 2 else 0 }
    strong := if axRegMode n s = 2 then true else if axRegMode n s = 1 then false else a.strong
    modeTurn := if axRegMode n s ≠ 0 ∨ turned = false then a.modeTurn
      else if a.strong = false ∧ axVup n s * 65536 ≤ vAbs then some true
      else if a.strong = true ∧ vAbs ≤ axVdn n s * 65536 then some false
      else a.modeTurn }) x.2

/-- Words 0 to 10 of the record of an axis (R363). -/
def axisStatus (a : Axis) : List Word :=
  ([a.st.code + packBits [(4, a.st.en), (5, a.homed), (6, a.actValid), (7, a.strong), (8, a.obst), (9, a.runDone), (10, inGroupRun a),
      (11, a.st == .fault), (15, a.pendingRun.isSome)] + 2 ^ 12 * a.causes.toNat + 2 ^ 16 * (((a.run.map RunState.seg).getD 0) % 256),
    (setpointWord a.p).toNat, if a.actValid then a.act.toNat else 0, if a.actValid then (wInt (followErr a)).toNat else 0,
    (wInt a.v).toNat, if a.actValid then (wInt a.actVel).toNat else 0, sat 0xFFFF a.curMag + 2 ^ 16 * sat 0xFFFF a.curMax,
    a.lastCode + 2 ^ 16 * sat 0xFFFF a.refused, a.target.toNat, a.obsPos.toNat, sat 0xFFFF a.applied] : List Nat).map w32

/-- The snapshot words 0 to 6 of an axis (R52). -/
def axisLatched (a : Axis) : List Word :=
  ([(setpointWord a.p).toNat, if a.actValid then a.act.toNat else 0, if a.actValid then (wInt (followErr a)).toNat else 0, (wInt a.v).toNat,
    (BitVec.ofInt 16 a.phA.good).toNat + 2 ^ 16 * (BitVec.ofInt 16 a.phB.good).toNat,
    ((a.run.map RunState.seg).getD 0) % 256 + packBits [(12, a.strong), (13, a.st.en), (14, a.homed), (15, a.st == .obstacle)],
    a.lastCode] : List Nat).map w32

/-- Step 6: the axis publishes its status for CAPTURE and the snapshot (R334); it goes to the door-cycle accumulator (R460). -/
def servoPublish (n : Nat) (s0 : State) : State :=
  let s := setAxis n (fun a => { a with status := axisStatus a, latched := axisLatched a }) s0
  let a := s.axis n
  { s with jnl := { s.jnl with acc := upd {} n (fun (d : DoorAcc) => { d with
      peakCurrent := max d.peakCurrent a.curMag
      peakError := if a.actValid then max d.peakError (sat 65535 (followErr a).natAbs) else d.peakError
      peakVelocity := max d.peakVelocity a.actVel.natAbs }) s.jnl.acc } }

/-- The motion region is reinitialised: every axis disabled, coasting and unhomed; accumulators cleared (R28, R361, R460). -/
def motionReinit (s : State) : State :=
  let s1 := (List.range s.axesFitted).foldl (fun s n => setAxis n (fun a => Axis.coast .disabled true { a with homed := false }) s) (dropReady s)
  let s2 := { s1 with
    mot := { s1.mot with axes := s1.mot.axes.map (fun p => (p.1, ({ p := p.2.p } : Axis))), arriving := none, sdFault := 0, slot := 8 }
    fbk := { s1.fbk with eo := [] }
    jnl := { s1.jnl with acc := (List.range 32).map (fun n => (n, ({ cleared := s.now } : DoorAcc))) } }
  beginReinit 1 (raise 89 (record 0x2005 [] s2))

/-- An uncorrectable error in a segment table or the interpolator: the region is reinitialised, or, where it is reinitialising already, the
module enters HOLD; in HOLD it is recorded alone (R28, R31, R32). -/
def motionError (s : State) : State :=
  if s.keep.mode = .hold then raise 89 (record 0x2005 [] s)
  else if s.reiniting 1 then beginReinit 1 (raise 89 (record 0x2005 [] s))
  else motionReinit s

/-- The next servo boundary after now (R334). -/
def nextServo (s : State) : Nat :=
  if s.now % 62_500 = 0 ∧ s.mot.lastServo < s.now then s.now else (s.now / 62_500 + 1) * 62_500

/-- What is due for the axis has to happen before its current command is formed: everything but the wait of a group run that is pending until
all members are at rest (R350). -/
def Axis.waits (a : Axis) : Bool :=
  a.due != {} && !(a.due == { stopEnd := true } && (a.pendingRun.bind RunPost.group).isSome)

/-- Steps 5 and 6 of the slot. -/
def servoEnd (n : Nat) (s : State) : State := servoPublish n (servoControl n (setAxis n (fun a => { a with control := false }) s))

/-- Steps 4 to 6 of a slot that waited for a transition, once it has happened; with `force`, whatever is left. -/
def servoSettle (force : Bool) (n : Nat) (s : State) : State :=
  if !(s.axis n).control || ((s.axis n).waits && !force) then s
  else
    let s1 := servoSetpoint n s
    if (s1.axis n).waits && !force then s1 else servoEnd n s1

/-- A transition of axis `n` that is due, `act`, happens; then what waited for it in the axis and in its group run. -/
def fulfil (n : Nat) (act : State → State) (s : State) : State :=
  ((runMembers n s).foldl (fun s m => servoSettle false m s) (act s))

/-- Whatever is due for axis `n` happens, the highest of R339 first. -/
def finishDue (n : Nat) (s : State) : State :=
  let s1 := doChatter n (doReference n (doObstacle n s))
  let s2 := if (s1.axis n).due.segment then (List.range 256).foldl (fun s _ => doSegment n s) s1 else s1
  doReversal n (doEnabled n (doStopEnd n (doRunEnd n s2)))

/-- What the servo period before left due happens before the next one begins. -/
def finishAllDue (s : State) : State :=
  let axes := List.range s.axesFitted
  axes.foldl (fun s n => servoSettle true n s) (axes.foldl (fun s n => finishDue n s) s)

/-- The servo boundary (R334, R395): the releases whose arrival is complete are applied; a fault or a criterion of this period drops a STOP
(R339). -/
def servoBoundary (s : State) : State :=
  let t := nextServo s
  let s0 := advance t s
  let s1 := { s0 with mot := { s0.mot with lastServo := t, slot := 0 } }
  if s1.reiniting 1 then { s1 with mot := { s1.mot with slot := 8 } }
  else
    let axes := List.range s1.axesFitted
    let s2 := axes.foldl (fun s n => setAxis n (fun a => { a with
      stepped := false, modeDue := a.modeTurn <|> a.modeDue, modeTurn := none }) s) (eoFollowAll true (finishAllDue s1))
    let ahead := axes.foldl (fun s n => servoObstacle n (servoTake n s)) s2
    let blocked := fun n => (servoFault n s2).isSome || (ahead.axis n).due.obstacle.isSome
    s2.mot.ready.foldl (fun s r => applyRelease r.posts blocked s) { s2 with mot := { s2.mot with ready := [] } }

/-- The steps of one axis in its slot: feedback; fault, obstacle, homing switch; setpoint; current command; status (R334, R339). -/
def servoAxis (n : Nat) (s : State) : State :=
  let s1 := servoTake n s
  let s2 := match servoFault n s with
    | some c => faultAxis n c s1
    | none =>
      let o := servoObstacle n s1
      if (o.axis n).due.obstacle.isSome then o else servoHome n o
  let s3 := servoSetpoint n s2
  if (runMembers n s3).any (fun m => (s3.axis m).waits) then setAxis n (fun a => { a with control := true }) s3 else servoEnd n s3

/-- Slot `j`, which begins j × 7.8125 µs after the boundary: the axes 8g + j (R334). -/
def servoSlot (j : Nat) (s : State) : State :=
  let s1 := advance (s.mot.lastServo + (15_625 * j + 1) / 2) s
  ((List.range s1.axesFitted).filter (fun n => n % 8 == j)).foldl (fun s n => servoAxis n s)
    { s1 with mot := { s1.mot with slot := j + 1 } }

/-- SERVO_PERIOD (R334 to R362): a servo period begins at the next boundary, or the one in progress goes on, up to its slot `upTo`; one slot at
least. `uncorrectable`: a segment table or the interpolator has an uncorrectable error (R28). -/
def execServoPeriod (upTo : Fin 8) (uncorrectable : Bool) (s : State) : Outcome :=
  let s1 := if 8 ≤ s.mot.slot then servoBoundary s else s
  let first := s1.mot.slot
  if uncorrectable then .next (motionError { s1 with mot := { s1.mot with slot := 8 } })
  else .next ((List.range 8).foldl (fun s j => if j = s.mot.slot ∧ (j ≤ upTo.val ∨ j = first) then servoSlot j s else s) s1)

/-! ### Commands that perform what is due -/

/-- ENABLING_COMPLETE (R338). -/
def execEnablingComplete (n : Fin 32) (s : State) : Outcome := .next (fulfil n (doEnabled n) s)

/-- SEGMENT_END (R345, R346). -/
def execSegmentEnd (n : Fin 32) (s : State) : Outcome := .next (fulfil n (doSegment n) s)

/-- RUN_COMPLETE (R338, R348). -/
def execRunComplete (n : Fin 32) (s : State) : Outcome := .next (fulfil n (doRunEnd n) s)

/-- STOP_COMPLETE (R338). -/
def execStopComplete (n : Fin 32) (s : State) : Outcome := .next (fulfil n (doStopEnd n) s)

/-- OBSTACLE (R356). -/
def execObstacle (n : Fin 32) (s : State) : Outcome := .next (fulfil n (doObstacle n) s)

/-- REVERSAL_COMPLETE (R356). -/
def execReversalComplete (n : Fin 32) (s : State) : Outcome := .next (fulfil n (doReversal n) s)

/-- HOMING_REFERENCE (R358). -/
def execHomingReference (n : Fin 32) (s : State) : Outcome := .next (fulfil n (doReference n) s)

/-- HOMING_CHATTER_ABORT (R359). -/
def execHomingChatterAbort (n : Fin 32) (s : State) : Outcome := .next (fulfil n (doChatter n) s)

/-! ### Posts (R341) and the release marker (R360) -/

/-- A post of code `code` with words a, b, c, judged for its fields and then for the state (R341). -/
def directPost (code : Nat) (a b c : Word) (s : State) : State :=
  let q : Post := { a := w32 (code * 2 ^ 24 + a.toNat % 2 ^ 24), b := b, c := c, w3 := 0 }
  if postFieldsOk q.axis q s then applyPost q.axis q s else refusePost q.axis 0x2011 s

/-- ENABLE (R341, R342). -/
def execEnable (a b c : Word) (s : State) : Outcome := .next (directPost 0x01 a b c s)

/-- DISABLE (R341). -/
def execDisable (a b c : Word) (s : State) : Outcome := .next (directPost 0x02 a b c s)

/-- STOP (R341). -/
def execStop (a b c : Word) (s : State) : Outcome := .next (directPost 0x03 a b c s)

/-- HOME (R341, R358). -/
def execHome (a b c : Word) (s : State) : Outcome := .next (directPost 0x04 a b c s)

/-- CLEAR (R341). -/
def execClear (a b c : Word) (s : State) : Outcome := .next (directPost 0x05 a b c s)

/-- SETPOS (R341). -/
def execSetpos (a b c : Word) (s : State) : Outcome := .next (directPost 0x06 a b c s)

/-- RUN (R341, R347). -/
def execRun (a b c : Word) (s : State) : Outcome := .next (directPost 0x10 a b c s)

/-- GRUN (R341, R349, R350): the GRUN posts of one release, each with its words a, b, c. -/
def execGrun (posts : List (Word × Word × Word)) (s : State) : Outcome :=
  .next (applyRelease (posts.map (fun p =>
    { a := w32 (0x11 * 2 ^ 24 + p.1.toNat % 2 ^ 24), b := p.2.1, c := p.2.2, w3 := 0 })) (fun _ => false) s)

/-- RELEASE_MARKER (R343, R360): the list that has arrived is complete; a mailbox silence ends. -/
def execReleaseMarker (atNs : Nat) (s : State) : Outcome :=
  let s := advance atNs s
  let r := s.mot.arriving.getD { posts := [] }
  .next { s with mot := { s.mot with
    arriving := none, ready := s.mot.ready ++ [r], markerAt := s.replica .mclk, silent := false, postsLast := r.posts.length } }

/-- MAILBOX_SILENT (R360, R361): no marker within 2 P + 1 ms while an axis has ENx at 1. -/
def execMailboxSilent (atNs : Nat) (s : State) : Outcome :=
  let s := advance atNs s
  if enMask s ≠ 0 ∧ s.mot.silent = false ∧ s.mot.markerAt + 2 * (10_000 * s.seq.period) + 1_000_000 < s.replica .mclk then
    .next (raise 86 (disableAxes 0x2040 { s with mot := { s.mot with silent := true } }))
  else .next s

/-! ### Current sensing and regulation (R328 to R333, R352 to R354) -/

/-- SDCLKg runs (R328, R330). -/
def clockRuns (g : Nat) (s : State) : Bool :=
  !grpFaulted g s && (List.range s.axesFitted).any (fun n => n / 8 == g && axKind n s != 0)

/-- The bit streams of the axis are sampled (R328). -/
def sensed (n : Nat) (s : State) : Bool := decide (n < s.axesFitted) && clockRuns (n / 8) s

/-- SDCLKg is MCLK / sd_div: MCLK cycles of one period (R328; the coding of MOT_GRP). -/
def sdDiv (g : Nat) (s : State) : Nat := if cf (grpReg g) 19 16 s < 8 then cf (grpReg g) 19 16 s + 16 else cf (grpReg g) 19 16 s

/-- Decimation ratio of the sinc3 filters of a group (R328). -/
def sincRatio (g : Nat) (s : State) : Nat := 64 * 2 ^ cf (grpReg g) 21 20 s

/-- Sums over `r` neighbours: one stage of a sinc filter. -/
def boxcar (r : Nat) (l : List Int) : List Int := (List.range (l.length + 1 - r)).map (fun i => ((l.drop i).take r).foldl (· + ·) 0)

/-- The sum that a sinc filter of order `k` and ratio `r` forms over the bits of a stream, the last one the newest (R328). -/
def sincSum (k r : Nat) (bits_ : List Bool) : Int :=
  let l := bits_.drop (bits_.length - (k * (r - 1) + 1))
  ((List.range k).foldl (fun l _ => boxcar r l) (l.map (fun b => if b then 1 else -1))).headD 0

/-- The code of that output: ±32,767 at the full scale of the modulator; its rounding is free (R328; log entry 3). -/
def sincCode (k r : Nat) (bits_ : List Bool) (s : State) : Int × State := divFree (sincSum k r bits_ * 32_767) (r ^ k) s

/-- The stream has not changed for its last 64 samples. -/
def constant64 (bits_ : List Bool) : Bool :=
  let l := bits_.drop (bits_.length - 64)
  decide (64 ≤ bits_.length) && l.all (fun b => b == l.headD false)

/-- SD_STREAM_STUCK (R329): the bit stream of phase A/U or B/V has not changed for 64 edges; the samples of the phase are faulted until it
changes. -/
def execSdStreamStuck (n : Fin 32) (phaseB : Bool) (s : State) : Outcome :=
  if sensed n s then
    .next (setAxis n (fun a => { a with
      phA := if phaseB then a.phA else { a.phA with stuck := true }
      phB := if phaseB then { a.phB with stuck := true } else a.phB }) s)
  else .next s

/-- An axis of a group whose clock has failed enters FAULT, whatever its state (R330). -/
def sdclkAxis (n : Nat) (s : State) : State :=
  let s1 := setAxis n (fun a => { Axis.coast .fault (noFeedback n s) a with lastCode := 0x2003 }) (leaveGroup n s)
  { s1 with jnl := { s1.jnl with acc := upd {} n (fun (d : DoorAcc) => { d with fault := true, lastCode := 0x2003 }) s1.jnl.acc } }

/-- SDCLK_FAULT (R26, R330): every fitted axis of the group enters FAULT; 0x2003 once; the clock stays off, and the axis group isolated, which
is 0x9104 and DEGRADED. -/
def execSdclkFault (g : Fin 4) (s : State) : Outcome :=
  let axes := (List.range s.axesFitted).filter (fun n => n / 8 == g.val)
  if grpFaulted g s || axes = [] then .next s
  else
    let s1 := axes.foldl (fun s n => sdclkAxis n s) s
    let s2 := raise (80 + g.val) (record 0x2003 [g.val] { s1 with mot := { s1.mot with sdFault := s1.mot.sdFault ||| (1#4 <<< g.val) } })
    .next (enterDegraded 0x9104 (record 0x9104 [] s2))

/-- The sample is faulted (R329). -/
def PhaseReg.faulty (p : PhaseReg) (bits_ : List Bool) (code : Int) : Bool := p.stuck || constant64 bits_ || decide (31_130 < code.natAbs)

/-- A phase takes the sample of the carrier period that has ended: a faulted one is replaced by the last good (R329). -/
def PhaseReg.take (p : PhaseReg) (bits_ : List Bool) (code : Int) : PhaseReg :=
  { p with stuck := (p.stuck || constant64 bits_) && constant64 bits_, good := if p.faulty bits_ code then p.good else code }

/-! ### The carrier (R331) -/

/-- The first MCLK cycle after the present carrier period, from `m` on, at which a carrier period of the axis begins; the cycle at which the
carrier of the group begins is a free value (log entry 3). -/
def carrierStart (n m : Nat) (s : State) : Nat × State :=
  let N := max 1 (carrierN (n / 8) s)
  let known := (s.mot.carrier.find? (fun p => p.1 == n / 8)).map Prod.snd
  let d := s.draw 14
  let phase := known.getD d.1.toNat
  let s1 := if known.isSome then s else { d.2 with mot := { d.2.mot with carrier := put (n / 8) phase d.2.mot.carrier } }
  let off := (phase + n % 8 * N / 8) % N
  let from_ := max m ((s.axis n).carrierAt + 1)
  (from_ + (off + N - from_ % N) % N, s1)

/-- PWMn_h is high now: from floor((N − h) / 2) cycles after the start of the carrier period, for h cycles (R331). -/
def pwmHigh (n k : Nat) (s : State) : Bool :=
  let h := (s.axis n).high.getD k 0
  let t := s.mclk - (s.axis n).carrierAt
  let rise := (carrierN (n / 8) s - h) / 2
  decide (rise ≤ t ∧ t < rise + h)

/-- The minimum pulse of R331. -/
def minPulse (n h m : Nat) : Nat :=
  if h = 0 ∨ h = n then h else if h < m then 0 else if n < h + m then n else min n h

def clamp23 (x : Int) : Int := max (-8_388_608) (min 8_388_608 x)

/-- The quiet-mode command of phase `ph` for the next carrier period (R352). -/
def quietPhase (n ph : Nat) (p : PhaseReg) (s : State) : PhaseReg × State :=
  let v := (s.axis n).v
  let ang := phaseAngle n ph s
  -- sin x = cos (x − a quarter)
  let sinE := Config.cosCode (axModel n 2 s * v) (ang.1 - ang.2 / 4) ang.2
  let e := divFree sinE 65536 s
  let u := axModel n 0 s * p.used + axModel n 1 s * (p.used - p.prev) - e.1 + p.x
  ({ p with u := clamp23 u, x := clamp23 (p.x + axModel n 3 s * (p.used - p.good)) }, e.2)

/-- High time for a command u (R352). -/
def highTime (N : Nat) (u : Int) : Nat := ((N : Int) * (8_388_608 + u)).fdiv 16_777_216 |>.toNat

/-- High times of the half-bridges that a phase drives in strong mode: a stepper's two, a brushless motor's one (R353). -/
def strongHigh (N : Nat) (stepper : Bool) (p : PhaseReg) : List Nat :=
  let up := decide (0 < p.used)
  let one := match p.decay with
    | .drive => if p.used = 0 then (0, 0) else if up then (N, 0) else (0, N)
    | .slow => (0, 0)
    | .fast => if up then (0, N) else (N, 0)
  if stepper then [one.1, one.2] else [one.1]

/-- The brake chopper's high time on a brushless axis: while the magnitude of the velocity setpoint falls (R333). -/
def brakeHigh (n N : Nat) (s : State) : Nat :=
  if (s.axis n).v.natAbs < (s.axis n).vPrev.natAbs then N * axBrake n s / 256 else 0

/-- CARRIER_PERIOD (R329, R331 to R333, R352 to R354): AXn begins its next carrier period from `atNs` on; `bitsA` and `bitsB` are the samples
of its streams up to the sinc3 output completed at the centre of the one that has ended. -/
def execCarrierPeriod (n : Fin 32) (bitsA bitsB : List Bool) (atNs : Nat) (s : State) : Outcome :=
  let s := advance atNs s
  if !sensed n s then .next s
  else
    let c := carrierStart n ((s.now + 4) / 5) s
    let s := advance (5 * c.1) c.2
    let ca := sincCode 3 (sincRatio (n / 8) s) bitsA s
    let cb := sincCode 3 (sincRatio (n / 8) s) bitsB ca.2
    let s := cb.2
    let a := s.axis n
    let stepper := axKind n s != 2
    let pa := a.phA.take bitsA ca.1
    let pb := a.phB.take bitsB cb.1
    let bad := a.phA.faulty bitsA ca.1 || a.phB.faulty bitsB cb.1
    let w := -(pa.good + pb.good)
    let mag := max pa.good.natAbs (max pb.good.natAbs (if stepper then 0 else w.natAbs))
    let shift := fun (p : PhaseReg) => { p with prev := p.used, used := p.target, decay := .drive }
    let toQuiet := a.modeDue == some false
    let strong := a.modeDue.getD a.strong
    let x0 := fun (p : PhaseReg) => if toQuiet then { p with x := 0 } else p
    let s1 := setAxis n (fun a => { a with
      faultNow := a.faultNow || bad, curAcc := max a.curAcc mag, strong := strong, modeDue := none, high := a.highNext, carrierAt := c.1
      phA := x0 (shift pa), phB := x0 (shift pb), phC := x0 (shift { a.phC with good := if stepper then 0 else w }) }) s
    if !a.st.en then .next s1
    else
      let N := carrierN (n / 8) s
      let m := cf (grpReg (n / 8)) 31 24 s
      let b := s1.axis n
      if strong then
        let hs := if stepper then strongHigh N true b.phA ++ strongHigh N true b.phB
          else strongHigh N false b.phA ++ strongHigh N false b.phB ++ strongHigh N false b.phC ++ [minPulse N (brakeHigh n N s1) m]
        .next (setAxis n (fun a => { a with high := hs, highNext := hs }) s1)
      else
        let qa := quietPhase n 0 b.phA s1
        let qb := quietPhase n 1 b.phB qa.2
        let qc := if stepper then (b.phC, qb.2) else quietPhase n 2 b.phC qb.2
        let h := fun u => minPulse N (highTime N u) m
        let hs := if stepper then [h qa.1.u, h (-qa.1.u), h qb.1.u, h (-qb.1.u)]
          else [h qa.1.u, h qb.1.u, h qc.1.u, minPulse N (brakeHigh n N s1) m]
        .next (setAxis n (fun a => { a with
          phA := qa.1, phB := qb.1, phC := qc.1, highNext := hs
          high := if stepper then a.high else a.high.take 3 ++ [minPulse N (brakeHigh n N s1) m] }) qc.2)

/-- The sinc2 current of phase `ph` from the last samples of both streams; that of phase W is −U − V (R328, R353). -/
def chopperCode (stepper : Bool) (ph : Nat) (bitsA bitsB : List Bool) (s : State) : Int × State :=
  let a := sincCode 2 16 bitsA s
  let b := sincCode 2 16 bitsB a.2
  (if ph = 0 then a.1 else if ph = 1 then b.1 else if stepper then 0 else -(a.1 + b.1), b.2)

/-- CHOPPER_CROSSING (R353): the sinc2 current of phase `ph` first meets |i*| after the blanking of 1 µs; the phase decays for the rest of the
carrier period: slowly while |i*| is rising or constant, fast while it is falling. -/
def execChopperCrossing (n : Fin 32) (ph : Fin 3) (bitsA bitsB : List Bool) (atNs : Nat) (s : State) : Outcome :=
  let s := advance atNs s
  let a := s.axis n
  let stepper := axKind n s != 2
  if !sensed n s || !a.st.en || !a.strong || (stepper && ph.val == 2) || decide (s.now < 5 * a.carrierAt + 1_000) then .next s
  else
    let N := carrierN (n / 8) s
    let p := if ph.val = 0 then a.phA else if ph.val = 1 then a.phB else a.phC
    let x := chopperCode stepper ph bitsA bitsB s
    if p.decay ≠ .drive ∨ x.1.natAbs < p.used.natAbs then .next x.2
    else
      let q := { p with decay := if p.used.natAbs < p.prev.natAbs then .fast else .slow }
      let hs := strongHigh N stepper q
      let i := if stepper then 2 * ph.val else ph.val
      .next (setAxis n (fun a => { a with
        high := a.high.take i ++ hs ++ a.high.drop (i + hs.length)
        phA := if ph.val = 0 then q else a.phA
        phB := if ph.val = 1 then q else a.phB
        phC := if ph.val = 2 then q else a.phC }) x.2)

/-! ### MOT_TEST (R362) -/

/-- The test of an axis ends: a stop at a_stop, then DISABLED. -/
def endTest (n : Nat) (s : State) : State :=
  let a := s.axis n
  if !a.st.en then setAxis n (fun a => { a with testKind := 0 }) s
  else if a.v = 0 then disableAxis n 1 s
  else setAxis n (fun a => { a with testEnding := true, testKind := 0 }) (rampAxis n (axAstop n s) 1 .stopping (abortHoming n 0x2033 s))

/-- The axis enters TEST from DISABLED (R337, R362). -/
def enterTest (n kind : Nat) (s : State) : State :=
  let fb := actualValid n s
  let act := signed 32 (actualPos n s).toNat
  setAxis n (fun a => { a with st := .test, testKind := kind, v := 0, p := if fb then act * 65536 else a.p }) s

/-- A write of MOT_TEST with kind `kind` for axis `n`, once its access has been judged (R362). -/
def testCommand (kind n : Nat) (s0 : State) : State :=
  let s := setAxis n (fun a => { a with testAt := s0.now }) s0
  let a := s.axis n
  if kind = 0 then endTest n s
  else if a.st = .disabled && !enableConfigOk n s then refusePost n 0x2060 s
  else if kind = 4 && axHomeDio n s == 127 then refusePost n 0x2011 s
  else
    let s1 := if a.st = .disabled then enterTest n 1 s else s
    let b := s1.axis n
    if b.testKind = 0 ∨ b.testKind = kind then s1
    else match b.st with
      | .test =>
        if kind = 4 then startHome n true (setAxis n (fun a => { a with testKind := 4 }) s1)
        else if kind = 1 then
          setAxis n (fun a => { a with testKind := 1 }) (if b.v = 0 then s1 else rampAxis n (axAstop n s) 1 .test s1)
        else setAxis n (fun a => { a with testKind := kind, jogStart := a.p, ramp := none, due := {} }) s1
      | .holding =>
        if kind = 4 then startHome n true (setAxis n (fun a => { a with testKind := 4 }) s1)
        else setAxis n (fun a => { a with st := .test, testKind := kind, jogStart := a.p }) s1
      | _ => s1

/-- MOT_TEST_NOT_RENEWED (R362): the test of AXn has not been written again within 500 ms. -/
def execMotTestNotRenewed (n : Fin 32) (atNs : Nat) (s : State) : Outcome :=
  let s := advance atNs s
  let a := s.axis n
  if a.testKind ≠ 0 ∧ a.testAt + 500_000_000 ≤ s.now then .next (endTest n (axRecord n 0x2061 [] s)) else .next s

end Sys2Proof.Machine
end

