-- ==== Sys2Proof/Machine/FieldOps.lean ====
section
/-!
DEFINITION. A field block: its configuration, the demand of each channel, load switches, safety output pairs, field commands
and the field-block reset (R402 to R438).
-/
namespace Sys2Proof.Machine

def State.block (f : Nat) (s : State) : Block := look {} f s.fld.blocks
def setBlock (f : Nat) (g : Block → Block) (s : State) : State := { s with fld := { s.fld with blocks := upd {} f g s.fld.blocks } }
def fldReg (f off : Nat) : Nat := 0x0300_0000 + 0x1_0000 * f + off
def State.fldFitted (f : Nat) (s : State) : Bool := decide (f < s.blocksFitted)

def Block.dioOf (c : Nat) (b : Block) : Dio := look {} c b.dio
def Block.lsOf (i : Nat) (b : Block) : LoadSwitch := look {} i b.ls
def Block.soOf (j : Nat) (b : Block) : SoPair := look {} j b.so
def setDio (f c : Nat) (g : Dio → Dio) (s : State) : State := setBlock f (fun b => { b with dio := upd {} c g b.dio }) s
def setLs (f i : Nat) (g : LoadSwitch → LoadSwitch) (s : State) : State := setBlock f (fun b => { b with ls := upd {} i g b.ls }) s
def setSo (f j : Nat) (g : SoPair → SoPair) (s : State) : State := setBlock f (fun b => { b with so := upd {} j g b.so }) s

/-- A code of block `f`: the block's last condition code; the block number leads the payload. -/
def blkRecord (f code : Nat) (args : List Nat) (s : State) : State :=
  record code (f :: args) (setBlock f (fun b => { b with lastCode := code }) s)

/-- The discarded inbound frames of block `f` that no 0x4001 has counted are recorded: once per block and cycle (R406). -/
def flushLinkErrors (f : Nat) (s : State) : State :=
  let n := (s.block f).errCycle
  if n = 0 then s
  else recordC 0x4001 (if n = 1 then 0 else 2) n (le 4 f ++ le 4 n) (setBlock f (fun b => { b with errCycle := 0, lastCode := 0x4001 }) s)

/-- A time measured in FCLKn has passed: not before 0.98 of it (R407, R420). -/
def fclkPassed (since ns : Nat) (s : State) : Bool := decide (98 * ns ≤ 100 * (s.now - since))

/-! ### Configuration -/

def dioOut (f c : Nat) (s : State) : Bool := cbit (fldReg f (0x100 + 4 * c)) 0 s
def dioSafety (f c : Nat) (s : State) : Bool := cbit (fldReg f (0x100 + 4 * c)) 5 s
def dioWb (f c : Nat) (s : State) : Bool := cbit (fldReg f (0x100 + 4 * c)) 4 s && !dioOut f c s

/-- The ranges of FLD_SO_CFG and FLD_SO_FB. -/
def soRangesOk (f j : Nat) (s : State) : Bool :=
  let r := fldReg f (0x400 + 0x10 * j)
  let fbOk := fun x => decide (x < 24 ∨ x = 127)
  decide (30 ≤ cf r 29 23 s ∧ cf r 29 23 s ≤ 100 ∧ 10 ≤ cf r 22 13 s ∧ cf r 22 13 s ≤ 1000 ∧ 10 ≤ cf r 9 0 s ∧ cf r 9 0 s ≤ 500)
  && fbOk (cf (r + 4) 6 0 s) && fbOk (cf (r + 4) 14 8 s)

def soEnabled (f j : Nat) (s : State) : Bool := cbit (fldReg f (0x400 + 0x10 * j)) 31 s && soRangesOk f j s

/-- Load switch `i` belongs to an enabled pair. -/
def lsPaired (f i : Nat) (s : State) : Bool := soEnabled f (i / 2) s

/-- A load switch is safety-marked (R408). -/
def lsSafety (f i : Nat) (s : State) : Bool := lsPaired f i s || cbit (fldReg f (0x300 + 4 * i)) 0 s

/-- The fail-safe states that the lock-keeper writes to the retention registers of the block (R408). -/
def failsafeDio (f : Nat) (s : State) : Word :=
  w32 ((List.range 24).foldl (fun x c =>
    x + (if cbit (fldReg f (0x100 + 4 * c)) 6 s && !dioSafety f c s then 2 ^ c else 0)) 0)

def failsafeLs (f : Nat) (s : State) : Word :=
  w32 ((List.range 8).foldl (fun x i =>
    x + (if cbit (fldReg f (0x300 + 4 * i)) 1 s && !lsSafety f i s then 2 ^ i else 0)) 0)

/-! ### Demand -/

/-- The block forces its stored fail-safe states: watchdog, FCLK fault, mode, reset in progress, isolated (R407 to R413). -/
def Block.forcing (b : Block) : Bool := b.forced || b.fclk || b.modeForce || b.resetAt.isSome || b.isolated

/-- The demand in force for DIO output `c` (R410, R411). -/
def dioDemand (f c : Nat) (s : State) : Bool :=
  let b := s.block f
  if b.forcing then b.fsDio.getLsbD c && !dioSafety f c s
  else if b.trip && dioSafety f c s then false
  else b.dDio.getLsbD c

/-- The level at which DIO output `c` is driven: low while latched off or in under-voltage (R418, R423). -/
def dioDriven (f c : Nat) (s : State) : Bool :=
  let d := (s.block f).dioOf c
  dioOut f c s && dioDemand f c s && !d.overload && !d.overTemp && !(s.block f).uv

/-- The demand of pair `j`; forced to 0 as its switches are safety-marked (R411, R429). -/
def soDemand (f j : Nat) (s : State) : Bool :=
  let b := s.block f
  !b.forcing && !b.trip && b.dSo.getLsbD j

/-- The pair holds its switches on. -/
def SoState.isOn : SoState → Bool
  | .starting => true | .on => true | _ => false

/-- The demand in force for load switch `i` (R423). -/
def lsDemand (f i : Nat) (s : State) : Bool :=
  let b := s.block f
  if lsPaired f i s then (b.soOf (i / 2)).st.isOn
  else if b.forcing then b.fsLs.getLsbD i && !lsSafety f i s
  else if b.trip && lsSafety f i s then false
  else b.dLs.getLsbD i

/-! ### Inputs -/

/-- The filtered level of DIO `c` as the block reports it: an input with its wire-break flag set reads 0 (R416). -/
def dioRead (f c : Nat) (s : State) : Bool :=
  let d := (s.block f).dioOf c
  d.level && !(dioWb f c s && d.wireBreak)

/-- Feedback input `x` of a pair with polarity `pol` shows the contactor released; an input of 127 always agrees (R427). -/
def fbReleased (f x : Nat) (pol : Bool) (s : State) : Bool := dioRead f x s != pol

/-- Every named input of pair `j` shows what is expected: released or operated. -/
def soAgrees (f j : Nat) (released : Bool) (s : State) : Bool :=
  let r := fldReg f (0x404 + 0x10 * j)
  let one := fun x => x == 127 || (fbReleased f x (cbit r 15 s) s == released)
  one (cf r 6 0 s) && one (cf r 14 8 s)

/-! ### Load switches (R423, R425) -/

def LsState.conducts : LsState → Bool
  | .inrush => true | .on => true | .limit => true | _ => false

/-- The inrush window of switch `i` in ns. -/
def inrushNs (f i : Nat) (s : State) : Nat := 1_000_000 * max 1 (cf (fldReg f (0x300 + 4 * i)) 21 12 s)

def lsOff (f i : Nat) (s : State) : State := setLs f i (fun l => { l with st := .off, u := 0 }) s

/-- Switch `i` turns on into a new inrush window. -/
def lsOn (f i : Nat) (s : State) : State := setLs f i (fun l => { l with st := .inrush, inrushAt := s.now, condAt := s.now }) s

/-- Demand and under-voltage act on switch `i` (R423). -/
def lsEval (f i : Nat) (s : State) : State :=
  let uv := (s.block f).uv
  let d := lsDemand f i s
  match ((s.block f).lsOf i).st with
  | .off => if d && !uv then lsOn f i s else s
  | .cooling => if d then s else lsOff f i s
  | .latched => if d then s else setLs f i (fun l => { l with u := 0 }) s
  | .undervolt => if !d then lsOff f i s else if uv then s else lsOn f i s
  | _ => if !d then lsOff f i s else if uv then setLs f i (fun l => { l with st := .undervolt }) s else s

def lsEvalAll (f : Nat) (s : State) : State := (List.range 8).foldl (fun s i => lsEval f i s) s

/-! ### Safety output pairs (R427 to R432) -/

/-- The pair takes a state; a pulse in progress ends without evaluation, and the feedback count restarts where the
expectation changes. -/
def soSet (f j : Nat) (st : SoState) (s : State) : State :=
  setSo f j (fun p => { p with
    st := st, pulse := none, readBack := false, waitA := false, waitB := false
    fbRun := if p.st.isOn = st.isOn then p.fbRun else 0 }) s

/-- The pair enters FAULT; event source 164 + k (R429). -/
def soFault (f j cause code : Nat) (args : List Nat) (s : State) : State :=
  let s1 := setSo f j (fun p => { p with cause := cause, lastCode := code, fbRun := 0 }) (soSet f j .fault s)
  raise (164 + 4 * f + j) (blkRecord f code (j :: args) (lsEval f (2 * j + 1) (lsEval f (2 * j) s1)))

/-- The OFF rows of R429 with the demand in force; in under-voltage STARTING goes on to UNDERVOLT at once. -/
def soOffRows (f j : Nat) (s : State) : State :=
  if !soDemand f j s then s
  else if soAgrees f j true s then
    lsEval f (2 * j + 1) (lsEval f (2 * j) (soSet f j (if (s.block f).uv then .undervolt else .starting) s))
  else soFault f j 2 0x4041 [] s

/-- Demand and under-voltage act on pair `j`; `applied`: a released demand has just been applied (R429). -/
def soEval (f j : Nat) (applied : Bool) (s : State) : State :=
  let uv := (s.block f).uv
  let d := soDemand f j s
  if ((s.block f).soOf j).st = .interlock then
    (if applied && !(s.block f).dSo.getLsbD j then soSet f j .off s else s)
  else if !soEnabled f j s then s
  else match ((s.block f).soOf j).st with
    | .off => soOffRows f j s
    | .starting => if !d then soSet f j .stopping s else if uv then soSet f j .undervolt s else s
    | .on => if !d then soSet f j .stopping s else if uv then soSet f j .undervolt s else s
    | .stopping => s
    | .fault => s
    | .interlock => s
    | .undervolt => s

/-- The supply of pair `j` is back: with every named input released it leaves UNDERVOLT at once, else at a check sample (R429). -/
def soRestore (f j : Nat) (s : State) : State :=
  if soEnabled f j s = true ∧ ((s.block f).soOf j).st = .undervolt ∧ soAgrees f j true s = true then soOffRows f j (soSet f j .off s)
  else s

/-- Everything in block `f` follows its demands. -/
def evalBlock (f : Nat) (applied : Bool) (s : State) : State :=
  let s1 := lsEvalAll f ((List.range 4).foldl (fun s j => soEval f j applied s) s)
  -- an output that has just been driven low counts its 10 ms from now (R418)
  (List.range 24).foldl (fun s c =>
    let on := dioDriven f c s
    let d := (s.block f).dioOf c
    if on && d.lowSince != 0 then setDio f c (fun d => { d with lowSince := 0 }) s
    else if !on && d.lowSince == 0 then setDio f c (fun d => { d with lowSince := max 1 s.now }) s
    else s) s1

/-- A postponed or waiting pulse starts once both switches are ON (R430). -/
def startWaiting (f j : Nat) (s : State) : State :=
  let b := s.block f
  let p := b.soOf j
  let bothOn := decide ((b.lsOf (2 * j)).st = .on ∧ (b.lsOf (2 * j + 1)).st = .on)
  if p.st = .on ∧ p.pulse = none ∧ bothOn = true then
    if p.waitA then setLs f (2 * j) (fun l => { l with st := .pulse }) (setSo f j (fun p => { p with waitA := false, pulse := some (false, s.now), readBack := false }) s)
    else if p.waitB then setLs f (2 * j + 1) (fun l => { l with st := .pulse }) (setSo f j (fun p => { p with waitB := false, pulse := some (true, s.now), readBack := false }) s)
    else s
  else s

/-! ### Diagnostics (R418) -/

/-- A diagnostic code of DIO `c`, once per channel, code and cycle; outside RUN and DEGRADED no cycle gathers it; event source 156 + f. -/
def dioRecord (f c code : Nat) (s : State) : State :=
  raise (156 + f) (if gathers s && ((s.block f).dioOf c).recorded.contains code then s
    else blkRecord f code [c] (setDio f c (fun d => { d with recorded := code :: d.recorded }) s))

/-- CLEAR of overload and over-temperature of output `c`: once it has been low for 10 ms and its junction has cooled. -/
def dioClear (f c : Nat) (excess hot : Bool) (s : State) : State :=
  let d := (s.block f).dioOf c
  let low := d.lowSince != 0 && fclkPassed d.lowSince 10_000_000 s
  evalBlock f false (setDio f c (fun d => { d with
    overload := d.overload && !(excess && low)
    overTemp := d.overTemp && !(hot && low && !d.hot) }) s)

/-! ### Field commands (R435) -/

/-- The reason for which a field command is refused, 0 for none. `dem`: the pair demands of the same release. -/
def fieldReason (f : Nat) (q : Post) (dem : Word) (s : State) : Nat :=
  let code := bits 31 24 q.a.toNat
  let ch := bits 7 0 q.a.toNat
  let b := q.b.toNat
  let c := q.c.toNat
  let fields := decide (bits 23 18 q.a.toNat = 0 ∧ bits 15 8 q.a.toNat = 0)
    && (if code = 2 then decide ((b = 0 ∨ (20 ≤ b ∧ b ≤ 1_000_000)) ∧ c ≤ b) else code == 3 && b == 0 && c == 0)
  let dio := decide (ch < 24)
  let ls := decide (0x20 ≤ ch ∧ ch < 0x28)
  let so := decide (0x40 ≤ ch ∧ ch < 0x44)
  let blk := s.block f
  let forced := blk.forcing
  if !fields then 1
  else if code = 2 then
    if !dio || !dioOut f ch s then 2 else if forced then 3 else if dioSafety f ch s then 4 else 0
  else if dio then (if !dioOut f ch s then 2 else if forced then 3 else 0)
  else if ls then (if lsPaired f (ch - 0x20) s then 2 else if forced then 3 else 0)
  else if so then (if !soEnabled f (ch - 0x40) s then 2 else if dem.getLsbD (ch - 0x40) || forced then 3 else 0)
  else 2

/-- CLEAR of a load switch (R423 to R425). -/
def clearLs (f i : Nat) (s : State) : State :=
  let l := (s.block f).lsOf i
  if l.st = .latched then lsEval f i (blkRecord f 0x4032 [i] (setLs f i (fun l => { l with st := .off, u := 0 }) s))
  else setLs f i (fun l => { l with u := 0 }) s

/-- CLEAR of a pair: FAULT to OFF; its latched switches with it (R429). -/
def clearSo (f j : Nat) (s : State) : State :=
  if ((s.block f).soOf j).st = .fault then
    let s1 := setSo f j (fun p => { p with cause := 0, lastCode := 0x4044 }) (soSet f j .off s)
    raise (164 + 4 * f + j) (blkRecord f 0x4044 [j] (lsOff f (2 * j + 1) (lsOff f (2 * j) s1)))
  else s

/-- A field command takes effect at block `f`, or is refused with 0x4050 and event source 184 (R435). -/
def fieldCommand (f : Nat) (dem : Word) (q : Post) (s : State) : State :=
  let ch := bits 7 0 q.a.toNat
  match fieldReason f q dem s with
  | 0 =>
    if bits 31 24 q.a.toNat = 2 then
      setDio f ch (fun d => { d with pwm := if q.b = 0 then none else some (q.b.toNat, q.c.toNat) }) s
    else if ch < 24 then dioClear f ch true true s
    else if ch < 0x40 then clearLs f (ch - 0x20) s
    else clearSo f (ch - 0x40) s
  | r => raise 184 (blkRecord f 0x4050 [r] s)

/-! ### Two-channel pairs (R419) -/

def pairReg (f j : Nat) : Nat := fldReg f (0x200 + 4 * j)
def pairOn (f j : Nat) (s : State) : Bool := cbit (pairReg f j) 31 s

/-- The pair's configuration is invalid: t_d out of range, or a channel that is no input. -/
def pairBad (f j : Nat) (s : State) : Bool :=
  pairOn f j s && (decide (cf (pairReg f j) 10 0 s = 0 ∨ 2000 < cf (pairReg f j) 10 0 s) || dioOut f (2 * j) s || dioOut f (2 * j + 1) s)

/-- x of both channels: the channel shows its active value. -/
def pairX (f j : Nat) (s : State) : Bool × Bool :=
  (dioRead f (2 * j) s, dioRead f (2 * j + 1) s != cbit (pairReg f j) 30 s)

/-- One check sample of pair `j`. -/
def pairCheck (f j : Nat) (s : State) : State :=
  if !pairOn f j s || pairBad f j s then s
  else
    let p := look ({} : TwoPair) j (s.block f).pairs
    let x := pairX f j s
    let c := if x.1 == x.2 then 0 else min (p.c + 1) 8001
    let hit := decide (c = 4 * cf (pairReg f j) 10 0 s + 1)
    let idle := !x.1 && !x.2
    let p1 := { p with c := c, latched := (p.latched || hit) && !idle, armed := (p.armed && !hit) || idle }
    let s1 := setBlock f (fun b => { b with pairs := put j p1 b.pairs }) s
    let s2 := if hit && !p.latched then raise (156 + f) (blkRecord f 0x4020 [j] s1) else s1
    if p.latched && idle then blkRecord f 0x4021 [j] s2 else s2

/-- The value of pair `j` at a frame sample instant. -/
def pairValue (f j : Nat) (s : State) : Bool :=
  let p := look ({} : TwoPair) j (s.block f).pairs
  let x := pairX f j s
  let wb := fun c => dioWb f c s && ((s.block f).dioOf c).wireBreak
  pairOn f j s && !pairBad f j s && x.1 && x.2 && p.armed && !p.latched && !wb (2 * j) && !wb (2 * j + 1)

/-! ### Field-block reset (R413) -/

/-- The wheel heads of block `f` are not ready while it is in reset or isolated, and their systems are not renewed (R385, R400). -/
def headsNotReady (f : Nat) (s : State) : State :=
  (List.range 4).foldl (fun s j =>
    headNotReady (4 * f + j) false 0 0 (setHead (4 * f + j) (fun h => { h with sysA := 0, sysB := 0, freeSince := none }) s)) s

/-- The reset begins: channel state machines, retry counters, latches, pair states and wheel history are cleared, retention
registers kept; the block holds its fail-safe states and the link check runs. -/
def beginFieldReset (f : Nat) (s : State) : State :=
  let s1 := setBlock f (fun b => { b with
    dio := b.dio.map (fun p => (p.1, { raw := p.2.raw, level := p.2.level, recorded := p.2.recorded }))
    pairs := [], ls := [], so := [], wfe := b.wfe.map (fun p => (p.1, { p.2 with samples := [] }))
    dDio := 0, dLs := 0, dSo := 0, cmds := [], words := none, carried := [], resetAt := some s.now, link := 1 }) (headsNotReady f s)
  evalBlock f false (raise (144 + f) (blkRecord f 0x4004 [] s1))

/-- A field-block reset is applied to a fitted block that is not isolated; 0x9030 with a kind that LKP_CAUSE gives no number (R413, R525;
log entry 3). -/
def applyFieldReset (f cause : Nat) (s : State) : State :=
  if s.fldFitted f = true ∧ (s.block f).isolated = false then
    let d := s.draw 32
    beginFieldReset f (record 0x9030 [d.1.toNat, cause] d.2)
  else s

/-- The lock-keeper applies a field-block reset when it learns of a forcing, a silence or a failed self-check: in COMMISSION,
RUN and DEGRADED only (R32, R406, R407, R409). -/
def askFieldReset (f cause : Nat) (s : State) : State :=
  if (s.keep.mode = .commission ∨ s.keep.mode = .run ∨ s.keep.mode = .degraded) ∧ (s.block f).resetAt = none then applyFieldReset f cause s
  else s

/-- The trip line of block `f` is low (R410). -/
def tripLineLow (f : Nat) (s : State) : Bool := s.seq.tripFlop || s.keep.tripLow || (s.block f).lineLow

/-! ### The field record (R436) -/

/-- Feedback input fb_a, or fb_b, of pair `j` shows the contactor released; 0 for an input of 127. -/
def soReleased (f j : Nat) (second : Bool) (s : State) : Bool :=
  let r := fldReg f (0x404 + 0x10 * j)
  let x := if second then cf r 14 8 s else cf r 6 0 s
  x != 127 && fbReleased f x (cbit r 15 s) s

def mask (n : Nat) (p : Nat → Bool) : Nat := (List.range n).foldl (fun x i => x + (if p i then 2 ^ i else 0)) 0

/-- Words 0 to 19 as an inbound frame carries them, but the stamp. -/
def blockWords (f : Nat) (s : State) : Tab Word :=
  let b := s.block f
  let dio := fun p => mask 24 (fun c => p (b.dioOf c))
  let ws : List Nat :=
    [mask 24 (fun c => dioRead f c s), mask 12 (fun j => pairValue f j s), dio Dio.overload, dio Dio.overTemp, dio Dio.openWire,
     dio Dio.wireBreak, mask 12 (fun j => (look ({} : TwoPair) j b.pairs).latched) + 2 ^ 16 * mask 12 (fun j => pairBad f j s),
     (List.range 8).foldl (fun x i => x + (b.lsOf i).st.code * 16 ^ i) 0, mask 8 (fun i => (b.lsOf i).openLoad),
     (List.range 4).foldl (fun x j => let p := b.soOf j
       x + (p.st.code + 16 * b2n (soReleased f j false s) + 32 * b2n (soReleased f j true s) + 64 * p.cause) * 256 ^ j) 0,
     (List.range 4).foldl (fun x j => let w := look ({} : FrontEnd) j b.wfe
       x + (w.a.report + 4 * w.b.report + 16 * (if w.a.report = 0 then w.a.cause else if w.b.report = 0 then w.b.cause else 0)) * 256 ^ j) 0,
     b2n (b.link == 2) + 2 * b2n b.uv + 4 * b2n b.trip + 8 * b2n b.forced
       + 16 * b2n ((List.range 4).any (fun j => soEnabled f j s && (b.soOf j).st == .interlock)),
     sat 65535 b.vfield + 2 ^ 16 * (BitVec.ofInt 16 b.temp).toNat, 0, 0, b.lastCode + 2 ^ 16 * (b.inSeq % 2 ^ 16)]
    ++ (List.range 4).map (fun w => sat 65535 (b.lsOf (2 * w)).current + 2 ^ 16 * sat 65535 (b.lsOf (2 * w + 1)).current)
  (ws.zipIdx).foldl (fun t p => if p.1 = 0 then t else put p.2 (w32 p.1) t) []

end Sys2Proof.Machine
end

