-- ==== Sys2Proof/Machine/TriadOps.lean ====
section
/-!
DEFINITION. The triad: members and peers, receiving a frame, links, contributions, the choice of contributions, word agreement, merges,
alignment, membership (R206 to R250).
-/
namespace Sys2Proof.Machine

/-! ### Departure -/

/-- A code whose payload ends in a reason, a number the spec does not give: a free value (log entry 3). -/
def recordReason (code : Nat) (args : List Nat) (s : State) : State :=
  let d := s.draw 32
  record code (args ++ [d.1.toNat]) d.2

/-- A peer is lost; the loss takes effect at the next cycle boundary (R239). -/
def losePeer (x : Nat) (s : State) : State := setPeer x (fun q => { q with lostDue := some 0 }) s

/-- The member leaves the triad with `code` and NOTICE, and enters HOLD (R242). -/
def departTriad (code : Nat) (s : State) : State := enterHold code (leaveTriad code (record code [] s))

/-- The member leaves without a NOTICE: the rows of R242 for PAIR and JOINING that R237 takes out. -/
def departSilent (code : Nat) (s : State) : State := enterHold code (setTri .out (record code [] s))

/-! ### Links (R209 to R211, R243) -/

/-- The link goes down while block lock holds, and everything it holds is discarded; 0x5816, event source 219. The peer behind it is lost;
between two members that are both linked to the third, the higher-indexed one leaves (R239, R243). -/
def tpDown (p : Nat) (s : State) : State :=
  let q := s.tp p
  let x := s.peerOf p
  let y := s.peerOf (1 - p)
  let s1 := setTp p (fun q => { state := min 1 q.state, retx := q.retx, crc := q.crc, late := q.late, viol := q.viol }) s
  if q.state = 2 then raise 219 s1
  else if q.state = 3 then
    let s2 := losePeer x (raise 219 (record 0x5816 [p] s1))
    if s.tri.state = .triad ∧ (s.peer x).present = true ∧ (s.peer y).present = true ∧ (s.tp (1 - p)).state = 3 ∧ x < s.member then
      departTriad 0x5806 s2
    else s2
  else s1

/-- The link goes down with its block lock. -/
def tpOff (p : Nat) (s : State) : State :=
  if (s.tp p).state = 0 then s
  else
    let s1 := tpDown p s
    setTp p (fun q => { q with state := 0 }) (if (s.tp p).state = 1 then raise 219 s1 else s1)

def tpViolation (p code : Nat) (s : State) : State :=
  record code [p] (setTp p (fun q => { q with viol := sat 0xFFFF (q.viol + 1) }) s)

def tpLate (p : Nat) (s : State) : State := setTp p (fun q => { q with late := sat 0xFFFF (q.late + 1) }) s

/-- A frame that is discarded with no code is counted. -/
def tpDiscard (p : Nat) (s : State) : State := setTp p (fun q => { q with crc := sat 0xFFFF (q.crc + 1) }) s

/-! ### Retransmission and acknowledgement (R216, R217) -/

/-- Every frame from place `i` of the buffer on is sent again, with the present ack, at the priority of its type; a frame that has been
retransmitted 3 times takes the link down. -/
def tpRetransmit (p i : Nat) (s : State) : State :=
  let q := s.tp p
  let again := q.buffer.drop i
  if again.any (fun b => decide (3 ≤ b.retx)) then tpDown p s
  else
    let fresh := again.map (fun b => { b with
      frame := { b.frame with ack := q.rxSeq.getD 0xFFFF_FFFF, tsend := s.replica .nclk }, sentAt := s.now, retx := b.retx + 1 })
    let order := sortBy (fun a b => decide (tpPriority a.frame.typ ≤ tpPriority b.frame.typ)) fresh
    let s1 := setTp p (fun q => { q with
      buffer := q.buffer.take i ++ fresh, retx := sat 0xFFFF (q.retx + fresh.length), ackDue := none }) s
    { s1 with tri := { s1.tri with sent := s1.tri.sent ++ order.map (fun b => (p, b.frame)) } }

/-- An ack of `a` arrives, which one that is older than the last leaves as it was; `again`: it came in an ACK frame, where a repeated value asks for retransmission. -/
def tpAcked (p : Nat) (a : Word) (again : Bool) (s : State) : State :=
  let q := s.tp p
  let last := q.acked.getD 0xFFFF_FFFF
  if a = last then (if again ∧ q.buffer ≠ [] then tpRetransmit p 0 s else s)
  else if 2 ^ 31 ≤ (a - last).toNat then s
  else
    let n := (q.buffer.filter (fun b => decide ((a - b.frame.seq).toNat < 2 ^ 31))).length
    tpDrain p 64 (setTp p (fun q => { q with acked := some a, buffer := q.buffer.drop n }) s)

/-- The ack names a frame that was never sent. -/
def ackUnsent (q : TpPort) (a : Word) : Bool :=
  if q.wrapped then decide (2 ^ 31 ≤ (q.txSeq - 1 - a).toNat) else decide (a ≠ 0xFFFF_FFFF ∧ q.txSeq.toNat ≤ a.toNat)

/-- The snapshot request bit of an accepted frame is acted on (R215). -/
def heedSnap (w : WireFrame) (s : State) : State := if towSnap w && cbit 0x0900_0000 3 s then triggerSnapshot 8 false s else s

/-- A frame is received on TPp by the command of type `typ`: the checks of R250 in the order of its table, the sequence check of R216, then
`k`. An intact frame of another type is not this command's. -/
def tpReceive (p typ : Nat) (w : WireFrame) (k : State → State) (s0 : State) : State :=
  let s := advance w.arrive s0
  let q := s.tp p
  let x := s.peerOf p
  if q.state = 0 ∨ s.tri.state = .off ∨ netWorks s = false then s
  else if !towIntact w then tpSend p tAck [] (tpDiscard p s)
  else if towTypeDefined (towType w) && towType w != typ then s
  else if !towFormOk w then tpSend p tAck [] (tpViolation p 0x5810 s)
  else if towTriad w ≠ s.triadId then losePeer x (tpViolation p 0x5811 s)
  else if towSender w ≠ x ∨ towReceiver w ≠ s.member then losePeer x (tpViolation p 0x5812 s)
  else if ackUnsent q (towAck w) then tpDown p (tpViolation p 0x5815 s)
  else
    let s1 := setTp p (fun q => { q with lastValid := s.now, peer := towSender w }) s
    if typ = tAck then k (heedSnap w (tpAcked p (towAck w) true s1))
    else
      let expect := (q.rxSeq.map (· + 1)).getD 0
      if towSeq w = expect then
        let s2 := setTp p (fun q => { q with rxSeq := some (towSeq w), ackDue := some (q.ackDue.getD (s.now + 2_000)) }) s1
        k (heedSnap w (tpAcked p (towAck w) false s2))
      else if (towSeq w - expect).toNat < 2 ^ 31 then tpSend p tAck [] (tpDiscard p s1)
      else tpDiscard p s1

/-- A cycle frame of a present peer, or of a joiner in probation, with the MCC of the own cycle reaches `k`; another MCC makes the peer absent
in this cycle (R250), and only `other` happens; frames of a peer that is lost are ignored (R240). -/
def cycleFrame (p typ : Nat) (w : WireFrame) (k : State → State) (s : State) (other : State → State := id) : State :=
  tpReceive p typ w (fun s =>
    let x := s.peerOf p
    if !(triadActive s && cycleTo x s) then s
    else if towMcc w ≠ s.seq.mcc ∨ s.seq.captured = false then
      other (setPeer x (fun q => { q with wrong := true }) (tpViolation p 0x5813 s))
    else k s) s

/-! ### Contributions (R222 to R224) -/

/-- The byte offset in the logic SRAM where the contribution of member `m` is kept. -/
def contribBase (m : Nat) : Nat := imageInBase + 0x2_0000 + 0x8000 * m

/-- Bytes of the logic SRAM from `a` on. -/
def sramBytes (a n : Nat) (s : State) : List Byte := (List.range n).map (fun i => memGet (sramDefault (a + i)) (a + i) s.sram)

/-- Bytes are written to the logic SRAM. -/
def sramPutBytes (a : Nat) (l : List Byte) (s : State) : State :=
  { s with sram := (l.zipIdx).foldl (fun m p => memPut (sramDefault (a + p.2)) (a + p.2) p.1 m) s.sram }

/-- Word `o / 4` of the contribution of member `m`, most significant byte first. -/
def contribWord (m o : Nat) (s : State) : Nat := ofBe (sramBytes (contribBase m + o) 4 s)

def contribHash (m : Nat) (s : State) : List Byte := sha256 (sramBytes (contribBase m) (s.peer m).total s)

/-- Retired cores C0 to C31, and C32 to C63. -/
def retiredWord (hi : Nat) (s : State) : Nat :=
  (List.range 32).foldl (fun x i => x + (if (look ({} : Core) (32 * hi + i) s.cores).retired then 2 ^ i else 0)) 0

def TriState.code : TriState → Nat
  | .off => 0 | .forming => 1 | .triad => 2 | .pair => 3 | .joining => 4 | .out => 5

/-- Mode of the image header: 2 RUN, 3 DEGRADED (R68). -/
def headerMode (s : State) : Nat := if s.keep.mode = .degraded then 3 else 2

/-- The four words of an entry of the batch (R315). -/
def BatchEntry.words (e : BatchEntry) : List Nat :=
  [e.obj + 2 ^ 20 * e.berth + 2 ^ 24 * e.disposition, e.code + 2 ^ 16 * e.rank + 2 ^ 24 * e.member, e.arg0.toNat, e.arg1.toNat]

/-- The own contribution (R222). -/
def ownContribution (s : State) : List Byte :=
  let words := fun lo n => (List.range n).flatMap (fun i => be 4 (imageIn (lo + i) s).toNat)
  be 8 s.seq.mcc ++ be 8 s.seq.start
    ++ [headerMode s, b2n s.seq.stale, s.seq.notFresh.toNat, s.bth.batch.length, retiredWord 0 s, retiredWord 1 s,
        s.seq.batchRefused, s.tri.state.code].flatMap (be 4) ++ zeros 16
    ++ words 0x400 1024 ++ words 0x800 768 ++ words 0xC00 512
    ++ be 4 s.bth.batch.length ++ zeros 12 ++ s.bth.batch.flatMap (fun e => e.words.flatMap (be 4))

/-- The chunks of up to 2,040 bytes in which data of `total` bytes travels, each with its header. -/
def chunks : Nat → Nat → Nat → List Byte → List (List Byte)
  | 0, _, _, _ => []
  | n + 1, o, total, l =>
    if l = [] then [] else (be 4 o ++ be 4 total ++ l.take 2040) :: chunks n (o + 2040) total (l.drop 2040)

/-- The own contribution is formed, kept, and sent. -/
def contribute (s : State) : State :=
  let c := ownContribution s
  let s1 := setPeer s.member (fun q => { q with total := c.length, ranges := [(0, c.length)], contribMcc := s.seq.mcc, complete := true })
    (sramPutBytes (contribBase s.member) c s)
  (chunks 13 0 c.length c).foldl (fun s x => sendCycle tContrib x s) s1

/-! ### Relay sets (R231, R232) -/

def relayHash (l : List Relay) : List Byte := sha256 (l.flatMap relayPayload)

/-- The relay set of member `x` in the cycle, and whether its CUT is held. -/
def relaySet (x : Nat) (s : State) : Bool × List Relay :=
  if x = s.member then (s.tri.ownCut, s.tri.ownRelays) else ((s.peer x).cut, (s.peer x).relays)

/-- The own INBOX swap closes the own set; CUT follows the relays of the set (R231). -/
def sendCut (s : State) : State :=
  let set := s.tri.ownRelaysNext
  let s1 := setTriF (fun t => { t with ownCut := true, ownRelays := set, ownRelaysNext := [] }) s
  sendCycle tCut (be 8 s.seq.mcc ++ be 4 set.length ++ zeros 4 ++ relayHash set) s1

/-! ### SUMMARY and the contributions used (R225, R226) -/

/-- What the SUMMARY says of member `x`. -/
def summaryOf (x : Nat) (s : State) : Nat × List Byte × List Byte :=
  let q := s.peer x
  let r := relaySet x s
  (b2n q.complete + 2 * b2n r.1, if q.complete then contribHash x s else zeros 32, if r.1 then relayHash r.2 else zeros 32)

/-- The SUMMARY is sent, once in a cycle; a JOINING member sends none (R248). -/
def sendSummary (s : State) : State :=
  if s.tri.summarised || s.tri.state == .joining then s
  else
    let body := (List.range 3).flatMap (fun x => let e := summaryOf x s; be 4 e.1 ++ e.2.1 ++ e.2.2) ++ zeros 4
    sendCycle tSummary body (setTriF (fun t => { t with summarised := true }) s)

/-- Everything is held: the SUMMARY leaves before the data deadline. -/
def trySummary (s : State) : State :=
  if s.seq.phase = .agree ∧ (contributors s).all (fun x => (s.peer x).complete && (relaySet x s).1) = true then sendSummary s else s

/-- The median of a list of at most three numbers, doubled: of two the mean. -/
def median2 (l : List Int) : Int :=
  match sortBy (fun a b => decide (a ≤ b)) l with
  | [] => 0
  | [a] => 2 * a
  | [a, b] => a + b
  | _ :: b :: _ => 2 * b

/-- The starts of the present members, relative to the own. -/
def starts (s : State) : List Int := 0 :: (presentPeers s).filterMap (fun x => (s.peer x).dev)

/-- Whether a start lies more than 2 µs from the reference (R221). -/
def outOfStep (d : Int) (s : State) : Bool := decide (4_000 < (2 * d - median2 (starts s)).natAbs)

/-- The start of the next cycle (R220), and which members are out of step (R221); quotients are rounded freely (log entry 39). -/
def align (s : State) : State :=
  let e32 := 16 * median2 (starts s)
  let r := divFree (e32 - s.tri.ePrev) 16 s
  let rate := s.tri.rate + r.1
  let lim : Int := 160 * s.seq.period
  let c := max (-lim) (min lim (e32 / 2 + rate))
  let own := outOfStep 0 s
  let peersNear := match (presentPeers s).filterMap (fun x => (s.peer x).dev) with
    | [a, b] => decide ((a - b).natAbs ≤ 2_000)
    | _ => false
  let dv := divFree (-(median2 (starts s))) 2 r.2
  let s1 := setTriF (fun t => { t with
    rate := rate, ePrev := e32, oos := own, oosRun := if own && peersNear then t.oosRun + 1 else 0, dev := dv.1 }) dv.2
  let s2 := (presentPeers s).foldl (fun s' x => setPeer x (fun q => { q with
    oos := match q.dev with | some d => outOfStep d s | none => false }) s') s1
  { s2 with seq := { s2.seq with nextStart := s.seq.start + 10_000 * s.seq.period + ((c + 31) / 32).toNat - ((-c) / 32).toNat } }

/-- The member uses the contribution of member `x` (R226); one that is itself out of step uses none (R225). -/
def uses (x : Nat) (s : State) : Bool :=
  let q := s.peer x
  let oos := s.tri.oos || (decide (x ≠ s.member) && q.oos)
  q.complete && q.contribMcc == s.seq.mcc && !oos && !q.wrong && !q.badContrib
  && s.others.all (fun y => match (s.peer y).summary with
      | none => true
      | some l => match l[x]? with
        | some e => e.1 % 2 == 1 && e.2.1 == contribHash x s
        | none => false)

/-- The choice is made: every unused contribution is recorded with 0x5809, event source 218; relay sets that differ with 0x5817 (R226,
R234). -/
def decideUsed (s : State) : State :=
  if s.tri.decided then s
  else
    let s0 := align s
    let used := (contributors s0).filter (fun x => uses x s0)
    let s1 := setTriF (fun t => { t with decided := true, used := BitVec.ofNat 3 ((used.map (2 ^ ·)).foldl (· + ·) 0) }) s0
    let s2 := (contributors s0).foldl (fun s x => if used.contains x then s else
      let t := if x = s.member then s else setTp (s.portTo x) (fun q => { q with viol := sat 0xFFFF (q.viol + 1) }) s
      raise 218 (recordReason 0x5809 [x] t)) s1
    s0.others.foldl (fun s y => match (s0.peer y).summary with
      | none => s
      | some l => (List.range 3).foldl (fun s x => match l[x]? with
        | some e => if bitAt 1 e.1 && (relaySet x s0).1 && e.2.2 != relayHash (relaySet x s0).2 then record 0x5817 [x] s else s
        | none => s) s) s2

def usedMembers (s : State) : List Nat := (List.range 3).filter (fun x => s.tri.used.getLsbD x)

/-! ### Agreement (R227 to R230) -/

/-- The value that R66 gives word `i` of IMAGE_IN for a source that is not fresh: of a fitted field block the diagnostic words hold
ones, every other word of the three areas is 0 (R436, R399, R400, R363). -/
def restrictiveWord (i : Nat) (s : State) : Nat :=
  if 0x400 ≤ i ∧ i < 0x800 then
    if s.fldFitted ((i - 0x400) / 0x100) then
      match i % 0x100 with
      | 2 => 0xFF_FFFF | 3 => 0xFF_FFFF | 4 => 0xFF_FFFF | 5 => 0xFF_FFFF | 6 => 0x0FFF_0FFF | 8 => 0xFF | _ => 0
    else 0
  else 0

/-- The words of the three areas: IMAGE_IN index and offset in the contribution. -/
def agreedWords : List (Nat × Nat) :=
  (List.range 1024).map (fun i => (0x400 + i, 0x40 + 4 * i)) ++ (List.range 768).map (fun i => (0x800 + i, 0x1040 + 4 * i))
    ++ (List.range 512).map (fun i => (0xC00 + i, 0x1C40 + 4 * i))

/-- The agreed value of a word from the values of the used contributions: the value, whether it took its restrictive value, and the
member outvoted (R227). -/
def agreeWord (vs : List (Nat × Nat)) (r : Nat) : Nat × Bool × Option Nat :=
  match vs with
  | [(_, a), (_, b)] => if a = b then (a, false, none) else (r, true, none)
  | [(i, a), (j, b), (k, c)] =>
    if a = b then (a, false, if b = c then none else some k)
    else if a = c then (a, false, some j)
    else if b = c then (b, false, some i)
    else (r, true, none)
  | _ => (r, true, none)

/-- The words of the three areas are agreed. -/
def agreeAreas (s : State) : State :=
  let us := usedMembers s
  let acc := agreedWords.foldl (fun (acc : State × Nat × Tab Nat × Nat) w =>
    let a := agreeWord (us.map (fun m => (m, contribWord m w.2 s))) (restrictiveWord w.1 s)
    (imageInSet w.1 (w32 a.1) acc.1, acc.2.1 + b2n a.2.1,
      (match a.2.2 with | some m => upd 0 m (· + 1) acc.2.2.1 | none => acc.2.2.1), acc.2.2.2 + b2n a.2.2.isSome)) (s, 0, [], 0)
  setTriF (fun t => { t with restrictive := acc.2.1, outvotedBy := acc.2.2.1, outvotedWords := acc.2.2.2 }) acc.1

/-- The image header and the member and agreement status of a triad member (R228, R229), but for the words formed as for a module
alone. -/
def agreeHeader (s : State) : State :=
  let us := usedMembers s
  let hw := fun m k => contribWord m (4 * k) s
  let ored := fun k => us.foldl (fun x m => x ||| hw m k) 0
  let first := us.head?
  let words : List (Nat × Nat) :=
    [(2, (first.map (fun m => hw m 3)).getD 0), (3, (first.map (fun m => hw m 2)).getD 0),
     (4, if us.any (fun m => hw m 4 == 3) then 3 else 2), (5, b2n (us.any (fun m => hw m 5 % 2 == 1)) + 2), (6, ored 6),
     (7, s.bth.batch.length), (9, ored 8), (10, ored 9), (11, sat 0xFFFF ((us.map (fun m => hw m 10)).foldl (· + ·) 0)),
     (0x40, s.tri.used.toNat + 2 ^ 16 * s.triadId), (0x41, s.tri.restrictive), (0x42, look 0 0 s.tri.outvotedBy),
     (0x43, look 0 1 s.tri.outvotedBy), (0x44, look 0 2 s.tri.outvotedBy), (0x45, s.tri.merged), (0x46, s.tri.slotsFilled)]
  let heads := us.flatMap (fun m => (List.range 16).map (fun k => (0x50 + 0x10 * m + k, hw m k)))
  (words ++ heads).foldl (fun s w => imageInSet w.1 (w32 w.2) s) s

/-- Entry `k` of the batch of member `m` as its contribution gives it; the gate's stamp of another member is not in it: a free value
(log entry 3). -/
def contribEntry (m k : Nat) (s : State) : BatchEntry × State :=
  let w := fun j => contribWord m (0x2450 + 16 * k + 4 * j) s
  let d := s.draw 64
  ({ obj := bits 19 0 (w 0), berth := bits 22 20 (w 0), code := bits 15 0 (w 1), rank := bits 23 16 (w 1), arg0 := w32 (w 2),
     arg1 := w32 (w 3), msg := none, place := 0, stamp := d.1.toNat, member := m }, d.2)

/-- The batch of member `m`. -/
def memberBatch (m : Nat) (s : State) : List BatchEntry × State :=
  if m = s.member then (s.bth.batch, s)
  else (List.range (contribWord m 0x2440 s % 2 ^ 16)).foldl (fun (acc : List BatchEntry × State) k =>
    let e := contribEntry m k acc.2
    (acc.1 ++ [e.1], e.2)) ([], s)

/-- The merged batch (R230); when the own contribution is not used, its commands are refused with 0x580A. -/
def mergeBatch (s : State) : State :=
  let us := usedMembers s
  let own := if us.contains s.member then [] else s.bth.batch
  let b := us.foldl (fun (acc : List BatchEntry × State) m => let r := memberBatch m acc.2; (acc.1 ++ r.1, r.2)) ([], s)
  let s1 := own.foldl (fun s e => answerEntry e
    { status := 0x580A, disposition := 4, released := false, mcc := s.seq.mcc, words := [0, 0, 0, 0] }
      (recordC 0x580A 0 1 (le 4 e.berth ++ le 4 e.obj) s)) b.2
  { s1 with bth := { s1.bth with batch := b.1 } }

/-! ### The INBOX merge (R232, R233, R235) -/

/-- Message `a` of member `i` is greater than the message in the slot. -/
def greaterMsg (a : Word) (i : Nat) (m : SlotMsg) : Bool :=
  newer a m.seq || (!newer m.seq a && decide (i < m.src))

/-- A relayed message of member `x` competes for its slot in the frozen buffer. -/
def mergeMsg (x : Nat) (r : Relay) (s : State) : State :=
  let t := s.net.table
  let wins := match (s.conn r.conn).frozen with | none => true | some m => greaterMsg r.seq x m
  if connDefined t r.conn && decide (r.words.length ≤ connS t r.conn) && wins then
    setConn r.conn (fun k => { k with frozen := some { seq := r.seq, src := x } })
      (sramFill (inboxBase s.seq.inboxFrozen + 4 * connSlot t r.conn) (connS t r.conn) r.words s)
  else s

/-- The used relay sets are merged into the frozen buffer. -/
def mergeInbox (s : State) : State :=
  let s1 := (presentPeers s).foldl (fun s x => if (s.peer x).cut then (s.peer x).relays.foldl (fun s r => mergeMsg x r s) s else s) s
  let n := (s1.net.conns.filter (fun p => match p.2.frozen with | some m => m.src != s1.member | none => false)).length
  setTriF (fun t => { t with slotsFilled := n }) s1

/-- The image digest (R235). -/
def imageDigest (s : State) : List Byte :=
  sha256 (sramBytes imageInBase 0x2_0000 s ++ (definedConns s.net.table).flatMap (fun c =>
    match (s.conn c).frozen with
    | none => be 2 c ++ [0xFF, 0] ++ be 4 0
    | some m => be 2 c ++ be 1 m.src ++ [0] ++ be 4 m.seq.toNat))

/-! ### Membership at a cycle boundary (R221, R239, R240, R242, R248) -/

/-- Every present peer's HELLO of the last 2 ms shows a view without this member (R240). -/
def excluded (s : State) : Bool :=
  !(presentPeers s).isEmpty && (presentPeers s).all (fun x =>
    let q := s.tp (s.portTo x)
    match q.helloAt with
    | some t => decide (s.now ≤ t + 2_000_000) && !bitAt s.member q.helloView
    | none => false)

/-- The loss of peer `x` takes effect (R239, R242). -/
def dropPeer (x : Nat) (s : State) : State :=
  let was := (s.peer x).present
  let s1 := setPeer x (fun _ => {}) s
  let s2 := setTriF (fun t => { t with
    members := t.members &&& ~~~(BitVec.ofNat 3 (2 ^ x)), joiner := if t.joiner = some x then none else t.joiner
    joinAt := if t.joiner = some x then none else t.joinAt }) s1
  if was = false ∧ s.tri.joiner ≠ some x then s1
  else
    let s3 := raise 217 (recordReason 0x5801 [x] s2)
    if was = false then s3
    else match s.tri.state with
      | .triad => enterDegraded 0x5801 (setTri .pair s3)
      | .pair => departTriad 0x5804 s3
      | .off => s3
      | .forming => s3
      | .joining => s3
      | .out => s3

/-- Losses that are due take effect, lower index first. -/
def dropLost (s : State) : State := s.others.foldl (fun s x => if (s.peer x).lostDue.isSome then dropPeer x s else s) s

/-- Member `x` leaves the own view. -/
def withoutMember (x : Nat) (s : State) : State :=
  setTriF (fun t => { t with members := t.members &&& ~~~(BitVec.ofNat 3 (2 ^ x)) }) s

/-- From cycle J + 17 on a joiner whose HASH has matched in 16 cycles is a member of the triad (R242, R248). -/
def endProbation (s : State) : State :=
  match s.tri.joinAt with
  | none => s
  | some J =>
    if s.seq.mcc + 1 < J + 17 then s
    else
      let clear := fun (s : State) => setTriF (fun t => { t with joinAt := none, joiner := none, probation := 0 }) s
      let passed := decide (16 ≤ s.tri.probation)
      if s.tri.state = .joining then
        (if passed then raise 220 (record 0x5824 [] (setTri .triad (clear s))) else s)
      else match s.tri.joiner with
        | none => s
        | some x =>
          if passed then setTri .triad (clear (setPeer x (fun q => { q with present := true }) s)) else clear (withoutMember x s)

/-- The triad at a cycle boundary: exclusion and departure out of step first, then losses, then the end of a probation. -/
def triadBoundary (s : State) : State :=
  if !triadActive s || !s.seq.captured then s
  else if excluded s then departTriad 0x5802 s
  else if s.lossLimit ≤ s.tri.oosRun then departTriad 0x5805 s
  else
    let s1 := dropLost s
    if s1.keep.mode = .hold then s1 else endProbation s1

/-- What the member holds of a cycle is cleared for the next one; the frames held since the last CUT wait for the next (R231). -/
def newTriadCycle (s : State) : State :=
  let s1 := s.others.foldl (fun s x => setPeer x (fun q => { q with
    dev := none, oos := false, wrong := false, total := 0, ranges := [], contribMcc := 0, complete := false, badContrib := false
    relays := [], cut := false
    summary := none, hash := none }) s) s
  setTriF (fun t => { t with
    ownCut := false, ownRelays := [], summarised := false, decided := false, used := 0, digest := [], digestReady := false, hashed := false
    merged := 0, matched := 0, restrictive := 0, outvotedWords := 0, outvotedBy := [], slotsFilled := 0 })
    (setPeer s.member (fun q => { q with total := 0, ranges := [], contribMcc := 0, complete := false, wrong := false }) s1)

/-! ### The release decision (R236, R237) -/

/-- A HASH frame, sent twice (R218). -/
def sendHash (ready : Bool) (s : State) : State :=
  let body := be 4 (b2n ready) ++ zeros 4 ++ (if ready then s.seq.outHash ++ s.tri.digest else zeros 64)
  sendCycle tHash body (sendCycle tHash body s)

/-- What a peer's HASH says: absent, matching or differing. A peer out of step or with a wrong MCC is absent, and every peer is to a member out
of step (R225, R237, R250). -/
inductive HashView where
  | absent | match_ | differ
  deriving DecidableEq, Repr

def hashOf (x : Nat) (s : State) : HashView :=
  let q := s.peer x
  match q.hash with
  | some (true, o, d) => if s.tri.oos || q.oos || q.wrong then .absent else if o = s.seq.outHash ∧ d = s.tri.digest then .match_ else .differ
  | some (false, _, _) => .absent
  | none => .absent

/-- The outcomes of R237. -/
inductive Verdict where
  | release | noRelease (code : Nat) | leave (code : Nat) | hold (code : Nat) | probation
  deriving DecidableEq, Repr

/-- R237: own state, the two peers' HASH frames, and whether the peers match each other. -/
def verdict (st : TriState) (a b : HashView) (peersMatch : Bool) : Verdict :=
  match st with
  | .triad =>
    match a, b with
    | .match_, .match_ => .release
    | .match_, .differ => .release
    | .differ, .match_ => .release
    | .differ, .differ => if peersMatch then .leave 0x5803 else .hold 0x5807
    | .absent, .match_ => .release
    | .match_, .absent => .release
    | .absent, .differ => .hold 0x5807
    | .differ, .absent => .hold 0x5807
    | .absent, .absent => .noRelease 0x5808
  | .pair =>
    match a, b with
    | .match_, _ => .release
    | _, .match_ => .release
    | .differ, _ => .hold 0x5807
    | _, .differ => .hold 0x5807
    | .absent, .absent => .noRelease 0x5808
  | .joining => if a = .match_ ∧ b = .match_ then .probation else .hold 0x5823
  | .off => .release
  | .forming => .noRelease 0x5808
  | .out => .noRelease 0x5808

/-- The HASH frames of the two peers in this cycle; one that is not a present peer counts absent. -/
def peerViews (s : State) : HashView × HashView :=
  let v := fun x => if (s.peer x).present then hashOf x s else HashView.absent
  (v ((s.member + 1) % 3), v ((s.member + 2) % 3))

def peersMatch (s : State) : Bool :=
  let q := s.peer ((s.member + 1) % 3)
  let r := s.peer ((s.member + 2) % 3)
  q.hash == r.hash

/-- A peer that was not used or showed no HASH was absent in the cycle; as often as the loss limit, it is lost (R239). -/
def countAbsent (s : State) : State :=
  (presentPeers s).foldl (fun s x =>
    let gone := !s.tri.used.getLsbD x || hashOf x s == .absent
    let n := if gone then (s.peer x).absent + 1 else 0
    setPeer x (fun q => { q with absent := n, lostDue := if s.lossLimit ≤ n then some 0 else q.lostDue }) s) s

/-! ### The state transfer (R246, R247) -/

/-- Bytes of one half of the state. -/
def xferTotalBytes : Nat := 2_359_296

/-- The committed value of record `n` at the end of the cycle: its NEW half. -/
def committedRecord (n : Nat) (s : State) : Word :=
  let half := 2 * n + s.seq.mcc % 2
  sramWord (4 * half) s

/-- A timer as it travels: its state at the start of the next cycle (R117). -/
def timerBytes (t : Nat) (s : State) : List Byte :=
  let T := look ({} : LTimer) t s.timers
  match T.next.getD T.started with
  | some m => be 8 (2 ^ 63 + m % 2 ^ 48)
  | none => zeros 8

/-- The half of the state that starts at record `r` and timer `t`. -/
def stateHalfBytes (r t : Nat) (s : State) : List Byte :=
  (List.range 524_288).flatMap (fun i => be 4 (committedRecord (r + i) s).toNat) ++ (List.range 32_768).flatMap (fun i => timerBytes (t + i) s)

/-- The hash of the whole state: records, then timers, in ascending order. -/
def stateHash (lo hi : List Byte) : List Byte :=
  let n := 4 * 524_288
  sha256 (lo.take n ++ hi.take n ++ lo.drop n ++ hi.drop n)

/-- A pair member sends its half to the joiner, then the hash of the whole state. -/
def sendTransfer (s : State) : State :=
  match s.tri.joiner with
  | none => s
  | some x =>
    if s.tri.state = .pair ∧ s.tri.joinAt = some s.seq.mcc then
      let lo := stateHalfBytes 0 0 s
      let hi := stateHalfBytes 524_288 32_768 s
      let lower := (presentPeers s).all (fun y => decide (s.member < y))
      let p := s.portTo x
      let s1 := (chunks 1_157 0 xferTotalBytes (if lower then lo else hi)).foldl (fun s c => tpSend p tXfer c s) s
      tpSend p tXfer (be 4 xferTotalBytes ++ be 4 xferTotalBytes ++ stateHash lo hi) s1
    else s

end Sys2Proof.Machine
end

