-- ==== Sys2Proof/Machine/CycleOps.lean ====
section
/-!
DEFINITION. The major cycle: assignment and budget, the records of the input image, the command batch, the output hash, hand-over,
housekeeping, cluster modes (R53 to R88, R189, R199, R203, R204, R315 to R319).
-/
namespace Sys2Proof.Machine

/-! ### Assignment and budget (R57, R73) -/

/-- Core `c` is in service. -/
def inService (c : Nat) (s : State) : Bool :=
  decide (c < s.coresFitted) && clusterMode (c / 8) s == 0 && !(s.core c).retired

def clusterCores (k : Nat) (s : State) : List Nat := ((List.range 8).map (8 * k + ·)).filter (fun c => inService c s)

/-- The runs of the objects on cluster `k`, in ascending object number. -/
def clusterRuns (k : Nat) (s : State) : List ObjRun :=
  (sortBy (fun a b => decide (a.first ≤ b.first)) (s.img.objects.filter (fun r => r.cluster == k))).map (fun r =>
    { first := r.first, count := r.count, typ := r.typ })

def runWeight (r : ObjRun) (s : State) : Nat := r.count * (typeEntry r.typ s).weight

/-- How many objects of a run of `count` objects of weight `w`, `c0` of weight before it, have an index below `j` among `n` cores, where
the cluster weighs `W` (R73). -/
def belowIndex (n W c0 w count j : Nat) : Nat :=
  if n * w = 0 then (if j * W ≤ n * c0 then 0 else count) else min count ((j * W - n * c0 + n * w - 1) / (n * w))

/-- The part of each run that falls to the core with index `j` of `n`. -/
def shareOf (n W j : Nat) (s : State) : Nat → List ObjRun → List ObjRun
  | _, [] => []
  | c0, r :: rs =>
    let w := (typeEntry r.typ s).weight
    let lo := belowIndex n W c0 w r.count j
    let hi := if j + 1 = n then r.count else belowIndex n W c0 w r.count (j + 1)
    let rest := shareOf n W j s (c0 + runWeight r s) rs
    if lo < hi then { first := r.first + lo, count := hi - lo, typ := r.typ } :: rest else rest

/-- The objects of core `c` (R73). -/
def coreShare (c : Nat) (s : State) : List ObjRun :=
  let cores := clusterCores (c / 8) s
  let rs := clusterRuns (c / 8) s
  if cores.contains c then shareOf cores.length ((rs.map (fun r => runWeight r s)).foldl (· + ·) 0) (cores.idxOf c) s 0 rs else []

/-- W(c) of a list of runs. -/
def loadOf (l : List ObjRun) (s : State) : Nat := (l.map (fun r => runWeight r s)).foldl (· + ·) 0

/-- Every core gets its objects (R73); the loads and W_max follow. -/
def assign (s : State) : State :=
  let shares := (List.range 64).map (fun c => (c, coreShare c s))
  let loads := shares.map (fun p => (p.1, loadOf p.2 s))
  let s1 := shares.foldl (fun s p => setCore p.1 (fun C => { C with objs := p.2 }) s) s
  { s1 with seq := { s1.seq with
    coreload := loads.filter (fun p => p.2 != 0), wmax := (loads.map Prod.snd).foldl max 0 } }

/-- The budget of R57 for W_max `w`, P and D_off in 10 µs units. -/
def budgetFits (w period reloff : Nat) : Bool :=
  decide (w ≤ period * 131_072 / 100 ∧ 270_000 + 5 * w ≤ 10_000 * reloff)

/-- The cycle budget fits the cores in service; a JOINED cluster without one does not fit (R57, R199). -/
def budgetOk (s : State) : Bool :=
  let w := ((List.range 64).map (fun c => loadOf (coreShare c s) s)).foldl max 0
  budgetFits w s.seq.period s.seq.reloff
    && (List.range s.clustersFitted).all (fun k => clusterMode k s != 0 || !(clusterCores k s).isEmpty)

/-! ### The cycle boundary (R123, R199, R203, R204) -/

/-- A code of the accord controller outside a vote: core, pass, segment and MCC, and LGC_ACC_LAST. -/
def accordMark (code c pass seg : Nat) (s : State) : State :=
  record code [c, pass, seg, s.seq.mcc % 2 ^ 32] { s with seq := { s.seq with
    lastPass := pass, lastCore := c, lastAccord := code, clLast := put (c / 8) code s.seq.clLast } }

/-- A code without a segment of its own: the segment number in the payload is a free value (log entry 3). -/
def accordRecord (code c pass : Nat) (s : State) : State :=
  let d := s.draw 32
  accordMark code c pass d.1.toNat d.2

/-- The contexts of core `c` stop, and its chamber, queues, checkpoints and SCRATCH area are cleared. -/
def clearCore (c : Nat) (s : State) : State :=
  let s1 := setCore c (fun C => { C with top := {}, heart := {}, base := {}, decided := 0, outvoted := [], objs := [] }) s
  sramClear (scratchBase c) (scratchBase c + 0xE000)
    { s1 with scratchTags := s1.scratchTags.filter (fun p => p.1 / 14_336 != c) }

/-- Cores to be retired are retired, the budget is tested, objects are reassigned, DEGRADED is entered (R199). -/
def retireCores (s : State) : State :=
  let cs := (List.range 64).filter (fun c => (s.core c).retiring)
  if cs = [] then s
  else
    let s1 := cs.foldl (fun s c =>
      let by_ := (s.core c).retireBy
      raise 21 (accordMark 0x1303 c by_.1 by_.2 (setCore c (fun C => { C with retired := true, retiring := false, lastCode := 0x1303 }) (clearCore c s)))) s
    if budgetOk s1 then enterDegraded 0x1303 (assign s1) else enterHold 0x1108 (record 0x1108 [] s1)

/-- A SPLIT context that has not reached ENDC is stopped with 0x1211; those of a SPLIT cluster are to start at the next EVALUATE
(R123). -/
def stopSplits (s : State) : State :=
  (List.range 64).foldl (fun s c =>
    if clusterMode (c / 8) s = 1 then
      (List.range 3).foldl (fun s k =>
        let s1 := if (s.split c k).run = .running then record 0x1211 [c, k, (s.split c k).pc.toNat] s else s
        setSplit c k (fun X => { X with run := .ended }) s1) s
    else s) s

/-- The cores of cluster `k` are scrubbed (R204). -/
def scrubCluster (k : Nat) (s : State) : State :=
  ((List.range 8).map (8 * k + ·)).foldl (fun s c =>
    let s1 := clearCore c (setCore c (fun C => { C with histTop := [], histHeart := [], histBase := [] }) s)
    (List.range 3).foldl (fun s j => setSplit c j (fun _ => {}) s) s1) s

/-- Cluster `k` is drained and scrubbed and is to take mode `m` (R204). -/
def beginHandover (k m : Nat) (s : State) : State :=
  let s1 := scrubCluster k s
  { s1 with seq := { s1.seq with clMode := put k 3 s1.seq.clMode, clTarget := put k m s1.seq.clTarget, clReq := del k s1.seq.clReq } }

/-- The hand-over of cluster `k` to `m` is a move of R203's table: SPLIT to unused, or unused to SPLIT. -/
def movesTo (k m : Nat) (s : State) : Bool := clusterMode k s == (if m = 2 then 1 else 2)

/-- Hand-overs that MAINTAIN has requested begin at the first CAPTURE after the request; one that finds the cluster's last hand-over still
in progress waits for it (R203; log entry 94). -/
def beginRequested (s : State) : State := s.seq.clReq.foldl (fun s p => if movesTo p.1 p.2 s then beginHandover p.1 p.2 s else s) s

/-- S(0) of a module alone: the first DTIME after the grant of RUN that is a multiple of 10,000 ns (R54). -/
def grantStart (s : State) : State :=
  if s.triadOn then s
  else { s with seq := { s.seq with nextStart := roundUp 10_000 (s.now + 1) } }

/-- The clusters take their declared modes at entry to RUN (R203). -/
def joinClusters (s : State) : State :=
  (List.range s.clustersFitted).foldl (fun s k => let m := s.img.modes.getD k 2; if m < 2 then beginHandover k m s else s) s

/-- The accord failure of a failed proof test, with its lane and path (R193). -/
def proofFault (f : ProofFail) (s : State) : State :=
  let c := 8 * f.cluster.val + f.lane.val
  let p := match f.path with | .heart => 1 | .base => 2
  accordFault c 0x1314 [c, p, (s.core c).oldest, s.seq.mcc % 2 ^ 32, f.lane, p - 1] s

/-- A proof test of cluster `k` (R189): its failure is an accord failure with lane and path (R193). -/
def proofTest (k : Nat) (fail : Option ProofFail) (s : State) : State :=
  let set := fun (ok : Bool) => { s with seq := { s.seq with
    proofOk := (s.seq.proofOk &&& ~~~(BitVec.ofNat 8 (2 ^ k))) ||| (if ok then BitVec.ofNat 8 (2 ^ k) else 0) } }
  match fail with
  | none => set true
  | some f =>
    if f.cluster.val = k then enterHold 0x1314 (proofFault f (set false)) else set true

/-! ### The records of the input image (R363, R399, R400, R436) -/

/-- The word of detector k: asserted, condition holding, configuration error, ms of the condition. -/
def detectorWord (k : Nat) (s : State) : Nat :=
  let d := (ssPass s).stand k
  packBits [(0, d.asserted), (1, d.cond), (2, ssCfgErr k s)] + 2 ^ 16 * (if d.cond then sat 0xFFFF ((s.now - d.since) / 1_000_000) else 0)

/-- The record of PCn (R399). -/
def chanRecordWords (n : Nat) (s : State) : List Nat :=
  let c := s.chan n
  let on := chanOn n s
  let w0 := packBits [(0, chanValid n s), (1, speedValid n s), (2, standBit n s), (3, c.neg), (4, c.fDir), (5, c.fWrap), (6, c.fIndex),
    (7, c.fLine), (8, c.freq), (9, c.bad && !cbit (pcReg n 0) 5 s)] + 2 ^ 16 * c.level
  let body := if on then
      [w0, c.count.toNat, if speedValid n s then (wInt (chanSpeed n s)).toNat else 0, c.index.toNat,
       sat 0xFFFF c.errQ + 2 ^ 16 * sat 0xFFFF c.errImp, packBits [(0, c.a), (1, c.b), (2, c.z)], c.lastCode]
    else [0, 0, 0, 0, 0, 0, 0]
  body ++ [0, 0, 0, 0, 0, 0, 0, if n < 8 then detectorWord n s else 0, 0]

/-- The word of section k. -/
def sectionWord (k : Nat) (s : State) : Nat :=
  let c := s.section_ k
  c.state.code + packBits [(2, c.fRefused), (3, c.fApplied)] + 16 * c.causes.toNat + 2 ^ 16 * c.occ

/-- The record of WCk (R400). -/
def headRecordWords (k : Nat) (s : State) : List Nat :=
  let h := s.head k
  let body := if k < s.headsFitted then
      [h.state + 16 * h.sysA + 64 * h.sysB + packBits [(8, h.fSeqErr), (9, h.satIn), (10, h.satOut)],
       (h.inCnt.setWidth 32 - h.outCnt.setWidth 32 : Word).toNat, 0, 0, h.inCnt.toNat, h.outCnt.toNat, h.lastCode, 0]
    else [0, 0, 0, 0, 0, 0, 0, 0]
  body ++ [sectionWord k s, 0, 0, 0, 0, 0, 0, 0]

/-- The position channel area. -/
def feedbackArea (s : State) : List Word :=
  ((List.range 32).flatMap (fun n => chanRecordWords n s) ++ (List.range 16).flatMap (fun k => headRecordWords k s)).map w32

/-- The record of AXn as its last servo slot published it; words 11 to 15 read 0 (R334, R363). -/
def axisRecordWords (n : Nat) (s : State) : List Word :=
  (List.range 16).map (fun i => if n < s.axesFitted then (s.axis n).status.getD i 0 else 0)

def motionArea (s : State) : List Word := (List.range 32).flatMap (fun n => axisRecordWords n s)

/-- The record of FBn from the frame taken (R436). -/
def fieldRecord (n : Nat) (s : State) : List Word :=
  match (s.block n).taken with
  | none => List.replicate 256 0
  | some fr => (List.range 256).map (fun i =>
      if i = 13 then w32 fr.stamp else if i = 14 then w32 (fr.stamp / 2 ^ 32) else if i < 20 then look 0 i fr.words else 0)

/-- What has been gathered under a once-per-cycle rule is recorded as the cycle ends (R275, R406). -/
def flushGathered (s : State) : State :=
  flushViolations ((List.range 4).foldl (fun s f => flushLinkErrors f s) (flushChannels s))

/-- An axis as its record is latched: what it counts since the last CAPTURE begins again, in what it has published too (R363). -/
def Axis.sinceCapture (a : Axis) : Axis :=
  { a with
    runDone := false, curMax := 0, refused := 0, applied := 0
    status := a.status.mapIdx (fun i w => if i = 0 then w &&& ~~~(w32 0x200) else if i = 6 ∨ i = 7 then w &&& w32 0xFFFF else if i = 10 then 0 else w) }

/-- What happened since the previous E_cap is cleared after the latch (R401, R363). -/
def clearHappenings (s : State) : State :=
  { s with
    fbk := { s.fbk with
      chans := s.fbk.chans.map (fun p => (p.1, { p.2 with
        fDir := false, fWrap := false, fIndex := false, fLine := false, errQ := 0, errImp := 0 }))
      heads := s.fbk.heads.map (fun p => (p.1, { p.2 with fSeqErr := false }))
      sections := s.fbk.sections.map (fun p => (p.1, { p.2 with fRefused := false, fApplied := false })) }
    mot := { s.mot with axes := s.mot.axes.map (fun p => (p.1, p.2.sinceCapture)) }
    fld := { s.fld with blocks := s.fld.blocks.map (fun p => (p.1, { p.2 with
      discarded := 0
      dio := p.2.dio.map (fun d => (d.1, { d.2 with recorded := [] })) })) } }

/-- Words are written to IMAGE_IN from word index `i` on. -/
def imageArea (i : Nat) (ws : List Word) (s : State) : State := sramArea (imageInBase + 4 * i) ws s

/-- The restrictive record of block n (R66, R436). -/
def staleField (n : Nat) (s : State) : State :=
  imageArea (0x400 + 0x100 * n) ((List.range 256).map (fun i => w32 (restrictiveWord (0x400 + 0x100 * n + i) s))) s

/-- The position channel area of feedback that is not fresh: the detectors and sections of every variant included. -/
def staleFeedback (s : State) : State := imageArea 0x800 (List.replicate 1024 0) s

/-- Sources that are not fitted (R66, R68). -/
def unfittedSources (s : State) : Nat :=
  packBits ((List.range 4).map (fun n => (n, !s.fldFitted n))) + packBits [(4, decide (s.axesFitted = 0 ∧ s.blocksFitted = 0)),
    (5, decide (s.axesFitted = 0))]

/-- Stamps of unrelated domains that differ by this or less, in ns, count as simultaneous (R37). -/
def simultaneous : Nat := 20

/-- The frame of block n taken at E_cap is fresh: its stamp lies after S(n) − 500 µs, and is not simultaneous with it (R37, R66; log entry
87). -/
def fieldFresh (n : Nat) (s : State) : Bool :=
  let b := s.block n
  s.fldFitted n && b.resetAt.isNone && !b.isolated
    && (match b.taken with | none => false | some f => decide (s.seq.start + simultaneous < f.stamp + 500_000))

/-- The connection status words: as the update formed them, or SAFE with no message; undefined connections read 3 (R263, R264). -/
def statusArea (fresh : Bool) (s : State) : List Word :=
  let t := definedConns s.net.table
  (List.range 8192).map (fun c => if t.contains c then (if fresh then (s.conn c).status else 0) else 3)

/-! ### The command batch (R64, R65, R71, R315 to R319) -/

/-- The order of a batch: ascending stamp, equal stamps in ascending berth number (R64). -/
def batchOrder (l : List BatchEntry) : List BatchEntry :=
  sortBy (fun a b => decide (a.stamp < b.stamp ∨ (a.stamp = b.stamp ∧ a.berth ≤ b.berth))) l

/-- The largest batch of a module alone and of a triad member (R65, R223). -/
def batchMax (s : State) : Nat := if s.triadOn then 1_024 else Config.batchLimit

/-- A command belongs to the batch of the cycle: its stamp lies before S(n), and is not simultaneous with it (R37, R64; log entry 87). -/
def inBatch (s : State) (e : BatchEntry) : Bool := decide (e.stamp + simultaneous < s.seq.start)

/-- The freeze mark closes the batch of the cycle; those beyond the limit are refused with 0x1104. -/
def takeBatch (s : State) : State :=
  let due := (batchOrder (s.bth.filling.filter (inBatch s))).map (fun e => { e with member := if triadActive s then s.member else 0 })
  let rest := s.bth.filling.filter (fun e => !inBatch s e)
  let excess := due.drop (batchMax s)
  let s1 := { s with
    bth := { s.bth with batch := due.take (batchMax s), filling := rest }
    seq := { s.seq with batchRefused := sat 0xFFFF excess.length } }
  let s2 := excess.foldl (fun s e => answerEntry e
    { status := 0x1104, disposition := 4, released := false, mcc := s.seq.mcc, words := [0, 0, 0, 0] }
      (recordC 0x1104 0 1 (le 4 e.berth ++ le 4 e.obj) s)) s1
  (List.range 8).foldl (fun s b => setBerth b (fun B => { B with filled := (rest.filter (fun e => e.berth == b)).length }) s) s2

/-- Entries with equal code and arguments (R316). -/
def sameCommand (a b : BatchEntry) : Bool := a.code == b.code && a.arg0 == b.arg0 && a.arg1 == b.arg1

/-- The disposition of entry `e` in place `i` of the batch: 0 active, 1 merged, 2 overruled, 3 conflict (R316). -/
def disposition (l : List BatchEntry) (i : Nat) (e : BatchEntry) : Nat :=
  let same := l.filter (fun x => x.obj == e.obj)
  let r := (same.map BatchEntry.rank).foldl min e.rank
  if r < e.rank then 2
  else
    let top := same.filter (fun x => x.rank == r)
    if top.all (fun x => sameCommand x e) then
      (if (l.take i).any (fun x => x.obj == e.obj && x.rank == r) then 1 else 0)
    else 3

/-- The final batch is resolved, and every entry is recorded with its disposition, 40 bytes each (R71, R316, R317, R449). -/
def resolveBatch (s : State) : State :=
  let l := s.bth.batch
  let r := l.zipIdx.map (fun p => { p.1 with disposition := disposition l p.2 p.1 })
  let s1 := { s with
    bth := { s.bth with batch := r, batchDone := true }
    seq := { s.seq with batchCount := l.length }
    tri := { s.tri with merged := (r.filter (fun e => e.disposition == 1)).length } }
  let s2 := r.foldl (fun s e => recordB (0x6200 + e.disposition) (e.words.flatMap (le 4) ++ le 8 e.stamp ++ le 4 s.seq.mcc) s) s1
  if r.any (fun e => e.disposition == 3) then raise 229 s2 else s2

/-- The batch in IMAGE_IN (R315). -/
def batchArea (s : State) : List Word :=
  let l := s.bth.batch
  let n := fun d => (l.filter (fun e => e.disposition == d)).length
  ([l.length, n 0 + 2 ^ 16 * n 1, n 2 + 2 ^ 16 * n 3, 0] ++ l.flatMap BatchEntry.words).map w32

/-- The entries of the batch are answered after the cycle, each by the gate that took it (R319). -/
def answerBatch (released : Bool) (s : State) : State :=
  let s1 := (s.bth.batch.zipIdx).foldl (fun s p =>
    answerEntry p.1 {
      status := if released then 0 else 0x6220, disposition := p.1.disposition, released := released, mcc := s.seq.mcc,
      words := if released then (List.range 4).map (fun j => outWord (0x3004 + 4 * p.2 + j) s) else [0, 0, 0, 0] } s) s
  { s1 with bth := { s1.bth with batch := [], batchDone := false } }

/-! ### EVALUATE (R74, R75, R112, R123) -/

/-- The first state of pass `p` in a cycle: the entry code with cleared registers, segment 0 open. -/
def startPass (p : Pass) (t : Nat) (s : State) : PassCtx :=
  { arch := { pc := BitVec.ofNat 20 s.img.entry }, run := .running, segs := [{ seg := 0 }], nextSlot := alignSlot p t }

/-- EVALUATE begins on every core in service, and on the contexts of SPLIT clusters, whose registers keep what they hold (R112, R123;
log entry 99). -/
def startEvaluate (s : State) : State :=
  let s1 := (List.range 64).foldl (fun s' c =>
    if inService c s then
      setCore c (fun C => { C with
        top := startPass .top s.cclk s, heart := startPass .heart s.cclk s, base := startPass .base s.cclk s,
        decided := 0, outvoted := [], posts := (0, 0, 0), completed := 0, segTop := 0, segBase := 0 }) s'
    else if clusterMode (c / 8) s = 1 then
      (List.range 3).foldl (fun s' k =>
        if (s.split c k).run = .ended then
          setSplit c k (fun X => { X with run := .running, pc := BitVec.ofNat 20 (((s.img.splitEntry.getD (c / 8) []).getD k 0)) }) s'
        else s') s'
    else s') s
  { s1 with seq := { s1.seq with phase := .evaluate } }

/-- The image header of a module alone (R68). -/
def imageHeader (s : State) : List Word :=
  ([s.seq.mcc % 2 ^ 32, s.seq.mcc / 2 ^ 32, s.seq.start % 2 ^ 32, s.seq.start / 2 ^ 32, headerMode s, b2n s.seq.stale, s.seq.srcFlags.toNat,
    s.bth.batch.length, s.seq.period, retiredWord 0 s, retiredWord 1 s, s.seq.batchRefused].map w32) ++ List.replicate 1012 0

/-- Every in-service core of every JOINED cluster is done (R75). -/
def allDone (s : State) : Bool := (List.range 64).all (fun c => !inService c s || (s.core c).done)

/-! ### The release lists and the output hash (R77 to R79) -/

def Post.obj (q : Post) : Nat := q.w3.toNat % 2 ^ 20
def Post.order (q : Post) : Nat := q.w3.toNat / 2 ^ 20

def motionKey (q : Post) : Nat := (q.axis * 2 ^ 20 + q.obj) * 2 ^ 12 + q.order
def fieldKey (q : Post) : Nat := ((bits 17 16 q.a.toNat * 2 ^ 8 + bits 7 0 q.a.toNat) * 2 ^ 20 + q.obj) * 2 ^ 12 + q.order

def sortLists (s : State) : State :=
  { s with seq := { s.seq with
    motionList := sortBy (fun a b => decide (motionKey a ≤ motionKey b)) s.seq.motionList
    fieldList := sortBy (fun a b => decide (fieldKey a ≤ fieldKey b)) s.seq.fieldList } }

def Post.bytes (q : Post) : List Byte := [q.a, q.b, q.c, q.w3].flatMap (fun w => le 4 w.toNat)

/-- The 64-byte header of the output stream (R78). -/
def streamHeader (s : State) : List Byte :=
  le 8 s.seq.mcc ++ [262_144, 2_097_152, 16 * s.seq.motionList.length, 16 * s.seq.fieldList.length].flatMap (le 4) ++ zeros 40

/-- The output stream (R78). -/
def outputStream (s : State) : List Byte :=
  streamHeader s ++ (List.range 65_536).flatMap (fun i => le 4 (outWord i s).toNat)
    ++ sramBytes (outboxBase s.seq.outboxCur) 0x20_0000 s ++ s.seq.motionList.flatMap Post.bytes ++ s.seq.fieldList.flatMap Post.bytes

/-- Slice `k` of eight of a stream in 64-byte blocks (R79). -/
def streamSlice (k : Nat) (l : List Byte) : List Byte :=
  let n := 64 * ((l.length / 64 + (if l.length % 64 = 0 then 0 else 1) + 7) / 8)
  slice (k * n) n l

/-- The output hash (R79). -/
def outputHash (s : State) : List Byte :=
  let l := outputStream s
  sha256 (streamHeader s ++ (List.range 8).flatMap (fun k => sha256 (streamSlice k l)))

/-! ### Hand-over (R82 to R85) -/

/-- The field list and the field output words pass to the controller: section commands of FB0 to the feedback region on arrival, the
others to their block (R82, R392, R393, R405, R437). -/
def releaseField (s : State) : State :=
  let isSec := fun (q : Post) => decide (bits 17 16 q.a.toNat = 0 ∧ 0x60 ≤ bits 31 24 q.a.toNat ∧ bits 31 24 q.a.toNat ≤ 0x62)
  let secs := s.seq.fieldList.filter isSec
  let disturbed := (secs.filter (fun q => bits 31 24 q.a.toNat == 0x62 && sectionFieldsOk q.a q.b q.c)).map (fun q => bits 7 0 q.a.toNat)
  let s1 := secs.foldl (fun s q =>
    sectionPost (bits 31 24 q.a.toNat - 0x5F) q.a q.b q.c (disturbed.contains (bits 7 0 q.a.toNat)) s) s
  (List.range s.blocksFitted).foldl (fun s' n =>
    let b := s.block n
    let own := s.seq.fieldList.filter (fun q => !isSec q && bits 17 16 q.a.toNat == n)
    let dem := outWord (0x402 + 0x100 * n) s
    if b.resetAt.isSome || b.isolated then
      -- its channels are forced, so each command is refused (R411, R437)
      setBlock n (fun b => { b with cmds := [], carried := [], words := none }) (own.foldl (fun s q => fieldCommand n dem q s) s')
    else setBlock n (fun b => { b with
      cmds := own, carried := [], handedAt := s.now
      words := some (outWord (0x400 + 0x100 * n) s, outWord (0x401 + 0x100 * n) s, dem) }) s') s1

/-- The motion list passes to the mailboxes. -/
def releaseMotion (s : State) : State := { s with mot := { s.mot with arriving := some { posts := s.seq.motionList } } }

/-- The OUTBOX buffer passes to the sealer, which returns the one before; what was not sent of that is recorded (R85). -/
def releaseOutbox (s : State) : State :=
  let s1 := if s.net.unsent = 0 then s else record 0x1105 [s.net.unsent] s
  let s2 := { s1 with
    net := { s1.net with unsent := 0 }
    seq := { s1.seq with outboxHeld := some s1.seq.outboxCur, outboxCur := (s1.seq.outboxHeld).getD (1 - s1.seq.outboxCur) } }
  sealAll (takeControl s2)

/-- Steps 2 to 5 of R82; event source 16. The LIVE balls toggle from the first release on (R567). -/
def handOver (s : State) : State :=
  let s1 := releaseOutbox (releaseMotion (releaseField s))
  let s2 := answerBatch true (journalSlots false s1)
  raise 16 { s2 with
    seq := { s2.seq with
      overruns := 0, stale := false, motionList := [], fieldList := []
      statusWords := ((List.range 64).map (fun k => (k, outWord k s))).filter (fun p => p.2 != 0) }
    keep := { s2.keep with liveLow := s2.seq.tripFlop } }

/-- The OUTBOX buffer that the next cycle fills is zeroed (R86, R87). -/
def zeroOutbox (s : State) : State := sramClear (outboxBase s.seq.outboxCur) (outboxBase s.seq.outboxCur + 0x20_0000) s

/-- A cycle that is not released: its lists and its OUTBOX buffer are discarded, its journal requests pass on marked as not released
(R82, R87, R238). -/
def discardCycle (s : State) : State :=
  let s1 := answerBatch false (journalSlots true s)
  zeroOutbox { s1 with seq := { s1.seq with motionList := [], fieldList := [], stale := true } }

/-! ### Housekeeping (R28, R86, R471) -/

/-- The device metrics 0 to 13 of a cycle; a time that is no whole number of µs is rounded freely (log entry 3). -/
def cycleSamples (s : State) : List (Nat × Int) × State :=
  let us := fun (m : Nat) (ns : Int) (acc : List (Nat × Int) × State) => let d := divFree ns 1000 acc.2; (acc.1 ++ [(m, d.1)], d.2)
  let a0 := us 0 (s.seq.evalEnd - s.seq.start : Nat) ([], s)
  let a1 := us 1 (s.seq.closeEnd - s.seq.start : Nat) a0
  let a2 := us 2 ((s.deadline : Int) - s.seq.closeEnd) a1
  let a3 := (a2.1 ++ [(3, (s.seq.corrected : Int)), (4, (s.seq.outvotes : Int)), (5, (s.seq.batchCount : Int))] ++ s.seq.updSamples, a2.2)
  let a4 := if triadActive s then
      let b := us 8 (s.seq.agreeEnd - s.seq.start : Nat) a3
      (b.1 ++ [(9, (s.tri.restrictive : Int))], b.2)
    else a3
  (a4.1 ++ (List.range s.blocksFitted).map (fun n => (10 + n, ((s.block n).discarded : Int))), a4.2)

/-- Step 2: what an overrun left, then the samples of the cycle. -/
def housekeepMetrics (s : State) : State :=
  let c := cycleSamples (applyHeldSamples s)
  c.1.foldl (fun s p => sample p.1 p.2 s) c.2

/-- The regions of the logic SRAM whose uncorrectable words the scrub reports (R28). -/
def scrubCritical (a : Nat) : Bool :=
  decide ((progBase ≤ a ∧ a < progBase + 0x40_0000) ∨ (imageInBase ≤ a ∧ a < imageInBase + 0x4_0000) ∨ (inboxBase 0 ≤ a ∧ a < inboxBase 0 + 0x40_0000))

/-- One finding of the scrub: a word corrected in 16 consecutive visits is treated as uncorrectable, here where the scrub acts on it, else at
the next load of it (R28, R86; log entry 89). -/
def scrubWord (f : ScrubFinding) (s : State) : State :=
  let bad := fun (s : State) => if scrubCritical f.addr then enterHold 0x110A (record 0x110A [] s) else s
  match f.ecc with
  | .good => s
  | .corrected b =>
    let n := look 0 f.addr s.seq.scrubHits + 1
    let s1 := { s with seq := { s.seq with
      corrected := s.seq.corrected + 1, correctedBank := upd 0 b.val (· + 1) s.seq.correctedBank, scrubHits := put f.addr n s.seq.scrubHits } }
    if n < 16 then s1
    else if scrubCritical f.addr then bad s1
    else { s1 with seq := { s1.seq with worn := if s1.seq.worn.contains f.addr then s1.seq.worn else f.addr :: s1.seq.worn } }
  | .uncorrectable => bad s

/-- Step 4: `n` bytes are scrubbed from where the sweep stands, at most the quantum; words that are good again count anew. -/
def scrub (n : Nat) (found : List ScrubFinding) (s : State) : State :=
  let len := min n (s.seq.quantum * 262_144)
  let lo := s.seq.scrubAddr
  let inside := fun (a : Nat) => decide ((a + Config.sramBytes - lo) % Config.sramBytes < len) && decide (a < Config.sramBytes)
  let seen := found.filter (fun f => inside f.addr)
  let s1 := { s with seq := { s.seq with
    scrubAddr := (lo + len) % Config.sramBytes
    scrubHits := s.seq.scrubHits.filter (fun p => !inside p.1 || seen.any (fun f => f.addr == p.1 && f.ecc != .good && f.ecc != .uncorrectable)) } }
  seen.foldl (fun s f => scrubWord f s) s1

end Sys2Proof.Machine
end

