-- ==== Sys2Proof/Machine/Cycle.lean ====
section
/-!
DEFINITION. The commands of the capture and release sequencer (R53 to R88, R203, R204).
-/
namespace Sys2Proof.Machine

/-! ### CAPTURE (R55, R59 to R62, R66, R86, R88) -/

/-- The sequencer runs: RUN or DEGRADED, alone or in a triad state in which cycles run, and no cluster is on its way to its declared mode
before the first cycle (R53, R203, R242, R247). -/
def sequencerRuns (s : State) : Bool :=
  (s.keep.mode == .run || s.keep.mode == .degraded)
    && (s.tri.state == .off || s.tri.state == .triad || s.tri.state == .pair || (s.tri.state == .joining && s.tri.xferDone))
    && (s.seq.captured || (List.range s.clustersFitted).all (fun k => clusterMode k s != 3))

/-- The number of the cycle that starts (R55, R247). -/
def nextMcc (s : State) : Nat :=
  if s.seq.captured then (s.seq.mcc + 1) % 2 ^ 48
  else if s.tri.state = .joining then (s.tri.joinAt.getD 0 + 1) % 2 ^ 48
  else 0

/-- The cycle boundary: membership, retirements, SPLIT contexts, requested hand-overs, and before the first cycle the assignment. -/
def cycleBoundary (s : State) : State :=
  let s1 := triadBoundary s
  if s1.keep.mode = .hold then s1
  else
    let s2 := retireCores s1
    if s2.keep.mode = .hold then s2
    else
      let s3 := beginRequested (stopSplits s2)
      if s3.seq.captured then s3 else assign s3

/-- The cycle begins: MCC, S(n), the timers' orders take effect (R116), what was kept of the last cycle is cleared. -/
def openCycle (s : State) : State :=
  let m := nextMcc s
  newTriadCycle { s with
    timers := s.timers.map (fun p => (p.1, match p.2.next with | none => p.2 | some st => { started := st, next := none }))
    scratchTags := []
    svc := { s.svc with mcc := w32 m }
    net := { s.net with sealed := 0 }
    fld := { s.fld with blocks := s.fld.blocks.map (fun p => (p.1, { p.2 with taken := p.2.frame })) }
    seq := { s.seq with
      phase := .capture, mcc := m, captured := true, start := s.seq.nextStart,
      nextStart := s.seq.nextStart + 10_000 * s.seq.period, complete := false, overrun := false, outWritten := [],
      motionList := [], fieldList := [], corrected := 0, correctedBank := [], outvotes := 0, updSamples := [], batchCount := 0
      batchRefused := 0 }
    bth := { s.bth with batch := [], batchDone := false } }

/-- The bits of the sources that are not fresh at E_cap; INBOX and batch are not fresh until they report (R66). -/
def staleAtCapture (feedbackOnTime motionOnTime : Bool) (s : State) : Nat :=
  unfittedSources s ||| packBits ((List.range 4).map (fun n => (n, !fieldFresh n s || s.reiniting 3))
    ++ [(4, !feedbackOnTime || s.reiniting 2), (5, !motionOnTime || s.reiniting 1), (6, true), (7, true)])

/-- The latched areas are written; a source that is not fresh contributes its restrictive values (R61, R62, R66, R68). -/
def writeAreas (stale : Nat) (s : State) : State :=
  let s1 := (List.range 4).foldl (fun s n =>
    if bitAt n stale then staleField n s else imageArea (0x400 + 0x100 * n) (fieldRecord n s) s) s
  let s2 := if bitAt 4 stale && decide (s.axesFitted ≠ 0 ∨ s.blocksFitted ≠ 0) then staleFeedback s1
    else imageArea 0x800 (feedbackArea s) s1
  imageArea 0xC00 (if bitAt 5 stale then List.replicate 512 0 else motionArea s) s2

/-- CAPTURE begins at S(n); `feedbackOnTime` and `motionOnTime`: the latched set reaches the sequencer in time (R66). -/
def execCapture (feedbackOnTime motionOnTime : Bool) (s : State) : Outcome :=
  if sequencerRuns s = false then .next s
  else
    let s0 := advance s.seq.nextStart s
    if s.seq.complete = false then .next (enterHold 0x1102 (record 0x1102 [] s0))
    else if s.seq.phase = .release ∨ (s.seq.phase = .waiting ∧ s.seq.overrun = false) then .next s
    else
      let s1 := cycleBoundary s0
      if s1.keep.mode = .hold then .next s1
      else
        let s2 := openCycle (flushGathered s1)
        let st := staleAtCapture feedbackOnTime motionOnTime s2
        let s3 := clearHappenings (writeAreas st s2)
        let s4 := { s3 with seq := { s3.seq with notFresh := BitVec.ofNat 8 st } }
        .next (if triadActive s4 then sendCycle tCycle (be 8 s4.seq.start) s4 else s4)

/-! ### The end of CAPTURE (R63 to R72) -/

/-- A source has reported in time. -/
def setFresh (b : Nat) (s : State) : State :=
  { s with seq := { s.seq with notFresh := s.seq.notFresh &&& ~~~(BitVec.ofNat 8 (2 ^ b)) } }

/-- The connection update of a swapped buffer, and its samples (R276, R471). -/
def updateConns (s : State) : State :=
  let s1 := connUpdateAll s
  let delivered := (s1.net.conns.filter (fun p => p.2.status.getLsbD 2)).length
  { s1 with seq := { s1.seq with updSamples := [(6, (delivered : Int)), (7, (s1.net.safe : Int))] } }

/-- INBOX_SWAP: acknowledged with DTIME `ackNs` (R63). The connections are updated once the buffer counts, at the end of CAPTURE (R67,
R276). -/
def execInboxSwap (ackNs : Nat) (s : State) : Outcome :=
  let s0 := advance ackNs s
  if s0.seq.phase = .capture ∧ s0.seq.notFresh.getLsbD 6 = true ∧ netWorks s0 = true ∧ ackNs ≤ s0.seq.start + 10_000 then
    let s1 := setFresh 6 (swapInbox s0)
    if triadActive s1 then
      let J := s1.tri.joinAt.getD 0
      .next (if s1.tri.state = .joining ∧ s1.seq.mcc < J + 16 then s1 else sendCut s1)
    else .next s1
  else .next s0

/-- FREEZE_MARK: the berth gate's mark reaches the sequencer at `arriveNs` (R64 to R66). -/
def execFreezeMark (arriveNs : Nat) (s : State) : Outcome :=
  let s0 := advance arriveNs s
  if s0.seq.phase = .capture ∧ s0.seq.notFresh.getLsbD 7 = true ∧ arriveNs ≤ s0.seq.start + 15_000 then .next (setFresh 7 (takeBatch s0))
  else .next s0

/-- A batch that was not written in time goes back to the gate: its commands keep their stamps (R66, R67). -/
def returnBatch (s : State) : State :=
  let s1 := { s with bth := { s.bth with filling := s.bth.batch ++ s.bth.filling, batch := [] } }
  (List.range 8).foldl (fun s b => setBerth b (fun B => { B with filled := (s1.bth.filling.filter (fun e => e.berth == b)).length }) s) s1

/-- The restrictive values of the areas that had not been written (R67). -/
def restrictUnwritten (missing : Nat) (s : State) : State :=
  let s1 := (List.range 4).foldl (fun s n => if bitAt n missing then staleField n s else s) s
  let s2 := if bitAt 4 missing && decide (s.axesFitted ≠ 0 ∨ s.blocksFitted ≠ 0) then staleFeedback s1 else s1
  let s3 := if bitAt 5 missing then imageArea 0xC00 (List.replicate 512 0) s2 else s2
  let s4 := if bitAt 6 missing then unswapInbox s3 else s3
  if bitAt 7 missing then returnBatch s4 else s4

/-- The input image of a module alone is complete, the batch resolved, and EVALUATE begins (R68, R70, R71). -/
def finishAlone (s : State) : State :=
  let s1 := resolveBatch (if s.seq.notFresh.getLsbD 6 then s else updateConns s)
  let s2 := imageArea 0 (imageHeader s1) s1
  let s3 := imageArea 0x1000 (statusArea (!s2.seq.notFresh.getLsbD 6) s2) s2
  startEvaluate (imageArea 0x3000 (batchArea s3) s3)

/-- CAPTURE_END at `endNs`, S(n) + 20 µs at the latest; bit b of `notWritten`: source b has not been written by then (R66, R67). -/
def execCaptureEnd (endNs : Nat) (notWritten : BitVec 8) (s : State) : Outcome :=
  if s.seq.phase ≠ .capture then .next s
  else
    let s0 := advance (min endNs (s.seq.start + 20_000)) s
    let fresh := notWritten &&& ~~~s0.seq.notFresh
    let flags := s0.seq.notFresh ||| notWritten
    let s1 := restrictUnwritten fresh.toNat { s0 with seq := { s0.seq with notFresh := flags, srcFlags := flags } }
    let s2 := if flags &&& ~~~(BitVec.ofNat 8 (unfittedSources s1)) = 0 then s1 else raise 18 (record 0x1103 [flags.toNat] s1)
    if triadActive s2 then
      let s3 := { s2 with seq := { s2.seq with phase := .agree } }
      .next (trySummary (if s3.tri.state = .joining then s3 else contribute s3))
    else .next (finishAlone s2)

/-! ### EVALUATE, ACCORD-CLOSE (R75, R77 to R80) -/

/-- EVALUATE_END: every core in service is done (R75); the release lists are sorted (R77). -/
def execEvaluateEnd (atNs : Nat) (s : State) : Outcome :=
  if s.seq.phase = .evaluate ∧ allDone s = true then
    let s0 := advance atNs s
    .next (sortLists { s0 with seq := { s0.seq with phase := .accordClose, evalEnd := s0.now } })
  else .next s

/-! ### RELEASE and HOUSEKEEPING (R60, R81, R82, R86 to R88) -/

/-- D(n) is reached and ACCORD-CLOSE has not ended (R87, R88). -/
def overrunNow (s : State) : State :=
  let s1 := raise 17 { s with seq := { s.seq with
    overrun := true, overruns := s.seq.overruns + 1, stale := true, ovrtot := sat 0xFFFF_FFFF (s.seq.ovrtot + 1) } }
  if 2 ≤ s1.seq.overruns then enterHold 0x1101 (record 0x1101 [] s1)
  else
    let s2 := record 0x1100 [] s1
    if triadActive s2 then sendHash false s2 else s2

/-- D(n) lies before DTIME `ns` and ACCORD-CLOSE is still running: the cycle overruns at D(n), before anything later (R60). -/
def overrunBefore (ns : Nat) (s : State) : State :=
  if s.seq.overrun = false ∧ s.deadline < max s.now ns then overrunNow (advance s.deadline s) else s

/-- ACCORD_CLOSE_END: the output hash is formed; the cycle has completed unless it has overrun (R60, R79, R80, R246). -/
def execAccordCloseEnd (atNs : Nat) (s : State) : Outcome :=
  if s.seq.phase = .accordClose then
    let sd := overrunBefore atNs s
    if sd.keep.mode = .hold then .next sd
    else
      let s0 := advance atNs sd
      let tc := (s0.now - s0.seq.start) / 10
      .next (sendTransfer { s0 with seq := { s0.seq with
        phase := .waiting, closeEnd := s0.now, outHash := outputHash s0, teval := (s0.seq.evalEnd - s0.seq.start) / 10
        tclose := tc, tmax := max s0.seq.tmax tc, complete := !s0.seq.overrun } })
  else .next s

/-- The image digest is ready before D(n) at the latest (R235). -/
def finishDigest (s : State) : State :=
  if s.tri.digestReady then s else setTriF (fun t => { t with digest := imageDigest s, digestReady := true }) s

/-- RELEASE at D(n): a module alone hands over, a triad member sends its HASH (R81, R82, R236). -/
def execRelease (s : State) : Outcome :=
  if (s.keep.mode ≠ .run ∧ s.keep.mode ≠ .degraded) ∨ s.seq.overrun = true ∨ s.seq.phase = .notRunning ∨ s.seq.phase = .release
      ∨ s.seq.phase = .housekeeping then .next s
  else
    let s0 := advance s.deadline s
    if s0.seq.complete then
      let s1 := { s0 with seq := { s0.seq with phase := .release } }
      .next (if triadActive s1 then sendHash true (finishDigest s1) else handOver s1)
    else .next (overrunNow s0)

/-- Every JOINED cluster is proof-tested (R86 step 1). -/
def proofTests (fail : Option ProofFail) (s : State) : State :=
  (List.range s.clustersFitted).foldl (fun s k => if clusterMode k s = 0 ∧ s.keep.mode ≠ .hold then proofTest k fail s else s) s

/-- RELEASE_END at `endNs`: HOUSEKEEPING; `scrubbed` bytes are visited before S(n+1), with the findings `found` (R86). -/
def execReleaseEnd (endNs : Nat) (proof : Option ProofFail) (scrubbed : Nat) (found : List ScrubFinding) (s : State) : Outcome :=
  if s.seq.phase ≠ .release ∨ (triadActive s = true ∧ s.tri.hashed = false) then .next s
  else
    let s1 := proofTests proof (advance endNs { s with seq := { s.seq with phase := .housekeeping } })
    if s1.keep.mode = .hold then .next s1
    else .next (scrub scrubbed found (zeroOutbox (housekeepMetrics s1)))

/-- OVERRUN_CYCLE_COMPLETE: the overrun cycle completes and is discarded (R87); one that has not completed at S(n+1) ends in HOLD there
(R88). -/
def execOverrunCycleComplete (atNs : Nat) (s : State) : Outcome :=
  if s.seq.overrun = true ∧ s.seq.phase = .waiting ∧ s.seq.complete = false then
    if s.seq.nextStart < max s.now atNs then .next (enterHold 0x1102 (record 0x1102 [] (advance s.seq.nextStart s)))
    else
      let c := cycleSamples (advance atNs s)
      let s1 := discardCycle { c.2 with seq := { c.2.seq with heldSamples := c.2.seq.heldSamples ++ c.1 } }
      .next { s1 with seq := { s1.seq with complete := true } }
  else .next s

/-! ### Clusters (R203, R204) -/

/-- CLUSTER_HANDOVER_COMPLETE: the cluster takes its mode, after its proof test where that is JOINED (R204). -/
def execClusterHandoverComplete (k : Fin 8) (proof : Option ProofFail) (s : State) : Outcome :=
  match look (none : Option Nat) k.val (s.seq.clTarget.map (fun p => (p.1, some p.2))) with
  | none => .next s
  | some m =>
    let s1 := if m = 0 then proofTest k proof s else s
    if s1.keep.mode = .hold then .next s1
    else
      let s2 := { s1 with seq := { s1.seq with clMode := put k.val m s1.seq.clMode, clTarget := del k.val s1.seq.clTarget } }
      let s3 := raise 22 (accordRecord 0x1320 (8 * k.val) 3 s2)
      .next (if s3.seq.captured = false ∧ s3.seq.clTarget = [] then grantStart s3 else s3)

end Sys2Proof.Machine
end

