-- ==== Sys2Proof/Machine/Field.lean ====
section
/-!
DEFINITION. The commands of the field blocks and of the field link (R402 to R438).
-/
namespace Sys2Proof.Machine

/-! ### The field link -/

/-- Words 0 to 2 of the released record, or 0, become the demands; the pairs see a demand that has been applied (R405, R437). -/
def applyWords (f : Nat) (w : Word × Word × Word) (s : State) : State :=
  evalBlock f true (setBlock f (fun b => { b with dDio := w.1, dLs := w.2.1, dSo := w.2.2 }) s)

/-- The outbound frames run back to back between the multiples of 25 µs: the first end of one from `ns` on (R402). -/
def frameEnd (ns : Nat) (s : State) : Nat := (max ns s.now + 24_999) / 25_000 * 25_000

/-- FIELD_LINK_OUTBOUND_FRAME (R402, R405): the first frame of block `f` that ends from DTIME `atNs` on. It carries the mode, the states, up to
16 commands and the configuration; the release takes effect with the last of its commands. A frame that started, 25 µs before, no later than
the controller held the release carries none of it (R83). `bad`: the block discards it. -/
def execFieldLinkOutboundFrame (f : Fin 4) (atNs : Nat) (bad : Bool) (s : State) : Outcome :=
  let s := advance (frameEnd atNs s) s
  let n := f.val
  if !s.fldFitted n then .next s
  else if bad then .next (setBlock n (fun b => { b with errOut := sat 0xFFFF (b.errOut + 1) }) s)
  else
    let b := s.block n
    let carries := decide (b.handedAt + 25_000 < s.now)
    let now := if carries then b.cmds.take 16 else []
    let rest := if carries then b.cmds.drop 16 else b.cmds
    let s1 := setBlock n (fun b => { b with
      outSeq := b.outSeq + 1, outAcc := b.outSeq + 1, lastOut := s.now
      modeForce := s.keep.mode == .hold || s.keep.mode == .stabled
      fsDio := failsafeDio n s, fsLs := failsafeLs n s, cmds := rest, carried := b.carried ++ now }) s
    let s2 := evalBlock n false s1
    if rest ≠ [] ∨ carries = false then .next s2
    else match b.words with
      | none => .next s2
      | some w =>
        let all := (s2.block n).carried
        let s3 := setBlock n (fun b => { b with carried := [], words := none }) s2
        let s4 := all.foldl (fun s q => fieldCommand n w.2.2 q s) s3
        .next (if (s4.block n).resetAt.isSome || (s4.block n).isolated then s4 else applyWords n w s4)

/-- A comparison whose threshold lies between `lo` and `hi`: free inside the band (log entry 3). -/
def belowBand (lo hi x : Nat) (s : State) : Bool × State :=
  if x < lo then (true, s) else if hi ≤ x then (false, s)
  else
    let d := s.draw 1
    (d.1 == 1, d.2)

/-- One system of a front-end reports; a fault and a recovery are recorded (R434). -/
def reportSystem (f j : Nat) (sysB : Bool) (report cause : Nat) (s : State) : State :=
  let w := look ({} : FrontEnd) j (s.block f).wfe
  let old := if sysB then w.b else w.a
  let put_ := fun (x : WheelSystem) => { x with report := report, cause := cause }
  let s1 := setBlock f (fun b => { b with wfe := upd {} j (fun w => if sysB then { w with b := put_ w.b } else { w with a := put_ w.a }) b.wfe }) s
  let name := 2 * j + b2n sysB
  if report = 0 ∧ (old.report ≠ 0 ∨ old.cause ≠ cause) then raise (180 + f) (blkRecord f 0x4060 [name, cause] s1)
  else if report ≠ 0 ∧ old.report = 0 then raise (180 + f) (blkRecord f 0x4061 [name] s1)
  else s1

/-- The classification of a loop current in µA (R433): report and cause. -/
def classify (occupied : Bool) (ua : Nat) (s : State) : (Nat × Nat) × State :=
  let o := belowBand 2_500 3_500 ua s
  if o.1 then ((0, 1), o.2)
  else
    let h := belowBand 20_000 24_000 ua o.2
    if !h.1 then ((0, 2), h.2)
    else
      let c := if occupied then belowBand 9_200 10_200 ua h.2 else belowBand 9_700 10_700 ua h.2
      ((if c.1 then 1 else 2, 0), c.2)

/-- One system at a sample instant: not enabled, in under-voltage, switched off after its limit, or by its loop current. -/
def sampleSystem (f j : Nat) (sysB : Bool) (ua : Nat) (s : State) : State :=
  let w := look ({} : FrontEnd) j (s.block f).wfe
  let old := if sysB then w.b else w.a
  let s0 := setBlock f (fun b => { b with wfe := upd {} j (fun w =>
    if sysB then { w with b := { w.b with cur := sat 65535 ua } } else { w with a := { w.a with cur := sat 65535 ua } }) b.wfe }) s
  if !cbit (fldReg f (0x500 + 4 * j)) 0 s then reportSystem f j sysB 0 3 s0
  else if (s.block f).uv then reportSystem f j sysB 0 4 s0
  else if old.offAt.isSome then reportSystem f j sysB 0 2 s0
  else
    let c := classify (old.report == 2) ua s0
    reportSystem f j sysB c.1.1 c.1.2 c.2

/-- The front-ends of block `f` take a sample; the last four stay (R434). -/
def sampleFrontEnds (f : Nat) (loops : List (Nat × Nat)) (s : State) : State :=
  (List.range 4).foldl (fun s j =>
    let i := loops.getD j (0, 0)
    let s1 := sampleSystem f j true i.2 (sampleSystem f j false i.1 s)
    if cbit (fldReg f (0x500 + 4 * j)) 0 s then
      setBlock f (fun b => { b with wfe := upd {} j (fun w =>
        let l := w.samples ++ [(w.number + 1, w.a.report, w.b.report)]
        { w with number := w.number + 1, samples := l.drop (l.length - 4) }) b.wfe }) s1
    else s1) s

/-- The samples of an accepted frame reach the wheel heads, instant by instant (R385, R390). -/
def deliverSamples (f : Nat) (s : State) : State :=
  let ages := [3, 2, 1, 0]
  let s1 := ages.foldl (fun s age =>
    let r := (List.range 4).foldl (fun (acc : State × List (Nat × Bool)) j =>
      let smp := (look ({} : FrontEnd) j (s.block f).wfe).samples
      match smp.reverse[age]? with
      | none => acc
      | some x =>
        let new := match (acc.1.head (4 * f + j)).lastSeq with | none => true | some q => decide (q < x.1)
        if new && cbit (fldReg f (0x500 + 4 * j)) 0 s then
          let h := headSample (4 * f + j) x.1 x.2.1 x.2.2 acc.1
          (h.1, match h.2 with | some p => acc.2 ++ [p] | none => acc.2)
        else acc) (s, [])
    applySteps r.2 r.1) s
  eoFollowAll false s1

/-- The words of a snapshot that travel in the link's snapshot slot arrive; the block's fb_valid bit is set (R47, R50). -/
def deliverSnapshot (f : Nat) (s : State) : State :=
  let mine := fun (p : Nat × Word) => decide (0x4000 + 0x40 * f ≤ p.1 ∧ p.1 < 0x4040 + 0x40 * f)
  if s.snap.fieldWords.any mine then
    (fun (t : State) => if s.snap.copied then logSnapWords (s.snap.fieldWords.filter mine) t else t) { s with snap := { s.snap with
      words := (s.snap.fieldWords.filter mine).foldl (fun t p => if p.2 = 0 then del p.1 t else put p.1 p.2 t) s.snap.words
      fieldWords := s.snap.fieldWords.filter (fun p => !mine p)
      fbValid := s.snap.fbValid ||| (1#4 <<< f) } }
  else s

/-- FIELD_LINK_INBOUND_FRAME (R402, R403, R406, R434): the controller holds a frame of block `f` complete at DTIME `atNs`, 26 µs
after its sample instant. The block measures VFIELDn (mV), the die temperature (0.1 °C), the load switch currents (mA), the
wheel loop currents (µA) and the outputs whose driver junction is at 130 °C or more. `bad`: a CRC or framing error. -/
def execFieldLinkInboundFrame (f : Fin 4) (atNs : Nat) (bad : Bool) (vfield : Nat) (temp : BitVec 16) (ls : List Nat)
    (loops : List (Nat × Nat)) (hot : Word) (s : State) : Outcome :=
  let s := advance atNs s
  let n := f.val
  if !s.fldFitted n then .next s
  else
    let s1 := setBlock n (fun b => { b with
      vfield := vfield, temp := temp.toInt, inSeq := b.inSeq + 1
      ls := (List.range 8).foldl (fun t i => upd {} i (fun l => { l with current := ls.getD i 0 }) t) b.ls
      dio := (List.range 24).foldl (fun t c => upd {} c (fun d => { d with hot := hot.getLsbD c }) t) b.dio }) s
    let b0 := s.block n
    let s2 := sampleFrontEnds n loops s1
    if bad then
      let s3 := setBlock n (fun b => { b with errIn := sat 0xFFFF (b.errIn + 1), errCycle := b.errCycle + 1, discarded := b.discarded + 1 }) s2
      .next (if gathers s then s3 else flushLinkErrors n s3)
    else
      let smp := (List.range 4).filterMap (fun j => if cbit (fldReg n (0x500 + 4 * j)) 0 s then
        some (j, (look ({} : FrontEnd) j (s2.block n).wfe).samples) else none)
      let s3 := setBlock n (fun b => { b with
        lastIn := s.now, inAcc := b.inSeq, silent := false
        frame := some { words := blockWords n s2, stamp := s.now - 26_000, samples := smp } }) s2
      let s4 := deliverSnapshot n (if b0.resetAt.isSome || b0.isolated then s3 else deliverSamples n s3)
      if (s4.block n).forced && !(s4.block n).reported then
        .next (askFieldReset n 0x4002 (raise (148 + n) (blkRecord n 0x4002 [] (setBlock n (fun b => { b with reported := true }) s4))))
      else .next s4

/-- FIELD_BLOCK_SILENT (R406). -/
def execFieldBlockSilent (f : Fin 4) (atNs : Nat) (s : State) : Outcome :=
  let s := advance atNs s
  let b := s.block f
  if s.fldFitted f ∧ b.silent = false ∧ b.isolated = false ∧ 1_000_000 ≤ s.now - b.lastIn then
    .next (askFieldReset f 0x4003 (raise (144 + f.val) (blkRecord f 0x4003 [] (setBlock f (fun b => { b with silent := true, link := 0 }) s))))
  else .next s

/-- FCLK_DEVIATION (R407): the block forces its fail-safe states, and the lock-keeper resets it. -/
def execFclkDeviation (f : Fin 4) (s : State) : Outcome :=
  if !s.fldFitted f then .next s
  else .next (askFieldReset f 0x400A (evalBlock f false (blkRecord f 0x400A [] (setBlock f (fun b => { b with fclk := true }) s))))

/-- t_wd in ns (R409). -/
def wdNs (f : Nat) (s : State) : Nat := 250_000 * max 1 (cf (fldReg f 0) 21 12 s)

/-- SERIAL_WATCHDOG_EXPIRY (R409): no valid outbound frame for t_wd; every channel goes to its stored fail-safe state. -/
def execSerialWatchdogExpiry (f : Fin 4) (atNs : Nat) (s : State) : Outcome :=
  let s := advance atNs s
  if s.fldFitted f = true ∧ fclkPassed (s.block f).lastOut (wdNs f s) s = true then
    .next (evalBlock f false (setBlock f (fun b => { b with forced := true }) s))
  else .next s

/-- TRIP_LINE_LOW (R410): safety-marked channels off; the trip is latched. -/
def execTripLineLow (f : Fin 4) (s : State) : Outcome :=
  if s.fldFitted f = true ∧ tripLineLow f s = true ∧ (s.block f).trip = false then
    .next (evalBlock f false (raise (148 + f.val) (blkRecord f 0x4007 [] (setBlock f (fun b => { b with trip := true }) s))))
  else .next s

/-- FIELD_BLOCK_RESET (R413): the lock-keeper applies the reset to block `f`. -/
def execFieldBlockReset (f : Fin 4) (s : State) : Outcome :=
  .next (applyFieldReset f 0 s)

/-- The block rejoins after its link check; 0x4005 (R413 step 5). -/
def rejoinBlock (f : Nat) (s : State) : State :=
  let s1 := setBlock f (fun b => { b with
    link := 2, resetAt := none, forced := false, trip := false, fclk := false, reported := false, silent := false, so := [] }) s
  raise (144 + f) (blkRecord f 0x4005 [] (evalBlock f false s1))

/-- The block is isolated and its trip line held low; 0x4006 (R413 step 6). -/
def isolateBlock (f : Nat) (s : State) : State :=
  let s1 := setBlock f (fun b => { b with link := 0, resetAt := none, isolated := true, lineLow := true }) (headsNotReady f s)
  raise (144 + f) (blkRecord f 0x4006 [] (evalBlock f false s1))

/-- LINK_CHECK_PASSED (R413): the block rejoins; forcing and trip latch end; every enabled pair starts in INTERLOCK. -/
def execLinkCheckPassed (f : Fin 4) (atNs : Nat) (s : State) : Outcome :=
  let s := advance atNs s
  match (s.block f).resetAt with
  | none => .next s
  | some t =>
    if s.now ≤ t + 10_000_000 ∧ (s.block f).isolated = false then
      .next (rejoinBlock f s)
    else .next s

/-- LINK_CHECK_TIMEOUT (R413, R26): the block is isolated and its trip line held low. -/
def execLinkCheckTimeout (f : Fin 4) (atNs : Nat) (s : State) : Outcome :=
  let s := advance atNs s
  match (s.block f).resetAt with
  | none => .next s
  | some t =>
    if t + 10_000_000 ≤ s.now then
      .next (enterDegraded 0x9104 (record 0x9104 [] (isolateBlock f s)))
    else .next s

/-- VFIELDn is below the threshold: switches and DIO outputs are off (R412, R423). -/
def blockUndervolt (f : Nat) (s : State) : State :=
  if s.fldFitted f = true ∧ (s.block f).uv = false then
    evalBlock f false (raise (152 + f) (blkRecord f 0x4008 [] (setBlock f (fun b => { b with uv := true }) s)))
  else s

/-- VFIELD_UNDERVOLTAGE (R423): two measurements below the threshold. -/
def execVfieldUndervoltage (f : Fin 4) (s : State) : Outcome := .next (blockUndervolt f s)

/-- VFIELD_RESTORED (R423, R429). -/
def execVfieldRestored (f : Fin 4) (s : State) : Outcome :=
  if (s.block f).uv then
    let s1 := raise (152 + f.val) (blkRecord f 0x4009 [] (setBlock f (fun b => { b with uv := false }) s))
    .next (evalBlock f false ((List.range 4).foldl (fun s j => soRestore f j s) s1))
  else .next s

/-! ### Digital I/O -/

/-- DIO_INPUT_LEVEL_CHANGE (R415, R417): the raw level of DIO `c` has held for its filter time, or the pin of an output has
changed; the level read takes it. -/
def execDioInputLevelChange (f : Fin 4) (c : Fin 24) (level : Bool) (atNs : Nat) (s : State) : Outcome :=
  .next (setDio f c (fun d => { d with raw := level, level := level }) (advance atNs s))

/-- WIRE_BREAK_SET (R416). -/
def execWireBreakSet (f : Fin 4) (c : Fin 24) (s : State) : Outcome :=
  if dioWb f c s = true ∧ ((s.block f).dioOf c).wireBreak = false then
    .next (dioRecord f c 0x4013 (setDio f c (fun d => { d with wireBreak := true }) s))
  else .next s

/-- WIRE_BREAK_CLEAR (R416). -/
def execWireBreakClear (f : Fin 4) (c : Fin 24) (s : State) : Outcome :=
  .next (setDio f c (fun d => { d with wireBreak := false }) s)

/-- DIO_OVERLOAD (R418). -/
def execDioOverload (f : Fin 4) (c : Fin 24) (s : State) : Outcome :=
  if dioOut f c s = true ∧ ((s.block f).dioOf c).overload = false then
    .next (evalBlock f false (dioRecord f c 0x4010 (setDio f c (fun d => { d with overload := true }) s)))
  else .next s

/-- DIO_OVER_TEMPERATURE (R418). -/
def execDioOverTemperature (f : Fin 4) (c : Fin 24) (s : State) : Outcome :=
  if dioOut f c s = true ∧ ((s.block f).dioOf c).overTemp = false then
    .next (evalBlock f false (dioRecord f c 0x4011 (setDio f c (fun d => { d with overTemp := true, hot := true }) s)))
  else .next s

/-- OPEN_WIRE_SET (R418). -/
def execOpenWireSet (f : Fin 4) (c : Fin 24) (s : State) : Outcome :=
  let d := (s.block f).dioOf c
  if dioDriven f c s && cbit (fldReg f (0x100 + 4 * c)) 7 s && d.pwm.isNone && !d.openWire then
    .next (dioRecord f c 0x4012 (setDio f c (fun d => { d with openWire := true }) s))
  else .next s

/-- OPEN_WIRE_CLEAR (R418). -/
def execOpenWireClear (f : Fin 4) (c : Fin 24) (s : State) : Outcome :=
  .next (setDio f c (fun d => { d with openWire := false }) s)

/-- TWO_CHANNEL_CHECK_SAMPLE (R419): every pair of block `f` is evaluated. -/
def execTwoChannelCheckSample (f : Fin 4) (atNs : Nat) (s : State) : Outcome :=
  .next ((List.range 12).foldl (fun s j => pairCheck f j s) (advance atNs s))

/-! ### Load switches -/

/-- LOAD_SWITCH_INRUSH_END (R423): the inrush window of t_in has passed. -/
def execLoadSwitchInrushEnd (f : Fin 4) (i : Fin 8) (atNs : Nat) (s : State) : Outcome :=
  let s := advance atNs s
  let l := (s.block f).lsOf i
  if l.st = .inrush ∧ fclkPassed l.inrushAt (inrushNs f i s) s = true then
    .next (startWaiting f (i / 2) (setLs f i (fun l => { l with st := .on }) s))
  else .next s

/-- LOAD_SWITCH_CURRENT_LIMIT (R423). -/
def execLoadSwitchCurrentLimit (f : Fin 4) (i : Fin 8) (s : State) : Outcome :=
  if ((s.block f).lsOf i).st = .on then .next (setLs f i (fun l => { l with st := .limit }) s) else .next s

/-- LIMIT_RECOVERY (R423): the current has been below the limit for 100 µs. -/
def execLimitRecovery (f : Fin 4) (i : Fin 8) (s : State) : Outcome :=
  if ((s.block f).lsOf i).st = .limit then
    .next (startWaiting f (i / 2) (setLs f i (fun l => { l with st := .on }) s))
  else .next s

/-- THERMAL_SHUTDOWN (R423 to R425, R429): counted, then COOLING or LATCHED; of a pair, LATCHED and a pair fault. -/
def execThermalShutdown (f : Fin 4) (i : Fin 8) (s : State) : Outcome :=
  let l := (s.block f).lsOf i
  if !l.st.conducts then .next s
  else
    let paired := lsPaired f i s
    let latch := paired || cbit (fldReg f (0x300 + 4 * i)) 2 s
    let u := if latch then l.u else l.u + 1
    let latched := latch || decide (cf (fldReg f (0x300 + 4 * i)) 11 8 s < u)
    let s1 := setLs f i (fun l => { l with st := if latched then .latched else .cooling, u := u }) s
    let s2 := blkRecord f 0x4030 [i.val, u] s1
    let s3 := raise (160 + f.val) (if latched then blkRecord f 0x4031 [i.val] s2 else s2)
    let p := (s.block f).soOf (i / 2)
    if paired && p.st.isOn then .next (soFault f (i / 2) 3 0x4043 [] s3)
    else .next (lsEval f i s3)

/-- COOLING_RESTART (R423): the junction is 20 K below shutdown, with demand 1 and no under-voltage. -/
def execCoolingRestart (f : Fin 4) (i : Fin 8) (s : State) : Outcome :=
  if ((s.block f).lsOf i).st = .cooling ∧ lsDemand f i s = true ∧ (s.block f).uv = false then
    .next (lsOn f i (blkRecord f 0x4034 [i.val] s))
  else .next s

/-- OPEN_LOAD_SET (R423): on for 100 ms with a current below the threshold. -/
def execOpenLoadSet (f : Fin 4) (i : Fin 8) (atNs : Nat) (s : State) : Outcome :=
  let s := advance atNs s
  let l := (s.block f).lsOf i
  if l.st.conducts = true ∧ l.openLoad = false ∧ fclkPassed l.condAt 100_000_000 s = true then
    .next (blkRecord f 0x4033 [i.val] (setLs f i (fun l => { l with openLoad := true }) s))
  else .next s

/-- OPEN_LOAD_CLEAR (R423). -/
def execOpenLoadClear (f : Fin 4) (i : Fin 8) (s : State) : Outcome :=
  .next (setLs f i (fun l => { l with openLoad := false }) s)

/-- RETRY_COUNT_RESET (R424): 10 s of conduction without a shutdown. -/
def execRetryCountReset (f : Fin 4) (i : Fin 8) (atNs : Nat) (s : State) : Outcome :=
  let s := advance atNs s
  let l := (s.block f).lsOf i
  if l.st.conducts = true ∧ fclkPassed l.condAt 10_000_000_000 s = true then .next (setLs f i (fun l => { l with u := 0 }) s)
  else .next s

/-! ### Safety output pairs -/

/-- N of R427. -/
def soN (f j : Nat) (s : State) : Nat := 4 * cf (fldReg f (0x400 + 0x10 * j)) 9 0 s

/-- The feedback has differed in N + 1 check samples: FAULT, cause 2 (R427). -/
def soTimeout (f j : Nat) (s : State) : State :=
  let p := (s.block f).soOf j
  if soEnabled f j s && p.st != .fault && decide (soN f j s < p.fbRun) then soFault f j 2 0x4042 [] s else s

/-- One check sample of pair `j` (R427, R429). -/
def soCheck (f j : Nat) (s0 : State) : State :=
  let s := soTimeout f j s0
  let p := (s.block f).soOf j
  if !soEnabled f j s || p.st == .fault then s
  else
    let on := p.st.isOn
    let s1 := setSo f j (fun p => { p with fbRun := if soAgrees f j (!on) s then 0 else p.fbRun + 1 }) s
    match p.st with
    | .starting =>
      if soAgrees f j false s then
        setSo f j (fun p => { p with tOn := s.now, mA := 1, mB := 1 }) (soSet f j .on s1)
      else s1
    | .stopping => if soAgrees f j true s then soOffRows f j (soSet f j .off s1) else s1
    | .undervolt => if !(s.block f).uv && soAgrees f j true s then soOffRows f j (soSet f j .off s1) else s1
    | _ => s1

/-- SO_CHECK_SAMPLE (R427, R429): every 250 µs each enabled pair of block `f` checks its feedback. -/
def execSoCheckSample (f : Fin 4) (atNs : Nat) (s : State) : Outcome :=
  .next ((List.range 4).foldl (fun s j => soCheck f j s) (advance atNs s))

/-- SO_FEEDBACK_TIMEOUT (R427). -/
def execSoFeedbackTimeout (f : Fin 4) (j : Fin 4) (s : State) : Outcome := .next (soTimeout f j s)

/-- The instant of the next pulse of a pair's first or second switch, ns after t_on (R430). -/
def pulseAt (f j : Nat) (second : Bool) (s : State) : Nat :=
  let T := 1_000_000 * cf (fldReg f (0x400 + 0x10 * j)) 22 13 s
  let p := (s.block f).soOf j
  if second then p.mB * T - T / 2 else p.mA * T

/-- TEST_PULSE_DUE (R430, R432): the pulse starts, or is postponed, or, outside ON, is skipped. -/
def execTestPulseDue (f : Fin 4) (j : Fin 4) (second : Bool) (atNs : Nat) (s : State) : Outcome :=
  let s := advance atNs s
  let p := (s.block f).soOf j
  if soEnabled f j s && cbit (fldReg f (0x400 + 0x10 * j)) 30 s && p.st == .on && fclkPassed p.tOn (pulseAt f j second s) s then
    let s1 := setSo f j (fun p =>
      if second then { p with mB := p.mB + 1, waitB := true } else { p with mA := p.mA + 1, waitA := true }) s
    .next (startWaiting f j s1)
  else .next s

/-- w in ns. -/
def pulseNs (f j : Nat) (s : State) : Nat := 10_000 * cf (fldReg f (0x400 + 0x10 * j)) 29 23 s

/-- TEST_PULSE_READBACK (R431): the two outputs are read, in mV, at w − 50 µs. -/
def execTestPulseReadback (f : Fin 4) (j : Fin 4) (pulsed other vfield : Nat) (atNs : Nat) (s : State) : Outcome :=
  let s := advance atNs s
  let p := (s.block f).soOf j
  match p.pulse with
  | none => .next s
  | some (second, t) =>
    if p.readBack || !fclkPassed t (pulseNs f j s - 50_000) s then .next s
    else
      let low := belowBand 4_500 5_500 pulsed s
      if low.1 ∧ vfield < other + 2_000 then .next (setSo f j (fun p => { p with readBack := true }) low.2)
      else .next (soFault f j 1 0x4040 [2 * j.val + b2n second, pulsed, other] low.2)

/-- TEST_PULSE_END (R430): the switch returns to ON; a waiting pulse of the other starts. -/
def execTestPulseEnd (f : Fin 4) (j : Fin 4) (atNs : Nat) (s : State) : Outcome :=
  let s := advance atNs s
  match ((s.block f).soOf j).pulse with
  | none => .next s
  | some (second, t) =>
    if fclkPassed t (pulseNs f j s) s then
      let i := 2 * j.val + b2n second
      let s1 := setLs f i (fun l => { l with st := if l.st = .pulse then .on else l.st, condAt := s.now }) s
      .next (startWaiting f j (setSo f j (fun p => { p with pulse := none, readBack := false }) s1))
    else .next s

/-! ### Wheel-sensor front-ends -/

/-- WHEEL_SYSTEM_CURRENT_LIMIT (R433): at its limit for 1 ms; switched off, and it reports a short meanwhile. -/
def execWheelSystemCurrentLimit (f : Fin 4) (j : Fin 4) (sysB : Bool) (atNs : Nat) (s : State) : Outcome :=
  let s := advance atNs s
  if cbit (fldReg f (0x500 + 4 * j)) 0 s then
    let s1 := setBlock f (fun b => { b with wfe := upd {} j (fun w =>
      if sysB then { w with b := { w.b with offAt := some s.now } } else { w with a := { w.a with offAt := some s.now } }) b.wfe }) s
    .next (reportSystem f j sysB 0 2 s1)
  else .next s

/-- WHEEL_SYSTEM_RETRY (R433): 100 ms later the system is supplied again. -/
def execWheelSystemRetry (f : Fin 4) (j : Fin 4) (sysB : Bool) (atNs : Nat) (s : State) : Outcome :=
  let s := advance atNs s
  let w := look ({} : FrontEnd) j (s.block f).wfe
  match (if sysB then w.b else w.a).offAt with
  | none => .next s
  | some t =>
    if fclkPassed t 100_000_000 s then
      .next (setBlock f (fun b => { b with wfe := upd {} j (fun w =>
        if sysB then { w with b := { w.b with offAt := none } } else { w with a := { w.a with offAt := none } }) b.wfe }) s)
    else .next s

/-! ### Field commands (R435) -/

/-- A command with code `code` reaches block `f`; `dem`: the pair word of the same release. -/
def directField (f code : Nat) (a b c dem : Word) (s : State) : State :=
  fieldCommand f dem { a := w32 (code * 2 ^ 24 + a.toNat % 2 ^ 24), b := b, c := c, w3 := 0 } s

/-- A CLEAR whose channel lies outside the kind's range is no command of that kind (R435). -/
def clearKind (f lo hi : Nat) (a b c dem : Word) (s : State) : State :=
  if lo ≤ bits 7 0 a.toNat ∧ bits 7 0 a.toNat < hi then directField f 3 a b c dem s
  else raise 184 (blkRecord f 0x4050 [if bits 23 18 a.toNat = 0 ∧ bits 15 8 a.toNat = 0 ∧ b = 0 ∧ c = 0 then 2 else 1] s)

/-- PWM (R435). -/
def execPwm (f : Fin 4) (a b c : Word) (s : State) : Outcome := .next (directField f 2 a b c 0 s)

/-- CLEAR_DIO_OUTPUT (R418, R435). -/
def execClearDioOutput (f : Fin 4) (a b c : Word) (s : State) : Outcome := .next (clearKind f 0 24 a b c 0 s)

/-- CLEAR_LOAD_SWITCH (R423, R424, R435). -/
def execClearLoadSwitch (f : Fin 4) (a b c : Word) (s : State) : Outcome := .next (clearKind f 0x20 0x28 a b c 0 s)

/-- CLEAR_PAIR (R429, R435): `dem` is the pair word of the same release. -/
def execClearPair (f : Fin 4) (a b c dem : Word) (s : State) : Outcome := .next (clearKind f 0x40 0x44 a b c dem s)

/-! ### Tests in COMMISSION (R438) -/

/-- The output words that test `w` (FLD_TEST) gives block `f`: the demand of the one channel. -/
def testWords (w : Nat) : Word × Word × Word :=
  let ch := bits 23 16 w
  let on := bitAt 31 w && bitAt 0 w
  (if on ∧ ch < 24 then 1#32 <<< ch else 0, if on ∧ 0x20 ≤ ch ∧ ch < 0x28 then 1#32 <<< (ch - 0x20) else 0,
   if on ∧ 0x40 ≤ ch ∧ ch < 0x44 then 1#32 <<< (ch - 0x40) else 0)

/-- The test of FLD_TEST ends: the channel goes off, a pair to INTERLOCK; event source 185. -/
def endFieldTest (s : State) : State :=
  let w := (ctlGet 0x0310_0100 s).toNat
  let f := bits 25 24 w
  let ch := bits 23 16 w
  if !bitAt 31 w then s
  else
    let s1 := ctlSet 0x0310_0100 (w32 (w % 2 ^ 31)) s
    let s2 := applyWords f (0, 0, 0) (setBlock f (fun b => { b with words := none }) s1)
    raise 185 (if 0x40 ≤ ch ∧ ch < 0x44 then evalBlock f false (soSet f (ch - 0x40) .interlock s2) else s2)

/-- A write of FLD_TEST whose access has been judged (R438): one channel is under test at a time. The demand leaves with the
next outbound frame. -/
def fieldTestWrite (v : Word) (s0 : State) : State :=
  let s := { s0 with fld := { s0.fld with testAt := s0.now } }
  let old := (ctlGet 0x0310_0100 s).toNat
  let same := decide (bits 25 16 old = bits 25 16 v.toNat)
  let s1 := if bitAt 31 old && (!same || !bitAt 31 v.toNat) then endFieldTest s else s
  let s2 := ctlSet 0x0310_0100 v s1
  if bitAt 31 v.toNat then setBlock (bits 25 24 v.toNat) (fun b => { b with words := some (testWords v.toNat), handedAt := s2.now }) s2 else s2

/-- FLD_TEST_NOT_RENEWED (R438): 500 ms without a write; 0x4070. -/
def execFldTestNotRenewed (atNs : Nat) (s : State) : Outcome :=
  let s := advance atNs s
  if cbit 0x0310_0100 31 s = true ∧ s.fld.testAt + 500_000_000 ≤ s.now then
    .next (blkRecord (cf 0x0310_0100 25 24 s) 0x4070 [cf 0x0310_0100 23 16 s] (endFieldTest s))
  else .next s

end Sys2Proof.Machine
end

