-- ==== Sys2Proof/Machine/ImageOps.lean ====
section
/-!
DEFINITION. Content checks of envelopes (R304 check 7): the program image body (R127 to R135, R9, R56 to R58, R114), its command table
(R314), the policy table (R292, R293).
-/
namespace Sys2Proof.Machine

/-! ### The image body (R127 to R134) -/

/-- A directory entry: identifier, offset, length, CRC-32C, and whether its reserved bytes are 0 (R128). -/
structure Section_ where
  id : Nat
  off : Nat
  len : Nat
  crc : Nat
  zero : Bool

def directory (b : List Byte) : List Section_ :=
  ((List.range 12).map (fun i =>
    let o := 0x40 + 16 * i
    ({ id := leAt o 2 b, off := leAt (o + 4) 4 b, len := leAt (o + 8) 4 b, crc := leAt (o + 12) 4 b, zero := leAt (o + 2) 2 b == 0 } : Section_))).filter
    (fun e => e.id != 0)

/-- The bytes of section `id`; none when absent. -/
def sectionBytes (id : Nat) (b : List Byte) : Option (List Byte) := ((directory b).find? (fun e => e.id == id)).map (fun e => slice e.off e.len b)

def sectionOr (id : Nat) (b : List Byte) : List Byte := (sectionBytes id b).getD []

/-- The words of a section, little-endian. -/
def wordsOf : Nat → List Byte → List Word
  | 0, _ => []
  | n + 1, l => w32 (leAt 0 4 l) :: wordsOf n (l.drop 4)

def progWords (b : List Byte) : List Word := wordsOf ((sectionOr 1 b).length / 4) (sectionOr 1 b)
def progLenOf (b : List Byte) : Nat := (sectionOr 1 b).length / 4

/-- The 32 bytes of type `t`. -/
def typeBytes (t : Nat) (b : List Byte) : List Byte := slice (32 * t) 32 (sectionOr 2 b)

def typeUsed (t : Nat) (b : List Byte) : Bool := leAt 0 4 (typeBytes t b) != 0xFFFF_FFFF

def parseType (t : Nat) (b : List Byte) : TypeEntry :=
  let e := typeBytes t b
  { entry := leAt 0 4 e, weight := leAt 4 4 e, classes := BitVec.ofNat 16 (leAt 8 2 e), fieldMask := BitVec.ofNat 8 (leAt 10 1 e)
    axisMask := BitVec.ofNat 32 (leAt 12 4 e) }

def parseTypes (b : List Byte) : Tab TypeEntry :=
  ((List.range 256).filter (fun t => typeUsed t b)).map (fun t => (t, parseType t b))

/-- The 16-byte runs of a section. -/
def runsOf (l : List Byte) : List (List Byte) := (List.range (l.length / 16)).map (fun i => slice (16 * i) 16 l)

def parseObjects (b : List Byte) : List ObjectRun :=
  (runsOf (sectionOr 3 b)).map (fun r => { first := leAt 0 4 r, count := leAt 4 4 r, typ := leAt 8 1 r, cluster := leAt 9 1 r })

def parseGlobals (b : List Byte) : List GlobalRun :=
  (runsOf (sectionOr 4 b)).map (fun r => { first := leAt 0 4 r, count := leAt 4 4 r, owner := leAt 8 4 r })

/-- The owners of an owner table (R132). -/
def parseOwners (l : List Byte) : Tab Nat :=
  ((wordsOf (l.length / 4) l).zipIdx.filter (fun p => p.1 != 0xFFFF_FFFF)).map (fun p => (p.2, p.1.toNat))

/-- The blocks of a run-block section, or none when it breaks off (R133). -/
def parseBlocks : Nat → List Byte → Option (List RunBlock)
  | 0, _ => some []
  | _ + 1, [] => some []
  | fuel + 1, l =>
    let n := leAt 4 4 l
    let size := roundUp 16 (8 + 4 * n)
    if n = 0 ∨ l.length < size ∨ (slice (8 + 4 * n) (size - 8 - 4 * n) l).any (fun x => x != 0) = true then none
    else (parseBlocks fuel (l.drop size)).map (fun t => { first := leAt 0 4 l, data := wordsOf n (l.drop 8) } :: t)

def blocksOf (id : Nat) (b : List Byte) : Option (List RunBlock) := parseBlocks ((sectionOr id b).length / 16 + 1) (sectionOr id b)

def parseCommands (b : List Byte) : List CommandRow :=
  ((runsOf (sectionOr 10 b)).drop 1).map (fun r => {
    code := leAt 0 2 r, rank := leAt 2 1 r, berthMask := BitVec.ofNat 8 (leAt 3 1 r), firstType := leAt 4 1 r, lastType := leAt 5 1 r })

def splitEntries (b : List Byte) : List (List Nat) :=
  (List.range 8).map (fun k => (List.range 3).map (fun j => leAt (16 * k + 4 * j) 4 (sectionOr 9 b)))

/-- The image that a body describes. -/
def parseImage (b : List Byte) : Image :=
  { period := leAt 0x10 4 b, reloff := leAt 0x14 4 b, quantum := leAt 0x18 4 b, depth := leAt 0x1C 1 b, limit := leAt 0x1D 1 b
    window := leAt 0x1E 2 b, entry := leAt 0x0C 4 b, modes := (slice 0x20 8 b).map BitVec.toNat, version := w32 (leAt 0x28 4 b)
    buildId := slice 0x30 16 b, progLen := progLenOf b, prog := progWords b, types := parseTypes b, objects := parseObjects b
    globals := parseGlobals b, timerOwner := parseOwners (sectionOr 5 b), connOwner := parseOwners (sectionOr 6 b)
    stateInit := (blocksOf 7 b).getD [], paramInit := (blocksOf 8 b).getD [], splitEntry := splitEntries b, commands := parseCommands b
    hash := sha256 b }

/-! ### Image checks (R9, R56 to R58, R114, R135) -/

/-- Every byte of a slice is 0. -/
def zeroAt (o n : Nat) (l : List Byte) : Bool := (slice o n l).all (fun x => x == 0)

/-- The image declares, or places objects on, an unfitted cluster (R9). -/
def usesUnfitted (I : Image) (s : State) : Bool :=
  (List.range 8).any (fun k => decide (s.clustersFitted ≤ k) && I.modes.getD k 2 != 2)
    || I.objects.any (fun r => decide (s.clustersFitted ≤ r.cluster ∧ r.cluster < 8))

def headerOk (b : List Byte) : Bool :=
  decide (leAt 0 4 b = 0x474D_494B ∧ leAt 4 2 b = 1 ∧ leAt 8 4 b = b.length ∧ b.length % 16 = 0 ∧ 256 ≤ b.length)
    && zeroAt 6 2 b && zeroAt 0x2C 4 b

/-- The length that R129 allows for a section. -/
def lengthOk (e : Section_) : Bool :=
  match e.id with
  | 1 => decide (4 ≤ e.len ∧ e.len ≤ 4_194_304 ∧ e.len % 4 = 0)
  | 2 => e.len == 8_192
  | 3 => decide (16 ≤ e.len ∧ e.len % 16 = 0)
  | 4 => e.len % 16 == 0
  | 5 => e.len == 262_144
  | 6 => e.len == 32_768
  | 9 => e.len == 128
  | _ => true

/-- The reserved bytes of every directory entry are 0, those of an empty entry too (R128, R135). -/
def reservedEntriesOk (b : List Byte) : Bool := (List.range 12).all (fun i => zeroAt (0x42 + 16 * i) 2 b)

def directoryOk (b : List Byte) : Bool :=
  let d := directory b
  reservedEntriesOk b &&
  d.all (fun e => decide (e.id ≤ 10) && e.zero && decide (e.off % 16 = 0 ∧ 0x100 ≤ e.off ∧ e.off + e.len ≤ b.length) && lengthOk e)
    && decide ((d.map Section_.id).Nodup) && disjoint (d.map (fun e => (e.off, e.len)))
    && [1, 2, 3, 10].all (fun i => d.any (fun e => e.id == i))
    && (!(slice 0x20 8 b).contains 1 || d.any (fun e => e.id == 9))

def sectionsCrcOk (b : List Byte) : Bool := (directory b).all (fun e => (crc32c (slice e.off e.len b)).toNat == e.crc)

def typesOk (b : List Byte) : Bool :=
  decide (leAt 0x0C 4 b < progLenOf b) && (List.range 256).all (fun t =>
    let e := typeBytes t b
    if typeUsed t b then
      decide (leAt 0 4 e < progLenOf b ∧ 1 ≤ leAt 4 4 e ∧ leAt 4 4 e ≤ 16_777_215 ∧ leAt 8 2 e < 1024 ∧ leAt 10 1 e < 16)
        && zeroAt 11 1 e && zeroAt 16 16 e
    else zeroAt 4 28 e)

/-- Runs stand in ascending order of first number and do not overlap; none extends beyond 1,048,575. -/
def runsAscend : List (Nat × Nat) → Bool
  | [] => true
  | r :: t => decide (1 ≤ r.2 ∧ r.1 + r.2 ≤ 2 ^ 20) && (match t with | [] => true | q :: _ => decide (r.1 + r.2 ≤ q.1)) && runsAscend t

/-- No number lies in a run of both tables. -/
def tablesDisjoint (a b : List (Nat × Nat)) : Bool := a.all (fun r => b.all (fun q => decide (r.1 + r.2 ≤ q.1 ∨ q.1 + q.2 ≤ r.1)))

def objectIn (I : Image) (o : Nat) : Option ObjectRun := I.objects.find? (fun r => decide (r.first ≤ o ∧ o < r.first + r.count))

def objectsOk (b : List Byte) (s : State) : Bool :=
  let I := parseImage b
  let os := I.objects.map (fun r => (r.first, r.count))
  let gs := I.globals.map (fun r => (r.first, r.count))
  (runsOf (sectionOr 3 b)).all (fun r => zeroAt 10 6 r) && (runsOf (sectionOr 4 b)).all (fun r => zeroAt 12 4 r)
    && runsAscend os && runsAscend gs && tablesDisjoint os gs
    && I.objects.all (fun r => decide (r.cluster < 8) && (keysOf I.types).contains r.typ
        && (decide (s.clustersFitted ≤ r.cluster) || I.modes.getD r.cluster 2 == 0))
    && I.globals.all (fun g => (objectIn I g.owner).isSome
        && decide (((I.globals.filter (fun h => h.owner == g.owner)).map GlobalRun.count).foldl (· + ·) 0 ≤ 63))

/-- Every owner is an object whose type holds class `cls` (R135). -/
def ownersOk (I : Image) (owners : Tab Nat) (cls : Nat) : Bool :=
  owners.all (fun p => match objectIn I p.2 with
    | some r => ((I.types.find? (fun t => t.1 == r.typ)).map (fun t => t.2.classes.getLsbD cls)).getD false
    | none => false)

def blocksOk (id limit : Nat) (b : List Byte) : Bool :=
  match blocksOf id b with
  | none => false
  | some l => l.all (fun x => decide (x.first + x.data.length ≤ limit)) && disjoint (l.map (fun x => (x.first, x.data.length)))
      && decide ((l.map RunBlock.first).Pairwise (· < ·))

def modesOk (b : List Byte) : Bool :=
  let m := (slice 0x20 8 b).map BitVec.toNat
  m.all (fun x => decide (x ≤ 2)) && m.contains 0 &&
    (if (sectionBytes 9 b).isNone then true else (List.range 8).all (fun k =>
      let e := slice (16 * k) 16 (sectionOr 9 b)
      zeroAt 12 4 e && (if m.getD k 2 = 1 then (List.range 3).all (fun j => decide (leAt (4 * j) 4 e < progLenOf b)) else zeroAt 0 12 e)))

def runAheadOk (b : List Byte) : Bool :=
  decide (1 ≤ leAt 0x1C 1 b ∧ leAt 0x1C 1 b ≤ 4 ∧ 1 ≤ leAt 0x1D 1 b ∧ 1 ≤ leAt 0x1E 2 b)

/-- The ranges of R56 and the release window rule of R58, in tenths of a nanosecond. -/
def declarationOk (p d q : Nat) : Bool :=
  decide (200 ≤ p ∧ p ≤ 100_000 ∧ 1 ≤ d ∧ d ≤ 99_999 ∧ 1 ≤ q ∧ q ≤ 256 ∧ 100_000 * d + 500_000 + (646_000 + 68_267 * q) ≤ 100_000 * p)

/-- The cycle budget of an image with every fitted core in service (R57). -/
def imageBudgetOk (I : Image) (s : State) : Bool :=
  budgetOk { s with
    image := some I, cores := []
    seq := { s.seq with period := I.period, reloff := I.reloff, clMode := I.modes.zipIdx.map (fun p => (p.2, p.1)) } }

/-- The layout of the command table (R314). -/
def commandsOk (b : List Byte) : Bool :=
  let t := sectionOr 10 b
  let n := leAt 0 4 t
  decide (1 ≤ n ∧ n ≤ 4_096 ∧ t.length = 16 + 16 * n) && zeroAt 4 12 t
    && ((runsOf t).drop 1).all (fun r => decide (1 ≤ leAt 0 2 r ∧ leAt 4 1 r ≤ leAt 5 1 r) && zeroAt 6 10 r)
    && decide (((parseCommands b).map CommandRow.code).Pairwise (· < ·))

/-- The code of the first check that an image body fails, or 0 (R9 first, then the table of R135 in its order, then R56, R57 and R314). -/
def imageCode (b : List Byte) (s : State) : Nat :=
  let I := parseImage b
  if usesUnfitted I s then 0x9010
  else if !headerOk b then 0x1110
  else if !directoryOk b then 0x1111
  else if !sectionsCrcOk b then 0x1112
  else if !typesOk b then 0x1113
  else if !objectsOk b s then 0x1114
  else if !(ownersOk I I.timerOwner 9 && ownersOk I I.connOwner 6) then 0x1115
  else if !(blocksOk 7 1_048_576 b && blocksOk 8 3_145_728 b) then 0x1116
  else if !modesOk b then 0x1117
  else if !runAheadOk b then 0x1118
  else if !declarationOk I.period I.reloff I.quantum then 0x1106
  else if !imageBudgetOk I s then 0x1107
  else if !commandsOk b then 0x6107
  else 0

/-! ### The policy table (R292, R293) -/

/-- The 16 bytes of berth entry `k`. -/
def berthEntry (k : Nat) (b : List Byte) : List Byte := slice (0x20 + 16 * k) 16 b

/-- The 64 bytes of revocation entry `k`: issuer key hash and serial. -/
def revocation (k : Nat) (b : List Byte) : List Byte × List Byte :=
  let e := slice (0x100 + 64 * k) 64 b
  (e.take 32, (e.drop 33).take (leAt 32 1 e))

def parsePolicy (b : List Byte) : Policy :=
  let entry := fun (o n : Nat) => (List.range 8).map (fun k => (k, leAt o n (berthEntry k b)))
  { identity := leAt 6 2 b, holdOnLimit := bitAt 0 (leAt 0x0C 4 b), openLimit := leAt 0x10 2 b, lockout := leAt 0x12 2 b
    globalLimit := leAt 0x14 2 b, roles := entry 0 1, enabled := (entry 1 1).map (fun p => (p.1, bitAt 0 p.2))
    tcpPort := entry 2 2, portMask := entry 4 1, idle := entry 6 2, limit := entry 8 2
    revoked := (List.range (leAt 0x18 4 b)).map (fun k => revocation k b), payload := b }

/-- A berth entry breaks none of R293's rows of its own. -/
def berthEntryOk (k : Nat) (b : List Byte) : Bool :=
  let e := berthEntry k b
  let roles := leAt 0 1 e
  let on := bitAt 0 (leAt 1 1 e)
  decide (roles < 64 ∧ leAt 1 1 e < 2) && zeroAt 5 1 e && zeroAt 10 6 e
    && !(bitAt 0 roles && bitAt 4 roles) && (!bitAt 0 roles || leAt 8 2 e != 0) && decide (leAt 8 2 e ≤ 13_311)
    && (if k ≤ 2 then leAt 2 2 e == 0 && leAt 4 1 e == 0
        else !on || (leAt 2 2 e != 0 && leAt 4 1 e != 0 && decide (1 ≤ leAt 6 2 e ∧ leAt 6 2 e ≤ 3_600)))

/-- The ports of the enabled entries of BTH3 to BTH7. -/
def enabledPorts (b : List Byte) : List Nat :=
  ([3, 4, 5, 6, 7].filter (fun k => bitAt 0 (leAt 1 1 (berthEntry k b)))).map (fun k => leAt 2 2 (berthEntry k b))

/-- A revocation entry in use: serial length 1 to 20, the rest zero; the entries beyond the count are not examined. -/
def revocationOk (k : Nat) (b : List Byte) : Bool :=
  let e := slice (0x100 + 64 * k) 64 b
  decide (leAt 32 1 e ≤ 20) && zeroAt (33 + leAt 32 1 e) (20 - leAt 32 1 e) e && zeroAt 53 11 e

/-- The payload is a policy table that R292 and R293 admit; `ident`: the working copy of LKP_IDENT. -/
def policyOk (b : List Byte) (ident : Nat) : Bool :=
  decide (b.length = 16_640 ∧ leAt 0 4 b = 0x4C4F_504B ∧ leAt 4 2 b = 1 ∧ leAt 8 4 b = 16_640 ∧ leAt 0x0C 4 b < 2
    ∧ 1 ≤ leAt 6 2 b ∧ leAt 6 2 b ≤ 4_094 ∧ leAt 6 2 b = ident ∧ 1 ≤ leAt 0x10 2 b ∧ leAt 0x10 2 b ≤ 255
    ∧ 1 ≤ leAt 0x12 2 b ∧ leAt 0x12 2 b ≤ 3_600 ∧ 1 ≤ leAt 0x14 2 b ∧ leAt 0x18 4 b ≤ 256)
    && zeroAt 0x16 2 b && zeroAt 0x1C 4 b && zeroAt 0xA0 96 b
    && (List.range 8).all (fun k => berthEntryOk k b) && decide (enabledPorts b).Nodup
    && (List.range (leAt 0x18 4 b)).all (fun k => revocationOk k b)

end Sys2Proof.Machine
end

