-- ==== Sys2Proof/Machine/RegMap.lean ====
section
/-!
DEFINITION. The map of the control space (R539, R540, R545 to R547): every register with its address, its array strides and the fields
its chapter gives it, and the data areas. A `row` reads: register, address of instance 0, instances and stride of the outer and of
the inner index, the block that must be fitted, fields.
-/
namespace Sys2Proof.Machine

/-- The registers that a read computes or that do more than hold what is written; every other register is `stored`. -/
inductive RegName where
  | stored | lgcSeqPeriod | lgcSeqReloff | lgcSeqScrub | lgcSeqCtrl | lgcSeqStatus | lgcSeqSrc | lgcSeqBatch
  | lgcSeqTeval | lgcSeqTclose | lgcSeqTmax | lgcSeqOvrtot | lgcSeqWmax | lgcSeqWlim | lgcSeqCoreload | lgcAccCfg
  | lgcAccStatus | lgcAccClmode | lgcAccClreq | lgcAccRetlo | lgcAccRethi | lgcAccLast | lgcAccUndos | lgcAccOutv
  | lgcAccOuttot | lgcExcCode | lgcExcPc | lgcExcObj | lgcExcAcode | lgcTimeDtlo | lgcTimeDthi | lgcTimeMcclo
  | lgcTimeMcchi | motAxState | motAxSetp | motAxAct | motAxOrigin | motGrpStatus | motMbox | motTest | fbkPcCfg
  | fbkPcLines | fbkPcCount | fbkPcSpeed | fbkPcIndex | fbkPcStatus | fbkPcErr | fbkWcCfg | fbkWcState | fbkWcIn
  | fbkWcOut | fbkSecCfg | fbkSecState | fbkSsCfg | fbkSsCreep | fbkSsState | fbkEoCfg | fbkEoStatus | fbkPcClr
  | fbkWcClr | fldBlkStatus | fldBlkSense | fldDioCfg | fldDioDiag | fldPairCfg | fldPairStatus | fldLsCfg | fldLsStatus
  | fldSoCfg | fldSoFb | fldSoStatus | fldWfeCur | fldLinkErr | fldTest | netPortCfg | netPortStatus | netPortRxcnt
  | netPortTxcnt | netPortErr | netYalaStatus | netYalaEpoch | netYalaAlarm | netYalaLastalm | netYconRx | netYconDisc
  | netYconGap | netYconLast | netTriCfg | netTriState | netTriAlign | netTriAgree | netTriJoin | netTriCtrl | netTpLink
  | netTpErr | netTpViol | bthState | bthNarrow | bthFail | bthCmds | bthCert | bthReset | bthAnchor | bthGfail
  | jnlState | jnlHead | jnlAcked | jnlArm | jnlFree | jnlLost | jnlStage | jnlMetClr | evcCtrl | evcStatus | evcWake
  | evcPend | evcRaise | evcCorePrio | evcCoreClaim | evcCoreResets | evcStmrCfg | evcStmrNow | evcSrcCfg | evcSrcStat
  | lkpMapver | lkpFit | lkpMode | lkpReset | lkpCause | lkpBoot | lkpCmsn | lkpBootcnt | lkpSerialLo | lkpSerialHi
  | lkpIdent | lkpClkmon | lkpWallSlo | lkpWallShi | lkpWallNs | lkpKlog | lkpTemp | lkpVolt | lkpSensTseen
  | lkpSensVseen | lkpUpdSlot | lkpUpdCtrl | lkpRollback | lkpStbl | snpCtrl | snpStatus | snpDtlo | snpDthi | snpMcclo
  | snpMcchi | snpSeq
  deriving DecidableEq, Repr

/-- The access codes of R14. -/
inductive FAcc where
  | ro | rw | rwc | w1c | w1s | rc | wo
  deriving DecidableEq, Repr

/-- Whom a field's description, or R285, lets change it. The lock-keeper core may change every field (R543). -/
inductive Grant where
  | none | maintain | engineer | engineerUpdate | serviceCore | nobody
  deriving DecidableEq, Repr

/-- The block whose option decides whether a register is fitted (R2, R8): AXn, the axis group 8n, PCn, WCn, FBn. -/
inductive Unit_ where
  | always | axis | group | chan | head | block
  deriving DecidableEq, Repr

/-- A field: its bits, its access code, who may change it, and whether its description limits writes to COMMISSION. -/
structure Fld where
  acc : FAcc
  hi : Nat
  lo : Nat
  who : Grant
  comm : Bool
  deriving DecidableEq, Repr

/-- One line of the register index (R547) with the fields of its chapter. -/
structure RegRow where
  reg : RegName
  base : Nat
  n : Nat
  step : Nat
  m : Nat
  step2 : Nat
  unit : Unit_
  fields : List Fld
  deriving DecidableEq, Repr

def fld (acc : FAcc) (hi lo : Nat) (who : Grant) (comm : Bool := false) : Fld := ⟨acc, hi, lo, who, comm⟩
def ro (hi lo : Nat) : Fld := ⟨.ro, hi, lo, .none, false⟩
def rc (hi lo : Nat) : Fld := ⟨.rc, hi, lo, .none, false⟩
def rwc (hi lo : Nat) : Fld := ⟨.rwc, hi, lo, .engineer, true⟩
def row (reg : RegName) (base n step m step2 : Nat) (unit : Unit_) (fields : List Fld) : RegRow := ⟨reg, base, n, step, m, step2, unit, fields⟩

/-- The registers of the LGC window. -/
def rowsLgc : List RegRow := [
  row .lgcSeqPeriod 0x00F0_0000 1 0x4 1 0x4 .always [ro 16 0],
  row .lgcSeqReloff 0x00F0_0004 1 0x4 1 0x4 .always [ro 16 0],
  row .lgcSeqScrub 0x00F0_0008 1 0x4 1 0x4 .always [ro 8 0],
  row .lgcSeqCtrl 0x00F0_000C 1 0x4 1 0x4 .always [fld .w1s 1 1 .maintain, fld .w1s 0 0 .maintain],
  row .lgcSeqStatus 0x00F0_0010 1 0x4 1 0x4 .always [ro 9 9, ro 8 8, ro 5 4, ro 2 0],
  row .lgcSeqSrc 0x00F0_0014 1 0x4 1 0x4 .always [ro 7 0],
  row .lgcSeqBatch 0x00F0_0018 1 0x4 1 0x4 .always [ro 31 16, ro 15 0],
  row .lgcSeqTeval 0x00F0_001C 1 0x4 1 0x4 .always [ro 31 0],
  row .lgcSeqTclose 0x00F0_0020 1 0x4 1 0x4 .always [ro 31 0],
  row .lgcSeqTmax 0x00F0_0024 1 0x4 1 0x4 .always [ro 31 0],
  row .lgcSeqOvrtot 0x00F0_0028 1 0x4 1 0x4 .always [ro 31 0],
  row .lgcSeqWmax 0x00F0_002C 1 0x4 1 0x4 .always [ro 31 0],
  row .lgcSeqWlim 0x00F0_0030 1 0x4 1 0x4 .always [ro 31 0],
  row .lgcSeqCoreload 0x00F0_0100 64 0x4 1 0x4 .always [ro 31 0],
  row .lgcAccCfg 0x00F1_0000 1 0x4 1 0x4 .always [ro 31 16, ro 15 8, ro 2 0],
  row .lgcAccStatus 0x00F1_0004 1 0x4 1 0x4 .always [ro 16 16, ro 15 8, ro 7 0],
  row .lgcAccClmode 0x00F1_0008 1 0x4 1 0x4 .always [ro 15 0],
  row .lgcAccClreq 0x00F1_000C 1 0x4 1 0x4 .always [fld .w1s 15 8 .maintain, fld .w1s 7 0 .maintain],
  row .lgcAccRetlo 0x00F1_0010 1 0x4 1 0x4 .always [ro 31 0],
  row .lgcAccRethi 0x00F1_0014 1 0x4 1 0x4 .always [ro 31 0],
  row .lgcAccLast 0x00F1_0018 1 0x4 1 0x4 .always [ro 31 30, ro 29 24, ro 15 0],
  row .lgcAccUndos 0x00F1_001C 1 0x4 1 0x4 .always [ro 31 0],
  row .lgcAccOutv 0x00F1_0100 64 0x4 1 0x4 .always [ro 23 16, ro 15 8, ro 7 0],
  row .lgcAccOuttot 0x00F1_0200 64 0x4 1 0x4 .always [ro 31 0],
  row .lgcExcCode 0x00F2_0000 1 0x4 1 0x4 .always [ro 29 24, ro 23 22, ro 15 0],
  row .lgcExcPc 0x00F2_0004 1 0x4 1 0x4 .always [ro 19 0],
  row .lgcExcObj 0x00F2_0008 1 0x4 1 0x4 .always [ro 27 20, ro 19 0],
  row .lgcExcAcode 0x00F2_000C 1 0x4 1 0x4 .always [ro 15 0],
  row .lgcTimeDtlo 0x00FF_0000 1 0x4 1 0x4 .always [ro 31 0],
  row .lgcTimeDthi 0x00FF_0004 1 0x4 1 0x4 .always [ro 31 0],
  row .lgcTimeMcclo 0x00FF_0008 1 0x4 1 0x4 .always [ro 31 0],
  row .lgcTimeMcchi 0x00FF_000C 1 0x4 1 0x4 .always [ro 15 0]]

/-- The registers of the MOT window. -/
def rowsMot : List RegRow := [
  row .stored 0x0100_0000 32 0x100 1 0x4 .axis [rwc 19 16, rwc 13 12, rwc 11 10, rwc 7 4, rwc 1 0],
  row .stored 0x0100_0004 32 0x100 1 0x4 .axis [rwc 31 16, rwc 15 0],
  row .stored 0x0100_0008 32 0x100 1 0x4 .axis [rwc 31 16, rwc 15 0],
  row .stored 0x0100_000C 32 0x100 1 0x4 .axis [rwc 31 16, rwc 15 0],
  row .stored 0x0100_0010 32 0x100 1 0x4 .axis [rwc 31 0],
  row .stored 0x0100_0014 32 0x100 1 0x4 .axis [rwc 31 0],
  row .stored 0x0100_0018 32 0x100 1 0x4 .axis [rwc 31 0],
  row .stored 0x0100_001C 32 0x100 1 0x4 .axis [rwc 31 16, rwc 15 0],
  row .stored 0x0100_0020 32 0x100 1 0x4 .axis [rwc 25 24, rwc 23 23, rwc 22 16, rwc 15 8, rwc 7 0],
  row .stored 0x0100_0024 32 0x100 1 0x4 .axis [rwc 31 0],
  row .stored 0x0100_0028 32 0x100 1 0x4 .axis [rwc 31 0],
  row .stored 0x0100_002C 32 0x100 1 0x4 .axis [rwc 23 16, rwc 15 0],
  row .stored 0x0100_0030 32 0x100 1 0x4 .axis [rwc 31 16, rwc 13 10, rwc 9 9, rwc 8 8, rwc 7 7, rwc 6 0],
  row .stored 0x0100_0034 32 0x100 1 0x4 .axis [rwc 31 0],
  row .stored 0x0100_0038 32 0x100 1 0x4 .axis [rwc 31 0],
  row .stored 0x0100_0040 32 0x100 4 0x4 .axis [rwc 31 0],
  row .stored 0x0100_0050 32 0x100 4 0x4 .axis [rwc 31 0],
  row .motAxState 0x0100_0080 32 0x100 1 0x4 .axis [ro 31 16, ro 15 8, ro 7 7, ro 6 6, ro 5 5, ro 4 4, ro 3 0],
  row .motAxSetp 0x0100_0084 32 0x100 1 0x4 .axis [ro 31 0],
  row .motAxAct 0x0100_0088 32 0x100 1 0x4 .axis [ro 31 0],
  row .motAxOrigin 0x0100_008C 32 0x100 1 0x4 .axis [ro 31 0],
  row .stored 0x0108_0000 8 0x4 1 0x4 .always [rwc 31 0],
  row .stored 0x0109_0000 4 0x10 1 0x4 .group [rwc 31 24, rwc 21 20, rwc 19 16, rwc 13 0],
  row .motGrpStatus 0x0109_0004 4 0x10 1 0x4 .group [ro 8 8, ro 7 0],
  row .motMbox 0x010A_0000 1 0x4 1 0x4 .always [rc 31 16, ro 15 15, ro 10 0],
  row .motTest 0x010A_0004 1 0x4 1 0x4 .always [fld .rw 10 8 .maintain true, fld .rw 4 0 .maintain true]]

/-- The registers of the FBK window. -/
def rowsFbk : List RegRow := [
  row .fbkPcCfg 0x0200_0000 32 0x40 1 0x4 .chan [rwc 31 24, rwc 23 16, rwc 6 6, rwc 5 5, rwc 4 4, rwc 3 3, rwc 2 2, rwc 1 0],
  row .fbkPcLines 0x0200_0004 32 0x40 1 0x4 .chan [rwc 31 24, rwc 23 0],
  row .stored 0x0200_0008 32 0x40 1 0x4 .chan [rwc 31 16, rwc 1 0],
  row .stored 0x0200_000C 32 0x40 1 0x4 .chan [rwc 31 16, rwc 15 0],
  row .stored 0x0200_0010 32 0x40 1 0x4 .chan [rwc 31 0],
  row .fbkPcCount 0x0200_0020 32 0x40 1 0x4 .chan [ro 31 0],
  row .fbkPcSpeed 0x0200_0024 32 0x40 1 0x4 .chan [ro 31 0],
  row .fbkPcIndex 0x0200_0028 32 0x40 1 0x4 .chan [ro 31 0],
  row .fbkPcStatus 0x0200_002C 32 0x40 1 0x4 .chan [ro 23 16, ro 9 9, ro 8 8, ro 3 3, ro 2 2, ro 1 1, ro 0 0],
  row .fbkPcErr 0x0200_0030 32 0x40 1 0x4 .chan [rc 31 16, rc 15 0],
  row .fbkWcCfg 0x0200_1000 16 0x40 1 0x4 .head [rwc 1 1, rwc 0 0],
  row .fbkWcState 0x0200_1004 16 0x40 1 0x4 .head [ro 31 16, ro 10 8, ro 7 6, ro 5 4, ro 3 0],
  row .fbkWcIn 0x0200_1008 16 0x40 1 0x4 .head [ro 23 0],
  row .fbkWcOut 0x0200_100C 16 0x40 1 0x4 .head [ro 23 0],
  row .fbkSecCfg 0x0200_2000 16 0x10 1 0x4 .always [rwc 31 16, rwc 15 0],
  row .fbkSecState 0x0200_2004 16 0x10 1 0x4 .always [ro 27 16, ro 11 4, ro 1 0],
  row .fbkSsCfg 0x0200_3000 8 0x10 1 0x4 .always [rwc 31 31, rwc 28 24, rwc 20 16, rwc 15 0],
  row .fbkSsCreep 0x0200_3004 8 0x10 1 0x4 .always [rwc 15 0],
  row .fbkSsState 0x0200_3008 8 0x10 1 0x4 .always [ro 31 16, ro 2 2, ro 1 1, ro 0 0],
  row .fbkEoCfg 0x0200_4000 8 0x20 1 0x4 .always [rwc 31 16, rwc 15 15, rwc 14 14, rwc 6 0],
  row .stored 0x0200_4004 8 0x20 1 0x4 .always [rwc 31 16, rwc 15 0],
  row .fbkEoStatus 0x0200_4008 8 0x20 1 0x4 .always [ro 31 16, ro 2 2, fld .w1c 1 1 .maintain, ro 0 0],
  row .fbkPcClr 0x0200_5000 1 0x4 1 0x4 .always [fld .w1s 31 0 .maintain],
  row .fbkWcClr 0x0200_5004 1 0x4 1 0x4 .always [fld .w1s 15 0 .maintain]]

/-- The registers of the FLD window. -/
def rowsFld : List RegRow := [
  row .stored 0x0300_0000 4 0x10000 1 0x4 .block [rwc 21 12, rwc 0 0],
  row .fldBlkStatus 0x0300_0004 4 0x10000 1 0x4 .block [ro 31 16, ro 8 8, ro 7 7, ro 6 6, ro 5 5, ro 4 4, ro 3 3, ro 1 0],
  row .fldBlkSense 0x0300_0008 4 0x10000 1 0x4 .block [ro 31 16, ro 15 0],
  row .fldDioCfg 0x0300_0100 4 0x10000 24 0x4 .block [rwc 7 7, rwc 6 6, rwc 5 5, rwc 4 4, rwc 3 2, rwc 1 1, rwc 0 0],
  row .fldDioDiag 0x0300_0180 4 0x10000 4 0x4 .block [fld .w1c 23 0 .maintain],
  row .fldPairCfg 0x0300_0200 4 0x10000 12 0x4 .block [rwc 31 31, rwc 30 30, rwc 10 0],
  row .fldPairStatus 0x0300_0240 4 0x10000 1 0x4 .block [ro 27 16, ro 11 0],
  row .fldLsCfg 0x0300_0300 4 0x10000 8 0x4 .block [rwc 21 12, rwc 11 8, rwc 2 2, rwc 1 1, rwc 0 0],
  row .fldLsStatus 0x0300_0320 4 0x10000 8 0x4 .block [ro 31 16, ro 15 12, ro 7 7, ro 3 0],
  row .fldSoCfg 0x0300_0400 4 0x10000 4 0x10 .block [rwc 31 31, rwc 30 30, rwc 29 23, rwc 22 13, rwc 9 0],
  row .fldSoFb 0x0300_0404 4 0x10000 4 0x10 .block [rwc 15 15, rwc 14 8, rwc 6 0],
  row .fldSoStatus 0x0300_0408 4 0x10000 4 0x10 .block [ro 31 16, ro 7 6, ro 5 5, ro 4 4, ro 3 0],
  row .stored 0x0300_0500 4 0x10000 4 0x4 .block [rwc 0 0],
  row .fldWfeCur 0x0300_0510 4 0x10000 4 0x4 .block [ro 31 16, ro 15 0],
  row .fldLinkErr 0x0310_0000 4 0x10 1 0x4 .block [rc 31 16, rc 15 0],
  row .fldTest 0x0310_0100 1 0x4 1 0x4 .always [fld .rw 31 31 .maintain true, fld .rw 25 24 .maintain true, fld .rw 23 16 .maintain true, fld .rw 0 0 .maintain true]]

/-- The registers of the NET window. -/
def rowsNet : List RegRow := [
  row .netPortCfg 0x0400_0000 4 0x100 1 0x4 .always [rwc 28 23, rwc 22 20, rwc 19 8, rwc 6 6, rwc 5 4, rwc 3 3, rwc 2 1, rwc 0 0],
  row .netPortStatus 0x0400_0004 4 0x100 1 0x4 .always [ro 5 5, ro 4 4, ro 3 3, ro 2 2, ro 1 1, ro 0 0],
  row .stored 0x0400_0008 4 0x100 1 0x4 .always [rwc 31 0],
  row .stored 0x0400_000C 4 0x100 1 0x4 .always [rwc 15 0],
  row .stored 0x0400_0010 4 0x100 1 0x4 .always [rwc 31 0],
  row .netPortRxcnt 0x0400_0020 4 0x100 1 0x4 .always [rc 31 0],
  row .netPortTxcnt 0x0400_0024 4 0x100 1 0x4 .always [rc 31 0],
  row .netPortErr 0x0400_0028 4 0x100 1 0x4 .always [rc 31 16, rc 15 0],
  row .stored 0x0410_0000 1 0x4 1 0x4 .always [rwc 31 16, rwc 1 1, rwc 0 0],
  row .netYalaStatus 0x0410_0004 1 0x4 1 0x4 .always [ro 27 14, ro 13 0],
  row .netYalaEpoch 0x0410_0008 1 0x4 1 0x4 .always [ro 23 0],
  row .netYalaAlarm 0x0410_000C 1 0x4 1 0x4 .always [rc 31 0],
  row .netYalaLastalm 0x0410_0010 1 0x4 1 0x4 .always [ro 31 16, ro 12 0],
  row .netYconRx 0x0420_0000 8192 0x10 1 0x4 .always [ro 31 0],
  row .netYconDisc 0x0420_0004 8192 0x10 1 0x4 .always [rc 31 16, rc 15 0],
  row .netYconGap 0x0420_0008 8192 0x10 1 0x4 .always [ro 31 0],
  row .netYconLast 0x0420_000C 8192 0x10 1 0x4 .always [ro 31 16, ro 1 0],
  row .netTriCfg 0x0480_0000 1 0x4 1 0x4 .always [rwc 31 16, rwc 15 12, rwc 2 1, rwc 0 0],
  row .netTriState 0x0480_0004 1 0x4 1 0x4 .always [ro 15 15, ro 14 12, ro 10 8, ro 6 4, ro 2 0],
  row .netTriAlign 0x0480_0008 1 0x4 1 0x4 .always [ro 31 0],
  row .netTriAgree 0x0480_000C 1 0x4 1 0x4 .always [ro 31 16, ro 15 0],
  row .netTriJoin 0x0480_0010 1 0x4 1 0x4 .always [ro 8 4, ro 3 0],
  row .netTriCtrl 0x0480_0014 1 0x4 1 0x4 .always [fld .w1s 0 0 .maintain],
  row .netTpLink 0x0480_0100 2 0x10 1 0x4 .always [ro 31 16, ro 3 2, ro 1 0],
  row .netTpErr 0x0480_0104 2 0x10 1 0x4 .always [rc 31 16, rc 15 0],
  row .netTpViol 0x0480_0108 2 0x10 1 0x4 .always [rc 31 16, rc 15 0]]

/-- The registers of the BTH window. -/
def rowsBth : List RegRow := [
  row .bthState 0x0500_0000 8 0x20 1 0x4 .always [ro 23 16, ro 15 8, ro 2 0],
  row .bthNarrow 0x0500_0004 8 0x20 1 0x4 .always [fld .w1s 5 0 .serviceCore],
  row .bthFail 0x0500_0008 8 0x20 1 0x4 .always [rc 31 16, rc 15 0],
  row .bthCmds 0x0500_000C 8 0x20 1 0x4 .always [ro 31 0],
  row .bthCert 0x0500_0010 8 0x20 1 0x4 .always [ro 31 0],
  row .bthReset 0x0500_0100 1 0x4 1 0x4 .always [fld .w1s 7 0 .serviceCore],
  row .bthAnchor 0x0500_0104 1 0x4 1 0x4 .always [ro 17 17, ro 16 16, ro 15 8, ro 3 3, ro 2 0],
  row .bthGfail 0x0500_0108 1 0x4 1 0x4 .always [ro 31 0]]

/-- The registers of the JNL window. -/
def rowsJnl : List RegRow := [
  row .stored 0x0600_0000 1 0x4 1 0x4 .always [rwc 0 0],
  row .jnlState 0x0600_0004 1 0x4 1 0x4 .always [ro 31 16, ro 3 3, ro 1 0],
  row .jnlHead 0x0600_0008 1 0x4 1 0x4 .always [ro 31 0],
  row .jnlAcked 0x0600_000C 1 0x4 1 0x4 .always [ro 31 0],
  row .jnlArm 0x0600_0010 1 0x4 1 0x4 .always [ro 31 0],
  row .jnlFree 0x0600_0014 1 0x4 1 0x4 .always [ro 15 0],
  row .jnlLost 0x0600_0018 1 0x4 1 0x4 .always [ro 31 0],
  row .jnlStage 0x0600_001C 1 0x4 1 0x4 .always [ro 31 16, ro 15 0],
  row .stored 0x0600_0020 1 0x4 1 0x4 .always [rwc 10 0],
  row .jnlMetClr 0x0600_0024 1 0x4 1 0x4 .always [fld .w1s 31 31 .maintain, fld .wo 11 0 .maintain],
  row .stored 0x0601_0000 4096 0x10 1 0x4 .always [rwc 1 1, rwc 0 0],
  row .stored 0x0601_0004 4096 0x10 1 0x4 .always [rwc 31 0],
  row .stored 0x0601_0008 4096 0x10 1 0x4 .always [rwc 31 0]]

/-- The registers of the EVC window. -/
def rowsEvc : List RegRow := [
  row .evcCtrl 0x0700_0000 1 0x4 1 0x4 .always [ro 2 2, fld .rw 1 1 .nobody, fld .rw 0 0 .serviceCore],
  row .evcStatus 0x0700_0004 1 0x4 1 0x4 .always [ro 8 0],
  row .evcWake 0x0700_0008 1 0x4 1 0x4 .always [ro 31 16, fld .rw 15 0 .serviceCore],
  row .evcPend 0x0700_0010 8 0x4 1 0x4 .always [fld .w1c 31 0 .serviceCore],
  row .evcRaise 0x0700_0030 8 0x4 1 0x4 .always [fld .w1s 31 0 .serviceCore],
  row .evcCorePrio 0x0700_0400 4 0x40 1 0x4 .always [ro 9 9, ro 8 8, ro 7 4, ro 3 0],
  row .evcCoreClaim 0x0700_0404 4 0x40 1 0x4 .always [rc 31 16, ro 7 0],
  row .stored 0x0700_0408 4 0x40 1 0x4 .always [rwc 15 0],
  row .evcCoreResets 0x0700_040C 4 0x40 1 0x4 .always [ro 31 16, ro 15 0],
  row .evcStmrCfg 0x0700_0800 7 0x10 1 0x4 .always [fld .rw 1 1 .serviceCore, fld .rw 0 0 .serviceCore],
  row .stored 0x0700_0804 7 0x10 1 0x4 .always [fld .rw 31 0 .serviceCore],
  row .evcStmrNow 0x0700_0808 7 0x10 1 0x4 .always [ro 31 0],
  row .evcSrcCfg 0x0700_1000 255 0x10 1 0x4 .always [fld .rw 31 31 .serviceCore, fld .rw 19 16 .serviceCore, fld .rw 15 8 .nobody, fld .rw 3 0 .nobody],
  row .stored 0x0700_1004 255 0x10 1 0x4 .always [fld .rw 15 0 .serviceCore],
  row .evcSrcStat 0x0700_1008 255 0x10 1 0x4 .always [ro 17 17, ro 16 16, ro 15 8, ro 7 0]]

/-- The registers of the LKP window. -/
def rowsLkp : List RegRow := [
  row .lkpMapver 0x0800_0000 1 0x4 1 0x4 .always [ro 15 0],
  row .lkpFit 0x0800_0004 1 0x4 1 0x4 .always [ro 6 6, ro 5 5, ro 4 3, ro 2 1, ro 0 0],
  row .lkpMode 0x0800_0008 1 0x4 1 0x4 .always [ro 31 16, ro 10 8, ro 2 0],
  row .lkpReset 0x0800_000C 1 0x4 1 0x4 .always [ro 8 8, fld .w1s 7 4 .maintain, fld .w1s 1 1 .maintain, fld .w1s 0 0 .maintain],
  row .lkpCause 0x0800_0010 1 0x4 1 0x4 .always [ro 31 16, ro 3 0],
  row .lkpBoot 0x0800_0014 1 0x4 1 0x4 .always [ro 31 16, ro 7 4, ro 3 0],
  row .lkpCmsn 0x0800_0018 1 0x4 1 0x4 .always [ro 31 16, ro 2 2, fld .w1s 1 1 .engineer true, ro 0 0],
  row .lkpBootcnt 0x0800_001C 1 0x4 1 0x4 .always [ro 31 0],
  row .lkpSerialLo 0x0800_0020 1 0x4 1 0x4 .always [ro 31 0],
  row .lkpSerialHi 0x0800_0024 1 0x4 1 0x4 .always [ro 31 0],
  row .lkpIdent 0x0800_0028 1 0x4 1 0x4 .always [rwc 11 0],
  row .lkpClkmon 0x0800_0040 1 0x4 1 0x4 .always [fld .w1c 15 8 .maintain, ro 7 0],
  row .lkpWallSlo 0x0800_0050 1 0x4 1 0x4 .always [fld .rw 31 0 .maintain],
  row .lkpWallShi 0x0800_0054 1 0x4 1 0x4 .always [ro 31 31, fld .rw 15 0 .maintain],
  row .lkpWallNs 0x0800_0058 1 0x4 1 0x4 .always [fld .rw 31 0 .maintain],
  row .lkpKlog 0x0800_0060 1 0x4 1 0x4 .always [ro 31 0],
  row .lkpTemp 0x0800_0100 12 0x4 1 0x4 .always [ro 17 17, ro 16 16, ro 15 0],
  row .lkpVolt 0x0800_0140 16 0x4 1 0x4 .always [ro 17 17, ro 16 16, ro 15 0],
  row .lkpSensTseen 0x0800_0180 1 0x4 1 0x4 .always [fld .w1c 27 16 .maintain, fld .w1c 11 0 .maintain],
  row .lkpSensVseen 0x0800_0184 1 0x4 1 0x4 .always [fld .w1c 31 16 .maintain, fld .w1c 15 0 .maintain],
  row .lkpUpdSlot 0x0800_0200 6 0x4 1 0x4 .always [ro 31 16, ro 15 8, ro 2 0],
  row .lkpUpdCtrl 0x0800_0220 1 0x4 1 0x4 .always [fld .w1s 3 3 .engineerUpdate, fld .w1s 2 2 .engineer true, fld .w1s 1 1 .engineer true, fld .w1s 0 0 .engineer true],
  row .lkpRollback 0x0800_0224 1 0x4 1 0x4 .always [ro 22 16, ro 14 8, ro 6 0],
  row .lkpStbl 0x0800_0300 1 0x4 1 0x4 .always [ro 15 8, fld .w1s 1 1 .maintain, fld .w1s 0 0 .maintain],
  row .stored 0x0800_0304 1 0x4 1 0x4 .always [fld .rw 31 0 .maintain],
  row .stored 0x0800_0308 1 0x4 1 0x4 .always [rwc 31 0]]

/-- The registers of the SNP window. -/
def rowsSnp : List RegRow := [
  row .snpCtrl 0x0900_0000 1 0x4 1 0x4 .always [rwc 3 3, rwc 2 2, fld .w1s 1 1 .maintain, fld .w1s 0 0 .nobody],
  row .snpStatus 0x0900_0004 1 0x4 1 0x4 .always [ro 23 20, ro 19 12, ro 5 5, ro 4 4, ro 3 0],
  row .snpDtlo 0x0900_0008 1 0x4 1 0x4 .always [ro 31 0],
  row .snpDthi 0x0900_000C 1 0x4 1 0x4 .always [ro 31 0],
  row .snpMcclo 0x0900_0010 1 0x4 1 0x4 .always [ro 31 0],
  row .snpMcchi 0x0900_0014 1 0x4 1 0x4 .always [ro 15 0],
  row .snpSeq 0x0900_0018 1 0x4 1 0x4 .always [ro 31 0]]

/-- The registers of the window that holds address `a` (R539). -/
def rowsAt (a : Nat) : List RegRow :=
  match a / 0x0100_0000 with
  | 0 => rowsLgc | 1 => rowsMot | 2 => rowsFbk | 3 => rowsFld | 4 => rowsNet | 5 => rowsBth | 6 => rowsJnl | 7 => rowsEvc
  | 8 => rowsLkp | 9 => rowsSnp | _ => []

/-- The instance (outer, inner) of row `r` that lies at `a`, if any. -/
def RegRow.at_ (r : RegRow) (a : Nat) : Option (Nat × Nat) :=
  let i := (a - r.base) / r.step
  let o := (a - r.base) % r.step
  if a < r.base ∨ r.n ≤ i then none
  else if r.m = 1 then (if o = 0 then some (i, 0) else none)
  else if o % r.step2 = 0 ∧ o / r.step2 < r.m then some (i, o / r.step2)
  else none

/-- The register instance at `a`: its row, outer and inner index. -/
def findReg (a : Nat) : Option (RegRow × Nat × Nat) :=
  (rowsAt a).findSome? (fun r => (r.at_ a).map (fun p => (r, p.1, p.2)))

/-- The data areas of the sub-block map and of R545, and the places of source 255 in the EVC window (R540). -/
inductive Area where
  | statusWords | splitScratch | segments | connections | metrics | blockWords | source255
  deriving DecidableEq, Repr

/-- The data area that holds address `a`. -/
def areaAt (a : Nat) : Option Area :=
  if 0x0030_0000 ≤ a ∧ a ≤ 0x0030_00FF then some .statusWords
  else if 0x0040_0000 ≤ a ∧ a ≤ 0x007F_FFFF then some .splitScratch
  else if 0x0110_0000 ≤ a ∧ a ≤ 0x0111_FFFF then some .segments
  else if 0x0440_0000 ≤ a ∧ a ≤ 0x044F_FFFF then some .connections
  else if 0x0610_0000 ≤ a ∧ a ≤ 0x0619_FFFF then some .metrics
  else if 0x0900_1000 ≤ a ∧ a ≤ 0x0900_7013 then some .blockWords
  else if a = 0x0700_1FF0 ∨ a = 0x0700_1FF4 ∨ a = 0x0700_1FF8 then some .source255
  else none

/-- Address `a` is defined (R540). -/
def addrDefined (a : Nat) : Bool := (findReg a).isSome || (areaAt a).isSome

/-- The bits of a field. -/
def Fld.mask (f : Fld) : Nat := (2 ^ (f.hi - f.lo + 1) - 1) * 2 ^ f.lo

/-- The bits of the fields of a row with one of the access codes. -/
def RegRow.mask (cs : List FAcc) (r : RegRow) : Word :=
  w32 ((r.fields.filter (fun f => cs.contains f.acc)).foldl (fun m f => m ||| f.mask) 0)

/-- The fitted state of the block that an instance of a row belongs to (R8). -/
def Unit_.fitted (u : Unit_) (i : Nat) (s : State) : Bool :=
  match u with
  | .always => true
  | .axis => decide (i < s.axesFitted)
  | .group => decide (8 * i < s.axesFitted)
  | .chan => decide (i < s.chansFitted)
  | .head => decide (i < s.headsFitted)
  | .block => decide (i < s.blocksFitted)

end Sys2Proof.Machine
end

