-- ==== Sys2Proof/Machine/RegRead.lean ====
section
/-!
DEFINITION. Reading the control space: what every register reads, latches of split values, RC fields, and the checks of the berth gate
(R8, R14 to R16, R44, R475, R540 to R546).
-/
namespace Sys2Proof.Machine

def BthState.code : BthState → Nat
  | .closed => 0 | .opening => 1 | .open_ => 2 | .resetting => 3 | .lockedOut => 4

def JState.code : JState → Nat
  | .notScanned => 0 | .recording => 1 | .full => 2 | .storeFault => 3

def SlotState.code : SlotState → Nat
  | .empty => 0 | .staged => 1 | .trial => 2 | .active => 3 | .fallback => 4 | .failed => 5

/-! ### The working copy (R528) -/

/-- The RWC bits of the register or segment word at `a`. -/
def rwcMask (a : Nat) : Word :=
  match findReg a with
  | some (r, _, _) => r.mask [.rwc]
  | none => if areaAt a = some .segments then 0xFFFF_FFFF else 0

/-- The working copy of every RWC field that differs from its reset value (R528). -/
def workingCopy (s : State) : Tab Word :=
  s.ctl.filterMap (fun p =>
    let m := rwcMask p.1
    if (p.2 &&& m) = (ctlReset s p.1 &&& m) then none else some (p.1, p.2 &&& m))

/-! ### What the registers read -/

/-- The module performs AGREE (LGC_SEQ_STATUS.agree). -/
def doesAgree (s : State) : Bool := s.tri.state == .triad || s.tri.state == .pair

def clmodeWord (s : State) : Nat := (List.range 8).foldl (fun x k => x + clusterMode k s % 4 * 4 ^ k) 0

def retiredBits (lo : Nat) (s : State) : Nat := mask 32 (fun i => (s.core (lo + i)).retired)

/-- 16 bits of a signed reading. -/
def low16 (x : Int) : Nat := (BitVec.ofInt 16 x).toNat

def tempWord (i : Nat) (s : State) : Nat :=
  let t := look ({} : Sensor) i s.keep.temp
  low16 t.reading + 2 ^ 16 * b2n (decide (3 ≤ t.warnRun)) + 2 ^ 17 * b2n (decide (3 ≤ t.limitRun))

def voltWord (v : Nat) (s : State) : Nat :=
  let t := look ({} : Sensor) v s.keep.volt
  low16 t.reading + 2 ^ 16 * b2n (decide (2 ≤ t.lowRun)) + 2 ^ 17 * b2n (decide (2 ≤ t.highRun))

def slotWord (k : Nat) (s : State) : Nat :=
  let t := look ({} : Slot) k s.keep.slots
  (if t.state = .empty then 0 else 2 ^ 16 * beAt 0 2 t.hash) + 2 ^ 8 * t.counter + t.state.code

def dioFlags (f : Nat) (p : Dio → Bool) (s : State) : Nat := mask 24 (fun c => p ((s.block f).dioOf c))

def dioDiag (f k : Nat) (s : State) : Nat :=
  match k with
  | 0 => dioFlags f Dio.overload s
  | 1 => dioFlags f Dio.overTemp s
  | 2 => dioFlags f Dio.openWire s
  | _ => dioFlags f Dio.wireBreak s

def axisState (n : Nat) (s : State) : Nat :=
  let a := s.axis n
  2 ^ 16 * a.lastCode + 2 ^ 8 * (((a.run.map RunState.seg).getD 0) % 256) + 2 ^ 7 * b2n a.st.en + 2 ^ 6 * b2n a.obst
    + 2 ^ 5 * b2n a.strong + 2 ^ 4 * b2n a.homed + a.st.code

def chanStatus (n : Nat) (s : State) : Nat :=
  let c := s.chan n
  2 ^ 16 * (c.level % 256) + 2 ^ 9 * b2n (c.bad && !cbit (pcReg n 0) 5 s) + 2 ^ 8 * b2n c.freq + 2 ^ 3 * b2n c.neg
    + 2 ^ 2 * b2n (standBit n s) + 2 * b2n (speedValid n s) + b2n (chanValid n s)

def standState (k : Nat) (s : State) : Nat :=
  let d := (ssPass s).stand k
  2 ^ 16 * (if d.cond then sat 0xFFFF ((s.now - d.since) / 1_000_000) else 0) + 2 ^ 2 * b2n (ssCfgErr k s) + 2 * b2n d.cond + b2n d.asserted

def blockStatus (f : Nat) (s : State) : Nat :=
  let b := s.block f
  2 ^ 16 * b.lastCode + 2 ^ 8 * b2n b.isolated + 2 ^ 7 * b2n b.resetAt.isSome + 2 ^ 6 * b2n b.trip + 2 ^ 5 * b2n b.forced
    + 2 ^ 4 * b2n b.uv + 2 ^ 3 * b2n b.fclk + b.link

def anchorWord (s : State) : Nat :=
  2 ^ 17 * b2n s.bth.policy.isSome + 2 ^ 16 * b2n s.bth.anchorNext.isSome + 2 ^ 8 * s.bth.anchorVoid.toNat
    + 2 ^ 3 * b2n s.bth.anchorSlot.isSome + s.bth.anchorSlot.getD 0

/-- Failures that count towards the global limit now (BTH_GFAIL). -/
def globalFailures (s : State) : Nat := (s.bth.gfail.filter (fun t => decide (s.now < t + 3_600_000_000_000))).length

/-- What a register of the LGC window reads; none for a register of another window. -/
def readLgc (k : RegName) (i : Nat) (s : State) : Option Nat :=
  match k with
  | .lgcSeqPeriod => some s.seq.period
  | .lgcSeqReloff => some s.seq.reloff
  | .lgcSeqScrub => some s.seq.quantum
  | .lgcSeqStatus => some (2 ^ 9 * b2n (doesAgree s) + 2 ^ 8 * b2n s.seq.stale + 2 ^ 4 * (s.seq.overruns % 4) + s.seq.phase.code)
  | .lgcSeqSrc => some s.seq.srcFlags.toNat
  | .lgcSeqBatch => some (2 ^ 16 * sat 0xFFFF s.seq.batchRefused + s.seq.batchCount)
  | .lgcSeqTeval => some s.seq.teval
  | .lgcSeqTclose => some s.seq.tclose
  | .lgcSeqTmax => some s.seq.tmax
  | .lgcSeqOvrtot => some s.seq.ovrtot
  | .lgcSeqWmax => some s.seq.wmax
  | .lgcSeqWlim => some s.seq.wlim
  | .lgcSeqCoreload => some (look 0 i s.seq.coreload)
  | .lgcAccCfg => some (2 ^ 16 * s.seq.window + 2 ^ 8 * s.seq.limit + s.seq.depth)
  | .lgcAccStatus => some (2 ^ 16 * b2n s.seq.tripFlop + 2 ^ 8 * s.seq.proofOk.toNat + s.seq.faulted.toNat)
  | .lgcAccClmode => some (clmodeWord s)
  | .lgcAccRetlo => some (retiredBits 0 s)
  | .lgcAccRethi => some (retiredBits 32 s)
  | .lgcAccLast => some (2 ^ 30 * s.seq.lastPass + 2 ^ 24 * s.seq.lastCore + s.seq.lastAccord)
  | .lgcAccUndos => some s.seq.undos
  | .lgcAccOutv =>
    some (2 ^ 16 * sat 255 (inWindow s (s.core i).histBase) + 2 ^ 8 * sat 255 (inWindow s (s.core i).histHeart)
      + sat 255 (inWindow s (s.core i).histTop))
  | .lgcAccOuttot => some (s.core i).outTotal
  | .lgcExcCode => some (2 ^ 24 * s.seq.excCore + 2 ^ 22 * s.seq.excCtx + s.seq.excCode)
  | .lgcExcPc => some s.seq.excPc.toNat
  | .lgcExcObj => some (2 ^ 20 * s.seq.excTyp.toNat + s.seq.excObj.toNat)
  | .lgcExcAcode => some s.seq.excAcode.toNat
  | .lgcTimeDtlo => some s.now
  | .lgcTimeDthi => some (s.now / 2 ^ 32)
  | .lgcTimeMcclo => some s.seq.mcc
  | .lgcTimeMcchi => some (s.seq.mcc / 2 ^ 32)
  | .lgcSeqCtrl => some 0
  | .lgcAccClreq => some 0
  | _ => none

/-- What a register of the MOT or FBK window reads. -/
def readMotFbk (k : RegName) (i : Nat) (s : State) : Option Nat :=
  match k with
  | .motAxState => some (axisState i s)
  | .motAxSetp => some (setpointWord (s.axis i).p).toNat
  | .motAxAct => some (if (s.axis i).actValid then (s.axis i).act.toNat else 0)
  | .motAxOrigin => some (s.axis i).origin.toNat
  | .motGrpStatus => some (2 ^ 8 * b2n (s.mot.sdFault.getLsbD i) + mask 8 (fun j => (s.axis (8 * i + j)).st == .fault))
  | .motMbox => some (2 ^ 16 * sat 0xFFFF s.mot.refusedRc + 2 ^ 15 * b2n s.mot.silent + s.mot.postsLast % 2048)
  | .fbkPcCount => some (s.chan i).count.toNat
  | .fbkPcSpeed => some (wInt (chanSpeed i s)).toNat
  | .fbkPcIndex => some (s.chan i).index.toNat
  | .fbkPcStatus => some (chanStatus i s)
  | .fbkPcErr => some (2 ^ 16 * sat 0xFFFF (s.chan i).rcLines + sat 0xFFFF (s.chan i).rcCount)
  | .fbkWcState =>
    let h := s.head i
    some (2 ^ 16 * h.lastCode + 2 ^ 10 * b2n h.satOut + 2 ^ 9 * b2n h.satIn + 2 ^ 8 * b2n h.lastWasSeq + 2 ^ 6 * h.sysB + 2 ^ 4 * h.sysA + h.state)
  | .fbkWcIn => some (s.head i).inCnt.toNat
  | .fbkWcOut => some (s.head i).outCnt.toNat
  | .fbkSecState => some (2 ^ 16 * (s.section_ i).occ + 2 ^ 4 * (s.section_ i).causes.toNat + (s.section_ i).state.code)
  | .fbkSsState => some (standState i s)
  | .fbkEoStatus =>
    some (2 ^ 16 * sat 0xFFFF (s.enc i).pending.natAbs + 4 * b2n (s.enc i).srcInvalid + 2 * b2n (s.enc i).lagging
      + b2n (eoEnabled i s && eoSrcValid i s))
  | .fbkPcClr => some 0
  | .fbkWcClr => some 0
  | _ => none

/-- What a register of the FLD or NET window reads. -/
def readFldNet (k : RegName) (i j : Nat) (s : State) : Option Nat :=
  match k with
  | .fldBlkStatus => some (blockStatus i s)
  | .fldBlkSense =>
    some (match (s.block i).frame with
      | none => 0
      | some m => let w := (look 0 12 m.words).toNat; 2 ^ 16 * (w % 2 ^ 16) + w / 2 ^ 16)
  | .fldDioDiag => some (dioDiag i j s)
  | .fldPairStatus =>
    some (2 ^ 16 * mask 12 (fun p => (look ({} : TwoPair) p (s.block i).pairs).latched)
      + mask 12 (fun p => pairValue i p s))
  | .fldLsStatus =>
    let l := (s.block i).lsOf j
    some (2 ^ 16 * (l.current % 2 ^ 16) + 2 ^ 12 * (l.u % 16) + 2 ^ 7 * b2n l.openLoad + l.st.code)
  | .fldSoStatus =>
    let p := (s.block i).soOf j
    some (2 ^ 16 * p.lastCode + 2 ^ 6 * p.cause + 2 ^ 5 * b2n (soReleased i j true s) + 2 ^ 4 * b2n (soReleased i j false s) + p.st.code)
  | .fldWfeCur =>
    let w := look ({} : FrontEnd) j (s.block i).wfe
    some (2 ^ 16 * (w.b.cur % 2 ^ 16) + w.a.cur % 2 ^ 16)
  | .fldLinkErr => some (2 ^ 16 * sat 0xFFFF (s.block i).errOut + sat 0xFFFF (s.block i).errIn)
  | .netPortStatus =>
    let q := s.port i
    some (2 ^ 5 * b2n q.sgmiiSync + 2 ^ 4 * b2n q.trained + 2 ^ 3 * b2n q.fecOn + 2 ^ 2 * b2n q.anDone + 2 * b2n q.blockLock + b2n q.link)
  | .netPortRxcnt => some (s.port i).rx
  | .netPortTxcnt => some (s.port i).tx
  | .netPortErr => some (2 ^ 16 * (s.port i).other + (s.port i).fcs)
  | .netYalaStatus => some (2 ^ 14 * s.net.valid + s.net.safe)
  | .netYalaEpoch => some s.net.epoch.toNat
  | .netYalaAlarm => some s.net.alarms
  | .netYalaLastalm => some s.net.lastAlarm.toNat
  | .netYconRx => some (s.conn i).delivered
  | .netYconDisc => some (2 ^ 16 * (s.conn i).viol + (s.conn i).dup)
  | .netYconGap => some (s.conn i).missed
  | .netYconLast => some (2 ^ 16 * (s.conn i).lastCode + (s.conn i).state)
  | .netTriState =>
    some (2 ^ 15 * b2n s.tri.oos + 2 ^ 12 * s.tri.matched.toNat + 2 ^ 8 * s.tri.used.toNat + 2 ^ 4 * s.tri.members.toNat + s.tri.state.code)
  | .netTriAlign => some (wInt s.tri.dev).toNat
  | .netTriAgree => some (2 ^ 16 * sat 0xFFFF s.tri.outvotedWords + sat 0xFFFF s.tri.restrictive)
  | .netTriJoin => some (2 ^ 4 * s.tri.probation + s.tri.attempts)
  | .netTriCtrl => some 0
  | .netTpLink => some (2 ^ 16 * ((s.tp i).latency % 2 ^ 16) + 2 ^ 2 * (s.tp i).peer + (s.tp i).state)
  | .netTpErr => some (2 ^ 16 * sat 0xFFFF (s.tp i).retx + sat 0xFFFF (s.tp i).crc)
  | .netTpViol => some (2 ^ 16 * sat 0xFFFF (s.tp i).late + sat 0xFFFF (s.tp i).viol)
  | _ => none

/-- What a register of the BTH, JNL or EVC window reads. -/
def readBthJnlEvc (k : RegName) (i : Nat) (s : State) : Option Nat :=
  match k with
  | .bthState => some (2 ^ 16 * (s.berth i).granted.toNat + 2 ^ 8 * (s.berth i).effective.toNat + (s.berth i).state.code)
  | .bthNarrow => some (s.berth i).removed.toNat
  | .bthFail => some (2 ^ 16 * sat 0xFFFF (s.berth i).refused + sat 0xFFFF (s.berth i).opens)
  | .bthCmds => some (s.berth i).accepted
  | .bthCert => some (beAt 0 4 (s.berth i).certHash)
  | .bthReset => some 0
  | .bthAnchor => some (anchorWord s)
  | .bthGfail => some (globalFailures s)
  | .jnlState => some (2 ^ 16 * s.jnl.retired.length + 2 ^ 3 * b2n (s.jnl.erasing != []) + s.jnl.state.code)
  | .jnlHead => some (s.jnl.head.getD 0)
  | .jnlAcked => some (s.jnl.acked.getD 0)
  | .jnlArm => some s.jnl.arm
  | .jnlFree => some (if s.jnl.state = .notScanned then 0 else erasedAhead s)
  | .jnlLost => some s.jnl.lost
  | .jnlStage => some (2 ^ 16 * (s.jnl.high / 1024) + s.jnl.fill / 1024)
  | .jnlMetClr => some 0
  | .evcCtrl => some ((ctlGet 0x0700_0000 s).toNat % 4 + 4 * b2n (stacked s))
  | .evcStatus => some (highestSource s)
  | .evcWake => some (2 ^ 16 * s.svc.latched.toNat + (ctlGet 0x0700_0008 s).toNat % 2 ^ 16)
  | .evcPend => some (mask 32 (fun n => (s.evSrc (32 * i + n)).pending))
  | .evcRaise => some 0
  | .evcCorePrio =>
    let q := s.svcCore i
    some (2 ^ 9 * b2n q.exc + 2 ^ 8 * b2n q.di + 2 ^ 4 * (q.depth % 16) + q.prio)
  | .evcCoreClaim => some (2 ^ 16 * (s.svcCore i).spurious.toNat + (s.svcCore i).lastClaim.toNat)
  | .evcCoreResets => some (2 ^ 16 * (s.svcCore i).resets.toNat + (s.svcCore i).fatalCode.toNat)
  | .evcStmrNow => some (match (look ({} : SvcTimer) i s.svc.timers).expires with | none => 0 | some e => (e - s.now) / 1000)
  | .evcSrcStat =>
    let e := s.evSrc i
    some (2 ^ 17 * b2n e.gathering + 2 ^ 16 * b2n e.pending + 2 ^ 8 * e.claimed + e.batch)
  | _ => none

/-- What a register of the LKP or SNP window reads. -/
def readLkpSnp (k : RegName) (i : Nat) (s : State) : Option Nat :=
  match k with
  | .lkpMapver => some 1
  | .lkpFit => some s.fused.fit.toNat
  | .lkpMode => some (2 ^ 16 * s.keep.cause.toNat + 2 ^ 8 * s.keep.prev.code + s.keep.mode.code)
  | .lkpReset => some (2 ^ 8 * b2n s.keep.armed.isSome)
  | .lkpCause => some (2 ^ 16 * s.keep.resetCode.toNat + s.keep.resetKind)
  | .lkpBoot => some (2 ^ 16 * (s.keep.bootMs % 2 ^ 16) + 2 ^ 4 * s.keep.bootFailed + s.keep.bootStage)
  | .lkpCmsn => some (2 ^ 16 * (s.keep.generation % 2 ^ 16) + 4 * b2n (workingCopy s != s.keep.committed) + b2n s.keep.cmsn)
  | .lkpBootcnt => some s.keep.bootCount.toNat
  | .lkpSerialLo => some (s.fused.serial.toNat % 2 ^ 32)
  | .lkpSerialHi => some (s.fused.serial.toNat / 2 ^ 32)
  | .lkpClkmon => some (2 ^ 8 * s.keep.clkSeen.toNat + s.keep.clkNow.toNat)
  | .lkpWallSlo => some (s.wall / 1_000_000_000)
  | .lkpWallShi => some (2 ^ 31 * b2n s.time.wallValid + s.wall / 1_000_000_000 / 2 ^ 32 % 2 ^ 16)
  | .lkpWallNs => some (s.wall % 1_000_000_000)
  | .lkpKlog => some (s.jnl.klogNext / 16)
  | .lkpTemp => some (tempWord i s)
  | .lkpVolt => some (voltWord i s)
  | .lkpSensTseen => some s.keep.tseen.toNat
  | .lkpSensVseen => some s.keep.vseen.toNat
  | .lkpUpdSlot => some (slotWord i s)
  | .lkpUpdCtrl => some 0
  | .lkpRollback => some (2 ^ 16 * s.fused.fuseProg + 2 ^ 8 * s.fused.fuseSvc + s.fused.fuseLk)
  | .lkpStbl => some (2 ^ 8 * s.keep.stblReason.toNat)
  | .snpStatus =>
    some (2 ^ 20 * s.snap.fbValid.toNat + 2 ^ 12 * s.snap.missed.toNat + 2 ^ 5 * b2n s.snap.overwritten + 2 ^ 4 * b2n s.snap.held + s.snap.src.toNat)
  | .snpDtlo => some s.snap.dtime
  | .snpDthi => some (s.snap.dtime / 2 ^ 32)
  | .snpMcclo => some s.snap.mcc
  | .snpMcchi => some (s.snap.mcc / 2 ^ 32)
  | .snpSeq => some s.snap.number.toNat
  | _ => none

/-- The live value of instance (i, j) of row `r` at address `a`; a register of an unfitted block reads 0 (R8), and bits that no field
names, and WO fields, read 0. -/
def liveReg (r : RegRow) (i j a : Nat) (s : State) : Word :=
  if !r.unit.fitted i s then 0
  else
    match (readLgc r.reg i s).orElse (fun _ => (readMotFbk r.reg i s).orElse (fun _ => (readFldNet r.reg i j s).orElse (fun _ =>
        (readBthJnlEvc r.reg i s).orElse (fun _ => readLkpSnp r.reg i s)))) with
    | some x => w32 x
    | none => ctlGet a s &&& r.mask [.rw, .rwc]

/-! ### Data areas (R545, R475, R52) -/

def splitScratchWord (a : Nat) (s : State) : Word :=
  let o := a - 0x0040_0000
  let c := o / 0x1_0000
  let k := o % 0x1_0000
  if clusterMode (c / 8) s = 1 ∧ k < 0xC000 then sramWord (scratchBase c + k) s else 0

def metricOf (a : Nat) : Nat × Nat := ((a - 0x0610_0000) / 0xA0, (a - 0x0610_0000) % 0xA0 / 4)

def liveArea (t : Area) (a : Nat) (s : State) : Word :=
  match t with
  | .statusWords => look 0 ((a - 0x0030_0000) / 4) s.seq.statusWords
  | .splitScratch => splitScratchWord a s
  | .segments => if (a - 0x0110_0000) / 0x1000 < s.axesFitted then ctlGet a s else 0
  | .connections => look 0 ((a - 0x0440_0000) / 4) s.net.table
  | .metrics => w32 (metricWord (look {} (metricOf a).1 s.jnl.metrics) (metricOf a).2)
  | .blockWords => look 0 (a - 0x0900_0000) s.snap.words
  | .source255 => 0

/-- What address `a` reads live. -/
def liveWord (a : Nat) (s : State) : Word :=
  match findReg a with
  | some (r, i, j) => liveReg r i j a s
  | none => match areaAt a with | some t => liveArea t a s | none => 0

/-! ### Latches (R44, R475, R544) and RC fields (R16) -/

/-- The number of a requester: berths, service cores, lock-keeper (R544). -/
def Requester.code : Requester → Nat
  | .berth b => b.val
  | .service c => 8 + c.val
  | .keeper => 12

def latchOf (q a : Nat) (s : State) : Option Word :=
  ((look [] q s.latches).find? (fun p => p.1 == a)).map Prod.snd

def setLatch (q a : Nat) (v : Word) (s : State) : State := { s with latches := upd [] q (put a v) s.latches }

def dropLatch (q a : Nat) (s : State) : State := { s with latches := upd [] q (del a) s.latches }

/-- The upper words of the split time value whose low word lies at `a` (R44). -/
def upperWords (a : Nat) : List Nat :=
  if a = 0x00FF_0000 then [0x00FF_0004]
  else if a = 0x00FF_0008 then [0x00FF_000C]
  else if a = 0x0800_0050 then [0x0800_0054, 0x0800_0058]
  else if a = 0x0900_0008 then [0x0900_000C]
  else if a = 0x0900_0010 then [0x0900_0014]
  else []

/-- A read of the low word of a split value, or of word 32 of a metric, latches the other words for its requester (R44, R475). -/
def latchOthers (q a : Nat) (s : State) : State :=
  let others := if areaAt a = some .metrics ∧ (metricOf a).2 = 32 then
      (List.range 40).map (fun w => 0x0610_0000 + 0xA0 * (metricOf a).1 + 4 * w)
    else upperWords a
  others.foldl (fun t u => setLatch q u (liveWord u s) t) s

/-- The RC fields of a register are cleared by a permitted read (R16). -/
def clearRc (k : RegName) (i : Nat) (s : State) : State :=
  match k with
  | .motMbox => { s with mot := { s.mot with refusedRc := 0 } }
  | .fbkPcErr => setChan i (fun c => { c with rcCount := 0, rcLines := 0 }) s
  | .fldLinkErr => setBlock i (fun b => { b with errIn := 0, errOut := 0 }) s
  | .netPortRxcnt => setPort i (fun q => { q with rx := 0 }) s
  | .netPortTxcnt => setPort i (fun q => { q with tx := 0 }) s
  | .netPortErr => setPort i (fun q => { q with fcs := 0, other := 0 }) s
  | .netYalaAlarm => { s with net := { s.net with alarms := 0 } }
  | .netYconDisc => setConn i (fun c => { c with viol := 0, dup := 0 }) s
  | .netTpErr => setTp i (fun q => { q with retx := 0, crc := 0 }) s
  | .netTpViol => setTp i (fun q => { q with late := 0, viol := 0 }) s
  | .bthFail => setBerth i (fun b => { b with refused := 0, opens := 0 }) s
  | .evcCoreClaim => setSvc i (fun q => { q with spurious := 0 }) s
  | _ => s

/-- The live value and, of LKP_WALL_SHI, the live valid bit over latched seconds. -/
def latchedWord (a : Nat) (v : Word) (s : State) : Word :=
  if a = 0x0800_0054 then (v &&& 0xFFFF) ||| w32 (2 ^ 31 * b2n s.time.wallValid) else v

/-- One word read by a requester whose access has been granted (R8, R16, R44, R475). -/
def readWord (q a : Nat) (s : State) : Word × State :=
  let metric := areaAt a == some .metrics
  let held := if metric && (metricOf a).2 == 32 then none else latchOf q a s
  let s1 := match held with | some _ => if metric then s else dropLatch q a s | none => latchOthers q a s
  let v := match held with | some w => latchedWord a w s | none => liveWord a s
  (v, match findReg a with | some (r, i, _) => if r.unit.fitted i s then clearRc r.reg i s1 else s1 | none => s1)

/-! ### The checks of the gate (R541 to R543, R546, R537) -/

/-- The requester holds one of the roles; a service core reads as OBSERVE does (R543). -/
def holds (r : Requester) (roles : List Nat) (s : State) : Bool :=
  match r with
  | .berth b => hasAny b roles s
  | .service _ => roles.contains roleB
  | .keeper => true

/-- The roles that may read address `a` (R285, R51, R545 and the chapters of the windows). -/
def readRoles (a : Nat) : List Nat :=
  match areaAt a with
  | some .statusWords => [roleB, roleM]
  | some .splitScratch => [roleB, roleM]
  | some .connections => [roleB, roleM]
  | some .metrics => [roleB, roleM, roleI]
  | some .blockWords => [roleM]
  | some .segments => [roleB, roleM, roleE]
  | some .source255 => [roleB, roleM, roleE]
  | none => if a / 0x0100_0000 = 6 then [roleB, roleM, roleI] else if a / 0x0100_0000 = 9 then [roleM] else [roleB, roleM, roleE]

/-- The requester may change a field granted to `g` (R285, R543). -/
def mayWrite (r : Requester) (g : Grant) (s : State) : Bool :=
  match r, g with
  | .keeper, _ => true
  | .berth b, .maintain => hasAny b [roleM] s
  | .berth b, .engineer => hasAny b [roleE] s
  | .berth b, .engineerUpdate => hasAny b [roleE, roleU] s
  | .service _, .serviceCore => true
  | _, _ => false

/-- Whether a write of `v` over `cur` changes the field; a 1 written to a W1S or W1C field counts as a change (R541, R542). -/
def Fld.changes (f : Fld) (cur v : Word) : Bool :=
  let bits_ := fun (x : Word) => bits f.hi f.lo x.toNat
  match f.acc with
  | .ro => false
  | .rc => false
  | .w1c => bits_ v != 0
  | .w1s => bits_ v != 0
  | .rw => bits_ v != bits_ cur
  | .rwc => bits_ v != bits_ cur
  | .wo => bits_ v != bits_ cur

/-- In STABLED a berth reaches the LKP window by CREAD and LKP_STBL.wake by CWRITE, on BTH0 only (R537). -/
def stabledRefuses (r : Requester) (write : Bool) (a : Nat) (v : Word) (s : State) : Bool :=
  match r with
  | .berth b =>
    s.keep.mode == .stabled && !(b == 0 && (if write then decide (a = 0x0800_0300) && !v.getLsbD 0 else decide (a / 0x0100_0000 = 8)))
  | _ => false

/-- The code of the first check of R541 that a read of the word at `a` fails, or 0. -/
def checkRead (r : Requester) (a : Nat) (s : State) : Nat :=
  if a % 4 ≠ 0 then 0x6001
  else if !addrDefined a || stabledRefuses r false a 0 s then 0x6004
  else if !holds r (readRoles a) s then 0x6002
  else 0

/-- The fields that a write of `v` to instance (i, j) of `r` would change; an unfitted register's none (R8). -/
def changedFields (r : RegRow) (i j a : Nat) (v : Word) (s : State) : List Fld :=
  if r.unit.fitted i s then r.fields.filter (fun f => f.changes (liveReg r i j a s) v) else []

/-- Checks 3 to 5 of R541 for a write of fields `all`, of which `changed` change. -/
def checkFields (r : Requester) (all changed : List Fld) (s : State) : Nat :=
  if !all.any (fun f => mayWrite r f.who s) then 0x6002
  else if changed.any (fun f => f.comm) && s.keep.mode != .commission then 0x6003
  else if !changed.all (fun f => mayWrite r f.who s) then 0x6002
  else 0

/-- The one field of a word of the segment tables (R344). -/
def segmentField : Fld := rwc 31 0

/-- The code of the first check of R541 that a write of `v` to `a` fails, or 0. The lock-keeper is not subject to checks 3 to 5. -/
def checkWrite (r : Requester) (a : Nat) (v : Word) (s : State) : Nat :=
  if a % 4 ≠ 0 then 0x6001
  else if !addrDefined a || stabledRefuses r true a v s then 0x6004
  else if r = .keeper then 0
  else
    match findReg a with
    | some (row, i, j) => checkFields r row.fields (changedFields row i j a v s) s
    | none =>
      if areaAt a = some .segments then
        checkFields r [segmentField] (if segmentField.changes (liveWord a s) v && decide ((a - 0x0110_0000) / 0x1000 < s.axesFitted) then [segmentField] else []) s
      else if areaAt a = some .source255 ∧ (match r with | .service _ => true | _ => false) = true then 0
      else 0x6002

end Sys2Proof.Machine
end

