-- ==== Sys2Proof/Machine/Yala.lean ====
section
/-!
DEFINITION. What happens at the Ethernet ports and at the Yala checker and sealer (R252 to R254, R272 to R275, R28).
-/
namespace Sys2Proof.Machine

/-- YALA_UNIT_RECEIVED (R272): a frame that is raw Ethernet with EtherType 0x88B5, or UDP. -/
def execYalaUnitReceived (p : Fin 4) (f : NetFrame) (s : State) : Outcome :=
  .next (
    if !(netWorks s && (s.port p).link) then s
    else if !f.fcsOk || decide (clientMax p s < (if f.raw then 0 else 28) + f.bytes.length) then countFcs p s
    else
      let s := countRx p s
      let ip := ctlGet (portReg p 0x10) s
      if f.raw then
        if cbit 0x0410_0000 1 s then checkUnit p f s else countOther p s
      else if cbit 0x0410_0000 0 s && ip != 0 && f.dstIp == ip && f.dstPort.toNat == cf 0x0410_0000 31 16 s then
        if f.fragment then portViolation p 0x5207 s
        else if f.sumsOk then checkUnit p f s
        else countOther p s
      else countOther p s)

/-- ARP_REQUEST (R253): a request for the port's own address is answered; another is discarded and counted. -/
def execArpRequest (p : Fin 4) (mac : BitVec 48) (ip target : Word) (s : State) : Outcome :=
  .next (
    if !(netWorks s && (s.port p).link) then s
    else
      let s1 := countRx p s
      if target ≠ 0 ∧ target = ctlGet (portReg p 0x10) s then
        drainPort (enqueue p 0 (etherFrame mac.toNat (ownMac p s1) 0 0 0x0806 (arpPacket 2 (ownMac p s1) (ownIp p s1) mac.toNat ip.toNat)) s1) p
      else countOther p s1)

/-- A TCP segment meets R253 and is for the endpoint of a berth on port p (R254, R313). -/
def toBerth (p : Nat) (g : TcpSegment) (s : State) : Bool :=
  g.plain && g.sumOk && ownIp p s != 0 && g.dstIp.toNat == ownIp p s && (match s.bth.policy with
    | none => false
    | some t => [3, 4, 5, 6, 7].any (fun b => look false b t.enabled && look 0 b t.tcpPort == g.dstPort.toNat && (look 0 b t.portMask).testBit p))

/-- NON_YALA_FRAME (R253, R254): TCP to the endpoint of a berth passes to the service region; all else is discarded and counted. -/
def execNonYalaFrame (p : Fin 4) (fcsOk : Bool) (length : BitVec 16) (tcp : Option TcpSegment) (s : State) : Outcome :=
  .next (
    if !(netWorks s && (s.port p).link) then s
    else if !fcsOk || decide (clientMax p s < length.toNat) then countFcs p s
    else
      let s1 := countRx p s
      if (tcp.map (fun g => toBerth p g s)).getD false then s1 else countOther p s1)

/-- PORT_LINK_UP (R252, R253): 0x5000, and one gratuitous ARP when the port has an IPv4 address; an SGMII speed other than
1000 Mbit/s keeps the port down with 0x5003. -/
def execPortLinkUp (p : Fin 4) (fec gigabit : Bool) (s : State) : Outcome :=
  .next (
    if !(netWorks s && portCfgOk p s) || (s.port p).link then s
    else if !decide (p.val < 2) && !gigabit then record 0x5003 [p] s
    else
      let kr := decide (p.val < 2) && cf (portReg p 0) 2 1 s == 0
      let fecCfg := cf (portReg p 0) 5 4 s
      let s1 := setPort p (fun q => { q with
        link := true, blockLock := decide (p.val < 2), trained := kr, anDone := kr && cbit (portReg p 0) 3 s
        fecOn := decide (fecCfg = 2) || (decide (fecCfg = 1) && fec), sgmiiSync := !decide (p.val < 2) }) s
      let s2 := raise 195 (record 0x5000 [p] s1)
      if ctlGet (portReg p 0x10) s = 0 then s2
      else
        let own := ownMac p s2
        drainPort (enqueue p 0 (etherFrame (2 ^ 48 - 1) own 0 0 0x0806 (arpPacket 1 own (ownIp p s2) 0 (ownIp p s2))) s2) p)

/-- PORT_LINK_DOWN (R28): the port is down and recorded; the mode is unchanged. -/
def execPortLinkDown (p : Fin 4) (s : State) : Outcome := .next (portDown p s)

/-- TRAINING_OR_NEGOTIATION_FAILED (R252): 0x5002, and the port stays down. Only 10GBASE-KR trains and negotiates. -/
def execTrainingOrNegotiationFailed (p : Fin 4) (s : State) : Outcome :=
  .next (if p.val < 2 ∧ portCfgOk p s ∧ cf (portReg p 0) 2 1 s = 0 ∧ !(s.port p).link ∧ netWorks s then record 0x5002 [p] s else s)

/-- SEALER_ENGINE_FAULT (R28, R30): the fault is recorded with a code of its region, which the spec does not name: a free value (log
entry 93). Every connection goes to SAFE, and the network region is reinitialised. In HOLD only the record follows (R32). -/
def execSealerEngineFault (s : State) : Outcome :=
  let d := s.draw 12
  let s1 := record (0x5000 + d.1.toNat) [] d.2
  .next (if s.keep.mode = .hold then s1 else beginReinit 4 (allSafe s1))

end Sys2Proof.Machine
end

