-- ==== Sys2Proof/Machine/KeeperOps.lean ====
section
/-!
DEFINITION. The lock-keeper's shared operations: resets, settings, slots, activation, the stages of BOOT, sensors, wake (R513 to R538).
-/
namespace Sys2Proof.Machine

def setKeep (f : Keeper → Keeper) (s : State) : State := { s with keep := f s.keep }

/-! ### Slots (R529 to R532) -/

def State.slot (k : Nat) (s : State) : Slot := look {} k s.keep.slots

def setSlot (k : Nat) (f : Slot → Slot) (s : State) : State := setKeep (fun q => { q with slots := upd {} k f q.slots }) s

def slotState (k : Nat) (t : SlotState) (s : State) : State := setSlot k (fun q => { q with state := t }) s

/-- The slots of lock-keeper firmware, service firmware and program images (LKP_UPD_SLOT). -/
def lkSlots : List Nat := [0, 1]
def svcSlots : List Nat := [2, 3]
def progSlots : List Nat := [4, 5]

/-- Slot `k` becomes active, and the slot of its kind that was active the fallback (R531, R532). -/
def activateSlot (ks : List Nat) (k : Nat) (s : State) : State :=
  slotState k .active (match slotIn .active ks s with | some a => slotState a .fallback s | none => s)

/-- A fuse counter advances to the counter of slot `k` at most; 0x9053 with the number of the counter, which the spec does not give (R530;
log entry 3). -/
def advanceFuse (get : Fused → Nat) (set : Nat → Fused → Fused) (k : Nat) (s : State) : State :=
  let c := min 64 (s.slot k).counter
  if get s.fused < c then
    let d := s.draw 32
    record 0x9053 [d.1.toNat, c] { d.2 with fused := set c d.2.fused }
  else s

def fuseLk (k : Nat) (s : State) : State := advanceFuse Fused.fuseLk (fun c f => { f with fuseLk := c }) k s
def fuseSvc (k : Nat) (s : State) : State := advanceFuse Fused.fuseSvc (fun c f => { f with fuseSvc := c }) k s
def fuseProg (k : Nat) (s : State) : State := advanceFuse Fused.fuseProg (fun c f => { f with fuseProg := c }) k s

/-- A firmware slot is on trial (R531). -/
def onTrial (s : State) : Bool := (slotIn .trial [0, 1, 2, 3] s).isSome

/-! ### The program image in the logic SRAM (R103, R104, R119, R521 stage S7) -/

/-- A block of a run-block section goes to the words from its first on. -/
def writeBlock (put_ : Nat → Word → State → State) (b : RunBlock) (s : State) : State :=
  b.data.zipIdx.foldl (fun s w => put_ (b.first + w.2) w.1 s) s

/-- Both halves of record `n` take their initial value in all three copies (R103). -/
def stateInit (n : Nat) (v : Word) (s : State) : State := stateWrite (2 * n) v (stateWrite (2 * n + 1) v s)

/-- The image is loaded: PROG, PARAM and STATE written, timers stopped, the sequencer's declarations taken. -/
def loadImage (I : Image) (s : State) : State :=
  let s1 := { s with
    image := some I, timers := []
    seq := { s.seq with
      period := I.period, reloff := I.reloff, quantum := I.quantum, depth := I.depth, limit := I.limit, window := I.window
      wlim := I.period * 131_072 / 100 } }
  let s2 := sramArea progBase I.prog { s1 with sram := [] }
  I.stateInit.foldl (fun s b => writeBlock stateInit b s) (I.paramInit.foldl (fun s b => writeBlock paramWrite b s) s2)

/-! ### Resets (R525 to R527, R41, R43, R51) -/

/-- What of a field block its own die keeps through a whole-module reset: the controller's view starts afresh (R412, R413). -/
def Block.cold (b : Block) : Block :=
  { dio := b.dio.map (fun p => (p.1, { p.2 with lowSince := 0 })), pairs := b.pairs
    ls := b.ls.map (fun p => (p.1, { p.2 with inrushAt := 0, condAt := 0 }))
    so := b.so.map (fun p => (p.1, { p.2 with tOn := 0, pulse := none }))
    wfe := b.wfe.map (fun p => (p.1, { p.2 with a := { p.2.a with offAt := p.2.a.offAt.map (fun _ => 0) }, b := { p.2.b with offAt := p.2.b.offAt.map (fun _ => 0) } }))
    dDio := b.dDio, dLs := b.dLs, dSo := b.dSo, fsDio := b.fsDio, fsLs := b.fsLs, forced := b.forced, trip := b.trip, fclk := b.fclk
    uv := b.uv, vfield := b.vfield, temp := b.temp, outSeq := b.outSeq, inSeq := b.inSeq, outAcc := b.outAcc, inAcc := b.inAcc
    lastCode := b.lastCode }

/-- The journal through a reset: flacon, keeper log and frames continue; live statistics are empty; the store waits for its scan (R455 to
R457, R472). A half-programmed record stays behind with bytes that the spec does not give (log entry 3). -/
def coldJournal (j : StoreLoss) (s : State) : State :=
  let now : Journal := { s.jnl with
    state := .notScanned, sealWait := [], heldCkpt := false, heldFrame := false, heldBoot := false, metrics := [], acc := [], lastFrameAt := 0
    staging := if j.lost then [] else s.jnl.staging, held := if j.lost then [] else s.jnl.held, high := 0 }
  match s.jnl.staging with
  | r :: _ =>
    if j.lost && j.torn && s.jnl.state == .recording then
      let d := drawBytes r.payload.length s
      { d.2 with jnl := { now with
          torn := some s.jnl.write
          flacon := now.flacon ++ [{ offset := s.jnl.write, number := s.nextNumber, rec_ := { r with payload := d.1 }, valid := false }] } }
    else { s with jnl := { now with high := (now.staging.map Rec.size).foldl (· + ·) 0 } }
  | [] => { s with jnl := now }

/-- A BOOT of kind `b` begins (R517): LKP_CAUSE, the boot count, 0x9030 for a reset, the mode. -/
def beginBoot (b : BootKind) (stage kind code : Nat) (s : State) : State :=
  let s1 := setKeep (fun q => { q with
    bootKind := b, bootStage := stage, bootFailed := 0, bootStart := s.now, bootCount := q.bootCount + 1
    resetKind := kind, resetCode := BitVec.ofNat 16 code, romRecovery := false }) s
  let s2 := if b = .wake then s1 else record 0x9030 [kind, code] s1
  if s2.keep.mode = .boot then s2 else setMode .boot (if code = 0 then 0x9030 else code) s2

/-- A whole-module reset of LKP_CAUSE kind `kind` that `code` led to: everything starts afresh but fuses, slots, settings, anchors, keys,
flacon and keeper log, the epoch ceiling and what the field blocks' own dies hold (R526). `by_`: the rail that holds the reset. -/
def wholeReset (kind code : Nat) (by_ : List Nat) (j : StoreLoss) (s0 : State) : State :=
  let s := coldJournal j s0
  let k := s.keep
  let fresh : State :=
    { pending := s.pending, free := s.free, fused := s.fused, jnl := s.jnl
      keep := {
        mode := k.mode, prev := k.prev, cause := k.cause, bootCount := k.bootCount, settingsA := k.settingsA, settingsB := k.settingsB
        slots := k.slots, clkNow := k.clkNow, resetHeld := by_ }
      fld := { blocks := s.fld.blocks.map (fun p => (p.1, p.2.cold)) }
      net := { ceiling := s.net.ceiling, up := !s.keep.clkNow.getLsbD 4 }
      bth := {
        anchors := s.bth.anchors, anchorVoid := s.bth.anchorVoid, anchorSlot := s.bth.anchorSlot, anchorNext := s.bth.anchorNext
        keys := s.bth.keys, jtagOpen := s.bth.jtagOpen } }
  beginBoot .whole 1 kind code fresh

/-- The logic region starts afresh, and with it the field-link controller (R526); the exception status survives (R126). -/
def coldLogic (s : State) : State :=
  { s with
    sram := [], cores := [], splits := [], timers := [], scratchTags := [], ctl := s.ctl.filter (fun p => decide (0x0100_0000 ≤ p.1))
    jnl := { s.jnl with metrics := [], acc := [] }
    fld := { s.fld with blocks := s.fld.blocks.map (fun p => (p.1, { p.2 with
      link := 0, frame := none, taken := none, cmds := [], words := none, carried := [], resetAt := none })) }
    tri := { ports := s.tri.ports, sent := s.tri.sent, helloAt := s.tri.helloAt, state := s.tri.state }
    svc := { s.svc with mcc := 0 }
    seq := {
      excCode := s.seq.excCode, excCore := s.seq.excCore, excCtx := s.seq.excCtx, excPc := s.seq.excPc, excObj := s.seq.excObj
      excTyp := s.seq.excTyp, excAcode := s.seq.excAcode } }

/-- A logic-region reset: through HOLD, then the region afresh and BOOT from S3, whose BOOT record stands at its start (R29, R457, R526). -/
def logicReset (code : Nat) (s : State) : State :=
  let s1 := beginBoot .logic 3 3 code (coldLogic (enterHold 0x9030 s))
  stageRec (bootRec { s1 with jnl := { s1.jnl with tornFound := 0 } }) s1

/-- A trial has failed: its slot is failed, and a lock-keeper command reset boots from the slot that was active before (R532). -/
def trialFails (s : State) : State :=
  let s1 := [0, 1, 2, 3].foldl (fun s k => if (s.slot k).state = .trial then slotState k .failed s else s) s
  wholeReset 4 0x9052 [] {} (record 0x9052 [] s1)

/-! ### Reset requests (R525) -/

/-- The bits of a write of LKP_RESET that request a reset. -/
def resetBits (v : Word) : Word := v &&& 0xF3

/-- The requested resets are applied: a whole-module reset alone, else field blocks, then the logic region. -/
def applyResets (v : Word) (s : State) : State :=
  if v.getLsbD 0 then wholeReset 2 0 [] {} s
  else
    let s1 := (List.range 4).foldl (fun s f => if v.getLsbD (4 + f) then applyFieldReset f 0 s else s) s
    if v.getLsbD 1 then logicReset 0 s1 else s1

/-- A first write that no second one has followed within 2,000 ms is refused, and its sequence ends (R525). -/
def expireArmed (s : State) : State :=
  match s.keep.armed with
  | some (w, t) =>
    if t + 2_000_000_000 < s.now then record 0x9031 [w.toNat] (setKeep (fun q => { q with armed := none }) s) else s
  | none => s

/-- A reset request. In RUN and DEGRADED it must be written twice, 100 ms to 2,000 ms apart; a refused write is the first of a new
sequence (R525; log entry 45). -/
def resetRequest (v : Word) (s0 : State) : State :=
  let s := expireArmed s0
  let b := resetBits v
  let refuse := fun (s : State) => record 0x9031 [b.toNat] s
  let unarm := setKeep (fun q => { q with armed := none }) s
  if b = 0 then s
  else match s.keep.mode with
    | .stabled => refuse s
    | .boot => applyResets b unarm
    | .commission => applyResets b unarm
    | .hold => applyResets b unarm
    | _ =>
      match s.keep.armed with
      | none => setKeep (fun q => { q with armed := some (b, s.now) }) s
      | some (w, t) =>
        if w = b ∧ t + 100_000_000 ≤ s.now then applyResets b unarm
        else refuse (setKeep (fun q => { q with armed := some (b, s.now) }) s)

/-! ### Settings (R528) -/

/-- The working copy is persisted in the older copy; a copy that is not valid counts as older. -/
def commitSettings (s : State) : State :=
  let gen := fun (c : Settings) => if c.valid then c.generation else 0
  let a := gen s.keep.settingsA
  let b := gen s.keep.settingsB
  let w := workingCopy s
  let g : Settings := {
    generation := max a b + 1, values := w, policy := s.bth.policy, conf := if s.net.confActive then some s.bth.confPayload else none, confAnchor := s.bth.confAnchor
    devCert := s.bth.devCert, rollback := s.keep.rollback, valid := true }
  raise 15 (record 0x9040 [g.generation] (setKeep (fun q => { q with
    settingsA := if b < a then q.settingsA else g, settingsB := if b < a then g else q.settingsB, generation := g.generation, committed := w }) s))

/-- A settings copy that has been written and fails its hash is recorded and not used. -/
def judgeCopy (n : Nat) (bad : Bool) (get : Keeper → Settings) (set : Settings → Keeper → Keeper) (s : State) : State :=
  let c := get s.keep
  if c.generation = 0 then s
  else if bad || !c.valid then record 0x9041 [n] (setKeep (set { c with valid := false }) s)
  else s

/-- The registers take the values of a settings record, those whose address `p` selects. -/
def restoreValues (p : Nat → Bool) (values : Tab Word) (s : State) : State :=
  values.foldl (fun s e => if p e.1 then ctlSet e.1 ((ctlGet e.1 s &&& ~~~rwcMask e.1) ||| e.2) s else s) s

/-! ### Activation (R296, R529 to R531) -/

/-- A policy table is active. -/
def activatePolicy (p : Policy) (s : State) : State := policyChanged { s with bth := { s.bth with policy := some p } }

/-- The staged program image becomes active; its record holds the slot, the program version and the build identifier (R127, R531). -/
def activateProg (s : State) : State :=
  match slotIn .staged progSlots s with
  | none => record 0x6103 [] s
  | some k =>
    let I := parseImage (s.slot k).payload
    raise 12 (recordB 0x9051 (le 4 k ++ le 4 I.version.toNat ++ I.buildId) (loadImage I (activateSlot progSlots k s)))

/-- The staged firmware slot of `ks` goes on trial (R531). -/
def beginTrial (ks : List Nat) (s : State) : State :=
  match slotIn .staged ks s with
  | none => record 0x6103 [] s
  | some k => raise 12 (record 0x9051 [k] (slotState k .trial s))

/-- Every staged slot is empty (LKP_UPD_CTRL.discard). -/
def discardStaged (s : State) : State :=
  (List.range 6).foldl (fun s k => if (s.slot k).state = .staged then setSlot k (fun _ => {}) s else s) s

/-- A write of LKP_UPD_CTRL whose access has been judged: discard, the activations in the order of their bits, and the lock-keeper command
reset that follows a firmware slot set to trial. -/
def updateControl (v : Word) (s : State) : State :=
  let s1 := if v.getLsbD 3 then discardStaged s else s
  let s2 := if v.getLsbD 0 then activateProg s1 else s1
  let s3 := if v.getLsbD 1 then beginTrial lkSlots s2 else s2
  let s4 := if v.getLsbD 2 then beginTrial svcSlots s3 else s3
  if onTrial s4 && !onTrial s2 then wholeReset 2 0x9051 [] {} s4 else s4

end Sys2Proof.Machine
end

