-- ==== Sys2Proof/Machine/Boot.lean ====
section
/-!
DEFINITION. BOOT: its stages, the mode decision, trials and ROM recovery (R516, R517, R521, R522, R527, R528, R532, R533).
-/
namespace Sys2Proof.Machine

/-- Stage `n` fails: BOOT ends in HOLD with 0x9001, or the trial it serves has failed (R521, R532). -/
def failStage (n detail : Nat) (s : State) : State :=
  let s1 := setKeep (fun q => { q with bootFailed := n }) s
  if onTrial s then trialFails s1 else enterHold 0x9001 (record 0x9001 [n, detail] s1)

/-- The same BOOT goes on: it has led to no mode and to no reset. -/
def sameBoot (s t : State) : Bool := t.keep.mode == .boot && t.keep.bootCount == s.keep.bootCount

/-- A stage has failed that lets BOOT go on: LKP_BOOT names it, and a trial has failed. -/
def goOn (n : Nat) (s : State) : State :=
  if onTrial s then trialFails s else setKeep (fun q => { q with bootFailed := n }) s

/-! ### S2: the lock-keeper firmware (R532, R533) -/

/-- ROM recovery: HOLD with 0x9054, BTH0 under the policy table of the settings copy in use (R533; log entry 40). -/
def romRecover (s : State) : State :=
  let s1 := setKeep (fun q => { q with romRecovery := true, bootFailed := 2 }) s
  enterHold 0x9054 (record 0x9054 [] { s1 with bth := { s1.bth with policy := (bestSettings s).bind Settings.policy } })

/-- The firmware that S2 starts: the slot on trial, else the active one, else the fallback; none is ROM recovery. A slot whose payload is too
long never verifies (R511). -/
def stageS2 (r : BootRun) (s : State) : State :=
  let good := fun (k : Nat) => !r.badSlots.getLsbD k && decide ((look ({} : Slot) k s.keep.slots).payload.length ≤ 1_572_864)
  match slotIn .trial lkSlots s with
  | some k => if good k then s else trialFails s
  | none =>
    if (slotIn .active lkSlots s).any good || (slotIn .fallback lkSlots s).any good then s else romRecover s

/-! ### S3 to S5 -/

/-- S3: every sensor within its limits, and REFCLK_A, CCLK, SCLK, MCLK and NCLK in range. -/
def testS3 (s : State) : Option Nat :=
  if s.keep.clkNow &&& 0x1F ≠ 0 then some (s.keep.clkNow &&& 0x1F).toNat
  else if (List.range 12).any (fun i => (look ({} : Sensor) i s.keep.temp).atLimit) then some 0
  else none

/-- A PCLK that does not start is no failure: CM5 has it out of range, with its record, and keeps BTH1 and BTH2 closed (R39, R521). -/
def stageS3 (r : BootRun) (s : State) : State :=
  if r.pclk || s.keep.clkNow.getLsbD 5 then s
  else [1, 2].foldl (fun s b => setBerth b Berth.shut s) (raise 4 (record 0x9110 [5] (setKeep (fun q => { q with
    clkNow := q.clkNow ||| 0x20, clkSeen := q.clkSeen ||| 0x20, owed := q.owed ||| 0x20 }) s)))

/-- S4: the scan ends with the BOOT record, or meets a store fault (R452, R455). -/
def stageS4 (r : BootRun) (s : State) : State :=
  if s.jnl.state ≠ .notScanned then s
  else if r.scanFault then goOn 4 (storeFault s)
  else finishScan s

/-- S5: the logic SRAM is tested, every fitted cluster proof-tested, the trip flop set and cleared by the test clear (R189, R201). A proof
test that fails is an accord failure too, and fails the stage (R193, R521). -/
def stageS5 (r : BootRun) (s : State) : State :=
  let all := 2 ^ s.clustersFitted - 1
  let t := { s with seq := { s.seq with tripFlop := false, proofOk := BitVec.ofNat 8 all } }
  match r.proof with
  | none => t
  | some f =>
    if f.cluster.val < s.clustersFitted then
      failStage 5 0x1314 (proofFault f { t with seq := { t.seq with proofOk := BitVec.ofNat 8 (all - 2 ^ f.cluster.val) } })
    else t

/-! ### S6: settings and signed content (R528, R304, R135) -/

/-- A staging write that power loss broke off: the slot is failed (R534). -/
def failTorn (r : BootRun) (s : State) : State :=
  (List.range 6).foldl (fun s k => if r.tornSlots.getLsbD k && (s.slot k).state == .staged then slotState k .failed s else s) s

/-- The stored policy table, if it verifies, is active. An envelope accepted under another anchor does not verify (R299). -/
def bootPolicy (r : BootRun) (g : Settings) (s : State) : State :=
  match g.policy with
  | none => s
  | some p =>
    if r.badPolicy || p.anchor != s.bth.anchorSlot then record 0x6101 [] s
    else if policyOk p.payload s.ident then activatePolicy p s
    else record 0x6106 [] s

/-- The stored connection configuration, if it verifies, is active. -/
def bootConf (r : BootRun) (g : Settings) (s : State) : State :=
  match g.conf with
  | none => s
  | some c =>
    if r.badConf || g.confAnchor != s.bth.anchorSlot then record 0x6101 [] s
    else if confOk c s then activateConf c { s with bth := { s.bth with confAnchor := g.confAnchor } } else record 0x5100 [] s

/-- The active program slot, if its envelope verifies, gives the image. -/
def bootImage (r : BootRun) (s : State) : State :=
  match slotIn .active progSlots s with
  | none => { s with image := none }
  | some k =>
    let code := if r.badSlots.getLsbD k || (s.slot k).anchor != s.bth.anchorSlot then 0x6101 else imageCode (s.slot k).payload s
    if code = 0 then { s with image := some (parseImage (s.slot k).payload) } else record code [] { s with image := none }

/-- S6 from the settings store and the slots; after a logic-region reset the lock-keeper's RAM holds it all. A replacement of the anchor
takes effect with this BOOT (R299). -/
def stageS6 (r : BootRun) (s : State) : State :=
  let s0 := match s.bth.anchorNext with
    | none => s
    | some k => { s with bth := { s.bth with
        anchorSlot := some k, anchorNext := none } }
  if s0.keep.bootKind = .logic then s0
  else
    let s1 := judgeCopy 1 r.badB Keeper.settingsB (fun c q => { q with settingsB := c })
      (judgeCopy 0 r.badA Keeper.settingsA (fun c q => { q with settingsA := c }) (failTorn r s0))
    let s2 := { s1 with bth := { s1.bth with policy := none, confPayload := [] }, net := { s1.net with table := [], confActive := false } }
    bootImage r (match bestSettings s2 with
      | none => record 0x9042 [] s2
      | some g =>
        let s3 := restoreValues (fun a => a == 0x0800_0028) g.values
          (setKeep (fun q => { q with generation := g.generation, rollback := g.rollback }) { s2 with bth := { s2.bth with devCert := g.devCert } })
        bootConf r g (bootPolicy r g s3))

/-! ### S7 to S9 -/

/-- Every section is disturbed at a BOOT, one that no fitted head bounds with cause 5 too (R3, R391, R527). -/
def disturbSections (s : State) : State := (List.range 16).foldl (fun s k => disturbBounds k 4 s) s

/-- S7: the settings go to every region, after a logic-region reset to the logic region alone; the image is loaded; connections start
CLOSED (R103, R104, R119, R278, R527). -/
def stageS7 (s : State) : State :=
  let values := ((bestSettings s).map Settings.values).getD []
  let s1 := if s.keep.bootKind = .logic then restoreValues (fun a => decide (a < 0x0100_0000)) values s
    else
      let t := restoreValues (fun _ => true) values s
      setKeep (fun q => { q with committed := workingCopy t }) t
  let s2 := match s1.image with | none => s1 | some I => loadImage I s1
  connsFirstUse (disturbSections s2)

/-- The cells of the service firmware from word index 0 on. -/
def firmwareCells (l : List Byte) : Memory := (l.zipIdx.filter (fun p => p.1 != 0)).map (fun p => (p.2, p.1))

/-- The service region stays in reset; 0x9046. -/
def serviceNotReady (s : State) : State := goOn 8 (record 0x9046 [] { s with svc := { s.svc with held := true } })

/-- S8: the service firmware slot on trial, else the active one, is copied and the cores released; with none ready the region stays in
reset. After a logic-region reset the region has gone on. -/
def stageS8 (r : BootRun) (s : State) : State :=
  if s.keep.bootKind = .logic then s
  else
    let trial := slotIn .trial svcSlots s
    let slot := trial.orElse (fun _ => slotIn .active svcSlots s)
    match slot with
    | some k =>
      if !r.badSlots.getLsbD k && r.ready == 15 then
        { s with svc := { s.svc with
            held := false, sram := firmwareCells (s.slot k).payload, cores := (List.range 4).map (fun c => (c, ({ released := true } : SvcCore))) } }
      else serviceNotReady s
    | none => serviceNotReady s

/-- S9: each fitted block gets a field-block reset and rejoins, or is isolated; the trip lines are released (R410, R413). -/
def stageS9 (r : BootRun) (s : State) : State :=
  let s1 := (List.range s.blocksFitted).foldl (fun s f =>
    if (s.block f).isolated then s
    else if r.linkOk.getLsbD f then rejoinBlock f (beginFieldReset f s)
    else isolateBlock f (beginFieldReset f s)) s
  let s2 := setKeep (fun q => { q with tripLow := false }) s1
  if (List.range s.blocksFitted).any (fun f => !r.linkOk.getLsbD f) then goOn 9 s2 else s2

/-! ### S10: the mode decision (R517, R532) -/

/-- Trial slots are confirmed at the S10 of the BOOT that used them. -/
def confirmTrials (s : State) : State :=
  let s1 := match slotIn .trial lkSlots s with | some k => fuseLk k (activateSlot lkSlots k s) | none => s
  match slotIn .trial svcSlots s1 with | some k => fuseSvc k (activateSlot svcSlots k s1) | none => s1

/-- The triad configuration is valid: no triad, or a member 0 to 2 and a non-zero identity (R206). -/
def triadConfigOk (s : State) : Bool := !s.triadOn || (s.member != 3 && s.triadId != 0)

/-- All that RUN needs is present and valid (R17, R206, R517). -/
def runnable (s : State) : Bool :=
  s.image.isSome && s.bth.policy.isSome && s.net.confActive && decide (1 ≤ s.ident ∧ s.ident ≤ 4_094) && triadConfigOk s

/-- RUN is granted: clusters take their modes, the epoch starts at the ceiling, a triad member enters FORMING, a module alone gets S(0);
the program fuses advance; isolated blocks make the module DEGRADED (R26, R54, R203, R242, R271, R531). -/
def enterRun (s : State) : State :=
  let s1 := setEpoch (joinClusters (setMode .run 0x9002 s))
  let s2 := if s.triadOn then setTri .forming { s1 with tri := { s1.tri with members := 0, attempts := 0 } } else { s1 with tri := { s1.tri with state := .off } }
  let s3 := grantStart s2
  let s4 := match slotIn .active progSlots s3 with | some k => fuseProg k s3 | none => s3
  if (List.range s.blocksFitted).any (fun f => (s.block f).isolated) then enterDegraded 0x9104 (record 0x9104 [] s4) else s4

/-- S10: the elapsed time and the mode entered. -/
def stageS10 (s0 : State) : State :=
  let s := endBoot (confirmTrials s0)
  let next := if !s.keep.cmsn then Mode.commission else if runnable s then .run else .hold
  let s1 := record 0x9002 [s.keep.bootMs, next.code] s
  match next with
  | .commission => setMode .commission 0x9002 s1
  | .run => enterRun s1
  | _ => enterHold 0x9003 (record 0x9003 [] s1)

/-! ### The command -/

/-- Stage `n` fails with a detail, or exceeds its Max time, as the last column of R521 has it; where BOOT goes on, the next stage is due. -/
def stageFails (n detail : Nat) (s : State) : State :=
  let next := setKeep (fun q => { q with bootStage := n + 1 }) s
  match n with
  | 1 => setKeep (fun q => { q with bootFailed := 1 }) s
  | 2 => if onTrial s then trialFails s else romRecover s
  | 4 => goOn 4 (storeFault next)
  | 6 => goOn 6 next
  | 8 => serviceNotReady next
  | 9 => goOn 9 ((List.range s.blocksFitted).foldl (fun s f => if (s.block f).link = 2 then s else isolateBlock f s)
      (setKeep (fun q => { q with tripLow := false }) next))
  | k => failStage k detail s

/-- BOOT goes on when stage `n` fails (R521). -/
def goesOn (n : Nat) : Bool := [4, 6, 8, 9].contains n

/-- Stage `n` of the run `r`: it ends at its DTIME and fails with a detail, or does its work, and BOOT goes on with `k`. A stage that is
behind the module, and S4 after a logic-region reset, is not run. -/
def bootStage (n : Nat) (r : BootRun) (test : State → Option Nat) (work k : State → State) (s0 : State) : State :=
  if n < s0.keep.bootStage ∨ (n = 4 ∧ s0.keep.bootKind = .logic) then k s0
  else
    let s := setKeep (fun q => { q with bootStage := n }) (advance (r.ends.getD (n - 1) 0) s0)
    let failed := match r.fail with | some (m, d) => if m.val = n then some d.toNat else test s | none => test s
    let t := match failed with | some d => stageFails n d s | none => work s
    if sameBoot s t && (failed.isNone || goesOn n) then k t else t

def noTest (_ : State) : Option Nat := none

/-- The stages, in the order in which they end when none fails. -/
def runBoot (r : BootRun) (s : State) : State :=
  bootStage 1 r noTest id (bootStage 2 r noTest (stageS2 r) (bootStage 3 r testS3 (stageS3 r) (bootStage 4 r noTest (stageS4 r)
    (bootStage 5 r noTest (stageS5 r) (bootStage 6 r noTest (stageS6 r) (bootStage 7 r noTest stageS7 (bootStage 8 r noTest (stageS8 r)
      (bootStage 9 r noTest (stageS9 r) (bootStage 10 r noTest stageS10 id))))))))) s

/-- A BOOT is in progress: no rail holds the reset, and S1 has not failed. -/
def booting (s : State) : Bool := s.keep.mode == .boot && s.keep.resetHeld == [] && s.keep.bootFailed != 1

/-- BOOT (R521): the stages that are left, from S1, or from S3 after a logic-region reset or a wake, to the mode decision. -/
def execBoot (r : BootRun) (s : State) : Outcome := .next (if booting s then runBoot r s else s)

/-- BOOT_STAGE_TIMEOUT: stage `n`, not yet passed, exceeds its Max time at DTIME `atNs` (R521, R532). -/
def execBootStageTimeout (n : Fin 11) (atNs : Nat) (s : State) : Outcome :=
  if booting s = true ∧ s.keep.bootStage ≤ n.val ∧ n.val ≠ 0 then
    .next (stageFails n 0 (setKeep (fun q => { q with bootStage := n.val }) (advance atNs s)))
  else .next s

end Sys2Proof.Machine
end

