-- ==== Sys2Proof/Machine/Envelope.lean ====
section
/-!
DEFINITION. The checks of an envelope and what an accepted one does (R298 to R305, R511, R529 to R534).
-/
namespace Sys2Proof.Machine

/-! ### The form of an envelope (R301) -/

/-- The header fields that the checks read, all big-endian. -/
structure EnvHead where
  kind : Nat
  encrypted : Bool
  target : Nat
  serial : Nat
  counter : Nat
  length : Nat
  chain : Nat
  hash : List Byte
  deriving DecidableEq, Repr

def envHead (e : List Byte) : EnvHead :=
  { kind := beAt 0x06 2 e, encrypted := beAt 0x08 4 e == 1, target := beAt 0x0C 2 e, serial := beAt 0x10 8 e, counter := beAt 0x18 4 e
    length := beAt 0x1C 4 e, chain := beAt 0x20 4 e, hash := slice 0x30 32 e }

/-- The payload area starts behind the padded chain. -/
def payloadAt (h : EnvHead) : Nat := 176 + roundUp 16 h.chain

/-- Check 1: magic, format, reserved fields, lengths, a kind that exists and that the ECOMMIT named. -/
def formOk (e : List Byte) (kind : Nat) : Bool :=
  let h := envHead e
  decide (176 ≤ e.length ∧ beAt 0 4 e = 0x414B_4556 ∧ beAt 4 2 e = 1 ∧ 1 ≤ h.kind ∧ h.kind ≤ 9 ∧ h.kind = kind ∧ beAt 0x08 4 e ≤ 1
    ∧ h.target < 2 ^ 12 ∧ 1 ≤ h.length ∧ h.length ≤ 62_914_560 ∧ e.length = payloadAt h + roundUp 16 h.length + 64)
  && zeroAt 0x0E 2 e && zeroAt 0x24 12 e && zeroAt 0x9C 4 e
  && zeroAt (176 + h.chain) (roundUp 16 h.chain - h.chain) e && zeroAt (payloadAt h + h.length) (roundUp 16 h.length - h.length) e
  && (if h.encrypted then h.serial != 0 else zeroAt 0x50 76 e && zeroAt 0xA0 16 e)

/-! ### Permission (R302, R298 to R300, R305) -/

/-- A replacement of the anchor: CMSN low, COMMISSION, an ENGINEER berth (R299). -/
def mayReplaceAnchor (b : Nat) (s : State) : Bool := !s.keep.cmsn && s.keep.mode == .commission && hasRole b roleE s

/-- An ENGINEER berth in COMMISSION. -/
def engineering (b : Nat) (s : State) : Bool := s.keep.mode == .commission && hasRole b roleE s

/-- The kind is permitted to berth `b`, its roles and the mode (R302, R533). -/
def kindPermitted (b : Nat) (h : EnvHead) (s : State) : Bool :=
  if s.keep.romRecovery then h.kind == 7 && hasRole b roleU s
  else
    match h.kind with
    | 1 => engineering b s || hasRole b roleU s
    | 2 => engineering b s
    | 3 => engineering b s
    | 4 => engineering b s && h.encrypted
    | 5 => firstCommissioning b s || mayReplaceAnchor b s
    | 6 => engineering b s
    | 7 => hasRole b roleU s
    | 8 => hasRole b roleU s
    | _ => b == 0 && !s.keep.cmsn && s.keep.mode == .commission

/-- Check 2. While a replacement of the anchor waits for BOOT, every envelope is refused (R299); so is one committed in COMMISSION that
the module has left (R305). -/
def permitOk (b : Nat) (h : EnvHead) (c : Checking) (s : State) : Bool :=
  s.bth.anchorNext.isNone && kindPermitted b h s && decide (h.target = 0 ∨ h.target = s.ident)
    && decide (h.serial = 0 ∨ h.serial = s.fused.serial.toNat) && (!c.commission || s.keep.mode == .commission)

/-! ### Signature and rollback (R290, R291, R298, R530) -/

/-- The signature at the end of an envelope verifies with a public key (R301). -/
def signedBy (e key : List Byte) : Bool := ecdsaOk key (e.take (e.length - 64)) (rawSig (e.drop (e.length - 64)))

/-- The leaf of the signer chain of an envelope, valid up to the key `root`, of at most `most` certificates, none revoked (R290, R291). -/
def signerOf (e : List Byte) (most : Nat) (root : List Byte) (s : State) : Option Signer :=
  ((chainCerts most (slice 176 (envHead e).chain e)).bind (chainLeaf most root)).filter (fun g => !revoked g.ids s)

/-- Firmware: signed by the vendor firmware root, through a chain of up to two certificates (R302; log entry 97). -/
def vendorSigned (e : List Byte) (s : State) : Bool :=
  if (envHead e).chain = 0 then signedBy e s.fused.vendorRoot
  else ((signerOf e 2 s.fused.vendorRoot s).map (fun g => signedBy e g.key)).getD false

/-- Check 3: the signer of the kind (R298, R299, R302). -/
def signedOk (e : List Byte) (h : EnvHead) (s : State) : Bool :=
  match h.kind with
  | 5 => h.chain == 0 && signedBy e (if s.bth.anchorSlot.isNone then slice (payloadAt h) 64 e else s.anchorKey)
  | 7 => vendorSigned e s
  | 8 => vendorSigned e s
  | 9 => h.chain == 0 && signedBy e s.fused.vendorRoot
  | _ => ((signerOf e 3 s.anchorKey s).map (fun g => g.roles.getLsbD roleE && signedBy e g.key)).getD false

/-- Check 4. -/
def rollbackOk (h : EnvHead) (s : State) : Bool :=
  match h.kind with
  | 1 => decide (s.fused.fuseProg ≤ h.counter ∧ h.counter ≤ 64)
  | 7 => decide (s.fused.fuseLk ≤ h.counter ∧ h.counter ≤ 64)
  | 8 => decide (s.fused.fuseSvc ≤ h.counter ∧ h.counter ≤ 64)
  | 5 => h.counter == 0
  | 9 => h.counter == 0
  | k => decide (((bestSettings s).map (fun g => look 0 k g.rollback)).getD 0 ≤ h.counter)

/-! ### Content (check 7) -/

/-- The entries of a key bundle: index and key (R302). -/
def bundle (p : List Byte) : List (Nat × List Byte) :=
  (List.range (p.length / 32)).map (fun i => (beAt (32 * i) 2 p, slice (32 * i + 16) 16 p))

/-- The layout of a key bundle; the number of keys is that of R261's key index. -/
def bundleOk (p : List Byte) : Bool :=
  decide (p.length % 32 = 0) && (bundle p).all (fun e => decide (e.1 < 4096))
    && (List.range (p.length / 32)).all (fun i => zeroAt (32 * i + 2) 14 p)

/-- Every flacon record has been acknowledged by INVESTIGATE (R300). -/
def allAcked (s : State) : Bool :=
  s.jnl.flacon.all (fun x => match s.jnl.acked with | none => false | some a => upTo a x.number)

/-- Check 7: the code of the rule that the payload breaks, or 0. The layouts that have no code of their own fail with 0x6100 (log entry
42). -/
def contentCode (h : EnvHead) (p : List Byte) (s : State) : Nat :=
  match h.kind with
  | 1 => imageCode p s
  | 2 => if policyOk p s.ident then 0 else 0x6106
  | 3 => if confOk p s then 0 else 0x5100
  | 4 => if bundleOk p then 0 else 0x6100
  | 5 =>
    if p.length ≠ 68 ∨ zeroAt 64 4 p = false then 0x6100
    else if s.bth.anchorSlot = some 7 then 0x6112 else 0
  | 7 => if p.length ≤ 1_572_864 then 0 else 0x6100
  | 9 =>
    if p.length ≠ 16 ∨ zeroAt 8 8 p = false then 0x6100
    else if beAt 0 8 p = s.fused.serial.toNat ∧ allAcked s = true then 0 else 0x6121
  | _ => 0

/-! ### The payload (R303) -/

/-- The key of an encrypted envelope: the first 16 bytes of HKDF over the ECDH of the device agreement key and the ephemeral key. -/
def envelopeKey (e : List Byte) (h : EnvHead) (s : State) : Option (List Byte) :=
  (ecdhX s.fused.agreeKey (slice 0x50 64 e)).map (fun z =>
    (hkdf (be 8 s.fused.serial.toNat) z ([0x41, 0x4B, 0x45, 0x56] ++ be 2 h.kind)).take 16)

/-- The plaintext payload; none when an encrypted one does not decrypt to its tag, over header bytes 0x00 to 0x9F. -/
def openPayload (e : List Byte) (h : EnvHead) (s : State) : Option (List Byte) :=
  let body := slice (payloadAt h) h.length e
  if h.encrypted then
    (envelopeKey e h s).bind (fun k =>
      if gcmTag k (slice 0x90 12 e) (e.take 0xA0) body = slice 0xA0 16 e then some (gcmCrypt k (slice 0x90 12 e) body) else none)
  else some body

/-! ### The slot of a staging (R529, R531, R534) -/

def slotsOf (kind : Nat) : List Nat := if kind = 1 then progSlots else if kind = 7 then lkSlots else svcSlots

/-- The slot neither active nor trial that takes a staging: a staged one first, then one that is empty, failed, fallback; slot A in ROM
recovery (R533). -/
def stagingSlot (kind : Nat) (s : State) : Option Nat :=
  if s.keep.romRecovery then some 0
  else
    let ks := slotsOf kind
    (slotIn .staged ks s).orElse (fun _ => (slotIn .empty ks s).orElse (fun _ => (slotIn .failed ks s).orElse (fun _ => slotIn .fallback ks s)))

def stages (kind : Nat) : Bool := kind == 1 || kind == 7 || kind == 8

/-- The code of the first check of R304 that fails, or 0; a staging without a slot fails last (R531). -/
def envelopeCode (b : Nat) (e : List Byte) (c : Checking) (s : State) : Nat :=
  let h := envHead e
  if !formOk e c.kind then 0x6100
  else if !permitOk b h c s then 0x6103
  else if !signedOk e h s then 0x6101
  else if !rollbackOk h s then 0x6104
  else
    match openPayload e h s with
    | none => 0x6102
    | some p =>
      if sha256 p ≠ h.hash then 0x6102
      else if contentCode h p s ≠ 0 then contentCode h p s
      else if stages h.kind && (stagingSlot h.kind s).isNone then 0x6103
      else 0

/-! ### What an accepted envelope does -/

/-- The envelope is in slot `k`, staged. -/
def stageSlot (k : Nat) (h : EnvHead) (p : List Byte) (s : State) : State :=
  raise 12 (record 0x9050 [k, h.kind] (setSlot k (fun _ => {
    state := .staged, counter := h.counter, hash := h.hash, payload := p, anchor := s.bth.anchorSlot }) s))

/-- Kinds 1, 7 and 8: staged; a program image that an ENGINEER loads in COMMISSION is active at once (R531), and a firmware in ROM recovery
leads to a power-on reset that takes it from slot A (R533). -/
def stageEnvelope (b : Nat) (h : EnvHead) (p : List Byte) (s : State) : State :=
  match stagingSlot h.kind s with
  | none => s
  | some k =>
    let s1 := stageSlot k h p s
    if s.keep.romRecovery then wholeReset 7 0x9054 [] {} (record 0x9051 [k] (slotState k .active s1))
    else if h.kind = 1 ∧ engineering b s = true then activateProg s1
    else s1

/-- The rollback counter of the active content of the kind (R530). -/
def noteCounter (h : EnvHead) (s : State) : State := setKeep (fun q => { q with rollback := put h.kind h.counter q.rollback }) s

/-- The first anchor is fused in slot 0 and takes effect; a replacement in the next slot voids the current one and waits for
BOOT (R298, R299). -/
def fuseAnchor (p : List Byte) (s : State) : State :=
  match s.bth.anchorSlot with
  | none => record 0x6110 [] { s with bth := { s.bth with anchors := put 0 (p.take 64) s.bth.anchors, anchorSlot := some 0 } }
  | some k => record 0x6111 [] { s with bth := { s.bth with
      anchors := put (k + 1) (p.take 64) s.bth.anchors, anchorNext := some (k + 1), anchorVoid := s.bth.anchorVoid ||| BitVec.ofNat 8 (2 ^ k) } }

/-- What JTAG reaches: the device identification register, bypass, or the rest of the module (R300). -/
inductive JtagPath where
  | identification | bypass | rest
  deriving DecidableEq, Repr

/-- JTAG gives access to a path; the table has no command that goes through it. -/
def jtagGives (p : JtagPath) (s : State) : Bool := p != .rest || s.bth.jtagOpen

/-- A settings copy without policy table and connection configuration. -/
def Settings.erased (g : Settings) : Settings := { g with policy := none, conf := none }

/-- RMA unlock (R300): the anchor is voided; keys, program images, policy tables and connection configurations are erased in their active
copies and in the slots; the logic SRAM and the flacon are erased; then JTAG opens. -/
def rmaUnlock (s : State) : State :=
  let s1 := { s with
    bth := { s.bth with
      anchorVoid := match s.bth.anchorSlot with | none => s.bth.anchorVoid | some k => s.bth.anchorVoid ||| BitVec.ofNat 8 (2 ^ k)
      anchorSlot := none, keys := [], policy := none, confPayload := [] }
    net := { s.net with table := [], conns := [], confActive := false }
    image := none, sram := []
    keep := { s.keep with
      settingsA := s.keep.settingsA.erased, settingsB := s.keep.settingsB.erased
      slots := progSlots.foldl (fun t k => put k {} t) s.keep.slots }
    jnl := { s.jnl with flacon := [], write := 0, usedUnits := [], head := none, chain := [], sinceCkpt := 0, acked := none } }
  policyChanged (record 0x6120 [] { s1 with bth := { s1.bth with jtagOpen := true } })

/-- What an accepted envelope does. -/
def applyEnvelope (b : Nat) (h : EnvHead) (p : List Byte) (s : State) : State :=
  match h.kind with
  | 2 => noteCounter h (activatePolicy { parsePolicy p with anchor := s.bth.anchorSlot } s)
  | 3 => noteCounter h (activateConf p { s with bth := { s.bth with confAnchor := s.bth.anchorSlot } })
  | 4 => noteCounter h { s with bth := { s.bth with keys := (bundle p).foldl (fun t e => put e.1 e.2 t) s.bth.keys } }
  | 5 => fuseAnchor p s
  | 6 => noteCounter h { s with bth := { s.bth with devCert := p } }
  | 9 => rmaUnlock s
  | _ => stageEnvelope b h p s

/-- The staged bytes of an envelope. -/
def Staged.envelope (g : Staged) : List Byte := (List.range g.total).map (fun i => look 0 i g.bytes)

/-- An envelope passes: 0x6105, event source 227, the reply; of two of one kind the later commit has the effect (R304, R305). -/
def acceptEnvelope (b : Nat) (h : EnvHead) (c : Checking) (p : List Byte) (s : State) : State :=
  let s1 := raise 227 (recordB 0x6105 (le 4 h.kind ++ h.hash) (setBerth b (fun B => { B with staged := {} }) s))
  let s2 := replyOk b 0x41 c.tag [] s1
  if c.stamp < look 0 h.kind s.bth.stamps then s2
  else applyEnvelope b h p { s2 with bth := { s2.bth with stamps := put h.kind c.stamp s2.bth.stamps } }

/-- The envelope is refused; a signature failure counts towards the global limit (R323), and a refused unlock is recorded (R300). -/
def rejectEnvelope (b code : Nat) (c : Checking) (s : State) : State :=
  let s1 := refuseEnvelope b c.tag code s
  let s2 := if c.kind = 9 ∧ code ≠ 0x6121 then record 0x6121 [] s1 else s1
  if code = 0x6101 then globalFailure s2 else s2

/-- ENVELOPE_CHECK_COMPLETE: the lock-keeper ends the checks of the envelope that BTHb committed. -/
def execEnvelopeCheckComplete (b : Fin 8) (s : State) : Outcome :=
  match (s.berth b).staged.checking with
  | none => .next s
  | some c =>
    let e := (s.berth b).staged.envelope
    let h := envHead e
    let code := envelopeCode b e c s
    .next (if code = 0 then acceptEnvelope b h c ((openPayload e h s).getD []) s else rejectEnvelope b code c s)

end Sys2Proof.Machine
end

