-- ==== Sys2Proof/Machine/Journal.lean ====
section
/-!
DEFINITION. The commands of the journal store controller and of the statistics engine (R440 to R475).
-/
namespace Sys2Proof.Machine

/-- RECORD_WRITTEN (R444, R449): the oldest staged record is programmed and valid; a checkpoint or seal only once it is
signed, any other only while no checkpoint is due. `unitFails`: the unit fails to program and is retired (R442). -/
def execRecordWritten (unitFails : Bool) (s : State) : Outcome :=
  match s.jnl.staging with
  | [] => .next s
  | r :: t =>
    let live := s.jnl.state == .recording || (s.jnl.state == .full && r.typ == 0xF0)
    if !live || (r.signed && r.payload.length != 128) || (!r.signed && decide (4_095 ≤ s.jnl.sinceCkpt)) then .next s
    else if unitFails then
      .next (retireUnit (if r.size ≤ unitLeft s then writeUnit s else nextUnit s) s)
    else if s.jnl.state == .recording && !recFits r.size s then .next (fillFlacon s)
    else
      let s1 := writeRec r (setJnl (fun j => { j with staging := t }) s)
      if r.typ = 0xF1 then .next (answerSeals false (raise 242 (record 0x7010 [s1.jnl.head.getD 0] s1)))
      else if r.typ = 0xF0 ∧ s.jnl.state = .full then .next (answerSeals true s1)
      else .next s1

/-- CHECKPOINT (R447, R448): the checkpoint or seal at the front of the staging buffer is formed; one that 4,095 records have
made due takes its place there. -/
def execCheckpoint (s : State) : Outcome := .next (formSigned s)

/-- CHECKPOINT_SIGNED (R448): the lock-keeper completes the signature. -/
def execCheckpointSigned (s : State) : Outcome := .next (addSignature (formSigned s))

/-- LOST_RECORD (R451): with 64 KiB free, a LOST record accounts the lost records; 0x7003. -/
def execLostRecord (s : State) : Outcome :=
  let j := s.jnl
  if j.lost ≠ 0 ∧ j.state = .recording ∧ j.fill + 65_536 ≤ Config.stagingBytes then
    let r : Rec := { typ := 5, dtime := s.now, payload := le 4 j.lost ++ zeros 4 ++ le 8 j.lostFirst ++ le 8 j.lostLast }
    let s1 := stageRec r (setJnl (fun j => { j with lost := 0, lostFirst := 0, lostLast := 0 }) s)
    .next (raise 241 (record 0x7003 [j.lost] s1))
  else .next s

/-- JOURNAL_STORE_FAULT (R452). -/
def execJournalStoreFault (s : State) : Outcome := .next (storeFault s)

/-- FLACON_SCAN_COMPLETE (R455 to R457). -/
def execFlaconScanComplete (atNs : Nat) (s : State) : Outcome :=
  let s := advance atNs s
  if s.jnl.state = .notScanned then .next (finishScan s) else .next s

/-- UNIT_ERASED (R466): the next unit of the re-arm is erased, or fails to erase and is retired (R442); a full flacon resumes with
the REARM record; the last unit completes the re-arm. -/
def execUnitErased (fails : Bool) (s : State) : Outcome :=
  match s.jnl.erasing with
  | [] => .next s
  | u :: t =>
    let s1 := setJnl (fun j => { j with erasing := t }) s
    let s2 := if fails then retireUnit u s1
      else
        let s2 := setJnl (fun j => { j with
          usedUnits := j.usedUnits.filter (fun v => v != u)
          flacon := j.flacon.filter (fun x => x.offset / Config.unitBytes != u) }) s1
        if s2.jnl.state = .full then
          let p := s2.jnl.rearmPend.getD (s2.jnl.arm, 0)
          rearmRec p.1 p.2 (setJnl (fun j => { j with state := .recording, rearmPend := none }) s2)
        else s2
    .next (if t = [] then raise 244 s2 else s2)

/-- PROGRAM_RECORD_SLOT (R458, R459): a slot of kind 1; `late`: its cycle was not released. -/
def execProgramRecordSlot (slot : Fin 512) (w0 w1 w2 w3 : Word) (late : Bool) (s : State) : Outcome :=
  .next (journalSlot slot (w32 (w0.toNat / 256 * 256 + 1)) w1 w2 w3 late s)

/-- DOOR_CYCLE_SLOT (R458, R461): a slot of kind 2. -/
def execDoorCycleSlot (slot : Fin 512) (w0 w1 w2 w3 : Word) (late : Bool) (s : State) : Outcome :=
  .next (journalSlot slot (w32 (w0.toNat / 256 * 256 + 2)) w1 w2 w3 late s)

/-- METRIC_SAMPLE_SLOT (R458, R470): a slot of kind 3. -/
def execMetricSampleSlot (slot : Fin 512) (w0 w1 w2 w3 : Word) (late : Bool) (s : State) : Outcome :=
  .next (journalSlot slot (w32 (w0.toNat / 256 * 256 + 3)) w1 w2 w3 late s)

/-- JNL_STAT_CFG.period in ns (R472). -/
def persistNs (s : State) : Nat :=
  let p := cf 0x0600_0020 10 0 s
  60_000_000_000 * (if 1 ≤ p ∧ p ≤ 1_440 then p else 60)

/-- STATISTICS_PERSIST (R472): the persistence period has passed. -/
def execStatisticsPersist (atNs : Nat) (s : State) : Outcome :=
  let s := advance atNs s
  if persistNs s ≤ s.now - s.jnl.lastFrameAt then .next (persistFrame s) else .next s

end Sys2Proof.Machine
end

