-- ==== Sys2Proof/Machine/Service.lean ====
section
/-!
DEFINITION. The events of the service region: edges, gathering, presentation, watchdog, timers, wake watcher (R489 to R509).
-/
namespace Sys2Proof.Machine

/-- EVENT_EDGE (R491, R492): the controller detects the oldest toggle of source `src`. `merge`: a second toggle less than 3 SCLK
cycles later is detected with it. -/
def execEventEdge (src : Fin 255) (merge : Bool) (atNs : Nat) (s : State) : Outcome :=
  let s := advance atNs s
  match s.svc.toggles.find? (fun t => t.1 == src.val) with
  | none => .next s
  | some first =>
    let rest := s.svc.toggles.erase first
    let second := rest.find? (fun t => t.1 == src.val && decide (t.2 < first.2 + 3))
    let rest2 := match second with | some t => if merge then rest.erase t else rest | none => rest
    .next (evEdge src { s with svc := { s.svc with toggles := rest2 } })

/-- GATHER_TIME_LIMIT (R492). -/
def execGatherTimeLimit (src : Fin 255) (atNs : Nat) (s : State) : Outcome :=
  let s := advance atNs s
  let e := s.evSrc src
  if e.gathering = true ∧ 1000 * e.t ≤ s.now - e.t0 then
    .next (setSrc src (fun e => { e with pending := true, gathering := false }) s)
  else .next s

/-- EVENT_PRESENTATION (R495 to R505): core `c` is presented its winner and saves its frame; with `toClaim` nothing intervenes
and the claim edge follows, otherwise the core is left entering, and the next command of this kind, or its next instruction,
finds the claim edge. `tail`: the request came within a return (R505). -/
def execEventPresentation (c : Fin 4) (toClaim tail : Bool) (s : State) : Outcome :=
  let k := s.svcCore c
  if k.presented.isSome then .next (claimPresented c s)
  else if k.eoiJust && svcWord k.pc s == 0xC000_0000 then .next s
  else
    let s1 := presentTo c tail s
    .next (if toClaim then claimPresented c s1 else s1)

/-- EVC_CORE_WDT[c].timeout in ns (R489). -/
def svcWdtNs (c : Nat) (s : State) : Nat := 1_000_000 * max 10 (cf (0x0700_0408 + 0x40 * c) 15 0 s)

/-- SERVICE_WATCHDOG_EXPIRY (R489, R487). -/
def execServiceWatchdogExpiry (c : Fin 4) (atNs : Nat) (s : State) : Outcome :=
  let s := advance atNs s
  match (s.svcCore c).wdStart with
  | none => .next s
  | some t => if svcWdtNs c s ≤ s.now - t ∧ (s.svcCore c).released = true then .next (svcFatalFree c s) else .next s

/-- SERVICE_TIMER_EXPIRY (R507). -/
def execServiceTimerExpiry (t : Fin 7) (atNs : Nat) (s : State) : Outcome :=
  let s := advance atNs s
  match (look ({} : SvcTimer) t s.svc.timers).expires with
  | none => .next s
  | some e =>
    if s.now < e then .next s
    else
      let per := cbit (stmrReg t 0) 1 s
      let s1 := raise (248 + t.val) s
      let s2 := if per then s1 else ctlSet (stmrReg t 0) (ctlGet (stmrReg t 0) s &&& ~~~1#32) s1
      .next { s2 with svc := { s2.svc with timers := put t { expires := if per then some (stmrExpiry t e s) else none } s2.svc.timers } }

/-- An edge of wake source `k` reaches the watcher while it is armed and the source is in the wake set (R508). -/
def wakeEdge (k : Nat) (s : State) : State :=
  if s.svc.armed = true ∧ k < 16 ∧ cbit 0x0700_0008 k s = true then
    { s with svc := { s.svc with wakePend := s.svc.wakePend ||| (1#16 <<< k) } }
  else s

/-- WAKE_EDGE (R508). -/
def execWakeEdge (k : Fin 16) (s : State) : Outcome := .next (wakeEdge k s)

end Sys2Proof.Machine
end

