-- ==== Sys2Proof/Machine/Keeper.lean ====
section
/-!
DEFINITION. The commands of the lock-keeper: sensors and rails, clocks, regions, resets, CMSN, STABLED and wake, snapshot (R28, R30, R39,
R45 to R50, R508, R512 to R520, R523 to R526, R535 to R538).
-/
namespace Sys2Proof.Machine

/-! ### Temperatures (R471, R513, R515) -/

/-- Warning, high limit and low limit of TSi in 0.1 °C. -/
def tempLimits (i : Nat) (s : State) : Int × Int × Int :=
  if i = 10 then (1000, 1100, -450)
  else if i = 11 then (if s.gradeE then (1000, 1100, -450) else (850, 950, -300))
  else (1150, 1250, -450)

/-- A run of samples beyond a threshold, up to `n`. -/
def runOf (n : Nat) (beyond : Bool) (run : Nat) : Nat := if beyond then min n (run + 1) else 0

/-- A reading in the extremes of the summary (R516). -/
def Sensor.note (x : Int) (q : Sensor) : Sensor :=
  { q with reading := x, hi := some (match q.hi with | none => x | some y => max x y), lo := some (match q.lo with | none => x | some y => min x y) }

def State.temp (i : Nat) (s : State) : Sensor := look {} i s.keep.temp
def setTemp (i : Nat) (f : Sensor → Sensor) (s : State) : State := setKeep (fun q => { q with temp := upd {} i f q.temp }) s

/-- TSi has reached a limit: event source 2, and HOLD, or a journal store fault for TS10. -/
def tempAtLimit (i : Nat) (x : Int) (s : State) : State :=
  let s1 := raise 2 (setKeep (fun q => { q with tseen := q.tseen ||| BitVec.ofNat 32 (2 ^ (16 + i)) }) s)
  if i = 10 then storeFault s1 else enterHold 0x9021 (record 0x9021 [i, low16 x] s1)

/-- One sample `x` of TSi. -/
def sampleTemp (i : Nat) (x : Int) (s : State) : State :=
  if s.keep.mode = .stabled ∧ i ≤ 8 then s
  else
    let t := tempLimits i s
    let old := s.temp i
    let q : Sensor := { old.note x with
      warnRun := runOf 3 (decide (t.1 < x)) old.warnRun, highRun := runOf 3 (decide (t.2.1 < x)) old.highRun
      lowRun := runOf 3 (decide (x < t.2.2)) old.lowRun }
    let limit := decide (3 ≤ max q.highRun q.lowRun)
    let warns := decide (3 ≤ q.warnRun) && !old.warned
    let s1 := setTemp i (fun _ => { q with
      limitRun := max q.highRun q.lowRun, atLimit := limit, warned := warns || (old.warned && decide (t.1 - 50 < x)) }) s
    let s2 := if warns then
        raise 1 (record 0x9020 [i, low16 x] (setKeep (fun q => { q with tseen := q.tseen ||| BitVec.ofNat 32 (2 ^ i) }) s1))
      else s1
    if limit && !old.atLimit then tempAtLimit i x s2 else s2

/-- TEMPERATURE_SAMPLE (R513): the readings of TS0 to TS11 in 0.1 °C; metrics 80 to 91 take one each second (R471). -/
def execTemperatureSample (atNs : Nat) (readings : List (BitVec 16)) (s0 : State) : Outcome :=
  let s := advance atNs s0
  let xs := (readings.take 12).zipIdx.map (fun p => (p.2, p.1.toInt))
  let s1 := if s.keep.lastTemp + 1_000_000_000 ≤ s.now then
      xs.foldl (fun s p => sample (80 + p.1) p.2 s) (setKeep (fun q => { q with lastTemp := s.now }) s)
    else s
  .next (xs.foldl (fun s p => sampleTemp p.1 p.2 s) s1)

/-! ### Rails (R514, R515, R523) -/

def State.volt (v : Nat) (s : State) : Sensor := look {} v s.keep.volt
def setVolt (v : Nat) (f : Sensor → Sensor) (s : State) : State := setKeep (fun q => { q with volt := upd {} v f q.volt }) s

/-- The monitors that STABLED ignores. -/
def voltIgnored (v : Nat) (s : State) : Bool := s.keep.mode == .stabled && [0, 1, 2, 4, 5, 6, 10].contains v

/-- VM12 to VM15 report the rails of fitted blocks alone. -/
def voltFitted (v : Nat) (s : State) : Bool := decide (v < 12 + s.blocksFitted)

/-- Ports and towpath links go down for want of their rail or clock (R39, R514). -/
def networkDown (s : State) : State :=
  let s1 := (List.range 4).foldl (fun s p => portDown p s) s
  let s2 := (List.range 2).foldl (fun s p => tpOff p s) s1
  { s2 with net := { s2.net with up := false }, keep := if s.keep.mode = .hold then s2.keep else { s2.keep with owed := s2.keep.owed ||| 0x10 } }

/-- What was owed under bit `n` is done. -/
def payOwed (n : Nat) (s : State) : State := setKeep (fun q => { q with owed := q.owed &&& ~~~(BitVec.ofNat 8 (2 ^ n)) }) s

/-- The network region has its rails and its clock again and is reinitialised (R30, R39, R514); one that lost them in HOLD alone goes on as
it stands (R32). -/
def networkBack (s : State) : State :=
  if s.net.up || s.keep.clkNow.getLsbD 4 || (s.volt 5).out || (s.volt 6).out then s
  else
    let s1 := { s with net := { s.net with up := true } }
    if s.keep.owed.getLsbD 4 then startReinit 4 (payOwed 4 s1) else s1

/-- What an excursion of VMv leads to; the lock-keeper applies no reset of its own that would leave HOLD (R514, R526). -/
def voltAction (v mv : Nat) (s : State) : State :=
  match v with
  | 3 => if s.keep.mode = .hold ∨ s.keep.resetHeld.contains 3 = true then s else wholeReset 6 0x9022 (3 :: s.keep.resetHeld) {} s
  | 5 => networkDown s
  | 6 => networkDown s
  | 7 => if s.keep.resetHeld.contains 7 then s else wholeReset 0 0x9022 (7 :: s.keep.resetHeld) {} s
  | 9 => if s.keep.resetHeld.contains 9 then s else wholeReset 0 0x9022 (9 :: s.keep.resetHeld) {} s
  | 8 => storeFault s
  | 11 => storeFault s
  | _ => if v ≤ 11 then enterHold 0x9023 (record 0x9023 [v, mv] s) else s

/-- One comparison of VMv at `mv` mV: two in succession outside the window are an excursion. -/
def compareVolt (v mv : Nat) (s : State) : State :=
  if voltIgnored v s || !voltFitted v s then s
  else
    let w := railWindow v
    let old := s.volt v
    let q : Sensor := { old.note mv with
      lowRun := runOf 2 (decide (mv < w.1)) old.lowRun, highRun := runOf 2 (decide (w.2 < mv)) old.highRun
      limitRun := runOf 2 (decide (mv < w.1 ∨ w.2 < mv)) old.limitRun }
    let out := decide (2 ≤ q.limitRun)
    let s1 := setVolt v (fun _ => { q with out := out }) s
    if out && !old.out then
      let bit := if mv < w.1 then v else 16 + v
      let s2 := setKeep (fun q => { q with vseen := q.vseen ||| BitVec.ofNat 32 (2 ^ bit) }) s1
      voltAction v mv (raise 3 (record 0x9022 [v, mv] s2))
    else s1

/-- VOLTAGE_EXCURSION: one comparison of VMv (R514). -/
def execVoltageExcursion (v : Fin 16) (mv : BitVec 16) (s : State) : Outcome := .next (compareVolt v mv.toNat s)

/-- A reset that the rail of VMv held goes on when no other holds it; t0 is then (R514, R521). -/
def releaseHeldReset (v : Nat) (s : State) : State :=
  if s.keep.resetHeld.contains v then
    setKeep (fun q => { q with resetHeld := q.resetHeld.filter (fun x => x != v), bootStart := s.now }) s
  else s

/-- RAIL_BACK_IN_WINDOW: the rail of VMv is in its window again (R514, R523). -/
def execRailBackInWindow (v : Fin 16) (mv : BitVec 16) (s : State) : Outcome :=
  let w := railWindow v
  if mv.toNat < w.1 ∨ w.2 < mv.toNat ∨ voltIgnored v s = true ∨ voltFitted v s = false then .next s
  else
    let s1 := releaseHeldReset v (setVolt v (fun q => { q.note mv.toNat with lowRun := 0, highRun := 0, limitRun := 0, out := false }) s)
    .next (if v.val = 5 ∨ v.val = 6 then networkBack (setKeep (fun q => { q with isolated := q.isolated.filter (fun x => x != v.val) }) s1) else s1)

/-- The boundary of the domain whose rail is not good (R523). -/
def isolateDomain (v : Nat) (loss : StoreLoss) (s : State) : State :=
  let mark := fun (s : State) => if s.keep.isolated.contains v then s else setKeep (fun q => { q with isolated := v :: q.isolated }) s
  match v with
  | 3 => if s.keep.resetHeld.contains 3 then s else wholeReset 6 0x9022 (3 :: s.keep.resetHeld) loss s
  | 4 => (List.range s.chansFitted).foldl (fun s n => if chanValid n s then chanInvalidate n s else s) (mark s)
  | 5 => networkDown (mark s)
  | 6 => networkDown (mark s)
  | 7 => if s.keep.resetHeld.contains 7 then s else wholeReset 0 0x9022 (7 :: s.keep.resetHeld) loss s
  | 9 => if s.keep.resetHeld.contains 9 then s else wholeReset 0 0x9022 (9 :: s.keep.resetHeld) loss s
  | 8 => storeFault s
  | 10 => s
  | 11 => s
  | _ =>
    if v < 3 then
      let s1 := disableAxes 0x2041 (setKeep (fun q => { q with liveLow := true, tripLow := true }) (mark s))
      networkDown { s1 with fld := { s1.fld with blocks := s1.fld.blocks.map (fun p => (p.1, { p.2 with link := 0, frame := none })) } }
    else blockUndervolt (v - 12) s

/-- RAIL_NOT_GOOD: the power-good detector of VMv's domain sees its rail outside the window (R523). -/
def execRailNotGood (v : Fin 16) (loss : StoreLoss) (s : State) : Outcome :=
  .next (if voltIgnored v s || !voltFitted v s then s else isolateDomain v loss s)

/-- SENSOR_SUMMARY: every 10 minutes the highest and lowest reading of TS0 to TS11 and VM0 to VM15 (R516). -/
def execSensorSummary (atNs : Nat) (s0 : State) : Outcome :=
  let s := advance atNs s0
  if s.now < s.keep.lastSummary + 600_000_000_000 then .next s
  else
    let all := (List.range 12).map (fun i => s.temp i) ++ (List.range 16).map (fun v => s.volt v)
    let s1 := record 0x9080 (all.flatMap (fun q => [low16 (q.hi.getD q.reading), low16 (q.lo.getD q.reading)])) s
    let clear := fun (p : Nat × Sensor) => (p.1, { p.2 with hi := none, lo := none })
    .next (setKeep (fun q => { q with lastSummary := s.now, temp := q.temp.map clear, volt := q.volt.map clear }) s1)

/-! ### Clocks and regions (R28, R30, R31, R39) -/

/-- What CMn out of range leads to, outside HOLD. -/
def clockAction (n : Nat) (s : State) : State :=
  match n with
  | 2 => serviceReinit s
  | 4 => networkDown (allSafe s)
  | 5 => [1, 2].foldl (fun s b => setBerth b Berth.shut s) (setKeep (fun q => { q with owed := q.owed ||| 0x20 }) s)
  | 6 => s
  | _ => enterHold 0x9110 s

/-- CLOCK_MONITOR_OUT_OF_RANGE: CMn (R39). In STABLED only ACLK is monitored: the other clocks are stopped or counted in gated dies. -/
def execClockMonitorOutOfRange (n : Fin 8) (s : State) : Outcome :=
  if s.keep.clkNow.getLsbD n ∨ (s.keep.mode = .stabled ∧ n.val ≠ 6) then .next s
  else
    let bit := BitVec.ofNat 8 (2 ^ n.val)
    let s1 := raise 4 (record 0x9110 [n] (setKeep (fun q => { q with clkNow := q.clkNow ||| bit, clkSeen := q.clkSeen ||| bit }) s))
    let s2 := if n.val = 6 then record 0x9111 [] s1 else s1
    .next (if s.keep.mode = .hold then (if n.val = 4 then networkDown s2 else s2) else clockAction n s2)

/-- CLOCK_BACK_IN_RANGE: with NCLK the network region is reinitialised, with PCLK BTH1 and BTH2 are reset (R39), unless the clock was lost
in HOLD, where a fault causes no action (R32). -/
def execClockBackInRange (n : Fin 8) (s : State) : Outcome :=
  if !s.keep.clkNow.getLsbD n then .next s
  else
    let s1 := setKeep (fun q => { q with clkNow := q.clkNow &&& ~~~(BitVec.ofNat 8 (2 ^ n.val)) }) s
    .next (if n.val = 4 then networkBack s1 else if n.val = 5 ∧ s1.keep.owed.getLsbD 5 then resetBerth 2 (resetBerth 1 (payOwed 5 s1)) else s1)

/-- The bound of a reinitialisation in ns (R30); 0 for a region that has none. -/
def reinitBound (region : Nat) : Nat :=
  match region with
  | 1 => 10_000_000 | 2 => 10_000_000 | 4 => 50_000_000 | 5 => 100_000_000 | _ => 0

/-- The RW registers of a window return to their reset values; RWC fields keep theirs (R527). -/
def resetWindow (w : Nat) (s : State) : State :=
  { s with ctl := s.ctl.map (fun p =>
      if p.1 / 0x0100_0000 = w ∧ p.1 ≠ 0x0700_0008 then (p.1, (ctlReset s p.1 &&& ~~~rwcMask p.1) ||| (p.2 &&& rwcMask p.1)) else p) }

/-- The service region starts again: sources disabled, timers stopped, cores from their reset state (R488, R496, R527). -/
def serviceFirstUse (s : State) : State :=
  let s1 := resetWindow 7 s
  { s1 with svc := { s1.svc with
      held := false, src := [], toggles := [], timers := []
      cores := s1.svc.cores.map (fun p => (p.1, {
        released := true, resets := p.2.resets, fatalCode := p.2.fatalCode, spurious := p.2.spurious, spurOpen := p.2.spurOpen
        spurAt := p.2.spurAt, lastClaim := p.2.lastClaim })) } }

/-- Each function of a region starts from its first-use state (R30, R527). Axes have been disabled and cleared as theirs began. -/
def regionFirstUse (region : Nat) (s : State) : State :=
  match region with
  | 1 => encodersFirstUse s
  | 2 => feedbackFirstUse s
  | 4 => netRestart s
  | 5 => serviceFirstUse s
  | _ => s

/-- REGION_REINIT_COMPLETE: a reinitialisation completes within its bound; 0x9102 (R30). -/
def execRegionReinitComplete (region : Fin 7) (atNs : Nat) (s0 : State) : Outcome :=
  let s := advance atNs s0
  match look none region.val s.keep.reinit with
  | none => .next s
  | some t =>
    if s.now ≤ t + reinitBound region then
      .next (regionFirstUse region (record 0x9102 [] (setKeep (fun q => { q with reinit := put region.val none q.reinit }) s)))
    else .next s

/-- REGION_REINIT_TIMEOUT: a reinitialisation exceeds its bound; 0x9103, HOLD (R30). -/
def execRegionReinitTimeout (region : Fin 7) (atNs : Nat) (s0 : State) : Outcome :=
  let s := advance atNs s0
  match look none region.val s.keep.reinit with
  | none => .next s
  | some t => if t + reinitBound region < s.now then .next (enterHold 0x9103 (record 0x9103 [region] s)) else .next s

/-- KEEPER_WATCHDOG_EXPIRY: the core restarts, the trip lines are asserted, HOLD; in the BOOT of a trial the trial fails (R28, R512, R532). -/
def execKeeperWatchdogExpiry (s : State) : Outcome :=
  if s.keep.mode = .boot ∧ onTrial s = true then .next (trialFails (record 0x9032 [] s))
  else .next (enterHold 0x9032 (record 0x9032 [] (setKeep (fun q => { q with tripLow := true }) s)))

/-! ### HOLD, CMSN and resets (R518, R519, R525) -/

/-- HOLD_ENTRY: a HOLD cause, recorded with its own code where it arose, reaches the lock-keeper (R518). -/
def execHoldEntry (cause : BitVec 16) (s : State) : Outcome := .next (enterHold cause.toNat s)

/-- CMSN_LEVEL_CHANGE: a new level has counted (R519). -/
def execCmsnLevelChange (level : Bool) (s : State) : Outcome :=
  if s.keep.cmsn = level then .next s
  else
    let s1 := raise 14 (setKeep (fun q => { q with cmsn := level }) s)
    match s.keep.mode with
    | .boot => .next s1
    | .commission => .next (if level then wholeReset 2 0x9070 [] {} (record 0x9070 [] s1) else s1)
    | _ => .next (record 0x9071 [] s1)

/-- POWER_ON_RESET (R525, R526). -/
def execPowerOnReset (loss : StoreLoss) (s : State) : Outcome := .next (wholeReset 0 0 [] loss s)

/-- PORN_LOW: the PORn ball; a rail that holds the reset goes on holding it (R525). -/
def execPornLow (loss : StoreLoss) (s : State) : Outcome := .next (wholeReset 1 0 s.keep.resetHeld loss s)

/-! ### STABLED (R535, R536) -/

/-- Every safety-marked output of block `f` was demanded off by the released cycle, and every safety output pair (R535). -/
def blockDemandsOff (f : Nat) (s : State) : Bool :=
  let w := fun (k : Nat) => outWord (0x400 + k + 0x100 * f) s
  (List.range 24).all (fun c => !(dioOut f c s && dioSafety f c s && (w 0).getLsbD c))
    && (List.range 8).all (fun i => !(lsSafety f i s && (w 1).getLsbD i))
    && (List.range 4).all (fun j => !(soEnabled f j s && (w 2).getLsbD j))

/-- Every axis was DISABLED at the CAPTURE of the cycle, by the axis records of its image (R363, R535). -/
def axesDisabled (s : State) : Bool :=
  decide (s.axesFitted = 0) || (!s.seq.notFresh.getLsbD 5 && (List.range s.axesFitted).all (fun n => (imageIn (0xC00 + 16 * n) s).toNat % 16 == 0))

/-- The first reason against a STABLED request, or 0 (R535). -/
def stabledReason (s : State) : Nat :=
  if s.keep.mode ≠ .run ∧ s.keep.mode ≠ .degraded then 1
  else if s.triadOn then 2
  else if cf 0x0700_0008 11 5 s = 0 then 3
  else if !(List.range s.blocksFitted).all (fun f => blockDemandsOff f s) then 4
  else if !axesDisabled s then 5
  else 0

/-- A STABLED request is refused (R535). -/
def refuseStabled (reason : Nat) (s : State) : State :=
  record 0x9060 [reason] (setKeep (fun q => { q with stblRequest := false, stblReason := BitVec.ofNat 8 reason }) s)

/-- A STABLED request: it waits for the next released cycle, or is refused at once where none runs (R535). -/
def requestStabled (s : State) : State :=
  if s.keep.mode = .run ∨ s.keep.mode = .degraded then setKeep (fun q => { q with stblRequest := true, stblAt := s.now }) s
  else refuseStabled 1 s

/-- The steps of R536. -/
def enterStabled (s : State) : State :=
  let s1 := askFrame (applyHeldSamples (askCheckpoint (stopSequencer s)))
  let s2 := setKeep (fun q => { q with stblRequest := false, stblEntry := s1.now, stblAclk := 0, liveLow := true, tripLow := true }) { s1 with
    svc := { s1.svc with
      armed := true, wakePend := 0, latched := 0, wakeOwed := 0, held := true, toggles := []
      cores := s1.svc.cores.map (fun p => (p.1, { p.2 with released := false, presented := none })) }
    mot := { s1.mot with axes := s1.mot.axes.map (fun p => (p.1, ({} : Axis))), arriving := none, ready := [] }
    net := { s1.net with ports := [] }
    tri := {} }
  let s3 := (List.range s2.blocksFitted).foldl (fun s f =>
    if f = 0 then evalBlock 0 false (setBlock 0 (fun b => { b with modeForce := true, link := 0, frame := none, cmds := [], words := none }) s)
    else setBlock f (fun _ => {}) s) s2
  setMode .stabled 0x9061 (record 0x9061 [] s3)

/-- STABLED_ENTRY: at the end of the next released cycle the request is decided (R535, R536). -/
def execStabledEntry (s : State) : Outcome :=
  if s.keep.stblRequest = false ∨ s.seq.phase ≠ .housekeeping ∨ s.seq.overrun = true ∨ s.deadline < s.keep.stblAt then .next s
  else if stabledReason s = 0 then .next (enterStabled s)
  else .next (refuseStabled (stabledReason s) s)

/-! ### Wake (R508, R509, R537, R538) -/

/-- Wake source `k`: in STABLED it reaches the watcher alone, else the event controller. -/
def wakeSource (k : Nat) (s : State) : State := if s.keep.mode = .stabled then wakeEdge k s else raise k s

/-- WAKEN_FALLING (R537). -/
def execWakenFalling (s : State) : Outcome := .next (wakeSource 5 s)

/-- STABLED_TIMER_EXPIRY (R537). -/
def execStabledTimerExpiry (s : State) : Outcome :=
  .next (if s.keep.mode = .stabled ∧ ctlGet 0x0800_0304 s ≠ 0 then wakeEdge 6 s else s)

/-- UART_K_START_BIT (R537). -/
def execUartKStartBit (s : State) : Outcome := .next (if s.keep.mode = .stabled then wakeEdge 7 s else s)

/-- FB0_WAKE_INPUT: the DIO input that byte `w` of LKP_STBL_WIN names has changed to its active level (R537). -/
def execFb0WakeInput (w : Fin 4) (s : State) : Outcome :=
  let d := cf 0x0800_0308 (8 * w.val + 6) (8 * w.val) s
  .next (if s.keep.mode = .stabled ∧ s.fldFitted 0 = true ∧ d < 24 ∧ dioRead 0 d s = cbit 0x0800_0308 (8 * w.val + 7) s then
    wakeEdge (8 + w.val) s else s)

/-- Every region but the lock-keeper starts afresh; settings come back at S7 (R527, R538). -/
def wakeRegions (s0 : State) : State :=
  let s := coldLogic s0
  { s with
    ctl := s.ctl.filter (fun p => decide (6 ≤ p.1 / 0x0100_0000 ∧ p.1 / 0x0100_0000 ≠ 7 ∨ p.1 = 0x0700_0008))
    latches := [], mot := {}, fbk := {}, tri := {}
    net := { ceiling := s.net.ceiling, up := !s.keep.clkNow.getLsbD 4 }
    fld := { blocks := s.fld.blocks.map (fun p => (p.1, p.2.cold)) }
    svc := { latched := s.svc.wakePend, wakeOwed := s.svc.wakePend }
    jnl := { s.jnl with state := if s.jnl.state = .storeFault then .storeFault else .notScanned, metrics := [], acc := [] } }

/-- WAKE: a pending wake bit; `aclk` ACLK periods have passed since the entry, from which DTIME is reloaded (R41, R538). Every berth starts
closed. -/
def execWake (aclk : Nat) (s : State) : Outcome :=
  if s.keep.mode ≠ .stabled ∨ s.svc.wakePend = 0 then .next s
  else
    let s1 := countAclk aclk (record 0x9062 [s.svc.wakePend.toNat] s)
    let s2 := setKeep (fun q => { q with reinit := [], isolated := [] }) (wakeRegions s1)
    let s3 := if (s2.berth 0).state = .closed then s2 else endReset 0 (resetBerth 0 s2)
    .next (beginBoot .wake 3 5 0x9062 s3)

/-! ### The snapshot (R45 to R50) -/

/-- SNAP_BALL_EDGE: a rising edge on SNAP (R45, R46). -/
def execSnapBallEdge (atNs : Nat) (s0 : State) : Outcome :=
  let s := advance atNs s0
  .next (if cbit 0x0900_0000 2 s then triggerSnapshot 1 true s else s)

/-- The snapshot is released (R49); one that is not yet copied is copied first (R50). -/
def releaseSnapshot (s0 : State) : State :=
  let s := copySnapshot s0
  { s with snap := { s.snap with held := false, missed := 0, overwritten := false } }

/-- SNAPSHOT_COPIED: the lock-keeper copies the latched snapshot into the keeper log, 0x9120 (R50; log entry 41). -/
def execSnapshotCopied (s : State) : Outcome := .next (copySnapshot s)

/-- SNAPSHOT_FB_TIMEOUT: the blocks whose words have not arrived 10 ms after T0; 0x9122 (R50). -/
def execSnapshotFbTimeout (atNs : Nat) (s0 : State) : Outcome :=
  let s := advance atNs s0
  .next (if s.now < s.snap.dtime + 10_000_000 then s else reportMissing s)

/-! ### What time alone does -/

/-- A CCLK cycle with no command: DTIME advances (R33, R40), a reset request that has waited too long is refused (R525), and an
interval of violations ends (R275); after RUN and DEGRADED, what the last cycle gathered is recorded; log entry 2. -/
def idleCycle (s : State) : State :=
  let s0 := (List.range 8).foldl flushRefusals (closeInterval (expireArmed (tickCclk s)))
  let s1 := (List.range 4).foldl flushSpurious s0
  if gathers s1 then s1 else (List.range 4).foldl (fun s f => flushLinkErrors f s) (flushChannels s1)

end Sys2Proof.Machine
end

