-- ==== Sys2Proof/Machine/Logic.lean ====
section
/-!
DEFINITION. The meanings of the KIS instructions that logic cores and service cores share, and of those of the logic cores (R140 to
R173).
-/
namespace Sys2Proof.Machine

/-- A truth value (R150). -/
def truth (b : Bool) : Word := if b then 1 else 0

/-- A result of two registers, in one slot. -/
def alu2 (i : Issue) (rd ra rb : Reg) (f : Word → Word → Word) (s : State) : Outcome :=
  .next (compute i rd [ra, rb] 1 false (fun r => f (r ra) (r rb)) s)

/-- A result of one register, in one slot. -/
def alu1 (i : Issue) (rd ra : Reg) (f : Word → Word) (s : State) : Outcome :=
  .next (compute i rd [ra] 1 false (fun r => f (r ra)) s)

/-! ### Integer ALU (R145 to R148) -/

/-- ADD. -/
def execAdd (i : Issue) (rd ra rb : Reg) (s : State) : Outcome := alu2 i rd ra rb (fun a b => a + b) s
/-- SUB. -/
def execSub (i : Issue) (rd ra rb : Reg) (s : State) : Outcome := alu2 i rd ra rb (fun a b => a - b) s
/-- AND. -/
def execAndOp (i : Issue) (rd ra rb : Reg) (s : State) : Outcome := alu2 i rd ra rb (fun a b => a &&& b) s
/-- OR. -/
def execOrOp (i : Issue) (rd ra rb : Reg) (s : State) : Outcome := alu2 i rd ra rb (fun a b => a ||| b) s
/-- XOR. -/
def execXorOp (i : Issue) (rd ra rb : Reg) (s : State) : Outcome := alu2 i rd ra rb (fun a b => a ^^^ b) s
/-- ANDN. -/
def execAndn (i : Issue) (rd ra rb : Reg) (s : State) : Outcome := alu2 i rd ra rb (fun a b => a &&& ~~~b) s
/-- ORN. -/
def execOrn (i : Issue) (rd ra rb : Reg) (s : State) : Outcome := alu2 i rd ra rb (fun a b => a ||| ~~~b) s
/-- SLL. -/
def execSll (i : Issue) (rd ra rb : Reg) (s : State) : Outcome := alu2 i rd ra rb (fun a b => a <<< (b.toNat % 32)) s
/-- SRL. -/
def execSrl (i : Issue) (rd ra rb : Reg) (s : State) : Outcome := alu2 i rd ra rb (fun a b => a >>> (b.toNat % 32)) s
/-- SRA. -/
def execSra (i : Issue) (rd ra rb : Reg) (s : State) : Outcome := alu2 i rd ra rb (fun a b => a.sshiftRight (b.toNat % 32)) s

/-- MUL, latency 2. -/
def execMul (i : Issue) (rd ra rb : Reg) (s : State) : Outcome :=
  .next (compute i rd [ra, rb] 1 true (fun r => r ra * r rb) s)

/-- DIVU: 12 slots; 0xFFFF_FFFF when the divisor is 0. -/
def execDivu (i : Issue) (rd ra rb : Reg) (s : State) : Outcome :=
  .next (compute i rd [ra, rb] 12 false (fun r => if r rb = 0 then 0xFFFF_FFFF else r ra / r rb) s)

/-- REMU: 12 slots; the dividend when the divisor is 0. -/
def execRemu (i : Issue) (rd ra rb : Reg) (s : State) : Outcome :=
  .next (compute i rd [ra, rb] 12 false (fun r => if r rb = 0 then r ra else r ra % r rb) s)

/-- MINU. -/
def execMinu (i : Issue) (rd ra rb : Reg) (s : State) : Outcome := alu2 i rd ra rb (fun a b => if a.toNat < b.toNat then a else b) s
/-- MAXU. -/
def execMaxu (i : Issue) (rd ra rb : Reg) (s : State) : Outcome := alu2 i rd ra rb (fun a b => if a.toNat < b.toNat then b else a) s
/-- MIN. -/
def execMinOp (i : Issue) (rd ra rb : Reg) (s : State) : Outcome := alu2 i rd ra rb (fun a b => if a.toInt < b.toInt then a else b) s
/-- MAX. -/
def execMaxOp (i : Issue) (rd ra rb : Reg) (s : State) : Outcome := alu2 i rd ra rb (fun a b => if a.toInt < b.toInt then b else a) s
/-- SLTU. -/
def execSltu (i : Issue) (rd ra rb : Reg) (s : State) : Outcome := alu2 i rd ra rb (fun a b => truth (decide (a.toNat < b.toNat))) s
/-- SLT. -/
def execSlt (i : Issue) (rd ra rb : Reg) (s : State) : Outcome := alu2 i rd ra rb (fun a b => truth (decide (a.toInt < b.toInt))) s

/-- ADDI. -/
def execAddi (i : Issue) (rd ra : Reg) (imm : BitVec 16) (s : State) : Outcome := alu1 i rd ra (fun a => a + sext imm) s
/-- ANDI. -/
def execAndi (i : Issue) (rd ra : Reg) (imm : BitVec 16) (s : State) : Outcome := alu1 i rd ra (fun a => a &&& imm.setWidth 32) s
/-- ORI. -/
def execOri (i : Issue) (rd ra : Reg) (imm : BitVec 16) (s : State) : Outcome := alu1 i rd ra (fun a => a ||| imm.setWidth 32) s
/-- XORI. -/
def execXori (i : Issue) (rd ra : Reg) (imm : BitVec 16) (s : State) : Outcome := alu1 i rd ra (fun a => a ^^^ imm.setWidth 32) s

/-- LUI. -/
def execLui (i : Issue) (rd : Reg) (imm : BitVec 16) (s : State) : Outcome :=
  .next (compute i rd [] 1 false (fun _ => imm.setWidth 32 <<< 16) s)

/-- SLLI. -/
def execSlli (i : Issue) (rd ra sh : Reg) (s : State) : Outcome := alu1 i rd ra (fun a => a <<< sh.val) s
/-- SRLI. -/
def execSrli (i : Issue) (rd ra sh : Reg) (s : State) : Outcome := alu1 i rd ra (fun a => a >>> sh.val) s
/-- SRAI. -/
def execSrai (i : Issue) (rd ra sh : Reg) (s : State) : Outcome := alu1 i rd ra (fun a => a.sshiftRight sh.val) s

/-- MOVS: a special register, zero-extended; it carries no poison. -/
def execMovs (i : Issue) (rd : Reg) (sel : SpecialReg) (s : State) : Outcome :=
  .next (issue i 1 [] (fun s => writeBack i.ctx rd (specialOf i.ctx sel s) false s) s)

/-! ### Bit fields (R149) -/

/-- A field that ends above bit 31 is an invalid encoding; otherwise the instruction runs. -/
def fieldOp (i : Issue) (rd : Reg) (reads : List Nat) (pos wm1 : Reg) (f : (Nat → Word) → Word) (s : State) : Outcome :=
  if 32 < pos.val + wm1.val + 1 then .next (issue i 1 [] (raiseInvalid i.ctx) s)
  else .next (compute i rd reads 1 false f s)

/-- Bits [pos + w − 1 : pos] of `a`. -/
def fieldOf (a : Word) (pos w : Nat) : Word := w32 (a.toNat / 2 ^ pos % 2 ^ w)

/-- EXT. -/
def execExt (i : Issue) (rd ra pos wm1 : Reg) (s : State) : Outcome :=
  fieldOp i rd [ra] pos wm1 (fun r => fieldOf (r ra) pos (wm1.val + 1)) s
/-- EXTS. -/
def execExts (i : Issue) (rd ra pos wm1 : Reg) (s : State) : Outcome :=
  fieldOp i rd [ra] pos wm1 (fun r => wInt (signed (wm1.val + 1) (fieldOf (r ra) pos (wm1.val + 1)).toNat)) s
/-- INS. -/
def execIns (i : Issue) (rd ra pos wm1 : Reg) (s : State) : Outcome :=
  fieldOp i rd [ra, rd] pos wm1 (fun r =>
    let m : Word := w32 ((2 ^ (wm1.val + 1) - 1) * 2 ^ pos.val)
    (r rd &&& ~~~m) ||| ((r ra <<< pos.val) &&& m)) s

/-! ### Boolean vectors (R150) -/

/-- TALL. -/
def execTall (i : Issue) (rd ra rb : Reg) (s : State) : Outcome := alu2 i rd ra rb (fun a m => truth (a &&& m == m)) s
/-- TANY. -/
def execTany (i : Issue) (rd ra rb : Reg) (s : State) : Outcome := alu2 i rd ra rb (fun a m => truth (a &&& m != 0)) s
/-- TNONE. -/
def execTnone (i : Issue) (rd ra rb : Reg) (s : State) : Outcome := alu2 i rd ra rb (fun a m => truth (a &&& m == 0)) s
/-- MSEL reads rd. -/
def execMsel (i : Issue) (rd ra rb : Reg) (s : State) : Outcome :=
  .next (compute i rd [ra, rb, rd] 1 false (fun r => (r ra &&& r rb) ||| (r rd &&& ~~~(r rb))) s)
/-- POPC. -/
def execPopc (i : Issue) (rd ra : Reg) (s : State) : Outcome :=
  alu1 i rd ra (fun a => w32 ((List.range 32).filter (fun k => a.getLsbD k)).length) s
/-- FFS. -/
def execFfs (i : Issue) (rd ra : Reg) (s : State) : Outcome :=
  alu1 i rd ra (fun a => w32 (((List.range 32).find? (fun k => a.getLsbD k)).getD 32)) s
/-- CLRLS. -/
def execClrls (i : Issue) (rd ra : Reg) (s : State) : Outcome := alu1 i rd ra (fun a => a &&& (a - 1)) s
/-- BMAJ reads rd. -/
def execBmaj (i : Issue) (rd ra rb : Reg) (s : State) : Outcome :=
  .next (compute i rd [ra, rb, rd] 1 false (fun r => (r ra &&& r rb) ||| (r ra &&& r rd) ||| (r rb &&& r rd)) s)

/-! ### Branches (R151, R152) -/

/-- BEQ. -/
def execBeq (i : Issue) (ra rb : Reg) (disp : BitVec 16) (s : State) : Outcome :=
  .next (branch i [ra, rb] (sext disp) (fun r => r ra == r rb) s)
/-- BNE. -/
def execBne (i : Issue) (ra rb : Reg) (disp : BitVec 16) (s : State) : Outcome :=
  .next (branch i [ra, rb] (sext disp) (fun r => r ra != r rb) s)
/-- BLT. -/
def execBlt (i : Issue) (ra rb : Reg) (disp : BitVec 16) (s : State) : Outcome :=
  .next (branch i [ra, rb] (sext disp) (fun r => decide ((r ra).toInt < (r rb).toInt)) s)
/-- BGE. -/
def execBge (i : Issue) (ra rb : Reg) (disp : BitVec 16) (s : State) : Outcome :=
  .next (branch i [ra, rb] (sext disp) (fun r => decide ((r rb).toInt ≤ (r ra).toInt)) s)
/-- BLTU. -/
def execBltu (i : Issue) (ra rb : Reg) (disp : BitVec 16) (s : State) : Outcome :=
  .next (branch i [ra, rb] (sext disp) (fun r => decide ((r ra).toNat < (r rb).toNat)) s)
/-- BGEU. -/
def execBgeu (i : Issue) (ra rb : Reg) (disp : BitVec 16) (s : State) : Outcome :=
  .next (branch i [ra, rb] (sext disp) (fun r => decide ((r rb).toNat ≤ (r ra).toNat)) s)
/-- BBS. -/
def execBbs (i : Issue) (ra k : Reg) (disp : BitVec 16) (s : State) : Outcome :=
  .next (branch i [ra] (sext disp) (fun r => (r ra).getLsbD k) s)
/-- BBC. -/
def execBbc (i : Issue) (ra k : Reg) (disp : BitVec 16) (s : State) : Outcome :=
  .next (branch i [ra] (sext disp) (fun r => !(r ra).getLsbD k) s)
/-- J. -/
def execJump (i : Issue) (disp : BitVec 26) (s : State) : Outcome := .next (branch i [] (sext disp) (fun _ => true) s)

/-! ### Loads (R153 to R156) -/

/-- A word corrected by SECDED is counted (R28). -/
def noteEcc (e : Ecc) (s : State) : State :=
  match e with
  | .good => s
  | .corrected b => { s with seq := { s.seq with corrected := s.seq.corrected + 1, correctedBank := upd 0 b (· + 1) s.seq.correctedBank } }
  | .uncorrectable => s

/-- The youngest pending store of a pass to word `i` of `sp`, made in the evaluation with this ordinal (R183). -/
def forwarded (c : Nat) (p : Pass) (sp : Space) (i : Nat) (s : State) : Option Word :=
  let ord := ((s.core c).pass p).arch.ordinal
  (pendingOuts (s.core c) p).foldl (fun r x =>
    match x.2 with
    | .store sp2 j v => if x.1 = ord ∧ sp2 = sp ∧ j = i then some v else r
    | .carry _ _ => r
    | .timer _ _ => r
    | .motion _ _ _ => r
    | .field _ _ _ => r
    | .exception _ _ _ _ => r) none

/-- SCRATCH word `i` is valid for the pass by its last retired write (R184). -/
def scratchValid (c i : Nat) (A : Arch) (s : State) : Bool := A.inObject && look 0 (14_336 * c + i) s.scratchTags == A.ordinal + 1

/-- Where a load finds word `i` in memory: the byte offset in the copy that pass `p` of core `c` reads. `i` is the physical word of STATE. -/
def loadAddr (c : Nat) (p : Pass) (sp : Space) (i : Nat) (s : State) : Nat :=
  match sp with
  | .stateOld => stateAddr p i
  | .stateNew => stateAddr p i
  | .param => paramAddr p i
  | .imageIn => imageInBase + 4 * i
  | .inbox => inboxBase s.seq.inboxFrozen + 4 * i
  | .imageOut => imageOutBase + 4 * i
  | .outbox => outboxBase s.seq.outboxCur + 4 * i
  | .scratch => scratchAddr c i

/-- What SECDED reports counts for a word that is treated as uncorrectable as if it could not be corrected (R28). -/
def wornEcc (a : Nat) (e : Ecc) (s : State) : Ecc := if s.seq.worn.contains a then .uncorrectable else e

/-- What a load of a pass gives: a word with its place in memory (the STATE or PARAM word index), or a value that no memory word
gives. -/
inductive Loaded where
  | value (v : Word)
  | memory (v : Word) (word : Nat)

/-- The Top value that a load of a pass returns (R95, R101, R110, R183). -/
def loadJoined (c : Nat) (p : Pass) (sp : Space) (i : Nat) (s : State) : Loaded :=
  let A := ((s.core c).pass p).arch
  match sp with
  | .stateOld => if (recordOwner i s).isNone then .value 0 else .memory (stateRead p (stateHalf i false s) s) (stateHalf i false s)
  | .stateNew =>
    match forwarded c p .stateNew i s with
    | some v => .value v
    | none =>
      let w := stateHalf i (A.stored.contains i) s
      .memory (stateRead p w s) w
  | .param => .memory (paramRead p i s) i
  | .imageIn => .memory (imageIn i s) i
  | .inbox => .memory (inboxRead i s) i
  | .scratch =>
    match forwarded c p .scratch i s with
    | some v => if A.inObject then .value v else .value 0
    | none => if scratchValid c i A s then .memory (sramWord (scratchAddr c i) s) i else .value 0
  | .imageOut => .value 0
  | .outbox => .value 0

/-- The first failing check of LD in a pass (R155). -/
def loadCheck (A : Arch) (sp : Space) (i : Nat) (s : State) : Option Nat :=
  if spaceLimit sp < i then some 0x1201
  else if sp = .imageOut ∨ sp = .outbox then some 0x1201
  else if sp = .stateNew ∧ !(A.inObject && recordOwner i s == some A.obj.toNat) then some 0x1203
  else none

/-- The words of SCRATCH that a SPLIT context may reach (R122). -/
def splitWindow (k i : Nat) : Bool := decide (4096 * k ≤ i ∧ i < 4096 * k + 4096)

/-- The first failing check of LD in a SPLIT context (R122, R155). -/
def splitLoadCheck (k : Nat) (sp : Space) (i : Nat) : Option Nat :=
  if spaceLimit sp < i then some 0x1201
  else match sp with
    | .stateOld => none
    | .param => none
    | .imageIn => none
    | .inbox => none
    | .scratch => if splitWindow k i then none else some 0x1201
    | .stateNew => some 0x1201
    | .imageOut => some 0x1201
    | .outbox => some 0x1201

/-- What a SPLIT context loads (R122). -/
def loadSplit (c : Nat) (sp : Space) (i : Nat) (s : State) : Word :=
  match sp with
  | .stateOld => if (recordOwner i s).isNone then 0 else stateRead .top (stateHalf i false s) s
  | .param => paramRead .top i s
  | .imageIn => imageIn i s
  | .inbox => inboxRead i s
  | .scratch => sramWord (scratchAddr c i) s
  | .stateNew => 0
  | .imageOut => 0
  | .outbox => 0

/-- A loaded word goes to `rt`: an uncorrectable one is poisoned, with a free value (R144; log entry 3). -/
def loadResult (ctx : Ctx) (rt : Nat) (v : Word) (pois : Bool) (ecc : Ecc) (s : State) : State :=
  let d := if ecc = .uncorrectable then s.draw 32 else (v, s)
  keepLate ctx rt (writeBack ctx rt d.1 (pois || ecc == .uncorrectable) (noteEcc ecc d.2))

/-- LD in a pass. -/
def ldJoined (c : Nat) (p : Pass) (rt : Nat) (sp : Space) (i : Nat) (pois : Bool) (ecc : Ecc) (s : State) : State :=
  let P := (s.core c).pass p
  match loadCheck P.arch sp i s with
  | some code => raiseJoined c p code 0 pois s
  | none =>
    match loadJoined c p sp i s with
    | .value v => loadResult (.joined (Fin.ofNat 64 c) p) rt v pois .good s
    | .memory v w =>
      let ecc := wornEcc (loadAddr c p sp w s) ecc s
      let own := ecc == .uncorrectable && (sp == .stateOld || sp == .stateNew || sp == .param)
      let s1 := if own then setPass c p (fun P => { P with poisoned := P.poisoned ++ [(P.seg, sp, w)] }) s else s
      loadResult (.joined (Fin.ofNat 64 c) p) rt v pois ecc s1

/-- LD in a service core: space 7 alone, within the index limit and the MPU (R175, R481, R483). -/
def ldService (c : Nat) (rt : Nat) (sp : Space) (i : Nat) (ecc : Ecc) (s : State) : State :=
  let pc := (s.svcCore c).pc
  if sp ≠ .scratch then svcException c 0x8100 0 pc s
  else if Config.svcSramWords ≤ i then svcException c 0x8106 0 pc s
  else
    let m := mpuAllows c (s.svcCore c).priv 0 (4 * i) s
    if !m.1 then svcException c 0x8103 0 pc m.2
    else if ecc = .uncorrectable then svcFatalFree c m.2
    else writeBack (.service (Fin.ofNat 4 c)) rt (svcWord i m.2) false m.2

/-- LD (R156). -/
def execLd (i : Issue) (rt : Reg) (sp : Space) (ra : Reg) (off : BitVec 13) (ecc : Ecc) (s : State) : Outcome :=
  .next (issue i 1 [ra] (fun s =>
    let idx := (regOf i.ctx ra s + sext off).toNat
    let pois := anyPoison i.ctx [ra] s
    match i.ctx with
    | .joined c p => ldJoined c p rt sp idx pois ecc s
    | .split c k =>
      match splitLoadCheck k sp idx with
      | some code => raiseSplit c k code 0 s
      | none =>
        let w := if sp = .stateOld then stateHalf idx false s else idx
        loadResult i.ctx rt (loadSplit c sp idx s) pois (wornEcc (loadAddr c .top sp w s) ecc s) s
    | .service c => ldService c rt sp idx ecc s) s)

/-! ### Stores and the other bus outputs (R155, R157, R165, R170, R171) -/

/-- The first failing check of ST in a pass (R155). -/
def storeCheck (A : Arch) (sp : Space) (i : Nat) (s : State) : Option Nat :=
  if spaceLimit sp < i then some 0x1201
  else match sp with
    | .param => some 0x1201
    | .imageIn => some 0x1201
    | .inbox => some 0x1201
    | .stateOld => if A.inObject then some 0x1203 else some 0x1202
    | .stateNew =>
      if !A.inObject then some 0x1202 else if recordOwner i s = some A.obj.toNat then none else some 0x1203
    | .imageOut =>
      match imageOutClass i with
      | none => some 0x1201
      | some k =>
        if !(A.inObject && holdsClass A k s) then some 0x1202
        else if k = 2 ∧ s.blocksFitted ≤ (i - 0x400) / 0x100 then some 0x1202
        else none
    | .outbox =>
      if !(A.inObject && holdsClass A 6 s) then some 0x1202
      else match (connOfWord i s).map (fun c => look 0xFFFF_FFFF c s.img.connOwner) with
        | some o => if o = A.obj.toNat then none else some 0x1204
        | none => some 0x1204
    | .scratch => if A.inObject && holdsClass A 0 s then none else some 0x1202

/-- A bus output of a pass, voted with those of the other passes; with a poisoned operand it is invalid (R144, R177). -/
def emit (c : Nat) (p : Pass) (o : BusOut) (pois : Bool) (s : State) : State :=
  settle c (stepPc (.joined (Fin.ofNat 64 c) p) (putVal c p (.out o) pois s))

/-- ST in a pass. -/
def stJoined (c : Nat) (p : Pass) (sp : Space) (i : Nat) (v : Word) (aPois dPois : Bool) (s : State) : State :=
  match storeCheck ((s.core c).pass p).arch sp i s with
  | some code => raiseJoined c p code 0 (aPois || dPois) s
  | none =>
    let s1 := if sp = .stateNew then setArch c p (fun A => { A with stored := if A.stored.contains i then A.stored else A.stored ++ [i] }) s else s
    emit c p (.store sp i v) (aPois || dPois) s1

/-- ST in a SPLIT context: SCRATCH within its window alone (R122). -/
def stSplit (c k : Nat) (sp : Space) (i : Nat) (v : Word) (s : State) : State :=
  if sp = .scratch ∧ splitWindow k i then stepPc (.split (Fin.ofNat 64 c) (Fin.ofNat 3 k)) (sramSet (scratchAddr c i) v s)
  else raiseSplit c k 0x1201 0 s

/-- ST in a service core. -/
def stService (c : Nat) (sp : Space) (i : Nat) (v : Word) (s : State) : State :=
  let pc := (s.svcCore c).pc
  if sp ≠ .scratch then svcException c 0x8100 0 pc s
  else if Config.svcSramWords ≤ i then svcException c 0x8106 0 pc s
  else
    let m := mpuAllows c (s.svcCore c).priv 1 (4 * i) s
    if !m.1 then svcException c 0x8104 0 pc m.2 else stepPc (.service (Fin.ofNat 4 c)) (svcSet i v m.2)

/-- ST (R157). -/
def execSt (i : Issue) (rt : Reg) (sp : Space) (ra : Reg) (off : BitVec 13) (s : State) : Outcome :=
  .next (issue i 1 [ra, rt] (fun s =>
    let idx := (regOf i.ctx ra s + sext off).toNat
    let v := regOf i.ctx rt s
    match i.ctx with
    | .joined c p => stJoined c p sp idx v (anyPoison i.ctx [ra] s) (anyPoison i.ctx [rt] s) s
    | .split c k => stSplit c k sp idx v s
    | .service c => stService c sp idx v s) s)

/-- TSTART and TSTOP (R165, R117, R118). -/
def timerOp (i : Issue) (ra : Reg) (start : Bool) (s : State) : Outcome :=
  .next (issue i 1 [ra] (fun s =>
    let t := (regOf i.ctx ra s).toNat
    let pois := anyPoison i.ctx [ra] s
    match i.ctx with
    | .joined c p =>
      let A := ((s.core c).pass p).arch
      if 65_535 < t then raiseJoined c p 0x1201 0 pois s
      else if !(A.inObject && holdsClass A 9 s) then raiseJoined c p 0x1202 0 pois s
      else if look 0xFFFF_FFFF t s.img.timerOwner ≠ A.obj.toNat then raiseJoined c p 0x1204 0 pois s
      else emit c p (.timer t start) pois s
    | .split c k => raiseSplit c k 0x1201 0 s
    | .service _ => raiseInvalid i.ctx s) s)

/-- TSTART. -/
def execTstart (i : Issue) (ra : Reg) (s : State) : Outcome := timerOp i ra true s
/-- TSTOP. -/
def execTstop (i : Issue) (ra : Reg) (s : State) : Outcome := timerOp i ra false s

/-- TTEST, latency 2 (R115, R116, R165). -/
def execTtest (i : Issue) (rd ra : Reg) (s : State) : Outcome :=
  .next (issue i 1 [ra] (fun s =>
    let t := (regOf i.ctx ra s).toNat
    let pois := anyPoison i.ctx [ra] s
    match i.ctx with
    | .joined c p =>
      if 65_535 < t then raiseJoined c p 0x1201 0 pois s
      else keepLate i.ctx rd (writeBack i.ctx rd (timerWord (look {} t s.timers).started s.seq.mcc s.seq.period) pois s)
    | .split c k => raiseSplit c k 0x1201 0 s
    | .service _ => raiseInvalid i.ctx s) s)

/-- MCMD and FSET: the four checks of R170 and R171, then the bus output. -/
def postOp (i : Issue) (ra rb rc : Reg) (cls : Nat) (allowed : TypeEntry → Nat → State → Bool) (mk : Word → Word → Word → BusOut)
    (s : State) : Outcome :=
  .next (issue i 1 [ra, rb, rc] (fun s =>
    let a := regOf i.ctx ra s
    match i.ctx with
    | .joined c p =>
      let A := ((s.core c).pass p).arch
      let pois := anyPoison i.ctx [ra, rb, rc] s
      if A.inObject && holdsClass A cls s && allowed (typeEntry A.typ.toNat s) a.toNat s then
        emit c p (mk a (regOf i.ctx rb s) (regOf i.ctx rc s)) pois s
      else raiseJoined c p 0x1202 0 pois s
    | .split c k => raiseSplit c k 0x1202 0 s
    | .service _ => raiseInvalid i.ctx s) s)

/-- MCMD (R170). -/
def execMcmd (i : Issue) (ra rb rc : Reg) (s : State) : Outcome :=
  postOp i ra rb rc 7 (fun e a s => e.axisMask.getLsbD (bits 4 0 a) && decide (bits 4 0 a < s.axesFitted)) BusOut.motion s

/-- FSET (R171). -/
def execFset (i : Issue) (ra rb rc : Reg) (s : State) : Outcome :=
  postOp i ra rb rc 8 (fun e a s => e.fieldMask.getLsbD (bits 17 16 a) && decide (bits 17 16 a < s.blocksFitted)) BusOut.field s

/-! ### Object iteration and segments (R159 to R164) -/

/-- OLOOP (R159), valid once per pass, before the first object. -/
def execOloop (i : Issue) (disp : BitVec 16) (s : State) : Outcome :=
  .next (issue i 1 [] (fun s =>
    match i.ctx with
    | .joined c p =>
      let A := ((s.core c).pass p).arch
      let lend := BitVec.ofNat 20 (branchTarget i.ctx (sext disp) s)
      if A.place ≠ .entry then raiseInvalid i.ctx s
      else match objAt (s.core c).objs 0 with
        | none => setArch c p (fun A => { A with lend := lend, place := .listEnd, pc := lend }) s
        | some o => setArch c p (fun A => { (A.enter 0 o.1 o.2) with lend := lend, pc := BitVec.ofNat 20 (typeEntry o.2 s).entry }) s
    | .split _ _ => raiseInvalid i.ctx s
    | .service _ => raiseInvalid i.ctx s) s)

/-- The carries that ONEXT performs: the owned records that the evaluation has not stored (R102). -/
def carries (A : Arch) (s : State) : List Nat := (ownedRecords A.obj.toNat s).filter (fun n => !A.stored.contains n)

/-- The carry of record `n`: the OLD word as the pass's own copy gives it; an uncorrectable one is a free value and no valid output (R102,
R144, R197). -/
def carryOne (c : Nat) (p : Pass) (x : Nat × Ecc) (s : State) : State :=
  let w := stateHalf x.1 false s
  let ecc := wornEcc (stateAddr p w) x.2 s
  let bad := ecc == .uncorrectable
  let d := if bad then s.draw 32 else (stateRead p w s, s)
  let s1 := noteEcc ecc (putVal c p (.out (.carry x.1 d.1)) bad d.2)
  setPass c p (fun P => { P with
    poisoned := if bad then P.poisoned ++ [(P.seg, .stateOld, w)] else P.poisoned
    arch := { P.arch with stored := P.arch.stored ++ [x.1] } }) s1

/-- The carries that are left, in ascending order, each with what SECDED reports of its word. -/
def carriesWith (A : Arch) (eccs : List Ecc) (s : State) : List (Nat × Ecc) :=
  (carries A s).zipIdx.map (fun x => (x.1, eccs.getD x.2 .good))

/-- ONEXT stops short after `n` carries, its chamber or queue full; it goes on with the carries that are left (R185). -/
def onextPart (c : Nat) (p : Pass) (n : Nat) (eccs : List Ecc) (s : State) : State :=
  let A := ((s.core c).pass p).arch
  settle c (setStall c p (if p = .top then .chamber else .queue) (((carriesWith A eccs s).take n).foldl (fun s x => carryOne c p x s) s))

/-- ONEXT in a pass within an object's evaluation (R160). -/
def onextJoined (c : Nat) (p : Pass) (k : Nat) (eccs : List Ecc) (s : State) : State :=
  let A := ((s.core c).pass p).arch
  let s1 := (carriesWith A eccs s).foldl (fun s x => carryOne c p x s) s
  match objAt (s.core c).objs (k + 1) with
  | some o => closeOpen c p false (BitVec.ofNat 20 (typeEntry o.2 s).entry) (Arch.enter (k + 1) o.1 o.2) s1
  | none => closeOpen c p false A.lend Arch.leave s1

/-- ONEXT (R160): 1 slot and one for each carry, `eccs` in their order. With room for fewer outputs it performs those carries and stalls
(R185). -/
def execOnext (i : Issue) (eccs : List Ecc) (s : State) : Outcome :=
  match i.ctx with
  | .joined c p =>
    let A := ((s.core c).pass p).arch
    match A.place with
    | .object k =>
      let m := (carries A s).length
      let room := passRoom (s.core c) p
      if m < room then .next (issueAs i (1 + m) [] true (onextJoined c p k eccs) s)
      else .next (issueJoined c p (1 + m) room [] true i.fetchBad (onextPart c p room eccs) s)
    | .entry => .next (issue i 1 [] (raiseInvalid i.ctx) s)
    | .listEnd => .next (issue i 1 [] (raiseInvalid i.ctx) s)
  | .split _ _ => .next (issue i 1 [] (raiseInvalid i.ctx) s)
  | .service _ => .next (issue i 1 [] (raiseInvalid i.ctx) s)

/-- ENDC (R161): after OLOOP and outside an object's evaluation; in a SPLIT context it ends the context for the cycle. -/
def execEndc (i : Issue) (s : State) : Outcome :=
  match i.ctx with
  | .joined c p =>
    if ((s.core c).pass p).arch.place = .listEnd then
      .next (issueAs i 1 [] true (fun s => closeOpen c p true (((s.core c).pass p).arch.pc + 1) id s) s)
    else .next (issue i 1 [] (raiseInvalid i.ctx) s)
  | .split c k => .next (issue i 1 [] (setSplit c k (fun X => { X with run := .ended })) s)
  | .service _ => .next (issue i 1 [] (raiseInvalid i.ctx) s)

/-- SEG (R163): it closes the segment; without effect in a SPLIT context. -/
def execSeg (i : Issue) (s : State) : Outcome :=
  match i.ctx with
  | .joined c p => .next (issueAs i 1 [] true (fun s => closeOpen c p false (((s.core c).pass p).arch.pc + 1) id s) s)
  | .split _ _ => .next (issue i 1 [] (stepPc i.ctx) s)
  | .service _ => .next (issue i 1 [] (raiseInvalid i.ctx) s)

/-- ASSERT (R164). -/
def execAssertOp (i : Issue) (imm : BitVec 16) (s : State) : Outcome :=
  .next (issue i 1 [] (raiseIn i.ctx 0x1207 0x8100 imm false) s)

/-- INVALID_ENCODING (R173): a word that the context takes as invalid. User code meets a privileged opcode with the privilege exception,
whatever the rest of the word holds (R479; log entry 90). -/
def execInvalidEncoding (i : Issue) (w : Word) (s : State) : Outcome :=
  let inv := match i.ctx with | .joined _ _ => invalidLogic w | .split _ _ => invalidLogic w | .service _ => invalidService w
  .next (if inv then issue i 1 [] (fun s =>
      match i.ctx with
      | .joined _ _ => raiseInvalid i.ctx s
      | .split _ _ => raiseInvalid i.ctx s
      | .service c =>
        if privilegedOp w && !(s.svcCore c).priv then svcException c 0x8101 0 (s.svcCore c).pc s else raiseInvalid i.ctx s) s else s)

/-! ### SCODE (R166 to R169) -/

/-- The slots of SCODE for the top value of rb. -/
def scodeSlots (b : Word) : Nat :=
  let n := bits 31 16 b.toNat
  if 1 ≤ n ∧ n ≤ 512 ∧ bits 15 13 b.toNat = 0 then 2 + (n + 4 + 3) / 4 else 2

/-- A source word of SCODE: an invalid SCRATCH word enters as 0. -/
def scodeWord (ctx : Ctx) (inbox : Bool) (i : Nat) (s : State) : Nat :=
  if inbox then (inboxRead i s).toNat
  else match ctx with
    | .joined c p => (match loadJoined c p .scratch i s with | .value v => v | .memory v _ => v).toNat
    | .split c _ => (sramWord (scratchAddr c i) s).toNat
    | .service _ => 0

/-- The words that SCODE may read in this context. -/
def scodeRange (ctx : Ctx) (inbox : Bool) (lo n : Nat) : Bool :=
  match ctx with
  | .joined _ _ => decide (lo + n - 1 ≤ (if inbox then 524_287 else 14_335))
  | .split _ k => if inbox then decide (lo + n - 1 ≤ 524_287) else decide (4096 * k.val ≤ lo ∧ lo + n ≤ 4096 * k.val + 4096)
  | .service _ => false

/-- SCODE. -/
def execScode (i : Issue) (rd ra rb : Reg) (fn : ScodeFn) (ecc : Ecc) (s : State) : Outcome :=
  .next (issue i (scodeSlots (regOf i.ctx rb s)) [ra, rb] (fun s =>
    match i.ctx with
    | .service _ => raiseInvalid i.ctx s
    | .joined _ _ | .split _ _ =>
      let lo := (regOf i.ctx ra s).toNat
      let b := (regOf i.ctx rb s).toNat
      let n := bits 31 16 b
      let pois := anyPoison i.ctx [ra, rb] s
      if bits 15 13 b ≠ 0 ∨ n = 0 ∨ 512 < n ∨ scodeRange i.ctx fn.fromInbox lo n = false then raiseIn i.ctx 0x1201 0x8100 0 pois s
      else
        let ws := idBlock (bits 12 0 b) fn.receiving s ++ (List.range n).map (fun j => scodeWord i.ctx fn.fromInbox (lo + j) s)
        let d := if ecc = .uncorrectable then s.draw 32 else (safetyCode fn.kasami ws, s)
        writeBack i.ctx rd d.1 (pois || ecc == .uncorrectable) (noteEcc ecc d.2)) s)

/-! ### The ends of stalls (R185 to R187) -/

/-- LOCK_CHAMBER_STALL_END (R185): an entry of the chamber or of the queue is free again. -/
def execLockChamberStallEnd (core : Fin 64) (pass : Pass) (s : State) : Outcome :=
  let P := (s.core core).pass pass
  .next (if (P.stall == .chamber || P.stall == .queue) && !passFull (s.core core) pass then setStall core pass .none s else s)

/-- RUN_AHEAD_STALL_END (R187): Base has closed a segment. -/
def execRunAheadStallEnd (core : Fin 64) (s : State) : Outcome :=
  .next (if (s.core core).top.stall = .depth ∧ (s.core core).lead < s.seq.depth then setStall core .top .none s else s)

/-- SKEW_STALL_END (R186): 64 CCLK cycles have passed since the preceding pass issued the slot in question. -/
def execSkewStallEnd (core : Fin 64) (pass : Pass) (s : State) : Outcome :=
  let C := s.core core
  if (C.pass pass).stall ≠ .skew then .next s
  else match C.before pass with
    | none => .next (setStall core pass .none s)
    | some Q =>
      match Q.slots[(C.pass pass).slots.length]? with
      | some x => .next (setStall core pass .none { s with time := { s.time with t6 := max s.time.t6 (5 * (x.2 + Config.skewCycles)) } })
      | none => .next (if Q.run == .excepted || Q.run == .ended then setStall core pass .none s else s)

/-- DUAL_RAIL_MISMATCH (R188, R193): watched while the cluster is JOINED in RUN or DEGRADED. -/
def execDualRailMismatch (k lane : Fin 8) (kind : RailFault) (s : State) : Outcome :=
  let comp := match kind with | .compA => 0 | .compB => 1 | .both => 2
  let c := 8 * k.val + lane.val
  .next (if (s.keep.mode == .run || s.keep.mode == .degraded) && clusterMode k s == 0 then
      accordFailure c 0x1313 [c, 3, (s.core c).oldest, s.seq.mcc % 2 ^ 32, lane, comp] s else s)

end Sys2Proof.Machine
end

