-- ==== Sys2Proof/Machine/ServiceIsa.lean ====
section
/-!
DEFINITION. The service-profile opcodes but LDC and STC: return, delivery mask, wait, system registers, MPU, TRAP (R173 to R176, R479
to R487).
-/
namespace Sys2Proof.Machine

/-- A service-profile opcode: invalid in a logic core (R173), and privileged in a service core (R174, R479). -/
def svcOp (i : Issue) (k : Nat → State → State) (s : State) : State :=
  issue i 1 [] (fun s =>
    match i.ctx with
    | .joined _ _ => raiseInvalid i.ctx s
    | .split _ _ => raiseInvalid i.ctx s
    | .service c => if (s.svcCore c).priv then k c s else svcException c 0x8101 0 (s.svcCore c).pc s) s

/-- ERET (R174, R504). -/
def execEret (i : Issue) (s : State) : Outcome := .next (svcOp i svcEret s)

/-- DI (R174): delivery to this core is masked. -/
def execDi (i : Issue) (s : State) : Outcome :=
  .next (svcOp i (fun c s => stepPc i.ctx (setSvc c (fun q => { q with di := true }) s)) s)

/-- EI (R174): delivery to this core is unmasked. -/
def execEi (i : Issue) (s : State) : Outcome :=
  .next (svcOp i (fun c s => stepPc i.ctx (setSvc c (fun q => { q with di := false }) s)) s)

/-- WFE (R174): the core waits until an event is presented; with a request presentable it goes on. -/
def execWfe (i : Issue) (s : State) : Outcome :=
  .next (svcOp i (fun c s =>
    let s1 := stepPc i.ctx s
    if (winner c s1).isSome then s1 else setSvc c (fun q => { q with waiting := true }) s1) s)

/-- CLAIM: the source of the running handler, or bit 8 when none is active; the source bits are then a free value (R480). -/
def claimWord (c : Nat) (s : State) : Word × State :=
  match (s.svcCore c).stack with
  | p :: _ => (w32 p.2, s)
  | [] => let d := s.draw 8; (w32 (0x100 + d.1.toNat), d.2)

/-- What MFSR reads of system register `sr`, and the state after the read (R44, R480). -/
def readSr (c sr : Nat) (s : State) : Word × State :=
  let q := s.svcCore c
  match sr with
  | 0 => (w32 q.status, s)
  | 1 => (q.vbase, s)
  | 2 => (q.sp, s)
  | 3 => (q.splim, s)
  | 4 => (q.causeReg, s)
  | 5 => claimWord c s
  | 7 => (w32 (q.prio + 16 * q.depth), s)
  | 8 => (w32 c, s)
  | 10 => (w32 (s.replica .sclk), setSvc c (fun q => { q with dtLatch := some (w32 (s.replica .sclk / 2 ^ 32)) }) s)
  | 11 => ((q.dtLatch).getD (w32 (s.replica .sclk / 2 ^ 32)), setSvc c (fun q => { q with dtLatch := none }) s)
  | _ => (0, s)

/-- What MTSR writes to system register `sr` (R480): fields marked RO keep their value. -/
def writeSr (c sr : Nat) (v : Word) (s : State) : State :=
  match sr with
  | 0 => setSvc c (fun q => { q with priv := v.getLsbD 0, di := v.getLsbD 1, mpuEn := v.getLsbD 3 }) s
  | 1 => setSvc c (fun q => { q with vbase := v &&& 0x007F_E000 }) s
  | 2 => setSvc c (fun q => { q with sp := v &&& 0x007F_FFE0 }) s
  | 3 => setSvc c (fun q => { q with splim := v &&& 0x007F_FFE0 }) s
  | 6 => svcEoi c s
  | 9 => setSvc c (fun q => { q with wdStart := some s.now }) s
  | _ => s

/-- MFSR rd, sr (R174, R480). -/
def execMfsr (i : Issue) (rd : Reg) (sr : BitVec 10) (s : State) : Outcome :=
  .next (svcOp i (fun c s =>
    if 11 < sr.toNat then raiseInvalid i.ctx s
    else
      let r := readSr c sr.toNat s
      writeBack i.ctx rd r.1 false r.2) s)

/-- MTSR ra, sr for any register. -/
def mtsrOp (i : Issue) (ra sr : Nat) (s : State) : State :=
  svcOp i (fun c s => if 11 < sr then raiseInvalid i.ctx s else stepPc i.ctx (writeSr c sr (regOf i.ctx ra s) s)) s

/-- MTSR ra, sr (R174, R480). -/
def execMtsr (i : Issue) (ra : Reg) (sr : BitVec 10) (s : State) : Outcome := .next (mtsrOp i ra sr.toNat s)

/-- EOI_WRITE (R503): MTSR to EOI. -/
def execEoiWrite (i : Issue) (ra : Reg) (s : State) : Outcome := .next (mtsrOp i ra 6 s)

/-- WDKICK_WRITE (R489): MTSR to WDKICK. -/
def execWdkickWrite (i : Issue) (ra : Reg) (s : State) : Outcome := .next (mtsrOp i ra 9 s)

/-- The bits of descriptor word `k` that exist (R482). -/
def mpuMask (k : Nat) : Word := if k % 2 = 0 then 0x007F_F000 else 0x007F_F07F

/-- MPUW ra, rb (R174, R482, R484): the word as it stood stays possible until the next MPUSYNC. A number beyond 31 names no word. -/
def execMpuw (i : Issue) (ra rb : Reg) (s : State) : Outcome :=
  .next (svcOp i (fun c s =>
    let k := (regOf i.ctx ra s).toNat
    let v := regOf i.ctx rb s &&& mpuMask k
    if 31 < k then stepPc i.ctx s
    else stepPc i.ctx (setSvc c (fun q => { q with
      mpu := put k v q.mpu, mpuOld := if (keysOf q.mpuOld).contains k then q.mpuOld else put k (look 0 k q.mpu) q.mpuOld }) s)) s)

/-- MPUR rd, ra (R174, R482); of a number beyond 31 the value is free. -/
def execMpur (i : Issue) (rd ra : Reg) (s : State) : Outcome :=
  .next (svcOp i (fun c s =>
    let k := (regOf i.ctx ra s).toNat
    let r := if 31 < k then s.draw 32 else (look 0 k (s.svcCore c).mpu, s)
    writeBack i.ctx rd r.1 false r.2) s)

/-- MPUSYNC (R174, R484): every earlier MPUW applies. -/
def execMpusync (i : Issue) (s : State) : Outcome :=
  .next (svcOp i (fun c s => stepPc i.ctx (setSvc c (fun q => { q with mpuOld := [] }) s)) s)

/-- TRAP imm (R174, R486): permitted at both levels; the saved PC is that of the next instruction. -/
def execTrap (i : Issue) (imm : BitVec 16) (s : State) : Outcome :=
  .next (issue i 1 [] (fun s =>
    match i.ctx with
    | .joined _ _ => raiseInvalid i.ctx s
    | .split _ _ => raiseInvalid i.ctx s
    | .service c => svcException c 0x8107 imm.toNat (((s.svcCore c).pc + 1) % Config.svcSramWords) s) s)

end Sys2Proof.Machine
end

