-- ==== Sys2Proof/Machine/Triad.lean ====
section
/-!
DEFINITION. The commands of the towpath engine: frames received, timers, the deadlines of AGREE and RELEASE (R206 to R250).
-/
namespace Sys2Proof.Machine

/-! ### HELLO, link-up and formation (R210, R211, R240, R244, R245) -/

/-- SHA-256 of the body of the active image; zero if none. -/
def ownImageHash (s : State) : List Byte := (s.image.map Image.hash).getD (zeros 32)

/-- Twice the middle of a sorted list: the sum of its two middle values. -/
def middle2 (l : List Int) : Int :=
  let r := sortBy (fun a b => decide (a ≤ b)) l
  r.getD ((r.length - 1) / 2) 0 + r.getD (r.length / 2) 0

/-- A measurement of twice the latency joins the last 16; the latency in whole ns is rounded freely (R211, log entry 3). -/
def measure (p : Nat) (m : Int) (s : State) : State :=
  let l := (m :: (s.tp p).meas).take 16
  let d := divFree (middle2 l) 4 s
  setTp p (fun q => { q with meas := l, latency := d.1.toNat }) d.2

/-- The link comes up after 16 HELLO frames each way, those sent acknowledged, unless its latency exceeds 2,000 ns (R210). -/
def tryLinkUp (p : Nat) (s : State) : State :=
  let q := s.tp p
  if q.state = 2 ∧ 16 ≤ q.hellosIn ∧ 16 + q.buffer.length ≤ q.hellosOut ∧ q.meas ≠ [] then
    if middle2 q.meas ≤ 8_000 then raise 219 (setTp p (fun q => { q with state := 3, lateLat := false }) s)
    else if q.lateLat then s
    else record 0x5818 [p] (setTp p (fun q => { q with lateLat := true }) s)
  else s

/-- P, image hash and hash of policy and configuration of a HELLO are the own (R244); the device identity is not carried in the frame: the
policy table holds it (log entry 24). -/
def helloMatches (period : Word) (image policy : List Byte) (s : State) : Bool :=
  decide (period.toNat = s.seq.period) && image == ownImageHash s && policy == policyHash s

/-- The members of `mask` form a triad or a pair that starts at DTIME `s0` (R242). -/
def formTriad (mask s0 : Nat) (s : State) : State :=
  let st := if mask = 7 then TriState.triad else TriState.pair
  let s1 := s.others.foldl (fun s x => setPeer x (fun _ => { present := bitAt x mask }) s) s
  let s2 := setTriF (fun t => { t with
    members := BitVec.ofNat 3 mask, rate := 0, ePrev := 0, joiner := none, joinAt := none, lastGrant := none }) s1
  let s3 := record 0x5800 [mask, s0 % 2 ^ 32, s0 / 2 ^ 32] (setTri st { s2 with seq := { s2.seq with nextStart := s0 } })
  if st = .pair then enterDegraded 0x5800 s3 else s3

/-- The ports whose peers have matched as FORMING in 100 consecutive HELLO frames. -/
def readyPorts (s : State) : List Nat := (List.range 2).filter (fun p => decide ((s.tp p).state = 3 ∧ 100 ≤ (s.tp p).matching))

/-- The lowest-indexed FORMING member grants the formation to every such peer (R244). -/
def tryForm (s : State) : State :=
  let ps := readyPorts s
  let lowest := (List.range 2).all (fun p => (s.tp p).state != 3 || (s.tp p).matching == 0 || decide (s.member < s.peerOf p))
  if s.tri.state = .forming ∧ ps ≠ [] ∧ lowest = true then
    let s0 := roundUp 10_000 (s.now + 20_000_000)
    let mask := ((s.member :: ps.map (fun p => s.peerOf p)).map (2 ^ ·)).foldl (· + ·) 0
    formTriad mask s0 (ps.foldl (fun s p => tpSend p tGrant (be 4 0 ++ be 4 mask ++ be 8 s0 ++ zeros 8) s) s)
  else s

/-- Both peers are a running pair that lacks this member, and match it (R245). -/
def canJoin (s : State) : Bool :=
  s.tri.state == .forming && decide (s.tri.attempts < 4)
    && (List.range 2).all (fun p => let q := s.tp p; q.state == 3 && q.helloState == 3 && q.helloMatch && !bitAt s.member q.helloView)

/-- JOIN on both links; it is repeated after 1 s. -/
def sendJoin (s : State) : State :=
  tpSendAll tJoin (be 4 (s.tri.attempts + 1) ++ zeros 4) (setTriF (fun t => { t with joinTry := some (s.now + 1_000_000_000) }) s)

/-- A joiner that shows FORMING again after cycle J has failed: the pair discards the attempt (R249). -/
def discardJoin (x st : Nat) (s : State) : State :=
  if s.tri.joiner = some x ∧ s.tri.state = .pair ∧ st = 1 ∧ s.tri.joinAt.getD 0 < s.seq.mcc then
    withoutMember x (setTriF (fun t => { t with joiner := none, joinAt := none, probation := 0 }) s)
  else s

/-- HELLO (R210, R211, R240, R244, R245). One that answers no HELLO yet has t1 = t2 = 0 and gives no measurement (log entry 92). -/
def execHello (p : Fin 2) (w : WireFrame) (s : State) : Outcome :=
  .next (tpReceive p tHello w (fun s =>
    let l := towPayload w
    let x := s.peerOf p
    let state := beAt 0 1 l
    let t1 := beAt 8 8 l
    let t2 := beAt 16 8 l
    let ok := helloMatches (w32 (beAt 4 4 l)) (slice 24 32 l) (slice 56 32 l) s
    let s1 := if (s.tp p).state = 1 then raise 219 (setTp p (fun q => { q with state := 2 }) s) else s
    let s2 := setTp p (fun q => { q with
      hellosIn := q.hellosIn + 1, helloAt := some s.now, helloState := state, helloView := beAt 1 1 l, helloMatch := ok
      t1 := towTsend w, t2 := towArrival w, matching := if ok && state == 1 then q.matching + 1 else 0 }) s1
    let s3 := if t1 = 0 ∧ t2 = 0 then s2
      else measure p (((towArrival w : Int) - t1) - ((towTsend w : Int) - t2)) s2
    let s4 := if ok then s3 else
      let s4 := tpViolation p 0x5814 s3
      if (s4.peer x).present then losePeer x s4 else s4
    let s5 := tryForm (discardJoin x state (tryLinkUp p s4))
    if canJoin s5 && s5.tri.joinTry.isNone then sendJoin s5 else s5) s)

/-- HELLO_TIMER: every 1 ms a HELLO leaves on each link that has block lock (R240, R244). -/
def execHelloTimer (atNs : Nat) (s : State) : Outcome :=
  let s0 := advance atNs s
  if s0.tri.state = .off ∨ s0.tri.state = .out ∨ s0.now < s0.tri.helloAt ∨ netWorks s0 = false then .next s0
  else
    let s1 := setTriF (fun t => { t with helloAt := s0.now + 1_000_000 }) s0
    .next ((List.range 2).foldl (fun s p =>
      let q := s.tp p
      if q.state = 0 then s
      else
        let body := be 1 s.tri.state.code ++ be 1 s.tri.members.toNat ++ zeros 2 ++ be 4 s.seq.period ++ be 8 q.t1 ++ be 8 q.t2
          ++ ownImageHash s ++ policyHash s ++ zeros 8
        tpSend p tHello body (setTp p (fun q => { q with hellosOut := q.hellosOut + 1 }) s)) s1)

/-- BLOCK_LOCK_ACQUIRED. -/
def execBlockLockAcquired (p : Fin 2) (s : State) : Outcome :=
  .next (if (s.tp p).state = 0 ∧ netWorks s = true then raise 219 (setTp p (fun q => { q with state := 1 }) s) else s)

/-- BLOCK_LOCK_LOST: no block lock for more than 10 µs (R210). -/
def execBlockLockLost (p : Fin 2) (atNs : Nat) (s : State) : Outcome := .next (tpOff p (advance atNs s))

/-- TOWPATH_RECEIVE_TIMEOUT: no valid frame for 2 ms (R210). -/
def execTowpathReceiveTimeout (p : Fin 2) (atNs : Nat) (s : State) : Outcome :=
  let s0 := advance atNs s
  .next (if (s0.tp p).state = 3 ∧ (s0.tp p).lastValid + 2_000_000 ≤ s0.now then tpDown p s0 else s0)

/-! ### Frames of a cycle (R219, R222, R226, R231, R236) -/

/-- CYCLE: the deviation of the peer's start in the own DTIME (R219). R219 gives it no deadline: one that arrives after the choice of
contributions is late (log entry 92). -/
def execCycle (p : Fin 2) (w : WireFrame) (s : State) : Outcome :=
  .next (cycleFrame p tCycle w (fun s =>
    if s.tri.decided then tpLate p s
    else
      let sx : Int := (towArrival w : Int) - (s.tp p).latency - ((towTsend w : Int) - beAt 0 8 (towPayload w))
      setPeer (s.peerOf p) (fun q => { q with dev := some (sx - s.seq.start) }) s) s)

/-- Data for the cycle that arrives after the data deadline is not used (R225). -/
def dataLate (s : State) : Bool := s.tri.summarised || s.tri.decided || decide (s.seq.start + 80_000 < s.now)

/-- CONTRIB: a chunk of a peer's contribution (R214, R222, R250). -/
def execContrib (p : Fin 2) (w : WireFrame) (s : State) : Outcome :=
  .next (cycleFrame p tContrib w (fun s =>
    let x := s.peerOf p
    let q := s.peer x
    let offset := beAt 0 4 (towPayload w)
    let total := beAt 4 4 (towPayload w)
    let bytes := (towPayload w).drop 8
    if dataLate s then tpLate p s
    else if total < offset + bytes.length ∨ 25_680 < total ∨ (q.ranges ≠ [] ∧ q.total ≠ total) then
      setPeer x (fun q => { q with badContrib := true }) s
    else
      let rs := (offset, bytes.length) :: q.ranges
      trySummary (setPeer x (fun q => { q with
        total := total, ranges := rs, contribMcc := towMcc w, complete := coversAll rs total })
        (sramPutBytes (contribBase x + offset) bytes s))) s)

/-- The message of a RELAY payload. -/
def relayOf (l : List Byte) : Relay :=
  { conn := beAt 0 2 l, seq := w32 (beAt 4 4 l), words := beWords (beAt 2 2 l / 4) (l.drop 8) }

/-- RELAY: a message of a peer, or of a joiner before its first cycle as a member, joins those since its last CUT (R231, R248). -/
def execRelay (p : Fin 2) (w : WireFrame) (s : State) : Outcome :=
  .next (tpReceive p tRelay w (fun s =>
    let x := s.peerOf p
    if triadActive s && ((s.peer x).present || s.tri.joiner == some x) then
      setPeer x (fun q => { q with relaysNext := q.relaysNext ++ [relayOf (towPayload w)] }) s
    else s) s)

/-- CUT: the peer's set of the cycle is closed; one that is late or of another cycle closes a set that is not used (R231, R232). -/
def execCut (p : Fin 2) (w : WireFrame) (s : State) : Outcome :=
  let unused := fun (s : State) => setPeer (s.peerOf p) (fun q => { q with relaysNext := [] }) s
  .next (cycleFrame p tCut w (fun s =>
    if dataLate s then tpLate p (unused s)
    else trySummary (setPeer (s.peerOf p) (fun q => { q with cut := true, relays := q.relaysNext, relaysNext := [] }) s)) s unused)

/-- The entries of a SUMMARY: flags, contribution hash, relay set hash of each member. -/
def summaryEntries (l : List Byte) : List (Nat × List Byte × List Byte) :=
  (List.range 3).map (fun x => (beAt (68 * x) 4 l, slice (68 * x + 4) 32 l, slice (68 * x + 36) 32 l))

/-- SUMMARY: what a peer holds of each member (R226). -/
def execSummary (p : Fin 2) (w : WireFrame) (s : State) : Outcome :=
  .next (cycleFrame p tSummary w (fun s =>
    if s.tri.decided || decide (s.seq.start + 90_000 < s.now) then tpLate p s
    else setPeer (s.peerOf p) (fun q => { q with summary := some (summaryEntries (towPayload w)) }) s) s)

/-- HASH: the first copy accepted counts (R218, R236). -/
def execHash (p : Fin 2) (w : WireFrame) (s : State) : Outcome :=
  .next (cycleFrame p tHash w (fun s =>
    let l := towPayload w
    if s.tri.hashed || decide (s.deadline + 15_000 < s.now) then tpLate p s
    else setPeer (s.peerOf p) (fun q => { q with hash := some (q.hash.getD (beAt 0 4 l == 1, slice 8 32 l, slice 40 32 l)) }) s) s)

/-! ### Joining (R245 to R249) -/

/-- JOIN: the lower-indexed pair member grants it to a peer that matches, or refuses it with 0x5825 (R245, R250); `peerLink`: the HELLO of its
pair peer reports the link to the joiner up (log entry 92). The joiner is in the view of the pair from the grant on (R240, R248). -/
def execJoin (p : Fin 2) (w : WireFrame) (peerLink : Bool) (s : State) : Outcome :=
  .next (tpReceive p tJoin w (fun s =>
    let x := s.peerOf p
    let lower := (presentPeers s).all (fun y => decide (s.member < y))
    if s.tri.state ≠ .pair ∨ (s.peer x).present = true ∨ lower = false then s
    else
      let recent := match s.tri.lastGrant with | some m => decide (s.seq.mcc < m + 16) | none => false
      if (s.tp 0).state = 3 ∧ (s.tp 1).state = 3 ∧ peerLink = true ∧ recent = false ∧ s.tri.joiner = none
          ∧ (s.tp p).helloMatch = true then
        let J := s.seq.mcc + 8
        let body := be 4 1 ++ be 4 (s.tri.members.toNat ||| 2 ^ x) ++ be 8 J ++ zeros 8
        record 0x5820 [J % 2 ^ 32, J / 2 ^ 32] (setTriF (fun t => { t with
          joiner := some x, joinAt := some J, lastGrant := some s.seq.mcc, probation := 0, members := t.members ||| BitVec.ofNat 3 (2 ^ x) })
          (tpSendAll tGrant body s))
      else recordReason 0x5825 [] s) s)

/-- GRANT: kind form starts the cycles at S(0) in the own DTIME; kind join makes a FORMING member a joiner, and tells the pair peer
(R242, R244, R245). -/
def execGrant (p : Fin 2) (w : WireFrame) (s : State) : Outcome :=
  .next (tpReceive p tGrant w (fun s =>
    let join := beAt 0 4 (towPayload w) == 1
    let mask := beAt 4 4 (towPayload w)
    let value := beAt 8 8 (towPayload w)
    if join then
      if s.tri.state = .forming then
        let s1 := s.others.foldl (fun s x => setPeer x (fun _ => { present := true }) s) s
        setTri .joining (setTriF (fun t => { t with
          members := BitVec.ofNat 3 mask, joinAt := some value, rate := 0, ePrev := 0, probation := 0, xferDone := false
          xferTotal := [], xferRanges := [], xferHash := [], xferBytes := [] }) s1)
      else if s.tri.state = .pair ∧ (s.peer (s.peerOf p)).present = true then
        setTriF (fun t => { t with
          joiner := s.others.find? (fun x => x != s.peerOf p), joinAt := some value, lastGrant := some s.seq.mcc, probation := 0
          members := t.members ||| BitVec.ofNat 3 mask }) s
      else s
    else if s.tri.state = .forming ∧ bitAt s.member mask = true ∧ (mask = 7 ∨ mask = 6 ∨ mask = 5 ∨ mask = 3) then
      formTriad mask (((value : Int) + towArrival w - (s.tp p).latency - towTsend w).toNat) s
    else s) s)

/-- XFER: a chunk of a pair member's half of the state, or the hash of the whole (R246). -/
def execXfer (p : Fin 2) (w : WireFrame) (s : State) : Outcome :=
  .next (tpReceive p tXfer w (fun s =>
    let x := s.peerOf p
    let offset := beAt 0 4 (towPayload w)
    let total := beAt 4 4 (towPayload w)
    let bytes := (towPayload w).drop 8
    if s.tri.state ≠ .joining ∨ s.tri.xferDone = true ∨ s.seq.captured = true then tpViolation p 0x5810 s
    else if total ≤ offset then setTriF (fun t => { t with xferHash := put x bytes t.xferHash, xferAt := s.now }) s
    else setTriF (fun t => { t with
      xferTotal := put x total t.xferTotal, xferRanges := upd [] x (fun r => (offset, bytes.length) :: r) t.xferRanges, xferAt := s.now
      xferBytes := upd [] x (fun b => bytes.zipIdx.foldl (fun b e => put (offset + e.2) e.1 b) b) t.xferBytes }) s) s)

/-- JOIN_RETRY: a joiner that was not granted repeats JOIN after 1 s (R245). -/
def execJoinRetry (atNs : Nat) (s : State) : Outcome :=
  let s0 := advance atNs s
  match s0.tri.joinTry with
  | none => .next s0
  | some t => .next (if t ≤ s0.now ∧ canJoin s0 = true then sendJoin s0 else s0)

/-- The bytes of member `x`'s half as received. -/
def xferHalf (x : Nat) (s : State) : List Byte :=
  let b := look [] x s.tri.xferBytes
  (List.range xferTotalBytes).map (fun i => look 0 i b)

/-- The half of member `x` is held complete, with the hash of the whole. -/
def xferHeld (x : Nat) (s : State) : Bool :=
  look 0 x s.tri.xferTotal == xferTotalBytes && coversAll (look [] x s.tri.xferRanges) xferTotalBytes
    && s.tri.xferHash.any (fun e => e.1 == x)

/-- The attempt has failed with `code` (R249). -/
def failJoin (code : Nat) (s : State) : State :=
  let s1 := s.others.foldl (fun s x => setPeer x (fun _ => {}) s) s
  let s2 := setTriF (fun t => { t with
    members := 0, joinAt := none, attempts := min 4 (t.attempts + 1), xferTotal := [], xferRanges := [], xferHash := [], xferBytes := []
    joinTry := none }) s1
  raise 220 (record code [] (setTri .forming s2))

/-- Every record's value goes to both halves in all three copies, each in its form, and the timers are loaded (R95, R247). -/
def loadState (lo hi : List Byte) (s : State) : State :=
  let n := 4 * 524_288
  let recs := beWords 524_288 lo ++ beWords 524_288 hi
  let s1 := (recs.flatMap (fun w => [w, w])).zipIdx.foldl (fun s e => stateWrite e.2 e.1 s) s
  let timer := fun (l : List Byte) (i : Nat) =>
    let v := beAt (n + 8 * i) 8 l
    if v < 2 ^ 63 then none else some (v % 2 ^ 48)
  let half := fun (l : List Byte) (t : Nat) => (List.range 32_768).filterMap (fun i =>
    (timer l i).map (fun m => (t + i, ({ started := some m } : LTimer))))
  { s1 with timers := half lo 0 ++ half hi 32_768 }

/-- XFER_DEADLINE: 10 µs before `start`, the own S(J + 1), the transfer is accepted or the attempt ends (R247, R249). -/
def execXferDeadline (start : Nat) (s : State) : Outcome :=
  let s0 := advance (start - 10_000) s
  if s0.tri.state ≠ .joining ∨ s0.tri.xferDone = true ∨ s0.seq.captured = true then .next s0
  else if start < s0.tri.xferAt + 10_000 ∨ s0.others.any (fun x => !xferHeld x s0) = true then .next (failJoin 0x5821 s0)
  else
    match s0.others with
    | [x, y] =>
      let lo := xferHalf x s0
      let hi := xferHalf y s0
      let d := stateHash lo hi
      if look [] x s0.tri.xferHash = d ∧ look [] y s0.tri.xferHash = d then
        let s1 := loadState lo hi (setTriF (fun t => { t with xferDone := true, xferBytes := [], xferRanges := [] }) s0)
        .next { s1 with seq := { s1.seq with nextStart := start } }
      else .next (failJoin 0x5822 s0)
    | _ => .next s0

/-! ### Acknowledgement and departure (R216, R217, R239) -/

/-- ACK: an acknowledgement, or a request for retransmission (R217). -/
def execAck (p : Fin 2) (w : WireFrame) (s : State) : Outcome := .next (tpReceive p tAck w id s)

/-- NOTICE: the peer leaves; it is lost at the next cycle boundary (R239). -/
def execNotice (p : Fin 2) (w : WireFrame) (s : State) : Outcome :=
  .next (tpReceive p tNotice w (fun s =>
    let x := s.peerOf p
    if (s.peer x).present || s.tri.joiner == some x then losePeer x s else s) s)

/-- ACK_DUE: 2 µs after an accepted frame an ACK leaves when no other frame has carried the ack (R216). -/
def execAckDue (p : Fin 2) (atNs : Nat) (s : State) : Outcome :=
  let s0 := advance atNs s
  match (s0.tp p).ackDue with
  | none => .next s0
  | some t => .next (if t ≤ s0.now then tpSend p tAck [] s0 else s0)

/-- RETRANSMIT_TIMEOUT: a frame has not been acknowledged 20 µs after it was sent (R217). -/
def execRetransmitTimeout (p : Fin 2) (atNs : Nat) (s : State) : Outcome :=
  let s0 := advance atNs s
  let due := fun (b : TpSent) => decide (b.sentAt + 20_000 ≤ s0.now)
  let l := (s0.tp p).buffer
  .next (if l.any due then tpRetransmit p (l.findIdx due) s0 else s0)

/-! ### The deadlines of AGREE and RELEASE (R224 to R237) -/

/-- DATA_DEADLINE at S(n) + 80 µs: the SUMMARY leaves with what is held (R225). -/
def execDataDeadline (s : State) : Outcome :=
  if s.seq.phase = .agree then .next (sendSummary (advance (s.seq.start + 80_000) s)) else .next s

/-- SUMMARY_DEADLINE at S(n) + 90 µs: the contributions used are chosen (R226). -/
def execSummaryDeadline (s : State) : Outcome :=
  if s.seq.phase = .agree then .next (decideUsed (sendSummary (advance (s.seq.start + 90_000) s))) else .next s

/-- The agreed image, the merged batch and the merged INBOX are placed; the contributions are zeroed (R224, R227 to R233). -/
def agree (s : State) : State :=
  let s1 := mergeBatch (agreeAreas s)
  let fresh := !s1.seq.notFresh.getLsbD 6
  let s2 := resolveBatch (if fresh then updateConns (mergeInbox s1) else s1)
  let s3 := agreeHeader (imageArea 0 (imageHeader s2) s2)
  let s4 := imageArea 0x1000 (statusArea fresh s3) s3
  sramClear (imageInBase + 0x2_0000) (imageInBase + 0x4_0000) (imageArea 0x3000 (batchArea s4) s4)

/-- AGREE_END at `atNs`, S(n) + 96 µs at the latest; EVALUATE begins (R70, R71, R225). -/
def execAgreeEnd (atNs : Nat) (s : State) : Outcome :=
  if s.seq.phase = .agree then
    let s0 := advance (min atNs (s.seq.start + 96_000)) s
    let s1 := agree (decideUsed (sendSummary s0))
    .next (startEvaluate { s1 with seq := { s1.seq with agreeEnd := s1.now } })
  else .next s

/-- IMAGE_DIGEST_COMPLETE, within 90 µs of the end of AGREE (R235). -/
def execImageDigestComplete (atNs : Nat) (s : State) : Outcome :=
  if triadActive s = true ∧ s.tri.decided = true ∧ (s.seq.phase = .evaluate ∨ s.seq.phase = .accordClose ∨ s.seq.phase = .waiting) then
    .next (finishDigest (advance atNs s))
  else .next s

/-- The members whose HASH matched the own. -/
def matchedMask (s : State) : BitVec 3 :=
  BitVec.ofNat 3 (((presentPeers s).filter (fun x => hashOf x s == .match_)).map (2 ^ ·) |>.foldl (· + ·) 0)

/-- A verdict is carried out (R237, R238, R242). -/
def applyVerdict (v : Verdict) (s : State) : State :=
  match v with
  | .release => handOver s
  | .noRelease code => discardCycle (record code [] s)
  | .leave code => departTriad code (discardCycle s)
  | .hold code => if s.tri.state = .triad then departTriad code (discardCycle s) else departSilent code (discardCycle s)
  | .probation => discardCycle (setTriF (fun t => { t with probation := min 16 (t.probation + 1) }) s)

/-- A pair member sees the HASH of a joiner in probation match its own; its own release does not depend on it (R242, R248). -/
def joinerMatches (s : State) : Bool :=
  s.tri.state == .pair && s.seq.phase == .release
    && (match s.tri.joiner with | some x => cycleTo x s && hashOf x s == .match_ | none => false)

/-- HASH_DEADLINE at D(n) + 15 µs (R236 to R239). -/
def execHashDeadline (s : State) : Outcome :=
  if triadActive s = false ∨ s.tri.hashed = true ∨ (s.seq.phase ≠ .release ∧ s.seq.overrun = false) then .next s
  else
    let s0 := countAbsent (advance (s.deadline + 15_000) s)
    let s1 := setTriF (fun t => { t with hashed := true, matched := matchedMask s, probation := if joinerMatches s then min 16 (t.probation + 1) else t.probation }) s0
    if s.seq.phase = .release then
      let v := peerViews s
      .next (applyVerdict (verdict s.tri.state v.1 v.2 (peersMatch s)) s1)
    else .next s1

end Sys2Proof.Machine
end

