-- ==== Sys2Proof/Machine/RegWrite.lean ====
section
/-!
DEFINITION. Accesses to the control space: what a write of each register does, the accesses of berths, service cores and the lock-keeper,
and the commands that are one write or read (R8, R14 to R16, R44, R285, R541 to R546).
-/
namespace Sys2Proof.Machine

/-- The indices below `n` of the bits of `v` that are 1. -/
def onesBelow (n : Nat) (v : Word) : List Nat := (List.range n).filter (fun k => v.getLsbD k)

/-- `f` for every such index. -/
def forOnes (n : Nat) (v : Word) (f : Nat → State → State) (s : State) : State := (onesBelow n v).foldl (fun s k => f k s) s

/-! ### LGC -/

/-- The mode of cluster `k`, or the one it is being handed over to: a request for that one asks for no move of R203's table (log entry
94). -/
def modeToBe (k : Nat) (s : State) : Nat := look (clusterMode k s) k s.seq.clTarget

/-- A hand-over request for cluster `k` to mode `m` (1 SPLIT, 2 unused) is held for the next CAPTURE, or refused (R203, R205). -/
def requestCluster (m k : Nat) (s : State) : State :=
  if (s.keep.mode ≠ .run ∧ s.keep.mode ≠ .degraded) ∨ s.img.modes.getD k 2 ≠ 1 ∨ modeToBe k s = m ∨ s.clustersFitted ≤ k then
    accordRecord 0x1321 (8 * k) 3 s
  else { s with seq := { s.seq with clReq := put k m s.seq.clReq } }

/-- LGC_SEQ_CTRL: clr_ovr and clr_max. -/
def writeSeqCtrl (v : Word) (s : State) : State :=
  { s with seq := { s.seq with ovrtot := if v.getLsbD 1 then 0 else s.seq.ovrtot, tmax := if v.getLsbD 0 then 0 else s.seq.tmax } }

/-- LGC_ACC_CLREQ. -/
def writeClreq (v : Word) (s : State) : State := forOnes 8 v (requestCluster 2) (forOnes 8 (v >>> 8) (requestCluster 1) s)

/-! ### MOT and FBK. `s`: before the write, `t`: with the RW and RWC bits written. -/

/-- MOT_TEST: a test command in COMMISSION; kinds 5 to 7 are refused (R362; log entry 44). -/
def writeMotTest (v : Word) (s t : State) : State :=
  let kind := bits 10 8 v.toNat
  let n := bits 4 0 v.toNat
  if s.keep.mode ≠ .commission then t
  else if 4 < kind then refusePost n 0x2011 s
  else testCommand kind n t

/-- FBK_PC_CLR of channel `n` (R374): a latched invalid channel becomes valid again. -/
def clearChannel (n : Nat) (s : State) : State :=
  if n < s.chansFitted ∧ (s.chan n).bad = true ∧ cbit (pcReg n 0) 5 s = false then chanChanged (chanValidate n 0x3007 s) else s

/-- FBK_WC_CLR of head `k` (R388). -/
def clearHead (k : Nat) (s : State) : State :=
  if k < s.headsFitted then
    record 0x3041 [k] (setHead k (fun h => { h with inCnt := 0, outCnt := 0, satIn := false, satOut := false, lastCode := 0x3041 }) s)
  else s

/-- A configuration write disturbs section `k` with cause 9, and 5 where it is not bounded by enabled heads (R391). -/
def reconfigSection (k : Nat) (s : State) : State := disturbBounds k 9 s

/-- FBK_WC_CFG of head `k`: it starts not ready, and the sections it bounds are disturbed (R387, R391). -/
def reconfigHead (k : Nat) (s : State) : State :=
  let s1 := if (s.head k).state = 0 then s else raise (128 + k) s
  let s2 := setHead k (fun h => { h with state := 0, freeSince := none }) s1
  (List.range 16).foldl (fun s j => if cbit (secReg j 0) k s then reconfigSection j s else s) s2

/-- FBK_SS_CFG of detector `k`: a detector that is enabled with a configuration error is recorded (R384); other channels start the condition
afresh. -/
def reconfigDetector (k : Nat) (s t : State) : State :=
  let moved := ssChA k s != ssChA k t || ssChB k s != ssChB k t
  let t1 := if moved then setStand k (fun d => { d with cond := false }) (ssWithdraw k 1 t) else t
  ssEval k (if ssEnabled k t && ssCfgErr k t then record 0x3012 [k] t1 else t1)

/-- FBK_EO_CFG of output `e`: setting enable starts it from its source's value, with its three lines low (R394). -/
def reconfigEncoder (e : Nat) (s t : State) : State :=
  if cbit (eoReg e 0) 15 t && !cbit (eoReg e 0) 15 s then
    setEnc e (fun o => { o with count := 0, rem := 0, pending := 0, ref := eoValue e t, phase := 0, z := false, lastStep := none }) t
  else t

def writeMotFbk (k : RegName) (i : Nat) (v : Word) (s t : State) : State :=
  match k with
  | .motTest => writeMotTest v s t
  | .fbkPcCfg => chanChanged (chanFirstUse i t)
  | .fbkPcLines => chanChanged (chanFirstUse i t)
  | .fbkPcClr => forOnes 32 v clearChannel t
  | .fbkWcClr => forOnes 16 v clearHead t
  | .fbkWcCfg => reconfigHead i t
  | .fbkSecCfg => reconfigSection i t
  | .fbkSsCfg => reconfigDetector i s t
  | .fbkSsCreep => ssEval i t
  | .fbkEoCfg => reconfigEncoder i s t
  | .fbkEoStatus => if v.getLsbD 1 then setEnc i (fun o => { o with lagging := false }) t else t
  | _ => t

/-! ### FLD and NET -/

/-- A configuration that changes a channel leaves its retention register reading off (R408). -/
def dropRetention (f : Nat) (dio : Bool) (c : Nat) (a : Nat) (s t : State) : State :=
  if ctlGet a s = ctlGet a t then t
  else evalBlock f false (setBlock f (fun b =>
    if dio then { b with fsDio := b.fsDio &&& ~~~(w32 (2 ^ c)) } else { b with fsLs := b.fsLs &&& ~~~(w32 (2 ^ c)) }) t)

/-- FLD_DIO_DIAG: overload and over-temperature latches are cleared; open wire and wire break ignore it (R418). -/
def writeDioDiag (f k : Nat) (v : Word) (s : State) : State :=
  if k = 0 then forOnes 24 v (fun c => dioClear f c true false) s
  else if k = 1 then forOnes 24 v (fun c => dioClear f c false true) s
  else s

/-- FLD_DIO_CFG of channel `c`: a change ends its PWM setting too (R408, R435). -/
def reconfigDio (f c a : Nat) (s t : State) : State :=
  dropRetention f true c a s (if ctlGet a s = ctlGet a t then t else setDio f c (fun d => { d with pwm := none }) t)

/-- A configuration write leaves pair `j` in INTERLOCK (R429); a pair to be enabled whose values break their ranges stays disabled, with 0x4045. -/
def reconfigSo (f j : Nat) (t : State) : State :=
  let t1 := if cbit (fldReg f (0x400 + 0x10 * j)) 31 t && !soRangesOk f j t then
      blkRecord f 0x4045 [j] (setSo f j (fun p => { p with lastCode := 0x4045 }) t)
    else t
  evalBlock f false (soSet f j .interlock t1)

def writeFldNet (k : RegName) (i j a : Nat) (v : Word) (s t : State) : State :=
  match k with
  | .fldDioCfg => reconfigDio i j a s t
  | .fldLsCfg => dropRetention i false j a s t
  | .fldDioDiag => writeDioDiag i j v t
  | .fldPairCfg => setBlock i (fun b => { b with pairs := del j b.pairs }) t
  | .fldSoCfg => reconfigSo i j t
  | .fldSoFb => reconfigSo i j t
  | .fldTest => if s.keep.mode = .commission then fieldTestWrite (ctlGet a t) s else t
  | .netTriCtrl => if v.getLsbD 0 && t.tri.state != .off then departTriad 0x580B t else t
  | _ => t

/-! ### BTH, JNL and EVC -/

/-- BTH_NARROW: roles are removed, never added (R287, R288). -/
def narrowBerth (b : Nat) (v : Word) (s : State) : State :=
  if v.toNat % 64 = 0 then s
  else
    let s1 := setBerth b (fun B => { B with removed := B.removed ||| v.setWidth 6 }) s
    record 0x6033 [b, (s1.berth b).removed.toNat] s1

/-- EVC_PEND: the source's pending and batch state is cleared; it stays enabled (R493). -/
def srcDrop (k : Nat) (s : State) : State := if k < 255 then setSrc k (fun e => { e with pending := false, batch := 0 }) s else s

def writeBthJnlEvc (k : RegName) (i : Nat) (v : Word) (s t : State) : State :=
  match k with
  | .bthNarrow => narrowBerth i v t
  | .bthReset => forOnes 8 v resetBerth t
  | .jnlMetClr => if v.getLsbD 31 then clearMetric (v.toNat % 4096) t else t
  | .evcPend => forOnes 32 v (fun n => srcDrop (32 * i + n)) t
  | .evcRaise => forOnes 32 v (fun n => evEdge (32 * i + n)) t
  | .evcStmrCfg => stmrWrite i (ctlGet (stmrReg i 0) t) s
  | .evcSrcCfg => srcCfgWrite i (ctlGet (srcReg i 0) t) s
  | _ => t

/-! ### LKP and SNP -/

/-- LKP_IDENT: a change of the identity makes the active policy table inactive (R294). -/
def identWritten (s t : State) : State :=
  if ctlGet 0x0800_0028 s ≠ ctlGet 0x0800_0028 t ∧ t.bth.policy.isSome = true then
    record 0x6108 [] (policyChanged { t with bth := { t.bth with policy := none } })
  else t

/-- LKP_WALL_NS: the staged seconds and `v` apply at once and are recorded, old value first; beyond a second the staged value is discarded
(R43). -/
def setWall (v : Word) (s : State) : State :=
  if 999_999_999 < v.toNat then { s with time := { s.time with stageLo := 0, stageHi := 0 } }
  else
    let t := { s with time := { s.time with
      wallBase := (s.time.stageLo.toNat + 2 ^ 32 * s.time.stageHi.toNat) * 1_000_000_000 + v.toNat, wallRef := s.now, wallValid := true } }
    recordB 0x9140 (wallBytes s ++ wallBytes t) t

/-- LKP_UPD_CTRL: activations take place in COMMISSION alone (R531). -/
def writeUpdCtrl (v : Word) (s : State) : State := updateControl (if s.keep.mode = .commission then v else v &&& 8) s

def writeStbl (v : Word) (s : State) : State :=
  let s1 := if v.getLsbD 1 && s.keep.mode == .stabled then wakeEdge 7 s else s
  if v.getLsbD 0 then requestStabled s1 else s1

def writeSnpCtrl (v : Word) (s : State) : State :=
  let s1 := if v.getLsbD 1 then releaseSnapshot s else s
  if v.getLsbD 0 then triggerSnapshot 4 true s1 else s1

def writeLkpSnp (k : RegName) (v : Word) (s t : State) : State :=
  match k with
  | .lkpReset => resetRequest v t
  | .lkpCmsn => if v.getLsbD 1 && t.keep.mode == .commission then commitSettings t else t
  | .lkpIdent => identWritten s t
  | .lkpClkmon => setKeep (fun q => { q with clkSeen := q.clkSeen &&& ~~~((v >>> 8).setWidth 8) }) t
  | .lkpWallSlo => { s with time := { s.time with stageLo := v } }
  | .lkpWallShi => { s with time := { s.time with stageHi := v.setWidth 16 } }
  | .lkpWallNs => setWall v s
  | .lkpSensTseen => setKeep (fun q => { q with tseen := q.tseen &&& ~~~v }) t
  | .lkpSensVseen => setKeep (fun q => { q with vseen := q.vseen &&& ~~~v }) t
  | .lkpUpdCtrl => writeUpdCtrl v t
  | .lkpStbl => writeStbl v t
  | .snpCtrl => writeSnpCtrl v t
  | _ => t

/-! ### A write that has been granted (R8, R14, R15, R542) -/

/-- The RW and RWC bits of row `r` at `a` take `v`; the other bits keep what they hold. -/
def storeBits (r : RegRow) (a : Nat) (v : Word) (s : State) : State :=
  let m := r.mask [.rw, .rwc]
  if m = 0 then s else ctlSet a ((ctlGet a s &&& ~~~m) ||| (v &&& m)) s

/-- Instance (i, j) of row `r` at `a` is written. -/
def writeReg (r : RegRow) (i j a : Nat) (v : Word) (s : State) : State :=
  let t := storeBits r a v s
  match a / 0x0100_0000 with
  | 0 => if r.reg = .lgcSeqCtrl then writeSeqCtrl v t else if r.reg = .lgcAccClreq then writeClreq v t else t
  | 1 => writeMotFbk r.reg i v s t
  | 2 => if r.reg = .stored then chanChanged t else writeMotFbk r.reg i v s t
  | 3 => writeFldNet r.reg i j a v s t
  | 4 => writeFldNet r.reg i j a v s t
  | 5 => writeBthJnlEvc r.reg i v s t
  | 6 => writeBthJnlEvc r.reg i v s t
  | 7 => writeBthJnlEvc r.reg i v s t
  | _ => writeLkpSnp r.reg v s t

/-- A granted write of `v` to address `a`; an unfitted block's register ignores it (R8). -/
def regWrite (a : Nat) (v : Word) (s : State) : State :=
  match findReg a with
  | some (r, i, j) => if r.unit.fitted i s then writeReg r i j a v s else s
  | none => if areaAt a = some .segments ∧ (a - 0x0110_0000) / 0x1000 < s.axesFitted then ctlSet a v s else s

/-! ### Accesses -/

/-- The requester can make an access: its berth is served, its service core runs (R282, R478). -/
def requesterActive (q : Requester) (s : State) : Bool :=
  match q with
  | .berth b => served b s
  | .service c => (s.svcCore c).released && !s.svc.held
  | .keeper => true

/-- A refused access of a berth is counted and recorded; a service core learns of it by its exception. A misaligned one is recorded
with 0x6001 whoever makes it (R13), with the requester in place of the berth (log entry 91). -/
def refusedAccess (q : Requester) (code a : Nat) (s : State) : State :=
  match q with
  | .berth b => refuseAccess b code a s
  | .service _ => if code = 0x6001 then record 0x6001 [Requester.code q, a] s else s
  | .keeper => if code = 0x6001 then record 0x6001 [Requester.code q, a] s else s

/-- A write access. -/
def accessWrite (acc : Access) (a : Nat) (v : Word) (s0 : State) : State :=
  let s := advance acc.at_ s0
  if !requesterActive acc.req s then s
  else if checkWrite acc.req a v s = 0 then regWrite a v s
  else refusedAccess acc.req (checkWrite acc.req a v s) a s

/-- A read access. -/
def accessRead (acc : Access) (a : Nat) (s0 : State) : State :=
  let s := advance acc.at_ s0
  if !requesterActive acc.req s then s
  else if checkRead acc.req a s = 0 then (readWord (Requester.code acc.req) a s).2
  else refusedAccess acc.req (checkRead acc.req a s) a s

/-! ### CREAD and CWRITE (R308, R541, R544) -/

/-- The addresses of `n` words from `a` on. -/
def wordsFrom (a n : Nat) : List Nat := (List.range n).map (fun i => a + 4 * i)

/-- The first word that fails the earliest check of R541 that any word fails: code and address. -/
def earliest (codes : List (Nat × Nat)) : Option (Nat × Nat) :=
  [0x6001, 0x6004, 0x6002].findSome? (fun c => codes.find? (fun p => p.1 == c))

/-- Words are read in ascending address, one at a time (R544). -/
def readWords (q : Nat) : List Nat → State → List Word × State
  | [], s => ([], s)
  | a :: l, s =>
    let r := readWord q a s
    let t := readWords q l r.2
    (r.1 :: t.1, t.2)

/-- CREAD. -/
def execCread (b : Fin 8) (m : MsgHead) (addr : Word) (count zero : BitVec 16) (s : State) : Outcome :=
  .next (gate b 0x10 m (be 4 addr.toNat ++ be 2 count.toNat ++ be 2 zero.toNat) (decide (1 ≤ count.toNat ∧ count.toNat ≤ 256 ∧ zero = 0)) ((s.berth b).state == .open_) s (fun s =>
    let l := wordsFrom addr.toNat count.toNat
    match earliest (l.map (fun a => (checkRead (.berth b) a s, a))) with
    | some p => refuseMsg b 0x10 m.tag p.1 p.2 s
    | none =>
      let r := readWords b l s
      replyOk b 0x10 m.tag (r.1.flatMap (fun w => be 4 w.toNat)) r.2))

/-- CWRITE: the reply says whether the access was granted. -/
def execCwrite (b : Fin 8) (m : MsgHead) (addr value : Word) (s : State) : Outcome :=
  .next (gate b 0x11 m (be 4 addr.toNat ++ be 4 value.toNat) true ((s.berth b).state == .open_) s (fun s =>
    let code := checkWrite (.berth b) addr.toNat value s
    if code = 0 then regWrite addr.toNat value (replyOk b 0x11 m.tag [] s)
    else refuseMsg b 0x11 m.tag code addr.toNat s))

/-! ### LDC and STC (R174, R176) -/

/-- The control address of an LDC or STC. -/
def controlAddr (i : Issue) (ra : Nat) (imm : BitVec 16) (s : State) : Nat := (regOf i.ctx ra s + sext imm).toNat

/-- LDC rd, [ra + imm]. -/
def execLdc (i : Issue) (rd ra : Reg) (imm : BitVec 16) (s : State) : Outcome :=
  .next (svcOp i (fun c s =>
    let a := controlAddr i ra imm s
    let q : Requester := .service (Fin.ofNat 4 c)
    if checkRead q a s = 0 then
      let r := readWord (Requester.code q) a s
      writeBack i.ctx rd r.1 false r.2
    else svcException c 0x8105 0 (s.svcCore c).pc (refusedAccess q (checkRead q a s) a s)) s)

/-- STC rd, [ra + imm]. -/
def execStc (i : Issue) (rd ra : Reg) (imm : BitVec 16) (s : State) : Outcome :=
  .next (svcOp i (fun c s =>
    let a := controlAddr i ra imm s
    let v := regOf i.ctx rd s
    let q : Requester := .service (Fin.ofNat 4 c)
    if checkWrite q a v s = 0 then regWrite a v (stepPc i.ctx s)
    else svcException c 0x8105 0 (s.svcCore c).pc (refusedAccess q (checkWrite q a v s) a s)) s)

/-! ### Commands that are one access -/

/-- CONTROL_REGISTER_WRITE: any requester, any address (R14). -/
def execControlRegisterWrite (acc : Access) (addr v : Word) (s : State) : Outcome := .next (accessWrite acc addr.toNat v s)

/-- CLR_OVR. -/
def execClrOvr (acc : Access) (s : State) : Outcome := .next (accessWrite acc 0x00F0_000C 2 s)

/-- CLR_MAX. -/
def execClrMax (acc : Access) (s : State) : Outcome := .next (accessWrite acc 0x00F0_000C 1 s)

/-- CLUSTER_SPLIT_REQUEST (R203, R205). -/
def execClusterSplitRequest (acc : Access) (clusters : BitVec 8) (s : State) : Outcome :=
  .next (accessWrite acc 0x00F1_000C (clusters.setWidth 32 <<< 8) s)

/-- CLUSTER_PARK_REQUEST (R203, R205). -/
def execClusterParkRequest (acc : Access) (clusters : BitVec 8) (s : State) : Outcome :=
  .next (accessWrite acc 0x00F1_000C (clusters.setWidth 32) s)

/-- A write of MOT_TEST. -/
def motTest (acc : Access) (kind n : Nat) (s : State) : State := accessWrite acc 0x010A_0004 (w32 (2 ^ 8 * kind + n)) s

/-- MOT_TEST_END (R362). -/
def execMotTestEnd (acc : Access) (n : Fin 32) (s : State) : Outcome := .next (motTest acc 0 n s)

/-- MOT_TEST_ENABLE_HOLD (R362). -/
def execMotTestEnableHold (acc : Access) (n : Fin 32) (s : State) : Outcome := .next (motTest acc 1 n s)

/-- MOT_TEST_JOG_POSITIVE (R362). -/
def execMotTestJogPositive (acc : Access) (n : Fin 32) (s : State) : Outcome := .next (motTest acc 2 n s)

/-- MOT_TEST_JOG_NEGATIVE (R362). -/
def execMotTestJogNegative (acc : Access) (n : Fin 32) (s : State) : Outcome := .next (motTest acc 3 n s)

/-- MOT_TEST_HOME (R362). -/
def execMotTestHome (acc : Access) (n : Fin 32) (s : State) : Outcome := .next (motTest acc 4 n s)

/-- PC_CLEAR (R374). -/
def execPcClear (acc : Access) (mask : Word) (s : State) : Outcome := .next (accessWrite acc 0x0200_5000 mask s)

/-- PC_CONFIG_WRITE: FBK_PC_CFG or FBK_PC_LINES of PCn (R375). -/
def execPcConfigWrite (acc : Access) (n : Fin 32) (lines : Bool) (v : Word) (s : State) : Outcome :=
  .next (accessWrite acc (pcReg n (if lines then 4 else 0)) v s)

/-- WC_CLEAR (R388). -/
def execWcClear (acc : Access) (mask : Word) (s : State) : Outcome := .next (accessWrite acc 0x0200_5004 mask s)

/-- WC_CONFIG_WRITE (R387, R391). -/
def execWcConfigWrite (acc : Access) (k : Fin 16) (v : Word) (s : State) : Outcome := .next (accessWrite acc (wcReg k 0) v s)

/-- SEC_CONFIG_WRITE (R391). -/
def execSecConfigWrite (acc : Access) (k : Fin 16) (v : Word) (s : State) : Outcome := .next (accessWrite acc (secReg k 0) v s)

/-- EO_ENABLE: a write of FBK_EO_CFG (R394). -/
def execEoEnable (acc : Access) (e : Fin 8) (v : Word) (s : State) : Outcome := .next (accessWrite acc (eoReg e 0) v s)

/-- DIO_DIAG_CLEAR_WRITE (R418). -/
def execDioDiagClearWrite (acc : Access) (f k : Fin 4) (v : Word) (s : State) : Outcome :=
  .next (accessWrite acc (fldReg f (0x180 + 4 * k.val)) v s)

/-- PAIR_CONFIG_WRITE (R419). -/
def execPairConfigWrite (acc : Access) (f : Fin 4) (j : Fin 12) (v : Word) (s : State) : Outcome := .next (accessWrite acc (pairReg f j) v s)

/-- SO_CONFIG_WRITE: FLD_SO_CFG or FLD_SO_FB (R429). -/
def execSoConfigWrite (acc : Access) (f j : Fin 4) (fb : Bool) (v : Word) (s : State) : Outcome :=
  .next (accessWrite acc (fldReg f (0x400 + 0x10 * j.val + (if fb then 4 else 0))) v s)

/-- FLD_TEST_WRITE (R438). -/
def execFldTestWrite (acc : Access) (v : Word) (s : State) : Outcome := .next (accessWrite acc 0x0310_0100 v s)

/-- METRIC_CLEAR: a write of JNL_MET_CLR (R473). -/
def execMetricClear (acc : Access) (v : Word) (s : State) : Outcome := .next (accessWrite acc 0x0600_0024 v s)

/-- METRIC_LATCH_READ: a read of word 32 of metric `m` latches the metric for its requester (R475). -/
def execMetricLatchRead (acc : Access) (m : Fin 4096) (s : State) : Outcome := .next (accessRead acc (0x0610_0080 + 0xA0 * m.val) s)

/-- LATCHING_LOW_WORD_READ (R44). -/
def execLatchingLowWordRead (acc : Access) (addr : Word) (s : State) : Outcome := .next (accessRead acc addr.toNat s)

/-- RC_FIELD_READ (R16). -/
def execRcFieldRead (acc : Access) (addr : Word) (s : State) : Outcome := .next (accessRead acc addr.toNat s)

/-- TRIAD_LEAVE: a write of NET_TRI_CTRL (R242). -/
def execTriadLeave (acc : Access) (v : Word) (s : State) : Outcome := .next (accessWrite acc 0x0480_0014 v s)

/-- BTH_NARROW_WRITE (R287, R288). -/
def execBthNarrowWrite (acc : Access) (b : Fin 8) (v : Word) (s : State) : Outcome := .next (accessWrite acc (0x0500_0004 + 0x20 * b.val) v s)

/-- BTH_RESET_WRITE (R320). -/
def execBthResetWrite (acc : Access) (v : Word) (s : State) : Outcome := .next (accessWrite acc 0x0500_0100 v s)

/-- STMR_ENABLE_WRITE: a write of EVC_STMR_CFG (R507). -/
def execStmrEnableWrite (acc : Access) (t : Fin 7) (v : Word) (s : State) : Outcome := .next (accessWrite acc (stmrReg t 0) v s)

/-- EVC_PEND_WRITE (R493). -/
def execEvcPendWrite (acc : Access) (k : Fin 8) (v : Word) (s : State) : Outcome := .next (accessWrite acc (0x0700_0010 + 4 * k.val) v s)

/-- EVC_RAISE_WRITE (R493). -/
def execEvcRaiseWrite (acc : Access) (k : Fin 8) (v : Word) (s : State) : Outcome := .next (accessWrite acc (0x0700_0030 + 4 * k.val) v s)

/-- SOURCE_ENABLE_WRITE: a write of EVC_SRC_CFG (R493, R509). -/
def execSourceEnableWrite (acc : Access) (src : Fin 255) (v : Word) (s : State) : Outcome := .next (accessWrite acc (srcReg src 0) v s)

/-- GDIS_WRITE: a write of EVC_CTRL (R494). -/
def execGdisWrite (acc : Access) (v : Word) (s : State) : Outcome := .next (accessWrite acc 0x0700_0000 v s)

/-- EVC_TEST_WRITE: a write of EVC_CTRL; its test bit is the lock-keeper's (R496). -/
def execEvcTestWrite (acc : Access) (v : Word) (s : State) : Outcome := .next (accessWrite acc 0x0700_0000 v s)

/-- LKP_IDENT_WRITE (R294). -/
def execLkpIdentWrite (acc : Access) (v : Word) (s : State) : Outcome := .next (accessWrite acc 0x0800_0028 v s)

/-- LOCK_KEEPER_COMMAND_RESET: a write of LKP_RESET.whole (R525). -/
def execLockKeeperCommandReset (acc : Access) (s : State) : Outcome := .next (accessWrite acc 0x0800_000C 1 s)

/-- LOGIC_REGION_RESET: a write of LKP_RESET.logic (R525). -/
def execLogicRegionReset (acc : Access) (s : State) : Outcome := .next (accessWrite acc 0x0800_000C 2 s)

/-- FIELD_BLOCK_RESET_REQUEST: a write of LKP_RESET.field (R525). -/
def execFieldBlockResetRequest (acc : Access) (blocks : BitVec 4) (s : State) : Outcome :=
  .next (accessWrite acc 0x0800_000C (blocks.setWidth 32 <<< 4) s)

/-- SETTINGS_COMMIT: a write of LKP_CMSN.commit (R528). -/
def execSettingsCommit (acc : Access) (s : State) : Outcome := .next (accessWrite acc 0x0800_0018 2 s)

/-- ACT_PROG: a write of LKP_UPD_CTRL.act_prog (R531). -/
def execActProg (acc : Access) (s : State) : Outcome := .next (accessWrite acc 0x0800_0220 1 s)

/-- ACT_LKFW (R531). -/
def execActLkfw (acc : Access) (s : State) : Outcome := .next (accessWrite acc 0x0800_0220 2 s)

/-- ACT_SVFW (R531). -/
def execActSvfw (acc : Access) (s : State) : Outcome := .next (accessWrite acc 0x0800_0220 4 s)

/-- UPDATE_DISCARD: a write of LKP_UPD_CTRL.discard. -/
def execUpdateDiscard (acc : Access) (s : State) : Outcome := .next (accessWrite acc 0x0800_0220 8 s)

/-- WALL_TIME_STAGE_LO: a write of LKP_WALL_SLO (R43). -/
def execWallTimeStageLo (acc : Access) (v : Word) (s : State) : Outcome := .next (accessWrite acc 0x0800_0050 v s)

/-- WALL_TIME_STAGE_HI: a write of LKP_WALL_SHI (R43). -/
def execWallTimeStageHi (acc : Access) (v : Word) (s : State) : Outcome := .next (accessWrite acc 0x0800_0054 v s)

/-- WALL_TIME_SET: a write of LKP_WALL_NS (R43). -/
def execWallTimeSet (acc : Access) (v : Word) (s : State) : Outcome := .next (accessWrite acc 0x0800_0058 v s)

/-- STABLED_REQUEST: a write of LKP_STBL.request (R535). -/
def execStabledRequest (acc : Access) (s : State) : Outcome := .next (accessWrite acc 0x0800_0300 1 s)

/-- STABLED_WAKE: a write of LKP_STBL.wake (R537). -/
def execStabledWake (acc : Access) (s : State) : Outcome := .next (accessWrite acc 0x0800_0300 2 s)

/-- SNAPSHOT_TRIGGER_COMMAND: the lock-keeper writes SNP_CTRL.trig; the enables stay as they stand (R45). -/
def execSnapshotTriggerCommand (acc : Access) (s : State) : Outcome :=
  .next (accessWrite acc 0x0900_0000 ((ctlGet 0x0900_0000 s &&& 0xC) ||| 1) s)

/-- SNAPSHOT_RELEASE: a write of SNP_CTRL.release; the enables stay as they stand (R49, R542). -/
def execSnapshotRelease (acc : Access) (s : State) : Outcome :=
  .next (accessWrite acc 0x0900_0000 ((ctlGet 0x0900_0000 s &&& 0xC) ||| 2) s)

end Sys2Proof.Machine
end

