-- ==== Sys2Proof/Machine/Dispatch.lean ====
section
/-!
DEFINITION. The meaning of each command: one arm per constructor, one direct call of its meaning.
-/
namespace Sys2Proof.Machine

/-- The effect of a command on everything but the queue. -/
def exec (i : Instr) (s : State) : Host.Outcome State Fault Refusal :=
  match i with
  | .add iss rd ra rb => Sys2Proof.Machine.execAdd iss rd ra rb s
  | .sub iss rd ra rb => Sys2Proof.Machine.execSub iss rd ra rb s
  | .andOp iss rd ra rb => Sys2Proof.Machine.execAndOp iss rd ra rb s
  | .orOp iss rd ra rb => Sys2Proof.Machine.execOrOp iss rd ra rb s
  | .xorOp iss rd ra rb => Sys2Proof.Machine.execXorOp iss rd ra rb s
  | .andn iss rd ra rb => Sys2Proof.Machine.execAndn iss rd ra rb s
  | .orn iss rd ra rb => Sys2Proof.Machine.execOrn iss rd ra rb s
  | .sll iss rd ra rb => Sys2Proof.Machine.execSll iss rd ra rb s
  | .srl iss rd ra rb => Sys2Proof.Machine.execSrl iss rd ra rb s
  | .sra iss rd ra rb => Sys2Proof.Machine.execSra iss rd ra rb s
  | .mul iss rd ra rb => Sys2Proof.Machine.execMul iss rd ra rb s
  | .divu iss rd ra rb => Sys2Proof.Machine.execDivu iss rd ra rb s
  | .remu iss rd ra rb => Sys2Proof.Machine.execRemu iss rd ra rb s
  | .minu iss rd ra rb => Sys2Proof.Machine.execMinu iss rd ra rb s
  | .maxu iss rd ra rb => Sys2Proof.Machine.execMaxu iss rd ra rb s
  | .minOp iss rd ra rb => Sys2Proof.Machine.execMinOp iss rd ra rb s
  | .maxOp iss rd ra rb => Sys2Proof.Machine.execMaxOp iss rd ra rb s
  | .sltu iss rd ra rb => Sys2Proof.Machine.execSltu iss rd ra rb s
  | .slt iss rd ra rb => Sys2Proof.Machine.execSlt iss rd ra rb s
  | .tall iss rd ra rb => Sys2Proof.Machine.execTall iss rd ra rb s
  | .tany iss rd ra rb => Sys2Proof.Machine.execTany iss rd ra rb s
  | .tnone iss rd ra rb => Sys2Proof.Machine.execTnone iss rd ra rb s
  | .msel iss rd ra rb => Sys2Proof.Machine.execMsel iss rd ra rb s
  | .popc iss rd ra => Sys2Proof.Machine.execPopc iss rd ra s
  | .ffs iss rd ra => Sys2Proof.Machine.execFfs iss rd ra s
  | .clrls iss rd ra => Sys2Proof.Machine.execClrls iss rd ra s
  | .bmaj iss rd ra rb => Sys2Proof.Machine.execBmaj iss rd ra rb s
  | .ext iss rd ra pos wm1 => Sys2Proof.Machine.execExt iss rd ra pos wm1 s
  | .exts iss rd ra pos wm1 => Sys2Proof.Machine.execExts iss rd ra pos wm1 s
  | .ins iss rd ra pos wm1 => Sys2Proof.Machine.execIns iss rd ra pos wm1 s
  | .addi iss rd ra imm => Sys2Proof.Machine.execAddi iss rd ra imm s
  | .andi iss rd ra imm => Sys2Proof.Machine.execAndi iss rd ra imm s
  | .ori iss rd ra imm => Sys2Proof.Machine.execOri iss rd ra imm s
  | .xori iss rd ra imm => Sys2Proof.Machine.execXori iss rd ra imm s
  | .lui iss rd imm => Sys2Proof.Machine.execLui iss rd imm s
  | .slli iss rd ra sh => Sys2Proof.Machine.execSlli iss rd ra sh s
  | .srli iss rd ra sh => Sys2Proof.Machine.execSrli iss rd ra sh s
  | .srai iss rd ra sh => Sys2Proof.Machine.execSrai iss rd ra sh s
  | .movs iss rd sel => Sys2Proof.Machine.execMovs iss rd sel s
  | .ld iss rt sp ra off ecc => Sys2Proof.Machine.execLd iss rt sp ra off ecc s
  | .st iss rt sp ra off => Sys2Proof.Machine.execSt iss rt sp ra off s
  | .beq iss ra rb disp => Sys2Proof.Machine.execBeq iss ra rb disp s
  | .bne iss ra rb disp => Sys2Proof.Machine.execBne iss ra rb disp s
  | .blt iss ra rb disp => Sys2Proof.Machine.execBlt iss ra rb disp s
  | .bge iss ra rb disp => Sys2Proof.Machine.execBge iss ra rb disp s
  | .bltu iss ra rb disp => Sys2Proof.Machine.execBltu iss ra rb disp s
  | .bgeu iss ra rb disp => Sys2Proof.Machine.execBgeu iss ra rb disp s
  | .bbs iss ra k disp => Sys2Proof.Machine.execBbs iss ra k disp s
  | .bbc iss ra k disp => Sys2Proof.Machine.execBbc iss ra k disp s
  | .jump iss disp => Sys2Proof.Machine.execJump iss disp s
  | .oloop iss disp => Sys2Proof.Machine.execOloop iss disp s
  | .onext iss eccs => Sys2Proof.Machine.execOnext iss eccs s
  | .endc iss => Sys2Proof.Machine.execEndc iss s
  | .seg iss => Sys2Proof.Machine.execSeg iss s
  | .assertOp iss imm => Sys2Proof.Machine.execAssertOp iss imm s
  | .tstart iss ra => Sys2Proof.Machine.execTstart iss ra s
  | .tstop iss ra => Sys2Proof.Machine.execTstop iss ra s
  | .ttest iss rd ra => Sys2Proof.Machine.execTtest iss rd ra s
  | .scode iss rd ra rb fn ecc => Sys2Proof.Machine.execScode iss rd ra rb fn ecc s
  | .mcmd iss ra rb rc => Sys2Proof.Machine.execMcmd iss ra rb rc s
  | .fset iss ra rb rc => Sys2Proof.Machine.execFset iss ra rb rc s
  | .invalidEncoding iss w => Sys2Proof.Machine.execInvalidEncoding iss w s
  | .eret iss => Sys2Proof.Machine.execEret iss s
  | .di iss => Sys2Proof.Machine.execDi iss s
  | .ei iss => Sys2Proof.Machine.execEi iss s
  | .wfe iss => Sys2Proof.Machine.execWfe iss s
  | .mfsr iss rd sr => Sys2Proof.Machine.execMfsr iss rd sr s
  | .mtsr iss ra sr => Sys2Proof.Machine.execMtsr iss ra sr s
  | .eoiWrite iss ra => Sys2Proof.Machine.execEoiWrite iss ra s
  | .wdkickWrite iss ra => Sys2Proof.Machine.execWdkickWrite iss ra s
  | .ldc iss rd ra imm => Sys2Proof.Machine.execLdc iss rd ra imm s
  | .stc iss rd ra imm => Sys2Proof.Machine.execStc iss rd ra imm s
  | .mpuw iss ra rb => Sys2Proof.Machine.execMpuw iss ra rb s
  | .mpur iss rd ra => Sys2Proof.Machine.execMpur iss rd ra s
  | .mpusync iss => Sys2Proof.Machine.execMpusync iss s
  | .trap iss imm => Sys2Proof.Machine.execTrap iss imm s
  | .lockChamberStallEnd core pass => Sys2Proof.Machine.execLockChamberStallEnd core pass s
  | .runAheadStallEnd core => Sys2Proof.Machine.execRunAheadStallEnd core s
  | .capture feedbackOnTime motionOnTime => Sys2Proof.Machine.execCapture feedbackOnTime motionOnTime s
  | .inboxSwap ackNs => Sys2Proof.Machine.execInboxSwap ackNs s
  | .freezeMark arriveNs => Sys2Proof.Machine.execFreezeMark arriveNs s
  | .captureEnd endNs notWritten => Sys2Proof.Machine.execCaptureEnd endNs notWritten s
  | .evaluateEnd atNs => Sys2Proof.Machine.execEvaluateEnd atNs s
  | .accordCloseEnd atNs => Sys2Proof.Machine.execAccordCloseEnd atNs s
  | .release => Sys2Proof.Machine.execRelease s
  | .releaseEnd endNs proof scrubbed found => Sys2Proof.Machine.execReleaseEnd endNs proof scrubbed found s
  | .overrunCycleComplete atNs => Sys2Proof.Machine.execOverrunCycleComplete atNs s
  | .clrOvr acc => Sys2Proof.Machine.execClrOvr acc s
  | .clrMax acc => Sys2Proof.Machine.execClrMax acc s
  | .clusterSplitRequest acc clusters => Sys2Proof.Machine.execClusterSplitRequest acc clusters s
  | .clusterParkRequest acc clusters => Sys2Proof.Machine.execClusterParkRequest acc clusters s
  | .clusterHandoverComplete k proof => Sys2Proof.Machine.execClusterHandoverComplete k proof s
  | .hello p w => Sys2Proof.Machine.execHello p w s
  | .helloTimer atNs => Sys2Proof.Machine.execHelloTimer atNs s
  | .cycle p w => Sys2Proof.Machine.execCycle p w s
  | .contrib p w => Sys2Proof.Machine.execContrib p w s
  | .relay p w => Sys2Proof.Machine.execRelay p w s
  | .cut p w => Sys2Proof.Machine.execCut p w s
  | .summary p w => Sys2Proof.Machine.execSummary p w s
  | .hash p w => Sys2Proof.Machine.execHash p w s
  | .join p w peerLink => Sys2Proof.Machine.execJoin p w peerLink s
  | .grant p w => Sys2Proof.Machine.execGrant p w s
  | .xfer p w => Sys2Proof.Machine.execXfer p w s
  | .ack p w => Sys2Proof.Machine.execAck p w s
  | .notice p w => Sys2Proof.Machine.execNotice p w s
  | .ackDue p atNs => Sys2Proof.Machine.execAckDue p atNs s
  | .retransmitTimeout p atNs => Sys2Proof.Machine.execRetransmitTimeout p atNs s
  | .blockLockLost p atNs => Sys2Proof.Machine.execBlockLockLost p atNs s
  | .towpathReceiveTimeout p atNs => Sys2Proof.Machine.execTowpathReceiveTimeout p atNs s
  | .dataDeadline => Sys2Proof.Machine.execDataDeadline s
  | .summaryDeadline => Sys2Proof.Machine.execSummaryDeadline s
  | .agreeEnd atNs => Sys2Proof.Machine.execAgreeEnd atNs s
  | .imageDigestComplete atNs => Sys2Proof.Machine.execImageDigestComplete atNs s
  | .hashDeadline => Sys2Proof.Machine.execHashDeadline s
  | .joinRetry atNs => Sys2Proof.Machine.execJoinRetry atNs s
  | .xferDeadline start => Sys2Proof.Machine.execXferDeadline start s
  | .triadLeave acc v => Sys2Proof.Machine.execTriadLeave acc v s
  | .yalaUnitReceived p f => Sys2Proof.Machine.execYalaUnitReceived p f s
  | .arpRequest p mac ip target => Sys2Proof.Machine.execArpRequest p mac ip target s
  | .nonYalaFrame p fcsOk length tcp => Sys2Proof.Machine.execNonYalaFrame p fcsOk length tcp s
  | .portLinkUp p fec gigabit => Sys2Proof.Machine.execPortLinkUp p fec gigabit s
  | .portLinkDown p => Sys2Proof.Machine.execPortLinkDown p s
  | .openBerth b m => Sys2Proof.Machine.execOpenBerth b m s
  | .proof b m sig chain => Sys2Proof.Machine.execProof b m sig chain s
  | .close b m => Sys2Proof.Machine.execClose b m s
  | .cread b m addr count zero => Sys2Proof.Machine.execCread b m addr count zero s
  | .cwrite b m addr value => Sys2Proof.Machine.execCwrite b m addr value s
  | .command b m atNs entries => Sys2Proof.Machine.execCommand b m atNs entries s
  | .commandReply b => Sys2Proof.Machine.execCommandReply b s
  | .hashread b m => Sys2Proof.Machine.execHashread b m s
  | .sread b m first count => Sys2Proof.Machine.execSread b m first count s
  | .echunk b m offset total data => Sys2Proof.Machine.execEchunk b m offset total data s
  | .ecommit b m total kind zero atNs => Sys2Proof.Machine.execEcommit b m total kind zero atNs s
  | .envelopeCheckComplete b => Sys2Proof.Machine.execEnvelopeCheckComplete b s
  | .jstat b m => Sys2Proof.Machine.execJstat b m s
  | .jread b m unit offset length => Sys2Proof.Machine.execJread b m unit offset length s
  | .jseal b m => Sys2Proof.Machine.execJseal b m s
  | .jack b m k c => Sys2Proof.Machine.execJack b m k c s
  | .jrearm b m => Sys2Proof.Machine.execJrearm b m s
  | .kread b m unit offset length => Sys2Proof.Machine.execKread b m unit offset length s
  | .shread b m frame offset length => Sys2Proof.Machine.execShread b m frame offset length s
  | .berthReset b => Sys2Proof.Machine.execBerthReset b s
  | .berthIdleTimeout b atNs => Sys2Proof.Machine.execBerthIdleTimeout b atNs s
  | .uartBreak => Sys2Proof.Machine.execUartBreak s
  | .uartFrameGap line => Sys2Proof.Machine.execUartFrameGap line s
  | .bqDoorbell h tail => Sys2Proof.Machine.execBqDoorbell h tail s
  | .bqRplHeadWrite h head => Sys2Proof.Machine.execBqRplHeadWrite h head s
  | .bqReset h v => Sys2Proof.Machine.execBqReset h v s
  | .bqRingWrite h reg v => Sys2Proof.Machine.execBqRingWrite h reg v s
  | .bqRequestFetch h => Sys2Proof.Machine.execBqRequestFetch h s
  | .pcieCompletionError h => Sys2Proof.Machine.execPcieCompletionError h s
  | .replySlotWaitTimeout h atNs => Sys2Proof.Machine.execReplySlotWaitTimeout h atNs s
  | .tcpConnectionRequest p port atNs => Sys2Proof.Machine.execTcpConnectionRequest p port atNs s
  | .tlsHandshakeComplete b hello certs transcript verify alert atNs => Sys2Proof.Machine.execTlsHandshakeComplete b hello certs transcript verify alert atNs s
  | .tlsHandshakeTimeout b atNs => Sys2Proof.Machine.execTlsHandshakeTimeout b atNs s
  | .keyupdate b => Sys2Proof.Machine.execKeyupdate b s
  | .tcpConnectionClosed b => Sys2Proof.Machine.execTcpConnectionClosed b s
  | .lockoutEnd b atNs => Sys2Proof.Machine.execLockoutEnd b atNs s
  | .bthNarrowWrite acc b v => Sys2Proof.Machine.execBthNarrowWrite acc b v s
  | .bthResetWrite acc v => Sys2Proof.Machine.execBthResetWrite acc v s
  | .lkpIdentWrite acc v => Sys2Proof.Machine.execLkpIdentWrite acc v s
  | .servoPeriod upTo uncorrectable => Sys2Proof.Machine.execServoPeriod upTo uncorrectable s
  | .releaseMarker atNs => Sys2Proof.Machine.execReleaseMarker atNs s
  | .enable a b c => Sys2Proof.Machine.execEnable a b c s
  | .disable a b c => Sys2Proof.Machine.execDisable a b c s
  | .stop a b c => Sys2Proof.Machine.execStop a b c s
  | .home a b c => Sys2Proof.Machine.execHome a b c s
  | .clear a b c => Sys2Proof.Machine.execClear a b c s
  | .setpos a b c => Sys2Proof.Machine.execSetpos a b c s
  | .run a b c => Sys2Proof.Machine.execRun a b c s
  | .grun posts => Sys2Proof.Machine.execGrun posts s
  | .enablingComplete n => Sys2Proof.Machine.execEnablingComplete n s
  | .segmentEnd n => Sys2Proof.Machine.execSegmentEnd n s
  | .runComplete n => Sys2Proof.Machine.execRunComplete n s
  | .stopComplete n => Sys2Proof.Machine.execStopComplete n s
  | .obstacle n => Sys2Proof.Machine.execObstacle n s
  | .reversalComplete n => Sys2Proof.Machine.execReversalComplete n s
  | .homingReference n => Sys2Proof.Machine.execHomingReference n s
  | .homingChatterAbort n => Sys2Proof.Machine.execHomingChatterAbort n s
  | .sdStreamStuck n phaseB => Sys2Proof.Machine.execSdStreamStuck n phaseB s
  | .sdclkFault g => Sys2Proof.Machine.execSdclkFault g s
  | .mailboxSilent atNs => Sys2Proof.Machine.execMailboxSilent atNs s
  | .motTestEnd acc n => Sys2Proof.Machine.execMotTestEnd acc n s
  | .motTestEnableHold acc n => Sys2Proof.Machine.execMotTestEnableHold acc n s
  | .motTestJogPositive acc n => Sys2Proof.Machine.execMotTestJogPositive acc n s
  | .motTestJogNegative acc n => Sys2Proof.Machine.execMotTestJogNegative acc n s
  | .motTestHome acc n => Sys2Proof.Machine.execMotTestHome acc n s
  | .motTestNotRenewed n atNs => Sys2Proof.Machine.execMotTestNotRenewed n atNs s
  | .quadratureStep n a b atNs => Sys2Proof.Machine.execQuadratureStep n a b atNs s
  | .hallCodeChange n code atNs => Sys2Proof.Machine.execHallCodeChange n code atNs s
  | .indexLatch n level atNs => Sys2Proof.Machine.execIndexLatch n level atNs s
  | .errorLevelDecay => Sys2Proof.Machine.execErrorLevelDecay s
  | .pcClear acc mask => Sys2Proof.Machine.execPcClear acc mask s
  | .pcConfigWrite acc n lines v => Sys2Proof.Machine.execPcConfigWrite acc n lines v s
  | .frequencyGateEnd n => Sys2Proof.Machine.execFrequencyGateEnd n s
  | .zeroSpeedTimeout n atNs => Sys2Proof.Machine.execZeroSpeedTimeout n atNs s
  | .standstillAssert k atNs => Sys2Proof.Machine.execStandstillAssert k atNs s
  | .headSampleTimeout k atNs => Sys2Proof.Machine.execHeadSampleTimeout k atNs s
  | .headReady k atNs => Sys2Proof.Machine.execHeadReady k atNs s
  | .wcClear acc mask => Sys2Proof.Machine.execWcClear acc mask s
  | .wcConfigWrite acc k v => Sys2Proof.Machine.execWcConfigWrite acc k v s
  | .secConfigWrite acc k v => Sys2Proof.Machine.execSecConfigWrite acc k v s
  | .sectionReset a b c excess => Sys2Proof.Machine.execSectionReset a b c excess s
  | .restore a b c excess => Sys2Proof.Machine.execRestore a b c excess s
  | .disturb a b c => Sys2Proof.Machine.execDisturb a b c s
  | .eoEnable acc e v => Sys2Proof.Machine.execEoEnable acc e v s
  | .eoOutputStep e atNs => Sys2Proof.Machine.execEoOutputStep e atNs s
  | .fieldLinkOutboundFrame f atNs bad => Sys2Proof.Machine.execFieldLinkOutboundFrame f atNs bad s
  | .fieldLinkInboundFrame f atNs bad vfield temp ls loops hot => Sys2Proof.Machine.execFieldLinkInboundFrame f atNs bad vfield temp ls loops hot s
  | .fieldBlockSilent f atNs => Sys2Proof.Machine.execFieldBlockSilent f atNs s
  | .fclkDeviation f => Sys2Proof.Machine.execFclkDeviation f s
  | .serialWatchdogExpiry f atNs => Sys2Proof.Machine.execSerialWatchdogExpiry f atNs s
  | .tripLineLow f => Sys2Proof.Machine.execTripLineLow f s
  | .fieldBlockReset f => Sys2Proof.Machine.execFieldBlockReset f s
  | .linkCheckPassed f atNs => Sys2Proof.Machine.execLinkCheckPassed f atNs s
  | .linkCheckTimeout f atNs => Sys2Proof.Machine.execLinkCheckTimeout f atNs s
  | .vfieldUndervoltage f => Sys2Proof.Machine.execVfieldUndervoltage f s
  | .vfieldRestored f => Sys2Proof.Machine.execVfieldRestored f s
  | .dioInputLevelChange f c level atNs => Sys2Proof.Machine.execDioInputLevelChange f c level atNs s
  | .wireBreakSet f c => Sys2Proof.Machine.execWireBreakSet f c s
  | .wireBreakClear f c => Sys2Proof.Machine.execWireBreakClear f c s
  | .dioOverload f c => Sys2Proof.Machine.execDioOverload f c s
  | .dioOverTemperature f c => Sys2Proof.Machine.execDioOverTemperature f c s
  | .openWireSet f c => Sys2Proof.Machine.execOpenWireSet f c s
  | .openWireClear f c => Sys2Proof.Machine.execOpenWireClear f c s
  | .dioDiagClearWrite acc f k v => Sys2Proof.Machine.execDioDiagClearWrite acc f k v s
  | .twoChannelCheckSample f atNs => Sys2Proof.Machine.execTwoChannelCheckSample f atNs s
  | .pairConfigWrite acc f j v => Sys2Proof.Machine.execPairConfigWrite acc f j v s
  | .loadSwitchInrushEnd f iss atNs => Sys2Proof.Machine.execLoadSwitchInrushEnd f iss atNs s
  | .loadSwitchCurrentLimit f iss => Sys2Proof.Machine.execLoadSwitchCurrentLimit f iss s
  | .limitRecovery f iss => Sys2Proof.Machine.execLimitRecovery f iss s
  | .thermalShutdown f iss => Sys2Proof.Machine.execThermalShutdown f iss s
  | .coolingRestart f iss => Sys2Proof.Machine.execCoolingRestart f iss s
  | .openLoadSet f iss atNs => Sys2Proof.Machine.execOpenLoadSet f iss atNs s
  | .openLoadClear f iss => Sys2Proof.Machine.execOpenLoadClear f iss s
  | .retryCountReset f iss atNs => Sys2Proof.Machine.execRetryCountReset f iss atNs s
  | .soCheckSample f atNs => Sys2Proof.Machine.execSoCheckSample f atNs s
  | .soFeedbackTimeout f j => Sys2Proof.Machine.execSoFeedbackTimeout f j s
  | .soConfigWrite acc f j fb v => Sys2Proof.Machine.execSoConfigWrite acc f j fb v s
  | .testPulseDue f j second atNs => Sys2Proof.Machine.execTestPulseDue f j second atNs s
  | .testPulseReadback f j pulsed other vfield atNs => Sys2Proof.Machine.execTestPulseReadback f j pulsed other vfield atNs s
  | .testPulseEnd f j atNs => Sys2Proof.Machine.execTestPulseEnd f j atNs s
  | .wheelSystemCurrentLimit f j sysB atNs => Sys2Proof.Machine.execWheelSystemCurrentLimit f j sysB atNs s
  | .wheelSystemRetry f j sysB atNs => Sys2Proof.Machine.execWheelSystemRetry f j sysB atNs s
  | .pwm f a b c => Sys2Proof.Machine.execPwm f a b c s
  | .clearDioOutput f a b c => Sys2Proof.Machine.execClearDioOutput f a b c s
  | .clearLoadSwitch f a b c => Sys2Proof.Machine.execClearLoadSwitch f a b c s
  | .clearPair f a b c dem => Sys2Proof.Machine.execClearPair f a b c dem s
  | .fldTestWrite acc v => Sys2Proof.Machine.execFldTestWrite acc v s
  | .fldTestNotRenewed atNs => Sys2Proof.Machine.execFldTestNotRenewed atNs s
  | .recordWritten unitFails => Sys2Proof.Machine.execRecordWritten unitFails s
  | .checkpoint => Sys2Proof.Machine.execCheckpoint s
  | .checkpointSigned => Sys2Proof.Machine.execCheckpointSigned s
  | .lostRecord => Sys2Proof.Machine.execLostRecord s
  | .journalStoreFault => Sys2Proof.Machine.execJournalStoreFault s
  | .flaconScanComplete atNs => Sys2Proof.Machine.execFlaconScanComplete atNs s
  | .unitErased fails => Sys2Proof.Machine.execUnitErased fails s
  | .programRecordSlot slot w0 w1 w2 w3 late => Sys2Proof.Machine.execProgramRecordSlot slot w0 w1 w2 w3 late s
  | .doorCycleSlot slot w0 w1 w2 w3 late => Sys2Proof.Machine.execDoorCycleSlot slot w0 w1 w2 w3 late s
  | .metricSampleSlot slot w0 w1 w2 w3 late => Sys2Proof.Machine.execMetricSampleSlot slot w0 w1 w2 w3 late s
  | .statisticsPersist atNs => Sys2Proof.Machine.execStatisticsPersist atNs s
  | .metricClear acc v => Sys2Proof.Machine.execMetricClear acc v s
  | .metricLatchRead acc m => Sys2Proof.Machine.execMetricLatchRead acc m s
  | .latchingLowWordRead acc addr => Sys2Proof.Machine.execLatchingLowWordRead acc addr s
  | .rcFieldRead acc addr => Sys2Proof.Machine.execRcFieldRead acc addr s
  | .eventEdge src merge atNs => Sys2Proof.Machine.execEventEdge src merge atNs s
  | .gatherTimeLimit src atNs => Sys2Proof.Machine.execGatherTimeLimit src atNs s
  | .eventPresentation c toClaim tail => Sys2Proof.Machine.execEventPresentation c toClaim tail s
  | .serviceWatchdogExpiry c atNs => Sys2Proof.Machine.execServiceWatchdogExpiry c atNs s
  | .serviceTimerExpiry t atNs => Sys2Proof.Machine.execServiceTimerExpiry t atNs s
  | .stmrEnableWrite acc t v => Sys2Proof.Machine.execStmrEnableWrite acc t v s
  | .evcPendWrite acc k v => Sys2Proof.Machine.execEvcPendWrite acc k v s
  | .evcRaiseWrite acc k v => Sys2Proof.Machine.execEvcRaiseWrite acc k v s
  | .sourceEnableWrite acc src v => Sys2Proof.Machine.execSourceEnableWrite acc src v s
  | .gdisWrite acc v => Sys2Proof.Machine.execGdisWrite acc v s
  | .evcTestWrite acc v => Sys2Proof.Machine.execEvcTestWrite acc v s
  | .wakeEdge k => Sys2Proof.Machine.execWakeEdge k s
  | .wakenFalling => Sys2Proof.Machine.execWakenFalling s
  | .stabledTimerExpiry => Sys2Proof.Machine.execStabledTimerExpiry s
  | .uartKStartBit => Sys2Proof.Machine.execUartKStartBit s
  | .fb0WakeInput w => Sys2Proof.Machine.execFb0WakeInput w s
  | .stabledWake acc => Sys2Proof.Machine.execStabledWake acc s
  | .wake aclk => Sys2Proof.Machine.execWake aclk s
  | .stabledRequest acc => Sys2Proof.Machine.execStabledRequest acc s
  | .stabledEntry => Sys2Proof.Machine.execStabledEntry s
  | .temperatureSample atNs readings => Sys2Proof.Machine.execTemperatureSample atNs readings s
  | .voltageExcursion v mv => Sys2Proof.Machine.execVoltageExcursion v mv s
  | .sensorSummary atNs => Sys2Proof.Machine.execSensorSummary atNs s
  | .keeperWatchdogExpiry => Sys2Proof.Machine.execKeeperWatchdogExpiry s
  | .clockMonitorOutOfRange n => Sys2Proof.Machine.execClockMonitorOutOfRange n s
  | .clockBackInRange n => Sys2Proof.Machine.execClockBackInRange n s
  | .regionReinitComplete region atNs => Sys2Proof.Machine.execRegionReinitComplete region atNs s
  | .regionReinitTimeout region atNs => Sys2Proof.Machine.execRegionReinitTimeout region atNs s
  | .holdEntry cause => Sys2Proof.Machine.execHoldEntry cause s
  | .boot r => Sys2Proof.Machine.execBoot r s
  | .bootStageTimeout n atNs => Sys2Proof.Machine.execBootStageTimeout n atNs s
  | .cmsnLevelChange level => Sys2Proof.Machine.execCmsnLevelChange level s
  | .powerOnReset loss => Sys2Proof.Machine.execPowerOnReset loss s
  | .pornLow loss => Sys2Proof.Machine.execPornLow loss s
  | .railNotGood v loss => Sys2Proof.Machine.execRailNotGood v loss s
  | .lockKeeperCommandReset acc => Sys2Proof.Machine.execLockKeeperCommandReset acc s
  | .logicRegionReset acc => Sys2Proof.Machine.execLogicRegionReset acc s
  | .fieldBlockResetRequest acc blocks => Sys2Proof.Machine.execFieldBlockResetRequest acc blocks s
  | .settingsCommit acc => Sys2Proof.Machine.execSettingsCommit acc s
  | .actProg acc => Sys2Proof.Machine.execActProg acc s
  | .actLkfw acc => Sys2Proof.Machine.execActLkfw acc s
  | .actSvfw acc => Sys2Proof.Machine.execActSvfw acc s
  | .updateDiscard acc => Sys2Proof.Machine.execUpdateDiscard acc s
  | .wallTimeStageLo acc v => Sys2Proof.Machine.execWallTimeStageLo acc v s
  | .wallTimeStageHi acc v => Sys2Proof.Machine.execWallTimeStageHi acc v s
  | .wallTimeSet acc v => Sys2Proof.Machine.execWallTimeSet acc v s
  | .snapBallEdge atNs => Sys2Proof.Machine.execSnapBallEdge atNs s
  | .snapshotTriggerCommand acc => Sys2Proof.Machine.execSnapshotTriggerCommand acc s
  | .snapshotRelease acc => Sys2Proof.Machine.execSnapshotRelease acc s
  | .snapshotCopied => Sys2Proof.Machine.execSnapshotCopied s
  | .snapshotFbTimeout atNs => Sys2Proof.Machine.execSnapshotFbTimeout atNs s
  | .controlRegisterWrite acc addr v => Sys2Proof.Machine.execControlRegisterWrite acc addr v s
  | .blockLockAcquired p => Sys2Proof.Machine.execBlockLockAcquired p s
  | .railBackInWindow v mv => Sys2Proof.Machine.execRailBackInWindow v mv s
  | .carrierPeriod n bitsA bitsB atNs => Sys2Proof.Machine.execCarrierPeriod n bitsA bitsB atNs s
  | .chopperCrossing n ph bitsA bitsB atNs => Sys2Proof.Machine.execChopperCrossing n ph bitsA bitsB atNs s
  | .skewStallEnd core pass => Sys2Proof.Machine.execSkewStallEnd core pass s
  | .dualRailMismatch k lane kind => Sys2Proof.Machine.execDualRailMismatch k lane kind s
  | .sealerEngineFault => Sys2Proof.Machine.execSealerEngineFault s
  | .feedbackUncorrectableError => Sys2Proof.Machine.execFeedbackUncorrectableError s
  | .trainingOrNegotiationFailed p => Sys2Proof.Machine.execTrainingOrNegotiationFailed p s

end Sys2Proof.Machine
end

