-- ==== Sys2Proof/Laws/Tables.lean ====
section
/-!
SUPPORT. Laws of keyed tables: an entry read after a write.
-/
namespace Sys2Proof.Machine

@[simp] theorem look_nil {α : Type} (d : α) (k : Nat) : look d k [] = d := rfl

theorem look_cons {α : Type} (d : α) (k j : Nat) (v : α) (t : Tab α) :
    look d k ((j, v) :: t) = if j = k then v else look d k t := rfl

/-- An entry read after a write, in a table in any order. -/
theorem look_put {α : Type} (d : α) (k j : Nat) (v : α) (t : Tab α) :
    look d j (put k v t) = if j = k then v else look d j t := by
  induction t with
  | nil => simp [put, look_cons, eq_comm]
  | cons e t ih =>
    obtain ⟨a, w⟩ := e
    simp only [put]
    split
    · simp [look_cons, eq_comm]
    · split
      · next h =>
        subst h
        by_cases ha : a = j
        · simp [look_cons, ha]
        · simp [look_cons, ha, Ne.symm ha]
      · next h1 h2 =>
        simp only [look_cons, ih]
        by_cases hj : j = k
        · subst hj; simp [h2]
        · simp [hj]

@[simp] theorem look_put_same {α : Type} (d : α) (k : Nat) (v : α) (t : Tab α) : look d k (put k v t) = v := by
  simp [look_put]

theorem look_put_other {α : Type} (d : α) {k j : Nat} (h : j ≠ k) (v : α) (t : Tab α) : look d j (put k v t) = look d j t := by
  simp [look_put, h]

theorem look_upd {α : Type} (d e : α) (k j : Nat) (f : α → α) (t : Tab α) :
    look d j (upd e k f t) = if j = k then f (look e k t) else look d j t := by
  simp [upd, look_put]

@[simp] theorem look_upd_same {α : Type} (d : α) (k : Nat) (f : α → α) (t : Tab α) : look d k (upd d k f t) = f (look d k t) := by
  simp [look_upd]

theorem look_upd_other {α : Type} (d : α) {k j : Nat} (h : j ≠ k) (f : α → α) (t : Tab α) : look d j (upd d k f t) = look d j t := by
  simp [look_upd, h]

end Sys2Proof.Machine
end

