-- ==== Sys2Proof/Safety.lean ====
section
/-!
DEFINITION. What a safe run is, and the vocabulary of the statements: a command that completes, when a context can issue an instruction,
and what an instruction leaves unchanged.
-/
namespace Sys2Proof.Machine

/-! ### Completion and safe runs -/

/-- Command `i` completes at `s`: it answers a next state, and `P` holds of it. -/
def Completes (i : Instr) (s : State) (P : State → Prop) : Prop := ∃ t, exec i s = .next t ∧ P t

/-- The memories of a state are in canonical form. -/
def State.wf (s : State) : Prop := Memory.wf sramDefault s.sram = true ∧ Memory.wf (fun _ => 0) s.svc.sram = true

/-- A run of `n` steps that neither faults nor is refused, and keeps the memories in canonical form. -/
def SafeRun (n : Nat) (s : State) : Prop := ∃ t, Sys2Proof.core.run n s = .next t ∧ (s.wf → t.wf)

/-! ### What a command leaves unchanged -/

/-- `s` with the journal, the event toggles, the time and the draw of free values of `t`: what recording a code and raising an event change.
A statement that says `t = { s.noted t with mot := t.mot }` says that nothing outside the motion subsystem and these has changed. -/
def State.noted (s t : State) : State :=
  { s with jnl := t.jnl, svc := { s.svc with toggles := t.svc.toggles }, time := t.time, free := t.free }

/-- A frame of type `typ` that the towpath engine accepts on TPp (R213, R216, R250): the link has block lock, the checks of R250 pass and the
sequence number is the next one. -/
def TowAccepts (p typ : Nat) (w : WireFrame) (s : State) : Prop :=
  (s.tp p).state ≠ 0 ∧ s.tri.state ≠ .off ∧ netWorks s = true ∧ towIntact w = true ∧ towType w = typ ∧ towFormOk w = true ∧ towTriad w = s.triadId
    ∧ towSender w = s.peerOf p ∧ towReceiver w = s.member ∧ ackUnsent (s.tp p) (towAck w) = false
    ∧ (typ ≠ tAck → towSeq w = ((s.tp p).rxSeq.map (· + 1)).getD 0)

/-- What accepting a frame on TPp that requests no snapshot leaves: its number is the last accepted; nothing outside the towpath engine but
what `State.noted` names has changed. -/
def TowTakes (p : Nat) (w : WireFrame) (s t : State) : Prop :=
  (t.tp p).rxSeq = some (towSeq w) ∧ s.now ≤ t.now ∧ (towSnap w = false → t = { s.noted t with tri := t.tri })

/-- A cycle frame that counts (R240, R250): accepted, of a present peer, in a cycle of the triad, with the MCC of the own cycle. -/
def CycleFrameCounts (p typ : Nat) (w : WireFrame) (s : State) : Prop :=
  TowAccepts p typ w s ∧ triadActive s = true ∧ (s.peer (s.peerOf p)).present = true ∧ towMcc w = s.seq.mcc ∧ s.seq.captured = true

/-- A message of type `typ` with the given body on BTHb passes the checks that do not depend on its type's roles (R282, R307, R533, R537). -/
def Admits (b typ : Nat) (m : MsgHead) (body : List Byte) (s : State) : Prop :=
  served b s = true ∧ headOk m body = true ∧ m.typ.toNat = typ ∧ (s.keep.mode = .stabled → typ ≤ 0x11) ∧ recoveryServes typ s = true

/-- The reply `r` leaves on BTHb, or waits for a reply slot on PCI Express (R307, R311, R312). -/
def Sends (b : Nat) (r : Reply) (s t : State) : Prop :=
  let B := s.berth b
  if b = 1 ∨ b = 2 then
    if B.slotWait ≠ [] ∨ B.freeReplies = 0 then ∃ since, (t.berth b).slotWait = B.slotWait ++ [(r, since)]
    else (t.berth b).out = B.out ++ [{ bytes := r.bytes, slot := some (ringSlot B.rplBase B.rplTail B.replySlots) }]
  else (t.berth b).out = B.out ++ [r.sent b]

/-- The write access `acc` of `v` to address `a` is granted (R541, R542). -/
def WriteGranted (acc : Access) (a : Nat) (v : Word) (s : State) : Prop :=
  requesterActive acc.req (advance acc.at_ s) = true ∧ checkWrite acc.req a v (advance acc.at_ s) = 0

/-- The read access `acc` to address `a` is granted (R541). -/
def ReadGranted (acc : Access) (a : Nat) (s : State) : Prop :=
  requesterActive acc.req (advance acc.at_ s) = true ∧ checkRead acc.req a (advance acc.at_ s) = 0

/-! ### Issue of KIS instructions -/

/-- The context of `i` can issue an instruction of `slots` slots that reads `reads` (R27, R122, R141, R143, R185 to R187, R477, R483): a pass
of a JOINED core that runs, is not stalled, has room and its skew, is within PROG and within its weight; a SPLIT context that runs
within PROG; a service core that runs with no request presented, whose fetch the MPU permits and SECDED does not refuse. -/
def CanIssue (i : Issue) (slots : Nat) (reads : List Nat) (closes : Bool) (s : State) : Prop :=
  match i.ctx with
  | .joined c p =>
    passRuns c p s = true ∧ ((s.core c).pass p).stall = .none ∧ passFull (s.core c) p = false
      ∧ skewMet p (slotOf p reads ((s.core c).pass p) s) (s.core c) = true
      ∧ (closes = true → p = .top → (s.core c).lead < s.seq.depth)
      ∧ ((s.core c).pass p).arch.pc.toNat < s.img.progLen
      ∧ (((s.core c).pass p).arch.inObject = true →
          ((s.core c).pass p).arch.weight + slots ≤ (typeEntry ((s.core c).pass p).arch.typ.toNat s).weight)
  | .split c k => splitRuns c k s = true ∧ (s.split c k).pc.toNat < s.img.progLen
  | .service c =>
    svcRuns c s = true ∧ (s.svcCore c).presented = none ∧ i.fetchBad = false
      ∧ (mpuAllows c (s.svcCore c).priv 2 (4 * (s.svcCore c).pc) s).1 = true

/-- The number of words a PC addresses: PROG, or the service SRAM. -/
def pcWords : Ctx → Nat
  | .joined _ _ => 2 ^ 20
  | .split _ _ => 2 ^ 20
  | .service _ => 2 ^ 21

/-- Nothing but the passes of the logic cores, the SPLIT contexts, the service cores, the time and the draw of free values has changed: not
the memories, the queues, the registers of the register map, any other region, the journal. -/
def OnlyContexts (s t : State) : Prop :=
  t = { s with cores := t.cores, splits := t.splits, svc := { s.svc with cores := t.svc.cores }, time := t.time, free := t.free }

/-- The registers, poison marks and PCs of every context but `ctx` are as before. -/
def OthersKept (ctx : Ctx) (s t : State) : Prop :=
  ∀ o, o ≠ ctx → pcOf o t = pcOf o s ∧ ∀ g, regOf o g t = regOf o g s ∧ poisonOf o g t = poisonOf o g s

/-- The registers of `ctx` after a write of `v` to `rd`, marked as poisoned or not (R89, R144): g0 discards the write. -/
def Writes (ctx : Ctx) (rd : Nat) (v : Word) (pois : Bool) (s t : State) : Prop :=
  ∀ g, regOf ctx g t = (if g = rd ∧ rd ≠ 0 then v else regOf ctx g s)
    ∧ ((∀ c, ctx ≠ .service c) → poisonOf ctx g t = (if g = rd ∧ rd ≠ 0 then pois else poisonOf ctx g s))

/-- The registers of `ctx` are as before. -/
def RegsKept (ctx : Ctx) (s t : State) : Prop := ∀ g, regOf ctx g t = regOf ctx g s ∧ poisonOf ctx g t = poisonOf ctx g s

/-- An instruction of `ctx` that writes `v` to `rd`, goes on with the next word, and changes nothing else. -/
def Computes (ctx : Ctx) (rd : Nat) (v : Word) (pois : Bool) (s t : State) : Prop :=
  Writes ctx rd v pois s t ∧ pcOf ctx t = (pcOf ctx s + 1) % pcWords ctx ∧ OthersKept ctx s t ∧ OnlyContexts s t

/-- An instruction of `ctx` that goes on at `pc` and changes no register. -/
def JumpsTo (ctx : Ctx) (pc : Nat) (s t : State) : Prop := RegsKept ctx s t ∧ pcOf ctx t = pc ∧ OthersKept ctx s t ∧ OnlyContexts s t

/-- Pass `p` of core `c` adds `o` to the outputs of its open segment, spoilt with `bad` or when the segment already is, and the accord then goes
on (R177, R178, R144): no register changes. -/
def Emits (c : Fin 64) (p : Pass) (o : BusOut) (bad : Bool) (pc : Nat) (s t : State) : Prop :=
  ∃ u, t = settle c u ∧ JumpsTo (.joined c p) pc s u ∧ ((u.core c).pass p).seg = ((s.core c).pass p).seg
    ∧ ((u.core c).pass p).find ((s.core c).pass p).seg = (((s.core c).pass p).find ((s.core c).pass p).seg).map (fun g =>
        { g with outs := g.outs ++ [(((s.core c).pass p).arch.ordinal, if g.bad || bad then Val.spoilt o else Val.out o)], bad := g.bad || bad })

/-- Pass `p` of core `c` closes its open segment at next PC `pc` with the close record of its registers (none when one is poisoned), keeps a
checkpoint of `A`, opens the next segment, and the accord then goes on (R163, R179, R180, R195). -/
def Closes (c : Fin 64) (p : Pass) (endc : Bool) (pc : BitVec 20) (A : Arch) (s t : State) : Prop :=
  ∃ u, t = settle c u ∧ ((u.core c).pass p).seg = ((s.core c).pass p).seg + 1
    ∧ ((u.core c).pass p).arch = { A with pc := pc, weight := ((u.core c).pass p).arch.weight }
    ∧ ((u.core c).pass p).run = (if endc then .ended else .running)
    ∧ (∀ x ∈ ((u.core c).pass p).segs, x.seg = ((s.core c).pass p).seg → x.closed = true ∧ x.endc = endc
        ∧ x.record.map CloseRec.nextPc = if ((s.core c).pass p).arch.poison = [] then some pc else none)
    ∧ OthersKept (.joined c p) s u ∧ OnlyContexts s u

/-- Service core `c` runs a privileged instruction (R174): its register file, SP and PC are as given by `f` of its state before. -/
def SvcDoes (c : Fin 4) (f : SvcCore → SvcCore) (s t : State) : Prop :=
  ∃ w, (t.svcCore c) = { f (s.svcCore c) with pc := ((s.svcCore c).pc + 1) % 2 ^ 21, eoiJust := (t.svcCore c).eoiJust, eretJust := 0, wdStart := w }
    ∧ w.isSome = true ∧ OthersKept (.service c) s t

end Sys2Proof.Machine
end

