-- ==== Sys2Proof/Laws/Kis.lean ====
section
/-!
SUPPORT. Laws of the KIS contexts: their registers, poison marks and PCs after the operations that change them, and what an instruction does
once it can issue.
-/
namespace Sys2Proof.Machine

/-! ### Contexts -/

@[simp] theorem core_setCore (c d : Nat) (f : Core → Core) (s : State) :
    (setCore c f s).core d = if d = c then f (s.core c) else s.core d := by simp [setCore, State.core, look_upd]

@[simp] theorem split_setCore (c d k : Nat) (f : Core → Core) (s : State) : (setCore c f s).split d k = s.split d k := rfl
@[simp] theorem svcCore_setCore (c d : Nat) (f : Core → Core) (s : State) : (setCore c f s).svcCore d = s.svcCore d := rfl

@[simp] theorem core_setSplit (c k d : Nat) (f : SplitCtx → SplitCtx) (s : State) : (setSplit c k f s).core d = s.core d := rfl
@[simp] theorem split_setSplit (c k d l : Nat) (f : SplitCtx → SplitCtx) (s : State) :
    (setSplit c k f s).split d l = if 3 * d + l = 3 * c + k then f (s.split c k) else s.split d l := by
  simp [setSplit, State.split, look_upd]
@[simp] theorem svcCore_setSplit (c k d : Nat) (f : SplitCtx → SplitCtx) (s : State) : (setSplit c k f s).svcCore d = s.svcCore d := rfl

@[simp] theorem core_setSvc (c d : Nat) (f : SvcCore → SvcCore) (s : State) : (setSvc c f s).core d = s.core d := rfl
@[simp] theorem split_setSvc (c d k : Nat) (f : SvcCore → SvcCore) (s : State) : (setSvc c f s).split d k = s.split d k := rfl
@[simp] theorem svcCore_setSvc (c d : Nat) (f : SvcCore → SvcCore) (s : State) :
    (setSvc c f s).svcCore d = if d = c then f (s.svcCore c) else s.svcCore d := by simp [setSvc, State.svcCore, look_upd]

@[simp] theorem pass_setPass (p q : Pass) (f : PassCtx → PassCtx) (C : Core) :
    (C.setPass p f).pass q = if q = p then f (C.pass p) else C.pass q := by cases p <;> cases q <;> rfl

@[simp] theorem passForm_passForm (p : Pass) (v : Word) : passForm p (passForm p v) = v := by cases p <;> simp [passForm]

/-! ### Registers -/

/-- What a register write does: the register, its poison mark, and nothing else. -/
theorem regOf_setReg (ctx : Ctx) (g rd : Nat) (v : Word) (b : Bool) (s : State) :
    regOf ctx g (setReg ctx rd v b s) = if g = rd ∧ rd ≠ 0 then v else regOf ctx g s := by
  unfold setReg regOf
  by_cases h0 : rd = 0
  · simp [h0]
  · by_cases hg : g = 0
    · simp [hg, h0, Ne.symm h0]
    · cases ctx <;> by_cases hr : g = rd <;> simp [h0, hg, hr, setArch, setPass, look_put]

theorem regOf_zero (ctx : Ctx) (s : State) : regOf ctx 0 s = 0 := rfl

theorem contains_markPoison (g rd : Nat) (b : Bool) (l : List Nat) :
    (markPoison rd b l).contains g = if g = rd then b else l.contains g := by
  unfold markPoison
  by_cases h : g = rd <;> cases b <;> simp [h]

theorem poisonOf_setReg (ctx : Ctx) (g rd : Nat) (v : Word) (b : Bool) (s : State) (h : ∀ c, ctx ≠ .service c) :
    poisonOf ctx g (setReg ctx rd v b s) = if g = rd ∧ rd ≠ 0 then b else poisonOf ctx g s := by
  unfold setReg poisonOf
  by_cases h0 : rd = 0
  · simp [h0]
  · cases ctx with
    | joined c p => simpa [h0, setArch, setPass] using contains_markPoison g rd b _
    | split c k => simpa [h0] using contains_markPoison g rd b _
    | service c => exact absurd rfl (h c)

@[simp] theorem pcOf_setReg (ctx : Ctx) (rd : Nat) (v : Word) (b : Bool) (s : State) : pcOf ctx (setReg ctx rd v b s) = pcOf ctx s := by
  by_cases h0 : rd = 0
  · simp [setReg, h0]
  · cases ctx <;> simp [setReg, pcOf, h0, setArch, setPass]

theorem writes_setReg (ctx : Ctx) (rd : Nat) (v : Word) (b : Bool) (s : State) : Writes ctx rd v b s (setReg ctx rd v b s) :=
  fun g => ⟨regOf_setReg ctx g rd v b s, poisonOf_setReg ctx g rd v b s⟩

/-! ### PCs -/

theorem pcOf_setPc (ctx : Ctx) (pc : Nat) (s : State) : pcOf ctx (setPc ctx pc s) = pc % pcWords ctx := by
  cases ctx <;> simp [setPc, pcOf, setArch, setPass, pcWords, Config.svcSramWords]

theorem regsKept_setPc (ctx : Ctx) (pc : Nat) (s : State) : RegsKept ctx s (setPc ctx pc s) := by
  intro g
  cases ctx <;> simp [setPc, regOf, poisonOf, setArch, setPass]

/-! ### Other contexts -/

theorem othersKept_refl (ctx : Ctx) (s : State) : OthersKept ctx s s := fun _ _ => ⟨rfl, fun _ => ⟨rfl, rfl⟩⟩

theorem othersKept_trans {ctx : Ctx} {s t u : State} (h : OthersKept ctx s t) (k : OthersKept ctx t u) : OthersKept ctx s u :=
  fun o ho => ⟨(k o ho).1.trans (h o ho).1, fun g => ⟨((k o ho).2 g).1.trans ((h o ho).2 g).1, ((k o ho).2 g).2.trans ((h o ho).2 g).2⟩⟩

/-- A change of one pass is seen by no other context. -/
theorem othersKept_setPass (c : Fin 64) (p : Pass) (f : PassCtx → PassCtx) (s : State) : OthersKept (.joined c p) s (setPass c p f s) := by
  intro o ho
  cases o with
  | joined d q =>
    by_cases hd : d.val = c.val
    · have hq : q ≠ p := fun hq => ho (by rw [hq, Fin.ext hd])
      simp [pcOf, regOf, poisonOf, setPass, hd, hq]
    · simp [pcOf, regOf, poisonOf, setPass, hd]
  | split d k => exact ⟨rfl, fun _ => ⟨rfl, rfl⟩⟩
  | service d => exact ⟨rfl, fun _ => ⟨rfl, rfl⟩⟩

theorem othersKept_setSplit (c : Fin 64) (k : Fin 3) (f : SplitCtx → SplitCtx) (s : State) :
    OthersKept (.split c k) s (setSplit c k f s) := by
  intro o ho
  cases o with
  | split d l =>
    have h : ¬ 3 * d.val + l.val = 3 * c.val + k.val := fun h => ho (by
      have h1 : d.val = c.val := by omega
      have h2 : l.val = k.val := by omega
      rw [Fin.ext h1, Fin.ext h2])
    simp [pcOf, regOf, poisonOf, h]
  | joined d p => exact ⟨rfl, fun _ => ⟨rfl, rfl⟩⟩
  | service d => exact ⟨rfl, fun _ => ⟨rfl, rfl⟩⟩

theorem othersKept_setSvc (c : Fin 4) (f : SvcCore → SvcCore) (s : State) : OthersKept (.service c) s (setSvc c f s) := by
  intro o ho
  cases o with
  | service d =>
    have h : d.val ≠ c.val := fun h => ho (by rw [Fin.ext h])
    simp [pcOf, regOf, poisonOf, h]
  | joined d p => exact ⟨rfl, fun _ => ⟨rfl, rfl⟩⟩
  | split d k => exact ⟨rfl, fun _ => ⟨rfl, rfl⟩⟩

theorem othersKept_setReg (ctx : Ctx) (rd : Nat) (v : Word) (b : Bool) (s : State) : OthersKept ctx s (setReg ctx rd v b s) := by
  unfold setReg
  split
  · exact othersKept_refl _ _
  · cases ctx with
    | joined c p => exact othersKept_setPass c p _ s
    | split c k => exact othersKept_setSplit c k _ s
    | service c => exact othersKept_setSvc c _ s

theorem othersKept_setPc (ctx : Ctx) (pc : Nat) (s : State) : OthersKept ctx s (setPc ctx pc s) := by
  cases ctx with
  | joined c p => exact othersKept_setPass c p _ s
  | split c k => exact othersKept_setSplit c k _ s
  | service c => exact othersKept_setSvc c _ s

/-! ### The rest of the state -/

theorem onlyContexts_refl (s : State) : OnlyContexts s s := rfl

theorem onlyContexts_trans {s t u : State} (h : OnlyContexts s t) (k : OnlyContexts t u) : OnlyContexts s u := by
  unfold OnlyContexts at *
  rw [k, h]

theorem onlyContexts_setPass (c : Nat) (p : Pass) (f : PassCtx → PassCtx) (s : State) : OnlyContexts s (setPass c p f s) := rfl
theorem onlyContexts_setSplit (c k : Nat) (f : SplitCtx → SplitCtx) (s : State) : OnlyContexts s (setSplit c k f s) := rfl
theorem onlyContexts_setSvc (c : Nat) (f : SvcCore → SvcCore) (s : State) : OnlyContexts s (setSvc c f s) := rfl

theorem onlyContexts_setReg (ctx : Ctx) (rd : Nat) (v : Word) (b : Bool) (s : State) : OnlyContexts s (setReg ctx rd v b s) := by
  unfold setReg
  split
  · rfl
  · cases ctx <;> rfl

theorem onlyContexts_setPc (ctx : Ctx) (pc : Nat) (s : State) : OnlyContexts s (setPc ctx pc s) := by cases ctx <;> rfl

/-- What `writeBack` does. -/
theorem computes_writeBack (ctx : Ctx) (rd : Nat) (v : Word) (b : Bool) (s : State) : Computes ctx rd v b s (writeBack ctx rd v b s) := by
  refine ⟨?_, ?_, ?_, ?_⟩
  · intro g
    have h := regsKept_setPc ctx (pcOf ctx (setReg ctx rd v b s) + 1) (setReg ctx rd v b s) g
    exact ⟨h.1.trans (regOf_setReg ctx g rd v b s), fun hs => h.2.trans (poisonOf_setReg ctx g rd v b s hs)⟩
  · simp [writeBack, stepPc, pcOf_setPc]
  · exact othersKept_trans (othersKept_setReg ctx rd v b s) (othersKept_setPc ctx _ _)
  · exact onlyContexts_trans (onlyContexts_setReg ..) (onlyContexts_setPc ..)

/-! ### Issue -/

/-- A state that a context which can issue reaches before its instruction: its registers and PC are those of `s`, and only contexts,
time and draws differ. -/
def Issued (i : Issue) (s u : State) : Prop := JumpsTo i.ctx (pcOf i.ctx s) s u

@[simp] theorem arch_useSlots (c t n : Nat) (p : Pass) (b : Bool) (s : State) :
    (((useSlots c p t n b s).core c).pass p).arch.regs = ((s.core c).pass p).arch.regs := by
  cases b <;> simp [useSlots, setPass] <;> rfl

theorem issued_useSlots (i : Issue) (c : Fin 64) (p : Pass) (hc : i.ctx = .joined c p) (t n : Nat) (b : Bool) (s : State) :
    Issued i s (useSlots c p t n b s) := by
  unfold Issued
  rw [hc]
  refine ⟨?_, ?_, ?_, ?_⟩
  · intro g
    cases b <;> simp [useSlots, regOf, poisonOf, setPass] <;> exact ⟨rfl, Iff.rfl⟩
  · cases b <;> simp [useSlots, pcOf, setPass] <;> rfl
  · exact othersKept_trans (t := { s with time := { s.time with t6 := max s.time.t6 (5 * t) } })
      (fun _ _ => ⟨by rename_i o _; cases o <;> rfl, fun g => ⟨by rename_i o _; cases o <;> rfl, by rename_i o _; cases o <;> rfl⟩⟩)
      (othersKept_setPass c p _ _)
  · rfl

theorem issued_trans {i : Issue} {s t u : State} (h : Issued i s t) (k : Issued i t u) : Issued i s u :=
  ⟨fun g => ⟨(k.1 g).1.trans (h.1 g).1, (k.1 g).2.trans (h.1 g).2⟩, k.2.1.trans h.2.1, othersKept_trans h.2.2.1 k.2.2.1,
    onlyContexts_trans h.2.2.2 k.2.2.2⟩

theorem issued_spoil (i : Issue) (c : Fin 64) (p : Pass) (hc : i.ctx = .joined c p) (s : State) : Issued i s (spoil c p s) := by
  unfold Issued
  rw [hc]
  exact ⟨fun g => by simp [spoil, regOf, poisonOf, setPass], by simp [spoil, pcOf, setPass], othersKept_setPass c p _ s, rfl⟩

/-- The state after `n` draws in all. -/
def State.drawn (n : Nat) (s : State) : State := { s with free := n }

@[simp] theorem core_drawn (n c : Nat) (s : State) : (s.drawn n).core c = s.core c := rfl
@[simp] theorem split_drawn (n c k : Nat) (s : State) : (s.drawn n).split c k = s.split c k := rfl
@[simp] theorem svcCore_drawn (n c : Nat) (s : State) : (s.drawn n).svcCore c = s.svcCore c := rfl

theorem issued_free (i : Issue) (s : State) (n : Nat) : Issued i s (s.drawn n) := by
  obtain ⟨ctx, b⟩ := i
  cases ctx <;> exact ⟨fun g => ⟨rfl, rfl⟩, rfl, fun o _ => by cases o <;> exact ⟨rfl, fun _ => ⟨rfl, rfl⟩⟩, rfl⟩

/-- The fold of `mpuView` reads nothing of the state but the draws. -/
theorem mpuFold_congr (l : List (Nat × Word)) (m : Tab Word) (s u : State) (h : u.free = s.free) :
    ∃ n, (l.foldl (fun (acc : Tab Word × State) p =>
        let d := acc.2.draw 1
        (if d.1 = 1 then put p.1 p.2 acc.1 else acc.1, d.2)) (m, s)).2 = { s with free := n }
      ∧ (l.foldl (fun (acc : Tab Word × State) p =>
        let d := acc.2.draw 1
        (if d.1 = 1 then put p.1 p.2 acc.1 else acc.1, d.2)) (m, u)).1
        = (l.foldl (fun (acc : Tab Word × State) p =>
        let d := acc.2.draw 1
        (if d.1 = 1 then put p.1 p.2 acc.1 else acc.1, d.2)) (m, s)).1 := by
  induction l generalizing m s u with
  | nil => exact ⟨s.free, rfl, rfl⟩
  | cons p l ih =>
    simp only [List.foldl_cons, State.draw, h]
    obtain ⟨n, hn, he⟩ := ih (if Config.freeBits 1 s.free = 1 then put p.1 p.2 m else m) { s with free := s.free + 1 }
      { u with free := s.free + 1 } rfl
    exact ⟨n, hn, he⟩

/-- The MPU's answer changes nothing but the draws, and rests on the core's descriptors and the draws alone. -/
theorem mpuAllows_spec (c : Nat) (priv : Bool) (kind a : Nat) (s u : State) (h : u.free = s.free) (he : (u.svcCore c).mpuEn = (s.svcCore c).mpuEn)
    (hm : (u.svcCore c).mpu = (s.svcCore c).mpu) (ho : (u.svcCore c).mpuOld = (s.svcCore c).mpuOld) :
    (mpuAllows c priv kind a u).1 = (mpuAllows c priv kind a s).1 ∧ ∃ n, (mpuAllows c priv kind a s).2 = s.drawn n := by
  unfold mpuAllows
  rw [he]
  split
  · exact ⟨rfl, s.free, rfl⟩
  · obtain ⟨n, h1, h2⟩ := mpuFold_congr (s.svcCore c).mpuOld (s.svcCore c).mpu s u h
    refine ⟨?_, n, h1⟩
    simp only [mpuView, hm, ho]
    rw [h2]

/-- The state in which the instruction of a pass that can issue runs. -/
def issuedJoined (c : Nat) (p : Pass) (bad : Bool) (slots : Nat) (reads : List Nat) (s : State) : State :=
  let v := useSlots c p (slotOf p reads ((s.core c).pass p) s) slots ((s.core c).pass p).arch.inObject s
  if bad then spoil c p v else v

theorem issueAs_joined (c : Fin 64) (p : Pass) (bad : Bool) (slots : Nat) (reads : List Nat) (closes : Bool) (s : State)
    (h : CanIssue ⟨.joined c p, bad⟩ slots reads closes s) (k : State → State) :
    issueAs ⟨.joined c p, bad⟩ slots reads closes k s = k (issuedJoined c p bad slots reads s) := by
  obtain ⟨h1, h2, h3, h4, h5, h6, h7⟩ := h
  have hw : (((s.core c).pass p).arch.inObject &&
      decide ((typeEntry ((s.core c).pass p).arch.typ.toNat s).weight < ((s.core c).pass p).arch.weight + slots)) = false := by
    cases hb : ((s.core c).pass p).arch.inObject
    · rfl
    · have := h7 hb
      simp [Nat.not_lt.mpr this]
  simp only [issueAs, issueJoined, h1, h2, h3, h4, h6]
  simp [hw]
  rw [if_neg (by
    rintro ⟨⟨hc, hp⟩, hl⟩
    exact absurd hl (Nat.not_le.mpr (h5 hc hp)))]
  rfl

theorem issueAs_split (c : Fin 64) (j : Fin 3) (bad : Bool) (slots : Nat) (reads : List Nat) (closes : Bool) (s : State)
    (h : CanIssue ⟨.split c j, bad⟩ slots reads closes s) (k : State → State) : issueAs ⟨.split c j, bad⟩ slots reads closes k s = k s := by
  simp [issueAs, issueSplit, h.1, Nat.not_le.mpr h.2]

/-- The state in which the instruction of a service core that can issue runs, but for the draws. -/
def issuedService (c : Nat) (s : State) : State :=
  setSvc c (fun q => { q with eoiJust := false, eretJust := 0, wdStart := some (q.wdStart.getD s.now) }) s

theorem issueAs_service (c : Fin 4) (slots : Nat) (reads : List Nat) (closes : Bool) (s : State)
    (h : CanIssue ⟨.service c, false⟩ slots reads closes s) :
    ∃ n, ∀ k, issueAs ⟨.service c, false⟩ slots reads closes k s = k ((issuedService c s).drawn n) := by
  obtain ⟨h1, h2, -, h4⟩ := h
  simp only [svcRuns, Bool.and_eq_true, Bool.not_eq_true'] at h1
  obtain ⟨g1, -⟩ := mpuAllows_spec c (s.svcCore c).priv 2 (4 * (s.svcCore c).pc) s (issuedService c s) rfl (by simp [issuedService])
    (by simp [issuedService]) (by simp [issuedService])
  obtain ⟨-, n, g2⟩ := mpuAllows_spec c (s.svcCore c).priv 2 (4 * (s.svcCore c).pc) (issuedService c s) (issuedService c s) rfl rfl rfl rfl
  refine ⟨n, fun k => ?_⟩
  rw [h4] at g1
  simp only [issueAs, issueService, claimPresented, h1, h2]
  simp [h1]
  change (if (mpuAllows c (s.svcCore c).priv 2 (4 * (s.svcCore c).pc) (issuedService c s)).1 = false then _
    else k (mpuAllows c (s.svcCore c).priv 2 (4 * (s.svcCore c).pc) (issuedService c s)).2) = _
  rw [g1, g2]
  rfl

/-- What a context that can issue does: its instruction `k` runs, in a state with its registers and PC. -/
theorem issueAs_of_canIssue (i : Issue) (slots : Nat) (reads : List Nat) (closes : Bool) (s : State)
    (h : CanIssue i slots reads closes s) : ∃ u, Issued i s u ∧ ∀ k, issueAs i slots reads closes k s = k u := by
  obtain ⟨ctx, bad⟩ := i
  cases ctx with
  | joined c p =>
    refine ⟨_, ?_, issueAs_joined c p bad slots reads closes s h⟩
    have hv := issued_useSlots ⟨.joined c p, bad⟩ c p rfl (slotOf p reads ((s.core c).pass p) s) slots
      ((s.core c).pass p).arch.inObject s
    cases bad
    · exact hv
    · exact issued_trans hv (issued_spoil ⟨.joined c p, true⟩ c p rfl _)
  | split c k => exact ⟨s, ⟨fun g => ⟨rfl, rfl⟩, rfl, othersKept_refl _ _, rfl⟩, issueAs_split c k bad slots reads closes s h⟩
  | service c =>
    have hb : bad = false := h.2.2.1
    subst hb
    obtain ⟨n, hn⟩ := issueAs_service c slots reads closes s h
    refine ⟨_, ?_, hn⟩
    exact issued_trans ⟨fun g => by simp [regOf, poisonOf], by simp [pcOf], othersKept_setSvc c _ s, rfl⟩
      (issued_free _ _ n)

theorem regOf_issued {i : Issue} {s u : State} (h : Issued i s u) : (fun g => regOf i.ctx g u) = fun g => regOf i.ctx g s :=
  funext fun g => (h.1 g).1

theorem anyPoison_issued {i : Issue} {s u : State} (h : Issued i s u) (l : List Nat) : anyPoison i.ctx l u = anyPoison i.ctx l s := by
  simp only [anyPoison, (h.1 _).2]

theorem branchTarget_issued {i : Issue} {s u : State} (h : Issued i s u) (d : Word) : branchTarget i.ctx d u = branchTarget i.ctx d s := by
  simp only [branchTarget, h.2.1]

theorem computes_of_issued {i : Issue} {rd : Nat} {v : Word} {b : Bool} {s u t : State} (h : Issued i s u)
    (k : Computes i.ctx rd v b u t) : Computes i.ctx rd v b s t := by
  refine ⟨fun g => ⟨?_, fun hs => ?_⟩, ?_, othersKept_trans h.2.2.1 k.2.2.1, onlyContexts_trans h.2.2.2 k.2.2.2⟩
  · rw [(k.1 g).1, (h.1 g).1]
  · rw [(k.1 g).2 hs, (h.1 g).2]
  · rw [k.2.1, h.2.1]

theorem jumps_of_issued {i : Issue} {pc : Nat} {s u t : State} (h : Issued i s u) (k : JumpsTo i.ctx pc u t) : JumpsTo i.ctx pc s t :=
  ⟨fun g => ⟨((k.1 g).1).trans (h.1 g).1, ((k.1 g).2).trans (h.1 g).2⟩, k.2.1, othersKept_trans h.2.2.1 k.2.2.1,
    onlyContexts_trans h.2.2.2 k.2.2.2⟩

theorem computes_keepLate {ctx : Ctx} {rd r : Nat} {v : Word} {b : Bool} {s t : State} (k : Computes ctx rd v b s t) :
    Computes ctx rd v b s (keepLate ctx r t) := by
  cases ctx with
  | joined c p =>
    refine ⟨fun g => ⟨?_, fun hs => ?_⟩, ?_, othersKept_trans k.2.2.1 (othersKept_setPass c p _ t), onlyContexts_trans k.2.2.2 rfl⟩
    · rw [← (k.1 g).1]; simp [keepLate, regOf, setPass]
    · rw [← (k.1 g).2 hs]; simp [keepLate, poisonOf, setPass]
    · rw [← k.2.1]; simp [keepLate, pcOf, setPass]
  | split c j => exact k
  | service c => exact k

/-- What an instruction that computes a register does, once its context can issue it. -/
theorem computes_compute (i : Issue) (rd : Nat) (reads : List Nat) (slots : Nat) (late : Bool) (f : (Nat → Word) → Word) (s : State)
    (h : CanIssue i slots reads false s) :
    Computes i.ctx rd (f (fun g => regOf i.ctx g s)) (anyPoison i.ctx reads s) s (compute i rd reads slots late f s) := by
  obtain ⟨u, hu, hk⟩ := issueAs_of_canIssue i slots reads false s h
  rw [compute, issue, hk, regOf_issued hu, anyPoison_issued hu]
  refine computes_of_issued hu ?_
  cases late
  · exact computes_writeBack i.ctx rd _ _ u
  · exact computes_keepLate (computes_writeBack i.ctx rd _ _ u)

theorem jumps_setPc (ctx : Ctx) (pc : Nat) (s : State) : JumpsTo ctx (pc % pcWords ctx) s (setPc ctx pc s) :=
  ⟨regsKept_setPc ctx pc s, pcOf_setPc ctx pc s, othersKept_setPc ctx pc s, onlyContexts_setPc ctx pc s⟩

theorem issued_spoilIn (i : Issue) (s : State) : Issued i s (spoilIn i.ctx s) := by
  unfold spoilIn
  split
  · next c p hc => exact issued_spoil i c p hc s
  · exact ⟨fun _ => ⟨rfl, rfl⟩, rfl, othersKept_refl _ _, rfl⟩
  · exact ⟨fun _ => ⟨rfl, rfl⟩, rfl, othersKept_refl _ _, rfl⟩

theorem branchTarget_mod (ctx : Ctx) (d : Word) (s : State) : branchTarget ctx d s % pcWords ctx = branchTarget ctx d s := by
  have : branchTarget ctx d s < 2 ^ 20 := Nat.mod_lt _ (by decide)
  cases ctx <;> simp [pcWords] <;> omega

/-- What a branch does, once its context can issue it. -/
theorem jumps_branch (i : Issue) (reads : List Nat) (d : Word) (taken : (Nat → Word) → Bool) (s : State) (h : CanIssue i 1 reads false s) :
    JumpsTo i.ctx (if taken (fun g => regOf i.ctx g s) then branchTarget i.ctx d s else (pcOf i.ctx s + 1) % pcWords i.ctx) s
      (branch i reads d taken s) := by
  obtain ⟨u, hu, hk⟩ := issueAs_of_canIssue i 1 reads false s h
  rw [branch, issue, hk, regOf_issued hu, branchTarget_issued hu]
  have hv : Issued i s (if anyPoison i.ctx reads u then spoilIn i.ctx u else u) := by
    split
    · exact issued_trans hu (issued_spoilIn i u)
    · exact hu
  refine jumps_of_issued hv ?_
  cases taken (fun g => regOf i.ctx g s)
  · simp only [Bool.false_eq_true, if_false, stepPc]
    rw [hv.2.1]
    exact jumps_setPc ..
  · have := jumps_setPc i.ctx (branchTarget i.ctx d s) (if anyPoison i.ctx reads u then spoilIn i.ctx u else u)
    rw [branchTarget_mod] at this
    exact this

end Sys2Proof.Machine
end

