-- ==== Sys2Proof/Certificates/Slice0/Obligations.lean ====
section
/-!
DEFINITION. The statements for the provers, family by family.
-/
open Sys2Proof Sys2Proof.Machine

/-! ### KIS instructions -/

/-- R145 and R150: an operation on two registers writes its result to rd in every context, and changes nothing else. R145: DIVU and REMU take 12 slots; the quotient by 0 is 0xFFFF_FFFF and the remainder by 0 the dividend. -/
def Obligations.ArithmeticResults : Prop :=
  (
    ∀ p ∈ ([(.add, fun a b => BitVec.ofNat 32 (a.toNat + b.toNat)), (.sub, fun a b => BitVec.ofInt 32 (a.toNat - b.toNat)),
          (.andOp, fun a b => a &&& b), (.orOp, fun a b => a ||| b), (.xorOp, fun a b => a ^^^ b), (.andn, fun a b => a &&& ~~~b),
          (.orn, fun a b => a ||| ~~~b), (.sll, fun a b => BitVec.ofNat 32 (a.toNat * 2 ^ (b.toNat % 32))),
          (.srl, fun a b => BitVec.ofNat 32 (a.toNat / 2 ^ (b.toNat % 32))), (.sra, fun a b => BitVec.ofInt 32 (a.toInt / 2 ^ (b.toNat % 32))),
          (.mul, fun a b => BitVec.ofNat 32 (a.toNat * b.toNat)), (.minu, fun a b => BitVec.ofNat 32 (min a.toNat b.toNat)),
          (.maxu, fun a b => BitVec.ofNat 32 (max a.toNat b.toNat)), (.minOp, fun a b => BitVec.ofInt 32 (min a.toInt b.toInt)),
          (.maxOp, fun a b => BitVec.ofInt 32 (max a.toInt b.toInt)), (.sltu, fun a b => if a.toNat < b.toNat then 1 else 0),
          (.slt, fun a b => if a.toInt < b.toInt then 1 else 0), (.tall, fun a m => if a &&& m = m then 1 else 0),
          (.tany, fun a m => if a &&& m = 0 then 0 else 1), (.tnone, fun a m => if a &&& m = 0 then 1 else 0)] :
          List ((Issue → Reg → Reg → Reg → Instr) × (Word → Word → Word))),
        ∀ (i : Issue) (rd ra rb : Reg) (s : State), CanIssue i 1 [ra, rb] false s →
          Completes (p.1 i rd ra rb) s
            (Computes i.ctx rd (p.2 (regOf i.ctx ra s) (regOf i.ctx rb s)) (anyPoison i.ctx [ra, rb] s) s))
  ∧ (
    ∀ (i : Issue) (rd ra rb : Reg) (s : State), CanIssue i 12 [ra, rb] false s →
        Completes (.divu i rd ra rb) s (Computes i.ctx rd
          (if regOf i.ctx rb s = 0 then 0xFFFF_FFFF else BitVec.ofNat 32 ((regOf i.ctx ra s).toNat / (regOf i.ctx rb s).toNat))
          (anyPoison i.ctx [ra, rb] s) s)
        ∧ Completes (.remu i rd ra rb) s (Computes i.ctx rd
          (if regOf i.ctx rb s = 0 then regOf i.ctx ra s else BitVec.ofNat 32 ((regOf i.ctx ra s).toNat % (regOf i.ctx rb s).toNat))
          (anyPoison i.ctx [ra, rb] s) s))

/-- R146, R147 and R150: the operations on one register and an immediate, a count or none. R146, R148, R149, R150: LUI, MOVS, the bit fields and the operations that read rd. A field beyond bit 31 is an invalid encoding. -/
def Obligations.OneOperandResults : Prop :=
  (
    ∀ (i : Issue) (rd ra sh : Reg) (imm : BitVec 16) (s : State), CanIssue i 1 [ra] false s →
        let a := regOf i.ctx ra s
        let does := fun (c : Instr) (v : Word) => Completes c s (Computes i.ctx rd v (anyPoison i.ctx [ra] s) s)
        does (.addi i rd ra imm) (BitVec.ofInt 32 (a.toInt + imm.toInt))
        ∧ does (.andi i rd ra imm) (BitVec.ofNat 32 (a.toNat &&& imm.toNat))
        ∧ does (.ori i rd ra imm) (BitVec.ofNat 32 (a.toNat ||| imm.toNat))
        ∧ does (.xori i rd ra imm) (BitVec.ofNat 32 (a.toNat ^^^ imm.toNat))
        ∧ does (.slli i rd ra sh) (BitVec.ofNat 32 (a.toNat * 2 ^ sh.val))
        ∧ does (.srli i rd ra sh) (BitVec.ofNat 32 (a.toNat / 2 ^ sh.val))
        ∧ does (.srai i rd ra sh) (BitVec.ofInt 32 (a.toInt / 2 ^ sh.val))
        ∧ does (.popc i rd ra) (BitVec.ofNat 32 (((List.range 32).map (fun k => (a.getLsbD k).toNat)).sum))
        ∧ does (.clrls i rd ra) (a &&& (a - 1))
        ∧ (∃ n, does (.ffs i rd ra) (BitVec.ofNat 32 n) ∧ (∀ k < n, a.getLsbD k = false) ∧ (n = 32 ∨ (n < 32 ∧ a.getLsbD n = true))))
  ∧ (
    ∀ (i : Issue) (rd ra rb pos wm1 : Reg) (imm : BitVec 16) (s : State),
        let a := regOf i.ctx ra s
        let m := regOf i.ctx rb s
        let d := regOf i.ctx rd s
        (CanIssue i 1 [] false s →
          Completes (.lui i rd imm) s (Computes i.ctx rd (BitVec.ofNat 32 (imm.toNat * 2 ^ 16)) false s)
          ∧ (∀ sel, Completes (.movs i rd sel) s (Computes i.ctx rd (specialOf i.ctx sel s) false s))
          ∧ (32 < pos.val + wm1.val + 1 → ∀ c ∈ [Instr.ext i rd ra pos wm1, .exts i rd ra pos wm1, .ins i rd ra pos wm1],
              ∃ u, Issued i s u ∧ exec c s = .next (raiseInvalid i.ctx u)))
        ∧ (pos.val + wm1.val + 1 ≤ 32 → CanIssue i 1 [ra] false s →
          Completes (.ext i rd ra pos wm1) s
            (Computes i.ctx rd (BitVec.ofNat 32 ((a >>> pos.val).toNat % 2 ^ (wm1.val + 1))) (anyPoison i.ctx [ra] s) s)
          ∧ Completes (.exts i rd ra pos wm1) s
            (Computes i.ctx rd (BitVec.ofInt 32 (BitVec.ofNat (wm1.val + 1) (a >>> pos.val).toNat).toInt) (anyPoison i.ctx [ra] s) s))
        ∧ (pos.val + wm1.val + 1 ≤ 32 → CanIssue i 1 [ra, rd] false s →
          ∃ v, Completes (.ins i rd ra pos wm1) s (Computes i.ctx rd v (anyPoison i.ctx [ra, rd] s) s)
            ∧ ∀ k < 32, v.getLsbD k = if pos.val ≤ k ∧ k ≤ pos.val + wm1.val then a.getLsbD (k - pos.val) else d.getLsbD k)
        ∧ (CanIssue i 1 [ra, rb, rd] false s →
          Completes (.msel i rd ra rb) s (Computes i.ctx rd ((a &&& m) ||| (d &&& ~~~m)) (anyPoison i.ctx [ra, rb, rd] s) s)
          ∧ ∃ v, Completes (.bmaj i rd ra rb) s (Computes i.ctx rd v (anyPoison i.ctx [ra, rb, rd] s) s)
            ∧ ∀ k < 32, v.getLsbD k = decide (2 ≤ (a.getLsbD k).toNat + (m.getLsbD k).toNat + (d.getLsbD k).toNat)))

/-- R151 and R152: a branch goes on at (p + 1 + sext(disp)) mod 2^20 when its condition holds and at p + 1 otherwise; no register changes. Where the spec leaves a point open, the model's choice is taken: log entries 59, 99. -/
def Obligations.BranchesGoOn : Prop :=
  ∀ (i : Issue) (ra rb : Reg) (disp : BitVec 16) (s : State),
    let a := regOf i.ctx ra s
    let b := regOf i.ctx rb s
    let goes := fun (c : Instr) (taken : Prop) => ∃ t, exec c s = .next t
      ∧ (taken → JumpsTo i.ctx (((pcOf i.ctx s : Int) + 1 + disp.toInt) % 2 ^ 20).toNat s t)
      ∧ (¬ taken → JumpsTo i.ctx ((pcOf i.ctx s + 1) % pcWords i.ctx) s t)
    (CanIssue i 1 [ra, rb] false s →
      goes (.beq i ra rb disp) (a = b) ∧ goes (.bne i ra rb disp) (a ≠ b)
      ∧ goes (.blt i ra rb disp) (a.toInt < b.toInt) ∧ goes (.bge i ra rb disp) (b.toInt ≤ a.toInt)
      ∧ goes (.bltu i ra rb disp) (a.toNat < b.toNat) ∧ goes (.bgeu i ra rb disp) (b.toNat ≤ a.toNat))
    ∧ (CanIssue i 1 [ra] false s → goes (.bbs i ra rb disp) (a.getLsbD rb = true) ∧ goes (.bbc i ra rb disp) (a.getLsbD rb = false))
    ∧ (∀ d : BitVec 26, CanIssue i 1 [] false s →
        Completes (.jump i d) s (JumpsTo i.ctx (((pcOf i.ctx s : Int) + 1 + d.toInt) % 2 ^ 20).toNat s))

/-- R144, R153 to R156, R175: a load that passes its checks writes the word of its space to rt and goes on; an uncorrectable word is poisoned,
one that the scrub has found worn counts as uncorrectable (R28); a corrected one is counted. Where the spec leaves a point open, the model's choice is taken: log entries 3, 89. -/
def Obligations.LoadsComplete : Prop :=
  ∀ (i : Issue) (rt : Reg) (sp : Space) (ra : Reg) (off : BitVec 13) (ecc : Ecc) (s : State), CanIssue i 1 [ra] false s →
    let idx := ((regOf i.ctx ra s).toInt + off.toInt) % 2 ^ 32 |>.toNat
    let loads := fun (v : Word) (e : Ecc) => Completes (.ld i rt sp ra off ecc) s (fun t =>
      (∃ w, (e ≠ .uncorrectable → w = v) ∧ Writes i.ctx rt w (anyPoison i.ctx [ra] s || e == .uncorrectable) s t)
        ∧ pcOf i.ctx t = (pcOf i.ctx s + 1) % pcWords i.ctx ∧ OthersKept i.ctx s t ∧ OnlyContexts { s with seq := t.seq } t
        ∧ t.seq = match e with
          | .corrected b => { s.seq with corrected := s.seq.corrected + 1, correctedBank := upd 0 b.val (· + 1) s.seq.correctedBank }
          | .good => s.seq
          | .uncorrectable => s.seq)
    match i.ctx with
    | .split c k => splitLoadCheck k sp idx = none →
        loads (loadSplit c sp idx s) (wornEcc (loadAddr c .top sp (if sp = .stateOld then stateHalf idx false s else idx) s) ecc s)
    | .joined c p => loadCheck ((s.core c).pass p).arch sp idx s = none →
        (match loadJoined c p sp idx s with
          | .value v => loads v .good
          | .memory v w => loads v (wornEcc (loadAddr c p sp w s) ecc s))
    | .service c => sp = .scratch → idx < 2 ^ 21 → ecc ≠ .uncorrectable → (s.svcCore c).mpuEn = false → (s.svcCore c).priv = true →
        loads (svcWord idx s) .good

/-- R155, R157, R165, R170, R171: in a pass, a store, a timer operation or a post that passes its checks is one bus output; no register
changes. -/
def Obligations.PassOutputs : Prop :=
  ∀ (b : Bool) (c : Fin 64) (p : Pass) (ra rb rc rt : Reg) (sp : Space) (off : BitVec 13) (s : State),
    let i : Issue := { ctx := .joined c p, fetchBad := b }
    let A := ((s.core c).pass p).arch
    let r := fun (g : Reg) => regOf i.ctx g s
    let out := fun (x : Instr) (o : BusOut) (reads : List Nat) =>
      Completes x s (Emits c p o (b || anyPoison i.ctx reads s) ((pcOf i.ctx s + 1) % 2 ^ 20) s)
    (CanIssue i 1 [ra, rt] false s → storeCheck A sp (r ra + off.signExtend 32).toNat s = none →
      out (.st i rt sp ra off) (.store sp (r ra + off.signExtend 32).toNat (r rt)) [ra, rt])
    ∧ (CanIssue i 1 [ra] false s → (r ra).toNat ≤ 65_535 → A.inObject = true → holdsClass A 9 s = true →
        look 0xFFFF_FFFF (r ra).toNat s.img.timerOwner = A.obj.toNat →
        out (.tstart i ra) (.timer (r ra).toNat true) [ra] ∧ out (.tstop i ra) (.timer (r ra).toNat false) [ra])
    ∧ (CanIssue i 1 [ra, rb, rc] false s → A.inObject = true →
        (holdsClass A 7 s = true → (typeEntry A.typ.toNat s).axisMask.getLsbD ((r ra).toNat % 32) = true → (r ra).toNat % 32 < s.axesFitted →
          out (.mcmd i ra rb rc) (.motion (r ra) (r rb) (r rc)) [ra, rb, rc])
        ∧ (holdsClass A 8 s = true → (typeEntry A.typ.toNat s).fieldMask.getLsbD ((r ra).toNat / 2 ^ 16 % 4) = true →
            (r ra).toNat / 2 ^ 16 % 4 < s.blocksFitted → out (.fset i ra rb rc) (.field (r ra) (r rb) (r rc)) [ra, rb, rc]))

/-- R115, R116, R122, R166 to R169, R175: TTEST, SCODE, and the stores of SPLIT contexts and service cores. Where the spec leaves a point open, the model's choice is taken: log entry 36. -/
def Obligations.TimerCodeAndPlainStores : Prop :=
  ∀ (i : Issue) (rd ra rb rt : Reg) (fn : ScodeFn) (sp : Space) (off : BitVec 13) (s : State),
    let a := (regOf i.ctx ra s).toNat
    let b := (regOf i.ctx rb s).toNat
    let idx := (regOf i.ctx ra s + off.signExtend 32).toNat
    (∀ c p, i.ctx = .joined c p → CanIssue i 1 [ra] false s → a ≤ 65_535 →
      Completes (.ttest i rd ra) s (Computes i.ctx rd
        (match (look {} a s.timers).started with
          | none => 0
          | some m => BitVec.ofNat 32 (2 ^ 31 + (if min 16_777_215 ((s.seq.mcc - m) * s.seq.period / 100) = 16_777_215 then 2 ^ 24 else 0)
              + min 16_777_215 ((s.seq.mcc - m) * s.seq.period / 100)))
        (anyPoison i.ctx [ra] s) s))
    ∧ (∀ c k, i.ctx = .split c k → b / 2 ^ 13 % 8 = 0 → 1 ≤ b / 2 ^ 16 → b / 2 ^ 16 ≤ 512 →
        (if fn.fromInbox then a + b / 2 ^ 16 ≤ 524_288 else 4096 * k.val ≤ a ∧ a + b / 2 ^ 16 ≤ 4096 * k.val + 4096) →
        CanIssue i (2 + (b / 2 ^ 16 + 4 + 3) / 4) [ra, rb] false s →
        Completes (.scode i rd ra rb fn .good) s (Computes i.ctx rd
          (safetyCode fn.kasami (idBlock (b % 2 ^ 13) fn.receiving s ++ (List.range (b / 2 ^ 16)).map (fun j =>
            (if fn.fromInbox then inboxRead (a + j) s else sramWord (scratchAddr c (a + j)) s).toNat)))
          (anyPoison i.ctx [ra, rb] s) s))
    ∧ (∀ c p, i.ctx = .joined c p → b / 2 ^ 13 % 8 = 0 → 1 ≤ b / 2 ^ 16 → b / 2 ^ 16 ≤ 512 →
        a + b / 2 ^ 16 ≤ (if fn.fromInbox then 524_288 else 14_336) →
        CanIssue i (2 + (b / 2 ^ 16 + 4 + 3) / 4) [ra, rb] false s →
        Completes (.scode i rd ra rb fn .good) s (Computes i.ctx rd
          (safetyCode fn.kasami (idBlock (b % 2 ^ 13) fn.receiving s ++ (List.range (b / 2 ^ 16)).map (fun j =>
            (if fn.fromInbox then inboxRead (a + j) s
              else match loadJoined c p .scratch (a + j) s with | .value v => v | .memory v _ => v).toNat)))
          (anyPoison i.ctx [ra, rb] s) s))
    ∧ (∀ c k, i.ctx = .split c k → CanIssue i 1 [ra, rt] false s → sp = .scratch → 4096 * k.val ≤ idx → idx < 4096 * k.val + 4096 →
        Completes (.st i rt sp ra off) s (fun t => t.sram = memPutWord (scratchAddr c idx) (regOf i.ctx rt s) s.sram
          ∧ JumpsTo i.ctx ((pcOf i.ctx s + 1) % 2 ^ 20) s { t with sram := s.sram }))
    ∧ (∀ c, i.ctx = .service c → CanIssue i 1 [ra, rt] false s → sp = .scratch → idx < 2 ^ 21 →
        (s.svcCore c).mpuEn = false → (s.svcCore c).priv = true →
        Completes (.st i rt sp ra off) s (fun t => t.svc.sram = (svcSet idx (regOf i.ctx rt s) s).svc.sram
          ∧ JumpsTo i.ctx ((pcOf i.ctx s + 1) % 2 ^ 21) s { t with svc := { t.svc with sram := s.svc.sram } }))

/-- R102, R159 to R163: OLOOP starts the object list, ONEXT carries the OLD words of the owned records that the evaluation has not stored and
goes to the next object, ENDC ends the pass, SEG closes the segment; SEG has no effect in a SPLIT context, where ENDC ends the context. Where the spec leaves a point open, the model's choice is taken: log entries 35, 99. -/
def Obligations.SegmentsAndObjects : Prop :=
  (∀ (b : Bool) (c : Fin 64) (p : Pass) (disp : BitVec 16) (s : State),
    let i : Issue := { ctx := .joined c p, fetchBad := b }
    let A := ((s.core c).pass p).arch
    (CanIssue i 1 [] false s → A.place = .entry →
      Completes (.oloop i disp) s (fun t =>
        let L := BitVec.ofNat 20 (branchTarget i.ctx (disp.signExtend 32) s)
        let B := ((t.core c).pass p).arch
        B.lend = L ∧ OthersKept i.ctx s t ∧ OnlyContexts s t
        ∧ match objAt (s.core c).objs 0 with
          | none => B.place = .listEnd ∧ B.pc = L ∧ B.regs = A.regs
          | some o => B.place = .object 0 ∧ B.obj = BitVec.ofNat 20 o.1 ∧ B.typ = BitVec.ofNat 8 o.2 ∧ B.regs = [] ∧ B.poison = []
              ∧ B.pc = BitVec.ofNat 20 (typeEntry o.2 s).entry))
    ∧ (∀ (k : Nat) (eccs : List Ecc), let l := (ownedRecords A.obj.toNat s).filter (fun n => !A.stored.contains n)
        A.place = .object k → l.length < passRoom (s.core c) p → (∀ e ∈ eccs, e = .good) → s.seq.worn = [] →
        CanIssue i (1 + l.length) [] true s →
        Completes (.onext i eccs) s (fun t =>
          (match objAt (s.core c).objs (k + 1) with
            | none => Closes c p false A.lend A.leave s t
            | some o => Closes c p false (BitVec.ofNat 20 (typeEntry o.2 s).entry) (A.enter (k + 1) o.1 o.2) s t)
          ∧ ∃ u, t = settle c u ∧ ∀ x ∈ ((u.core c).pass p).segs, x.seg = ((s.core c).pass p).seg →
              ∃ y ∈ ((s.core c).pass p).segs, y.seg = x.seg ∧ x.outs.map (fun z => z.2.held) = y.outs.map (fun z => z.2.held)
                ++ l.map (fun n => some (.carry n (stateRead p (stateHalf n false s) s)))))
    ∧ (CanIssue i 1 [] true s →
        Completes (.seg i) s (Closes c p false (A.pc + 1) A s)
        ∧ (A.place = .listEnd → Completes (.endc i) s (Closes c p true (A.pc + 1) A s))))
  ∧ ∀ (b : Bool) (c : Fin 64) (k : Fin 3) (s : State),
    let i : Issue := { ctx := .split c k, fetchBad := b }
    CanIssue i 1 [] false s →
      Completes (.seg i) s (JumpsTo i.ctx ((pcOf i.ctx s + 1) % 2 ^ 20) s)
      ∧ Completes (.endc i) s (fun t => (t.split c k).run = .ended ∧ RegsKept i.ctx s t ∧ OthersKept i.ctx s t ∧ OnlyContexts s t)

/-- R124 to R126, R164, R173, R485 to R487: ASSERT and an invalid encoding raise their exception: a pass stops with the exception as its
output, a SPLIT context stops and records 0x1210, a service core saves a frame and enters its vector; so does TRAP. Where the spec leaves a point open, the model's choice is taken: log entries 37, 58, 90. -/
def Obligations.ExceptionsAreTaken : Prop :=
  ∀ (b : Bool) (w : Word) (imm : BitVec 16) (s : State),
    (∀ (c : Fin 64) (p : Pass), let i : Issue := { ctx := .joined c p, fetchBad := b }
      CanIssue i 1 [] false s → ∀ x ∈ [(Instr.assertOp i imm, 0x1207, imm), (.invalidEncoding i w, 0x1200, 0)],
        (x.2.1 = 0x1200 → invalidLogic w = true) →
        Completes x.1 s (fun t => ∃ u, t = settle c u ∧ ((u.core c).pass p).run = .excepted ∧ OthersKept i.ctx s u ∧ OnlyContexts s u
          ∧ ((u.core c).pass p).find ((s.core c).pass p).seg = (((s.core c).pass p).find ((s.core c).pass p).seg).map (fun g =>
            { g with
              outs := g.outs ++ [(((s.core c).pass p).arch.ordinal, (if g.bad || b then Val.spoilt else Val.out)
                (.exception x.2.1 ((s.core c).pass p).arch.pc ((s.core c).pass p).arch.obj x.2.2))]
              bad := g.bad || b })))
    ∧ (∀ (c : Fin 64) (k : Fin 3), let i : Issue := { ctx := .split c k, fetchBad := b }
        CanIssue i 1 [] false s → ∀ x ∈ [(Instr.assertOp i imm, 0x1207), (.invalidEncoding i w, 0x1200)],
          (x.2 = 0x1200 → invalidLogic w = true) →
          Completes x.1 s (fun t => (t.split c k).run = .excepted ∧ t.seq.excCode = x.2 ∧ t.seq.excCore = c ∧ t.seq.excCtx = k + 1
            ∧ t.seq.excPc = (s.split c k).pc ∧ t.seq.excObj = BitVec.ofNat 20 (4 * c + k) ∧ t.sram = s.sram ∧ OthersKept i.ctx s t
            ∧ t.svc.toggles = s.svc.toggles ++ [(19, s.now)]))
    ∧ (∀ (c : Fin 4), let i : Issue := { ctx := .service c, fetchBad := false }
        let K := s.svcCore c
        let saves := 32 + K.splim.toNat ≤ K.sp.toNat ∧ (K.mpuEn = true → K.mpuOld = [] ∧ mpuGrants K.mpu true 1 (K.sp.toNat - 32) = true)
        CanIssue i 1 [] false s →
        ∀ x ∈ [(Instr.invalidEncoding i w, (if privilegedOp w && !K.priv then 0x8101 else 0x8100), 0, K.pc),
            (.trap i imm, 0x8107, imm.toNat, (K.pc + 1) % 2 ^ 21)],
          (x.2.1 ≠ 0x8107 → invalidService w = true) →
          (K.exc = false → saves → Completes x.1 s (fun t =>
            (t.svcCore c).causeReg = BitVec.ofNat 32 (x.2.1 + 2 ^ 16 * x.2.2.1) ∧ (t.svcCore c).sp = K.sp - 32
            ∧ (t.svcCore c).exc = true ∧ (t.svcCore c).priv = true ∧ (t.svcCore c).pc = (K.vbase.toNat + 0x1000) / 4 % 2 ^ 21
            ∧ (s.wf → svcWord ((K.sp.toNat - 32) / 4) t = BitVec.ofNat 32 x.2.2.2) ∧ OthersKept i.ctx s t ∧ t.sram = s.sram))
          ∧ (K.exc = true → Completes x.1 s (fun t => (t.svcCore c).pc = 0 ∧ (t.svcCore c).fatalCode.toNat = x.2.1
            ∧ (t.svcCore c).resets.toNat = min 0xFFFF (K.resets.toNat + 1) ∧ t.svc.sram = s.svc.sram)))

/-- R173, R174, R479, R480, R482, R484, R489, R503: the privileged instructions of a service core that go on with the next word. In user mode each
raises 0x8101 at its own PC; in a logic core each, and TRAP, is an invalid encoding. R504, R506: ERET restores PC, STATUS and g1 to g6 from the frame at SP, frees the frame and pops what the frame's depth lacks; a frame that the
MPU does not let it read is fatal. Where the spec leaves a point open, the model's choice is taken: log entries 58, 90. -/
def Obligations.ServiceInstructionsAct : Prop :=
  (
    ∀ (ctx : Ctx) (ra rb rd : Reg) (sr : BitVec 10) (imm : BitVec 16) (s : State),
        let i : Issue := { ctx := ctx, fetchBad := false }
        let v := regOf i.ctx ra s
        let w := regOf i.ctx rb s &&& (if v.toNat % 2 = 0 then 0x007F_F000 else 0x007F_F07F)
        let privileged := [Instr.di i, .ei i, .wfe i, .eret i, .mpusync i, .mfsr i rd sr, .mtsr i ra sr, .eoiWrite i ra, .wdkickWrite i ra, .mpuw i ra rb,
          .mpur i rd ra, .ldc i rd ra imm, .stc i rd ra imm]
        CanIssue i 1 [] false s →
        ((∀ c, ctx ≠ .service c) → ∀ x ∈ Instr.trap i imm :: privileged, ∃ u, Issued i s u ∧ exec x s = .next (raiseInvalid ctx u))
        ∧ ∀ c, ctx = .service c →
          let K := s.svcCore c
          let goes := fun (x : Instr) (f : SvcCore → SvcCore) => Completes x s (SvcDoes c f s)
          let reads := fun (k : Nat) (x : Word) => sr.toNat = k → Completes (.mfsr i rd sr) s (Computes ctx rd x false s)
          (K.priv = false → ∀ x ∈ privileged, ∃ u, Issued i s u ∧ exec x s = .next (svcException c 0x8101 0 K.pc u))
          ∧ (K.priv = true →
            goes (.di i) (fun q => { q with di := true })
            ∧ goes (.ei i) (fun q => { q with di := false })
            ∧ goes (.mpusync i) (fun q => { q with mpuOld := [] })
            ∧ (winner c s = none → goes (.wfe i) (fun q => { q with waiting := true }))
            ∧ (winner c s ≠ none → goes (.wfe i) id)
            ∧ Completes (.wdkickWrite i ra) s (fun t => SvcDoes c id s t ∧ (t.svcCore c).wdStart = some s.now)
            ∧ (K.stack ≠ [] → Completes (.eoiWrite i ra) s (fun t => SvcDoes c (fun q => { q with stack := q.stack.tail }) s t ∧ OnlyContexts s t))
            ∧ (K.stack = [] → Completes (.eoiWrite i ra) s (fun t => SvcDoes c id s t ∧ t.jnl = (record 0x8013 [c.val] s).jnl))
            ∧ goes (.mtsr i ra 0) (fun q => { q with priv := v.getLsbD 0, di := v.getLsbD 1, mpuEn := v.getLsbD 3 })
            ∧ goes (.mtsr i ra 1) (fun q => { q with vbase := v &&& 0x007F_E000 })
            ∧ goes (.mtsr i ra 2) (fun q => { q with sp := v &&& 0x007F_FFE0 })
            ∧ goes (.mtsr i ra 3) (fun q => { q with splim := v &&& 0x007F_FFE0 })
            ∧ (sr.toNat ∈ [4, 5, 7, 8, 10, 11] → goes (.mtsr i ra sr) id)
            ∧ exec (.mtsr i ra 6) s = exec (.eoiWrite i ra) s ∧ exec (.mtsr i ra 9) s = exec (.wdkickWrite i ra) s
            ∧ (v.toNat < 32 → Completes (.mpuw i ra rb) s (fun t => ∃ old,
                SvcDoes c (fun q => { q with mpu := put v.toNat w q.mpu, mpuOld := old }) s t ∧ ∀ k, k ≠ v.toNat → look 0 k old = look 0 k K.mpuOld))
            ∧ (32 ≤ v.toNat → goes (.mpuw i ra rb) id)
            ∧ (v.toNat < 32 → Completes (.mpur i rd ra) s (Computes ctx rd (look 0 v.toNat K.mpu) false s))
            ∧ (32 ≤ v.toNat → Completes (.mpur i rd ra) s (fun t => ∃ x, Computes ctx rd x false s t))
            ∧ reads 0 (BitVec.ofNat 32 K.status) ∧ reads 1 K.vbase ∧ reads 2 K.sp ∧ reads 3 K.splim ∧ reads 4 K.causeReg
            ∧ (∀ p l, K.stack = p :: l → reads 5 (BitVec.ofNat 32 p.2) ∧ reads 7 (BitVec.ofNat 32 (p.1 + 16 * K.stack.length)))
            ∧ (K.stack = [] → reads 7 15
                ∧ (sr.toNat = 5 → Completes (.mfsr i rd sr) s (fun t => ∃ x : Word, x.getLsbD 8 = true ∧ Computes ctx rd x false s t)))
            ∧ reads 6 0 ∧ reads 8 (BitVec.ofNat 32 c) ∧ reads 9 0
            ∧ reads 10 (BitVec.ofNat 32 (s.replica .sclk))
            ∧ reads 11 (K.dtLatch.getD (BitVec.ofNat 32 (s.replica .sclk / 2 ^ 32)))
            ∧ (11 < sr.toNat → ∀ x ∈ [Instr.mfsr i rd sr, .mtsr i ra sr], ∃ u, Issued i s u ∧ exec x s = .next (raiseInvalid ctx u))))
  ∧ (
    ∀ (c : Fin 4) (s : State),
        let i : Issue := { ctx := .service c, fetchBad := false }
        let K := s.svcCore c
        let base := K.sp.toNat / 4
        let st := svcWord (base + 1) s
        let reads := K.mpuEn = true → K.mpuOld = [] ∧ mpuGrants K.mpu true 0 K.sp.toNat = true
        K.priv = true → CanIssue i 1 [] false s →
          (reads → Completes (.eret i) s (fun t => let L := t.svcCore c
            L.pc = (svcWord base s).toNat % 2 ^ 21 ∧ L.priv = st.getLsbD 0 ∧ L.di = st.getLsbD 1
            ∧ L.exc = st.getLsbD 2 ∧ L.mpuEn = st.getLsbD 3 ∧ L.sp = K.sp + 32 ∧ L.stack = K.stack.drop (K.stack.length - bits 11 8 st.toNat)
            ∧ L.eretJust = (if (winner c s).isSome then 2 else 1)
            ∧ (∀ k < 6, regOf i.ctx (k + 1) t = svcWord (base + 2 + k) s) ∧ (∀ g, 6 < g → regOf i.ctx g t = regOf i.ctx g s)
            ∧ OthersKept i.ctx s t ∧ (K.stack.length ≤ bits 11 8 st.toNat → t.jnl = s.jnl)
            ∧ t = { s with jnl := t.jnl, free := t.free, svc := { s.svc with cores := t.svc.cores } }))
          ∧ (K.mpuEn = true → K.mpuOld = [] → mpuGrants K.mpu true 0 K.sp.toNat = false → Completes (.eret i) s (fun t => let L := t.svcCore c
              L.pc = 0 ∧ L.stack = [] ∧ L.resets.toNat = min 0xFFFF (K.resets.toNat + 1) ∧ t.svc.sram = s.svc.sram)))

/-! ### Accord -/

/-- R185 to R187: a stall of a pass ends when its cause has gone, and nothing else of the contexts changes; a chamber that is still full keeps
its pass stalled. Where the spec leaves a point open, the model's choice is taken: log entry 34. -/
def Obligations.StallsEnd : Prop :=
  ∀ (c : Fin 64) (p : Pass) (s : State),
    let P := (s.core c).pass p
    let freed := fun (q : Pass) (t : State) => ((t.core c).pass q).stall = .none ∧ (∀ o, o ≠ q → (t.core c).pass o = (s.core c).pass o)
      ∧ JumpsTo (.joined c q) (pcOf (.joined c q) s) s t
    (P.stall = .chamber ∨ P.stall = .queue →
      (passFull (s.core c) p = false → Completes (.lockChamberStallEnd c p) s (freed p))
      ∧ (passFull (s.core c) p = true → exec (.lockChamberStallEnd c p) s = .next s))
    ∧ ((s.core c).top.stall = .depth → (s.core c).lead < s.seq.depth → Completes (.runAheadStallEnd c) s (freed .top))
    ∧ (P.stall = .skew → ∀ Q x, (s.core c).before p = some Q → Q.slots[P.slots.length]? = some x →
        Completes (.skewStallEnd c p) s (fun t => freed p t ∧ x.2 + 64 ≤ t.cclk))

/-- R144, R180, R190: the accord decides at a position exactly when two passes show the same valid output; the third is outvoted when it differs.
An invalid output, and one of a spoilt segment, agrees with nothing. R107, R110, R172, R182: what a committed output does. The first IMAGE_OUT write of a word in a cycle stores it, later ones are combined by
AND; a timer order waits for the next cycle; a post joins its release list with its object and order while the list has room for it; with 1,024 entries in it (R76), HOLD with 0x1109. R193, R194, R201: a mismatch of a rail pair of a JOINED cluster in RUN or DEGRADED is accord failure 0x1313: HOLD, the cluster faulted, the
trip flop set, the trip lines and LIVE low, every axis without its bridge. Where the spec leaves a point open, the model's choice is taken: log entry 35. -/
def Obligations.AccordDecidesAndCommits : Prop :=
  (
    ∀ t h b : Val,
        let ok := fun (v : Val) => v = .none ∨ ∃ o, v = .out o
        (∀ v, decide3 Val.valid t h b = some (v, none) ↔ ok v ∧ t = v ∧ h = v ∧ b = v)
        ∧ (∀ v, decide3 Val.valid t h b = some (v, some .base) ↔ ok v ∧ t = v ∧ h = v ∧ b ≠ v)
        ∧ (∀ v, decide3 Val.valid t h b = some (v, some .heart) ↔ ok v ∧ t = v ∧ h ≠ v ∧ b = v)
        ∧ (∀ v, decide3 Val.valid t h b = some (v, some .top) ↔ ok v ∧ t ≠ v ∧ h = v ∧ b = v)
        ∧ (decide3 Val.valid t h b = none ↔ ∀ v, ok v → ¬ (t = v ∧ h = v) ∧ ¬ (t = v ∧ b = v) ∧ ¬ (h = v ∧ b = v)))
  ∧ (
    ∀ (c ord : Nat) (typ : BitVec 8) (a b w v : Word) (i t : Nat) (st : Bool) (s : State),
        (s.wf → i < 65_536 →
          let u := commitOut c ord typ (.store .imageOut i v) s
          imageOut i u = (if s.seq.outWritten.contains i then imageOut i s &&& v else v) ∧ u.seq.outWritten.contains i = true
          ∧ (∀ j < 65_536, j ≠ i → imageOut j u = imageOut j s ∧ u.seq.outWritten.contains j = s.seq.outWritten.contains j))
        ∧ (let u := commitOut c ord typ (.timer t st) s;
            (look {} t u.timers).next = some (if st then some s.seq.mcc else none) ∧ (look {} t u.timers).started = (look {} t s.timers).started
            ∧ ∀ k, k ≠ t → look {} k u.timers = look {} k s.timers)
        ∧ (s.seq.motionList.length < 1_024 → ∃ q, (commitOut c ord typ (.motion a b w) s).seq.motionList = s.seq.motionList ++ [q]
            ∧ q.a = a ∧ q.b = b ∧ q.c = w ∧ (commitOut c ord typ (.motion a b w) s).seq.fieldList = s.seq.fieldList)
        ∧ (s.seq.fieldList.length < 1_024 → ∃ q, (commitOut c ord typ (.field a b w) s).seq.fieldList = s.seq.fieldList ++ [q]
            ∧ q.a = a ∧ q.b = b ∧ q.c = w ∧ (commitOut c ord typ (.field a b w) s).seq.motionList = s.seq.motionList)
        ∧ (1_024 ≤ s.seq.motionList.length → s.keep.mode ≠ .hold →
            (commitOut c ord typ (.motion a b w) s).keep.mode = .hold ∧ (commitOut c ord typ (.motion a b w) s).keep.cause = 0x1109)
        ∧ (1_024 ≤ s.seq.fieldList.length → s.keep.mode ≠ .hold →
            (commitOut c ord typ (.field a b w) s).keep.mode = .hold ∧ (commitOut c ord typ (.field a b w) s).keep.cause = 0x1109))
  ∧ (
    ∀ (k lane : Fin 8) (kind : RailFault) (s : State), (s.keep.mode = .run ∨ s.keep.mode = .degraded) → clusterMode k s = 0 →
        Completes (.dualRailMismatch k lane kind) s (fun t => t.keep.mode = .hold ∧ t.keep.cause = 0x1313 ∧ t.seq.faulted.getLsbD k = true
          ∧ look 0 k.val t.seq.clLast = 0x1313 ∧ t.seq.tripFlop = true ∧ t.keep.tripLow = true ∧ t.keep.liveLow = true
          ∧ (∀ n < s.axesFitted, (t.axis n).st = .disabled) ∧ t.snap.held = true ∧ t.snap.src.getLsbD 1 = true
          ∧ t.seq.phase = .notRunning ∧ t.sram = s.sram ∧ t.image = s.image ∧ t.fused = s.fused ∧ t.ctl = s.ctl))

/-! ### The capture and release sequencer -/

/-- R54, R55, R59, R61, R116: CAPTURE of a module alone starts the next cycle: MCC, S(n), the phase, the timers' orders, empty lists. INBOX and
batch are not fresh until they report. R37, R63, R64, R65: in CAPTURE of a module alone the INBOX buffers swap and source 6 is fresh; the freeze mark closes the batch, the commands
stamped more than 20 ns before S(n) in stamp order, and source 7 is fresh; those beyond the limit are counted as refused. Where the spec leaves a point open, the model's choice is taken: log entries 28, 87. -/
def Obligations.CaptureAndSources : Prop :=
  (
    ∀ (fb mo : Bool) (s : State), sequencerRuns s = true → s.seq.complete = true → s.seq.phase ≠ .release →
        (s.seq.phase = .waiting → s.seq.overrun = true) → s.tri.state = .off → (∀ c < 64, (s.core c).retiring = false) →
        Completes (.capture fb mo) s (fun t =>
          t.seq.phase = .capture ∧ t.seq.mcc = (if s.seq.captured then (s.seq.mcc + 1) % 2 ^ 48 else 0) ∧ t.seq.captured = true
          ∧ t.seq.start = s.seq.nextStart ∧ t.seq.nextStart = s.seq.nextStart + 10_000 * s.seq.period ∧ s.seq.nextStart ≤ t.now
          ∧ t.seq.complete = false ∧ t.seq.overrun = false ∧ t.seq.motionList = [] ∧ t.seq.fieldList = [] ∧ t.seq.outWritten = []
          ∧ t.bth.batch = [] ∧ t.svc.mcc = BitVec.ofNat 32 t.seq.mcc ∧ t.seq.notFresh.getLsbD 6 = true ∧ t.seq.notFresh.getLsbD 7 = true
          ∧ (∀ n, (look {} n t.timers).started = ((look {} n s.timers).next).getD (look {} n s.timers).started)
          ∧ t.keep.mode = s.keep.mode ∧ t.image = s.image ∧ t.ctl = s.ctl))
  ∧ (
    ∀ (ns : Nat) (s : State), s.seq.phase = .capture → s.tri.state = .off →
        (s.seq.notFresh.getLsbD 6 = true → netWorks s = true → ns ≤ s.seq.start + 10_000 →
          Completes (.inboxSwap ns) s (fun t => t.seq.inboxFrozen = s.seq.inboxFill ∧ t.seq.inboxFill = 1 - s.seq.inboxFill
            ∧ (∀ b, t.seq.notFresh.getLsbD b = (s.seq.notFresh.getLsbD b && b != 6)) ∧ ns ≤ t.now ∧ t.seq.phase = .capture
            ∧ (∀ c, (t.conn c).frozen = (s.conn c).fill ∧ (t.conn c).fill = none ∧ (t.conn c).status = (s.conn c).status)
            ∧ (∀ i < 0x8_0000, sramWord (inboxBase (1 - s.seq.inboxFill) + 4 * i) t = 0) ∧ t.bth = s.bth ∧ t.mot = s.mot ∧ t.ctl = s.ctl))
        ∧ (s.seq.notFresh.getLsbD 7 = true → ns ≤ s.seq.start + 15_000 →
          let due := (batchOrder (s.bth.filling.filter (fun e => e.stamp + 20 < s.seq.start))).map (fun e => { e with member := 0 })
          Completes (.freezeMark ns) s (fun t =>
            t.bth.batch = due.take (batchMax s) ∧ t.seq.batchRefused = sat 0xFFFF (due.length - batchMax s)
            ∧ t.bth.filling = s.bth.filling.filter (fun e => ¬ e.stamp + 20 < s.seq.start)
            ∧ (∀ b, t.seq.notFresh.getLsbD b = (s.seq.notFresh.getLsbD b && b != 7)) ∧ t.sram = s.sram ∧ t.mot = s.mot ∧ t.ctl = s.ctl)))

/-- R87, R88: a cycle start that finds the cycle before it incomplete, and a second overrun in a row, put the module into HOLD; a first overrun marks
the cycle, and no release takes place; the overrun cycle completes and is discarded, or ends in HOLD when the next start has passed. Where the spec leaves a point open, the model's choice is taken: log entry 31. -/
def Obligations.OverrunsAct : Prop :=
  (∀ (fb mo : Bool) (s : State), sequencerRuns s = true → s.seq.complete = false →
    Completes (.capture fb mo) s (fun t => t.keep.mode = .hold ∧ t.keep.cause = 0x1102))
  ∧ (∀ s : State, (s.keep.mode = .run ∨ s.keep.mode = .degraded) → s.seq.overrun = false → s.seq.complete = false → s.tri.state = .off →
      (s.seq.phase = .capture ∨ s.seq.phase = .agree ∨ s.seq.phase = .evaluate ∨ s.seq.phase = .accordClose ∨ s.seq.phase = .waiting) →
      Completes .release s (fun t => t.seq.overruns = s.seq.overruns + 1 ∧ t.mot = (if s.seq.overruns = 0 then s.mot else t.mot)
        ∧ (s.seq.overruns = 0 → t.seq.overrun = true ∧ t.seq.stale = true ∧ t.seq.phase = s.seq.phase ∧ t.keep.mode = s.keep.mode
            ∧ t.seq.motionList = s.seq.motionList ∧ t.sram = s.sram)
        ∧ (1 ≤ s.seq.overruns → t.keep.mode = .hold ∧ t.keep.cause = 0x1101)))
  ∧ ∀ (at_ : Nat) (s : State), s.seq.overrun = true → s.seq.phase = .waiting → s.seq.complete = false →
      (s.seq.nextStart < max s.now at_ → s.keep.mode ≠ .hold →
        Completes (.overrunCycleComplete at_) s (fun t => t.keep.mode = .hold ∧ t.keep.cause = 0x1102))
      ∧ (max s.now at_ ≤ s.seq.nextStart → Completes (.overrunCycleComplete at_) s (fun t => t.seq.complete = true ∧ t.seq.motionList = [] ∧ t.seq.fieldList = [] ∧ t.seq.stale = true
        ∧ t.mot = s.mot ∧ t.fld = s.fld ∧ (∀ i < 0x8_0000, sramWord (outboxBase s.seq.outboxCur + 4 * i) t = 0)))

/-- R60, R66 to R71, R75, R77, R80, R112: CAPTURE of a module alone ends in EVALUATE with every pass in service at the entry of the program, that of a
triad member in AGREE; EVALUATE ends when every core is done, with the lists in order; ACCORD-CLOSE ends with the output hash and the
times, and overruns when it ends after D(n). Where the spec leaves a point open, the model's choice is taken: log entries 29, 99. -/
def Obligations.PhasesFollow : Prop :=
  ∀ (ns : Nat) (missing : BitVec 8) (s : State), s.keep.mode ≠ .stabled →
    (s.seq.phase = .capture → s.tri.state = .off →
      Completes (.captureEnd ns missing) s (fun t => t.seq.phase = .evaluate ∧ t.seq.srcFlags = s.seq.notFresh ||| missing
        ∧ (∀ c < 64, inService c s = true → ∀ p, ((t.core c).pass p).run = .running ∧ ((t.core c).pass p).arch.regs = []
            ∧ ((t.core c).pass p).arch.pc = BitVec.ofNat 20 s.img.entry ∧ ((t.core c).pass p).seg = 0)
        ∧ t.seq.mcc = s.seq.mcc ∧ t.mot = s.mot ∧ t.ctl = s.ctl))
    ∧ (s.seq.phase = .capture → triadActive s = true →
      Completes (.captureEnd ns missing) s (fun t => t.seq.phase = .agree ∧ t.seq.srcFlags = s.seq.notFresh ||| missing
        ∧ t.seq.mcc = s.seq.mcc ∧ t.cores = s.cores ∧ t.splits = s.splits ∧ t.mot = s.mot ∧ t.ctl = s.ctl))
    ∧ (s.seq.phase = .evaluate → allDone s = true →
      Completes (.evaluateEnd ns) s (fun t => t.seq.phase = .accordClose ∧ t.seq.evalEnd = t.now ∧ ns ≤ t.now
        ∧ t.seq.motionList.Perm s.seq.motionList ∧ t.seq.motionList.Pairwise (fun a b => motionKey a ≤ motionKey b)
        ∧ t.seq.fieldList.Perm s.seq.fieldList ∧ t.seq.fieldList.Pairwise (fun a b => fieldKey a ≤ fieldKey b)
        ∧ t = { s with time := t.time, seq := { s.seq with
            phase := .accordClose, evalEnd := t.now, motionList := t.seq.motionList, fieldList := t.seq.fieldList } }))
    ∧ (s.seq.phase = .accordClose → (s.seq.overrun = true ∨ max s.now ns ≤ s.deadline) →
      Completes (.accordCloseEnd ns) s (fun t => t.seq.phase = .waiting ∧ t.seq.outHash = outputHash s ∧ t.seq.complete = !s.seq.overrun
        ∧ t.seq.tclose = (t.now - s.seq.start) / 10 ∧ t.seq.tmax = max s.seq.tmax t.seq.tclose
        ∧ t = { s with time := t.time, seq := t.seq, tri := t.tri }))
    ∧ (s.seq.phase = .accordClose → s.seq.overrun = false → s.deadline < max s.now ns → s.seq.overruns = 0 →
      Completes (.accordCloseEnd ns) s (fun t => t.seq.phase = .waiting ∧ t.seq.overrun = true ∧ t.seq.complete = false ∧ t.seq.overruns = 1
        ∧ t.seq.stale = true ∧ t.seq.outHash = outputHash s ∧ t.mot = s.mot ∧ t.sram = s.sram ∧ t.keep.mode = s.keep.mode))

/-- R81 to R86, R236: at D(n) a module alone hands over: the motion list to the mailboxes, the field commands and output words to the blocks, the
OUTBOX buffer to the sealer; a triad member sends its HASH. RELEASE ends in HOUSEKEEPING, which proof-tests the JOINED clusters, scrubs and
zeroes the next OUTBOX buffer; a failed proof test and an uncorrectable word of PROG, IMAGE_IN or INBOX lead to HOLD. R204: at the end of a hand-over the cluster takes the mode it was asked for, with event source 22; a failed proof test of a cluster that was
to be JOINED is accord failure 0x1314. Where the spec leaves a point open, the model's choice is taken: log entries 33, 76, 81, 94. -/
def Obligations.ReleaseHandsOver : Prop :=
  (
    (∀ s : State, (s.keep.mode = .run ∨ s.keep.mode = .degraded) → s.seq.overrun = false → s.seq.phase = .waiting → s.seq.complete = true →
        (triadActive s = false →
          Completes .release s (fun t => t.seq.phase = .release ∧ s.deadline ≤ t.now ∧ t.mot.arriving = some { posts := s.seq.motionList }
            ∧ t.seq.motionList = [] ∧ t.seq.fieldList = [] ∧ t.seq.overruns = 0 ∧ t.seq.stale = false
            ∧ t.seq.outboxHeld = some s.seq.outboxCur ∧ t.seq.outboxCur = s.seq.outboxHeld.getD (1 - s.seq.outboxCur)
            ∧ (∀ n < s.blocksFitted, (s.block n).resetAt = none → (s.block n).isolated = false →
                (t.block n).words = some (outWord (0x400 + 0x100 * n) s, outWord (0x401 + 0x100 * n) s, outWord (0x402 + 0x100 * n) s))
            ∧ t.bth.batch = [] ∧ t.keep.liveLow = s.seq.tripFlop ∧ t.sram = s.sram ∧ t.ctl = s.ctl))
        ∧ (triadActive s = true →
          Completes .release s (fun t => t.seq.phase = .release ∧ s.deadline ≤ t.now ∧ t.tri.digestReady = true
            ∧ t = { s with time := t.time, tri := t.tri, seq := { s.seq with phase := .release } })))
      ∧ ∀ (ns scrubbed : Nat) (s : State), s.seq.phase = .release → (triadActive s = true → s.tri.hashed = true) → s.keep.mode ≠ .hold →
          s.keep.mode ≠ .stabled →
          (∀ found : List ScrubFinding, (∀ f ∈ found, scrubCritical f.addr = false) →
            Completes (.releaseEnd ns none scrubbed found) s (fun t => t.seq.phase = .housekeeping ∧ ns ≤ t.now
              ∧ (∀ k < s.clustersFitted, clusterMode k s = 0 → t.seq.proofOk.getLsbD k = true)
              ∧ t.seq.scrubAddr = (s.seq.scrubAddr + min scrubbed (s.seq.quantum * 262_144)) % 0x400_0000
              ∧ (∀ i < 0x8_0000, sramWord (outboxBase s.seq.outboxCur + 4 * i) t = 0) ∧ t.keep = s.keep ∧ t.mot = s.mot))
          ∧ (∀ f : ScrubFinding, f.ecc = .uncorrectable → scrubCritical f.addr = true →
              (f.addr + 0x400_0000 - s.seq.scrubAddr) % 0x400_0000 < min scrubbed (s.seq.quantum * 262_144) →
              Completes (.releaseEnd ns none scrubbed [f]) s (fun t => t.keep.mode = .hold ∧ t.keep.cause = 0x110A))
          ∧ (∀ (f : ProofFail) (found : List ScrubFinding), clusterMode f.cluster s = 0 → f.cluster.val < s.clustersFitted →
              Completes (.releaseEnd ns (some f) scrubbed found) s (fun t => t.keep.mode = .hold ∧ t.keep.cause = 0x1314
                ∧ t.seq.faulted.getLsbD f.cluster = true ∧ t.seq.proofOk.getLsbD f.cluster = false ∧ t.keep.tripLow = true)))
  ∧ (
    ∀ (k : Fin 8) (m : Nat) (s : State), look none k.val (s.seq.clTarget.map (fun p => (p.1, some p.2))) = some m → s.keep.mode ≠ .hold →
        Completes (.clusterHandoverComplete k none) s (fun t => clusterMode k t = m ∧ t.svc.toggles = s.svc.toggles ++ [(22, s.now)]
          ∧ (∀ j, j ≠ k.val → clusterMode j t = clusterMode j s) ∧ (∀ p ∈ t.seq.clTarget, p.1 ≠ k.val)
          ∧ (m = 0 → t.seq.proofOk.getLsbD k = true) ∧ t = { s.noted t with seq := t.seq })
        ∧ (m = 0 → ∀ f : ProofFail, f.cluster = k →
            Completes (.clusterHandoverComplete k (some f)) s (fun t => t.keep.mode = .hold ∧ t.keep.cause = 0x1314
              ∧ t.seq.faulted.getLsbD k = true ∧ t.seq.proofOk.getLsbD k = false)))

/-! ### Triad and towpath -/

/-- R210, R211, R245: an accepted HELLO is counted and kept: its state, view, times, and whether it matches; the link is then in HELLO exchange. R219, R222, R226, R231, R236: what a cycle frame of a present peer leaves with the member: the deviation of its start, its chunk of the
contribution, the end of its relay set, its SUMMARY, its HASH, of which the first copy counts. Data after its deadline is counted as late. R216, R217, R231, R239, R246: RELAY, NOTICE, XFER and ACK. A relayed message joins those that wait for the peer's next CUT; a peer that gives
notice is lost at the next boundary; transfer data is kept by sender; a newer ack releases what it acknowledges, a repeated one has every
frame held sent again. R250: a frame that fails a check is not taken: the last accepted number stays, and a wrong triad, sender or receiver loses the peer; a link
without block lock ignores every frame. Where the spec leaves a point open, the model's choice is taken: log entries 24, 39, 73, 74, 92. -/
def Obligations.TowpathFrames : Prop :=
  (
    ∀ (p : Fin 2) (w : WireFrame) (s : State), TowAccepts p tHello w s →
        let l := towPayload w
        let fits := helloMatches (w32 (beAt 4 4 l)) (slice 24 32 l) (slice 56 32 l) s
        Completes (.hello p w) s (fun t =>
          (t.tp p).rxSeq = some (towSeq w) ∧ (t.tp p).hellosIn = (s.tp p).hellosIn + 1 ∧ (t.tp p).helloState = beAt 0 1 l
          ∧ (t.tp p).helloView = beAt 1 1 l ∧ (t.tp p).helloMatch = fits ∧ (t.tp p).t1 = towTsend w
          ∧ (t.tp p).t2 = towArrival w ∧ (t.tp p).helloAt = some t.now ∧ 2 ≤ (t.tp p).state ∧ (s.tp p).state ≤ (t.tp p).state
          ∧ (fits = true → beAt 0 1 l = 1 → (t.tp p).matching = (s.tp p).matching + 1)
          ∧ (fits = false → (t.tp p).matching = 0 ∧ (t.tp p).viol = sat 0xFFFF ((s.tp p).viol + 1)
              ∧ (s.tri.state ≠ .forming → (s.peer (s.peerOf p)).present = true → (t.peer (s.peerOf p)).lostDue.isSome = true))
          ∧ (0 < (s.tp p).meas.length ∨ beAt 8 8 l ≠ 0 ∨ beAt 16 8 l ≠ 0 → (t.tp p).meas ≠ []) ∧ t.sram = s.sram ∧ t.ctl = s.ctl))
  ∧ (
    ∀ (p : Fin 2) (w : WireFrame) (s : State),
        let l := towPayload w
        let x := s.peerOf p
        let Q := s.peer x
        let arrived := max s.now w.arrive
        let late := fun (t : State) => (t.tp p).late = sat 0xFFFF ((s.tp p).late + 1) ∧ (t.tp p).rxSeq = some (towSeq w)
        (CycleFrameCounts p tCycle w s → s.tri.decided = false →
          Completes (.cycle p w) s (fun t => TowTakes p w s t
            ∧ (t.peer x).dev = some ((towArrival w : Int) - (s.tp p).latency - ((towTsend w : Int) - beAt 0 8 l) - s.seq.start)))
        ∧ (CycleFrameCounts p tContrib w s → s.tri.summarised = false → s.tri.decided = false →
            let o := beAt 0 4 l
            let total := beAt 4 4 l
            let n := (l.drop 8).length
            (arrived ≤ s.seq.start + 80_000 → o + n ≤ total → total ≤ 25_680 → (Q.ranges = [] ∨ Q.total = total) →
              Completes (.contrib p w) s (fun t => (t.tp p).rxSeq = some (towSeq w) ∧ (t.peer x).total = total
                ∧ (t.peer x).ranges = (o, n) :: Q.ranges ∧ (t.peer x).contribMcc = s.seq.mcc
                ∧ (t.peer x).complete = coversAll ((o, n) :: Q.ranges) total
                ∧ (State.wf s → sramBytes (contribBase x + o) n t = l.drop 8)))
            ∧ (s.seq.start + 80_000 < arrived → Completes (.contrib p w) s (fun t => late t ∧ (t.peer x).ranges = Q.ranges)))
        ∧ (CycleFrameCounts p tCut w s → s.tri.summarised = false → s.tri.decided = false → arrived ≤ s.seq.start + 80_000 →
            Completes (.cut p w) s (fun t => TowTakes p w s t ∧ (t.peer x).cut = true ∧ (t.peer x).relays = Q.relaysNext ∧ (t.peer x).relaysNext = []))
        ∧ (CycleFrameCounts p tSummary w s → s.tri.decided = false → arrived ≤ s.seq.start + 90_000 →
            Completes (.summary p w) s (fun t => TowTakes p w s t
              ∧ (t.peer x).summary = some ((List.range 3).map (fun m => (beAt (68 * m) 4 l, slice (68 * m + 4) 32 l, slice (68 * m + 36) 32 l)))))
        ∧ (CycleFrameCounts p tHash w s → s.tri.hashed = false → arrived ≤ s.deadline + 15_000 →
            Completes (.hash p w) s (fun t => TowTakes p w s t
              ∧ (t.peer x).hash = some (Q.hash.getD (beAt 0 4 l == 1, slice 8 32 l, slice 40 32 l)))))
  ∧ (
    ∀ (p : Fin 2) (w : WireFrame) (s : State),
        let l := towPayload w
        let x := s.peerOf p
        let Q := s.peer x
        (TowAccepts p tRelay w s → triadActive s = true → Q.present = true ∨ s.tri.joiner = some x →
          Completes (.relay p w) s (fun t => TowTakes p w s t
            ∧ (t.peer x).relaysNext = Q.relaysNext ++ [{ conn := beAt 0 2 l, seq := w32 (beAt 4 4 l), words := beWords (beAt 2 2 l / 4) (l.drop 8) }]))
        ∧ (TowAccepts p tNotice w s → Q.present = true ∨ s.tri.joiner = some x →
            Completes (.notice p w) s (fun t => TowTakes p w s t ∧ (t.peer x).lostDue.isSome = true ∧ (t.peer x).present = Q.present))
        ∧ (TowAccepts p tXfer w s → s.tri.state = .joining → s.tri.xferDone = false → s.seq.captured = false →
            let o := beAt 0 4 l
            let total := beAt 4 4 l
            Completes (.xfer p w) s (fun t => TowTakes p w s t ∧ t.tri.xferAt = t.now
              ∧ (total ≤ o → look [] x t.tri.xferHash = l.drop 8)
              ∧ (o < total → look 0 x t.tri.xferTotal = total
                  ∧ look [] x t.tri.xferRanges = (o, (l.drop 8).length) :: look [] x s.tri.xferRanges
                  ∧ ∀ (i : Nat) (b : Byte), (l.drop 8)[i]? = some b → look 0 (o + i) (look [] x t.tri.xferBytes) = b)))
        ∧ (TowAccepts p tAck w s → (s.tp p).waiting = [] → towSnap w = false →
            let last := (s.tp p).acked.getD 0xFFFF_FFFF
            (towAck w ≠ last → (towAck w - last).toNat < 2 ^ 31 →
              Completes (.ack p w) s (fun t => (t.tp p).acked = some (towAck w)
                ∧ (t.tp p).buffer = (s.tp p).buffer.drop ((s.tp p).buffer.filter (fun b => (towAck w - b.frame.seq).toNat < 2 ^ 31)).length
                ∧ t = { s with time := t.time, tri := t.tri } ∧ t.tri.sent = s.tri.sent ∧ (t.tp p).rxSeq = (s.tp p).rxSeq))
            ∧ (towAck w = last → (∀ b ∈ (s.tp p).buffer, b.retx < 3) →
              Completes (.ack p w) s (fun t => (t.tp p).buffer.map TpSent.retx = (s.tp p).buffer.map (fun b => b.retx + 1)
                ∧ (t.tp p).buffer.map (fun b => b.frame.seq) = (s.tp p).buffer.map (fun b => b.frame.seq)
                ∧ t = { s with time := t.time, tri := t.tri }
                ∧ t.tri.sent.length = s.tri.sent.length + (s.tp p).buffer.length ∧ (t.tp p).rxSeq = (s.tp p).rxSeq))))
  ∧ (
    ∀ (p : Fin 2) (w : WireFrame) (s : State), s.keep.mode ≠ .stabled →
        let run := Completes (.hello p w) s
        let live := (s.tp p).state ≠ 0 ∧ s.tri.state ≠ .off ∧ netWorks s = true
        ((s.tp p).state = 0 → run (fun t => t = { s with time := t.time }))
        ∧ (live → towIntact w = false → run (fun t => (t.tp p).rxSeq = (s.tp p).rxSeq ∧ (t.tp p).crc = sat 0xFFFF ((s.tp p).crc + 1)
            ∧ (t.tp p).hellosIn = (s.tp p).hellosIn ∧ t.tri.peers = s.tri.peers))
        ∧ (live → towIntact w = true → (towType w = tHello ∨ towType w = 0 ∨ 0xC < towType w) → towFormOk w = false →
            run (fun t => (t.tp p).rxSeq = (s.tp p).rxSeq ∧ (t.tp p).viol = sat 0xFFFF ((s.tp p).viol + 1) ∧ (t.tp p).hellosIn = (s.tp p).hellosIn))
        ∧ (live → towIntact w = true → towType w = tHello → towFormOk w = true →
            towTriad w ≠ s.triadId ∨ towSender w ≠ s.peerOf p ∨ towReceiver w ≠ s.member →
            run (fun t => (t.tp p).rxSeq = (s.tp p).rxSeq ∧ (t.tp p).viol = sat 0xFFFF ((s.tp p).viol + 1)
              ∧ (t.peer (s.peerOf p)).lostDue.isSome = true)))

/-- R212, R213, R214: a frame on the wire: the header fields, the payload and the CRC-32C of both are where the layout has them, so that a receiver
reads back every field, for every frame whose fields fit. -/
def Obligations.FramesRoundTrip : Prop :=
  ∀ (f : TpFrame) (at_ : Nat), f.typ < 16 → f.sender < 4 → f.receiver < 4 → f.payload.length ≤ 2_048 → f.payload.length % 8 = 0 →
    f.mcc < 2 ^ 48 → f.triad < 2 ^ 16 → f.tsend < 2 ^ 64 →
    let w : WireFrame := { bytes := f.wire, control := true, arrive := at_ }
    towIntact w = true ∧ towType w = f.typ ∧ towSender w = f.sender ∧ towReceiver w = f.receiver ∧ towSnap w = f.snap
    ∧ towSeq w = f.seq ∧ towAck w = f.ack ∧ towMcc w = f.mcc ∧ towTriad w = f.triad ∧ towTsend w = f.tsend ∧ towPayload w = f.payload

/-- R245, R248: JOIN of a peer that matches is granted by the lower-indexed pair member for cycle J eight cycles on, when both links are up and the
last grant is 16 cycles past, and is refused with 0x5825 otherwise; GRANT makes a FORMING member a joiner of that cycle, tells the other pair
member, and starts a triad. R210, R216, R217, R239, R244, R245: the timers of the towpath: HELLO every 1 ms on a link with block lock, ACK after 2 µs, retransmission after
20 µs, JOIN again after 1 s, the loss of block lock, and silence of 2 ms, which takes the link down and loses the peer. Where the spec leaves a point open, the model's choice is taken: log entries 38, 72, 92. -/
def Obligations.JoinAndTimers : Prop :=
  (
    ∀ (p : Fin 2) (w : WireFrame) (s : State),
        let l := towPayload w
        let x := s.peerOf p
        (TowAccepts p tJoin w s → s.tri.state = .pair → (s.peer x).present = false → (∀ y ∈ presentPeers s, s.member < y) →
          ((s.tp 0).state = 3 → (s.tp 1).state = 3 → (∀ m, s.tri.lastGrant = some m → m + 16 ≤ s.seq.mcc) → s.tri.joiner = none →
            (s.tp p).helloMatch = true →
            Completes (.join p w true) s (fun t => TowTakes p w s t ∧ t.tri.joiner = some x ∧ t.tri.joinAt = some (s.seq.mcc + 8)
              ∧ t.tri.lastGrant = some s.seq.mcc ∧ t.tri.state = .pair ∧ t.tri.members = s.tri.members ||| BitVec.ofNat 3 (2 ^ x)))
          ∧ Completes (.join p w false) s (fun t => TowTakes p w s t ∧ t.tri.joiner = s.tri.joiner ∧ t.tri.members = s.tri.members))
        ∧ (TowAccepts p tGrant w s → beAt 0 4 l = 1 → s.tri.state = .forming →
            Completes (.grant p w) s (fun t => TowTakes p w s t ∧ t.tri.state = .joining ∧ t.tri.joinAt = some (beAt 8 8 l)
              ∧ t.tri.members = BitVec.ofNat 3 (beAt 4 4 l) ∧ t.tri.xferDone = false ∧ ∀ y ∈ s.others, (t.peer y).present = true))
        ∧ (TowAccepts p tGrant w s → beAt 0 4 l = 1 → s.tri.state = .pair → (s.peer x).present = true →
            Completes (.grant p w) s (fun t => TowTakes p w s t ∧ t.tri.joinAt = some (beAt 8 8 l) ∧ t.tri.state = .pair
              ∧ ∃ y ∈ s.others, y ≠ x ∧ t.tri.joiner = some y))
        ∧ (TowAccepts p tGrant w s → beAt 0 4 l = 0 → beAt 4 4 l = 7 → s.tri.state = .forming → s.member < 3 →
            Completes (.grant p w) s (fun t => t.tri.state = .triad ∧ t.tri.members = 7
              ∧ t.seq.nextStart = ((beAt 8 8 l : Int) + towArrival w - (s.tp p).latency - towTsend w).toNat
              ∧ (∀ y ∈ s.others, (t.peer y).present = true) ∧ t.keep.mode = s.keep.mode)))
  ∧ (
    ∀ (p : Fin 2) (ns : Nat) (s : State), s.keep.mode ≠ .stabled →
        let now := max s.now ns
        let room := (s.tp p).buffer.length < 64
        (s.tri.state ≠ .off → s.tri.state ≠ .out → s.tri.helloAt ≤ now → netWorks s = true → (s.tp p).state ≠ 0 → room →
          Completes (.helloTimer ns) s (fun t => t.tri.helloAt = t.now + 1_000_000 ∧ t.now = now ∧ (t.tp p).hellosOut = (s.tp p).hellosOut + 1
            ∧ (t.tp p).txSeq = (s.tp p).txSeq + 1 ∧ (∃ f ∈ t.tri.sent, f.1 = p.val ∧ f.2.typ = 1 ∧ f.2.seq = (s.tp p).txSeq)
            ∧ t = { s with time := t.time, tri := t.tri }))
        ∧ (∀ d, (s.tp p).ackDue = some d → d ≤ now →
            Completes (.ackDue p ns) s (fun t => (t.tp p).ackDue = none ∧ (t.tp p).txSeq = (s.tp p).txSeq
              ∧ (∃ f ∈ t.tri.sent, f.1 = p.val ∧ f.2.typ = 0xB ∧ f.2.ack = (s.tp p).rxSeq.getD 0xFFFF_FFFF) ∧ t = { s with time := t.time, tri := t.tri }))
        ∧ (∀ b rest, (s.tp p).buffer = b :: rest → b.sentAt + 20_000 ≤ now → (∀ x ∈ (s.tp p).buffer, x.retx < 3) →
            Completes (.retransmitTimeout p ns) s (fun t => (t.tp p).buffer.map TpSent.retx = (s.tp p).buffer.map (fun x => x.retx + 1)
              ∧ (t.tp p).retx = sat 0xFFFF ((s.tp p).retx + (s.tp p).buffer.length) ∧ t = { s with time := t.time, tri := t.tri }))
        ∧ (∀ d, s.tri.joinTry = some d → d ≤ now → canJoin s = true → (s.tp p).buffer.length < 64 →
            Completes (.joinRetry ns) s (fun t => t.tri.joinTry = some (t.now + 1_000_000_000)
              ∧ (∃ f ∈ t.tri.sent, f.1 = p.val ∧ f.2.typ = 8) ∧ t = { s with time := t.time, tri := t.tri }))
        ∧ ((s.tp p).state = 3 → s.tri.state ≠ .triad →
            (Completes (.blockLockLost p ns) s (fun t => (t.tp p).state = 0 ∧ (t.tp p).rxSeq = none ∧ (t.tp p).buffer = []
              ∧ (t.peer (s.peerOf p)).lostDue.isSome = true ∧ t = { s.noted t with tri := t.tri }))
            ∧ ((s.tp p).lastValid + 2_000_000 ≤ now → Completes (.towpathReceiveTimeout p ns) s (fun t => (t.tp p).state = 1
              ∧ (t.tp p).rxSeq = none ∧ (t.tp p).buffer = [] ∧ (t.peer (s.peerOf p)).lostDue.isSome = true ∧ t = { s.noted t with tri := t.tri })))
        ∧ ((s.tp p).state = 0 → netWorks s = true →
            Completes (.blockLockAcquired p) s (fun t => (t.tp p).state = 1 ∧ t.svc.toggles = s.svc.toggles ++ [(219, s.now)]
              ∧ t = { s.noted t with tri := t.tri })))

/-- R225, R226, R233, R235, R70: the deadlines of AGREE: the SUMMARY has left at 80 µs, the contributions are chosen at 90 µs, EVALUATE begins at 96 µs at
the latest; the image digest is ready when it has been formed. R227: the agreed value of a word: of three used contributions the value two agree on, with the third outvoted; of two the common value; in
every other case the restrictive value. Where the spec leaves a point open, the model's choice is taken: log entry 74. -/
def Obligations.AgreementOfWords : Prop :=
  (
    ∀ (ns : Nat) (s : State), s.keep.mode ≠ .stabled →
        (s.seq.phase = .agree → s.tri.state ≠ .joining →
          Completes .dataDeadline s (fun t => t.tri.summarised = true ∧ s.seq.start + 80_000 ≤ t.now ∧ t = { s with time := t.time, tri := t.tri }))
        ∧ (s.seq.phase = .agree → s.tri.state = .joining →
          Completes .dataDeadline s (fun t => t.tri = s.tri ∧ s.seq.start + 80_000 ≤ t.now ∧ t = { s with time := t.time }))
        ∧ (s.seq.phase = .agree →
            Completes .summaryDeadline s (fun t => t.tri.decided = true ∧ s.seq.start + 90_000 ≤ t.now ∧ t.seq.phase = .agree ∧ t.sram = s.sram)
            ∧ Completes (.agreeEnd ns) s (fun t => t.seq.phase = .evaluate ∧ t.tri.decided = true ∧ t.seq.agreeEnd = t.now
                ∧ t.now = max s.now (min ns (s.seq.start + 96_000)) ∧ t.mot = s.mot ∧ t.ctl = s.ctl))
        ∧ (triadActive s = true → s.tri.decided = true → (s.seq.phase = .evaluate ∨ s.seq.phase = .accordClose ∨ s.seq.phase = .waiting) →
            Completes (.imageDigestComplete ns) s (fun t => t.tri.digestReady = true
              ∧ t.tri.digest = (if s.tri.digestReady then s.tri.digest else imageDigest s) ∧ t = { s with time := t.time, tri := t.tri })))
  ∧ (
    ∀ (i j k a b c r : Nat),
        (agreeWord [(i, a), (j, b), (k, c)] r = (a, false, none) ↔ (a = b ∧ b = c))
        ∧ (∀ v m, agreeWord [(i, a), (j, b), (k, c)] r = (v, false, some m) ↔
            (m = k ∧ v = a ∧ a = b ∧ b ≠ c) ∨ (m = j ∧ v = a ∧ a = c ∧ a ≠ b) ∨ (m = i ∧ v = b ∧ b = c ∧ a ≠ b))
        ∧ (agreeWord [(i, a), (j, b), (k, c)] r = (r, true, none) ↔ a ≠ b ∧ a ≠ c ∧ b ≠ c)
        ∧ agreeWord [(i, a), (j, b)] r = (if a = b then (a, false, none) else (r, true, none))
        ∧ agreeWord [(i, a)] r = (r, true, none) ∧ agreeWord [] r = (r, true, none))

/-- R237, R238, R239: the release decision of a TRIAD or PAIR member at D(n) + 15 µs. With a matching peer the cycle is released; with both absent
nothing is released and the mode stays; a member whose two peers match each other and not it leaves; every other mismatch is HOLD. R247, R249: 10 µs before its first cycle a joiner accepts the transfer when by then it holds both halves and the two hashes equal that of the
whole; otherwise the attempt has failed and the member is FORMING again. Where the spec leaves a point open, the model's choice is taken: log entry 73. -/
def Obligations.ReleaseAndTransferDecide : Prop :=
  (
    ∀ s : State, s.tri.hashed = false → s.seq.phase = .release → (s.keep.mode = .run ∨ s.keep.mode = .degraded) →
        let a := (peerViews s).1
        let b := (peerViews s).2
        let run := Completes .hashDeadline s
        let released := fun (t : State) => t.tri.hashed = true ∧ t.seq.motionList = [] ∧ t.mot.arriving = some { posts := s.seq.motionList }
          ∧ t.keep.mode = s.keep.mode ∧ t.seq.stale = false
        let held := fun (code : Nat) (t : State) => t.keep.mode = .hold ∧ t.keep.cause = BitVec.ofNat 16 code ∧ t.tri.state = .out
          ∧ t.seq.motionList = [] ∧ t.mot.arriving = none
        (s.tri.state = .triad →
          (a = .match_ ∨ b = .match_ → run released)
          ∧ (a = .absent → b = .absent → run (fun t => t.keep.mode = s.keep.mode ∧ t.mot = s.mot ∧ t.seq.stale = true ∧ t.seq.motionList = []))
          ∧ (a = .differ → b = .differ → run (held (if peersMatch s then 0x5803 else 0x5807)))
          ∧ ((a = .differ ∧ b = .absent) ∨ (a = .absent ∧ b = .differ) → run (held 0x5807)))
        ∧ (s.tri.state = .pair →
            (a = .match_ ∨ b = .match_ → run released)
            ∧ (a = .absent → b = .absent → run (fun t => t.keep.mode = s.keep.mode ∧ t.mot = s.mot ∧ t.seq.stale = true))
            ∧ (a ≠ .match_ → b ≠ .match_ → (a = .differ ∨ b = .differ) → run (held 0x5807)))
        ∧ (s.tri.state = .joining →
            (a = .match_ → b = .match_ → run (fun t => t.tri.probation = min 16 (s.tri.probation + 1) ∧ t.mot = s.mot ∧ t.keep.mode = s.keep.mode))
            ∧ (a ≠ .match_ ∨ b ≠ .match_ → run (held 0x5823))))
  ∧ (
    ∀ (start x y : Nat) (s : State), s.tri.state = .joining → s.tri.xferDone = false → s.seq.captured = false → s.others = [x, y] →
        s.keep.mode ≠ .stabled →
        let d := stateHash (xferHalf x s) (xferHalf y s)
        let inTime := s.tri.xferAt + 10_000 ≤ start
        (inTime → xferHeld x s = true → xferHeld y s = true → look [] x s.tri.xferHash = d → look [] y s.tri.xferHash = d →
          Completes (.xferDeadline start) s (fun t => t.tri.xferDone = true ∧ t.tri.state = .joining ∧ t.seq.nextStart = start
            ∧ t = { s with time := t.time, tri := t.tri, sram := t.sram, timers := t.timers, seq := { s.seq with nextStart := start } }))
        ∧ (¬ inTime ∨ xferHeld x s = false ∨ xferHeld y s = false ∨ look [] x s.tri.xferHash ≠ d ∨ look [] y s.tri.xferHash ≠ d →
          Completes (.xferDeadline start) s (fun t => t.tri.state = .forming ∧ t.tri.attempts = min 4 (s.tri.attempts + 1) ∧ t.tri.members = 0
            ∧ t.tri.joinAt = none ∧ t = { s.noted t with tri := t.tri })))

/-! ### Ethernet ports and Yala -/

/-- R252, R253, R254: a frame of a port whose link is up is counted, one with a bad FCS or longer than the port admits as an FCS error; an
ARP request for the port's own address is answered through the egress queues, any other is discarded; TCP to the endpoint of a berth
passes on, other traffic is discarded. A link that comes up is recorded, with one gratuitous ARP where the port has an address; a
link that goes down is recorded; both are event source 195; SGMII at another speed is 0x5003, failed training 0x5002. A port whose
link is down, or whose region does not work, takes no frame. Where the spec leaves a point open, the model's choice is taken: log entry 95. -/
def Obligations.PortsAct : Prop :=
  ∀ (p : Fin 4) (s : State),
    let Q := s.port p
    let ip := ctlGet (portReg p 0x10) s
    let own := ownMac p s
    let leaves := fun (f : List Byte) (t : State) =>
      t.net.sent = s.net.sent ++ (egressOrder (Q.egress ++ [(0, f)])).map (fun x => { port := p.val, frame := x })
        ∧ (t.port p).egress = [] ∧ (t.port p).tx = sat 0xFFFF_FFFF (Q.tx + (egressOrder (Q.egress ++ [(0, f)])).length)
    (netWorks s = true → Q.link = true →
      (∀ (mac : BitVec 48) (asker tgt : Word),
        (tgt ≠ 0 → tgt = ip → Completes (.arpRequest p mac asker tgt) s (fun t =>
            leaves (be 6 mac.toNat ++ be 6 own ++ be 2 0x0806 ++ arpPacket 2 own ip.toNat mac.toNat asker.toNat) t
            ∧ (t.port p).rx = sat 0xFFFF_FFFF (Q.rx + 1) ∧ (t.port p).other = Q.other ∧ t = { s with net := t.net }))
        ∧ (tgt = 0 ∨ tgt ≠ ip → Completes (.arpRequest p mac asker tgt) s (fun t =>
            t.net.sent = s.net.sent ∧ (t.port p).rx = sat 0xFFFF_FFFF (Q.rx + 1) ∧ (t.port p).other = sat 0xFFFF (Q.other + 1)
            ∧ t = { s with net := t.net })))
      ∧ (∀ (fcsOk : Bool) (n : BitVec 16) (g : Option TcpSegment), Completes (.nonYalaFrame p fcsOk n g) s (fun t =>
          t.net.sent = s.net.sent ∧ t = { s with net := t.net }
          ∧ (fcsOk = false ∨ clientMax p s < n.toNat → (t.port p).fcs = sat 0xFFFF (Q.fcs + 1) ∧ (t.port p).rx = Q.rx)
          ∧ (fcsOk = true → n.toNat ≤ clientMax p s → (t.port p).rx = sat 0xFFFF_FFFF (Q.rx + 1) ∧ (t.port p).fcs = Q.fcs
              ∧ ((∃ x, g = some x ∧ toBerth p x s = true) → (t.port p).other = Q.other)
              ∧ ((∀ x, g = some x → toBerth p x s = false) → (t.port p).other = sat 0xFFFF (Q.other + 1)))))
      ∧ Completes (.portLinkDown p) s (fun t => (t.port p).link = false ∧ t.svc.toggles = s.svc.toggles ++ [(195, s.now)]
          ∧ t.jnl = (record 0x5001 [p] s).jnl ∧ t.keep = s.keep ∧ t = { s.noted t with net := t.net }))
    ∧ (netWorks s = false ∨ Q.link = false →
        (∀ (mac : BitVec 48) (asker tgt : Word), exec (.arpRequest p mac asker tgt) s = .next s)
        ∧ ∀ (fcsOk : Bool) (n : BitVec 16) (g : Option TcpSegment), exec (.nonYalaFrame p fcsOk n g) s = .next s)
    ∧ (Q.link = false → exec (.portLinkDown p) s = .next s)
    ∧ (netWorks s = true → Q.link = false → portCfgOk p s = true →
        (∀ (fec fast : Bool),
          (p.val < 2 ∨ fast = true → Completes (.portLinkUp p fec fast) s (fun t =>
            (t.port p).link = true ∧ t.svc.toggles = s.svc.toggles ++ [(195, s.now)]
            ∧ t.jnl = (record 0x5000 [p] s).jnl ∧ (ip = 0 → t.net.sent = s.net.sent)
            ∧ (ip ≠ 0 → leaves (be 6 (2 ^ 48 - 1) ++ be 6 own ++ be 2 0x0806 ++ arpPacket 1 own ip.toNat 0 ip.toNat) t)
            ∧ t = { s.noted t with net := t.net }))
          ∧ (2 ≤ p.val → fast = false → Completes (.portLinkUp p fec fast) s (fun t =>
              t.jnl = (record 0x5003 [p] s).jnl ∧ t.net = s.net ∧ t = s.noted t)))
        ∧ Completes (.trainingOrNegotiationFailed p) s (fun t => t.net = s.net ∧ t = s.noted t
            ∧ (p.val < 2 → cf (portReg p 0) 2 1 s = 0 → t.jnl = (record 0x5002 [p] s).jnl)))

/-- R255 to R259, R269, R270, R272, R273: a Yala unit, raw or in UDP, with or without protection, that passes every check of its connection puts
its message `m` into the connection's slot of the INBOX buffer being filled; the slot holds its sequence number and a triad member relays
it. A message that is not newer, or that comes for a closed connection, is counted and leaves the slot as it was. R272, R274, R275: what a Yala frame that is turned away leaves: one with a bad FCS or too long is an FCS error of the port; a bad outer header
is violation 0x5200 of the port, an unknown pair of ends 0x5201, an IPv4 fragment 0x5207; a wrong source is violation 0x5202 of the
connection, wrong protection 0x5203, both with a masquerade alarm and event source 194; wrong safety codes are 0x5204, a wrong inner
header 0x5205; no message is placed. Outside RUN and DEGRADED a violation after a full second starts the next interval. Where the spec leaves a point open, the model's choice is taken: log entries 70, 71, 95. -/
def Obligations.YalaUnits : Prop :=
  (
    ∀ (p : Fin 4) (f : NetFrame) (c : Nat) (m : List Byte) (s : State),
        let T := s.net.table
        let u := f.bytes
        let len := beAt 2 2 u
        let tagLen := if connProt T c = 0 then 0 else 16
        let inner := slice 8 len u
        let w := fun k => beAt (4 * k) 4 m
        let n := bits 15 0 (w 0) / 4
        let seq := BitVec.ofNat 32 (w 3)
        let ws := (List.range (10 + n)).map (fun j => BitVec.ofNat 32 (w j))
        let cover := idBlock c true s ++ (List.range (8 + n)).map w
        let K := s.conn c
        let isNew := ∀ r, K.ref = some r → newer seq r = true ∧ ∀ q, K.fill = some q → newer seq q.seq = true
        netWorks s = true → (s.port p).link = true → f.fcsOk = true → (if f.raw then 0 else 28) + u.length ≤ clientMax p s →
        (f.raw = true → cbit 0x0410_0000 1 s = true) →
        (f.raw = false → cbit 0x0410_0000 0 s = true ∧ ctlGet (portReg p 0x10) s ≠ 0 ∧ f.dstIp = ctlGet (portReg p 0x10) s
          ∧ f.dstPort.toNat = cf 0x0410_0000 31 16 s ∧ f.fragment = false ∧ f.sumsOk = true) →
        (u.headD 0).toNat = 0x10 + 4 * connProt T c → connProt T c < 3 → beAt 4 1 u = 0 → 40 ≤ len → len ≤ 1440 → len % 4 = 0 →
        8 + len + tagLen ≤ u.length →
        matchConn (beAt 4 4 inner) (beAt 8 4 inner) s = some c → sourceOk c p f s = true →
        openUnit c (u.take 8) inner (slice (8 + len) tagLen u) s = some m →
        bits 31 28 (w 0) = 1 → bits 27 24 (w 0) = 1 → 40 + bits 15 0 (w 0) = m.length → 10 + n ≤ connS T c →
        safetyCode false cover = BitVec.ofNat 32 (w (8 + n)) → safetyCode true cover = BitVec.ofNat 32 (w (9 + n)) →
          (K.state ≠ 2 → isNew → placesOwn s = true → Completes (.yalaUnitReceived p f) s (fun t =>
              (t.conn c).fill = some { seq := seq, src := s.member } ∧ (t.conn c).state = K.state ∧ (t.conn c).dup = K.dup
              ∧ (t.port p).rx = sat 0xFFFF_FFFF ((s.port p).rx + 1) ∧ t.sram = (placeMsg c s.seq.inboxFill ws s).sram
              ∧ t = { s with net := t.net, sram := t.sram, tri := t.tri }
              ∧ (triadActive s = false → t.tri = s.tri)
              ∧ (triadActive s = true → t.tri.ownRelaysNext = s.tri.ownRelaysNext ++ [{ conn := c, seq := seq, words := ws }])))
          ∧ (K.state = 2 ∨ ¬ isNew → Completes (.yalaUnitReceived p f) s (fun t =>
              t.conn c = { K with dup := sat 0xFFFF (K.dup + 1) } ∧ (t.port p).rx = sat 0xFFFF_FFFF ((s.port p).rx + 1)
              ∧ t = { s with net := t.net })))
  ∧ (
    ∀ (p : Fin 4) (f : NetFrame) (s : State), netWorks s = true → (s.port p).link = true →
        let T := s.net.table
        let u := f.bytes
        let b0 := (u.headD 0).toNat
        let len := beAt 2 2 u
        let tagLen := if bits 3 2 b0 = 0 then 0 else 16
        let inner := slice 8 len u
        let toModule := f.fcsOk = true ∧ (if f.raw then 0 else 28) + u.length ≤ clientMax p s ∧ (f.raw = true → cbit 0x0410_0000 1 s = true)
          ∧ (f.raw = false → cbit 0x0410_0000 0 s = true ∧ ctlGet (portReg p 0x10) s ≠ 0 ∧ f.dstIp = ctlGet (portReg p 0x10) s
              ∧ f.dstPort.toNat = cf 0x0410_0000 31 16 s)
        let isUnit := toModule ∧ (f.raw = false → f.fragment = false ∧ f.sumsOk = true)
        let badHead := bits 7 4 b0 ≠ 1 ∨ bits 1 0 b0 ≠ 0 ∨ bits 3 2 b0 = 3 ∨ beAt 4 1 u ≠ 0 ∨ len % 4 ≠ 0 ∨ 1440 < len ∨ len < 40
          ∨ u.length < 8 + len + tagLen
        let known := fun c => isUnit ∧ ¬ badHead ∧ matchConn (beAt 4 4 inner) (beAt 8 4 inner) s = some c
        let opens := fun (c : Nat) (m : List Byte) => known c ∧ sourceOk c p f s = true
          ∧ openUnit c (u.take 8) inner (slice (8 + len) tagLen u) s = some m
        let goodInner := fun (c : Nat) (m : List Byte) => bits 31 28 (beAt 0 4 m) = 1 ∧ bits 27 24 (beAt 0 4 m) = 1
          ∧ 40 + bits 15 0 (beAt 0 4 m) = m.length ∧ 10 + bits 15 0 (beAt 0 4 m) / 4 ≤ connS T c
        let goodCodes := fun (c : Nat) (m : List Byte) =>
          let n := bits 15 0 (beAt 0 4 m) / 4
          let cover := idBlock c true s ++ (List.range (8 + n)).map (fun k => beAt (4 * k) 4 m)
          safetyCode false cover = BitVec.ofNat 32 (beAt (4 * (8 + n)) 4 m) ∧ safetyCode true cover = BitVec.ofNat 32 (beAt (4 * (9 + n)) 4 m)
        let goesOn := s.keep.mode = .run ∨ s.keep.mode = .degraded ∨ s.now < s.net.interval + 1_000_000_000
        let run := Completes (.yalaUnitReceived p f) s
        let counts := fun (code : Nat) (t : State) => t.net.alarms = s.net.alarms ∧ t.sram = s.sram
          ∧ (goesOn → look 0 code (t.port p).viol = look 0 code (s.port p).viol + 1 ∧ t.net.conns = s.net.conns ∧ t = { s with net := t.net })
          ∧ (¬ goesOn → look 0 code (t.port p).viol = 1 ∧ t.net.interval = s.now)
        let marks := fun (c code : Nat) (t : State) => (t.conn c).viol = sat 0xFFFF ((s.conn c).viol + 1) ∧ (t.conn c).lastCode = code
          ∧ (t.conn c).fill = (s.conn c).fill ∧ (t.conn c).state = (s.conn c).state ∧ t.sram = s.sram
          ∧ (goesOn → look 0 code (t.conn c).open_ = look 0 code (s.conn c).open_ + 1)
          ∧ (¬ goesOn → look 0 code (t.conn c).open_ = 1 ∧ t.net.interval = s.now)
        let alarm := fun (c code : Nat) (t : State) => t.net.alarms = sat 0xFFFF_FFFF (s.net.alarms + 1)
          ∧ t.net.lastAlarm = BitVec.ofNat 32 (code * 2 ^ 16 + c) ∧ t.svc.toggles = s.svc.toggles ++ [(194, s.now)]
        (f.fcsOk = false ∨ clientMax p s < (if f.raw then 0 else 28) + u.length → run (fun t =>
            (t.port p).fcs = sat 0xFFFF ((s.port p).fcs + 1) ∧ (t.port p).rx = (s.port p).rx ∧ t = { s with net := t.net }))
        ∧ (toModule → f.raw = false → f.fragment = true → run (counts 0x5207))
        ∧ (isUnit → badHead → run (counts 0x5200))
        ∧ (isUnit → ¬ badHead → matchConn (beAt 4 4 inner) (beAt 8 4 inner) s = none → run (counts 0x5201))
        ∧ ∀ c, known c →
            (sourceOk c p f s = false → run (fun t => marks c 0x5202 t ∧ alarm c 0x5202 t))
            ∧ (sourceOk c p f s = true → openUnit c (u.take 8) inner (slice (8 + len) tagLen u) s = none →
                run (fun t => marks c 0x5203 t ∧ alarm c 0x5203 t))
            ∧ ∀ m, opens c m →
                (¬ goodInner c m → run (fun t => marks c 0x5205 t ∧ t.net.alarms = s.net.alarms))
                ∧ (goodInner c m → ¬ goodCodes c m → run (fun t => marks c 0x5204 t ∧ t.net.alarms = s.net.alarms)))

/-- R264, R276: the update of a connection that is open. One that was CLOSED, or whose control bit 1 is clear, counts as SAFE without reference. No
message: one more quiet cycle, and SAFE from VALID when the limit is reached; a first message is the reference; a message one ahead of
it takes SAFE to VALID; a message within the gap is delivered with what was missed; one beyond the gap takes VALID to SAFE and is the
new reference. R278: a connection whose control bit 0 is clear is CLOSED by the update, its reference gone and its slot empty; R28, R30 to R32: a fault of the
sealer is recorded, takes every open connection to SAFE and reinitialises the network region; a second one while that lasts leads to
HOLD; in HOLD it is recorded only. Where the spec leaves a point open, the model's choice is taken: log entry 71. -/
def Obligations.ConnectionUpdates : Prop :=
  (
    ∀ (c : Nat) (m : SlotMsg) (r : Word) (s : State),
        let K := s.conn c
        let T := s.net.table
        let t := connUpdate c s
        let d := (m.seq - r).toNat
        let fromSafe := K.state = 2 ∨ (look 0 c s.net.control).getLsbD 1 = false
        let ref := if fromSafe then none else K.ref
        let st := if fromSafe then 0 else K.state
        let taken := (t.conn c).ref = some m.seq ∧ (t.conn c).quiet = 0 ∧ (t.conn c).delivered = sat 0xFFFF_FFFF (K.delivered + 1)
        (look 0 c s.net.control).getLsbD 0 = true → K.state ≤ 2 →
        (K.frozen = none → (t.conn c).quiet = min 15 (K.quiet + 1)
            ∧ (t.conn c).state = (if connQ T c ≤ min 15 (K.quiet + 1) then 0 else st)
            ∧ (t.conn c).status = statusWord (t.conn c).state (t.conn c).quiet 0 false false)
        ∧ (K.frozen = some m →
            (ref = none → taken ∧ (t.conn c).state = st ∧ (t.conn c).status = statusWord st 0 0 true false)
            ∧ (ref = some r →
                (d = 0 → (t.conn c).ref = some r ∧ (t.conn c).delivered = K.delivered ∧ (t.conn c).state = st)
                ∧ (d = 1 → taken ∧ (t.conn c).state = 1 ∧ (t.conn c).status = statusWord 1 0 0 true false)
                ∧ (1 < d → d ≤ connG T c + 1 → taken ∧ (t.conn c).state = st
                    ∧ (t.conn c).status = statusWord st 0 (d - 1) true true ∧ (t.conn c).missed = sat 0xFFFF_FFFF (K.missed + (d - 1)))
                ∧ (connG T c + 1 < d → taken ∧ (t.conn c).state = 0 ∧ (t.conn c).missed = sat 0xFFFF_FFFF (K.missed + (d - 1))
                    ∧ (t.conn c).status = statusWord 0 0 (if 256 < d then 255 else d - 1) true true))))
  ∧ (
    (∀ (c : Nat) (s : State), (look 0 c s.net.control).getLsbD 0 = false →
        let K := (connUpdate c s).conn c
        K.state = 2 ∧ K.ref = none ∧ K.quiet = 0 ∧ K.frozen = none ∧ K.status = 2)
      ∧ ∀ s : State,
          let recorded := fun (t : State) => t.jnl = (record (0x5000 + (s.draw 12).1.toNat) [] s).jnl
          (s.keep.mode ≠ .hold → look none 4 s.keep.reinit = none →
            Completes .sealerEngineFault s (fun t =>
              (∀ c ∈ definedConns s.net.table, (t.conn c).ref = none ∧ (t.conn c).fill = none
                ∧ (t.conn c).state = (if (s.conn c).state = 2 then 2 else 0))
              ∧ look none 4 t.keep.reinit = some s.now ∧ t.keep.mode = s.keep.mode ∧ t.mot = s.mot ∧ t.sram = s.sram))
          ∧ (s.keep.mode ≠ .hold → look none 4 s.keep.reinit ≠ none → Completes .sealerEngineFault s (fun t => t.keep.mode = .hold))
          ∧ (s.keep.mode = .hold → Completes .sealerEngineFault s (fun t => recorded t ∧ t = s.noted t)))

/-! ### Berths -/

/-- R287, R290, R291, R307, R309, R320, R323: OPEN gives a closed berth a nonce, one that is locked out is refused; PROOF opens it with the roles that
certificate and policy share, when the chain is good and its leaf has signed the nonce, and fails the open else; CLOSE answers and
resets the berth; the reset completes in a closed berth, or a locked-out one. R289, R313, R320, R323: a TCP connection to a closed berth's endpoint begins an open, any other is answered with a TCP reset; the handshake opens
the berth when the offer, the client's chain and its CertificateVerify are good, else, or after 5 s, the open has failed; KEYUPDATE is
answered; closure resets; an open berth that idles for its timeout is reset; a lockout ends. Where the spec leaves a point open, the model's choice is taken: log entries 3, 55, 56, 96, 97. -/
def Obligations.BerthsOpenAndClose : Prop :=
  (
    ∀ (b : Fin 8) (m : MsgHead) (s : State),
        let B := s.berth b
        (Admits b 1 m [] s → b.val ≤ 2 →
          (B.state = .closed → s.bth.anchorSlot.isSome = true → entryEnabled b s = true →
            Completes (.openBerth b m) s (fun t => ∃ n : List Byte, n.length = 32 ∧ (t.berth b).state = .opening ∧ (t.berth b).nonce = some n
              ∧ Sends b { typ := 1, tag := m.tag, status := 0, body := n ++ be 8 s.fused.serial.toNat } s t
              ∧ t = { s with bth := t.bth, free := t.free }))
          ∧ (B.state = .lockedOut → Completes (.openBerth b m) s (fun t => (t.berth b).state = .lockedOut
              ∧ (t.berth b).refused = sat 0xFFFF (B.refused + 1) ∧ Sends b { typ := 1, tag := m.tag, status := 0x6024, body := [] } s t
              ∧ t = { s.noted t with bth := t.bth })))
        ∧ (∀ sig chain : List Byte, Admits b 2 m (sig ++ chain) s → sig.length = 64 → B.state = .opening →
            let leaf := (chainCerts 3 chain).bind (fun ders => hostLeaf ders s)
            let code := openCode b leaf (fun g => ecdsaOk g.key (proofText b s) (rawSig sig)) s
            (∀ g, leaf = some g → code = 0 → Completes (.proof b m sig chain) s (fun t => (t.berth b).state = .open_
              ∧ (t.berth b).granted = g.roles &&& policyRoles b s ∧ (t.berth b).removed = B.removed ∧ (t.berth b).nonce = none
              ∧ t.svc.toggles = s.svc.toggles ++ [(224, s.now)]
              ∧ Sends b { typ := 2, tag := m.tag, status := 0, body := be 1 (t.berth b).effective.toNat ++ zeros 3 } s t
              ∧ t = { s.noted t with bth := t.bth }))
            ∧ (code ≠ 0 → Completes (.proof b m sig chain) s (fun t => (t.berth b).state ≠ .open_
              ∧ (t.berth b).opens = sat 0xFFFF (B.opens + 1) ∧ (t.berth b).nonce = none
              ∧ (holdOnLimit s = false → Sends b { typ := 2, tag := m.tag, status := code, body := [] } s t ∧ t = { s.noted t with bth := t.bth }))))
        ∧ (Admits b 3 m [] s → B.state = .open_ ∨ B.state = .opening ∨ firstCommissioning b s = true →
            Completes (.close b m) s (fun t => (t.berth b).state = .resetting ∧ (t.berth b).granted = 0 ∧ (t.berth b).staged = {}
              ∧ (t.berth b).waiting = [] ∧ t.svc.toggles = s.svc.toggles ++ [(225, s.now)]
              ∧ (∃ u, Sends b { typ := 3, tag := m.tag, status := 0, body := [] } s u ∧ (t.berth b).out = (u.berth b).out)
              ∧ t = { s.noted t with bth := t.bth }))
        ∧ (B.state = .resetting → Completes (.berthReset b) s (fun t =>
            (t.berth b).state = (if B.lockEnd.isSome then .lockedOut else .closed) ∧ t = { s with bth := t.bth }))
        ∧ (B.state ≠ .resetting → Completes (.berthReset b) s (fun t => (t.berth b).state = B.state ∧ t = { s with bth := t.bth })))
  ∧ (
    ∀ (b : Fin 8) (ns : Nat) (s : State),
        let u := advance ns s
        let B := u.berth b
        let failed := fun (t : State) => (t.berth b).tls = false ∧ (t.berth b).tcp = none ∧ (t.berth b).state ≠ .open_
          ∧ (t.berth b).opens = sat 0xFFFF (B.opens + 1) ∧ t.sram = s.sram ∧ t.image = s.image
          ∧ (holdOnLimit u = false → t = { u.noted t with bth := t.bth })
        (∀ (p : Fin 4) (port : BitVec 16), listener p port.toNat u = some b.val → modeServes b u.keep.mode = true → u.svc.held = false →
          u.keep.romRecovery = false → netWorks u = true → (u.port p).link = true → ownIp p u ≠ 0 →
          (B.state = .closed → B.tcp = none → Completes (.tcpConnectionRequest p port ns) s (fun t => (t.berth b).state = .opening
            ∧ (t.berth b).tcp = some u.now ∧ t = { u with bth := t.bth }))
          ∧ (B.state ≠ .closed ∨ B.tcp ≠ none → Completes (.tcpConnectionRequest p port ns) s (fun t => (t.berth b).state = B.state
            ∧ (t.berth b).tcp = B.tcp ∧ (t.berth b).tcpResets = B.tcpResets + 1 ∧ t = { u.noted t with bth := t.bth }
            ∧ (B.state ≠ .lockedOut → (t.berth b).refused = B.refused)
            ∧ (B.state = .lockedOut → (t.berth b).refused = sat 0xFFFF (B.refused + 1)))))
        ∧ (∀ (hello : ClientHello) (certs : List (List Byte)) (transcript verify : List Byte) (alert : Option Byte),
            B.tcp.isSome = true → B.tls = false → handshakeLate b u = false →
            let leaf := hostLeaf certs u
            let code := openCode b leaf (fun g => ((derSig verify).map (ecdsaOk g.key (verifyText transcript))).getD false) u
            (∀ g, alert = none → helloAlert hello = 0 → certs ≠ [] → leaf = some g → code = 0 →
              Completes (.tlsHandshakeComplete b hello certs transcript verify alert ns) s (fun t => (t.berth b).state = .open_
                ∧ (t.berth b).tls = true ∧ (t.berth b).granted = g.roles &&& policyRoles b u ∧ (t.berth b).removed = B.removed
                ∧ t.svc.toggles = s.svc.toggles ++ [(224, u.now)] ∧ t = { u.noted t with bth := t.bth }))
            ∧ (alert.isSome = true ∨ helloAlert hello ≠ 0 ∨ certs = [] ∨ code ≠ 0 →
              Completes (.tlsHandshakeComplete b hello certs transcript verify alert ns) s failed))
        ∧ (B.tls = false → handshakeLate b u = true → Completes (.tlsHandshakeTimeout b ns) s failed)
        ∧ ((s.berth b).tls = true → Completes (.keyupdate b) s (fun t => (t.berth b).keyUpdates = (s.berth b).keyUpdates + 1
            ∧ (t.berth b).records = 0 ∧ (t.berth b).state = (s.berth b).state ∧ t = { s with bth := t.bth, free := t.free }))
        ∧ ((s.berth b).tcp.isSome = true → Completes (.tcpConnectionClosed b) s (fun t => (t.berth b).state = .resetting ∧ (t.berth b).tcp = none
            ∧ (t.berth b).tls = false ∧ (t.berth b).granted = 0 ∧ t = { s.noted t with bth := t.bth }))
        ∧ (∀ p, u.bth.policy = some p → look 0 b.val p.idle ≠ 0 → B.state = .open_ → B.lastUse + 1_000_000_000 * look 0 b.val p.idle ≤ u.now →
            Completes (.berthIdleTimeout b ns) s (fun t => (t.berth b).state = .resetting ∧ (t.berth b).granted = 0
              ∧ t = { u.noted t with bth := t.bth }))
        ∧ (∀ e, B.lockEnd = some e → e ≤ u.now → Completes (.lockoutEnd b ns) s (fun t => (t.berth b).lockEnd = none
            ∧ (t.berth b).state = (if B.state = .lockedOut then .closed else B.state) ∧ t = { u with bth := t.bth }))
        ∧ (∀ e, B.lockEnd = some e → u.now < e → exec (.lockoutEnd b ns) s = .next u))

/-- R310, R311, R312, R320: the queues of BTH1 and BTH2, and BTH0 on the UART: the host's indices, the ring registers, the fetch of a request while two
reply slots are free, the replies that leave when slots come free, and what resets the berth. Where the spec leaves a point open, the model's choice is taken: log entry 57. -/
def Obligations.QueuesAct : Prop :=
  ∀ (h : Fin 2) (x : BitVec 16) (v : Word) (ns : Nat) (s : State),
    let b := 1 + h.val
    let B := s.berth b
    let u := advance ns s
    let resets := fun (t : State) => (t.berth b).state = .resetting ∧ (t.berth b).enable = false ∧ (t.berth b).slotWait = []
      ∧ (t.berth b).granted = 0 ∧ (t.berth b).waiting = [] ∧ (t.berth b).staged = {} ∧ (t.berth b).fetched = 0
    let reset := fun (c : Instr) => Completes c s (fun t => resets t ∧ t = { s.noted t with bth := t.bth })
    Completes (.bqDoorbell h x) s (fun t => t.berth b = { B with reqTail := x } ∧ t = { s with bth := t.bth })
    ∧ Completes (.bqRplHeadWrite h x) s (fun t => ∃ gone rest, B.slotWait = gone ++ rest ∧ (t.berth b).slotWait = rest
        ∧ (t.berth b).rplHead = x ∧ (t.berth b).rplTail = B.rplTail + BitVec.ofNat 16 gone.length
        ∧ (t.berth b).out = B.out ++ gone.zipIdx.map (fun r => { bytes := r.1.1.bytes
                                                                 slot := some (ringSlot B.rplBase (B.rplTail + BitVec.ofNat 16 r.2) B.replySlots) })
        ∧ (rest = [] ∨ (t.berth b).freeReplies = 0) ∧ t = { s with bth := t.bth })
    ∧ (v.getLsbD 1 = false → Completes (.bqReset h v) s (fun t =>
        t.berth b = { B with msi := v.getLsbD 2, enable := v.getLsbD 0 && ringsOk B.ringCfg } ∧ t = { s with bth := t.bth }))
    ∧ (v.getLsbD 1 = true → reset (.bqReset h v))
    ∧ (B.enable = false →
        Completes (.bqRingWrite h 0 v) s (fun t => (t.berth b).ringCfg = v &&& 0xF0F ∧ t = { s with bth := t.bth })
        ∧ Completes (.bqRingWrite h 1 v) s (fun t => (t.berth b).reqBase.setWidth 32 = v ∧ t = { s with bth := t.bth })
        ∧ Completes (.bqRingWrite h 2 v) s (fun t => (t.berth b).reqBase >>> 32 = v.setWidth 64 ∧ t = { s with bth := t.bth })
        ∧ Completes (.bqRingWrite h 3 v) s (fun t => (t.berth b).rplBase.setWidth 32 = v ∧ t = { s with bth := t.bth })
        ∧ Completes (.bqRingWrite h 4 v) s (fun t => (t.berth b).rplBase >>> 32 = v.setWidth 64 ∧ t = { s with bth := t.bth }))
    ∧ (B.enable = true → (∀ r, reset (.bqRingWrite h r v)) ∧ reset (.pcieCompletionError h)
        ∧ (B.reqHead ≠ B.reqTail → 2 ≤ B.freeReplies → modeServes b s.keep.mode = true →
            Completes (.bqRequestFetch h) s (fun t =>
              t.berth b = { B with
                reqHead := B.reqHead + 1, fetched := B.fetched + 1
                reads := B.reads ++ [ringSlot B.reqBase B.reqHead (2 ^ bits 3 0 B.ringCfg.toNat)] }
              ∧ t = { s with bth := t.bth })))
    ∧ (B.enable = false ∨ B.reqHead = B.reqTail ∨ B.freeReplies < 2 → exec (.bqRequestFetch h) s = .next s)
    ∧ (∀ r l, (u.berth b).slotWait = r :: l → r.2 + 1_000_000_000 ≤ u.now →
        Completes (.replySlotWaitTimeout h ns) s (fun t => resets t ∧ t = { u.noted t with bth := t.bth }))
    ∧ Completes .uartBreak s (fun t => (t.berth 0).state = .resetting ∧ (t.berth 0).granted = 0 ∧ (t.berth 0).staged = {}
        ∧ t = { s.noted t with bth := t.bth })
    ∧ ∀ line, exec (.uartFrameGap line) s = .next s

/-- R314, R319: COMMAND is answered at once with the number of its entries taken, each stamped with the time of arrival; COMMAND_REPLY sends, in the
order of the COMMAND messages, every reply whose entries have all been answered, up to the first that is not. R314: an entry of a COMMAND is accepted exactly when the berth holds OBSERVE in RUN or DEGRADED, the address names an object of this module whose
type the command table gives the code to on this berth, and the berth's share of the batch has room; 0x6211, 0x6210 and 0x6212 otherwise. Where the spec leaves a point open, the model's choice is taken: log entry 55. -/
def Obligations.CommandEntries : Prop :=
  (
    ∀ (b : Fin 8) (m : MsgHead) (ns : Nat) (es : List CmdEntry) (s : State),
        let u := advance ns s
        (Admits b 0x20 m (es.flatMap entryBytes) u → hasAny b [roleO] u = true → 1 ≤ es.length → es.length ≤ 64 → (∀ e ∈ es, e.zero = 0) →
          Completes (.command b m ns es) s (fun t => ∃ new v, t.bth.filling = s.bth.filling ++ new ∧ new.length ≤ es.length
            ∧ (∀ x ∈ new, x.berth = b.val ∧ x.stamp = gateStamp u ∧ x.msg = some s.bth.nextMsg)
            ∧ (t.berth b).filled = (s.berth b).filled + new.length ∧ t.bth.nextMsg = s.bth.nextMsg + 1 ∧ t.bth.batch = s.bth.batch
            ∧ Sends b { typ := 0x20, tag := m.tag, status := 0, body := be 2 new.length ++ zeros 2 } u v
            ∧ exec (.commandReply b) v = .next t ∧ t = { u.noted t with bth := t.bth }))
        ∧ (let B := s.berth b
          let ready := B.waiting.takeWhile WaitingCommand.done
          Completes (.commandReply b) s (fun t => (t.berth b).waiting = B.waiting.drop ready.length ∧ t = { s with bth := t.bth, free := t.free }
            ∧ (b.val ≠ 1 → b.val ≠ 2 → (t.berth b).out = B.out ++ ready.map (fun w => w.reply.sent b))
            ∧ (b.val = 1 ∨ b.val = 2 →
                let k := if B.slotWait = [] then min ready.length B.freeReplies else 0
                (t.berth b).out.map SentMsg.bytes = B.out.map SentMsg.bytes ++ (ready.take k).map (fun w => w.reply.bytes)
                ∧ (t.berth b).slotWait.map Prod.fst = B.slotWait.map Prod.fst ++ (ready.drop k).map WaitingCommand.reply))))
  ∧ (
    ∀ (b : Nat) (e : CmdEntry) (s : State),
        let mode := s.keep.mode = .run ∨ s.keep.mode = .degraded
        let fits := fun (r : CommandRow) => ∃ ty, objectType (e.addr.toNat % 2 ^ 20) s = some ty ∧ commandRow e.code.toNat s = some r
          ∧ r.berthMask.getLsbD b = true ∧ r.firstType ≤ ty ∧ ty ≤ r.lastType
        let mine := e.addr.toNat / 2 ^ 20 = s.ident
        let room := (s.berth b).filled < (s.bth.policy.map (fun p => look 0 b p.limit)).getD 0
        (∀ r, judgeEntry b e s = .ok r ↔ hasRole b roleO s = true ∧ mode ∧ mine ∧ fits r ∧ room)
        ∧ (judgeEntry b e s = .error 0x6211 ↔ hasRole b roleO s = false ∨ ¬ mode)
        ∧ (judgeEntry b e s = .error 0x6212 ↔ hasRole b roleO s = true ∧ mode ∧ mine ∧ (∃ r, fits r) ∧ ¬ room)
        ∧ (judgeEntry b e s = .error 0x6210 ↔ hasRole b roleO s = true ∧ mode ∧ ¬ (mine ∧ ∃ r, fits r)))

/-- R298, R306, R307, R308: what a host reads: the hashes of image and policy, also before the first commissioning; object states of one cycle with its
MCC; control words; a message that a berth's roles do not permit, or whose type is not the command's, is refused with 0x6011, one of
wrong form with 0x6010. Where the spec leaves a point open, the model's choice is taken: log entry 55. -/
def Obligations.HostsRead : Prop :=
  ∀ (b : Fin 8) (m : MsgHead) (s : State),
    let refused := fun (code : Nat) (t : State) => Sends b { typ := m.typ.toNat, tag := m.tag, status := code, body := [] } s t
      ∧ (t.berth b).refused = sat 0xFFFF ((s.berth b).refused + 1) ∧ t = { s.noted t with bth := t.bth }
    (Admits b 0x31 m [] s →
      (hasAny b [roleB, roleM, roleE, roleI, roleU] s = true ∨ firstCommissioning b s = true →
        Completes (.hashread b m) s (fun t => Sends b {
          typ := 0x31, tag := m.tag, status := 0
          body := (s.image.map Image.hash).getD (zeros 32) ++ policyHash s } s t ∧ t = { s with bth := t.bth, free := t.free }))
      ∧ (hasAny b [roleB, roleM, roleE, roleI, roleU] s = false → firstCommissioning b s = false →
        Completes (.hashread b m) s (refused 0x6011)))
    ∧ (∀ first count : Word,
        let body := be 4 first.toNat ++ be 4 count.toNat
        let shape := 1 ≤ count.toNat ∧ count.toNat ≤ 512 ∧ first.toNat + count.toNat ≤ 2 ^ 20
        (Admits b 0x30 m body s → hasAny b [roleB, roleM] s = true → shape →
          Completes (.sread b m first count) s (fun t => Sends b {
            typ := 0x30, tag := m.tag, status := 0
            body := be 8 s.seq.mcc ++ (List.range count.toNat).flatMap (fun i => be 4 (oldTopWord (first.toNat + i) s).toNat) } s t
            ∧ t = { s with bth := t.bth, free := t.free }))
        ∧ (Admits b 0x30 m body s → ¬ shape → Completes (.sread b m first count) s (refused 0x6010))
        ∧ (Admits b 0x30 m body s → shape → hasAny b [roleB, roleM] s = false → Completes (.sread b m first count) s (refused 0x6011)))
    ∧ (∀ (a : Word) (n : BitVec 16), Admits b 0x10 m (be 4 a.toNat ++ be 2 n.toNat ++ be 2 0) s → (s.berth b).state = .open_ →
        1 ≤ n.toNat → n.toNat ≤ 256 →
        ((∀ k < n.toNat, checkRead (.berth b) (a.toNat + 4 * k) s = 0) → Completes (.cread b m a n 0) s (fun t =>
          ∃ ws : List Word, ws.length = n.toNat ∧ Sends b { typ := 0x10, tag := m.tag, status := 0, body := ws.flatMap (fun w => be 4 w.toNat) } s t
            ∧ (latchOf b a.toNat s = none → ws.head? = some (liveWord a.toNat (touch b s)))))
        ∧ (∀ k < n.toNat, checkRead (.berth b) (a.toNat + 4 * k) s ≠ 0 → Completes (.cread b m a n 0) s (fun t =>
            ∃ k < n.toNat, refused (checkRead (.berth b) (a.toNat + 4 * k) s) t)))
    ∧ (served b s = true → headOk m [] = false → Completes (.hashread b m) s (refused 0x6010))
    ∧ (served b s = true → headOk m [] = true → m.typ ≠ 0x31 → Completes (.hashread b m) s (refused 0x6011))
    ∧ (served b s = false → exec (.hashread b m) s = .next s)

/-- R303, R304, R305, R307: ECHUNK stages bytes of an envelope; ECOMMIT of an envelope staged whole begins its checks with its stamp, of another is
refused with 0x6100. The checks end: a failure is recorded, answered with its code and changes no content; an envelope that passes is
answered with status 0, recorded, event source 227, and unless a later one of its kind has been accepted it has its effect: keys,
policy table, connections, anchor, device certificate, RMA unlock, or a staged slot, which a program image that ENGINEER loads in
COMMISSION and a firmware in ROM recovery leave at once. Where the spec leaves a point open, the model's choice is taken: log entries 42, 97. -/
def Obligations.EnvelopesAct : Prop :=
  ∀ (b : Fin 8) (m : MsgHead) (ns : Nat) (s : State),
    let G := (s.berth b).staged
    let u := advance ns s
    let roles := hasAny b [roleE, roleU] u = true
    (∀ (o total : Word) (data : List Byte), Admits b 0x40 m (be 4 o.toNat ++ be 4 total.toNat ++ data) s →
      hasAny b [roleE, roleU] s = true ∨ firstCommissioning b s = true → G.checking = none → data.length ≤ 4_072 →
      o.toNat + data.length ≤ total.toNat →
      Completes (.echunk b m o total data) s (fun t => (t.berth b).staged.total = total.toNat
        ∧ (t.berth b).staged.ranges = (o.toNat, data.length) :: (if G.total = total.toNat then G.ranges else [])
        ∧ (∀ (i : Nat) (x : Byte), data[i]? = some x → look 0 (o.toNat + i) (t.berth b).staged.bytes = x)
        ∧ Sends b { typ := 0x40, tag := m.tag, status := 0, body := [] } s t ∧ t = { s with bth := t.bth, free := t.free }))
    ∧ (∀ (total : Word) (kind : BitVec 16), Admits b 0x41 m (be 4 total.toNat ++ be 2 kind.toNat ++ be 2 0) u →
        roles ∨ (firstCommissioning b u = true ∧ kind = 5) → G.checking = none →
        (G.total = total.toNat → G.total ≠ 0 → coversAll G.ranges G.total = true →
          Completes (.ecommit b m total kind 0 ns) s (fun t => (t.berth b).staged.checking = some {
              kind := kind.toNat, tag := m.tag, stamp := u.now, commission := u.keep.mode == .commission }
            ∧ (t.berth b).out = (s.berth b).out ∧ t = { u with bth := t.bth }))
        ∧ (G.total ≠ total.toNat ∨ G.total = 0 ∨ coversAll G.ranges G.total = false →
          Completes (.ecommit b m total kind 0 ns) s (fun t => (t.berth b).staged = {}
            ∧ Sends b { typ := 0x41, tag := m.tag, status := 0x6100, body := [] } s t ∧ t = { u.noted t with bth := t.bth })))
    ∧ (G.checking = none → exec (.envelopeCheckComplete b) s = .next s)
    ∧ ∀ c : Checking, G.checking = some c →
        let e := G.envelope
        let h := envHead e
        let P := (openPayload e h s).getD []
        let code := envelopeCode b e c s
        (code ≠ 0 → Completes (.envelopeCheckComplete b) s (fun t => (t.berth b).staged = {} ∧ t.bth.keys = s.bth.keys
            ∧ t.bth.policy = s.bth.policy ∧ t.image = s.image ∧ t.net.table = s.net.table ∧ t.bth.anchors = s.bth.anchors
            ∧ t.keep.slots = s.keep.slots ∧ t.keep.rollback = s.keep.rollback
            ∧ (code ≠ 0x6101 ∨ holdOnLimit s = false → Sends b { typ := 0x41, tag := c.tag, status := code, body := [] } s t
                ∧ t = { s.noted t with bth := t.bth, seq := t.seq })))
        ∧ (code = 0 → c.stamp < look 0 h.kind s.bth.stamps → Completes (.envelopeCheckComplete b) s (fun t =>
            Sends b { typ := 0x41, tag := c.tag, status := 0, body := [] } s t ∧ (t.berth b).staged = {} ∧ t = { s.noted t with bth := t.bth }
            ∧ t.bth.stamps = s.bth.stamps ∧ t.svc.toggles = s.svc.toggles ++ [(227, s.now)]))
        ∧ (code = 0 → look 0 h.kind s.bth.stamps ≤ c.stamp → Completes (.envelopeCheckComplete b) s (fun t =>
            (∃ v, Sends b { typ := 0x41, tag := c.tag, status := 0, body := [] } s v ∧ v = { s.noted v with bth := v.bth }
              ∧ v.svc.toggles = s.svc.toggles ++ [(227, s.now)] ∧ v.jnl = (recordB 0x6105 (le 4 h.kind ++ h.hash) s).jnl
              ∧ (h.kind ∈ [3, 4, 5, 6] → (t.berth b).out = (v.berth b).out))
            ∧ (s.keep.romRecovery = false → look 0 h.kind t.bth.stamps = c.stamp)
            ∧ (h.kind ∈ [2, 3, 4, 6] → look 0 h.kind t.keep.rollback = h.counter)
            ∧ (h.kind = 2 → t.bth.policy = some { parsePolicy P with anchor := s.bth.anchorSlot })
            ∧ (h.kind = 3 → t.net.table = confTable P ∧ t.net.confActive = true
                ∧ ∀ k ∈ definedConns t.net.table, (t.conn k).state = 2 ∧ (t.conn k).ref = none)
            ∧ (h.kind = 4 → ∀ k, look [] k t.bth.keys = (((bundle P).reverse.find? (fun x => x.1 == k)).map Prod.snd).getD (look [] k s.bth.keys))
            ∧ (h.kind = 5 → (s.bth.anchorSlot = none → t.bth.anchorSlot = some 0 ∧ look [] 0 t.bth.anchors = P.take 64)
                ∧ ∀ k, s.bth.anchorSlot = some k → t.bth.anchorNext = some (k + 1) ∧ look [] (k + 1) t.bth.anchors = P.take 64
                    ∧ t.bth.anchorSlot = some k)
            ∧ (h.kind = 6 → t.bth.devCert = P)
            ∧ (h.kind = 9 → t.bth.jtagOpen = true ∧ t.bth.keys = [] ∧ t.bth.policy = none ∧ t.image = none ∧ t.sram = []
                ∧ t.jnl.flacon = [] ∧ t.net.table = [])
            ∧ (stages h.kind = true → ∀ k, stagingSlot h.kind s = some k →
                (s.keep.romRecovery = true → t.slot k = {
                  state := .active, counter := h.counter, hash := h.hash, payload := P, anchor := s.bth.anchorSlot } ∧ t.keep.mode = .boot)
                ∧ (s.keep.romRecovery = false → h.kind = 1 → engineering b s = true → (t.slot k).state = .active ∧ t.image = some (parseImage P))
                ∧ (s.keep.romRecovery = false → h.kind ≠ 1 ∨ engineering b s = false → t.slot k = {
                    state := .staged, counter := h.counter, hash := h.hash, payload := P, anchor := s.bth.anchorSlot }
                  ∧ t.image = s.image))))

/-! ### Door motion -/

/-- R338, R341, R342, R346, R347, R356, R358: what a post does to its axis, state by state: ENABLE, DISABLE, STOP, HOME, CLEAR, SETPOS, RUN; one that the
state does not permit is refused with 0x2010, an ENABLE whose conditions fail with 0x2060, a RUN in a group run with 0x2013. Only that
axis changes. R349, R350: the GRUNs of one release start the group from rest when they name exactly its members, all homed and at rest within one axis group,
and no scaled segment breaks a limit: every member moves in the group's run behind the same leader. A group that moves stops first and
keeps the run pending; posts that do not name exactly the members, or a member not homed or not enabled, have every post refused with
0x2013. Where the spec leaves a point open, the model's choice is taken: log entries 60, 62, 84. -/
def Obligations.PostsAct : Prop :=
  (
    ∀ (n : Fin 32) (a b c : Word) (s : State), a.toNat % 2 ^ 24 = n.val →
        let A := s.axis n
        let q : Post := { a := BitVec.ofNat 32 (0x10 * 2 ^ 24 + n.val), b := b, c := c, w3 := 0 }
        let alone := A.team = none ∧ A.pendingRun = none
        let does := fun (x : Instr) (P : Axis → Prop) => Completes x s (fun t => P (t.axis n) ∧ (∀ k, k ≠ n.val → t.axis k = s.axis k)
          ∧ t = { s.noted t with mot := t.mot })
        let taken := fun (B : Axis) => B.applied = sat 0xFFFF (A.applied + 1) ∧ B.refused = A.refused
        let refused := fun (code : Nat) (B : Axis) => B.refused = sat 0xFFFF (A.refused + 1) ∧ B.lastCode = code ∧ B.st = A.st ∧ B.p = A.p ∧ B.v = A.v
          ∧ B.run = A.run ∧ B.applied = A.applied
        let onward := fun (B : Axis) => B.st = .moving ∧ B.pendingRun = none ∧ B.run = some { post := q.run, seg := b.toNat % 256, p0 := A.p, v0 := A.v }
        (b = 0 → c = 0 →
          (A.st = .disabled → enableOk n s = true → does (.enable a b c) (fun B => taken B ∧ B.st = .enabling ∧ B.p = A.p ∧ B.v = A.v))
          ∧ (A.st = .disabled → enableOk n s = false → does (.enable a b c) (refused 0x2060))
          ∧ (A.st ≠ .disabled → does (.enable a b c) (refused 0x2010))
          ∧ (A.st.en = true → alone → does (.disable a b c) (fun B => taken B ∧ B.st = .disabled ∧ B.v = 0 ∧ B.run = none ∧ B.homing = none
              ∧ B.lastCode = 0x2001))
          ∧ (A.st.en = false → does (.disable a b c) (fun B => B = { A with applied := sat 0xFFFF (A.applied + 1) }))
          ∧ (A.st = .holding ∨ A.st = .enabling → does (.stop a b c) (fun B => B = { A with applied := sat 0xFFFF (A.applied + 1) }))
          ∧ (A.st = .moving → alone → does (.stop a b c) (fun B => taken B ∧ B.st = .stopping ∧ B.run = none ∧ B.p = A.p ∧ B.v = A.v
              ∧ B.ramp.map Ramp.acc = some (axAstop n s) ∧ B.ramp.map Ramp.v0 = some A.v))
          ∧ (A.st = .stopping → A.pendingRun.bind RunPost.group = none → does (.stop a b c) (fun B => taken B ∧ B.st = .stopping ∧ B.pendingRun = none
              ∧ B.ramp = A.ramp))
          ∧ (A.st = .homing → does (.stop a b c) (fun B => taken B ∧ B.st = .stopping ∧ B.homing = none ∧ B.homed = A.homed
              ∧ B.ramp.map Ramp.acc = some (axAstop n s)))
          ∧ (A.st = .obstacle → alone → does (.stop a b c) (fun B => taken B ∧ B.st = .obstacle ∧ B.reversal = none ∧ B.obsNoRev = true))
          ∧ (A.st = .disabled ∨ A.st = .fault ∨ A.st = .test → does (.stop a b c) (refused 0x2010))
          ∧ does (.clear a b c) (fun B => taken B ∧ B.obst = false ∧ B.causes = 0 ∧ B.st = (if A.st = .fault then .disabled else A.st)
              ∧ B.p = A.p ∧ B.v = A.v))
        ∧ (b.toNat ≤ 1 → c = 0 → axHomeDio n s ≠ 127 →
            (A.st = .holding → does (.home a b c) (fun B => taken B ∧ B.st = .homing ∧ B.homed = false
              ∧ B.homing.map Homing.step = some (if homeActive n s then 3 else 2) ∧ B.homing.map Homing.armed = some (b.getLsbD 0)))
            ∧ (A.st ≠ .holding → does (.home a b c) (refused 0x2010)))
        ∧ (b = 0 →
            (A.st = .disabled ∨ A.st = .holding → actualValid n s = true →
              does (.setpos a b c) (fun B => taken B ∧ B.act = c ∧ B.homed = true ∧ B.st = A.st ∧ B.lastCode = 0x2034)
              ∧ Completes (.setpos a b c) s (fun t => actualPos n t = c))
            ∧ (A.st ≠ .disabled ∧ A.st ≠ .holding ∨ actualValid n s = false → does (.setpos a b c) (refused 0x2010)))
        ∧ (postFieldsOk n q s = true →
            (A.homed = true → inGroupRun A = false →
              (A.st = .holding ∨ (A.st = .moving ∧ A.v = 0) → segEnterOk n (b.toNat % 256) A.p A.v s = true →
                does (.run a b c) (fun B => taken B ∧ onward B ∧ B.target = c ∧ B.obst = false))
              ∧ (A.st = .moving → 0 < (segEnd n (b.toNat % 256) s * 65536 - A.p) * A.v → segEnterOk n (b.toNat % 256) A.p A.v s = true →
                  does (.run a b c) (fun B => taken B ∧ onward B ∧ B.target = c))
              ∧ (A.st = .moving → alone → A.v ≠ 0 →
                  ¬ (0 < (segEnd n (b.toNat % 256) s * 65536 - A.p) * A.v ∧ segEnterOk n (b.toNat % 256) A.p A.v s = true) →
                  does (.run a b c) (fun B => taken B ∧ B.st = .stopping ∧ B.pendingRun = some q.run ∧ B.lastCode = 0x2016 ∧ B.target = c))
              ∧ (A.st = .stopping → alone → does (.run a b c) (fun B => taken B ∧ B.st = .stopping ∧ B.pendingRun = some q.run
                  ∧ B.ramp = A.ramp ∧ B.target = c)))
            ∧ (inGroupRun A = true → does (.run a b c) (refused 0x2013))
            ∧ (inGroupRun A = false → A.homed = false ∨ (A.st ≠ .holding ∧ A.st ≠ .moving ∧ A.st ≠ .stopping) →
                does (.run a b c) (refused 0x2010))))
  ∧ (
    ∀ (g : Fin 8) (posts : List (Word × Word × Word)) (s : State),
        let qs : List Post := posts.map (fun p => { a := BitVec.ofNat 32 (0x11 * 2 ^ 24 + p.1.toNat % 2 ^ 24), b := p.2.1, c := p.2.2, w3 := 0 })
        let ms := groupMembers g s
        let post := fun m => ((qs.find? (fun q => q.axis == m)).map Post.run).getD { first := 0, count := 0, armed := false, target := 0 }
        let target := fun m => signed 32 (post m).target.toNat
        let lead := groupLeader (ms.map (fun m => (m, target m))) s
        let ratio := fun m => groupRatio (target m) (target lead) m lead s
        (∀ q ∈ qs, postFieldsOk q.axis q s = true ∧ bits 10 8 q.a.toNat = g.val) → (qs.map Post.axis).Nodup → ms.Nodup →
          ((qs.map Post.axis).Perm ms → 2 ≤ ms.length → (∀ m ∈ ms, (s.axis m).homed = true ∧ m / 8 = lead / 8) →
            ((∀ m ∈ ms, (s.axis m).st = .holding) → (ratio lead).2 ≠ 0 →
              (∀ m ∈ ms, groupSegsOk (post lead) lead m (ratio m) (s.axis lead).p 0 s = true) →
              Completes (.grun posts) s (fun t =>
                (∀ m ∈ ms, (t.axis m).st = .moving ∧ (t.axis m).target = (post m).target ∧ (t.axis m).applied = sat 0xFFFF ((s.axis m).applied + 1)
                  ∧ (t.axis m).run.map (fun r => (r.post.group, r.leader, r.own0, r.num, r.den))
                    = some (some g.val, lead, (s.axis m).p, (ratio m).1, (ratio m).2))
                ∧ (∀ k < 32, k ∉ ms → t.axis k = s.axis k) ∧ t = { s.noted t with mot := t.mot }))
            ∧ ((∀ m ∈ ms, (s.axis m).st = .moving ∧ (s.axis m).run.map (fun r => r.post.group) = some (some g.val)) →
                (∀ k < 32, (s.axis k).team.map Team.group = some g.val ↔ k ∈ ms) →
                Completes (.grun posts) s (fun t =>
                  (∀ m ∈ ms, (t.axis m).st = .stopping ∧ (t.axis m).pendingRun = some (post m) ∧ (t.axis m).lastCode = 0x2016
                    ∧ (t.axis m).p = (s.axis m).p)
                  ∧ (∀ k < 32, k ∉ ms → t.axis k = s.axis k) ∧ t = { s.noted t with mot := t.mot })))
          ∧ ((∀ q ∈ qs, (s.axis q.axis).homed = false ∨ (s.axis q.axis).st.en = false ∨ (s.axis q.axis).st = .holding ∨ (s.axis q.axis).st = .moving) →
              ¬ (qs.map Post.axis).Perm ms ∨ (∃ m ∈ ms, (s.axis m).homed = false ∨ (s.axis m).st.en = false) →
              Completes (.grun posts) s (fun t =>
                (∀ q ∈ qs, (t.axis q.axis).refused = sat 0xFFFF ((s.axis q.axis).refused + 1) ∧ (t.axis q.axis).lastCode = 0x2013
                  ∧ (t.axis q.axis).st = (s.axis q.axis).st ∧ (t.axis q.axis).run = (s.axis q.axis).run)
                ∧ (∀ k < 32, k ∉ qs.map Post.axis → t.axis k = s.axis k) ∧ t = { s.noted t with mot := t.mot })))

/-- R338, R345, R348, R350, R351, R356, R358, R359, R362: the transitions that a servo period finds due: enabling, the next segment, the end of a run and of a
stop, an obstacle, the end of the move back, the home reference, the chatter limit; what concerns a run concerns every member of its
group. One that is not due changes nothing. Where the spec leaves a point open, the model's choice is taken: log entries 60, 61. -/
def Obligations.AxisTransitions : Prop :=
  ∀ (n : Fin 32) (s : State),
    let A := s.axis n
    let ms := runMembers n s
    let all := fun (x : Instr) (P : Nat → Axis → Prop) => Completes x s (fun t => (∀ m ∈ ms, P m (t.axis m)) ∧ (∀ k, k ∉ ms → t.axis k = s.axis k)
      ∧ t = { s.noted t with mot := t.mot })
    let does := fun (x : Instr) (P : Axis → Prop) => all x (fun m B => m = n.val → P B)
    let events := fun (x : Instr) (l : List Nat) => Completes x s (fun t => t.svc.toggles = s.svc.toggles ++ l.map (fun k => (k, s.now)))
    let homingEvent := if A.homing.isSome then [84] else []
    (A.due.enabled = true → does (.enablingComplete n) (fun B => B.st = .holding ∧ B.v = 0 ∧ B.lastCode = 0x2000
        ∧ B.p = if actualValid n s then signed 32 (actualPos n s).toNat * 65536 else A.p))
    ∧ (∀ r, A.due.segment = true → A.run = some r → (∀ m ∈ ms, (s.axis m).stepped = true ∨ (s.axis m).control = false) →
        (r.post.group = none → segEnterOk n (r.seg + 1) (segEnd n r.seg s * 65536) (segVel n r.seg s) s = true) →
        r.tick - 2 * segDur n r.seg s < 2 * segDur n (r.seg + 1) s →
        does (.segmentEnd n) (fun B => B.due.segment = false ∧ B.st = A.st ∧ B.run = some { r with
          seg := r.seg + 1, tick := r.tick - 2 * segDur n r.seg s, p0 := segEnd n r.seg s * 65536, v0 := segVel n r.seg s }))
    ∧ (∀ r, A.due.segment = true → A.run = some r → r.post.group = none →
        segEnterOk n (r.seg + 1) (segEnd n r.seg s * 65536) (segVel n r.seg s) s = false →
        does (.segmentEnd n) (fun B => B.st = .stopping ∧ B.run = none ∧ B.lastCode = 0x2014))
    ∧ (A.due.runEnd = true → A.v = 0 → all (.runComplete n) (fun _ B => B.st = .holding ∧ B.runDone = true ∧ B.run = none ∧ B.v = 0)
        ∧ events (.runComplete n) (ms.map (fun _ => 85)))
    ∧ (A.due.runEnd = true → A.v ≠ 0 → all (.runComplete n) (fun m B => B.st = .stopping ∧ B.run = none ∧ (m = n.val → B.lastCode = 0x2015)))
    ∧ (A.due.stopEnd = true → A.abortCode = none → A.testEnding = false →
        (A.st = .stopping → A.pendingRun = none → does (.stopComplete n) (fun B => B.st = .holding ∧ B.v = 0 ∧ B.ramp = none ∧ B.p = A.p))
        ∧ (∀ q, A.st = .stopping → A.team = none → A.pendingRun = some q → q.group = none → segEnterOk n q.first A.p 0 s = true →
            (A.stepped = true ∨ A.control = false) →
            does (.stopComplete n) (fun B => B.st = .moving ∧ B.pendingRun = none
              ∧ B.run = some { post := q, seg := q.first, p0 := A.p, v0 := 0 }))
        ∧ (∀ h, A.st = .homing → A.homing = some h → h.taken = true →
            does (.stopComplete n) (fun B => B.st = .holding ∧ B.homed = true ∧ B.lastCode = 0x2030) ∧ events (.stopComplete n) [84])
        ∧ (∀ h, A.st = .homing → A.homing = some h → h.taken = false →
            does (.stopComplete n) (fun B => B.st = .homing ∧ B.homing.map Homing.step = some 3)))
    ∧ (A.due.stopEnd = true → A.abortCode.isSome = true → does (.stopComplete n) (fun B => B.st = .fault)
        ∧ events (.stopComplete n) [80 + n.val / 8])
    ∧ (A.due.stopEnd = true → A.abortCode = none → A.testEnding = true → A.st.en = true → A.pendingRun = none →
        does (.stopComplete n) (fun B => B.st = .disabled ∧ B.lastCode = 0x2001))
    ∧ (∀ causes, A.due.obstacle = some causes → A.st ≠ .obstacle →
        all (.obstacle n) (fun m B => B.st = .obstacle ∧ B.obst = true ∧ B.causes = causes ∧ B.run = none ∧ B.pendingRun = none
          ∧ (m = n.val → B.lastCode = 0x2020) ∧ B.obsPos = (if actualValid m s then actualPos m s else 0))
        ∧ events (.obstacle n) (homingEvent ++ [48 + n.val]))
    ∧ (∀ causes, A.due.obstacle = some causes → A.st = .obstacle →
        does (.obstacle n) (fun B => B.st = .obstacle ∧ B.causes = causes ∧ B.lastCode = 0x2022 ∧ B.reversal = none)
        ∧ events (.obstacle n) [48 + n.val])
    ∧ (A.due.reversal = true → does (.reversalComplete n) (fun B => B.st = .holding ∧ B.v = 0 ∧ B.reversal = none ∧ B.lastCode = 0x2021)
        ∧ events (.reversalComplete n) [88])
    ∧ (∀ r h, A.due.reference = some r → A.homing = some h →
        does (.homingReference n) (fun B => B.st = .homing ∧ B.homing = some { h with step := 5, taken := true }
          ∧ B.origin = if axFb n s = 0 then A.origin else BitVec.ofInt 32 (r - signed 32 (ctlGet (axReg n 0x34) s).toNat)))
    ∧ (A.due.chatter = true → does (.homingChatterAbort n) (fun B => B.homing = none ∧ B.abortCode = some 0x2031 ∧ B.lastCode = 0x2031)
        ∧ events (.homingChatterAbort n) [84])
    ∧ (A.due = {} → (∀ m ∈ ms, (s.axis m).control = false) →
        ∀ x ∈ [Instr.enablingComplete n, .segmentEnd n, .runComplete n, .stopComplete n, .obstacle n, .reversalComplete n, .homingChatterAbort n],
          exec x s = .next s)

/-- R26, R328 to R333, R353, R360, R361: the sensing faults, the mailbox, the carrier period and the chopper: a sample beyond the fault limit is replaced
by the last good one, the phase targets of the servo period become the references, and a phase decays once its current meets its
reference. R28, R30 to R32, R334, R338: a servo period begins at the next boundary of 62.5 µs, takes the releases that are ready and goes on slot by slot; an
enabled axis whose feedback is not valid is in FAULT with 0x2004; while the region reinitialises no axis is served. An uncorrectable
error of a table reinitialises the region, with every axis disabled and not homed, leads to HOLD when it does so already, and is
recorded only in HOLD. Where the spec leaves a point open, the model's choice is taken: log entries 60, 61, 84, 86. -/
def Obligations.MotionPeriodActs : Prop :=
  (
    ∀ (n : Fin 32) (ns : Nat) (s : State),
        let A := s.axis n
        let u := advance ns s
        let only := fun (t : State) => ∀ k, k ≠ n.val → t.axis k = s.axis k
        (sensed n s = true →
          (Completes (.sdStreamStuck n false) s (fun t => t.axis n = { A with phA := { A.phA with stuck := true } } ∧ only t ∧ t = { s with mot := t.mot }))
          ∧ (Completes (.sdStreamStuck n true) s (fun t => t.axis n = { A with phB := { A.phB with stuck := true } } ∧ only t ∧ t = { s with mot := t.mot }))
          ∧ (∀ bA bB : List Bool, s.keep.mode ≠ .stabled → Completes (.carrierPeriod n bA bB ns) s (fun t =>
              (∃ iA iB : Int,
                (iA * (sincRatio (n / 8) s ^ 3 : Nat) - sincSum 3 (sincRatio (n / 8) s) bA * 32_767).natAbs < sincRatio (n / 8) s ^ 3
                ∧ (iB * (sincRatio (n / 8) s ^ 3 : Nat) - sincSum 3 (sincRatio (n / 8) s) bB * 32_767).natAbs < sincRatio (n / 8) s ^ 3
                ∧ (t.axis n).phA.good = (if A.phA.faulty bA iA then A.phA.good else iA)
                ∧ (t.axis n).phB.good = (if A.phB.faulty bB iB then A.phB.good else iB)
                ∧ (t.axis n).faultNow = (A.faultNow || A.phA.faulty bA iA || A.phB.faulty bB iB))
              ∧ A.curAcc ≤ (t.axis n).curAcc ∧ (t.axis n).phA.good.natAbs ≤ (t.axis n).curAcc ∧ (t.axis n).phB.good.natAbs ≤ (t.axis n).curAcc
              ∧ (t.axis n).strong = A.modeDue.getD A.strong ∧ (t.axis n).modeDue = none
              ∧ (t.axis n).phA.used = A.phA.target ∧ (t.axis n).phA.prev = A.phA.used
              ∧ (t.axis n).phB.used = A.phB.target ∧ (t.axis n).phB.prev = A.phB.used
              ∧ A.carrierAt < (t.axis n).carrierAt ∧ s.now ≤ t.now ∧ ns ≤ t.now ∧ 5 * (t.axis n).carrierAt ≤ t.now
              ∧ only t ∧ t = { s with time := t.time, free := t.free, mot := t.mot }))
          ∧ (∀ (ph : Fin 3) (bA bB : List Bool), A.st.en = true → A.strong = true → (axKind n s ≠ 2 → ph.val ≠ 2) → 5 * A.carrierAt + 1_000 ≤ u.now →
              let pick := fun (a : Axis) => if ph.val = 0 then a.phA else if ph.val = 1 then a.phB else a.phC
              let code := (chopperCode (axKind n s != 2) ph bA bB u).1
              (pick A).decay = .drive → Completes (.chopperCrossing n ph bA bB ns) s (fun t =>
                pick (t.axis n) = (if code.natAbs < (pick A).used.natAbs then pick A
                  else { pick A with decay := if (pick A).used.natAbs < (pick A).prev.natAbs then .fast else .slow })
                ∧ (t.axis n).st = A.st ∧ only t ∧ t = { u with free := t.free, mot := t.mot })))
        ∧ (sensed n s = false →
            exec (.sdStreamStuck n false) s = .next s ∧ exec (.sdStreamStuck n true) s = .next s
            ∧ (∀ bA bB, exec (.carrierPeriod n bA bB ns) s = .next u) ∧ ∀ ph bA bB, exec (.chopperCrossing n ph bA bB ns) s = .next u)
        ∧ (∀ g : Fin 4, grpFaulted g s = false → n.val / 8 = g.val → n.val < s.axesFitted →
            Completes (.sdclkFault g) s (fun t => (∀ m < s.axesFitted, m / 8 = g.val → (t.axis m).st = .fault ∧ (t.axis m).lastCode = 0x2003)
              ∧ grpFaulted g t = true ∧ (80 + g.val, s.now) ∈ t.svc.toggles ∧ t.sram = s.sram ∧ t.ctl = s.ctl
              ∧ t.keep.mode = (if s.keep.mode = .run then .degraded else s.keep.mode)
              ∧ (s.keep.mode ≠ .run → t = { s.noted t with mot := t.mot, keep := t.keep })))
        ∧ (∀ g : Fin 4, grpFaulted g s = true → exec (.sdclkFault g) s = .next s)
        ∧ Completes (.releaseMarker ns) s (fun t => t.mot.arriving = none ∧ t.mot.ready = s.mot.ready ++ [s.mot.arriving.getD { posts := [] }]
            ∧ t.mot.markerAt = u.replica .mclk ∧ t.mot.silent = false ∧ t.mot.axes = s.mot.axes ∧ t = { u with mot := t.mot })
        ∧ (enMask s ≠ 0 → s.mot.silent = false → s.mot.markerAt + 20_000 * s.seq.period + 1_000_000 < u.replica .mclk →
            Completes (.mailboxSilent ns) s (fun t => t.mot.silent = true ∧ (∀ m < s.axesFitted, (t.axis m).st = .disabled ∧ (t.axis m).v = 0)
              ∧ (86, u.now) ∈ t.svc.toggles ∧ t.keep.mode = s.keep.mode ∧ t = { u.noted t with mot := t.mot }))
        ∧ (enMask s = 0 ∨ s.mot.silent = true ∨ u.replica .mclk ≤ s.mot.markerAt + 20_000 * s.seq.period + 1_000_000 →
            exec (.mailboxSilent ns) s = .next u))
  ∧ (
    ∀ (k : Fin 8) (s : State), s.keep.mode ≠ .stabled →
        (s.reiniting 1 = false →
          Completes (.servoPeriod k false) s (fun t =>
            t.mot.slot = max (if 8 ≤ s.mot.slot then 0 else s.mot.slot) k.val + 1
            ∧ s.now ≤ t.now ∧ t.sram = s.sram ∧ t.ctl = s.ctl ∧ t.keep = s.keep ∧ t.seq = s.seq
            ∧ (s.mot.slot < 8 → t.mot.lastServo = s.mot.lastServo ∧ t.mot.ready = s.mot.ready)
            ∧ (8 ≤ s.mot.slot → t.mot.lastServo = nextServo s ∧ nextServo s % 62_500 = 0 ∧ nextServo s ≤ t.now ∧ t.mot.ready = []
              ∧ (s.mot.ready = [] → (∀ k < s.axesFitted, (s.axis k).due = {} ∧ (s.axis k).control = false ∧ (s.axis k).run = none) →
                ∀ n < s.axesFitted, n % 8 ≤ k.val → (s.axis n).st.en = true → axFb n s ≠ 0 → chanValid n s = false →
                  (t.axis n).st = .fault ∧ (t.axis n).lastCode = 0x2004 ∧ (t.axis n).v = 0))))
        ∧ (s.reiniting 1 = true → 8 ≤ s.mot.slot → Completes (.servoPeriod k false) s (fun t =>
            t.mot.axes = s.mot.axes ∧ t.mot.slot = 8 ∧ t.mot.ready = s.mot.ready ∧ t.mot.lastServo = nextServo s
            ∧ t = { s with time := t.time, mot := t.mot }))
        ∧ (s.keep.mode ≠ .hold → s.reiniting 1 = false → Completes (.servoPeriod k true) s (fun t =>
            (∀ n < s.axesFitted, (t.axis n).st = .disabled ∧ (t.axis n).homed = false)
            ∧ t.reiniting 1 = true ∧ t.mot.ready = [] ∧ t.fbk.eo = [] ∧ t.sram = s.sram ∧ t.keep.mode = s.keep.mode))
        ∧ (s.keep.mode ≠ .hold → s.reiniting 1 = true → Completes (.servoPeriod k true) s (fun t => t.keep.mode = .hold))
        ∧ (s.keep.mode = .hold → Completes (.servoPeriod k true) s (fun t => t.keep = s.keep ∧ t.sram = s.sram ∧ t.seq = s.seq)))

/-- R362: a granted MOT_TEST write in COMMISSION takes a disabled axis that passes its checks into TEST: enable-hold, jogs, home; one that does not pass
is refused with 0x2060; an axis in TEST changes its test; END brings an axis at rest to DISABLED and stops one that moves first, and so
does a test that is not renewed for 500 ms. Where the spec leaves a point open, the model's choice is taken: log entries 44, 61. -/
def Obligations.MotionTests : Prop :=
  ∀ (acc : Access) (n : Fin 32) (ns : Nat) (s : State),
    let A := s.axis n
    let u := advance acc.at_ s
    let w := advance ns s
    let granted := fun (kind : Nat) => WriteGranted acc 0x010A_0004 (BitVec.ofNat 32 (2 ^ 8 * kind + n.val)) s
    let does := fun (x : Instr) (P : Axis → Prop) => Completes x s (fun t => P (t.axis n) ∧ (∀ k, k ≠ n.val → t.axis k = s.axis k)
      ∧ t.sram = s.sram ∧ t.keep.mode = s.keep.mode)
    let alone := A.team = none ∧ A.pendingRun = none
    let ends := fun (B : Axis) => B.testKind = 0 ∧ (A.v = 0 → B.st = .disabled) ∧ (A.v ≠ 0 → B.st = .stopping ∧ B.testEnding = true ∧ B.homing = none)
    (s.keep.mode = .commission →
      (A.st = .disabled → enableConfigOk n s = true →
        (granted 1 → does (.motTestEnableHold acc n) (fun B => B.st = .test ∧ B.testKind = 1 ∧ B.v = 0 ∧ B.testAt = u.now))
        ∧ (granted 2 → does (.motTestJogPositive acc n) (fun B => B.st = .test ∧ B.testKind = 2 ∧ B.jogStart = B.p ∧ B.testAt = u.now))
        ∧ (granted 3 → does (.motTestJogNegative acc n) (fun B => B.st = .test ∧ B.testKind = 3 ∧ B.jogStart = B.p ∧ B.testAt = u.now))
        ∧ (granted 4 → axHomeDio n s ≠ 127 → does (.motTestHome acc n) (fun B => B.st = .homing ∧ B.testKind = 4 ∧ B.homed = false
            ∧ B.homing.map Homing.armed = some true)))
      ∧ (A.st = .disabled → enableConfigOk n s = false →
          let refused := fun (B : Axis) => B.refused = sat 0xFFFF (A.refused + 1) ∧ B.lastCode = 0x2060 ∧ B.st = .disabled
          (granted 1 → does (.motTestEnableHold acc n) refused) ∧ (granted 2 → does (.motTestJogPositive acc n) refused)
          ∧ (granted 3 → does (.motTestJogNegative acc n) refused) ∧ (granted 4 → does (.motTestHome acc n) refused))
      ∧ (A.st = .test →
          (A.testKind = 2 ∨ A.testKind = 3 ∨ A.testKind = 4 → granted 1 → does (.motTestEnableHold acc n) (fun B => B.st = .test ∧ B.testKind = 1))
          ∧ (A.testKind = 1 ∨ A.testKind = 3 → granted 2 → does (.motTestJogPositive acc n) (fun B => B.st = .test ∧ B.testKind = 2 ∧ B.jogStart = A.p))
          ∧ (A.testKind = 1 ∨ A.testKind = 2 → granted 3 → does (.motTestJogNegative acc n) (fun B => B.st = .test ∧ B.testKind = 3 ∧ B.jogStart = A.p))
          ∧ (A.testKind = 1 ∨ A.testKind = 2 ∨ A.testKind = 3 → granted 4 → axHomeDio n s ≠ 127 → does (.motTestHome acc n) (fun B =>
              B.st = .homing ∧ B.testKind = 4 ∧ B.homed = false)))
      ∧ (granted 0 → A.st.en = true → alone → does (.motTestEnd acc n) ends))
    ∧ (A.testKind ≠ 0 → A.testAt + 500_000_000 ≤ w.now → A.st.en = true → alone → does (.motTestNotRenewed n ns) ends)
    ∧ (A.testKind = 0 ∨ w.now < A.testAt + 500_000_000 → exec (.motTestNotRenewed n ns) s = .next w)

/-! ### Position feedback -/

/-- R366, R367, R373: a step or code change of a channel that is on moves its count by one in its direction, with the polarity of its configuration; a double
step or an impossible code moves no count and raises the error level, and above the limit the channel is invalid; the first valid Hall code is the
reference. A channel that is off only follows its lines. No other channel changes. R370, R371, R373, R374, R377, R378, R379: the index latch holds the count; error levels fall by one at each multiple of 100 ms, and with relax a channel
whose level reaches 0 is valid again; a frequency gate takes its net count; after the zero-speed time the speed is 0. Where the spec leaves a point open, the model's choice is taken: log entry 63. -/
def Obligations.ChannelsCount : Prop :=
  (
    ∀ (n : Fin 32) (ns : Nat) (s : State),
        let C := s.chan n
        let inv := cbit (pcReg n 0) 2 s
        let does := fun (x : Instr) (P : PosChan → Prop) => Completes x s (fun t => P (t.chan n) ∧ (∀ k, k ≠ n.val → t.chan k = s.chan k)
          ∧ t.now = (advance ns s).now ∧ t = { (advance ns s).noted t with fbk := t.fbk, mot := t.mot })
        let moved := fun (up : Bool) (D : PosChan) => D.count = (if up = inv then C.count - 1 else C.count + 1) ∧ D.level = C.level ∧ D.bad = C.bad
        let errs := fun (D : PosChan) => D.count = C.count ∧ D.level = min 255 (C.level + 1)
          ∧ D.bad = (C.bad || decide (cf (pcReg n 0) 31 24 s < min 255 (C.level + 1)))
        (chanOn n s = true → chanMode n s = 1 → ∀ a b : Bool, let d := (quadIndex a b + 4 - quadIndex C.a C.b) % 4
          (d = 0 → does (.quadratureStep n a b ns) (fun D => D = C))
          ∧ (d = 1 → does (.quadratureStep n a b ns) (fun D => moved true D ∧ D.a = a ∧ D.b = b))
          ∧ (d = 3 → does (.quadratureStep n a b ns) (fun D => moved false D ∧ D.a = a ∧ D.b = b))
          ∧ (d = 2 → does (.quadratureStep n a b ns) (fun D => errs D ∧ D.errQ = sat 0xFFFF (C.errQ + 1) ∧ D.a = a ∧ D.b = b)))
        ∧ (chanOn n s = true → chanMode n s = 2 → ∀ h : Fin 8, let d := (hallIndex h + 6 - hallIndex C.hall) % 6
            (h.val ≠ 0 → h.val ≠ 7 →
              (C.hall = 0 ∨ d = 0 → does (.hallCodeChange n h ns) (fun D => D.count = C.count ∧ D.level = C.level ∧ D.hall = h.val ∧ D.inImpossible = false))
              ∧ (C.hall ≠ 0 → d = 1 → does (.hallCodeChange n h ns) (fun D => moved true D ∧ D.hall = h.val))
              ∧ (C.hall ≠ 0 → d = 5 → does (.hallCodeChange n h ns) (fun D => moved false D ∧ D.hall = h.val))
              ∧ (C.hall ≠ 0 → d = 2 ∨ d = 3 ∨ d = 4 → does (.hallCodeChange n h ns) (fun D => errs D ∧ D.errQ = sat 0xFFFF (C.errQ + 1) ∧ D.hall = h.val)))
            ∧ (h.val = 0 ∨ h.val = 7 →
              (C.inImpossible = false → does (.hallCodeChange n h ns) (fun D => errs D ∧ D.errImp = sat 0xFFFF (C.errImp + 1) ∧ D.inImpossible = true))
              ∧ (C.inImpossible = true → does (.hallCodeChange n h ns) (fun D => D.count = C.count ∧ D.level = C.level ∧ D.inImpossible = true))))
        ∧ (chanOn n s = false ∨ chanMode n s ≠ 1 → ∀ a b, does (.quadratureStep n a b ns) (fun D => D = { C with a := a, b := b }))
        ∧ (chanOn n s = false ∨ chanMode n s ≠ 2 → ∀ h : Fin 8, does (.hallCodeChange n h ns) (fun D =>
            D = { C with a := bitAt 0 h.val, b := bitAt 1 h.val, z := bitAt 2 h.val })))
  ∧ (
    ∀ (n : Fin 32) (ns : Nat) (s : State),
        let C := s.chan n
        let u := advance ns s
        let gates := chanOn n s = true ∧ chanMode n s = 1 ∧ cbit (pcReg n 0) 3 s = true
        (∀ level : Bool,
          (gates → level = cbit (pcReg n 0) 4 s → C.z ≠ level →
            Completes (.indexLatch n level ns) s (fun t => (t.chan n).index = C.count ∧ (t.chan n).latches = C.latches + 1 ∧ (t.chan n).z = level
              ∧ (t.chan n).fIndex = true ∧ (t.chan n).count = C.count ∧ (∀ k, k ≠ n.val → t.chan k = s.chan k)
              ∧ t = { u.noted t with fbk := t.fbk, mot := t.mot }))
          ∧ (¬ gates ∨ level ≠ cbit (pcReg n 0) 4 s ∨ C.z = level → Completes (.indexLatch n level ns) s (fun t =>
              t.chan n = { C with z := level } ∧ (∀ k, k ≠ n.val → t.chan k = s.chan k) ∧ t = { u.noted t with fbk := t.fbk })))
        ∧ (let at_ := (s.now / 100_000_000 + 1) * 100_000_000
          Completes .errorLevelDecay s (fun t => (s.keep.mode ≠ .stabled → t.now = at_)
            ∧ (∀ k < 32, (t.chan k).level = (s.chan k).level - 1 ∧ (t.chan k).count = (s.chan k).count
                ∧ (t.chan k).bad = ((s.chan k).bad && !((s.chan k).level == 1 && cbit (pcReg k 0) 5 s)))
            ∧ t = { (advance at_ s).noted t with fbk := t.fbk }))
        ∧ (let at_ := (s.now / gateNs n s + 1) * gateNs n s
          let vf := C.gateNet * 256 * ((1_000_000_000 / gateNs n s : Nat) : Int)
          let up := cf (pcReg n 0xC) 15 0 s
          let dn := cf (pcReg n 0xC) 31 16 s
          Completes (.frequencyGateEnd n) s (fun t => (s.keep.mode ≠ .stabled → t.now = at_) ∧ (t.chan n).gateNet = 0
            ∧ (t.chan n).vf = vf ∧ (t.chan n).count = C.count
            ∧ (up ≤ dn → (t.chan n).freq = false)
            ∧ (dn < up → C.freq = true → ((t.chan n).freq = true ↔ dn * 256 < vf.natAbs))
            ∧ (dn < up → C.freq = false → ((t.chan n).freq = true ↔ up * 256 ≤ (periodSpeed n (advance at_ s)).natAbs))
            ∧ (∀ k, k ≠ n.val → t.chan k = s.chan k) ∧ t = { (advance at_ s).noted t with fbk := t.fbk }))
        ∧ Completes (.zeroSpeedTimeout n ns) s (fun t => t.fbk.chans = s.fbk.chans
            ∧ (zeroTimedOut n u = true → C.freq = false → chanSpeed n t = 0) ∧ chanValid n t = chanValid n s ∧ t = { u.noted t with fbk := t.fbk }))

/-- R383, R385, R387, R388, R391: a standstill detector asserts once its condition has held within creep; a head without samples for 1 ms is not ready and
disturbs the sections it bounds; a head that reads free for 500 ms is ready. R389, R391 to R393, R435: the section commands. RESET and RESTORE of a disturbed or restoring section whose heads are idle set the count to 0; while a head
is not idle, beside a DISTURB of the same release, or in another state they are refused; DISTURB disturbs it with cause bit 10. A section
that no head bounds, and set bits that the command does not name, are refused; a channel that is no section is refused with 0x4050. Where the spec leaves a point open, the model's choice is taken: log entries 23, 100. -/
def Obligations.HeadsAndSections : Prop :=
  (
    (∀ (k : Fin 8) (ns : Nat) (s : State),
        let u := chanTime ns s
        let D := u.stand k
        let holds := D.cond = true ∧ D.asserted = false ∧ D.stepsA ≤ cf (ssReg k 4) 15 0 s ∧ D.stepsB ≤ cf (ssReg k 4) 15 0 s
          ∧ cf (ssReg k 0) 15 0 s * 1_000_000 ≤ u.now - D.since
        (holds → Completes (.standstillAssert k ns) s (fun t => (t.stand k).asserted = true ∧ t.svc.toggles = u.svc.toggles ++ [(100 + k.val, u.now)]
          ∧ (∀ j, j ≠ k.val → t.stand j = u.stand j) ∧ t = { u.noted t with fbk := t.fbk }))
        ∧ (¬ holds → exec (.standstillAssert k ns) s = .next u))
      ∧ ∀ (k : Fin 16) (ns : Nat) (s : State),
          let H := s.head k
          let u := advance ns s
          (1_000_000 ≤ u.now - H.lastSample →
            Completes (.headSampleTimeout k ns) s (fun t => (t.head k).state = 0 ∧ (t.head k).sysA = 0 ∧ (t.head k).sysB = 0
              ∧ (t.head k).freeSince = none ∧ (t.head k).inCnt = H.inCnt ∧ (t.head k).outCnt = H.outCnt
              ∧ (H.state ≠ 0 → ∀ j < 16, cbit (secReg j 0) k s = true → (t.section_ j).state = .disturbed)
              ∧ (∀ j < 16, H.state = 0 ∨ cbit (secReg j 0) k s = false → t.section_ j = s.section_ j)
              ∧ (∀ j, j ≠ k.val → t.head j = s.head j) ∧ t = { u.noted t with fbk := t.fbk }))
          ∧ (u.now - H.lastSample < 1_000_000 → exec (.headSampleTimeout k ns) s = .next u)
          ∧ (∀ t0, H.freeSince = some t0 → H.state = 0 → headEnabled k s = true → k.val < s.headsFitted → 500_000_000 ≤ u.now - t0 → u.now - H.lastSample < 1_000_000 →
            Completes (.headReady k ns) s (fun t => (t.head k).state = 1 ∧ (t.head k).freeSince = none ∧ (t.head k).lastCode = 0x3023
              ∧ (∀ j, j ≠ k.val → t.head j = s.head j) ∧ t = { u.noted t with fbk := t.fbk }))
          ∧ (H.state ≠ 0 ∨ headEnabled k s = false ∨ H.freeSince = none ∨ 1_000_000 ≤ u.now - H.lastSample → exec (.headReady k ns) s = .next u))
  ∧ (
    ∀ (k : Fin 16) (a b c : Word) (excess : Bool) (s : State),
        let S := s.section_ k
        let does := fun (x : Instr) (P : Section → Prop) => Completes x s (fun t => P (t.section_ k) ∧ (∀ j, j ≠ k.val → t.section_ j = s.section_ j)
          ∧ t.fbk.heads = s.fbk.heads ∧ t.fbk.chans = s.fbk.chans ∧ t = { s.noted t with fbk := t.fbk })
        let refused := fun (T : Section) => T = { S with fRefused := true }
        (a.toNat % 2 ^ 8 = 0x80 + k.val →
          (sectionFieldsOk a b c = true → secHeads k s ≠ [] →
            (S.state = .disturbed ∨ S.state = .restoring → secIdle k s = true →
                does (.sectionReset a b c false) (fun T => T.state = .clear ∧ T.occ = 0 ∧ T.causes = 0 ∧ T.fApplied = true)
                ∧ does (.restore a b c false) (fun T => T.state = .restoring ∧ T.occ = 0 ∧ T.causes = 0 ∧ T.fApplied = true))
            ∧ (excess = true ∨ secIdle k s = false ∨ (S.state ≠ .disturbed ∧ S.state ≠ .restoring) →
                does (.sectionReset a b c excess) refused ∧ does (.restore a b c excess) refused)
            ∧ does (.disturb a b c) (fun T => T.state = .disturbed ∧ T.causes.getLsbD 6 = true ∧ T.fApplied = true ∧ T.occ = S.occ))
          ∧ (sectionFieldsOk a b c = false ∨ secHeads k s = [] →
              does (.sectionReset a b c excess) refused ∧ does (.restore a b c excess) refused ∧ does (.disturb a b c) refused))
        ∧ (a.toNat % 2 ^ 8 / 16 ≠ 8 → ∀ x ∈ [Instr.sectionReset a b c excess, .restore a b c excess, .disturb a b c],
            Completes x s (fun t => t.fbk = s.fbk ∧ t.svc.toggles = s.svc.toggles ++ [(184, s.now)] ∧ t = { s.noted t with fld := t.fld })))

/-- R24, R28, R30 to R32, R340, R374, R375, R387, R388, R391, R394, R396, R397: the writes of the feedback region when granted, the steps of an encoder output,
and an uncorrectable error, after which every function starts from first use; while the region reinitialises it leads to HOLD, and in
HOLD it is recorded only. Where the spec leaves a point open, the model's choice is taken: log entry 23. -/
def Obligations.FeedbackWrites : Prop :=
  ∀ (acc : Access) (v : Word) (s : State),
    (∀ n : Fin 32, n.val < s.chansFitted →
      (WriteGranted acc 0x0200_5000 v s → v.getLsbD n = true → (s.chan n).bad = true → cbit (pcReg n 0) 5 s = false →
        Completes (.pcClear acc v) s (fun t => (t.chan n).bad = false ∧ (t.chan n).level = 0 ∧ (t.chan n).count = (s.chan n).count))
      ∧ (∀ lines : Bool, WriteGranted acc (pcReg n (if lines then 4 else 0)) v s →
          Completes (.pcConfigWrite acc n lines v) s (fun t => (t.chan n).count = 0 ∧ (t.chan n).bad = false ∧ (t.chan n).level = 0
            ∧ (t.chan n).index = 0 ∧ (t.chan n).a = (s.chan n).a ∧ ∀ k, k ≠ n.val → t.chan k = s.chan k)))
    ∧ (∀ k : Fin 16, k.val < s.headsFitted →
        (WriteGranted acc 0x0200_5004 v s → v.getLsbD k = true →
          Completes (.wcClear acc v) s (fun t => (t.head k).inCnt = 0 ∧ (t.head k).outCnt = 0 ∧ (t.head k).satIn = false ∧ (t.head k).satOut = false
            ∧ (t.head k).state = (s.head k).state))
        ∧ (WriteGranted acc (wcReg k 0) v s →
          Completes (.wcConfigWrite acc k v) s (fun t => (t.head k).state = 0 ∧ (t.head k).freeSince = none ∧ (t.head k).inCnt = (s.head k).inCnt
            ∧ ∀ j < 16, cbit (secReg j 0) k s = true → (t.section_ j).state = .disturbed)))
    ∧ (∀ k : Fin 16, WriteGranted acc (secReg k 0) v s →
        Completes (.secConfigWrite acc k v) s (fun t => (t.section_ k).state = .disturbed ∧ (t.section_ k).causes.getLsbD 5 = true
          ∧ ∀ j, j ≠ k.val → t.section_ j = s.section_ j))
    ∧ (∀ e : Fin 8, WriteGranted acc (eoReg e 0) v s → v.getLsbD 15 = true → cbit (eoReg e 0) 15 s = false →
        Completes (.eoEnable acc e v) s (fun t => (t.enc e).count = 0 ∧ (t.enc e).pending = 0 ∧ (t.enc e).rem = 0 ∧ (t.enc e).phase = 0 ∧ (t.enc e).z = false ∧ (t.enc e).ref = eoValue e t
          ∧ cbit (eoReg e 0) 15 t = true ∧ ∀ j, j ≠ e.val → t.enc j = s.enc j))
    ∧ (∀ (e : Fin 8) (ns : Nat),
        let u := advance ns s
        let due := eoEnabled e s = true ∧ encodersHeld s = false ∧ (s.enc e).srcInvalid = false ∧ (s.enc e).pending ≠ 0
          ∧ (∀ l, (s.enc e).lastStep = some l → 100 ≤ u.now - l)
        (due → Completes (.eoOutputStep e ns) s (fun t => (t.enc e).lastStep = some u.now
          ∧ (0 < (s.enc e).pending → (t.enc e).pending = (s.enc e).pending - 1 ∧ (t.enc e).count = (s.enc e).count + 1)
          ∧ ((s.enc e).pending < 0 → (t.enc e).pending = (s.enc e).pending + 1 ∧ (t.enc e).count = (s.enc e).count - 1)
          ∧ (∀ j, j ≠ e.val → t.enc j = s.enc j) ∧ t = { u with fbk := t.fbk }))
        ∧ (¬ due → exec (.eoOutputStep e ns) s = .next u))
    ∧ (s.keep.mode ≠ .hold → s.reiniting 2 = false →
        Completes .feedbackUncorrectableError s (fun t => (∀ n, (t.chan n).count = 0 ∧ (t.chan n).index = 0 ∧ (t.chan n).level = 0
            ∧ (t.chan n).bad = false) ∧ t.fbk.heads = [] ∧ t.fbk.stand = []
          ∧ (∀ k < 16, (t.section_ k).state = .disturbed ∧ (t.section_ k).occ = 0 ∧ (t.section_ k).causes.getLsbD 0 = true
              ∧ (secBounded k s = false → (t.section_ k).causes.getLsbD 1 = true))
          ∧ (∀ n < s.chansFitted, noFeedback n s = false → (t.axis n).homed = false) ∧ (∀ n, (t.axis n).st = (s.axis n).st)
          ∧ t.fbk.eo = s.fbk.eo ∧ t.reiniting 2 = true ∧ t.keep.mode = s.keep.mode))
    ∧ (s.keep.mode ≠ .hold → s.reiniting 2 = true → Completes .feedbackUncorrectableError s (fun t => t.keep.mode = .hold))
    ∧ (s.keep.mode = .hold → Completes .feedbackUncorrectableError s (fun t => t.jnl = (record 0x3060 [] s).jnl ∧ t = s.noted t))

/-! ### Field blocks -/

/-- R83, R402, R405 to R407, R409, R410, R413: the frames of a field link, silence, an FCLK fault, the serial watchdog and the trip line. A good outbound frame
carries the stored states and the mode, and, when it started after the release was handed over, up to 16 commands; a release takes effect with
the last of its commands. After the watchdog every output has its stored fail-safe state in force, after a trip every safety-marked one is
off. No other block changes, and nothing happens at a block that is not fitted. R412, R413, R423, R525: a field-block reset of a block that is not isolated clears its state machines and demands and keeps its retention registers; on a
pass of the link check within 10 ms it rejoins with its pairs in INTERLOCK, after 10 ms it is isolated and the module leaves RUN for DEGRADED; under-voltage
turns every output of the block off until the voltage is restored. Where the spec leaves a point open, the model's choice is taken: log entries 65, 66, 100. -/
def Obligations.FieldLinkActs : Prop :=
  (
    ∀ (f : Fin 4) (ns : Nat) (s : State),
        let b := s.block f
        let u := advance ns s
        let now := u.now
        let resets := (s.keep.mode = .commission ∨ s.keep.mode = .run ∨ s.keep.mode = .degraded) ∧ b.resetAt = none ∧ b.isolated = false
        let does := fun (v : State) (x : Instr) (P : Block → State → Prop) => Completes x s (fun t => P (t.block f) t
          ∧ (∀ g, g ≠ f.val → t.block g = s.block g)
          ∧ t = { v.noted t with fld := t.fld, fbk := t.fbk, keep := { v.keep with lastCode := t.keep.lastCode } })
        let e := advance (frameEnd ns s) s
        let carries := b.handedAt + 25_000 < e.now
        (s.fldFitted f = true →
          does e (.fieldLinkOutboundFrame f ns true) (fun B t => B = { b with errOut := min 0xFFFF (b.errOut + 1) } ∧ t.fbk = s.fbk)
          ∧ does e (.fieldLinkOutboundFrame f ns false) (fun B t => B.lastOut = e.now ∧ B.outSeq = b.outSeq + 1
              ∧ B.fsDio = failsafeDio f s ∧ B.fsLs = failsafeLs f s ∧ B.modeForce = (s.keep.mode == .hold || s.keep.mode == .stabled) ∧ t.fbk = s.fbk
              ∧ (carries → B.cmds = b.cmds.drop 16) ∧ (¬ carries → B.cmds = b.cmds)
              ∧ (carries → b.cmds.length ≤ 16 → ∀ w, b.words = some w → b.resetAt = none → b.isolated = false →
                  B.dDio = w.1 ∧ B.dLs = w.2.1 ∧ B.dSo = w.2.2 ∧ B.words = none)
              ∧ (¬ carries ∨ 16 < b.cmds.length ∨ b.words = none → B.dDio = b.dDio ∧ B.dLs = b.dLs ∧ B.dSo = b.dSo ∧ B.words = b.words))
          ∧ (∀ (bad : Bool) (vf : Nat) (temp : BitVec 16) (ls : List Nat) (loops : List (Nat × Nat)) (hot : Word),
              Completes (.fieldLinkInboundFrame f ns bad vf temp ls loops hot) s (fun t => let B := t.block f
                B.inSeq = b.inSeq + 1 ∧ B.vfield = vf ∧ B.temp = temp.toInt ∧ (∀ g, g ≠ f.val → t.block g = s.block g)
                ∧ (bad = true → B.errIn = min 0xFFFF (b.errIn + 1) ∧ B.lastIn = b.lastIn ∧ B.frame = b.frame ∧ t.fbk = s.fbk ∧ t.snap = s.snap)
                ∧ (bad = false → B.errIn = b.errIn ∧ B.lastIn = now ∧ B.silent = false ∧ B.frame.map InFrame.stamp = some (now - 26_000))
                ∧ t = { u.noted t with fld := t.fld, fbk := t.fbk, snap := t.snap, keep := { u.keep with lastCode := t.keep.lastCode } }))
          ∧ (b.silent = false → b.isolated = false → 1_000_000 ≤ now - b.lastIn →
              does u (.fieldBlockSilent f ns) (fun B t => B.silent = true ∧ (resets → B.resetAt = some now ∧ B.link = 1)
                ∧ (¬ resets → B.resetAt = b.resetAt ∧ B.link = 0) ∧ (144 + f.val, now) ∈ t.svc.toggles))
          ∧ does s (.fclkDeviation f) (fun B _ => B.fclk = true ∧ (resets → B.resetAt = some s.now) ∧ (¬ resets → B.resetAt = b.resetAt))
          ∧ (98 * wdNs f s ≤ 100 * (now - b.lastOut) → does u (.serialWatchdogExpiry f ns) (fun B t => B.forced = true ∧ B.dDio = b.dDio
              ∧ (∀ c, dioDemand f c t = (b.fsDio.getLsbD c && !dioSafety f c s))
              ∧ ∀ i < 8, lsDemand f i t = (b.fsLs.getLsbD i && !lsSafety f i s)))
          ∧ (tripLineLow f s = true → b.trip = false → does s (.tripLineLow f) (fun B t => B.trip = true ∧ (148 + f.val, s.now) ∈ t.svc.toggles
              ∧ (∀ c, dioSafety f c s = true → dioDriven f c t = false) ∧ ∀ i < 8, lsSafety f i s = true → lsDemand f i t = false)))
        ∧ (s.fldFitted f = false ∨ b.silent = true ∨ b.isolated = true ∨ now - b.lastIn < 1_000_000 → exec (.fieldBlockSilent f ns) s = .next u)
        ∧ (s.fldFitted f = false ∨ 100 * (now - b.lastOut) < 98 * wdNs f s → exec (.serialWatchdogExpiry f ns) s = .next u)
        ∧ (s.fldFitted f = false ∨ tripLineLow f s = false ∨ b.trip = true → exec (.tripLineLow f) s = .next s)
        ∧ (s.fldFitted f = false → exec (.fclkDeviation f) s = .next s ∧ (∀ bad, exec (.fieldLinkOutboundFrame f ns bad) s = .next e)
            ∧ ∀ bad vf temp ls loops hot, exec (.fieldLinkInboundFrame f ns bad vf temp ls loops hot) s = .next u))
  ∧ (
    ∀ (f : Fin 4) (ns : Nat) (s : State),
        let b := s.block f
        let u := advance ns s
        let now := u.now
        let does := fun (v : State) (x : Instr) (P : Block → State → Prop) => Completes x s (fun t => P (t.block f) t
          ∧ (∀ g, g ≠ f.val → t.block g = s.block g)
          ∧ t = { v.noted t with fld := t.fld, fbk := t.fbk, keep := { v.keep with lastCode := t.keep.lastCode } })
        (s.fldFitted f = true → b.isolated = false → does s (.fieldBlockReset f) (fun B _ => B.resetAt = some s.now ∧ B.link = 1
          ∧ B.dDio = 0 ∧ B.dLs = 0 ∧ B.dSo = 0 ∧ B.cmds = [] ∧ B.words = none ∧ B.pairs = [] ∧ B.fsDio = b.fsDio ∧ B.fsLs = b.fsLs
          ∧ (∀ c, (B.dioOf c).overload = false ∧ (B.dioOf c).overTemp = false ∧ (B.dioOf c).level = (b.dioOf c).level)
          ∧ ∀ j < 4, (B.soOf j).st = .interlock))
        ∧ (s.fldFitted f = false ∨ b.isolated = true → exec (.fieldBlockReset f) s = .next s)
        ∧ (∀ t0, b.resetAt = some t0 → now ≤ t0 + 10_000_000 → b.isolated = false → does u (.linkCheckPassed f ns) (fun B t => B.link = 2 ∧ B.resetAt = none
            ∧ B.forced = false ∧ B.trip = false ∧ B.fclk = false ∧ B.silent = false ∧ (∀ j < 4, (B.soOf j).st = .interlock)
            ∧ B.dDio = b.dDio ∧ B.fsDio = b.fsDio ∧ (144 + f.val, now) ∈ t.svc.toggles))
        ∧ (∀ t0, b.resetAt = some t0 → t0 + 10_000_000 ≤ now → Completes (.linkCheckTimeout f ns) s (fun t => let B := t.block f
            B.isolated = true ∧ B.lineLow = true ∧ B.link = 0 ∧ B.resetAt = none ∧ (∀ g, g ≠ f.val → t.block g = s.block g)
            ∧ t.keep.mode = (if s.keep.mode = .run then .degraded else s.keep.mode) ∧ tripLineLow f t = true
            ∧ t = { u.noted t with fld := t.fld, fbk := t.fbk, keep := t.keep }))
        ∧ (b.resetAt = none → exec (.linkCheckPassed f ns) s = .next u ∧ exec (.linkCheckTimeout f ns) s = .next u)
        ∧ (s.fldFitted f = true → b.uv = false → does s (.vfieldUndervoltage f) (fun B t => B.uv = true ∧ (∀ c, dioDriven f c t = false)
            ∧ (∀ i < 8, (B.lsOf i).st.conducts = false) ∧ (152 + f.val, s.now) ∈ t.svc.toggles))
        ∧ (b.uv = true → does s (.vfieldRestored f) (fun B t => B.uv = false ∧ B.dDio = b.dDio ∧ (152 + f.val, s.now) ∈ t.svc.toggles))
        ∧ (s.fldFitted f = false ∨ b.uv = true → exec (.vfieldUndervoltage f) s = .next s)
        ∧ (b.uv = false → exec (.vfieldRestored f) s = .next s))

/-- R415 to R419: a filtered input takes its level; the diagnostics of DIO c set and clear their flags, and overload and over-temperature turn the output off;
a clearing write frees an output that has been low for 10 ms; a check sample evaluates every enabled pair by the pseudocode of R419, and a write of a pair's
configuration restarts it. Where the spec leaves a point open, the model's choice is taken: log entries 64, 66. -/
def Obligations.DigitalIoActs : Prop :=
  ∀ (f : Fin 4) (c : Fin 24) (s : State),
    let b := s.block f
    let d := b.dioOf c
    let does := fun (v : State) (x : Instr) (P : Block → State → Prop) => Completes x s (fun t => P (t.block f) t
      ∧ (∀ g, g ≠ f.val → t.block g = s.block g)
      ∧ (∀ k, k ≠ c.val → { (t.block f).dioOf k with lowSince := 0 } = { b.dioOf k with lowSince := 0 }) ∧ t = { v.noted t with fld := t.fld })
    let told := fun (t : State) => (156 + f.val, s.now) ∈ t.svc.toggles
    (∀ (level : Bool) (ns : Nat), does (advance ns s) (.dioInputLevelChange f c level ns) (fun B _ => B.dioOf c = { d with raw := level, level := level }))
    ∧ (dioWb f c s = true → d.wireBreak = false → does s (.wireBreakSet f c) (fun B t => (B.dioOf c).wireBreak = true ∧ (B.dioOf c).level = d.level
        ∧ dioRead f c t = false ∧ told t))
    ∧ (dioWb f c s = false ∨ d.wireBreak = true → exec (.wireBreakSet f c) s = .next s)
    ∧ does s (.wireBreakClear f c) (fun B _ => B.dioOf c = { d with wireBreak := false })
    ∧ (dioOut f c s = true → d.overload = false → does s (.dioOverload f c) (fun B t => (B.dioOf c).overload = true ∧ dioDriven f c t = false ∧ told t))
    ∧ (dioOut f c s = false ∨ d.overload = true → exec (.dioOverload f c) s = .next s)
    ∧ (dioOut f c s = true → d.overTemp = false → does s (.dioOverTemperature f c) (fun B t => (B.dioOf c).overTemp = true ∧ dioDriven f c t = false ∧ told t))
    ∧ (dioOut f c s = false ∨ d.overTemp = true → exec (.dioOverTemperature f c) s = .next s)
    ∧ (dioDriven f c s = true → cbit (fldReg f (0x100 + 4 * c.val)) 7 s = true → d.pwm = none → d.openWire = false →
        does s (.openWireSet f c) (fun B t => (B.dioOf c).openWire = true ∧ dioDriven f c t = true ∧ told t))
    ∧ does s (.openWireClear f c) (fun B _ => B.dioOf c = { d with openWire := false })
    ∧ (∀ (acc : Access) (k : Fin 4) (v : Word), s.fldFitted f = true → WriteGranted acc (fldReg f (0x180 + 4 * k.val)) v s →
        Completes (.dioDiagClearWrite acc f k v) s (fun t => let D := (t.block f).dioOf c
          D.openWire = d.openWire ∧ D.wireBreak = d.wireBreak ∧ (2 ≤ k.val → (t.block f) = b)
          ∧ (v.getLsbD c = true → d.lowSince ≠ 0 → 980_000_000 ≤ 100 * (t.now - d.lowSince) →
              (k = 0 → D.overload = false) ∧ (k = 1 → d.hot = false → D.overTemp = false))))
    ∧ (∀ ns : Nat, Completes (.twoChannelCheckSample f ns) s (fun t => (∀ g, g ≠ f.val → t.block g = s.block g)
        ∧ t = { (advance ns s).noted t with fld := t.fld }
        ∧ ∀ j < 12, let p := look ({} : TwoPair) j b.pairs
          let x := pairX f j s
          let n := if x.1 = x.2 then 0 else min (p.c + 1) 8001
          let hit := n = 4 * cf (pairReg f j) 10 0 s + 1
          let rest := x.1 = false ∧ x.2 = false
          look {} j (t.block f).pairs = if pairOn f j s = false ∨ pairBad f j s = true then p else
            { c := n, latched := if rest then false else if hit then true else p.latched, armed := if rest then true else if hit then false else p.armed }))
    ∧ ∀ (acc : Access) (j : Fin 12) (v : Word), s.fldFitted f = true → WriteGranted acc (pairReg f j) v s →
        Completes (.pairConfigWrite acc f j v) s (fun t => look {} j (t.block f).pairs = ({} : TwoPair)
          ∧ ∀ k, k ≠ j.val → look {} k (t.block f).pairs = look ({} : TwoPair) k b.pairs)

/-- R422 to R425: the transitions of a load switch. Its inrush window ends in ON, the current limit leads to LIMIT and back, a thermal shutdown counts and leads to
COOLING or LATCHED by latch bit and retry limit (of a pair: a pair fault), restart opens a new window, and the open-load flag and the retry count are set and
cleared; a switch of a pair that a test pulse waits for goes on to the pulse; no other switch changes unless a pair faults. Where the spec leaves a point open, the model's choice is taken: log entry 66. -/
def Obligations.LoadSwitchesAct : Prop :=
  ∀ (f : Fin 4) (i : Fin 8) (ns : Nat) (s : State),
    let b := s.block f
    let l := b.lsOf i
    let u := advance ns s
    let now := u.now
    let quiet := (b.soOf (i.val / 2)).waitA = false ∧ (b.soOf (i.val / 2)).waitB = false
    let r := cf (fldReg f (0x300 + 4 * i.val)) 11 8 s
    let latchBit := cbit (fldReg f (0x300 + 4 * i.val)) 2 s
    let does := fun (v : State) (x : Instr) (L : LoadSwitch) => Completes x s (fun t => (t.block f).lsOf i = L ∧ (∀ g, g ≠ f.val → t.block g = s.block g)
      ∧ (∀ k, k ≠ i.val → (t.block f).lsOf k = b.lsOf k) ∧ (t.block f).so = b.so ∧ t = { v.noted t with fld := t.fld })
    let onOrPulse := fun (v t : State) => (((t.block f).lsOf i).st = .on ∨ ((t.block f).lsOf i).st = .pulse) ∧ t = { v.noted t with fld := t.fld }
    (l.st = .inrush → 98 * inrushNs f i s ≤ 100 * (now - l.inrushAt) →
      (quiet → does u (.loadSwitchInrushEnd f i ns) { l with st := .on }) ∧ Completes (.loadSwitchInrushEnd f i ns) s (onOrPulse u))
    ∧ (l.st ≠ .inrush ∨ 100 * (now - l.inrushAt) < 98 * inrushNs f i s → exec (.loadSwitchInrushEnd f i ns) s = .next u)
    ∧ (l.st = .on → does s (.loadSwitchCurrentLimit f i) { l with st := .limit })
    ∧ (l.st ≠ .on → exec (.loadSwitchCurrentLimit f i) s = .next s)
    ∧ (l.st = .limit → (quiet → does s (.limitRecovery f i) { l with st := .on }) ∧ Completes (.limitRecovery f i) s (onOrPulse s))
    ∧ (l.st ≠ .limit → exec (.limitRecovery f i) s = .next s)
    ∧ (l.st.conducts = true → lsPaired f i s = false → does s (.thermalShutdown f i)
        (let u := if lsDemand f i s then (if latchBit then l.u else l.u + 1) else 0
         if latchBit ∨ r < l.u + 1 then { l with st := .latched, u := u }
         else if lsDemand f i s then { l with st := .cooling, u := u } else { l with st := .off, u := u }))
    ∧ (l.st.conducts = true → lsPaired f i s = true → (b.soOf (i.val / 2)).st.isOn = true → Completes (.thermalShutdown f i) s (fun t =>
        ((t.block f).lsOf i).st = .latched ∧ ((t.block f).soOf (i.val / 2)).st = .fault ∧ ((t.block f).soOf (i.val / 2)).cause = 3
        ∧ t = { s.noted t with fld := t.fld }))
    ∧ (l.st.conducts = true → lsPaired f i s = true → (b.soOf (i.val / 2)).st.isOn = false →
        does s (.thermalShutdown f i) { l with st := .latched, u := 0 })
    ∧ (l.st.conducts = false → exec (.thermalShutdown f i) s = .next s)
    ∧ (l.st = .cooling → lsDemand f i s = true → b.uv = false → does s (.coolingRestart f i) { l with st := .inrush, inrushAt := s.now, condAt := s.now })
    ∧ (l.st ≠ .cooling ∨ lsDemand f i s = false ∨ b.uv = true → exec (.coolingRestart f i) s = .next s)
    ∧ (l.st.conducts = true → l.openLoad = false → 9_800_000_000 ≤ 100 * (now - l.condAt) → does u (.openLoadSet f i ns) { l with openLoad := true })
    ∧ does s (.openLoadClear f i) { l with openLoad := false }
    ∧ (l.st.conducts = true → 980_000_000_000 ≤ 100 * (now - l.condAt) → does u (.retryCountReset f i ns) { l with u := 0 })

/-- R427 to R434: the check samples of an enabled safety output pair, its feedback timeout, its test pulses and their read-back, a configuration write, and the
current limit of a wheel-sensor system and its retry. Where the spec leaves a point open, the model's choice is taken: log entry 66. -/
def Obligations.SafetyOutputsAct : Prop :=
  ∀ (f j : Fin 4) (ns : Nat) (s : State),
    let b := s.block f
    let p := b.soOf j
    let u := advance ns s
    let now := u.now
    let does := fun (v : State) (x : Instr) (P : Block → State → Prop) => Completes x s (fun t => P (t.block f) t
      ∧ (∀ g, g ≠ f.val → t.block g = s.block g) ∧ t = { v.noted t with fld := t.fld })
    (soEnabled f j s = true → p.st ≠ .fault →
      does u (.soCheckSample f ns) (fun B _ => let q := B.soOf j
        (soN f j s < p.fbRun → q.st = .fault ∧ q.cause = 2)
        ∧ (p.fbRun ≤ soN f j s →
          (p.st = .starting ∧ soAgrees f j false s = true → q.st = .on ∧ q.tOn = now ∧ q.mA = 1 ∧ q.mB = 1)
          ∧ (p.st = .stopping ∧ soAgrees f j true s = true ∧ soDemand f j s = false → q.st = .off)
          ∧ ((p.st = .starting ∨ p.st = .on) ∧ soAgrees f j false s = false → q.st = p.st ∧ q.fbRun = p.fbRun + 1)
          ∧ ((p.st = .off ∨ p.st = .interlock ∨ p.st = .stopping ∨ p.st = .undervolt) ∧ soAgrees f j true s = false → q.st = p.st ∧ q.fbRun = p.fbRun + 1)))
      ∧ (soN f j s < p.fbRun → does s (.soFeedbackTimeout f j) (fun B t => (B.soOf j).st = .fault ∧ (B.soOf j).cause = 2
          ∧ (164 + 4 * f.val + j.val, s.now) ∈ t.svc.toggles ∧ ∀ k, k ≠ j.val → B.soOf k = b.soOf k)))
    ∧ (soEnabled f j s = false ∨ p.st = .fault ∨ p.fbRun ≤ soN f j s → exec (.soFeedbackTimeout f j) s = .next s)
    ∧ (soEnabled f j s = false ∨ p.st = .fault → does u (.soCheckSample f ns) (fun B _ => B.soOf j = p))
    ∧ (∀ (acc : Access) (fb : Bool) (v : Word), s.fldFitted f = true → WriteGranted acc (fldReg f (0x400 + 0x10 * j.val + (if fb then 4 else 0))) v s →
        Completes (.soConfigWrite acc f j fb v) s (fun t => ((t.block f).soOf j).st = .interlock))
    ∧ (∀ second : Bool,
        let due := soEnabled f j s = true ∧ cbit (fldReg f (0x400 + 0x10 * j.val)) 30 s = true ∧ p.st = .on
          ∧ 98 * pulseAt f j second s ≤ 100 * (now - p.tOn)
        (due → does u (.testPulseDue f j second ns) (fun B _ => (if second then (B.soOf j).mB = p.mB + 1 else (B.soOf j).mA = p.mA + 1)
          ∧ (p.pulse = none → p.waitA = false → p.waitB = false → (b.lsOf (2 * j.val)).st = .on → (b.lsOf (2 * j.val + 1)).st = .on →
              (B.soOf j).pulse = some (second, now) ∧ (B.lsOf (2 * j.val + b2n second)).st = .pulse)
          ∧ (p.pulse ≠ none → (B.soOf j).pulse = p.pulse ∧ B.ls = b.ls)))
        ∧ (¬ due → exec (.testPulseDue f j second ns) s = .next u))
    ∧ (∀ (second : Bool) (t0 : Nat), p.pulse = some (second, t0) →
        (∀ pulsed other vf : Nat, p.readBack = false → 98 * (pulseNs f j s - 50_000) ≤ 100 * (now - t0) →
          (pulsed < 4_500 → vf < other + 2_000 →
            does u (.testPulseReadback f j pulsed other vf ns) (fun B _ => B.soOf j = { p with readBack := true } ∧ B.ls = b.ls))
          ∧ (5_500 ≤ pulsed ∨ other + 2_000 ≤ vf →
            does u (.testPulseReadback f j pulsed other vf ns) (fun B _ => (B.soOf j).st = .fault ∧ (B.soOf j).cause = 1))
          ∧ does u (.testPulseReadback f j pulsed other vf ns) (fun B _ => B.soOf j = { p with readBack := true }
              ∨ ((B.soOf j).st = .fault ∧ (B.soOf j).cause = 1)))
        ∧ (98 * pulseNs f j s ≤ 100 * (now - t0) → p.waitA = false → p.waitB = false →
            does u (.testPulseEnd f j ns) (fun B _ => B.soOf j = { p with pulse := none, readBack := false }
              ∧ ((b.lsOf (2 * j.val + b2n second)).st = .pulse → (B.lsOf (2 * j.val + b2n second)).st = .on))))
    ∧ (p.pulse = none → exec (.testPulseEnd f j ns) s = .next u ∧ ∀ pulsed other vf, exec (.testPulseReadback f j pulsed other vf ns) s = .next u)
    ∧ ∀ sysB : Bool, let sys := fun (B : Block) => let w := look ({} : FrontEnd) j B.wfe
          if sysB then w.b else w.a
        (cbit (fldReg f (0x500 + 4 * j.val)) 0 s = true → does u (.wheelSystemCurrentLimit f j sysB ns) (fun B _ =>
          sys B = { sys b with offAt := some now, report := 0, cause := 2 }))
        ∧ (cbit (fldReg f (0x500 + 4 * j.val)) 0 s = false → exec (.wheelSystemCurrentLimit f j sysB ns) s = .next u)
        ∧ (∀ t0, (sys b).offAt = some t0 → 9_800_000_000 ≤ 100 * (now - t0) → does u (.wheelSystemRetry f j sysB ns) (fun B _ =>
            sys B = { sys b with offAt := none }))
        ∧ ((sys b).offAt = none → exec (.wheelSystemRetry f j sysB ns) s = .next u)

/-- R411, R418, R424, R429, R435, R437, R438: field commands on a channel that they may act on; any other is refused with 0x4050 and event source 184; and the test
of one channel in COMMISSION, renewed, ended and timed out. Where the spec leaves a point open, the model's choice is taken: log entries 44, 66. -/
def Obligations.FieldCommandsAct : Prop :=
  (∀ (f : Fin 4) (a b c dem : Word) (s : State),
    let ch := bits 7 0 a.toNat
    let B := s.block f
    let does := fun (x : Instr) (P : Block → State → Prop) => Completes x s (fun t => P (t.block f) t ∧ (∀ g, g ≠ f.val → t.block g = s.block g)
      ∧ t = { s.noted t with fld := t.fld })
    let reason := fun (code : Nat) (dem : Word) => fieldReason f { a := BitVec.ofNat 32 (code * 2 ^ 24 + a.toNat % 2 ^ 24), b := b, c := c, w3 := 0 } dem s
    let refused := fun (D : Block) (t : State) => D = { B with lastCode := 0x4050 } ∧ t.svc.toggles = s.svc.toggles ++ [(184, s.now)]
    (reason 2 0 = 0 → does (.pwm f a b c) (fun D _ =>
        D = { B with dio := upd {} ch (fun d => { d with pwm := if b = 0 then none else some (b.toNat, c.toNat) }) B.dio }))
    ∧ (reason 2 0 ≠ 0 → does (.pwm f a b c) refused)
    ∧ (ch < 24 → reason 3 0 = 0 → (B.dioOf ch).lowSince ≠ 0 → 980_000_000 ≤ 100 * (s.now - (B.dioOf ch).lowSince) →
        does (.clearDioOutput f a b c) (fun D _ => (D.dioOf ch).overload = false ∧ ((B.dioOf ch).hot = false → (D.dioOf ch).overTemp = false)))
    ∧ (24 ≤ ch ∨ reason 3 0 ≠ 0 → does (.clearDioOutput f a b c) refused)
    ∧ (0x20 ≤ ch → ch < 0x28 → reason 3 0 = 0 →
        does (.clearLoadSwitch f a b c) (fun D _ => (D.lsOf (ch - 0x20)).u = 0
          ∧ (D.lsOf (ch - 0x20)).st = (if (B.lsOf (ch - 0x20)).st = .latched then (if lsDemand f (ch - 0x20) s && !B.uv then .inrush else .off)
              else (B.lsOf (ch - 0x20)).st)))
    ∧ (ch < 0x20 ∨ 0x28 ≤ ch ∨ reason 3 0 ≠ 0 → does (.clearLoadSwitch f a b c) refused)
    ∧ (0x40 ≤ ch → ch < 0x44 → reason 3 dem = 0 →
        ((B.soOf (ch - 0x40)).st = .fault → does (.clearPair f a b c dem) (fun D t => (D.soOf (ch - 0x40)).st = .off ∧ (D.soOf (ch - 0x40)).cause = 0
          ∧ (164 + 4 * f.val + (ch - 0x40), s.now) ∈ t.svc.toggles))
        ∧ ((B.soOf (ch - 0x40)).st ≠ .fault → exec (.clearPair f a b c dem) s = .next s))
    ∧ (ch < 0x40 ∨ 0x44 ≤ ch ∨ reason 3 dem ≠ 0 → does (.clearPair f a b c dem) refused))
  ∧ ∀ (acc : Access) (v : Word) (ns : Nat) (s : State),
      let u := advance ns s
      (WriteGranted acc 0x0310_0100 v s → s.keep.mode = .commission → v.getLsbD 31 = true →
        Completes (.fldTestWrite acc v) s (fun t => t.fld.testAt = t.now ∧ cbit 0x0310_0100 31 t = true
          ∧ (t.block (cf 0x0310_0100 25 24 t)).words = some (testWords (ctlGet 0x0310_0100 t).toNat)
          ∧ ctlGet 0x0310_0100 t = (ctlGet 0x0310_0100 s &&& 0x7C00_FFFE) ||| (v &&& 0x83FF_0001)))
      ∧ (WriteGranted acc 0x0310_0100 v s → s.keep.mode = .commission → v.getLsbD 31 = false → cbit 0x0310_0100 31 s = true →
        Completes (.fldTestWrite acc v) s (fun t => cbit 0x0310_0100 31 t = false ∧ (185, t.now) ∈ t.svc.toggles
          ∧ (t.block (cf 0x0310_0100 25 24 s)).dDio = 0 ∧ (t.block (cf 0x0310_0100 25 24 s)).dLs = 0 ∧ (t.block (cf 0x0310_0100 25 24 s)).dSo = 0))
      ∧ (cbit 0x0310_0100 31 s = true → s.fld.testAt + 500_000_000 ≤ u.now →
          Completes (.fldTestNotRenewed ns) s (fun t => cbit 0x0310_0100 31 t = false ∧ (185, t.now) ∈ t.svc.toggles
            ∧ (t.block (cf 0x0310_0100 25 24 s)).dDio = 0 ∧ (t.block (cf 0x0310_0100 25 24 s)).dLs = 0 ∧ (t.block (cf 0x0310_0100 25 24 s)).dSo = 0
            ∧ t = { u.noted t with ctl := t.ctl, fld := t.fld }))
      ∧ (cbit 0x0310_0100 31 s = false ∨ u.now < s.fld.testAt + 500_000_000 → exec (.fldTestNotRenewed ns) s = .next u)

/-! ### Journal and statistics -/

/-- R442 to R444, R446 to R449, R453, R454, R464: the oldest staged record becomes the last one of the flacon, with the next number and the chain value
SHA-256(chain, header, payload), at the write point or at the start of the next unit; a seal answers the JSEAL message that waits longest,
and the checkpoint of a full flacon all of them. A unit that fails to program is retired; a record that does not fit fills the flacon; one that is
not signed yet, or that a checkpoint must precede, waits. A checkpoint is formed over the next number and the chain, then signed with the device signing
key. R442, R451, R452, R455 to R457, R466: with 64 KiB of room a LOST record accounts for the records that were lost; a store fault stops recording,
with HOLD when JNL_CFG asks for it; the scan ends with the state that the flacon's end shows, a torn record stepped over, and the BOOT record
in front of what was held; a unit that JREARM named is erased, which ends the full state, or retired. R322, R462 to R466, R472: JSTAT, JREAD, KREAD and SHREAD answer with the state of the store and its bytes, and are refused with 0x7040 beyond a unit or an
area, with 0x6010 for offsets and lengths off the rule and with 0x6011 without the role. R451, R452, R454, R464 to R466: JSEAL stages a SEAL record and waits for it; without room it is answered with 0x7003, in a full flacon with the
checkpoint, by a faulted store with 0x7005. JACK of a signed record with its chain value moves the acknowledged point, of one at or before it
changes nothing, of another is refused with 0x7012. JREARM names the erasable units, or is refused with 0x7014. Where the spec leaves a point open, the model's choice is taken: log entries 8, 67, 68, 69, 98. -/
def Obligations.JournalStoresAndReads : Prop :=
  (
    ∀ (s : State), let j := s.jnl
        (∀ (r : Rec) (rest : List Rec), j.staging = r :: rest →
          let live := j.state = .recording ∨ (j.state = .full ∧ r.typ = 0xF0)
          let ready := (r.signed = true → r.payload.length = 128) ∧ (r.signed = false → j.sinceCkpt < 4_095)
          let k := s.nextNumber
          let o := if r.size ≤ unitLeft s then j.write else nextUnit s * Config.unitBytes
          let x : Stored := { offset := o, number := k, rec_ := r, chain := sha256 (s.chain ++ r.hashed k) }
          let stored := fun (t : State) => t.jnl.flacon = j.flacon ++ [x] ∧ t.jnl.head = some k ∧ t.jnl.chain = x.chain
            ∧ ((o + r.size) % Config.unitBytes ≠ 0 → t.jnl.write = o + r.size)
          (¬ (live ∧ ready) → ∀ bad, exec (.recordWritten bad) s = .next s)
          ∧ (live → ready →
            (let u := if r.size ≤ unitLeft s then writeUnit s else nextUnit s;
              Completes (.recordWritten true) s (fun t => t.jnl.retired = j.retired ++ [u] ∧ t.jnl.flacon = j.flacon ∧ t.jnl.write = j.write
                ∧ (100 * (j.retired.length + 1) ≤ s.flaconUnits → t.jnl.state = j.state ∧ t.jnl.staging.head? = some r ∧ t = { s with jnl := t.jnl })
                ∧ (s.flaconUnits < 100 * (j.retired.length + 1) → t.jnl.state = .storeFault ∧ t.jnl.staging = [])))
            ∧ (j.state = .recording → recFits r.size s = false → Completes (.recordWritten false) s (fun t => t.jnl.state = .full
                ∧ t.svc.toggles = s.svc.toggles ++ [(240, s.now)] ∧ t = s.noted t
                ∧ (unitLeft s + Config.unitBytes * erasedAhead s ≠ 0 → t.jnl.staging.map Rec.typ = [0xF0]
                    ∧ ∃ y, t.jnl.flacon = j.flacon ++ [y] ∧ y.rec_.typ = 0xF3 ∧ y.number = k)))
            ∧ (j.state = .full ∨ recFits r.size s = true →
                (r.signed = false → Completes (.recordWritten false) s (fun t => stored t ∧ t.jnl.staging = rest ∧ t.jnl.sinceCkpt = j.sinceCkpt + 1
                  ∧ t = { s with jnl := t.jnl }))
                ∧ (r.typ = 0xF0 → j.state = .recording → Completes (.recordWritten false) s (fun t => stored t ∧ t.jnl.staging = rest ∧ t.jnl.sinceCkpt = 0
                  ∧ t = { s with jnl := t.jnl }))
                ∧ (r.typ = 0xF0 → j.state = .full → Completes (.recordWritten false) s (fun t => stored t ∧ t.jnl.sealWait = []
                  ∧ (∀ w, j.sealWait = [w] → Sends w.1 { typ := 0x52, tag := w.2, status := 0, body := x.bytes } s t)
                  ∧ t = { s with jnl := t.jnl, bth := t.bth, free := t.free }))
                ∧ (r.typ = 0xF1 → Completes (.recordWritten false) s (fun t => stored t ∧ t.jnl.sinceCkpt = 0 ∧ t.jnl.sealWait = j.sealWait.drop 1
                  ∧ t.svc.toggles = s.svc.toggles ++ [(242, s.now)]
                  ∧ (∀ w ws, j.sealWait = w :: ws → Sends w.1 { typ := 0x52, tag := w.2, status := 0, body := x.bytes } s t)
                  ∧ t = { s.noted t with bth := t.bth })))))
        ∧ (j.staging = [] → ∀ bad, exec (.recordWritten bad) s = .next s)
        ∧ (let unformed := ∃ r rest, j.staging = r :: rest ∧ r.signed = true ∧ r.payload = []
          let due := 4_095 ≤ j.sinceCkpt ∧ j.state = .recording ∧ ∀ r rest, j.staging = r :: rest → r.signed = false;
          (∀ r rest, j.staging = r :: rest → r.signed = true → r.payload = [] →
            exec .checkpoint s = .next { s with jnl := { j with staging := { r with dtime := s.now, payload := signBody s } :: rest } })
          ∧ (due → exec .checkpoint s = .next { s with jnl := { j with staging := { typ := 0xF0, dtime := s.now, payload := signBody s } :: j.staging } })
          ∧ (¬ unformed → ¬ due → exec .checkpoint s = .next s)
          ∧ Completes .checkpoint s (fun v =>
              (∀ r rest, v.jnl.staging = r :: rest → r.signed = true → r.payload.length = 64 → Completes .checkpointSigned s (fun t =>
                ∃ n, 1 ≤ n ∧ n < p256N ∧ t = { v with free := t.free, jnl := { v.jnl with
                  staging := { r with payload := r.payload ++ ecdsaSign s.fused.signKey n (signedBytes r) } :: rest } }))
              ∧ ((∀ r rest, v.jnl.staging = r :: rest → r.signed = false ∨ r.payload.length ≠ 64) → exec .checkpointSigned s = .next v))))
  ∧ (
    ∀ (ns : Nat) (s : State),
        let j := s.jnl
        let u := advance ns s
        (let goes := j.lost ≠ 0 ∧ j.state = .recording ∧ j.fill + 65_536 ≤ Config.stagingBytes;
          (goes → Completes .lostRecord s (fun t => t.jnl.lost = 0 ∧ t.jnl.staging[j.staging.length]? = some {
                typ := 5, dtime := s.now, payload := le 4 j.lost ++ zeros 4 ++ le 8 j.lostFirst ++ le 8 j.lostLast }
              ∧ t.jnl.staging.length = j.staging.length + 2 ∧ t.svc.toggles = s.svc.toggles ++ [(241, s.now)] ∧ t = s.noted t))
          ∧ (¬ goes → exec .lostRecord s = .next s))
        ∧ (j.state ≠ .storeFault → Completes .journalStoreFault s (fun t => t.jnl.state = .storeFault ∧ t.jnl.staging = [] ∧ t.jnl.held = []
            ∧ t.jnl.flacon = j.flacon ∧ t.keep.mode = (if cbit 0x0600_0000 0 s then .hold else s.keep.mode) ∧ (245, s.now) ∈ t.svc.toggles
            ∧ (cbit 0x0600_0000 0 s = false → t = s.noted t)))
        ∧ (j.state = .storeFault → exec .journalStoreFault s = .next s)
        ∧ (j.state = .notScanned → Completes (.flaconScanComplete ns) s (fun t => t.jnl.state = (if endsFull s then .full else .recording)
            ∧ t.jnl.held = [] ∧ t.jnl.torn = none ∧ t.jnl.tornFound = b2n j.torn.isSome ∧ t.jnl.flacon = j.flacon ∧ t = u.noted t
            ∧ t.jnl.write = (match j.torn with
                | none => j.write
                | some p =>
                  let bound := roundUp 4096 (p % Config.unitBytes + 4112)
                  if bound < Config.unitBytes then p / Config.unitBytes * Config.unitBytes + bound else nextUnit s * Config.unitBytes)
            ∧ (endsFull s = false → j.staging = [] → (bootRec u).size + 48 ≤ Config.stagingBytes →
                ∃ l, t.jnl.staging.map Rec.typ = (if j.torn.isSome then [0xF4, 1] else [1]) ++ l)))
        ∧ (j.state ≠ .notScanned → exec (.flaconScanComplete ns) s = .next u)
        ∧ (j.erasing = [] → ∀ bad, exec (.unitErased bad) s = .next s)
        ∧ (∀ (v : Nat) (rest : List Nat), j.erasing = v :: rest →
            (Completes (.unitErased false) s (fun t => t.jnl.erasing = rest ∧ t.jnl.usedUnits = j.usedUnits.filter (fun w => w != v)
              ∧ t.jnl.flacon = j.flacon.filter (fun x => x.offset / Config.unitBytes != v)
              ∧ t.svc.toggles = s.svc.toggles ++ (if rest = [] then [(244, s.now)] else []) ∧ t = s.noted t
              ∧ (j.state ≠ .full → t.jnl.state = j.state ∧ t.jnl.staging = j.staging)
              ∧ (j.state = .full → t.jnl.state = .recording ∧ (j.fill + 65_536 ≤ Config.stagingBytes →
                  t.jnl.staging.map Rec.typ = j.staging.map Rec.typ ++ [0xF2, 2]))))
            ∧ Completes (.unitErased true) s (fun t => t.jnl.retired = j.retired ++ [v] ∧ t.jnl.erasing = rest ∧ t.jnl.flacon = j.flacon
                ∧ t.jnl.usedUnits = j.usedUnits
                ∧ (100 * (j.retired.length + 1) ≤ s.flaconUnits → t.jnl.state = j.state ∧ t = s.noted t)
                ∧ (s.flaconUnits < 100 * (j.retired.length + 1) → t.jnl.state = .storeFault))))
  ∧ (
    ∀ (b : Fin 8) (m : MsgHead) (s : State),
        let j := s.jnl
        let answered := fun (body : List Byte) (t : State) => Sends b { typ := m.typ.toNat, tag := m.tag, status := 0, body := body } s t
          ∧ t = { s with bth := t.bth, free := t.free }
        let refused := fun (code : Nat) (t : State) => Sends b { typ := m.typ.toNat, tag := m.tag, status := code, body := [] } s t
          ∧ (t.berth b).refused = sat 0xFFFF ((s.berth b).refused + 1) ∧ t = { s.noted t with bth := t.bth }
        (Admits b 0x50 m [] s →
          (hasAny b [roleI] s = true → Completes (.jstat b m) s (answered (jstatBody s)))
          ∧ (hasAny b [roleI] s = false → Completes (.jstat b m) s (refused 0x6011)))
        ∧ ∀ u o n : Word,
            let shape := o.toNat % 16 = 0 ∧ n.toNat % 16 = 0 ∧ 16 ≤ n.toNat ∧ n.toNat ≤ 4_064
            let args := be 4 u.toNat ++ be 4 o.toNat ++ be 4 n.toNat
            let reads := fun (c : Instr) (typ : Nat) (roles : List Nat) (inside : Prop) (bytes : List Byte) =>
              Admits b typ m args s →
                (¬ shape → Completes c s (refused 0x6010))
                ∧ (shape → hasAny b roles s = false → Completes c s (refused 0x6011))
                ∧ (shape → hasAny b roles s = true → inside → Completes c s (answered (args ++ zeros 4 ++ bytes)))
                ∧ (shape → hasAny b roles s = true → ¬ inside → Completes c s (refused 0x7040))
            reads (.jread b m u o n) 0x51 [roleI] (u.toNat < s.flaconUnits ∧ o.toNat + n.toNat ≤ Config.unitBytes)
              (areaBytes j.flacon u.toNat o.toNat n.toNat)
            ∧ reads (.kread b m u o n) 0x55 [roleM, roleI] (u.toNat < s.klogUnits ∧ o.toNat + n.toNat ≤ Config.unitBytes)
              (areaBytes j.klog u.toNat o.toNat n.toNat)
            ∧ (∀ F, j.frames.find? (fun F => F.number == u.toNat) = some F →
                reads (.shread b m u o n) 0x56 [roleB, roleM, roleI] (o.toNat + n.toNat ≤ 655_424)
                  ((List.range (n.toNat / 4)).flatMap (fun i => le 4 (frameWord F (o.toNat / 4 + i)))))
            ∧ (j.frames.find? (fun F => F.number == u.toNat) = none → reads (.shread b m u o n) 0x56 [roleB, roleM, roleI] False []))
  ∧ (
    ∀ (b : Fin 8) (m : MsgHead) (s : State),
        let j := s.jnl
        let role := hasAny b [roleI] s = true
        let sends := fun (status : Nat) (body : List Byte) (t : State) => Sends b { typ := m.typ.toNat, tag := m.tag, status := status, body := body } s t
        let refused := fun (code : Nat) (t : State) => sends code [] t
          ∧ (t.berth b).refused = sat 0xFFFF ((s.berth b).refused + 1) ∧ t = { s.noted t with bth := t.bth }
        (Admits b 0x52 m [] s →
          (¬ role → Completes (.jseal b m) s (refused 0x6011))
          ∧ (role → j.state = .recording → j.fill + 32 ≤ Config.stagingBytes → Completes (.jseal b m) s (fun t =>
              t.jnl.sealWait = j.sealWait ++ [(b.val, m.tag)] ∧ t.jnl.staging = j.staging ++ [{ typ := 0xF1, dtime := s.now, payload := [] }]
              ∧ (t.berth b).out = (s.berth b).out ∧ t = { s with jnl := t.jnl, bth := t.bth }))
          ∧ (role → j.state = .recording → Config.stagingBytes < j.fill + 32 → Completes (.jseal b m) s (fun t => sends 0x7003 [] t
              ∧ t.jnl.lost = sat 0xFFFF_FFFF (j.lost + 1) ∧ t.jnl.staging = j.staging ∧ t = { s with jnl := t.jnl, bth := t.bth, free := t.free }))
          ∧ (role → j.state = .notScanned → Completes (.jseal b m) s (fun t => t.jnl.sealWait = j.sealWait ++ [(b.val, m.tag)]
              ∧ (t.berth b).out = (s.berth b).out ∧ t = { s with jnl := t.jnl, bth := t.bth }))
          ∧ (role → j.state = .full → j.staging = [] → Completes (.jseal b m) s (fun t => sends 0 (lastStored s) t
              ∧ t = { s with bth := t.bth, free := t.free }))
          ∧ (role → j.state = .full → j.staging ≠ [] → Completes (.jseal b m) s (fun t => t.jnl.sealWait = j.sealWait ++ [(b.val, m.tag)]
              ∧ (t.berth b).out = (s.berth b).out ∧ t = { s with jnl := t.jnl, bth := t.bth }))
          ∧ (role → j.state = .storeFault → Completes (.jseal b m) s (fun t => sends 0x7005 [] t ∧ t = { s with bth := t.bth, free := t.free })))
        ∧ (∀ (k : Word) (c : List Byte), Admits b 0x53 m (be 4 k.toNat ++ c) s →
            let before := ∃ a, j.acked = some a ∧ (a + 2 ^ 32 - k.toNat) % 2 ^ 32 < 2 ^ 31
            let found := ∃ x ∈ j.flacon, x.valid = true ∧ x.rec_.signed = true ∧ x.number = k.toNat ∧ x.chain = c
            (c.length ≠ 32 → Completes (.jack b m k c) s (refused 0x6010))
            ∧ (c.length = 32 →
                (¬ role → Completes (.jack b m k c) s (refused 0x6011))
                ∧ (role → before → Completes (.jack b m k c) s (fun t => sends 0 [] t ∧ t = { s with bth := t.bth, free := t.free }))
                ∧ (role → ¬ before → found → Completes (.jack b m k c) s (fun t => t.jnl.acked = some k.toNat
                    ∧ t.svc.toggles = s.svc.toggles ++ [(243, s.now)] ∧ sends 0 [] t ∧ t = { s.noted t with bth := t.bth }))
                ∧ (role → ¬ before → ¬ found → Completes (.jack b m k c) s (fun t => t.jnl.acked = j.acked ∧ refused 0x7012 t))))
        ∧ (Admits b 0x54 m [] s →
            (¬ role → Completes (.jrearm b m) s (refused 0x6011))
            ∧ (role → erasable s ≠ [] →
                let arm := (j.arm + 1) % 2 ^ 32
                Completes (.jrearm b m) s (fun t => t.jnl.arm = arm ∧ t.jnl.erasing = j.erasing ++ erasable s ∧ t.svc.toggles = s.svc.toggles
                  ∧ sends 0 (be 4 (erasable s).length ++ be 4 arm) t ∧ t = { s.noted t with bth := t.bth }
                  ∧ (j.state = .full → t.jnl.rearmPend = some (arm, (erasable s).length) ∧ t.jnl.staging = j.staging)
                  ∧ (j.state = .recording → j.fill + 65_536 ≤ Config.stagingBytes → t.jnl.lost = 0
                      ∧ t.jnl.staging.map Rec.typ = j.staging.map Rec.typ ++ [0xF2, 2])))
            ∧ (role → erasable s = [] → Completes (.jrearm b m) s (fun t => t.jnl.arm = j.arm ∧ t.jnl.erasing = j.erasing ∧ refused 0x7014 t))))

/-- R445, R458 to R461, R469 to R473: a slot in order of kind 1 becomes a PROGRAM record with D(n), of kind 2 a DOOR_CYCLE record that clears the
accumulators of its axes, of kind 3 a sample; a slot out of order is refused with event source 247; a frame is persisted once its period has
passed; JNL_MET_CLR clears a metric. Where the spec leaves a point open, the model's choice is taken: log entry 32. -/
def Obligations.StatisticsAct : Prop :=
  (∀ (slot : Fin 512) (w0 w1 w2 w3 : Word) (late : Bool) (s : State),
    let m := w0.toNat / 2 ^ 16
    let zero := bits 15 8 w0.toNat = 0
    let room := s.jnl.state = .recording ∧ s.jnl.fill + 64 ≤ Config.stagingBytes
    let refused := fun (c : Instr) => Completes c s (fun t => t.svc.toggles = s.svc.toggles ++ [(247, s.now)] ∧ t.jnl.metrics = s.jnl.metrics
      ∧ t.jnl.acc = s.jnl.acc ∧ t = s.noted t)
    (zero → Completes (.programRecordSlot slot w0 w1 w2 w3 late) s (fun t => t = { s with jnl := t.jnl }
      ∧ (room → t.jnl.staging = s.jnl.staging ++ [{
          typ := 3, dtime := s.deadline
          payload := le 2 slot ++ le 2 (b2n late) ++ le 4 s.seq.mcc
            ++ [w32 (w0.toNat / 256 * 256 + 1), w1, w2, w3].flatMap (fun w => le 4 w.toNat) }])))
    ∧ (¬ zero → refused (.programRecordSlot slot w0 w1 w2 w3 late))
    ∧ (let good := zero ∧ w1 ≠ 0 ∧ w1.toNat < 2 ^ s.axesFitted ∧ bits 31 8 w2.toNat = 0;
      (good → Completes (.doorCycleSlot slot w0 w1 w2 w3 late) s (fun t => t = { s with jnl := t.jnl }
        ∧ (room → ∃ r : Rec, t.jnl.staging = s.jnl.staging ++ [r] ∧ r.typ = 4 ∧ r.dtime = s.deadline ∧ r.payload.length = 32
            ∧ slice 0 2 r.payload = le 2 m ∧ slice 4 4 r.payload = le 4 s.seq.mcc ∧ slice 12 4 r.payload = le 4 w1.toNat
            ∧ slice 28 4 r.payload = le 4 w3.toNat)
        ∧ ∀ n, look {} n t.jnl.acc = if w1.getLsbD n = true then { cleared := s.now } else look ({} : DoorAcc) n s.jnl.acc))
      ∧ (¬ good → refused (.doorCycleSlot slot w0 w1 w2 w3 late)))
    ∧ (let good := zero ∧ 256 ≤ m ∧ m ≤ 4095 ∧ w2 = 0 ∧ w3 = 0 ∧ cbit (metCfg m) 0 s = true;
      (good → Completes (.metricSampleSlot slot w0 w1 w2 w3 late) s (fun t =>
        let v := signed 32 w1.toNat
        let bin := metricBin (signed 32 (ctlGet (metCfg m + 4) s).toNat) (ctlGet (metCfg m + 8) s).toNat (cbit (metCfg m) 1 s) v
        t = { s with jnl := { s.jnl with metrics := t.jnl.metrics } } ∧ look {} m t.jnl.metrics = (look ({} : Metric) m s.jnl.metrics).take bin v
        ∧ ∀ k, k ≠ m → look {} k t.jnl.metrics = look ({} : Metric) k s.jnl.metrics))
      ∧ (¬ good → refused (.metricSampleSlot slot w0 w1 w2 w3 late))))
  ∧ ∀ (acc : Access) (v : Word) (ns : Nat) (s : State),
      (let u := advance ns s;
        (persistNs s ≤ u.now - s.jnl.lastFrameAt → Completes (.statisticsPersist ns) s (fun t =>
          t.jnl.nextFrame = (s.jnl.nextFrame + 1) % 2 ^ 32 ∧ t.jnl.lastFrameAt = u.now ∧ t.svc.toggles = s.svc.toggles ++ [(246, u.now)]
          ∧ (∃ F, t.jnl.frames.getLast? = some F ∧ F.number = s.jnl.nextFrame ∧ F.metrics = s.jnl.metrics ∧ F.dtime = u.now)
          ∧ t.jnl.metrics = s.jnl.metrics ∧ t = u.noted t))
        ∧ (u.now - s.jnl.lastFrameAt < persistNs s → exec (.statisticsPersist ns) s = .next u))
      ∧ (WriteGranted acc 0x0600_0024 v s →
          let u := advance acc.at_ s;
          (v.getLsbD 31 = true → Completes (.metricClear acc v) s (fun t => look {} (v.toNat % 4096) t.jnl.metrics = ({} : Metric)
            ∧ (∀ k, k ≠ v.toNat % 4096 → look {} k t.jnl.metrics = look ({} : Metric) k s.jnl.metrics) ∧ t = u.noted t))
          ∧ (v.getLsbD 31 = false → exec (.metricClear acc v) s = .next u))

/-! ### Service cores and events -/

/-- R491, R492, R493, R507: a detected edge of an enabled source adds to its batch and makes it pending at N edges, the time limit makes it pending; an edge of
a source that is not enabled is lost; a service timer expires, which is an edge of its source. R495, R497, R500 to R502, R504, R505: the winner is presented to its core, which saves its frame, or keeps that of a return just made; nothing is
presented while the core is to run an ERET after its EOI, or while nothing is presentable. At the claim edge a request that wins over the presented one
redirects the entry; else the presented one is claimed; where it is no longer presentable the claim is spurious. The claim pushes the
priority and enters the vector. R19, R28, R487 to R489: a core whose watchdog expires is reset with a code that is not reserved; a second one within 1 s passes the fault to the region, which is
reinitialised and held. R493, R494, R496, R507, R509: the granted writes of the event controller's registers. Where the spec leaves a point open, the model's choice is taken: log entries 22, 58, 82. -/
def Obligations.EventsAct : Prop :=
  (
    ∀ (src : Fin 255) (merge : Bool) (ns : Nat) (s : State),
        let e := s.evSrc src
        let u := advance ns s
        let others := fun (t : State) => ∀ k, k ≠ src.val → t.evSrc k = s.evSrc k
        (s.svc.toggles.find? (fun x => x.1 == src.val) = none → exec (.eventEdge src merge ns) s = .next u)
        ∧ (∀ first, s.svc.toggles.find? (fun x => x.1 == src.val) = some first →
          let n := max 1 (cf (srcReg src 0) 15 8 s)
          let b := min (e.batch + 1) 255
          let rest := s.svc.toggles.erase first
          let second := rest.find? (fun x => x.1 == src.val && decide (x.2 < first.2 + 3))
          let left := if merge then (second.map (fun x => rest.erase x)).getD rest else rest
          let does := fun (P : EvSource → Prop) => Completes (.eventEdge src merge ns) s (fun t => P (t.evSrc src) ∧ others t
            ∧ t = { u with svc := { s.svc with toggles := left, src := t.svc.src } })
          (srcEnabled src s = false ∨ s.svc.held = true → does (fun f => f = e))
          ∧ (srcEnabled src s = true → s.svc.held = false →
            (e.pending = true → does (fun f => f.pending = true ∧ f.batch = b))
            ∧ (e.pending = false → e.gathering = false →
                (n ≤ b → does (fun f => f.pending = true ∧ f.gathering = false ∧ f.batch = b))
                ∧ (b < n → does (fun f => f.pending = false ∧ f.gathering = true ∧ f.batch = b ∧ f.t0 = u.now ∧ f.n = n
                    ∧ f.t = max 1 (cf (srcReg src 4) 15 0 s))))
            ∧ (e.pending = false → e.gathering = true →
                (e.n ≤ b → does (fun f => f.pending = true ∧ f.gathering = false ∧ f.batch = b))
                ∧ (b < e.n → does (fun f => f = { e with batch := b })))))
        ∧ (e.gathering = true → 1000 * e.t ≤ u.now - e.t0 → Completes (.gatherTimeLimit src ns) s (fun t =>
            t.evSrc src = { e with pending := true, gathering := false } ∧ others t ∧ t = { u with svc := { s.svc with src := t.svc.src } }))
        ∧ (e.gathering = false ∨ u.now - e.t0 < 1000 * e.t → exec (.gatherTimeLimit src ns) s = .next u)
        ∧ ∀ (m : Fin 7), let due := (look ({} : SvcTimer) m s.svc.timers).expires
            (∀ x, due = some x → x ≤ u.now →
              Completes (.serviceTimerExpiry m ns) s (fun t => t.svc.toggles = s.svc.toggles ++ [(248 + m.val, u.now)]
                ∧ (look {} m t.svc.timers).expires = (if cbit (stmrReg m 0) 1 s then some (stmrExpiry m x s) else none)
                ∧ (∀ o, o ≠ m.val → look {} o t.svc.timers = look ({} : SvcTimer) o s.svc.timers)
                ∧ cbit (stmrReg m 0) 0 t = (cbit (stmrReg m 0) 0 s && cbit (stmrReg m 0) 1 s)
                ∧ t = { u with ctl := t.ctl, svc := { s.svc with toggles := t.svc.toggles, timers := t.svc.timers } }))
            ∧ ((∀ x, due = some x → u.now < x) → exec (.serviceTimerExpiry m ns) s = .next u))
  ∧ (
    ∀ (c : Fin 4) (toClaim tail : Bool) (s : State),
        let K := s.svcCore c
        let others := fun (t : State) => ∀ o, o ≠ c.val → t.svcCore o = s.svcCore o
        let vector := fun (k : Nat) => (K.vbase.toNat + 16 * k) / 4 % 2 ^ 21
        let wait := K.eoiJust = true ∧ svcWord K.pc s = 0xC000_0000
        (K.presented = none → (wait ∨ winner c s = none) → exec (.eventPresentation c toClaim tail) s = .next s)
        ∧ (∀ prio k : Nat, K.presented = none → ¬ wait → winner c s = some (prio, k) → k < 255 →
            let again := K.eretJust = 2 ∨ (K.eretJust = 1 ∧ tail = true)
            let saves := 32 + K.splim.toNat ≤ K.sp.toNat ∧ (mpuAllows c true 1 (K.sp.toNat - 32) s).1 = true
            (again ∨ saves → Completes (.eventPresentation c toClaim tail) s (fun t => let L := t.svcCore c
              L.sp = K.sp - 32 ∧ L.eretJust = 0 ∧ L.vbase = K.vbase ∧ L.di = K.di ∧ L.exc = K.exc ∧ others t
              ∧ (again → t.svc.sram = s.svc.sram ∧ ∀ g, g = 0 ∨ 6 < g → look 0 g L.regs = look 0 g K.regs)
              ∧ (¬ again → L.regs = K.regs ∧ (s.wf → ∀ i < 8, svcWord ((K.sp.toNat - 32) / 4 + i) t =
                  if i = 0 then BitVec.ofNat 32 K.pc else if i = 1 then BitVec.ofNat 32 K.status else look 0 (i - 1) K.regs))
              ∧ (toClaim = false → L.presented = some { src := k, prio := prio } ∧ L.pc = K.pc ∧ L.stack = K.stack ∧ L.priv = K.priv
                  ∧ t.svc.src = s.svc.src)
              ∧ (toClaim = true → L.presented = none ∧ L.stack = (prio, k) :: K.stack ∧ L.pc = vector k ∧ L.priv = true ∧ L.lastClaim.toNat = k
                  ∧ t.evSrc k = { s.evSrc k with claimed := (s.evSrc k).batch, batch := 0, pending := false })
              ∧ t = { s with free := t.free, svc := { s.svc with cores := t.svc.cores, sram := t.svc.sram, src := t.svc.src } }))
            ∧ (¬ again → ¬ saves → Completes (.eventPresentation c toClaim tail) s (fun t => let L := t.svcCore c
                L.resets.toNat = min 0xFFFF (K.resets.toNat + 1) ∧ L.pc = 0 ∧ L.stack = [] ∧ L.di = true ∧ t.svc.sram = s.svc.sram)))
        ∧ (∀ p, K.presented = some p →
            let claims := fun (prio k : Nat) => Completes (.eventPresentation c toClaim tail) s (fun t => others t
              ∧ t.svcCore c = { K with
                  stack := (prio, k) :: K.stack, priv := true, waiting := false, presented := none, eoiJust := false, eretJust := 0
                  lastClaim := BitVec.ofNat 8 k, pc := vector k }
              ∧ t.evSrc k = { s.evSrc k with claimed := (s.evSrc k).batch, batch := 0, pending := false } ∧ (∀ o, o ≠ k → t.evSrc o = s.evSrc o)
              ∧ t = { s with svc := { s.svc with cores := t.svc.cores, src := t.svc.src } })
            (∀ w, winner c s = some w → w.2 < 255 → winsOver w (p.prio, p.src) s = true → claims w.1 w.2)
            ∧ (∀ w, winner c s = some w → p.src < 255 → winsOver w (p.prio, p.src) s = false → presentable c p.src s = true → claims p.prio p.src)
            ∧ ((∀ w, winner c s = some w → winsOver w (p.prio, p.src) s = false ∧ presentable c p.src s = false) →
                Completes (.eventPresentation c toClaim tail) s (fun t => let L := t.svcCore c
                  L.stack = (if stacked s then p.prio else 15, 255) :: K.stack ∧ L.pc = vector 255 ∧ L.priv = true ∧ L.presented = none
                  ∧ L.lastClaim = 255 ∧ L.spurious.toNat = min 0xFFFF (K.spurious.toNat + 1) ∧ L.regs = K.regs ∧ L.sp = K.sp ∧ others t
                  ∧ t = { s with jnl := t.jnl, svc := { s.svc with cores := t.svc.cores } }))))
  ∧ (
    ∀ (c : Fin 4) (ns : Nat) (s : State),
        let u := advance ns s
        let K := s.svcCore c
        let due := ∃ t0, K.wdStart = some t0 ∧ K.released = true ∧ svcWdtNs c s ≤ u.now - t0
        let second := ∃ p, s.svc.lastReset = some p ∧ p.1 ≠ c.val ∧ u.now < p.2 + 1_000_000_000
        (¬ due → exec (.serviceWatchdogExpiry c ns) s = .next u)
        ∧ (due → ¬ second ∨ s.keep.mode = .hold → Completes (.serviceWatchdogExpiry c ns) s (fun t =>
            (∃ code : BitVec 16, 0x1000 ≤ code.toNat ∧ code.toNat < 0xA000 ∧ t.svcCore c = {
              released := true, spurious := K.spurious, spurOpen := K.spurOpen, spurAt := K.spurAt, lastClaim := K.lastClaim
              resets := BitVec.ofNat 16 (min 0xFFFF (K.resets.toNat + 1)), fatalCode := code })
            ∧ (∀ o, o ≠ c.val → t.svcCore o = s.svcCore o) ∧ t.svc.lastReset = some (c.val, u.now)
            ∧ (∀ b : Nat, (s.berth b).tls = false → (s.berth b).tcp = none → t.berth b = s.berth b)
            ∧ t = { u.noted t with
                    bth := t.bth
                    svc := { s.svc with cores := t.svc.cores, toggles := t.svc.toggles, lastReset := t.svc.lastReset } }))
        ∧ (due → second → s.keep.mode ≠ .hold → Completes (.serviceWatchdogExpiry c ns) s (fun t => t.svc.held = true
            ∧ (∀ o, (t.svcCore o).released = false) ∧ t.svc.lastReset = some (c.val, u.now)
            ∧ (s.reiniting 5 = false → t.reiniting 5 = true ∧ t.keep.mode = s.keep.mode ∧ t.mot = s.mot)
            ∧ (s.reiniting 5 = true → t.keep.mode = .hold))))
  ∧ (
    ∀ (acc : Access) (v : Word) (s : State),
        let u := advance acc.at_ s
        let onlySvc := fun (t : State) => t = { u with ctl := t.ctl, svc := t.svc }
        (∀ k : Fin 8, (WriteGranted acc (0x0700_0010 + 4 * k.val) v s → Completes (.evcPendWrite acc k v) s (fun t => onlySvc t ∧ t.ctl = s.ctl
            ∧ ∀ n < 32, 32 * k.val + n < 255 → t.evSrc (32 * k.val + n) = if v.getLsbD n then { s.evSrc (32 * k.val + n) with pending := false, batch := 0 }
                else s.evSrc (32 * k.val + n)))
          ∧ (WriteGranted acc (0x0700_0030 + 4 * k.val) v s → Completes (.evcRaiseWrite acc k v) s (fun t => onlySvc t ∧ t.ctl = s.ctl
              ∧ ∀ n < 32, let j := 32 * k.val + n
                j < 255 → if v.getLsbD n && srcEnabled j s && !s.svc.held
                  then (t.evSrc j).batch = min ((s.evSrc j).batch + 1) 255 ∧ ((t.evSrc j).pending = true ∨ (t.evSrc j).gathering = true)
                  else t.evSrc j = s.evSrc j)))
        ∧ (∀ m : Fin 7, WriteGranted acc (stmrReg m 0) v s → Completes (.stmrEnableWrite acc m v) s (fun t => onlySvc t
            ∧ (look {} m t.svc.timers).expires = (if v.getLsbD 0 then some (stmrExpiry m u.now s) else none)
            ∧ cbit (stmrReg m 0) 0 t = v.getLsbD 0 ∧ cbit (stmrReg m 0) 1 t = v.getLsbD 1 ∧ (∀ a, a ≠ stmrReg m 0 → ctlGet a t = ctlGet a s)
            ∧ ∀ o, o ≠ m.val → look {} o t.svc.timers = look ({} : SvcTimer) o s.svc.timers))
        ∧ (∀ src : Fin 255, WriteGranted acc (srcReg src 0) v s → Completes (.sourceEnableWrite acc src v) s (fun t =>
            let owed := v.getLsbD 31 = true ∧ srcEnabled src s = false ∧ src.val < 16 ∧ s.svc.wakeOwed.getLsbD src = true
            onlySvc t ∧ srcEnabled src t = v.getLsbD 31 ∧ srcPrio src t = v.toNat % 16 ∧ (∀ o, o ≠ src.val → t.evSrc o = s.evSrc o)
            ∧ (∀ a, a ≠ srcReg src 0 → ctlGet a t = ctlGet a s)
            ∧ (v.getLsbD 31 = false → t.evSrc src = { s.evSrc src with pending := false, gathering := false, batch := 0 })
            ∧ (owed → (t.evSrc src).pending = true ∧ t.svc.wakeOwed.getLsbD src = false)
            ∧ (v.getLsbD 31 = true → ¬ owed → t.evSrc src = s.evSrc src)))
        ∧ (WriteGranted acc 0x0700_0000 v s →
            Completes (.gdisWrite acc v) s (fun t => t = { u with ctl := t.ctl } ∧ cbit 0x0700_0000 0 t = v.getLsbD 0
              ∧ (v.getLsbD 0 = true → ∀ c k, presentable c k t = false) ∧ ∀ a, a ≠ 0x0700_0000 → ctlGet a t = ctlGet a s)
            ∧ Completes (.evcTestWrite acc v) s (fun t => t = { u with ctl := t.ctl } ∧ cbit 0x0700_0000 1 t = v.getLsbD 1
              ∧ (v.getLsbD 1 = true → stacked t = false) ∧ ∀ a, a ≠ 0x0700_0000 → ctlGet a t = ctlGet a s)))

/-- R493: while a source's enable bit is 0, its edges are ignored; clearing the bit also clears its pending, gathering and batch state; EVC_PEND has the same effect on pending and
batch and leaves the source enabled; EVC_RAISE acts as one edge. -/
def Obligations.SourcesAreEnabledAndCleared : Prop :=
  ∀ (acc : Access) (src : Fin 255) (ns : Nat) (merge : Bool) (v : Word) (s : State),
    let e := s.evSrc src
    let bit := v.getLsbD (src.val % 32)
    let k : Fin 8 := ⟨src.val / 32, by omega⟩
    (srcEnabled src s = false → Completes (.eventEdge src merge ns) s (fun t => t.evSrc src = e))
    ∧ (WriteGranted acc (srcReg src 0) v s → v.getLsbD 31 = false → Completes (.sourceEnableWrite acc src v) s (fun t =>
        srcEnabled src t = false ∧ t.evSrc src = { e with pending := false, gathering := false, batch := 0 }))
    ∧ (WriteGranted acc (0x0700_0010 + 4 * k.val) v s → Completes (.evcPendWrite acc k v) s (fun t =>
        (bit = true → (t.evSrc src).pending = false ∧ (t.evSrc src).batch = 0) ∧ (bit = false → t.evSrc src = e) ∧ srcEnabled src t = srcEnabled src s))
    ∧ (WriteGranted acc (0x0700_0030 + 4 * k.val) v s → Completes (.evcRaiseWrite acc k v) s (fun t =>
        t.evSrc src = (if bit then (evEdge src (advance acc.at_ s)).evSrc src else e)))

/-- R497: the winner among the requests presentable to a core: in the stacked order the lowest priority value, and among equals the lowest source number; in the fixed order the
lowest source number. -/
def Obligations.WinnerIsChosen : Prop :=
  ∀ (c : Fin 4) (s : State),
    (winner c s = none ↔ ∀ k, presentable c k s = false)
    ∧ ∀ p : Nat × Nat, winner c s = some p → presentable c p.2 s = true ∧ p.1 = srcPrio p.2 s
        ∧ ∀ k, presentable c k s = true → k ≠ p.2 → if stacked s then p.1 < srcPrio k s ∨ (p.1 = srcPrio k s ∧ p.2 < k) else p.2 < k

/-! ### The lock-keeper -/

/-- R508, R509, R535 to R538: a STABLED request waits for the end of the next released cycle, or is refused with its first reason; the entry arms the watcher, holds the
service region in reset, disables the axes and pulls the trip lines low. In STABLED a wake source of the wake set sets its wake bit; a pending bit leads to BOOT from S3
with kind 5 of LKP_CAUSE. Where the spec leaves a point open, the model's choice is taken: log entries 52, 53. -/
def Obligations.StabledAndWake : Prop :=
  ∀ (acc : Access) (s : State),
    let u := advance acc.at_ s
    let edge := fun (k : Nat) (v : State) => if s.svc.armed = true ∧ cbit 0x0700_0008 k s = true then
      { v with svc := { v.svc with wakePend := v.svc.wakePend ||| (1#16 <<< k) } } else v
    let refused := fun (v : State) (reason : Nat) (t : State) => t = { v.noted t with
      keep := { v.keep with stblRequest := false, stblReason := BitVec.ofNat 8 reason, lastCode := t.keep.lastCode } }
    (WriteGranted acc 0x0800_0300 1 s →
      (s.keep.mode = .run ∨ s.keep.mode = .degraded →
        exec (.stabledRequest acc) s = .next { u with keep := { u.keep with stblRequest := true, stblAt := u.now } })
      ∧ (s.keep.mode ≠ .run → s.keep.mode ≠ .degraded → Completes (.stabledRequest acc) s (refused u 1)))
    ∧ (∀ k : Fin 16, exec (.wakeEdge k) s = .next (edge k s))
    ∧ (s.keep.mode = .stabled → exec .wakenFalling s = .next (edge 5 s) ∧ exec .uartKStartBit s = .next (edge 7 s)
        ∧ exec .stabledTimerExpiry s = .next (if ctlGet 0x0800_0304 s ≠ 0 then edge 6 s else s)
        ∧ (WriteGranted acc 0x0800_0300 2 s → exec (.stabledWake acc) s = .next (edge 7 u))
        ∧ (∀ w : Fin 4, let d := cf 0x0800_0308 (8 * w.val + 6) (8 * w.val) s
            exec (.fb0WakeInput w) s = .next (if s.fldFitted 0 = true ∧ d < 24 ∧ dioRead 0 d s = cbit 0x0800_0308 (8 * w.val + 7) s
              then edge (8 + w.val) s else s))
        ∧ (∀ aclk : Nat, s.svc.wakePend ≠ 0 → Completes (.wake aclk) s (fun t => t.keep.mode = .boot ∧ t.keep.bootKind = .wake ∧ t.keep.bootStage = 3
            ∧ t.keep.resetKind = 5 ∧ t.svc.latched = s.svc.wakePend ∧ t.svc.wakeOwed = s.svc.wakePend ∧ t.svc.armed = false
            ∧ t.keep.bootCount = s.keep.bootCount + 1 ∧ t.sram = [] ∧ t.keep.slots = s.keep.slots
            ∧ t.now = max s.now (s.keep.stblEntry + max s.keep.stblAclk aclk * 30_517_578_125 / 1_000_000))))
    ∧ (s.keep.mode ≠ .stabled → Completes .wakenFalling s (fun t => t.svc.toggles = s.svc.toggles ++ [(5, s.now)] ∧ t = s.noted t)
        ∧ (∀ x ∈ [Instr.uartKStartBit, .stabledTimerExpiry], exec x s = .next s) ∧ (∀ w, exec (.fb0WakeInput w) s = .next s)
        ∧ (WriteGranted acc 0x0800_0300 2 s → exec (.stabledWake acc) s = .next u))
    ∧ (s.keep.mode ≠ .stabled ∨ s.svc.wakePend = 0 → ∀ aclk, exec (.wake aclk) s = .next s)
    ∧ (let due := s.keep.stblRequest = true ∧ s.seq.phase = .housekeeping ∧ s.seq.overrun = false ∧ s.keep.stblAt ≤ s.deadline;
      (¬ due → exec .stabledEntry s = .next s)
      ∧ (due → stabledReason s ≠ 0 → Completes .stabledEntry s (refused s (stabledReason s)))
      ∧ (due → stabledReason s = 0 → Completes .stabledEntry s (fun t => t.keep.mode = .stabled ∧ t.keep.stblRequest = false ∧ t.keep.stblEntry = s.now
          ∧ t.keep.stblAclk = 0 ∧ t.keep.tripLow = true ∧ t.keep.liveLow = true ∧ t.svc.armed = true ∧ t.svc.wakePend = 0 ∧ t.svc.held = true
          ∧ t.seq.phase = .notRunning ∧ t.sram = s.sram ∧ t.image = s.image ∧ t.tri = {} ∧ ∀ n, (t.axis n).st = .disabled)))

/-- R513, R514, R516, R523: a sample of TSi is the sensor's reading; the third in succession beyond the warning is a warning, beyond a limit it leads to HOLD with event source 2
(a journal store fault for TS10); the second comparison of VMv in succession outside its window is an excursion with the effect its row gives; a reading in the window
ends it, releases a reset that its rail held and gives the network region its supply back; a rail that is not good isolates its domain; the summary
begins its extremes afresh. Where the spec leaves a point open, the model's choice is taken: log entry 51. -/
def Obligations.SensorsAct : Prop :=
  (∀ (ns : Nat) (xs : List (BitVec 16)) (i : Nat) (s : State), i < 12 →
    let u := advance ns s
    let lim := tempLimits i s
    let q := s.temp i
    let live := s.keep.mode ≠ .stabled ∨ 8 < i
    (xs[i]? = none ∨ ¬ live → Completes (.temperatureSample ns xs) s (fun t => t.temp i = q ∧ u.now = t.now))
    ∧ (∀ x, xs[i]? = some x → live → Completes (.temperatureSample ns xs) s (fun t =>
        let high := if lim.2.1 < x.toInt then min 3 (q.highRun + 1) else 0
        let low := if x.toInt < lim.2.2 then min 3 (q.lowRun + 1) else 0
        let warn := if lim.1 < x.toInt then min 3 (q.warnRun + 1) else 0
        (t.temp i).reading = x.toInt ∧ (t.temp i).highRun = high ∧ (t.temp i).lowRun = low ∧ (t.temp i).warnRun = warn
        ∧ (t.temp i).atLimit = decide (3 ≤ max high low)
        ∧ (3 ≤ warn → q.warned = false → (t.temp i).warned = true ∧ t.keep.tseen.getLsbD i = true ∧ (1, u.now) ∈ t.svc.toggles)
        ∧ (3 ≤ max high low → q.atLimit = false → t.keep.tseen.getLsbD (16 + i) = true
            ∧ (2, u.now) ∈ t.svc.toggles ∧ (i ≠ 10 → t.keep.mode = .hold) ∧ (i = 10 → t.jnl.state = .storeFault)))))
  ∧ (∀ (v : Fin 16) (mv : BitVec 16) (loss : StoreLoss) (s : State),
      let w := railWindow v
      let inside := w.1 ≤ mv.toNat ∧ mv.toNat ≤ w.2
      let V := s.volt v
      let watched := voltIgnored v s = false ∧ voltFitted v s = true
      let sees := fun (P : Sensor → Prop) => Completes (.voltageExcursion v mv) s (fun t => (t.volt v).reading = mv.toNat ∧ P (t.volt v)
        ∧ t = { s with keep := { s.keep with volt := t.keep.volt } })
      let held := fun (kind : Nat) (t : State) => t.keep.mode = .boot ∧ t.keep.bootStage = 1 ∧ t.keep.resetKind = kind ∧ t.sram = []
        ∧ t.keep.resetHeld = v.val :: s.keep.resetHeld
      (¬ watched → exec (.voltageExcursion v mv) s = .next s ∧ exec (.railBackInWindow v mv) s = .next s ∧ exec (.railNotGood v loss) s = .next s)
      ∧ (watched →
        (inside → sees (fun q => q.out = false ∧ q.limitRun = 0))
        ∧ (¬ inside → V.limitRun = 0 → sees (fun q => q.out = false ∧ q.limitRun = 1))
        ∧ (¬ inside → 1 ≤ V.limitRun → V.out = true → sees (fun q => q.out = true ∧ q.limitRun = 2))
        ∧ (¬ inside → 1 ≤ V.limitRun → V.out = false → Completes (.voltageExcursion v mv) s (fun t =>
            (v.val ∈ [0, 1, 2, 4, 10] → t.keep.mode = .hold ∧ (t.volt v).out = true ∧ (3, s.now) ∈ t.svc.toggles)
            ∧ (v.val ∈ [8, 11] → t.jnl.state = .storeFault ∧ (t.volt v).out = true ∧ (3, s.now) ∈ t.svc.toggles)
            ∧ (v.val ∈ [5, 6] → t.net.up = false ∧ (s.tri.state = .off → t.keep.mode = s.keep.mode) ∧ (t.volt v).out = true)
            ∧ (v.val ∈ [7, 9] → v.val ∉ s.keep.resetHeld → held 0 t)
            ∧ (v.val = 3 → v.val ∉ s.keep.resetHeld → s.keep.mode ≠ .hold → held 6 t)
            ∧ (v.val ∈ [3, 7, 9] → v.val ∈ s.keep.resetHeld ∨ (v.val = 3 ∧ s.keep.mode = .hold) → t.keep.mode = s.keep.mode ∧ (t.volt v).out = true)
            ∧ (12 ≤ v.val → t.svc.toggles = s.svc.toggles ++ [(3, s.now)] ∧ (t.volt v).out = true ∧ t = { s.noted t with keep := t.keep }
                ∧ t.keep.mode = s.keep.mode)))
        ∧ (¬ inside → exec (.railBackInWindow v mv) s = .next s)
        ∧ (inside → Completes (.railBackInWindow v mv) s (fun t => (t.volt v).out = false ∧ (t.volt v).limitRun = 0 ∧ (t.volt v).reading = mv.toNat
            ∧ (v.val ≠ 5 → v.val ≠ 6 → t.keep.resetHeld = s.keep.resetHeld.filter (fun x => x != v.val)
                ∧ t.keep.bootStart = (if v.val ∈ s.keep.resetHeld then s.now else s.keep.bootStart)
                ∧ t = { s with keep := { s.keep with volt := t.keep.volt, resetHeld := t.keep.resetHeld, bootStart := t.keep.bootStart } })
            ∧ (v.val ∈ [5, 6] → v.val ∉ t.keep.isolated ∧
                let back := s.net.up = false ∧ s.keep.clkNow.getLsbD 4 = false ∧ (s.volt (11 - v.val)).out = false;
                (back → t.net = { s.net with up := true })
                ∧ (back → s.keep.owed.getLsbD 4 = true → s.reiniting 4 = false → t.reiniting 4 = true ∧ t.keep.mode = s.keep.mode)
                ∧ (back → s.keep.owed.getLsbD 4 = false → t = { s with net := t.net, keep := t.keep } ∧ t.keep.mode = s.keep.mode)
                ∧ (¬ back → t = { s with keep := t.keep } ∧ t.keep.mode = s.keep.mode))))
        ∧ Completes (.railNotGood v loss) s (fun t =>
            (v.val < 3 → t.keep.liveLow = true ∧ t.keep.tripLow = true ∧ v.val ∈ t.keep.isolated ∧ t.net.up = false
              ∧ ∀ n < s.axesFitted, (t.axis n).st = .disabled)
            ∧ (v.val = 4 → v.val ∈ t.keep.isolated ∧ (∀ n < s.chansFitted, chanValid n t = false) ∧ t.keep.mode = s.keep.mode)
            ∧ (v.val ∈ [5, 6] → t.net.up = false ∧ v.val ∈ t.keep.isolated ∧ (s.tri.state = .off → t.keep.mode = s.keep.mode))
            ∧ (v.val ∈ [7, 9] → v.val ∉ s.keep.resetHeld → held 0 t) ∧ (v.val = 3 → v.val ∉ s.keep.resetHeld → held 6 t)
            ∧ (v.val ∈ [3, 7, 9] → v.val ∈ s.keep.resetHeld → t = s)
            ∧ (v.val = 8 → t.jnl.state = .storeFault) ∧ (v.val ∈ [10, 11] → t = s) ∧ (12 ≤ v.val → (t.block (v.val - 12)).uv = true
                ∧ t.keep.mode = s.keep.mode))))
  ∧ ∀ (ns : Nat) (s : State), let u := advance ns s;
      (s.keep.lastSummary + 600_000_000_000 ≤ u.now →
        Completes (.sensorSummary ns) s (fun t => t.keep.lastSummary = u.now ∧ (∀ i, (t.temp i).hi = none ∧ (t.temp i).lo = none
          ∧ (t.temp i).reading = (s.temp i).reading) ∧ (∀ v, (t.volt v).hi = none ∧ (t.volt v).lo = none ∧ (t.volt v).reading = (s.volt v).reading)
          ∧ t = { u.noted t with keep := t.keep }))
      ∧ (u.now < s.keep.lastSummary + 600_000_000_000 → exec (.sensorSummary ns) s = .next u)

/-- R28, R30 to R32, R39, R512: a clock out of range acts by its domain (REFCLK_A, CCLK, MCLK and the others without a row of their own: HOLD; SCLK: the service region is
reinitialised; NCLK: ports and towpath down; PCLK: BTH1 and BTH2 closed), in HOLD with no action but NCLK's; a clock back in range ends it; a reinitialisation completes or
leads to HOLD; the keeper watchdog asserts the trip lines and leads to HOLD, or ends the trial that a BOOT serves. Where the spec leaves a point open, the model's choice is taken: log entries 54, 86. -/
def Obligations.RegionsAct : Prop :=
  (∀ (n : Fin 8) (s : State),
    let now := s.keep.clkNow.getLsbD n
    (now = true ∨ (s.keep.mode = .stabled ∧ n.val ≠ 6) → exec (.clockMonitorOutOfRange n) s = .next s)
    ∧ (now = false → s.keep.mode ≠ .stabled ∨ n.val = 6 → Completes (.clockMonitorOutOfRange n) s (fun t =>
        t.keep.clkNow.getLsbD n = true ∧ t.keep.clkSeen.getLsbD n = true ∧ (4, s.now) ∈ t.svc.toggles
        ∧ (n.val ∈ [0, 1, 3, 7] → t.keep.mode = .hold)
        ∧ (n.val = 6 ∨ (s.keep.mode = .hold ∧ n.val ≠ 4) → t = { s.noted t with keep := {
            s.keep with clkNow := t.keep.clkNow, clkSeen := t.keep.clkSeen, lastCode := t.keep.lastCode } })
        ∧ (s.keep.mode ≠ .hold →
            (n.val = 2 → t.svc.held = true ∧ (∀ o, (t.svcCore o).released = false) ∧ (s.reiniting 5 = false → t.reiniting 5 = true ∧ t.keep.mode = s.keep.mode))
            ∧ (n.val = 5 → (∀ b ∈ [1, 2], (t.berth b).granted = 0
                ∧ (t.berth b).state = if (s.berth b).state = .lockedOut then .lockedOut else .closed)
              ∧ t = { s.noted t with bth := t.bth, keep := t.keep } ∧ t.keep.mode = s.keep.mode))
        ∧ (n.val = 4 → t.net.up = false ∧ (∀ p < 4, (t.port p).link = false) ∧ (s.tri.state = .off → t.keep.mode = s.keep.mode))))
    ∧ (now = false → exec (.clockBackInRange n) s = .next s)
    ∧ (now = true → Completes (.clockBackInRange n) s (fun t => t.keep.clkNow.getLsbD n = false
      ∧ (n.val ≠ 4 → n.val ≠ 5 ∨ s.keep.owed.getLsbD 5 = false → t = { s with keep := { s.keep with clkNow := t.keep.clkNow } })
      ∧ (n.val = 5 → s.keep.owed.getLsbD 5 = true → (t.berth 1).state = .resetting ∧ (t.berth 2).state = .resetting ∧ t.keep.owed.getLsbD 5 = false)
      ∧ (n.val = 4 →
          let back := s.net.up = false ∧ (s.volt 5).out = false ∧ (s.volt 6).out = false;
          (back → t.net.up = true ∧ (s.keep.owed.getLsbD 4 = true → s.reiniting 4 = false → t.reiniting 4 = true ∧ t.keep.mode = s.keep.mode))
          ∧ (¬ back → t = { s with keep := { s.keep with clkNow := t.keep.clkNow } })))))
  ∧ (∀ (r : Fin 7) (ns : Nat) (s : State), let u := advance ns s;
      (look none r.val s.keep.reinit = none → exec (.regionReinitComplete r ns) s = .next u ∧ exec (.regionReinitTimeout r ns) s = .next u)
      ∧ ∀ t0 : Nat, look none r.val s.keep.reinit = some t0 →
        (u.now ≤ t0 + reinitBound r → exec (.regionReinitTimeout r ns) s = .next u
          ∧ Completes (.regionReinitComplete r ns) s (fun t => t.reiniting r = false ∧ t.keep.mode = s.keep.mode
            ∧ (r.val = 1 → t.fbk.chans = s.fbk.chans ∧ t.fbk.heads = s.fbk.heads ∧ t.mot = s.mot)
            ∧ (r.val = 2 → t.fbk.heads = [] ∧ t.fbk.stand = [] ∧ (∀ k < 16, (t.section_ k).state = .disturbed) ∧ t.fbk.eo = s.fbk.eo)
            ∧ (r.val = 4 → ∀ c ∈ definedConns s.net.table, (t.conn c).state = 0 ∨ (t.conn c).state = 2)
            ∧ (r.val = 5 → t.svc.held = false ∧ t.svc.src = [] ∧ t.svc.timers = [] ∧ t.svc.sram = s.svc.sram)))
        ∧ (t0 + reinitBound r < u.now → exec (.regionReinitComplete r ns) s = .next u
          ∧ Completes (.regionReinitTimeout r ns) s (fun t => t.keep.mode = .hold ∧ (s.keep.mode ≠ .hold → t.keep.cause = 0x9103))))
  ∧ ∀ s : State,
      (s.keep.mode ≠ .boot ∨ onTrial s = false → Completes .keeperWatchdogExpiry s (fun t => t.keep.mode = .hold ∧ t.keep.tripLow = true
        ∧ (s.keep.mode ≠ .hold → t.keep.cause = 0x9032)))
      ∧ (s.keep.mode = .boot → onTrial s = true → Completes .keeperWatchdogExpiry s (fun t => t.keep.mode = .boot ∧ t.keep.resetKind = 4
          ∧ t.keep.bootStage = 1 ∧ ∀ k < 4, (t.slot k).state = if (s.slot k).state = .trial then .failed else (s.slot k).state))

/-- R517 to R519, R521, R532: entry to HOLD; a BOOT at its mode decision; a stage that fails or exceeds its time; CMSN. R521, R527, R528, R532, R533: what the stages of a BOOT do: S2 goes on with a firmware that verifies, else ROM recovery begins; S3 needs its clocks and sensors; S5 clears the
trip flop; S6 uses the settings copy with the higher generation; S8 releases the service cores; S9 takes each fitted block in or isolates it. R41, R525, R526: the resets with their LKP_CAUSE kind and what they leave as it is. Requests in COMMISSION, HOLD and BOOT act at once; in RUN and DEGRADED a request is written
twice, 100 ms to 2,000 ms apart; in STABLED it is refused. Where the spec leaves a point open, the model's choice is taken: log entries 45, 47, 50. -/
def Obligations.HoldBootAndResets : Prop :=
  (
    ∀ (s : State),
        (∀ cause : BitVec 16, (s.keep.mode ≠ .hold → Completes (.holdEntry cause) s (fun t => t.keep.mode = .hold ∧ t.keep.prev = s.keep.mode ∧ t.keep.cause = cause
            ∧ t.keep.liveLow = true ∧ t.keep.tripLow = true ∧ t.keep.stblRequest = false ∧ t.seq.phase = .notRunning
            ∧ (∀ n < s.axesFitted, (t.axis n).st = .disabled) ∧ t.sram = s.sram ∧ t.image = s.image))
          ∧ (s.keep.mode = .hold → exec (.holdEntry cause) s = .next s))
        ∧ (booting s = false → (∀ r, exec (.boot r) s = .next s) ∧ ∀ n ns, exec (.bootStageTimeout n ns) s = .next s)
        ∧ (∀ r : BootRun, booting s = true →
            (r.fail = none → s.keep.bootStage = 10 →
              (∀ k, slotIn .trial lkSlots s = some k → Completes (.boot r) s (fun t => (t.slot k).state = .active))
              ∧ (s.keep.cmsn = false → Completes (.boot r) s (fun t => t.keep.mode = .commission ∧ t.keep.bootStage = 15))
              ∧ (s.keep.cmsn = true → runnable s = true →
                  Completes (.boot r) s (fun t => t.keep.bootStage = 15
                    ∧ t.keep.mode = (if (List.range s.blocksFitted).any (fun f => (s.block f).isolated) then .degraded else .run)
                    ∧ t.tri.state = (if s.triadOn then .forming else .off)))
              ∧ (s.keep.cmsn = true → runnable s = false → Completes (.boot r) s (fun t => t.keep.mode = .hold ∧ t.keep.cause = 0x9003)))
            ∧ (∀ n d, r.fail = some (n, d) → n.val = s.keep.bootStage → ¬ (n.val = 4 ∧ s.keep.bootKind = .logic) →
                (n.val = 1 → Completes (.boot r) s (fun t => t.keep.mode = .boot ∧ t.keep.bootFailed = 1 ∧ booting t = false))
                ∧ (onTrial s = false →
                    (n.val ∈ [3, 5, 7, 10] → Completes (.boot r) s (fun t => t.keep.mode = .hold ∧ t.keep.cause = 0x9001 ∧ t.keep.bootFailed = n.val))
                    ∧ (n.val = 2 → Completes (.boot r) s (fun t => t.keep.mode = .hold ∧ t.keep.romRecovery = true ∧ t.keep.bootFailed = 2))
                    ∧ (n.val = 9 → Completes (.boot r) s (fun t => t.keep.bootStage = 15 ∧ t.keep.bootFailed = 9)))
                ∧ (2 ≤ n.val → onTrial s = true → Completes (.boot r) s (fun t => t.keep.mode = .boot ∧ t.keep.resetKind = 4 ∧ onTrial t = false))))
        ∧ (∀ (n : Fin 11) (ns : Nat), booting s = true →
            (n.val < s.keep.bootStage ∨ n.val = 0 → exec (.bootStageTimeout n ns) s = .next s)
            ∧ (s.keep.bootStage ≤ n.val → n.val = 1 → Completes (.bootStageTimeout n ns) s (fun t => t.keep.mode = .boot ∧ t.keep.bootFailed = 1))
            ∧ (s.keep.bootStage ≤ n.val → 2 ≤ n.val → onTrial s = true → Completes (.bootStageTimeout n ns) s (fun t => t.keep.mode = .boot
                ∧ t.keep.resetKind = 4 ∧ t.keep.resetCode = 0x9052 ∧ t.keep.bootStage = 1 ∧ onTrial t = false))
            ∧ (s.keep.bootStage ≤ n.val → 2 ≤ n.val → onTrial s = false → Completes (.bootStageTimeout n ns) s (fun t => t.keep.bootFailed = n.val
                ∧ (n.val = 2 → t.keep.mode = .hold ∧ t.keep.romRecovery = true)
                ∧ (n.val ∈ [3, 5, 7, 10] → t.keep.mode = .hold ∧ t.keep.cause = 0x9001)
                ∧ (n.val = 4 → t.jnl.state = .storeFault ∧ (cbit 0x0600_0000 0 s = false → t.keep.mode = .boot ∧ t.keep.bootStage = 5))
                ∧ (n.val = 6 → t.keep.mode = .boot ∧ t.keep.bootStage = 7) ∧ (n.val = 8 → t.keep.mode = .boot ∧ t.keep.bootStage = 9 ∧ t.svc.held = true)
                ∧ (n.val = 9 → t.keep.tripLow = false ∧ t.keep.bootStage = 10
                    ∧ ∀ f < s.blocksFitted, (s.block f).link ≠ 2 → (t.block f).isolated = true))))
        ∧ (∀ level : Bool,
            (s.keep.cmsn = level → exec (.cmsnLevelChange level) s = .next s)
            ∧ (s.keep.cmsn ≠ level →
              (s.keep.mode = .commission → level = true → Completes (.cmsnLevelChange level) s (fun t => t.keep.mode = .boot ∧ t.keep.resetKind = 2
                ∧ t.keep.resetCode = 0x9070 ∧ t.keep.bootStage = 1))
              ∧ (s.keep.mode ≠ .commission ∨ level = false → Completes (.cmsnLevelChange level) s (fun t => t.svc.toggles = s.svc.toggles ++ [(14, s.now)]
                  ∧ t = { s.noted t with keep := { s.keep with cmsn := level, lastCode := t.keep.lastCode } })))))
  ∧ (
    ∀ (r : BootRun) (s : State), onTrial s = false →
        (let good := fun (k : Nat) => r.badSlots.getLsbD k = false ∧ (s.slot k).payload.length ≤ 1_572_864;
          ((∃ k, (slotIn .active lkSlots s = some k ∨ slotIn .fallback lkSlots s = some k) ∧ good k) → stageS2 r s = s)
          ∧ ((∀ k, slotIn .active lkSlots s = some k ∨ slotIn .fallback lkSlots s = some k → ¬ good k) → s.keep.mode ≠ .hold →
              (stageS2 r s).keep.mode = .hold ∧ (stageS2 r s).keep.romRecovery = true ∧ (stageS2 r s).keep.cause = 0x9054))
        ∧ (testS3 s = none ↔ (∀ n < 5, s.keep.clkNow.getLsbD n = false) ∧ ∀ i < 12, (s.temp i).atLimit = false)
        ∧ (r.proof = none → stageS5 r s = { s with seq := { s.seq with tripFlop := false, proofOk := BitVec.ofNat 8 (2 ^ s.clustersFitted - 1) } })
        ∧ (∀ g, s.keep.bootKind ≠ .logic → r.badA = false → r.badB = false → r.tornSlots = 0 → bestSettings s = some g →
            (stageS6 r s).keep.generation = g.generation ∧ (stageS6 r s).bth.devCert = g.devCert
            ∧ (∀ k, slotIn .active progSlots s = some k → r.badSlots.getLsbD k = true → (stageS6 r s).image = none))
        ∧ (∀ k, s.keep.bootKind ≠ .logic → slotIn .active svcSlots s = some k →
            (r.badSlots.getLsbD k = false → r.ready = 15 → (stageS8 r s).svc.held = false ∧ (stageS8 r s).svc.sram = firmwareCells (s.slot k).payload
              ∧ ∀ c < 4, (stageS8 r s).svcCore c = { released := true })
            ∧ (r.badSlots.getLsbD k = true ∨ r.ready ≠ 15 → (stageS8 r s).svc.held = true ∧ (stageS8 r s).keep.bootFailed = 8))
        ∧ (stageS9 r s).keep.tripLow = false
        ∧ ∀ f < s.blocksFitted, (s.block f).isolated = false → let b := (stageS9 r s).block f
            if r.linkOk.getLsbD f then b.link = 2 ∧ b.isolated = false ∧ b.resetAt = none else b.link = 0 ∧ b.isolated = true ∧ b.lineLow = true)
  ∧ (
    ∀ (s : State),
        let fresh := fun (v t : State) => t.keep.mode = .boot ∧ t.keep.bootKind = .whole ∧ t.keep.bootStage = 1 ∧ t.now = 0 ∧ t.sram = []
          ∧ t.seq = {} ∧ t.image = none ∧ t.pending = v.pending ∧ t.fused = v.fused ∧ t.keep.slots = v.keep.slots ∧ t.keep.settingsA = v.keep.settingsA
          ∧ t.keep.settingsB = v.keep.settingsB ∧ t.bth.keys = v.bth.keys ∧ t.bth.anchors = v.bth.anchors ∧ t.net.ceiling = v.net.ceiling
          ∧ t.keep.bootCount = v.keep.bootCount + 1 ∧ (∀ x ∈ v.jnl.flacon, x ∈ t.jnl.flacon) ∧ t.jnl.acked = v.jnl.acked
        (∀ loss : StoreLoss,
          Completes (.powerOnReset loss) s (fun t => fresh s t ∧ t.keep.resetKind = 0 ∧ t.keep.resetHeld = [])
          ∧ Completes (.pornLow loss) s (fun t => fresh s t ∧ t.keep.resetKind = 1 ∧ t.keep.resetHeld = s.keep.resetHeld))
        ∧ (let t := applyResets 1 s; fresh s t ∧ t.keep.resetKind = 2 ∧ t.keep.resetHeld = [])
        ∧ (let t := applyResets 2 s;
          t.keep.mode = .boot ∧ t.keep.bootKind = .logic ∧ t.keep.resetKind = 3 ∧ t.keep.bootStage = 3 ∧ t.sram = [] ∧ t.cores = [] ∧ t.splits = []
          ∧ t.svc.sram = s.svc.sram ∧ t.now = s.now ∧ t.keep.slots = s.keep.slots ∧ t.seq.excCode = s.seq.excCode ∧ t.keep.bootCount = s.keep.bootCount + 1)
        ∧ (∀ blocks : BitVec 4, let t := applyResets (blocks.setWidth 32 <<< 4) s
            t.keep.mode = s.keep.mode ∧ t.now = s.now ∧ ∀ f < 4, if blocks.getLsbD f && s.fldFitted f && !(s.block f).isolated
              then (t.block f).resetAt = some s.now ∧ (t.block f).link = 1 else t.block f = s.block f)
        ∧ ∀ (acc : Access) (blocks : BitVec 4), ∀ x ∈ [(Instr.lockKeeperCommandReset acc, (1 : Word)), (.logicRegionReset acc, 2),
            (.fieldBlockResetRequest acc blocks, blocks.setWidth 32 <<< 4)],
            let u := advance acc.at_ s
            let arms := fun (t : State) => t.keep.armed = some (x.2, u.now)
              ∧ t = { u.noted t with keep := { u.keep with armed := t.keep.armed, lastCode := t.keep.lastCode } }
            x.2 ≠ 0 → WriteGranted acc 0x0800_000C x.2 s →
            (s.keep.mode = .commission ∨ s.keep.mode = .hold ∨ s.keep.mode = .boot → ∃ v, exec x.1 s = .next (applyResets x.2 v) ∧ v.keep.armed = none
              ∧ v = { u.noted v with keep := { u.keep with armed := none, lastCode := v.keep.lastCode } })
            ∧ (s.keep.mode = .stabled → Completes x.1 s (fun t => t = { u.noted t with
                keep := { u.keep with armed := t.keep.armed, lastCode := t.keep.lastCode } }))
            ∧ (s.keep.mode = .run ∨ s.keep.mode = .degraded →
              (s.keep.armed = none → Completes x.1 s arms)
              ∧ ∀ w t0, s.keep.armed = some (w, t0) →
                  let again := w = x.2 ∧ t0 + 100_000_000 ≤ u.now ∧ u.now ≤ t0 + 2_000_000_000
                  (again → exec x.1 s = .next (applyResets x.2 { u with keep := { u.keep with armed := none } }))
                  ∧ (¬ again → Completes x.1 s arms)))

/-- R43, R296, R528 to R531: a commit writes the older settings copy with the next generation; the activations of COMMISSION, the discard of staged slots, and the setting of
wall time. Where the spec leaves a point open, the model's choice is taken: log entries 21, 46, 48. -/
def Obligations.SettingsAndTime : Prop :=
  ∀ (acc : Access) (v : Word) (s : State),
    let u := advance acc.at_ s
    let genA := if s.keep.settingsA.valid then s.keep.settingsA.generation else 0
    let genB := if s.keep.settingsB.valid then s.keep.settingsB.generation else 0
    (WriteGranted acc 0x0800_0018 2 s →
      (s.keep.mode = .commission → Completes (.settingsCommit acc) s (fun t =>
        let new := if genB < genA then t.keep.settingsB else t.keep.settingsA
        new.valid = true ∧ new.generation = max genA genB + 1 ∧ new.values = workingCopy s ∧ new.policy = s.bth.policy ∧ new.devCert = s.bth.devCert
        ∧ new.conf = (if s.net.confActive then some s.bth.confPayload else none) ∧ new.rollback = s.keep.rollback ∧ t.keep.generation = new.generation
        ∧ (if genB < genA then t.keep.settingsA = s.keep.settingsA else t.keep.settingsB = s.keep.settingsB)
        ∧ t.svc.toggles = s.svc.toggles ++ [(15, u.now)] ∧ t = { u.noted t with keep := t.keep } ∧ t.keep.mode = s.keep.mode))
      ∧ (s.keep.mode ≠ .commission → exec (.settingsCommit acc) s = .next u))
    ∧ (s.keep.mode ≠ .commission → ∀ x ∈ [(Instr.actProg acc, (1 : Word)), (.actLkfw acc, 2), (.actSvfw acc, 4)],
        WriteGranted acc 0x0800_0220 x.2 s → exec x.1 s = .next u)
    ∧ (s.keep.mode = .commission →
        (∀ x ∈ [(Instr.actProg acc, (1 : Word), progSlots), (.actLkfw acc, 2, lkSlots), (.actSvfw acc, 4, svcSlots)],
          WriteGranted acc 0x0800_0220 x.2.1 s → slotIn .staged x.2.2 s = none → Completes x.1 s (fun t => t = u.noted t ∧ t.svc = s.svc))
        ∧ (∀ k, WriteGranted acc 0x0800_0220 1 s → slotIn .staged progSlots s = some k → Completes (.actProg acc) s (fun t => (t.slot k).state = .active
          ∧ (∀ o, o ≠ k → slotIn .active progSlots s = some o → (t.slot o).state = .fallback) ∧ t.image = some (parseImage (s.slot k).payload)
          ∧ t.svc.toggles = s.svc.toggles ++ [(12, u.now)] ∧ t.keep.mode = .commission ∧ t.now = u.now))
        ∧ (∀ k, onTrial s = false → ∀ x ∈ [(Instr.actLkfw acc, (2 : Word), lkSlots), (.actSvfw acc, 4, svcSlots)],
            WriteGranted acc 0x0800_0220 x.2.1 s → slotIn .staged x.2.2 s = some k → Completes x.1 s (fun t => (t.slot k).state = .trial
              ∧ t.keep.mode = .boot ∧ t.keep.resetKind = 2 ∧ t.keep.resetCode = 0x9051 ∧ t.keep.bootStage = 1)))
    ∧ (WriteGranted acc 0x0800_0220 8 s → Completes (.updateDiscard acc) s (fun t => (∀ k < 6, t.slot k = if (s.slot k).state = .staged then {} else s.slot k)
        ∧ t = { u with keep := { u.keep with slots := t.keep.slots } }))
    ∧ (WriteGranted acc 0x0800_0050 v s → exec (.wallTimeStageLo acc v) s = .next { u with time := { u.time with stageLo := v } })
    ∧ (WriteGranted acc 0x0800_0054 v s → exec (.wallTimeStageHi acc v) s = .next { u with time := { u.time with stageHi := v.setWidth 16 } })
    ∧ (WriteGranted acc 0x0800_0058 v s →
        (v.toNat ≤ 999_999_999 → Completes (.wallTimeSet acc v) s (fun t => t.time.wallValid = true ∧ t.now = u.now
          ∧ t.wall = (s.time.stageLo.toNat + 2 ^ 32 * s.time.stageHi.toNat) * 1_000_000_000 + v.toNat
          ∧ t = { u.noted t with keep := { u.keep with lastCode := t.keep.lastCode } }))
        ∧ (999_999_999 < v.toNat → exec (.wallTimeSet acc v) s = .next { u with time := { u.time with stageLo := 0, stageHi := 0 } }))

/-- R45 to R50: an edge on SNAP, when it is enabled, and the lock-keeper's command latch a snapshot while none is held, with the time, the MCC and the block words of that
instant; another source of the same instant is noted in it, a later trigger is counted; the snapshot's words are copied into the keeper log, before it is released at the latest; the
field-block words that are missing are given up after 10 ms. Where the spec leaves a point open, the model's choice is taken: log entries 16, 41, 88. -/
def Obligations.SnapshotsAct : Prop :=
  ∀ (acc : Access) (ns : Nat) (s : State),
    let only := fun (u t : State) => (∀ a, ctlGet a t = ctlGet a s)
      ∧ t = { u.noted t with ctl := t.ctl, snap := t.snap, tri := t.tri, keep := { u.keep with lastCode := t.keep.lastCode } }
    let asks := fun (t : State) => ∀ p < 2, (t.tp p).snapDue = ((s.tp p).snapDue || cbit 0x0900_0000 3 s)
    let noted := fun (src : Nat) (u : State) => s.snap.held = true ∧ s.snap.dtime = u.now ∧ s.snap.src &&& BitVec.ofNat 4 src = 0
    let triggers := fun (x : Instr) (src : Nat) (u : State) =>
      (s.snap.held = false → Completes x s (fun t => let v := reportMissing u
        t.snap.held = true ∧ t.snap.src.toNat = src ∧ t.snap.number = s.snap.number + 1 ∧ t.snap.dtime = u.now ∧ t.snap.mcc = s.seq.mcc
        ∧ t.snap.fbValid = 0 ∧ t.snap.copied = false ∧ t.snap.fieldWords = snapFieldWords v ∧ t.snap.words = snapWords { v with ctl := t.ctl }
        ∧ t.svc.toggles = s.svc.toggles ++ [(13, u.now)] ∧ asks t ∧ only u t))
      ∧ (noted src u → Completes x s (fun t => t.snap = { s.snap with src := s.snap.src ||| BitVec.ofNat 4 src } ∧ asks t ∧ t.jnl = s.jnl ∧ only u t))
      ∧ (s.snap.held = true → ¬ noted src u → Completes x s (fun t => t.snap = { s.snap with missed := t.snap.missed }
          ∧ t.snap.missed.toNat = min 255 (s.snap.missed.toNat + 1) ∧ t.tri = s.tri ∧ only u t))
    let copies := fun (u t : State) => ∃ chunks : List (List (Nat × Word)),
      chunks.flatten = [(0x4, w32 s.snap.src.toNat), (0x8, w32 s.snap.dtime), (0xC, w32 (s.snap.dtime / 2 ^ 32)), (0x10, w32 s.snap.mcc),
        (0x14, w32 (s.snap.mcc / 2 ^ 32))] ++ s.snap.words
      ∧ t.jnl = (chunks.foldl (fun w c => recordB 0x9120 (le 4 s.snap.number.toNat ++ c.flatMap (fun p => le 4 p.1 ++ le 4 p.2.toNat)) w) u).jnl
    let fresh := s.snap.copied = false ∧ s.snap.number ≠ 0
    (cbit 0x0900_0000 2 s = true → triggers (.snapBallEdge ns) 1 (advance ns s))
    ∧ (cbit 0x0900_0000 2 s = false → exec (.snapBallEdge ns) s = .next (advance ns s))
    ∧ (WriteGranted acc 0x0900_0000 ((ctlGet 0x0900_0000 s &&& 0xC) ||| 1) s → triggers (.snapshotTriggerCommand acc) 4 (advance acc.at_ s))
    ∧ (WriteGranted acc 0x0900_0000 ((ctlGet 0x0900_0000 s &&& 0xC) ||| 2) s → let u := advance acc.at_ s
        Completes (.snapshotRelease acc) s (fun t => t.snap.held = false ∧ t.snap = { s.snap with
            held := false, missed := 0, overwritten := false, copied := t.snap.copied } ∧ only u t
          ∧ (fresh → copies u t ∧ t.snap.copied = true) ∧ (¬ fresh → t.jnl = s.jnl ∧ t.snap.copied = s.snap.copied)))
    ∧ (fresh → Completes .snapshotCopied s (fun t => t.snap = { s.snap with copied := true } ∧ copies s t ∧ only s t))
    ∧ (¬ fresh → exec .snapshotCopied s = .next s)
    ∧ (let u := advance ns s;
      (u.now < s.snap.dtime + 10_000_000 → exec (.snapshotFbTimeout ns) s = .next u)
      ∧ (s.snap.dtime + 10_000_000 ≤ u.now → Completes (.snapshotFbTimeout ns) s (fun t => t.snap = { s.snap with fieldWords := [] } ∧ only u t
          ∧ t.jnl = ((missingBlocks s).foldl (fun w f => record 0x9122 [f] w) u).jnl)))

/-! ### Accesses to the control space -/

/-- R13 to R15, R142, R203, R205, R242, R287, R294, R320, R542: a granted write of a register that only holds a value takes the RW and RWC bits and keeps the
others; the two clear bits of LGC_SEQ_CTRL; a cluster request is held for the next CAPTURE or refused with 0x1321; NET_TRI_CTRL.leave departs;
BTH_NARROW removes roles; BTH_RESET resets the berths named; a change of the identity makes the policy table inactive. A refused write writes nothing:
a berth's is counted, and of a service core or the lock-keeper a misaligned one alone is recorded. Where the spec leaves a point open, the model's choice is taken: log entries 14, 17, 23, 91, 94. -/
def Obligations.RegisterWritesAct : Prop :=
  ∀ (acc : Access) (v a : Word) (s : State),
    let u := advance acc.at_ s
    (WriteGranted acc 0x00F0_000C 2 s → exec (.clrOvr acc) s = .next { u with seq := { s.seq with ovrtot := 0 } })
    ∧ (WriteGranted acc 0x00F0_000C 1 s → exec (.clrMax acc) s = .next { u with seq := { s.seq with tmax := 0 } })
    ∧ (∀ cl : BitVec 8,
        let req := fun (i : Instr) (m : Nat) =>
          let ok := fun (k : Nat) => (s.keep.mode = .run ∨ s.keep.mode = .degraded) ∧ s.img.modes.getD k 2 = 1
            ∧ look (clusterMode k s) k s.seq.clTarget ≠ m ∧ k < s.clustersFitted
          Completes i s (fun t => (∀ k < 8,
              (cl.getLsbD k = true → ok k → look 0 k t.seq.clReq = m)
              ∧ (¬ (cl.getLsbD k = true ∧ ok k) → look 0 k t.seq.clReq = look 0 k s.seq.clReq)
              ∧ (cl = 1#8 <<< k → ¬ ok k → t.seq.lastAccord = 0x1321 ∧ t.seq.lastCore = 8 * k ∧ t.seq.clReq = s.seq.clReq))
            ∧ (∀ k, clusterMode k t = clusterMode k s) ∧ t = { u.noted t with seq := t.seq })
        (WriteGranted acc 0x00F1_000C (cl.setWidth 32 <<< 8) s → req (.clusterSplitRequest acc cl) 1)
        ∧ (WriteGranted acc 0x00F1_000C (cl.setWidth 32) s → req (.clusterParkRequest acc cl) 2))
    ∧ (WriteGranted acc 0x0480_0014 v s →
        (v.getLsbD 0 = true → s.tri.state ≠ .off → Completes (.triadLeave acc v) s (fun t => t.tri.state = .out ∧ t.keep.mode = .hold
          ∧ (s.keep.mode ≠ .hold → t.keep.cause = 0x580B)))
        ∧ (v.getLsbD 0 = false ∨ s.tri.state = .off → exec (.triadLeave acc v) s = .next u))
    ∧ (∀ b : Fin 8, WriteGranted acc (0x0500_0004 + 0x20 * b.val) v s →
        (v.toNat % 64 ≠ 0 → Completes (.bthNarrowWrite acc b v) s (fun t =>
          (t.berth b).removed = (s.berth b).removed ||| v.setWidth 6 ∧ (t.berth b).granted = (s.berth b).granted
          ∧ (∀ o, o ≠ b.val → t.berth o = s.berth o) ∧ t = { u.noted t with bth := t.bth }))
        ∧ (v.toNat % 64 = 0 → exec (.bthNarrowWrite acc b v) s = .next u))
    ∧ (WriteGranted acc 0x0500_0100 v s → Completes (.bthResetWrite acc v) s (fun t => t = { u.noted t with bth := t.bth } ∧ ∀ b < 8,
        (v.getLsbD b = true → (t.berth b).state = .resetting ∧ (t.berth b).granted = 0 ∧ (t.berth b).nonce = none ∧ (t.berth b).waiting = []
          ∧ (225, u.now) ∈ t.svc.toggles)
        ∧ (v.getLsbD b = false → t.berth b = s.berth b)))
    ∧ (WriteGranted acc 0x0800_0028 v s → Completes (.lkpIdentWrite acc v) s (fun t =>
        let same := ctlGet 0x0800_0028 t = ctlGet 0x0800_0028 s
        ctlGet 0x0800_0028 t = (ctlGet 0x0800_0028 s &&& 0xFFFF_F000) ||| (v &&& 0xFFF) ∧ (∀ o, o ≠ 0x0800_0028 → ctlGet o t = ctlGet o s)
        ∧ (same ∨ s.bth.policy = none → t = { u with ctl := t.ctl })
        ∧ (¬ same → t.bth.policy = none ∧ t = { u.noted t with ctl := t.ctl, bth := t.bth })))
    ∧ (∀ (r : RegRow) (i j : Nat), findReg a.toNat = some (r, i, j) → WriteGranted acc a.toNat v s →
        (r.unit.fitted i s = true → r.reg = .stored → Completes (.controlRegisterWrite acc a v) s (fun t =>
            ctlGet a.toNat t = (ctlGet a.toNat s &&& ~~~ r.mask [.rw, .rwc]) ||| (v &&& r.mask [.rw, .rwc])
            ∧ (∀ o, o ≠ a.toNat → ctlGet o t = ctlGet o s) ∧ (a.toNat / 0x0100_0000 ≠ 2 → t = { u with ctl := t.ctl }))))
    ∧ (requesterActive acc.req u = false → exec (.controlRegisterWrite acc a v) s = .next u)
    ∧ (let code := checkWrite acc.req a.toNat v u;
      requesterActive acc.req u = true → code ≠ 0 →
        (∀ b : Fin 8, acc.req = .berth b → Completes (.controlRegisterWrite acc a v) s (fun t =>
          (t.berth b).refused = sat 0xFFFF ((s.berth b).refused + 1) ∧ (∀ o, o ≠ b.val → t.berth o = s.berth o) ∧ t = { u.noted t with bth := t.bth }))
        ∧ ((∀ b, acc.req ≠ .berth b) →
            (code ≠ 0x6001 → exec (.controlRegisterWrite acc a v) s = .next u)
            ∧ (code = 0x6001 → exec (.controlRegisterWrite acc a v) s = .next (record 0x6001 [Requester.code acc.req, a.toNat] u))))

/-- R44, R475: a granted read of the low word of a split value, or of word 32 of a metric, latches the other words, as they are then, for its requester; the read
of a word that is latched for its requester ends its latch; nothing else changes. Where the spec leaves a point open, the model's choice is taken: log entry 20. -/
def Obligations.ReadsLatchAndClear : Prop :=
  ∀ (acc : Access) (a : Word) (s : State),
    let q := Requester.code acc.req
    let u := advance acc.at_ s
    let only := fun (t : State) => t = { u with latches := t.latches } ∧ ∀ o, o ≠ q → ∀ x, latchOf o x t = latchOf o x s
    (∀ m : Fin 4096, ReadGranted acc (0x0610_0080 + 0xA0 * m.val) s → Completes (.metricLatchRead acc m) s (fun t =>
        (∀ w < 40, latchOf q (0x0610_0000 + 0xA0 * m.val + 4 * w) t = some (liveWord (0x0610_0000 + 0xA0 * m.val + 4 * w) u)) ∧ only t))
    ∧ (ReadGranted acc a.toNat s → upperWords a.toNat ≠ [] →
        (latchOf q a.toNat s = none → Completes (.latchingLowWordRead acc a) s (fun t =>
          (∀ x ∈ upperWords a.toNat, latchOf q x t = some (liveWord x u)) ∧ only t))
        ∧ (latchOf q a.toNat s ≠ none → Completes (.latchingLowWordRead acc a) s (fun t => latchOf q a.toNat t = none
            ∧ (∀ x, x ≠ a.toNat → latchOf q x t = latchOf q x s) ∧ only t)))
    ∧ (requesterActive acc.req u = false → exec (.latchingLowWordRead acc a) s = .next u)

/-- R16: an RC field is cleared by every read that is granted, whichever berth or core makes it; a read that the gate refuses leaves it unchanged. The refusal count of BTH_FAIL is
an RC field that counts refused accesses, that of its own register too: there a refused read clears nothing. -/
def Obligations.RcFieldsClear : Prop :=
  ∀ (acc : Access) (a : Word) (s : State) (r : RegRow) (i j : Nat), findReg a.toNat = some (r, i, j) → r.unit.fitted i s = true →
    let val := fun (f : Fld) (t : State) => bits f.hi f.lo (liveReg r i j a.toNat t).toNat
    Completes (.rcFieldRead acc a) s (fun t => t.ctl = s.ctl ∧ t.keep.mode = s.keep.mode ∧ ∀ f ∈ r.fields, f.acc = .rc →
      (ReadGranted acc a.toNat s → val f t = 0)
      ∧ (¬ ReadGranted acc a.toNat s → val f s ≤ val f t ∧ (r.reg ≠ .bthFail → val f t = val f s)))

/-- R8: a register of an unfitted block keeps its address, reads 0, and ignores a write. -/
def Obligations.UnfittedRegistersAreInert : Prop :=
  ∀ (acc : Access) (a v : Word) (s : State) (r : RegRow) (i j : Nat), findReg a.toNat = some (r, i, j) → r.unit.fitted i s = false →
    addrDefined a.toNat = true ∧ liveWord a.toNat s = 0 ∧ (∀ q, latchOf q a.toNat s = none → (readWord q a.toNat s).1 = 0)
      ∧ (WriteGranted acc a.toNat v s → exec (.controlRegisterWrite acc a v) s = .next (advance acc.at_ s))

/-- R174, R176, R307, R308, R543, R544: CWRITE writes the word and answers 0, or answers with the code of the first check that fails and writes nothing; LDC reads and STC writes
the control space for a service core at the privileged level, or raises 0x8105. A register that only holds a value takes the bits that may be written. Where the spec leaves a point open, the model's choice is taken: log entries 14, 18. -/
def Obligations.MessageAndCoreAccesses : Prop :=
  ∀ (s : State),
    (∀ (b : Fin 8) (h : MsgHead) (a v : Word), Admits b 0x11 h (be 4 a.toNat ++ be 4 v.toNat) s →
      let code := checkWrite (.berth b) a.toNat v s
      let refused := fun (code : Nat) (t : State) => Sends b { typ := 0x11, tag := h.tag, status := code, body := [] } s t
        ∧ (t.berth b).refused = sat 0xFFFF ((s.berth b).refused + 1) ∧ t = { s.noted t with bth := t.bth }
      ((s.berth b).state = .open_ → code = 0 → Completes (.cwrite b h a v) s (fun t => ∃ w, t = regWrite a.toNat v w
        ∧ Sends b { typ := 0x11, tag := h.tag, status := 0, body := [] } s w ∧ w = { s with bth := w.bth, free := w.free }))
      ∧ ((s.berth b).state = .open_ → code ≠ 0 → Completes (.cwrite b h a v) s (refused code))
      ∧ ((s.berth b).state ≠ .open_ → Completes (.cwrite b h a v) s (refused 0x6011)))
    ∧ (∀ (a : Nat) (v : Word) (r : RegRow) (k j : Nat), findReg a = some (r, k, j) → r.reg = .stored → r.unit.fitted k s = true →
        let m := r.mask [.rw, .rwc]
        ctlGet a (regWrite a v s) = (ctlGet a s &&& ~~~m) ||| (v &&& m) ∧ ∀ o, o ≠ a → ctlGet o (regWrite a v s) = ctlGet o s)
    ∧ ∀ (c : Fin 4) (rd ra : Reg) (imm : BitVec 16),
        let i : Issue := { ctx := .service c, fetchBad := false }
        let a := controlAddr i ra imm s
        let v := regOf i.ctx rd s
        let q : Requester := .service c
        (s.svcCore c).priv = true → CanIssue i 1 [] false s → ∃ u, Issued i s u
          ∧ exec (.ldc i rd ra imm) s = .next (if checkRead q a s = 0 then writeBack i.ctx rd (readWord (8 + c.val) a u).1 false (readWord (8 + c.val) a u).2
            else svcException c 0x8105 0 (s.svcCore c).pc (refusedAccess q (checkRead q a s) a u))
          ∧ exec (.stc i rd ra imm) s = .next (if checkWrite q a v s = 0 then regWrite a v (stepPc i.ctx u)
            else svcException c 0x8105 0 (s.svcCore c).pc (refusedAccess q (checkWrite q a v s) a u))

/-! ### The whole block -/

/-- A step takes the command at the front of the queue and runs it on the rest; on an empty queue one CCLK cycle passes (the model's choice, log entry 2). -/
def Obligations.StepRunsTheFrontCommand : Prop :=
  ∀ (c : Instr) (rest : List Instr) (s : State),
    step { s with pending := c :: rest } = exec c { s with pending := rest } ∧ step { s with pending := [] } = .next (idleCycle { s with pending := [] })

/-- Every command completes, whatever the state, and leaves the queue as it is: only `step` takes from it. No run ends: from every state, whatever commands wait, `n` steps answer a next state. Where the spec leaves a point open, the model's choice is taken: log entries 6, 25. -/
def Obligations.CommandsKeepTheQueue : Prop :=
  (
    ∀ (c : Instr) (s : State), ∃ t, exec c s = .next t ∧ t.pending = s.pending)
  ∧ (
    ∀ (n : Nat) (s : State), ∃ t, Sys2Proof.core.run n s = .next t)

/-- R1, R282, R338, R527 and the register index: what reset leaves, in the state and in registers that the index gives a reset value. Where the spec leaves a point open, the model's choice is taken: log entries 10, 13. -/
def Obligations.ResetIsRestrictive : Prop :=
  let s := State.reset
  s.pending = [] ∧ s.now = 0 ∧ s.keep.mode = .boot ∧ s.keep.bootStage = 1 ∧ s.keep.tripLow = true ∧ s.keep.liveLow = true ∧ s.seq.phase = .notRunning
    ∧ (∀ b < 8, (s.berth b).state = .closed ∧ (s.berth b).granted = 0)
    ∧ (∀ n < 32, (s.axis n).st = .disabled ∧ (s.axis n).homed = false ∧ (s.chan n).count = 0 ∧ speedValid n s = false)
    ∧ (∀ k < 16, (s.section_ k).state = .disturbed ∧ (s.head k).state = 0)
    ∧ (∀ f < 4, ∀ j < 4, ((s.block f).soOf j).st = .interlock)
    ∧ (∀ k < 255, (s.evSrc k).pending = false ∧ srcEnabled k s = false)
    ∧ s.wf
    ∧ ∀ p ∈ [(0x00F0_0000, 0x2710), (0x00F0_0004, 0x1388), (0x00F0_0008, 0x10), (0x00F0_0030, 0x00C8_0000), (0x00F1_0000, 0x03E8_0404), (0x0410_0000, 0xBC0C_0000),
        (0x0480_0000, 0x3000), (0x0600_0000, 1), (0x0700_0000, 0), (0x0800_0000, 1), (0x0800_0300, 0), (0x0800_0308, 0x7F7F_7F7F)],
      liveWord p.1 s = BitVec.ofNat 32 p.2

/-- Every step keeps the logic SRAM and the SRAM of the service region in canonical form. -/
def Obligations.StepKeepsMemories : Prop := ∀ s t : State, s.wf → step s = .next t → t.wf
end

