-- ==== Sys2Proof/Laws/State.lean ====
section
/-!
SUPPORT. What each update of the state leaves as it was, and what it makes of the entry it names: one lemma per field per update.
-/
namespace Sys2Proof.Machine

/-! ### ctlSet -/

@[simp] theorem ctlSet_pending (a : Nat) (v : Word) (s : State) : (ctlSet a v s).pending = s.pending := rfl
@[simp] theorem ctlSet_free (a : Nat) (v : Word) (s : State) : (ctlSet a v s).free = s.free := rfl
@[simp] theorem ctlSet_fused (a : Nat) (v : Word) (s : State) : (ctlSet a v s).fused = s.fused := rfl
@[simp] theorem ctlSet_time (a : Nat) (v : Word) (s : State) : (ctlSet a v s).time = s.time := rfl
@[simp] theorem ctlSet_latches (a : Nat) (v : Word) (s : State) : (ctlSet a v s).latches = s.latches := rfl
@[simp] theorem ctlSet_sram (a : Nat) (v : Word) (s : State) : (ctlSet a v s).sram = s.sram := rfl
@[simp] theorem ctlSet_seq (a : Nat) (v : Word) (s : State) : (ctlSet a v s).seq = s.seq := rfl
@[simp] theorem ctlSet_image (a : Nat) (v : Word) (s : State) : (ctlSet a v s).image = s.image := rfl
@[simp] theorem ctlSet_cores (a : Nat) (v : Word) (s : State) : (ctlSet a v s).cores = s.cores := rfl
@[simp] theorem ctlSet_splits (a : Nat) (v : Word) (s : State) : (ctlSet a v s).splits = s.splits := rfl
@[simp] theorem ctlSet_timers (a : Nat) (v : Word) (s : State) : (ctlSet a v s).timers = s.timers := rfl
@[simp] theorem ctlSet_scratchTags (a : Nat) (v : Word) (s : State) : (ctlSet a v s).scratchTags = s.scratchTags := rfl
@[simp] theorem ctlSet_snap (a : Nat) (v : Word) (s : State) : (ctlSet a v s).snap = s.snap := rfl
@[simp] theorem ctlSet_svc (a : Nat) (v : Word) (s : State) : (ctlSet a v s).svc = s.svc := rfl
@[simp] theorem ctlSet_jnl (a : Nat) (v : Word) (s : State) : (ctlSet a v s).jnl = s.jnl := rfl
@[simp] theorem ctlSet_keep (a : Nat) (v : Word) (s : State) : (ctlSet a v s).keep = s.keep := rfl
@[simp] theorem ctlSet_mot (a : Nat) (v : Word) (s : State) : (ctlSet a v s).mot = s.mot := rfl
@[simp] theorem ctlSet_fbk (a : Nat) (v : Word) (s : State) : (ctlSet a v s).fbk = s.fbk := rfl
@[simp] theorem ctlSet_fld (a : Nat) (v : Word) (s : State) : (ctlSet a v s).fld = s.fld := rfl
@[simp] theorem ctlSet_net (a : Nat) (v : Word) (s : State) : (ctlSet a v s).net = s.net := rfl
@[simp] theorem ctlSet_tri (a : Nat) (v : Word) (s : State) : (ctlSet a v s).tri = s.tri := rfl
@[simp] theorem ctlSet_bth (a : Nat) (v : Word) (s : State) : (ctlSet a v s).bth = s.bth := rfl
@[simp] theorem ctlSet_now (a : Nat) (v : Word) (s : State) : (ctlSet a v s).now = s.now := rfl

/-! ### sramSet -/

@[simp] theorem sramSet_pending (a : Nat) (v : Word) (s : State) : (sramSet a v s).pending = s.pending := rfl
@[simp] theorem sramSet_free (a : Nat) (v : Word) (s : State) : (sramSet a v s).free = s.free := rfl
@[simp] theorem sramSet_fused (a : Nat) (v : Word) (s : State) : (sramSet a v s).fused = s.fused := rfl
@[simp] theorem sramSet_time (a : Nat) (v : Word) (s : State) : (sramSet a v s).time = s.time := rfl
@[simp] theorem sramSet_ctl (a : Nat) (v : Word) (s : State) : (sramSet a v s).ctl = s.ctl := rfl
@[simp] theorem sramSet_latches (a : Nat) (v : Word) (s : State) : (sramSet a v s).latches = s.latches := rfl
@[simp] theorem sramSet_seq (a : Nat) (v : Word) (s : State) : (sramSet a v s).seq = s.seq := rfl
@[simp] theorem sramSet_image (a : Nat) (v : Word) (s : State) : (sramSet a v s).image = s.image := rfl
@[simp] theorem sramSet_cores (a : Nat) (v : Word) (s : State) : (sramSet a v s).cores = s.cores := rfl
@[simp] theorem sramSet_splits (a : Nat) (v : Word) (s : State) : (sramSet a v s).splits = s.splits := rfl
@[simp] theorem sramSet_timers (a : Nat) (v : Word) (s : State) : (sramSet a v s).timers = s.timers := rfl
@[simp] theorem sramSet_scratchTags (a : Nat) (v : Word) (s : State) : (sramSet a v s).scratchTags = s.scratchTags := rfl
@[simp] theorem sramSet_snap (a : Nat) (v : Word) (s : State) : (sramSet a v s).snap = s.snap := rfl
@[simp] theorem sramSet_svc (a : Nat) (v : Word) (s : State) : (sramSet a v s).svc = s.svc := rfl
@[simp] theorem sramSet_jnl (a : Nat) (v : Word) (s : State) : (sramSet a v s).jnl = s.jnl := rfl
@[simp] theorem sramSet_keep (a : Nat) (v : Word) (s : State) : (sramSet a v s).keep = s.keep := rfl
@[simp] theorem sramSet_mot (a : Nat) (v : Word) (s : State) : (sramSet a v s).mot = s.mot := rfl
@[simp] theorem sramSet_fbk (a : Nat) (v : Word) (s : State) : (sramSet a v s).fbk = s.fbk := rfl
@[simp] theorem sramSet_fld (a : Nat) (v : Word) (s : State) : (sramSet a v s).fld = s.fld := rfl
@[simp] theorem sramSet_net (a : Nat) (v : Word) (s : State) : (sramSet a v s).net = s.net := rfl
@[simp] theorem sramSet_tri (a : Nat) (v : Word) (s : State) : (sramSet a v s).tri = s.tri := rfl
@[simp] theorem sramSet_bth (a : Nat) (v : Word) (s : State) : (sramSet a v s).bth = s.bth := rfl
@[simp] theorem sramSet_now (a : Nat) (v : Word) (s : State) : (sramSet a v s).now = s.now := rfl
@[simp] theorem sramSet_ctlGet (a : Nat) (v : Word) (r : Nat) (s : State) : ctlGet r (sramSet a v s) = ctlGet r s := rfl

/-! ### sramArea -/

@[simp] theorem sramArea_pending (a : Nat) (ws : List Word) (s : State) : (sramArea a ws s).pending = s.pending := rfl
@[simp] theorem sramArea_free (a : Nat) (ws : List Word) (s : State) : (sramArea a ws s).free = s.free := rfl
@[simp] theorem sramArea_fused (a : Nat) (ws : List Word) (s : State) : (sramArea a ws s).fused = s.fused := rfl
@[simp] theorem sramArea_time (a : Nat) (ws : List Word) (s : State) : (sramArea a ws s).time = s.time := rfl
@[simp] theorem sramArea_ctl (a : Nat) (ws : List Word) (s : State) : (sramArea a ws s).ctl = s.ctl := rfl
@[simp] theorem sramArea_latches (a : Nat) (ws : List Word) (s : State) : (sramArea a ws s).latches = s.latches := rfl
@[simp] theorem sramArea_seq (a : Nat) (ws : List Word) (s : State) : (sramArea a ws s).seq = s.seq := rfl
@[simp] theorem sramArea_image (a : Nat) (ws : List Word) (s : State) : (sramArea a ws s).image = s.image := rfl
@[simp] theorem sramArea_cores (a : Nat) (ws : List Word) (s : State) : (sramArea a ws s).cores = s.cores := rfl
@[simp] theorem sramArea_splits (a : Nat) (ws : List Word) (s : State) : (sramArea a ws s).splits = s.splits := rfl
@[simp] theorem sramArea_timers (a : Nat) (ws : List Word) (s : State) : (sramArea a ws s).timers = s.timers := rfl
@[simp] theorem sramArea_scratchTags (a : Nat) (ws : List Word) (s : State) : (sramArea a ws s).scratchTags = s.scratchTags := rfl
@[simp] theorem sramArea_snap (a : Nat) (ws : List Word) (s : State) : (sramArea a ws s).snap = s.snap := rfl
@[simp] theorem sramArea_svc (a : Nat) (ws : List Word) (s : State) : (sramArea a ws s).svc = s.svc := rfl
@[simp] theorem sramArea_jnl (a : Nat) (ws : List Word) (s : State) : (sramArea a ws s).jnl = s.jnl := rfl
@[simp] theorem sramArea_keep (a : Nat) (ws : List Word) (s : State) : (sramArea a ws s).keep = s.keep := rfl
@[simp] theorem sramArea_mot (a : Nat) (ws : List Word) (s : State) : (sramArea a ws s).mot = s.mot := rfl
@[simp] theorem sramArea_fbk (a : Nat) (ws : List Word) (s : State) : (sramArea a ws s).fbk = s.fbk := rfl
@[simp] theorem sramArea_fld (a : Nat) (ws : List Word) (s : State) : (sramArea a ws s).fld = s.fld := rfl
@[simp] theorem sramArea_net (a : Nat) (ws : List Word) (s : State) : (sramArea a ws s).net = s.net := rfl
@[simp] theorem sramArea_tri (a : Nat) (ws : List Word) (s : State) : (sramArea a ws s).tri = s.tri := rfl
@[simp] theorem sramArea_bth (a : Nat) (ws : List Word) (s : State) : (sramArea a ws s).bth = s.bth := rfl
@[simp] theorem sramArea_now (a : Nat) (ws : List Word) (s : State) : (sramArea a ws s).now = s.now := rfl
@[simp] theorem sramArea_ctlGet (a : Nat) (ws : List Word) (r : Nat) (s : State) : ctlGet r (sramArea a ws s) = ctlGet r s := rfl

/-! ### sramClear -/

@[simp] theorem sramClear_pending (lo hi : Nat) (s : State) : (sramClear lo hi s).pending = s.pending := rfl
@[simp] theorem sramClear_free (lo hi : Nat) (s : State) : (sramClear lo hi s).free = s.free := rfl
@[simp] theorem sramClear_fused (lo hi : Nat) (s : State) : (sramClear lo hi s).fused = s.fused := rfl
@[simp] theorem sramClear_time (lo hi : Nat) (s : State) : (sramClear lo hi s).time = s.time := rfl
@[simp] theorem sramClear_ctl (lo hi : Nat) (s : State) : (sramClear lo hi s).ctl = s.ctl := rfl
@[simp] theorem sramClear_latches (lo hi : Nat) (s : State) : (sramClear lo hi s).latches = s.latches := rfl
@[simp] theorem sramClear_seq (lo hi : Nat) (s : State) : (sramClear lo hi s).seq = s.seq := rfl
@[simp] theorem sramClear_image (lo hi : Nat) (s : State) : (sramClear lo hi s).image = s.image := rfl
@[simp] theorem sramClear_cores (lo hi : Nat) (s : State) : (sramClear lo hi s).cores = s.cores := rfl
@[simp] theorem sramClear_splits (lo hi : Nat) (s : State) : (sramClear lo hi s).splits = s.splits := rfl
@[simp] theorem sramClear_timers (lo hi : Nat) (s : State) : (sramClear lo hi s).timers = s.timers := rfl
@[simp] theorem sramClear_scratchTags (lo hi : Nat) (s : State) : (sramClear lo hi s).scratchTags = s.scratchTags := rfl
@[simp] theorem sramClear_snap (lo hi : Nat) (s : State) : (sramClear lo hi s).snap = s.snap := rfl
@[simp] theorem sramClear_svc (lo hi : Nat) (s : State) : (sramClear lo hi s).svc = s.svc := rfl
@[simp] theorem sramClear_jnl (lo hi : Nat) (s : State) : (sramClear lo hi s).jnl = s.jnl := rfl
@[simp] theorem sramClear_keep (lo hi : Nat) (s : State) : (sramClear lo hi s).keep = s.keep := rfl
@[simp] theorem sramClear_mot (lo hi : Nat) (s : State) : (sramClear lo hi s).mot = s.mot := rfl
@[simp] theorem sramClear_fbk (lo hi : Nat) (s : State) : (sramClear lo hi s).fbk = s.fbk := rfl
@[simp] theorem sramClear_fld (lo hi : Nat) (s : State) : (sramClear lo hi s).fld = s.fld := rfl
@[simp] theorem sramClear_net (lo hi : Nat) (s : State) : (sramClear lo hi s).net = s.net := rfl
@[simp] theorem sramClear_tri (lo hi : Nat) (s : State) : (sramClear lo hi s).tri = s.tri := rfl
@[simp] theorem sramClear_bth (lo hi : Nat) (s : State) : (sramClear lo hi s).bth = s.bth := rfl
@[simp] theorem sramClear_now (lo hi : Nat) (s : State) : (sramClear lo hi s).now = s.now := rfl
@[simp] theorem sramClear_ctlGet (lo hi : Nat) (r : Nat) (s : State) : ctlGet r (sramClear lo hi s) = ctlGet r s := rfl

/-! ### raise -/

@[simp] theorem raise_pending (src : Nat) (s : State) : (raise src s).pending = s.pending := rfl
@[simp] theorem raise_free (src : Nat) (s : State) : (raise src s).free = s.free := rfl
@[simp] theorem raise_fused (src : Nat) (s : State) : (raise src s).fused = s.fused := rfl
@[simp] theorem raise_time (src : Nat) (s : State) : (raise src s).time = s.time := rfl
@[simp] theorem raise_ctl (src : Nat) (s : State) : (raise src s).ctl = s.ctl := rfl
@[simp] theorem raise_latches (src : Nat) (s : State) : (raise src s).latches = s.latches := rfl
@[simp] theorem raise_sram (src : Nat) (s : State) : (raise src s).sram = s.sram := rfl
@[simp] theorem raise_seq (src : Nat) (s : State) : (raise src s).seq = s.seq := rfl
@[simp] theorem raise_image (src : Nat) (s : State) : (raise src s).image = s.image := rfl
@[simp] theorem raise_cores (src : Nat) (s : State) : (raise src s).cores = s.cores := rfl
@[simp] theorem raise_splits (src : Nat) (s : State) : (raise src s).splits = s.splits := rfl
@[simp] theorem raise_timers (src : Nat) (s : State) : (raise src s).timers = s.timers := rfl
@[simp] theorem raise_scratchTags (src : Nat) (s : State) : (raise src s).scratchTags = s.scratchTags := rfl
@[simp] theorem raise_snap (src : Nat) (s : State) : (raise src s).snap = s.snap := rfl
@[simp] theorem raise_jnl (src : Nat) (s : State) : (raise src s).jnl = s.jnl := rfl
@[simp] theorem raise_keep (src : Nat) (s : State) : (raise src s).keep = s.keep := rfl
@[simp] theorem raise_mot (src : Nat) (s : State) : (raise src s).mot = s.mot := rfl
@[simp] theorem raise_fbk (src : Nat) (s : State) : (raise src s).fbk = s.fbk := rfl
@[simp] theorem raise_fld (src : Nat) (s : State) : (raise src s).fld = s.fld := rfl
@[simp] theorem raise_net (src : Nat) (s : State) : (raise src s).net = s.net := rfl
@[simp] theorem raise_tri (src : Nat) (s : State) : (raise src s).tri = s.tri := rfl
@[simp] theorem raise_bth (src : Nat) (s : State) : (raise src s).bth = s.bth := rfl
@[simp] theorem raise_now (src : Nat) (s : State) : (raise src s).now = s.now := rfl
@[simp] theorem raise_ctlGet (src : Nat) (r : Nat) (s : State) : ctlGet r (raise src s) = ctlGet r s := rfl

/-! ### setCore -/

@[simp] theorem setCore_pending (c : Nat) (f : Core → Core) (s : State) : (setCore c f s).pending = s.pending := rfl
@[simp] theorem setCore_free (c : Nat) (f : Core → Core) (s : State) : (setCore c f s).free = s.free := rfl
@[simp] theorem setCore_fused (c : Nat) (f : Core → Core) (s : State) : (setCore c f s).fused = s.fused := rfl
@[simp] theorem setCore_time (c : Nat) (f : Core → Core) (s : State) : (setCore c f s).time = s.time := rfl
@[simp] theorem setCore_ctl (c : Nat) (f : Core → Core) (s : State) : (setCore c f s).ctl = s.ctl := rfl
@[simp] theorem setCore_latches (c : Nat) (f : Core → Core) (s : State) : (setCore c f s).latches = s.latches := rfl
@[simp] theorem setCore_sram (c : Nat) (f : Core → Core) (s : State) : (setCore c f s).sram = s.sram := rfl
@[simp] theorem setCore_seq (c : Nat) (f : Core → Core) (s : State) : (setCore c f s).seq = s.seq := rfl
@[simp] theorem setCore_image (c : Nat) (f : Core → Core) (s : State) : (setCore c f s).image = s.image := rfl
@[simp] theorem setCore_splits (c : Nat) (f : Core → Core) (s : State) : (setCore c f s).splits = s.splits := rfl
@[simp] theorem setCore_timers (c : Nat) (f : Core → Core) (s : State) : (setCore c f s).timers = s.timers := rfl
@[simp] theorem setCore_scratchTags (c : Nat) (f : Core → Core) (s : State) : (setCore c f s).scratchTags = s.scratchTags := rfl
@[simp] theorem setCore_snap (c : Nat) (f : Core → Core) (s : State) : (setCore c f s).snap = s.snap := rfl
@[simp] theorem setCore_svc (c : Nat) (f : Core → Core) (s : State) : (setCore c f s).svc = s.svc := rfl
@[simp] theorem setCore_jnl (c : Nat) (f : Core → Core) (s : State) : (setCore c f s).jnl = s.jnl := rfl
@[simp] theorem setCore_keep (c : Nat) (f : Core → Core) (s : State) : (setCore c f s).keep = s.keep := rfl
@[simp] theorem setCore_mot (c : Nat) (f : Core → Core) (s : State) : (setCore c f s).mot = s.mot := rfl
@[simp] theorem setCore_fbk (c : Nat) (f : Core → Core) (s : State) : (setCore c f s).fbk = s.fbk := rfl
@[simp] theorem setCore_fld (c : Nat) (f : Core → Core) (s : State) : (setCore c f s).fld = s.fld := rfl
@[simp] theorem setCore_net (c : Nat) (f : Core → Core) (s : State) : (setCore c f s).net = s.net := rfl
@[simp] theorem setCore_tri (c : Nat) (f : Core → Core) (s : State) : (setCore c f s).tri = s.tri := rfl
@[simp] theorem setCore_bth (c : Nat) (f : Core → Core) (s : State) : (setCore c f s).bth = s.bth := rfl
@[simp] theorem setCore_now (c : Nat) (f : Core → Core) (s : State) : (setCore c f s).now = s.now := rfl
@[simp] theorem setCore_ctlGet (c : Nat) (f : Core → Core) (r : Nat) (s : State) : ctlGet r (setCore c f s) = ctlGet r s := rfl

/-! ### setSplit -/

@[simp] theorem setSplit_pending (c k : Nat) (f : SplitCtx → SplitCtx) (s : State) : (setSplit c k f s).pending = s.pending := rfl
@[simp] theorem setSplit_free (c k : Nat) (f : SplitCtx → SplitCtx) (s : State) : (setSplit c k f s).free = s.free := rfl
@[simp] theorem setSplit_fused (c k : Nat) (f : SplitCtx → SplitCtx) (s : State) : (setSplit c k f s).fused = s.fused := rfl
@[simp] theorem setSplit_time (c k : Nat) (f : SplitCtx → SplitCtx) (s : State) : (setSplit c k f s).time = s.time := rfl
@[simp] theorem setSplit_ctl (c k : Nat) (f : SplitCtx → SplitCtx) (s : State) : (setSplit c k f s).ctl = s.ctl := rfl
@[simp] theorem setSplit_latches (c k : Nat) (f : SplitCtx → SplitCtx) (s : State) : (setSplit c k f s).latches = s.latches := rfl
@[simp] theorem setSplit_sram (c k : Nat) (f : SplitCtx → SplitCtx) (s : State) : (setSplit c k f s).sram = s.sram := rfl
@[simp] theorem setSplit_seq (c k : Nat) (f : SplitCtx → SplitCtx) (s : State) : (setSplit c k f s).seq = s.seq := rfl
@[simp] theorem setSplit_image (c k : Nat) (f : SplitCtx → SplitCtx) (s : State) : (setSplit c k f s).image = s.image := rfl
@[simp] theorem setSplit_cores (c k : Nat) (f : SplitCtx → SplitCtx) (s : State) : (setSplit c k f s).cores = s.cores := rfl
@[simp] theorem setSplit_timers (c k : Nat) (f : SplitCtx → SplitCtx) (s : State) : (setSplit c k f s).timers = s.timers := rfl
@[simp] theorem setSplit_scratchTags (c k : Nat) (f : SplitCtx → SplitCtx) (s : State) : (setSplit c k f s).scratchTags = s.scratchTags := rfl
@[simp] theorem setSplit_snap (c k : Nat) (f : SplitCtx → SplitCtx) (s : State) : (setSplit c k f s).snap = s.snap := rfl
@[simp] theorem setSplit_svc (c k : Nat) (f : SplitCtx → SplitCtx) (s : State) : (setSplit c k f s).svc = s.svc := rfl
@[simp] theorem setSplit_jnl (c k : Nat) (f : SplitCtx → SplitCtx) (s : State) : (setSplit c k f s).jnl = s.jnl := rfl
@[simp] theorem setSplit_keep (c k : Nat) (f : SplitCtx → SplitCtx) (s : State) : (setSplit c k f s).keep = s.keep := rfl
@[simp] theorem setSplit_mot (c k : Nat) (f : SplitCtx → SplitCtx) (s : State) : (setSplit c k f s).mot = s.mot := rfl
@[simp] theorem setSplit_fbk (c k : Nat) (f : SplitCtx → SplitCtx) (s : State) : (setSplit c k f s).fbk = s.fbk := rfl
@[simp] theorem setSplit_fld (c k : Nat) (f : SplitCtx → SplitCtx) (s : State) : (setSplit c k f s).fld = s.fld := rfl
@[simp] theorem setSplit_net (c k : Nat) (f : SplitCtx → SplitCtx) (s : State) : (setSplit c k f s).net = s.net := rfl
@[simp] theorem setSplit_tri (c k : Nat) (f : SplitCtx → SplitCtx) (s : State) : (setSplit c k f s).tri = s.tri := rfl
@[simp] theorem setSplit_bth (c k : Nat) (f : SplitCtx → SplitCtx) (s : State) : (setSplit c k f s).bth = s.bth := rfl
@[simp] theorem setSplit_now (c k : Nat) (f : SplitCtx → SplitCtx) (s : State) : (setSplit c k f s).now = s.now := rfl
@[simp] theorem setSplit_ctlGet (c k : Nat) (f : SplitCtx → SplitCtx) (r : Nat) (s : State) : ctlGet r (setSplit c k f s) = ctlGet r s := rfl

/-! ### setPass -/

@[simp] theorem setPass_pending (c : Nat) (p : Pass) (f : PassCtx → PassCtx) (s : State) : (setPass c p f s).pending = s.pending := rfl
@[simp] theorem setPass_free (c : Nat) (p : Pass) (f : PassCtx → PassCtx) (s : State) : (setPass c p f s).free = s.free := rfl
@[simp] theorem setPass_fused (c : Nat) (p : Pass) (f : PassCtx → PassCtx) (s : State) : (setPass c p f s).fused = s.fused := rfl
@[simp] theorem setPass_time (c : Nat) (p : Pass) (f : PassCtx → PassCtx) (s : State) : (setPass c p f s).time = s.time := rfl
@[simp] theorem setPass_ctl (c : Nat) (p : Pass) (f : PassCtx → PassCtx) (s : State) : (setPass c p f s).ctl = s.ctl := rfl
@[simp] theorem setPass_latches (c : Nat) (p : Pass) (f : PassCtx → PassCtx) (s : State) : (setPass c p f s).latches = s.latches := rfl
@[simp] theorem setPass_sram (c : Nat) (p : Pass) (f : PassCtx → PassCtx) (s : State) : (setPass c p f s).sram = s.sram := rfl
@[simp] theorem setPass_seq (c : Nat) (p : Pass) (f : PassCtx → PassCtx) (s : State) : (setPass c p f s).seq = s.seq := rfl
@[simp] theorem setPass_image (c : Nat) (p : Pass) (f : PassCtx → PassCtx) (s : State) : (setPass c p f s).image = s.image := rfl
@[simp] theorem setPass_splits (c : Nat) (p : Pass) (f : PassCtx → PassCtx) (s : State) : (setPass c p f s).splits = s.splits := rfl
@[simp] theorem setPass_timers (c : Nat) (p : Pass) (f : PassCtx → PassCtx) (s : State) : (setPass c p f s).timers = s.timers := rfl
@[simp] theorem setPass_scratchTags (c : Nat) (p : Pass) (f : PassCtx → PassCtx) (s : State) : (setPass c p f s).scratchTags = s.scratchTags := rfl
@[simp] theorem setPass_snap (c : Nat) (p : Pass) (f : PassCtx → PassCtx) (s : State) : (setPass c p f s).snap = s.snap := rfl
@[simp] theorem setPass_svc (c : Nat) (p : Pass) (f : PassCtx → PassCtx) (s : State) : (setPass c p f s).svc = s.svc := rfl
@[simp] theorem setPass_jnl (c : Nat) (p : Pass) (f : PassCtx → PassCtx) (s : State) : (setPass c p f s).jnl = s.jnl := rfl
@[simp] theorem setPass_keep (c : Nat) (p : Pass) (f : PassCtx → PassCtx) (s : State) : (setPass c p f s).keep = s.keep := rfl
@[simp] theorem setPass_mot (c : Nat) (p : Pass) (f : PassCtx → PassCtx) (s : State) : (setPass c p f s).mot = s.mot := rfl
@[simp] theorem setPass_fbk (c : Nat) (p : Pass) (f : PassCtx → PassCtx) (s : State) : (setPass c p f s).fbk = s.fbk := rfl
@[simp] theorem setPass_fld (c : Nat) (p : Pass) (f : PassCtx → PassCtx) (s : State) : (setPass c p f s).fld = s.fld := rfl
@[simp] theorem setPass_net (c : Nat) (p : Pass) (f : PassCtx → PassCtx) (s : State) : (setPass c p f s).net = s.net := rfl
@[simp] theorem setPass_tri (c : Nat) (p : Pass) (f : PassCtx → PassCtx) (s : State) : (setPass c p f s).tri = s.tri := rfl
@[simp] theorem setPass_bth (c : Nat) (p : Pass) (f : PassCtx → PassCtx) (s : State) : (setPass c p f s).bth = s.bth := rfl
@[simp] theorem setPass_now (c : Nat) (p : Pass) (f : PassCtx → PassCtx) (s : State) : (setPass c p f s).now = s.now := rfl
@[simp] theorem setPass_ctlGet (c : Nat) (p : Pass) (f : PassCtx → PassCtx) (r : Nat) (s : State) : ctlGet r (setPass c p f s) = ctlGet r s := rfl

/-! ### setSvc -/

@[simp] theorem setSvc_pending (c : Nat) (f : SvcCore → SvcCore) (s : State) : (setSvc c f s).pending = s.pending := rfl
@[simp] theorem setSvc_free (c : Nat) (f : SvcCore → SvcCore) (s : State) : (setSvc c f s).free = s.free := rfl
@[simp] theorem setSvc_fused (c : Nat) (f : SvcCore → SvcCore) (s : State) : (setSvc c f s).fused = s.fused := rfl
@[simp] theorem setSvc_time (c : Nat) (f : SvcCore → SvcCore) (s : State) : (setSvc c f s).time = s.time := rfl
@[simp] theorem setSvc_ctl (c : Nat) (f : SvcCore → SvcCore) (s : State) : (setSvc c f s).ctl = s.ctl := rfl
@[simp] theorem setSvc_latches (c : Nat) (f : SvcCore → SvcCore) (s : State) : (setSvc c f s).latches = s.latches := rfl
@[simp] theorem setSvc_sram (c : Nat) (f : SvcCore → SvcCore) (s : State) : (setSvc c f s).sram = s.sram := rfl
@[simp] theorem setSvc_seq (c : Nat) (f : SvcCore → SvcCore) (s : State) : (setSvc c f s).seq = s.seq := rfl
@[simp] theorem setSvc_image (c : Nat) (f : SvcCore → SvcCore) (s : State) : (setSvc c f s).image = s.image := rfl
@[simp] theorem setSvc_cores (c : Nat) (f : SvcCore → SvcCore) (s : State) : (setSvc c f s).cores = s.cores := rfl
@[simp] theorem setSvc_splits (c : Nat) (f : SvcCore → SvcCore) (s : State) : (setSvc c f s).splits = s.splits := rfl
@[simp] theorem setSvc_timers (c : Nat) (f : SvcCore → SvcCore) (s : State) : (setSvc c f s).timers = s.timers := rfl
@[simp] theorem setSvc_scratchTags (c : Nat) (f : SvcCore → SvcCore) (s : State) : (setSvc c f s).scratchTags = s.scratchTags := rfl
@[simp] theorem setSvc_snap (c : Nat) (f : SvcCore → SvcCore) (s : State) : (setSvc c f s).snap = s.snap := rfl
@[simp] theorem setSvc_jnl (c : Nat) (f : SvcCore → SvcCore) (s : State) : (setSvc c f s).jnl = s.jnl := rfl
@[simp] theorem setSvc_keep (c : Nat) (f : SvcCore → SvcCore) (s : State) : (setSvc c f s).keep = s.keep := rfl
@[simp] theorem setSvc_mot (c : Nat) (f : SvcCore → SvcCore) (s : State) : (setSvc c f s).mot = s.mot := rfl
@[simp] theorem setSvc_fbk (c : Nat) (f : SvcCore → SvcCore) (s : State) : (setSvc c f s).fbk = s.fbk := rfl
@[simp] theorem setSvc_fld (c : Nat) (f : SvcCore → SvcCore) (s : State) : (setSvc c f s).fld = s.fld := rfl
@[simp] theorem setSvc_net (c : Nat) (f : SvcCore → SvcCore) (s : State) : (setSvc c f s).net = s.net := rfl
@[simp] theorem setSvc_tri (c : Nat) (f : SvcCore → SvcCore) (s : State) : (setSvc c f s).tri = s.tri := rfl
@[simp] theorem setSvc_bth (c : Nat) (f : SvcCore → SvcCore) (s : State) : (setSvc c f s).bth = s.bth := rfl
@[simp] theorem setSvc_now (c : Nat) (f : SvcCore → SvcCore) (s : State) : (setSvc c f s).now = s.now := rfl
@[simp] theorem setSvc_ctlGet (c : Nat) (f : SvcCore → SvcCore) (r : Nat) (s : State) : ctlGet r (setSvc c f s) = ctlGet r s := rfl

/-! ### setSrc -/

@[simp] theorem setSrc_pending (k : Nat) (f : EvSource → EvSource) (s : State) : (setSrc k f s).pending = s.pending := rfl
@[simp] theorem setSrc_free (k : Nat) (f : EvSource → EvSource) (s : State) : (setSrc k f s).free = s.free := rfl
@[simp] theorem setSrc_fused (k : Nat) (f : EvSource → EvSource) (s : State) : (setSrc k f s).fused = s.fused := rfl
@[simp] theorem setSrc_time (k : Nat) (f : EvSource → EvSource) (s : State) : (setSrc k f s).time = s.time := rfl
@[simp] theorem setSrc_ctl (k : Nat) (f : EvSource → EvSource) (s : State) : (setSrc k f s).ctl = s.ctl := rfl
@[simp] theorem setSrc_latches (k : Nat) (f : EvSource → EvSource) (s : State) : (setSrc k f s).latches = s.latches := rfl
@[simp] theorem setSrc_sram (k : Nat) (f : EvSource → EvSource) (s : State) : (setSrc k f s).sram = s.sram := rfl
@[simp] theorem setSrc_seq (k : Nat) (f : EvSource → EvSource) (s : State) : (setSrc k f s).seq = s.seq := rfl
@[simp] theorem setSrc_image (k : Nat) (f : EvSource → EvSource) (s : State) : (setSrc k f s).image = s.image := rfl
@[simp] theorem setSrc_cores (k : Nat) (f : EvSource → EvSource) (s : State) : (setSrc k f s).cores = s.cores := rfl
@[simp] theorem setSrc_splits (k : Nat) (f : EvSource → EvSource) (s : State) : (setSrc k f s).splits = s.splits := rfl
@[simp] theorem setSrc_timers (k : Nat) (f : EvSource → EvSource) (s : State) : (setSrc k f s).timers = s.timers := rfl
@[simp] theorem setSrc_scratchTags (k : Nat) (f : EvSource → EvSource) (s : State) : (setSrc k f s).scratchTags = s.scratchTags := rfl
@[simp] theorem setSrc_snap (k : Nat) (f : EvSource → EvSource) (s : State) : (setSrc k f s).snap = s.snap := rfl
@[simp] theorem setSrc_jnl (k : Nat) (f : EvSource → EvSource) (s : State) : (setSrc k f s).jnl = s.jnl := rfl
@[simp] theorem setSrc_keep (k : Nat) (f : EvSource → EvSource) (s : State) : (setSrc k f s).keep = s.keep := rfl
@[simp] theorem setSrc_mot (k : Nat) (f : EvSource → EvSource) (s : State) : (setSrc k f s).mot = s.mot := rfl
@[simp] theorem setSrc_fbk (k : Nat) (f : EvSource → EvSource) (s : State) : (setSrc k f s).fbk = s.fbk := rfl
@[simp] theorem setSrc_fld (k : Nat) (f : EvSource → EvSource) (s : State) : (setSrc k f s).fld = s.fld := rfl
@[simp] theorem setSrc_net (k : Nat) (f : EvSource → EvSource) (s : State) : (setSrc k f s).net = s.net := rfl
@[simp] theorem setSrc_tri (k : Nat) (f : EvSource → EvSource) (s : State) : (setSrc k f s).tri = s.tri := rfl
@[simp] theorem setSrc_bth (k : Nat) (f : EvSource → EvSource) (s : State) : (setSrc k f s).bth = s.bth := rfl
@[simp] theorem setSrc_now (k : Nat) (f : EvSource → EvSource) (s : State) : (setSrc k f s).now = s.now := rfl
@[simp] theorem setSrc_ctlGet (k : Nat) (f : EvSource → EvSource) (r : Nat) (s : State) : ctlGet r (setSrc k f s) = ctlGet r s := rfl

/-! ### setAxis -/

@[simp] theorem setAxis_pending (n : Nat) (f : Axis → Axis) (s : State) : (setAxis n f s).pending = s.pending := rfl
@[simp] theorem setAxis_free (n : Nat) (f : Axis → Axis) (s : State) : (setAxis n f s).free = s.free := rfl
@[simp] theorem setAxis_fused (n : Nat) (f : Axis → Axis) (s : State) : (setAxis n f s).fused = s.fused := rfl
@[simp] theorem setAxis_time (n : Nat) (f : Axis → Axis) (s : State) : (setAxis n f s).time = s.time := rfl
@[simp] theorem setAxis_ctl (n : Nat) (f : Axis → Axis) (s : State) : (setAxis n f s).ctl = s.ctl := rfl
@[simp] theorem setAxis_latches (n : Nat) (f : Axis → Axis) (s : State) : (setAxis n f s).latches = s.latches := rfl
@[simp] theorem setAxis_sram (n : Nat) (f : Axis → Axis) (s : State) : (setAxis n f s).sram = s.sram := rfl
@[simp] theorem setAxis_seq (n : Nat) (f : Axis → Axis) (s : State) : (setAxis n f s).seq = s.seq := rfl
@[simp] theorem setAxis_image (n : Nat) (f : Axis → Axis) (s : State) : (setAxis n f s).image = s.image := rfl
@[simp] theorem setAxis_cores (n : Nat) (f : Axis → Axis) (s : State) : (setAxis n f s).cores = s.cores := rfl
@[simp] theorem setAxis_splits (n : Nat) (f : Axis → Axis) (s : State) : (setAxis n f s).splits = s.splits := rfl
@[simp] theorem setAxis_timers (n : Nat) (f : Axis → Axis) (s : State) : (setAxis n f s).timers = s.timers := rfl
@[simp] theorem setAxis_scratchTags (n : Nat) (f : Axis → Axis) (s : State) : (setAxis n f s).scratchTags = s.scratchTags := rfl
@[simp] theorem setAxis_snap (n : Nat) (f : Axis → Axis) (s : State) : (setAxis n f s).snap = s.snap := rfl
@[simp] theorem setAxis_svc (n : Nat) (f : Axis → Axis) (s : State) : (setAxis n f s).svc = s.svc := rfl
@[simp] theorem setAxis_jnl (n : Nat) (f : Axis → Axis) (s : State) : (setAxis n f s).jnl = s.jnl := rfl
@[simp] theorem setAxis_keep (n : Nat) (f : Axis → Axis) (s : State) : (setAxis n f s).keep = s.keep := rfl
@[simp] theorem setAxis_fbk (n : Nat) (f : Axis → Axis) (s : State) : (setAxis n f s).fbk = s.fbk := rfl
@[simp] theorem setAxis_fld (n : Nat) (f : Axis → Axis) (s : State) : (setAxis n f s).fld = s.fld := rfl
@[simp] theorem setAxis_net (n : Nat) (f : Axis → Axis) (s : State) : (setAxis n f s).net = s.net := rfl
@[simp] theorem setAxis_tri (n : Nat) (f : Axis → Axis) (s : State) : (setAxis n f s).tri = s.tri := rfl
@[simp] theorem setAxis_bth (n : Nat) (f : Axis → Axis) (s : State) : (setAxis n f s).bth = s.bth := rfl
@[simp] theorem setAxis_now (n : Nat) (f : Axis → Axis) (s : State) : (setAxis n f s).now = s.now := rfl
@[simp] theorem setAxis_ctlGet (n : Nat) (f : Axis → Axis) (r : Nat) (s : State) : ctlGet r (setAxis n f s) = ctlGet r s := rfl

/-! ### setChan -/

@[simp] theorem setChan_pending (n : Nat) (f : PosChan → PosChan) (s : State) : (setChan n f s).pending = s.pending := rfl
@[simp] theorem setChan_free (n : Nat) (f : PosChan → PosChan) (s : State) : (setChan n f s).free = s.free := rfl
@[simp] theorem setChan_fused (n : Nat) (f : PosChan → PosChan) (s : State) : (setChan n f s).fused = s.fused := rfl
@[simp] theorem setChan_time (n : Nat) (f : PosChan → PosChan) (s : State) : (setChan n f s).time = s.time := rfl
@[simp] theorem setChan_ctl (n : Nat) (f : PosChan → PosChan) (s : State) : (setChan n f s).ctl = s.ctl := rfl
@[simp] theorem setChan_latches (n : Nat) (f : PosChan → PosChan) (s : State) : (setChan n f s).latches = s.latches := rfl
@[simp] theorem setChan_sram (n : Nat) (f : PosChan → PosChan) (s : State) : (setChan n f s).sram = s.sram := rfl
@[simp] theorem setChan_seq (n : Nat) (f : PosChan → PosChan) (s : State) : (setChan n f s).seq = s.seq := rfl
@[simp] theorem setChan_image (n : Nat) (f : PosChan → PosChan) (s : State) : (setChan n f s).image = s.image := rfl
@[simp] theorem setChan_cores (n : Nat) (f : PosChan → PosChan) (s : State) : (setChan n f s).cores = s.cores := rfl
@[simp] theorem setChan_splits (n : Nat) (f : PosChan → PosChan) (s : State) : (setChan n f s).splits = s.splits := rfl
@[simp] theorem setChan_timers (n : Nat) (f : PosChan → PosChan) (s : State) : (setChan n f s).timers = s.timers := rfl
@[simp] theorem setChan_scratchTags (n : Nat) (f : PosChan → PosChan) (s : State) : (setChan n f s).scratchTags = s.scratchTags := rfl
@[simp] theorem setChan_snap (n : Nat) (f : PosChan → PosChan) (s : State) : (setChan n f s).snap = s.snap := rfl
@[simp] theorem setChan_svc (n : Nat) (f : PosChan → PosChan) (s : State) : (setChan n f s).svc = s.svc := rfl
@[simp] theorem setChan_jnl (n : Nat) (f : PosChan → PosChan) (s : State) : (setChan n f s).jnl = s.jnl := rfl
@[simp] theorem setChan_keep (n : Nat) (f : PosChan → PosChan) (s : State) : (setChan n f s).keep = s.keep := rfl
@[simp] theorem setChan_mot (n : Nat) (f : PosChan → PosChan) (s : State) : (setChan n f s).mot = s.mot := rfl
@[simp] theorem setChan_fld (n : Nat) (f : PosChan → PosChan) (s : State) : (setChan n f s).fld = s.fld := rfl
@[simp] theorem setChan_net (n : Nat) (f : PosChan → PosChan) (s : State) : (setChan n f s).net = s.net := rfl
@[simp] theorem setChan_tri (n : Nat) (f : PosChan → PosChan) (s : State) : (setChan n f s).tri = s.tri := rfl
@[simp] theorem setChan_bth (n : Nat) (f : PosChan → PosChan) (s : State) : (setChan n f s).bth = s.bth := rfl
@[simp] theorem setChan_now (n : Nat) (f : PosChan → PosChan) (s : State) : (setChan n f s).now = s.now := rfl
@[simp] theorem setChan_ctlGet (n : Nat) (f : PosChan → PosChan) (r : Nat) (s : State) : ctlGet r (setChan n f s) = ctlGet r s := rfl

/-! ### setHead -/

@[simp] theorem setHead_pending (k : Nat) (f : Head → Head) (s : State) : (setHead k f s).pending = s.pending := rfl
@[simp] theorem setHead_free (k : Nat) (f : Head → Head) (s : State) : (setHead k f s).free = s.free := rfl
@[simp] theorem setHead_fused (k : Nat) (f : Head → Head) (s : State) : (setHead k f s).fused = s.fused := rfl
@[simp] theorem setHead_time (k : Nat) (f : Head → Head) (s : State) : (setHead k f s).time = s.time := rfl
@[simp] theorem setHead_ctl (k : Nat) (f : Head → Head) (s : State) : (setHead k f s).ctl = s.ctl := rfl
@[simp] theorem setHead_latches (k : Nat) (f : Head → Head) (s : State) : (setHead k f s).latches = s.latches := rfl
@[simp] theorem setHead_sram (k : Nat) (f : Head → Head) (s : State) : (setHead k f s).sram = s.sram := rfl
@[simp] theorem setHead_seq (k : Nat) (f : Head → Head) (s : State) : (setHead k f s).seq = s.seq := rfl
@[simp] theorem setHead_image (k : Nat) (f : Head → Head) (s : State) : (setHead k f s).image = s.image := rfl
@[simp] theorem setHead_cores (k : Nat) (f : Head → Head) (s : State) : (setHead k f s).cores = s.cores := rfl
@[simp] theorem setHead_splits (k : Nat) (f : Head → Head) (s : State) : (setHead k f s).splits = s.splits := rfl
@[simp] theorem setHead_timers (k : Nat) (f : Head → Head) (s : State) : (setHead k f s).timers = s.timers := rfl
@[simp] theorem setHead_scratchTags (k : Nat) (f : Head → Head) (s : State) : (setHead k f s).scratchTags = s.scratchTags := rfl
@[simp] theorem setHead_snap (k : Nat) (f : Head → Head) (s : State) : (setHead k f s).snap = s.snap := rfl
@[simp] theorem setHead_svc (k : Nat) (f : Head → Head) (s : State) : (setHead k f s).svc = s.svc := rfl
@[simp] theorem setHead_jnl (k : Nat) (f : Head → Head) (s : State) : (setHead k f s).jnl = s.jnl := rfl
@[simp] theorem setHead_keep (k : Nat) (f : Head → Head) (s : State) : (setHead k f s).keep = s.keep := rfl
@[simp] theorem setHead_mot (k : Nat) (f : Head → Head) (s : State) : (setHead k f s).mot = s.mot := rfl
@[simp] theorem setHead_fld (k : Nat) (f : Head → Head) (s : State) : (setHead k f s).fld = s.fld := rfl
@[simp] theorem setHead_net (k : Nat) (f : Head → Head) (s : State) : (setHead k f s).net = s.net := rfl
@[simp] theorem setHead_tri (k : Nat) (f : Head → Head) (s : State) : (setHead k f s).tri = s.tri := rfl
@[simp] theorem setHead_bth (k : Nat) (f : Head → Head) (s : State) : (setHead k f s).bth = s.bth := rfl
@[simp] theorem setHead_now (k : Nat) (f : Head → Head) (s : State) : (setHead k f s).now = s.now := rfl
@[simp] theorem setHead_ctlGet (k : Nat) (f : Head → Head) (r : Nat) (s : State) : ctlGet r (setHead k f s) = ctlGet r s := rfl

/-! ### setSection -/

@[simp] theorem setSection_pending (k : Nat) (f : Section → Section) (s : State) : (setSection k f s).pending = s.pending := rfl
@[simp] theorem setSection_free (k : Nat) (f : Section → Section) (s : State) : (setSection k f s).free = s.free := rfl
@[simp] theorem setSection_fused (k : Nat) (f : Section → Section) (s : State) : (setSection k f s).fused = s.fused := rfl
@[simp] theorem setSection_time (k : Nat) (f : Section → Section) (s : State) : (setSection k f s).time = s.time := rfl
@[simp] theorem setSection_ctl (k : Nat) (f : Section → Section) (s : State) : (setSection k f s).ctl = s.ctl := rfl
@[simp] theorem setSection_latches (k : Nat) (f : Section → Section) (s : State) : (setSection k f s).latches = s.latches := rfl
@[simp] theorem setSection_sram (k : Nat) (f : Section → Section) (s : State) : (setSection k f s).sram = s.sram := rfl
@[simp] theorem setSection_seq (k : Nat) (f : Section → Section) (s : State) : (setSection k f s).seq = s.seq := rfl
@[simp] theorem setSection_image (k : Nat) (f : Section → Section) (s : State) : (setSection k f s).image = s.image := rfl
@[simp] theorem setSection_cores (k : Nat) (f : Section → Section) (s : State) : (setSection k f s).cores = s.cores := rfl
@[simp] theorem setSection_splits (k : Nat) (f : Section → Section) (s : State) : (setSection k f s).splits = s.splits := rfl
@[simp] theorem setSection_timers (k : Nat) (f : Section → Section) (s : State) : (setSection k f s).timers = s.timers := rfl
@[simp] theorem setSection_scratchTags (k : Nat) (f : Section → Section) (s : State) : (setSection k f s).scratchTags = s.scratchTags := rfl
@[simp] theorem setSection_snap (k : Nat) (f : Section → Section) (s : State) : (setSection k f s).snap = s.snap := rfl
@[simp] theorem setSection_svc (k : Nat) (f : Section → Section) (s : State) : (setSection k f s).svc = s.svc := rfl
@[simp] theorem setSection_jnl (k : Nat) (f : Section → Section) (s : State) : (setSection k f s).jnl = s.jnl := rfl
@[simp] theorem setSection_keep (k : Nat) (f : Section → Section) (s : State) : (setSection k f s).keep = s.keep := rfl
@[simp] theorem setSection_mot (k : Nat) (f : Section → Section) (s : State) : (setSection k f s).mot = s.mot := rfl
@[simp] theorem setSection_fld (k : Nat) (f : Section → Section) (s : State) : (setSection k f s).fld = s.fld := rfl
@[simp] theorem setSection_net (k : Nat) (f : Section → Section) (s : State) : (setSection k f s).net = s.net := rfl
@[simp] theorem setSection_tri (k : Nat) (f : Section → Section) (s : State) : (setSection k f s).tri = s.tri := rfl
@[simp] theorem setSection_bth (k : Nat) (f : Section → Section) (s : State) : (setSection k f s).bth = s.bth := rfl
@[simp] theorem setSection_now (k : Nat) (f : Section → Section) (s : State) : (setSection k f s).now = s.now := rfl
@[simp] theorem setSection_ctlGet (k : Nat) (f : Section → Section) (r : Nat) (s : State) : ctlGet r (setSection k f s) = ctlGet r s := rfl

/-! ### setStand -/

@[simp] theorem setStand_pending (k : Nat) (f : Standstill → Standstill) (s : State) : (setStand k f s).pending = s.pending := rfl
@[simp] theorem setStand_free (k : Nat) (f : Standstill → Standstill) (s : State) : (setStand k f s).free = s.free := rfl
@[simp] theorem setStand_fused (k : Nat) (f : Standstill → Standstill) (s : State) : (setStand k f s).fused = s.fused := rfl
@[simp] theorem setStand_time (k : Nat) (f : Standstill → Standstill) (s : State) : (setStand k f s).time = s.time := rfl
@[simp] theorem setStand_ctl (k : Nat) (f : Standstill → Standstill) (s : State) : (setStand k f s).ctl = s.ctl := rfl
@[simp] theorem setStand_latches (k : Nat) (f : Standstill → Standstill) (s : State) : (setStand k f s).latches = s.latches := rfl
@[simp] theorem setStand_sram (k : Nat) (f : Standstill → Standstill) (s : State) : (setStand k f s).sram = s.sram := rfl
@[simp] theorem setStand_seq (k : Nat) (f : Standstill → Standstill) (s : State) : (setStand k f s).seq = s.seq := rfl
@[simp] theorem setStand_image (k : Nat) (f : Standstill → Standstill) (s : State) : (setStand k f s).image = s.image := rfl
@[simp] theorem setStand_cores (k : Nat) (f : Standstill → Standstill) (s : State) : (setStand k f s).cores = s.cores := rfl
@[simp] theorem setStand_splits (k : Nat) (f : Standstill → Standstill) (s : State) : (setStand k f s).splits = s.splits := rfl
@[simp] theorem setStand_timers (k : Nat) (f : Standstill → Standstill) (s : State) : (setStand k f s).timers = s.timers := rfl
@[simp] theorem setStand_scratchTags (k : Nat) (f : Standstill → Standstill) (s : State) : (setStand k f s).scratchTags = s.scratchTags := rfl
@[simp] theorem setStand_snap (k : Nat) (f : Standstill → Standstill) (s : State) : (setStand k f s).snap = s.snap := rfl
@[simp] theorem setStand_svc (k : Nat) (f : Standstill → Standstill) (s : State) : (setStand k f s).svc = s.svc := rfl
@[simp] theorem setStand_jnl (k : Nat) (f : Standstill → Standstill) (s : State) : (setStand k f s).jnl = s.jnl := rfl
@[simp] theorem setStand_keep (k : Nat) (f : Standstill → Standstill) (s : State) : (setStand k f s).keep = s.keep := rfl
@[simp] theorem setStand_mot (k : Nat) (f : Standstill → Standstill) (s : State) : (setStand k f s).mot = s.mot := rfl
@[simp] theorem setStand_fld (k : Nat) (f : Standstill → Standstill) (s : State) : (setStand k f s).fld = s.fld := rfl
@[simp] theorem setStand_net (k : Nat) (f : Standstill → Standstill) (s : State) : (setStand k f s).net = s.net := rfl
@[simp] theorem setStand_tri (k : Nat) (f : Standstill → Standstill) (s : State) : (setStand k f s).tri = s.tri := rfl
@[simp] theorem setStand_bth (k : Nat) (f : Standstill → Standstill) (s : State) : (setStand k f s).bth = s.bth := rfl
@[simp] theorem setStand_now (k : Nat) (f : Standstill → Standstill) (s : State) : (setStand k f s).now = s.now := rfl
@[simp] theorem setStand_ctlGet (k : Nat) (f : Standstill → Standstill) (r : Nat) (s : State) : ctlGet r (setStand k f s) = ctlGet r s := rfl

/-! ### setEnc -/

@[simp] theorem setEnc_pending (e : Nat) (f : EncOut → EncOut) (s : State) : (setEnc e f s).pending = s.pending := rfl
@[simp] theorem setEnc_free (e : Nat) (f : EncOut → EncOut) (s : State) : (setEnc e f s).free = s.free := rfl
@[simp] theorem setEnc_fused (e : Nat) (f : EncOut → EncOut) (s : State) : (setEnc e f s).fused = s.fused := rfl
@[simp] theorem setEnc_time (e : Nat) (f : EncOut → EncOut) (s : State) : (setEnc e f s).time = s.time := rfl
@[simp] theorem setEnc_ctl (e : Nat) (f : EncOut → EncOut) (s : State) : (setEnc e f s).ctl = s.ctl := rfl
@[simp] theorem setEnc_latches (e : Nat) (f : EncOut → EncOut) (s : State) : (setEnc e f s).latches = s.latches := rfl
@[simp] theorem setEnc_sram (e : Nat) (f : EncOut → EncOut) (s : State) : (setEnc e f s).sram = s.sram := rfl
@[simp] theorem setEnc_seq (e : Nat) (f : EncOut → EncOut) (s : State) : (setEnc e f s).seq = s.seq := rfl
@[simp] theorem setEnc_image (e : Nat) (f : EncOut → EncOut) (s : State) : (setEnc e f s).image = s.image := rfl
@[simp] theorem setEnc_cores (e : Nat) (f : EncOut → EncOut) (s : State) : (setEnc e f s).cores = s.cores := rfl
@[simp] theorem setEnc_splits (e : Nat) (f : EncOut → EncOut) (s : State) : (setEnc e f s).splits = s.splits := rfl
@[simp] theorem setEnc_timers (e : Nat) (f : EncOut → EncOut) (s : State) : (setEnc e f s).timers = s.timers := rfl
@[simp] theorem setEnc_scratchTags (e : Nat) (f : EncOut → EncOut) (s : State) : (setEnc e f s).scratchTags = s.scratchTags := rfl
@[simp] theorem setEnc_snap (e : Nat) (f : EncOut → EncOut) (s : State) : (setEnc e f s).snap = s.snap := rfl
@[simp] theorem setEnc_svc (e : Nat) (f : EncOut → EncOut) (s : State) : (setEnc e f s).svc = s.svc := rfl
@[simp] theorem setEnc_jnl (e : Nat) (f : EncOut → EncOut) (s : State) : (setEnc e f s).jnl = s.jnl := rfl
@[simp] theorem setEnc_keep (e : Nat) (f : EncOut → EncOut) (s : State) : (setEnc e f s).keep = s.keep := rfl
@[simp] theorem setEnc_mot (e : Nat) (f : EncOut → EncOut) (s : State) : (setEnc e f s).mot = s.mot := rfl
@[simp] theorem setEnc_fld (e : Nat) (f : EncOut → EncOut) (s : State) : (setEnc e f s).fld = s.fld := rfl
@[simp] theorem setEnc_net (e : Nat) (f : EncOut → EncOut) (s : State) : (setEnc e f s).net = s.net := rfl
@[simp] theorem setEnc_tri (e : Nat) (f : EncOut → EncOut) (s : State) : (setEnc e f s).tri = s.tri := rfl
@[simp] theorem setEnc_bth (e : Nat) (f : EncOut → EncOut) (s : State) : (setEnc e f s).bth = s.bth := rfl
@[simp] theorem setEnc_now (e : Nat) (f : EncOut → EncOut) (s : State) : (setEnc e f s).now = s.now := rfl
@[simp] theorem setEnc_ctlGet (e : Nat) (f : EncOut → EncOut) (r : Nat) (s : State) : ctlGet r (setEnc e f s) = ctlGet r s := rfl

/-! ### setBlock -/

@[simp] theorem setBlock_pending (n : Nat) (f : Block → Block) (s : State) : (setBlock n f s).pending = s.pending := rfl
@[simp] theorem setBlock_free (n : Nat) (f : Block → Block) (s : State) : (setBlock n f s).free = s.free := rfl
@[simp] theorem setBlock_fused (n : Nat) (f : Block → Block) (s : State) : (setBlock n f s).fused = s.fused := rfl
@[simp] theorem setBlock_time (n : Nat) (f : Block → Block) (s : State) : (setBlock n f s).time = s.time := rfl
@[simp] theorem setBlock_ctl (n : Nat) (f : Block → Block) (s : State) : (setBlock n f s).ctl = s.ctl := rfl
@[simp] theorem setBlock_latches (n : Nat) (f : Block → Block) (s : State) : (setBlock n f s).latches = s.latches := rfl
@[simp] theorem setBlock_sram (n : Nat) (f : Block → Block) (s : State) : (setBlock n f s).sram = s.sram := rfl
@[simp] theorem setBlock_seq (n : Nat) (f : Block → Block) (s : State) : (setBlock n f s).seq = s.seq := rfl
@[simp] theorem setBlock_image (n : Nat) (f : Block → Block) (s : State) : (setBlock n f s).image = s.image := rfl
@[simp] theorem setBlock_cores (n : Nat) (f : Block → Block) (s : State) : (setBlock n f s).cores = s.cores := rfl
@[simp] theorem setBlock_splits (n : Nat) (f : Block → Block) (s : State) : (setBlock n f s).splits = s.splits := rfl
@[simp] theorem setBlock_timers (n : Nat) (f : Block → Block) (s : State) : (setBlock n f s).timers = s.timers := rfl
@[simp] theorem setBlock_scratchTags (n : Nat) (f : Block → Block) (s : State) : (setBlock n f s).scratchTags = s.scratchTags := rfl
@[simp] theorem setBlock_snap (n : Nat) (f : Block → Block) (s : State) : (setBlock n f s).snap = s.snap := rfl
@[simp] theorem setBlock_svc (n : Nat) (f : Block → Block) (s : State) : (setBlock n f s).svc = s.svc := rfl
@[simp] theorem setBlock_jnl (n : Nat) (f : Block → Block) (s : State) : (setBlock n f s).jnl = s.jnl := rfl
@[simp] theorem setBlock_keep (n : Nat) (f : Block → Block) (s : State) : (setBlock n f s).keep = s.keep := rfl
@[simp] theorem setBlock_mot (n : Nat) (f : Block → Block) (s : State) : (setBlock n f s).mot = s.mot := rfl
@[simp] theorem setBlock_fbk (n : Nat) (f : Block → Block) (s : State) : (setBlock n f s).fbk = s.fbk := rfl
@[simp] theorem setBlock_net (n : Nat) (f : Block → Block) (s : State) : (setBlock n f s).net = s.net := rfl
@[simp] theorem setBlock_tri (n : Nat) (f : Block → Block) (s : State) : (setBlock n f s).tri = s.tri := rfl
@[simp] theorem setBlock_bth (n : Nat) (f : Block → Block) (s : State) : (setBlock n f s).bth = s.bth := rfl
@[simp] theorem setBlock_now (n : Nat) (f : Block → Block) (s : State) : (setBlock n f s).now = s.now := rfl
@[simp] theorem setBlock_ctlGet (n : Nat) (f : Block → Block) (r : Nat) (s : State) : ctlGet r (setBlock n f s) = ctlGet r s := rfl

/-! ### setBerth -/

@[simp] theorem setBerth_pending (b : Nat) (f : Berth → Berth) (s : State) : (setBerth b f s).pending = s.pending := rfl
@[simp] theorem setBerth_free (b : Nat) (f : Berth → Berth) (s : State) : (setBerth b f s).free = s.free := rfl
@[simp] theorem setBerth_fused (b : Nat) (f : Berth → Berth) (s : State) : (setBerth b f s).fused = s.fused := rfl
@[simp] theorem setBerth_time (b : Nat) (f : Berth → Berth) (s : State) : (setBerth b f s).time = s.time := rfl
@[simp] theorem setBerth_ctl (b : Nat) (f : Berth → Berth) (s : State) : (setBerth b f s).ctl = s.ctl := rfl
@[simp] theorem setBerth_latches (b : Nat) (f : Berth → Berth) (s : State) : (setBerth b f s).latches = s.latches := rfl
@[simp] theorem setBerth_sram (b : Nat) (f : Berth → Berth) (s : State) : (setBerth b f s).sram = s.sram := rfl
@[simp] theorem setBerth_seq (b : Nat) (f : Berth → Berth) (s : State) : (setBerth b f s).seq = s.seq := rfl
@[simp] theorem setBerth_image (b : Nat) (f : Berth → Berth) (s : State) : (setBerth b f s).image = s.image := rfl
@[simp] theorem setBerth_cores (b : Nat) (f : Berth → Berth) (s : State) : (setBerth b f s).cores = s.cores := rfl
@[simp] theorem setBerth_splits (b : Nat) (f : Berth → Berth) (s : State) : (setBerth b f s).splits = s.splits := rfl
@[simp] theorem setBerth_timers (b : Nat) (f : Berth → Berth) (s : State) : (setBerth b f s).timers = s.timers := rfl
@[simp] theorem setBerth_scratchTags (b : Nat) (f : Berth → Berth) (s : State) : (setBerth b f s).scratchTags = s.scratchTags := rfl
@[simp] theorem setBerth_snap (b : Nat) (f : Berth → Berth) (s : State) : (setBerth b f s).snap = s.snap := rfl
@[simp] theorem setBerth_svc (b : Nat) (f : Berth → Berth) (s : State) : (setBerth b f s).svc = s.svc := rfl
@[simp] theorem setBerth_jnl (b : Nat) (f : Berth → Berth) (s : State) : (setBerth b f s).jnl = s.jnl := rfl
@[simp] theorem setBerth_keep (b : Nat) (f : Berth → Berth) (s : State) : (setBerth b f s).keep = s.keep := rfl
@[simp] theorem setBerth_mot (b : Nat) (f : Berth → Berth) (s : State) : (setBerth b f s).mot = s.mot := rfl
@[simp] theorem setBerth_fbk (b : Nat) (f : Berth → Berth) (s : State) : (setBerth b f s).fbk = s.fbk := rfl
@[simp] theorem setBerth_fld (b : Nat) (f : Berth → Berth) (s : State) : (setBerth b f s).fld = s.fld := rfl
@[simp] theorem setBerth_net (b : Nat) (f : Berth → Berth) (s : State) : (setBerth b f s).net = s.net := rfl
@[simp] theorem setBerth_tri (b : Nat) (f : Berth → Berth) (s : State) : (setBerth b f s).tri = s.tri := rfl
@[simp] theorem setBerth_now (b : Nat) (f : Berth → Berth) (s : State) : (setBerth b f s).now = s.now := rfl
@[simp] theorem setBerth_ctlGet (b : Nat) (f : Berth → Berth) (r : Nat) (s : State) : ctlGet r (setBerth b f s) = ctlGet r s := rfl

/-! ### setPort -/

@[simp] theorem setPort_pending (p : Nat) (f : Port → Port) (s : State) : (setPort p f s).pending = s.pending := rfl
@[simp] theorem setPort_free (p : Nat) (f : Port → Port) (s : State) : (setPort p f s).free = s.free := rfl
@[simp] theorem setPort_fused (p : Nat) (f : Port → Port) (s : State) : (setPort p f s).fused = s.fused := rfl
@[simp] theorem setPort_time (p : Nat) (f : Port → Port) (s : State) : (setPort p f s).time = s.time := rfl
@[simp] theorem setPort_ctl (p : Nat) (f : Port → Port) (s : State) : (setPort p f s).ctl = s.ctl := rfl
@[simp] theorem setPort_latches (p : Nat) (f : Port → Port) (s : State) : (setPort p f s).latches = s.latches := rfl
@[simp] theorem setPort_sram (p : Nat) (f : Port → Port) (s : State) : (setPort p f s).sram = s.sram := rfl
@[simp] theorem setPort_seq (p : Nat) (f : Port → Port) (s : State) : (setPort p f s).seq = s.seq := rfl
@[simp] theorem setPort_image (p : Nat) (f : Port → Port) (s : State) : (setPort p f s).image = s.image := rfl
@[simp] theorem setPort_cores (p : Nat) (f : Port → Port) (s : State) : (setPort p f s).cores = s.cores := rfl
@[simp] theorem setPort_splits (p : Nat) (f : Port → Port) (s : State) : (setPort p f s).splits = s.splits := rfl
@[simp] theorem setPort_timers (p : Nat) (f : Port → Port) (s : State) : (setPort p f s).timers = s.timers := rfl
@[simp] theorem setPort_scratchTags (p : Nat) (f : Port → Port) (s : State) : (setPort p f s).scratchTags = s.scratchTags := rfl
@[simp] theorem setPort_snap (p : Nat) (f : Port → Port) (s : State) : (setPort p f s).snap = s.snap := rfl
@[simp] theorem setPort_svc (p : Nat) (f : Port → Port) (s : State) : (setPort p f s).svc = s.svc := rfl
@[simp] theorem setPort_jnl (p : Nat) (f : Port → Port) (s : State) : (setPort p f s).jnl = s.jnl := rfl
@[simp] theorem setPort_keep (p : Nat) (f : Port → Port) (s : State) : (setPort p f s).keep = s.keep := rfl
@[simp] theorem setPort_mot (p : Nat) (f : Port → Port) (s : State) : (setPort p f s).mot = s.mot := rfl
@[simp] theorem setPort_fbk (p : Nat) (f : Port → Port) (s : State) : (setPort p f s).fbk = s.fbk := rfl
@[simp] theorem setPort_fld (p : Nat) (f : Port → Port) (s : State) : (setPort p f s).fld = s.fld := rfl
@[simp] theorem setPort_tri (p : Nat) (f : Port → Port) (s : State) : (setPort p f s).tri = s.tri := rfl
@[simp] theorem setPort_bth (p : Nat) (f : Port → Port) (s : State) : (setPort p f s).bth = s.bth := rfl
@[simp] theorem setPort_now (p : Nat) (f : Port → Port) (s : State) : (setPort p f s).now = s.now := rfl
@[simp] theorem setPort_ctlGet (p : Nat) (f : Port → Port) (r : Nat) (s : State) : ctlGet r (setPort p f s) = ctlGet r s := rfl

/-! ### setConn -/

@[simp] theorem setConn_pending (c : Nat) (f : Conn → Conn) (s : State) : (setConn c f s).pending = s.pending := rfl
@[simp] theorem setConn_free (c : Nat) (f : Conn → Conn) (s : State) : (setConn c f s).free = s.free := rfl
@[simp] theorem setConn_fused (c : Nat) (f : Conn → Conn) (s : State) : (setConn c f s).fused = s.fused := rfl
@[simp] theorem setConn_time (c : Nat) (f : Conn → Conn) (s : State) : (setConn c f s).time = s.time := rfl
@[simp] theorem setConn_ctl (c : Nat) (f : Conn → Conn) (s : State) : (setConn c f s).ctl = s.ctl := rfl
@[simp] theorem setConn_latches (c : Nat) (f : Conn → Conn) (s : State) : (setConn c f s).latches = s.latches := rfl
@[simp] theorem setConn_sram (c : Nat) (f : Conn → Conn) (s : State) : (setConn c f s).sram = s.sram := rfl
@[simp] theorem setConn_seq (c : Nat) (f : Conn → Conn) (s : State) : (setConn c f s).seq = s.seq := rfl
@[simp] theorem setConn_image (c : Nat) (f : Conn → Conn) (s : State) : (setConn c f s).image = s.image := rfl
@[simp] theorem setConn_cores (c : Nat) (f : Conn → Conn) (s : State) : (setConn c f s).cores = s.cores := rfl
@[simp] theorem setConn_splits (c : Nat) (f : Conn → Conn) (s : State) : (setConn c f s).splits = s.splits := rfl
@[simp] theorem setConn_timers (c : Nat) (f : Conn → Conn) (s : State) : (setConn c f s).timers = s.timers := rfl
@[simp] theorem setConn_scratchTags (c : Nat) (f : Conn → Conn) (s : State) : (setConn c f s).scratchTags = s.scratchTags := rfl
@[simp] theorem setConn_snap (c : Nat) (f : Conn → Conn) (s : State) : (setConn c f s).snap = s.snap := rfl
@[simp] theorem setConn_svc (c : Nat) (f : Conn → Conn) (s : State) : (setConn c f s).svc = s.svc := rfl
@[simp] theorem setConn_jnl (c : Nat) (f : Conn → Conn) (s : State) : (setConn c f s).jnl = s.jnl := rfl
@[simp] theorem setConn_keep (c : Nat) (f : Conn → Conn) (s : State) : (setConn c f s).keep = s.keep := rfl
@[simp] theorem setConn_mot (c : Nat) (f : Conn → Conn) (s : State) : (setConn c f s).mot = s.mot := rfl
@[simp] theorem setConn_fbk (c : Nat) (f : Conn → Conn) (s : State) : (setConn c f s).fbk = s.fbk := rfl
@[simp] theorem setConn_fld (c : Nat) (f : Conn → Conn) (s : State) : (setConn c f s).fld = s.fld := rfl
@[simp] theorem setConn_tri (c : Nat) (f : Conn → Conn) (s : State) : (setConn c f s).tri = s.tri := rfl
@[simp] theorem setConn_bth (c : Nat) (f : Conn → Conn) (s : State) : (setConn c f s).bth = s.bth := rfl
@[simp] theorem setConn_now (c : Nat) (f : Conn → Conn) (s : State) : (setConn c f s).now = s.now := rfl
@[simp] theorem setConn_ctlGet (c : Nat) (f : Conn → Conn) (r : Nat) (s : State) : ctlGet r (setConn c f s) = ctlGet r s := rfl

/-! ### setTp -/

@[simp] theorem setTp_pending (p : Nat) (f : TpPort → TpPort) (s : State) : (setTp p f s).pending = s.pending := rfl
@[simp] theorem setTp_free (p : Nat) (f : TpPort → TpPort) (s : State) : (setTp p f s).free = s.free := rfl
@[simp] theorem setTp_fused (p : Nat) (f : TpPort → TpPort) (s : State) : (setTp p f s).fused = s.fused := rfl
@[simp] theorem setTp_time (p : Nat) (f : TpPort → TpPort) (s : State) : (setTp p f s).time = s.time := rfl
@[simp] theorem setTp_ctl (p : Nat) (f : TpPort → TpPort) (s : State) : (setTp p f s).ctl = s.ctl := rfl
@[simp] theorem setTp_latches (p : Nat) (f : TpPort → TpPort) (s : State) : (setTp p f s).latches = s.latches := rfl
@[simp] theorem setTp_sram (p : Nat) (f : TpPort → TpPort) (s : State) : (setTp p f s).sram = s.sram := rfl
@[simp] theorem setTp_seq (p : Nat) (f : TpPort → TpPort) (s : State) : (setTp p f s).seq = s.seq := rfl
@[simp] theorem setTp_image (p : Nat) (f : TpPort → TpPort) (s : State) : (setTp p f s).image = s.image := rfl
@[simp] theorem setTp_cores (p : Nat) (f : TpPort → TpPort) (s : State) : (setTp p f s).cores = s.cores := rfl
@[simp] theorem setTp_splits (p : Nat) (f : TpPort → TpPort) (s : State) : (setTp p f s).splits = s.splits := rfl
@[simp] theorem setTp_timers (p : Nat) (f : TpPort → TpPort) (s : State) : (setTp p f s).timers = s.timers := rfl
@[simp] theorem setTp_scratchTags (p : Nat) (f : TpPort → TpPort) (s : State) : (setTp p f s).scratchTags = s.scratchTags := rfl
@[simp] theorem setTp_snap (p : Nat) (f : TpPort → TpPort) (s : State) : (setTp p f s).snap = s.snap := rfl
@[simp] theorem setTp_svc (p : Nat) (f : TpPort → TpPort) (s : State) : (setTp p f s).svc = s.svc := rfl
@[simp] theorem setTp_jnl (p : Nat) (f : TpPort → TpPort) (s : State) : (setTp p f s).jnl = s.jnl := rfl
@[simp] theorem setTp_keep (p : Nat) (f : TpPort → TpPort) (s : State) : (setTp p f s).keep = s.keep := rfl
@[simp] theorem setTp_mot (p : Nat) (f : TpPort → TpPort) (s : State) : (setTp p f s).mot = s.mot := rfl
@[simp] theorem setTp_fbk (p : Nat) (f : TpPort → TpPort) (s : State) : (setTp p f s).fbk = s.fbk := rfl
@[simp] theorem setTp_fld (p : Nat) (f : TpPort → TpPort) (s : State) : (setTp p f s).fld = s.fld := rfl
@[simp] theorem setTp_net (p : Nat) (f : TpPort → TpPort) (s : State) : (setTp p f s).net = s.net := rfl
@[simp] theorem setTp_bth (p : Nat) (f : TpPort → TpPort) (s : State) : (setTp p f s).bth = s.bth := rfl
@[simp] theorem setTp_now (p : Nat) (f : TpPort → TpPort) (s : State) : (setTp p f s).now = s.now := rfl
@[simp] theorem setTp_ctlGet (p : Nat) (f : TpPort → TpPort) (r : Nat) (s : State) : ctlGet r (setTp p f s) = ctlGet r s := rfl

/-! ### setPeer -/

@[simp] theorem setPeer_pending (x : Nat) (f : Peer → Peer) (s : State) : (setPeer x f s).pending = s.pending := rfl
@[simp] theorem setPeer_free (x : Nat) (f : Peer → Peer) (s : State) : (setPeer x f s).free = s.free := rfl
@[simp] theorem setPeer_fused (x : Nat) (f : Peer → Peer) (s : State) : (setPeer x f s).fused = s.fused := rfl
@[simp] theorem setPeer_time (x : Nat) (f : Peer → Peer) (s : State) : (setPeer x f s).time = s.time := rfl
@[simp] theorem setPeer_ctl (x : Nat) (f : Peer → Peer) (s : State) : (setPeer x f s).ctl = s.ctl := rfl
@[simp] theorem setPeer_latches (x : Nat) (f : Peer → Peer) (s : State) : (setPeer x f s).latches = s.latches := rfl
@[simp] theorem setPeer_sram (x : Nat) (f : Peer → Peer) (s : State) : (setPeer x f s).sram = s.sram := rfl
@[simp] theorem setPeer_seq (x : Nat) (f : Peer → Peer) (s : State) : (setPeer x f s).seq = s.seq := rfl
@[simp] theorem setPeer_image (x : Nat) (f : Peer → Peer) (s : State) : (setPeer x f s).image = s.image := rfl
@[simp] theorem setPeer_cores (x : Nat) (f : Peer → Peer) (s : State) : (setPeer x f s).cores = s.cores := rfl
@[simp] theorem setPeer_splits (x : Nat) (f : Peer → Peer) (s : State) : (setPeer x f s).splits = s.splits := rfl
@[simp] theorem setPeer_timers (x : Nat) (f : Peer → Peer) (s : State) : (setPeer x f s).timers = s.timers := rfl
@[simp] theorem setPeer_scratchTags (x : Nat) (f : Peer → Peer) (s : State) : (setPeer x f s).scratchTags = s.scratchTags := rfl
@[simp] theorem setPeer_snap (x : Nat) (f : Peer → Peer) (s : State) : (setPeer x f s).snap = s.snap := rfl
@[simp] theorem setPeer_svc (x : Nat) (f : Peer → Peer) (s : State) : (setPeer x f s).svc = s.svc := rfl
@[simp] theorem setPeer_jnl (x : Nat) (f : Peer → Peer) (s : State) : (setPeer x f s).jnl = s.jnl := rfl
@[simp] theorem setPeer_keep (x : Nat) (f : Peer → Peer) (s : State) : (setPeer x f s).keep = s.keep := rfl
@[simp] theorem setPeer_mot (x : Nat) (f : Peer → Peer) (s : State) : (setPeer x f s).mot = s.mot := rfl
@[simp] theorem setPeer_fbk (x : Nat) (f : Peer → Peer) (s : State) : (setPeer x f s).fbk = s.fbk := rfl
@[simp] theorem setPeer_fld (x : Nat) (f : Peer → Peer) (s : State) : (setPeer x f s).fld = s.fld := rfl
@[simp] theorem setPeer_net (x : Nat) (f : Peer → Peer) (s : State) : (setPeer x f s).net = s.net := rfl
@[simp] theorem setPeer_bth (x : Nat) (f : Peer → Peer) (s : State) : (setPeer x f s).bth = s.bth := rfl
@[simp] theorem setPeer_now (x : Nat) (f : Peer → Peer) (s : State) : (setPeer x f s).now = s.now := rfl
@[simp] theorem setPeer_ctlGet (x : Nat) (f : Peer → Peer) (r : Nat) (s : State) : ctlGet r (setPeer x f s) = ctlGet r s := rfl

/-! ### setTriF -/

@[simp] theorem setTriF_pending (f : Tri → Tri) (s : State) : (setTriF f s).pending = s.pending := rfl
@[simp] theorem setTriF_free (f : Tri → Tri) (s : State) : (setTriF f s).free = s.free := rfl
@[simp] theorem setTriF_fused (f : Tri → Tri) (s : State) : (setTriF f s).fused = s.fused := rfl
@[simp] theorem setTriF_time (f : Tri → Tri) (s : State) : (setTriF f s).time = s.time := rfl
@[simp] theorem setTriF_ctl (f : Tri → Tri) (s : State) : (setTriF f s).ctl = s.ctl := rfl
@[simp] theorem setTriF_latches (f : Tri → Tri) (s : State) : (setTriF f s).latches = s.latches := rfl
@[simp] theorem setTriF_sram (f : Tri → Tri) (s : State) : (setTriF f s).sram = s.sram := rfl
@[simp] theorem setTriF_seq (f : Tri → Tri) (s : State) : (setTriF f s).seq = s.seq := rfl
@[simp] theorem setTriF_image (f : Tri → Tri) (s : State) : (setTriF f s).image = s.image := rfl
@[simp] theorem setTriF_cores (f : Tri → Tri) (s : State) : (setTriF f s).cores = s.cores := rfl
@[simp] theorem setTriF_splits (f : Tri → Tri) (s : State) : (setTriF f s).splits = s.splits := rfl
@[simp] theorem setTriF_timers (f : Tri → Tri) (s : State) : (setTriF f s).timers = s.timers := rfl
@[simp] theorem setTriF_scratchTags (f : Tri → Tri) (s : State) : (setTriF f s).scratchTags = s.scratchTags := rfl
@[simp] theorem setTriF_snap (f : Tri → Tri) (s : State) : (setTriF f s).snap = s.snap := rfl
@[simp] theorem setTriF_svc (f : Tri → Tri) (s : State) : (setTriF f s).svc = s.svc := rfl
@[simp] theorem setTriF_jnl (f : Tri → Tri) (s : State) : (setTriF f s).jnl = s.jnl := rfl
@[simp] theorem setTriF_keep (f : Tri → Tri) (s : State) : (setTriF f s).keep = s.keep := rfl
@[simp] theorem setTriF_mot (f : Tri → Tri) (s : State) : (setTriF f s).mot = s.mot := rfl
@[simp] theorem setTriF_fbk (f : Tri → Tri) (s : State) : (setTriF f s).fbk = s.fbk := rfl
@[simp] theorem setTriF_fld (f : Tri → Tri) (s : State) : (setTriF f s).fld = s.fld := rfl
@[simp] theorem setTriF_net (f : Tri → Tri) (s : State) : (setTriF f s).net = s.net := rfl
@[simp] theorem setTriF_bth (f : Tri → Tri) (s : State) : (setTriF f s).bth = s.bth := rfl
@[simp] theorem setTriF_now (f : Tri → Tri) (s : State) : (setTriF f s).now = s.now := rfl
@[simp] theorem setTriF_ctlGet (f : Tri → Tri) (r : Nat) (s : State) : ctlGet r (setTriF f s) = ctlGet r s := rfl

/-! ### setKeep -/

@[simp] theorem setKeep_pending (f : Keeper → Keeper) (s : State) : (setKeep f s).pending = s.pending := rfl
@[simp] theorem setKeep_free (f : Keeper → Keeper) (s : State) : (setKeep f s).free = s.free := rfl
@[simp] theorem setKeep_fused (f : Keeper → Keeper) (s : State) : (setKeep f s).fused = s.fused := rfl
@[simp] theorem setKeep_time (f : Keeper → Keeper) (s : State) : (setKeep f s).time = s.time := rfl
@[simp] theorem setKeep_ctl (f : Keeper → Keeper) (s : State) : (setKeep f s).ctl = s.ctl := rfl
@[simp] theorem setKeep_latches (f : Keeper → Keeper) (s : State) : (setKeep f s).latches = s.latches := rfl
@[simp] theorem setKeep_sram (f : Keeper → Keeper) (s : State) : (setKeep f s).sram = s.sram := rfl
@[simp] theorem setKeep_seq (f : Keeper → Keeper) (s : State) : (setKeep f s).seq = s.seq := rfl
@[simp] theorem setKeep_image (f : Keeper → Keeper) (s : State) : (setKeep f s).image = s.image := rfl
@[simp] theorem setKeep_cores (f : Keeper → Keeper) (s : State) : (setKeep f s).cores = s.cores := rfl
@[simp] theorem setKeep_splits (f : Keeper → Keeper) (s : State) : (setKeep f s).splits = s.splits := rfl
@[simp] theorem setKeep_timers (f : Keeper → Keeper) (s : State) : (setKeep f s).timers = s.timers := rfl
@[simp] theorem setKeep_scratchTags (f : Keeper → Keeper) (s : State) : (setKeep f s).scratchTags = s.scratchTags := rfl
@[simp] theorem setKeep_snap (f : Keeper → Keeper) (s : State) : (setKeep f s).snap = s.snap := rfl
@[simp] theorem setKeep_svc (f : Keeper → Keeper) (s : State) : (setKeep f s).svc = s.svc := rfl
@[simp] theorem setKeep_jnl (f : Keeper → Keeper) (s : State) : (setKeep f s).jnl = s.jnl := rfl
@[simp] theorem setKeep_mot (f : Keeper → Keeper) (s : State) : (setKeep f s).mot = s.mot := rfl
@[simp] theorem setKeep_fbk (f : Keeper → Keeper) (s : State) : (setKeep f s).fbk = s.fbk := rfl
@[simp] theorem setKeep_fld (f : Keeper → Keeper) (s : State) : (setKeep f s).fld = s.fld := rfl
@[simp] theorem setKeep_net (f : Keeper → Keeper) (s : State) : (setKeep f s).net = s.net := rfl
@[simp] theorem setKeep_tri (f : Keeper → Keeper) (s : State) : (setKeep f s).tri = s.tri := rfl
@[simp] theorem setKeep_bth (f : Keeper → Keeper) (s : State) : (setKeep f s).bth = s.bth := rfl
@[simp] theorem setKeep_now (f : Keeper → Keeper) (s : State) : (setKeep f s).now = s.now := rfl
@[simp] theorem setKeep_ctlGet (f : Keeper → Keeper) (r : Nat) (s : State) : ctlGet r (setKeep f s) = ctlGet r s := rfl

/-! ### setJnl -/

@[simp] theorem setJnl_pending (f : Journal → Journal) (s : State) : (setJnl f s).pending = s.pending := rfl
@[simp] theorem setJnl_free (f : Journal → Journal) (s : State) : (setJnl f s).free = s.free := rfl
@[simp] theorem setJnl_fused (f : Journal → Journal) (s : State) : (setJnl f s).fused = s.fused := rfl
@[simp] theorem setJnl_time (f : Journal → Journal) (s : State) : (setJnl f s).time = s.time := rfl
@[simp] theorem setJnl_ctl (f : Journal → Journal) (s : State) : (setJnl f s).ctl = s.ctl := rfl
@[simp] theorem setJnl_latches (f : Journal → Journal) (s : State) : (setJnl f s).latches = s.latches := rfl
@[simp] theorem setJnl_sram (f : Journal → Journal) (s : State) : (setJnl f s).sram = s.sram := rfl
@[simp] theorem setJnl_seq (f : Journal → Journal) (s : State) : (setJnl f s).seq = s.seq := rfl
@[simp] theorem setJnl_image (f : Journal → Journal) (s : State) : (setJnl f s).image = s.image := rfl
@[simp] theorem setJnl_cores (f : Journal → Journal) (s : State) : (setJnl f s).cores = s.cores := rfl
@[simp] theorem setJnl_splits (f : Journal → Journal) (s : State) : (setJnl f s).splits = s.splits := rfl
@[simp] theorem setJnl_timers (f : Journal → Journal) (s : State) : (setJnl f s).timers = s.timers := rfl
@[simp] theorem setJnl_scratchTags (f : Journal → Journal) (s : State) : (setJnl f s).scratchTags = s.scratchTags := rfl
@[simp] theorem setJnl_snap (f : Journal → Journal) (s : State) : (setJnl f s).snap = s.snap := rfl
@[simp] theorem setJnl_svc (f : Journal → Journal) (s : State) : (setJnl f s).svc = s.svc := rfl
@[simp] theorem setJnl_keep (f : Journal → Journal) (s : State) : (setJnl f s).keep = s.keep := rfl
@[simp] theorem setJnl_mot (f : Journal → Journal) (s : State) : (setJnl f s).mot = s.mot := rfl
@[simp] theorem setJnl_fbk (f : Journal → Journal) (s : State) : (setJnl f s).fbk = s.fbk := rfl
@[simp] theorem setJnl_fld (f : Journal → Journal) (s : State) : (setJnl f s).fld = s.fld := rfl
@[simp] theorem setJnl_net (f : Journal → Journal) (s : State) : (setJnl f s).net = s.net := rfl
@[simp] theorem setJnl_tri (f : Journal → Journal) (s : State) : (setJnl f s).tri = s.tri := rfl
@[simp] theorem setJnl_bth (f : Journal → Journal) (s : State) : (setJnl f s).bth = s.bth := rfl
@[simp] theorem setJnl_now (f : Journal → Journal) (s : State) : (setJnl f s).now = s.now := rfl
@[simp] theorem setJnl_ctlGet (f : Journal → Journal) (r : Nat) (s : State) : ctlGet r (setJnl f s) = ctlGet r s := rfl

/-! ### advance and tickCclk -/

@[simp] theorem advance_pending (ns : Nat) (s : State) : (advance ns s).pending = s.pending := by
  unfold advance countAclk; split <;> rfl
@[simp] theorem advance_free (ns : Nat) (s : State) : (advance ns s).free = s.free := by
  unfold advance countAclk; split <;> rfl
@[simp] theorem advance_fused (ns : Nat) (s : State) : (advance ns s).fused = s.fused := by
  unfold advance countAclk; split <;> rfl
@[simp] theorem advance_ctl (ns : Nat) (s : State) : (advance ns s).ctl = s.ctl := by
  unfold advance countAclk; split <;> rfl
@[simp] theorem advance_latches (ns : Nat) (s : State) : (advance ns s).latches = s.latches := by
  unfold advance countAclk; split <;> rfl
@[simp] theorem advance_sram (ns : Nat) (s : State) : (advance ns s).sram = s.sram := by
  unfold advance countAclk; split <;> rfl
@[simp] theorem advance_seq (ns : Nat) (s : State) : (advance ns s).seq = s.seq := by
  unfold advance countAclk; split <;> rfl
@[simp] theorem advance_image (ns : Nat) (s : State) : (advance ns s).image = s.image := by
  unfold advance countAclk; split <;> rfl
@[simp] theorem advance_cores (ns : Nat) (s : State) : (advance ns s).cores = s.cores := by
  unfold advance countAclk; split <;> rfl
@[simp] theorem advance_splits (ns : Nat) (s : State) : (advance ns s).splits = s.splits := by
  unfold advance countAclk; split <;> rfl
@[simp] theorem advance_timers (ns : Nat) (s : State) : (advance ns s).timers = s.timers := by
  unfold advance countAclk; split <;> rfl
@[simp] theorem advance_scratchTags (ns : Nat) (s : State) : (advance ns s).scratchTags = s.scratchTags := by
  unfold advance countAclk; split <;> rfl
@[simp] theorem advance_snap (ns : Nat) (s : State) : (advance ns s).snap = s.snap := by
  unfold advance countAclk; split <;> rfl
@[simp] theorem advance_svc (ns : Nat) (s : State) : (advance ns s).svc = s.svc := by
  unfold advance countAclk; split <;> rfl
@[simp] theorem advance_jnl (ns : Nat) (s : State) : (advance ns s).jnl = s.jnl := by
  unfold advance countAclk; split <;> rfl
@[simp] theorem advance_mot (ns : Nat) (s : State) : (advance ns s).mot = s.mot := by
  unfold advance countAclk; split <;> rfl
@[simp] theorem advance_fbk (ns : Nat) (s : State) : (advance ns s).fbk = s.fbk := by
  unfold advance countAclk; split <;> rfl
@[simp] theorem advance_fld (ns : Nat) (s : State) : (advance ns s).fld = s.fld := by
  unfold advance countAclk; split <;> rfl
@[simp] theorem advance_net (ns : Nat) (s : State) : (advance ns s).net = s.net := by
  unfold advance countAclk; split <;> rfl
@[simp] theorem advance_tri (ns : Nat) (s : State) : (advance ns s).tri = s.tri := by
  unfold advance countAclk; split <;> rfl
@[simp] theorem advance_bth (ns : Nat) (s : State) : (advance ns s).bth = s.bth := by
  unfold advance countAclk; split <;> rfl
@[simp] theorem advance_keep_mode (ns : Nat) (s : State) : (advance ns s).keep.mode = s.keep.mode := by
  unfold advance countAclk; split <;> rfl
@[simp] theorem advance_keep_prev (ns : Nat) (s : State) : (advance ns s).keep.prev = s.keep.prev := by
  unfold advance countAclk; split <;> rfl
@[simp] theorem advance_keep_cause (ns : Nat) (s : State) : (advance ns s).keep.cause = s.keep.cause := by
  unfold advance countAclk; split <;> rfl
@[simp] theorem advance_keep_resetKind (ns : Nat) (s : State) : (advance ns s).keep.resetKind = s.keep.resetKind := by
  unfold advance countAclk; split <;> rfl
@[simp] theorem advance_keep_resetCode (ns : Nat) (s : State) : (advance ns s).keep.resetCode = s.keep.resetCode := by
  unfold advance countAclk; split <;> rfl
@[simp] theorem advance_keep_bootKind (ns : Nat) (s : State) : (advance ns s).keep.bootKind = s.keep.bootKind := by
  unfold advance countAclk; split <;> rfl
@[simp] theorem advance_keep_bootStage (ns : Nat) (s : State) : (advance ns s).keep.bootStage = s.keep.bootStage := by
  unfold advance countAclk; split <;> rfl
@[simp] theorem advance_keep_bootFailed (ns : Nat) (s : State) : (advance ns s).keep.bootFailed = s.keep.bootFailed := by
  unfold advance countAclk; split <;> rfl
@[simp] theorem advance_keep_bootMs (ns : Nat) (s : State) : (advance ns s).keep.bootMs = s.keep.bootMs := by
  unfold advance countAclk; split <;> rfl
@[simp] theorem advance_keep_bootStart (ns : Nat) (s : State) : (advance ns s).keep.bootStart = s.keep.bootStart := by
  unfold advance countAclk; split <;> rfl
@[simp] theorem advance_keep_cmsn (ns : Nat) (s : State) : (advance ns s).keep.cmsn = s.keep.cmsn := by
  unfold advance countAclk; split <;> rfl
@[simp] theorem advance_keep_bootCount (ns : Nat) (s : State) : (advance ns s).keep.bootCount = s.keep.bootCount := by
  unfold advance countAclk; split <;> rfl
@[simp] theorem advance_keep_settingsA (ns : Nat) (s : State) : (advance ns s).keep.settingsA = s.keep.settingsA := by
  unfold advance countAclk; split <;> rfl
@[simp] theorem advance_keep_settingsB (ns : Nat) (s : State) : (advance ns s).keep.settingsB = s.keep.settingsB := by
  unfold advance countAclk; split <;> rfl
@[simp] theorem advance_keep_generation (ns : Nat) (s : State) : (advance ns s).keep.generation = s.keep.generation := by
  unfold advance countAclk; split <;> rfl
@[simp] theorem advance_keep_committed (ns : Nat) (s : State) : (advance ns s).keep.committed = s.keep.committed := by
  unfold advance countAclk; split <;> rfl
@[simp] theorem advance_keep_armed (ns : Nat) (s : State) : (advance ns s).keep.armed = s.keep.armed := by
  unfold advance countAclk; split <;> rfl
@[simp] theorem advance_keep_temp (ns : Nat) (s : State) : (advance ns s).keep.temp = s.keep.temp := by
  unfold advance countAclk; split <;> rfl
@[simp] theorem advance_keep_volt (ns : Nat) (s : State) : (advance ns s).keep.volt = s.keep.volt := by
  unfold advance countAclk; split <;> rfl
@[simp] theorem advance_keep_tseen (ns : Nat) (s : State) : (advance ns s).keep.tseen = s.keep.tseen := by
  unfold advance countAclk; split <;> rfl
@[simp] theorem advance_keep_vseen (ns : Nat) (s : State) : (advance ns s).keep.vseen = s.keep.vseen := by
  unfold advance countAclk; split <;> rfl
@[simp] theorem advance_keep_lastSummary (ns : Nat) (s : State) : (advance ns s).keep.lastSummary = s.keep.lastSummary := by
  unfold advance countAclk; split <;> rfl
@[simp] theorem advance_keep_lastTemp (ns : Nat) (s : State) : (advance ns s).keep.lastTemp = s.keep.lastTemp := by
  unfold advance countAclk; split <;> rfl
@[simp] theorem advance_keep_slots (ns : Nat) (s : State) : (advance ns s).keep.slots = s.keep.slots := by
  unfold advance countAclk; split <;> rfl
@[simp] theorem advance_keep_rollback (ns : Nat) (s : State) : (advance ns s).keep.rollback = s.keep.rollback := by
  unfold advance countAclk; split <;> rfl
@[simp] theorem advance_keep_stblRequest (ns : Nat) (s : State) : (advance ns s).keep.stblRequest = s.keep.stblRequest := by
  unfold advance countAclk; split <;> rfl
@[simp] theorem advance_keep_stblAt (ns : Nat) (s : State) : (advance ns s).keep.stblAt = s.keep.stblAt := by
  unfold advance countAclk; split <;> rfl
@[simp] theorem advance_keep_stblReason (ns : Nat) (s : State) : (advance ns s).keep.stblReason = s.keep.stblReason := by
  unfold advance countAclk; split <;> rfl
@[simp] theorem advance_keep_stblEntry (ns : Nat) (s : State) : (advance ns s).keep.stblEntry = s.keep.stblEntry := by
  unfold advance countAclk; split <;> rfl
@[simp] theorem advance_keep_clkSeen (ns : Nat) (s : State) : (advance ns s).keep.clkSeen = s.keep.clkSeen := by
  unfold advance countAclk; split <;> rfl
@[simp] theorem advance_keep_clkNow (ns : Nat) (s : State) : (advance ns s).keep.clkNow = s.keep.clkNow := by
  unfold advance countAclk; split <;> rfl
@[simp] theorem advance_keep_owed (ns : Nat) (s : State) : (advance ns s).keep.owed = s.keep.owed := by
  unfold advance countAclk; split <;> rfl
@[simp] theorem advance_keep_reinit (ns : Nat) (s : State) : (advance ns s).keep.reinit = s.keep.reinit := by
  unfold advance countAclk; split <;> rfl
@[simp] theorem advance_keep_tripLow (ns : Nat) (s : State) : (advance ns s).keep.tripLow = s.keep.tripLow := by
  unfold advance countAclk; split <;> rfl
@[simp] theorem advance_keep_liveLow (ns : Nat) (s : State) : (advance ns s).keep.liveLow = s.keep.liveLow := by
  unfold advance countAclk; split <;> rfl
@[simp] theorem advance_keep_resetHeld (ns : Nat) (s : State) : (advance ns s).keep.resetHeld = s.keep.resetHeld := by
  unfold advance countAclk; split <;> rfl
@[simp] theorem advance_keep_romRecovery (ns : Nat) (s : State) : (advance ns s).keep.romRecovery = s.keep.romRecovery := by
  unfold advance countAclk; split <;> rfl
@[simp] theorem advance_keep_lastCode (ns : Nat) (s : State) : (advance ns s).keep.lastCode = s.keep.lastCode := by
  unfold advance countAclk; split <;> rfl
@[simp] theorem advance_keep_isolated (ns : Nat) (s : State) : (advance ns s).keep.isolated = s.keep.isolated := by
  unfold advance countAclk; split <;> rfl
@[simp] theorem advance_ctlGet (ns r : Nat) (s : State) : ctlGet r (advance ns s) = ctlGet r s := by
  unfold advance countAclk; split <;> rfl

/-- Outside STABLED only time moves. -/
theorem advance_of_awake (ns : Nat) (s : State) (h : s.keep.mode ≠ .stabled) :
    advance ns s = { s with time := { s.time with t6 := max s.time.t6 (6 * ns) } } := by
  simp [advance, h]

@[simp] theorem tickCclk_pending (s : State) : (tickCclk s).pending = s.pending := by
  unfold tickCclk; split <;> rfl
@[simp] theorem tickCclk_free (s : State) : (tickCclk s).free = s.free := by
  unfold tickCclk; split <;> rfl
@[simp] theorem tickCclk_fused (s : State) : (tickCclk s).fused = s.fused := by
  unfold tickCclk; split <;> rfl
@[simp] theorem tickCclk_ctl (s : State) : (tickCclk s).ctl = s.ctl := by
  unfold tickCclk; split <;> rfl
@[simp] theorem tickCclk_latches (s : State) : (tickCclk s).latches = s.latches := by
  unfold tickCclk; split <;> rfl
@[simp] theorem tickCclk_sram (s : State) : (tickCclk s).sram = s.sram := by
  unfold tickCclk; split <;> rfl
@[simp] theorem tickCclk_seq (s : State) : (tickCclk s).seq = s.seq := by
  unfold tickCclk; split <;> rfl
@[simp] theorem tickCclk_image (s : State) : (tickCclk s).image = s.image := by
  unfold tickCclk; split <;> rfl
@[simp] theorem tickCclk_cores (s : State) : (tickCclk s).cores = s.cores := by
  unfold tickCclk; split <;> rfl
@[simp] theorem tickCclk_splits (s : State) : (tickCclk s).splits = s.splits := by
  unfold tickCclk; split <;> rfl
@[simp] theorem tickCclk_timers (s : State) : (tickCclk s).timers = s.timers := by
  unfold tickCclk; split <;> rfl
@[simp] theorem tickCclk_scratchTags (s : State) : (tickCclk s).scratchTags = s.scratchTags := by
  unfold tickCclk; split <;> rfl
@[simp] theorem tickCclk_snap (s : State) : (tickCclk s).snap = s.snap := by
  unfold tickCclk; split <;> rfl
@[simp] theorem tickCclk_svc (s : State) : (tickCclk s).svc = s.svc := by
  unfold tickCclk; split <;> rfl
@[simp] theorem tickCclk_jnl (s : State) : (tickCclk s).jnl = s.jnl := by
  unfold tickCclk; split <;> rfl
@[simp] theorem tickCclk_keep (s : State) : (tickCclk s).keep = s.keep := by
  unfold tickCclk; split <;> rfl
@[simp] theorem tickCclk_mot (s : State) : (tickCclk s).mot = s.mot := by
  unfold tickCclk; split <;> rfl
@[simp] theorem tickCclk_fbk (s : State) : (tickCclk s).fbk = s.fbk := by
  unfold tickCclk; split <;> rfl
@[simp] theorem tickCclk_fld (s : State) : (tickCclk s).fld = s.fld := by
  unfold tickCclk; split <;> rfl
@[simp] theorem tickCclk_net (s : State) : (tickCclk s).net = s.net := by
  unfold tickCclk; split <;> rfl
@[simp] theorem tickCclk_tri (s : State) : (tickCclk s).tri = s.tri := by
  unfold tickCclk; split <;> rfl
@[simp] theorem tickCclk_bth (s : State) : (tickCclk s).bth = s.bth := by
  unfold tickCclk; split <;> rfl
@[simp] theorem tickCclk_ctlGet (r : Nat) (s : State) : ctlGet r (tickCclk s) = ctlGet r s := by
  unfold tickCclk; split <;> rfl

/-! ### The entry that an update names -/

@[simp] theorem axis_setAxis (n m : Nat) (f : Axis → Axis) (s : State) : (setAxis n f s).axis m = if m = n then f (s.axis n) else s.axis m := by
  simp [setAxis, State.axis, look_upd]
@[simp] theorem chan_setChan (n m : Nat) (f : PosChan → PosChan) (s : State) : (setChan n f s).chan m = if m = n then f (s.chan n) else s.chan m := by
  simp [setChan, State.chan, look_upd]
@[simp] theorem head_setHead (n m : Nat) (f : Head → Head) (s : State) : (setHead n f s).head m = if m = n then f (s.head n) else s.head m := by
  simp [setHead, State.head, look_upd]
@[simp] theorem section_setSection (n m : Nat) (f : Section → Section) (s : State) : (setSection n f s).section_ m = if m = n then f (s.section_ n) else s.section_ m := by
  simp [setSection, State.section_, look_upd]
@[simp] theorem stand_setStand (n m : Nat) (f : Standstill → Standstill) (s : State) : (setStand n f s).stand m = if m = n then f (s.stand n) else s.stand m := by
  simp [setStand, State.stand, look_upd]
@[simp] theorem enc_setEnc (n m : Nat) (f : EncOut → EncOut) (s : State) : (setEnc n f s).enc m = if m = n then f (s.enc n) else s.enc m := by
  simp [setEnc, State.enc, look_upd]
@[simp] theorem block_setBlock (n m : Nat) (f : Block → Block) (s : State) : (setBlock n f s).block m = if m = n then f (s.block n) else s.block m := by
  simp [setBlock, State.block, look_upd]
@[simp] theorem berth_setBerth (n m : Nat) (f : Berth → Berth) (s : State) : (setBerth n f s).berth m = if m = n then f (s.berth n) else s.berth m := by
  simp [setBerth, State.berth, look_upd]
@[simp] theorem port_setPort (n m : Nat) (f : Port → Port) (s : State) : (setPort n f s).port m = if m = n then f (s.port n) else s.port m := by
  simp [setPort, State.port, look_upd]
@[simp] theorem conn_setConn (n m : Nat) (f : Conn → Conn) (s : State) : (setConn n f s).conn m = if m = n then f (s.conn n) else s.conn m := by
  simp [setConn, State.conn, look_upd]
@[simp] theorem tp_setTp (n m : Nat) (f : TpPort → TpPort) (s : State) : (setTp n f s).tp m = if m = n then f (s.tp n) else s.tp m := by
  simp [setTp, State.tp, look_upd]
@[simp] theorem peer_setPeer (n m : Nat) (f : Peer → Peer) (s : State) : (setPeer n f s).peer m = if m = n then f (s.peer n) else s.peer m := by
  simp [setPeer, State.peer, look_upd]
@[simp] theorem evSrc_setSrc (n m : Nat) (f : EvSource → EvSource) (s : State) : (setSrc n f s).evSrc m = if m = n then f (s.evSrc n) else s.evSrc m := by
  simp [setSrc, State.evSrc, look_upd]

@[simp] theorem ctlGet_ctlSet (a b : Nat) (v : Word) (s : State) : ctlGet b (ctlSet a v s) = if b = a then v else ctlGet b s := by
  simp [ctlGet, ctlSet, look_put, ctlReset]

@[simp] theorem raise_toggles (src : Nat) (s : State) : (raise src s).svc.toggles = s.svc.toggles ++ [(src, s.now)] := rfl
@[simp] theorem setKeep_keep (f : Keeper → Keeper) (s : State) : (setKeep f s).keep = f s.keep := rfl
@[simp] theorem setTriF_tri (f : Tri → Tri) (s : State) : (setTriF f s).tri = f s.tri := rfl
/-- Outside STABLED, time moves to the stamp, never back (R41). -/
theorem advance_now (ns : Nat) (s : State) (h : s.keep.mode ≠ .stabled) : (advance ns s).now = max s.now ns := by
  rw [advance_of_awake ns s h]
  simp only [State.now]
  omega

/-- Time never moves back (R41). -/
theorem now_le_advance (ns : Nat) (s : State) : s.now ≤ (advance ns s).now := by
  unfold advance countAclk
  split <;> simp only [State.now] <;> omega

/-! ### Records -/

/-- A record changes the journal and the last condition codes of the lock-keeper and the sequencer, and nothing else. -/
theorem recordC_frame (code flags count : Nat) (extra : List Byte) (s : State) :
    ∃ j k q, recordC code flags count extra s
      = { s with jnl := j, keep := { s.keep with lastCode := k }, seq := { s.seq with lastCode := q } } := by
  have hn : ∃ k q, noteCode code s = { s with keep := { s.keep with lastCode := k }, seq := { s.seq with lastCode := q } } := by
    unfold noteCode
    split
    · exact ⟨code, s.seq.lastCode, rfl⟩
    · split
      · exact ⟨s.keep.lastCode, code, rfl⟩
      · exact ⟨s.keep.lastCode, s.seq.lastCode, rfl⟩
  obtain ⟨k, q, hn⟩ := hn
  have hst : ∀ (r : Rec) (u : State), ∃ j, stageRec r u = { u with jnl := j } := by
    intro r u
    unfold stageRec loseRec
    split
    · exact ⟨_, rfl⟩
    · split <;> exact ⟨_, rfl⟩
    · exact ⟨_, rfl⟩
    · exact ⟨_, rfl⟩
  have hk : ∀ (r : Rec) (u : State), ∃ j, klogPut r u = { u with jnl := j } := fun r u => ⟨_, rfl⟩
  have h1 : ∃ j, (if keeperOnly code || keeperBoth code then klogPut (condRec code flags count extra s) (noteCode code s) else noteCode code s)
      = { noteCode code s with jnl := j } := by
    split
    · exact hk _ _
    · exact ⟨_, rfl⟩
  obtain ⟨j1, h1⟩ := h1
  simp only [recordC, h1]
  obtain ⟨j2, h2⟩ := hst (condRec code flags count extra s) { noteCode code s with jnl := j1 }
  rw [h2]
  split
  · exact ⟨_, k, q, by rw [hn]⟩
  · split
    · exact ⟨j1, k, q, by rw [hn]⟩
    · exact ⟨j2, k, q, by rw [hn]⟩

@[simp] theorem recordC_pending (code flags count : Nat) (e : List Byte) (s : State) : (recordC code flags count e s).pending = s.pending := by
  obtain ⟨j, k, q, h⟩ := recordC_frame code flags count e s
  rw [h]
@[simp] theorem recordC_free (code flags count : Nat) (e : List Byte) (s : State) : (recordC code flags count e s).free = s.free := by
  obtain ⟨j, k, q, h⟩ := recordC_frame code flags count e s
  rw [h]
@[simp] theorem recordC_fused (code flags count : Nat) (e : List Byte) (s : State) : (recordC code flags count e s).fused = s.fused := by
  obtain ⟨j, k, q, h⟩ := recordC_frame code flags count e s
  rw [h]
@[simp] theorem recordC_time (code flags count : Nat) (e : List Byte) (s : State) : (recordC code flags count e s).time = s.time := by
  obtain ⟨j, k, q, h⟩ := recordC_frame code flags count e s
  rw [h]
@[simp] theorem recordC_ctl (code flags count : Nat) (e : List Byte) (s : State) : (recordC code flags count e s).ctl = s.ctl := by
  obtain ⟨j, k, q, h⟩ := recordC_frame code flags count e s
  rw [h]
@[simp] theorem recordC_latches (code flags count : Nat) (e : List Byte) (s : State) : (recordC code flags count e s).latches = s.latches := by
  obtain ⟨j, k, q, h⟩ := recordC_frame code flags count e s
  rw [h]
@[simp] theorem recordC_sram (code flags count : Nat) (e : List Byte) (s : State) : (recordC code flags count e s).sram = s.sram := by
  obtain ⟨j, k, q, h⟩ := recordC_frame code flags count e s
  rw [h]
@[simp] theorem recordC_image (code flags count : Nat) (e : List Byte) (s : State) : (recordC code flags count e s).image = s.image := by
  obtain ⟨j, k, q, h⟩ := recordC_frame code flags count e s
  rw [h]
@[simp] theorem recordC_cores (code flags count : Nat) (e : List Byte) (s : State) : (recordC code flags count e s).cores = s.cores := by
  obtain ⟨j, k, q, h⟩ := recordC_frame code flags count e s
  rw [h]
@[simp] theorem recordC_splits (code flags count : Nat) (e : List Byte) (s : State) : (recordC code flags count e s).splits = s.splits := by
  obtain ⟨j, k, q, h⟩ := recordC_frame code flags count e s
  rw [h]
@[simp] theorem recordC_timers (code flags count : Nat) (e : List Byte) (s : State) : (recordC code flags count e s).timers = s.timers := by
  obtain ⟨j, k, q, h⟩ := recordC_frame code flags count e s
  rw [h]
@[simp] theorem recordC_scratchTags (code flags count : Nat) (e : List Byte) (s : State) : (recordC code flags count e s).scratchTags = s.scratchTags := by
  obtain ⟨j, k, q, h⟩ := recordC_frame code flags count e s
  rw [h]
@[simp] theorem recordC_snap (code flags count : Nat) (e : List Byte) (s : State) : (recordC code flags count e s).snap = s.snap := by
  obtain ⟨j, k, q, h⟩ := recordC_frame code flags count e s
  rw [h]
@[simp] theorem recordC_svc (code flags count : Nat) (e : List Byte) (s : State) : (recordC code flags count e s).svc = s.svc := by
  obtain ⟨j, k, q, h⟩ := recordC_frame code flags count e s
  rw [h]
@[simp] theorem recordC_mot (code flags count : Nat) (e : List Byte) (s : State) : (recordC code flags count e s).mot = s.mot := by
  obtain ⟨j, k, q, h⟩ := recordC_frame code flags count e s
  rw [h]
@[simp] theorem recordC_fbk (code flags count : Nat) (e : List Byte) (s : State) : (recordC code flags count e s).fbk = s.fbk := by
  obtain ⟨j, k, q, h⟩ := recordC_frame code flags count e s
  rw [h]
@[simp] theorem recordC_fld (code flags count : Nat) (e : List Byte) (s : State) : (recordC code flags count e s).fld = s.fld := by
  obtain ⟨j, k, q, h⟩ := recordC_frame code flags count e s
  rw [h]
@[simp] theorem recordC_net (code flags count : Nat) (e : List Byte) (s : State) : (recordC code flags count e s).net = s.net := by
  obtain ⟨j, k, q, h⟩ := recordC_frame code flags count e s
  rw [h]
@[simp] theorem recordC_tri (code flags count : Nat) (e : List Byte) (s : State) : (recordC code flags count e s).tri = s.tri := by
  obtain ⟨j, k, q, h⟩ := recordC_frame code flags count e s
  rw [h]
@[simp] theorem recordC_bth (code flags count : Nat) (e : List Byte) (s : State) : (recordC code flags count e s).bth = s.bth := by
  obtain ⟨j, k, q, h⟩ := recordC_frame code flags count e s
  rw [h]
@[simp] theorem recordC_keep_mode (code flags count : Nat) (e : List Byte) (s : State) : (recordC code flags count e s).keep.mode = s.keep.mode := by
  obtain ⟨j, k, q, h⟩ := recordC_frame code flags count e s
  rw [h]
@[simp] theorem recordC_keep_prev (code flags count : Nat) (e : List Byte) (s : State) : (recordC code flags count e s).keep.prev = s.keep.prev := by
  obtain ⟨j, k, q, h⟩ := recordC_frame code flags count e s
  rw [h]
@[simp] theorem recordC_keep_cause (code flags count : Nat) (e : List Byte) (s : State) : (recordC code flags count e s).keep.cause = s.keep.cause := by
  obtain ⟨j, k, q, h⟩ := recordC_frame code flags count e s
  rw [h]
@[simp] theorem recordC_keep_resetKind (code flags count : Nat) (e : List Byte) (s : State) : (recordC code flags count e s).keep.resetKind = s.keep.resetKind := by
  obtain ⟨j, k, q, h⟩ := recordC_frame code flags count e s
  rw [h]
@[simp] theorem recordC_keep_resetCode (code flags count : Nat) (e : List Byte) (s : State) : (recordC code flags count e s).keep.resetCode = s.keep.resetCode := by
  obtain ⟨j, k, q, h⟩ := recordC_frame code flags count e s
  rw [h]
@[simp] theorem recordC_keep_bootKind (code flags count : Nat) (e : List Byte) (s : State) : (recordC code flags count e s).keep.bootKind = s.keep.bootKind := by
  obtain ⟨j, k, q, h⟩ := recordC_frame code flags count e s
  rw [h]
@[simp] theorem recordC_keep_bootStage (code flags count : Nat) (e : List Byte) (s : State) : (recordC code flags count e s).keep.bootStage = s.keep.bootStage := by
  obtain ⟨j, k, q, h⟩ := recordC_frame code flags count e s
  rw [h]
@[simp] theorem recordC_keep_bootFailed (code flags count : Nat) (e : List Byte) (s : State) : (recordC code flags count e s).keep.bootFailed = s.keep.bootFailed := by
  obtain ⟨j, k, q, h⟩ := recordC_frame code flags count e s
  rw [h]
@[simp] theorem recordC_keep_bootMs (code flags count : Nat) (e : List Byte) (s : State) : (recordC code flags count e s).keep.bootMs = s.keep.bootMs := by
  obtain ⟨j, k, q, h⟩ := recordC_frame code flags count e s
  rw [h]
@[simp] theorem recordC_keep_bootStart (code flags count : Nat) (e : List Byte) (s : State) : (recordC code flags count e s).keep.bootStart = s.keep.bootStart := by
  obtain ⟨j, k, q, h⟩ := recordC_frame code flags count e s
  rw [h]
@[simp] theorem recordC_keep_cmsn (code flags count : Nat) (e : List Byte) (s : State) : (recordC code flags count e s).keep.cmsn = s.keep.cmsn := by
  obtain ⟨j, k, q, h⟩ := recordC_frame code flags count e s
  rw [h]
@[simp] theorem recordC_keep_bootCount (code flags count : Nat) (e : List Byte) (s : State) : (recordC code flags count e s).keep.bootCount = s.keep.bootCount := by
  obtain ⟨j, k, q, h⟩ := recordC_frame code flags count e s
  rw [h]
@[simp] theorem recordC_keep_settingsA (code flags count : Nat) (e : List Byte) (s : State) : (recordC code flags count e s).keep.settingsA = s.keep.settingsA := by
  obtain ⟨j, k, q, h⟩ := recordC_frame code flags count e s
  rw [h]
@[simp] theorem recordC_keep_settingsB (code flags count : Nat) (e : List Byte) (s : State) : (recordC code flags count e s).keep.settingsB = s.keep.settingsB := by
  obtain ⟨j, k, q, h⟩ := recordC_frame code flags count e s
  rw [h]
@[simp] theorem recordC_keep_generation (code flags count : Nat) (e : List Byte) (s : State) : (recordC code flags count e s).keep.generation = s.keep.generation := by
  obtain ⟨j, k, q, h⟩ := recordC_frame code flags count e s
  rw [h]
@[simp] theorem recordC_keep_committed (code flags count : Nat) (e : List Byte) (s : State) : (recordC code flags count e s).keep.committed = s.keep.committed := by
  obtain ⟨j, k, q, h⟩ := recordC_frame code flags count e s
  rw [h]
@[simp] theorem recordC_keep_armed (code flags count : Nat) (e : List Byte) (s : State) : (recordC code flags count e s).keep.armed = s.keep.armed := by
  obtain ⟨j, k, q, h⟩ := recordC_frame code flags count e s
  rw [h]
@[simp] theorem recordC_keep_temp (code flags count : Nat) (e : List Byte) (s : State) : (recordC code flags count e s).keep.temp = s.keep.temp := by
  obtain ⟨j, k, q, h⟩ := recordC_frame code flags count e s
  rw [h]
@[simp] theorem recordC_keep_volt (code flags count : Nat) (e : List Byte) (s : State) : (recordC code flags count e s).keep.volt = s.keep.volt := by
  obtain ⟨j, k, q, h⟩ := recordC_frame code flags count e s
  rw [h]
@[simp] theorem recordC_keep_tseen (code flags count : Nat) (e : List Byte) (s : State) : (recordC code flags count e s).keep.tseen = s.keep.tseen := by
  obtain ⟨j, k, q, h⟩ := recordC_frame code flags count e s
  rw [h]
@[simp] theorem recordC_keep_vseen (code flags count : Nat) (e : List Byte) (s : State) : (recordC code flags count e s).keep.vseen = s.keep.vseen := by
  obtain ⟨j, k, q, h⟩ := recordC_frame code flags count e s
  rw [h]
@[simp] theorem recordC_keep_lastSummary (code flags count : Nat) (e : List Byte) (s : State) : (recordC code flags count e s).keep.lastSummary = s.keep.lastSummary := by
  obtain ⟨j, k, q, h⟩ := recordC_frame code flags count e s
  rw [h]
@[simp] theorem recordC_keep_lastTemp (code flags count : Nat) (e : List Byte) (s : State) : (recordC code flags count e s).keep.lastTemp = s.keep.lastTemp := by
  obtain ⟨j, k, q, h⟩ := recordC_frame code flags count e s
  rw [h]
@[simp] theorem recordC_keep_slots (code flags count : Nat) (e : List Byte) (s : State) : (recordC code flags count e s).keep.slots = s.keep.slots := by
  obtain ⟨j, k, q, h⟩ := recordC_frame code flags count e s
  rw [h]
@[simp] theorem recordC_keep_rollback (code flags count : Nat) (e : List Byte) (s : State) : (recordC code flags count e s).keep.rollback = s.keep.rollback := by
  obtain ⟨j, k, q, h⟩ := recordC_frame code flags count e s
  rw [h]
@[simp] theorem recordC_keep_stblRequest (code flags count : Nat) (e : List Byte) (s : State) : (recordC code flags count e s).keep.stblRequest = s.keep.stblRequest := by
  obtain ⟨j, k, q, h⟩ := recordC_frame code flags count e s
  rw [h]
@[simp] theorem recordC_keep_stblAt (code flags count : Nat) (e : List Byte) (s : State) : (recordC code flags count e s).keep.stblAt = s.keep.stblAt := by
  obtain ⟨j, k, q, h⟩ := recordC_frame code flags count e s
  rw [h]
@[simp] theorem recordC_keep_stblReason (code flags count : Nat) (e : List Byte) (s : State) : (recordC code flags count e s).keep.stblReason = s.keep.stblReason := by
  obtain ⟨j, k, q, h⟩ := recordC_frame code flags count e s
  rw [h]
@[simp] theorem recordC_keep_stblEntry (code flags count : Nat) (e : List Byte) (s : State) : (recordC code flags count e s).keep.stblEntry = s.keep.stblEntry := by
  obtain ⟨j, k, q, h⟩ := recordC_frame code flags count e s
  rw [h]
@[simp] theorem recordC_keep_stblAclk (code flags count : Nat) (e : List Byte) (s : State) : (recordC code flags count e s).keep.stblAclk = s.keep.stblAclk := by
  obtain ⟨j, k, q, h⟩ := recordC_frame code flags count e s
  rw [h]
@[simp] theorem recordC_keep_clkSeen (code flags count : Nat) (e : List Byte) (s : State) : (recordC code flags count e s).keep.clkSeen = s.keep.clkSeen := by
  obtain ⟨j, k, q, h⟩ := recordC_frame code flags count e s
  rw [h]
@[simp] theorem recordC_keep_clkNow (code flags count : Nat) (e : List Byte) (s : State) : (recordC code flags count e s).keep.clkNow = s.keep.clkNow := by
  obtain ⟨j, k, q, h⟩ := recordC_frame code flags count e s
  rw [h]
@[simp] theorem recordC_keep_owed (code flags count : Nat) (e : List Byte) (s : State) : (recordC code flags count e s).keep.owed = s.keep.owed := by
  obtain ⟨j, k, q, h⟩ := recordC_frame code flags count e s
  rw [h]
@[simp] theorem recordC_keep_reinit (code flags count : Nat) (e : List Byte) (s : State) : (recordC code flags count e s).keep.reinit = s.keep.reinit := by
  obtain ⟨j, k, q, h⟩ := recordC_frame code flags count e s
  rw [h]
@[simp] theorem recordC_keep_tripLow (code flags count : Nat) (e : List Byte) (s : State) : (recordC code flags count e s).keep.tripLow = s.keep.tripLow := by
  obtain ⟨j, k, q, h⟩ := recordC_frame code flags count e s
  rw [h]
@[simp] theorem recordC_keep_liveLow (code flags count : Nat) (e : List Byte) (s : State) : (recordC code flags count e s).keep.liveLow = s.keep.liveLow := by
  obtain ⟨j, k, q, h⟩ := recordC_frame code flags count e s
  rw [h]
@[simp] theorem recordC_keep_resetHeld (code flags count : Nat) (e : List Byte) (s : State) : (recordC code flags count e s).keep.resetHeld = s.keep.resetHeld := by
  obtain ⟨j, k, q, h⟩ := recordC_frame code flags count e s
  rw [h]
@[simp] theorem recordC_keep_romRecovery (code flags count : Nat) (e : List Byte) (s : State) : (recordC code flags count e s).keep.romRecovery = s.keep.romRecovery := by
  obtain ⟨j, k, q, h⟩ := recordC_frame code flags count e s
  rw [h]
@[simp] theorem recordC_keep_isolated (code flags count : Nat) (e : List Byte) (s : State) : (recordC code flags count e s).keep.isolated = s.keep.isolated := by
  obtain ⟨j, k, q, h⟩ := recordC_frame code flags count e s
  rw [h]
@[simp] theorem recordC_seq_period (code flags count : Nat) (e : List Byte) (s : State) : (recordC code flags count e s).seq.period = s.seq.period := by
  obtain ⟨j, k, q, h⟩ := recordC_frame code flags count e s
  rw [h]
@[simp] theorem recordC_seq_reloff (code flags count : Nat) (e : List Byte) (s : State) : (recordC code flags count e s).seq.reloff = s.seq.reloff := by
  obtain ⟨j, k, q, h⟩ := recordC_frame code flags count e s
  rw [h]
@[simp] theorem recordC_seq_quantum (code flags count : Nat) (e : List Byte) (s : State) : (recordC code flags count e s).seq.quantum = s.seq.quantum := by
  obtain ⟨j, k, q, h⟩ := recordC_frame code flags count e s
  rw [h]
@[simp] theorem recordC_seq_depth (code flags count : Nat) (e : List Byte) (s : State) : (recordC code flags count e s).seq.depth = s.seq.depth := by
  obtain ⟨j, k, q, h⟩ := recordC_frame code flags count e s
  rw [h]
@[simp] theorem recordC_seq_limit (code flags count : Nat) (e : List Byte) (s : State) : (recordC code flags count e s).seq.limit = s.seq.limit := by
  obtain ⟨j, k, q, h⟩ := recordC_frame code flags count e s
  rw [h]
@[simp] theorem recordC_seq_window (code flags count : Nat) (e : List Byte) (s : State) : (recordC code flags count e s).seq.window = s.seq.window := by
  obtain ⟨j, k, q, h⟩ := recordC_frame code flags count e s
  rw [h]
@[simp] theorem recordC_seq_wlim (code flags count : Nat) (e : List Byte) (s : State) : (recordC code flags count e s).seq.wlim = s.seq.wlim := by
  obtain ⟨j, k, q, h⟩ := recordC_frame code flags count e s
  rw [h]
@[simp] theorem recordC_seq_phase (code flags count : Nat) (e : List Byte) (s : State) : (recordC code flags count e s).seq.phase = s.seq.phase := by
  obtain ⟨j, k, q, h⟩ := recordC_frame code flags count e s
  rw [h]
@[simp] theorem recordC_seq_mcc (code flags count : Nat) (e : List Byte) (s : State) : (recordC code flags count e s).seq.mcc = s.seq.mcc := by
  obtain ⟨j, k, q, h⟩ := recordC_frame code flags count e s
  rw [h]
@[simp] theorem recordC_seq_captured (code flags count : Nat) (e : List Byte) (s : State) : (recordC code flags count e s).seq.captured = s.seq.captured := by
  obtain ⟨j, k, q, h⟩ := recordC_frame code flags count e s
  rw [h]
@[simp] theorem recordC_seq_start (code flags count : Nat) (e : List Byte) (s : State) : (recordC code flags count e s).seq.start = s.seq.start := by
  obtain ⟨j, k, q, h⟩ := recordC_frame code flags count e s
  rw [h]
@[simp] theorem recordC_seq_nextStart (code flags count : Nat) (e : List Byte) (s : State) : (recordC code flags count e s).seq.nextStart = s.seq.nextStart := by
  obtain ⟨j, k, q, h⟩ := recordC_frame code flags count e s
  rw [h]
@[simp] theorem recordC_seq_complete (code flags count : Nat) (e : List Byte) (s : State) : (recordC code flags count e s).seq.complete = s.seq.complete := by
  obtain ⟨j, k, q, h⟩ := recordC_frame code flags count e s
  rw [h]
@[simp] theorem recordC_seq_overrun (code flags count : Nat) (e : List Byte) (s : State) : (recordC code flags count e s).seq.overrun = s.seq.overrun := by
  obtain ⟨j, k, q, h⟩ := recordC_frame code flags count e s
  rw [h]
@[simp] theorem recordC_seq_overruns (code flags count : Nat) (e : List Byte) (s : State) : (recordC code flags count e s).seq.overruns = s.seq.overruns := by
  obtain ⟨j, k, q, h⟩ := recordC_frame code flags count e s
  rw [h]
@[simp] theorem recordC_seq_stale (code flags count : Nat) (e : List Byte) (s : State) : (recordC code flags count e s).seq.stale = s.seq.stale := by
  obtain ⟨j, k, q, h⟩ := recordC_frame code flags count e s
  rw [h]
@[simp] theorem recordC_seq_srcFlags (code flags count : Nat) (e : List Byte) (s : State) : (recordC code flags count e s).seq.srcFlags = s.seq.srcFlags := by
  obtain ⟨j, k, q, h⟩ := recordC_frame code flags count e s
  rw [h]
@[simp] theorem recordC_seq_notFresh (code flags count : Nat) (e : List Byte) (s : State) : (recordC code flags count e s).seq.notFresh = s.seq.notFresh := by
  obtain ⟨j, k, q, h⟩ := recordC_frame code flags count e s
  rw [h]
@[simp] theorem recordC_seq_inboxFill (code flags count : Nat) (e : List Byte) (s : State) : (recordC code flags count e s).seq.inboxFill = s.seq.inboxFill := by
  obtain ⟨j, k, q, h⟩ := recordC_frame code flags count e s
  rw [h]
@[simp] theorem recordC_seq_inboxFrozen (code flags count : Nat) (e : List Byte) (s : State) : (recordC code flags count e s).seq.inboxFrozen = s.seq.inboxFrozen := by
  obtain ⟨j, k, q, h⟩ := recordC_frame code flags count e s
  rw [h]
@[simp] theorem recordC_seq_outboxCur (code flags count : Nat) (e : List Byte) (s : State) : (recordC code flags count e s).seq.outboxCur = s.seq.outboxCur := by
  obtain ⟨j, k, q, h⟩ := recordC_frame code flags count e s
  rw [h]
@[simp] theorem recordC_seq_outboxHeld (code flags count : Nat) (e : List Byte) (s : State) : (recordC code flags count e s).seq.outboxHeld = s.seq.outboxHeld := by
  obtain ⟨j, k, q, h⟩ := recordC_frame code flags count e s
  rw [h]
@[simp] theorem recordC_seq_batchCount (code flags count : Nat) (e : List Byte) (s : State) : (recordC code flags count e s).seq.batchCount = s.seq.batchCount := by
  obtain ⟨j, k, q, h⟩ := recordC_frame code flags count e s
  rw [h]
@[simp] theorem recordC_seq_batchRefused (code flags count : Nat) (e : List Byte) (s : State) : (recordC code flags count e s).seq.batchRefused = s.seq.batchRefused := by
  obtain ⟨j, k, q, h⟩ := recordC_frame code flags count e s
  rw [h]
@[simp] theorem recordC_seq_motionList (code flags count : Nat) (e : List Byte) (s : State) : (recordC code flags count e s).seq.motionList = s.seq.motionList := by
  obtain ⟨j, k, q, h⟩ := recordC_frame code flags count e s
  rw [h]
@[simp] theorem recordC_seq_fieldList (code flags count : Nat) (e : List Byte) (s : State) : (recordC code flags count e s).seq.fieldList = s.seq.fieldList := by
  obtain ⟨j, k, q, h⟩ := recordC_frame code flags count e s
  rw [h]
@[simp] theorem recordC_seq_outWritten (code flags count : Nat) (e : List Byte) (s : State) : (recordC code flags count e s).seq.outWritten = s.seq.outWritten := by
  obtain ⟨j, k, q, h⟩ := recordC_frame code flags count e s
  rw [h]
@[simp] theorem recordC_seq_statusWords (code flags count : Nat) (e : List Byte) (s : State) : (recordC code flags count e s).seq.statusWords = s.seq.statusWords := by
  obtain ⟨j, k, q, h⟩ := recordC_frame code flags count e s
  rw [h]
@[simp] theorem recordC_seq_outHash (code flags count : Nat) (e : List Byte) (s : State) : (recordC code flags count e s).seq.outHash = s.seq.outHash := by
  obtain ⟨j, k, q, h⟩ := recordC_frame code flags count e s
  rw [h]
@[simp] theorem recordC_seq_scrubAddr (code flags count : Nat) (e : List Byte) (s : State) : (recordC code flags count e s).seq.scrubAddr = s.seq.scrubAddr := by
  obtain ⟨j, k, q, h⟩ := recordC_frame code flags count e s
  rw [h]
@[simp] theorem recordC_seq_scrubHits (code flags count : Nat) (e : List Byte) (s : State) : (recordC code flags count e s).seq.scrubHits = s.seq.scrubHits := by
  obtain ⟨j, k, q, h⟩ := recordC_frame code flags count e s
  rw [h]
@[simp] theorem recordC_seq_worn (code flags count : Nat) (e : List Byte) (s : State) : (recordC code flags count e s).seq.worn = s.seq.worn := by
  obtain ⟨j, k, q, h⟩ := recordC_frame code flags count e s
  rw [h]
@[simp] theorem recordC_seq_teval (code flags count : Nat) (e : List Byte) (s : State) : (recordC code flags count e s).seq.teval = s.seq.teval := by
  obtain ⟨j, k, q, h⟩ := recordC_frame code flags count e s
  rw [h]
@[simp] theorem recordC_seq_tclose (code flags count : Nat) (e : List Byte) (s : State) : (recordC code flags count e s).seq.tclose = s.seq.tclose := by
  obtain ⟨j, k, q, h⟩ := recordC_frame code flags count e s
  rw [h]
@[simp] theorem recordC_seq_tmax (code flags count : Nat) (e : List Byte) (s : State) : (recordC code flags count e s).seq.tmax = s.seq.tmax := by
  obtain ⟨j, k, q, h⟩ := recordC_frame code flags count e s
  rw [h]
@[simp] theorem recordC_seq_evalEnd (code flags count : Nat) (e : List Byte) (s : State) : (recordC code flags count e s).seq.evalEnd = s.seq.evalEnd := by
  obtain ⟨j, k, q, h⟩ := recordC_frame code flags count e s
  rw [h]
@[simp] theorem recordC_seq_agreeEnd (code flags count : Nat) (e : List Byte) (s : State) : (recordC code flags count e s).seq.agreeEnd = s.seq.agreeEnd := by
  obtain ⟨j, k, q, h⟩ := recordC_frame code flags count e s
  rw [h]
@[simp] theorem recordC_seq_closeEnd (code flags count : Nat) (e : List Byte) (s : State) : (recordC code flags count e s).seq.closeEnd = s.seq.closeEnd := by
  obtain ⟨j, k, q, h⟩ := recordC_frame code flags count e s
  rw [h]
@[simp] theorem recordC_seq_updSamples (code flags count : Nat) (e : List Byte) (s : State) : (recordC code flags count e s).seq.updSamples = s.seq.updSamples := by
  obtain ⟨j, k, q, h⟩ := recordC_frame code flags count e s
  rw [h]
@[simp] theorem recordC_seq_ovrtot (code flags count : Nat) (e : List Byte) (s : State) : (recordC code flags count e s).seq.ovrtot = s.seq.ovrtot := by
  obtain ⟨j, k, q, h⟩ := recordC_frame code flags count e s
  rw [h]
@[simp] theorem recordC_seq_wmax (code flags count : Nat) (e : List Byte) (s : State) : (recordC code flags count e s).seq.wmax = s.seq.wmax := by
  obtain ⟨j, k, q, h⟩ := recordC_frame code flags count e s
  rw [h]
@[simp] theorem recordC_seq_coreload (code flags count : Nat) (e : List Byte) (s : State) : (recordC code flags count e s).seq.coreload = s.seq.coreload := by
  obtain ⟨j, k, q, h⟩ := recordC_frame code flags count e s
  rw [h]
@[simp] theorem recordC_seq_corrected (code flags count : Nat) (e : List Byte) (s : State) : (recordC code flags count e s).seq.corrected = s.seq.corrected := by
  obtain ⟨j, k, q, h⟩ := recordC_frame code flags count e s
  rw [h]
@[simp] theorem recordC_seq_correctedBank (code flags count : Nat) (e : List Byte) (s : State) : (recordC code flags count e s).seq.correctedBank = s.seq.correctedBank := by
  obtain ⟨j, k, q, h⟩ := recordC_frame code flags count e s
  rw [h]
@[simp] theorem recordC_seq_outvotes (code flags count : Nat) (e : List Byte) (s : State) : (recordC code flags count e s).seq.outvotes = s.seq.outvotes := by
  obtain ⟨j, k, q, h⟩ := recordC_frame code flags count e s
  rw [h]
@[simp] theorem recordC_seq_heldSamples (code flags count : Nat) (e : List Byte) (s : State) : (recordC code flags count e s).seq.heldSamples = s.seq.heldSamples := by
  obtain ⟨j, k, q, h⟩ := recordC_frame code flags count e s
  rw [h]
@[simp] theorem recordC_seq_clMode (code flags count : Nat) (e : List Byte) (s : State) : (recordC code flags count e s).seq.clMode = s.seq.clMode := by
  obtain ⟨j, k, q, h⟩ := recordC_frame code flags count e s
  rw [h]
@[simp] theorem recordC_seq_clReq (code flags count : Nat) (e : List Byte) (s : State) : (recordC code flags count e s).seq.clReq = s.seq.clReq := by
  obtain ⟨j, k, q, h⟩ := recordC_frame code flags count e s
  rw [h]
@[simp] theorem recordC_seq_clTarget (code flags count : Nat) (e : List Byte) (s : State) : (recordC code flags count e s).seq.clTarget = s.seq.clTarget := by
  obtain ⟨j, k, q, h⟩ := recordC_frame code flags count e s
  rw [h]
@[simp] theorem recordC_seq_faulted (code flags count : Nat) (e : List Byte) (s : State) : (recordC code flags count e s).seq.faulted = s.seq.faulted := by
  obtain ⟨j, k, q, h⟩ := recordC_frame code flags count e s
  rw [h]
@[simp] theorem recordC_seq_proofOk (code flags count : Nat) (e : List Byte) (s : State) : (recordC code flags count e s).seq.proofOk = s.seq.proofOk := by
  obtain ⟨j, k, q, h⟩ := recordC_frame code flags count e s
  rw [h]
@[simp] theorem recordC_seq_clLast (code flags count : Nat) (e : List Byte) (s : State) : (recordC code flags count e s).seq.clLast = s.seq.clLast := by
  obtain ⟨j, k, q, h⟩ := recordC_frame code flags count e s
  rw [h]
@[simp] theorem recordC_seq_lastPass (code flags count : Nat) (e : List Byte) (s : State) : (recordC code flags count e s).seq.lastPass = s.seq.lastPass := by
  obtain ⟨j, k, q, h⟩ := recordC_frame code flags count e s
  rw [h]
@[simp] theorem recordC_seq_lastCore (code flags count : Nat) (e : List Byte) (s : State) : (recordC code flags count e s).seq.lastCore = s.seq.lastCore := by
  obtain ⟨j, k, q, h⟩ := recordC_frame code flags count e s
  rw [h]
@[simp] theorem recordC_seq_lastAccord (code flags count : Nat) (e : List Byte) (s : State) : (recordC code flags count e s).seq.lastAccord = s.seq.lastAccord := by
  obtain ⟨j, k, q, h⟩ := recordC_frame code flags count e s
  rw [h]
@[simp] theorem recordC_seq_undos (code flags count : Nat) (e : List Byte) (s : State) : (recordC code flags count e s).seq.undos = s.seq.undos := by
  obtain ⟨j, k, q, h⟩ := recordC_frame code flags count e s
  rw [h]
@[simp] theorem recordC_seq_excCode (code flags count : Nat) (e : List Byte) (s : State) : (recordC code flags count e s).seq.excCode = s.seq.excCode := by
  obtain ⟨j, k, q, h⟩ := recordC_frame code flags count e s
  rw [h]
@[simp] theorem recordC_seq_excCore (code flags count : Nat) (e : List Byte) (s : State) : (recordC code flags count e s).seq.excCore = s.seq.excCore := by
  obtain ⟨j, k, q, h⟩ := recordC_frame code flags count e s
  rw [h]
@[simp] theorem recordC_seq_excCtx (code flags count : Nat) (e : List Byte) (s : State) : (recordC code flags count e s).seq.excCtx = s.seq.excCtx := by
  obtain ⟨j, k, q, h⟩ := recordC_frame code flags count e s
  rw [h]
@[simp] theorem recordC_seq_excPc (code flags count : Nat) (e : List Byte) (s : State) : (recordC code flags count e s).seq.excPc = s.seq.excPc := by
  obtain ⟨j, k, q, h⟩ := recordC_frame code flags count e s
  rw [h]
@[simp] theorem recordC_seq_excObj (code flags count : Nat) (e : List Byte) (s : State) : (recordC code flags count e s).seq.excObj = s.seq.excObj := by
  obtain ⟨j, k, q, h⟩ := recordC_frame code flags count e s
  rw [h]
@[simp] theorem recordC_seq_excTyp (code flags count : Nat) (e : List Byte) (s : State) : (recordC code flags count e s).seq.excTyp = s.seq.excTyp := by
  obtain ⟨j, k, q, h⟩ := recordC_frame code flags count e s
  rw [h]
@[simp] theorem recordC_seq_excAcode (code flags count : Nat) (e : List Byte) (s : State) : (recordC code flags count e s).seq.excAcode = s.seq.excAcode := by
  obtain ⟨j, k, q, h⟩ := recordC_frame code flags count e s
  rw [h]
@[simp] theorem recordC_seq_tripFlop (code flags count : Nat) (e : List Byte) (s : State) : (recordC code flags count e s).seq.tripFlop = s.seq.tripFlop := by
  obtain ⟨j, k, q, h⟩ := recordC_frame code flags count e s
  rw [h]
@[simp] theorem recordC_now (code flags count : Nat) (e : List Byte) (s : State) : (recordC code flags count e s).now = s.now := by
  simp [State.now]
@[simp] theorem recordC_ctlGet (code flags count : Nat) (e : List Byte) (r : Nat) (s : State) : ctlGet r (recordC code flags count e s) = ctlGet r s := by
  simp [ctlGet, ctlReset]

end Sys2Proof.Machine
end

