-- ==== Sys2Proof/Laws/Access.lean ====
section
/-!
SUPPORT. What the shared operations behind the commands do, once each: a granted access, a message at the gate, a reply, a record.
-/
namespace Sys2Proof.Machine

/-! ### Accesses (R541 to R543) -/

theorem accessWrite_of_granted {acc : Access} {a : Nat} {v : Word} {s : State} (h : WriteGranted acc a v s) :
    accessWrite acc a v s = regWrite a v (advance acc.at_ s) := by
  simp [accessWrite, h.1, h.2]

theorem accessRead_of_granted {acc : Access} {a : Nat} {s : State} (h : ReadGranted acc a s) :
    accessRead acc a s = (readWord (Requester.code acc.req) a (advance acc.at_ s)).2 := by
  simp [accessRead, h.1, h.2]

/-- The lock-keeper core reaches every defined word. -/
theorem writeGranted_keeper {a : Nat} (n : Nat) (v : Word) (s : State) (ha : a % 4 = 0) (hd : addrDefined a = true) :
    WriteGranted { req := .keeper, at_ := n } a v s := by
  constructor
  · rfl
  · simp [checkWrite, ha, hd, stabledRefuses]

theorem readGranted_keeper {a : Nat} (n : Nat) (s : State) (ha : a % 4 = 0) (hd : addrDefined a = true) :
    ReadGranted { req := .keeper, at_ := n } a s := by
  constructor
  · rfl
  · simp [checkRead, ha, hd, stabledRefuses, holds]

/-- A granted write of a register whose row and instance are known. -/
theorem regWrite_of_findReg {a : Nat} {r : RegRow} {i j : Nat} (h : findReg a = some (r, i, j)) (v : Word) (s : State) :
    regWrite a v s = if r.unit.fitted i s then writeReg r i j a v s else s := by
  simp [regWrite, h]

/-- The stored bits of a register after a write. -/
theorem ctlGet_storeBits (r : RegRow) (a : Nat) (v : Word) (s : State) :
    ctlGet a (storeBits r a v s) = (ctlGet a s &&& ~~~ r.mask [.rw, .rwc]) ||| (v &&& r.mask [.rw, .rwc]) := by
  simp only [storeBits]
  by_cases h : r.mask [.rw, .rwc] = 0
  · rw [if_pos h, h, show ~~~(0 : Word) = BitVec.allOnes 32 from rfl, BitVec.and_allOnes]
    simp
  · rw [if_neg h, ctlGet_ctlSet, if_pos rfl]

theorem ctlGet_storeBits_other (r : RegRow) {a o : Nat} (h : o ≠ a) (v : Word) (s : State) : ctlGet o (storeBits r a v s) = ctlGet o s := by
  simp only [storeBits]
  split
  · rfl
  · rw [ctlGet_ctlSet, if_neg h]

/-! ### Messages (R307, R311, R312) -/

theorem gate_of_admits {b typ : Nat} {m : MsgHead} {body : List Byte} {s : State} (h : Admits b typ m body s) (k : State → State) :
    gate b typ m body true true s k = k (touch b s) := by
  obtain ⟨h1, h2, h3, h4, h5⟩ := h
  have h6 : ¬ (s.keep.mode = .stabled ∧ 17 < typ) := fun e => Nat.not_lt.mpr (h4 e.1) e.2
  simp [gate, h1, h2, h3, h5, h6]

/-- Drawing `n` bytes advances the draw and nothing else. -/
theorem drawBytes_state (n : Nat) (s : State) : (drawBytes n s).2 = { s with free := s.free + n } := by
  induction n generalizing s with
  | zero => rfl
  | succ n ih => simp [drawBytes, ih, State.draw]; omega

/-- Counting a TLS record leaves the messages of every berth as they were. -/
theorem countRecord_berth (b n : Nat) (s : State) :
    ((countRecord b s).berth n).out = (s.berth n).out ∧ ((countRecord b s).berth n).slotWait = (s.berth n).slotWait := by
  unfold countRecord
  split
  · split
    · rw [berth_setBerth]
      split
      · rename_i h; subst h; exact ⟨rfl, rfl⟩
      · exact ⟨rfl, rfl⟩
    · simp only [berth_setBerth, drawBytes_state]
      split
      · rename_i h; subst h; exact ⟨rfl, rfl⟩
      · exact ⟨rfl, rfl⟩
  · exact ⟨rfl, rfl⟩

@[simp] theorem countRecord_out (b n : Nat) (s : State) : ((countRecord b s).berth n).out = (s.berth n).out := (countRecord_berth b n s).1
@[simp] theorem countRecord_slotWait (b n : Nat) (s : State) : ((countRecord b s).berth n).slotWait = (s.berth n).slotWait := (countRecord_berth b n s).2

/-- A reply leaves, or waits for a slot. -/
theorem sends_sendReply (b : Nat) (r : Reply) (s : State) : Sends b r s (sendReply b r s) := by
  unfold Sends sendReply
  by_cases hb : b = 1 ∨ b = 2
  · by_cases hw : (s.berth b).slotWait = [] <;> by_cases hf : (s.berth b).freeReplies = 0
    · simp [hb, hw, hf, Berth.push]
    · have : 1 ≤ (s.berth b).freeReplies := by omega
      simp [hb, hw, hf, this, Berth.push]
    · simp [hb, hw, hf]
    · simp [hb, hw, hf]
  · simp [hb]

/-! ### Records (R474) -/

/-- `v` is `u` but for the journal. -/
def JnlOnly (u v : State) : Prop := ∃ j, v = { u with jnl := j }

theorem jnlOnly_refl (u : State) : JnlOnly u u := ⟨u.jnl, rfl⟩

theorem jnlOnly_trans {u v w : State} : JnlOnly u v → JnlOnly v w → JnlOnly u w := by
  rintro ⟨j, rfl⟩ ⟨k, rfl⟩
  exact ⟨k, rfl⟩

theorem jnlOnly_klogPut (r : Rec) (u : State) : JnlOnly u (klogPut r u) := ⟨_, rfl⟩

theorem jnlOnly_stageRec (r : Rec) (u : State) : JnlOnly u (stageRec r u) := by
  unfold stageRec
  split
  · exact ⟨_, rfl⟩
  · split <;> exact ⟨_, rfl⟩
  · exact ⟨_, rfl⟩
  · exact ⟨_, rfl⟩

/-- What recording a code does besides noting it: the journal alone changes. -/
theorem jnlOnly_recordC (code flags count : Nat) (extra : List Byte) (s : State) : JnlOnly (noteCode code s) (recordC code flags count extra s) := by
  simp only [recordC]
  split
  · exact ⟨_, rfl⟩
  · have hs : ∀ (b : Bool) (r : Rec) (u : State), JnlOnly u (if b = true then u else stageRec r u) := by
      intro b r u
      cases b
      · exact jnlOnly_stageRec r u
      · exact jnlOnly_refl u
    cases hb : keeperOnly code || keeperBoth code
    · exact hs _ _ _
    · exact jnlOnly_trans (jnlOnly_klogPut (condRec code flags count extra s) _) (hs _ _ _)

/-- A code of a chapter other than 9 and 11 changes the journal alone. -/
theorem jnlOnly_record (code : Nat) (args : List Nat) (s : State) (h9 : code / 0x1000 ≠ 9) (h11 : code / 0x100 ≠ 0x11) :
    JnlOnly s (record code args s) := by
  have h := jnlOnly_recordC code 0 1 (args.flatMap (le 4)) s
  have hn : noteCode code s = s := by simp [noteCode, h9, h11]
  rwa [hn] at h

end Sys2Proof.Machine
end

