-- ==== Sys2Proof/Laws/Bytes.lean ====
section
/-!
SUPPORT. Laws of numbers as bytes: what is written in `n` bytes reads back, wherever in a list of bytes it stands.
-/
namespace Sys2Proof.Machine

@[simp] theorem length_le (n x : Nat) : (le n x).length = n := by
  induction n generalizing x with
  | zero => rfl
  | succ n ih => simp [le, ih]

@[simp] theorem length_be (n x : Nat) : (be n x).length = n := by simp [be]

@[simp] theorem length_zeros (n : Nat) : (zeros n).length = n := by simp [zeros]

theorem ofLe_le (n x : Nat) : ofLe (le n x) = x % 256 ^ n := by
  induction n generalizing x with
  | zero => simp [le, ofLe, Nat.mod_one]
  | succ n ih => rw [le, ofLe, ih, BitVec.toNat_ofNat, Nat.pow_succ' (m := 256)]; exact Nat.mod_mul.symm

theorem ofBe_be (n x : Nat) : ofBe (be n x) = x % 256 ^ n := by simp [ofBe, be, ofLe_le]

/-- A field that stands after `a` reads as it was written. -/
theorem beAt_be (o n x : Nat) (a b : List Byte) (h : a.length = o) : beAt o n (a ++ be n x ++ b) = x % 256 ^ n := by
  subst h
  simp [beAt, slice, ofBe_be]

end Sys2Proof.Machine
end

