-- ==== Sys2Proof/Laws/Memory.lean ====
section
/-!
SUPPORT. Laws of the byte memories: a byte read after a write, and the canonical form, which every memory operation keeps.
-/
namespace Sys2Proof.Machine

/-- Addresses strictly rise. -/
abbrev Rising (m : Memory) : Prop := m.Pairwise (fun x y => x.1 < y.1)

/-- The canonical form in words: no entry equals what its address reads as, and addresses rise. -/
theorem wf_iff (d : Nat → Byte) (m : Memory) : Memory.wf d m = true ↔ (∀ c ∈ m, c.2 ≠ d c.1) ∧ Rising m := by
  induction m with
  | nil => simp [Memory.wf]
  | cons e m ih =>
    obtain ⟨a, v⟩ := e
    simp only [Memory.wf, Bool.and_eq_true, bne_iff_ne, ih, List.forall_mem_cons, List.pairwise_cons]
    constructor
    · rintro ⟨⟨h1, h2⟩, h3, h4⟩
      refine ⟨⟨h1, h3⟩, ?_, h4⟩
      cases m with
      | nil => simp
      | cons f m =>
        have h2 : a < f.1 := by simpa using h2
        intro c hc
        rcases List.mem_cons.mp hc with rfl | hc
        · exact h2
        · exact Nat.lt_trans h2 (List.rel_of_pairwise_cons h4 hc)
    · rintro ⟨⟨h1, h3⟩, h2, h4⟩
      refine ⟨⟨h1, ?_⟩, h3, h4⟩
      cases m with
      | nil => rfl
      | cons f m => simpa using h2 f (List.mem_cons_self ..)

/-! ### One byte -/

theorem memGet_of_lt {d : Byte} {a : Nat} {m : Memory} (h : ∀ c ∈ m, a < c.1) : memGet d a m = d := by
  induction m with
  | nil => rfl
  | cons e m ih =>
    have h1 := h e (List.mem_cons_self ..)
    simp only [memGet]
    rw [if_neg (by omega), ih (fun c hc => h c (List.mem_cons_of_mem _ hc))]

/-- A byte read after a write. -/
theorem memGet_memPut (d : Nat → Byte) (a b : Nat) (v : Byte) (m : Memory) (h : Rising m) :
    memGet (d b) b (memPut (d a) a v m) = if b = a then v else memGet (d b) b m := by
  induction m with
  | nil =>
    by_cases hb : b = a
    · subst hb
      by_cases hv : v = d b <;> simp [memPut, memGet, hv]
    · by_cases hv : v = d a <;> simp [memPut, memGet, hv, hb, Ne.symm hb]
  | cons e m ih =>
    obtain ⟨c, w⟩ := e
    obtain ⟨h1, h2⟩ := List.pairwise_cons.mp h
    have ih := ih h2
    simp only [memPut]
    split
    · next hac =>
      by_cases hb : b = a
      · subst hb
        split
        · next hv =>
          rw [if_pos rfl, memGet_of_lt, hv]
          intro x hx
          rcases List.mem_cons.mp hx with rfl | hx
          · exact hac
          · exact Nat.lt_trans hac (h1 x hx)
        · simp [memGet]
      · split <;> simp [memGet, Ne.symm hb]
    · split
      · next hca =>
        subst hca
        by_cases hb : b = c
        · subst hb
          split
          · next hv => rw [if_pos rfl, memGet_of_lt h1, hv]
          · simp [memGet]
        · split <;> simp [memGet, Ne.symm hb]
      · next hn hca =>
        by_cases hb : b = c
        · subst hb
          simp [memGet, hca]
        · simp [memGet, Ne.symm hb, ih]

theorem mem_memPut {d : Byte} {a : Nat} {v : Byte} {m : Memory} {c : Host.Cell} (h : c ∈ memPut d a v m) :
    c ∈ m ∨ (c = (a, v) ∧ v ≠ d) := by
  induction m with
  | nil =>
    simp only [memPut] at h
    split at h
    · simp at h
    · next hv => exact .inr ⟨by simpa using h, hv⟩
  | cons e m ih =>
    obtain ⟨b, w⟩ := e
    simp only [memPut] at h
    split at h
    · split at h
      · exact .inl h
      · next hv =>
        rcases List.mem_cons.mp h with h | h
        · exact .inr ⟨h, hv⟩
        · exact .inl h
    · split at h
      · split at h
        · exact .inl (List.mem_cons_of_mem _ h)
        · next hv =>
          rcases List.mem_cons.mp h with h | h
          · exact .inr ⟨h, hv⟩
          · exact .inl (List.mem_cons_of_mem _ h)
      · rcases List.mem_cons.mp h with h | h
        · exact .inl (h ▸ List.mem_cons_self ..)
        · rcases ih h with h | h
          · exact .inl (List.mem_cons_of_mem _ h)
          · exact .inr h

theorem rising_memPut (d : Byte) (a : Nat) (v : Byte) (m : Memory) (h : Rising m) : Rising (memPut d a v m) := by
  induction m with
  | nil => simp only [memPut]; split <;> simp
  | cons e m ih =>
    obtain ⟨b, w⟩ := e
    obtain ⟨h1, h2⟩ := List.pairwise_cons.mp h
    simp only [memPut]
    split
    · next hab =>
      split
      · exact h
      · refine List.pairwise_cons.mpr ⟨fun c hc => ?_, h⟩
        rcases List.mem_cons.mp hc with rfl | hc
        · exact hab
        · exact Nat.lt_trans hab (h1 c hc)
    · next hab =>
      split
      · next hba =>
        subst hba
        split
        · exact h2
        · exact List.pairwise_cons.mpr ⟨h1, h2⟩
      · next hba =>
        refine List.pairwise_cons.mpr ⟨fun c hc => ?_, ih h2⟩
        rcases mem_memPut hc with hc | ⟨rfl, -⟩
        · exact h1 c hc
        · exact Nat.lt_of_le_of_ne (Nat.not_lt.mp hab) hba

theorem wf_memPut (d : Nat → Byte) (a : Nat) (v : Byte) (m : Memory) (h : Memory.wf d m = true) :
    Memory.wf d (memPut (d a) a v m) = true := by
  rw [wf_iff] at h ⊢
  refine ⟨fun c hc => ?_, rising_memPut _ _ _ _ h.2⟩
  rcases mem_memPut hc with hc | ⟨rfl, hv⟩
  · exact h.1 c hc
  · exact hv

/-- Writes of bytes, one after another. -/
theorem wf_foldl_memPut {α : Type} (d : Nat → Byte) (f : α → Nat) (g : α → Byte) (l : List α) (m : Memory) (h : Memory.wf d m = true) :
    Memory.wf d (l.foldl (fun m x => memPut (d (f x)) (f x) (g x) m) m) = true := by
  induction l generalizing m with
  | nil => exact h
  | cons x l ih => exact ih _ (wf_memPut d _ _ m h)

/-! ### Areas -/

theorem wf_filter (d : Nat → Byte) (p : Host.Cell → Bool) (m : Memory) (h : Memory.wf d m = true) : Memory.wf d (m.filter p) = true := by
  rw [wf_iff] at h ⊢
  exact ⟨fun c hc => h.1 c (List.mem_filter.mp hc).1, h.2.filter p⟩

theorem wf_memClear (d : Nat → Byte) (lo hi : Nat) (m : Memory) (h : Memory.wf d m = true) : Memory.wf d (memClear lo hi m) = true :=
  wf_filter d _ m h

/-- Cells that lie in the area, in canonical form, in its place. -/
theorem wf_memSplice (d : Nat → Byte) (lo hi : Nat) (new m : Memory) (hle : lo ≤ hi) (hn : ∀ c ∈ new, lo ≤ c.1 ∧ c.1 < hi)
    (hw : Memory.wf d new = true) (h : Memory.wf d m = true) : Memory.wf d (memSplice lo hi new m) = true := by
  rw [wf_iff] at h hw ⊢
  unfold memSplice Rising
  refine ⟨fun c hc => ?_, ?_⟩
  · simp only [List.mem_append, List.mem_filter] at hc
    rcases hc with (hc | hc) | hc
    · exact h.1 c hc.1
    · exact hw.1 c hc
    · exact h.1 c hc.1
  · rw [List.pairwise_append, List.pairwise_append]
    refine ⟨⟨h.2.filter _, hw.2, fun x hx y hy => ?_⟩, h.2.filter _, fun x hx y hy => ?_⟩
    · have hx := (List.mem_filter.mp hx).2
      have hy := hn y hy
      simp only [decide_eq_true_eq] at hx
      omega
    · have hy := (List.mem_filter.mp hy).2
      simp only [decide_eq_true_eq] at hy
      simp only [List.mem_append, List.mem_filter, decide_eq_true_eq] at hx
      rcases hx with hx | hx
      · omega
      · have := (hn x hx).2; omega

theorem wordCells_spec (a : Nat) (v : Word) :
    (∀ c ∈ wordCells a v, a ≤ c.1 ∧ c.1 < a + 4 ∧ c.2 ≠ sramDefault c.1) ∧ Rising (wordCells a v) := by
  constructor
  · intro c hc
    simp only [wordCells, List.mem_filterMap, List.mem_range] at hc
    obtain ⟨i, hi, hc⟩ := hc
    split at hc
    · simp at hc
    · next hne =>
      simp only [Option.some.injEq] at hc
      subst hc
      exact ⟨by simp, by simp; omega, hne⟩
  · unfold wordCells Rising
    rw [List.pairwise_filterMap]
    refine List.pairwise_lt_range.imp ?_
    intro i j hij x hx y hy
    simp only at hx hy
    split at hx <;> split at hy <;> simp_all
    obtain ⟨rfl⟩ := hx
    obtain ⟨rfl⟩ := hy
    simpa using hij

theorem areaCells_spec (a : Nat) (ws : List Word) :
    (∀ c ∈ areaCells a ws, a ≤ c.1 ∧ c.1 < a + 4 * ws.length ∧ c.2 ≠ sramDefault c.1) ∧ Rising (areaCells a ws) := by
  induction ws generalizing a with
  | nil => simp [areaCells, Rising]
  | cons w ws ih =>
    have h1 := wordCells_spec a w
    have h2 := ih (a + 4)
    constructor
    · intro c hc
      rcases List.mem_append.mp hc with hc | hc
      · have := h1.1 c hc
        exact ⟨this.1, by simp only [List.length_cons]; omega, this.2.2⟩
      · have := h2.1 c hc
        exact ⟨by omega, by simp only [List.length_cons]; omega, this.2.2⟩
    · unfold Rising areaCells
      rw [List.pairwise_append]
      refine ⟨h1.2, h2.2, fun x hx y hy => ?_⟩
      have := h1.1 x hx
      have := h2.1 y hy
      omega

/-! ### The operations on State -/

theorem sram_wf_sramSet (a : Nat) (v : Word) (s : State) (h : Memory.wf sramDefault s.sram = true) :
    Memory.wf sramDefault (sramSet a v s).sram = true :=
  wf_foldl_memPut sramDefault (fun i => a + i) (fun i => BitVec.ofNat 8 (v.toNat / 256 ^ i)) (List.range 4) s.sram h

theorem sram_wf_sramSetWords (a : Nat) (ws : List Word) (s : State) (h : Memory.wf sramDefault s.sram = true) :
    Memory.wf sramDefault (sramSetWords a ws s).sram = true := by
  induction ws generalizing a s with
  | nil => exact h
  | cons w ws ih => exact ih _ _ (sram_wf_sramSet a w s h)

theorem sram_wf_sramArea (a : Nat) (ws : List Word) (s : State) (h : Memory.wf sramDefault s.sram = true) :
    Memory.wf sramDefault (sramArea a ws s).sram = true :=
  have k := areaCells_spec a ws
  wf_memSplice sramDefault a _ _ s.sram (by omega) (fun c hc => ⟨(k.1 c hc).1, (k.1 c hc).2.1⟩)
    ((wf_iff _ _).mpr ⟨fun c hc => (k.1 c hc).2.2, k.2⟩) h

theorem sram_wf_sramClear (lo hi : Nat) (s : State) (h : Memory.wf sramDefault s.sram = true) :
    Memory.wf sramDefault (sramClear lo hi s).sram = true := wf_memClear _ lo hi s.sram h

theorem sram_wf_sramPutBytes (a : Nat) (l : List Byte) (s : State) (h : Memory.wf sramDefault s.sram = true) :
    Memory.wf sramDefault (sramPutBytes a l s).sram = true :=
  wf_foldl_memPut sramDefault (fun p : Byte × Nat => a + p.2) (fun p => p.1) l.zipIdx s.sram h

theorem svc_wf_svcSet (i : Nat) (v : Word) (s : State) (h : Memory.wf (fun _ => 0) s.svc.sram = true) :
    Memory.wf (fun _ => 0) (svcSet i v s).svc.sram = true :=
  wf_foldl_memPut (fun _ => 0) (fun j => 4 * i + j) (fun j => BitVec.ofNat 8 (v.toNat / 256 ^ j)) (List.range 4) s.svc.sram h

/-- The copied firmware is in canonical form. -/
theorem wf_firmwareCells (l : List Byte) : Memory.wf (fun _ => 0) (firmwareCells l) = true := by
  rw [wf_iff]
  unfold firmwareCells Rising
  constructor
  · intro c hc
    simp only [List.mem_map, List.mem_filter, bne_iff_ne] at hc
    obtain ⟨p, ⟨-, hp⟩, rfl⟩ := hc
    exact hp
  · rw [List.pairwise_map]
    refine List.Pairwise.filter _ ?_
    generalize 0 = k
    induction l generalizing k with
    | nil => simp
    | cons b l ih =>
      rw [List.zipIdx_cons, List.pairwise_cons]
      refine ⟨fun p hp => ?_, ih (k + 1)⟩
      have := List.le_snd_of_mem_zipIdx hp
      simp only
      omega

/-- A word of the logic SRAM read after a write: the word itself, or a word apart from it. -/
theorem sramWord_sramSet_same (a : Nat) (v : Word) (s : State) (h : Memory.wf sramDefault s.sram = true) :
    sramWord a (sramSet a v s) = v := by
  have hr := ((wf_iff _ _).mp h).2
  have step : ∀ (m : Memory), Rising m → ∀ i j, memGet (sramDefault (a + j)) (a + j)
      (memPut (sramDefault (a + i)) (a + i) (BitVec.ofNat 8 (v.toNat / 256 ^ i)) m)
        = if j = i then BitVec.ofNat 8 (v.toNat / 256 ^ i) else memGet (sramDefault (a + j)) (a + j) m := by
    intro m hm i j
    rw [memGet_memPut sramDefault (a + i) (a + j) _ m hm]
    by_cases hj : j = i <;> simp [hj]
  have r1 := rising_memPut (sramDefault (a + 0)) (a + 0) (BitVec.ofNat 8 (v.toNat / 256 ^ 0)) _ hr
  have r2 := rising_memPut (sramDefault (a + 1)) (a + 1) (BitVec.ofNat 8 (v.toNat / 256 ^ 1)) _ r1
  have r3 := rising_memPut (sramDefault (a + 2)) (a + 2) (BitVec.ofNat 8 (v.toNat / 256 ^ 2)) _ r2
  have e : (List.range 4) = [0, 1, 2, 3] := rfl
  unfold sramWord sramSet memPutWord
  simp only [e, List.foldl_cons, List.foldl_nil, List.map_cons, List.map_nil]
  rw [step _ r3, step _ r3, step _ r3, step _ r3, step _ r2, step _ r2, step _ r2, step _ r1, step _ r1, step _ hr]
  apply BitVec.eq_of_toNat_eq
  have hv := v.isLt
  simp [ofLe]
  omega

end Sys2Proof.Machine
end

