-- ==== Sys2Proof/Laws/Time.lean ====
section
/-!
SUPPORT. Laws of time: a replica of DTIME stays within 10 ns of it (R40).
-/
namespace Sys2Proof.Machine

theorem replicaAt_bounds (d : ClockDomain) (ns : Nat) : ns ≤ replicaAt d ns + 10 ∧ replicaAt d ns ≤ ns + 10 := by
  unfold replicaAt
  omega

end Sys2Proof.Machine
end

