-- ==== Sys2Proof/Laws/Tow.lean ====
section
/-!
SUPPORT. Laws of towpath frames: bytes that end in their CRC-32C are intact.
-/
namespace Sys2Proof.Machine

/-- A frame whose header and payload are `body`, with a good trailer, passes the first check of R250. -/
theorem towIntact_of_crc (body : List Byte) (arrive : Nat) (hl : body.length = 32 + beAt 2 2 body) (h8 : beAt 2 2 body % 8 = 0)
    (hm : beAt 2 2 body ≤ 2_048) :
    towIntact { bytes := body ++ be 4 (crc32c body).toNat ++ zeros 4, control := true, arrive := arrive } = true := by
  generalize hn : beAt 2 2 body = n at hl h8 hm
  have h2 : towLength { bytes := body ++ be 4 (crc32c body).toNat ++ zeros 4, control := true, arrive := arrive } = n := by
    have h : 2 + 2 ≤ body.length := by omega
    rw [← hn]
    simp only [towLength, towField, beAt, slice, List.append_assoc]
    rw [List.drop_append_of_le_length (by omega), List.take_append_of_le_length (by rw [List.length_drop]; omega)]
  have hc : towField (32 + n) 4 { bytes := body ++ be 4 (crc32c body).toNat ++ zeros 4, control := true, arrive := arrive } = (crc32c body).toNat := by
    rw [towField, beAt_be _ _ _ _ _ hl]
    exact Nat.mod_eq_of_lt (BitVec.isLt _)
  unfold towIntact
  simp only [h2, hc]
  simp [h8, hm, w32, hl]
  omega

/-- A frame as it is laid out is intact when its payload has a length that a frame may have (R212). -/
theorem wire_intact (f : TpFrame) (arrive : Nat) (h : f.payload.length % 8 = 0 ∧ f.payload.length ≤ 2_048) :
    towIntact { bytes := f.wire, control := true, arrive := arrive } = true := by
  have hn : ∀ a b rest : List Byte, a.length = 1 → b.length = 1 →
      beAt 2 2 (a ++ b ++ be 2 f.payload.length ++ rest) = f.payload.length := by
    intro a b rest ha hb
    rw [beAt_be 2 2 _ (a ++ b) rest (by simp [ha, hb])]
    exact Nat.mod_eq_of_lt (by omega)
  unfold TpFrame.wire
  apply towIntact_of_crc <;> simp only [List.append_assoc] <;> simp only [← List.append_assoc (be 1 _)] <;>
    rw [hn _ _ _ (length_be 1 _) (length_be 1 _)]
  · simp; omega
  · exact h.1
  · exact h.2

end Sys2Proof.Machine
end

