-- ==== Sys2Proof/WellFormed.lean ====
section
/-!
DEFINITION. Which commands can occur: times that DTIME can show, hashes of 32 bytes, frames, samples and messages of the sizes the spec
gives. The meanings are total and ask for none of it.
-/
namespace Sys2Proof

/-- DTIME is a count of 64 bits (R40). -/
def timeOk (t : Nat) : Bool := decide (t < 2 ^ 64)

/-- A SHA-256. -/
def hashOk (h : List Byte) : Bool := decide (h.length = 32)

/-- A towpath frame: header, payload of up to 2,048 bytes and trailer (R212). -/
def towOk (w : WireFrame) : Bool := timeOk w.arrive && decide (w.bytes.length ≤ 2_088)

/-- A BOOT of ten stages (R521). -/
def bootOk (r : BootRun) : Bool := decide (r.ends.length ≤ 10) && r.ends.all timeOk

/-- A received frame; one beyond the port's limit is an error that the meaning counts (R252). -/
def frameOk (f : NetFrame) : Bool := decide (f.bytes.length ≤ 65_535)

/-- The command can occur. -/
def Instr.wellFormed (i : Instr) : Bool :=
  match i with
  | .add _ _ _ _ => true
  | .sub _ _ _ _ => true
  | .andOp _ _ _ _ => true
  | .orOp _ _ _ _ => true
  | .xorOp _ _ _ _ => true
  | .andn _ _ _ _ => true
  | .orn _ _ _ _ => true
  | .sll _ _ _ _ => true
  | .srl _ _ _ _ => true
  | .sra _ _ _ _ => true
  | .mul _ _ _ _ => true
  | .divu _ _ _ _ => true
  | .remu _ _ _ _ => true
  | .minu _ _ _ _ => true
  | .maxu _ _ _ _ => true
  | .minOp _ _ _ _ => true
  | .maxOp _ _ _ _ => true
  | .sltu _ _ _ _ => true
  | .slt _ _ _ _ => true
  | .tall _ _ _ _ => true
  | .tany _ _ _ _ => true
  | .tnone _ _ _ _ => true
  | .msel _ _ _ _ => true
  | .popc _ _ _ => true
  | .ffs _ _ _ => true
  | .clrls _ _ _ => true
  | .bmaj _ _ _ _ => true
  | .ext _ _ _ _ _ => true
  | .exts _ _ _ _ _ => true
  | .ins _ _ _ _ _ => true
  | .addi _ _ _ _ => true
  | .andi _ _ _ _ => true
  | .ori _ _ _ _ => true
  | .xori _ _ _ _ => true
  | .lui _ _ _ => true
  | .slli _ _ _ _ => true
  | .srli _ _ _ _ => true
  | .srai _ _ _ _ => true
  | .movs _ _ _ => true
  | .ld _ _ _ _ _ _ => true
  | .st _ _ _ _ _ => true
  | .beq _ _ _ _ => true
  | .bne _ _ _ _ => true
  | .blt _ _ _ _ => true
  | .bge _ _ _ _ => true
  | .bltu _ _ _ _ => true
  | .bgeu _ _ _ _ => true
  | .bbs _ _ _ _ => true
  | .bbc _ _ _ _ => true
  | .jump _ _ => true
  | .oloop _ _ => true
  | .onext _ _ => true
  | .endc _ => true
  | .seg _ => true
  | .assertOp _ _ => true
  | .tstart _ _ => true
  | .tstop _ _ => true
  | .ttest _ _ _ => true
  | .scode _ _ _ _ _ _ => true
  | .mcmd _ _ _ _ => true
  | .fset _ _ _ _ => true
  | .invalidEncoding _ _ => true
  | .eret _ => true
  | .di _ => true
  | .ei _ => true
  | .wfe _ => true
  | .mfsr _ _ _ => true
  | .mtsr _ _ _ => true
  | .eoiWrite _ _ => true
  | .wdkickWrite _ _ => true
  | .ldc _ _ _ _ => true
  | .stc _ _ _ _ => true
  | .mpuw _ _ _ => true
  | .mpur _ _ _ => true
  | .mpusync _ => true
  | .trap _ _ => true
  | .lockChamberStallEnd _ _ => true
  | .runAheadStallEnd _ => true
  | .capture _ _ => true
  | .inboxSwap ackNs => timeOk ackNs
  | .freezeMark arriveNs => timeOk arriveNs
  | .captureEnd endNs _ => timeOk endNs
  | .evaluateEnd atNs => timeOk atNs
  | .accordCloseEnd atNs => timeOk atNs
  | .release => true
  | .releaseEnd endNs _ scrubbed found => timeOk endNs && decide (scrubbed ≤ 0x0400_0000) && found.all (fun f => decide (f.addr < 0x0400_0000 ∧ f.addr % 4 = 0))
  | .overrunCycleComplete atNs => timeOk atNs
  | .clrOvr acc => timeOk acc.at_
  | .clrMax acc => timeOk acc.at_
  | .clusterSplitRequest acc _ => timeOk acc.at_
  | .clusterParkRequest acc _ => timeOk acc.at_
  | .clusterHandoverComplete _ _ => true
  | .hello _ w => towOk w
  | .helloTimer atNs => timeOk atNs
  | .cycle _ w => towOk w
  | .contrib _ w => towOk w
  | .relay _ w => towOk w
  | .cut _ w => towOk w
  | .summary _ w => towOk w
  | .hash _ w => towOk w
  | .join _ w _ => towOk w
  | .grant _ w => towOk w
  | .xfer _ w => towOk w
  | .ack _ w => towOk w
  | .notice _ w => towOk w
  | .ackDue _ atNs => timeOk atNs
  | .retransmitTimeout _ atNs => timeOk atNs
  | .blockLockLost _ atNs => timeOk atNs
  | .towpathReceiveTimeout _ atNs => timeOk atNs
  | .dataDeadline => true
  | .summaryDeadline => true
  | .agreeEnd atNs => timeOk atNs
  | .imageDigestComplete atNs => timeOk atNs
  | .hashDeadline => true
  | .joinRetry atNs => timeOk atNs
  | .xferDeadline start => timeOk start
  | .triadLeave acc _ => timeOk acc.at_
  | .yalaUnitReceived _ f => frameOk f
  | .arpRequest _ _ _ _ => true
  | .nonYalaFrame _ _ _ _ => true
  | .portLinkUp _ _ _ => true
  | .portLinkDown _ => true
  | .openBerth _ _ => true
  | .proof _ _ sig chain => decide (sig.length + chain.length ≤ 4_080)
  | .close _ _ => true
  | .cread _ _ _ _ _ => true
  | .cwrite _ _ _ _ => true
  | .command _ _ atNs entries => timeOk atNs && decide (entries.length ≤ 255)
  | .commandReply _ => true
  | .hashread _ _ => true
  | .sread _ _ _ _ => true
  | .echunk _ _ _ _ data => decide (data.length ≤ 4_072)
  | .ecommit _ _ _ _ _ atNs => timeOk atNs
  | .envelopeCheckComplete _ => true
  | .jstat _ _ => true
  | .jread _ _ _ _ _ => true
  | .jseal _ _ => true
  | .jack _ _ _ c => decide (c.length = 32)
  | .jrearm _ _ => true
  | .kread _ _ _ _ _ => true
  | .shread _ _ _ _ _ => true
  | .berthReset _ => true
  | .berthIdleTimeout _ atNs => timeOk atNs
  | .uartBreak => true
  | .uartFrameGap line => decide (line.length ≤ 8_194)
  | .bqDoorbell _ _ => true
  | .bqRplHeadWrite _ _ => true
  | .bqReset _ _ => true
  | .bqRingWrite _ _ _ => true
  | .bqRequestFetch _ => true
  | .pcieCompletionError _ => true
  | .replySlotWaitTimeout _ atNs => timeOk atNs
  | .tcpConnectionRequest _ _ atNs => timeOk atNs
  | .tlsHandshakeComplete _ _ certs transcript _ _ atNs => timeOk atNs && decide (certs.length ≤ 65_536) && hashOk transcript
  | .tlsHandshakeTimeout _ atNs => timeOk atNs
  | .keyupdate _ => true
  | .tcpConnectionClosed _ => true
  | .lockoutEnd _ atNs => timeOk atNs
  | .bthNarrowWrite acc _ _ => timeOk acc.at_
  | .bthResetWrite acc _ => timeOk acc.at_
  | .lkpIdentWrite acc _ => timeOk acc.at_
  | .servoPeriod _ _ => true
  | .releaseMarker atNs => timeOk atNs
  | .enable _ _ _ => true
  | .disable _ _ _ => true
  | .stop _ _ _ => true
  | .home _ _ _ => true
  | .clear _ _ _ => true
  | .setpos _ _ _ => true
  | .run _ _ _ => true
  | .grun posts => decide (posts.length ≤ 1024)
  | .enablingComplete _ => true
  | .segmentEnd _ => true
  | .runComplete _ => true
  | .stopComplete _ => true
  | .obstacle _ => true
  | .reversalComplete _ => true
  | .homingReference _ => true
  | .homingChatterAbort _ => true
  | .sdStreamStuck _ _ => true
  | .sdclkFault _ => true
  | .mailboxSilent atNs => timeOk atNs
  | .motTestEnd acc _ => timeOk acc.at_
  | .motTestEnableHold acc _ => timeOk acc.at_
  | .motTestJogPositive acc _ => timeOk acc.at_
  | .motTestJogNegative acc _ => timeOk acc.at_
  | .motTestHome acc _ => timeOk acc.at_
  | .motTestNotRenewed _ atNs => timeOk atNs
  | .quadratureStep _ _ _ atNs => timeOk atNs
  | .hallCodeChange _ _ atNs => timeOk atNs
  | .indexLatch _ _ atNs => timeOk atNs
  | .errorLevelDecay => true
  | .pcClear acc _ => timeOk acc.at_
  | .pcConfigWrite acc _ _ _ => timeOk acc.at_
  | .frequencyGateEnd _ => true
  | .zeroSpeedTimeout _ atNs => timeOk atNs
  | .standstillAssert _ atNs => timeOk atNs
  | .headSampleTimeout _ atNs => timeOk atNs
  | .headReady _ atNs => timeOk atNs
  | .wcClear acc _ => timeOk acc.at_
  | .wcConfigWrite acc _ _ => timeOk acc.at_
  | .secConfigWrite acc _ _ => timeOk acc.at_
  | .sectionReset _ _ _ _ => true
  | .restore _ _ _ _ => true
  | .disturb _ _ _ => true
  | .eoEnable acc _ _ => timeOk acc.at_
  | .eoOutputStep _ atNs => timeOk atNs
  | .fieldLinkOutboundFrame _ atNs _ => timeOk atNs
  | .fieldLinkInboundFrame _ atNs _ vfield _ ls loops _ => timeOk atNs && decide (vfield < 2 ^ 16) && decide (ls.length = 8 ∧ loops.length = 4)
  | .fieldBlockSilent _ atNs => timeOk atNs
  | .fclkDeviation _ => true
  | .serialWatchdogExpiry _ atNs => timeOk atNs
  | .tripLineLow _ => true
  | .fieldBlockReset _ => true
  | .linkCheckPassed _ atNs => timeOk atNs
  | .linkCheckTimeout _ atNs => timeOk atNs
  | .vfieldUndervoltage _ => true
  | .vfieldRestored _ => true
  | .dioInputLevelChange _ _ _ atNs => timeOk atNs
  | .wireBreakSet _ _ => true
  | .wireBreakClear _ _ => true
  | .dioOverload _ _ => true
  | .dioOverTemperature _ _ => true
  | .openWireSet _ _ => true
  | .openWireClear _ _ => true
  | .dioDiagClearWrite acc _ _ _ => timeOk acc.at_
  | .twoChannelCheckSample _ atNs => timeOk atNs
  | .pairConfigWrite acc _ _ _ => timeOk acc.at_
  | .loadSwitchInrushEnd _ _ atNs => timeOk atNs
  | .loadSwitchCurrentLimit _ _ => true
  | .limitRecovery _ _ => true
  | .thermalShutdown _ _ => true
  | .coolingRestart _ _ => true
  | .openLoadSet _ _ atNs => timeOk atNs
  | .openLoadClear _ _ => true
  | .retryCountReset _ _ atNs => timeOk atNs
  | .soCheckSample _ atNs => timeOk atNs
  | .soFeedbackTimeout _ _ => true
  | .soConfigWrite acc _ _ _ _ => timeOk acc.at_
  | .testPulseDue _ _ _ atNs => timeOk atNs
  | .testPulseReadback _ _ pulsed other vfield atNs => timeOk atNs && decide (pulsed < 2 ^ 16 ∧ other < 2 ^ 16 ∧ vfield < 2 ^ 16)
  | .testPulseEnd _ _ atNs => timeOk atNs
  | .wheelSystemCurrentLimit _ _ _ atNs => timeOk atNs
  | .wheelSystemRetry _ _ _ atNs => timeOk atNs
  | .pwm _ _ _ _ => true
  | .clearDioOutput _ _ _ _ => true
  | .clearLoadSwitch _ _ _ _ => true
  | .clearPair _ _ _ _ _ => true
  | .fldTestWrite acc _ => timeOk acc.at_
  | .fldTestNotRenewed atNs => timeOk atNs
  | .recordWritten _ => true
  | .checkpoint => true
  | .checkpointSigned => true
  | .lostRecord => true
  | .journalStoreFault => true
  | .flaconScanComplete atNs => timeOk atNs
  | .unitErased _ => true
  | .programRecordSlot _ _ _ _ _ _ => true
  | .doorCycleSlot _ _ _ _ _ _ => true
  | .metricSampleSlot _ _ _ _ _ _ => true
  | .statisticsPersist atNs => timeOk atNs
  | .metricClear acc _ => timeOk acc.at_
  | .metricLatchRead acc _ => timeOk acc.at_
  | .latchingLowWordRead acc _ => timeOk acc.at_
  | .rcFieldRead acc _ => timeOk acc.at_
  | .eventEdge _ _ atNs => timeOk atNs
  | .gatherTimeLimit _ atNs => timeOk atNs
  | .eventPresentation _ _ _ => true
  | .serviceWatchdogExpiry _ atNs => timeOk atNs
  | .serviceTimerExpiry _ atNs => timeOk atNs
  | .stmrEnableWrite acc _ _ => timeOk acc.at_
  | .evcPendWrite acc _ _ => timeOk acc.at_
  | .evcRaiseWrite acc _ _ => timeOk acc.at_
  | .sourceEnableWrite acc _ _ => timeOk acc.at_
  | .gdisWrite acc _ => timeOk acc.at_
  | .evcTestWrite acc _ => timeOk acc.at_
  | .wakeEdge _ => true
  | .wakenFalling => true
  | .stabledTimerExpiry => true
  | .uartKStartBit => true
  | .fb0WakeInput _ => true
  | .stabledWake acc => timeOk acc.at_
  | .wake aclk => decide (aclk < 2 ^ 64)
  | .stabledRequest acc => timeOk acc.at_
  | .stabledEntry => true
  | .temperatureSample atNs readings => timeOk atNs && decide (readings.length = 12)
  | .voltageExcursion _ _ => true
  | .sensorSummary atNs => timeOk atNs
  | .keeperWatchdogExpiry => true
  | .clockMonitorOutOfRange _ => true
  | .clockBackInRange _ => true
  | .regionReinitComplete _ atNs => timeOk atNs
  | .regionReinitTimeout _ atNs => timeOk atNs
  | .holdEntry _ => true
  | .boot r => bootOk r
  | .bootStageTimeout _ atNs => timeOk atNs
  | .cmsnLevelChange _ => true
  | .powerOnReset _ => true
  | .pornLow _ => true
  | .railNotGood _ _ => true
  | .lockKeeperCommandReset acc => timeOk acc.at_
  | .logicRegionReset acc => timeOk acc.at_
  | .fieldBlockResetRequest acc _ => timeOk acc.at_
  | .settingsCommit acc => timeOk acc.at_
  | .actProg acc => timeOk acc.at_
  | .actLkfw acc => timeOk acc.at_
  | .actSvfw acc => timeOk acc.at_
  | .updateDiscard acc => timeOk acc.at_
  | .wallTimeStageLo acc _ => timeOk acc.at_
  | .wallTimeStageHi acc _ => timeOk acc.at_
  | .wallTimeSet acc _ => timeOk acc.at_
  | .snapBallEdge atNs => timeOk atNs
  | .snapshotTriggerCommand acc => timeOk acc.at_
  | .snapshotRelease acc => timeOk acc.at_
  | .snapshotCopied => true
  | .snapshotFbTimeout atNs => timeOk atNs
  | .controlRegisterWrite acc _ _ => timeOk acc.at_
  | .blockLockAcquired _ => true
  | .railBackInWindow _ _ => true
  | .carrierPeriod _ _ _ atNs => timeOk atNs
  | .chopperCrossing _ _ _ _ atNs => timeOk atNs
  | .skewStallEnd _ _ => true
  | .dualRailMismatch _ _ _ => true
  | .sealerEngineFault => true
  | .feedbackUncorrectableError => true
  | .trainingOrNegotiationFailed _ => true

end Sys2Proof
end

