-- ==== Sys2Proof/Tests/Slice0.lean ====
section
/-!
SUPPORT. Tests: well-formedness refuses, one step on a small state, and for every obligation states and operands that meet its hypotheses.
-/
namespace Sys2Proof.Machine

set_option Elab.async false

/-- A frame of a towpath port without a byte. -/
def tWire : WireFrame := { bytes := [], arrive := 0 }

/-- The header of a message of type `typ` that carries `body`, as R306 forms it. -/
def tMsg (typ : Byte) (body : List Byte) : MsgHead :=
  { typ := typ, length := BitVec.ofNat 16 body.length, tag := 7, crc := msgCrc 0x10 typ.toNat body.length 7 0 0 body }

/-- A TLS client that offers what R313 names. -/
def tOffer : ClientHello := { versions := [0x0304], suites := [0x1301], groups := [0x0017], schemes := [0x0403], shares := [0x0017] }

/-! ### Small states -/

/-- The lock-keeper core, whose accesses to defined words are granted. -/
def tK : Access := { req := .keeper }

/-- A JOINED core 0 whose three passes run at PC 0 of a program of two words. -/
def tPass : PassCtx := { run := .running }
def tJ : State := {
  seq := { phase := .evaluate, clMode := [(0, 0)] }
  image := some { progLen := 2 }
  cores := [(0, { top := tPass, heart := tPass, base := tPass })] }
def tiJ : Issue := { ctx := .joined 0 .top }

/-- A SPLIT cluster 0 whose context 0 of core 0 runs. -/
def tS : State := {
  seq := { phase := .evaluate, clMode := [(0, 1)] }
  image := some { progLen := 2 }
  splits := [(0, { run := .running })] }
def tiS : Issue := { ctx := .split 0 0 }

/-- Service core 0 runs at the privileged level. -/
def tV : State := { svc := { held := false, cores := [(0, { released := true, sp := 64 })] } }
def tiV : Issue := { ctx := .service 0 }

/-! ### Well-formedness: a term that each check refuses, beside one that it admits -/

theorem test_wellFormed_refuses_1 : ([
    .inboxSwap 18_446_744_073_709_551_616, .freezeMark 18_446_744_073_709_551_616, .captureEnd 18_446_744_073_709_551_616 0,
    .evaluateEnd 18_446_744_073_709_551_616, .accordCloseEnd 18_446_744_073_709_551_616, .releaseEnd 18_446_744_073_709_551_616 none 0 [],
    .releaseEnd 0 none 0x0400_0001 [], .releaseEnd 0 none 0 [⟨2, .good⟩], .releaseEnd 0 none 0 [⟨0x0400_0000, .good⟩],
    .overrunCycleComplete 18_446_744_073_709_551_616, .clrOvr { tK with at_ := 18_446_744_073_709_551_616 },
    .clrMax { tK with at_ := 18_446_744_073_709_551_616 }, .clusterSplitRequest { tK with at_ := 18_446_744_073_709_551_616 } 0,
    .clusterParkRequest { tK with at_ := 18_446_744_073_709_551_616 } 0, .hello 0 { tWire with bytes := zeros 2_089 },
    .hello 0 { tWire with arrive := 18_446_744_073_709_551_616 }, .helloTimer 18_446_744_073_709_551_616, .cycle 0 { tWire with bytes := zeros 2_089 },
    .cycle 0 { tWire with arrive := 18_446_744_073_709_551_616 }, .contrib 0 { tWire with bytes := zeros 2_089 },
    .contrib 0 { tWire with arrive := 18_446_744_073_709_551_616 }, .relay 0 { tWire with bytes := zeros 2_089 },
    .relay 0 { tWire with arrive := 18_446_744_073_709_551_616 }, .cut 0 { tWire with bytes := zeros 2_089 },
    .cut 0 { tWire with arrive := 18_446_744_073_709_551_616 }, .summary 0 { tWire with bytes := zeros 2_089 },
    .summary 0 { tWire with arrive := 18_446_744_073_709_551_616 }, .hash 0 { tWire with bytes := zeros 2_089 },
    .hash 0 { tWire with arrive := 18_446_744_073_709_551_616 }, .join 0 { tWire with bytes := zeros 2_089 } false,
    .join 0 { tWire with arrive := 18_446_744_073_709_551_616 } false, .grant 0 { tWire with bytes := zeros 2_089 },
    .grant 0 { tWire with arrive := 18_446_744_073_709_551_616 }, .xfer 0 { tWire with bytes := zeros 2_089 },
    .xfer 0 { tWire with arrive := 18_446_744_073_709_551_616 }, .ack 0 { tWire with bytes := zeros 2_089 },
    .ack 0 { tWire with arrive := 18_446_744_073_709_551_616 }, .notice 0 { tWire with bytes := zeros 2_089 },
    .notice 0 { tWire with arrive := 18_446_744_073_709_551_616 }, .ackDue 0 18_446_744_073_709_551_616,
    .retransmitTimeout 0 18_446_744_073_709_551_616, .blockLockLost 0 18_446_744_073_709_551_616, .towpathReceiveTimeout 0 18_446_744_073_709_551_616,
    .agreeEnd 18_446_744_073_709_551_616, .imageDigestComplete 18_446_744_073_709_551_616, .joinRetry 18_446_744_073_709_551_616,
    .xferDeadline 18_446_744_073_709_551_616, .triadLeave { tK with at_ := 18_446_744_073_709_551_616 } 0,
    .yalaUnitReceived 0 { raw := true, srcMac := 0, bytes := zeros 65_536 }, .proof 0 (tMsg 0x11 []) (zeros 64) (zeros 4_017),
    .command 0 (tMsg 0x11 []) 18_446_744_073_709_551_616 [],
    .command 0 (tMsg 0x11 []) 0 (List.replicate 256 { addr := 0, code := 0, arg0 := 0, arg1 := 0 }),
    .echunk 0 (tMsg 0x11 []) 0 0 (List.replicate 4073 0), .ecommit 0 (tMsg 0x11 []) 0 0 0 18_446_744_073_709_551_616, .jack 0 (tMsg 0x11 []) 0 [],
    .berthIdleTimeout 0 18_446_744_073_709_551_616, .uartFrameGap (List.replicate 8195 0), .replySlotWaitTimeout 0 18_446_744_073_709_551_616,
    .tcpConnectionRequest 0 0 18_446_744_073_709_551_616, .tlsHandshakeComplete 0 tOffer [] (zeros 32) [] none 18_446_744_073_709_551_616] : List Instr).all (fun i => !i.wellFormed) = true := by decide +kernel

theorem test_wellFormed_refuses_2 : ([
    .tlsHandshakeComplete 0 tOffer [] (zeros 31) [] none 0, .tlsHandshakeTimeout 0 18_446_744_073_709_551_616,
    .lockoutEnd 0 18_446_744_073_709_551_616, .bthNarrowWrite { tK with at_ := 18_446_744_073_709_551_616 } 0 0,
    .bthResetWrite { tK with at_ := 18_446_744_073_709_551_616 } 0, .lkpIdentWrite { tK with at_ := 18_446_744_073_709_551_616 } 0,
    .releaseMarker 18_446_744_073_709_551_616, .grun (List.replicate 1025 (0, 0, 0)), .mailboxSilent 18_446_744_073_709_551_616,
    .motTestEnd { tK with at_ := 18_446_744_073_709_551_616 } 0, .motTestEnableHold { tK with at_ := 18_446_744_073_709_551_616 } 0,
    .motTestJogPositive { tK with at_ := 18_446_744_073_709_551_616 } 0, .motTestJogNegative { tK with at_ := 18_446_744_073_709_551_616 } 0,
    .motTestHome { tK with at_ := 18_446_744_073_709_551_616 } 0, .motTestNotRenewed 0 18_446_744_073_709_551_616,
    .quadratureStep 0 false false 18_446_744_073_709_551_616, .hallCodeChange 0 0 18_446_744_073_709_551_616,
    .indexLatch 0 false 18_446_744_073_709_551_616, .pcClear { tK with at_ := 18_446_744_073_709_551_616 } 0,
    .pcConfigWrite { tK with at_ := 18_446_744_073_709_551_616 } 0 false 0, .zeroSpeedTimeout 0 18_446_744_073_709_551_616,
    .standstillAssert 0 18_446_744_073_709_551_616, .headSampleTimeout 0 18_446_744_073_709_551_616, .headReady 0 18_446_744_073_709_551_616,
    .wcClear { tK with at_ := 18_446_744_073_709_551_616 } 0, .wcConfigWrite { tK with at_ := 18_446_744_073_709_551_616 } 0 0,
    .secConfigWrite { tK with at_ := 18_446_744_073_709_551_616 } 0 0, .eoEnable { tK with at_ := 18_446_744_073_709_551_616 } 0 0,
    .eoOutputStep 0 18_446_744_073_709_551_616, .fieldLinkOutboundFrame 0 18_446_744_073_709_551_616 false,
    .fieldLinkInboundFrame 0 18_446_744_073_709_551_616 false 0 0 (List.replicate 8 0) (List.replicate 4 (0, 0)) 0,
    .fieldLinkInboundFrame 0 0 false 65536 0 (List.replicate 8 0) (List.replicate 4 (0, 0)) 0,
    .fieldLinkInboundFrame 0 0 false 0 0 [] (List.replicate 4 (0, 0)) 0, .fieldLinkInboundFrame 0 0 false 0 0 (List.replicate 8 0) [] 0,
    .fieldBlockSilent 0 18_446_744_073_709_551_616, .serialWatchdogExpiry 0 18_446_744_073_709_551_616, .linkCheckPassed 0 18_446_744_073_709_551_616,
    .linkCheckTimeout 0 18_446_744_073_709_551_616, .dioInputLevelChange 0 0 false 18_446_744_073_709_551_616,
    .dioDiagClearWrite { tK with at_ := 18_446_744_073_709_551_616 } 0 0 0, .twoChannelCheckSample 0 18_446_744_073_709_551_616,
    .pairConfigWrite { tK with at_ := 18_446_744_073_709_551_616 } 0 0 0, .loadSwitchInrushEnd 0 0 18_446_744_073_709_551_616,
    .openLoadSet 0 0 18_446_744_073_709_551_616, .retryCountReset 0 0 18_446_744_073_709_551_616, .soCheckSample 0 18_446_744_073_709_551_616,
    .soConfigWrite { tK with at_ := 18_446_744_073_709_551_616 } 0 0 false 0, .testPulseDue 0 0 false 18_446_744_073_709_551_616,
    .testPulseReadback 0 0 0 0 0 18_446_744_073_709_551_616, .testPulseReadback 0 0 65_536 0 0 0, .testPulseReadback 0 0 0 65_536 0 0,
    .testPulseReadback 0 0 0 0 65_536 0, .testPulseEnd 0 0 18_446_744_073_709_551_616, .wheelSystemCurrentLimit 0 0 false 18_446_744_073_709_551_616,
    .wheelSystemRetry 0 0 false 18_446_744_073_709_551_616, .fldTestWrite { tK with at_ := 18_446_744_073_709_551_616 } 0,
    .fldTestNotRenewed 18_446_744_073_709_551_616, .flaconScanComplete 18_446_744_073_709_551_616, .statisticsPersist 18_446_744_073_709_551_616,
    .metricClear { tK with at_ := 18_446_744_073_709_551_616 } 0] : List Instr).all (fun i => !i.wellFormed) = true := by decide +kernel

theorem test_wellFormed_refuses_3 : ([
    .metricLatchRead { tK with at_ := 18_446_744_073_709_551_616 } 0, .latchingLowWordRead { tK with at_ := 18_446_744_073_709_551_616 } 0,
    .rcFieldRead { tK with at_ := 18_446_744_073_709_551_616 } 0, .eventEdge 0 false 18_446_744_073_709_551_616,
    .gatherTimeLimit 0 18_446_744_073_709_551_616, .serviceWatchdogExpiry 0 18_446_744_073_709_551_616,
    .serviceTimerExpiry 0 18_446_744_073_709_551_616, .stmrEnableWrite { tK with at_ := 18_446_744_073_709_551_616 } 0 0,
    .evcPendWrite { tK with at_ := 18_446_744_073_709_551_616 } 0 0, .evcRaiseWrite { tK with at_ := 18_446_744_073_709_551_616 } 0 0,
    .sourceEnableWrite { tK with at_ := 18_446_744_073_709_551_616 } 0 0, .gdisWrite { tK with at_ := 18_446_744_073_709_551_616 } 0,
    .evcTestWrite { tK with at_ := 18_446_744_073_709_551_616 } 0, .stabledWake { tK with at_ := 18_446_744_073_709_551_616 },
    .wake 18446744073709551616, .stabledRequest { tK with at_ := 18_446_744_073_709_551_616 },
    .temperatureSample 18_446_744_073_709_551_616 (List.replicate 12 0), .temperatureSample 0 [], .sensorSummary 18_446_744_073_709_551_616,
    .regionReinitComplete 0 18_446_744_073_709_551_616, .regionReinitTimeout 0 18_446_744_073_709_551_616, .boot { ends := List.replicate 11 0 },
    .boot { ends := [18_446_744_073_709_551_616] }, .bootStageTimeout 0 18_446_744_073_709_551_616,
    .lockKeeperCommandReset { tK with at_ := 18_446_744_073_709_551_616 }, .logicRegionReset { tK with at_ := 18_446_744_073_709_551_616 },
    .fieldBlockResetRequest { tK with at_ := 18_446_744_073_709_551_616 } 0, .settingsCommit { tK with at_ := 18_446_744_073_709_551_616 },
    .actProg { tK with at_ := 18_446_744_073_709_551_616 }, .actLkfw { tK with at_ := 18_446_744_073_709_551_616 },
    .actSvfw { tK with at_ := 18_446_744_073_709_551_616 }, .updateDiscard { tK with at_ := 18_446_744_073_709_551_616 },
    .wallTimeStageLo { tK with at_ := 18_446_744_073_709_551_616 } 0, .wallTimeStageHi { tK with at_ := 18_446_744_073_709_551_616 } 0,
    .wallTimeSet { tK with at_ := 18_446_744_073_709_551_616 } 0, .snapBallEdge 18_446_744_073_709_551_616,
    .snapshotTriggerCommand { tK with at_ := 18_446_744_073_709_551_616 }, .snapshotRelease { tK with at_ := 18_446_744_073_709_551_616 },
    .snapshotFbTimeout 18_446_744_073_709_551_616, .controlRegisterWrite { tK with at_ := 18_446_744_073_709_551_616 } 0 0,
    .carrierPeriod 0 [] [] 18_446_744_073_709_551_616, .chopperCrossing 0 0 [] [] 18_446_744_073_709_551_616] : List Instr).all (fun i => !i.wellFormed) = true := by decide +kernel

theorem test_wellFormed_admits_1 : ([
    .inboxSwap 0, .freezeMark 0, .captureEnd 0 0, .evaluateEnd 0, .accordCloseEnd 0, .releaseEnd 0 none 0 [], .overrunCycleComplete 0, .clrOvr tK,
    .clrMax tK, .clusterSplitRequest tK 0, .clusterParkRequest tK 0, .hello 0 tWire, .helloTimer 0, .cycle 0 tWire, .contrib 0 tWire, .relay 0 tWire,
    .cut 0 tWire, .summary 0 tWire, .hash 0 tWire, .join 0 tWire false, .grant 0 tWire, .xfer 0 tWire, .ack 0 tWire, .notice 0 tWire, .ackDue 0 0,
    .retransmitTimeout 0 0, .blockLockLost 0 0, .towpathReceiveTimeout 0 0, .agreeEnd 0, .imageDigestComplete 0, .joinRetry 0, .xferDeadline 0,
    .triadLeave tK 0, .yalaUnitReceived 0 { raw := true, srcMac := 0, bytes := [] }, .proof 0 (tMsg 0x11 []) [] [], .command 0 (tMsg 0x11 []) 0 [],
    .echunk 0 (tMsg 0x11 []) 0 0 [], .ecommit 0 (tMsg 0x11 []) 0 0 0 0, .jack 0 (tMsg 0x11 []) 0 (zeros 32), .berthIdleTimeout 0 0, .uartFrameGap [],
    .replySlotWaitTimeout 0 0, .tcpConnectionRequest 0 0 0, .tlsHandshakeComplete 0 tOffer [] (zeros 32) [] none 0, .tlsHandshakeTimeout 0 0,
    .lockoutEnd 0 0, .bthNarrowWrite tK 0 0, .bthResetWrite tK 0, .lkpIdentWrite tK 0, .releaseMarker 0, .grun [], .mailboxSilent 0, .motTestEnd tK 0,
    .motTestEnableHold tK 0, .motTestJogPositive tK 0, .motTestJogNegative tK 0, .motTestHome tK 0, .motTestNotRenewed 0 0,
    .quadratureStep 0 false false 0, .hallCodeChange 0 0 0, .indexLatch 0 false 0, .pcClear tK 0, .pcConfigWrite tK 0 false 0, .zeroSpeedTimeout 0 0,
    .standstillAssert 0 0, .headSampleTimeout 0 0, .headReady 0 0, .wcClear tK 0, .wcConfigWrite tK 0 0, .secConfigWrite tK 0 0, .eoEnable tK 0 0,
    .eoOutputStep 0 0, .fieldLinkOutboundFrame 0 0 false, .fieldLinkInboundFrame 0 0 false 0 0 (List.replicate 8 0) (List.replicate 4 (0, 0)) 0,
    .fieldBlockSilent 0 0, .serialWatchdogExpiry 0 0, .linkCheckPassed 0 0, .linkCheckTimeout 0 0, .dioInputLevelChange 0 0 false 0,
    .dioDiagClearWrite tK 0 0 0] : List Instr).all Instr.wellFormed = true := by decide +kernel

theorem test_wellFormed_admits_2 : ([
    .twoChannelCheckSample 0 0, .pairConfigWrite tK 0 0 0, .loadSwitchInrushEnd 0 0 0, .openLoadSet 0 0 0, .retryCountReset 0 0 0, .soCheckSample 0 0,
    .soConfigWrite tK 0 0 false 0, .testPulseDue 0 0 false 0, .testPulseReadback 0 0 0 0 0 0, .testPulseEnd 0 0 0,
    .wheelSystemCurrentLimit 0 0 false 0, .wheelSystemRetry 0 0 false 0, .fldTestWrite tK 0, .fldTestNotRenewed 0, .flaconScanComplete 0,
    .statisticsPersist 0, .metricClear tK 0, .metricLatchRead tK 0, .latchingLowWordRead tK 0, .rcFieldRead tK 0, .eventEdge 0 false 0,
    .gatherTimeLimit 0 0, .serviceWatchdogExpiry 0 0, .serviceTimerExpiry 0 0, .stmrEnableWrite tK 0 0, .evcPendWrite tK 0 0, .evcRaiseWrite tK 0 0,
    .sourceEnableWrite tK 0 0, .gdisWrite tK 0, .evcTestWrite tK 0, .stabledWake tK, .wake 0, .stabledRequest tK,
    .temperatureSample 0 (List.replicate 12 0), .sensorSummary 0, .regionReinitComplete 0 0, .regionReinitTimeout 0 0, .boot {}, .bootStageTimeout 0 0,
    .lockKeeperCommandReset tK, .logicRegionReset tK, .fieldBlockResetRequest tK 0, .settingsCommit tK, .actProg tK, .actLkfw tK, .actSvfw tK,
    .updateDiscard tK, .wallTimeStageLo tK 0, .wallTimeStageHi tK 0, .wallTimeSet tK 0, .snapBallEdge 0, .snapshotTriggerCommand tK,
    .snapshotRelease tK, .snapshotFbTimeout 0, .controlRegisterWrite tK 0 0, .carrierPeriod 0 [] [] 0, .chopperCrossing 0 0 [] [] 0] : List Instr).all Instr.wellFormed = true := by decide +kernel

theorem test_wellFormed_refuses_many_certificates (l : List (List Byte)) (h : 65_536 < l.length) :
    (Instr.tlsHandshakeComplete 0 tOffer l (zeros 32) [] none 0).wellFormed = false := by
  change (timeOk 0 && decide (l.length ≤ 65_536) && hashOk (zeros 32)) = false
  rw [decide_eq_false (Nat.not_le.mpr h), Bool.and_false, Bool.false_and]

/-! ### KIS -/

theorem test_hyp_ArithmeticResults : CanIssue tiJ 1 [1, 2] false tJ ∧ CanIssue tiS 1 [1, 2] false tS ∧ CanIssue tiV 1 [1, 2] false tV
    ∧ CanIssue tiJ 12 [1, 2] false tJ := by
  dsimp only [CanIssue, tiJ, tiS, tiV]; decide +kernel

theorem test_hyp_OneOperandResults : CanIssue tiJ 1 [31] false tJ ∧ CanIssue tiV 1 [] false tV ∧ 32 < (31 : Reg).val + (31 : Reg).val + 1
    ∧ (0 : Reg).val + (31 : Reg).val + 1 ≤ 32 ∧ CanIssue tiS 1 [1, 2] false tS ∧ CanIssue tiJ 1 [1, 2, 3] false tJ := by
  dsimp only [CanIssue, tiJ, tiS, tiV]; decide +kernel

theorem test_hyp_BranchesGoOn : CanIssue tiJ 1 [1, 2] false tJ ∧ CanIssue tiS 1 [0] false tS ∧ CanIssue tiV 1 [] false tV := by
  dsimp only [CanIssue, tiJ, tiS, tiV]; decide +kernel

/-- A pass that evaluates object 5 of type 0, which holds every class and mask and owns timer 0. -/
def tObj : State := { tJ with
  image := some { progLen := 2, types := [(0, ⟨0, 100, 0xFFFF, 0xFF, 0xFFFF_FFFF⟩)], timerOwner := [(0, 5)], objects := [⟨5, 1, 0, 0⟩] }
  cores := [(0, { top := { tPass with arch := { obj := 5, place := .object 0 } }, objs := [⟨5, 1, 0⟩] })] }

theorem test_hyp_LoadsComplete : CanIssue tiJ 1 [0] false tObj ∧ loadCheck ((tObj.core 0).pass .top).arch .imageIn 65_535 tObj = none
    ∧ loadCheck ((tObj.core 0).pass .top).arch .scratch 0 tObj = none
    ∧ CanIssue tiS 1 [0] false tS ∧ splitLoadCheck 0 .scratch 4095 = none ∧ CanIssue tiV 1 [0] false tV := by
  dsimp only [CanIssue, tiJ, tiS, tiV]; decide +kernel

theorem test_hyp_PassOutputs : CanIssue tiJ 1 [0, 0] false tObj ∧ storeCheck ((tObj.core 0).pass .top).arch .scratch 0 tObj = none
    ∧ CanIssue tiJ 1 [0] false tObj ∧ ((tObj.core 0).pass .top).arch.inObject = true
    ∧ holdsClass ((tObj.core 0).pass .top).arch 9 tObj = true ∧ look 0xFFFF_FFFF 0 tObj.img.timerOwner = 5
    ∧ CanIssue tiJ 1 [0, 0, 0] false tObj ∧ holdsClass ((tObj.core 0).pass .top).arch 7 tObj = true ∧ holdsClass ((tObj.core 0).pass .top).arch 8 tObj = true
    ∧ (typeEntry 0 tObj).axisMask.getLsbD 0 = true ∧ 0 < tObj.axesFitted ∧ (typeEntry 0 tObj).fieldMask.getLsbD 0 = true ∧ 0 < tObj.blocksFitted := by
  dsimp only [CanIssue, tiJ, tiS, tiV]; decide +kernel

/-- g2 of SPLIT context 0 asks for one word of connection 0. -/
def tCode : State := { tS with splits := [(0, { run := .running, regs := [(2, 0x1_0000)] })] }

/-- The same in Top's pass of core 0. -/
def tCodeJ : State := { tJ with cores := [(0, { (tJ.core 0) with top := { tPass with arch := { regs := [(2, 0x1_0000)] } } })] }

theorem test_hyp_TimerCodeAndPlainStores : CanIssue tiJ 1 [0] false tObj
    ∧ (let b := (regOf tiS.ctx 2 tCode).toNat
       b / 2 ^ 13 % 8 = 0 ∧ 1 ≤ b / 2 ^ 16 ∧ b / 2 ^ 16 ≤ 512 ∧ 0 + b / 2 ^ 16 ≤ 4096 ∧ CanIssue tiS (2 + (b / 2 ^ 16 + 4 + 3) / 4) [0, 2] false tCode)
    ∧ (let b := (regOf tiJ.ctx 2 tCodeJ).toNat
       b / 2 ^ 16 = 1 ∧ b / 2 ^ 13 % 8 = 0 ∧ CanIssue tiJ (2 + (b / 2 ^ 16 + 4 + 3) / 4) [0, 2] false tCodeJ)
    ∧ CanIssue tiS 1 [0, 0] false tS ∧ CanIssue tiV 1 [0, 0] false tV ∧ (tV.svcCore 0).mpuEn = false ∧ (tV.svcCore 0).priv = true := by
  dsimp only [CanIssue, tiJ, tiS, tiV]; decide +kernel

/-- The end of the object list. -/
def tEnd : State := { tJ with cores := [(0, { top := { tPass with arch := { place := .listEnd } } })] }

/-- Object 5 with its record written. -/
def tDone : State := { tObj with
  cores := [(0, { top := { tPass with arch := { obj := 5, place := .object 0, stored := [5] } }, objs := [⟨5, 1, 0⟩] })] }

theorem test_hyp_SegmentsAndObjects : CanIssue tiJ 1 [] false tJ ∧ ((tJ.core 0).pass .top).arch.place = .entry
    ∧ ((tDone.core 0).pass .top).arch.place = .object 0 ∧ CanIssue tiJ 1 [] true tDone
    ∧ (ownedRecords 5 tDone).filter (fun n => !((tDone.core 0).pass .top).arch.stored.contains n) = []
    ∧ (let l := (ownedRecords 5 tObj).filter (fun n => !((tObj.core 0).pass .top).arch.stored.contains n)
       l = [5] ∧ l.length < passRoom (tObj.core 0) .top ∧ tObj.seq.worn = [] ∧ CanIssue tiJ (1 + l.length) [] true tObj
        ∧ ((tObj.core 0).pass .top).arch.place = .object 0)
    ∧ CanIssue tiJ 1 [] true tEnd ∧ ((tEnd.core 0).pass .top).arch.place = .listEnd ∧ CanIssue tiS 1 [] false tS := by
  dsimp only [CanIssue, tiJ, tiS, tiV]; decide +kernel

/-- Service core 0 with `f` applied to it. -/
def tVf (f : SvcCore → SvcCore) : State := { tV with svc := { tV.svc with cores := [(0, f (tV.svcCore 0))] } }

/-- Descriptor 0 grants all to privileged code (0x70) or only execution (0x40), of the page 0. -/
def tMpu (g : Word) : State := tVf (fun q => { q with mpuEn := true, mpu := [(1, g)] })

theorem test_hyp_ExceptionsAreTaken : CanIssue tiJ 1 [] false tJ ∧ CanIssue tiS 1 [] false tS ∧ CanIssue tiV 1 [] false tV
    ∧ invalidLogic 0xC000_0000 = true ∧ invalidService 0xFC00_0000 = true ∧ privilegedOp 0xC000_0000 = true
    ∧ (∀ s ∈ [tV, tMpu 0x71], (s.svcCore 0).exc = false ∧ 32 + (s.svcCore 0).splim.toNat ≤ (s.svcCore 0).sp.toNat
        ∧ ((s.svcCore 0).mpuEn = true → (s.svcCore 0).mpuOld = [] ∧ mpuGrants (s.svcCore 0).mpu true 1 ((s.svcCore 0).sp.toNat - 32) = true))
    ∧ CanIssue tiV 1 [] false (tMpu 0x71) ∧ CanIssue tiV 1 [] false (tVf (fun q => { q with exc := true, di := true })) := by
  dsimp only [CanIssue, tiJ, tiS, tiV]; decide +kernel

/-- Service core 0 within the handler of source 3. -/
def tV3 : State := tVf (fun q => { q with stack := [(2, 3)] })

/-- Source 0 is pending and routed to core 0, which takes events. -/
def tAsk : State := { tVf (fun q => { q with di := false }) with
  svc := { (tVf (fun q => { q with di := false })).svc with src := [(0, { pending := true })] }, ctl := [(srcReg 0 0, 0x8001_0003)] }

/-- g1 of service core 0 is 32, beyond the descriptor words. -/
def tV32 : State := tVf (fun q => { q with regs := [(1, 32)] })

theorem test_hyp_ServiceInstructionsAct : CanIssue tiV 1 [] false tV ∧ (tV.svcCore 0).stack = [] ∧ (tV.svcCore 0).priv = true ∧ winner 0 tV = none
    ∧ CanIssue tiV 1 [] false tV3 ∧ (tV3.svcCore 0).stack = [(2, 3)]
    ∧ CanIssue tiV 1 [] false tAsk ∧ winner 0 tAsk ≠ none
    ∧ (regOf tiV.ctx 0 tV).toNat < 32 ∧ CanIssue tiV 1 [] false tV32 ∧ 32 ≤ (regOf tiV.ctx 1 tV32).toNat
    ∧ (∀ k < 12, (BitVec.ofNat 10 k).toNat = k) ∧ 11 < (BitVec.ofNat 10 12).toNat
    ∧ CanIssue tiV 1 [] false (tVf (fun q => { q with priv := false, mpuEn := true, mpu := [(1, 0x09)] }))
    ∧ CanIssue tiV 1 [] false (tMpu 0x71) ∧ mpuGrants ((tMpu 0x71).svcCore 0).mpu true 0 64 = true
    ∧ CanIssue tiV 1 [] false (tMpu 0x41) ∧ mpuGrants ((tMpu 0x41).svcCore 0).mpu true 0 64 = false
    ∧ CanIssue tiJ 1 [] false tJ ∧ CanIssue tiS 1 [] false tS := by
  dsimp only [CanIssue, tiJ, tiS, tiV]; decide +kernel

/-! ### Accord and sequencer -/

/-- Core 0 with all three passes stalled for `r`, Top's first slot used at cycle 5. -/
def tStall (r : Stall) (d : Nat) : State := { tJ with
  seq := { tJ.seq with depth := d }
  cores := [(0, { top := { tPass with stall := r, slots := [(0, 5)] }, heart := { tPass with stall := r }, base := { tPass with stall := r } })] }

/-- A lock chamber that is full of Top's outputs. -/
def tFull : State := { tJ with
  cores := [(0, { top := { tPass with stall := .chamber, segs := [{ seg := 0, outs := List.replicate 4096 (0, .none) }] } })] }

theorem test_hyp_StallsEnd : ((((tStall .chamber 4).core 0).pass .top).stall = .chamber ∧ passFull ((tStall .chamber 4).core 0) .top = false)
    ∧ (((tFull.core 0).pass .top).stall = .chamber ∧ passFull (tFull.core 0) .top = true)
    ∧ (((tStall .depth 4).core 0).top.stall = .depth ∧ ((tStall .depth 4).core 0).lead < (tStall .depth 4).seq.depth)
    ∧ ((((tStall .skew 4).core 0).pass .heart).stall = .skew ∧ ((tStall .skew 4).core 0).before .heart = some ((tStall .skew 4).core 0).top
      ∧ ((tStall .skew 4).core 0).top.slots[(((tStall .skew 4).core 0).pass .heart).slots.length]? = some (0, 5)) := by
  decide +kernel

/-- A fitted module in RUN with cluster 0 JOINED, at the phase `f`. -/
def tRun (f : Phase) : State := { seq := { phase := f, clMode := [(0, 0)] }, keep := { mode := .run } }

/-- A module in RUN whose two release lists are full. -/
def tLists : State := { tRun .evaluate with seq := { (tRun .evaluate).seq with
  motionList := List.replicate 1_024 ⟨0, 0, 0, 0⟩, fieldList := List.replicate 1_024 ⟨0, 0, 0, 0⟩ } }

theorem test_hyp_AccordDecidesAndCommits : (State.wf (tRun .evaluate) ∧ (0 : Nat) < 65_536) ∧ (tRun .evaluate).seq.motionList.length < 1_024
    ∧ (tRun .evaluate).seq.fieldList.length < 1_024 ∧ (1_024 ≤ tLists.seq.motionList.length ∧ 1_024 ≤ tLists.seq.fieldList.length ∧ tLists.keep.mode ≠ .hold)
    ∧ (tRun .evaluate).keep.mode = .run ∧ clusterMode 0 (tRun .evaluate) = 0 := by
  unfold State.wf; decide +kernel

/-- A module in RUN whose clusters all have a mode. -/
def tSeq (f : Phase) : State := { tRun f with seq := { (tRun f).seq with captured := true, complete := true, notFresh := 0xC0 }, net := { up := true } }

theorem test_hyp_CaptureAndSources : sequencerRuns (tSeq .waiting) = true ∧ (tSeq .housekeeping).seq.complete = true ∧ (tSeq .housekeeping).seq.phase ≠ .release
    ∧ sequencerRuns (tSeq .housekeeping) = true ∧ ((tSeq .housekeeping).seq.phase = .waiting → (tSeq .housekeeping).seq.overrun = true)
    ∧ (tSeq .housekeeping).tri.state = .off ∧ (∀ c < 64, ((tSeq .housekeeping).core c).retiring = false)
    ∧ (tSeq .capture).seq.phase = .capture ∧ (tSeq .capture).tri.state = .off ∧ (tSeq .capture).seq.notFresh.getLsbD 6 = true
    ∧ netWorks (tSeq .capture) = true ∧ (∀ ns ≤ 1, ns * 10_000 ≤ (tSeq .capture).seq.start + 10_000) ∧ (tSeq .capture).seq.notFresh.getLsbD 7 = true
    ∧ 15_000 ≤ (tSeq .capture).seq.start + 15_000 := by decide +kernel

/-- A cycle that is not complete at its D(n), with `k` overruns before it. -/
def tLate (k : Nat) (o : Bool) (f : Phase) : State := { tSeq f with seq := { (tSeq f).seq with complete := false, overruns := k, overrun := o } }

theorem test_hyp_OverrunsAct : (sequencerRuns (tLate 0 false .evaluate) = true ∧ (tLate 0 false .evaluate).seq.complete = false)
    ∧ (∀ k < 2, (tLate k false .evaluate).keep.mode = .run ∧ (tLate k false .evaluate).seq.overrun = false ∧ (tLate k false .evaluate).seq.complete = false
        ∧ (tLate k false .evaluate).tri.state = .off ∧ (tLate k false .evaluate).seq.phase = .evaluate ∧ (tLate k false .evaluate).seq.overruns = k)
    ∧ ((tLate 1 true .waiting).seq.overrun = true ∧ (tLate 1 true .waiting).seq.phase = .waiting ∧ (tLate 1 true .waiting).seq.complete = false
        ∧ (tLate 1 true .waiting).seq.nextStart < max (tLate 1 true .waiting).now ((tLate 1 true .waiting).seq.nextStart + 1)
        ∧ max (tLate 1 true .waiting).now (tLate 1 true .waiting).seq.nextStart ≤ (tLate 1 true .waiting).seq.nextStart
        ∧ (tLate 1 true .waiting).keep.mode ≠ .hold) := by
  decide +kernel

/-- The same in a member of a triad. -/
def tMember (f : Phase) : State := { tSeq f with tri := { state := .triad } }

theorem test_hyp_PhasesFollow : ((tSeq .capture).seq.phase = .capture ∧ (tSeq .capture).tri.state = .off ∧ (tSeq .capture).keep.mode ≠ .stabled)
    ∧ ((tMember .capture).seq.phase = .capture ∧ triadActive (tMember .capture) = true)
    ∧ inService 0 (tSeq .capture) = true
    ∧ (let s : State := { tSeq .evaluate with cores := (List.range 8).map (fun c => (c, { top := { run := .ended }, heart := { run := .ended }, base := { run := .ended } })) }
       s.seq.phase = .evaluate ∧ allDone s = true ∧ inService 0 s = true)
    ∧ (let s := tSeq .accordClose
       s.seq.phase = .accordClose ∧ max s.now s.deadline ≤ s.deadline ∧ s.seq.overrun = false ∧ s.deadline < max s.now (s.deadline + 1)
        ∧ s.seq.overruns = 0) := by decide +kernel

/-- A hand-over of cluster 1 to JOINED or SPLIT is in progress. -/
def tHand (m : Nat) : State := { tSeq .waiting with seq := { (tSeq .waiting).seq with clTarget := [(1, m)] } }

theorem test_hyp_ReleaseHandsOver : (∀ s ∈ [tSeq .waiting, tMember .waiting], s.keep.mode = .run ∧ s.seq.overrun = false ∧ s.seq.phase = .waiting ∧ s.seq.complete = true)
    ∧ triadActive (tSeq .waiting) = false ∧ triadActive (tMember .waiting) = true
    ∧ (0 < (tSeq .waiting).blocksFitted ∧ ((tSeq .waiting).block 0).resetAt = none ∧ ((tSeq .waiting).block 0).isolated = false)
    ∧ (let s : State := { tSeq .release with seq := { (tSeq .release).seq with scrubAddr := progBase } }
       s.seq.phase = .release ∧ triadActive s = false ∧ s.keep.mode = .run ∧ 0 < s.clustersFitted ∧ clusterMode 0 s = 0
        ∧ scrubCritical 0 = false ∧ scrubCritical progBase = true
        ∧ (progBase + 0x400_0000 - s.seq.scrubAddr) % 0x400_0000 < min 4 (s.seq.quantum * 262_144))
    ∧ (∀ m < 2, look none 1 ((tHand m).seq.clTarget.map (fun p => (p.1, some p.2))) = some m ∧ (tHand m).keep.mode ≠ .hold) := by decide +kernel

/-! ### Triad, towpath and Yala -/

/-- Member 0 in triad state `st`, both links in state `l`, the peers present as said, in a cycle at phase `f`. -/
def tTri (st : TriState) (l : Nat) (p1 p2 : Bool) (f : Phase) : State := { tSeq f with
  tri := { state := st, ports := [(0, { state := l }), (1, { state := l })], peers := [(1, { present := p1 }), (2, { present := p2 })] } }

/-- The frame of type `typ` with payload `l` that TPp of `s` accepts next. -/
def tTp (p typ : Nat) (l : List Byte) (s : State) : TpFrame := {
  typ := typ, sender := s.peerOf p, receiver := s.member, triad := s.triadId
  seq := ((s.tp p).rxSeq.map (· + 1)).getD 0, ack := (s.tp p).acked.getD 0xFFFF_FFFF, mcc := s.seq.mcc, tsend := 0, snap := false, payload := l }

/-- The same, changed by `f`, as bytes that arrive at once. -/
def tFrame (p typ : Nat) (l : List Byte) (f : TpFrame → TpFrame) (s : State) : WireFrame := { bytes := (f (tTp p typ l s)).wire, arrive := 0 }

/-- A frame laid out with a fitting payload that passes the other checks of R250 and R216 is accepted. -/
theorem tAccepts {p typ a : Nat} {F : TpFrame} {s : State}
    (h : let w : WireFrame := { bytes := F.wire, control := true, arrive := a }
      (F.payload.length % 8 = 0 ∧ F.payload.length ≤ 2_048) ∧ (s.tp p).state ≠ 0 ∧ s.tri.state ≠ .off ∧ netWorks s = true ∧ towType w = typ
      ∧ towFormOk w = true ∧ towTriad w = s.triadId ∧ towSender w = s.peerOf p ∧ towReceiver w = s.member ∧ ackUnsent (s.tp p) (towAck w) = false
      ∧ (typ ≠ tAck → towSeq w = ((s.tp p).rxSeq.map (· + 1)).getD 0)) : TowAccepts p typ { bytes := F.wire, control := true, arrive := a } s :=
  ⟨h.2.1, h.2.2.1, h.2.2.2.1, wire_intact _ _ h.1, h.2.2.2.2⟩

/-- A member of a triad in AGREE. -/
def tAgree : State := tTri .triad 3 true true .agree

/-- The last 8 bytes of a contribution of 25,680. -/
def tChunk : WireFrame := tFrame 0 tContrib (be 4 25_672 ++ be 4 25_680 ++ zeros 8) id tAgree

theorem test_hyp_TowpathFrames : TowAccepts 0 tHello (tFrame 0 tHello (zeros 96) id tAgree) tAgree
    ∧ CycleFrameCounts 0 tCycle (tFrame 0 tCycle (zeros 8) id tAgree) tAgree ∧ CycleFrameCounts 0 tContrib tChunk tAgree
    ∧ CycleFrameCounts 0 tContrib { tChunk with arrive := tAgree.seq.start + 80_001 } tAgree
    ∧ (tAgree.tri.decided = false ∧ tAgree.tri.summarised = false
      ∧ max tAgree.now tChunk.arrive ≤ tAgree.seq.start + 80_000 ∧ beAt 0 4 (towPayload tChunk) + 8 = 25_680
      ∧ (tAgree.peer 1).ranges = [] ∧ State.wf tAgree ∧ tAgree.seq.start + 80_000 < max tAgree.now (tAgree.seq.start + 80_001)) :=
  ⟨tAccepts (by decide +kernel), ⟨tAccepts (by decide +kernel), by decide +kernel⟩,
    ⟨tAccepts (by decide +kernel), by decide +kernel⟩, ⟨tAccepts (by decide +kernel), by decide +kernel⟩, by unfold State.wf; decide +kernel⟩

theorem test_hyp_TowpathFrames_kept : CycleFrameCounts 0 tCut (tFrame 0 tCut (zeros 48) id tAgree) tAgree
    ∧ CycleFrameCounts 0 tSummary (tFrame 0 tSummary (zeros 208) id tAgree) tAgree ∧ CycleFrameCounts 0 tHash (tFrame 0 tHash (zeros 72) id tAgree) tAgree
    ∧ TowAccepts 0 tRelay (tFrame 0 tRelay (zeros 8) id tAgree) tAgree ∧ TowAccepts 0 tNotice (tFrame 0 tNotice (zeros 8) id tAgree) tAgree
    ∧ (tAgree.tri.hashed = false ∧ max tAgree.now 0 ≤ tAgree.deadline + 15_000 ∧ triadActive tAgree = true ∧ (tAgree.peer 1).present = true) :=
  ⟨⟨tAccepts (by decide +kernel), by decide +kernel⟩, ⟨tAccepts (by decide +kernel), by decide +kernel⟩,
    ⟨tAccepts (by decide +kernel), by decide +kernel⟩, tAccepts (by decide +kernel), tAccepts (by decide +kernel), by decide +kernel⟩

/-- A joiner before its first cycle. -/
def tTakes : State := { tTri .joining 3 true true .notRunning with seq := {} }

theorem test_hyp_TowpathFrames_transfer : TowAccepts 0 tXfer (tFrame 0 tXfer (zeros 8) id tTakes) tTakes
    ∧ TowAccepts 0 tXfer (tFrame 0 tXfer (be 4 0 ++ be 4 16 ++ zeros 8) id tTakes) tTakes
    ∧ (tTakes.tri.state = .joining ∧ tTakes.tri.xferDone = false ∧ tTakes.seq.captured = false
      ∧ beAt 4 4 (towPayload (tFrame 0 tXfer (zeros 8) id tTakes)) ≤ beAt 0 4 (towPayload (tFrame 0 tXfer (zeros 8) id tTakes))
      ∧ (let w := tFrame 0 tXfer (be 4 0 ++ be 4 16 ++ zeros 8) id tTakes
         beAt 0 4 (towPayload w) < beAt 4 4 (towPayload w))) :=
  ⟨tAccepts (by decide +kernel), tAccepts (by decide +kernel), by decide +kernel⟩

/-- A frame that the port of `tAgree` has sent. -/
def tOut : TpFrame := { typ := 1, sender := 0, receiver := 1, triad := 0, seq := 0, ack := 0, mcc := 0, tsend := 0, snap := false, payload := [] }

/-- A link that has sent frame 0 and holds it. -/
def tSent : State := { tAgree with tri := { state := .triad, ports := [(0, { state := 3, txSeq := 1, buffer := [{ frame := tOut, sentAt := 0 }] })] } }

theorem test_hyp_TowpathFrames_acks : TowAccepts 0 tAck (tFrame 0 tAck [] (fun f => { f with ack := 0 }) tSent) tSent
    ∧ TowAccepts 0 tAck (tFrame 0 tAck [] id tSent) tSent
    ∧ (let w := tFrame 0 tAck [] (fun f => { f with ack := 0 }) tSent
      (tSent.tp 0).waiting = [] ∧ towSnap w = false ∧ towAck w ≠ (tSent.tp 0).acked.getD 0xFFFF_FFFF
      ∧ (towAck w - (tSent.tp 0).acked.getD 0xFFFF_FFFF).toNat < 2 ^ 31)
    ∧ (towAck (tFrame 0 tAck [] id tSent) = (tSent.tp 0).acked.getD 0xFFFF_FFFF ∧ ∀ b ∈ (tSent.tp 0).buffer, b.retx < 3) :=
  ⟨tAccepts (by decide +kernel), tAccepts (by decide +kernel), by decide +kernel, by decide +kernel⟩

theorem test_hyp_TowpathFrames_refused : ((tTri .triad 0 true true .agree).tp 0).state = 0
    ∧ ((tAgree.tp 0).state ≠ 0 ∧ tAgree.tri.state ≠ .off ∧ netWorks tAgree = true ∧ tAgree.keep.mode ≠ .stabled)
    ∧ towIntact { tFrame 0 tHello (zeros 96) id tAgree with control := false } = false
    ∧ (let w := tFrame 0 tHello (zeros 88) id tAgree
       towIntact w = true ∧ towType w = tHello ∧ towFormOk w = false)
    ∧ (let w := tFrame 0 0xD [] id tAgree
       towIntact w = true ∧ 0xC < towType w ∧ towFormOk w = false)
    ∧ (∀ f ∈ [fun f : TpFrame => { f with triad := 1 }, fun f => { f with sender := 2 }, fun f => { f with receiver := 1 }],
        let w := tFrame 0 tHello (zeros 96) f tAgree
        towIntact w = true ∧ towType w = tHello ∧ towFormOk w = true
          ∧ (towTriad w ≠ tAgree.triadId ∨ towSender w ≠ tAgree.peerOf 0 ∨ towReceiver w ≠ tAgree.member)) := by
  refine ⟨by decide +kernel, ⟨by decide +kernel, by decide +kernel, by decide +kernel, by decide +kernel⟩, by decide +kernel, ?_, ?_, ?_⟩
  · exact ⟨wire_intact _ _ (by decide +kernel), by decide +kernel, by decide +kernel⟩
  · exact ⟨wire_intact _ _ (by decide +kernel), by decide +kernel, by decide +kernel⟩
  · simp only [List.forall_mem_cons]
    refine ⟨?_, ?_, ?_, by simp⟩ <;>
    exact ⟨wire_intact _ _ (by decide +kernel), by decide +kernel, by decide +kernel, by decide +kernel⟩

theorem test_hyp_FramesRoundTrip : (fun f : TpFrame => f.typ < 16 ∧ f.sender < 4 ∧ f.receiver < 4 ∧ f.payload.length ≤ 2_048 ∧ f.payload.length % 8 = 0
    ∧ f.mcc < 2 ^ 48 ∧ f.triad < 2 ^ 16 ∧ f.tsend < 2 ^ 64)
    { tOut with typ := 15, sender := 3, receiver := 3, mcc := 2 ^ 48 - 1, triad := 2 ^ 16 - 1, tsend := 2 ^ 64 - 1, payload := zeros 2_048 } := by decide +kernel

/-- A FORMING member whose two links lead to pair members. -/
def tForm : State := { tTri .forming 3 false false .notRunning with
  tri := { state := .forming, joinTry := some 0, ports := [(0, { state := 3, helloState := 3, helloMatch := true, helloView := 6 }),
    (1, { state := 3, helloState := 3, helloMatch := true, helloView := 6 })] } }

/-- The lower-indexed member of a pair whose TP0 leads to the absent member. -/
def tPair : State := { tTri .pair 3 false true .agree with
  tri := { state := .pair, ports := [(0, { state := 3, helloMatch := true }), (1, { state := 3, helloMatch := true })], peers := [(2, { present := true })] } }

theorem test_hyp_JoinAndTimers : TowAccepts 0 tJoin (tFrame 0 tJoin (zeros 8) id tPair) tPair
    ∧ TowAccepts 0 tGrant (tFrame 0 tGrant (be 4 0 ++ be 4 7 ++ zeros 16) id tForm) tForm
    ∧ TowAccepts 0 tGrant (tFrame 0 tGrant (be 4 1 ++ zeros 20) id tForm) tForm
    ∧ TowAccepts 1 tGrant (tFrame 1 tGrant (be 4 1 ++ zeros 20) id tPair) tPair
    ∧ (tPair.tri.state = .pair
      ∧ (tPair.peer (tPair.peerOf 0)).present = false ∧ (∀ y ∈ presentPeers tPair, tPair.member < y) ∧ (tPair.tp 0).state = 3 ∧ (tPair.tp 1).state = 3
      ∧ tPair.tri.lastGrant = none ∧ tPair.tri.joiner = none ∧ (tPair.tp 0).helloMatch = true)
    ∧ (let w := tFrame 0 tGrant (be 4 0 ++ be 4 7 ++ zeros 16) id tForm
       beAt 0 4 (towPayload w) = 0 ∧ beAt 4 4 (towPayload w) = 7 ∧ tForm.tri.state = .forming ∧ tForm.member < 3)
    ∧ beAt 0 4 (towPayload (tFrame 0 tGrant (be 4 1 ++ zeros 20) id tForm)) = 1
    ∧ (beAt 0 4 (towPayload (tFrame 1 tGrant (be 4 1 ++ zeros 20) id tPair)) = 1 ∧ (tPair.peer (tPair.peerOf 1)).present = true) :=
  ⟨tAccepts (by decide +kernel), tAccepts (by decide +kernel), tAccepts (by decide +kernel), tAccepts (by decide +kernel),
    by decide +kernel, by decide +kernel, by decide +kernel, by decide +kernel⟩

theorem test_hyp_JoinAndTimers_times : (tForm.tri.state ≠ .off ∧ tForm.tri.state ≠ .out ∧ tForm.tri.helloAt ≤ max tForm.now 0 ∧ netWorks tForm = true
      ∧ (tForm.tp 0).state ≠ 0 ∧ (tForm.tp 0).buffer.length < 64 ∧ tForm.keep.mode ≠ .stabled)
    ∧ (∃ s : State, (s.tp 0).ackDue = some 2_000 ∧ 2_000 ≤ max s.now 2_000)
    ∧ (∃ b, (tSent.tp 0).buffer = b :: [] ∧ b.sentAt + 20_000 ≤ max tSent.now 20_000 ∧ ∀ x ∈ (tSent.tp 0).buffer, x.retx < 3)
    ∧ (tForm.tri.joinTry = some 0 ∧ 0 ≤ max tForm.now 0 ∧ canJoin tForm = true)
    ∧ ((tForm.tp 0).state = 3 ∧ tForm.tri.state ≠ .triad ∧ (tForm.tp 0).lastValid + 2_000_000 ≤ max tForm.now 2_000_000)
    ∧ (((tTri .forming 0 false false .notRunning).tp 0).state = 0 ∧ netWorks (tTri .forming 0 false false .notRunning) = true) := by
  refine ⟨by decide +kernel, ⟨{ tri := { ports := [(0, { ackDue := some 2_000 })] } }, by decide +kernel⟩, ⟨_, rfl, by decide +kernel⟩, by decide +kernel, by decide +kernel, by decide +kernel⟩

theorem test_hyp_AgreementOfWords : (tAgree.seq.phase = .agree ∧ tAgree.tri.state ≠ .joining ∧ tAgree.keep.mode ≠ .stabled)
    ∧ ((tTri .joining 3 true true .agree).seq.phase = .agree ∧ (tTri .joining 3 true true .agree).tri.state = .joining)
    ∧ (∀ f ∈ [Phase.evaluate, .accordClose, .waiting], let s : State := { tTri .triad 3 true true f with tri := { state := .triad, decided := true } }
        triadActive s = true ∧ s.tri.decided = true ∧ s.seq.phase = f) := by decide +kernel

/-- The HASH frames of the two peers at the release decision. -/
def tPeers (st : TriState) (a b : Option (Bool × List Byte × List Byte)) : State := { tTri st 3 true true .release with
  tri := { state := st, peers := [(1, { present := true, hash := a }), (2, { present := true, hash := b })] } }

theorem test_hyp_ReleaseAndTransferDecide : ((tPeers .triad none none).tri.hashed = false ∧ (tPeers .triad none none).seq.phase = .release
      ∧ (tPeers .triad none none).keep.mode = .run)
    ∧ (∀ st ∈ [TriState.triad, .pair, .joining], (tPeers st none none).tri.state = st
      ∧ peerViews (tPeers st (some (true, [], [])) (some (true, [], []))) = (.match_, .match_)
      ∧ peerViews (tPeers st none none) = (.absent, .absent)
      ∧ peerViews (tPeers st (some (true, [1], [])) (some (true, [1], []))) = (.differ, .differ)
      ∧ peersMatch (tPeers st (some (true, [1], [])) (some (true, [1], []))) = true
      ∧ peersMatch (tPeers st (some (true, [1], [])) (some (true, [2], []))) = false
      ∧ peerViews (tPeers st (some (true, [1], [])) none) = (.differ, .absent)
      ∧ peerViews (tPeers st none (some (true, [1], []))) = (.absent, .differ)) := by decide +kernel

/-- A joiner that holds both halves, with hash `d` from both. -/
def tHalves : Tab (List (Nat × Nat)) := [(1, [(0, 2_359_296)]), (2, [(0, 2_359_296)])]
def tJoiner (d : List Byte) : State := { tri := { state := .joining, xferTotal := [(1, 2_359_296), (2, 2_359_296)], xferRanges := tHalves, xferHash := [(1, d), (2, d)] } }

theorem test_hyp_ReleaseAndTransferDecide_deadline : ((tJoiner []).tri.state = .joining ∧ (tJoiner []).tri.xferDone = false ∧ (tJoiner []).seq.captured = false
      ∧ (tJoiner []).others = [1, 2] ∧ xferHeld 1 State.reset = false ∧ (tJoiner []).keep.mode ≠ .stabled
      ∧ (tJoiner []).tri.xferAt + 10_000 ≤ 10_000 ∧ ¬ (tJoiner []).tri.xferAt + 10_000 ≤ 9_999)
    ∧ ∃ s : State, s.tri.state = .joining ∧ s.tri.xferDone = false ∧ s.seq.captured = false ∧ s.others = [1, 2] ∧ xferHeld 1 s = true ∧ xferHeld 2 s = true
      ∧ look [] 1 s.tri.xferHash = stateHash (xferHalf 1 s) (xferHalf 2 s) ∧ look [] 2 s.tri.xferHash = stateHash (xferHalf 1 s) (xferHalf 2 s) := by
  have held : ∀ d x, x = 1 ∨ x = 2 → xferHeld x (tJoiner d) = true := by
    rintro d x (rfl | rfl) <;> simp [xferHeld, tJoiner, tHalves, look, coversAll, covered, xferTotalBytes]
  have half : ∀ d e x, xferHalf x (tJoiner d) = xferHalf x (tJoiner e) := fun _ _ _ => by unfold xferHalf tJoiner; rfl
  have hash : ∀ d x, x = 1 ∨ x = 2 → d = stateHash (xferHalf 1 (tJoiner [])) (xferHalf 2 (tJoiner [])) →
      look [] x (tJoiner d).tri.xferHash = stateHash (xferHalf 1 (tJoiner d)) (xferHalf 2 (tJoiner d)) := by
    rintro d x (rfl | rfl) hd <;> (rw [half d [] 1, half d [] 2, ← hd]; rfl)
  have others : ∀ d, (tJoiner d).others = [1, 2] := by
    intro d
    have h : ctlReset (tJoiner d) 0x0480_0000 = rwReset 0x0480_0000 := by unfold ctlReset; rw [if_neg (by decide), if_neg (by decide)]
    unfold State.others State.member cf ctlGet; rw [h]; simp only [tJoiner, look]; decide +kernel
  exact ⟨by decide +kernel, tJoiner _, rfl, rfl, rfl, others _,
    held _ 1 (.inl rfl), held _ 2 (.inr rfl), hash _ 1 (.inl rfl) rfl, hash _ 2 (.inr rfl) rfl⟩

/-- Port 0 with its link as said, enabled, at address 5. -/
def tPort (l : Bool) : State := { net := { up := true, ports := [(0, { link := l })] }, ctl := [(portReg 0 0, 1), (portReg 0 0x10, 5)] }

theorem test_hyp_PortsAct : netWorks (tPort true) = true ∧ ((tPort true).port 0).link = true ∧ ctlGet (portReg 0 0x10) (tPort true) = 5
    ∧ (6 : Word) ≠ ctlGet (portReg 0 0x10) (tPort true) ∧ netWorks (tPort false) = true ∧ ((tPort false).port 0).link = false
    ∧ portCfgOk 0 (tPort false) = true
    ∧ (let s : State := { tPort true with bth := { policy := some { enabled := [(3, true)], tcpPort := [(3, 443)], portMask := [(3, 1)] } } }
       toBerth 0 { dstIp := 5, dstPort := 443 } s = true ∧ toBerth 0 { dstIp := 5, dstPort := 444 } s = false ∧ clientMax 0 s = 1_500)
    ∧ (let s : State := { net := { up := true }, ctl := [(portReg 2 0, 1)] }
       netWorks s = true ∧ (s.port 2).link = false ∧ portCfgOk 2 s = true) := by decide +kernel

/-- A module in RUN with raw connection 0 of ten words on port 0. -/
def tYala : State := { tRun .evaluate with
  net := { up := true, ports := [(0, { link := true })], table := [(0, 0x113), (6, 10)], conns := [(0, { state := 0 })] }
  ctl := [(0x0410_0000, 0xBC0C_0002)] }

/-- A message without user data, and its unit. -/
def tWords : List Nat :=
  let l := [0x1100_0000, 0, 0, 1, 0, 0, 0, 0]
  let c := idBlock 0 true tYala ++ l
  l ++ [(safetyCode false c).toNat, (safetyCode true c).toNat]
def tUnit : NetFrame := { raw := true, srcMac := 0, bytes := [0x10, 0, 0, 40, 0, 0, 0, 0] ++ (tWords.map (be 4)).flatten }

theorem test_hyp_YalaUnits : (netWorks tYala = true ∧ (tYala.port 0).link = true ∧ tUnit.fcsOk = true ∧ tUnit.raw = true ∧ cbit 0x0410_0000 1 tYala = true
      ∧ tUnit.bytes.length ≤ clientMax 0 tYala)
    ∧ (let len := beAt 2 2 tUnit.bytes
       let inner := slice 8 len tUnit.bytes
       let w := fun k => beAt (4 * k) 4 inner
       (tUnit.bytes.headD 0).toNat = 0x10 ∧ beAt 4 1 tUnit.bytes = 0 ∧ len = 40 ∧ 8 + len ≤ tUnit.bytes.length
       ∧ matchConn (beAt 4 4 inner) (beAt 8 4 inner) tYala = some 0 ∧ connProt tYala.net.table 0 = 0 ∧ sourceOk 0 0 tUnit tYala = true
       ∧ openUnit 0 (tUnit.bytes.take 8) inner [] tYala = some inner
       ∧ bits 31 28 (w 0) = 1 ∧ bits 27 24 (w 0) = 1 ∧ 40 + bits 15 0 (w 0) = inner.length ∧ 10 ≤ connS tYala.net.table 0
       ∧ safetyCode false (idBlock 0 true tYala ++ (List.range 8).map w) = BitVec.ofNat 32 (w 8)
       ∧ safetyCode true (idBlock 0 true tYala ++ (List.range 8).map w) = BitVec.ofNat 32 (w 9))
    ∧ (tYala.conn 0).state ≠ 2 ∧ (tYala.conn 0).ref = none ∧ placesOwn tYala = true ∧ triadActive tYala = false
    ∧ newer 0 1 = false ∧ ({ tYala with tri := { state := .triad } } : State).tri.state = .triad
    ∧ triadActive { tYala with tri := { state := .triad } } = true := by decide +kernel

/-- The same endpoint for units in UDP: port 0 has address 5, UDP port 0xBC0C. -/
def tUdp : State := { tYala with ctl := [(0x0410_0000, 0xBC0C_0001), (portReg 0 0x10, 5)] }
def tFragment : NetFrame := { raw := false, srcMac := 0, dstIp := 5, dstPort := 0xBC0C, fragment := true, bytes := [] }

/-- A unit with one changed byte of its message: `k` counts from the start of the message. -/
def tSpoilt (k : Nat) (b : Byte) : NetFrame := { tUnit with bytes := tUnit.bytes.set (8 + k) b }

theorem test_hyp_YalaUnits_refused : tYala.keep.mode = .run ∧ ¬ (tYala.keep.mode = .hold)
    ∧ clientMax 0 tYala < (zeros 1_501).length
    ∧ (cbit 0x0410_0000 0 tUdp = true ∧ ctlGet (portReg 0 0x10) tUdp ≠ 0 ∧ tFragment.dstIp = ctlGet (portReg 0 0x10) tUdp
        ∧ tFragment.dstPort.toNat = cf 0x0410_0000 31 16 tUdp ∧ netWorks tUdp = true ∧ (tUdp.port 0).link = true)
    ∧ (beAt 4 1 [0x10, 0, 0, 40, 1] ≠ 0 ∧ beAt 2 2 [0x10, 0, 0, 41, 0] % 4 ≠ 0 ∧ 1440 < beAt 2 2 [0x10, 0, 6, 0, 0] ∧ beAt 2 2 [0x10, 0, 0, 36, 0] < 40)
    ∧ matchConn 0 0 { tYala with net := { tYala.net with table := [] } } = none ∧ sourceOk 0 0 { tUnit with srcMac := 1 } tYala = false
    ∧ openUnit 0 [0x14, 0, 0, 40, 0, 0, 0, 0] (slice 8 40 tUnit.bytes) [] tYala = none
    ∧ bits 31 28 (beAt 0 4 (slice 8 40 (tSpoilt 0 0x21).bytes)) ≠ 1
    ∧ (let inner := slice 8 40 (tSpoilt 36 0xFF).bytes
       bits 31 28 (beAt 0 4 inner) = 1 ∧ safetyCode true (idBlock 0 true tYala ++ (List.range 8).map (fun k => beAt (4 * k) 4 inner)) ≠ BitVec.ofNat 32 (beAt 36 4 inner))
    ∧ (let s : State := { tYala with keep := { mode := .hold }, time := { t6 := 6_000_000_000 } }
       netWorks s = true ∧ ¬ s.now < s.net.interval + 1_000_000_000) := by decide +kernel

/-- Connection 0 open in state `k`, gap 2, with reference `r` and message `m` frozen. -/
def tConn (k : Nat) (r : Option Word) (m : Option SlotMsg) : State := { net := {
  table := [(0, 1), (6, 0x0302_000A)], control := [(0, 3)], conns := [(0, { state := k, ref := r, frozen := m })] } }

theorem test_hyp_ConnectionUpdates : (∀ k < 2, ∀ r < 8, let s := tConn k (if r = 5 then none else some (BitVec.ofNat 32 r)) (some ⟨7, 0⟩)
      (look 0 0 s.net.control).getLsbD 0 = true ∧ (look 0 0 s.net.control).getLsbD 1 = true ∧ (s.conn 0).state = k
      ∧ (s.conn 0).frozen = some ⟨7, 0⟩ ∧ (s.conn 0).ref = (if r = 5 then none else some (BitVec.ofNat 32 r)))
    ∧ ((tConn 1 none none).conn 0).frozen = none ∧ connG (tConn 0 none none).net.table 0 = 2
    ∧ [((7 : Word) - 7).toNat, ((7 : Word) - 6).toNat, ((7 : Word) - 4).toNat, ((7 : Word) - 0).toNat] = [0, 1, 3, 7]
    ∧ ((tConn 2 none none).conn 0).state = 2 ∧ (look 0 0 ({ tConn 0 none none with net := { control := [(0, 1)] } } : State).net.control).getLsbD 1 = false
    ∧ (look 0 0 State.reset.net.control).getLsbD 0 = false ∧ State.reset.keep.mode ≠ .hold ∧ look none 4 State.reset.keep.reinit = none
    ∧ look none 4 ({ keep := { mode := .run, reinit := [(4, some 0)] } } : State).keep.reinit ≠ none := by decide +kernel

/-! ### Berths -/

/-- 64 bytes of two numbers: a public key, or a raw signature. -/
def tPair64 (x y : Nat) : List Byte := be 32 x ++ be 32 y

/-- A signature in DER. -/
def tDer (r s : Nat) : List Byte := [0x30, 70, 0x02, 0x21, 0] ++ be 32 r ++ [0x02, 0x21, 0] ++ be 32 s

/-- A leaf certificate of the form of R290: serial number `n`, title ROLES:O, digitalSignature, the key `k` and the signature (r, s) of its issuer. -/
def tLeaf (n : Byte) (k : List Byte) (r s : Nat) : List Byte :=
  [0x30, 0x82, 1, 0x10, 0x30, 0x81, 0xB6, 0xA0, 3, 2, 1, 2, 2, 1, n] ++ ecdsaSha256 ++ [0x30, 0, 0x30, 0x1E, 0x17, 0x0D]
  ++ [0x32, 0x35, 0x30, 0x31, 0x30, 0x31, 0x30, 0x30, 0x30, 0x30, 0x30, 0x30, 0x5A, 0x17, 0x0D]
  ++ [0x33, 0x35, 0x30, 0x31, 0x30, 0x31, 0x30, 0x30, 0x30, 0x30, 0x30, 0x30, 0x5A, 0x30, 0x12, 0x31, 0x10, 0x30, 0x0E, 6, 3] ++ oidTitle
  ++ [0x13, 7, 0x52, 0x4F, 0x4C, 0x45, 0x53, 0x3A, 0x4F] ++ p256Spki ++ k ++ [0xA3, 0x0F, 0x30, 0x0D, 0x30, 0x0B, 6, 3] ++ oidUsage ++ [4, 4, 3, 2, 7, 0x80]
  ++ ecdsaSha256 ++ [0x03, 0x49, 0] ++ tDer r s

def tPolicy : Policy := { roles := (List.range 8).map (fun b => (b, 63)), enabled := (List.range 8).map (fun b => (b, true)), tcpPort := [(3, 4_000)]
                          portMask := [(3, 1)], idle := [(3, 60)], limit := [(3, 10)] }

/-- A berth 3 over TLS, and a berth 0, in state `k`, in RUN; the anchor is `key`. -/
def tKeyed (key : List Byte) (k : BthState) : State := { tRun .evaluate with
  bth := { policy := some tPolicy, anchorSlot := some 0, anchors := [(0, key)]
           berths := [(0, { state := k, granted := 63, nonce := some (zeros 32) }), (3, { state := k, granted := 63, tls := true, tcp := some 0 })] }
  net := { up := true, ports := [(0, { link := true })] }, ctl := [(portReg 0 0x10, 5)]
  svc := { held := false } }
def tBth (k : BthState) : State := tKeyed (tPair64 0x5B14EDE7075FF39FC6FF3EEFF33D07D7DCF513ADBBB98B150568A98356C1629A
    0x7D657F1B6B2F0D68335DC2F990FCA9F76F641E0AC8DFC2375E3548559E8DACA2) k

/-- The body of a PROOF on BTH0 of serial 0 for a nonce of zeros: the signature, and the chain of one certificate. -/
def tSig : List Byte := tPair64 0x9E1736C43D19118E6CE4302118AF337109491ECC52757DFB949BAD6A7940B0C2
  0x9E1736C43D19118E6CE4302118AF337109491ECC52757DFB949BAD6A7940B0C2
def tChain : List Byte := be 4 276 ++ tLeaf 2 (tPair64 0x361B085D5C4D5C18710AD2637601C2D649066C2F5E6182A0C6300AE2EB212238
    0xAC654C29D3AD0D8AE38B54A72F216FF9B617E9C2D14BE16A7F57569D78C21344)
  0x99386CFA93BB2D76A5391A7CF4403CCA90B8EC9FFDA57D9BEA33F89B22825A78
  0x99386CFA93BB2D76A5391A7CF4403CCA90B8EC9FFDA57D9BEA33F89B22825A78

/-- The leaf of that chain. -/
def tSigner : Signer := {
  roles := 1, hash := sha256 (tChain.drop 4), ids := [(sha256 (tBth .opening).anchorKey, [2])]
  key := tPair64 0x361B085D5C4D5C18710AD2637601C2D649066C2F5E6182A0C6300AE2EB212238
    0xAC654C29D3AD0D8AE38B54A72F216FF9B617E9C2D14BE16A7F57569D78C21344 }

/-- A message formed by `tMsg` has a good header. -/
theorem headOk_tMsg (typ : Byte) (body : List Byte) (h : body.length < 65_536) : headOk (tMsg typ body) body = true := by
  simp [headOk, tMsg, Nat.mod_eq_of_lt h]

theorem tSigner_of_chain : (chainCerts 3 tChain).bind (fun ders => hostLeaf ders (tBth .opening)) = some tSigner := by decide +kernel

theorem test_hyp_BerthsOpenAndClose : (Admits 0 1 (tMsg 1 []) [] (tBth .closed) ∧ ((tBth .closed).berth 0).state = .closed ∧ (tBth .closed).bth.anchorSlot.isSome = true
      ∧ entryEnabled 0 (tBth .closed) = true)
    ∧ (Admits 0 1 (tMsg 1 []) [] (tBth .lockedOut) ∧ ((tBth .lockedOut).berth 0).state = .lockedOut)
    ∧ (tSig.length = 64 ∧ ((tBth .opening).berth 0).state = .opening)
    ∧ (openCode 0 none (fun _ => true) (tBth .opening) ≠ 0 ∧ holdOnLimit (tBth .opening) = false
      ∧ (chainCerts 3 []).bind (fun ders => hostLeaf ders (tBth .opening)) = none)
    ∧ (Admits 0 3 (tMsg 3 []) [] (tBth .opening) ∧ Admits 0 3 (tMsg 3 []) [] (tBth .open_) ∧ ((tBth .open_).berth 0).state = .open_)
    ∧ ((tBth .resetting).berth 0).state = .resetting ∧ ((tBth .open_).berth 0).state ≠ .resetting := by unfold Admits; decide +kernel

/-- In COMMISSION and RUN, outside ROM recovery, a message that `tMsg` forms is admitted. -/
theorem tAdmits {b : Nat} {typ : Byte} {body : List Byte} {s : State} (h : body.length < 65_536 ∧ served b s = true
    ∧ (s.keep.mode = .stabled → typ.toNat ≤ 0x11) ∧ recoveryServes typ.toNat s = true) : Admits b typ.toNat (tMsg typ body) body s :=
  ⟨h.2.1, headOk_tMsg _ _ h.1, rfl, h.2.2⟩

theorem test_hyp_BerthsOpenAndClose_proof : Admits 0 2 (tMsg 2 (tSig ++ tChain)) (tSig ++ tChain) (tBth .opening)
    ∧ Admits 0 2 (tMsg 2 (zeros 64)) (zeros 64) (tBth .opening) :=
  ⟨tAdmits (by decide +kernel), tAdmits (by decide +kernel)⟩

theorem test_hyp_BerthsOpenAndClose_signature :
    openCode 0 (some tSigner) (fun g => ecdsaOk g.key (proofText 0 (tBth .opening)) (rawSig tSig)) (tBth .opening) = 0 := by decide +kernel

/-- Berth 3 before a TCP connection, with one accepted at 0, and locked out to 0. -/
def tTcp (k : BthState) (c : Option Nat) : State :=
  let s := tKeyed (tPair64 0x8387E59E67ED2828C396C546DEADCC00327A157CE2D24D70A8BC8FBB728FB26B
    0x34AB3DF6B5B86F418EEBF1444EB84C944E7573370E99FBCF7E73690AC1ACBB72) k
  { s with bth := { s.bth with berths := [(3, { state := k, tcp := c, lockEnd := some 0 })] } }

/-- A certificate of a TLS client, and its CertificateVerify over a transcript of zeros. -/
def tCert : List Byte := tLeaf 7 (tPair64 0xA3AF01111AC137B7638755CD678D961B547C694584AF8C66BD46FA4A5F418905
    0xB10148BB96F68688C7AB63FB6659689DD5056D5F3272A810C5C5A618891DFF23)
  0xD51F8E08F1FCEB7C1D5A86EF3E0F097CA5AE41BCC805D74964D6B34861F0EC64
  0x9AA3F1C09E3F9D7003AB50DDE7C1E12F7329458E6C8C8A2BA677BBCA8A6FB035
def tVerify : List Byte := tDer 0xAF2288501C04CFF76274FD719D69A1511F7466489FEEA12336A553B393075413
  0xD79144278E0267FC313A7EB8CEB4D0A86E2DB07B23831FD4152F8F3B47B53CB2
def tClient : Signer := {
  roles := 1, hash := sha256 tCert, ids := [(sha256 (tTcp .opening (some 0)).anchorKey, [7])]
  key := tPair64 0xA3AF01111AC137B7638755CD678D961B547C694584AF8C66BD46FA4A5F418905
    0xB10148BB96F68688C7AB63FB6659689DD5056D5F3272A810C5C5A618891DFF23 }

theorem tClient_of_chain : hostLeaf [tCert] (tTcp .opening (some 0)) = some tClient := by decide +kernel

theorem test_hyp_BerthsOpenAndClose_handshake : openCode 3 (some tClient)
    (fun g => ((derSig tVerify).map (ecdsaOk g.key (verifyText (zeros 32)))).getD false) (tTcp .opening (some 0)) = 0 := by decide +kernel

theorem test_hyp_BerthsOpenAndClose_sessions : (listener 0 (4_000 : BitVec 16).toNat (tTcp .closed none) = some 3 ∧ modeServes 3 (tTcp .closed none).keep.mode = true
      ∧ (tTcp .closed none).svc.held = false ∧ (tTcp .closed none).keep.romRecovery = false ∧ netWorks (tTcp .closed none) = true
      ∧ ((tTcp .closed none).port 0).link = true ∧ ownIp 0 (tTcp .closed none) ≠ 0
      ∧ ((tTcp .closed none).berth 3).state = .closed ∧ ((tTcp .closed none).berth 3).tcp = none)
    ∧ (listener 0 (4_000 : BitVec 16).toNat (tTcp .lockedOut none) = some 3 ∧ ((tTcp .lockedOut none).berth 3).state = .lockedOut
      ∧ listener 0 (4_000 : BitVec 16).toNat (tTcp .opening (some 0)) = some 3 ∧ ((tTcp .opening (some 0)).berth 3).tcp ≠ none)
    ∧ (((tTcp .opening (some 0)).berth 3).tcp = some 0 ∧ ((tTcp .opening (some 0)).berth 3).tls = false
      ∧ handshakeLate 3 (tTcp .opening (some 0)) = false ∧ helloAlert tOffer = 0 ∧ helloAlert { tOffer with suites := [] } ≠ 0
      ∧ handshakeLate 3 (advance 5_000_000_000 (tTcp .opening (some 0))) = true ∧ holdOnLimit (tTcp .opening (some 0)) = false)
    ∧ (((tBth .open_).berth 3).tls = true ∧ ((tBth .open_).berth 3).tcp.isSome = true)
    ∧ ((tBth .open_).bth.policy = some tPolicy ∧ look 0 3 tPolicy.idle ≠ 0
      ∧ ((tBth .open_).berth 3).lastUse + 1_000_000_000 * look 0 3 tPolicy.idle ≤ (advance 60_000_000_000 (tBth .open_)).now)
    ∧ (((tTcp .lockedOut none).berth 3).lockEnd = some 0 ∧ 0 ≤ (tTcp .lockedOut none).now)
    ∧ (∃ s : State, (s.berth 3).lockEnd = some 1 ∧ s.now < 1) := by
  refine ⟨?_, ?_, ?_, ?_, ?_, ?_, ⟨{ bth := { berths := [(3, { lockEnd := some 1 })] } }, ?_⟩⟩ <;> decide +kernel

def tReply : Reply := { typ := 1, tag := 0, status := 0, body := [] }

/-- The queue of BTH1: enabled or not, `n` replies waiting for a slot since 0. -/
def tQueue (e : Bool) (n : Nat) : State := { tBth .open_ with
  bth := { (tBth .open_).bth with berths := [(1, { state := .open_, enable := e, slotWait := List.replicate n (tReply, 0), ringCfg := 0x404, reqTail := 1 })] } }

theorem test_hyp_QueuesAct : ((tQueue true 1).berth 1).slotWait = [(tReply, 0)]
    ∧ ((4 : Word).getLsbD 1 = false ∧ (2 : Word).getLsbD 1 = true) ∧ ((tQueue false 0).berth 1).enable = false ∧ ((tQueue true 0).berth 1).enable = true
    ∧ (((tQueue true 0).berth 1).reqHead ≠ ((tQueue true 0).berth 1).reqTail ∧ 2 ≤ ((tQueue true 0).berth 1).freeReplies
      ∧ modeServes 1 (tQueue true 0).keep.mode = true)
    ∧ 0 + 1_000_000_000 ≤ (advance 1_000_000_000 (tQueue true 1)).now := by decide +kernel

/-- A COMMAND of two entries on BTH0, `n` of them answered. -/
def tWait (n : Nat) : WaitingCommand := { msg := 0, tag := 0, count := 2, answers := (List.range n).map (fun k => (k, { status := 0, disposition := 0, released := false, mcc := 0, words := [] })) }
def tCmd (n : Nat) : State := { tBth .open_ with bth := { (tBth .open_).bth with berths := [(0, { state := .open_, granted := 63, waiting := [tWait n] })] } }
def tEntry : CmdEntry := { addr := 5, code := 1, arg0 := 0, arg1 := 0 }

theorem test_hyp_CommandEntries : (Admits 0 0x20 (tMsg 0x20 ([tEntry].flatMap entryBytes)) ([tEntry].flatMap entryBytes) (advance 0 (tBth .open_)) ∧ hasAny 0 [roleO] (tBth .open_) = true
      ∧ 1 ≤ [tEntry].length ∧ [tEntry].length ≤ 64 ∧ ∀ e ∈ [tEntry], e.zero = 0)
    ∧ ((((tCmd 2).berth 0).waiting.takeWhile WaitingCommand.done).length = 1)
    ∧ ((((tCmd 1).berth 0).waiting.takeWhile WaitingCommand.done).length = 0) := by unfold Admits; decide +kernel

/-- BTH0 before the first commissioning. -/
def tFirst : State := { tRun .evaluate with keep := { mode := .commission, cmsn := false }, svc := { held := false } }

theorem test_hyp_HostsRead : (Admits 0 0x31 (tMsg 0x31 []) [] (tBth .open_) ∧ hasAny 0 [roleB, roleM, roleE, roleI, roleU] (tBth .open_) = true)
    ∧ (Admits 0 0x31 (tMsg 0x31 []) [] tFirst ∧ firstCommissioning 0 tFirst = true)
    ∧ (Admits 0 0x31 (tMsg 0x31 []) [] (tCmd 0) ∧ firstCommissioning 0 (tBth .open_) = false)
    ∧ (Admits 0 0x30 (tMsg 0x30 (be 4 0xF_FE00 ++ be 4 512)) (be 4 0xF_FE00 ++ be 4 512) (tBth .open_) ∧ hasAny 0 [roleB, roleM] (tBth .open_) = true
      ∧ (0xF_FE00 : Word).toNat + (512 : Word).toNat ≤ 2 ^ 20)
    ∧ (Admits 0 0x30 (tMsg 0x30 (be 4 0xF_FE00 ++ be 4 513)) (be 4 0xF_FE00 ++ be 4 513) (tBth .open_) ∧ ¬ (0xF_FE00 : Word).toNat + (513 : Word).toNat ≤ 2 ^ 20) := by unfold Admits; decide +kernel

theorem test_hyp_HostsRead_words : (Admits 0 0x30 (tMsg 0x30 (be 4 0 ++ be 4 1)) (be 4 0 ++ be 4 1) tFirst ∧ hasAny 0 [roleB, roleM] tFirst = false)
    ∧ (Admits 0 0x10 (tMsg 0x10 (be 4 0x0800_0000 ++ be 2 1 ++ be 2 0)) (be 4 0x0800_0000 ++ be 2 1 ++ be 2 0) (tBth .open_) ∧ ((tBth .open_).berth 0).state = .open_
      ∧ (∀ k < 1, checkRead (.berth 0) ((0x0800_0000 : Word).toNat + 4 * k) (tBth .open_) = 0) ∧ latchOf 0 (0x0800_0000 : Word).toNat (tBth .open_) = none)
    ∧ (Admits 0 0x10 (tMsg 0x10 (be 4 1 ++ be 2 1 ++ be 2 0)) (be 4 1 ++ be 2 1 ++ be 2 0) (tBth .open_) ∧ checkRead (.berth 0) ((1 : Word).toNat + 4 * 0) (tBth .open_) ≠ 0)
    ∧ (served 0 (tBth .open_) = true ∧ headOk { tMsg 0x31 [] with version := 0x20 } [] = false ∧ headOk (tMsg 0x32 []) [] = true
      ∧ served 1 (tBth .open_) = false) := by unfold Admits; decide +kernel

/-- BTH0 in COMMISSION, CMSN low, with `g` staged; `key` is the vendor root and the anchor. -/
def tStage (g : Staged) (key : List Byte) : State := { tBth .open_ with
  keep := { mode := .commission, cmsn := false }
  bth := { policy := some tPolicy, anchorSlot := some 0, anchors := [(0, key)], berths := [(0, { state := .open_, granted := 63, staged := g })] }
  fused := { vendorRoot := key } }

/-- An envelope without encryption and chain, with the signature (r, s). -/
def tEnvelope (kind : Nat) (payload : List Byte) (r s : Nat) : List Byte :=
  be 4 0x414B_4556 ++ be 2 1 ++ be 2 kind ++ zeros 20 ++ be 4 payload.length ++ zeros 16 ++ sha256 payload ++ zeros 96 ++ payload
  ++ zeros ((16 - payload.length % 16) % 16) ++ tPair64 r s

/-- The checks of a staged envelope have begun. -/
def tChecked (kind : Nat) (e : List Byte) : Staged :=
  { total := e.length, ranges := [(0, e.length)], bytes := (List.range e.length).zip e, checking := some { kind := kind, tag := 7, stamp := 0, commission := true } }

theorem test_hyp_EnvelopesAct : (Admits 0 0x40 (tMsg 0x40 (be 4 0 ++ be 4 5_000 ++ zeros 8)) (be 4 0 ++ be 4 5_000 ++ zeros 8) (tStage {} []) ∧ hasAny 0 [roleE, roleU] (tStage {} []) = true
      ∧ ((tStage {} []).berth 0).staged.checking = none ∧ (zeros 4_072).length ≤ 4_072 ∧ (0 : Word).toNat + (zeros 4_072).length ≤ (5_000 : Word).toNat)
    ∧ (let g : Staged := { total := 4, ranges := [(0, 4)] }
       let s := advance 0 (tStage g [])
       Admits 0 0x41 (tMsg 0x41 (be 4 4 ++ be 2 4 ++ be 2 0)) (be 4 4 ++ be 2 4 ++ be 2 0) s ∧ hasAny 0 [roleE, roleU] s = true ∧ g.checking = none ∧ g.total = (4 : Word).toNat
        ∧ coversAll g.ranges g.total = true ∧ g.total ≠ (8 : Word).toNat ∧ Admits 0 0x41 (tMsg 0x41 (be 4 8 ++ be 2 4 ++ be 2 0)) (be 4 8 ++ be 2 4 ++ be 2 0) s)
    ∧ firstCommissioning 0 tFirst = true := by unfold Admits; decide +kernel

/-- An RMA unlock signed with the vendor root, a firmware, and a new anchor signed with the anchor key; the keys are such that (r, s) verifies. -/
def tRma : List Byte := tEnvelope 9 (zeros 16) 0x268C928C4F2AEB868FCC1D04C9BA9DF04329AE180B0E3F3FB70C859D5996F13D
  0x268C928C4F2AEB868FCC1D04C9BA9DF04329AE180B0E3F3FB70C859D5996F13D
def tFirmware : List Byte := tEnvelope 7 (zeros 16) 0xB64A376815374EAB9F8308C5470459A899E50561A5875FB366EEB220D6A7B27F
  0x3CC367CD5C67C4E3DFD65841C256C88D88A1AC75E1D7CA91224F90B59CE290D5
def tAnchor : List Byte := tEnvelope 5 (zeros 68) 0xBAAA9AE574532459E570A19CA13AF2E55183FE564A4E65B89F515A8BA4EC6809
  0xBAAA9AE574532459E570A19CA13AF2E55183FE564A4E65B89F515A8BA4EC6809

theorem test_hyp_EnvelopesAct_rma : let s := tStage (tChecked 9 tRma) (tPair64 0x803A246C03D635A163C7C7BF8BE61AF75A91C34BC8304DD73646BF395656548E
    0x79024618F740407B957B0BC6A95F3D1D9ED8EB2B5F86C6BE0AEF8902AF0089B4)
    (s.berth 0).staged.envelope = tRma ∧ envelopeCode 0 tRma { kind := 9, tag := 7, stamp := 0, commission := true } s = 0 ∧ look 0 9 s.bth.stamps ≤ 0 := by
  decide +kernel

theorem test_hyp_EnvelopesAct_firmware : let s := tStage (tChecked 7 tFirmware) (tPair64 0xF9324F9DC717A385FEAE2E22836559E1448922DE0E8AD9C80BF105EA4075F2B3
    0x91444DF68FA3B78EF84A50EBB1A8F93ADBA3AAA6879327E844107BBEB1735264)
    envelopeCode 0 tFirmware { kind := 7, tag := 7, stamp := 0, commission := true } s = 0 ∧ stages (envHead tFirmware).kind = true
      ∧ stagingSlot 7 s = some 0 ∧ s.keep.romRecovery = false
      ∧ envelopeCode 0 tFirmware { kind := 8, tag := 7, stamp := 0, commission := true } s = 0x6100 := by decide +kernel

theorem test_hyp_EnvelopesAct_anchor : let s := tStage (tChecked 5 tAnchor) (tPair64 0xDF98F477D103C126C3D8C2BCBE9218876D1EB5A838DA0CB51A4025F4E566DA9F
    0xF7818F7AF9F5A402F12F1E798155B1A8D62025470FD2CBE8688D58499E25BE11)
    envelopeCode 0 tAnchor { kind := 5, tag := 7, stamp := 0, commission := true } s = 0 ∧ (envHead tAnchor).kind = 5 ∧ s.bth.anchorSlot = some 0
      ∧ (0 : Nat) < look 0 5 [(5, 1)] := by decide +kernel

/-! ### Motion -/

/-- The registers of a quadrature-fed stepper axis `n` with two segments of 1 s to `e` and `2e` counts, its channel and its group. -/
def tAxReg (n e : Nat) : Tab Word := [(axReg n 0, 0x1401), (axReg n 8, 0x1_03E8), (axReg n 0x10, 1_000_000), (axReg n 0x14, 100), (axReg n 0x18, 100),
  (axReg n 0x20, 0x7F_0000), (axReg n 0x30, 0x1_0000), (pcReg n 0, 1), (grpReg 0, 4_000),
  (0x0110_0000 + 0x1000 * n, 1_000_000), (0x0110_0004 + 0x1000 * n, BitVec.ofNat 32 e),
  (0x0110_0010 + 0x1000 * n, 1_000_000), (0x0110_0014 + 0x1000 * n, BitVec.ofNat 32 (2 * e))]

/-- Axes 0 and 1, group 0, axis 0 as given, in RUN. -/
def tMot (a : Axis) : State := { tRun .evaluate with
  ctl := tAxReg 0 1 ++ tAxReg 1 2 ++ [(0x0108_0000, 0x8180)]
  mot := { axes := [(0, a), (1, { st := .holding, homed := true })] } }

/-- Axis 0 at rest, and in a run. -/
def tHold : Axis := { st := .holding, homed := true }
def tRunOf (g : Option Nat) : RunState := { post := { first := 0, count := 2, armed := false, target := 2, group := g }, seg := 0, p0 := 0, v0 := 0, tick := 2_000_000 }
def tMove : Axis := { tHold with st := .moving, v := 65_536, run := some (tRunOf none) }
def tStop : Axis := { tHold with st := .stopping }

theorem test_hyp_PostsAct_enable : ((0 : Word).toNat % 2 ^ 24 = 0) ∧ ((tMot {}).axis 0).st = .disabled ∧ enableOk 0 (tMot {}) = true
    ∧ enableOk 0 { tMot {} with keep := { mode := .hold } } = false ∧ actualValid 0 (tMot {}) = true ∧ axHomeDio 0 (tMot {}) ≠ 127
    ∧ actualValid 0 { tMot tHold with fbk := { chans := [(0, { bad := true })] } } = false := by decide +kernel

def tRunPost : Post := { a := BitVec.ofNat 32 (0x10 * 2 ^ 24), b := 0x100, c := 1, w3 := 0 }

/-- Each state that a clause on STOP, CLEAR, HOME or SETPOS names. -/
theorem test_hyp_PostsAct_states : ∀ st ∈ [AxState.disabled, .enabling, .holding, .moving, .stopping, .homing, .obstacle, .fault, .test],
    let A := (tMot { tHold with st := st }).axis 0
    A.st = st ∧ A.team = none ∧ A.pendingRun = none ∧ A.pendingRun.bind RunPost.group = none := by decide +kernel

theorem test_hyp_PostsAct_moves : (let A := (tMot tHold).axis 0
      inGroupRun A = false ∧ A.st.en = true ∧ A.homed = true ∧ postFieldsOk 0 tRunPost (tMot tHold) = true
      ∧ segEnterOk 0 (tRunPost.b.toNat % 256) A.p A.v (tMot tHold) = true)
    ∧ (let A := (tMot { tMove with v := 0 }).axis 0
      A.st = .moving ∧ A.v = 0 ∧ segEnterOk 0 0 A.p A.v (tMot tHold) = true)
    ∧ (let A := (tMot tMove).axis 0
      A.st = .moving ∧ 0 < (segEnd 0 0 (tMot tMove) * 65536 - A.p) * A.v ∧ segEnterOk 0 0 A.p A.v (tMot tMove) = true ∧ inGroupRun A = false)
    ∧ (let A := (tMot { tMove with v := -65_536 }).axis 0
      A.v ≠ 0 ∧ ¬ 0 < (segEnd 0 0 (tMot tMove) * 65536 - A.p) * A.v ∧ A.team = none)
    ∧ (inGroupRun ((tMot { tMove with run := some (tRunOf (some 0)) }).axis 0) = true ∧ postFieldsOk 0 tRunPost (tMot { tMove with run := some (tRunOf (some 0)) }) = true)
    ∧ (let A := (tMot {}).axis 0
      A.homed = false ∧ A.st.en = false ∧ inGroupRun A = false) := by decide +kernel

def tGrun : List Post := [{ a := BitVec.ofNat 32 (0x11 * 2 ^ 24), b := 0x100, c := 1, w3 := 0 }, { a := BitVec.ofNat 32 (0x11 * 2 ^ 24 + 1), b := 0x100, c := 2, w3 := 0 }]

theorem test_hyp_PostsAct_group : [(0, 0x100, 1), ((1 : Word), (0x100 : Word), (2 : Word))].map
      (fun p => ({ a := BitVec.ofNat 32 (0x11 * 2 ^ 24 + p.1.toNat % 2 ^ 24), b := p.2.1, c := p.2.2, w3 := 0 } : Post)) = tGrun
    ∧ (∀ q ∈ tGrun, postFieldsOk q.axis q (tMot tHold) = true ∧ bits 10 8 q.a.toNat = 0) ∧ tGrun.map Post.axis = groupMembers 0 (tMot tHold)
    ∧ groupMembers 0 (tMot tHold) = [0, 1] ∧ (groupMembers 0 (tMot tHold)).Nodup ∧ groupLeader [(0, 1), (1, 2)] (tMot tHold) = 1
    ∧ (∀ m ∈ [0, 1], ((tMot tHold).axis m).homed = true ∧ ((tMot tHold).axis m).st = .holding ∧ m / 8 = 1 / 8)
    ∧ groupRatio 2 2 1 1 (tMot tHold) = (131_072, 131_072)
    ∧ (∀ m ∈ [0, 1], groupSegsOk (tGrun.getD 1 tRunPost).run 1 m (groupRatio (m + 1) 2 m 1 (tMot tHold)) ((tMot tHold).axis 1).p 0 (tMot tHold) = true) := by
  decide +kernel

/-- A member of group 0 that moves behind axis 1. -/
def tTeam : Axis := { tMove with run := some { tRunOf (some 0) with leader := 1 }, team := some { group := 0, leader := 1, num := 1, den := 1 } }

/-- Both members of group 0 in its run. -/
def tTogether : State := { tMot tHold with mot := { axes := [(0, tTeam), (1, tTeam)] } }

theorem test_hyp_PostsAct_moving : (∀ m ∈ groupMembers 0 tTogether, (tTogether.axis m).st = .moving ∧ (tTogether.axis m).homed = true
      ∧ (tTogether.axis m).run.map (fun r => r.post.group) = some (some 0))
    ∧ (∀ k < 32, (tTogether.axis k).team.map Team.group = some 0 ↔ k ∈ groupMembers 0 tTogether)
    ∧ ¬ (tGrun.take 1).map Post.axis = groupMembers 0 (tMot tHold) ∧ (∃ m ∈ groupMembers 0 (tMot {}), ((tMot {}).axis m).homed = false) := by decide +kernel

theorem test_hyp_AxisTransitions : ((tMot { st := .enabling, due := { enabled := true } }).axis 0).due.enabled = true
    ∧ (let s := tMot { tMove with due := { segment := true } }
       runMembers 0 s = [0] ∧ (s.axis 0).due.segment = true ∧ (s.axis 0).run = some (tRunOf none) ∧ (s.axis 0).control = false
        ∧ segEnterOk 0 1 (segEnd 0 0 s * 65536) (segVel 0 0 s) s = true ∧ 2_000_000 - 2 * segDur 0 0 s < 2 * segDur 0 1 s)
    ∧ segEnterOk 0 1 (segEnd 0 0 (tMot tMove) * 65536) (2 ^ 40) (tMot tMove) = false
    ∧ (let A := (tMot { tStop with due := { stopEnd := true } }).axis 0
       A.due.stopEnd = true ∧ A.st = .stopping ∧ A.pendingRun = none ∧ A.abortCode = none ∧ A.testEnding = false ∧ A.control = false)
    ∧ (let s := tMot { tStop with due := { stopEnd := true }, pendingRun := some (tRunOf none).post }
       (s.axis 0).team = none ∧ (tRunOf none).post.group = none ∧ segEnterOk 0 0 (s.axis 0).p 0 s = true) := by decide +kernel

/-- The homing procedure in its step 4, or in its final stop. -/
def tHoming (taken : Bool) : Homing := { step := if taken then 5 else 4, armed := false, startPos := 0, switch := true, taken := taken }

theorem test_hyp_AxisTransitions_others : (∀ b : Bool, let A := (tMot { tHold with st := .homing, homing := some (tHoming b), due := { stopEnd := true } }).axis 0
      A.st = .homing ∧ A.homing = some (tHoming b) ∧ (tHoming b).taken = b)
    ∧ ((tMot { tStop with abortCode := some 0x2031, due := { stopEnd := true } }).axis 0).abortCode.isSome = true
    ∧ ((tMot { tStop with testEnding := true, due := { stopEnd := true } }).axis 0).st.en = true
    ∧ (∀ st ∈ [AxState.moving, .obstacle], ((tMot { tMove with st := st, due := { obstacle := some 1 } }).axis 0).due.obstacle = some 1)
    ∧ ((tMot { tHold with st := .obstacle, due := { reversal := true } }).axis 0).due.reversal = true
    ∧ (let A := (tMot { tHold with st := .homing, homing := some (tHoming false), due := { reference := some 9 } }).axis 0
       A.due.reference = some 9 ∧ A.homing = some (tHoming false))
    ∧ ((tMot { tHold with st := .homing, due := { chatter := true } }).axis 0).due.chatter = true
    ∧ (∀ v ∈ [(0 : Int), 1], ((tMot { tMove with v := v, due := { runEnd := true } }).axis 0).due.runEnd = true)
    ∧ ((tMot tHold).axis 0).due = {} := by decide +kernel

theorem test_hyp_MotionPeriodActs : sensed 0 (tMot tHold) = true ∧ (tMot tHold).keep.mode ≠ .stabled
    ∧ (let A := (tMot { tHold with strong := true }).axis 0; A.st.en = true ∧ A.strong = true ∧ A.phA.decay = .drive ∧ A.phB.decay = .drive
       ∧ 5 * A.carrierAt + 1_000 ≤ (advance 1_000 (tMot tHold)).now)
    ∧ grpFaulted 0 (tMot tHold) = false ∧ 0 < (tMot tHold).axesFitted ∧ axKind 0 (tMot tHold) ≠ 2
    ∧ sensed 0 { tMot tHold with mot := { sdFault := 1 } } = false ∧ grpFaulted 0 { tMot tHold with mot := { sdFault := 1 } } = true
    ∧ enMask (tMot tHold) ≠ 0 ∧ (tMot tHold).mot.silent = false := by decide +kernel

theorem test_hyp_MotionPeriodActs_silence : (tMot tHold).mot.markerAt + 20_000 * (tMot tHold).seq.period + 1_000_000
      < (advance 500_000_000 (tMot tHold)).replica .mclk
    ∧ (tMot tHold).replica .mclk ≤ (tMot tHold).mot.markerAt + 20_000 * (tMot tHold).seq.period + 1_000_000 := by
  have h : (tMot tHold).mot.markerAt + 20_000 * (tMot tHold).seq.period + 1_000_000 + 20 < (advance 500_000_000 (tMot tHold)).now
      ∧ (tMot tHold).now + 20 < (tMot tHold).mot.markerAt + 20_000 * (tMot tHold).seq.period + 1_000_000 := by decide +kernel
  have a := replicaAt_bounds .mclk (advance 500_000_000 (tMot tHold)).now
  have b := replicaAt_bounds .mclk (tMot tHold).now
  unfold State.replica
  omega

theorem test_hyp_MotionPeriodActs_servo : (tMot tHold).reiniting 1 = false ∧ (tMot tHold).keep.mode ≠ .hold
    ∧ (let s := { tMot tHold with fbk := { chans := [(0, { bad := true })] }, mot := { (tMot tHold).mot with slot := 8 } }
       s.mot.ready = [] ∧ (∀ k < s.axesFitted, (s.axis k).due = {} ∧ (s.axis k).control = false ∧ (s.axis k).run = none) ∧ (s.axis 0).st.en = true ∧ axFb 0 s ≠ 0
        ∧ chanValid 0 s = false ∧ s.reiniting 1 = false)
    ∧ ({ tMot tHold with keep := { mode := .run, reinit := [(1, some 0)] }, mot := { slot := 8 } } : State).reiniting 1 = true := by decide +kernel

/-- The module of `tMot` in COMMISSION. -/
def tComm (a : Axis) : State := { tMot a with keep := { mode := .commission } }

theorem test_hyp_MotionTests : (∀ k < 5, WriteGranted tK 0x010A_0004 (BitVec.ofNat 32 (2 ^ 8 * k)) (tComm {}))
    ∧ ((tComm {}).axis 0).st = .disabled ∧ enableConfigOk 0 (tComm {}) = true ∧ axHomeDio 0 (tComm {}) ≠ 127
    ∧ enableConfigOk 0 { tComm {} with ctl := [] } = false ∧ WriteGranted tK 0x010A_0004 (BitVec.ofNat 32 (2 ^ 8)) { tComm {} with ctl := [] }
    ∧ (∀ k ∈ [1, 2, 3, 4], let A := (tComm { st := .test, testKind := k }).axis 0
       A.st = .test ∧ A.testKind = k ∧ A.testAt + 500_000_000 ≤ (advance 500_000_000 (tComm {})).now ∧ (advance 499_999_999 (tComm {})).now < A.testAt + 500_000_000
        ∧ A.st.en = true ∧ A.v = 0 ∧ A.team = none ∧ A.pendingRun = none)
    ∧ (∀ k < 5, WriteGranted tK 0x010A_0004 (BitVec.ofNat 32 (2 ^ 8 * k)) (tComm { st := .test, testKind := 1 })) := by unfold WriteGranted; decide +kernel

/-! ### Feedback -/

/-- Channels 0 and 2 in quadrature mode with index and relax, channel 1 by Hall code; channel 0 as given. -/
def tFb (c : PosChan) : State := { tRun .evaluate with
  ctl := [(pcReg 0 0, 0x39), (pcReg 1 0, 2), (pcReg 2 0, 1)]
  fbk := { chans := [(0, c), (1, { hall := 1 }), (2, { bad := true })] } }

theorem test_hyp_ChannelsCount : chanOn 0 (tFb {}) = true ∧ chanMode 0 (tFb {}) = 1 ∧ chanOn 1 (tFb {}) = true ∧ chanMode 1 (tFb {}) = 2
    ∧ (quadIndex true false + 4 - quadIndex ((tFb {}).chan 0).a ((tFb {}).chan 0).b) % 4 = 1
    ∧ (quadIndex false true + 4 - quadIndex ((tFb {}).chan 0).a ((tFb {}).chan 0).b) % 4 = 3
    ∧ (quadIndex true true + 4 - quadIndex ((tFb {}).chan 0).a ((tFb {}).chan 0).b) % 4 = 2
    ∧ ((tFb {}).chan 1).hall ≠ 0 ∧ (hallIndex 3 + 6 - hallIndex ((tFb {}).chan 1).hall) % 6 = 1
    ∧ (hallIndex 5 + 6 - hallIndex ((tFb {}).chan 1).hall) % 6 = 5 ∧ ((tFb {}).chan 1).inImpossible = false
    ∧ cbit (pcReg 0 0) 3 (tFb {}) = true ∧ cbit (pcReg 0 0) 4 (tFb {}) = true ∧ ((tFb {}).chan 0).z ≠ true
    ∧ (hallIndex 6 + 6 - hallIndex ((tFb {}).chan 1).hall) % 6 ∈ [2, 3, 4] ∧ chanOn 3 (tFb {}) = false
    ∧ (∀ h ∈ [(0 : Nat), 1], ({ hall := h, inImpossible := true } : PosChan).inImpossible = true) := by decide +kernel

theorem test_hyp_ChannelsCount_timers : cf (pcReg 0 0xC) 15 0 (tFb {}) ≤ cf (pcReg 0 0xC) 31 16 (tFb {})
    ∧ (let s : State := { tFb {} with ctl := [(pcReg 0 0xC, 0x0005_0064)] }
       cf (pcReg 0 0xC) 31 16 s < cf (pcReg 0 0xC) 15 0 s)
    ∧ (∀ f : Bool, ((tFb { freq := f }).chan 0).freq = f)
    ∧ (tFb {}).keep.mode ≠ .stabled ∧ zeroTimedOut 0 (advance 1_000_000_000 (tFb { times := [0] })) = true := by decide +kernel

/-- Detector 0 on channels 0 and 1, whose condition has held since time 0; head 0 enabled and in state `h`; section 0 between heads 0 and 1. -/
def tSec (h : Nat) (x : SecState) : State := { tRun .evaluate with
  ctl := [(pcReg 0 0, 1), (pcReg 1 0, 1), (ssReg 0 0, 0x8100_0001), (wcReg 0 0, 1), (secReg 0 0, 3)]
  fbk := { chans := [(0, { qualified := 2 }), (1, { qualified := 2 })], stand := [(0, { cond := true })], heads := [(0, { state := h, freeSince := some 0 }), (1, { state := h })], sections := [(0, { state := x })] } }

theorem test_hyp_HeadsAndSections : (let s := tSec 1 .disturbed
      let u := chanTime 1_000_000 s
      (u.stand 0).cond = true ∧ (u.stand 0).asserted = false ∧ (u.stand 0).stepsA ≤ cf (ssReg 0 4) 15 0 s ∧ (u.stand 0).stepsB ≤ cf (ssReg 0 4) 15 0 s
      ∧ cf (ssReg 0 0) 15 0 s * 1_000_000 ≤ u.now - (u.stand 0).since)
    ∧ ((chanTime 0 (tSec 1 .disturbed)).now - ((chanTime 0 (tSec 1 .disturbed)).stand 0).since < cf (ssReg 0 0) 15 0 (tSec 1 .disturbed) * 1_000_000)
    ∧ (1_000_000 ≤ (advance 1_000_000 (tSec 1 .disturbed)).now - ((tSec 1 .disturbed).head 0).lastSample ∧ ((tSec 1 .disturbed).head 0).state ≠ 0
      ∧ (tSec 1 .disturbed).now - ((tSec 1 .disturbed).head 0).lastSample < 1_000_000)
    ∧ (let s : State := { tSec 0 .disturbed with fbk := { (tSec 0 .disturbed).fbk with heads := [(0, { freeSince := some 0, lastSample := 499_500_000 })] } }
      let u := advance 500_000_000 s
      (s.head 0).freeSince = some 0 ∧ (s.head 0).state = 0 ∧ headEnabled 0 s = true ∧ 0 < s.headsFitted ∧ 500_000_000 ≤ u.now - 0
        ∧ u.now - (s.head 0).lastSample < 1_000_000) := by decide +kernel

theorem test_hyp_HeadsAndSections_commands : (0x80 : Word).toNat % 2 ^ 8 = 0x80 + 0 ∧ (0x90 : Word).toNat % 2 ^ 8 / 16 ≠ 8
    ∧ sectionFieldsOk 0x80 0 0 = true ∧ sectionFieldsOk 0x80 1 0 = false
    ∧ (∀ x ∈ [SecState.disturbed, .restoring, .clear], ((tSec 1 x).section_ 0).state = x ∧ secHeads 0 (tSec 1 x) ≠ [] ∧ secIdle 0 (tSec 1 x) = true
      ∧ secHeads 0 (tSec 0 x) ≠ [] ∧ secIdle 0 (tSec 0 x) = false ∧ secHeads 1 (tSec 1 x) = []) := by decide +kernel

/-- Encoder output 0 from channel 0 with `p` steps to make. -/
def tEnc (p : Int) : State := { tFb {} with ctl := (tFb {}).ctl ++ [(eoReg 0 0, 0x8000)], fbk := { (tFb {}).fbk with eo := [(0, { pending := p })] } }

theorem test_hyp_FeedbackWrites : (WriteGranted tK 0x0200_5000 7 (tFb {}) ∧ ((tFb {}).chan 2).bad = true ∧ cbit (pcReg 2 0) 5 (tFb {}) = false
      ∧ WriteGranted tK (pcReg 0 0) 1 (tFb {}) ∧ WriteGranted tK (pcReg 0 4) 1 (tFb {}) ∧ 2 < (tFb {}).chansFitted)
    ∧ (WriteGranted tK 0x0200_5004 1 (tFb {}) ∧ WriteGranted tK (wcReg 0 0) 1 (tFb {}) ∧ WriteGranted tK (secReg 0 0) 3 (tFb {}) ∧ 0 < (tFb {}).headsFitted)
    ∧ (WriteGranted tK (eoReg 0 0) 0x8000 (tFb {}) ∧ (0x8000 : Word).getLsbD 15 = true ∧ cbit (eoReg 0 0) 15 (tFb {}) = false)
    ∧ (∀ p ∈ [(1 : Int), -1], eoEnabled 0 (tEnc p) = true ∧ ((tEnc p).enc 0).srcInvalid = false ∧ ((tEnc p).enc 0).pending = p
      ∧ encodersHeld (tEnc p) = false ∧ ((tEnc p).enc 0).lastStep = none)
    ∧ (tFb {}).reiniting 2 = false ∧ (tFb {}).keep.mode ≠ .hold
    ∧ ({ tFb {} with keep := { mode := .run, reinit := [(2, some 0)] } } : State).reiniting 2 = true := by unfold WriteGranted; decide +kernel

/-! ### Field blocks -/

/-- Block 0 as given in RUN: D0 an output with open-wire check, D1 an input with wire-break check, D2 an output, pairs 0 and 1 enabled, the second
with D1 as its feedback. -/
def tFld (b : Block) : State := {
  keep := { mode := .run, tripLow := false }
  ctl := [(fldReg 0 0x100, 0x81), (fldReg 0 0x104, 0x10), (fldReg 0 0x108, 1), (fldReg 0 0x400, 0xD90C_8064), (fldReg 0 0x410, 0xD90C_8064), (fldReg 0 0x414, 0x7F01),
    (fldReg 0 0x500, 1), (pairReg 0 3, 0x8000_000A)]
  fld := { blocks := [(0, b)] } }

def tPosts (n : Nat) : List Post := List.replicate n { a := 0, b := 0, c := 0, w3 := 0 }

theorem test_hyp_FieldLinkActs : (tFld {}).fldFitted 0 = true
    ∧ (let b := (tFld { cmds := tPosts 16, words := some (1, 2, 3) }).block 0; b.cmds.length ≤ 16 ∧ b.words = some (1, 2, 3) ∧ b.resetAt = none ∧ b.isolated = false)
    ∧ 16 < ((tFld { cmds := tPosts 17 }).block 0).cmds.length ∧ ((tFld {}).block 0).words = none
    ∧ (((tFld {}).block 0).silent = false ∧ ((tFld {}).block 0).isolated = false ∧ 1_000_000 ≤ max (tFld {}).now 1_000_000 - ((tFld {}).block 0).lastIn)
    ∧ ((tFld {}).keep.mode = .run ∧ ((tFld {}).block 0).resetAt = none)
    ∧ 98 * wdNs 0 (tFld {}) ≤ 100 * (max (tFld {}).now 1_000_000 - ((tFld {}).block 0).lastOut)
    ∧ (let s : State := { tFld {} with keep := { (tFld {}).keep with tripLow := true } }; tripLineLow 0 s = true ∧ (s.block 0).trip = false)
    ∧ (let b := (tFld { resetAt := some 0 }).block 0; b.resetAt = some 0 ∧ b.isolated = false ∧ max (tFld {}).now 0 ≤ 0 + 10_000_000 ∧ 0 + 10_000_000 ≤ max (tFld {}).now 10_000_000)
    ∧ ((tFld {}).block 0).uv = false ∧ ((tFld { uv := true }).block 0).uv = true := by decide +kernel

theorem test_hyp_FieldLinkActs_edges : (let s := tFld { words := some (1, 2, 3) }
      (s.block 0).handedAt + 25_000 < (advance (frameEnd 25_001 s) s).now ∧ ¬ (s.block 0).handedAt + 25_000 < (advance (frameEnd 25_000 s) s).now)
    ∧ ({ tFld {} with fused := { fit := 0x65 } } : State).fldFitted 3 = false
    ∧ ((tFld { silent := true }).block 0).silent = true ∧ ((tFld { isolated := true }).block 0).isolated = true
    ∧ (advance 999_999 (tFld {})).now - ((tFld {}).block 0).lastIn < 1_000_000
    ∧ 100 * ((tFld {}).now - ((tFld {}).block 0).lastOut) < 98 * wdNs 0 (tFld {})
    ∧ tripLineLow 0 (tFld {}) = false ∧ ((tFld { trip := true }).block 0).trip = true
    ∧ ((advance 10_000_001 (tFld { resetAt := some 0 })).now = 10_000_001 ∧ ((tFld {}).block 0).resetAt = none) := by decide +kernel

theorem test_hyp_DigitalIoActs : (dioWb 0 1 (tFld {}) = true ∧ (((tFld {}).block 0).dioOf 1).wireBreak = false)
    ∧ dioDriven 0 0 (tFld { dDio := 1 }) = true ∧ (dioOut 0 0 (tFld {}) = true ∧ (((tFld {}).block 0).dioOf 0).overTemp = false)
    ∧ cbit (fldReg 0 0x100) 7 (tFld { dDio := 1 }) = true ∧ (((tFld {}).block 0).dioOf 0).pwm = none ∧ (((tFld {}).block 0).dioOf 0).openWire = false
    ∧ (∀ k < 4, WriteGranted tK (fldReg 0 (0x180 + 4 * k)) 1 (tFld {})) ∧ WriteGranted tK (pairReg 0 3) 0x8000_000A (tFld {})
    ∧ (((tFld { dio := [(0, { lowSince := 1, overload := true })] }).block 0).dioOf 0).lowSince ≠ 0 ∧ pairOn 0 3 (tFld {}) = true ∧ pairBad 0 3 (tFld {}) = false := by
  unfold WriteGranted; decide +kernel

/-- Block 0 with switch 7, and with switch 0 of pair 0, in state `x`; pair 0 in state `p`. -/
def tLs (x : LsState) (p : SoPair) : State := tFld { ls := [(0, { st := x }), (7, { st := x })], so := [(0, p)], dLs := 0x80 }

theorem test_hyp_LoadSwitchesAct : ((((tLs .inrush {}).block 0).soOf 3).waitA = false ∧ (((tLs .inrush {}).block 0).soOf 3).waitB = false
      ∧ (((tLs .inrush {}).block 0).lsOf 7).st = .inrush ∧ 98 * inrushNs 0 7 (tLs .inrush {}) ≤ 100 * (max (tLs .inrush {}).now 2_000_000_000 - 0))
    ∧ (((tLs .on {}).block 0).lsOf 7).st = .on ∧ (((tLs .limit {}).block 0).lsOf 7).st = .limit
    ∧ ((((tLs .on {}).block 0).lsOf 7).st.conducts = true ∧ lsPaired 0 7 (tLs .on {}) = false ∧ (((tLs .on {}).block 0).lsOf 7).openLoad = false)
    ∧ ((((tLs .on { st := .on }).block 0).lsOf 0).st.conducts = true ∧ lsPaired 0 0 (tLs .on { st := .on }) = true
      ∧ (((tLs .on { st := .on }).block 0).soOf 0).st.isOn = true)
    ∧ ((((tLs .cooling {}).block 0).lsOf 7).st = .cooling ∧ lsDemand 0 7 (tLs .cooling {}) = true ∧ ((tLs .cooling {}).block 0).uv = false)
    ∧ (lsPaired 0 0 (tLs .on { st := .off }) = true ∧ (((tLs .on { st := .off }).block 0).soOf 0).st.isOn = false)
    ∧ ((((tLs .off {}).block 0).lsOf 7).st.conducts = false ∧ lsDemand 0 0 (tLs .cooling {}) = false
      ∧ 100 * ((tLs .inrush {}).now - (((tLs .inrush {}).block 0).lsOf 7).inrushAt) < 98 * inrushNs 0 7 (tLs .inrush {}))
    ∧ (9_800_000_000 ≤ 100 * (max (tLs .on {}).now 10_000_000_000 - (((tLs .on {}).block 0).lsOf 7).condAt)
      ∧ 980_000_000_000 ≤ 100 * (max (tLs .on {}).now 10_000_000_000 - (((tLs .on {}).block 0).lsOf 7).condAt)) := by decide +kernel

/-- Pairs 0 and 1 as given, their switches on; D1 reads `l`. -/
def tSo (p q : SoPair) (l : Bool) : State := tFld { dio := [(1, { level := l })], ls := (List.range 4).map (fun i => (i, { st := .on })), so := [(0, p), (1, q)] }

theorem test_hyp_SafetyOutputsAct : (∀ x ∈ [SoState.off, .starting, .on, .stopping, .interlock], soEnabled 0 0 (tSo { st := x } {} false) = true
      ∧ (((tSo { st := x } {} false).block 0).soOf 0).st = x ∧ x ≠ .fault ∧ soAgrees 0 0 false (tSo { st := x } {} false) = true
      ∧ soAgrees 0 0 true (tSo { st := x } {} false) = true ∧ soDemand 0 0 (tSo { st := x } {} false) = false)
    ∧ (soEnabled 0 1 (tSo {} { st := .on } true) = true ∧ soAgrees 0 1 false (tSo {} { st := .on } true) = false ∧ soAgrees 0 1 true (tSo {} { st := .off } false) = false)
    ∧ soN 0 0 (tSo {} {} false) = 400 ∧ (((tSo { fbRun := 401 } {} false).block 0).soOf 0).fbRun = 401 ∧ ((tSo { fbRun := 400 } {} false).block 0).soOf 0 = { fbRun := 400 }
    ∧ (((tSo { st := .fault } {} false).block 0).soOf 0).st = .fault ∧ soEnabled 0 3 (tSo {} {} false) = false ∧ cbit (fldReg 0 0x50C) 0 (tSo {} {} false) = false
    ∧ (∀ o ∈ [0x400, 0x404], WriteGranted tK (fldReg 0 o) 0 (tSo {} {} false)) ∧ (tSo {} {} false).fldFitted 0 = true
    ∧ cbit (fldReg 0 0x400) 30 (tSo {} {} false) = true ∧ 98 * pulseAt 0 0 false (tSo { st := .on } {} false) ≤ 100 * (max (tSo {} {} false).now 100_000_000 - 0)
    ∧ 98 * pulseAt 0 0 true (tSo { st := .on } {} false) ≤ 100 * (max (tSo {} {} false).now 100_000_000 - 0)
    ∧ (let s := tSo { st := .on, pulse := some (false, 0) } {} false
       ((s.block 0).soOf 0).pulse = some (false, 0) ∧ ((s.block 0).soOf 0).readBack = false ∧ 98 * (pulseNs 0 0 s - 50_000) ≤ 100 * (max s.now 500_000 - 0)
        ∧ 98 * pulseNs 0 0 s ≤ 100 * (max s.now 500_000 - 0) ∧ ((s.block 0).soOf 0).waitA = false ∧ ((s.block 0).soOf 0).waitB = false)
    ∧ cbit (fldReg 0 0x500) 0 (tSo {} {} false) = true
    ∧ (∀ w ∈ [({ a := { offAt := some 0 } } : FrontEnd), { b := { offAt := some 0 } }], w.a.offAt = some 0 ∨ w.b.offAt = some 0)
    ∧ 9_800_000_000 ≤ 100 * (max (tSo {} {} false).now 98_000_000 - 0) := by unfold WriteGranted; decide +kernel

/-- At 10 ms, D2 low since 1 ns. -/
def tOld : State := { tFld { dio := [(2, { lowSince := 1 })] } with time := { t6 := 60_000_000 } }

theorem test_hyp_FieldCommandsAct : (∀ ch ∈ [0x0200_0002, 0x0300_0002, 0x0300_0027, 0x0300_0040],
      fieldReason 0 { a := BitVec.ofNat 32 ch, b := 0, c := 0, w3 := 0 } 0 (tFld {}) = 0)
    ∧ (∀ ch ∈ [0x0200_0018, 0x0300_0018, 0x0300_0020, 0x0300_0043], fieldReason 0 { a := BitVec.ofNat 32 ch, b := 0, c := 0, w3 := 0 } 0 (tFld {}) ≠ 0)
    ∧ fieldReason 0 { a := 0x0300_0040, b := 0, c := 0, w3 := 0 } 1 (tFld {}) ≠ 0
    ∧ (((tOld.block 0).dioOf 2).lowSince ≠ 0 ∧ 980_000_000 ≤ 100 * (tOld.now - ((tOld.block 0).dioOf 2).lowSince)
      ∧ fieldReason 0 { a := 0x0300_0002, b := 0, c := 0, w3 := 0 } 0 tOld = 0)
    ∧ (((tFld { so := [(0, { st := .fault })] }).block 0).soOf 0).st = .fault ∧ (((tFld {}).block 0).soOf 0).st ≠ .fault := by decide +kernel

theorem test_hyp_FieldCommandsAct_test : (let s : State := { tFld {} with keep := { mode := .commission } }
       WriteGranted tK 0x0310_0100 0x8002_0001 s ∧ s.keep.mode = .commission ∧ cbit 0x0310_0100 31 s = false ∧ (0x8002_0001 : Word).getLsbD 31 = true)
    ∧ (let s : State := { tFld {} with keep := { mode := .commission }, ctl := [(0x0310_0100, 0x8002_0001)] }
       WriteGranted tK 0x0310_0100 0 s ∧ cbit 0x0310_0100 31 s = true) := by
  unfold WriteGranted; decide +kernel

theorem test_hyp_FieldCommandsAct_end : (let s : State := { tFld {} with ctl := [(0x0310_0100, 0x8002_0001)] }
       cbit 0x0310_0100 31 s = true ∧ s.fld.testAt + 500_000_000 ≤ max s.now 500_000_000) := by decide +kernel

/-! ### Journal and events -/

def tRec (t n : Nat) : Rec := { typ := t, dtime := 0, payload := zeros n }

/-- The journal in state `k` with `l` staged, at write point `w`, `c` records since the checkpoint. -/
def tJnl (k : JState) (l : List Rec) (w c : Nat) : State := { tBth .open_ with jnl := { state := k, staging := l, write := w, sinceCkpt := c } }

/-- Unit 0 is full, and unit 1 is the next in the ring. -/
def tUnits (k : JState) (l : List Rec) (w : Nat) : State := { tBth .open_ with jnl := { state := k, staging := l, write := w, usedUnits := [1] } }

theorem test_hyp_JournalStoresAndReads_records : (let s := tJnl .recording [tRec 3 32] 0 4_094
       s.jnl.staging = tRec 3 32 :: [] ∧ s.jnl.state = .recording ∧ (tRec 3 32).signed = false ∧ s.jnl.sinceCkpt < 4_095 ∧ recFits (tRec 3 32).size s = true
        ∧ 100 * (s.jnl.retired.length + 1) ≤ s.flaconUnits)
    ∧ (let s := tUnits .recording [tRec 3 32] (Config.unitBytes - 512)
       recFits (tRec 3 32).size s = false ∧ unitLeft s + Config.unitBytes * erasedAhead s ≠ 0 ∧ s.jnl.sinceCkpt < 4_095)
    ∧ recFits (tRec 3 32).size (tUnits .recording [tRec 3 32] (Config.unitBytes - 576)) = true
    ∧ (let s : State := { tJnl .recording [tRec 3 32] 0 0 with jnl := { state := .recording, staging := [tRec 3 32], retired := List.replicate 122 0 } }
       s.flaconUnits < 100 * (s.jnl.retired.length + 1))
    ∧ ((tRec 0xF1 128).signed = true ∧ (tRec 0xF1 128).payload.length = 128 ∧ recFits (tRec 0xF1 128).size (tJnl .recording [tRec 0xF1 128] 0 4_095) = true
      ∧ recFits (tRec 0xF0 128).size (tJnl .recording [tRec 0xF0 128] 0 4_095) = true ∧ (tJnl .full [tRec 0xF0 128] 0 0).jnl.state = .full) := by decide +kernel

theorem test_hyp_JournalStoresAndReads_waits : ((tRec 3 32).signed = false ∧ ¬ (tJnl .recording [tRec 3 32] 0 4_095).jnl.sinceCkpt < 4_095)
    ∧ (∀ n ∈ [0, 64], (tRec 0xF0 n).signed = true ∧ (tRec 0xF0 n).payload.length ≠ 128)
    ∧ ((tJnl .storeFault [] 0 0).jnl.staging = [] ∧ (tJnl .full [tRec 3 32] 0 0).jnl.state = .full ∧ (tRec 3 32).typ ≠ 0xF0)
    ∧ (4_095 ≤ (tJnl .recording [tRec 3 32] 0 4_095).jnl.sinceCkpt ∧ 4_095 ≤ (tJnl .recording [] 0 4_095).jnl.sinceCkpt)
    ∧ (tRec 0xF0 0).payload = [] ∧ (tRec 0xF0 64).payload.length = 64
    ∧ ¬ 4_095 ≤ (tJnl .recording [tRec 3 32] 0 4_094).jnl.sinceCkpt := by decide +kernel

theorem test_hyp_JournalStoresAndReads_store : (let j : Journal := { state := .recording, lost := 3 }; j.lost ≠ 0 ∧ j.state = .recording ∧ j.fill + 65_536 ≤ Config.stagingBytes)
    ∧ (let s := tJnl .notScanned [] 0 0
       s.jnl.state = .notScanned ∧ s.jnl.torn = none ∧ endsFull s = false ∧ s.jnl.staging = [] ∧ (bootRec (advance 0 s)).size + 48 ≤ Config.stagingBytes
        ∧ s.jnl.state ≠ .storeFault)
    ∧ (let p := Config.unitBytes - 4_112; let j : Journal := { torn := some p }
       j.torn.isSome = true ∧ ¬ roundUp 4096 (p % Config.unitBytes + 4112) < Config.unitBytes)
    ∧ endsFull { jnl := { flacon := [{ offset := 0, number := 4, rec_ := tRec 0xF3 0, chain := [] }] } } = true
    ∧ (tJnl .recording [] 0 0).jnl.state ≠ .notScanned ∧ (tJnl .storeFault [] 0 0).jnl.state = .storeFault ∧ (tJnl .full [] 0 0).jnl.erasing = []
    ∧ (∀ k ∈ [JState.recording, .full], let s : State := { jnl := { state := k, erasing := [5] } }
        s.jnl.erasing = 5 :: [] ∧ s.jnl.state = k ∧ s.jnl.fill + 65_536 ≤ Config.stagingBytes ∧ 100 * (s.jnl.retired.length + 1) ≤ s.flaconUnits) := by decide +kernel

def tStat : StatFrame := { number := 7, bootCount := 1, dtime := 0, wallSec := 0, wallNs := 0, wallValid := false, mcc := 0, metrics := [] }
def tStored : Stored := { offset := 0, number := 4, rec_ := tRec 0xF0 128, chain := zeros 32 }

/-- A journal with one signed record acknowledged up to `a`, whose unit is not the one written; BTH0 is granted `g`. -/
def tRead (k : JState) (a : Option Nat) (g : BitVec 6) : State := { tBth .open_ with
  bth := { (tBth .open_).bth with berths := [(0, { state := .open_, granted := g })] }
  jnl := { state := k, flacon := [tStored], acked := a, write := Config.unitBytes, usedUnits := [0], frames := [tStat] } }

/-- The operands of JREAD, KREAD and SHREAD. -/
def tArgs (u o n : Nat) : List Byte := be 4 u ++ be 4 o ++ be 4 n

theorem test_hyp_JournalStoresAndReads_reads : (∀ a ∈ [tArgs 7 (Config.unitBytes - 16) 16, tArgs 7 Config.unitBytes 16, tArgs 7 8 16, tArgs 7 0 4_080],
      Admits 0 0x51 (tMsg 0x51 a) a (tRead .recording none 63) ∧ Admits 0 0x55 (tMsg 0x55 a) a (tRead .recording none 63)
        ∧ Admits 0 0x56 (tMsg 0x56 a) a (tRead .recording none 63))
    ∧ Admits 0 0x50 (tMsg 0x50 []) [] (tRead .recording none 63) ∧ Admits 0 0x50 (tMsg 0x50 []) [] (tRead .recording none 0)
    ∧ (∀ l ∈ [[roleI], [roleM, roleI], [roleB, roleM, roleI]], hasAny 0 l (tRead .recording none 63) = true ∧ hasAny 0 l (tRead .recording none 0) = false) := by
  refine ⟨fun a ha => ?_, tAdmits (by decide +kernel), tAdmits (by decide +kernel), by decide +kernel⟩
  have h : a.length = 12 := by simp only [List.mem_cons, List.not_mem_nil, or_false] at ha; rcases ha with rfl | rfl | rfl | rfl <;> rfl
  have ok : ∀ typ : Byte, 0x11 < typ.toNat → recoveryServes typ.toNat (tRead .recording none 63) = true → Admits 0 typ.toNat (tMsg typ a) a (tRead .recording none 63) :=
    fun typ _ hr => tAdmits ⟨by omega, by decide +kernel, fun hm => absurd hm (by decide +kernel), hr⟩
  exact ⟨ok 0x51 (by decide) (by decide +kernel), ok 0x55 (by decide) (by decide +kernel), ok 0x56 (by decide) (by decide +kernel)⟩

theorem test_hyp_JournalStoresAndReads_areas : (∀ f ∈ [State.flaconUnits, State.klogUnits], 7 < f (tRead .recording none 63) ∧ f (tRead .recording none 63) ≤ 12_288)
    ∧ (tRead .recording none 63).jnl.frames.find? (fun F => F.number == (7 : Word).toNat) = some tStat
    ∧ (tRead .recording none 63).jnl.frames.find? (fun F => F.number == (8 : Word).toNat) = none
    ∧ Config.unitBytes - 16 + 16 ≤ Config.unitBytes ∧ (Config.unitBytes - 16) % 16 = 0 ∧ 655_408 + 16 ≤ 655_424 := by decide +kernel

theorem test_hyp_JournalStoresAndReads_seals : (∀ k ∈ [JState.recording, .notScanned, .full, .storeFault], Admits 0 0x52 (tMsg 0x52 []) [] (tRead k none 63)
      ∧ Admits 0 0x54 (tMsg 0x54 []) [] (tRead k (some 4) 63) ∧ (tRead k none 63).jnl.state = k ∧ (tRead k none 63).jnl.staging = [] ∧ (tRead k none 63).jnl.fill + 32 ≤ Config.stagingBytes
      ∧ hasAny 0 [roleI] (tRead k none 63) = true ∧ hasAny 0 [roleI] (tRead k none 0) = false)
    ∧ erasable (tRead .recording (some 4) 63) ≠ [] ∧ erasable (tRead .recording none 63) = [] ∧ (tRead .recording (some 4) 63).jnl.fill + 65_536 ≤ Config.stagingBytes := by
  unfold Admits; decide +kernel

theorem tRec_fill (n : Nat) : ({ staging := [tRec 3 n] } : Journal).fill = 32 + roundUp 16 n := by
  simp [Journal.fill, Rec.size, tRec, zeros]

theorem test_hyp_JournalStoresAndReads_room : Config.stagingBytes < ({ staging := [tRec 3 Config.stagingBytes] } : Journal).fill + 32 := by
  rw [tRec_fill]; decide

theorem test_hyp_JournalStoresAndReads_acks : (∀ c ∈ [zeros 32, zeros 33, le 4 1 ++ zeros 28], Admits 0 0x53 (tMsg 0x53 (be 4 (4 : Word).toNat ++ c)) (be 4 (4 : Word).toNat ++ c) (tRead .recording none 63))
    ∧ ((∃ x ∈ (tRead .recording none 63).jnl.flacon, x.valid = true ∧ x.rec_.signed = true ∧ x.number = (4 : Word).toNat ∧ x.chain = zeros 32)
      ∧ (∀ x ∈ (tRead .recording none 63).jnl.flacon, x.chain ≠ le 4 1 ++ zeros 28)
      ∧ (∃ a, (tRead .recording (some 4) 63).jnl.acked = some a ∧ (a + 2 ^ 32 - (4 : Word).toNat) % 2 ^ 32 < 2 ^ 31)
      ∧ (∀ a, (tRead .recording none 63).jnl.acked ≠ some a)) := by
  refine ⟨fun c hc => ?_, ⟨tStored, .head _, by decide⟩, by decide +kernel, ⟨4, rfl, by decide⟩, by simp [tRead]⟩
  simp only [List.mem_cons, List.not_mem_nil, or_false] at hc
  rcases hc with rfl | rfl | rfl <;> exact tAdmits (by decide +kernel)

theorem test_hyp_StatisticsAct : (let s : State := { tJnl .recording [] 0 0 with ctl := [(metCfg 256, 1), (metCfg 4095, 1)] }
       (∀ m ∈ [256, 4095], let w0 := BitVec.ofNat 32 (m * 2 ^ 16)
        bits 15 8 w0.toNat = 0 ∧ w0.toNat / 2 ^ 16 = m ∧ cbit (metCfg m) 0 s = true) ∧ s.jnl.state = .recording ∧ s.jnl.fill + 64 ≤ Config.stagingBytes)
    ∧ (bits 15 8 (0x100 : Word).toNat ≠ 0 ∧ cbit (metCfg 256) 0 State.reset = false)
    ∧ ((3 : Word) ≠ 0 ∧ (3 : Word).toNat < 2 ^ State.reset.axesFitted ∧ bits 31 8 (0xFF : Word).toNat = 0)
    ∧ persistNs State.reset ≤ (advance 3_600_000_000_000 State.reset).now - State.reset.jnl.lastFrameAt
    ∧ (advance 3_599_999_999_999 State.reset).now - State.reset.jnl.lastFrameAt < persistNs State.reset := by decide +kernel

theorem test_hyp_StatisticsAct_clear : (WriteGranted tK 0x0600_0024 0x8000_0005 (tJnl .recording [] 0 0) ∧ WriteGranted tK 0x0600_0024 5 (tJnl .recording [] 0 0))
    ∧ (0x8000_0005 : Word).getLsbD 31 = true ∧ (5 : Word).getLsbD 31 = false := by
  unfold WriteGranted; decide +kernel

/-- Source 0, as given, has its edge among the toggles; it is enabled with threshold `n` and priority 0, routed to core 0, which is `K`. -/
def tEvs (e : EvSource) (n : Nat) (K : SvcCore) : State := { tRun .evaluate with
  ctl := [(srcReg 0 0, BitVec.ofNat 32 (0x8001_0000 + 2 ^ 8 * n)), (stmrReg 0 0, 1)]
  svc := { held := false, toggles := [(0, 5)], src := [(0, e)], timers := [(0, { expires := some 7 })], wakeOwed := 2, sram := [(3, 0xC0)]
           cores := [(0, K)] } }

/-- Core 0 runs with events enabled. -/
def tCore : SvcCore := { released := true, di := false, sp := 64, wdStart := some 0 }
def tEv (e : EvSource) (n : Nat) : State := tEvs e n tCore

theorem test_hyp_EventsAct : ((tEv {} 1).svc.toggles.find? (fun x => x.1 == 0) = some (0, 5) ∧ (tEv {} 1).svc.toggles.find? (fun x => x.1 == 1) = none)
    ∧ (srcEnabled 0 (tEv {} 1) = true ∧ srcEnabled 1 (tEv {} 1) = false)
    ∧ (tEv {} 1).svc.held = false ∧ ((tEv { pending := true } 1).evSrc 0).pending = true
    ∧ (((tEv {} 2).evSrc 0).gathering = false ∧ max 1 (cf (srcReg 0 0) 15 8 (tEv {} 2)) = 2 ∧ min (((tEv {} 2).evSrc 0).batch + 1) 255 = 1
      ∧ max 1 (cf (srcReg 0 0) 15 8 (tEv {} 1)) = 1)
    ∧ (let s := tEv { gathering := true, n := 2, batch := 1, t := 1 } 2; let e := s.evSrc 0
       e.gathering = true ∧ e.n ≤ min (e.batch + 1) 255 ∧ e.pending = false
        ∧ 1000 * e.t ≤ (advance 1_000 s).now - e.t0 ∧ (advance 999 s).now - e.t0 < 1000 * e.t)
    ∧ min (((tEv { gathering := true, n := 3, batch := 1 } 2).evSrc 0).batch + 1) 255 < 3
    ∧ ((look ({} : SvcTimer) 0 (tEv {} 1).svc.timers).expires = some 7 ∧ 7 ≤ (advance 7 (tEv {} 1)).now ∧ (advance 6 (tEv {} 1)).now < 7) := by decide +kernel

theorem test_hyp_EventsAct_entries : (let s := tEvs { pending := true } 1 { tCore with eoiJust := true }
       (s.svcCore 0).presented = none ∧ (s.svcCore 0).eoiJust = true ∧ svcWord (s.svcCore 0).pc s = 0xC000_0000)
    ∧ (winner 0 (tEv {} 1) = none ∧ ((tEv {} 1).svcCore 0).presented = none)
    ∧ (∀ K ∈ [tCore, { tCore with eretJust := 1 }, { tCore with eretJust := 2 }, { tCore with sp := 32 }, { tCore with sp := 31 }],
        let s := tEvs { pending := true } 1 K
        winner 0 s = some (0, 0) ∧ (s.svcCore 0).presented = none ∧ (s.svcCore 0).eoiJust = false)
    ∧ (let s := tEvs { pending := true } 1 { tCore with sp := 32 }; let K := s.svcCore 0
       32 + K.splim.toNat ≤ K.sp.toNat ∧ (mpuAllows 0 true 1 (K.sp.toNat - 32) s).1 = true)
    ∧ ¬ 32 + (0 : Word).toNat ≤ (31 : Word).toNat := by decide +kernel

theorem test_hyp_EventsAct_claims : (let s := tEvs { pending := true } 1 { tCore with presented := some { src := 9, prio := 5 } }
       winner 0 s = some (0, 0) ∧ winsOver (0, 0) (5, 9) s = true)
    ∧ (let s := tEvs { pending := true } 1 { tCore with presented := some { src := 0, prio := 0 } }
       winner 0 s = some (0, 0) ∧ winsOver (0, 0) (0, 0) s = false ∧ presentable 0 0 s = true)
    ∧ winner 0 (tEvs {} 1 { tCore with presented := some { src := 0, prio := 0 } }) = none
    ∧ (let s := tEvs { pending := true } 1 { tCore with presented := some { src := 254, prio := 0 } }
       let t : State := { s with ctl := (srcReg 0 0, 0x8001_0101) :: s.ctl }
       winner 0 t = some (1, 0) ∧ winsOver (1, 0) (0, 254) t = false ∧ presentable 0 254 t = false) := by decide +kernel

theorem test_hyp_EventsAct_watchdog : (((tEv {} 1).svcCore 0).wdStart = some 0 ∧ ((tEv {} 1).svcCore 0).released = true
      ∧ svcWdtNs 0 (tEv {} 1) ≤ (advance 10_000_000_000 (tEv {} 1)).now - 0 ∧ (tEv {} 1).svc.lastReset = none ∧ (tEv {} 1).keep.mode ≠ .hold)
    ∧ (∀ t0, ((tEvs {} 1 { tCore with wdStart := none }).svcCore 0).wdStart ≠ some t0)
    ∧ (let s : State := { tEv {} 1 with svc := { (tEv {} 1).svc with lastReset := some (1, 10_000_000_000) } }
       s.svc.lastReset = some (1, 10_000_000_000) ∧ (advance 10_000_000_000 s).now < 10_000_000_000 + 1_000_000_000 ∧ s.reiniting 5 = false)
    ∧ ({ tEv {} 1 with keep := { mode := .run, reinit := [(5, some 0)] } } : State).reiniting 5 = true := by
  refine ⟨by decide +kernel, fun _ h => ?_, by decide +kernel⟩
  simp [tEvs, tCore, State.svcCore, look] at h

theorem test_hyp_EventsAct_registers : (∀ k < 8, WriteGranted tK (0x0700_0010 + 4 * k) 1 (tEv {} 1) ∧ WriteGranted tK (0x0700_0030 + 4 * k) 1 (tEv {} 1))
    ∧ WriteGranted tK (stmrReg 0 0) 3 (tEv {} 1) ∧ WriteGranted tK (srcReg 1 0) 0x8001_0001 (tEv {} 1) ∧ WriteGranted tK (srcReg 0 0) 0 (tEv {} 1)
    ∧ (srcEnabled 1 (tEv {} 1) = false ∧ (tEv {} 1).svc.wakeOwed.getLsbD 1 = true)
    ∧ WriteGranted tK 0x0700_0000 0 (tEv {} 1) ∧ WriteGranted tK 0x0700_0000 3 (tEv {} 1) := by unfold WriteGranted; decide +kernel

theorem test_hyp_SourcesAreEnabledAndCleared : srcEnabled 0 State.reset = false ∧ WriteGranted tK (srcReg 0 0) 0 (tEv {} 1) ∧ (0 : Word).getLsbD 31 = false
    ∧ WriteGranted tK (0x0700_0010 + 4 * (0 / 32)) 1 (tEv {} 1) ∧ WriteGranted tK (0x0700_0030 + 4 * (0 / 32)) 1 (tEv {} 1) := by unfold WriteGranted; decide +kernel

theorem test_hyp_WinnerIsChosen : winner 0 (tEv { pending := true } 1) = some (0, 0) ∧ presentable 0 0 (tEv { pending := true } 1) = true
    ∧ winner 0 (tEv {} 1) = none := by decide +kernel

/-! ### The lock-keeper -/

/-- A module in mode `m` at phase HOUSEKEEPING with wake enables 5 to 11, the watcher armed, D0 an input. -/
def tKeep (m : Mode) : State := {
  keep := { mode := m, stblRequest := true, stblAt := 0 }, seq := { phase := .housekeeping, captured := true }, svc := { armed := true, wakePend := 32 }
  ctl := [(0x0700_0008, 0xFFF), (0x0800_0304, 9), (0x0800_0308, 0), (fldReg 0 0x100, 0)] }

theorem test_hyp_StabledAndWake : (∀ m ∈ [Mode.run, .degraded, .commission, .hold], WriteGranted tK 0x0800_0300 1 (tKeep m) ∧ (tKeep m).keep.mode = m)
    ∧ ((tKeep .stabled).svc.armed = true ∧ (∀ k < 12, cbit 0x0700_0008 k (tKeep .stabled) = true) ∧ (tKeep .stabled).keep.mode = .stabled)
    ∧ ctlGet 0x0800_0304 (tKeep .stabled) ≠ 0 ∧ WriteGranted tK 0x0800_0300 2 (tKeep .stabled) ∧ WriteGranted tK 0x0800_0300 2 (tKeep .run)
    ∧ ((tKeep .stabled).fldFitted 0 = true ∧ cf 0x0800_0308 6 0 (tKeep .stabled) < 24
      ∧ dioRead 0 (cf 0x0800_0308 6 0 (tKeep .stabled)) (tKeep .stabled) = cbit 0x0800_0308 7 (tKeep .stabled))
    ∧ (tKeep .stabled).svc.wakePend ≠ 0 ∧ (tKeep .run).keep.mode ≠ .stabled
    ∧ ((tKeep .run).keep.stblRequest = true ∧ (tKeep .run).seq.phase = .housekeeping ∧ (tKeep .run).seq.overrun = false
      ∧ (tKeep .run).keep.stblAt ≤ (tKeep .run).deadline ∧ stabledReason (tKeep .run) = 0 ∧ stabledReason (tKeep .hold) ≠ 0) := by unfold WriteGranted; decide +kernel

/-- Sensors 3 and 10 before a third excess, monitors of each effect before a second. -/
def tSense : State := { tRun .evaluate with keep := { mode := .run, temp := [(3, { highRun := 2 }), (10, { highRun := 2 })], volt := ([0, 3, 4, 5, 6, 7, 8, 9, 11, 12].map fun v => (v, { limitRun := 1 })) } }

theorem test_hyp_SensorsAct : (∀ i ∈ [3, 10], i < 12 ∧ (List.replicate 12 (1_300 : BitVec 16))[i]? = some 1_300 ∧ 2 ≤ (tSense.temp i).highRun
      ∧ (tSense.temp i).atLimit = false ∧ (tSense.temp i).warned = false ∧ (tempLimits i tSense).2.1 < (1_300 : BitVec 16).toInt)
    ∧ tSense.keep.mode ≠ .stabled ∧ ((tempLimits 3 tSense).2.2 ≤ (200 : BitVec 16).toInt ∧ (200 : BitVec 16).toInt ≤ (tempLimits 3 tSense).2.1)
    ∧ (∀ v ∈ [0, 3, 4, 5, 6, 7, 8, 9, 11, 12], voltIgnored v tSense = false ∧ voltFitted v tSense = true ∧ 1 ≤ (tSense.volt v).limitRun ∧ (tSense.volt v).out = false
      ∧ (railWindow v).1 ≤ (railWindow v).2 ∧ ¬ (railWindow v).1 ≤ (100 : BitVec 16).toNat)
    ∧ (voltIgnored 1 tSense = false ∧ (tSense.volt 1).limitRun = 0 ∧ voltFitted 15 { tSense with fused := { fit := 0 } } = false)
    ∧ ((advance 600_000_000_000 tSense).now = 600_000_000_000 ∧ tSense.keep.lastSummary + 600_000_000_000 ≤ (advance 600_000_000_000 tSense).now
      ∧ (advance 599_999_999_999 tSense).now < tSense.keep.lastSummary + 600_000_000_000) := by decide +kernel

theorem test_hyp_RegionsAct : ((∀ n < 8, tSense.keep.clkNow.getLsbD n = false) ∧ tSense.keep.mode = .run)
    ∧ (let s : State := { keep := { clkNow := 0xFF } }; ∀ n < 8, s.keep.clkNow.getLsbD n = true)
    ∧ (let s : State := { keep := { mode := .run, clkNow := 0, owed := 0x30 }, net := { up := false } }
       s.net.up = false ∧ (s.volt 5).out = false ∧ (s.volt 6).out = false ∧ s.reiniting 4 = false ∧ s.keep.owed.getLsbD 4 = true ∧ s.keep.owed.getLsbD 5 = true)
    ∧ (∀ r ∈ [1, 2, 4, 5], let s : State := { keep := { mode := .run, reinit := [(r, some 0)] } }
       look none r s.keep.reinit = some 0 ∧ s.now ≤ 0 + reinitBound r ∧ 0 + reinitBound r < (advance 50_000_000_000 s).now ∧ s.keep.mode ≠ .boot)
    ∧ look none 1 tSense.keep.reinit = none := by decide +kernel

/-- A module that boots at stage `k`, with CMSN as said and all that RUN needs. -/
def tBoot (k : Nat) (c : Bool) : State := {
  keep := { mode := .boot, bootStage := k, cmsn := c }, image := some {}, bth := { policy := some {} }, net := { confActive := true }, ctl := [(0x0800_0028, 5)] }

theorem test_hyp_HoldBootAndResets : (tSense.keep.mode ≠ .hold ∧ (tKeep .hold).keep.mode = .hold ∧ booting tSense = false)
    ∧ (∀ c : Bool, booting (tBoot 10 c) = true ∧ onTrial (tBoot 10 c) = false ∧ (tBoot 10 c).keep.bootStage = 10 ∧ (tBoot 10 c).keep.cmsn = c)
    ∧ runnable (tBoot 10 true) = true ∧ (let s : State := { tBoot 10 true with image := none }; runnable s = false ∧ booting s = true ∧ s.keep.bootStage = 10)
    ∧ (∀ n < 11, n ≠ 0 → booting (tBoot n true) = true ∧ onTrial (tBoot n true) = false ∧ (tBoot n true).keep.bootStage ≤ n)
    ∧ (let s : State := { keep := { mode := .boot, bootStage := 2, cmsn := true, slots := [(0, { state := .trial })] } }
       booting s = true ∧ onTrial s = true ∧ slotIn .trial lkSlots s = some 0)
    ∧ (let s : State := { keep := { mode := .commission, cmsn := false } }; s.keep.cmsn ≠ true ∧ s.keep.mode = .commission)
    ∧ (tSense.keep.cmsn ≠ false ∧ tSense.keep.mode ≠ .commission) := by decide +kernel

/-- A firmware active in slots 0 and 2, a program in slot 4, and two settings copies of which B is newer. -/
def tSlots : State := {
  keep := { mode := .boot, bootStage := 6, slots := [(0, { state := .active }), (2, { state := .active }), (4, { state := .active })],
            settingsA := { valid := true, generation := 4 }, settingsB := { valid := true, generation := 5 } } }

theorem test_hyp_HoldBootAndResets_stages : onTrial tSlots = false ∧ slotIn .active lkSlots tSlots = some 0 ∧ slotIn .active svcSlots tSlots = some 2
    ∧ slotIn .active progSlots tSlots = some 4 ∧ (tSlots.slot 0).payload.length ≤ 1_572_864 ∧ tSlots.keep.bootKind ≠ .logic
    ∧ (bestSettings tSlots).map Settings.generation = some 5 ∧ slotIn .active lkSlots (tBoot 2 true) = none ∧ slotIn .fallback lkSlots (tBoot 2 true) = none
    ∧ ({} : BootRun).proof = none ∧ testS3 tSlots = none ∧ (0 < tSlots.blocksFitted ∧ (tSlots.block 0).isolated = false) := by decide +kernel

theorem test_hyp_HoldBootAndResets_resets : (∀ m ∈ [Mode.commission, .hold, .boot, .stabled, .run, .degraded], WriteGranted tK 0x0800_000C 1 (tKeep m)
      ∧ WriteGranted tK 0x0800_000C 2 (tKeep m) ∧ WriteGranted tK 0x0800_000C 0x30 (tKeep m) ∧ (tKeep m).keep.mode = m ∧ (tKeep m).keep.armed = none)
    ∧ (∀ d ∈ [99_999_999, 100_000_000, 2_000_000_000, 2_000_000_001], let s : State := { keep := { mode := .run, armed := some (1, 0) } }; let a : Access := { tK with at_ := d }
       WriteGranted a 0x0800_000C 1 s ∧ s.keep.armed = some (1, 0) ∧ (advance a.at_ s).now = d)
    ∧ ((BitVec.setWidth 32 (3 : BitVec 4)) <<< 4 : Word) = 0x30 := by unfold WriteGranted; decide +kernel

/-- COMMISSION with a content staged for each kind, over an active program image. -/
def tUpd : State := { keep := { mode := .commission, slots := [(0, { state := .staged }), (2, { state := .staged }), (4, { state := .staged }), (5, { state := .active })] } }

theorem test_hyp_SettingsAndTime : WriteGranted tK 0x0800_0018 2 tUpd ∧ tUpd.keep.mode = .commission ∧ WriteGranted tK 0x0800_0220 1 tUpd ∧ slotIn .staged [4, 5] tUpd = some 4
    ∧ slotIn .active [4, 5] tUpd = some 5 ∧ onTrial tUpd = false ∧ WriteGranted tK 0x0800_0220 2 tUpd ∧ slotIn .staged [0, 1] tUpd = some 0
    ∧ WriteGranted tK 0x0800_0220 4 tUpd ∧ slotIn .staged [2, 3] tUpd = some 2 ∧ WriteGranted tK 0x0800_0220 8 tUpd
    ∧ slotIn .staged lkSlots (tKeep .commission) = none ∧ slotIn .staged svcSlots tUpd = some 2 ∧ WriteGranted tK 0x0800_0220 4 (tKeep .commission)
    ∧ (tKeep .run).keep.mode ≠ .commission ∧ WriteGranted tK 0x0800_0018 2 (tKeep .run) ∧ WriteGranted tK 0x0800_0220 1 (tKeep .run)
    ∧ WriteGranted tK 0x0800_0050 5 tUpd ∧ WriteGranted tK 0x0800_0054 5 tUpd ∧ WriteGranted tK 0x0800_0058 999_999_999 tUpd ∧ WriteGranted tK 0x0800_0058 1_000_000_000 tUpd := by
  unfold WriteGranted; decide +kernel

/-- The SNAP ball enabled; snapshot 1, of the lock-keeper at 0, held or not. -/
def tSnap (h : Bool) : State := { tRun .evaluate with ctl := [(0x0900_0000, 4)], snap := { held := h, number := 1, src := 4 } }

theorem test_hyp_SnapshotsAct : cbit 0x0900_0000 2 (tSnap false) = true ∧ (tSnap false).snap.held = false ∧ cbit 0x0900_0000 2 State.reset = false
    ∧ (∀ h : Bool, WriteGranted tK 0x0900_0000 ((ctlGet 0x0900_0000 (tSnap h) &&& 0xC) ||| 1) (tSnap h)
      ∧ WriteGranted tK 0x0900_0000 ((ctlGet 0x0900_0000 (tSnap h) &&& 0xC) ||| 2) (tSnap h)) ∧ (tSnap true).snap.held = true
    ∧ ((tSnap true).snap.dtime = (advance 0 (tSnap true)).now ∧ (tSnap true).snap.src &&& BitVec.ofNat 4 1 = 0
      ∧ (tSnap true).snap.src &&& BitVec.ofNat 4 4 ≠ 0 ∧ (tSnap true).snap.dtime ≠ (advance 1_000 (tSnap true)).now)
    ∧ ((tSnap true).snap.copied = false ∧ (tSnap true).snap.number ≠ 0 ∧ (tRun .evaluate).snap.number = 0)
    ∧ (tSnap true).snap.dtime + 10_000_000 ≤ (advance 10_000_000 (tSnap true)).now
    ∧ (advance 9_999_999 (tSnap true)).now < (tSnap true).snap.dtime + 10_000_000 := by unfold WriteGranted; decide +kernel

/-! ### Accesses to the control space -/

/-- A FORMING member in RUN. -/
def tAcc : State := { tRun .evaluate with tri := { state := .forming } }

theorem test_hyp_RegisterWritesAct : (WriteGranted tK 0x00F0_000C 2 tAcc ∧ WriteGranted tK 0x00F0_000C 1 tAcc ∧ WriteGranted tK 0x00F1_000C 0x100 tAcc
      ∧ WriteGranted tK 0x00F1_000C 1 tAcc ∧ WriteGranted tK 0x0480_0014 1 tAcc ∧ WriteGranted tK 0x0480_0014 0 tAcc ∧ tAcc.tri.state ≠ .off)
    ∧ ((∀ b < 8, WriteGranted tK (0x0500_0004 + 0x20 * b) 1 tAcc ∧ WriteGranted tK (0x0500_0004 + 0x20 * b) 0 tAcc) ∧ WriteGranted tK 0x0500_0100 5 tAcc)
    ∧ (WriteGranted tK 0x0800_0028 5 tAcc ∧ ctlGet 0x0800_0028 tAcc ≠ 5 ∧ WriteGranted tK 0x0600_0000 0 tAcc ∧ (findReg 0x0600_0000).isSome = true)
    ∧ (∀ x, findReg 0x0600_0000 = some x → x.1.unit.fitted x.2.1 tAcc = true ∧ x.1.reg = .stored) := by
  unfold WriteGranted
  refine ⟨by decide +kernel, by decide +kernel, by decide +kernel, ?_⟩
  intro x hx
  have h : (findReg 0x0600_0000).all (fun x => x.1.unit.fitted x.2.1 tAcc && decide (x.1.reg = .stored)) = true := by decide +kernel
  rw [hx] at h; simpa using h

theorem test_hyp_ReadsLatchAndClear : ReadGranted tK 0x0610_0080 tAcc ∧ ReadGranted tK (0x0610_0080 + 0xA0 * 4095) tAcc ∧ ReadGranted tK 0x0800_0050 tAcc
    ∧ upperWords 0x0800_0050 ≠ [] ∧ latchOf (Requester.code tK.req) 0x0800_0050 tAcc = none
    ∧ (let s : State := { tAcc with latches := [(Requester.code tK.req, [(0x0800_0050, 5)])] }
       ReadGranted tK 0x0800_0050 s ∧ latchOf (Requester.code tK.req) 0x0800_0050 s ≠ none) := by unfold ReadGranted; decide +kernel

/-- The row of a register, when every condition `p` on it holds. -/
def tRow (a : Nat) (p : RegRow → Nat → Bool) : Bool := match findReg a with | some (r, i, _) => p r i | none => false

theorem test_hyp_RcFieldsClear : tRow 0x0310_0000 (fun r i => r.unit.fitted i tAcc && r.fields.any (fun f => decide (f.acc = .rc))) = true
    ∧ ReadGranted tK 0x0310_0000 tAcc ∧ ¬ ReadGranted { tK with req := .berth 0 } 0x0310_0000 (tBth .closed) := by unfold ReadGranted; decide +kernel

/-- A module with one field block. -/
def tSmall : State := { fused := { fit := 0 } }

theorem test_hyp_UnfittedRegistersAreInert : tRow (fldReg 3 0) (fun r i => !r.unit.fitted i tSmall) = true ∧ WriteGranted tK (fldReg 3 0) 5 tSmall
    ∧ latchOf 0 (fldReg 3 0) tSmall = none := by unfold WriteGranted; decide +kernel

/-- Service core 0 with the address of STMR0's period in g1. -/
def tLdc : State := { tRun .evaluate with svc := { held := false, cores := [(0, { released := true, sp := 64, regs := [(1, 0x0700_0804)] })] } }

/-- A module whose image sets cluster 0 SPLIT at first, in RUN. -/
def tModes : State := { tRun .evaluate with image := some { modes := [1, 1, 1, 1, 1, 1, 1, 1] } }

theorem test_hyp_RegisterWritesAct_refused : ((tModes.keep.mode = .run ∧ tModes.img.modes.getD 0 2 = 1) ∧ 0 < tModes.clustersFitted
      ∧ look (clusterMode 0 tModes) 0 tModes.seq.clTarget ≠ 2)
    ∧ (∀ q ∈ [Requester.keeper, .service 0], requesterActive q (advance 0 tLdc) = true ∧ checkWrite q 2 5 (advance 0 tLdc) = 0x6001)
    ∧ (requesterActive (.service 0) (advance 0 tLdc) = true ∧ checkWrite (.service 0) 0x0800_0028 5 (advance 0 tLdc) ≠ 0
      ∧ checkWrite (.service 0) 0x0800_0028 5 (advance 0 tLdc) ≠ 0x6001)
    ∧ (requesterActive (.berth 0) (advance 0 (tBth .open_)) = true ∧ checkWrite (.berth 0) 0x0600_0000 0 (advance 0 (tBth .open_)) ≠ 0)
    ∧ requesterActive (.berth 1) (advance 0 (tBth .closed)) = false := by decide +kernel

theorem test_hyp_MessageAndCoreAccesses : (Admits 0 0x11 (tMsg 0x11 (be 4 0x0600_0000 ++ be 4 1)) (be 4 0x0600_0000 ++ be 4 1) (tBth .open_) ∧ ((tBth .opening).berth 0).state ≠ .open_ ∧ ((tBth .open_).berth 0).state = .open_
      ∧ tRow 0x0600_0000 (fun r i => decide (r.reg = .stored) && r.unit.fitted i (tBth .open_)) = true
      ∧ checkWrite (.berth 0) 0x0600_0000 1 (tBth .open_) = 0 ∧ checkWrite (.berth 0) 0x0600_0000 0 (tBth .open_) ≠ 0)
    ∧ ((tLdc.svcCore 0).priv = true ∧ controlAddr tiV 1 0 tLdc = 0x0700_0804 ∧ 0x0700_0804 % 4 = 0 ∧ (readRoles 0x0700_0804).contains roleB = true
      ∧ latchOf 8 0x0700_0804 tLdc = none
      ∧ tRow 0x0700_0804 (fun r _ => decide (r.reg = .stored) && decide (r.unit = .always) && decide (r.fields ≠ [])
          && r.fields.all (fun f => decide (f.who = .serviceCore) && !f.comm)) = true) := by unfold Admits; decide +kernel

theorem test_hyp_MessageAndCoreAccesses_cores : CanIssue tiV 1 [] false tLdc := by dsimp only [CanIssue, tiV]; decide +kernel

/-! ### The whole block -/

theorem test_hyp_StepRunsTheFrontCommand : step { tBth .open_ with pending := [.wakenFalling] } = exec .wakenFalling (tBth .open_) := rfl

theorem test_hyp_CommandsKeepTheQueue : ∃ t, exec (.uartFrameGap []) State.reset = .next t ∧ t.pending = State.reset.pending := ⟨_, rfl, rfl⟩

theorem test_hyp_StepKeepsMemories : State.reset.wf ∧ ∃ t, step State.reset = .next t := ⟨⟨rfl, rfl⟩, _, rfl⟩

/-! ### The manual's worked examples -/

/-- The raw register `g` of pass `p` of core 0 after the command. -/
def rawAfter (p : Pass) (g : Nat) : Outcome → Option (Option Word)
  | .next t => some (((t.core 0).pass p).arch.regs.lookup g)
  | _ => none

/-- The passes of core 0 with registers in their own forms. -/
def tRegs (r : Tab Word) : State :=
  { tJ with time := { t6 := 50_000 }, cores := [(0, { top := { tPass with arch := { regs := r }, slots := [(0, 0)] }, heart := { tPass with arch := { regs := r } }, base := tPass })] }

/-- Chapter 4, decoding a detection input in three passes: the instructions of Heart, whose registers hold complements. -/
theorem test_worked_heart :
    rawAfter .heart 2 (execAdd { ctx := .joined 0 .heart } 2 1 1 (tRegs [(1, 0xFFFF_D5A3)])) = some (some 0xFFFF_AB47)
    ∧ rawAfter .heart 5 (execExt { ctx := .joined 0 .heart } 5 3 0 15 (tRegs [(3, 0xFFFB_FBFE)])) = some (some 0xFFFF_FBFE)
    ∧ rawAfter .heart 6 (execExt { ctx := .joined 0 .heart } 6 3 16 7 (tRegs [(3, 0xFFFB_FBFE)])) = some (some 0xFFFF_FFFB)
    ∧ rawAfter .heart 7 (execSrl { ctx := .joined 0 .heart } 7 7 6 (tRegs [(7, 0xFFFF_FFEF), (6, 0xFFFF_FFFB)])) = some (some 0xFFFF_FFFE)
    ∧ rawAfter .heart 7 (execAndi { ctx := .joined 0 .heart } 7 7 3 (tRegs [(7, 0xFFFF_FFFE)])) = some (some 0xFFFF_FFFE) := by
  decide +kernel

/-- Chapter 4, the route object: TALL yields 0 in Top and ~0 in Heart. -/
theorem test_worked_tall :
    rawAfter .top 3 (execTall { ctx := .joined 0 .top } 3 1 2 (tRegs [(1, 0xB3), (2, 0xF3), (3, 7)])) = some (some 0)
    ∧ rawAfter .heart 3 (execTall { ctx := .joined 0 .heart } 3 1 2 (tRegs [(1, 0xFFFF_FF4C), (2, 0xFFFF_FF0C), (3, 7)])) = some (some 0xFFFF_FFFF) := by
  decide +kernel

/-- R115: a timer started in the cycle with MCC 8,000 at P = 500, tested by Top. -/
def tTimer (mcc : Nat) : State :=
  { tObj with
    image := some { timerOwner := [(291, 0x2A5C)], progLen := 2 }
    seq := { tObj.seq with mcc := mcc, period := 500 }
    timers := [(291, { started := some 8_000 })]
    cores := [(0, { top := { tPass with arch := { regs := [(1, 291)] } } })] }

theorem test_worked_ttest : rawAfter .top 2 (execTtest tiJ 2 1 (tTimer 8_001)) = some (some (0x8000_0000 + 5))
    ∧ rawAfter .top 2 (execTtest tiJ 2 1 (tTimer 9_200)) = some (some (0x8000_0000 + 6_000)) := by decide +kernel

/-- Chapter 5: three outvotes of Heart; a fourth in cycle 10,998 retires the core, a fourth in cycle 11,003 does not. -/
def tVote (mcc : Nat) : State :=
  { seq := { mcc := mcc, limit := 4, window := 1_000 }, cores := [(9, { histHeart := [10_700, 10_350, 10_000] })] }

theorem test_worked_retirement : ((countOutvote 9 .heart 0 (tVote 10_998)).core 9).retiring = true
    ∧ ((countOutvote 9 .heart 0 (tVote 11_003)).core 9).retiring = false := by decide +kernel

/-- Chapter 6: two equal words decide, and member 2 is outvoted. -/
theorem test_worked_agreement : agreeWord [(0, 0xF3C), (1, 0xF3C), (2, 0xF1C)] 0 = (0xF3C, false, some 2) := by decide

/-- Chapter 2: the budget of 16,384 objects of weight 40 fits at P = 500 exactly, and nothing more does. -/
theorem test_worked_budget : budgetFits 655_360 500 470 = true ∧ budgetFits 655_361 500 470 = false ∧ budgetFits 655_360 500 354 = false := by decide

/-- Chapter 9: segment 40 at its middle, 200 ms: −7,500 t gives −1,500 counts/s and 6,350 counts. -/
theorem test_worked_segment :
    (segAt (6_500 * 65_536) 0 (5_900 * 65_536) (-3_000 * 65_536) 400_000 400_000 {}).1 = (6_350 * 65_536, -1_500 * 65_536, -7_500) := by
  decide +kernel

/-- FIPS 180-4 and the check value of CRC-32C. -/
theorem test_crc32c : crc32c ((List.range 9).map (fun i => BitVec.ofNat 8 (0x31 + i))) = 0xE306_9283 := by decide +kernel

/-- Chapter 8: the batch of cycle 12,000. -/
def tEnt (obj berth code rank : Nat) : BatchEntry := { obj := obj, berth := berth, code := code, rank := rank, arg0 := 0, arg1 := 0, msg := some 0, place := 0, stamp := 0 }

def tBatch : State := { bth := { batch := [tEnt 10_844 1 0x101 40, tEnt 10_844 3 0x101 40, tEnt 10_900 4 0x101 40, tEnt 10_900 1 0x102 40,
  tEnt 200_017 1 0x300 60, tEnt 200_017 3 0x301 5] } }

theorem test_worked_batch : (batchArea (resolveBatch tBatch)).take 4 = [6, 0x0001_0002, 0x0002_0001, 0]
    ∧ (resolveBatch tBatch).bth.batch.map (fun e => e.words.take 2) = [[0x0010_2A5C, 0x0028_0101], [0x0130_2A5C, 0x0028_0101],
      [0x0340_2A94, 0x0028_0101], [0x0310_2A94, 0x0028_0102], [0x0213_0D51, 0x003C_0300], [0x0033_0D51, 0x0005_0301]] := by decide +kernel

/-- Chapter 7: connection 12 of member 1, its reference and its message at the CAPTURE of cycle 8,003. -/
def tConn12 : State := {
  net := { epoch := 0x213, table := [(12 * 32, 0x5), (12 * 32 + 1, 0x7_0041), (12 * 32 + 2, 0xB5), (12 * 32 + 6, 0x0402_0010), (12 * 32 + 16, 0x0C0D_0E0F)]
           control := [(12, 3)]
           conns := [(12, { state := 1, ref := some 0x7710, quiet := 2, frozen := some { seq := 0x7712, src := 0 } })] } }

theorem test_worked_connection : ((connUpdate 12 tConn12).conn 12).status = 0x1D ∧ ((connUpdate 12 tConn12).conn 12).state = 1
    ∧ ((connUpdate 12 tConn12).conn 12).missed = 1 := by decide +kernel

/-- Chapter 15: FLD_SO_CFG, FLD_SO_FB and FLD_SO_STATUS of SO5 may be read, and the word after them is undefined. -/
theorem test_worked_cread : (wordsFrom 0x0301_0410 4).map (fun a => checkRead (.berth 0) a (tBth .open_)) = [0, 0, 0, 0x6004] := by decide +kernel

/-- FIPS 180-4, SHA-256 of "abc"; FIPS 197, the S-box of 0x53 and the first column of appendix B. -/
theorem test_sha256 : ofBe (sha256 [0x61, 0x62, 0x63]) = 0xba7816bf8f01cfea414140de5dae2223b00361a396177a9cb410ff61f20015ad := by decide +kernel

theorem test_aes128 : sbox 0x53 = 0xED ∧ aesMixCol [0xD4, 0xBF, 0x5D, 0x30] = [0x04, 0x66, 0x81, 0xE5] := by decide +kernel

/-! ### Words of R137 and R138, written out from their fields -/

/-- The formats A, I, F, S, Y, L, B, J, T and P of the common and the logic profile. -/
theorem test_words_logic : (let d := kisDecode tiJ .good
     -- op 1, rd 2, ra 1, rb 1, fn 0; op 1, fn 19 is reserved; op 4, rd 3, ra 1, imm 0xFFFF; op 8 with ra not 0
     d 0x0441_0800 = some (.add tiJ 2 1 1) ∧ d 0x0441_0813 = none ∧ d 0x1061_FFFF = some (.addi tiJ 3 1 0xFFFF) ∧ d 0x2001_0005 = none
     -- op 3, rd 5, ra 3, pos 0, wm1 15, sel 0; pos 31 with wm1 1 ends above bit 31
     ∧ d 0x0CA3_03C0 = some (.ext tiJ 5 3 0 15) ∧ d 0x0CA3_F840 = none
     -- op 0x10, rt 3, ra 2, sp 2, off 0, the example of chapter 4; op 0x14, ra 2 in [25:21], rb 1 in [20:16], disp 0xFFFE; op 0x1C, disp 0x3FF_FFFF
     ∧ d 0x4062_4000 = some (.ld tiJ 3 .param 2 0 .good) ∧ d 0x5041_FFFE = some (.beq tiJ 2 1 0xFFFE) ∧ d 0x73FF_FFFF = some (.jump tiJ 0x3FF_FFFF)
     -- op 0x21 with any imm; op 0x23 with imm 0 alone; op 0x25, rd 2, ra 1, sel 2; op 0x30 is for the service cores
     ∧ d 0x8400_0007 = some (.onext tiJ [.good]) ∧ d 0x8C00_0000 = some (.seg tiJ) ∧ d 0x8C00_0001 = none ∧ d 0x9441_0002 = some (.ttest tiJ 2 1)
     ∧ d 0xC000_0000 = none) := by decide +kernel

theorem test_words_service : (let d := kisDecode tiV .good
     -- op 0x30, fn 0 and fn 4; op 0x31, rd 2, sr 11 and 12; op 0x32, ra 1, sr 6; op 0x33, rd 2, ra 1; op 0x35, ra 1, rb 2, fn 0; op 0x36; op 0x21
     d 0xC000_0000 = some (.eret tiV) ∧ d 0xC000_0004 = none ∧ d 0xC440_000B = some (.mfsr tiV 2 11) ∧ d 0xC440_000C = none ∧ d 0xC801_0006 = some (.eoiWrite tiV 1)
     ∧ d 0xCC41_0804 = some (.ldc tiV 2 1 0x804) ∧ d 0xD401_1000 = some (.mpuw tiV 1 2) ∧ d 0xD800_0005 = some (.trap tiV 5) ∧ d 0x8400_0000 = none
     -- LD takes sp 7 alone
     ∧ d 0x4082_7FFF = none ∧ d 0x4082_FFFF = some (.ld tiV 4 .scratch 2 0x1FFF .good)) := by decide +kernel

end Sys2Proof.Machine
end

section
/-!
PROOFS of the family of chapter 0: the fields that a read clears (R16) and the registers of unfitted blocks (R8).
-/
namespace Sys2Proof.Machine

/-! ### What a register reads -/

/-- What the windows compute for a read of register `k`; none for a register that only holds what was written. -/
def readReg (k : RegName) (i j : Nat) (s : State) : Option Nat :=
  (readLgc k i s).orElse (fun _ => (readMotFbk k i s).orElse (fun _ => (readFldNet k i j s).orElse (fun _ =>
    (readBthJnlEvc k i s).orElse (fun _ => readLkpSnp k i s))))

theorem liveReg_of_readReg {r : RegRow} {i j x : Nat} {s : State} (hfit : r.unit.fitted i s = true) (h : readReg r.reg i j s = some x) (a : Nat) :
    liveReg r i j a s = w32 x := by
  unfold readReg at h
  simp only [liveReg, hfit, h]
  rfl

theorem liveReg_of_unfitted {r : RegRow} {i : Nat} {s : State} (h : r.unit.fitted i s = false) (j a : Nat) : liveReg r i j a s = 0 := by
  simp [liveReg, h]

theorem liveReg_congr {r : RegRow} {i j a : Nat} {s t : State} (hfit : r.unit.fitted i t = r.unit.fitted i s)
    (hread : readReg r.reg i j t = readReg r.reg i j s) (hctl : ctlGet a t = ctlGet a s) : liveReg r i j a t = liveReg r i j a s := by
  unfold readReg at hread
  unfold liveReg
  rw [hfit, hread, hctl]

theorem liveWord_of_findReg {a : Nat} {r : RegRow} {i j : Nat} (h : findReg a = some (r, i, j)) (s : State) : liveWord a s = liveReg r i j a s := by
  simp [liveWord, h]

/-- Options are fused: what is fitted depends on nothing else (R2). -/
theorem fitted_congr {s t : State} (h : t.fused = s.fused) (u : Unit_) (i : Nat) : u.fitted i t = u.fitted i s := by
  have haxes : t.axesFitted = s.axesFitted := by simp [State.axesFitted, h]
  have hblocks : t.blocksFitted = s.blocksFitted := by simp [State.blocksFitted, h]
  cases u with
  | always => rfl
  | axis => exact congrArg (fun n => decide (i < n)) haxes
  | group => exact congrArg (fun n => decide (8 * i < n)) haxes
  | chan => exact congrArg (fun n => decide (i < n)) haxes
  | head => exact congrArg (fun n => decide (i < 4 * n)) hblocks
  | block => exact congrArg (fun n => decide (i < n)) hblocks

@[simp] theorem fitted_advance (u : Unit_) (i n : Nat) (s : State) : u.fitted i (advance n s) = u.fitted i s :=
  fitted_congr (advance_fused n s) u i

/-- A word that is not latched for its requester reads live. -/
theorem readWord_fst_of_unlatched {q a : Nat} {s : State} (h : latchOf q a s = none) : (readWord q a s).1 = liveWord a s := by
  simp [readWord, h]

/-! ### Registers of unfitted blocks (R8) -/

theorem addrDefined_of_findReg {a : Nat} {p : RegRow × Nat × Nat} (h : findReg a = some p) : addrDefined a = true := by
  simp [addrDefined, h]

theorem regWrite_of_unfitted {a : Nat} {r : RegRow} {i j : Nat} {s : State} (h : findReg a = some (r, i, j)) (hfit : r.unit.fitted i s = false)
    (v : Word) : regWrite a v s = s := by
  simp [regWrite_of_findReg h, hfit]

/-- Settles O55: the address is in the map, the live value of an unfitted register is 0, and a granted write leaves the state. -/
theorem unfittedRegistersAreInert : Obligations.UnfittedRegistersAreInert := by
  intro acc a v s r i j hreg hfit
  have hlive : liveWord a.toNat s = 0 := by rw [liveWord_of_findReg hreg, liveReg_of_unfitted hfit]
  refine ⟨addrDefined_of_findReg hreg, hlive, fun q hq => (readWord_fst_of_unlatched hq).trans hlive, fun hw => ?_⟩
  show Host.Outcome.next (accessWrite acc a.toNat v s) = _
  rw [accessWrite_of_granted hw, regWrite_of_unfitted hreg (by rw [fitted_advance, hfit])]

/-! ### The RC fields of the register map (R16) -/

/-- Registers whose upper half is an RC field beside fields of other kinds. -/
def rcUpper : List RegName := [.motMbox, .evcCoreClaim]

/-- Registers that are two RC fields of 16 bits. -/
def rcPairs : List RegName := [.fbkPcErr, .fldLinkErr, .netPortErr, .netYconDisc, .netTpErr, .netTpViol, .bthFail]

/-- Registers that are one RC field of 32 bits. -/
def rcWords : List RegName := [.netPortRxcnt, .netPortTxcnt, .netYalaAlarm]

/-- Bits [hi:lo] are an RC field of register `k` by the lists above; a register of one RC field is read as a whole. -/
abbrev RcPlace (k : RegName) (hi lo : Nat) : Prop :=
  (k ∈ rcUpper ∧ hi = 31 ∧ lo = 16) ∨ (k ∈ rcPairs ∧ (hi = 31 ∧ lo = 16 ∨ hi = 15 ∧ lo = 0)) ∨ k ∈ rcWords

/-- Every RC field of the rows `l` is one of the places listed. -/
abbrev RcListed (l : List RegRow) : Prop := ∀ r ∈ l, ∀ f ∈ r.fields, f.acc = .rc → RcPlace r.reg f.hi f.lo

theorem rcListed_rowsAt (a : Nat) : RcListed (rowsAt a) := by
  unfold rowsAt
  split <;> decide

theorem mem_rowsAt_of_findReg {a : Nat} {r : RegRow} {i j : Nat} (h : findReg a = some (r, i, j)) : r ∈ rowsAt a := by
  obtain ⟨q, hq, hsome⟩ := List.exists_of_findSome?_eq_some h
  obtain ⟨p, -, hp⟩ := Option.map_eq_some_iff.mp hsome
  cases hp
  exact hq

theorem rcPlace_of_findReg {a : Nat} {r : RegRow} {i j : Nat} (h : findReg a = some (r, i, j)) {f : Fld} (hf : f ∈ r.fields) (hrc : f.acc = .rc) :
    RcPlace r.reg f.hi f.lo :=
  rcListed_rowsAt a r (mem_rowsAt_of_findReg h) f hf hrc

/-! ### Halves of a word -/

theorem bits_upper_w32 {x y : Nat} (hy : y < 2 ^ 16) : bits 31 16 (w32 (2 ^ 16 * x + y)).toNat = x % 2 ^ 16 := by
  simp only [bits, w32, BitVec.toNat_ofNat]
  omega

theorem bits_lower_w32 (x y : Nat) : bits 15 0 (w32 (2 ^ 16 * x + y)).toNat = y % 2 ^ 16 := by
  simp only [bits, w32, BitVec.toNat_ofNat]
  omega

/-! ### A granted read clears (R16) -/

theorem clearRc_ctl (k : RegName) (i : Nat) (s : State) : (clearRc k i s).ctl = s.ctl := by
  unfold clearRc
  split <;> rfl

theorem clearRc_keep (k : RegName) (i : Nat) (s : State) : (clearRc k i s).keep = s.keep := by
  unfold clearRc
  split <;> rfl

theorem clearRc_fused (k : RegName) (i : Nat) (s : State) : (clearRc k i s).fused = s.fused := by
  unfold clearRc
  split <;> rfl

/-- Where the upper half alone is an RC field, the register reads a number of 16 bits afterwards: the other fields lie in the lower half. -/
theorem readReg_clearRc_upper {k : RegName} (hk : k ∈ rcUpper) (i j : Nat) (s : State) :
    ∃ y < 2 ^ 16, readReg k i j (clearRc k i s) = some y := by
  simp only [rcUpper, List.mem_cons, List.not_mem_nil, or_false] at hk
  obtain rfl | rfl := hk
  case inl =>
    refine ⟨2 ^ 15 * b2n s.mot.silent + s.mot.postsLast % 2048, ?_, ?_⟩
    · have : b2n s.mot.silent ≤ 1 := by unfold b2n; split <;> decide
      omega
    · show some (2 ^ 16 * sat 0xFFFF 0 + 2 ^ 15 * b2n s.mot.silent + s.mot.postsLast % 2048) = _
      simp [sat]
  case inr =>
    refine ⟨(s.svcCore i).lastClaim.toNat, by omega, ?_⟩
    show some (2 ^ 16 * ((setSvc i (fun q => { q with spurious := 0 }) s).svcCore i).spurious.toNat
      + ((setSvc i (fun q => { q with spurious := 0 }) s).svcCore i).lastClaim.toNat) = _
    simp

/-- A register of RC fields alone reads 0 afterwards. -/
theorem readReg_clearRc_whole {k : RegName} (hk : k ∈ rcPairs ++ rcWords) (i j : Nat) (s : State) : readReg k i j (clearRc k i s) = some 0 := by
  simp only [rcPairs, rcWords, List.cons_append, List.nil_append, List.mem_cons, List.not_mem_nil, or_false] at hk
  obtain rfl | rfl | rfl | rfl | rfl | rfl | rfl | rfl | rfl | rfl := hk <;>
    simp [readReg, readLgc, readMotFbk, readFldNet, readBthJnlEvc, clearRc, sat]

/-- An RC field reads 0 once its register has been cleared. -/
theorem bits_liveReg_clearRc {r : RegRow} {i hi lo : Nat} {s : State} (hfit : r.unit.fitted i s = true) (hplace : RcPlace r.reg hi lo) (j a : Nat) :
    bits hi lo (liveReg r i j a (clearRc r.reg i s)).toNat = 0 := by
  have hfit : r.unit.fitted i (clearRc r.reg i s) = true := by rw [fitted_congr (clearRc_fused r.reg i s), hfit]
  have whole (hk : r.reg ∈ rcPairs ++ rcWords) : bits hi lo (liveReg r i j a (clearRc r.reg i s)).toNat = 0 := by
    rw [liveReg_of_readReg hfit (readReg_clearRc_whole hk i j s)]
    simp [bits, w32]
  obtain ⟨hk, rfl, rfl⟩ | ⟨hk, -⟩ | hk := hplace
  · obtain ⟨y, hy, hread⟩ := readReg_clearRc_upper hk i j s
    rw [liveReg_of_readReg hfit hread]
    simpa using bits_upper_w32 (x := 0) hy
  · exact whole (List.mem_append_left _ hk)
  · exact whole (List.mem_append_right _ hk)

theorem foldl_setLatch_latches (q : Nat) (v : Nat → Word) (words : List Nat) (s : State) :
    ∃ l, words.foldl (fun t u => setLatch q u (v u) t) s = { s with latches := l } := by
  induction words generalizing s with
  | nil => exact ⟨s.latches, rfl⟩
  | cons u us ih => exact ih (setLatch q u (v u) s)

theorem latchOthers_latches (q a : Nat) (s : State) : ∃ l, latchOthers q a s = { s with latches := l } :=
  foldl_setLatch_latches q (fun u => liveWord u s) _ s

/-- A read of a fitted register clears its RC fields, and changes latches besides. -/
theorem readWord_snd_of_findReg {a : Nat} {r : RegRow} {i j : Nat} {s : State} (hreg : findReg a = some (r, i, j)) (hfit : r.unit.fitted i s = true)
    (q : Nat) : ∃ l, (readWord q a s).2 = clearRc r.reg i { s with latches := l } := by
  obtain ⟨l, hl⟩ := latchOthers_latches q a s
  simp only [readWord, hreg, hfit, if_true]
  split
  · split
    · exact ⟨s.latches, rfl⟩
    · exact ⟨_, rfl⟩
  · exact ⟨l, by rw [hl]⟩

/-- What a granted read of a fitted register leaves. -/
theorem accessRead_clearRc {acc : Access} {a : Nat} {r : RegRow} {i j : Nat} {s : State} (hreg : findReg a = some (r, i, j))
    (hfit : r.unit.fitted i s = true) (hg : ReadGranted acc a s) :
    ∃ l, accessRead acc a s = clearRc r.reg i { advance acc.at_ s with latches := l } := by
  rw [accessRead_of_granted hg]
  exact readWord_snd_of_findReg hreg (by rw [fitted_advance, hfit]) _

/-! ### A read that is not granted -/

/-- `s` with what an access that is not granted may change as in `t`: the time, the berths, the journal and the last codes noted. -/
def State.refusing (s t : State) : State := { s with time := t.time, bth := t.bth, jnl := t.jnl, keep := t.keep, seq := t.seq }

/-- `t` may come of `s` by an access that is not granted: nothing outside `State.refusing` has changed, the mode stands, no berth has another
count of failed opens, and none reads fewer refusals. -/
structure NotGrantedStep (s t : State) : Prop where
  frame : t = s.refusing t
  mode : t.keep.mode = s.keep.mode
  opens : ∀ b, (t.berth b).opens = (s.berth b).opens
  refused : ∀ b, sat 0xFFFF (s.berth b).refused ≤ sat 0xFFFF (t.berth b).refused

namespace NotGrantedStep

theorem refl (s : State) : NotGrantedStep s s := ⟨rfl, rfl, fun _ => rfl, fun _ => le_rfl⟩

theorem trans {s t u : State} (h : NotGrantedStep s t) (g : NotGrantedStep t u) : NotGrantedStep s u where
  frame := g.frame.trans (congrArg (·.refusing u) h.frame)
  mode := g.mode.trans h.mode
  opens b := (g.opens b).trans (h.opens b)
  refused b := (h.refused b).trans (g.refused b)

theorem of_advance (n : Nat) (s : State) : NotGrantedStep s (advance n s) where
  frame := by unfold advance; split <;> rfl
  mode := by unfold advance; split <;> rfl
  opens b := by simp [State.berth]
  refused b := by simp [State.berth]

theorem of_recordC (code flags count : Nat) (extra : List Byte) (s : State) : NotGrantedStep s (recordC code flags count extra s) where
  frame := by
    obtain ⟨j, k, q, h⟩ := recordC_frame code flags count extra s
    rw [h]
    rfl
  mode := recordC_keep_mode code flags count extra s
  opens b := by simp [State.berth]
  refused b := by simp [State.berth]

theorem of_setBerth (b : Nat) {f : Berth → Berth} (s : State) (hopens : ∀ B, (f B).opens = B.opens)
    (hrefused : ∀ B, sat 0xFFFF B.refused ≤ sat 0xFFFF (f B).refused) : NotGrantedStep s (setBerth b f s) where
  frame := rfl
  mode := rfl
  opens c := by
    rw [berth_setBerth]
    split
    · next h => rw [hopens, h]
    · rfl
  refused c := by
    rw [berth_setBerth]
    split
    · next h => exact h ▸ hrefused (s.berth c)
    · exact le_rfl

theorem of_recordRefusals (b code n arg : Nat) (s : State) : NotGrantedStep s (recordRefusals b code n arg s) := by
  refine trans ?_ (of_recordC ..)
  exact of_setBerth b s (fun _ => rfl) (fun _ => le_rfl)

theorem of_recordRefusal (b code arg : Nat) (s : State) : NotGrantedStep s (recordRefusal b code arg s) := by
  simp only [recordRefusal]
  split
  · exact of_setBerth b s (fun _ => rfl) (fun _ => le_rfl)
  · exact of_recordRefusals ..

theorem of_refuseAccess (b code arg : Nat) (s : State) : NotGrantedStep s (refuseAccess b code arg s) := by
  refine trans ?_ (of_recordRefusal ..)
  exact of_setBerth b s (fun _ => rfl) (fun B => by simp only [sat]; omega)

theorem of_refusedAccess (q : Requester) (code a : Nat) (s : State) : NotGrantedStep s (refusedAccess q code a s) := by
  have misaligned : NotGrantedStep s (if code = 0x6001 then record 0x6001 [Requester.code q, a] s else s) := by
    split
    · exact of_recordC ..
    · exact refl s
  cases q with
  | berth b => exact of_refuseAccess b code a s
  | service c => exact misaligned
  | keeper => exact misaligned

/-- A read that is not granted: its requester is not active, or it is refused. -/
theorem of_accessRead {acc : Access} {a : Nat} {s : State} (h : ¬ ReadGranted acc a s) : NotGrantedStep s (accessRead acc a s) := by
  simp only [accessRead]
  split
  · exact of_advance acc.at_ s
  · next hactive =>
    have hcheck : checkRead acc.req a (advance acc.at_ s) ≠ 0 := fun hc => h ⟨by simpa using hactive, hc⟩
    rw [if_neg hcheck]
    exact (of_advance acc.at_ s).trans (of_refusedAccess ..)

theorem ctl_eq {s t : State} (h : NotGrantedStep s t) : t.ctl = s.ctl := by
  rw [h.frame]
  rfl

theorem fused_eq {s t : State} (h : NotGrantedStep s t) : t.fused = s.fused := by
  rw [h.frame]
  rfl

theorem fitted_eq {s t : State} (h : NotGrantedStep s t) (u : Unit_) (i : Nat) : u.fitted i t = u.fitted i s :=
  fitted_congr h.fused_eq u i

/-- A register with RC fields other than BTH_FAIL reads as before: what it counts lies outside `State.refusing`. -/
theorem readReg_eq {s t : State} (h : NotGrantedStep s t) {k : RegName} (hk : k ∈ rcUpper ++ rcPairs ++ rcWords) (hne : k ≠ .bthFail) (i j : Nat) :
    readReg k i j t = readReg k i j s := by
  rw [h.frame]
  simp only [rcUpper, rcPairs, rcWords, List.cons_append, List.nil_append, List.mem_cons, List.not_mem_nil, hne, or_false, false_or] at hk
  obtain rfl | rfl | rfl | rfl | rfl | rfl | rfl | rfl | rfl | rfl | rfl := hk <;> rfl

theorem liveReg_eq {s t : State} (h : NotGrantedStep s t) {r : RegRow} {hi lo : Nat} (hplace : RcPlace r.reg hi lo) (hne : r.reg ≠ .bthFail)
    (i j a : Nat) : liveReg r i j a t = liveReg r i j a s := by
  have hk : r.reg ∈ rcUpper ++ rcPairs ++ rcWords := by
    rw [List.mem_append, List.mem_append]
    obtain ⟨hk, -⟩ | ⟨hk, -⟩ | hk := hplace
    · exact .inl (.inl hk)
    · exact .inl (.inr hk)
    · exact .inr hk
  exact liveReg_congr (h.fitted_eq r.unit i) (h.readReg_eq hk hne i j) (by rw [h.frame]; rfl)

end NotGrantedStep

/-- BTH_FAIL reads its refusals in the upper half and its failed opens in the lower. -/
theorem liveReg_bthFail {r : RegRow} {i : Nat} {s : State} (hreg : r.reg = .bthFail) (hfit : r.unit.fitted i s = true) (j a : Nat) :
    liveReg r i j a s = w32 (2 ^ 16 * sat 0xFFFF (s.berth i).refused + sat 0xFFFF (s.berth i).opens) :=
  liveReg_of_readReg hfit (by rw [hreg]; rfl) a

/-- A read that is not granted leaves each field of BTH_FAIL, or counts up its refusals. -/
theorem NotGrantedStep.bits_bthFail {s t : State} (h : NotGrantedStep s t) {r : RegRow} {i hi lo : Nat} (hreg : r.reg = .bthFail)
    (hfit : r.unit.fitted i s = true) (hplace : RcPlace r.reg hi lo) (j a : Nat) :
    bits hi lo (liveReg r i j a s).toNat ≤ bits hi lo (liveReg r i j a t).toNat := by
  have half_lt (x : Nat) : sat 0xFFFF x < 2 ^ 16 := by unfold sat; omega
  rw [liveReg_bthFail hreg hfit, liveReg_bthFail hreg (by rw [h.fitted_eq, hfit]), h.opens i]
  rw [hreg] at hplace
  have hhalves : hi = 31 ∧ lo = 16 ∨ hi = 15 ∧ lo = 0 := by
    simpa [RcPlace, rcUpper, rcPairs, rcWords] using hplace
  obtain ⟨rfl, rfl⟩ | ⟨rfl, rfl⟩ := hhalves
  · rw [bits_upper_w32 (half_lt _), bits_upper_w32 (half_lt _), Nat.mod_eq_of_lt (half_lt _), Nat.mod_eq_of_lt (half_lt _)]
    exact h.refused i
  · rw [bits_lower_w32, bits_lower_w32]

/-! ### RC fields (R16) -/

/-- Settles O54: the read is granted and clears the register, or it is a step that is not granted, which counts refusals at most. -/
theorem rcFieldsClear : Obligations.RcFieldsClear := by
  intro acc a s r i j hreg hfit
  refine ⟨accessRead acc a.toNat s, rfl, ?_⟩
  by_cases hg : ReadGranted acc a.toNat s
  · obtain ⟨l, hread⟩ := accessRead_clearRc hreg hfit hg
    have hadvance := NotGrantedStep.of_advance acc.at_ s
    rw [hread, clearRc_ctl, clearRc_keep]
    refine ⟨hadvance.ctl_eq, hadvance.mode, fun f hf hrc => ⟨fun _ => ?_, absurd hg⟩⟩
    exact bits_liveReg_clearRc (by rw [← hfit]; exact fitted_advance r.unit i acc.at_ s) (rcPlace_of_findReg hreg hf hrc) j a.toNat
  · have hstep := NotGrantedStep.of_accessRead hg
    refine ⟨hstep.ctl_eq, hstep.mode, fun f hf hrc => ⟨(absurd · hg), fun _ => ?_⟩⟩
    have hplace := rcPlace_of_findReg hreg hf hrc
    by_cases hfail : r.reg = .bthFail
    · exact ⟨hstep.bits_bthFail hfail hfit hplace j a.toNat, fun hne => absurd hfail hne⟩
    · have hsame := congrArg (fun w => bits f.hi f.lo w.toNat) (hstep.liveReg_eq hplace hfail i j a.toNat)
      exact ⟨hsame.ge, fun _ => hsame⟩

end Sys2Proof.Machine
end

section
/-!
PROOFS of the family of chapter 13: the sources of the event controller, their enables and the writes that clear and raise them (R493), and the
winner among the requests presentable to a core (R497).
-/
namespace Sys2Proof.Machine

/-! ### The winner among requests (R497) -/

/-- What R497 keeps of the winner so far and the request of source `k`: one step of `winnerOf`. -/
def keepWinner (s : State) (best : Option (Nat × Nat)) (k : Nat) : Option (Nat × Nat) :=
  match best with
  | none => some (srcPrio k s, k)
  | some b => if winsOver (srcPrio k s, k) b s then some (srcPrio k s, k) else some b

theorem winnerOf_eq_foldl (p : Nat → Bool) (s : State) :
    winnerOf p s = ((keysOf s.svc.src).filter p).foldl (keepWinner s) none := rfl

/-- A request does not win over itself. -/
theorem winsOver_irrefl (a : Nat × Nat) (s : State) : winsOver a a s = false := by
  unfold winsOver
  split <;> simp

/-- Where request `a` of another source does not win over `b`, `b` comes first in the order of R497. -/
theorem order_of_not_winsOver {a b : Nat × Nat} {s : State} (h : winsOver a b s = false) (hne : a.2 ≠ b.2) :
    if stacked s then b.1 < a.1 ∨ (b.1 = a.1 ∧ b.2 < a.2) else b.2 < a.2 := by
  unfold winsOver at h
  split at h
  · next hst =>
    rw [if_pos hst]
    simp only [decide_eq_false_iff_not] at h
    omega
  · next hst =>
    rw [if_neg hst]
    simp only [decide_eq_false_iff_not] at h
    omega

/-- What does not win over `b` does not win over a request that wins over `b`. -/
theorem not_winsOver_trans {a b c : Nat × Nat} {s : State} (hab : winsOver a b s = false) (hcb : winsOver c b s = true) :
    winsOver a c s = false := by
  unfold winsOver at *
  by_cases hst : stacked s = true
  · simp only [if_pos hst, decide_eq_false_iff_not, decide_eq_true_eq] at *
    omega
  · simp only [if_neg hst, decide_eq_false_iff_not, decide_eq_true_eq] at *
    omega

/-- `best` is the winner among the sources listed: the request of one of them, which no other wins over; none where none is listed. -/
def IsWinner (s : State) (l : List Nat) : Option (Nat × Nat) → Prop
  | none => l = []
  | some p => (∃ k ∈ l, p = (srcPrio k s, k)) ∧ ∀ k ∈ l, winsOver (srcPrio k s, k) p s = false

theorem isWinner_keepWinner {s : State} {l : List Nat} {best : Option (Nat × Nat)} (h : IsWinner s l best) (k : Nat) :
    IsWinner s (l ++ [k]) (keepWinner s best k) := by
  cases best with
  | none =>
    have hl : l = [] := h
    simp [keepWinner, IsWinner, hl, winsOver_irrefl]
  | some b =>
    obtain ⟨⟨j, hj, hb⟩, hbest⟩ := h
    simp only [keepWinner]
    split
    · next hwins =>
      refine ⟨⟨k, by simp, rfl⟩, fun i hi => ?_⟩
      obtain hi | rfl := List.mem_append.mp hi |>.imp_right List.mem_singleton.mp
      · exact not_winsOver_trans (hbest i hi) hwins
      · exact winsOver_irrefl _ s
    · next hloses =>
      refine ⟨⟨j, List.mem_append_left _ hj, hb⟩, fun i hi => ?_⟩
      obtain hi | rfl := List.mem_append.mp hi |>.imp_right List.mem_singleton.mp
      · exact hbest i hi
      · simpa using hloses

theorem isWinner_foldl (s : State) (l : List Nat) : IsWinner s l (l.foldl (keepWinner s) none) := by
  induction l using List.reverseRecOn with
  | nil => rfl
  | append_singleton l k ih =>
    rw [List.foldl_append]
    exact isWinner_keepWinner ih k

theorem look_of_not_mem_keysOf {α : Type} (d : α) {k : Nat} {t : Tab α} (h : k ∉ keysOf t) : look d k t = d := by
  induction t with
  | nil => rfl
  | cons e t ih =>
    simp only [keysOf, List.map_cons, List.mem_cons, not_or] at h
    rw [look_cons, if_neg (Ne.symm h.1)]
    exact ih h.2

/-- A source that the table does not list is in its reset state, so not pending. -/
theorem mem_keysOf_of_presentable {c k : Nat} {s : State} (h : presentable c k s = true) : k ∈ keysOf s.svc.src := by
  by_contra hk
  have hreset : s.evSrc k = {} := look_of_not_mem_keysOf ({} : EvSource) hk
  simp [presentable, hreset] at h

theorem mem_presentable_keys {c k : Nat} {s : State} :
    k ∈ (keysOf s.svc.src).filter (fun k => presentable c k s) ↔ presentable c k s = true :=
  List.mem_filter.trans ⟨And.right, fun h => ⟨mem_keysOf_of_presentable h, h⟩⟩

theorem isWinner_winner (c : Nat) (s : State) : IsWinner s ((keysOf s.svc.src).filter (fun k => presentable c k s)) (winner c s) := by
  rw [winner, winnerOf_eq_foldl]
  exact isWinner_foldl s _

theorem winner_eq_none_iff (c : Nat) (s : State) : winner c s = none ↔ ∀ k, presentable c k s = false := by
  have hw := isWinner_winner c s
  constructor
  · intro hnone k
    rw [hnone] at hw
    have hk : k ∉ (keysOf s.svc.src).filter (fun k => presentable c k s) := by
      rw [show _ = [] from hw]
      exact List.not_mem_nil
    simpa using mt mem_presentable_keys.mpr hk
  · intro hall
    cases hwin : winner c s with
    | none => rfl
    | some p =>
      rw [hwin] at hw
      obtain ⟨⟨k, hk, -⟩, -⟩ := hw
      simp [hall k] at hk

/-- Settles O45: the fold over the sources keeps the best presentable request, by induction on the sources seen. -/
theorem winnerIsChosen : Obligations.WinnerIsChosen := by
  intro c s
  refine ⟨winner_eq_none_iff c s, fun p hp => ?_⟩
  have hw := isWinner_winner c s
  rw [hp] at hw
  obtain ⟨⟨j, hj, rfl⟩, hbest⟩ := hw
  exact ⟨mem_presentable_keys.mp hj, rfl, fun k hk hne => order_of_not_winsOver (hbest k (mem_presentable_keys.mpr hk)) hne⟩

/-! ### Commands that act on one source -/

/-- `s` with the states of the sources replaced. -/
def State.withSources (x : Tab EvSource) (s : State) : State := { s with svc := { s.svc with src := x } }

/-- `t` is `s` but for the states of sources other than `j`. -/
def KeepsSource (j : Nat) (s t : State) : Prop := ∃ x, t = s.withSources x ∧ t.evSrc j = s.evSrc j

namespace KeepsSource

theorem refl (j : Nat) (s : State) : KeepsSource j s s := ⟨s.svc.src, rfl, rfl⟩

theorem trans {j : Nat} {s t u : State} : KeepsSource j s t → KeepsSource j t u → KeepsSource j s u := by
  rintro ⟨x, rfl, hx⟩ ⟨y, rfl, hy⟩
  exact ⟨y, rfl, hy.trans hx⟩

theorem evSrc_eq {j : Nat} {s t : State} (h : KeepsSource j s t) : t.evSrc j = s.evSrc j := h.choose_spec.2

theorem of_setSrc {j k : Nat} (h : j ≠ k) (f : EvSource → EvSource) (s : State) : KeepsSource j s (setSrc k f s) :=
  ⟨_, rfl, by rw [evSrc_setSrc, if_neg h]⟩

end KeepsSource

/-- An operation on sources acts on the one it names alone, and what it makes of that one does not depend on the others. -/
structure SourceLocal (g : Nat → State → State) : Prop where
  keeps : ∀ {j k}, j ≠ k → ∀ s, KeepsSource j s (g k s)
  congr : ∀ {k s t}, KeepsSource k s t → (g k t).evSrc k = (g k s).evSrc k

theorem sourceLocal_evEdge : SourceLocal evEdge where
  keeps hjk s := by
    unfold evEdge
    split
    · exact .refl _ s
    · exact .of_setSrc hjk _ s
  congr := by
    rintro k s _ ⟨x, rfl, hx⟩
    by_cases hoff : (!srcEnabled k s || s.svc.held || decide (254 < k)) = true
    · have hs : evEdge k s = s := if_pos hoff
      have ht : evEdge k (s.withSources x) = s.withSources x := if_pos hoff
      rw [hs, ht, hx]
    · have hs : evEdge k s = setSrc k _ s := if_neg hoff
      have ht : evEdge k (s.withSources x) = setSrc k _ (s.withSources x) := if_neg hoff
      rw [hs, ht, evSrc_setSrc, evSrc_setSrc, if_pos rfl, if_pos rfl, hx]
      rfl

theorem sourceLocal_srcDrop : SourceLocal srcDrop where
  keeps hjk s := by
    unfold srcDrop
    split
    · exact .of_setSrc hjk _ s
    · exact .refl _ s
  congr h := by
    unfold srcDrop
    split
    · rw [evSrc_setSrc, evSrc_setSrc, h.evSrc_eq]
    · exact h.evSrc_eq

namespace SourceLocal

variable {g : Nat → State → State}

theorem keepsSource_foldl (hg : SourceLocal g) {j : Nat} {l : List Nat} (hj : j ∉ l) (s : State) :
    KeepsSource j s (l.foldl (fun s k => g k s) s) := by
  induction l generalizing s with
  | nil => exact .refl j s
  | cons k l ih =>
    simp only [List.mem_cons, not_or] at hj
    exact (hg.keeps hj.1 s).trans (ih hj.2 (g k s))

/-- Run over different sources, the operation does to each listed one what it does to it alone. -/
theorem evSrc_foldl (hg : SourceLocal g) (j : Nat) {l : List Nat} (hl : l.Nodup) (s : State) :
    (l.foldl (fun s k => g k s) s).evSrc j = if j ∈ l then (g j s).evSrc j else s.evSrc j := by
  induction l generalizing s with
  | nil => simp
  | cons k l ih =>
    obtain ⟨hk, hl⟩ := List.nodup_cons.mp hl
    rw [List.foldl_cons]
    by_cases hjk : j = k
    · subst hjk
      rw [if_pos List.mem_cons_self]
      exact (hg.keepsSource_foldl hk (g j s)).evSrc_eq
    · have hkeeps := hg.keeps hjk s
      simp only [ih hl, hg.congr hkeeps, hkeeps.evSrc_eq, List.mem_cons, hjk, false_or]

/-- Bit `j % 32` of the word written to register `j / 32` stands for source `j`. -/
theorem evSrc_forOnes (hg : SourceLocal g) (j : Nat) (v : Word) (s : State) :
    (forOnes 32 v (fun n => g (32 * (j / 32) + n)) s).evSrc j = if v.getLsbD (j % 32) then (g j s).evSrc j else s.evSrc j := by
  have hmem : j ∈ (onesBelow 32 v).map (32 * (j / 32) + ·) ↔ v.getLsbD (j % 32) = true := by
    simp only [onesBelow, List.mem_map, List.mem_filter, List.mem_range]
    constructor
    · rintro ⟨n, ⟨hn, hv⟩, hj⟩
      rwa [show j % 32 = n by omega]
    · exact fun hv => ⟨j % 32, ⟨Nat.mod_lt _ (by decide), hv⟩, Nat.div_add_mod j 32⟩
  have hnodup : ((onesBelow 32 v).map (32 * (j / 32) + ·)).Nodup :=
    (List.nodup_range.filter _).map (fun a b h => Nat.add_left_cancel h)
  have hfold := hg.evSrc_foldl j hnodup s
  rw [List.foldl_map] at hfold
  simp only [forOnes, hfold, hmem]

end SourceLocal

theorem evSrc_srcDrop {k : Nat} (hk : k < 255) (s : State) : (srcDrop k s).evSrc k = { s.evSrc k with pending := false, batch := 0 } := by
  simp [srcDrop, hk]

theorem ctlGet_srcDrop (a k : Nat) (s : State) : ctlGet a (srcDrop k s) = ctlGet a s := by
  unfold srcDrop
  split <;> rfl

theorem ctlGet_forOnes_srcDrop (a i : Nat) (v : Word) (s : State) :
    ctlGet a (forOnes 32 v (fun n => srcDrop (i + n)) s) = ctlGet a s := by
  unfold forOnes
  induction onesBelow 32 v generalizing s with
  | nil => rfl
  | cons n l ih => rw [List.foldl_cons, ih, ctlGet_srcDrop]

/-! ### The registers of the sources -/

/-- The row of EVC_PEND. -/
abbrev evcPendRow : RegRow := rowsEvc[3]

/-- The row of EVC_RAISE. -/
abbrev evcRaiseRow : RegRow := rowsEvc[4]

/-- The row of EVC_SRC_CFG. -/
abbrev evcSrcCfgRow : RegRow := rowsEvc[12]

/-- An address beyond the last register of a row is none of its registers. -/
theorem at_of_beyond {r : RegRow} {a : Nat} (hstep : 0 < r.step) (h : r.base + r.n * r.step ≤ a) : r.at_ a = none := by
  have hn : r.n ≤ (a - r.base) / r.step := (Nat.le_div_iff_mul_le hstep).mpr (by omega)
  simp [RegRow.at_, hn]

theorem at_of_element {r : RegRow} {i : Nat} (hstep : 0 < r.step) (hm : r.m = 1) (hi : i < r.n) :
    r.at_ (r.base + r.step * i) = some (i, 0) := by
  simp [RegRow.at_, hm, hi, hstep]

/-- Register `i` of a row of the EVC window, all earlier rows of which end below it. -/
theorem findReg_evc {p i a : Nat} {r : RegRow} (hr : rowsEvc[p]? = some r) (hbefore : ∀ q ∈ rowsEvc.take p, 0 < q.step ∧ q.base + q.n * q.step ≤ r.base)
    (hstep : 0 < r.step) (hm : r.m = 1) (hi : i < r.n) (ha : a = r.base + r.step * i) (hwin : a / 0x0100_0000 = 7) : findReg a = some (r, i, 0) := by
  obtain ⟨hp, hget⟩ := List.getElem?_eq_some_iff.mp hr
  have hrows : rowsAt a = rowsEvc.take p ++ r :: rowsEvc.drop (p + 1) := by
    rw [← hget, ← List.drop_eq_getElem_cons hp, List.take_append_drop]
    simp only [rowsAt, hwin]
  have hnone : (rowsEvc.take p).findSome? (fun q => (q.at_ a).map (fun x => (q, x.1, x.2))) = none := by
    rw [List.findSome?_eq_none_iff]
    intro q hq
    obtain ⟨hqstep, hend⟩ := hbefore q hq
    rw [at_of_beyond hqstep (by omega)]
    rfl
  rw [findReg, hrows, List.findSome?_append, hnone, Option.none_or, List.findSome?_cons, ha, at_of_element hstep hm hi]
  rfl

theorem findReg_evcPend (k : Fin 8) : findReg (0x0700_0010 + 4 * k.val) = some (evcPendRow, k.val, 0) :=
  findReg_evc (p := 3) rfl (by decide) (by decide) rfl k.isLt rfl (by omega)

theorem findReg_evcRaise (k : Fin 8) : findReg (0x0700_0030 + 4 * k.val) = some (evcRaiseRow, k.val, 0) :=
  findReg_evc (p := 4) rfl (by decide) (by decide) rfl k.isLt rfl (by omega)

theorem srcReg_window (k : Fin 255) : srcReg k 0 / 0x0100_0000 = 7 := by
  unfold srcReg
  omega

theorem findReg_evcSrcCfg (k : Fin 255) : findReg (srcReg k 0) = some (evcSrcCfgRow, k.val, 0) :=
  findReg_evc (p := 12) rfl (by decide) (by decide) rfl k.isLt rfl (srcReg_window k)

/-- A write of a register of the EVC window that is always fitted. -/
theorem regWrite_evc {a i j : Nat} {r : RegRow} (hreg : findReg a = some (r, i, j)) (hunit : r.unit = .always) (hwin : a / 0x0100_0000 = 7)
    (v : Word) (s : State) : regWrite a v s = writeBthJnlEvc r.reg i v s (storeBits r a v s) := by
  have hfit : r.unit.fitted i s = true := by rw [hunit]; rfl
  rw [regWrite_of_findReg hreg, if_pos hfit]
  simp only [writeReg, hwin]

/-- A row without RW and RWC fields stores nothing. -/
theorem storeBits_of_mask_zero {r : RegRow} (h : r.mask [.rw, .rwc] = 0) (a : Nat) (v : Word) (s : State) : storeBits r a v s = s := by
  simp [storeBits, h]

theorem regWrite_evcPend (k : Fin 8) (v : Word) (s : State) :
    regWrite (0x0700_0010 + 4 * k.val) v s = forOnes 32 v (fun n => srcDrop (32 * k.val + n)) s := by
  rw [regWrite_evc (findReg_evcPend k) rfl (by omega), storeBits_of_mask_zero (by decide)]
  rfl

theorem regWrite_evcRaise (k : Fin 8) (v : Word) (s : State) :
    regWrite (0x0700_0030 + 4 * k.val) v s = forOnes 32 v (fun n => evEdge (32 * k.val + n)) s := by
  rw [regWrite_evc (findReg_evcRaise k) rfl (by omega), storeBits_of_mask_zero (by decide)]
  rfl

theorem regWrite_evcSrcCfg (k : Fin 255) (v : Word) (s : State) :
    regWrite (srcReg k 0) v s = srcCfgWrite k (ctlGet (srcReg k 0) (storeBits evcSrcCfgRow (srcReg k 0) v s)) s := by
  rw [regWrite_evc (findReg_evcSrcCfg k) rfl (srcReg_window k)]
  rfl

/-- The enable bit of EVC_SRC_CFG is stored as written. -/
theorem enable_storeBits_evcSrcCfg (a : Nat) (v : Word) (s : State) :
    (ctlGet a (storeBits evcSrcCfgRow a v s)).getLsbD 31 = v.getLsbD 31 := by
  have hmask : evcSrcCfgRow.mask [.rw, .rwc] = 0x800F_FF0F := by decide
  rw [ctlGet_storeBits, hmask]
  simp

/-! ### Enabling, clearing and raising a source (R493) -/

theorem srcEnabled_congr {k : Nat} {s t : State} (h : ctlGet (srcReg k 0) t = ctlGet (srcReg k 0) s) : srcEnabled k t = srcEnabled k s := by
  rw [srcEnabled, cbit, h]
  rfl

/-- A write that clears the enable bit stores it and clears the source. -/
theorem srcCfgWrite_of_disable {v : Word} (h : v.getLsbD 31 = false) (k : Nat) (s : State) :
    srcCfgWrite k v s = srcClear k (ctlSet (srcReg k 0) v s) := by
  simp only [srcCfgWrite, h]
  rfl

theorem srcEnabled_srcClear_ctlSet (k : Nat) (v : Word) (s : State) : srcEnabled k (srcClear k (ctlSet (srcReg k 0) v s)) = v.getLsbD 31 := by
  rw [srcEnabled, cbit, srcClear, setSrc_ctlGet, ctlGet_ctlSet, if_pos rfl, BitVec.testBit_toNat]

theorem evSrc_srcClear (k : Nat) (s : State) : (srcClear k s).evSrc k = { s.evSrc k with pending := false, gathering := false, batch := 0 } := by
  simp [srcClear]

@[simp] theorem evSrc_ctlSet (k a : Nat) (v : Word) (s : State) : (ctlSet a v s).evSrc k = s.evSrc k := rfl

@[simp] theorem evSrc_advance (k n : Nat) (s : State) : (advance n s).evSrc k = s.evSrc k := by
  simp [State.evSrc]

theorem srcEnabled_advance (k n : Nat) (s : State) : srcEnabled k (advance n s) = srcEnabled k s :=
  srcEnabled_congr (advance_ctlGet n _ s)

/-- No edge is detected of a source whose enable bit is 0 (R493). -/
theorem evEdge_of_disabled {k : Nat} {s : State} (h : srcEnabled k s = false) : evEdge k s = s := by
  simp [evEdge, h]

/-- An edge command changes no source that is not enabled, whatever toggles it takes. -/
theorem completes_eventEdge_of_disabled {src : Fin 255} {s : State} (h : srcEnabled src s = false) (merge : Bool) (ns : Nat) :
    Completes (.eventEdge src merge ns) s (fun t => t.evSrc src = s.evSrc src) := by
  show ∃ t, execEventEdge src merge ns s = .next t ∧ _
  unfold execEventEdge
  dsimp only
  split
  · exact ⟨_, rfl, evSrc_advance src ns s⟩
  · refine ⟨_, rfl, ?_⟩
    rw [evEdge_of_disabled (by rw [← h]; exact srcEnabled_advance src ns s)]
    exact evSrc_advance src ns s

/-- A granted write access completes with what the write leaves. -/
theorem completes_of_accessWrite {i : Instr} {acc : Access} {a : Nat} {v : Word} {s : State} {P : State → Prop}
    (hi : exec i s = .next (accessWrite acc a v s)) (hg : WriteGranted acc a v s) (h : P (regWrite a v (advance acc.at_ s))) :
    Completes i s P :=
  ⟨_, hi, by rwa [accessWrite_of_granted hg]⟩

/-- Settles O44: an edge of a disabled source is lost, and each write acts on the source whose register or bit it names. -/
theorem sourcesAreEnabledAndCleared : Obligations.SourcesAreEnabledAndCleared := by
  intro acc src ns merge v s
  refine ⟨fun hoff => completes_eventEdge_of_disabled hoff merge ns, fun hg hoff => ?_, fun hg => ?_, fun hg => ?_⟩
  · apply completes_of_accessWrite rfl hg
    rw [regWrite_evcSrcCfg, srcCfgWrite_of_disable (by rw [enable_storeBits_evcSrcCfg, hoff])]
    rw [srcEnabled_srcClear_ctlSet, enable_storeBits_evcSrcCfg, evSrc_srcClear, evSrc_ctlSet, evSrc_advance]
    exact ⟨hoff, rfl⟩
  · apply completes_of_accessWrite rfl hg
    rw [regWrite_evcPend, sourceLocal_srcDrop.evSrc_forOnes, evSrc_srcDrop src.isLt, evSrc_advance]
    refine ⟨fun hbit => ?_, fun hbit => ?_, ?_⟩
    · rw [if_pos hbit]
      exact ⟨rfl, rfl⟩
    · rw [hbit]
      rfl
    · exact srcEnabled_congr ((ctlGet_forOnes_srcDrop _ _ v _).trans (advance_ctlGet _ _ s))
  · apply completes_of_accessWrite rfl hg
    rw [regWrite_evcRaise, sourceLocal_evEdge.evSrc_forOnes, evSrc_advance]

end Sys2Proof.Machine
end

section
/-!
PROOFS. The layout of a towpath frame: each header field stands where a receiver reads it (R212 to R214).
-/
namespace Sys2Proof.Machine

/-- `n` bytes of the frame from offset `o` spell `x`. -/
def TpFrame.HasField (f : TpFrame) (o n x : Nat) : Prop := ∃ pre, pre.length = o ∧ pre ++ be n x <+: f.wire

/-- A receiver reads a field that the frame has. -/
theorem towField_of_hasField {f : TpFrame} {o n x arrive : Nat} (h : f.HasField o n x) (hx : x < 256 ^ n) :
    towField o n { bytes := f.wire, control := true, arrive := arrive } = x := by
  obtain ⟨pre, hl, suf, hw⟩ := h
  simp only [towField, ← hw]
  rw [beAt_be o n x pre suf hl, Nat.mod_eq_of_lt hx]

/-- The first two bytes of a header: version and type, then sender, receiver and snapshot request. -/
def TpFrame.head (f : TpFrame) : List Byte := be 1 (16 + f.typ) ++ be 1 (64 * f.sender + 16 * f.receiver + 8 * b2n f.snap)

theorem TpFrame.length_head (f : TpFrame) : f.head.length = 2 := by simp [TpFrame.head]

theorem hasField_type (f : TpFrame) : f.HasField 0 1 (16 + f.typ) :=
  ⟨[], rfl, by simp [TpFrame.wire]⟩

theorem hasField_members (f : TpFrame) : f.HasField 1 1 (64 * f.sender + 16 * f.receiver + 8 * b2n f.snap) :=
  ⟨be 1 (16 + f.typ), length_be .., by simp [TpFrame.wire]⟩

theorem hasField_length (f : TpFrame) : f.HasField 2 2 f.payload.length :=
  ⟨f.head, f.length_head, by simp [TpFrame.wire, TpFrame.head]⟩

theorem hasField_seq (f : TpFrame) : f.HasField 4 4 f.seq.toNat :=
  ⟨f.head ++ be 2 f.payload.length,
    by simp [f.length_head], by simp [TpFrame.wire, TpFrame.head]⟩

theorem hasField_ack (f : TpFrame) : f.HasField 8 4 f.ack.toNat :=
  ⟨f.head ++ be 2 f.payload.length ++ be 4 f.seq.toNat,
    by simp [f.length_head], by simp [TpFrame.wire, TpFrame.head]⟩

theorem hasField_mcc (f : TpFrame) : f.HasField 12 6 f.mcc :=
  ⟨f.head ++ be 2 f.payload.length ++ be 4 f.seq.toNat ++ be 4 f.ack.toNat,
    by simp [f.length_head], by simp [TpFrame.wire, TpFrame.head]⟩

theorem hasField_triad (f : TpFrame) : f.HasField 18 2 f.triad :=
  ⟨f.head ++ be 2 f.payload.length ++ be 4 f.seq.toNat ++ be 4 f.ack.toNat ++ be 6 f.mcc,
    by simp [f.length_head], by simp [TpFrame.wire, TpFrame.head]⟩

theorem hasField_tsend (f : TpFrame) : f.HasField 20 8 f.tsend :=
  ⟨f.head ++ be 2 f.payload.length ++ be 4 f.seq.toNat ++ be 4 f.ack.toNat ++ be 6 f.mcc ++ be 2 f.triad,
    by simp [f.length_head], by simp [TpFrame.wire, TpFrame.head]⟩

/-- The payload follows the 32 bytes of the header. -/
theorem slice_payload (f : TpFrame) : slice 32 f.payload.length f.wire = f.payload := by
  obtain ⟨pre, hl, suf, hw⟩ : ∃ pre, pre.length = 32 ∧ pre ++ f.payload <+: f.wire :=
    ⟨f.head ++ be 2 f.payload.length ++ be 4 f.seq.toNat ++ be 4 f.ack.toNat ++ be 6 f.mcc ++ be 2 f.triad ++ be 8 f.tsend ++ zeros 4,
      by simp [f.length_head], by simp [TpFrame.wire, TpFrame.head]⟩
  rw [slice, ← hw, List.append_assoc, ← hl, List.drop_left, List.take_left]

/-- The two bits of the sender, the two of the receiver and the snapshot bit of byte 1 read back (R213). -/
theorem members_read_back {sender receiver : Nat} (snap : Bool) (hs : sender < 4) (hr : receiver < 4) :
    64 * sender + 16 * receiver + 8 * b2n snap < 256 ∧
    bits 7 6 (64 * sender + 16 * receiver + 8 * b2n snap) = sender ∧ bits 5 4 (64 * sender + 16 * receiver + 8 * b2n snap) = receiver
      ∧ bitAt 3 (64 * sender + 16 * receiver + 8 * b2n snap) = snap := by
  cases snap <;> simp only [b2n, bits, bitAt, Nat.testBit_eq_decide_div_mod_eq] <;> refine ⟨?_, ?_, ?_, ?_⟩ <;> simp <;> omega

/-- Settles O17: each header field stands after the fields before it, and its value fits the field's bytes. -/
theorem framesRoundTrip : Obligations.FramesRoundTrip := by
  intro f at_ htyp hsend hrecv hlen hlen8 hmcc htri htime w
  have type_read : towField 0 1 w = 16 + f.typ := towField_of_hasField (hasField_type f) (by omega)
  obtain ⟨members_fit, sender_read, receiver_read, snap_read⟩ := members_read_back f.snap hsend hrecv
  have members_field : towField 1 1 w = 64 * f.sender + 16 * f.receiver + 8 * b2n f.snap :=
    towField_of_hasField (hasField_members f) (by omega)
  have length_read : towLength w = f.payload.length := towField_of_hasField (hasField_length f) (by omega)
  have seq_read : towField 4 4 w = f.seq.toNat := towField_of_hasField (hasField_seq f) f.seq.isLt
  have ack_read : towField 8 4 w = f.ack.toNat := towField_of_hasField (hasField_ack f) f.ack.isLt
  refine ⟨wire_intact f at_ ⟨hlen8, hlen⟩, ?_, ?_, ?_, ?_, ?_, ?_, ?_, ?_, ?_, ?_⟩
  · rw [towType, type_read, bits]
    omega
  · rw [towSender, members_field, sender_read]
  · rw [towReceiver, members_field, receiver_read]
  · rw [towSnap, members_field, snap_read]
  · rw [towSeq, seq_read, w32, BitVec.ofNat_toNat, BitVec.setWidth_eq]
  · rw [towAck, ack_read, w32, BitVec.ofNat_toNat, BitVec.setWidth_eq]
  · exact towField_of_hasField (hasField_mcc f) hmcc
  · exact towField_of_hasField (hasField_triad f) htri
  · exact towField_of_hasField (hasField_tsend f) htime
  · rw [towPayload, length_read, slice_payload]

end Sys2Proof.Machine
end

section
/-!
PROOFS. The results of KIS instructions: what a context that can issue an operation of the integer ALU, the bit fields and the boolean
vectors writes (R145 to R150), and where a branch goes on (R151, R152).
-/
namespace Sys2Proof.Machine

/-! ### Two operands (R145, R150) -/

/-- An instruction that computes its result completes with it. -/
theorem completes_compute {x : Instr} {i : Issue} {rd slots : Nat} {reads : List Nat} {late : Bool} {f : (Nat → Word) → Word} {v : Word}
    {s : State} (hx : exec x s = .next (compute i rd reads slots late f s)) (hv : f (fun g => regOf i.ctx g s) = v)
    (h : CanIssue i slots reads false s) : Completes x s (Computes i.ctx rd v (anyPoison i.ctx reads s) s) := by
  subst hv
  exact ⟨_, hx, computes_compute i rd reads slots late f s h⟩

/-- Instruction `x` is an operation in one slot on two registers, with result `v`. -/
def IsOperation (x : Issue → Reg → Reg → Reg → Instr) (v : Word → Word → Word) : Prop :=
  ∃ (late : Bool) (f : Word → Word → Word), (∀ a b, f a b = v a b)
    ∧ ∀ i rd ra rb s, exec (x i rd ra rb) s = .next (compute i rd [ra, rb] 1 late (fun r => f (r ra) (r rb)) s)

/-- What an operation on two registers leaves. -/
theorem completes_of_isOperation {x : Issue → Reg → Reg → Reg → Instr} {v : Word → Word → Word} (hx : IsOperation x v)
    (i : Issue) (rd ra rb : Reg) (s : State) (h : CanIssue i 1 [ra, rb] false s) :
    Completes (x i rd ra rb) s (Computes i.ctx rd (v (regOf i.ctx ra s) (regOf i.ctx rb s)) (anyPoison i.ctx [ra, rb] s) s) := by
  obtain ⟨late, f, hv, hx⟩ := hx
  exact completes_compute (hx i rd ra rb s) (hv _ _) h

theorem add_eq_ofNat (a b : Word) : a + b = BitVec.ofNat 32 (a.toNat + b.toNat) := rfl

theorem mul_eq_ofNat (a b : Word) : a * b = BitVec.ofNat 32 (a.toNat * b.toNat) := rfl

theorem sub_eq_ofInt (a b : Word) : a - b = BitVec.ofInt 32 (a.toNat - b.toNat) := by
  apply BitVec.eq_of_toNat_eq
  rw [BitVec.toNat_sub, BitVec.toNat_ofInt]
  have ha := a.isLt
  have hb := b.isLt
  omega

theorem shiftLeft_eq_ofNat (a : Word) (n : Nat) : a <<< n = BitVec.ofNat 32 (a.toNat * 2 ^ n) := by
  apply BitVec.eq_of_toNat_eq
  rw [BitVec.toNat_shiftLeft, BitVec.toNat_ofNat, Nat.shiftLeft_eq]

theorem ushiftRight_eq_ofNat (a : Word) (n : Nat) : a >>> n = BitVec.ofNat 32 (a.toNat / 2 ^ n) := by
  apply BitVec.eq_of_toNat_eq
  rw [BitVec.toNat_ushiftRight, BitVec.toNat_ofNat, Nat.shiftRight_eq_div_pow,
    Nat.mod_eq_of_lt (Nat.lt_of_le_of_lt (Nat.div_le_self _ _) a.isLt)]

theorem sshiftRight_eq_ofInt (a : Word) (n : Nat) : a.sshiftRight n = BitVec.ofInt 32 (a.toInt / 2 ^ n) := by
  rw [← BitVec.ofInt_toInt (x := a.sshiftRight n), BitVec.toInt_sshiftRight, Int.shiftRight_eq_div_pow]
  norm_cast

theorem udiv_eq_ofNat (a b : Word) : a / b = BitVec.ofNat 32 (a.toNat / b.toNat) := by
  apply BitVec.eq_of_toNat_eq
  rw [BitVec.toNat_udiv, BitVec.toNat_ofNat, Nat.mod_eq_of_lt (Nat.lt_of_le_of_lt (Nat.div_le_self _ _) a.isLt)]

theorem umod_eq_ofNat (a b : Word) : a % b = BitVec.ofNat 32 (a.toNat % b.toNat) := by
  apply BitVec.eq_of_toNat_eq
  rw [BitVec.toNat_umod, BitVec.toNat_ofNat, Nat.mod_eq_of_lt (Nat.lt_of_le_of_lt (Nat.mod_le _ _) a.isLt)]

theorem minu_eq_ofNat (a b : Word) : (if a.toNat < b.toNat then a else b) = BitVec.ofNat 32 (min a.toNat b.toNat) := by
  split
  · next h => rw [Nat.min_eq_left (Nat.le_of_lt h), BitVec.ofNat_toNat, BitVec.setWidth_eq]
  · next h => rw [Nat.min_eq_right (Nat.not_lt.mp h), BitVec.ofNat_toNat, BitVec.setWidth_eq]

theorem maxu_eq_ofNat (a b : Word) : (if a.toNat < b.toNat then b else a) = BitVec.ofNat 32 (max a.toNat b.toNat) := by
  split
  · next h => rw [Nat.max_eq_right (Nat.le_of_lt h), BitVec.ofNat_toNat, BitVec.setWidth_eq]
  · next h => rw [Nat.max_eq_left (Nat.not_lt.mp h), BitVec.ofNat_toNat, BitVec.setWidth_eq]

theorem min_eq_ofInt (a b : Word) : (if a.toInt < b.toInt then a else b) = BitVec.ofInt 32 (min a.toInt b.toInt) := by
  split
  · next h => rw [Int.min_eq_left (Int.le_of_lt h), BitVec.ofInt_toInt]
  · next h => rw [Int.min_eq_right (Int.not_lt.mp h), BitVec.ofInt_toInt]

theorem max_eq_ofInt (a b : Word) : (if a.toInt < b.toInt then b else a) = BitVec.ofInt 32 (max a.toInt b.toInt) := by
  split
  · next h => rw [Int.max_eq_right (Int.le_of_lt h), BitVec.ofInt_toInt]
  · next h => rw [Int.max_eq_left (Int.not_lt.mp h), BitVec.ofInt_toInt]

@[simp] theorem truth_decide (p : Prop) [Decidable p] : truth (decide p) = if p then 1 else 0 := by
  by_cases h : p <;> simp [truth, h]

theorem truth_bne_zero (a : Word) : truth (a != 0) = if a = 0 then 0 else 1 := by
  by_cases h : a = 0 <;> simp [truth, h]

theorem truth_beq (a b : Word) : truth (a == b) = if a = b then 1 else 0 := by
  by_cases h : a = b <;> simp [truth, h]

theorem isOperation_add : IsOperation .add (fun a b => BitVec.ofNat 32 (a.toNat + b.toNat)) := ⟨_, _, add_eq_ofNat, fun _ _ _ _ _ => rfl⟩
theorem isOperation_sub : IsOperation .sub (fun a b => BitVec.ofInt 32 (a.toNat - b.toNat)) := ⟨_, _, sub_eq_ofInt, fun _ _ _ _ _ => rfl⟩
theorem isOperation_andOp : IsOperation .andOp (fun a b => a &&& b) := ⟨_, _, fun _ _ => rfl, fun _ _ _ _ _ => rfl⟩
theorem isOperation_orOp : IsOperation .orOp (fun a b => a ||| b) := ⟨_, _, fun _ _ => rfl, fun _ _ _ _ _ => rfl⟩
theorem isOperation_xorOp : IsOperation .xorOp (fun a b => a ^^^ b) := ⟨_, _, fun _ _ => rfl, fun _ _ _ _ _ => rfl⟩
theorem isOperation_andn : IsOperation .andn (fun a b => a &&& ~~~b) := ⟨_, _, fun _ _ => rfl, fun _ _ _ _ _ => rfl⟩
theorem isOperation_orn : IsOperation .orn (fun a b => a ||| ~~~b) := ⟨_, _, fun _ _ => rfl, fun _ _ _ _ _ => rfl⟩
theorem isOperation_sll : IsOperation .sll (fun a b => BitVec.ofNat 32 (a.toNat * 2 ^ (b.toNat % 32))) := ⟨_, _, fun a b => shiftLeft_eq_ofNat a (b.toNat % 32), fun _ _ _ _ _ => rfl⟩
theorem isOperation_srl : IsOperation .srl (fun a b => BitVec.ofNat 32 (a.toNat / 2 ^ (b.toNat % 32))) := ⟨_, _, fun a b => ushiftRight_eq_ofNat a (b.toNat % 32), fun _ _ _ _ _ => rfl⟩
theorem isOperation_sra : IsOperation .sra (fun a b => BitVec.ofInt 32 (a.toInt / 2 ^ (b.toNat % 32))) := ⟨_, _, fun a b => sshiftRight_eq_ofInt a (b.toNat % 32), fun _ _ _ _ _ => rfl⟩
theorem isOperation_mul : IsOperation .mul (fun a b => BitVec.ofNat 32 (a.toNat * b.toNat)) := ⟨_, _, mul_eq_ofNat, fun _ _ _ _ _ => rfl⟩
theorem isOperation_minu : IsOperation .minu (fun a b => BitVec.ofNat 32 (min a.toNat b.toNat)) := ⟨_, _, minu_eq_ofNat, fun _ _ _ _ _ => rfl⟩
theorem isOperation_maxu : IsOperation .maxu (fun a b => BitVec.ofNat 32 (max a.toNat b.toNat)) := ⟨_, _, maxu_eq_ofNat, fun _ _ _ _ _ => rfl⟩
theorem isOperation_minOp : IsOperation .minOp (fun a b => BitVec.ofInt 32 (min a.toInt b.toInt)) := ⟨_, _, min_eq_ofInt, fun _ _ _ _ _ => rfl⟩
theorem isOperation_maxOp : IsOperation .maxOp (fun a b => BitVec.ofInt 32 (max a.toInt b.toInt)) := ⟨_, _, max_eq_ofInt, fun _ _ _ _ _ => rfl⟩
theorem isOperation_sltu : IsOperation .sltu (fun a b => if a.toNat < b.toNat then 1 else 0) := ⟨_, _, fun _ _ => truth_decide _, fun _ _ _ _ _ => rfl⟩
theorem isOperation_slt : IsOperation .slt (fun a b => if a.toInt < b.toInt then 1 else 0) := ⟨_, _, fun _ _ => truth_decide _, fun _ _ _ _ _ => rfl⟩
theorem isOperation_tall : IsOperation .tall (fun a m => if a &&& m = m then 1 else 0) := ⟨_, _, fun _ _ => truth_beq _ _, fun _ _ _ _ _ => rfl⟩
theorem isOperation_tany : IsOperation .tany (fun a m => if a &&& m = 0 then 0 else 1) := ⟨_, _, fun _ _ => truth_bne_zero _, fun _ _ _ _ _ => rfl⟩
theorem isOperation_tnone : IsOperation .tnone (fun a m => if a &&& m = 0 then 1 else 0) := ⟨_, _, fun _ _ => truth_beq _ _, fun _ _ _ _ _ => rfl⟩

/-- Settles O1: each operation is a `compute`, whose value is the stated one. -/
theorem arithmeticResults : Obligations.ArithmeticResults := by
  refine ⟨?_, fun i rd ra rb s h => ⟨?_, ?_⟩⟩
  · refine fun p hp => completes_of_isOperation ?_
    revert p
    simp only [List.forall_mem_cons]
    exact ⟨isOperation_add, isOperation_sub, isOperation_andOp, isOperation_orOp, isOperation_xorOp, isOperation_andn,
      isOperation_orn, isOperation_sll, isOperation_srl, isOperation_sra, isOperation_mul, isOperation_minu, isOperation_maxu,
      isOperation_minOp, isOperation_maxOp, isOperation_sltu, isOperation_slt, isOperation_tall, isOperation_tany, isOperation_tnone, fun _ h => absurd h List.not_mem_nil⟩
  · refine completes_compute rfl ?_ h
    split
    · rfl
    · exact udiv_eq_ofNat _ _
  · refine completes_compute rfl ?_ h
    split
    · rfl
    · exact umod_eq_ofNat _ _

/-! ### One operand, immediates, fields (R146 to R150) -/

theorem count_filter_eq_sum (p : Nat → Bool) (n : Nat) :
    ((List.range n).filter p).length = ((List.range n).map (fun k => (p k).toNat)).sum := by
  induction n with
  | zero => rfl
  | succ n ih =>
    rw [List.range_succ, List.filter_append, List.length_append, List.map_append, List.sum_append, ih]
    cases h : p n <;> simp [h]

/-- FFS finds the lowest bit that is set, or 32. -/
theorem ffs_spec (a : Word) : ∃ n, ((List.range 32).find? (fun k => a.getLsbD k)).getD 32 = n ∧ (∀ k < n, a.getLsbD k = false)
    ∧ (n = 32 ∨ (n < 32 ∧ a.getLsbD n = true)) := by
  refine ⟨_, rfl, ?_⟩
  cases h : (List.range 32).find? (fun k => a.getLsbD k) with
  | none =>
    rw [List.find?_eq_none] at h
    exact ⟨fun k hk => by simpa using h k (List.mem_range.mpr hk), .inl rfl⟩
  | some n =>
    obtain ⟨hn, hlt, hbelow⟩ := List.find?_range_eq_some.mp h
    exact ⟨fun k hk => by simpa using hbelow k hk, .inr ⟨List.mem_range.mp hlt, hn⟩⟩

theorem add_sext_eq_ofInt (a : Word) (imm : BitVec 16) : a + sext imm = BitVec.ofInt 32 (a.toInt + imm.toInt) := by
  rw [BitVec.ofInt_add, BitVec.ofInt_toInt]
  rfl

/-- Bit `k` of a word whose bits `pos` to `pos + w` come from the low bits of `a`, the others from `d` (R149). -/
theorem getLsbD_insert (a d : Word) (pos w k : Nat) (hk : k < 32) :
    ((d &&& ~~~(w32 ((2 ^ (w + 1) - 1) * 2 ^ pos))) ||| ((a <<< pos) &&& w32 ((2 ^ (w + 1) - 1) * 2 ^ pos))).getLsbD k
      = if pos ≤ k ∧ k ≤ pos + w then a.getLsbD (k - pos) else d.getLsbD k := by
  have hm : (w32 ((2 ^ (w + 1) - 1) * 2 ^ pos)).getLsbD k = decide (pos ≤ k ∧ k ≤ pos + w) := by
    rw [w32, BitVec.getLsbD_ofNat, Nat.testBit_mul_two_pow, Nat.testBit_two_pow_sub_one]
    simp only [hk, decide_true, Bool.true_and, ← Bool.decide_and, decide_eq_decide]
    omega
  simp only [BitVec.getLsbD_or, BitVec.getLsbD_and, BitVec.getLsbD_not, BitVec.getLsbD_shiftLeft, hm, hk, decide_true, Bool.true_and]
  by_cases h : pos ≤ k ∧ k ≤ pos + w
  · simp [h, Nat.not_lt.mpr h.1]
  · simp [h]

/-- Bit `k` of the majority of three words. -/
theorem getLsbD_majority (a m d : Word) (k : Nat) :
    ((a &&& m) ||| (a &&& d) ||| (m &&& d)).getLsbD k = decide (2 ≤ (a.getLsbD k).toNat + (m.getLsbD k).toNat + (d.getLsbD k).toNat) := by
  simp only [BitVec.getLsbD_or, BitVec.getLsbD_and]
  cases a.getLsbD k <;> cases m.getLsbD k <;> cases d.getLsbD k <;> rfl

theorem fieldOf_eq_ofNat (a : Word) (pos w : Nat) : fieldOf a pos w = BitVec.ofNat 32 ((a >>> pos).toNat % 2 ^ w) := by
  rw [fieldOf, w32, BitVec.toNat_ushiftRight, Nat.shiftRight_eq_div_pow]

/-- The signed value of a field that lies within the word. -/
theorem signed_fieldOf (a : Word) (pos w : Nat) (hw : w + 1 ≤ 32) :
    signed (w + 1) (fieldOf a pos (w + 1)).toNat = (BitVec.ofNat (w + 1) (a >>> pos).toNat).toInt := by
  have hfit : (a >>> pos).toNat % 2 ^ (w + 1) < 2 ^ 32 :=
    Nat.lt_of_lt_of_le (Nat.mod_lt _ (Nat.two_pow_pos _)) (Nat.pow_le_pow_right (by decide) hw)
  have hx : (fieldOf a pos (w + 1)).toNat % 2 ^ (w + 1) = (a >>> pos).toNat % 2 ^ (w + 1) := by
    rw [fieldOf_eq_ofNat, BitVec.toNat_ofNat, Nat.mod_eq_of_lt hfit, Nat.mod_mod]
  rw [signed, hx, BitVec.toInt_eq_toNat_cond, BitVec.toNat_ofNat]
  have h2 : 2 ^ (w + 1) = 2 * 2 ^ (w + 1 - 1) := by rw [Nat.add_sub_cancel, Nat.pow_succ']
  congr 1
  rw [eq_iff_iff]
  omega

/-- A field that ends above bit 31 is an invalid encoding (R149). -/
theorem exec_invalid_field {x : Instr} {i : Issue} {rd pos wm1 : Reg} {reads : List Nat} {f : (Nat → Word) → Word} {s : State}
    (hx : exec x s = fieldOp i rd reads pos wm1 f s) (hpos : 32 < pos.val + wm1.val + 1) (h : CanIssue i 1 [] false s) :
    ∃ u, Issued i s u ∧ exec x s = .next (raiseInvalid i.ctx u) := by
  obtain ⟨u, hu, hk⟩ := issueAs_of_canIssue i 1 [] false s h
  refine ⟨u, hu, ?_⟩
  rw [hx, fieldOp, if_pos hpos, issue, hk]

/-- A field within the word is computed. -/
theorem completes_fieldOp {x : Instr} {i : Issue} {rd pos wm1 : Reg} {reads : List Nat} {f : (Nat → Word) → Word} {v : Word} {s : State}
    (hx : exec x s = fieldOp i rd reads pos wm1 f s) (hpos : pos.val + wm1.val + 1 ≤ 32) (hv : f (fun g => regOf i.ctx g s) = v)
    (h : CanIssue i 1 reads false s) : Completes x s (Computes i.ctx rd v (anyPoison i.ctx reads s) s) :=
  completes_compute (hx.trans (by rw [fieldOp, if_neg (Nat.not_lt.mpr hpos)])) hv h

theorem and_setWidth_eq_ofNat (a : Word) (imm : BitVec 16) : a &&& imm.setWidth 32 = BitVec.ofNat 32 (a.toNat &&& imm.toNat) := by
  rw [BitVec.ofNat_and, BitVec.ofNat_toNat, BitVec.ofNat_toNat, BitVec.setWidth_eq]

theorem or_setWidth_eq_ofNat (a : Word) (imm : BitVec 16) : a ||| imm.setWidth 32 = BitVec.ofNat 32 (a.toNat ||| imm.toNat) := by
  rw [BitVec.ofNat_or, BitVec.ofNat_toNat, BitVec.ofNat_toNat, BitVec.setWidth_eq]

theorem xor_setWidth_eq_ofNat (a : Word) (imm : BitVec 16) : a ^^^ imm.setWidth 32 = BitVec.ofNat 32 (a.toNat ^^^ imm.toNat) := by
  rw [BitVec.ofNat_xor, BitVec.ofNat_toNat, BitVec.ofNat_toNat, BitVec.setWidth_eq]

theorem lui_eq_ofNat (imm : BitVec 16) : imm.setWidth 32 <<< 16 = BitVec.ofNat 32 (imm.toNat * 2 ^ 16) := by
  rw [shiftLeft_eq_ofNat, BitVec.toNat_setWidth, Nat.mod_eq_of_lt (Nat.lt_of_lt_of_le imm.isLt (by decide))]

/-! ### The state in which an instruction of a pass runs -/

/-- What issuing `slots` slots from CCLK cycle `t` on does to a pass, whose fetched word may be uncorrectable (R142, R144). -/
def PassCtx.issued (bad : Bool) (t slots : Nat) (P : PassCtx) : PassCtx :=
  { P with
    slots := P.slots ++ (List.range slots).map (fun i => (P.seg, t + 3 * i)), nextSlot := t + 3 * slots, late := none
    arch := { P.arch with weight := if P.arch.inObject then P.arch.weight + slots else P.arch.weight }
    segs := if bad then P.segs.map (fun g => if g.seg = P.seg then { g with bad := true } else g) else P.segs }

theorem core_issuedJoined (c d : Nat) (p : Pass) (bad : Bool) (slots : Nat) (reads : List Nat) (s : State) :
    (issuedJoined c p bad slots reads s).core d =
      if d = c then (s.core c).setPass p (PassCtx.issued bad (slotOf p reads ((s.core c).pass p) s) slots) else s.core d := by
  have hw : ∀ (b : Bool) (A : Arch), (if b then { A with weight := A.weight + slots } else A) = { A with weight := if b then A.weight + slots else A.weight } :=
    fun b A => by cases b <;> rfl
  have hcore : ∀ t6, State.core c { s with time := { s.time with t6 := t6 } } = s.core c := fun _ => rfl
  by_cases hd : d = c
  · cases bad <;> cases p <;> simp [issuedJoined, useSlots, spoil, setPass, hd, hcore, hw] <;> rfl
  · cases bad <;> simp [issuedJoined, useSlots, spoil, setPass, hd] <;> rfl

theorem arch_issuedJoined (c : Nat) (p : Pass) (bad : Bool) (slots : Nat) (reads : List Nat) (s : State) :
    (((issuedJoined c p bad slots reads s).core c).pass p).arch =
      { ((s.core c).pass p).arch with
        weight := if ((s.core c).pass p).arch.inObject then ((s.core c).pass p).arch.weight + slots else ((s.core c).pass p).arch.weight } := by
  rw [core_issuedJoined, if_pos rfl, pass_setPass, if_pos rfl, PassCtx.issued]

theorem onlyContexts_seq {s t : State} (h : OnlyContexts s t) : t.seq = s.seq := by rw [h]

theorem onlyContexts_svc_mcc {s t : State} (h : OnlyContexts s t) : t.svc.mcc = s.svc.mcc := by rw [h]

theorem issued_issuedJoined (c : Fin 64) (p : Pass) (bad : Bool) (slots : Nat) (reads : List Nat) (s : State) :
    Issued ⟨.joined c p, bad⟩ s (issuedJoined c p bad slots reads s) := by
  have h := issued_useSlots ⟨.joined c p, bad⟩ c p rfl (slotOf p reads ((s.core c).pass p) s) slots ((s.core c).pass p).arch.inObject s
  cases bad
  · exact h
  · exact issued_trans h (issued_spoil ⟨.joined c p, true⟩ c p rfl _)

/-- The special registers of a context are as they were when its instruction runs. -/
theorem specialOf_issued (i : Issue) (slots : Nat) (reads : List Nat) (closes : Bool) (sel : SpecialReg) (s : State)
    (h : CanIssue i slots reads closes s) :
    ∃ u, Issued i s u ∧ specialOf i.ctx sel u = specialOf i.ctx sel s ∧ ∀ k, issueAs i slots reads closes k s = k u := by
  obtain ⟨ctx, bad⟩ := i
  cases ctx with
  | joined c p =>
    have hu := issued_issuedJoined c p bad slots reads s
    refine ⟨_, hu, ?_, issueAs_joined c p bad slots reads closes s h⟩
    cases sel <;> simp only [specialOf, arch_issuedJoined, onlyContexts_seq hu.2.2.2]
  | split c k =>
    obtain ⟨u, hu, hk⟩ := issueAs_of_canIssue ⟨.split c k, bad⟩ slots reads closes s h
    refine ⟨u, hu, ?_, hk⟩
    cases sel <;> simp only [specialOf, onlyContexts_seq hu.2.2.2]
  | service c =>
    obtain ⟨u, hu, hk⟩ := issueAs_of_canIssue ⟨.service c, bad⟩ slots reads closes s h
    refine ⟨u, hu, ?_, hk⟩
    cases sel <;> simp only [specialOf, onlyContexts_svc_mcc hu.2.2.2]

/-- Settles O2: each operation is a `compute` or a field within the word, whose value is the stated one. -/
theorem oneOperandResults : Obligations.OneOperandResults := by
  refine ⟨fun i rd ra sh imm s h => ?_, fun i rd ra rb pos wm1 imm s => ⟨fun h => ⟨?_, fun sel => ?_, fun hpos => ?_⟩, fun hpos h => ⟨?_, ?_⟩,
    fun hpos h => ?_, fun h => ⟨?_, ?_⟩⟩⟩
  · refine ⟨completes_compute rfl (add_sext_eq_ofInt _ imm) h, completes_compute rfl ?_ h, completes_compute rfl ?_ h,
      completes_compute rfl ?_ h, completes_compute rfl (shiftLeft_eq_ofNat _ _) h, completes_compute rfl (ushiftRight_eq_ofNat _ _) h,
      completes_compute rfl (sshiftRight_eq_ofInt _ _) h, completes_compute rfl ?_ h, completes_compute rfl rfl h, ?_⟩
    · exact and_setWidth_eq_ofNat _ imm
    · exact or_setWidth_eq_ofNat _ imm
    · exact xor_setWidth_eq_ofNat _ imm
    · exact congrArg (BitVec.ofNat 32) (count_filter_eq_sum ..)
    · obtain ⟨n, hn, hspec⟩ := ffs_spec (regOf i.ctx ra s)
      exact ⟨n, completes_compute rfl (congrArg (BitVec.ofNat 32) hn) h, hspec⟩
  · exact completes_compute rfl (lui_eq_ofNat imm) h
  · obtain ⟨u, hu, hsel, hk⟩ := specialOf_issued i 1 [] false sel s h
    refine ⟨_, congrArg Host.Outcome.next (hk _), ?_⟩
    rw [hsel]
    exact computes_of_issued hu (computes_writeBack ..)
  · simp only [List.forall_mem_cons]
    exact ⟨exec_invalid_field rfl hpos h, exec_invalid_field rfl hpos h, exec_invalid_field rfl hpos h, fun _ h => absurd h List.not_mem_nil⟩
  · exact completes_fieldOp rfl hpos (fieldOf_eq_ofNat ..) h
  · exact completes_fieldOp rfl hpos (congrArg (BitVec.ofInt 32) (signed_fieldOf _ _ _ (by omega))) h
  · exact ⟨_, completes_fieldOp rfl hpos rfl h, fun k hk => getLsbD_insert _ _ _ _ k hk⟩
  · exact completes_compute rfl rfl h
  · exact ⟨_, completes_compute rfl rfl h, fun k _ => getLsbD_majority _ _ _ k⟩

/-! ### Branches (R151, R152) -/

/-- Command `x` goes on at `pc` when `taken` holds, and with the next word otherwise. -/
def GoesTo (x : Instr) (ctx : Ctx) (pc : Nat) (s : State) (taken : Prop) : Prop :=
  ∃ t, exec x s = .next t ∧ (taken → JumpsTo ctx pc s t) ∧ (¬ taken → JumpsTo ctx ((pcOf ctx s + 1) % pcWords ctx) s t)

theorem goesTo_branch {x : Instr} {i : Issue} {reads : List Nat} {d : Word} {test : (Nat → Word) → Bool} {taken : Prop} {s : State}
    (hx : exec x s = .next (branch i reads d test s)) (ht : test (fun g => regOf i.ctx g s) = true ↔ taken) (h : CanIssue i 1 reads false s) :
    GoesTo x i.ctx (branchTarget i.ctx d s) s taken := by
  have k := jumps_branch i reads d test s h
  refine ⟨_, hx, fun htaken => ?_, fun htaken => ?_⟩
  · rwa [if_pos (ht.mpr htaken)] at k
  · rwa [if_neg (fun hb => htaken (ht.mp hb))] at k

/-- The displacement counts from the next word, modulo 2^20 (R151). -/
theorem branchTarget_sext {n : Nat} (ctx : Ctx) (disp : BitVec n) (hn : n ≤ 32) (s : State) :
    branchTarget ctx (sext disp) s = (((pcOf ctx s : Int) + 1 + disp.toInt) % 2 ^ 20).toNat := by
  have hsext : ((sext disp).toNat : Int) = disp.toInt % 2 ^ 32 := by
    rw [← BitVec.toInt_signExtend_of_le (x := disp) hn, ← sext, BitVec.toInt_eq_toNat_bmod]
    have hlt := (sext disp).isLt
    have hmod : ((sext disp).toNat : Int).bmod (2 ^ 32) % ((2 ^ 32 : Nat) : Int) = ((sext disp).toNat : Int) % ((2 ^ 32 : Nat) : Int) :=
      Int.bmod_emod
    omega
  rw [branchTarget]
  omega

/-- Settles O3: the branches and the jump are `branch`, with the stated condition and target. -/
theorem branchesGoOn : Obligations.BranchesGoOn := by
  intro i ra rb disp s a b goes
  have hgoes : ∀ x taken, GoesTo x i.ctx (branchTarget i.ctx (sext disp) s) s taken → goes x taken := fun x taken h => by
    rwa [branchTarget_sext i.ctx disp (by decide)] at h
  refine ⟨fun h => ⟨?_, ?_, ?_, ?_, ?_, ?_⟩, fun h => ⟨?_, ?_⟩, fun d h => ?_⟩
  · exact hgoes _ _ (goesTo_branch rfl beq_iff_eq h)
  · exact hgoes _ _ (goesTo_branch rfl bne_iff_ne h)
  · exact hgoes _ _ (goesTo_branch rfl decide_eq_true_iff h)
  · exact hgoes _ _ (goesTo_branch rfl decide_eq_true_iff h)
  · exact hgoes _ _ (goesTo_branch rfl decide_eq_true_iff h)
  · exact hgoes _ _ (goesTo_branch rfl decide_eq_true_iff h)
  · exact hgoes _ _ (goesTo_branch rfl Iff.rfl h)
  · exact hgoes _ _ (goesTo_branch rfl (by rw [Bool.not_eq_true']) h)
  · obtain ⟨t, ht, hjump, -⟩ := goesTo_branch (x := .jump i d) (taken := True) rfl (iff_of_true rfl trivial) h
    rw [branchTarget_sext i.ctx d (by decide)] at hjump
    exact ⟨t, ht, hjump trivial⟩

/-! ### The ends of stalls (R185 to R187) -/

/-- The stall of pass `q` of core `c` has ended, and nothing else of the contexts has changed. -/
theorem freed_setStall (c : Fin 64) (q : Pass) (s : State) :
    (((setStall c q .none s).core c).pass q).stall = .none ∧ (∀ o, o ≠ q → ((setStall c q .none s).core c).pass o = (s.core c).pass o)
      ∧ JumpsTo (.joined c q) (pcOf (.joined c q) s) s (setStall c q .none s) := by
  refine ⟨by simp [setStall, setPass], fun o ho => by simp [setStall, setPass, ho], fun g => ?_, ?_, othersKept_setPass c q _ s, rfl⟩
  · simp [setStall, setPass, regOf, poisonOf]
  · simp [setStall, setPass, pcOf]

/-- A stall for want of room ends exactly when the pass has room again (R185). -/
theorem exec_lockChamberStallEnd {c : Fin 64} {p : Pass} {s : State}
    (h : ((s.core c).pass p).stall = .chamber ∨ ((s.core c).pass p).stall = .queue) :
    exec (.lockChamberStallEnd c p) s = .next (if passFull (s.core c) p = true then s else setStall c p .none s) := by
  show execLockChamberStallEnd c p s = _
  rcases h with h | h <;> cases hf : passFull (s.core c) p <;> simp [execLockChamberStallEnd, h, hf]

/-- The skew has passed at CCLK cycle `n`: time has come to it (R186). -/
theorem exec_skewStallEnd {c : Fin 64} {p : Pass} {s : State} {Q : PassCtx} {x : Nat × Nat} (h : ((s.core c).pass p).stall = .skew)
    (hQ : (s.core c).before p = some Q) (hx : Q.slots[((s.core c).pass p).slots.length]? = some x) :
    exec (.skewStallEnd c p) s = .next (setStall c p .none { s with time := { s.time with t6 := max s.time.t6 (5 * (x.2 + Config.skewCycles)) } }) := by
  show execSkewStallEnd c p s = _
  simp [execSkewStallEnd, h, hQ, hx]

/-- Settles O10: each end of a stall is `setStall` with no stall, once its cause has gone. -/
theorem stallsEnd : Obligations.StallsEnd := by
  intro c p s P freed
  refine ⟨fun hstall => ⟨fun hroom => ?_, fun hfull => ?_⟩, fun hdepth hlead => ?_, fun hskew Q x hQ hx => ?_⟩
  · exact ⟨_, exec_lockChamberStallEnd hstall, by rw [hroom]; exact freed_setStall c p s⟩
  · rw [exec_lockChamberStallEnd hstall, if_pos hfull]
  · refine ⟨_, congrArg Host.Outcome.next (if_pos ⟨hdepth, hlead⟩), freed_setStall c .top s⟩
  · refine ⟨_, exec_skewStallEnd hskew hQ hx, freed_setStall c p _, ?_⟩
    show x.2 + 64 ≤ max s.time.t6 (5 * (x.2 + Config.skewCycles)) / 5
    simp only [Config.skewCycles]
    omega

end Sys2Proof.Machine
end

section
/-!
PROOFS. One step of the block, and the state after reset (R1, R527).
-/
namespace Sys2Proof.Machine

/-- Settles O57: a step looks at the front of the queue alone. -/
theorem stepRunsTheFrontCommand : Obligations.StepRunsTheFrontCommand := fun _ _ _ => ⟨rfl, rfl⟩

/-- No channel has qualified counts after reset. -/
theorem speedValid_reset (n : Nat) : speedValid n State.reset = false := Bool.and_false _

theorem srcEnabled_reset : ∀ k < 255, srcEnabled k State.reset = false := by decide +kernel

/-- Settles O59: the tables of the reset state are empty, so each entry is its default. -/
theorem resetIsRestrictive : Obligations.ResetIsRestrictive := by
  refine ⟨rfl, rfl, rfl, rfl, rfl, rfl, rfl, fun _ _ => ⟨rfl, rfl⟩, fun n _ => ⟨rfl, rfl, rfl, speedValid_reset n⟩, fun _ _ => ⟨rfl, rfl⟩,
    fun _ _ _ _ => rfl, fun k hk => ⟨rfl, srcEnabled_reset k hk⟩, ⟨rfl, rfl⟩, ?_⟩
  decide +kernel

end Sys2Proof.Machine
end

section
/-!
PROOFS. Loads (R153 to R156): what a load that passes its checks leaves, in each context.
-/
namespace Sys2Proof.Machine

/-! ### What an issued instruction of a pass finds -/

section OnlyContexts

variable {s u : State}

theorem onlyContexts_recordOwner (h : OnlyContexts s u) (i : Nat) : recordOwner i u = recordOwner i s := by rw [h]; rfl
theorem onlyContexts_stateHalf (h : OnlyContexts s u) (i : Nat) (b : Bool) : stateHalf i b u = stateHalf i b s := by rw [h]; rfl
theorem onlyContexts_sramWord (h : OnlyContexts s u) (a : Nat) : sramWord a u = sramWord a s := by rw [h]; rfl
theorem onlyContexts_stateRead (h : OnlyContexts s u) (p : Pass) (i : Nat) : stateRead p i u = stateRead p i s := by rw [h]; rfl
theorem onlyContexts_paramRead (h : OnlyContexts s u) (p : Pass) (i : Nat) : paramRead p i u = paramRead p i s := by rw [h]; rfl
theorem onlyContexts_imageIn (h : OnlyContexts s u) (i : Nat) : imageIn i u = imageIn i s := by rw [h]; rfl
theorem onlyContexts_inboxRead (h : OnlyContexts s u) (i : Nat) : inboxRead i u = inboxRead i s := by rw [h]; rfl
theorem onlyContexts_loadAddr (h : OnlyContexts s u) (c : Nat) (p : Pass) (sp : Space) (i : Nat) : loadAddr c p sp i u = loadAddr c p sp i s := by
  rw [h]; cases sp <;> rfl
theorem onlyContexts_wornEcc (h : OnlyContexts s u) (a : Nat) (e : Ecc) : wornEcc a e u = wornEcc a e s := by rw [h]; rfl
theorem onlyContexts_svcWord (h : OnlyContexts s u) (i : Nat) : svcWord i u = svcWord i s := by rw [h]; rfl
theorem onlyContexts_typeEntry (h : OnlyContexts s u) (t : Nat) : typeEntry t u = typeEntry t s := by rw [h]; rfl
theorem onlyContexts_img (h : OnlyContexts s u) : u.img = s.img := by rw [h]; rfl
theorem onlyContexts_scratchTags (h : OnlyContexts s u) : u.scratchTags = s.scratchTags := by rw [h]

end OnlyContexts

/-- Two cores show the accord the same outputs. -/
theorem pendingOuts_issued (C : Core) (p q : Pass) (bad : Bool) (t slots : Nat) :
    pendingOuts (C.setPass p (PassCtx.issued bad t slots)) q = pendingOuts C q := by
  have hmark : ∀ segs : List Segment, ∀ g : Nat, ((segs.map (fun x => if x.seg = g then { x with bad := true } else x)).flatMap
      (fun x => if x.seg = C.oldest then x.outs.drop C.decided else x.outs)) = segs.flatMap (fun x => if x.seg = C.oldest then x.outs.drop C.decided else x.outs) := by
    intro segs g
    rw [List.flatMap_map]
    congr 1
    funext x
    by_cases hx : x.seg = g <;> simp [hx]
  have holdest : (C.setPass p (PassCtx.issued bad t slots)).oldest = C.oldest := by
    cases p with
    | top => rfl
    | heart => rfl
    | base =>
      cases bad
      · rfl
      · unfold Core.oldest
        cases hs : C.base.segs with
        | nil => simp [Core.setPass, PassCtx.issued, hs]
        | cons x l => by_cases hx : x.seg = C.base.seg <;> simp [Core.setPass, PassCtx.issued, hs, hx]
  have hdecided : (C.setPass p (PassCtx.issued bad t slots)).decided = C.decided := by cases p <;> rfl
  unfold pendingOuts
  rw [holdest, hdecided, pass_setPass]
  split
  · next hq =>
    subst hq
    cases bad
    · rfl
    · rw [← hmark (C.pass q).segs (C.pass q).seg]
      rfl
  · rfl

theorem loadJoined_issuedJoined (c : Fin 64) (p : Pass) (bad : Bool) (slots : Nat) (reads : List Nat) (sp : Space) (i : Nat) (s : State) :
    loadJoined c p sp i (issuedJoined c p bad slots reads s) = loadJoined c p sp i s := by
  have hu := (issued_issuedJoined c p bad slots reads s).2.2.2
  have hA := arch_issuedJoined c p bad slots reads s
  have hf : ∀ sp, forwarded c p sp i (issuedJoined c p bad slots reads s) = forwarded c p sp i s := fun sp => by
    simp only [forwarded, hA]
    rw [core_issuedJoined, if_pos rfl, pendingOuts_issued]
    rfl
  have hv : scratchValid c i ((issuedJoined c p bad slots reads s).core c |>.pass p).arch (issuedJoined c p bad slots reads s)
      = scratchValid c i ((s.core c).pass p).arch s := by
    rw [hA, scratchValid, onlyContexts_scratchTags hu]
    rfl
  cases sp <;> simp only [loadJoined, hf, hv, onlyContexts_recordOwner hu, onlyContexts_stateRead hu, onlyContexts_stateHalf hu,
    onlyContexts_paramRead hu, onlyContexts_imageIn hu, onlyContexts_inboxRead hu, onlyContexts_sramWord hu]
  · rw [hA]
  · rw [hA]
    rfl

/-! ### The word goes to its register -/

/-- What a load of `v` that SECDED reports as `e` leaves. -/
def LoadsWord (ctx : Ctx) (rt : Reg) (v : Word) (pois : Bool) (e : Ecc) (s t : State) : Prop :=
  (∃ w, (e ≠ .uncorrectable → w = v) ∧ Writes ctx rt w (pois || e == .uncorrectable) s t)
    ∧ pcOf ctx t = (pcOf ctx s + 1) % pcWords ctx ∧ OthersKept ctx s t ∧ OnlyContexts { s with seq := t.seq } t ∧ t.seq = (noteEcc e s).seq

/-- The contexts are not touched when a correction is counted and values are drawn. -/
theorem regOf_noteEcc_drawn (ctx : Ctx) (e : Ecc) (n : Nat) (s : State) :
    OthersKept ctx s (noteEcc e (s.drawn n)) ∧ RegsKept ctx s (noteEcc e (s.drawn n)) ∧ pcOf ctx (noteEcc e (s.drawn n)) = pcOf ctx s := by
  have h : ∀ o, pcOf o (noteEcc e (s.drawn n)) = pcOf o s ∧ ∀ g, regOf o g (noteEcc e (s.drawn n)) = regOf o g s
      ∧ poisonOf o g (noteEcc e (s.drawn n)) = poisonOf o g s := by
    intro o
    cases e <;> cases o <;> exact ⟨rfl, fun _ => ⟨rfl, rfl⟩⟩
  exact ⟨fun o _ => h o, (h ctx).2, (h ctx).1⟩

theorem writes_of_regsKept {ctx : Ctx} {rd : Nat} {v : Word} {b : Bool} {s u t : State} (h : RegsKept ctx s u) (k : Writes ctx rd v b u t) :
    Writes ctx rd v b s t := fun g => ⟨by rw [(k g).1, (h g).1], fun hs => by rw [(k g).2 hs, (h g).2]⟩

theorem loadsWord_of_computes {ctx : Ctx} {rt : Reg} {v w : Word} {pois : Bool} {e : Ecc} {n : Nat} {s t : State}
    (hw : e ≠ .uncorrectable → w = v) (k : Computes ctx rt w (pois || e == .uncorrectable) (noteEcc e (s.drawn n)) t) :
    LoadsWord ctx rt v pois e s t := by
  have hnote : noteEcc e (s.drawn n) = { s with seq := (noteEcc e s).seq, free := n } := by cases e <;> rfl
  obtain ⟨hothers, hregs, hpc⟩ := regOf_noteEcc_drawn ctx e n s
  obtain ⟨kwrites, kpc, kothers, konly⟩ := k
  have hseq : t.seq = (noteEcc e s).seq := (onlyContexts_seq konly).trans (by rw [hnote])
  refine ⟨⟨w, hw, writes_of_regsKept hregs kwrites⟩, kpc.trans (by rw [hpc]), othersKept_trans hothers kothers, ?_, hseq⟩
  rw [OnlyContexts, hseq]
  rw [OnlyContexts, hnote] at konly
  exact konly

theorem loadsWord_loadResult (ctx : Ctx) (rt : Reg) (v : Word) (pois : Bool) (e : Ecc) (s : State) :
    LoadsWord ctx rt v pois e s (loadResult ctx rt v pois e s) := by
  unfold loadResult
  by_cases he : e = .uncorrectable
  · rw [if_pos he]
    exact loadsWord_of_computes (n := s.free + 1) (fun h => absurd he h) (computes_keepLate (computes_writeBack ..))
  · rw [if_neg he]
    exact loadsWord_of_computes (n := s.free) (fun _ => rfl) (computes_keepLate (computes_writeBack ..))

theorem loadsWord_of_issued {i : Issue} {rt : Reg} {v : Word} {pois : Bool} {e : Ecc} {s u t : State} (h : Issued i s u)
    (k : LoadsWord i.ctx rt v pois e u t) : LoadsWord i.ctx rt v pois e s t := by
  obtain ⟨hregs, hpc, hothers, honly⟩ := h
  obtain ⟨⟨w, hw, kwrites⟩, kpc, kothers, konly, kseq⟩ := k
  refine ⟨⟨w, hw, writes_of_regsKept hregs kwrites⟩, kpc.trans (by rw [hpc]), othersKept_trans hothers kothers, ?_, ?_⟩
  · rw [OnlyContexts] at konly honly ⊢
    rw [konly, honly]
  · rw [kseq]
    cases e <;> simp only [noteEcc, onlyContexts_seq honly]

theorem finOfNat_val {n : Nat} [NeZero n] (c : Fin n) : Fin.ofNat n c.val = c := Fin.ext (Nat.mod_eq_of_lt c.isLt)

/-- What a load of a pass finds: the word, and what SECDED reports of it. -/
def Loaded.word : Loaded → Word
  | .value v => v
  | .memory v _ => v

/-- What SECDED reports of the word that a load of a pass finds. -/
def Loaded.ecc (c : Nat) (p : Pass) (sp : Space) (e : Ecc) (s : State) : Loaded → Ecc
  | .value _ => .good
  | .memory _ w => wornEcc (loadAddr c p sp w s) e s

/-- A load in a pass writes what it finds. -/
theorem loadsWord_ldJoined (c : Fin 64) (p : Pass) (rt : Reg) (sp : Space) (i : Nat) (pois : Bool) (e : Ecc) (s : State)
    (hcheck : loadCheck ((s.core c).pass p).arch sp i s = none) :
    LoadsWord (.joined c p) rt (loadJoined c p sp i s).word pois ((loadJoined c p sp i s).ecc c p sp e s) s
      (ldJoined c p rt sp i pois e s) := by
  simp only [ldJoined, hcheck, finOfNat_val]
  cases loadJoined c p sp i s with
  | value v => exact loadsWord_loadResult ..
  | memory v w =>
    simp only [Loaded.word, Loaded.ecc]
    split
    · refine loadsWord_of_issued (i := ⟨.joined c p, false⟩) ?_ (loadsWord_loadResult ..)
      exact ⟨fun g => by simp [regOf, poisonOf, setPass], by simp [pcOf, setPass], othersKept_setPass c p _ s, rfl⟩
    · exact loadsWord_loadResult ..

/-- A service core has no poison marks, so `Writes` says nothing of them. -/
theorem computes_service {c : Fin 4} {rd : Nat} {v : Word} {b b' : Bool} {s t : State} (k : Computes (.service c) rd v b s t) :
    Computes (.service c) rd v b' s t := by
  obtain ⟨kwrites, kpc, kothers, konly⟩ := k
  exact ⟨fun g => ⟨(kwrites g).1, fun h => absurd rfl (h c)⟩, kpc, kothers, konly⟩

theorem mpuAllows_of_off {c : Nat} {priv : Bool} {kind a : Nat} {s : State} (h : (s.svcCore c).mpuEn = false) :
    mpuAllows c priv kind a s = (priv, s) := by simp [mpuAllows, h]

theorem issued_issuedService (c : Fin 4) (bad : Bool) (n : Nat) (s : State) : Issued ⟨.service c, bad⟩ s ((issuedService c s).drawn n) :=
  issued_trans ⟨fun g => by simp [regOf, poisonOf], by simp [pcOf], othersKept_setSvc c _ s, rfl⟩ (issued_free _ _ n)

/-- A service core when its instruction runs: the marks of a handler's end are gone, and its watchdog runs (R489, R500). -/
theorem svcCore_issuedService (c : Nat) (n : Nat) (s : State) :
    ((issuedService c s).drawn n).svcCore c
      = { s.svcCore c with eoiJust := false, eretJust := 0, wdStart := some ((s.svcCore c).wdStart.getD s.now) } := by
  simp [issuedService]

/-- A load in a service core, within the index limit and with the MPU off, writes the word of the service SRAM (R175). -/
theorem loadsWord_ldService (c : Fin 4) (rt : Reg) (i : Nat) (pois : Bool) (e : Ecc) (s : State) (hi : i < 2 ^ 21) (he : e ≠ .uncorrectable)
    (hmpu : (s.svcCore c).mpuEn = false) (hpriv : (s.svcCore c).priv = true) :
    LoadsWord (.service c) rt (svcWord i s) pois .good s (ldService c rt .scratch i e s) := by
  have hlimit : ¬ Config.svcSramWords ≤ i := Nat.not_le.mpr hi
  have hload : ldService c rt .scratch i e s = writeBack (.service c) rt (svcWord i s) false s := by
    simp [ldService, hlimit, mpuAllows_of_off hmpu, hpriv, he]
  rw [hload]
  exact loadsWord_of_computes (n := s.free) (fun _ => rfl) (computes_service (computes_writeBack ..))

/-- The index of a load or store: the sum modulo 2^32 (R154). -/
theorem index_eq_emod (a : Word) (off : BitVec 13) : (a + sext off).toNat = ((a.toInt + off.toInt) % 2 ^ 32).toNat := by
  have h : a + sext off = BitVec.ofInt 32 (a.toInt + off.toInt) := by
    rw [BitVec.ofInt_add, BitVec.ofInt_toInt]
    rfl
  rw [h, BitVec.toNat_ofInt]
  rfl

/-- Settles O4: the load is issued, passes its check, and `loadResult` writes what the space holds. -/
theorem loadsComplete : Obligations.LoadsComplete := by
  intro i rt sp ra off ecc s h idx loads
  have hloads : ∀ v e, Completes (.ld i rt sp ra off ecc) s (LoadsWord i.ctx rt v (anyPoison i.ctx [ra] s) e s) → loads v e := by
    rintro v e ⟨t, ht, hw, hpc, hothers, honly, hseq⟩
    refine ⟨t, ht, hw, hpc, hothers, honly, hseq.trans ?_⟩
    cases e <;> rfl
  have hidx : (regOf i.ctx ra s + sext off).toNat = idx := index_eq_emod ..
  obtain ⟨ctx, bad⟩ := i
  cases ctx with
  | split c k =>
    intro hcheck
    refine hloads _ _ ⟨_, congrArg Host.Outcome.next (issueAs_split c k bad 1 [ra.val] false s h _), ?_⟩
    simp only [hidx, hcheck]
    exact loadsWord_loadResult ..
  | joined c p =>
    intro hcheck
    have hu := issued_issuedJoined c p bad 1 [ra.val] s
    have hck : loadCheck (((issuedJoined c p bad 1 [ra.val] s).core c).pass p).arch sp idx (issuedJoined c p bad 1 [ra.val] s) = none := by
      rw [arch_issuedJoined, ← hcheck]
      simp only [loadCheck, onlyContexts_recordOwner hu.2.2.2]
      rfl
    have k := loadsWord_of_issued hu (loadsWord_ldJoined c p rt sp idx (anyPoison (.joined c p) [ra] s) ecc _ hck)
    rw [loadJoined_issuedJoined] at k
    have hx : exec (.ld ⟨.joined c p, bad⟩ rt sp ra off ecc) s = .next (ldJoined c p rt sp idx (anyPoison (.joined c p) [ra] s) ecc
        (issuedJoined c p bad 1 [ra.val] s)) := by
      refine congrArg Host.Outcome.next ((issueAs_joined c p bad 1 [ra.val] false s h _).trans ?_)
      simp only [anyPoison_issued hu, congrFun (regOf_issued hu) ra.val, hidx]
    cases hl : loadJoined c p sp idx s with
    | value v =>
      rw [hl] at k
      exact hloads _ _ ⟨_, hx, k⟩
    | memory v w =>
      rw [hl, Loaded.ecc, onlyContexts_loadAddr hu.2.2.2, onlyContexts_wornEcc hu.2.2.2] at k
      exact hloads _ _ ⟨_, hx, k⟩
  | service c =>
    intro hsp hlt hecc hmpu hpriv
    subst hsp
    have hbad : bad = false := h.2.2.1
    subst hbad
    obtain ⟨n, hn⟩ := issueAs_service c 1 [ra.val] false s h
    have hu := issued_issuedService c false n s
    have hK := svcCore_issuedService c n s
    have k := loadsWord_of_issued hu (loadsWord_ldService c rt idx (anyPoison (.service c) [ra] s) ecc _ hlt hecc (by rw [hK]; exact hmpu)
      (by rw [hK]; exact hpriv))
    rw [onlyContexts_svcWord hu.2.2.2] at k
    refine hloads _ _ ⟨_, congrArg Host.Outcome.next ((hn _).trans ?_), k⟩
    simp only [congrFun (regOf_issued hu) ra.val, hidx]

end Sys2Proof.Machine
end

section
/-!
PROOFS. The outputs of a pass: a store, a timer operation, a post (R155, R157, R165, R170, R171), and the operations that are none in
SPLIT contexts and service cores.
-/
namespace Sys2Proof.Machine

/-! ### The open segment of a pass -/

/-- The open segment after a change of the open segment alone. -/
theorem find_map_open (segs : List Segment) (g : Nat) (f : Segment → Segment) (hf : ∀ x, (f x).seg = x.seg) :
    (segs.map (fun x => if x.seg = g then f x else x)).find? (fun x => x.seg == g) = (segs.find? (fun x => x.seg == g)).map f := by
  induction segs with
  | nil => rfl
  | cons x segs ih =>
    by_cases hx : x.seg = g
    · simp [hx, hf]
    · simp [hx, ih]

/-- A pass after a change of it. -/
@[simp] theorem pass_core_setPass (c : Nat) (p : Pass) (f : PassCtx → PassCtx) (s : State) :
    ((setPass c p f s).core c).pass p = f ((s.core c).pass p) := by simp [setPass]

/-- A pass that is about to make an output: it is where it was in `s`, but that its open segment is spoilt with `bad`. -/
structure Ready (c : Fin 64) (p : Pass) (bad : Bool) (s v : State) : Prop where
  jumps : JumpsTo (.joined c p) (pcOf (.joined c p) s) s v
  seg : ((v.core c).pass p).seg = ((s.core c).pass p).seg
  ordinal : ((v.core c).pass p).arch.ordinal = ((s.core c).pass p).arch.ordinal
  found : ((v.core c).pass p).find ((s.core c).pass p).seg =
    (((s.core c).pass p).find ((s.core c).pass p).seg).map (fun g => { g with bad := g.bad || bad })

theorem ready_issuedJoined (c : Fin 64) (p : Pass) (bad : Bool) (slots : Nat) (reads : List Nat) (s : State) :
    Ready c p bad s (issuedJoined c p bad slots reads s) := by
  refine ⟨issued_issuedJoined c p bad slots reads s, ?_, ?_, ?_⟩
  · rw [core_issuedJoined, if_pos rfl, pass_setPass, if_pos rfl, PassCtx.issued]
  · rw [arch_issuedJoined]
    rfl
  · rw [core_issuedJoined, if_pos rfl, pass_setPass, if_pos rfl, PassCtx.issued, PassCtx.find, PassCtx.find]
    cases bad
    · simp
    · simpa using find_map_open ((s.core c).pass p).segs ((s.core c).pass p).seg (fun g => { g with bad := true }) (fun _ => rfl)

/-- A change of the stored set of a pass is no output. -/
theorem ready_setArch {c : Fin 64} {p : Pass} {bad : Bool} {s v : State} (h : Ready c p bad s v) (f : List Nat → List Nat) :
    Ready c p bad s (setArch c p (fun A => { A with stored := f A.stored }) v) := by
  obtain ⟨hjumps, hseg, hord, hfound⟩ := h
  refine ⟨issued_trans (i := ⟨.joined c p, bad⟩) hjumps ?_, ?_, ?_, ?_⟩
  · exact ⟨fun g => by simp [regOf, poisonOf, setArch, setPass], by simp [pcOf, setArch, setPass], othersKept_setPass c p _ v, rfl⟩
  · rw [setArch, pass_core_setPass]
    exact hseg
  · rw [setArch, pass_core_setPass]
    exact hord
  · rw [setArch, pass_core_setPass]
    exact hfound

/-- What `emit` does: one output in the open segment, and the accord goes on. -/
theorem emits_emit {c : Fin 64} {p : Pass} {bad : Bool} {s v : State} (h : Ready c p bad s v) (o : BusOut) (pois : Bool) :
    Emits c p o (bad || pois) ((pcOf (.joined c p) s + 1) % 2 ^ 20) s (emit c p o pois v) := by
  obtain ⟨hjumps, hseg, hord, hfound⟩ := h
  refine ⟨stepPc (.joined c p) (putVal c p (.out o) pois v), by rw [emit, finOfNat_val], ?_, ?_, ?_⟩
  · have hput : Issued ⟨.joined c p, bad⟩ s (putVal c p (.out o) pois v) := issued_trans hjumps
      ⟨fun g => by simp [putVal, regOf, poisonOf, setPass], by simp [putVal, pcOf, setPass], othersKept_setPass c p _ v, rfl⟩
    refine jumps_of_issued hput ?_
    have hpc : pcOf (.joined c p) (putVal c p (.out o) pois v) = pcOf (.joined c p) s := hput.2.1
    rw [stepPc, hpc]
    exact jumps_setPc (.joined c p) _ _
  · simp only [stepPc, setPc, setArch, putVal, pass_core_setPass]
    exact hseg
  · simp only [stepPc, setPc, setArch, putVal, pass_core_setPass, PassCtx.find]
    rw [hseg]
    refine (find_map_open _ _ _ ?_).trans ?_
    · exact fun _ => rfl
    rw [PassCtx.find] at hfound
    rw [hfound, Option.map_map, hord, PassCtx.find]
    congr 1
    funext g
    simp only [Function.comp_apply, Bool.or_assoc, Val.spoil]

theorem onlyContexts_storeCheck {s u : State} (h : OnlyContexts s u) (A : Arch) (sp : Space) (i : Nat) :
    storeCheck A sp i u = storeCheck A sp i s := by
  rw [h]
  cases sp <;> rfl

/-- The checks of a store read nothing that its issue changes (R155). -/
theorem storeCheck_issuedJoined (c : Fin 64) (p : Pass) (bad : Bool) (slots : Nat) (reads : List Nat) (sp : Space) (i : Nat) (s : State) :
    storeCheck (((issuedJoined c p bad slots reads s).core c).pass p).arch sp i (issuedJoined c p bad slots reads s)
      = storeCheck ((s.core c).pass p).arch sp i s := by
  rw [arch_issuedJoined, onlyContexts_storeCheck (issued_issuedJoined c p bad slots reads s).2.2.2]
  cases sp <;> rfl

theorem holdsClass_issuedJoined (c : Fin 64) (p : Pass) (bad : Bool) (slots : Nat) (reads : List Nat) (k : Nat) (s : State) :
    holdsClass (((issuedJoined c p bad slots reads s).core c).pass p).arch k (issuedJoined c p bad slots reads s)
      = holdsClass ((s.core c).pass p).arch k s := by
  rw [arch_issuedJoined, holdsClass, onlyContexts_typeEntry (issued_issuedJoined c p bad slots reads s).2.2.2]
  rfl

/-- A store of a pass that passes its checks is emitted. -/
theorem emits_stJoined {c : Fin 64} {p : Pass} {bad : Bool} {s v : State} (h : Ready c p bad s v) {sp : Space} {i : Nat}
    (hcheck : storeCheck ((v.core c).pass p).arch sp i v = none) (w : Word) (aPois dPois : Bool) :
    Emits c p (.store sp i w) (bad || (aPois || dPois)) ((pcOf (.joined c p) s + 1) % 2 ^ 20) s (stJoined c p sp i w aPois dPois v) := by
  simp only [stJoined, hcheck]
  split
  · exact emits_emit (ready_setArch h (fun l => if l.contains i then l else l ++ [i])) _ _
  · exact emits_emit h _ _

/-- A post of a pass whose type may make it is emitted (R170, R171). -/
theorem completes_postOp {x : Instr} {b : Bool} {c : Fin 64} {p : Pass} {ra rb rc : Reg} {cls : Nat}
    {allowed : TypeEntry → Nat → State → Bool} {mk : Word → Word → Word → BusOut} {s : State}
    (hx : exec x s = postOp ⟨.joined c p, b⟩ ra rb rc cls allowed mk s) (h : CanIssue ⟨.joined c p, b⟩ 1 [ra, rb, rc] false s)
    (hin : ((s.core c).pass p).arch.inObject = true) (hclass : holdsClass ((s.core c).pass p).arch cls s = true)
    (hallowed : ∀ u, OnlyContexts s u →
      allowed (typeEntry ((s.core c).pass p).arch.typ.toNat s) (regOf (.joined c p) ra s).toNat u = true) :
    Completes x s (Emits c p (mk (regOf (.joined c p) ra s) (regOf (.joined c p) rb s) (regOf (.joined c p) rc s))
      (b || anyPoison (.joined c p) [ra, rb, rc] s) ((pcOf (.joined c p) s + 1) % 2 ^ 20) s) := by
  have hu := issued_issuedJoined c p b 1 [ra.val, rb.val, rc.val] s
  have hreg : ∀ g, regOf (.joined c p) g (issuedJoined c p b 1 [ra.val, rb.val, rc.val] s) = regOf (.joined c p) g s := congrFun (regOf_issued hu)
  have hin' : (((issuedJoined c p b 1 [ra.val, rb.val, rc.val] s).core c).pass p).arch.inObject = true := by
    rw [arch_issuedJoined]
    exact hin
  have hallowed' : allowed (typeEntry (((issuedJoined c p b 1 [ra.val, rb.val, rc.val] s).core c).pass p).arch.typ.toNat
      (issuedJoined c p b 1 [ra.val, rb.val, rc.val] s)) (regOf (.joined c p) ra s).toNat (issuedJoined c p b 1 [ra.val, rb.val, rc.val] s) = true := by
    rw [arch_issuedJoined, onlyContexts_typeEntry hu.2.2.2]
    exact hallowed _ hu.2.2.2
  refine ⟨_, hx.trans (congrArg Host.Outcome.next ((issueAs_joined c p b 1 [ra.val, rb.val, rc.val] false s h _).trans ?_)),
    emits_emit (ready_issuedJoined c p b 1 [ra.val, rb.val, rc.val] s) _ _⟩
  simp only [hreg, anyPoison_issued hu, hin', holdsClass_issuedJoined, hclass, hallowed', Bool.and_self, if_true]

theorem onlyContexts_axesFitted {s u : State} (h : OnlyContexts s u) : u.axesFitted = s.axesFitted := by rw [h]; rfl
theorem onlyContexts_blocksFitted {s u : State} (h : OnlyContexts s u) : u.blocksFitted = s.blocksFitted := by rw [h]; rfl

theorem bits_low5 (a : Nat) : bits 4 0 a = a % 32 := by simp [bits]
theorem bits_block (a : Nat) : bits 17 16 a = a / 2 ^ 16 % 4 := rfl

/-- Settles O5: each operation passes its checks in the issued state and emits its output. -/
theorem passOutputs : Obligations.PassOutputs := by
  intro b c p ra rb rc rt sp off s
  have hissue : ∀ (reads : List Nat) k, CanIssue ⟨.joined c p, b⟩ 1 reads false s →
      issue ⟨.joined c p, b⟩ 1 reads k s = k (issuedJoined c p b 1 reads s) := fun reads k h => issueAs_joined c p b 1 reads false s h k
  have hready : ∀ reads, Ready c p b s (issuedJoined c p b 1 reads s) := fun reads => ready_issuedJoined c p b 1 reads s
  have hreg : ∀ (reads : List Nat) (g : Nat), regOf (.joined c p) g (issuedJoined c p b 1 reads s) = regOf (.joined c p) g s := fun reads g =>
    congrFun (regOf_issued (issued_issuedJoined c p b 1 reads s)) g
  have hpois : ∀ reads l, anyPoison (.joined c p) l (issuedJoined c p b 1 reads s) = anyPoison (.joined c p) l s := fun reads l =>
    anyPoison_issued (issued_issuedJoined c p b 1 reads s) l
  have hobject : ∀ reads, (((issuedJoined c p b 1 reads s).core c).pass p).arch.inObject = ((s.core c).pass p).arch.inObject := fun reads => by
    rw [arch_issuedJoined]
    rfl
  refine ⟨fun h hcheck => ?_, fun h hlt hin hclass howner => ?_, fun h hin => ⟨fun hclass hmask hfit => ?_, fun hclass hmask hfit => ?_⟩⟩
  · have k := emits_stJoined (hready [ra.val, rt.val]) ((storeCheck_issuedJoined c p b 1 [ra.val, rt.val] sp _ s).trans hcheck)
      (regOf (.joined c p) rt s) (anyPoison (.joined c p) [ra.val] s) (anyPoison (.joined c p) [rt.val] s)
    have hor : (anyPoison (.joined c p) [ra.val] s || anyPoison (.joined c p) [rt.val] s) = anyPoison (.joined c p) [ra.val, rt.val] s := by
      simp [anyPoison]
    rw [hor] at k
    refine ⟨_, congrArg Host.Outcome.next ((hissue _ _ h).trans ?_), k⟩
    simp only [hreg, hpois, sext]
  · have htimer : ∀ start, Completes (if start then .tstart ⟨.joined c p, b⟩ ra else .tstop ⟨.joined c p, b⟩ ra) s
        (Emits c p (.timer (regOf (.joined c p) ra s).toNat start) (b || anyPoison (.joined c p) [ra.val] s)
          ((pcOf (.joined c p) s + 1) % 2 ^ 20) s) := fun start => by
      refine ⟨_, ?_, emits_emit (hready [ra.val]) _ _⟩
      have hx : timerOp ⟨.joined c p, b⟩ ra start s = .next (emit c p (.timer (regOf (.joined c p) ra s).toNat start)
          (anyPoison (.joined c p) [ra.val] s) (issuedJoined c p b 1 [ra.val] s)) := by
        refine congrArg Host.Outcome.next ((hissue _ _ h).trans ?_)
        have howner' : look 0xFFFF_FFFF (regOf (.joined c p) ra s).toNat (issuedJoined c p b 1 [ra.val] s).img.timerOwner
            = (((issuedJoined c p b 1 [ra.val] s).core c).pass p).arch.obj.toNat := by
          rw [arch_issuedJoined, onlyContexts_img (issued_issuedJoined c p b 1 [ra.val] s).2.2.2]
          exact howner
        simp [hreg, hpois, Nat.not_lt.mpr hlt, hobject, hin, holdsClass_issuedJoined, hclass, howner']
      cases start <;> exact hx
    exact ⟨htimer true, htimer false⟩
  · refine completes_postOp (allowed := fun e a s => e.axisMask.getLsbD (bits 4 0 a) && decide (bits 4 0 a < s.axesFitted)) rfl h hin hclass
      (fun u hu => ?_)
    simp only [bits_low5, onlyContexts_axesFitted hu, hmask, hfit, decide_true, Bool.and_self]
  · refine completes_postOp (allowed := fun e a s => e.fieldMask.getLsbD (bits 17 16 a) && decide (bits 17 16 a < s.blocksFitted)) rfl h hin
      hclass (fun u hu => ?_)
    simp only [bits_block, onlyContexts_blocksFitted hu, hmask, hfit, decide_true, Bool.and_self]

end Sys2Proof.Machine
end

section
/-!
PROOFS. TTEST and SCODE (R115, R116, R166 to R169), and the stores of SPLIT contexts and service cores (R122, R175).
-/
namespace Sys2Proof.Machine

theorem onlyContexts_timers {s u : State} (h : OnlyContexts s u) : u.timers = s.timers := by rw [h]
theorem onlyContexts_idBlock {s u : State} (h : OnlyContexts s u) (n : Nat) (r : Bool) : idBlock n r u = idBlock n r s := by rw [h]; rfl

/-- The word of TTEST, as R116 lays it out. -/
theorem timerWord_eq (started : Option Nat) (n period : Nat) : timerWord started n period =
    match started with
    | none => 0
    | some m => BitVec.ofNat 32 (2 ^ 31 + (if min 16_777_215 ((n - m) * period / 100) = 16_777_215 then 2 ^ 24 else 0)
        + min 16_777_215 ((n - m) * period / 100)) := by
  cases started <;> rfl

/-! ### SCODE -/

/-- The operand of SCODE names a connection and a count that it may have (R167). -/
structure ScodeOperand (b : Word) (n : Nat) : Prop where
  count : bits 31 16 b.toNat = n
  reserved : bits 15 13 b.toNat = 0
  low : 1 ≤ n
  high : n ≤ 512

theorem scodeOperand_of {b : Word} (h0 : b.toNat / 2 ^ 13 % 8 = 0) (h1 : 1 ≤ b.toNat / 2 ^ 16) (h2 : b.toNat / 2 ^ 16 ≤ 512) :
    ScodeOperand b (b.toNat / 2 ^ 16) := by
  have hb := b.isLt
  refine ⟨?_, h0, h1, h2⟩
  rw [bits]
  omega

theorem scodeSlots_of_operand {b : Word} {n : Nat} (h : ScodeOperand b n) : scodeSlots b = 2 + (n + 4 + 3) / 4 := by
  obtain ⟨hcount, hres, hlow, hhigh⟩ := h
  simp only [scodeSlots, hcount, hres]
  rw [if_pos ⟨hlow, hhigh, trivial⟩]

/-- The range of a pass: the whole of INBOX or of SCRATCH (R168). -/
theorem scodeRange_joined {c : Fin 64} {p : Pass} {lo n : Nat} (inbox : Bool) (h : lo + n ≤ if inbox then 524_288 else 14_336) :
    scodeRange (.joined c p) inbox lo n = true := by
  cases inbox <;> simp only [if_true, if_false, Bool.false_eq_true] at h <;> exact decide_eq_true (by simp; omega)

/-- The range of a SPLIT context: the whole of INBOX, or its window of SCRATCH (R122). -/
theorem scodeRange_split {c : Fin 64} {k : Fin 3} {lo n : Nat} (inbox : Bool)
    (h : if inbox then lo + n ≤ 524_288 else 4096 * k.val ≤ lo ∧ lo + n ≤ 4096 * k.val + 4096) :
    scodeRange (.split c k) inbox lo n = true := by
  cases inbox <;> simp only [if_true, if_false, Bool.false_eq_true] at h
  · exact decide_eq_true h
  · exact decide_eq_true (by omega)

/-- SCODE over good words within the range of its context computes their safety code. -/
theorem completes_scode {i : Issue} {rd ra rb : Reg} {fn : ScodeFn} {s u : State} {n : Nat} {words : List Nat}
    (hctx : ∀ c, i.ctx ≠ .service c) (hissue : ∀ k, issueAs i (2 + (n + 4 + 3) / 4) [ra, rb] false k s = k u) (hu : Issued i s u)
    (hop : ScodeOperand (regOf i.ctx rb s) n) (hrange : scodeRange i.ctx fn.fromInbox (regOf i.ctx ra s).toNat n = true)
    (hwords : (List.range n).map (fun j => scodeWord i.ctx fn.fromInbox ((regOf i.ctx ra s).toNat + j) u) = words) :
    Completes (.scode i rd ra rb fn .good) s
      (Computes i.ctx rd (safetyCode fn.kasami (idBlock ((regOf i.ctx rb s).toNat % 2 ^ 13) fn.receiving s ++ words))
        (anyPoison i.ctx [ra, rb] s) s) := by
  have hslots := scodeSlots_of_operand hop
  obtain ⟨hcount, hres, hlow, hhigh⟩ := hop
  have hreg : ∀ g, regOf i.ctx g u = regOf i.ctx g s := congrFun (regOf_issued hu)
  have hrun : exec (.scode i rd ra rb fn .good) s = .next (writeBack i.ctx rd
      (safetyCode fn.kasami (idBlock ((regOf i.ctx rb s).toNat % 2 ^ 13) fn.receiving s ++ words)) (anyPoison i.ctx [ra, rb] s || false) u) := by
    show execScode i rd ra rb fn .good s = _
    rw [execScode, hslots, issue, hissue]
    have hbits : bits 12 0 (regOf i.ctx rb s).toNat = (regOf i.ctx rb s).toNat % 2 ^ 13 := by simp [bits]
    have hgood : ¬ (bits 15 13 (regOf i.ctx rb s).toNat ≠ 0 ∨ n = 0 ∨ 512 < n
        ∨ scodeRange i.ctx fn.fromInbox (regOf i.ctx ra s).toNat n = false) := by
      rintro (hne | hzero | hbig | hout)
      · exact hne hres
      · omega
      · omega
      · rw [hrange] at hout
        exact Bool.noConfusion hout
    obtain ⟨ctx, bad⟩ := i
    cases ctx with
    | service c => exact absurd rfl (hctx c)
    | joined c p => simp only [hreg, hcount, if_neg hgood, hwords, onlyContexts_idBlock hu.2.2.2, anyPoison_issued hu, hbits]; rfl
    | split c k => simp only [hreg, hcount, if_neg hgood, hwords, onlyContexts_idBlock hu.2.2.2, anyPoison_issued hu, hbits]; rfl
  rw [Bool.or_false] at hrun
  exact ⟨_, hrun, computes_of_issued hu (computes_writeBack ..)⟩

/-! ### Stores outside the accord -/

/-- A store of a SPLIT context within its window (R122). -/
theorem completes_st_split {c : Fin 64} {k : Fin 3} {bad : Bool} {rt ra : Reg} {off : BitVec 13} {s : State} {idx : Nat}
    (h : CanIssue ⟨.split c k, bad⟩ 1 [ra, rt] false s) (hidx : (regOf (.split c k) ra s + off.signExtend 32).toNat = idx)
    (hlow : 4096 * k.val ≤ idx) (hhigh : idx < 4096 * k.val + 4096) :
    Completes (.st ⟨.split c k, bad⟩ rt .scratch ra off) s (fun t =>
      t.sram = memPutWord (scratchAddr c idx) (regOf (.split c k) rt s) s.sram
        ∧ JumpsTo (.split c k) ((pcOf (.split c k) s + 1) % 2 ^ 20) s { t with sram := s.sram }) := by
  subst hidx
  have hwindow : splitWindow k (regOf (.split c k) ra s + sext off).toNat = true := decide_eq_true ⟨hlow, hhigh⟩
  refine ⟨_, congrArg Host.Outcome.next (issueAs_split c k bad 1 [ra.val, rt.val] false s h _), ?_⟩
  simp only [stSplit, hwindow, and_true, if_true, finOfNat_val]
  exact ⟨rfl, jumps_setPc (.split c k) _ s⟩

theorem onlyContexts_svc_sram {s u : State} (h : OnlyContexts s u) : u.svc.sram = s.svc.sram := by rw [h]

/-- A store of a service core within the index limit, with the MPU off (R175). -/
theorem completes_st_service {c : Fin 4} {rt ra : Reg} {off : BitVec 13} {s : State} {idx : Nat}
    (h : CanIssue ⟨.service c, false⟩ 1 [ra, rt] false s) (hidx : (regOf (.service c) ra s + off.signExtend 32).toNat = idx)
    (hlt : idx < 2 ^ 21) (hmpu : (s.svcCore c).mpuEn = false) (hpriv : (s.svcCore c).priv = true) :
    Completes (.st ⟨.service c, false⟩ rt .scratch ra off) s (fun t =>
      t.svc.sram = (svcSet idx (regOf (.service c) rt s) s).svc.sram
        ∧ JumpsTo (.service c) ((pcOf (.service c) s + 1) % 2 ^ 21) s { t with svc := { t.svc with sram := s.svc.sram } }) := by
  obtain ⟨n, hn⟩ := issueAs_service c 1 [ra.val, rt.val] false s h
  have hu := issued_issuedService c false n s
  have hK := svcCore_issuedService c n s
  generalize hv : (issuedService c s).drawn n = u at hn hu hK
  have hreg : ∀ g, regOf (.service c) g u = regOf (.service c) g s := congrFun (regOf_issued hu)
  have hlimit : ¬ Config.svcSramWords ≤ idx := Nat.not_le.mpr hlt
  have hmpu' : (u.svcCore c).mpuEn = false := by rw [hK]; exact hmpu
  have hpriv' : (u.svcCore c).priv = true := by rw [hK]; exact hpriv
  have hrun : exec (.st ⟨.service c, false⟩ rt .scratch ra off) s = .next (stepPc (.service c) (svcSet idx (regOf (.service c) rt s) u)) := by
    refine congrArg Host.Outcome.next ((hn _).trans ?_)
    simp only [hreg, sext, hidx, stService, hlimit, mpuAllows_of_off hmpu', hpriv', finOfNat_val, ne_eq, not_true_eq_false, if_false,
      Bool.not_true, Bool.false_eq_true]
  have hsram := onlyContexts_svc_sram hu.2.2.2
  refine ⟨_, hrun, ?_, ?_⟩
  · simp only [svcSet, ← hsram]
    rfl
  · have hstep : { stepPc (.service c) (svcSet idx (regOf (.service c) rt s) u) with
        svc := { (stepPc (.service c) (svcSet idx (regOf (.service c) rt s) u)).svc with sram := u.svc.sram } } = stepPc (.service c) u := rfl
    rw [← hsram, hstep, ← hu.2.1]
    exact jumps_of_issued hu (jumps_setPc (.service c) _ u)

/-- Settles O6: TTEST and SCODE compute a word in the issued state; the stores change one word of their memory. -/
theorem timerCodeAndPlainStores : Obligations.TimerCodeAndPlainStores := by
  intro i rd ra rb rt fn sp off s a b idx
  refine ⟨fun c p hctx h hle => ?_, fun c k hctx h0 h1 h2 hrange h => ?_, fun c p hctx h0 h1 h2 hrange h => ?_,
    fun c k hctx h hsp hlow hhigh => ?_, fun c hctx h hsp hlt hmpu hpriv => ?_⟩
  · obtain ⟨ctx, bad⟩ := i
    subst hctx
    have hu := issued_issuedJoined c p bad 1 [ra.val] s
    have hreg := congrFun (regOf_issued hu) ra.val
    refine ⟨_, congrArg Host.Outcome.next (issueAs_joined c p bad 1 [ra.val] false s h _), ?_⟩
    simp only [hreg, anyPoison_issued hu, onlyContexts_timers hu.2.2.2, onlyContexts_seq hu.2.2.2]
    rw [if_neg (Nat.not_lt.mpr hle), timerWord_eq]
    exact computes_of_issued hu (computes_keepLate (computes_writeBack ..))
  · obtain ⟨ctx, bad⟩ := i
    subst hctx
    refine completes_scode (by simp) (issueAs_split c k bad _ _ false s h) (issued_free ⟨.split c k, bad⟩ s s.free)
      (scodeOperand_of h0 h1 h2) ?_ ?_
    · exact scodeRange_split _ hrange
    · refine List.map_congr_left fun j _ => ?_
      cases hin : fn.fromInbox <;> rfl
  · obtain ⟨ctx, bad⟩ := i
    subst hctx
    have hu := issued_issuedJoined c p bad (2 + (b / 2 ^ 16 + 4 + 3) / 4) [ra.val, rb.val] s
    refine completes_scode (by simp) (issueAs_joined c p bad _ _ false s h) hu (scodeOperand_of h0 h1 h2) ?_ ?_
    · exact scodeRange_joined _ hrange
    · refine List.map_congr_left fun j _ => ?_
      cases hin : fn.fromInbox
      · simp only [scodeWord, loadJoined_issuedJoined, Bool.false_eq_true, if_false]
        rfl
      · simp only [scodeWord, onlyContexts_inboxRead hu.2.2.2, if_true]
        rfl
  · obtain ⟨ctx, bad⟩ := i
    subst hctx hsp
    exact completes_st_split h rfl hlow hhigh
  · obtain ⟨ctx, bad⟩ := i
    subst hctx hsp
    obtain rfl : bad = false := h.2.2.1
    exact completes_st_service h rfl hlt hmpu hpriv

end Sys2Proof.Machine
end

section
/-!
PROOFS. SEG, OLOOP, ONEXT and ENDC: the segments of a pass and its walk through the object list (R102, R159 to R163).
-/
namespace Sys2Proof.Machine

/-! ### A pass that has made outputs in its open segment -/

/-- Pass `p` of core `c` stands in `v` where it stood in `s`, but that its open segment holds the outputs `outs` more, that it has stored more,
and that its weight has grown. -/
structure Carried (c : Fin 64) (p : Pass) (outs : List BusOut) (s v : State) : Prop where
  jumps : JumpsTo (.joined c p) (pcOf (.joined c p) s) s v
  objs : (v.core c).objs = (s.core c).objs
  seg : ((v.core c).pass p).seg = ((s.core c).pass p).seg
  run : ((v.core c).pass p).run = ((s.core c).pass p).run
  arch : ∃ l w, ((v.core c).pass p).arch = { ((s.core c).pass p).arch with stored := l, weight := w }
  segs : ∀ x ∈ ((v.core c).pass p).segs, ∃ y ∈ ((s.core c).pass p).segs, y.seg = x.seg ∧
    (x.seg = ((s.core c).pass p).seg → x.outs.map (fun z => z.2.held) = y.outs.map (fun z => z.2.held) ++ outs.map some)

theorem objs_setPass (p : Pass) (f : PassCtx → PassCtx) (C : Core) : (C.setPass p f).objs = C.objs := by cases p <;> rfl

theorem carried_issuedJoined (c : Fin 64) (p : Pass) (bad : Bool) (slots : Nat) (reads : List Nat) (s : State) :
    Carried c p [] s (issuedJoined c p bad slots reads s) := by
  have hC := core_issuedJoined c c p bad slots reads s
  rw [if_pos rfl] at hC
  refine ⟨issued_issuedJoined c p bad slots reads s, by rw [hC, objs_setPass], ?_, ?_, ⟨_, _, arch_issuedJoined ..⟩, ?_⟩
  · rw [hC, pass_setPass, if_pos rfl, PassCtx.issued]
  · rw [hC, pass_setPass, if_pos rfl, PassCtx.issued]
  · rw [hC, pass_setPass, if_pos rfl, PassCtx.issued]
    intro x hx
    cases bad
    · exact ⟨x, hx, rfl, fun _ => by simp⟩
    · simp only [if_true, List.mem_map] at hx
      obtain ⟨y, hy, rfl⟩ := hx
      refine ⟨y, hy, ?_, fun _ => ?_⟩ <;> split <;> simp

@[simp] theorem held_spoil (v : Val) : v.spoil.held = v.held := by cases v <;> rfl

/-- A carry of a good word is one more output (R102). -/
theorem carried_carryOne {c : Fin 64} {p : Pass} {outs : List BusOut} {s v : State} (h : Carried c p outs s v) (hworn : s.seq.worn = [])
    (n : Nat) : Carried c p (outs ++ [.carry n (stateRead p (stateHalf n false s) s)]) s (carryOne c p (n, .good) v) := by
  obtain ⟨hjumps, hobjs, hseg, hrun, ⟨l, w, harch⟩, hsegs⟩ := h
  have honly := hjumps.2.2.2
  have hcarry : carryOne c p (n, .good) v = setPass c p (fun P => { P with arch := { P.arch with stored := P.arch.stored ++ [n] } })
      (putVal c p (.out (.carry n (stateRead p (stateHalf n false s) s))) false v) := by
    simp [carryOne, wornEcc, onlyContexts_seq honly, hworn, onlyContexts_stateHalf honly, onlyContexts_stateRead honly, noteEcc]
    rfl
  rw [hcarry]
  have hout : Issued ⟨.joined c p, false⟩ s (setPass c p (fun P => { P with arch := { P.arch with stored := P.arch.stored ++ [n] } })
      (putVal c p (.out (.carry n (stateRead p (stateHalf n false s) s))) false v)) := issued_trans hjumps
    ⟨fun g => by simp [putVal, regOf, poisonOf, setPass], by simp [putVal, pcOf, setPass],
      othersKept_trans (othersKept_setPass c p _ v) (othersKept_setPass c p _ _), rfl⟩
  refine ⟨hout, ?_, ?_, ?_, ?_, ?_⟩
  · simp [putVal, setPass, objs_setPass, hobjs]
  · simp only [putVal, pass_core_setPass]
    exact hseg
  · simp only [putVal, pass_core_setPass]
    exact hrun
  · simp only [putVal, pass_core_setPass]
    exact ⟨l ++ [n], w, by simp only [harch]⟩
  · simp only [putVal, pass_core_setPass]
    intro x hx
    obtain ⟨y, hy, rfl⟩ := List.mem_map.mp hx
    obtain ⟨z, hz, hzseg, hzouts⟩ := hsegs y hy
    refine ⟨z, hz, ?_, fun hx => ?_⟩
    · split <;> exact hzseg
    · split
      · next hy =>
        rw [hseg] at hy
        have hheld : ∀ b : Bool, (if b then (Val.out (BusOut.carry n (stateRead p (stateHalf n false s) s))).spoil
            else Val.out (BusOut.carry n (stateRead p (stateHalf n false s) s))).held = some (.carry n (stateRead p (stateHalf n false s) s)) :=
          fun b => by cases b <;> rfl
        simp [hzouts hy, hheld]
      · next hy =>
        rw [if_neg hy, ← hseg] at hx
        exact absurd hx hy

/-- The carries of ONEXT, one after another. -/
theorem carried_foldl {c : Fin 64} {p : Pass} {s : State} (hworn : s.seq.worn = []) (l : List Nat) {outs : List BusOut} {v : State}
    (h : Carried c p outs s v) :
    Carried c p (outs ++ l.map (fun n => .carry n (stateRead p (stateHalf n false s) s))) s
      ((l.map (fun n => (n, Ecc.good))).foldl (fun s x => carryOne c p x s) v) := by
  induction l generalizing outs v with
  | nil => simpa using h
  | cons n l ih =>
    have k := ih (carried_carryOne h hworn n)
    simpa using k

/-! ### The close of a segment -/

/-- A change of a core that leaves its passes as they are is seen by no context. -/
theorem othersKept_setCore (ctx : Ctx) (c : Nat) (f : Core → Core) (hf : ∀ C q, (f C).pass q = C.pass q) (s : State) :
    OthersKept ctx s (setCore c f s) := by
  have hpass : ∀ d q, ((setCore c f s).core d).pass q = (s.core d).pass q := fun d q => by
    rw [core_setCore]
    split
    · next hd => rw [hf, hd]
    · rfl
  intro o _
  cases o with
  | joined d q => exact ⟨by rw [pcOf, hpass]; rfl, fun g => ⟨by simp only [regOf, hpass], by simp only [poisonOf, hpass]⟩⟩
  | split d k => exact ⟨rfl, fun _ => ⟨rfl, rfl⟩⟩
  | service d => exact ⟨rfl, fun _ => ⟨rfl, rfl⟩⟩

/-- The counts of closed segments of a core after pass `p` has closed one. -/
def Core.countClose (p : Pass) (C : Core) : Core :=
  { C with segTop := if p = .top then C.segTop + 1 else C.segTop, segBase := if p = .base then C.segBase + 1 else C.segBase }

@[simp] theorem pass_countClose (p q : Pass) (C : Core) : (C.countClose p).pass q = C.pass q := by cases q <;> rfl

/-- A pass after the close of its open segment `g`, with close record `r`; it goes on with registers `A`. -/
def PassCtx.close (g : Nat) (A : Arch) (r : Option CloseRec) (endc : Bool) (ks : List (Nat × Arch)) (P : PassCtx) : PassCtx :=
  { P with
    arch := A, run := if endc then .ended else P.run, seg := g + 1, ckpts := ks.drop (ks.length - 5)
    segs := P.segs.map (fun x => if x.seg = g then { x with closed := true, record := r, endc := endc } else x) ++ [{ seg := g + 1 }] }

/-- The close record of the open segment of a pass (R179). -/
def PassCtx.closeRec (p : Pass) (pc : BitVec 20) (P : PassCtx) : Option CloseRec :=
  if P.arch.poison = [] then some { count := P.count P.seg, nextPc := pc, obj := P.arch.obj, digest := regDigest p P.arch.regs } else none

/-- The state in which the accord goes on after a close. -/
def closedState (c : Nat) (p : Pass) (endc : Bool) (pc : BitVec 20) (f : Arch → Arch) (s : State) : State :=
  let P := (s.core c).pass p
  let A := { f P.arch with pc := pc }
  setCore c (Core.countClose p) (setPass c p (PassCtx.close P.seg A (P.closeRec p pc) endc (P.ckpts ++ [(P.seg, A)])) s)

theorem closeOpen_eq (c : Nat) (p : Pass) (endc : Bool) (pc : BitVec 20) (f : Arch → Arch) (s : State) :
    closeOpen c p endc pc f s = settle c (closedState c p endc pc f s) := rfl

/-- The segments of a pass after the close of its open one. -/
theorem mem_segs_close {g : Nat} {A : Arch} {r : Option CloseRec} {endc : Bool} {ks : List (Nat × Arch)} {P : PassCtx} {x : Segment}
    (hx : x ∈ (P.close g A r endc ks).segs) (hseg : x.seg = g) :
    ∃ y ∈ P.segs, y.seg = g ∧ x = { y with closed := true, record := r, endc := endc } := by
  rcases List.mem_append.mp hx with hx | hx
  · obtain ⟨y, hy, rfl⟩ := List.mem_map.mp hx
    by_cases hyg : y.seg = g
    · exact ⟨y, hy, hyg, by rw [if_pos hyg]⟩
    · rw [if_neg hyg] at hseg
      exact absurd hseg hyg
  · rw [List.mem_singleton.mp hx] at hseg
    exact absurd hseg (Nat.succ_ne_self g)

/-- What closing its open segment does to a pass (R163, R179). -/
theorem closes_closeOpen {c : Fin 64} {p : Pass} {outs : List BusOut} {s v : State} (h : Carried c p outs s v)
    (hrun : ((s.core c).pass p).run = .running) (endc : Bool) (pc : BitVec 20) (f : Arch → Arch) (A : Arch)
    (hf : ∃ w, f ((v.core c).pass p).arch = { A with weight := w }) :
    Closes c p endc pc A s (closeOpen c p endc pc f v)
      ∧ ∃ u, closeOpen c p endc pc f v = settle c u ∧ ∀ x ∈ ((u.core c).pass p).segs, x.seg = ((s.core c).pass p).seg →
        ∃ y ∈ ((s.core c).pass p).segs, y.seg = x.seg
          ∧ x.outs.map (fun z => z.2.held) = y.outs.map (fun z => z.2.held) ++ outs.map some := by
  obtain ⟨hjumps, hobjs, hseg, hvrun, ⟨l, w, harch⟩, hsegs⟩ := h
  obtain ⟨w', hw'⟩ := hf
  rw [closeOpen_eq]
  have hP : ((closedState c p endc pc f v).core c).pass p = PassCtx.close ((s.core c).pass p).seg { f ((v.core c).pass p).arch with pc := pc }
      (((v.core c).pass p).closeRec p pc) endc (((v.core c).pass p).ckpts ++ [(((v.core c).pass p).seg, { f ((v.core c).pass p).arch with pc := pc })])
      ((v.core c).pass p) := by
    simp [closedState, hseg]
  have hrec : ((((v.core c).pass p).closeRec p pc).map CloseRec.nextPc) = if ((s.core c).pass p).arch.poison = [] then some pc else none := by
    rw [PassCtx.closeRec, harch]
    split <;> rfl
  refine ⟨⟨_, rfl, ?_, ?_, ?_, ?_, ?_, ?_⟩, _, rfl, ?_⟩
  · rw [hP, PassCtx.close]
  · rw [hP]
    simp only [PassCtx.close, hw']
  · rw [hP, PassCtx.close, hvrun, hrun]
  · rw [hP]
    intro x hx hxseg
    obtain ⟨y, -, -, rfl⟩ := mem_segs_close hx hxseg
    exact ⟨rfl, rfl, hrec⟩
  · exact othersKept_trans hjumps.2.2.1 (othersKept_trans (othersKept_setPass c p _ v) (othersKept_setCore _ c _ (fun _ _ => pass_countClose ..) _))
  · exact onlyContexts_trans hjumps.2.2.2 rfl
  · rw [hP]
    intro x hx hxseg
    obtain ⟨y, hy, hyseg, rfl⟩ := mem_segs_close hx hxseg
    obtain ⟨z, hz, hzseg, hzouts⟩ := hsegs y hy
    exact ⟨z, hz, hzseg, hzouts hyseg⟩

/-! ### The instructions -/

theorem passRun_of_canIssue {c : Fin 64} {p : Pass} {b : Bool} {slots : Nat} {reads : List Nat} {closes : Bool} {s : State}
    (h : CanIssue ⟨.joined c p, b⟩ slots reads closes s) : ((s.core c).pass p).run = .running := by
  have hruns : passRuns c p s = true := h.1
  simp only [passRuns, Bool.and_eq_true, beq_iff_eq] at hruns
  exact hruns.2

theorem onlyContexts_ownedRecords {s u : State} (h : OnlyContexts s u) (n : Nat) : ownedRecords n u = ownedRecords n s := by rw [h]; rfl

/-- The carries that are due when every word is good. -/
theorem carriesWith_good (A : Arch) (eccs : List Ecc) (hgood : ∀ e ∈ eccs, e = .good) (s : State) :
    carriesWith A eccs s = (carries A s).map (fun n => (n, Ecc.good)) := by
  have hget : ∀ k, eccs.getD k .good = .good := fun k => by
    rw [List.getD_eq_getElem?_getD]
    cases hk : eccs[k]? with
    | none => rfl
    | some e => exact hgood e (List.mem_of_getElem? hk)
  simp only [carriesWith, hget]
  exact (List.map_map (f := Prod.fst) (g := fun n => (n, Ecc.good))).symm.trans (by rw [List.zipIdx_map_fst])

/-- ONEXT with room for its carries makes them and closes the segment, to go on with the next object or after the list (R160). -/
theorem closes_onextJoined {c : Fin 64} {p : Pass} {k : Nat} {eccs : List Ecc} {s v : State} (h : Carried c p [] s v)
    (harch : ∃ w, ((v.core c).pass p).arch = { ((s.core c).pass p).arch with weight := w }) (hrun : ((s.core c).pass p).run = .running)
    (hgood : ∀ e ∈ eccs, e = .good) (hworn : s.seq.worn = []) :
    (match objAt (s.core c).objs (k + 1) with
      | none => Closes c p false ((s.core c).pass p).arch.lend ((s.core c).pass p).arch.leave s (onextJoined c p k eccs v)
      | some o => Closes c p false (BitVec.ofNat 20 (typeEntry o.2 s).entry) (((s.core c).pass p).arch.enter (k + 1) o.1 o.2) s
          (onextJoined c p k eccs v))
      ∧ ∃ u, onextJoined c p k eccs v = settle c u ∧ ∀ x ∈ ((u.core c).pass p).segs, x.seg = ((s.core c).pass p).seg →
        ∃ y ∈ ((s.core c).pass p).segs, y.seg = x.seg ∧ x.outs.map (fun z => z.2.held) = y.outs.map (fun z => z.2.held)
          ++ (carries ((s.core c).pass p).arch s).map (fun n => some (.carry n (stateRead p (stateHalf n false s) s))) := by
  have honly := h.jumps.2.2.2
  obtain ⟨w, harch⟩ := harch
  have hcarries : carriesWith ((v.core c).pass p).arch eccs v = (carries ((s.core c).pass p).arch s).map (fun n => (n, Ecc.good)) := by
    rw [carriesWith_good _ _ hgood, harch, carries, onlyContexts_ownedRecords honly]
    rfl
  have hall := carried_foldl hworn (carries ((s.core c).pass p).arch s) h
  rw [List.nil_append] at hall
  obtain ⟨l, w', hallarch⟩ := hall.arch
  have hlend : ((v.core c).pass p).arch.lend = ((s.core c).pass p).arch.lend := by rw [harch]
  simp only [onextJoined, hcarries, h.objs, hlend, onlyContexts_typeEntry honly]
  cases hobj : objAt (s.core c).objs (k + 1) with
  | none =>
    have k := closes_closeOpen hall hrun false ((s.core c).pass p).arch.lend Arch.leave ((s.core c).pass p).arch.leave
      ⟨0, by rw [hallarch]; rfl⟩
    rw [List.map_map] at k
    exact k
  | some o =>
    have k := closes_closeOpen hall hrun false (BitVec.ofNat 20 (typeEntry o.2 s).entry) (Arch.enter (k + 1) o.1 o.2)
      (((s.core c).pass p).arch.enter (k + 1) o.1 o.2) ⟨0, by rw [hallarch]; rfl⟩
    rw [List.map_map] at k
    exact k

/-- Settles O7: a close of the open segment after the carries, the walk to the next object, and the two instructions of a SPLIT context. -/
theorem segmentsAndObjects : Obligations.SegmentsAndObjects := by
  have hpc : ∀ (c : Fin 64) p b s, (((issuedJoined c p b 1 [] s).core c).pass p).arch.pc = ((s.core c).pass p).arch.pc := fun c p b s => by
    rw [arch_issuedJoined]
  refine ⟨fun b c p disp s => ⟨fun h hentry => ?_, ?_, fun h => ⟨?_, fun hend => ?_⟩⟩, fun b c k s => ?_⟩
  · have hu := carried_issuedJoined c p b 1 [] s
    have harch := arch_issuedJoined c p b 1 [] s
    have hplace : (((issuedJoined c p b 1 [] s).core c).pass p).arch.place = .entry := by
      rw [harch]
      exact hentry
    refine ⟨_, congrArg Host.Outcome.next (issueAs_joined c p b 1 [] false s h _), ?_⟩
    simp only [hplace, ne_eq, not_true_eq_false, if_false, hu.objs, branchTarget_issued (i := ⟨.joined c p, b⟩) hu.jumps,
      onlyContexts_typeEntry hu.jumps.2.2.2]
    cases objAt (s.core c).objs 0 with
    | none =>
      simp only [setArch, pass_core_setPass, harch]
      exact ⟨rfl, othersKept_trans hu.jumps.2.2.1 (othersKept_setPass c p _ _), onlyContexts_trans hu.jumps.2.2.2 rfl, by simp [sext]⟩
    | some o =>
      simp only [setArch, pass_core_setPass, harch]
      exact ⟨rfl, othersKept_trans hu.jumps.2.2.1 (othersKept_setPass c p _ _), onlyContexts_trans hu.jumps.2.2.2 rfl,
        by simp [Arch.enter]⟩
  · intro k eccs l hobject hroom hgood hworn h
    have hrun : exec (.onext ⟨.joined c p, b⟩ eccs) s =
        .next (issueAs ⟨.joined c p, b⟩ (1 + l.length) [] true (onextJoined c p k eccs) s) := by
      show execOnext ⟨.joined c p, b⟩ eccs s = _
      simp only [execOnext, hobject]
      exact if_pos hroom
    exact ⟨_, hrun.trans (congrArg Host.Outcome.next (issueAs_joined c p b _ [] true s h _)),
      closes_onextJoined (carried_issuedJoined c p b _ [] s) ⟨_, arch_issuedJoined ..⟩ (passRun_of_canIssue h) hgood hworn⟩
  · refine ⟨_, congrArg Host.Outcome.next (issueAs_joined c p b 1 [] true s h _), ?_⟩
    rw [hpc]
    exact (closes_closeOpen (carried_issuedJoined c p b 1 [] s) (passRun_of_canIssue h) false _ id _ ⟨_, arch_issuedJoined ..⟩).1
  · refine ⟨_, (if_pos hend).trans (congrArg Host.Outcome.next (issueAs_joined c p b 1 [] true s h _)), ?_⟩
    rw [hpc]
    exact (closes_closeOpen (carried_issuedJoined c p b 1 [] s) (passRun_of_canIssue h) true _ id _ ⟨_, arch_issuedJoined ..⟩).1
  · intro i h
    refine ⟨⟨_, congrArg Host.Outcome.next (issueAs_split c k b 1 [] false s h _), jumps_setPc (.split c k) _ s⟩,
      ⟨_, congrArg Host.Outcome.next (issueAs_split c k b 1 [] false s h _), ?_, ?_, othersKept_setSplit c k _ s, rfl⟩⟩
    · simp
    · exact fun g => by simp [i, regOf, poisonOf]

end Sys2Proof.Machine
end

section
/-!
SUPPORT. What the operations of a field block leave as it is: everything outside the field subsystem, the other blocks, and of the block
itself its demands, its retention registers, its inputs and its diagnostics.
-/
namespace Sys2Proof.Machine

/-! ### Folds over channels -/

/-- What every step leaves as it is, the fold leaves as it is. -/
theorem foldl_keeps {σ α β : Type} {op : σ → α → σ} (φ : σ → β) (h : ∀ u i, φ (op u i) = φ u) (l : List α) (s : σ) : φ (l.foldl op s) = φ s := by
  induction l generalizing s with
  | nil => rfl
  | cons i l ih => exact (ih _).trans (h s i)

/-- A step of index `c` reaches a goal that every step keeps, from a condition that the other steps keep until the goal is reached. -/
theorem foldl_reaches {σ : Type} {op : σ → Nat → σ} (done ready : σ → Prop) (c : Nat) (hdone : ∀ u k, done u → done (op u k))
    (hready : ∀ u k, k ≠ c → ready u → done (op u k) ∨ ready (op u k)) (hc : ∀ u, ready u → done (op u c)) (l : List Nat) (s : σ)
    (h : done s ∨ (c ∈ l ∧ ready s)) : done (l.foldl op s) := by
  induction l generalizing s with
  | nil => simpa using h
  | cons k l ih =>
    refine ih _ ?_
    obtain h | ⟨hm, h⟩ := h
    · exact .inl (hdone s k h)
    · by_cases hk : k = c
      · exact .inl (hk ▸ hc s h)
      · obtain h | h := hready s k hk h
        · exact .inl h
        · exact .inr ⟨(List.mem_cons.mp hm).resolve_left (Ne.symm hk), h⟩

/-- Steps of the indices below `n`, each of which changes its own channel alone, by what it finds there and by what all steps keep. -/
theorem foldl_range_each {σ β : Type} {op : σ → Nat → σ} (φ : Nat → σ → β) (F : Nat → σ → β) (R : σ → σ → Prop) (hrefl : ∀ s, R s s)
    (htrans : ∀ s t u, R s t → R t u → R s u) (hstep : ∀ s i, R s (op s i)) (hother : ∀ s i j, j ≠ i → φ j (op s i) = φ j s)
    (hown : ∀ s u i, R s u → φ i u = φ i s → φ i (op u i) = F i s) (n : Nat) (s : σ) :
    R s ((List.range n).foldl op s) ∧ ∀ j, φ j ((List.range n).foldl op s) = if j < n then F j s else φ j s := by
  induction n with
  | zero => exact ⟨hrefl s, fun j => by simp⟩
  | succ n ih =>
    obtain ⟨hr, hj⟩ := ih
    rw [List.range_succ, List.foldl_append, List.foldl_cons, List.foldl_nil]
    refine ⟨htrans _ _ _ hr (hstep _ n), fun j => ?_⟩
    by_cases h : j = n
    · subst h
      rw [hown s _ j hr (by simp [hj]), if_pos (Nat.lt_succ_self j)]
    · rw [hother _ n j h, hj j]
      simp only [show j < n + 1 ↔ j < n by omega]

/-- Steps of the indices below `n`, each of which changes its own channel alone: what the step of index `j` leaves with channel `j` stays, and it
finds the channel as it was. -/
theorem foldl_range_at {σ β : Type} {op : σ → Nat → σ} (φ : Nat → σ → β) (R : σ → σ → Prop) (hrefl : ∀ s, R s s)
    (htrans : ∀ s t u, R s t → R t u → R s u) (hstep : ∀ s i, R s (op s i)) (hother : ∀ s i j, j ≠ i → φ j (op s i) = φ j s) (j n : Nat) (s : σ)
    (hj : j < n) : ∃ u, R s u ∧ φ j u = φ j s ∧ R s ((List.range n).foldl op s) ∧ φ j ((List.range n).foldl op s) = φ j (op u j) := by
  have hbelow : ∀ m, m ≤ j → R s ((List.range m).foldl op s) ∧ φ j ((List.range m).foldl op s) = φ j s := by
    intro m hm
    induction m with
    | zero => exact ⟨hrefl s, rfl⟩
    | succ m ih =>
      obtain ⟨h1, h2⟩ := ih (by omega)
      rw [List.range_succ, List.foldl_append]
      exact ⟨htrans _ _ _ h1 (hstep _ m), (hother _ m j (by omega)).trans h2⟩
  obtain ⟨h1, h2⟩ := hbelow j le_rfl
  refine ⟨_, h1, h2, ?_⟩
  have habove : ∀ m, j < m → R s ((List.range m).foldl op s) ∧ φ j ((List.range m).foldl op s) = φ j (op ((List.range j).foldl op s) j) := by
    intro m hm
    induction m with
    | zero => omega
    | succ m ih =>
      rw [List.range_succ, List.foldl_append, List.foldl_cons, List.foldl_nil]
      by_cases he : j = m
      · subst he
        exact ⟨htrans _ _ _ h1 (hstep _ j), rfl⟩
      · obtain ⟨k1, k2⟩ := ih (by omega)
        exact ⟨htrans _ _ _ k1 (hstep _ m), (hother _ m j he).trans k2⟩
  exact habove n hj

theorem look_del {α : Type} (d : α) (k j : Nat) (t : Tab α) : look d j (del k t) = if j = k then d else look d j t := by
  induction t with
  | nil => simp [del]
  | cons e t ih =>
    obtain ⟨i, v⟩ := e
    by_cases hi : i = k
    · subst hi
      have : del i ((i, v) :: t) = del i t := by simp [del]
      rw [this, ih, look_cons]
      by_cases hj : j = i
      · simp [hj]
      · simp [hj, Ne.symm hj]
    · have : del k ((i, v) :: t) = (i, v) :: del k t := by simp [del, hi]
      rw [this, look_cons, look_cons, ih]
      by_cases hj : i = j
      · subst hj; simp [hi]
      · simp [hj]

/-! ### The rest of the state and the other blocks -/

/-- Nothing but block `f`, the journal, the draws and the events raised since `s` differs. -/
structure Inside (f : Nat) (s t : State) : Prop where
  rest : t = { s with jnl := t.jnl, svc := { s.svc with toggles := t.svc.toggles }, free := t.free, fld := { s.fld with blocks := t.fld.blocks } }
  others : ∀ g, g ≠ f → t.block g = s.block g
  raised : s.svc.toggles <+: t.svc.toggles

theorem Inside.refl (f : Nat) (s : State) : Inside f s s := ⟨rfl, fun _ _ => rfl, List.prefix_rfl⟩

theorem Inside.trans {f : Nat} {s t u : State} (h : Inside f s t) (k : Inside f t u) : Inside f s u :=
  ⟨by rw [k.rest, h.rest], fun g hg => (k.others g hg).trans (h.others g hg), h.raised.trans k.raised⟩

theorem Inside.ctl {f : Nat} {s t : State} (h : Inside f s t) : t.ctl = s.ctl := by rw [h.rest]
theorem Inside.time {f : Nat} {s t : State} (h : Inside f s t) : t.time = s.time := by rw [h.rest]
theorem Inside.keep {f : Nat} {s t : State} (h : Inside f s t) : t.keep = s.keep := by rw [h.rest]
theorem Inside.fbk {f : Nat} {s t : State} (h : Inside f s t) : t.fbk = s.fbk := by rw [h.rest]
theorem Inside.snap {f : Nat} {s t : State} (h : Inside f s t) : t.snap = s.snap := by rw [h.rest]
theorem Inside.seq {f : Nat} {s t : State} (h : Inside f s t) : t.seq = s.seq := by rw [h.rest]
theorem Inside.testAt {f : Nat} {s t : State} (h : Inside f s t) : t.fld.testAt = s.fld.testAt := by rw [h.rest]
theorem Inside.now {f : Nat} {s t : State} (h : Inside f s t) : t.now = s.now := by rw [State.now, h.time]; rfl
theorem Inside.ctlGet {f : Nat} {s t : State} (h : Inside f s t) (a : Nat) : ctlGet a t = ctlGet a s := by rw [h.rest]; rfl
theorem Inside.cbit {f : Nat} {s t : State} (h : Inside f s t) (a i : Nat) : cbit a i t = cbit a i s := by simp only [Machine.cbit, h.ctlGet]
theorem Inside.cf {f : Nat} {s t : State} (h : Inside f s t) (a i j : Nat) : cf a i j t = cf a i j s := by simp only [Machine.cf, h.ctlGet]
theorem Inside.fitted {f : Nat} {s t : State} (h : Inside f s t) (g : Nat) : t.fldFitted g = s.fldFitted g := by rw [h.rest]; rfl

theorem Inside.noted {f : Nat} {s t : State} (h : Inside f s t) : t = { s.noted t with fld := t.fld } := by
  rw [h.rest]
  rfl

theorem Inside.told {f : Nat} {s t : State} (h : Inside f s t) {x : Nat × Nat} (hx : x ∈ s.svc.toggles) : x ∈ t.svc.toggles :=
  h.raised.subset hx

theorem Inside.ite {f : Nat} {s t u : State} {p : Prop} [Decidable p] (h : Inside f s t) (k : Inside f s u) : Inside f s (if p then t else u) := by
  split
  · exact h
  · exact k

theorem Inside.foldl {α : Type} {f : Nat} {op : State → α → State} (h : ∀ u i, Inside f u (op u i)) (l : List α) (s : State) :
    Inside f s (l.foldl op s) := by
  induction l generalizing s with
  | nil => exact .refl f s
  | cons i l ih => exact (h s i).trans (ih _)

theorem inside_setBlock (f : Nat) (g : Block → Block) (s : State) : Inside f s (setBlock f g s) :=
  ⟨rfl, fun k hk => by simp [hk], List.prefix_rfl⟩

theorem inside_setDio (f c : Nat) (g : Dio → Dio) (s : State) : Inside f s (setDio f c g s) := inside_setBlock f _ s
theorem inside_setLs (f i : Nat) (g : LoadSwitch → LoadSwitch) (s : State) : Inside f s (setLs f i g s) := inside_setBlock f _ s
theorem inside_setSo (f j : Nat) (g : SoPair → SoPair) (s : State) : Inside f s (setSo f j g s) := inside_setBlock f _ s

theorem inside_raise (f src : Nat) (s : State) : Inside f s (raise src s) := ⟨rfl, fun _ _ => rfl, List.prefix_append _ _⟩

theorem inside_draw (f w : Nat) (s : State) : Inside f s (s.draw w).2 := ⟨rfl, fun _ _ => rfl, List.prefix_rfl⟩

/-- A record of the field blocks' codes leaves all but the journal. -/
theorem inside_record (f : Nat) {code : Nat} (hc : code / 0x1000 = 4) (args : List Nat) (s : State) : Inside f s (record code args s) := by
  obtain ⟨j, hj⟩ := jnlOnly_record code args s (by omega) (by omega)
  rw [hj]
  exact ⟨rfl, fun _ _ => rfl, List.prefix_rfl⟩

theorem inside_blkRecord (f : Nat) {code : Nat} (hc : code / 0x1000 = 4) (args : List Nat) (s : State) : Inside f s (blkRecord f code args s) :=
  (inside_setBlock f _ s).trans (inside_record f hc _ _)

@[simp] theorem block_record (g code : Nat) (args : List Nat) (s : State) : (record code args s).block g = s.block g := by
  simp [State.block, record, recordB]

@[simp] theorem block_blkRecord (f g code : Nat) (args : List Nat) (s : State) :
    (blkRecord f code args s).block g = if g = f then { s.block f with lastCode := code } else s.block g := by
  simp [blkRecord]

@[simp] theorem block_raise (g src : Nat) (s : State) : (raise src s).block g = s.block g := rfl
@[simp] theorem block_draw (g w : Nat) (s : State) : (s.draw w).2.block g = s.block g := rfl
@[simp] theorem block_advance (g ns : Nat) (s : State) : (advance ns s).block g = s.block g := by simp [State.block]

@[simp] theorem block_setDio (f g c : Nat) (h : Dio → Dio) (s : State) :
    (setDio f c h s).block g = if g = f then { s.block f with dio := upd {} c h (s.block f).dio } else s.block g := block_setBlock f g _ s
@[simp] theorem block_setLs (f g i : Nat) (h : LoadSwitch → LoadSwitch) (s : State) :
    (setLs f i h s).block g = if g = f then { s.block f with ls := upd {} i h (s.block f).ls } else s.block g := block_setBlock f g _ s
@[simp] theorem block_setSo (f g j : Nat) (h : SoPair → SoPair) (s : State) :
    (setSo f j h s).block g = if g = f then { s.block f with so := upd {} j h (s.block f).so } else s.block g := block_setBlock f g _ s

/-! ### What a block keeps when its channels follow their demands -/

/-- Block `f` with its switches, its pairs, its last code and the DTIMEs since which its outputs are low left open. -/
def Block.fixed (b : Block) : Block := { b with ls := [], so := [], dio := [], lastCode := 0 }

/-- A DIO with the DTIME since which it is low left open. -/
def Dio.fixed (d : Dio) : Dio := { d with lowSince := 0 }

/-- Inside block `f` nothing but switches, pairs, DIOs and the last code differs. -/
structure Steady (f : Nat) (s t : State) : Prop where
  inside : Inside f s t
  fixed : (t.block f).fixed = (s.block f).fixed

/-- Inside block `f` nothing but switches, pairs, the last code and the DTIMEs since which outputs are low differs. -/
structure Settles (f : Nat) (s t : State) : Prop extends Steady f s t where
  dio : ∀ c, ((t.block f).dioOf c).fixed = ((s.block f).dioOf c).fixed
  low : ∀ c, dioDriven f c s = false → ((s.block f).dioOf c).lowSince ≠ 0 → ((t.block f).dioOf c).lowSince = ((s.block f).dioOf c).lowSince

theorem Steady.trans {f : Nat} {s t u : State} (h : Steady f s t) (k : Steady f t u) : Steady f s u :=
  ⟨h.inside.trans k.inside, k.fixed.trans h.fixed⟩

section steady
variable {f : Nat} {s t : State} (h : Steady f s t)
include h

theorem Steady.dDio : (t.block f).dDio = (s.block f).dDio := by simpa [Block.fixed] using congrArg Block.dDio h.fixed
theorem Steady.dLs : (t.block f).dLs = (s.block f).dLs := by simpa [Block.fixed] using congrArg Block.dLs h.fixed
theorem Steady.dSo : (t.block f).dSo = (s.block f).dSo := by simpa [Block.fixed] using congrArg Block.dSo h.fixed
theorem Steady.fsDio : (t.block f).fsDio = (s.block f).fsDio := by simpa [Block.fixed] using congrArg Block.fsDio h.fixed
theorem Steady.fsLs : (t.block f).fsLs = (s.block f).fsLs := by simpa [Block.fixed] using congrArg Block.fsLs h.fixed
theorem Steady.trip : (t.block f).trip = (s.block f).trip := by simpa [Block.fixed] using congrArg Block.trip h.fixed
theorem Steady.uv : (t.block f).uv = (s.block f).uv := by simpa [Block.fixed] using congrArg Block.uv h.fixed
theorem Steady.forced : (t.block f).forced = (s.block f).forced := by simpa [Block.fixed] using congrArg Block.forced h.fixed
theorem Steady.fclk : (t.block f).fclk = (s.block f).fclk := by simpa [Block.fixed] using congrArg Block.fclk h.fixed
theorem Steady.modeForce : (t.block f).modeForce = (s.block f).modeForce := by simpa [Block.fixed] using congrArg Block.modeForce h.fixed
theorem Steady.resetAt : (t.block f).resetAt = (s.block f).resetAt := by simpa [Block.fixed] using congrArg Block.resetAt h.fixed
theorem Steady.isolated : (t.block f).isolated = (s.block f).isolated := by simpa [Block.fixed] using congrArg Block.isolated h.fixed
theorem Steady.lineLow : (t.block f).lineLow = (s.block f).lineLow := by simpa [Block.fixed] using congrArg Block.lineLow h.fixed
theorem Steady.link : (t.block f).link = (s.block f).link := by simpa [Block.fixed] using congrArg Block.link h.fixed
theorem Steady.silent : (t.block f).silent = (s.block f).silent := by simpa [Block.fixed] using congrArg Block.silent h.fixed
theorem Steady.cmds : (t.block f).cmds = (s.block f).cmds := by simpa [Block.fixed] using congrArg Block.cmds h.fixed
theorem Steady.words : (t.block f).words = (s.block f).words := by simpa [Block.fixed] using congrArg Block.words h.fixed
theorem Steady.pairs : (t.block f).pairs = (s.block f).pairs := by simpa [Block.fixed] using congrArg Block.pairs h.fixed
theorem Steady.lastOut : (t.block f).lastOut = (s.block f).lastOut := by simpa [Block.fixed] using congrArg Block.lastOut h.fixed
theorem Steady.outSeq : (t.block f).outSeq = (s.block f).outSeq := by simpa [Block.fixed] using congrArg Block.outSeq h.fixed
theorem Steady.forcing : (t.block f).forcing = (s.block f).forcing := by
  simp only [Block.forcing, h.forced, h.fclk, h.modeForce, h.resetAt, h.isolated]
theorem Steady.dioOut (c : Nat) : dioOut f c t = dioOut f c s := h.inside.cbit _ _
theorem Steady.dioSafety (c : Nat) : dioSafety f c t = dioSafety f c s := h.inside.cbit _ _
theorem Steady.dioDemand (c : Nat) : dioDemand f c t = dioDemand f c s := by
  simp only [Machine.dioDemand, h.forcing, h.fsDio, h.trip, h.dDio, h.dioSafety]
theorem Steady.soEnabled (j : Nat) : soEnabled f j t = soEnabled f j s := by
  simp only [Machine.soEnabled, soRangesOk, h.inside.cbit, h.inside.cf]
theorem Steady.soDemand (j : Nat) : soDemand f j t = soDemand f j s := by
  simp only [Machine.soDemand, h.forcing, h.trip, h.dSo]
theorem Steady.lsPaired (i : Nat) : lsPaired f i t = lsPaired f i s := h.soEnabled (i / 2)
theorem Steady.lsSafety (i : Nat) : lsSafety f i t = lsSafety f i s := by
  simp only [Machine.lsSafety, h.lsPaired, h.inside.cbit]
theorem Steady.lsDemand (i : Nat) (hp : Machine.lsPaired f i s = true → ((t.block f).soOf (i / 2)).st = ((s.block f).soOf (i / 2)).st) :
    lsDemand f i t = lsDemand f i s := by
  simp only [Machine.lsDemand, h.lsPaired, h.forcing, h.fsLs, h.lsSafety, h.trip, h.dLs]
  by_cases hq : Machine.lsPaired f i s = true
  · rw [if_pos hq, if_pos hq, hp hq]
  · rw [if_neg hq, if_neg hq]

theorem Steady.dioDriven_of {c : Nat} (ho : ((t.block f).dioOf c).overload = ((s.block f).dioOf c).overload)
    (ht : ((t.block f).dioOf c).overTemp = ((s.block f).dioOf c).overTemp) : dioDriven f c t = dioDriven f c s := by
  simp only [Machine.dioDriven, h.dioDemand, ho, ht, h.uv, h.dioOut]

end steady

section settles
variable {f : Nat} {s t : State} (h : Settles f s t)
include h

theorem Settles.overload (c : Nat) : ((t.block f).dioOf c).overload = ((s.block f).dioOf c).overload := by
  simpa [Dio.fixed] using congrArg Dio.overload (h.dio c)
theorem Settles.overTemp (c : Nat) : ((t.block f).dioOf c).overTemp = ((s.block f).dioOf c).overTemp := by
  simpa [Dio.fixed] using congrArg Dio.overTemp (h.dio c)
theorem Settles.openWire (c : Nat) : ((t.block f).dioOf c).openWire = ((s.block f).dioOf c).openWire := by
  simpa [Dio.fixed] using congrArg Dio.openWire (h.dio c)
theorem Settles.wireBreak (c : Nat) : ((t.block f).dioOf c).wireBreak = ((s.block f).dioOf c).wireBreak := by
  simpa [Dio.fixed] using congrArg Dio.wireBreak (h.dio c)
theorem Settles.level (c : Nat) : ((t.block f).dioOf c).level = ((s.block f).dioOf c).level := by
  simpa [Dio.fixed] using congrArg Dio.level (h.dio c)
theorem Settles.hot (c : Nat) : ((t.block f).dioOf c).hot = ((s.block f).dioOf c).hot := by
  simpa [Dio.fixed] using congrArg Dio.hot (h.dio c)
theorem Settles.dioRead (c : Nat) : dioRead f c t = dioRead f c s := by
  simp only [Machine.dioRead, dioWb, Machine.dioOut, h.inside.cbit, h.level, h.wireBreak]
theorem Settles.dioDriven (c : Nat) : dioDriven f c t = dioDriven f c s := h.dioDriven_of (h.overload c) (h.overTemp c)
theorem Settles.soAgrees (j : Nat) (r : Bool) : soAgrees f j r t = soAgrees f j r s := by
  simp only [Machine.soAgrees, fbReleased, h.dioRead, h.inside.cbit, h.inside.cf]

end settles

theorem Settles.refl (f : Nat) (s : State) : Settles f s s := ⟨⟨.refl f s, rfl⟩, fun _ => rfl, fun _ _ _ => rfl⟩

theorem Settles.trans {f : Nat} {s t u : State} (h : Settles f s t) (k : Settles f t u) : Settles f s u :=
  ⟨h.toSteady.trans k.toSteady, fun c => (k.dio c).trans (h.dio c), fun c hd hl =>
    (k.low c ((h.dioDriven c).trans hd) (by rwa [h.low c hd hl])).trans (h.low c hd hl)⟩

theorem Settles.foldl {α : Type} {f : Nat} {op : State → α → State} (h : ∀ u i, Settles f u (op u i)) (l : List α) (s : State) :
    Settles f s (l.foldl op s) := by
  induction l generalizing s with
  | nil => exact .refl f s
  | cons i l ih => exact (h s i).trans (ih _)

theorem steady_setDio (f c : Nat) (g : Dio → Dio) (s : State) : Steady f s (setDio f c g s) :=
  ⟨inside_setDio f c g s, by simp [Block.fixed]⟩

theorem settles_setLs (f i : Nat) (g : LoadSwitch → LoadSwitch) (s : State) : Settles f s (setLs f i g s) :=
  ⟨⟨inside_setLs f i g s, by simp [Block.fixed]⟩, fun c => by simp [Block.dioOf], fun c _ _ => by simp [Block.dioOf]⟩

theorem settles_setSo (f j : Nat) (g : SoPair → SoPair) (s : State) : Settles f s (setSo f j g s) :=
  ⟨⟨inside_setSo f j g s, by simp [Block.fixed]⟩, fun c => by simp [Block.dioOf], fun c _ _ => by simp [Block.dioOf]⟩

theorem settles_raise (f src : Nat) (s : State) : Settles f s (raise src s) := ⟨⟨inside_raise f src s, rfl⟩, fun _ => rfl, fun _ _ _ => rfl⟩

theorem settles_blkRecord (f : Nat) {code : Nat} (hc : code / 0x1000 = 4) (args : List Nat) (s : State) : Settles f s (blkRecord f code args s) :=
  ⟨⟨inside_blkRecord f hc args s, by simp [Block.fixed]⟩, fun c => by simp [Block.dioOf], fun c _ _ => by simp [Block.dioOf]⟩

theorem settles_draw (f w : Nat) (s : State) : Settles f s (s.draw w).2 := ⟨⟨inside_draw f w s, rfl⟩, fun _ => rfl, fun _ _ _ => rfl⟩

theorem settles_lsOff (f i : Nat) (s : State) : Settles f s (lsOff f i s) := settles_setLs f i _ s
theorem settles_lsOn (f i : Nat) (s : State) : Settles f s (lsOn f i s) := settles_setLs f i _ s
theorem settles_soSet (f j : Nat) (st : SoState) (s : State) : Settles f s (soSet f j st s) := settles_setSo f j _ s

/-- A switch that follows its demand is changed, and nothing else. -/
theorem lsEval_eq_setLs (f i : Nat) (s : State) : lsEval f i s = s ∨ ∃ g, lsEval f i s = setLs f i g s := by
  simp only [lsEval, lsOn, lsOff]
  split
  · split
    · exact .inr ⟨_, rfl⟩
    · exact .inl rfl
  · split
    · exact .inl rfl
    · exact .inr ⟨_, rfl⟩
  · split
    · exact .inl rfl
    · exact .inr ⟨_, rfl⟩
  · split
    · exact .inr ⟨_, rfl⟩
    · split
      · exact .inl rfl
      · exact .inr ⟨_, rfl⟩
  · split
    · exact .inr ⟨_, rfl⟩
    · split
      · exact .inr ⟨_, rfl⟩
      · exact .inl rfl

theorem settles_lsEval (f i : Nat) (s : State) : Settles f s (lsEval f i s) := by
  obtain h | ⟨g, h⟩ := lsEval_eq_setLs f i s
  · rw [h]; exact .refl f s
  · rw [h]; exact settles_setLs f i g s

theorem so_lsEval (f i : Nat) (s : State) : ((lsEval f i s).block f).so = (s.block f).so := by
  obtain h | ⟨g, h⟩ := lsEval_eq_setLs f i s <;> simp [h]

theorem ls_lsEval_other (f i k : Nat) (hk : k ≠ i) (s : State) : ((lsEval f i s).block f).lsOf k = (s.block f).lsOf k := by
  obtain h | ⟨g, h⟩ := lsEval_eq_setLs f i s <;> simp [h, Block.lsOf, look_upd, hk]

theorem toggles_lsEval (f i : Nat) (s : State) : (lsEval f i s).svc.toggles = s.svc.toggles := by
  obtain h | ⟨g, h⟩ := lsEval_eq_setLs f i s
  · rw [h]
  · rw [h]; rfl

theorem settles_soFault (f j cause : Nat) {code : Nat} (hc : code / 0x1000 = 4) (args : List Nat) (s : State) :
    Settles f s (soFault f j cause code args s) :=
  ((settles_soSet f j .fault s).trans (settles_setSo f j _ _)).trans
    (((settles_lsEval f (2 * j) _).trans (settles_lsEval f (2 * j + 1) _)).trans
      ((settles_blkRecord f hc _ _).trans (settles_raise f _ _)))

theorem settles_soOffRows (f j : Nat) (s : State) : Settles f s (soOffRows f j s) := by
  unfold soOffRows
  split
  · exact .refl f s
  · split
    · exact (settles_soSet f j _ s).trans ((settles_lsEval f _ _).trans (settles_lsEval f _ _))
    · exact settles_soFault f j 2 rfl _ s

theorem settles_soEval (f j : Nat) (applied : Bool) (s : State) : Settles f s (soEval f j applied s) := by
  simp only [soEval]
  split
  · split
    · exact settles_soSet f j _ s
    · exact .refl f s
  · split
    · exact .refl f s
    · split
      · exact settles_soOffRows f j s
      · split
        · exact settles_soSet f j _ s
        · split
          · exact settles_soSet f j _ s
          · exact .refl f s
      · split
        · exact settles_soSet f j _ s
        · split
          · exact settles_soSet f j _ s
          · exact .refl f s
      · exact .refl f s
      · exact .refl f s
      · exact .refl f s
      · exact .refl f s

theorem settles_soRestore (f j : Nat) (s : State) : Settles f s (soRestore f j s) := by
  unfold soRestore
  split
  · exact (settles_soSet f j _ s).trans (settles_soOffRows f j _)
  · exact .refl f s

/-- The DTIME since which an output is low is open, but while it stays low. -/
theorem settles_lowSince (f c n : Nat) (s : State) (h : dioDriven f c s = true ∨ ((s.block f).dioOf c).lowSince = 0) :
    Settles f s (setDio f c (fun d => { d with lowSince := n }) s) := by
  refine ⟨steady_setDio f c _ s, fun k => ?_, fun k hd hl => ?_⟩
  · by_cases hk : k = c <;> simp [Block.dioOf, look_upd, hk, Dio.fixed]
  · have hk : k ≠ c := by
      rintro rfl
      obtain h | h := h
      · simp [h] at hd
      · exact hl h
    simp [Block.dioOf, look_upd, hk]

theorem settles_evalBlock (f : Nat) (applied : Bool) (s : State) : Settles f s (evalBlock f applied s) := by
  refine ((Settles.foldl (fun u j => settles_soEval f j applied u) _ s).trans (Settles.foldl (fun u i => settles_lsEval f i u) _ _)).trans
    (Settles.foldl (fun u c => ?_) _ _)
  dsimp only
  split
  · next h => exact settles_lowSince f c _ u (.inl (by simp_all))
  · split
    · next h => exact settles_lowSince f c _ u (.inr (by simp_all))
    · exact .refl f u

theorem settles_startWaiting (f j : Nat) (s : State) : Settles f s (startWaiting f j s) := by
  simp only [startWaiting]
  split
  · split
    · exact (settles_setSo f j _ s).trans (settles_setLs f _ _ _)
    · split
      · exact (settles_setSo f j _ s).trans (settles_setLs f _ _ _)
      · exact .refl f s
  · exact .refl f s

end Sys2Proof.Machine
end

section
/-!
PROOFS. Digital inputs and outputs and two-channel inputs (O37).
-/
namespace Sys2Proof.Machine

/-! ### One DIO -/

/-- Inside block `f` nothing but switches, pairs, the last code, DIO `c` and the DTIMEs since which outputs are low differs. -/
structure ActsOnDio (f c : Nat) (s t : State) : Prop extends Steady f s t where
  dio : ∀ k, k ≠ c → ((t.block f).dioOf k).fixed = ((s.block f).dioOf k).fixed

theorem ActsOnDio.trans {f c : Nat} {s t u : State} (h : ActsOnDio f c s t) (k : ActsOnDio f c t u) : ActsOnDio f c s u :=
  ⟨h.toSteady.trans k.toSteady, fun i hi => (k.dio i hi).trans (h.dio i hi)⟩

theorem Settles.actsOnDio {f : Nat} {s t : State} (h : Settles f s t) (c : Nat) : ActsOnDio f c s t := ⟨h.toSteady, fun k _ => h.dio k⟩

theorem actsOnDio_setDio (f c : Nat) (g : Dio → Dio) (s : State) : ActsOnDio f c s (setDio f c g s) :=
  ⟨steady_setDio f c g s, fun k hk => by simp [Block.dioOf, look_upd, hk]⟩

theorem dioOf_setDio (f c k : Nat) (g : Dio → Dio) (s : State) :
    ((setDio f c g s).block f).dioOf k = if k = c then g ((s.block f).dioOf c) else (s.block f).dioOf k := by
  simp [Block.dioOf, look_upd]

/-- A diagnostic is noted, recorded and raised: of the DIO only the codes recorded in this cycle change. -/
theorem actsOnDio_dioRecord (f c : Nat) {code : Nat} (hc : code / 0x1000 = 4) (s : State) :
    ActsOnDio f c s (dioRecord f c code s) ∧ (∃ l, ((dioRecord f c code s).block f).dioOf c = { (s.block f).dioOf c with recorded := l })
      ∧ (156 + f, s.now) ∈ (dioRecord f c code s).svc.toggles := by
  unfold dioRecord
  split
  · exact ⟨(settles_raise f _ s).actsOnDio c, ⟨_, rfl⟩, by simp⟩
  · have h := (actsOnDio_setDio f c (fun d => { d with recorded := code :: d.recorded }) s).trans ((settles_blkRecord f hc [c] _).actsOnDio c)
    refine ⟨h.trans ((settles_raise f _ _).actsOnDio c), ⟨code :: ((s.block f).dioOf c).recorded, ?_⟩, ?_⟩
    · simp [Block.dioOf]
    · rw [raise_toggles, h.inside.now]
      simp

/-- A diagnostic flag is set by `g` and recorded. -/
theorem dio_flagged (f c : Nat) {code : Nat} (hc : code / 0x1000 = 4) (g : Dio → Dio) (s : State) :
    let t := dioRecord f c code (setDio f c g s)
    ActsOnDio f c s t ∧ (∃ l, (t.block f).dioOf c = { g ((s.block f).dioOf c) with recorded := l }) ∧ (156 + f, s.now) ∈ t.svc.toggles := by
  obtain ⟨h1, ⟨l, h2⟩, h3⟩ := actsOnDio_dioRecord f c hc (setDio f c g s)
  exact ⟨(actsOnDio_setDio f c g s).trans h1, ⟨l, by rw [h2, dioOf_setDio, if_pos rfl]⟩, h3⟩

/-- An output whose overload or over-temperature flag stands is driven low (R418). -/
theorem dioDriven_of_flag {f c : Nat} {s : State} (h : ((s.block f).dioOf c).overload = true ∨ ((s.block f).dioOf c).overTemp = true) :
    dioDriven f c s = false := by
  obtain h | h := h <;> simp [dioDriven, h]

/-- What `DigitalIoActs` says of every command of one DIO besides its own effect. -/
theorem ActsOnDio.frame {f c ns : Nat} {s t : State} (h : ActsOnDio f c (advance ns s) t) :
    (∀ g, g ≠ f → t.block g = s.block g)
      ∧ (∀ k, k ≠ c → { (t.block f).dioOf k with lowSince := 0 } = { (s.block f).dioOf k with lowSince := 0 })
      ∧ t = { (advance ns s).noted t with fld := t.fld } :=
  ⟨fun g hg => (h.inside.others g hg).trans (block_advance g ns s), fun k hk => (h.dio k hk).trans (by rw [block_advance]; rfl), h.inside.noted⟩

theorem ActsOnDio.frame_now {f c : Nat} {s t : State} (h : ActsOnDio f c s t) :
    (∀ g, g ≠ f → t.block g = s.block g)
      ∧ (∀ k, k ≠ c → { (t.block f).dioOf k with lowSince := 0 } = { (s.block f).dioOf k with lowSince := 0 })
      ∧ t = { s.noted t with fld := t.fld } :=
  ⟨h.inside.others, h.dio, h.inside.noted⟩

/-! ### CLEAR of a DIO (R418) -/

theorem dioClear_spec (f c : Nat) (excess hot : Bool) (s : State) :
    ActsOnDio f c s (dioClear f c excess hot s)
      ∧ (((dioClear f c excess hot s).block f).dioOf c).fixed = ({ (s.block f).dioOf c with
          overload := ((s.block f).dioOf c).overload
            && !(excess && (((s.block f).dioOf c).lowSince != 0 && fclkPassed ((s.block f).dioOf c).lowSince 10_000_000 s))
          overTemp := ((s.block f).dioOf c).overTemp
            && !(hot && (((s.block f).dioOf c).lowSince != 0 && fclkPassed ((s.block f).dioOf c).lowSince 10_000_000 s)
              && !((s.block f).dioOf c).hot) } : Dio).fixed := by
  simp only [dioClear]
  have h := settles_evalBlock f false (setDio f c (fun d => { d with
    overload := d.overload && !(excess && (((s.block f).dioOf c).lowSince != 0 && fclkPassed ((s.block f).dioOf c).lowSince 10_000_000 s))
    overTemp := d.overTemp && !(hot && (((s.block f).dioOf c).lowSince != 0 && fclkPassed ((s.block f).dioOf c).lowSince 10_000_000 s) && !d.hot) }) s)
  refine ⟨(actsOnDio_setDio f c _ s).trans (h.actsOnDio c), (h.dio c).trans ?_⟩
  rw [dioOf_setDio, if_pos rfl]

theorem now_dioClear (f c : Nat) (e h : Bool) (s : State) : (dioClear f c e h s).now = s.now := (dioClear_spec f c e h s).1.inside.now

/-- A clearing step leaves an overload or over-temperature flag that is clear as it is, and DIO `c` as it is while the flag stands. -/
theorem dioClear_other {f c k : Nat} (hk : k ≠ c) (e h : Bool) (s : State) :
    ((((dioClear f k e h s).block f).dioOf c).overload = ((s.block f).dioOf c).overload
      ∧ (((dioClear f k e h s).block f).dioOf c).overTemp = ((s.block f).dioOf c).overTemp
      ∧ (((dioClear f k e h s).block f).dioOf c).hot = ((s.block f).dioOf c).hot)
    ∧ (((s.block f).dioOf c).overload = true ∨ ((s.block f).dioOf c).overTemp = true → ((s.block f).dioOf c).lowSince ≠ 0 →
        (((dioClear f k e h s).block f).dioOf c).lowSince = ((s.block f).dioOf c).lowSince) := by
  have hd := (dioClear_spec f k e h s).1.dio c (Ne.symm hk)
  simp only [Dio.fixed, Dio.mk.injEq] at hd
  refine ⟨⟨hd.2.2.1, hd.2.2.2.1, hd.2.2.2.2.2.2.1⟩, fun hf hl => ?_⟩
  simp only [dioClear]
  have hs : ∀ g, ((setDio f k g s).block f).dioOf c = (s.block f).dioOf c := fun g => by rw [dioOf_setDio, if_neg (Ne.symm hk)]
  refine ((settles_evalBlock f false _).low c (dioDriven_of_flag ?_) ?_).trans (by rw [hs])
  · rwa [hs]
  · rwa [hs]

/-- FLD_DIO_DIAG clears the overload flag of an output that has been low for 10 ms (R418). -/
theorem forOnes_clear_overload (f c : Nat) (hot : Bool) (l : List Nat) (s : State)
    (h : ((s.block f).dioOf c).overload = false ∨ (c ∈ l ∧ ((s.block f).dioOf c).lowSince ≠ 0
      ∧ fclkPassed ((s.block f).dioOf c).lowSince 10_000_000 s = true)) :
    (((l.foldl (fun s k => dioClear f k true hot s) s).block f).dioOf c).overload = false := by
  refine foldl_reaches (fun u => ((u.block f).dioOf c).overload = false)
    (fun u => ((u.block f).dioOf c).lowSince ≠ 0 ∧ fclkPassed ((u.block f).dioOf c).lowSince 10_000_000 u = true) c ?_ ?_ ?_ l s h
  · intro u k hu
    by_cases hk : k = c
    · subst hk
      simpa [Dio.fixed, hu] using congrArg Dio.overload (dioClear_spec f k true hot u).2
    · rw [(dioClear_other hk true hot u).1.1, hu]
  · rintro u k hk ⟨h1, h2⟩
    obtain ⟨⟨ho, -, -⟩, hl⟩ := dioClear_other hk true hot u
    cases hov : ((u.block f).dioOf c).overload
    · exact .inl (ho.trans hov)
    · refine .inr ?_
      simp only [fclkPassed, hl (.inl hov) h1, now_dioClear]
      exact ⟨h1, h2⟩
  · rintro u ⟨h1, h2⟩
    have h3 := bne_iff_ne.mpr h1
    simpa [Dio.fixed, h3, h2] using congrArg Dio.overload (dioClear_spec f c true hot u).2

/-- FLD_DIO_DIAG clears the over-temperature flag of an output that has been low for 10 ms and has cooled (R418). -/
theorem forOnes_clear_overTemp (f c : Nat) (e : Bool) (l : List Nat) (s : State)
    (h : ((s.block f).dioOf c).overTemp = false ∨ (c ∈ l ∧ ((s.block f).dioOf c).hot = false ∧ ((s.block f).dioOf c).lowSince ≠ 0
      ∧ fclkPassed ((s.block f).dioOf c).lowSince 10_000_000 s = true)) :
    (((l.foldl (fun s k => dioClear f k e true s) s).block f).dioOf c).overTemp = false := by
  refine foldl_reaches (fun u => ((u.block f).dioOf c).overTemp = false)
    (fun u => ((u.block f).dioOf c).hot = false ∧ ((u.block f).dioOf c).lowSince ≠ 0
      ∧ fclkPassed ((u.block f).dioOf c).lowSince 10_000_000 u = true) c ?_ ?_ ?_ l s h
  · intro u k hu
    by_cases hk : k = c
    · subst hk
      simpa [Dio.fixed, hu] using congrArg Dio.overTemp (dioClear_spec f k e true u).2
    · rw [(dioClear_other hk e true u).1.2.1, hu]
  · rintro u k hk ⟨h0, h1, h2⟩
    obtain ⟨⟨-, ho, hh⟩, hl⟩ := dioClear_other hk e true u
    cases hov : ((u.block f).dioOf c).overTemp
    · exact .inl (ho.trans hov)
    · refine .inr ?_
      simp only [fclkPassed, hl (.inr hov) h1, now_dioClear, hh]
      exact ⟨h0, h1, h2⟩
  · rintro u ⟨h0, h1, h2⟩
    have h3 := bne_iff_ne.mpr h1
    simpa [Dio.fixed, h0, h3, h2] using congrArg Dio.overTemp (dioClear_spec f c e true u).2

/-- CLEAR acts on overload and over-temperature alone: wire break and open wire stay. -/
theorem dioClear_wires (f c k : Nat) (e h : Bool) (s : State) :
    (((dioClear f k e h s).block f).dioOf c).openWire = ((s.block f).dioOf c).openWire
      ∧ (((dioClear f k e h s).block f).dioOf c).wireBreak = ((s.block f).dioOf c).wireBreak := by
  obtain ⟨hd, hc⟩ := dioClear_spec f k e h s
  by_cases hk : c = k
  · subst hk
    exact ⟨by simpa [Dio.fixed] using congrArg Dio.openWire hc, by simpa [Dio.fixed] using congrArg Dio.wireBreak hc⟩
  · have := hd.dio c hk
    exact ⟨by simpa [Dio.fixed] using congrArg Dio.openWire this, by simpa [Dio.fixed] using congrArg Dio.wireBreak this⟩

theorem mem_onesBelow {n k : Nat} {v : Word} : k ∈ onesBelow n v ↔ k < n ∧ v.getLsbD k = true := by simp [onesBelow]

/-! ### Registers of a field block -/

/-- A granted write of a register of a fitted block, whose row is known. -/
theorem accessWrite_fld {acc : Access} {a : Nat} {v : Word} {s : State} (hw : WriteGranted acc a v s) {r : RegRow} {i j : Nat}
    (hr : findReg a = some (r, i, j)) (hu : r.unit = .block) (hf : s.fldFitted i = true) (hwin : a / 0x0100_0000 = 3) :
    accessWrite acc a v s = writeFldNet r.reg i j a v (advance acc.at_ s) (storeBits r a v (advance acc.at_ s)) := by
  have hfit : r.unit.fitted i (advance acc.at_ s) = true := by
    rw [hu, Unit_.fitted, State.blocksFitted, advance_fused]
    exact hf
  rw [accessWrite_of_granted hw, regWrite_of_findReg hr, if_pos hfit]
  simp only [writeReg, hwin]

def dioDiagRow : RegRow := row .fldDioDiag 0x0300_0180 4 0x10000 4 0x4 .block [fld .w1c 23 0 .maintain]
def pairCfgRow : RegRow := row .fldPairCfg 0x0300_0200 4 0x10000 12 0x4 .block [rwc 31 31, rwc 30 30, rwc 10 0]

theorem findReg_dioDiag : ∀ f k : Fin 4, findReg (fldReg f (0x180 + 4 * k.val)) = some (dioDiagRow, f.val, k.val) := by decide +kernel
theorem findReg_pairCfg : ∀ (f : Fin 4) (j : Fin 12), findReg (pairReg f j) = some (pairCfgRow, f.val, j.val) := by decide +kernel

/-- FLD_DIO_DIAG holds no bits: a write only acts. -/
theorem accessWrite_dioDiag {acc : Access} {f k : Fin 4} {v : Word} {s : State} (hw : WriteGranted acc (fldReg f (0x180 + 4 * k.val)) v s)
    (hf : s.fldFitted f = true) : accessWrite acc (fldReg f (0x180 + 4 * k.val)) v s = writeDioDiag f k v (advance acc.at_ s) := by
  rw [accessWrite_fld hw (findReg_dioDiag f k) rfl hf (by simp only [fldReg]; omega)]
  rfl

theorem fclkPassed_iff (since ns : Nat) (s : State) : fclkPassed since ns s = true ↔ 98 * ns ≤ 100 * (s.now - since) := by simp [fclkPassed]

/-- What a granted write of FLD_DIO_DIAG does to DIO `c` (R418). -/
theorem writeDioDiag_spec (f : Nat) (k : Fin 4) (c : Fin 24) (v : Word) (s : State) :
    let t := writeDioDiag f k v s
    let d := (s.block f).dioOf c
    let D := (t.block f).dioOf c
    t.now = s.now ∧ D.openWire = d.openWire ∧ D.wireBreak = d.wireBreak ∧ (2 ≤ k.val → t.block f = s.block f)
      ∧ (v.getLsbD c = true → d.lowSince ≠ 0 → fclkPassed d.lowSince 10_000_000 s = true →
          (k = 0 → D.overload = false) ∧ (k = 1 → d.hot = false → D.overTemp = false)) := by
  intro t d D
  have hfold : ∀ e h, (forOnes 24 v (fun c => dioClear f c e h) s).now = s.now
      ∧ (((forOnes 24 v (fun c => dioClear f c e h) s).block f).dioOf c).openWire = d.openWire
      ∧ (((forOnes 24 v (fun c => dioClear f c e h) s).block f).dioOf c).wireBreak = d.wireBreak := fun e h =>
    ⟨foldl_keeps State.now (fun u i => now_dioClear f i e h u) _ s,
      foldl_keeps (fun u => ((u.block f).dioOf c).openWire) (fun u i => (dioClear_wires f c i e h u).1) _ s,
      foldl_keeps (fun u => ((u.block f).dioOf c).wireBreak) (fun u i => (dioClear_wires f c i e h u).2) _ s⟩
  have hc : v.getLsbD c = true → c.val ∈ onesBelow 24 v := fun hv => mem_onesBelow.mpr ⟨c.isLt, hv⟩
  by_cases h0 : k = 0
  · subst h0
    obtain ⟨h1, h2, h3⟩ := hfold true false
    exact ⟨h1, h2, h3, fun h => absurd h (by decide), fun hv hl hp =>
      ⟨fun _ => forOnes_clear_overload f c false _ s (.inr ⟨hc hv, hl, hp⟩), fun h => absurd h (by decide)⟩⟩
  · by_cases h1 : k = 1
    · subst h1
      obtain ⟨h1, h2, h3⟩ := hfold false true
      exact ⟨h1, h2, h3, fun h => absurd h (by decide), fun hv hl hp =>
        ⟨fun h => absurd h (by decide), fun _ hh => forOnes_clear_overTemp f c false _ s (.inr ⟨hc hv, hh, hl, hp⟩)⟩⟩
    · have ht : t = s := by
        have : ¬ k.val = 0 ∧ ¬ k.val = 1 := ⟨fun h => h0 (Fin.ext h), fun h => h1 (Fin.ext h)⟩
        simp only [t, writeDioDiag, if_neg this.1, if_neg this.2]
      rw [show D = d from congrArg (fun u => (u.block f).dioOf c) ht, ht]
      exact ⟨rfl, rfl, rfl, fun _ => rfl, fun _ _ _ => ⟨fun h => absurd h h0, fun h => absurd h h1⟩⟩

/-! ### Two-channel pairs (R419) -/

/-- The pair after one check sample, by the pseudocode of R419. -/
def checkedPair (f j : Nat) (s : State) : TwoPair :=
  let p := look ({} : TwoPair) j (s.block f).pairs
  let x := pairX f j s
  let n := if x.1 = x.2 then 0 else min (p.c + 1) 8001
  let hit := n = 4 * cf (pairReg f j) 10 0 s + 1
  let rest := x.1 = false ∧ x.2 = false
  if pairOn f j s = false ∨ pairBad f j s = true then p else
    { c := n, latched := if rest then false else if hit then true else p.latched, armed := if rest then true else if hit then false else p.armed }

/-- In block `f` nothing but pairs and the last code differs. -/
def OnlyPairs (f : Nat) (s t : State) : Prop :=
  Inside f s t ∧ ∃ ps n, t.block f = { s.block f with pairs := ps, lastCode := n }

theorem OnlyPairs.trans {f : Nat} {s t u : State} (h : OnlyPairs f s t) (k : OnlyPairs f t u) : OnlyPairs f s u := by
  obtain ⟨hi, ps, n, hb⟩ := h
  obtain ⟨ki, qs, m, kb⟩ := k
  exact ⟨hi.trans ki, qs, m, by rw [kb, hb]⟩

theorem OnlyPairs.refl (f : Nat) (s : State) : OnlyPairs f s s := ⟨.refl f s, _, _, rfl⟩

theorem OnlyPairs.dioOf {f : Nat} {s t : State} (h : OnlyPairs f s t) (c : Nat) : (t.block f).dioOf c = (s.block f).dioOf c := by
  obtain ⟨-, ps, n, hb⟩ := h
  rw [hb]; rfl

/-- A check sample of pair `j` writes the pair by R419 and otherwise only records. -/
theorem pairCheck_spec (f j : Nat) (s : State) :
    OnlyPairs f s (pairCheck f j s) ∧ ((pairCheck f j s).block f).pairs
      = if pairOn f j s = false ∨ pairBad f j s = true then (s.block f).pairs else put j (checkedPair f j s) (s.block f).pairs := by
  cases hon : pairOn f j s with
  | false => exact ⟨by simp [pairCheck, hon, OnlyPairs.refl], by simp [pairCheck, hon]⟩
  | true =>
  cases hbad : pairBad f j s with
  | true => exact ⟨by simp [pairCheck, hbad, OnlyPairs.refl], by simp [pairCheck, hbad]⟩
  | false =>
  have hset : ∀ p u, OnlyPairs f u (setBlock f (fun b => { b with pairs := put j p b.pairs }) u) := fun p u =>
    ⟨inside_setBlock f _ u, _, _, by rw [block_setBlock, if_pos rfl]⟩
  have hrec : ∀ code args u, code / 0x1000 = 4 → OnlyPairs f u (blkRecord f code args u) := fun code args u hc =>
    ⟨inside_blkRecord f hc args u, _, code, by rw [block_blkRecord, if_pos rfl]⟩
  have hraise : ∀ n u, OnlyPairs f u (raise n u) := fun n u => ⟨inside_raise f n u, _, _, rfl⟩
  have hp : ∀ (b : Bool) code args u, code / 0x1000 = 4 → OnlyPairs f u (if b then blkRecord f code args u else u)
      ∧ ((if b then blkRecord f code args u else u).block f).pairs = (u.block f).pairs := by
    intro b code args u hc
    cases b
    · exact ⟨.refl f u, rfl⟩
    · exact ⟨hrec code args u hc, by simp⟩
  have hq : ∀ (b : Bool) n code args u, code / 0x1000 = 4 → OnlyPairs f u (if b then raise n (blkRecord f code args u) else u)
      ∧ ((if b then raise n (blkRecord f code args u) else u).block f).pairs = (u.block f).pairs := by
    intro b n code args u hc
    cases b
    · exact ⟨.refl f u, rfl⟩
    · exact ⟨(hrec code args u hc).trans (hraise n _), by simp⟩
  simp only [pairCheck, hon, hbad, Bool.not_true, Bool.or_self, Bool.true_eq_false, Bool.false_eq_true, or_self, if_false]
  refine ⟨((hset _ s).trans (hq _ _ _ _ _ rfl).1).trans (hp _ _ _ _ rfl).1, ?_⟩
  rw [(hp _ _ _ _ rfl).2, (hq _ _ _ _ _ rfl).2, block_setBlock, if_pos rfl]
  refine congrArg (fun p => put j p (s.block f).pairs) ?_
  simp only [checkedPair, hon, hbad, Bool.true_eq_false, Bool.false_eq_true, or_self, if_false, beq_iff_eq]
  generalize 4 * cf (pairReg f j) 10 0 s + 1 = N
  generalize (if (pairX f j s).1 = (pairX f j s).2 then 0 else min ((look ({} : TwoPair) j (s.block f).pairs).c + 1) 8001) = n
  cases (pairX f j s).1 <;> cases (pairX f j s).2 <;> by_cases hN : n = N <;> simp [hN]

theorem OnlyPairs.pairX {f : Nat} {s t : State} (h : OnlyPairs f s t) (j : Nat) : pairX f j t = pairX f j s := by
  simp only [Machine.pairX, dioRead, dioWb, dioOut, h.dioOf, h.1.cbit]

theorem OnlyPairs.pairOn {f : Nat} {s t : State} (h : OnlyPairs f s t) (j : Nat) : pairOn f j t = pairOn f j s := h.1.cbit _ _

theorem OnlyPairs.pairBad {f : Nat} {s t : State} (h : OnlyPairs f s t) (j : Nat) : pairBad f j t = pairBad f j s := by
  simp only [Machine.pairBad, h.pairOn, h.1.cf, dioOut, h.1.cbit]

theorem checkedPair_congr {f j : Nat} {s t : State} (h : OnlyPairs f s t)
    (hp : look ({} : TwoPair) j (t.block f).pairs = look {} j (s.block f).pairs) : checkedPair f j t = checkedPair f j s := by
  simp only [checkedPair, hp, h.pairX, h.pairOn, h.pairBad, h.1.cf]

theorem look_pairCheck_own (f j : Nat) (s : State) : look ({} : TwoPair) j ((pairCheck f j s).block f).pairs = checkedPair f j s := by
  rw [(pairCheck_spec f j s).2]
  split
  · next h => simp only [checkedPair, if_pos h]
  · rw [look_put_same]

theorem look_pairCheck_other {f j k : Nat} (hk : k ≠ j) (s : State) :
    look ({} : TwoPair) k ((pairCheck f j s).block f).pairs = look {} k (s.block f).pairs := by
  rw [(pairCheck_spec f j s).2]
  split
  · rfl
  · rw [look_put_other _ hk]

/-- A check sample evaluates every pair of the block (R419). -/
theorem pairChecks_spec (f n : Nat) (s : State) :
    OnlyPairs f s ((List.range n).foldl (fun s j => pairCheck f j s) s) ∧ ∀ j,
      look ({} : TwoPair) j (((List.range n).foldl (fun s j => pairCheck f j s) s).block f).pairs
        = if j < n then checkedPair f j s else look {} j (s.block f).pairs :=
  foldl_range_each (fun j u => look ({} : TwoPair) j (u.block f).pairs) (checkedPair f) (OnlyPairs f) (.refl f)
    (fun _ _ _ => .trans) (fun u j => (pairCheck_spec f j u).1) (fun u _ _ h => look_pairCheck_other h u)
    (fun _ u i h hp => (look_pairCheck_own f i u).trans (checkedPair_congr h hp)) n s

/-- FLD_PAIR_CFG of pair `j` restarts the pair (R419). -/
theorem accessWrite_pairCfg {acc : Access} {f : Fin 4} {j : Fin 12} {v : Word} {s : State} (hw : WriteGranted acc (pairReg f j) v s)
    (hf : s.fldFitted f = true) :
    ∃ u, accessWrite acc (pairReg f j) v s = setBlock f (fun b => { b with pairs := del j.val b.pairs }) u ∧ u.block f = s.block f := by
  refine ⟨_, accessWrite_fld hw (findReg_pairCfg f j) rfl hf (by simp only [pairReg, fldReg]; omega), ?_⟩
  simp only [storeBits]
  split <;> simp [State.block]

/-! ### The commands of one DIO -/

/-- A diagnostic that turns an output off: its flag is set by `g`, it is recorded, and the block follows. -/
theorem dio_turnedOff (f c : Nat) {code : Nat} (hc : code / 0x1000 = 4) (g : Dio → Dio) (s : State) :
    let t := evalBlock f false (dioRecord f c code (setDio f c g s))
    ActsOnDio f c s t ∧ ((t.block f).dioOf c).overload = (g ((s.block f).dioOf c)).overload
      ∧ ((t.block f).dioOf c).overTemp = (g ((s.block f).dioOf c)).overTemp ∧ (156 + f, s.now) ∈ t.svc.toggles := by
  obtain ⟨h1, ⟨l, h2⟩, h3⟩ := dio_flagged f c hc g s
  have h := settles_evalBlock f false (dioRecord f c code (setDio f c g s))
  exact ⟨h1.trans (h.actsOnDio c), by rw [h.overload, h2], by rw [h.overTemp, h2], h.inside.told h3⟩

/-- Settles O37: each command acts on its own channel by the lemma about that command, and the rest of the block and of the state is kept by
`ActsOnDio` and `OnlyPairs`. -/
theorem digitalIoActs : Obligations.DigitalIoActs := by
  intro f c s b d does told
  refine ⟨?_, ?_, ?_, ?_, ?_, ?_, ?_, ?_, ?_, ?_, ?_, ?_, ?_⟩
  · intro level ns
    refine ⟨_, rfl, ?_, (actsOnDio_setDio f c _ (advance ns s)).frame⟩
    dsimp only
    rw [dioOf_setDio, if_pos rfl, block_advance]
  · intro hwb hfl
    obtain ⟨h1, ⟨l, h2⟩, h3⟩ := dio_flagged f c (code := 0x4013) rfl (fun d => { d with wireBreak := true }) s
    have hwb' : dioWb f c _ = true := (congrArg₂ (fun a b => a && !b) (h1.inside.cbit _ _) (h1.inside.cbit _ _)).trans hwb
    refine ⟨_, if_pos ⟨hwb, hfl⟩, ⟨by rw [h2], by rw [h2], ?_, h3⟩, h1.frame_now⟩
    simp only [dioRead, hwb', h2, Bool.and_self, Bool.not_true, Bool.and_false]
  · rintro (h | h)
    · exact if_neg (by simp [h])
    · exact if_neg (fun k => by simp [d, b, k.2] at h)
  · exact ⟨_, rfl, (dioOf_setDio f c c _ s).trans (if_pos rfl), (actsOnDio_setDio f c _ s).frame_now⟩
  · intro hout hfl
    obtain ⟨h1, h2, -, h3⟩ := dio_turnedOff f c (code := 0x4010) rfl (fun d => { d with overload := true }) s
    exact ⟨_, if_pos ⟨hout, hfl⟩, ⟨h2, dioDriven_of_flag (.inl h2), h3⟩, h1.frame_now⟩
  · rintro (h | h)
    · exact if_neg (by simp [h])
    · exact if_neg (fun k => by simp [d, b, k.2] at h)
  · intro hout hfl
    obtain ⟨h1, -, h2, h3⟩ := dio_turnedOff f c (code := 0x4011) rfl (fun d => { d with overTemp := true, hot := true }) s
    exact ⟨_, if_pos ⟨hout, hfl⟩, ⟨h2, dioDriven_of_flag (.inr h2), h3⟩, h1.frame_now⟩
  · rintro (h | h)
    · exact if_neg (by simp [h])
    · exact if_neg (fun k => by simp [d, b, k.2] at h)
  · intro hdr hen hpwm hfl
    obtain ⟨h1, ⟨l, h2⟩, h3⟩ := dio_flagged f c (code := 0x4012) rfl (fun d => { d with openWire := true }) s
    refine ⟨_, if_pos ?_, ⟨by rw [h2], ?_, h3⟩, h1.frame_now⟩
    · simp only [d, b] at hpwm hfl
      simp [hdr, hen, hpwm, hfl]
    · rw [h1.dioDriven_of (by rw [h2]) (by rw [h2]), hdr]
  · exact ⟨_, rfl, (dioOf_setDio f c c _ s).trans (if_pos rfl), (actsOnDio_setDio f c _ s).frame_now⟩
  · intro acc k v hf hw
    obtain ⟨h1, h2, h3, h4, h5⟩ := writeDioDiag_spec f k c v (advance acc.at_ s)
    refine ⟨_, congrArg Host.Outcome.next (accessWrite_dioDiag hw hf), ?_⟩
    rw [block_advance] at h2 h3 h4 h5
    refine ⟨h2, h3, h4, fun hv hl hp => h5 hv hl ?_⟩
    rw [fclkPassed_iff, ← h1]
    exact hp
  · intro ns
    obtain ⟨h1, h2⟩ := pairChecks_spec f 12 (advance ns s)
    refine ⟨_, rfl, fun g hg => (h1.1.others g hg).trans (block_advance g ns s), h1.1.noted, fun j hj => (h2 j).trans ((if_pos hj).trans ?_)⟩
    simp only [checkedPair, pairX, pairOn, pairBad, dioRead, dioWb, dioOut, cbit, cf, advance_ctlGet, block_advance]
    rfl
  · intro acc j v hf hw
    obtain ⟨u, hu, hb⟩ := accessWrite_pairCfg hw hf
    refine ⟨_, congrArg Host.Outcome.next hu, ?_, fun k hk => ?_⟩
    · simp [look_del]
    · rw [block_setBlock, if_pos rfl, hb, look_del, if_neg hk]

end Sys2Proof.Machine
end

section
/-!
PROOFS. Load switches (O38).
-/
namespace Sys2Proof.Machine

/-- Inside block `f` nothing but switch `i`, the last code and the DTIMEs since which outputs are low differs. -/
structure ActsOnLs (f i : Nat) (s t : State) : Prop extends Settles f s t where
  ls : ∀ k, k ≠ i → (t.block f).lsOf k = (s.block f).lsOf k
  so : (t.block f).so = (s.block f).so

theorem ActsOnLs.trans {f i : Nat} {s t u : State} (h : ActsOnLs f i s t) (k : ActsOnLs f i t u) : ActsOnLs f i s u :=
  ⟨h.toSettles.trans k.toSettles, fun n hn => (k.ls n hn).trans (h.ls n hn), k.so.trans h.so⟩

theorem lsOf_setLs (f i k : Nat) (g : LoadSwitch → LoadSwitch) (s : State) :
    ((setLs f i g s).block f).lsOf k = if k = i then g ((s.block f).lsOf i) else (s.block f).lsOf k := by
  simp [Block.lsOf, look_upd]

theorem actsOnLs_setLs (f i : Nat) (g : LoadSwitch → LoadSwitch) (s : State) : ActsOnLs f i s (setLs f i g s) :=
  ⟨settles_setLs f i g s, fun k hk => by rw [lsOf_setLs, if_neg hk], by simp⟩

theorem actsOnLs_blkRecord (f i : Nat) {code : Nat} (hc : code / 0x1000 = 4) (args : List Nat) (s : State) :
    ActsOnLs f i s (blkRecord f code args s) := ⟨settles_blkRecord f hc args s, fun k _ => by simp [Block.lsOf], by simp⟩

theorem actsOnLs_raise (f i n : Nat) (s : State) : ActsOnLs f i s (raise n s) := ⟨settles_raise f n s, fun _ _ => rfl, rfl⟩

theorem actsOnLs_lsEval (f i : Nat) (s : State) : ActsOnLs f i s (lsEval f i s) :=
  ⟨settles_lsEval f i s, fun _ hk => ls_lsEval_other f i _ hk s, so_lsEval f i s⟩

theorem lsOf_blkRecord (f i code : Nat) (args : List Nat) (s : State) : ((blkRecord f code args s).block f).lsOf i = (s.block f).lsOf i := by
  simp [Block.lsOf]

theorem ActsOnLs.lsDemand {f i : Nat} {s t : State} (h : ActsOnLs f i s t) (k : Nat) : lsDemand f k t = lsDemand f k s :=
  h.toSteady.lsDemand k (fun _ => by simp only [Block.soOf, h.so])

/-- What `LoadSwitchesAct` says of every command of one switch besides its own effect. -/
theorem ActsOnLs.frame {f i ns : Nat} {s t : State} (h : ActsOnLs f i (advance ns s) t) :
    (∀ g, g ≠ f → t.block g = s.block g) ∧ (∀ k, k ≠ i → (t.block f).lsOf k = (s.block f).lsOf k) ∧ (t.block f).so = (s.block f).so
      ∧ t = { (advance ns s).noted t with fld := t.fld } :=
  ⟨fun g hg => (h.inside.others g hg).trans (block_advance g ns s), fun k hk => (h.ls k hk).trans (by rw [block_advance]),
    h.so.trans (by rw [block_advance]), h.inside.noted⟩

theorem ActsOnLs.frame_now {f i : Nat} {s t : State} (h : ActsOnLs f i s t) :
    (∀ g, g ≠ f → t.block g = s.block g) ∧ (∀ k, k ≠ i → (t.block f).lsOf k = (s.block f).lsOf k) ∧ (t.block f).so = (s.block f).so
      ∧ t = { s.noted t with fld := t.fld } := ⟨h.inside.others, h.ls, h.so, h.inside.noted⟩

/-! ### Waiting pulses -/

/-- Without a waiting pulse nothing starts. -/
theorem startWaiting_of_quiet {f j : Nat} {s : State} (h : ((s.block f).soOf j).waitA = false ∧ ((s.block f).soOf j).waitB = false) :
    startWaiting f j s = s := by
  simp [startWaiting, h.1, h.2]

/-- A switch that is ON is ON or in a pulse when a waiting pulse may have started. -/
theorem lsOf_startWaiting (f j i : Nat) (s : State) (h : ((s.block f).lsOf i).st = .on) :
    (((startWaiting f j s).block f).lsOf i).st = .on ∨ (((startWaiting f j s).block f).lsOf i).st = .pulse := by
  have hs : ∀ k g, (((setLs f k (fun l => { l with st := .pulse }) (setSo f j g s)).block f).lsOf i).st = .on
      ∨ (((setLs f k (fun l => { l with st := .pulse }) (setSo f j g s)).block f).lsOf i).st = .pulse := by
    intro k g
    rw [lsOf_setLs]
    split
    · exact .inr rfl
    · exact .inl (by simpa [Block.lsOf] using h)
  simp only [startWaiting]
  split
  · split
    · exact hs _ _
    · split
      · exact hs _ _
      · exact .inl h
  · exact .inl h

/-- The switch turns ON, and a pulse that waits for it starts. -/
theorem ls_turnsOn (f i : Nat) (s : State) :
    let t := startWaiting f (i / 2) (setLs f i (fun l => { l with st := .on }) s)
    (((s.block f).soOf (i / 2)).waitA = false ∧ ((s.block f).soOf (i / 2)).waitB = false →
      ActsOnLs f i s t ∧ (t.block f).lsOf i = { (s.block f).lsOf i with st := .on })
    ∧ ((((t.block f).lsOf i).st = .on ∨ ((t.block f).lsOf i).st = .pulse) ∧ t = { s.noted t with fld := t.fld }) := by
  intro t
  have hon : ((setLs f i (fun l => { l with st := .on }) s).block f).lsOf i = { (s.block f).lsOf i with st := .on } := by
    rw [lsOf_setLs, if_pos rfl]
  refine ⟨fun hq => ?_, lsOf_startWaiting f (i / 2) i _ (by rw [hon]), ?_⟩
  · have ht : t = setLs f i (fun l => { l with st := .on }) s := startWaiting_of_quiet (by simpa [Block.soOf] using hq)
    rw [ht]
    exact ⟨actsOnLs_setLs f i _ s, hon⟩
  · exact ((settles_setLs f i _ s).trans (settles_startWaiting f (i / 2) _)).inside.noted

/-! ### Thermal shutdown (R423 to R425, R429) -/

theorem lsOf_lsEval_latched {f i : Nat} {s : State} (h : ((s.block f).lsOf i).st = .latched) :
    ((lsEval f i s).block f).lsOf i = if lsDemand f i s then (s.block f).lsOf i else { (s.block f).lsOf i with u := 0 } := by
  simp only [lsEval, h]
  split
  · rfl
  · rw [lsOf_setLs, if_pos rfl, h]

theorem lsOf_lsEval_cooling {f i : Nat} {s : State} (h : ((s.block f).lsOf i).st = .cooling) :
    ((lsEval f i s).block f).lsOf i = if lsDemand f i s then (s.block f).lsOf i else { (s.block f).lsOf i with st := .off, u := 0 } := by
  simp only [lsEval, h]
  split
  · rfl
  · rw [lsOff, lsOf_setLs, if_pos rfl]

/-- A latched switch stays latched whatever switch follows its demand. -/
theorem latched_lsEval {f i : Nat} (k : Nat) {s : State} (h : ((s.block f).lsOf i).st = .latched) : (((lsEval f k s).block f).lsOf i).st = .latched := by
  by_cases hk : i = k
  · subst hk
    rw [lsOf_lsEval_latched h]
    split <;> simpa using h
  · rw [ls_lsEval_other f k i hk, h]

theorem soOf_setSo (f j k : Nat) (g : SoPair → SoPair) (s : State) :
    ((setSo f j g s).block f).soOf k = if k = j then g ((s.block f).soOf j) else (s.block f).soOf k := by
  simp [Block.soOf, look_upd]

theorem soOf_soSet (f j k : Nat) (st : SoState) (s : State) : ((soSet f j st s).block f).soOf k = if k = j then
    { (s.block f).soOf j with st := st, pulse := none, readBack := false, waitA := false, waitB := false
                              fbRun := if ((s.block f).soOf j).st.isOn = st.isOn then ((s.block f).soOf j).fbRun else 0 }
    else (s.block f).soOf k := soOf_setSo f j k _ s

/-- A pair that takes a fault (R429): its state, its cause and its event; every other pair is as it was. -/
theorem soFault_spec (f j cause : Nat) {code : Nat} (hc : code / 0x1000 = 4) (args : List Nat) (s : State) :
    let t := soFault f j cause code args s
    ((t.block f).soOf j).st = .fault ∧ ((t.block f).soOf j).cause = cause ∧ ((t.block f).soOf j).fbRun = 0
      ∧ (∀ k, k ≠ j → (t.block f).soOf k = (s.block f).soOf k) ∧ (164 + 4 * f + j, s.now) ∈ t.svc.toggles := by
  intro t
  have hso : ∀ k, (t.block f).soOf k
      = ((setSo f j (fun p => { p with cause := cause, lastCode := code, fbRun := 0 }) (soSet f j .fault s)).block f).soOf k := by
    intro k
    simp only [t, soFault, block_raise, block_blkRecord, if_true, Block.soOf, so_lsEval]
  have ht : t.svc.toggles = _ ++ [(164 + 4 * f + j, (blkRecord f code (j :: args) (lsEval f (2 * j + 1) (lsEval f (2 * j)
      (setSo f j (fun p => { p with cause := cause, lastCode := code, fbRun := 0 }) (soSet f j .fault s))))).now)] := raise_toggles _ _
  have hn := ((((settles_soSet f j .fault s).trans (settles_setSo f j (fun p => { p with cause := cause, lastCode := code, fbRun := 0 }) _)).trans
    ((settles_lsEval f (2 * j) _).trans (settles_lsEval f (2 * j + 1) _))).trans (settles_blkRecord f hc (j :: args) _)).inside.now
  refine ⟨?_, ?_, ?_, fun k hk => ?_, ?_⟩
  · rw [hso, soOf_setSo, if_pos rfl, soOf_soSet, if_pos rfl]
  · rw [hso, soOf_setSo, if_pos rfl]
  · rw [hso, soOf_setSo, if_pos rfl]
  · rw [hso, soOf_setSo, if_neg hk, soOf_soSet, if_neg hk]
  · rw [ht, hn]
    simp

theorem latched_soFault {f i j cause code : Nat} {args : List Nat} {s : State} (h : ((s.block f).lsOf i).st = .latched) :
    (((soFault f j cause code args s).block f).lsOf i).st = .latched := by
  simp only [soFault, block_raise, block_blkRecord, if_true]
  have h1 : ((setSo f j (fun p => { p with cause := cause, lastCode := code, fbRun := 0 }) (soSet f j .fault s)).block f).lsOf i
      = (s.block f).lsOf i := by simp [soSet, Block.lsOf]
  exact latched_lsEval (2 * j + 1) (latched_lsEval (2 * j) (by rw [h1]; exact h))

/-- The state of a switch that has shut down, before its demand acts on it (R423, R424). -/
def shutDown (f i : Nat) (latched : Bool) (u : Nat) (s : State) : State :=
  let s2 := blkRecord f 0x4030 [i, u] (setLs f i (fun l => { l with st := if latched then .latched else .cooling, u := u }) s)
  raise (160 + f) (if latched then blkRecord f 0x4031 [i] s2 else s2)

theorem shutDown_spec (f i : Nat) (latched : Bool) (u : Nat) (s : State) :
    ActsOnLs f i s (shutDown f i latched u s)
      ∧ ((shutDown f i latched u s).block f).lsOf i = { (s.block f).lsOf i with st := if latched then .latched else .cooling, u := u } := by
  have h := (actsOnLs_setLs f i (fun l => { l with st := if latched then .latched else .cooling, u := u }) s).trans
    (actsOnLs_blkRecord f i (code := 0x4030) rfl [i, u] _)
  have hl : ((blkRecord f 0x4030 [i, u] (setLs f i (fun l => { l with st := if latched then .latched else .cooling, u := u }) s)).block f).lsOf i
      = { (s.block f).lsOf i with st := if latched then .latched else .cooling, u := u } := by
    rw [lsOf_blkRecord, lsOf_setLs, if_pos rfl]
  cases latched
  · exact ⟨h.trans (actsOnLs_raise f i _ _), hl⟩
  · exact ⟨(h.trans (actsOnLs_blkRecord f i (code := 0x4031) rfl [i] _)).trans (actsOnLs_raise f i _ _), (lsOf_blkRecord f i _ _ _).trans hl⟩

/-- THERMAL_SHUTDOWN of a conducting switch by what its configuration makes of it. -/
theorem execThermalShutdown_of_conducts {f : Fin 4} {i : Fin 8} {s : State} (h : ((s.block f).lsOf i).st.conducts = true) {latched : Bool} {u : Nat}
    (hu : (if lsPaired f i s || cbit (fldReg f (0x300 + 4 * i)) 2 s then ((s.block f).lsOf i).u else ((s.block f).lsOf i).u + 1) = u)
    (hl : (lsPaired f i s || cbit (fldReg f (0x300 + 4 * i)) 2 s || decide (cf (fldReg f (0x300 + 4 * i)) 11 8 s < u)) = latched) :
    execThermalShutdown f i s = .next (if lsPaired f i s && ((s.block f).soOf (i / 2)).st.isOn
      then soFault f (i / 2) 3 0x4043 [] (shutDown f i latched u s) else lsEval f i (shutDown f i latched u s)) := by
  subst hl
  subst hu
  simp only [execThermalShutdown, h, Bool.not_true, Bool.false_eq_true, if_false, ← apply_ite]
  rfl

/-- The demand acts on a switch that has shut down (R423, R424). -/
theorem lsOf_lsEval_shutDown (f i : Nat) (latched : Bool) (u : Nat) (s : State) :
    ((lsEval f i (shutDown f i latched u s)).block f).lsOf i = { (s.block f).lsOf i with
      st := if latched then .latched else if lsDemand f i s then .cooling else .off, u := if lsDemand f i s then u else 0 } := by
  obtain ⟨h1, h2⟩ := shutDown_spec f i latched u s
  cases latched
  · rw [lsOf_lsEval_cooling (by rw [h2]; rfl), h1.lsDemand, h2]
    cases lsDemand f i s <;> rfl
  · rw [lsOf_lsEval_latched (by rw [h2]; rfl), h1.lsDemand, h2]
    cases lsDemand f i s <;> rfl

/-- Settles O38: what each command does to its switch is read off its definition, and the rest of the block and of the state is kept by
`ActsOnLs`; the thermal shutdown goes by latch bit, retry limit, demand and pair. -/
theorem loadSwitchesAct : Obligations.LoadSwitchesAct := by
  intro f i ns s b l u now quiet r latchBit does onOrPulse
  have hb : u.block f = b := block_advance f ns s
  refine ⟨?_, ?_, ?_, ?_, ?_, ?_, ?_, ?_, ?_, ?_, ?_, ?_, ?_, ?_, ?_⟩
  · intro hst hpass
    have he : exec (.loadSwitchInrushEnd f i ns) s = .next (startWaiting f (i / 2) (setLs f i (fun l => { l with st := .on }) u)) := by
      refine if_pos ⟨by rw [block_advance]; exact hst, ?_⟩
      rw [fclkPassed_iff, block_advance]
      simpa [inrushNs, cf] using hpass
    obtain ⟨h1, h2⟩ := ls_turnsOn f i u
    rw [hb] at h1
    exact ⟨fun hq => ⟨_, he, (h1 hq).2, (h1 hq).1.frame⟩, ⟨_, he, h2⟩⟩
  · intro h
    refine if_neg (fun hk => ?_)
    obtain ⟨h1, h2⟩ := hk
    rw [fclkPassed_iff, block_advance] at h2
    rw [block_advance] at h1
    obtain h | h := h
    · exact h h1
    · refine absurd h2 (Nat.not_le.mpr ?_)
      simpa [inrushNs, cf] using h
  · intro hst
    exact ⟨_, if_pos hst, by rw [lsOf_setLs, if_pos rfl], (actsOnLs_setLs f i _ s).frame_now⟩
  · exact fun hst => if_neg hst
  · intro hst
    obtain ⟨h1, h2⟩ := ls_turnsOn f i s
    exact ⟨fun hq => ⟨_, if_pos hst, (h1 hq).2, (h1 hq).1.frame_now⟩, ⟨_, if_pos hst, h2⟩⟩
  · exact fun hst => if_neg hst
  · intro hc hpair
    have he := execThermalShutdown_of_conducts (f := f) (i := i) hc rfl rfl
    simp only [hpair, Bool.false_or, Bool.false_and, Bool.false_eq_true, if_false] at he
    refine ⟨_, he, (lsOf_lsEval_shutDown ..).trans ?_, ((shutDown_spec ..).1.trans (actsOnLs_lsEval ..)).frame_now⟩
    simp only [latchBit, r, l, b]
    cases cbit (fldReg f (0x300 + 4 * i)) 2 s
    · by_cases hr : cf (fldReg f (0x300 + 4 * i)) 11 8 s < ((s.block f).lsOf i).u + 1 <;> cases lsDemand f i s <;> simp [hr]
    · cases lsDemand f i s <;> rfl
  · intro hc hpair hon
    have he := execThermalShutdown_of_conducts (f := f) (i := i) hc rfl rfl
    simp only [hpair, Bool.true_or, Bool.true_and, if_true] at he
    rw [if_pos (show ((s.block f).soOf (i / 2)).st.isOn = true from hon)] at he
    obtain ⟨h1, h2⟩ := shutDown_spec f i true l.u s
    obtain ⟨k1, k2, -⟩ := soFault_spec f (i / 2) 3 (code := 0x4043) rfl [] (shutDown f i true l.u s)
    exact ⟨_, he, latched_soFault (by rw [h2]; rfl), k1, k2, (h1.toSettles.trans (settles_soFault f _ 3 rfl [] _)).inside.noted⟩
  · intro hc hpair hon
    have he := execThermalShutdown_of_conducts (f := f) (i := i) hc rfl rfl
    simp only [hpair, Bool.true_or, if_true] at he
    rw [show ((s.block f).soOf (i / 2)).st.isOn = false from hon] at he
    have hd : lsDemand f i s = false := by simp only [lsDemand, hpair, if_true]; exact hon
    refine ⟨_, he, (lsOf_lsEval_shutDown ..).trans ?_, ((shutDown_spec ..).1.trans (actsOnLs_lsEval ..)).frame_now⟩
    rw [hd]
    rfl
  · intro hc
    exact if_pos (by simp only [l, b] at hc; simp [hc])
  · intro hst hd huv
    refine ⟨_, if_pos ⟨hst, hd, huv⟩, ?_, ((actsOnLs_blkRecord f i rfl [i.val] s).trans (actsOnLs_setLs f i _ _)).frame_now⟩
    have hn := (actsOnLs_blkRecord f i (code := 0x4034) rfl [i.val] s).inside.now
    rw [lsOn, lsOf_setLs, if_pos rfl, lsOf_blkRecord, hn]
  · intro h
    refine if_neg (fun hk => ?_)
    obtain ⟨h1, h2, h3⟩ := hk
    simp only [l, b, h1, h2, h3] at h
    simp at h
  · intro hc ho hpass
    have h1 := (actsOnLs_setLs f i (fun l => { l with openLoad := true }) u).trans (actsOnLs_blkRecord f i (code := 0x4033) rfl [i.val] _)
    refine ⟨_, if_pos ⟨by rw [block_advance]; exact hc, by rw [block_advance]; exact ho, ?_⟩, ?_, h1.frame⟩
    · rw [lsOf_blkRecord, lsOf_setLs, if_pos rfl, block_advance]
    · rw [fclkPassed_iff, block_advance]
      exact hpass
  · exact ⟨_, rfl, by rw [lsOf_setLs, if_pos rfl], (actsOnLs_setLs f i _ s).frame_now⟩
  · intro hc hpass
    refine ⟨_, if_pos ⟨by rw [block_advance]; exact hc, ?_⟩, ?_, (actsOnLs_setLs f i _ u).frame⟩
    · rw [lsOf_setLs, if_pos rfl, block_advance]
    · rw [fclkPassed_iff, block_advance]
      exact hpass

end Sys2Proof.Machine
end

section
/-!
PROOFS. Safety output pairs and wheel-sensor systems (O39).
-/
namespace Sys2Proof.Machine

/-! ### One pair -/

/-- Inside block `f` nothing but pair `j`, switches, the last code and the DTIMEs since which outputs are low differs. -/
structure ActsOnSo (f j : Nat) (s t : State) : Prop extends Settles f s t where
  so : ∀ k, k ≠ j → (t.block f).soOf k = (s.block f).soOf k

theorem ActsOnSo.refl (f j : Nat) (s : State) : ActsOnSo f j s s := ⟨.refl f s, fun _ _ => rfl⟩

theorem ActsOnSo.trans {f j : Nat} {s t u : State} (h : ActsOnSo f j s t) (k : ActsOnSo f j t u) : ActsOnSo f j s u :=
  ⟨h.toSettles.trans k.toSettles, fun n hn => (k.so n hn).trans (h.so n hn)⟩

theorem actsOnSo_setSo (f j : Nat) (g : SoPair → SoPair) (s : State) : ActsOnSo f j s (setSo f j g s) :=
  ⟨settles_setSo f j g s, fun k hk => by rw [soOf_setSo, if_neg hk]⟩

theorem actsOnSo_soSet (f j : Nat) (st : SoState) (s : State) : ActsOnSo f j s (soSet f j st s) := actsOnSo_setSo f j _ s

theorem actsOnSo_of_so {f : Nat} (j : Nat) {s t : State} (h : Settles f s t) (hso : (t.block f).so = (s.block f).so) : ActsOnSo f j s t :=
  ⟨h, fun k _ => by simp only [Block.soOf, hso]⟩

theorem actsOnSo_setLs (f j i : Nat) (g : LoadSwitch → LoadSwitch) (s : State) : ActsOnSo f j s (setLs f i g s) :=
  actsOnSo_of_so j (settles_setLs f i g s) (by simp)

theorem actsOnSo_lsEval (f j i : Nat) (s : State) : ActsOnSo f j s (lsEval f i s) := actsOnSo_of_so j (settles_lsEval f i s) (so_lsEval f i s)

theorem actsOnSo_soFault (f j cause : Nat) {code : Nat} (hc : code / 0x1000 = 4) (args : List Nat) (s : State) :
    ActsOnSo f j s (soFault f j cause code args s) := ⟨settles_soFault f j cause hc args s, (soFault_spec f j cause hc args s).2.2.2.1⟩

theorem actsOnSo_soOffRows (f j : Nat) (s : State) : ActsOnSo f j s (soOffRows f j s) := by
  unfold soOffRows
  split
  · exact .refl f j s
  · split
    · exact (actsOnSo_soSet f j _ s).trans ((actsOnSo_lsEval f j _ _).trans (actsOnSo_lsEval f j _ _))
    · exact actsOnSo_soFault f j 2 rfl _ s

theorem actsOnSo_startWaiting (f j : Nat) (s : State) : ActsOnSo f j s (startWaiting f j s) := by
  simp only [startWaiting]
  split
  · split
    · exact (actsOnSo_setSo f j _ s).trans (actsOnSo_setLs f j _ _ _)
    · split
      · exact (actsOnSo_setSo f j _ s).trans (actsOnSo_setLs f j _ _ _)
      · exact .refl f j s
  · exact .refl f j s

theorem actsOnSo_soEval (f j : Nat) (applied : Bool) (s : State) : ActsOnSo f j s (soEval f j applied s) := by
  simp only [soEval]
  split
  · split
    · exact actsOnSo_soSet f j _ s
    · exact .refl f j s
  · split
    · exact .refl f j s
    · have hon : ∀ p q : Bool, ActsOnSo f j s (if p then soSet f j .stopping s else if q then soSet f j .undervolt s else s) := by
        intro p q
        cases p
        · cases q
          · exact .refl f j s
          · exact actsOnSo_soSet f j _ s
        · exact actsOnSo_soSet f j _ s
      split
      · exact actsOnSo_soOffRows f j s
      · exact hon _ _
      · exact hon _ _
      · exact .refl f j s
      · exact .refl f j s
      · exact .refl f j s
      · exact .refl f j s

theorem ActsOnSo.frame {f j ns : Nat} {s t : State} (h : ActsOnSo f j (advance ns s) t) :
    (∀ g, g ≠ f → t.block g = s.block g) ∧ t = { (advance ns s).noted t with fld := t.fld } :=
  ⟨fun g hg => (h.inside.others g hg).trans (block_advance g ns s), h.inside.noted⟩

/-! ### Everything follows its demands -/

/-- Pair `j` after the block has followed its demands is what its own demand made of it (R429). -/
theorem soOf_evalBlock (f j : Nat) (applied : Bool) (s : State) (hj : j < 4) :
    ∃ u, Settles f s u ∧ (u.block f).soOf j = (s.block f).soOf j
      ∧ ((evalBlock f applied s).block f).soOf j = ((soEval f j applied u).block f).soOf j := by
  obtain ⟨u, h1, h2, -, h4⟩ := foldl_range_at (fun j (u : State) => (u.block f).soOf j) (Settles f) (.refl f) (fun _ _ _ => .trans)
    (fun u i => settles_soEval f i applied u) (fun u i k hk => (actsOnSo_soEval f i applied u).so k hk) j 4 s hj
  refine ⟨u, h1, h2, ?_⟩
  rw [evalBlock, lsEvalAll, ← h4]
  refine (foldl_keeps (fun u : State => (u.block f).soOf j) (fun u c => ?_) _ _).trans
    (foldl_keeps (fun u : State => (u.block f).soOf j) (fun u i => by simp only [Block.soOf, so_lsEval]) _ _)
  dsimp only
  split
  · simp [Block.soOf]
  · split <;> simp [Block.soOf]

/-- A pair in INTERLOCK stays there until a released demand of 0 has been applied (R429). -/
theorem interlock_evalBlock {f j : Nat} {s : State} (hj : j < 4) (h : ((s.block f).soOf j).st = .interlock) :
    ((evalBlock f false s).block f).soOf j = (s.block f).soOf j := by
  obtain ⟨u, -, h2, h3⟩ := soOf_evalBlock f j false s hj
  rw [h3]
  simp [soEval, h2, h]

/-! ### Check samples (R427, R429) -/

/-- A pair within its feedback time does not time out. -/
theorem soTimeout_of_within {f j : Nat} {s : State}
    (h : soEnabled f j s = false ∨ ((s.block f).soOf j).st = .fault ∨ ((s.block f).soOf j).fbRun ≤ soN f j s) : soTimeout f j s = s := by
  obtain h | h | h := h
  · simp [soTimeout, h]
  · simp [soTimeout, h]
  · simp [soTimeout, Nat.not_lt.mpr h]

theorem soTimeout_of_beyond {f j : Nat} {s : State} (h1 : soEnabled f j s = true) (h2 : ((s.block f).soOf j).st ≠ .fault)
    (h3 : soN f j s < ((s.block f).soOf j).fbRun) : soTimeout f j s = soFault f j 2 0x4042 [] s := by
  simp [soTimeout, h1, h2, h3]

theorem actsOnSo_soTimeout (f j : Nat) (s : State) : ActsOnSo f j s (soTimeout f j s) := by
  simp only [soTimeout]
  split
  · exact actsOnSo_soFault f j 2 rfl _ s
  · exact .refl f j s

theorem actsOnSo_soCheck (f j : Nat) (s : State) : ActsOnSo f j s (soCheck f j s) := by
  simp only [soCheck]
  have h1 := actsOnSo_soTimeout f j s
  generalize soTimeout f j s = u at h1
  refine h1.trans ?_
  split
  · exact .refl f j u
  · have h2 := fun g => actsOnSo_setSo f j g u
    split
    · split
      · exact (h2 _).trans ((actsOnSo_soSet f j _ _).trans (actsOnSo_setSo f j _ _))
      · exact h2 _
    · split
      · exact (h2 _).trans ((actsOnSo_soSet f j _ _).trans (actsOnSo_soOffRows f j _))
      · exact h2 _
    · split
      · exact (h2 _).trans ((actsOnSo_soSet f j _ _).trans (actsOnSo_soOffRows f j _))
      · exact h2 _
    · exact h2 _

theorem soCheck_of_off {f j : Nat} {s : State} (h : soEnabled f j s = false ∨ ((s.block f).soOf j).st = .fault) : soCheck f j s = s := by
  have ht : soTimeout f j s = s := soTimeout_of_within (h.imp_right .inl)
  simp only [soCheck, ht]
  obtain h | h := h <;> simp [h]

theorem soOffRows_of_noDemand {f j : Nat} {s : State} (h : soDemand f j s = false) : soOffRows f j s = s := by simp [soOffRows, h]

/-- What a check sample leaves with an enabled pair that is not in FAULT. -/
theorem soCheck_spec {f j : Nat} {s : State} (hen : soEnabled f j s = true) (hf : ((s.block f).soOf j).st ≠ .fault) :
    let p := (s.block f).soOf j
    let q := ((soCheck f j s).block f).soOf j
    (soN f j s < p.fbRun → q.st = .fault ∧ q.cause = 2)
    ∧ (p.fbRun ≤ soN f j s →
      (p.st = .starting ∧ soAgrees f j false s = true → q.st = .on ∧ q.tOn = s.now ∧ q.mA = 1 ∧ q.mB = 1)
      ∧ (p.st = .stopping ∧ soAgrees f j true s = true ∧ soDemand f j s = false → q.st = .off)
      ∧ ((p.st = .starting ∨ p.st = .on) ∧ soAgrees f j false s = false → q.st = p.st ∧ q.fbRun = p.fbRun + 1)
      ∧ ((p.st = .off ∨ p.st = .interlock ∨ p.st = .stopping ∨ p.st = .undervolt) ∧ soAgrees f j true s = false →
          q.st = p.st ∧ q.fbRun = p.fbRun + 1)) := by
  intro p q
  refine ⟨fun h => ?_, fun h => ?_⟩
  · have ht := soTimeout_of_beyond hen hf h
    obtain ⟨h1, h2, -⟩ := soFault_spec f j 2 (code := 0x4042) rfl [] s
    have hq : soCheck f j s = soFault f j 2 0x4042 [] s := by
      simp only [soCheck, ht]
      simp [h1]
    simp only [q, hq]
    exact ⟨h1, h2⟩
  · have ht : soTimeout f j s = s := soTimeout_of_within (.inr (.inr h))
    have hq : ∀ g, ((setSo f j g s).block f).soOf j = g p := fun g => by rw [soOf_setSo, if_pos rfl]
    have hfb : (p.st == .fault) = false := by simpa [p] using hf
    refine ⟨?_, ?_, ?_, ?_⟩
    · rintro ⟨hst, ha⟩
      have : q = ((setSo f j (fun p => { p with tOn := s.now, mA := 1, mB := 1 }) (soSet f j .on (setSo f j (fun p =>
          { p with fbRun := 0 }) s))).block f).soOf j := by
        simp [q, soCheck, ht, hen, show ((s.block f).soOf j).st = .starting from hst, SoState.isOn, ha]
      rw [this, soOf_setSo, if_pos rfl, soOf_soSet, if_pos rfl]
      exact ⟨rfl, rfl, rfl, rfl⟩
    · rintro ⟨hst, ha, hd⟩
      have : q = ((soOffRows f j (soSet f j .off (setSo f j (fun p => { p with fbRun := 0 }) s))).block f).soOf j := by
        simp [q, soCheck, ht, hen, show ((s.block f).soOf j).st = .stopping from hst, SoState.isOn, ha]
      have hs := (settles_setSo f j (fun p => { p with fbRun := 0 }) s).trans (settles_soSet f j .off _)
      rw [this, soOffRows_of_noDemand (by rw [hs.soDemand, hd]), soOf_soSet, if_pos rfl]
    · rintro ⟨hst, ha⟩
      have : q = ((setSo f j (fun p => { p with fbRun := p.fbRun + 1 }) s).block f).soOf j := by
        obtain hst | hst := hst <;>
          simp [q, soCheck, ht, hen, show ((s.block f).soOf j).st = _ from hst, SoState.isOn, ha]
      rw [this, hq]
      exact ⟨rfl, rfl⟩
    · rintro ⟨hst, ha⟩
      have : q = ((setSo f j (fun p => { p with fbRun := p.fbRun + 1 }) s).block f).soOf j := by
        obtain hst | hst | hst | hst := hst <;>
          simp [q, soCheck, ht, hen, show ((s.block f).soOf j).st = _ from hst, SoState.isOn, ha]
      rw [this, hq]
      exact ⟨rfl, rfl⟩

theorem soN_of_inside {f j : Nat} {s t : State} (h : Inside f s t) : soN f j t = soN f j s := by simp only [soN, h.cf]

/-- A check sample of a block checks each pair once. -/
theorem soOf_soChecks (f j : Nat) (s : State) (hj : j < 4) :
    ∃ u, Settles f s u ∧ (u.block f).soOf j = (s.block f).soOf j ∧ Settles f s ((List.range 4).foldl (fun s j => soCheck f j s) s)
      ∧ (((List.range 4).foldl (fun s j => soCheck f j s) s).block f).soOf j = ((soCheck f j u).block f).soOf j :=
  foldl_range_at (fun j u => (u.block f).soOf j) (Settles f) (.refl f) (fun _ _ _ => .trans)
    (fun u i => (actsOnSo_soCheck f i u).toSettles) (fun u i k hk => (actsOnSo_soCheck f i u).so k hk) j 4 s hj

/-! ### Test pulses (R430 to R432) -/

/-- A pulse that waits changes of its pair what concerns pulses alone. -/
theorem soOf_startWaiting (f j : Nat) (s : State) : ∃ wa wb pu rb, ((startWaiting f j s).block f).soOf j
    = { (s.block f).soOf j with waitA := wa, waitB := wb, pulse := pu, readBack := rb } := by
  have hs : ∀ k g h, ((setLs f k h (setSo f j g s)).block f).soOf j = g ((s.block f).soOf j) := by
    intro k g h
    have := soOf_setSo f j j g s
    rw [if_pos rfl] at this
    rw [← this]
    simp [Block.soOf]
  simp only [startWaiting]
  split
  · split
    · exact ⟨_, _, _, _, hs _ _ _⟩
    · split
      · exact ⟨_, _, _, _, hs _ _ _⟩
      · exact ⟨_, _, _, _, rfl⟩
  · exact ⟨_, _, _, _, rfl⟩

/-- While a pulse is in progress no other starts. -/
theorem startWaiting_of_pulse {f j : Nat} {s : State} (h : ((s.block f).soOf j).pulse ≠ none) : startWaiting f j s = s := by
  simp [startWaiting, h]

/-- A pulse that is due starts when both switches are ON and none waits (R430). -/
theorem startWaiting_of_due {f j : Nat} {s : State} (second : Bool) (hon : ((s.block f).soOf j).st = .on) (hp : ((s.block f).soOf j).pulse = none)
    (ha : ((s.block f).soOf j).waitA = !second) (hb : ((s.block f).soOf j).waitB = second) (h1 : ((s.block f).lsOf (2 * j)).st = .on)
    (h2 : ((s.block f).lsOf (2 * j + 1)).st = .on) :
    (((startWaiting f j s).block f).soOf j).pulse = some (second, s.now)
      ∧ (((startWaiting f j s).block f).lsOf (2 * j + b2n second)).st = .pulse := by
  have he : ∃ g, startWaiting f j s = setLs f (2 * j + b2n second) (fun l => { l with st := .pulse }) (setSo f j g s)
      ∧ (g ((s.block f).soOf j)).pulse = some (second, s.now) := by
    cases second
    · exact ⟨_, by simp only [startWaiting, hon, hp, ha, h1, h2]; rfl, rfl⟩
    · exact ⟨_, by simp only [startWaiting, hon, hp, ha, hb, h1, h2]; rfl, rfl⟩
  obtain ⟨g, he, hg⟩ := he
  rw [he]
  exact ⟨by simpa [Block.soOf] using hg, by rw [lsOf_setLs, if_pos rfl]⟩

/-! ### Wheel-sensor systems (R433, R434) -/

/-- System A or B of a front-end. -/
def FrontEnd.system (sysB : Bool) (w : FrontEnd) : WheelSystem := if sysB then w.b else w.a

/-- System A or B of a front-end changes by `g`. -/
def onSystem (sysB : Bool) (g : WheelSystem → WheelSystem) (w : FrontEnd) : FrontEnd :=
  if sysB then { w with b := g w.b } else { w with a := g w.a }

theorem inside_reportSystem (f j : Nat) (sysB : Bool) (report cause : Nat) (s : State) : Inside f s (reportSystem f j sysB report cause s) := by
  have h : ∀ code args n u, code / 0x1000 = 4 → Inside f u (raise n (blkRecord f code args u)) := fun code args n u hc =>
    (inside_blkRecord f hc args u).trans (inside_raise f n _)
  simp only [reportSystem]
  exact (inside_setBlock f _ s).trans (.ite (h _ _ _ _ rfl) (.ite (h _ _ _ _ rfl) (.refl f _)))

theorem wfe_reportSystem (f j : Nat) (sysB : Bool) (report cause : Nat) (s : State) :
    ((reportSystem f j sysB report cause s).block f).wfe = upd {} j (fun w =>
      if sysB then { w with b := { w.b with report := report, cause := cause } } else { w with a := { w.a with report := report, cause := cause } })
      (s.block f).wfe := by
  have h : ∀ (p q : Prop) [Decidable p] [Decidable q] (a b n m : Nat) (k l : List Nat) (u : State),
      ((if p then raise n (blkRecord f a k u) else if q then raise m (blkRecord f b l u) else u).block f).wfe = (u.block f).wfe := by
    intros
    split
    · simp
    · split <;> simp
  simp only [reportSystem, h]
  simp

theorem system_reportSystem (f j : Nat) (sysB : Bool) (report cause : Nat) (s : State) :
    (look ({} : FrontEnd) j ((reportSystem f j sysB report cause s).block f).wfe).system sysB
      = { (look ({} : FrontEnd) j (s.block f).wfe).system sysB with report := report, cause := cause } := by
  rw [wfe_reportSystem, look_upd_same]
  cases sysB <;> rfl

/-! ### Configuration writes (R429) -/

def soCfgRow (fb : Bool) : RegRow :=
  if fb then row .fldSoFb 0x0300_0404 4 0x10000 4 0x10 .block [rwc 15 15, rwc 14 8, rwc 6 0]
  else row .fldSoCfg 0x0300_0400 4 0x10000 4 0x10 .block [rwc 31 31, rwc 30 30, rwc 29 23, rwc 22 13, rwc 9 0]

theorem findReg_soCfg : ∀ (f j : Fin 4) (fb : Bool),
    findReg (fldReg f (0x400 + 0x10 * j.val + (if fb then 4 else 0))) = some (soCfgRow fb, f.val, j.val) := by decide +kernel

theorem accessWrite_soCfg {acc : Access} {f j : Fin 4} {fb : Bool} {v : Word} {s : State}
    (hw : WriteGranted acc (fldReg f (0x400 + 0x10 * j.val + (if fb then 4 else 0))) v s) (hf : s.fldFitted f = true) :
    ∃ u, accessWrite acc (fldReg f (0x400 + 0x10 * j.val + (if fb then 4 else 0))) v s = reconfigSo f j u := by
  refine ⟨storeBits (soCfgRow fb) (fldReg f (0x400 + 0x10 * j.val + (if fb then 4 else 0))) v (advance acc.at_ s),
    (accessWrite_fld hw (findReg_soCfg f j fb) ?_ hf ?_).trans ?_⟩
  · cases fb <;> rfl
  · cases fb <;> simp only [fldReg, if_true, Bool.false_eq_true, if_false] <;> omega
  · cases fb <;> rfl

theorem st_reconfigSo (f j : Nat) (hj : j < 4) (s : State) : (((reconfigSo f j s).block f).soOf j).st = .interlock := by
  simp only [reconfigSo]
  generalize (if cbit (fldReg f (0x400 + 0x10 * j)) 31 s && !soRangesOk f j s then _ else s) = u
  have h : (((soSet f j .interlock u).block f).soOf j).st = .interlock := by rw [soOf_soSet, if_pos rfl]
  rw [interlock_evalBlock hj h, h]

/-! ### The read-back band (R431) -/

/-- A comparison may draw, and nothing else. -/
theorem belowBand_spec (lo hi x : Nat) (s : State) : (x < lo → belowBand lo hi x s = (true, s)) ∧ (lo ≤ hi → hi ≤ x → belowBand lo hi x s = (false, s))
    ∧ ∀ f, Settles f s (belowBand lo hi x s).2 ∧ (belowBand lo hi x s).2.block f = s.block f := by
  refine ⟨fun h => by simp [belowBand, h], fun hb h => by simp [belowBand, h, Nat.not_lt.mpr (hb.trans h)], fun f => ?_⟩
  unfold belowBand
  split
  · exact ⟨.refl f s, rfl⟩
  · split
    · exact ⟨.refl f s, rfl⟩
    · exact ⟨settles_draw f 1 s, rfl⟩

/-- TEST_PULSE_READBACK when it is due. -/
theorem execTestPulseReadback_due {f j : Fin 4} {pulsed other vf ns t0 : Nat} {second : Bool} {s : State}
    (hp : ((s.block f).soOf j).pulse = some (second, t0)) (hr : ((s.block f).soOf j).readBack = false)
    (hd : fclkPassed t0 (pulseNs f j s - 50_000) (advance ns s) = true) :
    execTestPulseReadback f j pulsed other vf ns s = .next (let low := belowBand 4_500 5_500 pulsed (advance ns s)
      if low.1 = true ∧ vf < other + 2_000 then setSo f j (fun p => { p with readBack := true }) low.2
      else soFault f j 1 0x4040 [2 * j.val + b2n second, pulsed, other] low.2) := by
  have hn : pulseNs f j (advance ns s) = pulseNs f j s := by simp [pulseNs, cf]
  simp only [execTestPulseReadback, block_advance, hp, hr, hn, hd, Bool.not_true, Bool.or_self, Bool.false_eq_true, if_false, ← apply_ite]

/-- Settles O39: the pair named is described by the lemma of its command, every other pair by `ActsOnSo`, the rest by `Inside`. -/
theorem safetyOutputsAct : Obligations.SafetyOutputsAct := by
  intro f j ns s b p u now does
  have hb : u.block f = b := block_advance f ns s
  have hen : soEnabled f j u = soEnabled f j s := by simp only [u, soEnabled, soRangesOk, cbit, cf, advance_ctlGet]; rfl
  have hN : soN f j u = soN f j s := by simp [u, soN, cf]
  obtain ⟨w, hw, hwj, hall, hlast⟩ := soOf_soChecks f j u j.isLt
  rw [hb] at hwj
  have hwEn : soEnabled f j w = soEnabled f j s := (hw.soEnabled j).trans hen
  have hframe : ∀ {t : State}, Inside f u t → (∀ g, g ≠ f.val → t.block g = s.block g) ∧ t = { u.noted t with fld := t.fld } :=
    fun h => ⟨fun g hg => (h.others g hg).trans (block_advance g ns s), h.noted⟩
  refine ⟨?_, ?_, ?_, ?_, ?_, ?_, ?_, ?_⟩
  · intro hon hf
    refine ⟨⟨_, rfl, ?_, hframe hall.inside⟩, fun hfb => ?_⟩
    · have hspec := soCheck_spec (hwEn.trans hon) (by rw [hwj]; exact hf)
      have ha : ∀ r, soAgrees f j r w = soAgrees f j r s := fun r => (hw.soAgrees j r).trans (by
        simp [u, soAgrees, fbReleased, dioRead, dioWb, dioOut, cbit, cf])
      have hdm : soDemand f j w = soDemand f j s := (hw.soDemand j).trans (by simp [soDemand, hb, b])
      have hNw : soN f j w = soN f j s := (soN_of_inside hw.inside).trans hN
      simp only [hwj, hNw, ha, hdm, show w.now = now from hw.inside.now] at hspec
      dsimp only
      rw [hlast]
      exact hspec
    · obtain ⟨h1, h2, -, h4, h5⟩ := soFault_spec f j 2 (code := 0x4042) rfl [] s
      exact ⟨_, congrArg Host.Outcome.next (soTimeout_of_beyond hon hf hfb), ⟨h1, h2, h5, h4⟩, (settles_soFault f j 2 rfl [] s).inside.others,
        (settles_soFault f j 2 rfl [] s).inside.noted⟩
  · exact fun h => congrArg Host.Outcome.next (soTimeout_of_within h)
  · intro h
    refine ⟨_, rfl, hlast.trans ?_, hframe hall.inside⟩
    rw [soCheck_of_off (by rw [hwEn, hwj]; exact h), hwj]
  · intro acc fb v hf hg
    obtain ⟨v', hv⟩ := accessWrite_soCfg hg hf
    exact ⟨_, congrArg Host.Outcome.next hv, st_reconfigSo f j j.isLt v'⟩
  · intro second due
    have hc : (soEnabled f j u && cbit (fldReg f (0x400 + 0x10 * j.val)) 30 u && ((u.block f).soOf j).st == .on
        && fclkPassed ((u.block f).soOf j).tOn (pulseAt f j second u) u) = true ↔ due := by
      have hpa : pulseAt f j second u = pulseAt f j second s := by simp [u, pulseAt, cf]
      have hcb : cbit (fldReg f (0x400 + 0x10 * j.val)) 30 u = cbit (fldReg f (0x400 + 0x10 * j.val)) 30 s := by simp [u, cbit]
      rw [hen, hb, hpa, hcb]
      simp only [Bool.and_eq_true, beq_iff_eq, fclkPassed_iff, and_assoc]
      rfl
    refine ⟨fun hd => ?_, fun hd => if_neg (fun h => hd (hc.mp h))⟩
    have he := (if_pos (hc.mpr hd) : exec (.testPulseDue f j second ns) s = .next (startWaiting f j (setSo f j (fun p =>
      if second then { p with mB := p.mB + 1, waitB := true } else { p with mA := p.mA + 1, waitA := true }) u)))
    have hset : ((setSo f j (fun p => if second then { p with mB := p.mB + 1, waitB := true } else { p with mA := p.mA + 1, waitA := true }) u).block
        f).soOf j = if second then { p with mB := p.mB + 1, waitB := true } else { p with mA := p.mA + 1, waitA := true } := by
      rw [soOf_setSo, if_pos rfl, hb]
    have hls : ((setSo f j (fun p => if second then { p with mB := p.mB + 1, waitB := true } else { p with mA := p.mA + 1, waitA := true }) u).block
        f).ls = b.ls := by simp [hb]
    refine ⟨_, he, ⟨?_, ?_, ?_⟩, ((actsOnSo_setSo f j _ u).trans (actsOnSo_startWaiting f j _)).frame⟩
    · obtain ⟨wa, wb, pu, rb, hsw⟩ := soOf_startWaiting f j (setSo f j (fun p =>
        if second then { p with mB := p.mB + 1, waitB := true } else { p with mA := p.mA + 1, waitA := true }) u)
      rw [hsw, hset]
      cases second <;> rfl
    · intro hpu hwa hwb h1 h2
      obtain ⟨-, -, hst, -⟩ := hd
      have hs := startWaiting_of_due second (f := f) (j := j) (s := setSo f j (fun p =>
        if second then { p with mB := p.mB + 1, waitB := true } else { p with mA := p.mA + 1, waitA := true }) u)
      refine hs ?_ ?_ ?_ ?_ ?_ ?_
      · rw [hset]; cases second <;> exact hst
      · rw [hset]; cases second <;> exact hpu
      · rw [hset]; cases second
        · rfl
        · exact hwa
      · rw [hset]; cases second
        · exact hwb
        · rfl
      · rw [Block.lsOf, hls]; exact h1
      · rw [Block.lsOf, hls]; exact h2
    · intro hpu
      rw [startWaiting_of_pulse (by rw [hset]; cases second <;> exact hpu), hset]
      exact ⟨by cases second <;> rfl, hls⟩
  · intro second t0 hpu
    refine ⟨fun pulsed other vf hr hpass => ?_, fun hpass hwa hwb => ?_⟩
    · have he := execTestPulseReadback_due (ns := ns) (pulsed := pulsed) (other := other) (vf := vf) hpu hr ((fclkPassed_iff ..).mpr hpass)
      obtain ⟨hlow, hhigh, hband⟩ := belowBand_spec 4_500 5_500 pulsed u
      obtain ⟨hs, hsb⟩ := hband f
      have hok : ∀ v, Settles f u v → v.block f = u.block f → ((setSo f j (fun p => { p with readBack := true }) v).block f).soOf j
          = { p with readBack := true } ∧ ((setSo f j (fun p => { p with readBack := true }) v).block f).ls = b.ls := by
        intro v _ hvb
        rw [soOf_setSo, if_pos rfl, hvb, hb]
        exact ⟨rfl, by simp [hvb, hb]⟩
      refine ⟨fun h1 h2 => ?_, fun h => ?_, ?_⟩
      · rw [hlow h1] at he
        exact ⟨_, he.trans (congrArg Host.Outcome.next (if_pos ⟨rfl, h2⟩)), hok u (.refl f u) rfl, (actsOnSo_setSo f j _ u).frame⟩
      · have hn : ¬ ((belowBand 4_500 5_500 pulsed u).1 = true ∧ vf < other + 2_000) := by
          rintro ⟨h1, h2⟩
          obtain h | h := h
          · rw [hhigh (by decide) h] at h1
            exact Bool.false_ne_true h1
          · omega
        obtain ⟨k1, k2, -⟩ := soFault_spec f j 1 (code := 0x4040) rfl [2 * j.val + b2n second, pulsed, other] (belowBand 4_500 5_500 pulsed u).2
        exact ⟨_, he.trans (congrArg Host.Outcome.next (if_neg hn)), ⟨k1, k2⟩,
          hframe (hs.trans (settles_soFault f j 1 rfl _ _)).inside⟩
      · refine ⟨_, he, ?_⟩
        dsimp only
        split
        · exact ⟨.inl (hok _ hs hsb).1, hframe (hs.trans (settles_setSo f j _ _)).inside⟩
        · obtain ⟨k1, k2, -⟩ := soFault_spec f j 1 (code := 0x4040) rfl [2 * j.val + b2n second, pulsed, other] (belowBand 4_500 5_500 pulsed u).2
          exact ⟨.inr ⟨k1, k2⟩, hframe (hs.trans (settles_soFault f j 1 rfl _ _)).inside⟩
    · have hn : pulseNs f j u = pulseNs f j s := by simp [u, pulseNs, cf]
      have he : exec (.testPulseEnd f j ns) s = .next (startWaiting f j (setSo f j (fun p => { p with pulse := none, readBack := false })
          (setLs f (2 * j.val + b2n second) (fun l => { l with st := if l.st = .pulse then .on else l.st, condAt := now }) u))) := by
        have hup : ((u.block f).soOf j).pulse = some (second, t0) := by rw [hb]; exact hpu
        change execTestPulseEnd f j ns s = _
        simp only [execTestPulseEnd]
        change (match ((u.block f).soOf j).pulse with | none => _ | some (second, t) => _) = _
        rw [hup]
        exact if_pos (by rw [hn]; exact (fclkPassed_iff ..).mpr hpass)
      have hq : startWaiting f j (setSo f j (fun p => { p with pulse := none, readBack := false })
          (setLs f (2 * j.val + b2n second) (fun l => { l with st := if l.st = .pulse then .on else l.st, condAt := now }) u)) = _ :=
        startWaiting_of_quiet (by
          rw [soOf_setSo, if_pos rfl, block_setLs, if_pos rfl, hb]
          exact ⟨hwa, hwb⟩)
      rw [hq] at he
      refine ⟨_, he, ⟨?_, fun hl => ?_⟩, ((actsOnSo_setLs f j _ _ u).trans (actsOnSo_setSo f j _ _)).frame⟩
      · rw [soOf_setSo, if_pos rfl, block_setLs, if_pos rfl, hb]
        rfl
      · rw [block_setSo, if_pos rfl]
        have := lsOf_setLs f (2 * j.val + b2n second) (2 * j.val + b2n second)
          (fun l => { l with st := if l.st = .pulse then .on else l.st, condAt := now }) u
        rw [if_pos rfl, hb] at this
        exact (congrArg LoadSwitch.st this).trans (if_pos hl)
  · intro hpu
    have hup : ((u.block f).soOf j).pulse = none := by rw [hb]; exact hpu
    refine ⟨?_, fun pulsed other vf => ?_⟩
    · change execTestPulseEnd f j ns s = _
      simp only [execTestPulseEnd]
      change (match ((u.block f).soOf j).pulse with | none => _ | some (second, t) => _) = _
      rw [hup]
    · change execTestPulseReadback f j pulsed other vf ns s = _
      simp only [execTestPulseReadback]
      change (match ((u.block f).soOf j).pulse with | none => _ | some (second, t) => _) = _
      rw [hup]
  · intro sysB sys
    have hsys : ∀ B : Block, sys B = (look ({} : FrontEnd) j B.wfe).system sysB := fun B => rfl
    have hcb : cbit (fldReg f (0x500 + 4 * j.val)) 0 u = cbit (fldReg f (0x500 + 4 * j.val)) 0 s := by simp [u, cbit]
    have hset : ∀ g : WheelSystem → WheelSystem, sys ((setBlock f (fun b => { b with wfe := upd {} j (onSystem sysB g) b.wfe }) u).block f)
        = g (sys b) := by
      intro g
      rw [hsys, block_setBlock, if_pos rfl, look_upd_same, hb]
      cases sysB <;> rfl
    refine ⟨fun hc => ?_, fun hc => if_neg (by rw [hcb, hc]; decide), fun t0 hoff hpass => ?_, fun hoff => ?_⟩
    · exact ⟨_, if_pos (hcb.trans hc), (system_reportSystem f j sysB 0 2 _).trans
        (congrArg (fun w : WheelSystem => { w with report := 0, cause := 2 }) (hset (fun w => { w with offAt := some now }))),
        hframe ((inside_setBlock f _ u).trans (inside_reportSystem f j sysB 0 2 _))⟩
    · have he : exec (.wheelSystemRetry f j sysB ns) s = .next (setBlock f (fun b => { b with wfe := upd {} j (onSystem sysB (fun x => { x with offAt := none })) b.wfe }) u) := by
        have hup : ((look ({} : FrontEnd) j (u.block f).wfe).system sysB).offAt = some t0 := by rw [hb]; exact hoff
        change execWheelSystemRetry f j sysB ns s = _
        simp only [execWheelSystemRetry]
        change (match ((look ({} : FrontEnd) j (u.block f).wfe).system sysB).offAt with | none => _ | some t => _) = _
        rw [hup]
        exact if_pos ((fclkPassed_iff ..).mpr hpass)
      exact ⟨_, he, hset (fun w => { w with offAt := none }), hframe (inside_setBlock f _ u)⟩
    · have hup : ((look ({} : FrontEnd) j (u.block f).wfe).system sysB).offAt = none := by rw [hb]; exact hoff
      change execWheelSystemRetry f j sysB ns s = _
      simp only [execWheelSystemRetry]
      change (match ((look ({} : FrontEnd) j (u.block f).wfe).system sysB).offAt with | none => _ | some t => _) = _
      rw [hup]

end Sys2Proof.Machine
end

section
/-!
PROOFS. Field commands and the test of one channel in COMMISSION (O40).
-/
namespace Sys2Proof.Machine

/-! ### Commands (R435) -/

/-- A command with the given code, channel and arguments, as it reaches the block. -/
def commandPost (code : Nat) (a b c : Word) : Post := { a := BitVec.ofNat 32 (code * 2 ^ 24 + a.toNat % 2 ^ 24), b := b, c := c, w3 := 0 }

theorem toNat_commandPost {code : Nat} (hc : code < 256) (a b c : Word) : (commandPost code a b c).a.toNat = code * 2 ^ 24 + a.toNat % 2 ^ 24 := by
  have := Nat.mod_lt a.toNat (show 0 < 2 ^ 24 by decide)
  simp only [commandPost, BitVec.toNat_ofNat]
  omega

theorem channel_commandPost {code : Nat} (hc : code < 256) (a b c : Word) : bits 7 0 (commandPost code a b c).a.toNat = bits 7 0 a.toNat := by
  rw [toNat_commandPost hc]
  simp only [bits]
  omega

theorem code_commandPost {code : Nat} (hc : code < 256) (a b c : Word) : bits 31 24 (commandPost code a b c).a.toNat = code := by
  rw [toNat_commandPost hc]
  have := Nat.mod_lt a.toNat (show 0 < 2 ^ 24 by decide)
  simp only [bits]
  omega

theorem directField_eq (f code : Nat) (a b c dem : Word) (s : State) : directField f code a b c dem s = fieldCommand f dem (commandPost code a b c) s := rfl

/-- A refused command is recorded with 0x4050 and raises event source 184. -/
theorem refused_spec (f : Nat) (args : List Nat) (s : State) :
    let t := raise 184 (blkRecord f 0x4050 args s)
    Inside f s t ∧ t.block f = { s.block f with lastCode := 0x4050 } ∧ t.svc.toggles = s.svc.toggles ++ [(184, s.now)] := by
  intro t
  have h := inside_blkRecord f (code := 0x4050) rfl args s
  refine ⟨h.trans (inside_raise f 184 _), by simp [t], ?_⟩
  have ht : (blkRecord f 0x4050 args s).svc.toggles = s.svc.toggles := by simp [blkRecord, record, recordB]
  simp only [t, raise_toggles, ht, h.now]

theorem fieldCommand_of_reason {f : Nat} {dem : Word} {q : Post} {s : State} (h : fieldReason f q dem s = 0) :
    fieldCommand f dem q s = if bits 31 24 q.a.toNat = 2 then
        setDio f (bits 7 0 q.a.toNat) (fun d => { d with pwm := if q.b = 0 then none else some (q.b.toNat, q.c.toNat) }) s
      else if bits 7 0 q.a.toNat < 24 then dioClear f (bits 7 0 q.a.toNat) true true s
      else if bits 7 0 q.a.toNat < 0x40 then clearLs f (bits 7 0 q.a.toNat - 0x20) s
      else clearSo f (bits 7 0 q.a.toNat - 0x40) s := by
  simp only [fieldCommand, h]

theorem fieldCommand_refused {f : Nat} {dem : Word} {q : Post} {s : State} (h : fieldReason f q dem s ≠ 0) :
    fieldCommand f dem q s = raise 184 (blkRecord f 0x4050 [fieldReason f q dem s] s) := by
  simp only [fieldCommand]

/-- A CLEAR that is refused: its channel is of another kind, or there is a reason (R435). -/
theorem clearKind_refused {f lo hi : Nat} {a b c dem : Word} {s : State}
    (h : bits 7 0 a.toNat < lo ∨ hi ≤ bits 7 0 a.toNat ∨ fieldReason f (commandPost 3 a b c) dem s ≠ 0) :
    ∃ args, clearKind f lo hi a b c dem s = raise 184 (blkRecord f 0x4050 args s) := by
  unfold clearKind
  split
  · next hr =>
    refine ⟨_, fieldCommand_refused (q := commandPost 3 a b c) ?_⟩
    obtain h | h | h := h
    · omega
    · omega
    · exact h
  · exact ⟨_, rfl⟩

/-- A CLEAR within its kind that has no reason to be refused. -/
theorem clearKind_acts {f lo hi : Nat} {a b c dem : Word} {s : State} (h1 : lo ≤ bits 7 0 a.toNat) (h2 : bits 7 0 a.toNat < hi)
    (h : fieldReason f (commandPost 3 a b c) dem s = 0) :
    clearKind f lo hi a b c dem s = if bits 7 0 a.toNat < 24 then dioClear f (bits 7 0 a.toNat) true true s
      else if bits 7 0 a.toNat < 0x40 then clearLs f (bits 7 0 a.toNat - 0x20) s else clearSo f (bits 7 0 a.toNat - 0x40) s := by
  rw [clearKind, if_pos ⟨h1, h2⟩, directField_eq, fieldCommand_of_reason h, if_neg (by rw [code_commandPost (by decide)]; decide),
    channel_commandPost (by decide)]

theorem clearLs_spec (f i : Nat) (s : State) :
    ActsOnLs f i s (clearLs f i s) ∧ (((clearLs f i s).block f).lsOf i).u = 0
      ∧ (((clearLs f i s).block f).lsOf i).st = (if ((s.block f).lsOf i).st = .latched
          then (if lsDemand f i s && !(s.block f).uv then .inrush else .off) else ((s.block f).lsOf i).st) := by
  by_cases hl : ((s.block f).lsOf i).st = .latched
  · have h := (actsOnLs_setLs f i (fun l => { l with st := .off, u := 0 }) s).trans (actsOnLs_blkRecord f i (code := 0x4032) rfl [i] _)
    have hls : ((blkRecord f 0x4032 [i] (setLs f i (fun l => { l with st := .off, u := 0 }) s)).block f).lsOf i
        = { (s.block f).lsOf i with st := .off, u := 0 } := by rw [lsOf_blkRecord, lsOf_setLs, if_pos rfl]
    have he : clearLs f i s = lsEval f i (blkRecord f 0x4032 [i] (setLs f i (fun l => { l with st := .off, u := 0 }) s)) := by
      simp only [clearLs, hl, if_true]
    have hev : (((lsEval f i (blkRecord f 0x4032 [i] (setLs f i (fun l => { l with st := .off, u := 0 }) s))).block f).lsOf i).u = 0
        ∧ (((lsEval f i (blkRecord f 0x4032 [i] (setLs f i (fun l => { l with st := .off, u := 0 }) s))).block f).lsOf i).st
          = if lsDemand f i s && !(s.block f).uv then .inrush else .off := by
      simp only [lsEval, hls, h.lsDemand, h.uv]
      split
      · rw [lsOn, lsOf_setLs, if_pos rfl, hls]
        exact ⟨rfl, rfl⟩
      · rw [hls]
        exact ⟨rfl, rfl⟩
    rw [he, if_pos hl]
    exact ⟨h.trans (actsOnLs_lsEval f i _), hev⟩
  · have he : clearLs f i s = setLs f i (fun l => { l with u := 0 }) s := by simp only [clearLs, hl, if_false]
    rw [he, lsOf_setLs, if_pos rfl, if_neg hl]
    exact ⟨actsOnLs_setLs f i _ s, rfl, rfl⟩

theorem clearSo_spec (f j : Nat) (s : State) :
    (((s.block f).soOf j).st ≠ .fault → clearSo f j s = s)
    ∧ (((s.block f).soOf j).st = .fault → Settles f s (clearSo f j s) ∧ (((clearSo f j s).block f).soOf j).st = .off
        ∧ (((clearSo f j s).block f).soOf j).cause = 0 ∧ (164 + 4 * f + j, s.now) ∈ (clearSo f j s).svc.toggles) := by
  refine ⟨fun h => by simp [clearSo, h], fun h => ?_⟩
  have he : clearSo f j s = raise (164 + 4 * f + j) (blkRecord f 0x4044 [j] (lsOff f (2 * j + 1) (lsOff f (2 * j)
      (setSo f j (fun p => { p with cause := 0, lastCode := 0x4044 }) (soSet f j .off s))))) := by simp only [clearSo, h, if_true]
  have hs := ((settles_soSet f j .off s).trans (settles_setSo f j (fun p => { p with cause := 0, lastCode := 0x4044 }) _)).trans
    (((settles_lsOff f (2 * j) _).trans (settles_lsOff f (2 * j + 1) _)).trans (settles_blkRecord f (code := 0x4044) rfl [j] _))
  have hso : ((clearSo f j s).block f).soOf j
      = ((setSo f j (fun p => { p with cause := 0, lastCode := 0x4044 }) (soSet f j .off s)).block f).soOf j := by
    rw [he]
    simp only [block_raise, block_blkRecord, if_true, lsOff, block_setLs, Block.soOf]
  refine ⟨by rw [he]; exact hs.trans (settles_raise f _ _), ?_, ?_, ?_⟩
  · rw [hso, soOf_setSo, if_pos rfl, soOf_soSet, if_pos rfl]
  · rw [hso, soOf_setSo, if_pos rfl]
  · rw [he, raise_toggles, hs.inside.now]
    simp

/-! ### The test of one channel (R438) -/

/-- FLD_TEST. -/
def testReg : Nat := 0x0310_0100

def testRow : RegRow := row .fldTest 0x0310_0100 1 0x4 1 0x4 .always
  [fld .rw 31 31 .maintain true, fld .rw 25 24 .maintain true, fld .rw 23 16 .maintain true, fld .rw 0 0 .maintain true]

theorem findReg_test : findReg 0x0310_0100 = some (testRow, 0, 0) := by decide +kernel

/-- What FLD_TEST holds after a granted write of `v`. -/
def testValue (v : Word) (s : State) : Word := (ctlGet 0x0310_0100 s &&& 0x7C00_FFFE) ||| (v &&& 0x83FF_0001)

theorem accessWrite_test {acc : Access} {v : Word} {s : State} (hw : WriteGranted acc 0x0310_0100 v s) (hm : s.keep.mode = .commission) :
    accessWrite acc 0x0310_0100 v s = fieldTestWrite (testValue v s) (advance acc.at_ s) := by
  have hv : ctlGet 0x0310_0100 (storeBits testRow 0x0310_0100 v (advance acc.at_ s)) = testValue v s := by
    rw [ctlGet_storeBits, advance_ctlGet, show testRow.mask [.rw, .rwc] = 0x83FF_0001 by decide]
    rfl
  have hm' : (advance acc.at_ s).keep.mode = .commission := by simpa using hm
  rw [accessWrite_of_granted hw, regWrite_of_findReg findReg_test]
  simp only [testRow, row, Unit_.fitted, if_true, writeReg, writeFldNet, hm']
  exact congrArg (fun x => fieldTestWrite x (advance acc.at_ s)) hv

theorem bit31_testValue (v : Word) (s : State) : bitAt 31 (testValue v s).toNat = v.getLsbD 31 := by
  change (testValue v s).getLsbD 31 = v.getLsbD 31
  simp [testValue]

/-- The end of a test: the register's test bit is clear, the block of the channel has no demand, event source 185. -/
theorem endFieldTest_spec {s : State} (h : cbit 0x0310_0100 31 s = true) :
    let f := cf 0x0310_0100 25 24 s
    let t := endFieldTest s
    Inside f (ctlSet 0x0310_0100 (w32 ((ctlGet 0x0310_0100 s).toNat % 2 ^ 31)) s) t ∧ (185, s.now) ∈ t.svc.toggles
      ∧ (t.block f).dDio = 0 ∧ (t.block f).dLs = 0 ∧ (t.block f).dSo = 0 := by
  intro f t
  have h0 : Inside f (ctlSet 0x0310_0100 (w32 ((ctlGet 0x0310_0100 s).toNat % 2 ^ 31)) s)
      (applyWords f (0, 0, 0) (setBlock f (fun b => { b with words := none }) (ctlSet 0x0310_0100 (w32 ((ctlGet 0x0310_0100 s).toNat % 2 ^ 31)) s))) :=
    (inside_setBlock f _ _).trans ((inside_setBlock f _ _).trans (settles_evalBlock f true _).inside)
  have hd := settles_evalBlock f true (setBlock f (fun b => { b with dDio := 0, dLs := 0, dSo := 0 })
    (setBlock f (fun b => { b with words := none }) (ctlSet 0x0310_0100 (w32 ((ctlGet 0x0310_0100 s).toNat % 2 ^ 31)) s)))
  have h1 : ((applyWords f (0, 0, 0) (setBlock f (fun b => { b with words := none })
      (ctlSet 0x0310_0100 (w32 ((ctlGet 0x0310_0100 s).toNat % 2 ^ 31)) s))).block f).dDio = 0 := hd.dDio.trans (by simp)
  have h2 : ((applyWords f (0, 0, 0) (setBlock f (fun b => { b with words := none })
      (ctlSet 0x0310_0100 (w32 ((ctlGet 0x0310_0100 s).toNat % 2 ^ 31)) s))).block f).dLs = 0 := hd.dLs.trans (by simp)
  have h3 : ((applyWords f (0, 0, 0) (setBlock f (fun b => { b with words := none })
      (ctlSet 0x0310_0100 (w32 ((ctlGet 0x0310_0100 s).toNat % 2 ^ 31)) s))).block f).dSo = 0 := hd.dSo.trans (by simp)
  have hnow : (ctlSet 0x0310_0100 (w32 ((ctlGet 0x0310_0100 s).toNat % 2 ^ 31)) s).now = s.now := rfl
  have ht : t = raise 185 (if 0x40 ≤ cf 0x0310_0100 23 16 s ∧ cf 0x0310_0100 23 16 s < 0x44 then
      evalBlock f false (soSet f (cf 0x0310_0100 23 16 s - 0x40) .interlock (applyWords f (0, 0, 0) (setBlock f (fun b => { b with words := none })
        (ctlSet 0x0310_0100 (w32 ((ctlGet 0x0310_0100 s).toNat % 2 ^ 31)) s))))
      else applyWords f (0, 0, 0) (setBlock f (fun b => { b with words := none })
        (ctlSet 0x0310_0100 (w32 ((ctlGet 0x0310_0100 s).toNat % 2 ^ 31)) s))) :=
    if_neg (by simpa [cbit, bitAt] using h)
  rw [ht]
  generalize applyWords f (0, 0, 0) (setBlock f (fun b => { b with words := none })
    (ctlSet 0x0310_0100 (w32 ((ctlGet 0x0310_0100 s).toNat % 2 ^ 31)) s)) = u at h0 h1 h2 h3
  have hu : Settles f u (if 0x40 ≤ cf 0x0310_0100 23 16 s ∧ cf 0x0310_0100 23 16 s < 0x44 then
      evalBlock f false (soSet f (cf 0x0310_0100 23 16 s - 0x40) .interlock u) else u) := by
    split
    · exact (settles_soSet f _ _ u).trans (settles_evalBlock f false _)
    · exact .refl f u
  have hr := hu.trans (settles_raise f 185 _)
  refine ⟨h0.trans hr.inside, ?_, hr.dDio.trans h1, hr.dLs.trans h2, hr.dSo.trans h3⟩
  rw [raise_toggles, (h0.trans hu.inside).now, hnow]
  simp

theorem endFieldTest_of_idle {s : State} (h : cbit 0x0310_0100 31 s = false) : endFieldTest s = s := by
  simp only [cbit] at h
  simp [endFieldTest, bitAt, h]

/-- A write of FLD_TEST that has been judged (R438). -/
theorem fieldTestWrite_spec (v : Word) (s : State) :
    let t := fieldTestWrite v s
    t.fld.testAt = t.now ∧ t.now = s.now ∧ ctlGet 0x0310_0100 t = v
      ∧ (bitAt 31 v.toNat = true → (t.block (bits 25 24 v.toNat)).words = some (testWords v.toNat))
      ∧ (bitAt 31 v.toNat = false → cbit 0x0310_0100 31 s = true → (185, t.now) ∈ t.svc.toggles
          ∧ (t.block (cf 0x0310_0100 25 24 s)).dDio = 0 ∧ (t.block (cf 0x0310_0100 25 24 s)).dLs = 0
          ∧ (t.block (cf 0x0310_0100 25 24 s)).dSo = 0) := by
  let s0 : State := { s with fld := { s.fld with testAt := s.now } }
  have hs1 : ∀ p : Bool, (if cbit 0x0310_0100 31 s && p then endFieldTest s0 else s0).fld.testAt = s.now
      ∧ (if cbit 0x0310_0100 31 s && p then endFieldTest s0 else s0).now = s.now := by
    intro p
    split
    · next h =>
      obtain ⟨he, -⟩ := endFieldTest_spec (s := s0) (Bool.and_eq_true_iff.mp h).1
      exact ⟨he.testAt, he.now⟩
    · exact ⟨rfl, rfl⟩
  obtain ⟨h1, h2⟩ := hs1 (!decide (bits 25 16 (ctlGet 0x0310_0100 s).toNat = bits 25 16 v.toNat) || !bitAt 31 v.toNat)
  cases hv : bitAt 31 v.toNat with
  | true =>
    have ht : fieldTestWrite v s = setBlock (bits 25 24 v.toNat) (fun b => { b with words := some (testWords v.toNat), handedAt := s.now })
        (ctlSet 0x0310_0100 v (if cbit 0x0310_0100 31 s
          && (!decide (bits 25 16 (ctlGet 0x0310_0100 s).toNat = bits 25 16 v.toNat) || !bitAt 31 v.toNat) then endFieldTest s0 else s0)) := by
      rw [← h2]
      exact if_pos hv
    rw [ht]
    refine ⟨h1.trans h2.symm, h2, ?_, fun _ => ?_, fun h => absurd h (by decide)⟩
    · simp
    · simp
  | false =>
    have ht : fieldTestWrite v s = ctlSet 0x0310_0100 v (if cbit 0x0310_0100 31 s
          && (!decide (bits 25 16 (ctlGet 0x0310_0100 s).toNat = bits 25 16 v.toNat) || !bitAt 31 v.toNat) then endFieldTest s0 else s0) :=
      if_neg (by simp [hv])
    rw [ht]
    refine ⟨h1.trans h2.symm, h2, by simp, fun h => absurd h (by decide), fun _ hold => ?_⟩
    rw [if_pos (by simp [hold, hv])]
    obtain ⟨he, htog, k1, k2, k3⟩ := endFieldTest_spec (s := s0) hold
    refine ⟨?_, k1, k2, k3⟩
    change (185, (endFieldTest s0).now) ∈ (endFieldTest s0).svc.toggles
    rw [he.now]
    exact htog

/-- Settles O40: a command acts by the reason of R435, each kind by the lemma of its own clearing; the test by `endFieldTest_spec`. -/
theorem fieldCommandsAct : Obligations.FieldCommandsAct := by
  refine ⟨?_, ?_⟩
  · intro f a b c dem s ch B does reason refused
    have hrefused : ∀ args, let t := raise 184 (blkRecord f 0x4050 args s)
        refused (t.block f) t ∧ (∀ g, g ≠ f.val → t.block g = s.block g) ∧ t = { s.noted t with fld := t.fld } := by
      intro args t
      obtain ⟨h1, h2, h3⟩ := refused_spec f args s
      exact ⟨⟨h2, h3⟩, h1.others, h1.noted⟩
    have hclear : ∀ lo hi dem, ch < lo ∨ hi ≤ ch ∨ reason 3 dem ≠ 0 → ∃ t, clearKind f lo hi a b c dem s = t
        ∧ refused (t.block f) t ∧ (∀ g, g ≠ f.val → t.block g = s.block g) ∧ t = { s.noted t with fld := t.fld } := by
      intro lo hi dem h
      obtain ⟨args, he⟩ := clearKind_refused h
      exact ⟨_, he, hrefused args⟩
    refine ⟨fun h => ?_, fun h => ?_, fun hch h hl hp => ?_, fun h => ?_, fun h1 h2 h => ?_, fun h => ?_, fun h1 h2 h => ⟨fun hst => ?_, fun hst => ?_⟩,
      fun h => ?_⟩
    · have he : directField f 2 a b c 0 s = setDio f ch (fun d => { d with pwm := if b = 0 then none else some (b.toNat, c.toNat) }) s := by
        rw [directField_eq, fieldCommand_of_reason (q := commandPost 2 a b c) h, if_pos (code_commandPost (by decide) a b c), channel_commandPost (by decide)]
        rfl
      exact ⟨_, congrArg Host.Outcome.next he, by simp [B], (inside_setDio f ch _ s).others, (inside_setDio f ch _ s).noted⟩
    · exact ⟨_, congrArg Host.Outcome.next (fieldCommand_refused h), hrefused _⟩
    · have he := clearKind_acts (f := f) (Nat.zero_le ch) hch h
      rw [if_pos hch] at he
      obtain ⟨h1, h2⟩ := dioClear_spec f ch true true s
      have hp' := (fclkPassed_iff ((B.dioOf ch).lowSince) 10_000_000 s).mpr hp
      have hl' := bne_iff_ne.mpr hl
      refine ⟨_, congrArg Host.Outcome.next he, ⟨?_, fun hh => ?_⟩, h1.inside.others, h1.inside.noted⟩
      · simpa [Dio.fixed, B, hl', hp'] using congrArg Dio.overload h2
      · simpa [Dio.fixed, B, hl', hp', hh] using congrArg Dio.overTemp h2
    · obtain ⟨t, he, ht⟩ := hclear 0 24 0 (.inr h)
      exact ⟨t, congrArg Host.Outcome.next he, ht⟩
    · have he := clearKind_acts (f := f) h1 h2 h
      rw [if_neg (by omega), if_pos (by omega)] at he
      obtain ⟨k1, k2, k3⟩ := clearLs_spec f (ch - 0x20) s
      exact ⟨_, congrArg Host.Outcome.next he, ⟨k2, k3⟩, k1.inside.others, k1.inside.noted⟩
    · obtain ⟨t, he, ht⟩ := hclear 0x20 0x28 0 h
      exact ⟨t, congrArg Host.Outcome.next he, ht⟩
    · have he := clearKind_acts (f := f) h1 h2 h
      rw [if_neg (by omega), if_neg (by omega)] at he
      obtain ⟨k1, k2, k3, k4⟩ := (clearSo_spec f (ch - 0x40) s).2 hst
      exact ⟨_, congrArg Host.Outcome.next he, ⟨k2, k3, k4⟩, k1.inside.others, k1.inside.noted⟩
    · have he := clearKind_acts (f := f) h1 h2 h
      rw [if_neg (by omega), if_neg (by omega)] at he
      exact congrArg Host.Outcome.next (he.trans ((clearSo_spec f (ch - 0x40) s).1 hst))
    · obtain ⟨t, he, ht⟩ := hclear 0x40 0x44 dem h
      exact ⟨t, congrArg Host.Outcome.next he, ht⟩
  · intro acc v ns s u
    have hcf : ∀ n hi lo, cf 0x0310_0100 hi lo (advance n s) = cf 0x0310_0100 hi lo s := fun n hi lo => by simp only [cf, advance_ctlGet]
    have hcb : ∀ n, cbit 0x0310_0100 31 (advance n s) = cbit 0x0310_0100 31 s := fun n => by simp only [cbit, advance_ctlGet]
    refine ⟨fun hw hm hv => ?_, fun hw hm hv hold => ?_, fun hon hdue => ?_, fun h => if_neg ?_⟩
    · obtain ⟨h1, -, h3, h4, -⟩ := fieldTestWrite_spec (testValue v s) (advance acc.at_ s)
      have hbit := (bit31_testValue v s).trans hv
      refine ⟨_, congrArg Host.Outcome.next (accessWrite_test hw hm), h1, ?_, ?_, h3⟩
      · simp only [cbit, h3]
        exact hbit
      · simp only [cf, h3]
        exact h4 hbit
    · obtain ⟨-, -, h3, -, h5⟩ := fieldTestWrite_spec (testValue v s) (advance acc.at_ s)
      have hbit := (bit31_testValue v s).trans hv
      obtain ⟨k1, k2, k3, k4⟩ := h5 hbit ((hcb _).trans hold)
      rw [hcf] at k2 k3 k4
      refine ⟨_, congrArg Host.Outcome.next (accessWrite_test hw hm), ?_, k1, k2, k3, k4⟩
      simp only [cbit, h3]
      exact hbit
    · obtain ⟨h1, h2, h3, h4, h5⟩ := endFieldTest_spec (s := u) ((hcb ns).trans hon)
      have h6 := settles_blkRecord (cf 0x0310_0100 25 24 u) (code := 0x4070) rfl [cf 0x0310_0100 23 16 u] (endFieldTest u)
      have h7 := h1.trans h6.inside
      refine ⟨_, if_pos ⟨(hcb ns).trans hon, by rw [advance_fld]; exact hdue⟩, ?_, ?_, ?_, ?_, ?_, ?_⟩
      · have hlow : (w32 ((ctlGet 0x0310_0100 u).toNat % 2 ^ 31)).toNat.testBit 31 = false :=
          Nat.testBit_lt_two_pow (by simp only [w32, BitVec.toNat_ofNat]; omega)
        rw [h7.cbit, cbit, ctlGet_ctlSet, if_pos rfl, hlow]
      · exact h6.inside.told (by rw [h7.now]; exact h2)
      · rw [← hcf ns]; exact h6.dDio.trans h3
      · rw [← hcf ns]; exact h6.dLs.trans h4
      · rw [← hcf ns]; exact h6.dSo.trans h5
      · rw [h7.rest]; rfl
    · rintro ⟨h1, h2⟩
      rw [hcb] at h1
      rw [advance_fld] at h2
      obtain h | h := h
      · exact absurd (h1.symm.trans h) (by decide)
      · exact absurd h2 (Nat.not_le.mpr h)

end Sys2Proof.Machine
end

section
/-!
SUPPORT. What the operations of the feedback region leave as it is, and what they make of a channel.
-/
namespace Sys2Proof.Machine

/-! ### Detectors and encoder outputs -/

/-- Nothing but standstill detectors, encoder outputs, the journal and the events raised differs. -/
structure Watches (s t : State) : Prop where
  rest : t = { s with jnl := t.jnl, svc := { s.svc with toggles := t.svc.toggles }, fbk := { s.fbk with stand := t.fbk.stand, eo := t.fbk.eo } }
  raised : s.svc.toggles <+: t.svc.toggles

theorem Watches.refl (s : State) : Watches s s := ⟨rfl, List.prefix_rfl⟩

theorem Watches.trans {s t u : State} (h : Watches s t) (k : Watches t u) : Watches s u :=
  ⟨by rw [k.rest, h.rest], h.raised.trans k.raised⟩

theorem Watches.foldl {α : Type} {op : State → α → State} (h : ∀ u i, Watches u (op u i)) (l : List α) (s : State) : Watches s (l.foldl op s) := by
  induction l generalizing s with
  | nil => exact .refl s
  | cons i l ih => exact (h s i).trans (ih _)

theorem Watches.ite {s t u : State} {p : Prop} [Decidable p] (h : Watches s t) (k : Watches s u) : Watches s (if p then t else u) := by
  split
  · exact h
  · exact k

section
variable {s t : State} (h : Watches s t)
include h

theorem Watches.time : t.time = s.time := by rw [h.rest]
theorem Watches.now : t.now = s.now := by rw [State.now, h.time]; rfl
theorem Watches.keep : t.keep = s.keep := by rw [h.rest]
theorem Watches.mot : t.mot = s.mot := by rw [h.rest]
theorem Watches.fused : t.fused = s.fused := by rw [h.rest]
theorem Watches.chans : t.fbk.chans = s.fbk.chans := by rw [h.rest]
theorem Watches.heads : t.fbk.heads = s.fbk.heads := by rw [h.rest]
theorem Watches.sections : t.fbk.sections = s.fbk.sections := by rw [h.rest]
theorem Watches.chan (n : Nat) : t.chan n = s.chan n := by rw [State.chan, h.chans]; rfl
theorem Watches.head (k : Nat) : t.head k = s.head k := by rw [State.head, h.heads]; rfl
theorem Watches.section_ (k : Nat) : t.section_ k = s.section_ k := by rw [State.section_, h.sections]; rfl
theorem Watches.ctlGet (a : Nat) : ctlGet a t = ctlGet a s := by rw [h.rest]; rfl
theorem Watches.cbit (a i : Nat) : cbit a i t = cbit a i s := by simp only [Machine.cbit, h.ctlGet]
theorem Watches.cf (a i j : Nat) : cf a i j t = cf a i j s := by simp only [Machine.cf, h.ctlGet]
theorem Watches.chanMode (n : Nat) : chanMode n t = chanMode n s := by simp only [Machine.chanMode, h.cf]
theorem Watches.chanOn (n : Nat) : chanOn n t = chanOn n s := by
  simp only [Machine.chanOn, State.chansFitted, State.axesFitted, h.fused, h.chanMode, h.keep]
  rfl
end

theorem watches_setStand (k : Nat) (f : Standstill → Standstill) (s : State) : Watches s (setStand k f s) := ⟨rfl, List.prefix_rfl⟩
theorem watches_setEnc (e : Nat) (f : EncOut → EncOut) (s : State) : Watches s (setEnc e f s) := ⟨rfl, List.prefix_rfl⟩
theorem watches_raise (n : Nat) (s : State) : Watches s (raise n s) := ⟨rfl, List.prefix_append _ _⟩

theorem watches_recordC {code : Nat} (hc : code / 0x1000 = 3) (flags count : Nat) (extra : List Byte) (s : State) :
    Watches s (recordC code flags count extra s) := by
  have hn : noteCode code s = s := by simp [noteCode, show code / 0x1000 ≠ 9 by omega, show code / 0x100 ≠ 0x11 by omega]
  obtain ⟨j, hj⟩ := jnlOnly_recordC code flags count extra s
  rw [hn] at hj
  rw [hj]
  exact ⟨rfl, List.prefix_rfl⟩

theorem watches_record {code : Nat} (hc : code / 0x1000 = 3) (args : List Nat) (s : State) : Watches s (record code args s) :=
  watches_recordC hc _ _ _ s

theorem watches_ssWithdraw (k cause : Nat) (s : State) : Watches s (ssWithdraw k cause s) :=
  .ite ((watches_setStand k _ s).trans ((watches_record rfl _ _).trans (watches_raise _ _))) (.refl s)

theorem watches_ssLook (k since : Nat) (s : State) : Watches s (ssLook k since s) := by
  simp only [ssLook]
  exact .ite (.ite ((watches_ssWithdraw k 1 s).trans (watches_setStand k _ _)) (.refl s))
    (.ite (watches_setStand k _ s) (.ite ((watches_ssWithdraw k 2 s).trans (watches_setStand k _ _)) (.refl s)))

theorem watches_ssEval (k : Nat) (s : State) : Watches s (ssEval k s) := watches_ssLook k _ s
theorem watches_ssPass (s : State) : Watches s (ssPass s) := .foldl (fun u k => watches_ssLook k _ u) _ s
theorem watches_ssEvalAll (s : State) : Watches s (ssEvalAll s) := .foldl (fun u k => watches_ssEval k u) _ s
theorem watches_ssStep (n : Nat) (s : State) : Watches s (ssStep n s) := .foldl (fun u k => watches_setStand k _ u) _ s
theorem watches_chanTime (ns : Nat) (s : State) : Watches (advance ns s) (chanTime ns s) := watches_ssPass _

theorem watches_eoFollow (e : Nat) (s : State) : Watches s (eoFollow e s) := by
  simp only [eoFollow]
  refine .ite (.refl s) (.ite (.ite (.refl s) ((watches_setEnc e _ s).trans (watches_record rfl _ _))) (.ite (watches_setEnc e _ s) ?_))
  exact .ite ((watches_setEnc e _ s).trans ((watches_record rfl _ _).trans (watches_raise _ _))) (watches_setEnc e _ s)

theorem watches_eoFollowAll (axes : Bool) (s : State) : Watches s (eoFollowAll axes s) :=
  .foldl (fun u e => .ite (watches_eoFollow e u) (.refl u)) _ s

theorem watches_chanChanged (s : State) : Watches s (chanChanged s) := (watches_ssEvalAll s).trans (watches_eoFollowAll false _)

/-! ### Channels -/

/-- Nothing but channel `n`, detectors, encoder outputs, the journal and the events raised differs. -/
structure OnChan (n : Nat) (s t : State) : Prop where
  rest : t = { s with jnl := t.jnl, svc := { s.svc with toggles := t.svc.toggles },
                      fbk := { s.fbk with chans := t.fbk.chans, stand := t.fbk.stand, eo := t.fbk.eo } }
  others : ∀ k, k ≠ n → t.chan k = s.chan k

theorem OnChan.trans {n : Nat} {s t u : State} (h : OnChan n s t) (k : OnChan n t u) : OnChan n s u :=
  ⟨by rw [k.rest, h.rest], fun i hi => (k.others i hi).trans (h.others i hi)⟩

theorem Watches.onChan {s t : State} (h : Watches s t) (n : Nat) : OnChan n s t := ⟨by rw [h.rest], fun k _ => h.chan k⟩

theorem OnChan.refl (n : Nat) (s : State) : OnChan n s s := (Watches.refl s).onChan n

theorem onChan_setChan (n : Nat) (f : PosChan → PosChan) (s : State) : OnChan n s (setChan n f s) :=
  ⟨rfl, fun k hk => by rw [chan_setChan, if_neg hk]⟩

theorem OnChan.ctlGet {n : Nat} {s t : State} (h : OnChan n s t) (a : Nat) : ctlGet a t = ctlGet a s := by rw [h.rest]; rfl
theorem OnChan.now {n : Nat} {s t : State} (h : OnChan n s t) : t.now = s.now := by rw [h.rest]; rfl
theorem OnChan.keep {n : Nat} {s t : State} (h : OnChan n s t) : t.keep = s.keep := by rw [h.rest]
theorem OnChan.cbit {n : Nat} {s t : State} (h : OnChan n s t) (a i : Nat) : cbit a i t = cbit a i s := by simp only [Machine.cbit, h.ctlGet]

/-- A channel with what it has gathered for the record left open. -/
def PosChan.told (c : PosChan) : PosChan := { c with gathered := [] }

theorem flushChan_spec (n : Nat) (s : State) : OnChan n s (flushChan n s) ∧ ((flushChan n s).chan n).told = (s.chan n).told := by
  unfold flushChan
  split
  · exact ⟨.refl n s, rfl⟩
  · have h : Watches s ([0x3001, 0x3002, 0x3003, 0x3004].foldl (fun s code => flushChanCode n code s) s) := by
      have hc : ∀ code u, code / 0x1000 = 3 → Watches u (flushChanCode n code u) := by
        intro code u hc
        simp only [flushChanCode]
        split
        · exact .refl u
        · exact watches_recordC hc _ _ _ u
      exact ((hc _ _ rfl).trans (hc _ _ rfl)).trans ((hc _ _ rfl).trans (hc _ _ rfl))
    refine ⟨(h.onChan n).trans (onChan_setChan n _ _), ?_⟩
    rw [chan_setChan, if_pos rfl, h.chan]
    rfl

/-- A code of a channel is noted, gathered or recorded. -/
theorem chanRecord_spec (n code arg : Nat) (s : State) :
    OnChan n s (chanRecord n code arg s) ∧ ((chanRecord n code arg s).chan n).told = ({ s.chan n with lastCode := code } : PosChan).told := by
  have h := onChan_setChan n (fun c => { c with lastCode := code, gathered := c.gathered ++ [(code, arg)] }) s
  have hc : ((setChan n (fun c => { c with lastCode := code, gathered := c.gathered ++ [(code, arg)] }) s).chan n).told
      = ({ s.chan n with lastCode := code } : PosChan).told := by rw [chan_setChan, if_pos rfl]; rfl
  simp only [chanRecord]
  split
  · exact ⟨h, hc⟩
  · obtain ⟨h1, h2⟩ := flushChan_spec n (setChan n (fun c => { c with lastCode := code, gathered := c.gathered ++ [(code, arg)] }) s)
    exact ⟨h.trans h1, h2.trans hc⟩

/-- One qualified count moves the count by one in its direction and leaves the level, the validity and the lines of the channel (R366). -/
theorem countStep_spec (n : Nat) (up : Bool) (s : State) :
    let C := s.chan n
    let D := (countStep n up s).chan n
    OnChan n s (countStep n up s) ∧ D.count = (if up = cbit (pcReg n 0) 2 s then C.count - 1 else C.count + 1) ∧ D.level = C.level
      ∧ D.bad = C.bad ∧ D.a = C.a ∧ D.b = C.b ∧ D.hall = C.hall := by
  intro C D
  have hr : ∀ (p q : Bool) u, Watches u (ssStep n (if q then raise 97 (if p then raise 98 u else u) else if p then raise 98 u else u)) := by
    intro p q u
    have hp : Watches u (if p then raise 98 u else u) := .ite (watches_raise _ u) (.refl u)
    exact (Watches.ite (hp.trans (watches_raise _ _)) hp).trans (watches_ssStep n _)
  have hs := fun f => onChan_setChan n f s
  refine ⟨(hs _).trans ((hr _ _ _).onChan n), ?_⟩
  have hD : D = (setChan n _ s).chan n := (hr _ _ _).chan n
  rw [hD, chan_setChan, if_pos rfl]
  exact ⟨by simp only [beq_iff_eq]; rfl, rfl, rfl, rfl, rfl, rfl⟩

/-- Nothing but channel `n`, the axes, detectors, encoder outputs, the journal and the events raised differs. -/
structure OnChanAxis (n : Nat) (s t : State) : Prop where
  rest : t = { s with jnl := t.jnl, svc := { s.svc with toggles := t.svc.toggles }, mot := t.mot,
                      fbk := { s.fbk with chans := t.fbk.chans, stand := t.fbk.stand, eo := t.fbk.eo } }
  others : ∀ k, k ≠ n → t.chan k = s.chan k

theorem OnChanAxis.trans {n : Nat} {s t u : State} (h : OnChanAxis n s t) (k : OnChanAxis n t u) : OnChanAxis n s u :=
  ⟨by rw [k.rest, h.rest], fun i hi => (k.others i hi).trans (h.others i hi)⟩

theorem OnChan.axis {n : Nat} {s t : State} (h : OnChan n s t) : OnChanAxis n s t := ⟨by rw [h.rest], h.others⟩

theorem OnChan.noted {n : Nat} {s t : State} (h : OnChan n s t) : t = { s.noted t with fbk := t.fbk } := by rw [h.rest]; rfl
theorem OnChanAxis.noted {n : Nat} {s t : State} (h : OnChanAxis n s t) : t = { s.noted t with fbk := t.fbk, mot := t.mot } := by rw [h.rest]; rfl
theorem OnChanAxis.now {n : Nat} {s t : State} (h : OnChanAxis n s t) : t.now = s.now := by rw [h.rest]; rfl

theorem unhome_spec (n m : Nat) (s : State) : OnChanAxis n s (unhome m s) ∧ (unhome m s).fbk = s.fbk := by
  unfold unhome
  split
  · exact ⟨(OnChan.refl n s).axis, rfl⟩
  · exact ⟨⟨rfl, fun _ _ => rfl⟩, rfl⟩

theorem chanInvalidate_spec (n : Nat) (s : State) :
    OnChanAxis n s (chanInvalidate n s) ∧ (chanInvalidate n s).chan n = { s.chan n with bad := true, lastCode := 0x3005 } := by
  have h := (watches_record (code := 0x3005) rfl [n] (setChan n (fun c => { c with bad := true, lastCode := 0x3005 }) s)).trans (watches_raise 96 _)
  obtain ⟨h1, h2⟩ := unhome_spec n n (raise 96 (record 0x3005 [n] (setChan n (fun c => { c with bad := true, lastCode := 0x3005 }) s)))
  refine ⟨((onChan_setChan n _ s).trans (h.onChan n)).axis.trans h1, ?_⟩
  rw [State.chan, chanInvalidate, h2]
  exact (h.chan n).trans (by rw [chan_setChan, if_pos rfl])

/-- An error of a channel (R373): its level rises, beyond its limit the channel is invalid; count, lines and Hall reference stay. -/
theorem chanError_spec (n code arg : Nat) (imp line : Bool) (s : State) :
    let C := s.chan n
    let D := (chanError n code arg imp line s).chan n
    OnChanAxis n s (chanError n code arg imp line s)
      ∧ (D.count = C.count ∧ D.level = min 255 (C.level + 1) ∧ D.bad = (C.bad || decide (cf (pcReg n 0) 31 24 s < min 255 (C.level + 1))))
      ∧ D.errQ = (if imp || line then C.errQ else sat 0xFFFF (C.errQ + 1)) ∧ D.errImp = (if imp then sat 0xFFFF (C.errImp + 1) else C.errImp)
      ∧ (D.a = C.a ∧ D.b = C.b ∧ D.z = C.z ∧ D.hall = C.hall ∧ D.inImpossible = C.inImpossible)
      ∧ (D.index = C.index ∧ D.latches = C.latches ∧ D.fIndex = C.fIndex) := by
  intro C D
  let s1 := setChan n (fun c => { c with
    level := min 255 (c.level + 1)
    errQ := if imp || line then c.errQ else sat 0xFFFF (c.errQ + 1)
    errImp := if imp then sat 0xFFFF (c.errImp + 1) else c.errImp
    rcCount := if line then c.rcCount else sat 0xFFFF (c.rcCount + 1)
    rcLines := if line then sat 0xFFFF (c.rcLines + 1) else c.rcLines }) s
  have h1 : OnChan n s s1 := onChan_setChan n _ s
  have hc1 : s1.chan n = { C with
      level := min 255 (C.level + 1)
      errQ := if imp || line then C.errQ else sat 0xFFFF (C.errQ + 1)
      errImp := if imp then sat 0xFFFF (C.errImp + 1) else C.errImp
      rcCount := if line then C.rcCount else sat 0xFFFF (C.rcCount + 1)
      rcLines := if line then sat 0xFFFF (C.rcLines + 1) else C.rcLines } := by simp only [s1, chan_setChan, if_true, C]
  obtain ⟨h2, hc2⟩ := chanRecord_spec n code arg s1
  rw [hc1] at hc2
  simp only [PosChan.told, PosChan.mk.injEq] at hc2
  have he : chanError n code arg imp line s = if cf (pcReg n 0) 31 24 s < ((chanRecord n code arg s1).chan n).level ∧
      ((chanRecord n code arg s1).chan n).bad = false then chanInvalidate n (chanRecord n code arg s1) else chanRecord n code arg s1 := rfl
  simp only [D, he]
  by_cases hb : cf (pcReg n 0) 31 24 s < ((chanRecord n code arg s1).chan n).level ∧ ((chanRecord n code arg s1).chan n).bad = false
  · rw [if_pos hb]
    obtain ⟨k1, k2⟩ := chanInvalidate_spec n (chanRecord n code arg s1)
    refine ⟨(h1.trans h2).axis.trans k1, ?_⟩
    rw [k2]
    simp only [hc2] at hb ⊢
    simp [hb.1]
  · rw [if_neg hb]
    refine ⟨(h1.trans h2).axis, ?_⟩
    simp only [hc2] at hb ⊢
    refine ⟨⟨trivial, trivial, ?_⟩, by simp⟩
    cases hC : C.bad
    · simp only [hC, and_true] at hb
      simp [hb]
    · simp

end Sys2Proof.Machine
end

section
/-!
PROOFS. Position channels count (O33).
-/
namespace Sys2Proof.Machine

theorem chanMode_advance (n ns : Nat) (s : State) : chanMode n (advance ns s) = chanMode n s := by
  simp only [chanMode, cf, advance_ctlGet]
  rfl

theorem chanOn_advance (n ns : Nat) (s : State) : chanOn n (advance ns s) = chanOn n s := by
  simp only [chanOn, chanMode_advance, State.chansFitted, State.axesFitted, advance_fused, advance_keep_mode]
  rfl

theorem cbit_advance (a i ns : Nat) (s : State) : cbit a i (advance ns s) = cbit a i s := by simp only [cbit, advance_ctlGet]
theorem cf_advance (a i j ns : Nat) (s : State) : cf a i j (advance ns s) = cf a i j s := by simp only [cf, advance_ctlGet]
theorem chan_advance (n ns : Nat) (s : State) : (advance ns s).chan n = s.chan n := by simp [State.chan]

/-- What the passing of time leaves of the channels and of the registers (R376, R379, R383). -/
theorem chanTime_spec (ns : Nat) (s : State) :
    (∀ n, (chanTime ns s).chan n = s.chan n) ∧ (∀ n, chanOn n (chanTime ns s) = chanOn n s) ∧ (∀ n, chanMode n (chanTime ns s) = chanMode n s)
      ∧ (∀ a i, cbit a i (chanTime ns s) = cbit a i s) ∧ ∀ a i j, cf a i j (chanTime ns s) = cf a i j s := by
  have h := watches_chanTime ns s
  exact ⟨fun n => (h.chan n).trans (chan_advance n ns s), fun n => (h.chanOn n).trans (chanOn_advance n ns s),
    fun n => (h.chanMode n).trans (chanMode_advance n ns s), fun a i => (h.cbit a i).trans (cbit_advance a i ns s),
    fun a i j => (h.cf a i j).trans (cf_advance a i j ns s)⟩

/-- What `ChannelsCount` says of a command of one channel besides its own effect. -/
theorem OnChanAxis.frame {n ns : Nat} {s t : State} (h : OnChanAxis n (advance ns s) t) :
    (∀ k, k ≠ n → t.chan k = s.chan k) ∧ t.now = (advance ns s).now ∧ t = { (advance ns s).noted t with fbk := t.fbk, mot := t.mot } :=
  ⟨fun k hk => (h.others k hk).trans (chan_advance k ns s), h.now, h.noted⟩

/-- A step of channel `n` in state `u`, after which detectors and outputs follow. -/
theorem OnChanAxis.changed {n ns : Nat} {s u : State} (h : OnChanAxis n (advance ns s) u) :
    OnChanAxis n (advance ns s) (chanChanged u) ∧ (chanChanged u).chan n = u.chan n :=
  ⟨h.trans ((watches_chanChanged u).onChan n).axis, (watches_chanChanged u).chan n⟩

/-- A count of channel `n`, whose lines or code were taken by `f` before. -/
theorem counts {n ns : Nat} {s : State} (up : Bool) (f : PosChan → PosChan) :
    let t := chanChanged (countStep n up (setChan n f (chanTime ns s)))
    let C := f (s.chan n)
    OnChanAxis n (advance ns s) t
      ∧ ((t.chan n).count = (if up = cbit (pcReg n 0) 2 s then C.count - 1 else C.count + 1) ∧ (t.chan n).level = C.level ∧ (t.chan n).bad = C.bad)
      ∧ (t.chan n).a = C.a ∧ (t.chan n).b = C.b ∧ (t.chan n).hall = C.hall := by
  intro t C
  obtain ⟨hc, -, -, hb, -⟩ := chanTime_spec ns s
  obtain ⟨h1, h2, h3, h4, h5, h6, h7⟩ := countStep_spec n up (setChan n f (chanTime ns s))
  obtain ⟨k1, k2⟩ := ((((watches_chanTime ns s).onChan n).trans (onChan_setChan n f _)).trans h1).axis.changed
  have hC : (setChan n f (chanTime ns s)).chan n = C := by rw [chan_setChan, if_pos rfl, hc]
  have hcb : cbit (pcReg n 0) 2 (setChan n f (chanTime ns s)) = cbit (pcReg n 0) 2 s := hb _ _
  rw [hC] at h2 h3 h4 h5 h6 h7
  rw [hcb] at h2
  refine ⟨k1, ?_⟩
  simp only [t, k2]
  exact ⟨⟨h2, h3, h4⟩, h5, h6, h7⟩

/-- An error of channel `n`, whose lines or code were taken by `f` before. -/
theorem errors {n ns : Nat} {s : State} (code arg : Nat) (imp : Bool) (f : PosChan → PosChan) :
    let t := chanChanged (chanError n code arg imp false (setChan n f (chanTime ns s)))
    let C := f (s.chan n)
    let D := t.chan n
    OnChanAxis n (advance ns s) t
      ∧ (D.count = C.count ∧ D.level = min 255 (C.level + 1) ∧ D.bad = (C.bad || decide (cf (pcReg n 0) 31 24 s < min 255 (C.level + 1))))
      ∧ D.errQ = (if imp then C.errQ else sat 0xFFFF (C.errQ + 1)) ∧ D.errImp = (if imp then sat 0xFFFF (C.errImp + 1) else C.errImp)
      ∧ D.a = C.a ∧ D.b = C.b ∧ D.hall = C.hall ∧ D.inImpossible = C.inImpossible := by
  intro t C D
  obtain ⟨hc, -, -, -, hf⟩ := chanTime_spec ns s
  obtain ⟨h1, h2, h3, h4, ⟨h5, h6, -, h7, h8⟩, -⟩ := chanError_spec n code arg imp false (setChan n f (chanTime ns s))
  obtain ⟨k1, k2⟩ := (((((watches_chanTime ns s).onChan n).trans (onChan_setChan n f _)).axis).trans h1).changed
  have hC : (setChan n f (chanTime ns s)).chan n = C := by rw [chan_setChan, if_pos rfl, hc]
  have hcf : cf (pcReg n 0) 31 24 (setChan n f (chanTime ns s)) = cf (pcReg n 0) 31 24 s := hf _ _ _
  rw [hC] at h2 h3 h4 h5 h6 h7 h8
  rw [hcf] at h2
  rw [Bool.or_false] at h3
  refine ⟨k1, ?_⟩
  simp only [D, t, k2]
  exact ⟨h2, h3, h4, h5, h6, h7, h8⟩

/-- Lines or a code that are only taken. -/
theorem takes {n ns : Nat} {s : State} (f : PosChan → PosChan) :
    OnChanAxis n (advance ns s) (setChan n f (chanTime ns s)) ∧ (setChan n f (chanTime ns s)).chan n = f (s.chan n) := by
  obtain ⟨hc, -⟩ := chanTime_spec ns s
  exact ⟨(((watches_chanTime ns s).onChan n).trans (onChan_setChan n f _)).axis, by rw [chan_setChan, if_pos rfl, hc]⟩

/-- QUADRATURE_STEP of a channel that counts (R366). -/
theorem execQuadratureStep_on {n : Fin 32} {ns : Nat} {s : State} (hon : chanOn n s = true) (hm : chanMode n s = 1) (a b : Bool) {d : Nat}
    (hd : (quadIndex a b + 4 - quadIndex (s.chan n).a (s.chan n).b) % 4 = d) :
    execQuadratureStep n a b ns s = .next (chanChanged (
      let s1 := setChan n (fun c => { c with a := a, b := b }) (chanTime ns s)
      if d = 1 then countStep n true s1 else if d = 3 then countStep n false s1 else if d = 2 then chanError n 0x3001 1 false false s1 else s1)) := by
  obtain ⟨hc, ho, hmo, -⟩ := chanTime_spec ns s
  subst hd
  simp only [execQuadratureStep, hc, ho, hmo, hon, hm]
  rfl

theorem execQuadratureStep_off {n : Fin 32} {ns : Nat} {s : State} (h : chanOn n s = false ∨ chanMode n s ≠ 1) (a b : Bool) :
    execQuadratureStep n a b ns s = .next (setChan n (fun c => { c with a := a, b := b }) (chanTime ns s)) := by
  obtain ⟨-, ho, hmo, -⟩ := chanTime_spec ns s
  have : (!chanOn n s || chanMode n s != 1) = true := by
    obtain h | h := h <;> simp [h]
  simp only [execQuadratureStep, ho, hmo, this, if_true]

/-- The channel with the lines of a Hall code. -/
def PosChan.lines (h : Nat) (c : PosChan) : PosChan := { c with a := bitAt 0 h, b := bitAt 1 h, z := bitAt 2 h }

theorem execHallCodeChange_off {n : Fin 32} {ns : Nat} {s : State} (h : chanOn n s = false ∨ chanMode n s ≠ 2) (code : Fin 8) :
    execHallCodeChange n code ns s = .next (setChan n (PosChan.lines code) (chanTime ns s)) := by
  obtain ⟨-, ho, hmo, -⟩ := chanTime_spec ns s
  have : (!chanOn n s || chanMode n s != 2) = true := by
    obtain h | h := h <;> simp [h]
  simp only [execHallCodeChange, ho, hmo, this, if_true]
  rfl

theorem setChan_setChan (n : Nat) (f g : PosChan → PosChan) (s : State) : setChan n g (setChan n f s) = setChan n (fun c => g (f c)) s := by
  have hp : ∀ (v w : PosChan) (t : Tab PosChan), put n w (put n v t) = put n w t := by
    intro v w t
    induction t with
    | nil => simp [put]
    | cons e t ih =>
      obtain ⟨j, x⟩ := e
      simp only [put]
      split
      · simp [put]
      · next h1 =>
        split
        · simp [put]
        · next h2 => simp [put, h1, h2, ih]
  simp [setChan, upd, hp]

/-- HALL_CODE_CHANGE of a channel that counts to a valid code (R367). -/
theorem execHallCodeChange_valid {n : Fin 32} {ns : Nat} {s : State} (hon : chanOn n s = true) (hm : chanMode n s = 2) {h : Fin 8} (h0 : h.val ≠ 0)
    (h7 : h.val ≠ 7) {d : Nat} (hd : (hallIndex h + 6 - hallIndex (s.chan n).hall) % 6 = d) : execHallCodeChange n h ns s = .next (chanChanged (
      let s1 := setChan n (fun c => { c.lines h with inImpossible := false, hall := h }) (chanTime ns s)
      if (s.chan n).hall = 0 ∨ d = 0 then s1 else if d = 1 then countStep n true s1 else if d = 5 then countStep n false s1
      else chanError n 0x3003 1 false false s1)) := by
  obtain ⟨hc, ho, hmo, -⟩ := chanTime_spec ns s
  have hn : ¬ (h.val = 0 ∨ h.val = 7) := by omega
  subst hd
  simp only [execHallCodeChange, hc, ho, hmo, hon, hm, setChan_setChan, if_neg hn]
  rfl

/-- HALL_CODE_CHANGE of a channel that counts to an impossible code (R367, R373). -/
theorem execHallCodeChange_impossible {n : Fin 32} {ns : Nat} {s : State} (hon : chanOn n s = true) (hm : chanMode n s = 2) {h : Fin 8}
    (h07 : h.val = 0 ∨ h.val = 7) : execHallCodeChange n h ns s = .next (if (s.chan n).inImpossible then setChan n (PosChan.lines h) (chanTime ns s)
      else chanChanged (chanError n 0x3002 1 true false (setChan n (fun c => { c.lines h with inImpossible := true }) (chanTime ns s)))) := by
  obtain ⟨hc, ho, hmo, -⟩ := chanTime_spec ns s
  simp only [execHallCodeChange, hc, ho, hmo, hon, hm, setChan_setChan, if_pos h07]
  cases (s.chan n).inImpossible <;> rfl

/-! ### Index, decay, gates (R370 to R379) -/

theorem now_chanTime_later {at_ : Nat} {s : State} (h : s.now ≤ at_) (hm : s.keep.mode ≠ .stabled) : (chanTime at_ s).now = at_ := by
  rw [(watches_chanTime at_ s).now, advance_now at_ s hm]
  omega

/-- The next multiple of a period lies ahead. -/
theorem le_nextMultiple (g x : Nat) (hg : 0 < g) : x ≤ (x / g + 1) * g := by
  have := Nat.div_add_mod x g
  have := Nat.mod_lt x hg
  rw [Nat.add_mul, Nat.mul_comm]
  omega

/-- The channel after one decay of its error level (R373, R374). -/
def decayed (n : Nat) (s : State) : PosChan :=
  let c := s.chan n
  if c.level = 0 then c
  else if c.level = 1 ∧ c.bad = true ∧ cbit (pcReg n 0) 5 s = true then
    { c with level := 0, bad := false, qualified := 0, times := [], lastCode := 0x3006 }
  else { c with level := c.level - 1 }

/-- One step of ERROR_LEVEL_DECAY. -/
def decayStep (s : State) (n : Nat) : State :=
  let c := s.chan n
  if c.level = 0 then s
  else
    let s1 := setChan n (fun c => { c with level := c.level - 1 }) s
    if c.level = 1 ∧ c.bad = true ∧ cbit (pcReg n 0) 5 s = true then chanValidate n 0x3006 s1 else s1

theorem chanValidate_spec (n : Nat) {code : Nat} (hc : code / 0x1000 = 3) (s : State) : OnChan n s (chanValidate n code s)
    ∧ (chanValidate n code s).chan n = { s.chan n with bad := false, level := 0, qualified := 0, times := [], lastCode := code } := by
  have h := (watches_record hc [n] (setChan n (fun c => { c with bad := false, level := 0, qualified := 0, times := [], lastCode := code }) s)).trans
    (watches_raise 96 _)
  exact ⟨(onChan_setChan n _ s).trans (h.onChan n), (h.chan n).trans (by rw [chan_setChan, if_pos rfl])⟩

theorem decayStep_spec (n : Nat) (s : State) : OnChan n s (decayStep s n) ∧ (decayStep s n).chan n = decayed n s := by
  by_cases h0 : (s.chan n).level = 0
  · have hs : decayStep s n = s := if_pos h0
    rw [hs, decayed, if_pos h0]
    exact ⟨.refl n s, rfl⟩
  · have h1 := onChan_setChan n (fun c => { c with level := c.level - 1 }) s
    by_cases hv : (s.chan n).level = 1 ∧ (s.chan n).bad = true ∧ cbit (pcReg n 0) 5 s = true
    · obtain ⟨k1, k2⟩ := chanValidate_spec n (code := 0x3006) rfl (setChan n (fun c => { c with level := c.level - 1 }) s)
      simp only [decayStep, decayed, if_neg h0, if_pos hv]
      refine ⟨h1.trans k1, k2.trans ?_⟩
      rw [chan_setChan, if_pos rfl]
    · simp only [decayStep, decayed, if_neg h0, if_neg hv]
      exact ⟨h1, by rw [chan_setChan, if_pos rfl]⟩

/-- Nothing but channels, detectors, encoder outputs, the journal and the events raised differs. -/
def OnChans (s t : State) : Prop := t = { s with
  jnl := t.jnl, svc := { s.svc with toggles := t.svc.toggles }, fbk := { s.fbk with chans := t.fbk.chans, stand := t.fbk.stand, eo := t.fbk.eo } }

theorem OnChans.refl (s : State) : OnChans s s := rfl

theorem OnChans.trans {s t u : State} (h : OnChans s t) (k : OnChans t u) : OnChans s u := by
  unfold OnChans at *
  rw [k, h]

theorem OnChan.chans {n : Nat} {s t : State} (h : OnChan n s t) : OnChans s t := h.rest

theorem OnChans.cbit {s t : State} (h : OnChans s t) (a i : Nat) : cbit a i t = cbit a i s := by unfold OnChans at h; rw [h]; rfl
theorem OnChans.noted {s t : State} (h : OnChans s t) : t = { s.noted t with fbk := t.fbk } := by unfold OnChans at h; rw [h]; rfl
theorem OnChans.now {s t : State} (h : OnChans s t) : t.now = s.now := by unfold OnChans at h; rw [h]; rfl

theorem decays_spec (m : Nat) (s : State) : OnChans s ((List.range m).foldl decayStep s)
    ∧ ∀ k, ((List.range m).foldl decayStep s).chan k = if k < m then decayed k s else s.chan k :=
  foldl_range_each (fun k u => u.chan k) decayed OnChans .refl (fun _ _ _ => .trans) (fun u n => (decayStep_spec n u).1.rest)
    (fun u n k hk => (decayStep_spec n u).1.others k hk)
    (fun s u n h hc => (decayStep_spec n u).2.trans (by simp only [decayed, hc, h.cbit])) m s

theorem decayed_spec (n : Nat) (s : State) : (decayed n s).level = (s.chan n).level - 1 ∧ (decayed n s).count = (s.chan n).count
    ∧ (decayed n s).bad = ((s.chan n).bad && !((s.chan n).level == 1 && cbit (pcReg n 0) 5 s)) := by
  unfold decayed
  by_cases h0 : (s.chan n).level = 0
  · simp [h0]
  · by_cases hv : (s.chan n).level = 1 ∧ (s.chan n).bad = true ∧ cbit (pcReg n 0) 5 s = true
    · simp [hv]
    · simp only [if_neg h0, if_neg hv, true_and]
      cases hb : (s.chan n).bad
      · rfl
      · by_cases h1 : (s.chan n).level = 1
        · have : cbit (pcReg n 0) 5 s = false := by simpa [h1, hb] using hv
          simp [this]
        · simp [h1]

theorem periodSpeed_congr {n : Nat} {s t : State} (hc : t.chan n = s.chan n) (hm : chanMode n t = chanMode n s) (ht : t.now = s.now) :
    periodSpeed n t = periodSpeed n s := by
  unfold periodSpeed speedWindow State.mclk
  rw [hc, hm, ht]

theorem zeroTimedOut_congr {n : Nat} {s t : State} (hc : t.chan n = s.chan n) (hf : cf (pcReg n 8) 31 16 t = cf (pcReg n 8) 31 16 s) (ht : t.now = s.now) :
    zeroTimedOut n t = zeroTimedOut n s := by
  unfold zeroTimedOut tZero State.mclk
  rw [hc, hf, ht]

/-- The gate of a channel ends (R377, R378). -/
def gateEnd (n g : Nat) (s : State) : PosChan :=
  let c := s.chan n
  let vf := c.gateNet * 256 * ((1_000_000_000 / g : Nat) : Int)
  let up := cf (pcReg n 0xC) 15 0 s
  let dn := cf (pcReg n 0xC) 31 16 s
  { c with
    vf := vf, gateNet := 0
    freq := if up = 0 ∨ up ≤ dn then false else if c.freq then !decide (vf.natAbs ≤ dn * 256) else decide (up * 256 ≤ (periodSpeed n s).natAbs) }

theorem execFrequencyGateEnd_eq (n : Fin 32) (s : State) :
    ∃ t, execFrequencyGateEnd n s = .next t ∧ OnChan n (advance ((s.now / gateNs n s + 1) * gateNs n s) s) t
      ∧ t.chan n = gateEnd n (gateNs n s) (chanTime ((s.now / gateNs n s + 1) * gateNs n s) s) := by
  refine ⟨_, rfl, ?_, ?_⟩
  · exact ((watches_chanTime _ s).onChan n).trans ((onChan_setChan n _ _).trans ((watches_chanChanged _).onChan n))
  · refine ((watches_chanChanged _).chan n).trans ?_
    rw [chan_setChan, if_pos rfl]
    rfl

/-- The latch of an index edge (R370). -/
def PosChan.latchIndex (c : PosChan) : PosChan :=
  { c with index := c.count, fIndex := true, lineRef := some c.count, dirSinceLatch := false, latches := c.latches + 1 }

/-- An index edge latches the count; a line count outside its tolerance is an error (R370, R371). -/
theorem execIndexLatch_latches {n : Fin 32} {level : Bool} {ns : Nat} {s : State}
    (hg : chanOn n s = true ∧ chanMode n s = 1 ∧ cbit (pcReg n 0) 3 s = true) (hl : level = cbit (pcReg n 0) 4 s) (hz : (s.chan n).z ≠ level) :
    Completes (.indexLatch n level ns) s (fun t => OnChanAxis n (advance ns s) t ∧ (t.chan n).index = (s.chan n).count
      ∧ (t.chan n).latches = (s.chan n).latches + 1 ∧ (t.chan n).z = level ∧ (t.chan n).fIndex = true ∧ (t.chan n).count = (s.chan n).count) := by
  obtain ⟨hc, ho, hmo, hb, hf⟩ := chanTime_spec ns s
  obtain ⟨hon, hm, h3⟩ := hg
  let s1 := setChan n PosChan.latchIndex (setChan n (fun c => { c with z := level }) (chanTime ns s))
  have h1 : OnChan n (advance ns s) s1 := ((watches_chanTime ns s).onChan n).trans ((onChan_setChan n _ _).trans (onChan_setChan n _ _))
  have hc1 : s1.chan n = ({ s.chan n with z := level } : PosChan).latchIndex := by simp only [s1, chan_setChan, if_true, hc]
  have hdo : (!chanOn n s || chanMode n s != 1 || !cbit (pcReg n 0) 3 s || !(level == cbit (pcReg n 0) 4 s && (s.chan n).z != cbit (pcReg n 0) 4 s)) = false := by
    simp [hon, hm, h3, ← hl, hz]
  have hfin : ∀ u, OnChanAxis n s1 u → (u.chan n).index = (s1.chan n).index → (u.chan n).latches = (s1.chan n).latches
      → (u.chan n).z = (s1.chan n).z → (u.chan n).fIndex = (s1.chan n).fIndex → (u.chan n).count = (s1.chan n).count →
      OnChanAxis n (advance ns s) u ∧ (u.chan n).index = (s.chan n).count ∧ (u.chan n).latches = (s.chan n).latches + 1 ∧ (u.chan n).z = level
        ∧ (u.chan n).fIndex = true ∧ (u.chan n).count = (s.chan n).count := by
    intro u hu e1 e2 e3 e4 e5
    rw [e1, e2, e3, e4, e5, hc1]
    exact ⟨h1.axis.trans hu, rfl, rfl, rfl, rfl, rfl⟩
  have hsame := hfin s1 (OnChan.refl n s1).axis rfl rfl rfl rfl rfl
  change ∃ t, execIndexLatch n level ns s = _ ∧ _
  simp only [execIndexLatch, hc, ho, hmo, hb, hf, hdo, Bool.false_eq_true, if_false]
  cases (s.chan n).lineRef with
  | none => exact ⟨s1, rfl, hsame⟩
  | some l1 =>
    dsimp only
    split
    · exact ⟨s1, rfl, hsame⟩
    · obtain ⟨k1, ⟨k2, -, -⟩, -, -, ⟨-, -, k3, -, -⟩, k4, k5, k6⟩ := chanError_spec n 0x3004 ((s.chan n).count - l1).toNat false true
        (setChan n (fun c => { c with fLine := true }) s1)
      have hw := (watches_raise 99 (chanError n 0x3004 ((s.chan n).count - l1).toNat false true
        (setChan n (fun c => { c with fLine := true }) s1))).trans (watches_chanChanged _)
      rw [chan_setChan, if_pos rfl] at k2 k3 k4 k5 k6
      refine ⟨_, rfl, hfin _ (((onChan_setChan n _ s1).axis.trans k1).trans (hw.onChan n).axis) ?_ ?_ ?_ ?_ ?_⟩
      · exact (congrArg PosChan.index (hw.chan n)).trans k4
      · exact (congrArg PosChan.latches (hw.chan n)).trans k5
      · exact (congrArg PosChan.z (hw.chan n)).trans k3
      · exact (congrArg PosChan.fIndex (hw.chan n)).trans k6
      · exact (congrArg PosChan.count (hw.chan n)).trans k2

theorem execIndexLatch_takes {n : Fin 32} {level : Bool} {ns : Nat} {s : State}
    (h : ¬ (chanOn n s = true ∧ chanMode n s = 1 ∧ cbit (pcReg n 0) 3 s = true) ∨ level ≠ cbit (pcReg n 0) 4 s ∨ (s.chan n).z = level) :
    execIndexLatch n level ns s = .next (setChan n (fun c => { c with z := level }) (chanTime ns s)) := by
  obtain ⟨hc, ho, hmo, hb, -⟩ := chanTime_spec ns s
  have hdo : (!chanOn n s || chanMode n s != 1 || !cbit (pcReg n 0) 3 s || !(level == cbit (pcReg n 0) 4 s && (s.chan n).z != cbit (pcReg n 0) 4 s)) = true := by
    by_cases hl : level = cbit (pcReg n 0) 4 s
    · by_cases hz : (s.chan n).z = level
      · simp [hz, hl]
      · have hg := (h.resolve_right (by rintro (h | h); exacts [h hl, hz h]))
        simp only [not_and] at hg
        cases h1 : chanOn n s
        · simp
        · by_cases h2 : chanMode n s = 1
          · simp [hg h1 h2]
          · simp [h2]
    · simp [hl]
  simp only [execIndexLatch, hc, ho, hmo, hb, hdo, if_true]

/-- The Hall code of a state is none of R367's distances but one of 1 to 5. -/
theorem hallDistance_cases {d : Nat} (h : d = 2 ∨ d = 3 ∨ d = 4) : d ≠ 0 ∧ d ≠ 1 ∧ d ≠ 5 := by omega

/-- Settles O33: each command is one of `counts`, `errors`, `takes`, chosen by the distance of its step. -/
theorem channelsCount : Obligations.ChannelsCount := by
  refine ⟨fun n ns s => ?_, fun n ns s => ?_⟩
  · intro C inv does moved errs
    refine ⟨?_, ?_, fun h a b => ?_, fun h code => ?_⟩
    · intro hon hm a b d
      have he : ∀ {k}, d = k → _ := fun hd => execQuadratureStep_on (n := n) (ns := ns) hon hm a b hd
      refine ⟨fun hd => ?_, fun hd => ?_, fun hd => ?_, fun hd => ?_⟩
      · have hab : a = C.a ∧ b = C.b := by
          have hd' : (quadIndex a b + 4 - quadIndex C.a C.b) % 4 = 0 := hd
          revert hd'
          cases a <;> cases b <;> cases C.a <;> cases C.b <;> decide
        obtain ⟨h1, h2⟩ := (takes (n := n) (ns := ns) (s := s) (fun c => { c with a := a, b := b })).1.changed
        refine ⟨_, (he hd).trans rfl, ?_, h1.frame⟩
        have h3 := h2.trans (takes (n := n) (ns := ns) (s := s) (fun c => { c with a := a, b := b })).2
        rw [hab.1, hab.2] at h3 ⊢
        exact h3
      · obtain ⟨h1, h2, h3, h4, -⟩ := counts (n := n) (ns := ns) (s := s) true (fun c => { c with a := a, b := b })
        exact ⟨_, (he hd).trans rfl, ⟨h2, h3, h4⟩, h1.frame⟩
      · obtain ⟨h1, h2, h3, h4, -⟩ := counts (n := n) (ns := ns) (s := s) false (fun c => { c with a := a, b := b })
        exact ⟨_, (he hd).trans rfl, ⟨h2, h3, h4⟩, h1.frame⟩
      · obtain ⟨h1, h2, h3, -, h4, h5, -⟩ := errors (n := n) (ns := ns) (s := s) 0x3001 1 false (fun c => { c with a := a, b := b })
        exact ⟨_, (he hd).trans rfl, ⟨h2, h3, h4, h5⟩, h1.frame⟩
    · intro hon hm h d
      refine ⟨?_, ?_⟩
      · intro h0 h7
        have he : ∀ {k}, d = k → _ := fun hd => execHallCodeChange_valid (n := n) (ns := ns) hon hm h0 h7 hd
        refine ⟨fun hd => ?_, fun hh hd => ?_, fun hh hd => ?_, fun hh hd => ?_⟩
        · obtain ⟨h1, h2⟩ := (takes (n := n) (ns := ns) (s := s) (fun c => { c.lines h with inImpossible := false, hall := h })).1.changed
          have h3 := h2.trans (takes (n := n) (ns := ns) (s := s) (fun c => { c.lines h with inImpossible := false, hall := h })).2
          refine ⟨_, (he rfl).trans (congrArg (fun x => Host.Outcome.next (chanChanged x)) (if_pos hd)), ?_, h1.frame⟩
          dsimp only
          rw [h3]
          exact ⟨rfl, rfl, rfl, rfl⟩
        · obtain ⟨h1, h2, -, -, h4⟩ := counts (n := n) (ns := ns) (s := s) true (fun c => { c.lines h with inImpossible := false, hall := h })
          exact ⟨_, (he hd).trans (congrArg (fun x => Host.Outcome.next (chanChanged x)) (if_neg (by simpa using hh))), ⟨h2, h4⟩, h1.frame⟩
        · obtain ⟨h1, h2, -, -, h4⟩ := counts (n := n) (ns := ns) (s := s) false (fun c => { c.lines h with inImpossible := false, hall := h })
          exact ⟨_, (he hd).trans (congrArg (fun x => Host.Outcome.next (chanChanged x)) (if_neg (by simpa using hh))), ⟨h2, h4⟩, h1.frame⟩
        · obtain ⟨d0, d1, d5⟩ := hallDistance_cases hd
          obtain ⟨h1, h2, h3, -, -, -, h4, -⟩ := errors (n := n) (ns := ns) (s := s) 0x3003 1 false
            (fun c => { c.lines h with inImpossible := false, hall := h })
          exact ⟨_, (he rfl).trans (congrArg (fun x => Host.Outcome.next (chanChanged x))
            ((if_neg (by rintro (e | e); exacts [hh e, d0 e])).trans ((if_neg d1).trans (if_neg d5)))), ⟨h2, h3, h4⟩, h1.frame⟩
      · intro h07
        have he := execHallCodeChange_impossible (n := n) (ns := ns) hon hm h07
        refine ⟨fun hi => ?_, fun hi => ?_⟩
        · obtain ⟨h1, h2, -, h3, -, -, -, h4⟩ := errors (n := n) (ns := ns) (s := s) 0x3002 1 true (fun c => { c.lines h with inImpossible := true })
          exact ⟨_, he.trans (congrArg Host.Outcome.next (if_neg (Bool.eq_false_iff.mp hi))), ⟨h2, h3, h4⟩, h1.frame⟩
        · obtain ⟨h1, h2⟩ := takes (n := n) (ns := ns) (s := s) (PosChan.lines h)
          refine ⟨_, he.trans (congrArg Host.Outcome.next (if_pos hi)), ?_, h1.frame⟩
          dsimp only
          rw [h2]
          exact ⟨rfl, rfl, hi⟩
    · obtain ⟨h1, h2⟩ := takes (n := n) (ns := ns) (s := s) (fun c => { c with a := a, b := b })
      exact ⟨_, execQuadratureStep_off h a b, h2, h1.frame⟩
    · obtain ⟨h1, h2⟩ := takes (n := n) (ns := ns) (s := s) (PosChan.lines code)
      exact ⟨_, execHallCodeChange_off h code, h2, h1.frame⟩
  · intro C u gates
    refine ⟨fun level => ⟨fun hg hl hz => ?_, fun h => ?_⟩, ?_, ?_, ?_⟩
    · obtain ⟨t, he, h1, h2, h3, h4, h5, h6⟩ := execIndexLatch_latches (ns := ns) hg hl hz
      exact ⟨t, he, h2, h3, h4, h5, h6, h1.frame.1, h1.noted⟩
    · obtain ⟨h1, h2⟩ := takes (n := n) (ns := ns) (s := s) (fun c => { c with z := level })
      exact ⟨_, execIndexLatch_takes h, h2, h1.frame.1, (((watches_chanTime ns s).onChan n).trans (onChan_setChan n _ _)).noted⟩
    · intro at_
      have hat : s.now ≤ at_ := le_nextMultiple 100_000_000 s.now (by decide)
      obtain ⟨hc, -, -, hb, -⟩ := chanTime_spec at_ s
      obtain ⟨h1, h2⟩ := decays_spec 32 (chanTime at_ s)
      have hw := watches_chanChanged ((List.range 32).foldl decayStep (chanTime at_ s))
      have hall : OnChans (advance at_ s) (chanChanged ((List.range 32).foldl decayStep (chanTime at_ s))) :=
        (((watches_chanTime at_ s).onChan 0).chans.trans h1).trans (hw.onChan 0).chans
      refine ⟨_, rfl, fun hm => ?_, fun k hk => ?_, hall.noted⟩
      · exact (hw.now.trans h1.now).trans (now_chanTime_later hat hm)
      · have hk' : (chanChanged ((List.range 32).foldl decayStep (chanTime at_ s))).chan k = decayed k (chanTime at_ s) :=
          (hw.chan k).trans ((h2 k).trans (if_pos hk))
        obtain ⟨d1, d2, d3⟩ := decayed_spec k (chanTime at_ s)
        rw [hc] at d1 d2 d3
        rw [hb] at d3
        exact ⟨(congrArg PosChan.level hk').trans d1, (congrArg PosChan.count hk').trans d2, (congrArg PosChan.bad hk').trans d3⟩
    · intro at_ vf up dn
      have hg : 0 < gateNs n s := Nat.mul_pos (by decide) (Nat.two_pow_pos _)
      obtain ⟨hc, -, hmo, -, hf⟩ := chanTime_spec at_ s
      obtain ⟨t, he, h1, h2⟩ := execFrequencyGateEnd_eq n s
      have hnow : (chanTime at_ s).now = (advance at_ s).now := (watches_chanTime at_ s).now
      have hps : periodSpeed n (chanTime at_ s) = periodSpeed n (advance at_ s) :=
        periodSpeed_congr ((hc n).trans (chan_advance n at_ s).symm) ((hmo n).trans (chanMode_advance n at_ s).symm) hnow
      have hfreq : (t.chan n).freq = if up = 0 ∨ up ≤ dn then false else if C.freq then !decide (vf.natAbs ≤ dn * 256)
          else decide (up * 256 ≤ (periodSpeed n (advance at_ s)).natAbs) := by
        rw [h2]
        simp only [gateEnd]
        rw [hps, hc, hf, hf]
      refine ⟨t, he, fun hm => ?_, by rw [h2]; rfl, ?_, ?_, fun hle => ?_, fun hlt hC => ?_, fun hlt hC => ?_,
        fun k hk => (h1.others k hk).trans (chan_advance k at_ s), h1.noted⟩
      · rw [h1.now, advance_now _ s hm]
        have := le_nextMultiple (gateNs n s) s.now hg
        exact Nat.max_eq_right this
      · rw [h2]
        simp only [gateEnd]
        rw [hc]
      · rw [h2]
        simp only [gateEnd]
        rw [hc]
      · rw [hfreq, if_pos (.inr hle)]
      · rw [hfreq, if_neg (by omega), if_pos hC]
        simp
      · rw [hfreq, if_neg (by omega), if_neg (by simp [hC])]
        simp
    · obtain ⟨hc, ho, -, -, hf⟩ := chanTime_spec ns s
      have hw := (watches_chanTime ns s).trans (watches_eoFollowAll false (chanTime ns s))
      refine ⟨_, rfl, hw.chans.trans (by rw [advance_fbk]), fun hz hC => ?_, ?_, (hw.onChan n).noted⟩
      · have hz' : zeroTimedOut n (eoFollowAll false (chanTime ns s)) = true := by
          rw [zeroTimedOut_congr (hw.chan n) (hw.cf _ _ _) hw.now]
          exact hz
        have hfr : ((eoFollowAll false (chanTime ns s)).chan n).freq = false := by rw [hw.chan, chan_advance]; exact hC
        simp only [chanSpeed, hz', hfr, Bool.false_eq_true, if_false, if_true]
      · simp only [chanValid, hw.chan, hw.chanOn, chan_advance, chanOn_advance]

end Sys2Proof.Machine
end

section
/-!
PROOFS. Standstill detectors, wheel heads and sections (O34).
-/
namespace Sys2Proof.Machine

/-! ### Sections (R389 to R393) -/

/-- Nothing but sections, encoder outputs, detectors, the journal and the events raised differs. -/
structure OnSections (s t : State) : Prop where
  rest : t = { s with jnl := t.jnl, svc := { s.svc with toggles := t.svc.toggles },
                      fbk := { s.fbk with sections := t.fbk.sections, stand := t.fbk.stand, eo := t.fbk.eo } }

theorem OnSections.trans {s t u : State} (h : OnSections s t) (k : OnSections t u) : OnSections s u := ⟨by rw [k.rest, h.rest]⟩

theorem OnSections.refl (s : State) : OnSections s s := ⟨rfl⟩

theorem Watches.onSections {s t : State} (h : Watches s t) : OnSections s t := ⟨by rw [h.rest]⟩

theorem OnSections.heads {s t : State} (h : OnSections s t) : t.fbk.heads = s.fbk.heads := by rw [h.rest]
theorem OnSections.chans {s t : State} (h : OnSections s t) : t.fbk.chans = s.fbk.chans := by rw [h.rest]
theorem OnSections.head {s t : State} (h : OnSections s t) (k : Nat) : t.head k = s.head k := by rw [h.rest]; rfl
theorem OnSections.ctlGet {s t : State} (h : OnSections s t) (a : Nat) : ctlGet a t = ctlGet a s := by rw [h.rest]; rfl
theorem OnSections.cbit {s t : State} (h : OnSections s t) (a i : Nat) : cbit a i t = cbit a i s := by simp only [Machine.cbit, h.ctlGet]
theorem OnSections.noted {s t : State} (h : OnSections s t) : t = { s.noted t with fbk := t.fbk } := by rw [h.rest]; rfl

theorem OnSections.foldl {α : Type} {op : State → α → State} (h : ∀ u i, OnSections u (op u i)) (l : List α) (s : State) :
    OnSections s (l.foldl op s) := by
  induction l generalizing s with
  | nil => exact .refl s
  | cons i l ih => exact (h s i).trans (ih _)

/-- Of the sections only `k` differs, and nothing else of the region's state but what follows it. -/
structure OnSection (k : Nat) (s t : State) : Prop extends OnSections s t where
  others : ∀ j, j ≠ k → t.section_ j = s.section_ j

theorem OnSection.trans {k : Nat} {s t u : State} (h : OnSection k s t) (i : OnSection k t u) : OnSection k s u :=
  ⟨h.toOnSections.trans i.toOnSections, fun j hj => (i.others j hj).trans (h.others j hj)⟩

theorem OnSection.refl (k : Nat) (s : State) : OnSection k s s := ⟨.refl s, fun _ _ => rfl⟩

theorem Watches.onSection {s t : State} (h : Watches s t) (k : Nat) : OnSection k s t := ⟨h.onSections, fun j _ => h.section_ j⟩

theorem onSection_setSection (k : Nat) (f : Section → Section) (s : State) : OnSection k s (setSection k f s) :=
  ⟨⟨rfl⟩, fun j hj => by rw [section_setSection, if_neg hj]⟩

/-- What a change of state makes of section `k` (R389, R391). -/
theorem secState_spec (k : Nat) (st : SecState) (s : State) : OnSection k s (secState k st s)
    ∧ (secState k st s).section_ k
      = { s.section_ k with state := st, swept := false, causes := if st = .disturbed then (s.section_ k).causes else 0 } := by
  have h := onSection_setSection k (fun c => { c with state := st, swept := false, causes := if st = .disturbed then c.causes else 0 }) s
  simp only [secState]
  split
  · exact ⟨h, by rw [section_setSection, if_pos rfl]⟩
  · exact ⟨h.trans ((watches_raise _ _).onSection k), (section_setSection k k _ s).trans (if_pos rfl)⟩

/-- What a disturbance makes of section `k` (R391). -/
theorem disturb_spec (k bit : Nat) (s : State) : OnSection k s (disturb k bit s)
    ∧ (disturb k bit s).section_ k = if (s.section_ k).state = .disturbed
        then { s.section_ k with causes := (s.section_ k).causes ||| (1#8 <<< (bit - 4)) }
        else { s.section_ k with state := .disturbed, swept := false, causes := 1#8 <<< (bit - 4) } := by
  simp only [disturb]
  split
  · exact ⟨onSection_setSection k _ s, by rw [section_setSection, if_pos rfl]⟩
  · obtain ⟨h1, h2⟩ := secState_spec k .disturbed s
    have hw := watches_record (code := 0x3030) rfl [k, 2 ^ bit] (setSection k (fun c => { c with causes := 1#8 <<< (bit - 4) }) (secState k .disturbed s))
    refine ⟨(h1.trans (onSection_setSection k _ _)).trans (hw.onSection k), ?_⟩
    rw [hw.section_, section_setSection, if_pos rfl, h2]

theorem disturb_state (k bit : Nat) (s : State) : ((disturb k bit s).section_ k).state = .disturbed := by
  rw [(disturb_spec k bit s).2]
  split
  · next h => exact h
  · rfl

theorem disturb_cause (k : Nat) {bit : Nat} (hb : bit - 4 < 8) (s : State) : ((disturb k bit s).section_ k).causes.getLsbD (bit - 4) = true := by
  rw [(disturb_spec k bit s).2]
  split <;> simp [hb]

theorem disturb_kept (k bit : Nat) (s : State) : ((disturb k bit s).section_ k).occ = (s.section_ k).occ
    ∧ ((disturb k bit s).section_ k).fApplied = (s.section_ k).fApplied := by
  rw [(disturb_spec k bit s).2]
  split <;> exact ⟨rfl, rfl⟩

theorem onSection_secRestored (k : Nat) (s : State) : OnSection k s (secRestored k s) := by
  simp only [secRestored]
  split
  · exact (secState_spec k .clear s).1.trans ((watches_record rfl _ _).onSection k)
  · exact .refl k s

/-! ### Heads (R385 to R388) -/

theorem head_advance (k ns : Nat) (s : State) : (advance ns s).head k = s.head k := by simp [State.head]
theorem section_advance (k ns : Nat) (s : State) : (advance ns s).section_ k = s.section_ k := by simp [State.section_]

/-- Nothing but head `k`, sections, encoder outputs, detectors, the journal and the events raised differs. -/
structure OnHead (k : Nat) (s t : State) : Prop where
  rest : t = { s with jnl := t.jnl, svc := { s.svc with toggles := t.svc.toggles },
                      fbk := { s.fbk with heads := t.fbk.heads, sections := t.fbk.sections, stand := t.fbk.stand, eo := t.fbk.eo } }
  others : ∀ j, j ≠ k → t.head j = s.head j

theorem OnHead.trans {k : Nat} {s t u : State} (h : OnHead k s t) (i : OnHead k t u) : OnHead k s u :=
  ⟨by rw [i.rest, h.rest], fun j hj => (i.others j hj).trans (h.others j hj)⟩

theorem OnSections.onHead {s t : State} (h : OnSections s t) (k : Nat) : OnHead k s t := ⟨by rw [h.rest], fun j _ => h.head j⟩
theorem onHead_setHead (k : Nat) (f : Head → Head) (s : State) : OnHead k s (setHead k f s) :=
  ⟨rfl, fun j hj => by rw [head_setHead, if_neg hj]⟩
theorem OnHead.cbit {k : Nat} {s t : State} (h : OnHead k s t) (a i : Nat) : cbit a i t = cbit a i s := by rw [h.rest]; rfl
theorem OnHead.noted {k : Nat} {s t : State} (h : OnHead k s t) : t = { s.noted t with fbk := t.fbk } := by rw [h.rest]; rfl

/-- The sections that a head bounds are disturbed, the others stay. -/
theorem disturbs_spec (k bit m : Nat) (s : State) :
    let t := (List.range m).foldl (fun s j => if cbit (secReg j 0) k s then disturb j bit s else s) s
    OnSections s t ∧ ∀ j, t.section_ j = if j < m then (if cbit (secReg j 0) k s then (disturb j bit s).section_ j else s.section_ j) else s.section_ j := by
  refine foldl_range_each (fun j (u : State) => u.section_ j) (fun j u => if cbit (secReg j 0) k u then (disturb j bit u).section_ j else u.section_ j)
    OnSections .refl (fun _ _ _ => .trans) (fun u j => ?_) (fun u i j hj => ?_) (fun s u i h hs => ?_) m s
  · split
    · exact (disturb_spec j bit u).1.toOnSections
    · exact .refl u
  · split
    · exact (disturb_spec i bit u).1.others j hj
    · rfl
  · rw [h.cbit]
    split
    · rw [(disturb_spec i bit u).2, (disturb_spec i bit s).2, hs]
    · exact hs

/-- A head that is not ready any more: its counts stay, the sections it bounds are disturbed (R387, R391). -/
theorem headNotReady_spec (k : Nat) (seqErr : Bool) (arg1 arg2 : Nat) (s : State) :
    let t := headNotReady k seqErr arg1 arg2 s
    OnHead k s t
      ∧ ((t.head k).state = 0 ∧ (t.head k).freeSince = none ∧ (t.head k).sysA = (s.head k).sysA ∧ (t.head k).sysB = (s.head k).sysB
        ∧ (t.head k).inCnt = (s.head k).inCnt ∧ (t.head k).outCnt = (s.head k).outCnt)
      ∧ ((s.head k).state ≠ 0 → ∀ j < 16, cbit (secReg j 0) k s = true → (t.section_ j).state = .disturbed)
      ∧ (∀ j < 16, (s.head k).state = 0 ∨ cbit (secReg j 0) k s = false → t.section_ j = s.section_ j) := by
  intro t
  by_cases h0 : (s.head k).state = 0
  · have ht : t = setHead k (fun h => { h with freeSince := none }) s := if_pos h0
    rw [ht]
    refine ⟨onHead_setHead k _ s, ?_, fun h => absurd h0 h, fun j _ _ => rfl⟩
    rw [head_setHead, if_pos rfl]
    exact ⟨h0, rfl, rfl, rfl, rfl, rfl⟩
  · let s1 := setHead k (fun h => { h with
      state := 0, freeSince := none, lastCode := if seqErr then 0x3020 else 0x3021
      fSeqErr := h.fSeqErr || seqErr, lastWasSeq := seqErr }) s
    let s2 := raise (128 + k) (if seqErr then record (if seqErr then 0x3020 else 0x3021) [k, arg1, arg2] s1
      else record (if seqErr then 0x3020 else 0x3021) [k] s1)
    have ht : t = (List.range 16).foldl (fun s j => if cbit (secReg j 0) k s then disturb j (if seqErr then 6 else 5) s else s) s2 := if_neg h0
    have hw : Watches s1 s2 := by
      cases seqErr
      · exact (watches_record rfl _ _).trans (watches_raise _ _)
      · exact (watches_record rfl _ _).trans (watches_raise _ _)
    have h1 : OnHead k s s1 := onHead_setHead k _ s
    obtain ⟨k1, k2⟩ := disturbs_spec k (if seqErr then 6 else 5) 16 s2
    rw [← ht] at k1 k2
    have hcb : ∀ j, cbit (secReg j 0) k s2 = cbit (secReg j 0) k s := fun j => (hw.cbit _ _).trans (h1.cbit _ _)
    have hsec : ∀ j, s2.section_ j = s.section_ j := fun j => (hw.section_ j).trans rfl
    refine ⟨(h1.trans (hw.onSections.onHead k)).trans (k1.onHead k), ?_, fun _ j hj hc => ?_, fun j hj hc => ?_⟩
    · rw [k1.head, hw.head, head_setHead, if_pos rfl]
      exact ⟨rfl, rfl, rfl, rfl, rfl, rfl⟩
    · rw [k2 j, if_pos hj, hcb, if_pos hc, disturb_state]
    · rw [k2 j, if_pos hj, hcb, if_neg (by simpa using hc.resolve_left h0), hsec]

/-! ### Section commands -/

/-- A refused section command (R392). -/
theorem sectionRefused_spec (k reason : Nat) (s : State) :
    let t := record 0x3034 [k, reason] (setSection k (fun c => { c with fRefused := true }) s)
    OnSection k s t ∧ t.section_ k = { s.section_ k with fRefused := true } := by
  have hw := watches_record (code := 0x3034) rfl [k, reason] (setSection k (fun c => { c with fRefused := true }) s)
  exact ⟨(onSection_setSection k _ s).trans (hw.onSection k), (hw.section_ k).trans (by rw [section_setSection, if_pos rfl])⟩

theorem sectionCommand_refused {cmd k : Nat} {fieldsOk excess : Bool} {s : State} (h : fieldsOk = false ∨ secHeads k s = []
    ∨ (cmd ≠ 3 ∧ (excess = true ∨ secIdle k s = false ∨ ((s.section_ k).state ≠ .disturbed ∧ (s.section_ k).state ≠ .restoring)))) :
    ∃ reason, sectionCommand cmd k fieldsOk excess s = record 0x3034 [k, reason] (setSection k (fun c => { c with fRefused := true }) s) := by
  simp only [sectionCommand]
  split
  · exact ⟨1, rfl⟩
  · next hf =>
    split
    · exact ⟨2, rfl⟩
    · next hh =>
      obtain ⟨h3, h⟩ := (h.resolve_left (by simpa using hf)).resolve_left hh
      rw [if_neg h3]
      split
      · exact ⟨3, rfl⟩
      · next he =>
        split
        · exact ⟨3, rfl⟩
        · next hs =>
          have hi : secIdle k s = false := (h.resolve_left he).resolve_right hs
          exact ⟨4, by simp [hi]⟩

/-- RESET and RESTORE of a disturbed or restoring section whose heads are idle (R392). -/
theorem sectionCommand_applied {cmd k : Nat} {s : State} (h3 : cmd ≠ 3) (hh : secHeads k s ≠ [])
    (hs : (s.section_ k).state = .disturbed ∨ (s.section_ k).state = .restoring) (hi : secIdle k s = true) :
    let t := sectionCommand cmd k true false s
    OnSection k s t ∧ (t.section_ k).state = (if cmd = 1 then .clear else .restoring) ∧ (t.section_ k).occ = 0 ∧ (t.section_ k).causes = 0
      ∧ (t.section_ k).fApplied = true := by
  intro t
  have h1 := onSection_setSection k (fun c => { c with occ := 0, fApplied := true }) s
  have hn : ¬ ((s.section_ k).state ≠ .disturbed ∧ (s.section_ k).state ≠ .restoring) := fun hn => hs.elim hn.1 hn.2
  have ht : t = if cmd = 1 then record 0x3031 [k] (secState k .clear (setSection k (fun c => { c with occ := 0, fApplied := true }) s))
      else record 0x3032 [k] (secState k .restoring (setSection k (fun c => { c with occ := 0, fApplied := true }) s)) := by
    simp only [t, sectionCommand, Bool.not_true, Bool.false_eq_true, if_false, if_neg hh, if_neg h3, if_neg hn, hi]
  have hst : ∀ code st, code / 0x1000 = 3 → st ≠ .disturbed →
      let u := record code [k] (secState k st (setSection k (fun c => { c with occ := 0, fApplied := true }) s))
      OnSection k s u ∧ (u.section_ k).state = st ∧ (u.section_ k).occ = 0 ∧ (u.section_ k).causes = 0 ∧ (u.section_ k).fApplied = true := by
    intro code st hc hd u
    obtain ⟨k1, k2⟩ := secState_spec k st (setSection k (fun c => { c with occ := 0, fApplied := true }) s)
    have hw := watches_record hc [k] (secState k st (setSection k (fun c => { c with occ := 0, fApplied := true }) s))
    refine ⟨(h1.trans k1).trans (hw.onSection k), ?_⟩
    rw [hw.section_, k2, section_setSection, if_pos rfl, if_neg hd]
    exact ⟨rfl, rfl, rfl, rfl⟩
  rw [ht]
  split
  · exact hst 0x3031 .clear rfl (by decide)
  · exact hst 0x3032 .restoring rfl (by decide)

/-- DISTURB (R392). -/
theorem sectionCommand_disturb {k : Nat} {excess : Bool} {s : State} (hh : secHeads k s ≠ []) :
    let t := sectionCommand 3 k true excess s
    OnSection k s t ∧ (t.section_ k).state = .disturbed ∧ (t.section_ k).causes.getLsbD 6 = true ∧ (t.section_ k).fApplied = true
      ∧ (t.section_ k).occ = (s.section_ k).occ := by
  intro t
  have ht : t = setSection k (fun c => { c with fApplied := true }) (disturb k 10 s) := by
    simp only [t, sectionCommand, Bool.not_true, Bool.false_eq_true, if_false, if_neg hh, if_true]
  rw [ht]
  refine ⟨(disturb_spec k 10 s).1.trans (onSection_setSection k _ _), ?_⟩
  rw [section_setSection, if_pos rfl]
  exact ⟨disturb_state k 10 s, disturb_cause k (bit := 10) (by decide) s, rfl, (disturb_kept k 10 s).1⟩

theorem sectionPost_of_section {a : Word} {k : Fin 16} (h : a.toNat % 2 ^ 8 = 0x80 + k.val) (cmd : Nat) (b c : Word) (excess : Bool) (s : State) :
    sectionPost cmd a b c excess s = sectionCommand cmd k (sectionFieldsOk a b c) excess s := by
  have hch : bits 7 0 a.toNat = 0x80 + k.val := by simpa [bits] using h
  simp only [sectionPost, hch]
  rw [if_pos (by omega), show (128 + k.val) % 16 = k.val by omega]

/-- A channel that is no section is refused as R435 says. -/
theorem sectionPost_of_other {a : Word} (h : a.toNat % 2 ^ 8 / 16 ≠ 8) (cmd : Nat) (b c : Word) (excess : Bool) (s : State) :
    let t := sectionPost cmd a b c excess s
    t.fbk = s.fbk ∧ t.svc.toggles = s.svc.toggles ++ [(184, s.now)] ∧ t = { s.noted t with fld := t.fld } := by
  have hch : bits 7 0 a.toNat / 16 ≠ 8 := by simpa [bits] using h
  simp only [sectionPost, if_neg hch]
  generalize [0, if decide (bits 23 18 a.toNat = 0 ∧ bits 15 8 a.toNat = 0 ∧ b = 0 ∧ c = 0) = true then 2 else 1] = args
  obtain ⟨j, hj⟩ := jnlOnly_record 0x4050 args
    { s with fld := { s.fld with blocks := upd {} 0 (fun (k : Block) => { k with lastCode := 0x4050 }) s.fld.blocks } } (by decide) (by decide)
  rw [hj]
  exact ⟨rfl, rfl, rfl⟩

/-- HEAD_READY when it is due (R387). -/
theorem execHeadReady_due {k : Fin 16} {ns t0 : Nat} {s : State} (hf : (s.head k).freeSince = some t0) (h0 : (s.head k).state = 0)
    (hen : headEnabled k s = true) (hk : k.val < s.headsFitted) (ht : 500_000_000 ≤ (advance ns s).now - t0)
    (hl : (advance ns s).now - (s.head k).lastSample < 1_000_000) :
    execHeadReady k ns s = .next (eoFollowAll false ((List.range 16).foldl (fun s j => secRestored j s)
      (record 0x3023 [k.val] (setHead k (fun h => { h with state := 1, freeSince := none, lastCode := 0x3023 }) (advance ns s))))) := by
  have hen' : headEnabled k (advance ns s) = true := (cbit_advance _ _ _ _).trans hen
  have hk' : k.val < (advance ns s).headsFitted := by simpa only [State.headsFitted, State.blocksFitted, advance_fused] using hk
  simp only [execHeadReady, head_advance, hf, h0, hen', hk', ht, hl, and_self, if_true]

/-- Settles O34: detectors and heads by the lemmas of their commands, the section commands by what refuses and what applies them. -/
theorem headsAndSections : Obligations.HeadsAndSections := by
  refine ⟨⟨fun k ns s => ?_, fun k ns s => ?_⟩, fun k a b c excess s => ?_⟩
  · intro u D holds
    have hf := (chanTime_spec ns s).2.2.2.2
    have hc : (D.cond = true ∧ D.asserted = false ∧ ssWithin k u = true ∧ cf (ssReg k 0) 15 0 u * 1_000_000 ≤ u.now - D.since) ↔ holds := by
      simp only [ssWithin, decide_eq_true_eq, u, hf, and_assoc]
      rfl
    refine ⟨fun h => ?_, fun h => if_neg (fun h' => h (hc.mp h'))⟩
    have hw := (watches_record (code := 0x3010) rfl [k.val] (setStand k (fun d => { d with asserted := true }) u)).trans (watches_raise (100 + k.val) _)
    refine ⟨_, if_pos (hc.mpr h), ?_, ?_, fun j hj => ?_, (((watches_setStand k _ u).trans hw).onSections).noted⟩
    · simp [State.stand, setStand, record, recordB]
    · simp [record, recordB, setStand, u]
      rfl
    · simp [State.stand, setStand, record, recordB, look_upd, hj, u]
  · intro H u
    have hu : u.head k = H := head_advance k ns s
    refine ⟨fun h => ?_, fun h => ?_, fun t0 hf h0 hen hk ht hl => ?_, fun h => ?_⟩
    · have h1 := onHead_setHead k (fun h => { h with sysA := 0, sysB := 0, freeSince := none }) u
      obtain ⟨k1, ⟨k2, k3, k4, k5, k6, k7⟩, k8, k9⟩ := headNotReady_spec k false 0 0
        (setHead k (fun h => { h with sysA := 0, sysB := 0, freeSince := none }) u)
      simp only [head_setHead, if_true, hu] at k4 k5 k6 k7 k8 k9
      have hcb : ∀ j, cbit (secReg j 0) k (setHead k (fun h => { h with sysA := 0, sysB := 0, freeSince := none }) u) = cbit (secReg j 0) k s :=
        fun j => (h1.cbit _ _).trans (cbit_advance _ _ _ _)
      have hall := h1.trans k1
      refine ⟨_, if_pos (by rw [head_advance]; exact h), k2, k4, k5, k3, k6, k7, fun hs j hj hc => k8 hs j hj ((hcb j).trans hc),
        fun j hj hc => (k9 j hj (by rw [hcb]; exact hc)).trans (section_advance j ns s),
        fun j hj => (hall.others j hj).trans (head_advance j ns s), hall.noted⟩
    · exact if_neg (by rw [head_advance]; exact Nat.not_le.mpr h)
    · have h1 := onHead_setHead k (fun h => { h with state := 1, freeSince := none, lastCode := 0x3023 }) u
      have h2 := (watches_record (code := 0x3023) rfl [k.val] (setHead k (fun h => { h with state := 1, freeSince := none, lastCode := 0x3023 }) u)).onSections
      have h3 := OnSections.foldl (fun v j => (onSection_secRestored j v).toOnSections) (List.range 16)
        (record 0x3023 [k.val] (setHead k (fun h => { h with state := 1, freeSince := none, lastCode := 0x3023 }) u))
      have h4 := (h2.trans h3).trans (watches_eoFollowAll false _).onSections
      have hall := h1.trans (h4.onHead k)
      have hhead := (h4.head k).trans ((head_setHead k k _ u).trans (if_pos rfl))
      exact ⟨_, execHeadReady_due hf h0 hen hk ht hl, congrArg Head.state hhead, congrArg Head.freeSince hhead, congrArg Head.lastCode hhead,
        fun j hj => (hall.others j hj).trans (head_advance j ns s), hall.noted⟩
    · change execHeadReady k ns s = _
      simp only [execHeadReady, head_advance]
      cases hfs : (s.head k).freeSince with
      | none => rfl
      | some t0 =>
        refine if_neg ?_
        rintro ⟨h1, h2, -, -, h5⟩
        obtain h | h | h | h := h
        · exact h h1
        · rw [show headEnabled k (advance ns s) = headEnabled k s from cbit_advance _ _ _ _, h] at h2
          exact Bool.false_ne_true h2
        · rw [hfs] at h
          exact Option.some_ne_none _ h
        · exact absurd h5 (Nat.not_lt.mpr h)
  · intro S does refused
    have hdoes : ∀ {x : Instr} {P : Section → Prop} {u t : State}, exec x s = .next u → u = t → OnSection k s t → P (t.section_ k) → does x P :=
      fun he hu h hP => ⟨_, he, hu ▸ hP, hu ▸ h.others, hu ▸ h.heads, hu ▸ h.chans, hu ▸ h.noted⟩
    have hrefused : ∀ {x : Instr} {cmd : Nat} {ex : Bool}, exec x s = .next (sectionPost cmd a b c ex s) → a.toNat % 2 ^ 8 = 0x80 + k.val →
        (sectionFieldsOk a b c = false ∨ secHeads k s = [] ∨ cmd ≠ 3 ∧ (ex = true ∨ secIdle k s = false
          ∨ (S.state ≠ .disturbed ∧ S.state ≠ .restoring))) → does x refused := by
      intro x cmd ex he ha h
      obtain ⟨reason, hr⟩ := sectionCommand_refused h
      obtain ⟨h1, h2⟩ := sectionRefused_spec k reason s
      exact hdoes he ((sectionPost_of_section ha cmd b c ex s).trans hr) h1 h2
    refine ⟨fun hk => ⟨fun hf hh => ⟨fun hs hi => ?_, fun h => ?_, ?_⟩, fun h => ?_⟩, fun hk x hx => ?_⟩
    · obtain ⟨h1, h2⟩ := sectionCommand_applied (cmd := 1) (by decide) hh hs hi
      obtain ⟨k1, k2⟩ := sectionCommand_applied (cmd := 2) (by decide) hh hs hi
      have hp := fun cmd => (sectionPost_of_section hk cmd b c false s).trans (congrArg (sectionCommand cmd k · false s) hf)
      refine ⟨hdoes (x := .sectionReset a b c false)
        (P := fun T => T.state = .clear ∧ T.occ = 0 ∧ T.causes = 0 ∧ T.fApplied = true) rfl (hp 1) h1 ?_, hdoes (x := .restore a b c false)
        (P := fun T => T.state = .restoring ∧ T.occ = 0 ∧ T.causes = 0 ∧ T.fApplied = true) rfl (hp 2) k1 ?_⟩
      · exact h2
      · exact k2
    · exact ⟨hrefused rfl hk (.inr (.inr ⟨by decide, h⟩)), hrefused rfl hk (.inr (.inr ⟨by decide, h⟩))⟩
    · obtain ⟨h1, h2⟩ := sectionCommand_disturb (excess := false) hh
      refine hdoes (x := .disturb a b c)
        (P := fun T => T.state = .disturbed ∧ T.causes.getLsbD 6 = true ∧ T.fApplied = true ∧ T.occ = S.occ) rfl ((sectionPost_of_section hk 3 b c false s).trans (congrArg (sectionCommand 3 k · false s) hf)) h1 ?_
      exact h2
    · have h' : ∀ cmd, sectionFieldsOk a b c = false ∨ secHeads k s = [] ∨ cmd ≠ 3 ∧ (excess = true ∨ secIdle k s = false
          ∨ ((s.section_ k).state ≠ .disturbed ∧ (s.section_ k).state ≠ .restoring)) := fun cmd => h.imp id .inl
      exact ⟨hrefused rfl hk (h' 1), hrefused rfl hk (h' 2), hrefused rfl hk (h.imp id .inl)⟩
    · have h := fun cmd excess => sectionPost_of_other hk cmd b c excess s
      simp only [List.mem_cons, List.not_mem_nil, or_false] at hx
      obtain rfl | rfl | rfl := hx
      · exact ⟨_, rfl, h 1 excess⟩
      · exact ⟨_, rfl, h 2 excess⟩
      · exact ⟨_, rfl, h 3 false⟩

end Sys2Proof.Machine
end

section
/-!
SUPPORT. What is told to the journal, the event controller and the hosts leaves everything else as it is; on that, the entry to HOLD.
-/
namespace Sys2Proof.Machine

/-! ### Telling -/

/-- Nothing but the journal, the berths, the free values drawn, the events raised and the last codes of lock-keeper and sequencer differs. -/
structure Talks (s t : State) : Prop where
  rest : t = { s with
    jnl := t.jnl, bth := t.bth, free := t.free, svc := { s.svc with toggles := t.svc.toggles }
    keep := { s.keep with lastCode := t.keep.lastCode }, seq := { s.seq with lastCode := t.seq.lastCode } }
  raised : s.svc.toggles <+: t.svc.toggles

theorem Talks.refl (s : State) : Talks s s := ⟨rfl, List.prefix_rfl⟩

theorem Talks.trans {s t u : State} (h : Talks s t) (k : Talks t u) : Talks s u := ⟨by rw [k.rest, h.rest], h.raised.trans k.raised⟩

theorem Talks.foldl {α : Type} {op : State → α → State} (h : ∀ u i, Talks u (op u i)) (l : List α) (s : State) : Talks s (l.foldl op s) := by
  induction l generalizing s with
  | nil => exact .refl s
  | cons i l ih => exact (h s i).trans (ih _)

theorem Talks.ite {s t u : State} {p : Prop} [Decidable p] (h : Talks s t) (k : Talks s u) : Talks s (if p then t else u) := by
  split
  · exact h
  · exact k

section
variable {s t : State} (h : Talks s t)
include h

theorem Talks.mode : t.keep.mode = s.keep.mode := by rw [h.rest]
theorem Talks.keep : t.keep = { s.keep with lastCode := t.keep.lastCode } := by rw [h.rest]
theorem Talks.seq : t.seq = { s.seq with lastCode := t.seq.lastCode } := by rw [h.rest]
theorem Talks.now : t.now = s.now := by rw [h.rest]; rfl
theorem Talks.ctl : t.ctl = s.ctl := by rw [h.rest]
theorem Talks.ctlGet (a : Nat) : ctlGet a t = ctlGet a s := by rw [h.rest]; rfl
theorem Talks.cbit (a i : Nat) : cbit a i t = cbit a i s := by simp only [Machine.cbit, h.ctlGet]
theorem Talks.cf (a i j : Nat) : cf a i j t = cf a i j s := by simp only [Machine.cf, h.ctlGet]
theorem Talks.fused : t.fused = s.fused := by rw [h.rest]
theorem Talks.cores : t.cores = s.cores := by rw [h.rest]
theorem Talks.splits : t.splits = s.splits := by rw [h.rest]
theorem Talks.mot : t.mot = s.mot := by rw [h.rest]
theorem Talks.fbk : t.fbk = s.fbk := by rw [h.rest]
theorem Talks.fld : t.fld = s.fld := by rw [h.rest]
theorem Talks.net : t.net = s.net := by rw [h.rest]
theorem Talks.tri : t.tri = s.tri := by rw [h.rest]
theorem Talks.sram : t.sram = s.sram := by rw [h.rest]
theorem Talks.pending : t.pending = s.pending := by rw [h.rest]
theorem Talks.image : t.image = s.image := by rw [h.rest]
theorem Talks.svcSram : t.svc.sram = s.svc.sram := by rw [h.rest]
theorem Talks.svcCore (c : Nat) : t.svcCore c = s.svcCore c := by rw [h.rest]; rfl
theorem Talks.axis (n : Nat) : t.axis n = s.axis n := by rw [State.axis, h.mot]; rfl
end

theorem talks_raise (n : Nat) (s : State) : Talks s (raise n s) := ⟨rfl, List.prefix_append _ _⟩

theorem talks_recordC (code flags count : Nat) (extra : List Byte) (s : State) : Talks s (recordC code flags count extra s) := by
  obtain ⟨j, k, q, h⟩ := recordC_frame code flags count extra s
  rw [h]
  exact ⟨rfl, List.prefix_rfl⟩

theorem talks_recordB (code : Nat) (extra : List Byte) (s : State) : Talks s (recordB code extra s) := talks_recordC code 0 1 extra s
theorem talks_record (code : Nat) (args : List Nat) (s : State) : Talks s (record code args s) := talks_recordB code _ s
theorem talks_draw (w : Nat) (s : State) : Talks s (s.draw w).2 := ⟨rfl, List.prefix_rfl⟩
theorem talks_setJnl (j : Journal) (s : State) : Talks s { s with jnl := j } := ⟨rfl, List.prefix_rfl⟩
theorem talks_setBth (B : Berths) (s : State) : Talks s { s with bth := B } := ⟨rfl, List.prefix_rfl⟩
theorem talks_setBerth (b : Nat) (f : Berth → Berth) (s : State) : Talks s (setBerth b f s) := ⟨rfl, List.prefix_rfl⟩

theorem talks_drawBytes (n : Nat) (s : State) : Talks s (drawBytes n s).2 := by
  rw [drawBytes_state]
  exact ⟨rfl, List.prefix_rfl⟩

/-! ### Replies and alerts -/

theorem talks_countRecord (b : Nat) (s : State) : Talks s (countRecord b s) :=
  .ite (.ite (talks_setBerth b _ s) ((talks_drawBytes 16 s).trans (talks_setBerth b _ _))) (.refl s)

theorem talks_sendReply (b : Nat) (r : Reply) (s : State) : Talks s (sendReply b r s) := by
  unfold sendReply
  exact (talks_setBerth b _ s).trans (talks_countRecord b _)

theorem talks_alertTo (b code : Nat) (payload : List Byte) (s : State) : Talks s (alertTo b code payload s) := by
  unfold alertTo
  exact .ite (.refl s) (.ite (talks_setBerth b _ s) ((talks_setBerth b _ s).trans (talks_countRecord b _)))

theorem talks_alertAll (code : Nat) (payload : List Byte) (s : State) : Talks s (alertAll code payload s) := by
  unfold alertAll
  exact .foldl (fun u b => talks_alertTo b code payload u) _ s

theorem talks_flushReplies (b : Nat) (s : State) : Talks s (flushReplies b s) := by
  unfold flushReplies
  refine (talks_setBerth b _ s).trans (.foldl (fun u w => ?_) _ _)
  exact talks_sendReply b w.reply u

theorem talks_answerEntry (e : BatchEntry) (a : EntryAnswer) (s : State) : Talks s (answerEntry e a s) := talks_setBerth e.berth _ s

/-! ### Journal store -/

theorem talks_sample (m : Nat) (v : Int) (s : State) : Talks s (sample m v s) := .ite (talks_setJnl _ s) (.refl s)

theorem talks_persistFrame (s : State) : Talks s (persistFrame s) := (talks_setJnl _ s).trans (talks_raise 246 _)

theorem talks_askFrame (s : State) : Talks s (askFrame s) := by
  unfold askFrame
  split
  · exact talks_setJnl _ s
  · exact talks_persistFrame s
  · exact talks_persistFrame s
  · exact .refl s

theorem talks_askCheckpoint (s : State) : Talks s (askCheckpoint s) := by
  unfold askCheckpoint
  split
  · exact talks_setJnl _ s
  · exact talks_setJnl _ s
  · exact .refl s
  · exact .refl s

theorem talks_askBootRecord (s : State) : Talks s (askBootRecord s) := .ite (talks_setJnl _ s) (talks_setJnl _ s)

/-! ### Berths and the mode -/

theorem talks_resetBerth (b : Nat) (s : State) : Talks s (resetBerth b s) :=
  (((talks_setBerth b _ s).trans (talks_setJnl _ _)).trans (talks_draw 32 _)).trans ((talks_record _ _ _).trans (talks_raise 225 _))

theorem talks_resetUnserved (m : Mode) (s : State) : Talks s (resetUnserved m s) :=
  .foldl (fun u b => .ite (.refl u) (talks_resetBerth b u)) _ s

/-- A change of the mode: LKP_MODE, its cause and the mode before; all else is told (R517). -/
theorem talks_setMode (m : Mode) (cause : Nat) (s : State) :
    Talks { s with keep := { s.keep with mode := m, prev := s.keep.mode, cause := BitVec.ofNat 16 cause } } (setMode m cause s) := by
  have h := ((talks_record 0x9000 [s.keep.mode.code, m.code, cause]
    { s with keep := { s.keep with mode := m, prev := s.keep.mode, cause := BitVec.ofNat 16 cause } }).trans (talks_raise 0 _)).trans (talks_resetUnserved m _)
  simp only [setMode]
  exact .ite (h.trans (talks_resetBerth 0 _)) h

theorem talks_answerAllHeld (s : State) : Talks s (answerAllHeld s) := by
  unfold answerAllHeld
  refine ((Talks.foldl ?_ _ s).trans (.foldl ?_ _ _)).trans ((talks_setBth _ _).trans (.foldl ?_ _ _))
  · exact fun u e => talks_answerEntry e _ u
  · exact fun u e => talks_answerEntry e _ u
  · exact fun u b => (talks_setBerth b _ u).trans (talks_flushReplies b _)

/-! ### Axes stop -/

/-- Nothing but the motion region, the journal, the berths, the free values drawn, the events raised and the last codes differs. -/
structure Stops (s t : State) : Prop where
  rest : t = { s with
    jnl := t.jnl, bth := t.bth, free := t.free, svc := { s.svc with toggles := t.svc.toggles }, mot := t.mot
    keep := { s.keep with lastCode := t.keep.lastCode }, seq := { s.seq with lastCode := t.seq.lastCode } }
  raised : s.svc.toggles <+: t.svc.toggles

theorem Talks.stops {s t : State} (h : Talks s t) : Stops s t := ⟨by rw [h.rest], h.raised⟩
theorem Stops.refl (s : State) : Stops s s := (Talks.refl s).stops
theorem Stops.trans {s t u : State} (h : Stops s t) (k : Stops t u) : Stops s u := ⟨by rw [k.rest, h.rest], h.raised.trans k.raised⟩

theorem Stops.foldl {α : Type} {op : State → α → State} (h : ∀ u i, Stops u (op u i)) (l : List α) (s : State) : Stops s (l.foldl op s) := by
  induction l generalizing s with
  | nil => exact .refl s
  | cons i l ih => exact (h s i).trans (ih _)

theorem Stops.ite {s t u : State} {p : Prop} [Decidable p] (h : Stops s t) (k : Stops s u) : Stops s (if p then t else u) := by
  split
  · exact h
  · exact k

theorem Stops.ctlGet {s t : State} (h : Stops s t) (a : Nat) : ctlGet a t = ctlGet a s := by rw [h.rest]; rfl
theorem Stops.fused {s t : State} (h : Stops s t) : t.fused = s.fused := by rw [h.rest]
theorem Stops.tri {s t : State} (h : Stops s t) : t.tri = s.tri := by rw [h.rest]
theorem Stops.keep {s t : State} (h : Stops s t) : t.keep = { s.keep with lastCode := t.keep.lastCode } := by rw [h.rest]
theorem Stops.seq {s t : State} (h : Stops s t) : t.seq = { s.seq with lastCode := t.seq.lastCode } := by rw [h.rest]
theorem Stops.cores {s t : State} (h : Stops s t) : t.cores = s.cores := by rw [h.rest]
theorem Stops.splits {s t : State} (h : Stops s t) : t.splits = s.splits := by rw [h.rest]
theorem Stops.noFeedback {s t : State} (h : Stops s t) (n : Nat) : noFeedback n t = noFeedback n s := by
  simp only [Machine.noFeedback, Machine.cf, h.ctlGet]; rfl

theorem stops_setMot (m : Motion) (s : State) : Stops s { s with mot := m } := ⟨rfl, List.prefix_rfl⟩
theorem stops_setAxis (n : Nat) (f : Axis → Axis) (s : State) : Stops s (setAxis n f s) := stops_setMot _ s

theorem stops_noteAxisCode (n code : Nat) (s : State) : Stops s (noteAxisCode n code s) := (stops_setAxis n _ s).trans (talks_setJnl _ _).stops

theorem axis_noteAxisCode (n code k : Nat) (s : State) :
    (noteAxisCode n code s).axis k = if k = n then { s.axis n with lastCode := code } else s.axis k := by
  rw [← axis_setAxis n k (fun a => { a with lastCode := code }) s]
  rfl

theorem stops_dropReady (s : State) : Stops s (dropReady s) :=
  (stops_setMot _ s).trans (.foldl (fun u _ => (stops_noteAxisCode _ _ u).trans (talks_record _ _ _).stops) _ _)

/-- An axis that `disableAxes` has stopped: DISABLED, the bridge off, with the code where it was enabled (R361). -/
def Axis.disabled (a : Axis) (noFb : Bool) (code : Nat) (en : Bool) : Axis :=
  { (a.coast .disabled noFb).cut with lastCode := if en then code else a.lastCode }

/-- One axis of `disableAxes`. -/
def disableOne (code m : Nat) (s : State) (n : Nat) : State :=
  let s1 := setAxis n (fun a => (a.coast .disabled (noFeedback n s)).cut) s
  if m.testBit n then noteAxisCode n code s1 else s1

theorem axis_disableOne (code m n k : Nat) (s : State) : (disableOne code m s n).axis k
    = if k = n then (s.axis n).disabled (noFeedback n s) code (m.testBit n) else s.axis k := by
  unfold disableOne
  split
  · next h =>
    rw [axis_noteAxisCode, axis_setAxis, axis_setAxis, if_pos rfl, h]
    split <;> rfl
  · next h =>
    rw [axis_setAxis, Bool.eq_false_iff.mpr h]
    rfl

/-- Every fitted axis is disabled, and nothing but axes changes besides what is told (R361). -/
theorem disableAxes_spec (code : Nat) (s : State) : Stops s (disableAxes code s) ∧ ∀ n, (disableAxes code s).axis n
    = if n < s.axesFitted then (s.axis n).disabled (noFeedback n s) code ((enMask s).testBit n) else s.axis n := by
  have h : Stops s ((List.range s.axesFitted).foldl (disableOne code (enMask s)) s) ∧ ∀ n,
      ((List.range s.axesFitted).foldl (disableOne code (enMask s)) s).axis n
        = if n < s.axesFitted then (s.axis n).disabled (noFeedback n s) code ((enMask s).testBit n) else s.axis n := by
    refine foldl_range_each (fun n (u : State) => u.axis n) (fun n u => (u.axis n).disabled (noFeedback n u) code ((enMask s).testBit n)) Stops .refl
      (fun _ _ _ => .trans) (fun u i => ?_) (fun u i j hj => ?_) (fun u v i hr hi => ?_) s.axesFitted s
    · exact .ite ((stops_setAxis i _ u).trans (stops_noteAxisCode i code _)) (stops_setAxis i _ u)
    · rw [axis_disableOne, if_neg hj]
    · rw [axis_disableOne, if_pos rfl, hi, hr.noFeedback]
  obtain ⟨h1, h2⟩ := h
  have hr := fun m => talks_record code [m] ((List.range s.axesFitted).foldl (disableOne code (enMask s)) s)
  have hd : disableAxes code s = if enMask s = 0 then (List.range s.axesFitted).foldl (disableOne code (enMask s)) s
      else record code [enMask s] ((List.range s.axesFitted).foldl (disableOne code (enMask s)) s) := rfl
  rw [hd]
  split
  · exact ⟨h1, h2⟩
  · exact ⟨h1.trans (hr _).stops, fun n => ((hr _).axis n).trans (h2 n)⟩

/-! ### Leaving the triad -/

/-- Nothing but the triad's state and the events raised differs. -/
structure Departs (s t : State) : Prop where
  rest : t = { s with tri := t.tri, svc := { s.svc with toggles := t.svc.toggles } }
  raised : s.svc.toggles <+: t.svc.toggles

theorem Departs.refl (s : State) : Departs s s := ⟨rfl, List.prefix_rfl⟩
theorem Departs.trans {s t u : State} (h : Departs s t) (k : Departs t u) : Departs s u := ⟨by rw [k.rest, h.rest], h.raised.trans k.raised⟩
theorem Departs.keep {s t : State} (h : Departs s t) : t.keep = s.keep := by rw [h.rest]
theorem Departs.seq {s t : State} (h : Departs s t) : t.seq = s.seq := by rw [h.rest]
theorem Departs.cores {s t : State} (h : Departs s t) : t.cores = s.cores := by rw [h.rest]
theorem Departs.splits {s t : State} (h : Departs s t) : t.splits = s.splits := by rw [h.rest]
theorem Departs.mot {s t : State} (h : Departs s t) : t.mot = s.mot := by rw [h.rest]
theorem departs_setTriF (f : Tri → Tri) (s : State) : Departs s { s with tri := f s.tri } := ⟨rfl, List.prefix_rfl⟩

theorem Departs.foldl {α : Type} {op : State → α → State} (h : ∀ u i, Departs u (op u i)) (l : List α) (s : State) : Departs s (l.foldl op s) := by
  induction l generalizing s with
  | nil => exact .refl s
  | cons i l ih => exact (h s i).trans (ih _)

theorem departs_tpSend (p typ : Nat) (payload : List Byte) (s : State) : Departs s (tpSend p typ payload s)
    ∧ (tpSend p typ payload s).tri.state = s.tri.state := by
  simp only [tpSend]
  split
  · exact ⟨⟨rfl, List.prefix_rfl⟩, rfl⟩
  · split
    · exact ⟨⟨rfl, List.prefix_rfl⟩, rfl⟩
    · exact ⟨⟨rfl, List.prefix_rfl⟩, rfl⟩

theorem departs_tpSendAll (typ : Nat) (payload : List Byte) (s : State) : Departs s (tpSendAll typ payload s)
    ∧ (tpSendAll typ payload s).tri.state = s.tri.state := by
  have h := fun u p => departs_tpSend p typ payload u
  refine ⟨.foldl (fun u p => ?_) _ s, foldl_keeps (fun u => u.tri.state) (fun u p => ?_) _ s⟩
  · split
    · exact (h u p).1
    · exact .refl u
  · split
    · exact (h u p).2
    · rfl

theorem departs_setTri (st : TriState) (s : State) : Departs s (setTri st s) ∧ (setTri st s).tri.state = st := by
  unfold setTri
  split
  · next h => exact ⟨.refl s, h⟩
  · exact ⟨⟨rfl, List.prefix_append _ _⟩, rfl⟩

/-- A member leaves its triad: it is OUT, unless it has none (R242). -/
theorem leaveTriad_spec (cause : Nat) (s : State) : Departs s (leaveTriad cause s)
    ∧ (leaveTriad cause s).tri.state = (if s.tri.state = .off then .off else .out)
    ∧ (s.tri.state = .off ∨ s.tri.state = .out → leaveTriad cause s = s) := by
  unfold leaveTriad
  split
  · next h =>
    refine ⟨.refl s, ?_, fun _ => rfl⟩
    obtain h | h := h
    · rw [h, if_pos rfl]
    · rw [h, if_neg (by decide)]
  · next h =>
    obtain ⟨h1, h2⟩ := departs_setTri .out (tpSendAll tNotice (be 4 cause ++ zeros 4) s)
    exact ⟨(departs_tpSendAll _ _ s).1.trans h1, by rw [h2, if_neg (fun h' => h (.inl h'))], fun h' => absurd h' h⟩

/-! ### Entry to HOLD -/

/-- Nothing differs but what an entry to HOLD changes: motion, triad, sequencer, the passes, the keeper, and what is told. -/
structure Halts (s t : State) : Prop where
  rest : t = { s with
    jnl := t.jnl, bth := t.bth, free := t.free, svc := { s.svc with toggles := t.svc.toggles }, mot := t.mot, tri := t.tri
    cores := t.cores, splits := t.splits, seq := t.seq, keep := t.keep }
  raised : s.svc.toggles <+: t.svc.toggles

theorem Halts.refl (s : State) : Halts s s := ⟨rfl, List.prefix_rfl⟩
theorem Halts.trans {s t u : State} (h : Halts s t) (k : Halts t u) : Halts s u := ⟨by rw [k.rest, h.rest], h.raised.trans k.raised⟩
theorem Stops.halts {s t : State} (h : Stops s t) : Halts s t := ⟨by rw [h.rest], h.raised⟩
theorem Talks.halts {s t : State} (h : Talks s t) : Halts s t := h.stops.halts
theorem Departs.halts {s t : State} (h : Departs s t) : Halts s t := ⟨by rw [h.rest], h.raised⟩
theorem halts_stopSequencer (s : State) : Halts s (stopSequencer s) := ⟨rfl, List.prefix_rfl⟩
theorem halts_setKeep (k : Keeper) (s : State) : Halts s { s with keep := k } := ⟨rfl, List.prefix_rfl⟩
theorem halts_setSeq (q : Seq) (s : State) : Halts s { s with seq := q } := ⟨rfl, List.prefix_rfl⟩
theorem Halts.now {s t : State} (h : Halts s t) : t.now = s.now := by rw [h.rest]; rfl
theorem Halts.ctlGet {s t : State} (h : Halts s t) (a : Nat) : ctlGet a t = ctlGet a s := by rw [h.rest]; rfl

/-- What an entry to HOLD with `cause` makes of a state that is not in HOLD (R518). -/
structure EntersHold (cause : Nat) (s t : State) : Prop extends Halts s t where
  keep : t.keep = { s.keep with
    mode := .hold, prev := s.keep.mode, cause := BitVec.ofNat 16 cause, liveLow := true, tripLow := true, stblRequest := false
    lastCode := t.keep.lastCode, bootStage := t.keep.bootStage, bootMs := t.keep.bootMs }
  seq : t.seq = { (stopSequencer s).seq with heldSamples := [], lastCode := t.seq.lastCode }
  cores : t.cores = (stopSequencer s).cores
  splits : t.splits = (stopSequencer s).splits
  tri : t.tri.state = if s.tri.state = .off then .off else .out
  noTri : s.tri.state = .off ∨ s.tri.state = .out → t.tri = s.tri
  axes : ∀ n < s.axesFitted, (t.axis n).st = .disabled
  stage : s.keep.mode ≠ .boot → t.keep.bootStage = s.keep.bootStage ∧ t.keep.bootMs = s.keep.bootMs

/-- The end of a BOOT changes its stage and its length, besides what is told (R521). -/
theorem endBoot_spec (s : State) : ∃ stage ms, Talks { s with keep := { s.keep with bootStage := stage, bootMs := ms } } (endBoot s)
    ∧ (s.keep.mode ≠ .boot → stage = s.keep.bootStage ∧ ms = s.keep.bootMs) := by
  unfold endBoot
  split
  · exact ⟨_, _, .refl s, fun _ => ⟨rfl, rfl⟩⟩
  · next h =>
    have hb := talks_askBootRecord s
    refine ⟨15, (s.now - s.keep.bootStart) / 1_000_000, ⟨?_, hb.raised⟩, fun h' => absurd (.inl h') h⟩
    rw [hb.rest]

theorem talks_applyHeldSamples (s : State) : Talks { s with seq := { s.seq with heldSamples := [] } } (applyHeldSamples s) := by
  have h := Talks.foldl (fun u (p : Nat × Int) => talks_sample p.1 p.2 u) s.seq.heldSamples s
  refine ⟨?_, h.raised⟩
  simp only [applyHeldSamples]
  rw [h.rest]

/-- What happens before the mode changes: sequencer, trip lines, axes and triad stop. -/
def stopAll (cause : Nat) (s : State) : State :=
  leaveTriad cause (disableAxes 0x2041 (dropReady { stopSequencer s with
    keep := { s.keep with liveLow := true, tripLow := true, stblRequest := false }, mot := { s.mot with arriving := none } }))

theorem enterHold_of_mode {cause : Nat} {s : State} (h : s.keep.mode ≠ .hold) : enterHold cause s
    = alertAll cause [] (answerAllHeld (askFrame (applyHeldSamples (askCheckpoint (setMode .hold cause (endBoot (stopAll cause s))))))) := if_neg h

theorem stopAll_spec (cause : Nat) (s : State) :
    let t := stopAll cause s
    Halts s t ∧ t.keep = { s.keep with liveLow := true, tripLow := true, stblRequest := false, lastCode := t.keep.lastCode }
      ∧ t.seq = { (stopSequencer s).seq with lastCode := t.seq.lastCode }
      ∧ t.cores = (stopSequencer s).cores ∧ t.splits = (stopSequencer s).splits
      ∧ t.tri.state = (if s.tri.state = .off then .off else .out) ∧ (s.tri.state = .off ∨ s.tri.state = .out → t.tri = s.tri)
      ∧ ∀ n < s.axesFitted, (t.axis n).st = .disabled := by
  intro t
  let s2 : State := { stopSequencer s with
    keep := { s.keep with liveLow := true, tripLow := true, stblRequest := false }, mot := { s.mot with arriving := none } }
  have h0 : Halts s s2 := ⟨rfl, List.prefix_rfl⟩
  have h1 := stops_dropReady s2
  obtain ⟨h2, hax⟩ := disableAxes_spec 0x2041 (dropReady s2)
  have h3 := h1.trans h2
  obtain ⟨h4, htri, hno⟩ := leaveTriad_spec cause (disableAxes 0x2041 (dropReady s2))
  have hfit : (dropReady s2).axesFitted = s.axesFitted := by simp only [State.axesFitted, h1.fused]; rfl
  refine ⟨h0.trans (h3.halts.trans h4.halts), ?_, ?_, h4.cores.trans h3.cores, h4.splits.trans h3.splits, ?_, ?_, fun n hn => ?_⟩
  · rw [show t.keep = _ from h4.keep, h3.keep]
  · rw [show t.seq = _ from h4.seq, h3.seq]
  · exact htri.trans (by rw [h3.tri]; rfl)
  · intro h
    exact (congrArg State.tri (hno (by rw [h3.tri]; exact h))).trans h3.tri
  · have := hax n
    rw [hfit, if_pos hn] at this
    rw [State.axis, show t.mot = _ from h4.mot]
    exact (congrArg Axis.st this).trans rfl

theorem entersHold {cause : Nat} {s : State} (h : s.keep.mode ≠ .hold) : EntersHold cause s (enterHold cause s) := by
  obtain ⟨h1, hkeep, hseq, hcores, hsplits, htri, hno, hax⟩ := stopAll_spec cause s
  obtain ⟨stage, ms, h5, hstage⟩ := endBoot_spec (stopAll cause s)
  have h6 := talks_setMode .hold cause (endBoot (stopAll cause s))
  have h7 := h6.trans (talks_askCheckpoint _)
  have h8 := talks_applyHeldSamples (askCheckpoint (setMode .hold cause (endBoot (stopAll cause s))))
  have h9 := ((h8.trans (talks_askFrame _)).trans (talks_answerAllHeld _)).trans (talks_alertAll cause [] _)
  rw [← enterHold_of_mode h] at h9
  have hall := ((h1.trans (halts_setKeep _ _)).trans h5.halts).trans (((halts_setKeep _ _).trans h7.halts).trans ((halts_setSeq _ _).trans h9.halts))
  refine ⟨hall, ?_, ?_, ?_, ?_, ?_, ?_, fun n hn => ?_, fun hb => ?_⟩
  · rw [h9.keep, h7.keep, h5.keep, hkeep]
  · rw [h9.seq, h7.seq, h5.seq, hseq]
  · exact h9.cores.trans (h7.cores.trans (h5.cores.trans hcores))
  · exact h9.splits.trans (h7.splits.trans (h5.splits.trans hsplits))
  · rw [h9.tri, h7.tri, h5.tri, htri]
  · intro hn
    rw [h9.tri, h7.tri, h5.tri]
    exact hno hn
  · rw [h9.axis, State.axis, h7.mot, h5.mot]
    exact hax n hn
  · have hm : (stopAll cause s).keep.mode ≠ .boot := by rw [hkeep]; exact hb
    have hs : (enterHold cause s).keep.bootStage = stage ∧ (enterHold cause s).keep.bootMs = ms := by
      rw [h9.keep, h7.keep, h5.keep]
      exact ⟨rfl, rfl⟩
    rw [hs.1, hs.2, (hstage hm).1, (hstage hm).2, hkeep]
    exact ⟨rfl, rfl⟩

theorem mode_enterHold (cause : Nat) (s : State) : (enterHold cause s).keep.mode = .hold := by
  by_cases h : s.keep.mode = .hold
  · rw [enterHold, if_pos h, h]
  · rw [(entersHold h).keep]

/-- An entry to HOLD gives its cause (R518). -/
theorem cause_enterHold {cause : Nat} {s : State} (h : s.keep.mode ≠ .hold) : (enterHold cause s).keep.cause = BitVec.ofNat 16 cause := by
  rw [(entersHold h).keep]

/-! ### Reinitialisation (R30 to R32) -/

theorem beginReinit_of_hold {region : Nat} {s : State} (h : s.keep.mode = .hold) : beginReinit region s = s := if_pos h

/-- A second fault while a region reinitialises passes to the module. -/
theorem mode_beginReinit_again {region : Nat} {s : State} (h : s.reiniting region = true) : (beginReinit region s).keep.mode = .hold := by
  by_cases hm : s.keep.mode = .hold
  · rw [beginReinit_of_hold hm, hm]
  · rw [beginReinit, if_neg hm, startReinit, if_pos h]
    exact mode_enterHold _ _

/-- The reinitialisation of a region that works begins: it alone is marked, and 0x9101 is told. -/
theorem beginReinit_spec {region : Nat} {s : State} (hm : s.keep.mode ≠ .hold) (hr : s.reiniting region = false) :
    Talks { s with keep := { s.keep with reinit := put region (some s.now) s.keep.reinit } } (beginReinit region s) := by
  unfold beginReinit startReinit
  rw [if_neg hm, if_neg (by simp [hr])]
  exact talks_record _ _ _

theorem Talks.reiniting {s t : State} (h : Talks s t) (r : Nat) : t.reiniting r = s.reiniting r := by
  rw [State.reiniting, h.keep]
  rfl

/-- The region is reinitialising from then on. -/
theorem reiniting_beginReinit {region : Nat} {s : State} (hm : s.keep.mode ≠ .hold) (hr : s.reiniting region = false) :
    (beginReinit region s).reiniting region = true := by
  rw [(beginReinit_spec hm hr).reiniting, State.reiniting, look_put]
  simp

theorem mode_beginReinit {region : Nat} {s : State} (hr : s.reiniting region = false) : (beginReinit region s).keep.mode = s.keep.mode := by
  by_cases hm : s.keep.mode = .hold
  · rw [beginReinit_of_hold hm]
  · exact (beginReinit_spec hm hr).mode

end Sys2Proof.Machine
end

section
/-!
PROOFS. Writes and uncorrectable errors of the feedback region, and the steps of an encoder output (O35).
-/
namespace Sys2Proof.Machine

/-! ### Registers of the feedback region -/

/-- A granted write of a register of the feedback region whose row is known. -/
theorem accessWrite_fbk {acc : Access} {a : Nat} {v : Word} {s : State} (hw : WriteGranted acc a v s) {r : RegRow} {i j : Nat}
    (hr : findReg a = some (r, i, j)) (hs : r.reg ≠ .stored) (hf : r.unit.fitted i s = true) (hwin : a / 0x0100_0000 = 2) :
    accessWrite acc a v s = writeMotFbk r.reg i v (advance acc.at_ s) (storeBits r a v (advance acc.at_ s)) := by
  have hfit : r.unit.fitted i (advance acc.at_ s) = true := (fitted_congr (advance_fused acc.at_ s) r.unit i).trans hf
  rw [accessWrite_of_granted hw, regWrite_of_findReg hr, if_pos hfit]
  simp only [writeReg, hwin, if_neg hs]

def pcClrRow : RegRow := row .fbkPcClr 0x0200_5000 1 0x4 1 0x4 .always [fld .w1s 31 0 .maintain]
def wcClrRow : RegRow := row .fbkWcClr 0x0200_5004 1 0x4 1 0x4 .always [fld .w1s 15 0 .maintain]
def pcCfgRow : RegRow := row .fbkPcCfg 0x0200_0000 32 0x40 1 0x4 .chan [rwc 31 24, rwc 23 16, rwc 6 6, rwc 5 5, rwc 4 4, rwc 3 3, rwc 2 2, rwc 1 0]
def pcLinesRow : RegRow := row .fbkPcLines 0x0200_0004 32 0x40 1 0x4 .chan [rwc 31 24, rwc 23 0]
def wcCfgRow : RegRow := row .fbkWcCfg 0x0200_1000 16 0x40 1 0x4 .head [rwc 1 1, rwc 0 0]
def secCfgRow : RegRow := row .fbkSecCfg 0x0200_2000 16 0x10 1 0x4 .always [rwc 31 16, rwc 15 0]
def eoCfgRow : RegRow := row .fbkEoCfg 0x0200_4000 8 0x20 1 0x4 .always [rwc 31 16, rwc 15 15, rwc 14 14, rwc 6 0]

theorem findReg_pcClr : findReg 0x0200_5000 = some (pcClrRow, 0, 0) := by decide +kernel
theorem findReg_wcClr : findReg 0x0200_5004 = some (wcClrRow, 0, 0) := by decide +kernel
theorem findReg_pcCfg : ∀ (n : Fin 32) (lines : Bool), findReg (pcReg n (if lines then 4 else 0))
    = some (if lines then pcLinesRow else pcCfgRow, n.val, 0) := by decide +kernel
theorem findReg_wcCfg : ∀ k : Fin 16, findReg (wcReg k 0) = some (wcCfgRow, k.val, 0) := by decide +kernel
theorem findReg_secCfg : ∀ k : Fin 16, findReg (secReg k 0) = some (secCfgRow, k.val, 0) := by decide +kernel
theorem findReg_eoCfg : ∀ e : Fin 8, findReg (eoReg e 0) = some (eoCfgRow, e.val, 0) := by decide +kernel

/-- What is written to a register leaves the channels, heads, sections and outputs as they are. -/
theorem storeBits_fbk (r : RegRow) (a : Nat) (v : Word) (s : State) : (storeBits r a v s).fbk = s.fbk := by
  simp only [storeBits]
  split <;> simp

/-- A bit that a write sets, of those that its register stores. -/
theorem cbit_storeBits {r : RegRow} {i : Nat} (hm : (r.mask [.rw, .rwc]).getLsbD i = true) {v : Word} (hv : v.getLsbD i = true) {a : Nat} {s : State} :
    cbit a i (storeBits r a v s) = true := by
  rw [cbit, ctlGet_storeBits]
  change BitVec.getLsbD _ i = true
  rw [BitVec.getLsbD_or, BitVec.getLsbD_and, BitVec.getLsbD_and, hm, hv]
  simp

/-! ### Channels (R374, R375) -/

/-- What PC_CLEAR does to a channel: one that is bad and does not relax becomes valid, all else of it stays. -/
theorem clearChannel_other {n k : Nat} (h : k ≠ n) (s : State) : (clearChannel k s).chan n = s.chan n := by
  unfold clearChannel
  split
  · exact ((watches_chanChanged _).chan n).trans ((chanValidate_spec k (code := 0x3007) rfl s).1.others n h.symm)
  · rfl


theorem ctlGet_clearChannel (k a : Nat) (s : State) : ctlGet a (clearChannel k s) = ctlGet a s := by
  unfold clearChannel
  split
  · exact ((watches_chanChanged _).ctlGet a).trans ((chanValidate_spec k (code := 0x3007) rfl s).1.ctlGet a)
  · rfl

theorem clearChannel_own (n : Nat) (s : State) : ((clearChannel n s).chan n).count = (s.chan n).count
    ∧ ((clearChannel n s).chan n = s.chan n ∨ ((clearChannel n s).chan n).bad = false ∧ ((clearChannel n s).chan n).level = 0)
    ∧ (n < s.chansFitted ∧ (s.chan n).bad = true ∧ cbit (pcReg n 0) 5 s = false →
        ((clearChannel n s).chan n).bad = false ∧ ((clearChannel n s).chan n).level = 0) := by
  unfold clearChannel
  split
  · rw [(watches_chanChanged _).chan, (chanValidate_spec n (code := 0x3007) rfl s).2]
    exact ⟨rfl, .inr ⟨rfl, rfl⟩, fun _ => ⟨rfl, rfl⟩⟩
  · next h => exact ⟨rfl, .inl rfl, fun h' => absurd h' h⟩

theorem fused_clearChannel (k : Nat) (s : State) : (clearChannel k s).fused = s.fused := by
  unfold clearChannel
  split
  · rw [(watches_chanChanged _).fused, (chanValidate_spec k (code := 0x3007) rfl s).1.rest]
  · rfl

theorem forOnes_clearChannel {n : Nat} {v : Word} {s : State} (hn : n < 32) (hv : v.getLsbD n = true)
    (h : n < s.chansFitted ∧ (s.chan n).bad = true ∧ cbit (pcReg n 0) 5 s = false) :
    let C := (forOnes 32 v clearChannel s).chan n
    C.bad = false ∧ C.level = 0 ∧ C.count = (s.chan n).count := by
  have hcount : ((forOnes 32 v clearChannel s).chan n).count = (s.chan n).count := by
    refine foldl_keeps (fun u => (u.chan n).count) (fun u k => ?_) _ s
    by_cases hk : k = n
    · subst hk
      exact (clearChannel_own k u).1
    · exact congrArg PosChan.count (clearChannel_other hk u)
  have hgone : ((forOnes 32 v clearChannel s).chan n).bad = false ∧ ((forOnes 32 v clearChannel s).chan n).level = 0 := by
    refine foldl_reaches (op := fun u k => clearChannel k u) (fun u => (u.chan n).bad = false ∧ (u.chan n).level = 0)
      (fun u => n < u.chansFitted ∧ (u.chan n).bad = true ∧ cbit (pcReg n 0) 5 u = false) n (fun u k hu => ?_) (fun u k hk hu => .inr ?_)
      (fun u hu => (clearChannel_own n u).2.2 hu) _ s (.inr ⟨mem_onesBelow.mpr ⟨hn, hv⟩, h⟩)
    · by_cases hk : k = n
      · subst hk
        obtain h | h := (clearChannel_own k u).2.1
        · rw [h]; exact hu
        · exact h
      · rw [clearChannel_other hk]; exact hu
    · simp only [State.chansFitted, State.axesFitted, fused_clearChannel, clearChannel_other hk, cbit, ctlGet_clearChannel]
      exact hu
  exact ⟨hgone.1, hgone.2, hcount⟩

/-- A channel that starts afresh keeps its lines, and the other channels stay (R375). -/
theorem chan_firstUse (n k : Nat) (s : State) :
    (chanChanged (chanFirstUse n s)).chan k = if k = n then (s.chan n).firstUse else s.chan k := by
  rw [(watches_chanChanged _).chan, chanFirstUse, State.chan, (unhome_spec n n _).2]
  exact chan_setChan n k _ s

/-! ### Heads and sections (R387, R388, R391) -/

theorem clearHead_other {k j : Nat} (h : j ≠ k) (s : State) : (clearHead j s).head k = s.head k := by
  unfold clearHead
  split
  · rw [(watches_record (code := 0x3041) rfl _ _).head, head_setHead, if_neg h.symm]
  · rfl

theorem fused_clearHead (k : Nat) (s : State) : (clearHead k s).fused = s.fused := by
  unfold clearHead
  split
  · exact (watches_record (code := 0x3041) rfl _ _).fused
  · rfl

theorem clearHead_own (k : Nat) (s : State) : (clearHead k s).head k
    = if k < s.headsFitted then { s.head k with inCnt := 0, outCnt := 0, satIn := false, satOut := false, lastCode := 0x3041 } else s.head k := by
  unfold clearHead
  split
  · rw [(watches_record (code := 0x3041) rfl _ _).head, head_setHead, if_pos rfl]
  · rfl

/-- The counters of a head have been cleared. -/
def Head.Cleared (h : Head) : Prop := h.inCnt = 0 ∧ h.outCnt = 0 ∧ h.satIn = false ∧ h.satOut = false

theorem clearHead_cleared (k : Nat) (s : State) : (k < s.headsFitted → ((clearHead k s).head k).Cleared) ∧ ((clearHead k s).head k).state = (s.head k).state := by
  rw [clearHead_own]
  split
  · exact ⟨fun _ => ⟨rfl, rfl, rfl, rfl⟩, rfl⟩
  · next h => exact ⟨fun h' => absurd h' h, rfl⟩

theorem headsFitted_clearHead (k : Nat) (s : State) : (clearHead k s).headsFitted = s.headsFitted := by
  simp only [State.headsFitted, State.blocksFitted, fused_clearHead]

theorem forOnes_clearHead {k : Nat} {v : Word} {s : State} (hk : k < 16) (hv : v.getLsbD k = true) (h : k < s.headsFitted) :
    let H := (forOnes 16 v clearHead s).head k
    H.Cleared ∧ H.state = (s.head k).state := by
  constructor
  · refine (foldl_reaches (op := fun u j => clearHead j u) (fun u => (u.head k).Cleared ∧ k < u.headsFitted) (fun u => k < u.headsFitted) k
      (fun u j hu => ?_) (fun u j hj hu => .inr ?_) (fun u hu => ?_) _ s (.inr ⟨mem_onesBelow.mpr ⟨hk, hv⟩, h⟩)).1
    · obtain ⟨h1, h2⟩ := hu
      simp only [headsFitted_clearHead]
      by_cases hj : j = k
      · subst hj
        exact ⟨(clearHead_cleared j u).1 h2, h2⟩
      · rw [clearHead_other hj]
        exact ⟨h1, h2⟩
    · exact (headsFitted_clearHead j u).symm ▸ hu
    · exact ⟨(clearHead_cleared k u).1 hu, (headsFitted_clearHead k u).symm ▸ hu⟩
  · refine foldl_keeps (fun u => (u.head k).state) (fun u j => ?_) _ s
    by_cases hj : j = k
    · subst hj
      exact (clearHead_cleared j u).2
    · exact congrArg Head.state (clearHead_other hj u)

theorem OnSections.keep {s t : State} (h : OnSections s t) : t.keep = s.keep := by rw [h.rest]
theorem OnSections.mot {s t : State} (h : OnSections s t) : t.mot = s.mot := by rw [h.rest]

theorem OnSections.secBounded {s t : State} (h : OnSections s t) (k : Nat) : secBounded k t = secBounded k s := by
  have hf : t.headsFitted = s.headsFitted := by rw [h.rest]; rfl
  simp only [Machine.secBounded, secHeads, h.cbit, headEnabled, hf]

/-- A section that is disturbed for its bounds or its configuration is DISTURBED with the cause given (R391). -/
theorem disturbBounds_spec (k bit : Nat) (s : State) : OnSection k s (disturbBounds k bit s)
    ∧ ((disturbBounds k bit s).section_ k).state = .disturbed ∧ ((disturbBounds k bit s).section_ k).occ = (s.section_ k).occ
    ∧ (bit - 4 < 8 → ((disturbBounds k bit s).section_ k).causes.getLsbD (bit - 4) = true)
    ∧ (secBounded k s = false → ((disturbBounds k bit s).section_ k).causes.getLsbD 1 = true) := by
  obtain ⟨h1, -⟩ := disturb_spec k bit s
  obtain ⟨h2, h2c⟩ := disturb_spec k 5 (disturb k bit s)
  simp only [disturbBounds, h1.secBounded]
  split
  · next h =>
    exact ⟨h1, disturb_state k bit s, (disturb_kept k bit s).1, fun hl => disturb_cause k hl s, fun hf => absurd h (by simp [hf])⟩
  · refine ⟨h1.trans h2, disturb_state k 5 _, ((disturb_kept k 5 _).1).trans (disturb_kept k bit s).1, fun hl => ?_,
      fun _ => disturb_cause k (bit := 5) (by decide) _⟩
    rw [h2c, if_pos (disturb_state k bit s)]
    simp [disturb_cause k hl s]

/-- The sections that a head bounds are all disturbed by its new configuration (R391). -/
theorem reconfigSections_spec (k m : Nat) (s : State) :
    let t := (List.range m).foldl (fun s j => if cbit (secReg j 0) k s then reconfigSection j s else s) s
    OnSections s t ∧ ∀ j, (t.section_ j).state = if j < m then (if cbit (secReg j 0) k s then .disturbed else (s.section_ j).state) else (s.section_ j).state := by
  refine foldl_range_each (fun j (u : State) => (u.section_ j).state) (fun j u => if cbit (secReg j 0) k u then .disturbed else (u.section_ j).state)
    OnSections .refl (fun _ _ _ => .trans) (fun u j => ?_) (fun u i j hj => ?_) (fun s u i h hs => ?_) m s
  · split
    · exact (disturbBounds_spec j 9 u).1.toOnSections
    · exact .refl u
  · split
    · exact congrArg Section.state ((disturbBounds_spec i 9 u).1.others j hj)
    · rfl
  · rw [h.cbit]
    split
    · exact (disturbBounds_spec i 9 u).2.1
    · exact hs

/-- A new configuration leaves a head not ready, with its counts, and disturbs the sections it bounds (R387, R391). -/
theorem reconfigHead_spec (k : Nat) (s : State) :
    let t := reconfigHead k s
    (t.head k).state = 0 ∧ (t.head k).freeSince = none ∧ (t.head k).inCnt = (s.head k).inCnt
      ∧ ∀ j < 16, cbit (secReg j 0) k s = true → (t.section_ j).state = .disturbed := by
  intro t
  have h1 : Watches s (if (s.head k).state = 0 then s else raise (128 + k) s) := .ite (.refl s) (watches_raise _ s)
  obtain ⟨h3, h4⟩ := reconfigSections_spec k 16 (setHead k (fun h => { h with state := 0, freeSince := none })
    (if (s.head k).state = 0 then s else raise (128 + k) s))
  have hc : ∀ j, cbit (secReg j 0) k (setHead k (fun h => { h with state := 0, freeSince := none })
      (if (s.head k).state = 0 then s else raise (128 + k) s)) = cbit (secReg j 0) k s := fun j => h1.cbit _ _
  have hh : t.head k = { s.head k with state := 0, freeSince := none } := by
    rw [show t.head k = _ from h3.head k, head_setHead, if_pos rfl, h1.head]
  rw [hh]
  exact ⟨rfl, rfl, rfl, fun j hj hb => (h4 j).trans (by rw [if_pos hj, hc, if_pos hb])⟩

/-! ### Encoder outputs (R394, R396) -/

/-- One step of an output. -/
theorem eoOutputStep_spec (e : Fin 8) (ns : Nat) (s : State) :
    let u := advance ns s
    let due := eoEnabled e s = true ∧ encodersHeld s = false ∧ (s.enc e).srcInvalid = false ∧ (s.enc e).pending ≠ 0
      ∧ (∀ l, (s.enc e).lastStep = some l → 100 ≤ u.now - l)
    (due → Completes (.eoOutputStep e ns) s (fun t => (t.enc e).lastStep = some u.now
        ∧ (0 < (s.enc e).pending → (t.enc e).pending = (s.enc e).pending - 1 ∧ (t.enc e).count = (s.enc e).count + 1)
        ∧ ((s.enc e).pending < 0 → (t.enc e).pending = (s.enc e).pending + 1 ∧ (t.enc e).count = (s.enc e).count - 1)
        ∧ (∀ j, j ≠ e.val → t.enc j = s.enc j) ∧ t = { u with fbk := t.fbk }))
      ∧ (¬ due → exec (.eoOutputStep e ns) s = .next u) := by
  intro u due
  have he : ∀ j, (advance ns s).enc j = s.enc j := fun j => by simp [State.enc]
  have hdue : (eoEnabled e u = true ∧ encodersHeld u = false ∧ (u.enc e).srcInvalid = false ∧ (u.enc e).pending ≠ 0
      ∧ (match (u.enc e).lastStep with | none => true | some t => decide (100 ≤ u.now - t)) = true) ↔ due := by
    have h1 : eoEnabled e u = eoEnabled e s := by simp only [eoEnabled, eoSrc, u, cbit_advance, cf_advance]; rfl
    have h2 : encodersHeld u = encodersHeld s := by simp [encodersHeld, State.reiniting, u]
    rw [h1, h2, show u.enc e = s.enc e from he e]
    simp only [due]
    cases (s.enc e).lastStep <;> simp
  refine ⟨fun h => ⟨_, if_pos (hdue.mpr h), ?_⟩, fun h => if_neg (fun h' => h (hdue.mp h'))⟩
  have hset : ∀ f j, (setEnc e f (advance ns s)).enc j = if j = e.val then f (s.enc e) else s.enc j := fun f j => by rw [enc_setEnc, he, he]
  beta_reduce
  simp only [hset, he, if_true]
  refine ⟨rfl, fun hp => ?_, fun hp => ?_, fun j hj => ?_, rfl⟩
  · simp [hp]
  · have hn : ¬ 0 < (s.enc e).pending := by omega
    simp [hn]
  · rw [if_neg hj]

/-! ### First use of the region (R375, R387, R391) -/

theorem sectionFirstUse_spec (k : Nat) (s : State) : OnSection k s (sectionFirstUse k s)
    ∧ ((sectionFirstUse k s).section_ k).state = .disturbed ∧ ((sectionFirstUse k s).section_ k).occ = 0
    ∧ ((sectionFirstUse k s).section_ k).causes.getLsbD 0 = true
    ∧ (secBounded k s = false → ((sectionFirstUse k s).section_ k).causes.getLsbD 1 = true) := by
  have h0 := (disturb_spec k 4 s).1.trans (onSection_setSection k (fun _ => {}) _)
  obtain ⟨h1, h2, h3, h4, h5⟩ := disturbBounds_spec k 4 (setSection k (fun _ => {}) (disturb k 4 s))
  refine ⟨h0.trans h1, h2, h3.trans ?_, h4 (by decide), fun hb => h5 ((h0.secBounded k).trans hb)⟩
  rw [section_setSection, if_pos rfl]

theorem sectionsFirstUse_spec (m : Nat) (s : State) :
    let t := (List.range m).foldl (fun s k => sectionFirstUse k s) s
    OnSections s t ∧ ∀ k < m, (t.section_ k).state = .disturbed ∧ (t.section_ k).occ = 0 ∧ (t.section_ k).causes.getLsbD 0 = true
      ∧ (secBounded k s = false → (t.section_ k).causes.getLsbD 1 = true) := by
  intro t
  have hat := fun k hk => foldl_range_at (op := fun s k => sectionFirstUse k s) (fun k (u : State) => u.section_ k) OnSections .refl (fun _ _ _ => .trans)
    (fun u i => (sectionFirstUse_spec i u).1.toOnSections) (fun u i j hj => (sectionFirstUse_spec i u).1.others j hj) k m s hk
  refine ⟨.foldl (fun u i => (sectionFirstUse_spec i u).1.toOnSections) _ s, fun k hk => ?_⟩
  obtain ⟨u, hu, -, -, he⟩ := hat k hk
  obtain ⟨-, h1, h2, h3, h4⟩ := sectionFirstUse_spec k u
  simp only [t, he]
  exact ⟨h1, h2, h3, fun hb => h4 ((hu.secBounded k).trans hb)⟩

/-- Nothing but the axes differs. -/
structure OnlyMot (s t : State) : Prop where
  rest : t = { s with mot := t.mot }

theorem OnlyMot.trans {s t u : State} (h : OnlyMot s t) (k : OnlyMot t u) : OnlyMot s u := ⟨by rw [k.rest, h.rest]⟩

theorem OnlyMot.keep {s t : State} (h : OnlyMot s t) : t.keep = s.keep := by rw [h.rest]
theorem OnlyMot.fbk {s t : State} (h : OnlyMot s t) : t.fbk = s.fbk := by rw [h.rest]

theorem OnlyMot.foldl {α : Type} {op : State → α → State} (h : ∀ u i, OnlyMot u (op u i)) (l : List α) (s : State) : OnlyMot s (l.foldl op s) := by
  induction l generalizing s with
  | nil => exact ⟨rfl⟩
  | cons i l ih => exact (h s i).trans (ih _)

theorem axis_unhome (n k : Nat) (s : State) : (unhome n s).axis k
    = if k = n ∧ noFeedback n s = false then { s.axis n with homed := false, actValid := false } else s.axis k := by
  unfold unhome
  cases hn : noFeedback n s
  · simp
  · simp

theorem unhomes_spec (m : Nat) (s : State) :
    let t := (List.range m).foldl (fun s n => unhome n s) s
    OnlyMot s t ∧ ∀ n, t.axis n = if n < m then (if noFeedback n s = false then { s.axis n with homed := false, actValid := false } else s.axis n) else s.axis n := by
  refine foldl_range_each (fun n (u : State) => u.axis n)
    (fun n u => if noFeedback n u = false then { u.axis n with homed := false, actValid := false } else u.axis n)
    OnlyMot (fun _ => ⟨rfl⟩) (fun _ _ _ => .trans) (fun u i => ?_) (fun u i j hj => ?_) (fun s u i h hs => ?_) m s
  · unfold unhome
    split
    · exact ⟨rfl⟩
    · exact ⟨rfl⟩
  · rw [axis_unhome, if_neg (fun h => hj h.1)]
  · have hf : noFeedback i u = noFeedback i s := by rw [h.rest]; rfl
    simp only [axis_unhome, hf, hs, true_and]

/-- What the default has, and every mapped value, every entry of the mapped table has. -/
theorem look_map_of {α : Type} {d : α} {f : α → α} (P : α → Prop) (hd : P d) (hf : ∀ x, P (f x)) (k : Nat) (l : Tab α) :
    P (look d k (l.map (fun p => (p.1, f p.2)))) := by
  induction l with
  | nil => exact hd
  | cons p l ih =>
    rw [List.map_cons, look_cons]
    split
    · exact hf _
    · exact ih

theorem eo_disturb (k bit : Nat) (s : State) : (disturb k bit s).fbk.eo = s.fbk.eo := by
  simp only [disturb]
  split
  · rfl
  · have hs : (secState k .disturbed s).fbk.eo = s.fbk.eo := by
      simp only [secState]
      split <;> rfl
    exact (congrArg Feedback.eo (talks_record _ _ _).fbk).trans hs

theorem eo_sectionFirstUse (k : Nat) (s : State) : (sectionFirstUse k s).fbk.eo = s.fbk.eo := by
  have h : (disturb k 4 (setSection k (fun _ => {}) (disturb k 4 s))).fbk.eo = s.fbk.eo := (eo_disturb k 4 _).trans (eo_disturb k 4 s)
  simp only [sectionFirstUse, disturbBounds]
  split
  · exact h
  · exact (eo_disturb k 5 _).trans h

/-- A channel at its first use has counted nothing. -/
def PosChan.Fresh (c : PosChan) : Prop := c.count = 0 ∧ c.index = 0 ∧ c.level = 0 ∧ c.bad = false

theorem feedbackFirstUse_spec (s : State) :
    let t := feedbackFirstUse s
    (∀ n, (t.chan n).Fresh) ∧ t.fbk.heads = [] ∧ t.fbk.stand = []
      ∧ (∀ k < 16, (t.section_ k).state = .disturbed ∧ (t.section_ k).occ = 0 ∧ (t.section_ k).causes.getLsbD 0 = true
          ∧ (secBounded k s = false → (t.section_ k).causes.getLsbD 1 = true))
      ∧ (∀ n < s.chansFitted, noFeedback n s = false → (t.axis n).homed = false) ∧ (∀ n, (t.axis n).st = (s.axis n).st)
      ∧ t.fbk.eo = s.fbk.eo ∧ t.keep = s.keep := by
  intro t
  obtain ⟨h1, h2⟩ := sectionsFirstUse_spec 16 s
  obtain ⟨h3, h4⟩ := unhomes_spec s.chansFitted ((List.range 16).foldl (fun s k => sectionFirstUse k s) s)
  have hk : t.keep = s.keep := h3.keep.trans h1.keep
  have hs : ∀ k, t.section_ k = ((List.range 16).foldl (fun s k => sectionFirstUse k s) s).section_ k := fun k => by
    have := congrArg (fun F : Feedback => look ({} : Section) k F.sections) h3.fbk
    exact this
  have ha : ∀ n, t.axis n = _ := h4
  have h0 : ∀ n, ((List.range 16).foldl (fun s k => sectionFirstUse k s) s).axis n = s.axis n := fun n =>
    congrArg (fun M : Motion => look ({} : Axis) n M.axes) h1.mot
  refine ⟨fun n => ?_, rfl, rfl, fun k hk => ?_, fun n hn hf => ?_, fun n => ?_, ?_, hk⟩
  · exact look_map_of PosChan.Fresh ⟨rfl, rfl, rfl, rfl⟩ (fun _ => ⟨rfl, rfl, rfl, rfl⟩) n _
  · rw [hs k]
    exact h2 k hk
  · have hf' : noFeedback n ((List.range 16).foldl (fun s k => sectionFirstUse k s) s) = false := by
      rw [← hf]
      exact congrArg (fun u => decide (u = 0)) (congrArg (fun w : Word => bits 11 10 w.toNat) (h1.ctlGet _))
    rw [ha n, if_pos hn, if_pos hf']
  · rw [ha n, ← h0 n]
    split
    · split <;> rfl
    · rfl
  · exact (congrArg Feedback.eo h3.fbk).trans (foldl_keeps (fun u => u.fbk.eo) (fun u k => eo_sectionFirstUse k u) _ s)

/-- An uncorrectable error of the region while it works: it is reinitialised, from its first use (R30, R375). -/
theorem feedbackUncorrectable_spec {s : State} (hm : s.keep.mode ≠ .hold) (hr : s.reiniting 2 = false) :
    Completes .feedbackUncorrectableError s (fun t => (∀ n, (t.chan n).Fresh) ∧ t.fbk.heads = [] ∧ t.fbk.stand = []
      ∧ (∀ k < 16, (t.section_ k).state = .disturbed ∧ (t.section_ k).occ = 0 ∧ (t.section_ k).causes.getLsbD 0 = true
          ∧ (secBounded k s = false → (t.section_ k).causes.getLsbD 1 = true))
      ∧ (∀ n < s.chansFitted, noFeedback n s = false → (t.axis n).homed = false) ∧ (∀ n, (t.axis n).st = (s.axis n).st)
      ∧ t.fbk.eo = s.fbk.eo ∧ t.reiniting 2 = true ∧ t.keep.mode = s.keep.mode) := by
  have hrec := watches_record (code := 0x3060) rfl [] s
  obtain ⟨h1, h2, h3, h4, h5, h6, h7, h8⟩ := feedbackFirstUse_spec (record 0x3060 [] s)
  have hk : (feedbackFirstUse (record 0x3060 [] s)).keep = s.keep := h8.trans hrec.keep
  have hm' : (feedbackFirstUse (record 0x3060 [] s)).keep.mode ≠ .hold := hk ▸ hm
  have hr' : (feedbackFirstUse (record 0x3060 [] s)).reiniting 2 = false := by rw [State.reiniting, hk]; exact hr
  have ht := beginReinit_spec hm' hr'
  have hf : ∀ {α : Type} (f : Feedback → α), f (beginReinit 2 (feedbackFirstUse (record 0x3060 [] s))).fbk = f (feedbackFirstUse (record 0x3060 [] s)).fbk :=
    fun f => congrArg f ht.fbk
  have hax : ∀ n, (beginReinit 2 (feedbackFirstUse (record 0x3060 [] s))).axis n = (feedbackFirstUse (record 0x3060 [] s)).axis n := fun n => ht.axis n
  refine ⟨_, congrArg Host.Outcome.next (if_neg hm), fun n => ?_, (hf _).trans h2, (hf _).trans h3, fun k hk => ?_, fun n hn hfb => ?_, fun n => ?_, ?_,
    reiniting_beginReinit hm' hr', (mode_beginReinit hr').trans (congrArg Keeper.mode hk)⟩
  · rw [show (beginReinit 2 (feedbackFirstUse (record 0x3060 [] s))).chan n = (feedbackFirstUse (record 0x3060 [] s)).chan n from
      hf (fun F => look ({} : PosChan) n F.chans)]
    exact h1 n
  · have := h4 k hk
    rw [hrec.onSections.secBounded] at this
    rw [show (beginReinit 2 (feedbackFirstUse (record 0x3060 [] s))).section_ k = (feedbackFirstUse (record 0x3060 [] s)).section_ k from
      hf (fun F => look ({} : Section) k F.sections)]
    exact this
  · rw [hax]
    refine h5 n ?_ ?_
    · rw [State.chansFitted, State.axesFitted, hrec.fused]; exact hn
    · rw [← hfb]
      exact congrArg (fun w : Word => decide (bits 11 10 w.toNat = 0)) (hrec.ctlGet _)
  · rw [hax, h6, State.axis, hrec.mot]
    rfl
  · exact (hf _).trans (h7.trans (congrArg Feedback.eo (talks_record _ _ s).fbk))

theorem feedbackUncorrectable_hold {s : State} (hm : s.keep.mode = .hold) :
    Completes .feedbackUncorrectableError s (fun t => t.jnl = (record 0x3060 [] s).jnl ∧ t = s.noted t) := by
  refine ⟨record 0x3060 [] s, congrArg Host.Outcome.next (if_pos hm), rfl, ?_⟩
  obtain ⟨j, hj⟩ := jnlOnly_record 0x3060 [] s (by decide) (by decide)
  rw [hj]
  rfl

/-! ### Granted writes -/

/-- PC_CLEAR (R374). -/
theorem pcClear_spec {acc : Access} {v : Word} {n : Fin 32} {s : State} (hw : WriteGranted acc 0x0200_5000 v s) (hn : n.val < s.chansFitted)
    (hv : v.getLsbD n = true) (hb : (s.chan n).bad = true) (hr : cbit (pcReg n 0) 5 s = false) :
    Completes (.pcClear acc v) s (fun t => (t.chan n).bad = false ∧ (t.chan n).level = 0 ∧ (t.chan n).count = (s.chan n).count) := by
  have ht : accessWrite acc 0x0200_5000 v s = forOnes 32 v clearChannel (advance acc.at_ s) :=
    accessWrite_fbk hw findReg_pcClr (by decide) rfl (by decide)
  have hu : ∀ k, (advance acc.at_ s).chan k = s.chan k := fun k => chan_advance k acc.at_ s
  have h := forOnes_clearChannel (v := v) (s := advance acc.at_ s) n.isLt hv
    ⟨by simpa only [State.chansFitted, State.axesFitted, advance_fused] using hn, by rw [hu]; exact hb, by rw [cbit_advance]; exact hr⟩
  rw [hu] at h
  exact ⟨_, congrArg Host.Outcome.next ht, h⟩

/-- PC_CONFIG_WRITE (R375). -/
theorem pcConfigWrite_spec {acc : Access} {v : Word} {n : Fin 32} {lines : Bool} {s : State}
    (hw : WriteGranted acc (pcReg n (if lines then 4 else 0)) v s) (hn : n.val < s.chansFitted) :
    Completes (.pcConfigWrite acc n lines v) s (fun t => (t.chan n).count = 0 ∧ (t.chan n).bad = false ∧ (t.chan n).level = 0
      ∧ (t.chan n).index = 0 ∧ (t.chan n).a = (s.chan n).a ∧ ∀ k, k ≠ n.val → t.chan k = s.chan k) := by
  have hs : ∀ r k, (storeBits r (pcReg n (if lines then 4 else 0)) v (advance acc.at_ s)).chan k = s.chan k := fun r k => by
    rw [State.chan, storeBits_fbk]
    exact chan_advance k acc.at_ s
  have ht : ∃ r, accessWrite acc (pcReg n (if lines then 4 else 0)) v s
      = chanChanged (chanFirstUse n (storeBits r (pcReg n (if lines then 4 else 0)) v (advance acc.at_ s))) := by
    refine ⟨if lines then pcLinesRow else pcCfgRow, (accessWrite_fbk hw (findReg_pcCfg n lines) ?_ ?_ ?_).trans ?_⟩
    · cases lines <;> decide
    · cases lines <;> simpa [Unit_.fitted, pcCfgRow, pcLinesRow, row] using hn
    · simp only [pcReg]; split <;> omega
    · cases lines <;> rfl
  obtain ⟨r, ht⟩ := ht
  refine ⟨_, congrArg Host.Outcome.next ht, ?_⟩
  beta_reduce
  simp only [chan_firstUse, if_true, hs]
  exact ⟨rfl, rfl, rfl, rfl, rfl, fun k hk => if_neg hk⟩

/-- WC_CLEAR and WC_CONFIG_WRITE (R387, R388, R391). -/
theorem headWrites_spec (acc : Access) (v : Word) (k : Fin 16) (s : State) (hk : k.val < s.headsFitted) :
    (WriteGranted acc 0x0200_5004 v s → v.getLsbD k = true →
      Completes (.wcClear acc v) s (fun t => (t.head k).inCnt = 0 ∧ (t.head k).outCnt = 0 ∧ (t.head k).satIn = false ∧ (t.head k).satOut = false
        ∧ (t.head k).state = (s.head k).state))
    ∧ (WriteGranted acc (wcReg k 0) v s →
      Completes (.wcConfigWrite acc k v) s (fun t => (t.head k).state = 0 ∧ (t.head k).freeSince = none ∧ (t.head k).inCnt = (s.head k).inCnt
        ∧ ∀ j < 16, cbit (secReg j 0) k s = true → (t.section_ j).state = .disturbed)) := by
  constructor
  · intro hw hv
    have ht : accessWrite acc 0x0200_5004 v s = forOnes 16 v clearHead (advance acc.at_ s) :=
      accessWrite_fbk hw findReg_wcClr (by decide) rfl (by decide)
    obtain ⟨⟨h1, h2, h3, h4⟩, h5⟩ := forOnes_clearHead (v := v) (s := advance acc.at_ s) k.isLt hv
      (by simpa only [State.headsFitted, State.blocksFitted, advance_fused] using hk)
    exact ⟨_, congrArg Host.Outcome.next ht, h1, h2, h3, h4, h5.trans (congrArg Head.state (head_advance k acc.at_ s))⟩
  · intro hw
    have ht : accessWrite acc (wcReg k 0) v s = reconfigHead k (storeBits wcCfgRow (wcReg k 0) v (advance acc.at_ s)) :=
      accessWrite_fbk hw (findReg_wcCfg k) (by decide) (decide_eq_true hk) (by simp only [wcReg]; omega)
    obtain ⟨h1, h2, h3, h4⟩ := reconfigHead_spec k (storeBits wcCfgRow (wcReg k 0) v (advance acc.at_ s))
    refine ⟨_, congrArg Host.Outcome.next ht, h1, h2, h3.trans ?_, fun j hj hb => h4 j hj ?_⟩
    · rw [State.head, storeBits_fbk]
      exact congrArg Head.inCnt (head_advance k acc.at_ s)
    · rw [← hb, ← cbit_advance (secReg j 0) k acc.at_ s]
      exact congrArg (fun w : Word => bitAt k w.toNat) (ctlGet_storeBits_other _ (by simp only [secReg, wcReg]; omega) _ _)

/-- SEC_CONFIG_WRITE (R391). -/
theorem secConfigWrite_spec {acc : Access} {v : Word} {k : Fin 16} {s : State} (hw : WriteGranted acc (secReg k 0) v s) :
    Completes (.secConfigWrite acc k v) s (fun t => (t.section_ k).state = .disturbed ∧ (t.section_ k).causes.getLsbD 5 = true
      ∧ ∀ j, j ≠ k.val → t.section_ j = s.section_ j) := by
  have ht : accessWrite acc (secReg k 0) v s = reconfigSection k (storeBits secCfgRow (secReg k 0) v (advance acc.at_ s)) :=
    accessWrite_fbk hw (findReg_secCfg k) (by decide) rfl (by simp only [secReg]; omega)
  obtain ⟨h1, h2, -, h3, -⟩ := disturbBounds_spec k 9 (storeBits secCfgRow (secReg k 0) v (advance acc.at_ s))
  refine ⟨_, congrArg Host.Outcome.next ht, h2, h3 (by decide), fun j hj => (h1.others j hj).trans ?_⟩
  rw [State.section_, storeBits_fbk]
  exact section_advance j acc.at_ s

/-- EO_ENABLE (R394). -/
theorem eoEnable_spec {acc : Access} {v : Word} {e : Fin 8} {s : State} (hw : WriteGranted acc (eoReg e 0) v s) (hv : v.getLsbD 15 = true)
    (ho : cbit (eoReg e 0) 15 s = false) :
    Completes (.eoEnable acc e v) s (fun t => (t.enc e).count = 0 ∧ (t.enc e).pending = 0 ∧ (t.enc e).rem = 0 ∧ (t.enc e).phase = 0
      ∧ (t.enc e).z = false ∧ (t.enc e).ref = eoValue e t ∧ cbit (eoReg e 0) 15 t = true ∧ ∀ j, j ≠ e.val → t.enc j = s.enc j) := by
  let t0 := storeBits eoCfgRow (eoReg e 0) v (advance acc.at_ s)
  have hb : cbit (eoReg e 0) 15 t0 = true := cbit_storeBits (r := eoCfgRow) (by decide) hv
  have ht : accessWrite acc (eoReg e 0) v s = setEnc e (fun o => { o with
      count := 0, rem := 0, pending := 0, ref := eoValue e t0, phase := 0, z := false, lastStep := none }) t0 := by
    refine (accessWrite_fbk hw (findReg_eoCfg e) (by decide) rfl (by simp only [eoReg]; omega)).trans (if_pos ?_)
    rw [cbit_advance, ho]
    exact (Bool.and_true _).trans hb
  have henc : ∀ j, t0.enc j = s.enc j := fun j => by
    rw [State.enc, storeBits_fbk, advance_fbk]
    rfl
  refine ⟨_, congrArg Host.Outcome.next ht, ?_⟩
  beta_reduce
  simp only [enc_setEnc, if_true]
  exact ⟨trivial, trivial, trivial, trivial, trivial, rfl, hb, fun j hj => (if_neg hj).trans (henc j)⟩

/-- Settles O35: each granted write by what its register's effect is, the error by the first use of the region and its reinitialisation. -/
theorem feedbackWrites : Obligations.FeedbackWrites := fun acc v s =>
  ⟨fun _ hn => ⟨fun hw hv hb hr => pcClear_spec hw hn hv hb hr, fun _ hw => pcConfigWrite_spec hw hn⟩,
    fun k hk => headWrites_spec acc v k s hk, fun _ hw => secConfigWrite_spec hw, fun _ hw hv ho => eoEnable_spec hw hv ho,
    fun e ns => eoOutputStep_spec e ns s, fun hm hr => feedbackUncorrectable_spec hm hr,
    fun hm hr => ⟨_, congrArg Host.Outcome.next (if_neg hm), by
      obtain ⟨-, -, -, -, -, -, -, hk⟩ := feedbackFirstUse_spec (record 0x3060 [] s)
      refine mode_beginReinit_again ?_
      rw [State.reiniting, hk, (watches_record (code := 0x3060) rfl [] s).keep]
      exact hr⟩, fun hm => feedbackUncorrectable_hold hm⟩

end Sys2Proof.Machine
end

section
/-!
SUPPORT. What resets, frames and commands of a field block leave as it is outside the block and the feedback region.
-/
namespace Sys2Proof.Machine

/-! ### A block and the feedback region -/

/-- Nothing but block `f`, the feedback region, the lock-keeper's last code, the journal, the draws and the events raised differs. -/
structure Around (f : Nat) (s t : State) : Prop where
  rest : t = { s with
    jnl := t.jnl, svc := { s.svc with toggles := t.svc.toggles }, free := t.free, fbk := t.fbk
    fld := { s.fld with blocks := t.fld.blocks }, keep := { s.keep with lastCode := t.keep.lastCode } }
  others : ∀ g, g ≠ f → t.block g = s.block g
  raised : s.svc.toggles <+: t.svc.toggles

theorem Around.trans {f : Nat} {s t u : State} (h : Around f s t) (k : Around f t u) : Around f s u :=
  ⟨by rw [k.rest, h.rest], fun g hg => (k.others g hg).trans (h.others g hg), h.raised.trans k.raised⟩

theorem Inside.around {f : Nat} {s t : State} (h : Inside f s t) : Around f s t := ⟨by rw [h.rest], h.others, h.raised⟩
theorem Around.refl (f : Nat) (s : State) : Around f s s := (Inside.refl f s).around
theorem Settles.around {f : Nat} {s t : State} (h : Settles f s t) : Around f s t := h.inside.around

theorem Around.frame {f : Nat} {s t : State} (h : Around f s t) :
    t = { s.noted t with fld := t.fld, fbk := t.fbk, keep := { s.keep with lastCode := t.keep.lastCode } } := by
  rw [h.rest]
  rfl

theorem Around.mode {f : Nat} {s t : State} (h : Around f s t) : t.keep.mode = s.keep.mode := by rw [h.rest]
theorem Around.now {f : Nat} {s t : State} (h : Around f s t) : t.now = s.now := by rw [h.rest]; rfl
theorem Around.ctlGet {f : Nat} {s t : State} (h : Around f s t) (a : Nat) : ctlGet a t = ctlGet a s := by rw [h.rest]; rfl
theorem Around.cbit {f : Nat} {s t : State} (h : Around f s t) (a i : Nat) : cbit a i t = cbit a i s := by simp only [Machine.cbit, h.ctlGet]
theorem Around.fitted {f : Nat} {s t : State} (h : Around f s t) (g : Nat) : t.fldFitted g = s.fldFitted g := by rw [h.rest]; rfl

/-- A record of the lock-keeper's own. -/
theorem around_record (f : Nat) {code : Nat} (hc : code / 0x100 ≠ 0x11) (args : List Nat) (s : State) : Around f s (record code args s)
    ∧ (record code args s).fld = s.fld ∧ (record code args s).fbk = s.fbk := by
  have h := talks_record code args s
  have hn : ∃ k, noteCode code s = { s with keep := { s.keep with lastCode := k } } := by
    unfold noteCode
    rw [if_neg hc]
    split
    · exact ⟨_, rfl⟩
    · exact ⟨_, rfl⟩
  obtain ⟨k, hk⟩ := hn
  obtain ⟨j, hj⟩ := jnlOnly_recordC code 0 1 (args.flatMap (le 4)) s
  have ht : record code args s = { s with keep := { s.keep with lastCode := k }, jnl := j } := hj.trans (by rw [hk])
  rw [ht]
  exact ⟨⟨rfl, fun _ _ => rfl, List.prefix_rfl⟩, rfl, rfl⟩

/-! ### The feedback region -/

/-- Nothing but the feedback region, the journal and the events raised differs. -/
structure InFbk (s t : State) : Prop where
  rest : t = { s with jnl := t.jnl, svc := { s.svc with toggles := t.svc.toggles }, fbk := t.fbk }
  raised : s.svc.toggles <+: t.svc.toggles

theorem InFbk.refl (s : State) : InFbk s s := ⟨rfl, List.prefix_rfl⟩
theorem InFbk.trans {s t u : State} (h : InFbk s t) (k : InFbk t u) : InFbk s u := ⟨by rw [k.rest, h.rest], h.raised.trans k.raised⟩
theorem InFbk.fld {s t : State} (h : InFbk s t) : t.fld = s.fld := by rw [h.rest]
theorem InFbk.snap {s t : State} (h : InFbk s t) : t.snap = s.snap := by rw [h.rest]
theorem InFbk.now {s t : State} (h : InFbk s t) : t.now = s.now := by rw [h.rest]; rfl
theorem InFbk.block {s t : State} (h : InFbk s t) (f : Nat) : t.block f = s.block f := by rw [State.block, h.fld]; rfl
theorem InFbk.around {s t : State} (h : InFbk s t) (f : Nat) : Around f s t := ⟨by rw [h.rest], fun g _ => h.block g, h.raised⟩
theorem Watches.inFbk {s t : State} (h : Watches s t) : InFbk s t := ⟨by rw [h.rest], h.raised⟩

theorem InFbk.foldl {α : Type} {op : State → α → State} (h : ∀ u i, InFbk u (op u i)) (l : List α) (s : State) : InFbk s (l.foldl op s) := by
  induction l generalizing s with
  | nil => exact .refl s
  | cons i l ih => exact (h s i).trans (ih _)

theorem InFbk.ite {s t u : State} {p : Prop} [Decidable p] (h : InFbk s t) (k : InFbk s u) : InFbk s (if p then t else u) := by
  split
  · exact h
  · exact k

theorem inFbk_setHead (k : Nat) (f : Head → Head) (s : State) : InFbk s (setHead k f s) := ⟨rfl, List.prefix_rfl⟩
theorem inFbk_setSection (k : Nat) (f : Section → Section) (s : State) : InFbk s (setSection k f s) := ⟨rfl, List.prefix_rfl⟩
theorem inFbk_raise (n : Nat) (s : State) : InFbk s (raise n s) := (watches_raise n s).inFbk
theorem inFbk_record {code : Nat} (hc : code / 0x1000 = 3) (args : List Nat) (s : State) : InFbk s (record code args s) := (watches_record hc args s).inFbk

theorem inFbk_secState (k : Nat) (st : SecState) (s : State) : InFbk s (secState k st s) := by
  simp only [secState]
  exact .ite (inFbk_setSection k _ s) ((inFbk_setSection k _ s).trans (inFbk_raise _ _))

theorem inFbk_disturb (k bit : Nat) (s : State) : InFbk s (disturb k bit s) := by
  simp only [disturb]
  exact .ite (inFbk_setSection k _ s) (((inFbk_secState k _ s).trans (inFbk_setSection k _ _)).trans (inFbk_record rfl _ _))

theorem inFbk_secRestored (k : Nat) (s : State) : InFbk s (secRestored k s) := by
  simp only [secRestored]
  exact .ite ((inFbk_secState k _ s).trans (inFbk_record rfl _ _)) (.refl s)

theorem inFbk_headNotReady (k : Nat) (seqErr : Bool) (arg1 arg2 : Nat) (s : State) : InFbk s (headNotReady k seqErr arg1 arg2 s) := by
  unfold headNotReady
  refine .ite (inFbk_setHead k _ s) (InFbk.trans (t := raise _ _) ?_ (.foldl (fun u j => .ite (inFbk_disturb j _ u) (.refl u)) _ _))
  cases seqErr
  · exact ((inFbk_setHead k _ s).trans (inFbk_record rfl _ _)).trans (inFbk_raise _ _)
  · exact ((inFbk_setHead k _ s).trans (inFbk_record rfl _ _)).trans (inFbk_raise _ _)

theorem inFbk_headCount (k : Nat) (isIn : Bool) (s : State) : InFbk s (headCount k isIn s) := by
  simp only [headCount]
  exact .ite (((inFbk_setHead k _ s).trans (inFbk_setHead k _ _)).trans ((inFbk_record rfl _ _).trans (inFbk_raise _ _))) (inFbk_setHead k _ s)

theorem InFbk.fst_ite {α : Type} {s : State} {a b : State × α} {p : Prop} [Decidable p] (h : InFbk s a.1) (k : InFbk s b.1) :
    InFbk s (if p then a else b).1 := by
  split
  · exact h
  · exact k

theorem inFbk_headSample (k num ra rb : Nat) (s : State) : InFbk s (headSample k num ra rb s).1 := by
  have h1 := inFbk_setHead k (fun h => { h with sysA := ra, sysB := rb, lastSeq := some num, lastSample := s.now }) s
  have hn := fun e a b => h1.trans (inFbk_headNotReady k e a b _)
  simp only [headSample]
  refine .fst_ite (.ite ((hn _ _ _).trans (inFbk_setHead k _ _)) (hn _ _ _)) (.fst_ite (h1.trans (inFbk_setHead k _ _)) (.fst_ite (hn _ _ _) ?_))
  cases headNext (s.head k).state ((if cbit (wcReg k 0) 1 s = true then rb else ra) == 2) ((if cbit (wcReg k 0) 1 s = true then ra else rb) == 2) with
  | none => exact .ite ((hn _ _ _).trans (inFbk_setHead k _ _)) (hn _ _ _)
  | some p =>
    obtain ⟨st, c⟩ := p
    cases c with
    | none => exact h1.trans (inFbk_setHead k _ _)
    | some isIn => exact (h1.trans (inFbk_setHead k _ _)).trans (inFbk_headCount k _ _)

theorem inFbk_secStep (k : Nat) (enter : Bool) (s : State) : InFbk s (secStep k enter s) := by
  have h := fun f => inFbk_setSection k f s
  simp only [secStep]
  split
  · exact h _
  · exact .ite (.ite (inFbk_disturb k _ s) ((h _).trans (inFbk_setSection k _ _)))
      (.ite (inFbk_disturb k _ s) (((h _).trans (inFbk_setSection k _ _)).trans (inFbk_secRestored k _)))
  · exact .ite ((h _).trans (inFbk_secState k _ _)) (inFbk_disturb k _ s)
  · exact .ite (.ite (inFbk_disturb k _ s) (h _)) (.ite ((h _).trans (inFbk_secState k _ _)) (h _))

theorem inFbk_applySteps (steps : List (Nat × Bool)) (s : State) : InFbk s (applySteps steps s) := by
  have h : ∀ (b : Bool) u, InFbk u (steps.foldl (fun s p => (List.range 16).foldl (fun s j =>
      if cbit (secReg j 0) p.1 s then
        let enter := p.2 != cbit (secReg j 0) (16 + p.1) s
        if enter == b then secStep j enter s else s
      else s) s) u) := fun b u =>
    .foldl (fun u p => .foldl (fun u j => .ite (.ite (inFbk_secStep j _ u) (.refl u)) (.refl u)) _ u) _ u
  exact ((h true s).trans (h false _)).trans (.foldl (fun u j => inFbk_secRestored j u) _ _)

/-- The sample of age `age` of one head, as the frame's delivery takes it from `s`. -/
def sampleHead (f age : Nat) (s : State) (acc : State × List (Nat × Bool)) (j : Nat) : State × List (Nat × Bool) :=
  let smp := (look ({} : FrontEnd) j (s.block f).wfe).samples
  match smp.reverse[age]? with
  | none => acc
  | some x =>
    let new := match (acc.1.head (4 * f + j)).lastSeq with | none => true | some q => decide (q < x.1)
    if new && cbit (fldReg f (0x500 + 4 * j)) 0 s then
      let h := headSample (4 * f + j) x.1 x.2.1 x.2.2 acc.1
      (h.1, match h.2 with | some p => acc.2 ++ [p] | none => acc.2)
    else acc

theorem inFbk_sampleHead (f age j : Nat) (s : State) (acc : State × List (Nat × Bool)) : InFbk acc.1 (sampleHead f age s acc j).1 := by
  simp only [sampleHead]
  split
  · exact .refl _
  · refine .fst_ite ?_ (.refl _)
    exact inFbk_headSample _ _ _ _ _

theorem inFbk_deliverSamples (f : Nat) (s : State) : InFbk s (deliverSamples f s) := by
  unfold deliverSamples
  refine InFbk.trans (.foldl (fun u age => ?_) _ s) (watches_eoFollowAll false _).inFbk
  refine InFbk.trans ?_ (inFbk_applySteps _ _)
  have hfold : ∀ (l : List Nat) (acc : State × List (Nat × Bool)), InFbk acc.1 (l.foldl (sampleHead f age u) acc).1 := by
    intro l
    induction l with
    | nil => exact fun acc => .refl _
    | cons j l ih => exact fun acc => (inFbk_sampleHead f age j u acc).trans (ih _)
  exact hfold (List.range 4) (u, [])

theorem inFbk_headsNotReady (f : Nat) (s : State) : InFbk s (headsNotReady f s) :=
  .foldl (fun u _ => (inFbk_setHead _ _ u).trans (inFbk_headNotReady _ _ _ _ _)) _ s

/-! ### Commands and demands (R405, R429, R435) -/

theorem steady_dioClear (f c : Nat) (e h : Bool) (s : State) : Steady f s (dioClear f c e h s) := (dioClear_spec f c e h s).1.toSteady

theorem steady_clearLs (f i : Nat) (s : State) : Steady f s (clearLs f i s) := (clearLs_spec f i s).1.toSteady

theorem steady_clearSo (f j : Nat) (s : State) : Steady f s (clearSo f j s) := by
  by_cases h : ((s.block f).soOf j).st = .fault
  · exact ((clearSo_spec f j s).2 h).1.toSteady
  · rw [(clearSo_spec f j s).1 h]
    exact (Settles.refl f s).toSteady

/-- A field command changes channels of its block, and no demand. -/
theorem steady_fieldCommand (f : Nat) (dem : Word) (q : Post) (s : State) : Steady f s (fieldCommand f dem q s) := by
  simp only [fieldCommand]
  split
  · split
    · exact steady_setDio f _ _ s
    · split
      · exact steady_dioClear f _ true true s
      · split
        · exact steady_clearLs f _ s
        · exact steady_clearSo f _ s
  · exact ((settles_blkRecord f rfl _ s).trans (settles_raise f 184 _)).toSteady

theorem Steady.foldl {α : Type} {f : Nat} {op : State → α → State} (h : ∀ u i, Steady f u (op u i)) (l : List α) (s : State) :
    Steady f s (l.foldl op s) := by
  induction l generalizing s with
  | nil => exact (Settles.refl f s).toSteady
  | cons i l ih => exact (h s i).trans (ih _)

/-- A pair whose demand is 0 holds no switch on once the block has followed its demands (R429). -/
theorem notOn_evalBlock {f j : Nat} {applied : Bool} {s : State} (hj : j < 4) (hen : soEnabled f j s = true) (hd : soDemand f j s = false) :
    (((evalBlock f applied s).block f).soOf j).st.isOn = false := by
  obtain ⟨u, hu, hso, ht⟩ := soOf_evalBlock f j applied s hj
  have hst : ∀ st v, (((soSet f j st v).block f).soOf j).st = st := fun st v => by simp [soSet, Block.soOf]
  rw [ht]
  simp only [soEval, hu.soEnabled, hen, hu.soDemand, hd]
  split
  · next hi =>
    split
    · rw [hst]; rfl
    · rw [hi]; rfl
  · split
    · next h => simp at h
    · split
      · next hoff => rw [soOffRows_of_noDemand (hu.soDemand j ▸ hd), hoff]; rfl
      · simp [hst, SoState.isOn]
      · simp [hst, SoState.isOn]
      · next h => rw [h]; rfl
      · next h => rw [h]; rfl
      · next h => rw [h]; rfl
      · next h => rw [h]; rfl

/-- A switch of a block in under-voltage does not conduct once it has followed its demand (R423). -/
theorem conducts_lsEval {f i : Nat} {s : State} (h : (s.block f).uv = true) : (((lsEval f i s).block f).lsOf i).st.conducts = false := by
  have hset : ∀ g v, ((setLs f i g v).block f).lsOf i = g ((v.block f).lsOf i) := fun g v => by simp [Block.lsOf]
  simp only [lsEval, lsOn, lsOff, h, Bool.not_true, Bool.and_false, Bool.false_eq_true, if_false, if_true]
  split
  · next hst => rw [hst]; rfl
  · next hst =>
    split
    · rw [hst]; rfl
    · rw [hset]; rfl
  · next hst =>
    split
    · rw [hst]; rfl
    · rw [hset]; rw [hst]; rfl
  · next hst =>
    split
    · rw [hset]; rfl
    · rw [hst]; rfl
  · split
    · rw [hset]; rfl
    · rw [hset]; rfl

/-- No switch of a block in under-voltage conducts once the block has followed its demands (R423). -/
theorem conducts_evalBlock {f i : Nat} {applied : Bool} {s : State} (hi : i < 8) (h : (s.block f).uv = true) :
    (((evalBlock f applied s).block f).lsOf i).st.conducts = false := by
  have hpairs := Settles.foldl (fun u j => settles_soEval f j applied u) (List.range 4) s
  obtain ⟨u, hu, -, -, hev⟩ := foldl_range_at (op := fun s i => lsEval f i s) (fun i (u : State) => (u.block f).lsOf i) (Settles f) (.refl f)
    (fun _ _ _ => .trans) (fun u i => settles_lsEval f i u) (fun u i k hk => ls_lsEval_other f i k hk u) i 8
    ((List.range 4).foldl (fun s j => soEval f j applied s) s) hi
  have hlow : ((evalBlock f applied s).block f).lsOf i
      = ((lsEvalAll f ((List.range 4).foldl (fun s j => soEval f j applied s) s)).block f).lsOf i := by
    refine foldl_keeps (fun u : State => (u.block f).lsOf i) (fun u c => ?_) _ _
    dsimp only
    split
    · simp [Block.lsOf]
    · split <;> simp [Block.lsOf]
  rw [hlow, lsEvalAll, hev]
  exact conducts_lsEval (by rw [hu.uv, hpairs.uv, h])

/-! ### Resets of a field block (R413) -/

theorem told_raise (n : Nat) (s : State) : (n, s.now) ∈ (raise n s).svc.toggles := List.mem_append_right _ (List.mem_singleton.mpr rfl)

theorem look_map_fixed {α : Type} {d : α} {f : α → α} (hd : f d = d) (k : Nat) (l : Tab α) :
    look d k (l.map (fun p => (p.1, f p.2))) = f (look d k l) := by
  induction l with
  | nil => exact hd.symm
  | cons p l ih =>
    rw [List.map_cons, look_cons, look_cons, ih]
    split <;> rfl

/-- A DIO after a reset of its block: its lines, and what it has recorded. -/
def Dio.afterReset (d : Dio) : Dio := { raw := d.raw, level := d.level, recorded := d.recorded }

/-- A block as its reset begins. -/
def Block.atReset (b : Block) (now : Nat) : Block := { b with
  dio := b.dio.map (fun p => (p.1, p.2.afterReset))
  pairs := [], ls := [], so := [], wfe := b.wfe.map (fun p => (p.1, { p.2 with samples := [] }))
  dDio := 0, dLs := 0, dSo := 0, cmds := [], words := none, carried := [], resetAt := some now, link := 1 }

theorem beginFieldReset_spec (f : Nat) (s : State) :
    let t := beginFieldReset f s
    Around f s t ∧ (t.block f).fixed = ((s.block f).atReset s.now).fixed ∧ (144 + f, s.now) ∈ t.svc.toggles
      ∧ (∀ c, ((t.block f).dioOf c).fixed = ((s.block f).dioOf c).afterReset.fixed) ∧ ∀ j < 4, ((t.block f).soOf j).st = .interlock := by
  intro t
  let s1 := setBlock f (fun b => b.atReset s.now) (headsNotReady f s)
  let s2 := raise (144 + f) (blkRecord f 0x4004 [] s1)
  have hn := inFbk_headsNotReady f s
  have ht : t = evalBlock f false s2 := by
    simp only [t, beginFieldReset, s2, s1]
    rfl
  have hb1 : s1.block f = (s.block f).atReset s.now := by simp only [s1, block_setBlock, hn.block, if_true]
  have h2 : Settles f s1 s2 := (settles_blkRecord f rfl [] s1).trans (settles_raise f _ _)
  have h3 := settles_evalBlock f false s2
  have hso : ∀ j, ((s2.block f).soOf j).st = .interlock := fun j => by simp [s2, hb1, Block.atReset, Block.soOf]
  rw [ht]
  refine ⟨((hn.around f).trans (inside_setBlock f _ _).around).trans (h2.trans h3).around, ?_, ?_, fun c => ?_, fun j hj => ?_⟩
  · rw [(h2.trans h3).fixed, hb1]
  · refine h3.inside.told ?_
    have hnow : (blkRecord f 0x4004 [] s1).now = s.now :=
      (inside_blkRecord f rfl [] s1).now.trans ((inside_setBlock f _ (headsNotReady f s)).now.trans hn.now)
    exact hnow ▸ told_raise (144 + f) (blkRecord f 0x4004 [] s1)
  · rw [(h2.trans h3).dio c, hb1]
    exact congrArg Dio.fixed (look_map_fixed rfl c _)
  · rw [interlock_evalBlock hj (hso j)]
    exact hso j

theorem applyFieldReset_spec {f : Nat} (cause : Nat) {s : State} (hf : s.fldFitted f = true) (hi : (s.block f).isolated = false) :
    let t := applyFieldReset f cause s
    Around f s t ∧ (t.block f).fixed = ((s.block f).atReset s.now).fixed ∧ (144 + f, s.now) ∈ t.svc.toggles
      ∧ (∀ c, ((t.block f).dioOf c).fixed = ((s.block f).dioOf c).afterReset.fixed) ∧ ∀ j < 4, ((t.block f).soOf j).st = .interlock := by
  intro t
  obtain ⟨h1, h2, h3⟩ := around_record f (code := 0x9030) (by decide) [(s.draw 32).1.toNat, cause] (s.draw 32).2
  have h0 := (inside_draw f 32 s).around.trans h1
  have hb : (record 0x9030 [(s.draw 32).1.toNat, cause] (s.draw 32).2).block f = s.block f := by simp
  obtain ⟨k1, k2, k3, k4, k5⟩ := beginFieldReset_spec f (record 0x9030 [(s.draw 32).1.toNat, cause] (s.draw 32).2)
  have ht : t = beginFieldReset f (record 0x9030 [(s.draw 32).1.toNat, cause] (s.draw 32).2) := if_pos ⟨hf, hi⟩
  rw [hb, h0.now] at k2
  rw [h0.now] at k3
  rw [hb] at k4
  rw [ht]
  exact ⟨h0.trans k1, k2, k3, k4, k5⟩

/-- The mode in which the lock-keeper resets a block of its own accord, and the block is in no reset (R32, R413). -/
def mayReset (f : Nat) (s : State) : Prop :=
  (s.keep.mode = .commission ∨ s.keep.mode = .run ∨ s.keep.mode = .degraded) ∧ (s.block f).resetAt = none ∧ (s.block f).isolated = false

/-- What the lock-keeper makes of a block that asks for its reset: the reset begins, or nothing happens. -/
theorem askFieldReset_spec {f : Nat} (cause : Nat) (s : State) :
    (mayReset f s → askFieldReset f cause s = applyFieldReset f cause s) ∧ (¬ mayReset f s → askFieldReset f cause s = s) := by
  unfold askFieldReset mayReset
  constructor
  · rintro ⟨h1, h2, -⟩
    rw [if_pos ⟨h1, h2⟩]
  · intro h
    split
    · next h' => exact if_neg (fun hn => h ⟨h'.1, h'.2, hn.2⟩)
    · rfl

end Sys2Proof.Machine
end

section
/-!
PROOFS. The frames of a field link, silence, the serial watchdog, the trip line, resets and under-voltage of a field block (O36).
-/
namespace Sys2Proof.Machine

/-! ### Front-ends and snapshots in an inbound frame (R403, R433, R434) -/

/-- In block `f` nothing but front-ends and the last code differs. -/
structure Samples (f : Nat) (s t : State) : Prop where
  inside : Inside f s t
  kept : ∃ w c, t.block f = { s.block f with wfe := w, lastCode := c }

theorem Samples.refl (f : Nat) (s : State) : Samples f s s := ⟨.refl f s, _, _, rfl⟩

theorem Samples.trans {f : Nat} {s t u : State} (h : Samples f s t) (k : Samples f t u) : Samples f s u := by
  obtain ⟨w, c, hb⟩ := h.kept
  obtain ⟨w', c', kb⟩ := k.kept
  exact ⟨h.inside.trans k.inside, w', c', by rw [kb, hb]⟩

theorem Samples.ite {f : Nat} {s t u : State} {p : Prop} [Decidable p] (h : Samples f s t) (k : Samples f s u) : Samples f s (if p then t else u) := by
  split
  · exact h
  · exact k

theorem Samples.foldl {α : Type} {f : Nat} {op : State → α → State} (h : ∀ u i, Samples f u (op u i)) (l : List α) (s : State) :
    Samples f s (l.foldl op s) := by
  induction l generalizing s with
  | nil => exact .refl f s
  | cons i l ih => exact (h s i).trans (ih _)

theorem samples_setWfe (f : Nat) (g : Block → Tab FrontEnd) (s : State) : Samples f s (setBlock f (fun b => { b with wfe := g b }) s) :=
  ⟨inside_setBlock f _ s, g (s.block f), (s.block f).lastCode, by simp⟩

theorem samples_draw (f w : Nat) (s : State) : Samples f s (s.draw w).2 := ⟨inside_draw f w s, _, _, rfl⟩

theorem samples_tell (f n : Nat) {code : Nat} (hc : code / 0x1000 = 4) (args : List Nat) (s : State) :
    Samples f s (raise n (blkRecord f code args s)) :=
  ⟨(inside_blkRecord f hc args s).trans (inside_raise f n _), (s.block f).wfe, code, by simp⟩

theorem samples_belowBand (f lo hi x : Nat) (s : State) : Samples f s (belowBand lo hi x s).2 := by
  unfold belowBand
  split
  · exact .refl f s
  · split
    · exact .refl f s
    · exact samples_draw f 1 s

theorem samples_classify (f : Nat) (occupied : Bool) (ua : Nat) (s : State) : Samples f s (classify occupied ua s).2 := by
  have h1 := samples_belowBand f 2_500 3_500 ua s
  simp only [classify]
  split
  · exact h1
  · split
    · exact h1.trans (samples_belowBand f _ _ _ _)
    · have h2 := h1.trans (samples_belowBand f 20_000 24_000 ua _)
      cases occupied
      · exact h2.trans (samples_belowBand f 9_700 10_700 ua _)
      · exact h2.trans (samples_belowBand f 9_200 10_200 ua _)

theorem samples_reportSystem (f j : Nat) (sysB : Bool) (report cause : Nat) (s : State) : Samples f s (reportSystem f j sysB report cause s) := by
  simp only [reportSystem]
  exact (samples_setWfe f _ s).trans (.ite (samples_tell f _ rfl _ _) (.ite (samples_tell f _ rfl _ _) (.refl f _)))

theorem samples_sampleSystem (f j : Nat) (sysB : Bool) (ua : Nat) (s : State) : Samples f s (sampleSystem f j sysB ua s) := by
  have h := fun r c u => samples_reportSystem f j sysB r c u
  simp only [sampleSystem]
  exact (samples_setWfe f _ s).trans (.ite (h _ _ _) (.ite (h _ _ _) (.ite (h _ _ _) ((samples_classify f _ _ _).trans (h _ _ _)))))

theorem samples_sampleFrontEnds (f : Nat) (loops : List (Nat × Nat)) (s : State) : Samples f s (sampleFrontEnds f loops s) := by
  refine .foldl (fun u j => ?_) _ s
  have h := (samples_sampleSystem f j false (loops.getD j (0, 0)).1 u).trans (samples_sampleSystem f j true (loops.getD j (0, 0)).2 _)
  exact .ite (h.trans (samples_setWfe f _ _)) h

/-- Nothing but block `f`, the feedback region, the snapshot, the lock-keeper's last code, the journal, the draws and the events raised differs. -/
structure AroundSnap (f : Nat) (s t : State) : Prop where
  rest : t = { s with
    jnl := t.jnl, svc := { s.svc with toggles := t.svc.toggles }, free := t.free, fbk := t.fbk, snap := t.snap
    fld := { s.fld with blocks := t.fld.blocks }, keep := { s.keep with lastCode := t.keep.lastCode } }
  others : ∀ g, g ≠ f → t.block g = s.block g

theorem AroundSnap.trans {f : Nat} {s t u : State} (h : AroundSnap f s t) (k : AroundSnap f t u) : AroundSnap f s u :=
  ⟨by rw [k.rest, h.rest], fun g hg => (k.others g hg).trans (h.others g hg)⟩

theorem Around.snap {f : Nat} {s t : State} (h : Around f s t) : AroundSnap f s t := ⟨by rw [h.rest], h.others⟩

theorem AroundSnap.frame {f : Nat} {s t : State} (h : AroundSnap f s t) :
    t = { s.noted t with fld := t.fld, fbk := t.fbk, snap := t.snap, keep := { s.keep with lastCode := t.keep.lastCode } } := by
  rw [h.rest]
  rfl

theorem AroundSnap.now {f : Nat} {s t : State} (h : AroundSnap f s t) : t.now = s.now := by rw [h.rest]; rfl
theorem AroundSnap.fitted {f : Nat} {s t : State} (h : AroundSnap f s t) (g : Nat) : t.fldFitted g = s.fldFitted g := by rw [h.rest]; rfl

theorem around_logWords (f n : Nat) (ws : List (Nat × Word)) (s : State) : Around f s (logWords n ws s) ∧ (logWords n ws s).fld = s.fld := by
  induction n generalizing ws s with
  | zero => exact ⟨.refl f s, rfl⟩
  | succ n ih =>
    have h : ∀ extra, Around f s (recordB 0x9120 extra s) ∧ (recordB 0x9120 extra s).fld = s.fld := by
      intro extra
      obtain ⟨j, hj⟩ := jnlOnly_recordC 0x9120 0 1 extra s
      have ht : recordB 0x9120 extra s = { s with keep := { s.keep with lastCode := 0x9120 }, jnl := j } := hj
      rw [ht]
      exact ⟨⟨rfl, fun _ _ => rfl, List.prefix_rfl⟩, rfl⟩
    unfold logWords
    split
    · exact h _
    · obtain ⟨h1, h2⟩ := ih (ws.drop snapRecWords) (recordB 0x9120 (le 4 s.snap.number.toNat ++ (ws.take snapRecWords).flatMap (fun p => le 4 p.1 ++ le 4 p.2.toNat)) s)
      exact ⟨(h _).1.trans h1, h2.trans (h _).2⟩

theorem deliverSnapshot_spec (f : Nat) (s : State) : AroundSnap f s (deliverSnapshot f s) ∧ (deliverSnapshot f s).fld = s.fld := by
  have h1 : ∀ sn, AroundSnap f s { s with snap := sn } := fun _ => ⟨rfl, fun _ _ => rfl⟩
  simp only [deliverSnapshot]
  split
  · split
    · obtain ⟨k1, k2⟩ := around_logWords f ((s.snap.fieldWords.filter (fun p => decide (0x4000 + 0x40 * f ≤ p.1 ∧ p.1 < 0x4040 + 0x40 * f))).length / snapRecWords + 1)
        (s.snap.fieldWords.filter (fun p => decide (0x4000 + 0x40 * f ≤ p.1 ∧ p.1 < 0x4040 + 0x40 * f))) _
      exact ⟨(h1 _).trans k1.snap, k2⟩
    · exact ⟨h1 _, rfl⟩
  · exact ⟨(Around.refl f s).snap, rfl⟩

/-! ### Outbound frames (R83, R402, R405) -/

/-- Block `f` after a good outbound frame that ends now, with `rest` of its commands still to carry. -/
def Block.afterFrame (b : Block) (f : Nat) (carried rest : List Post) (s : State) : Block := { b with
  outSeq := b.outSeq + 1, outAcc := b.outSeq + 1, lastOut := s.now
  modeForce := s.keep.mode == .hold || s.keep.mode == .stabled
  fsDio := failsafeDio f s, fsLs := failsafeLs f s, cmds := rest, carried := b.carried ++ carried }

/-- What every good frame leaves in its block. -/
structure FrameHeld (f : Nat) (s : State) (B : Block) : Prop where
  lastOut : B.lastOut = s.now
  outSeq : B.outSeq = (s.block f).outSeq + 1
  fsDio : B.fsDio = failsafeDio f s
  fsLs : B.fsLs = failsafeLs f s
  modeForce : B.modeForce = (s.keep.mode == .hold || s.keep.mode == .stabled)

/-- Demands and released words of a block. -/
def SameDemand (b B : Block) : Prop := B.dDio = b.dDio ∧ B.dLs = b.dLs ∧ B.dSo = b.dSo ∧ B.words = b.words

theorem FrameHeld.steady {f : Nat} {s t u : State} (h : FrameHeld f s (t.block f)) (k : Steady f t u) : FrameHeld f s (u.block f) :=
  ⟨k.lastOut.trans h.lastOut, k.outSeq.trans h.outSeq, k.fsDio.trans h.fsDio, k.fsLs.trans h.fsLs, k.modeForce.trans h.modeForce⟩

/-- The end of a good frame of block `f`: what it does beyond its arrival. -/
def outboundGood (f : Nat) (s : State) : State :=
  let b := s.block f
  let carries := decide (b.handedAt + 25_000 < s.now)
  let now := if carries then b.cmds.take 16 else []
  let rest := if carries then b.cmds.drop 16 else b.cmds
  let s2 := evalBlock f false (setBlock f (fun b => b.afterFrame f now rest s) s)
  if rest ≠ [] ∨ carries = false then s2
  else match b.words with
    | none => s2
    | some w =>
      let s4 := (s2.block f).carried.foldl (fun s q => fieldCommand f w.2.2 q s) (setBlock f (fun b => { b with carried := [], words := none }) s2)
      if (s4.block f).resetAt.isSome || (s4.block f).isolated then s4 else applyWords f w s4

theorem fldFitted_advance (f ns : Nat) (s : State) : (advance ns s).fldFitted f = s.fldFitted f := by
  rw [State.fldFitted, State.blocksFitted, advance_fused]
  rfl

theorem exec_outbound {f : Fin 4} {ns : Nat} {s : State} (hf : s.fldFitted f = true) :
    exec (.fieldLinkOutboundFrame f ns false) s = .next (outboundGood f (advance (frameEnd ns s) s)) := by
  change execFieldLinkOutboundFrame f ns false s = _
  simp only [execFieldLinkOutboundFrame, fldFitted_advance, hf, outboundGood, Bool.not_true, Bool.false_eq_true, if_false]
  cases ((advance (frameEnd ns s) s).block f).words with
  | none => exact (apply_ite Host.Outcome.next _ _ _).symm
  | some w => exact (apply_ite Host.Outcome.next _ _ _).symm

/-- The release of a frame that carries the last of its commands. -/
def takeRelease (f : Nat) (w : Word × Word × Word) (s : State) : State :=
  let s4 := (s.block f).carried.foldl (fun s q => fieldCommand f w.2.2 q s) (setBlock f (fun b => { b with carried := [], words := none }) s)
  if (s4.block f).resetAt.isSome || (s4.block f).isolated then s4 else applyWords f w s4

theorem outboundGood_cases (f : Nat) (s : State) :
    let b := s.block f
    let carries := b.handedAt + 25_000 < s.now
    ∃ rest u, rest = (if carries then b.cmds.drop 16 else b.cmds) ∧ Inside f s u ∧ FrameHeld f s (u.block f) ∧ (u.block f).cmds = rest
      ∧ SameDemand b (u.block f) ∧ (u.block f).resetAt = b.resetAt ∧ (u.block f).isolated = b.isolated
      ∧ (rest ≠ [] ∨ ¬ carries ∨ b.words = none → outboundGood f s = u)
      ∧ ∀ w, rest = [] → carries → b.words = some w → outboundGood f s = takeRelease f w u := by
  intro b carries
  let now := if decide carries then b.cmds.take 16 else []
  let rest := if decide carries then b.cmds.drop 16 else b.cmds
  let s1 := setBlock f (fun b => b.afterFrame f now rest s) s
  have h1 : s1.block f = b.afterFrame f now rest s := by simp [s1, b]
  have h2 := settles_evalBlock f false s1
  have hg : outboundGood f s = if rest ≠ [] ∨ decide carries = false then evalBlock f false s1 else match b.words with
    | none => evalBlock f false s1
    | some w => takeRelease f w (evalBlock f false s1) := rfl
  refine ⟨rest, evalBlock f false s1, by simp only [rest, decide_eq_true_eq], (inside_setBlock f _ s).trans h2.inside, ?_, ?_, ?_, ?_, ?_, ?_, ?_⟩
  · exact FrameHeld.steady ⟨by rw [h1]; rfl, by rw [h1]; rfl, by rw [h1]; rfl, by rw [h1]; rfl, by rw [h1]; rfl⟩ h2.toSteady
  · rw [h2.cmds, h1]; rfl
  · exact ⟨by rw [h2.dDio, h1]; rfl, by rw [h2.dLs, h1]; rfl, by rw [h2.dSo, h1]; rfl, by rw [h2.words, h1]; rfl⟩
  · rw [h2.resetAt, h1]; rfl
  · rw [h2.isolated, h1]; rfl
  · intro h
    rw [hg]
    split
    · rfl
    · next hn =>
      have hw : b.words = none := (h.resolve_left (fun h' => hn (.inl h'))).resolve_left (fun h' => hn (.inr (decide_eq_false h')))
      rw [hw]
  · intro w hr hc hw
    rw [hg, if_neg (by simp [hr, hc]), hw]

/-- A release that takes effect: its commands, then its words, unless the block is in reset or isolated. -/
theorem takeRelease_spec (f : Nat) (w : Word × Word × Word) (s : State) :
    let B := (takeRelease f w s).block f
    Inside f s (takeRelease f w s) ∧ (∀ v, FrameHeld f v (s.block f) → FrameHeld f v B) ∧ B.cmds = (s.block f).cmds ∧ B.words = none
      ∧ ((s.block f).resetAt = none → (s.block f).isolated = false → B.dDio = w.1 ∧ B.dLs = w.2.1 ∧ B.dSo = w.2.2) := by
  let s3 := setBlock f (fun b => { b with carried := [], words := none }) s
  let s4 := (s.block f).carried.foldl (fun s q => fieldCommand f w.2.2 q s) s3
  have h3 : s3.block f = { s.block f with carried := [], words := none } := by simp [s3]
  have h4 : Steady f s3 s4 := .foldl (fun u q => steady_fieldCommand f w.2.2 q u) _ _
  have hi := (inside_setBlock f (fun b => { b with carried := [], words := none }) s).trans h4.inside
  have hheld : ∀ v, FrameHeld f v (s.block f) → FrameHeld f v (s4.block f) := fun v h =>
    FrameHeld.steady (t := s3) (by rw [h3]; exact ⟨h.lastOut, h.outSeq, h.fsDio, h.fsLs, h.modeForce⟩) h4
  have hcmds : (s4.block f).cmds = (s.block f).cmds := by rw [h4.cmds, h3]
  have hwords : (s4.block f).words = none := by rw [h4.words, h3]
  have hg : takeRelease f w s = if (s4.block f).resetAt.isSome || (s4.block f).isolated then s4 else applyWords f w s4 := rfl
  simp only [hg]
  split
  · next h =>
    refine ⟨hi, hheld, hcmds, hwords, fun hr hb => absurd h ?_⟩
    rw [h4.resetAt, h4.isolated, h3]
    simp [hr, hb]
  · let s5 := setBlock f (fun b => { b with dDio := w.1, dLs := w.2.1, dSo := w.2.2 }) s4
    have h5 : s5.block f = { s4.block f with dDio := w.1, dLs := w.2.1, dSo := w.2.2 } := by simp [s5]
    have h6 := settles_evalBlock f true s5
    refine ⟨hi.trans ((inside_setBlock f _ s4).trans h6.inside), fun v h => FrameHeld.steady (t := s5) ?_ h6.toSteady, ?_, ?_, fun _ _ => ⟨?_, ?_, ?_⟩⟩
    · obtain ⟨k1, k2, k3, k4, k5⟩ := hheld v h
      rw [h5]
      exact ⟨k1, k2, k3, k4, k5⟩
    · exact h6.cmds.trans (by rw [h5]; exact hcmds)
    · exact h6.words.trans (by rw [h5]; exact hwords)
    · exact h6.dDio.trans (by rw [h5])
    · exact h6.dLs.trans (by rw [h5])
    · exact h6.dSo.trans (by rw [h5])

theorem outboundGood_spec (f : Nat) (s : State) :
    let t := outboundGood f s
    let b := s.block f
    let carries := b.handedAt + 25_000 < s.now
    Inside f s t ∧ FrameHeld f s (t.block f)
      ∧ (carries → (t.block f).cmds = b.cmds.drop 16) ∧ (¬ carries → (t.block f).cmds = b.cmds)
      ∧ (carries → b.cmds.length ≤ 16 → ∀ w, b.words = some w → b.resetAt = none → b.isolated = false →
          (t.block f).dDio = w.1 ∧ (t.block f).dLs = w.2.1 ∧ (t.block f).dSo = w.2.2 ∧ (t.block f).words = none)
      ∧ (¬ carries ∨ 16 < b.cmds.length ∨ b.words = none → SameDemand b (t.block f)) := by
  intro t b carries
  obtain ⟨rest, u, hrest, hin, hheld, hcmds, hdem, hreset, hiso, hplain, htake⟩ := outboundGood_cases f s
  have hrest1 : carries → rest = b.cmds.drop 16 := fun h => hrest.trans (if_pos h)
  have hrest2 : ¬ carries → rest = b.cmds := fun h => hrest.trans (if_neg h)
  by_cases h : rest ≠ [] ∨ ¬ carries ∨ b.words = none
  · have ht : t = u := hplain h
    rw [ht]
    refine ⟨hin, hheld, fun hc => hcmds.trans (hrest1 hc), fun hc => hcmds.trans (hrest2 hc), fun hc hl w hw _ _ => ?_, fun _ => hdem⟩
    have hr : rest = [] := (hrest1 hc).trans (List.drop_eq_nil_of_le hl)
    obtain h | h | h := h
    · exact absurd hr h
    · exact absurd hc h
    · rw [hw] at h; exact absurd h (Option.some_ne_none w)
  · obtain ⟨hr, hc, hw⟩ : rest = [] ∧ carries ∧ b.words ≠ none := by
      refine ⟨by_contra fun hr => h (.inl hr), by_contra fun hc => h (.inr (.inl hc)), fun hw => h (.inr (.inr hw))⟩
    obtain ⟨w, hw'⟩ := Option.ne_none_iff_exists'.mp hw
    have ht : t = takeRelease f w u := htake w hr hc hw'
    obtain ⟨k1, k2, k3, k4, k5⟩ := takeRelease_spec f w u
    rw [ht]
    refine ⟨hin.trans k1, k2 s hheld, fun _ => k3.trans (hcmds.trans (hrest1 hc)), fun h' => absurd hc h', fun _ _ w' hw2 hre hi => ?_, fun h' => ?_⟩
    · obtain rfl : w = w' := Option.some_inj.mp (hw'.symm.trans hw2)
      obtain ⟨d1, d2, d3⟩ := k5 (hreset.trans hre) (hiso.trans hi)
      exact ⟨d1, d2, d3, k4⟩
    · obtain h' | h' | h' := h'
      · exact absurd hc h'
      · have : b.cmds.drop 16 = [] := (hrest1 hc).symm.trans hr
        rw [List.drop_eq_nil_iff] at this
        omega
      · exact absurd h' hw

end Sys2Proof.Machine
end

section
/-!
PROOFS. Inbound frames, silence, faults and resets of a field block (O36).
-/
namespace Sys2Proof.Machine

/-! ### A block asks for its reset (R406, R407, R413) -/

/-- What a block keeps of its link and its inputs through the beginning of a reset. -/
structure LinkKept (b B : Block) : Prop where
  inSeq : B.inSeq = b.inSeq
  vfield : B.vfield = b.vfield
  temp : B.temp = b.temp
  errIn : B.errIn = b.errIn
  lastIn : B.lastIn = b.lastIn
  silent : B.silent = b.silent
  frame : B.frame = b.frame
  fclk : B.fclk = b.fclk

theorem linkKept_of_fixed {b B : Block} (h : B.fixed = b.fixed) : LinkKept b B :=
  ⟨by simpa [Block.fixed] using congrArg Block.inSeq h, by simpa [Block.fixed] using congrArg Block.vfield h,
    by simpa [Block.fixed] using congrArg Block.temp h, by simpa [Block.fixed] using congrArg Block.errIn h,
    by simpa [Block.fixed] using congrArg Block.lastIn h, by simpa [Block.fixed] using congrArg Block.silent h,
    by simpa [Block.fixed] using congrArg Block.frame h, by simpa [Block.fixed] using congrArg Block.fclk h⟩

theorem linkKept_of_reset {b B : Block} {n : Nat} (h : B.fixed = (b.atReset n).fixed) : LinkKept b B :=
  ⟨(linkKept_of_fixed h).inSeq, (linkKept_of_fixed h).vfield, (linkKept_of_fixed h).temp, (linkKept_of_fixed h).errIn, (linkKept_of_fixed h).lastIn,
    (linkKept_of_fixed h).silent, (linkKept_of_fixed h).frame, (linkKept_of_fixed h).fclk⟩

/-- A block that asks for its reset is reset, or stays as it is. -/
theorem askFieldReset_asks {f : Nat} (cause : Nat) {s : State} (hf : s.fldFitted f = true) :
    let t := askFieldReset f cause s
    Around f s t ∧ LinkKept (s.block f) (t.block f)
      ∧ (mayReset f s → (t.block f).resetAt = some s.now ∧ (t.block f).link = 1)
      ∧ (¬ mayReset f s → (t.block f).resetAt = (s.block f).resetAt ∧ (t.block f).link = (s.block f).link) := by
  intro t
  by_cases h : mayReset f s
  · obtain ⟨k1, k2, -⟩ := applyFieldReset_spec cause hf h.2.2
    rw [← (askFieldReset_spec cause s).1 h] at k1 k2
    exact ⟨k1, linkKept_of_reset k2, fun _ => ⟨by simpa [Block.fixed, Block.atReset] using congrArg Block.resetAt k2,
      by simpa [Block.fixed, Block.atReset] using congrArg Block.link k2⟩, fun hn => absurd h hn⟩
  · have ht : t = s := (askFieldReset_spec cause s).2 h
    rw [ht]
    exact ⟨.refl f s, linkKept_of_fixed rfl, fun h' => absurd h' h, fun _ => ⟨rfl, rfl⟩⟩

theorem mayReset_congr {f : Nat} {s t : State} (hm : t.keep.mode = s.keep.mode) (hr : (t.block f).resetAt = (s.block f).resetAt)
    (hi : (t.block f).isolated = (s.block f).isolated) : mayReset f t ↔ mayReset f s := by
  simp only [mayReset, hm, hr, hi]

/-! ### Inbound frames (R403, R406, R434) -/

/-- What an inbound frame brings into its block before its samples are evaluated. -/
def measured (f vf : Nat) (temp : BitVec 16) (ls : List Nat) (hot : Word) (s : State) : State :=
  setBlock f (fun b => { b with
    vfield := vf, temp := temp.toInt, inSeq := b.inSeq + 1
    ls := (List.range 8).foldl (fun t i => upd {} i (fun l => { l with current := ls.getD i 0 }) t) b.ls
    dio := (List.range 24).foldl (fun t c => upd {} c (fun d => { d with hot := hot.getLsbD c }) t) b.dio }) s

theorem flushLinkErrors_spec (f : Nat) (s : State) : Inside f s (flushLinkErrors f s)
    ∧ ∃ n k, (flushLinkErrors f s).block f = { s.block f with errCycle := n, lastCode := k } := by
  simp only [flushLinkErrors]
  split
  · exact ⟨.refl f s, _, _, rfl⟩
  · obtain ⟨j, hj⟩ := jnlOnly_recordC 0x4001 (if (s.block f).errCycle = 1 then 0 else 2) (s.block f).errCycle
      (le 4 f ++ le 4 (s.block f).errCycle) (setBlock f (fun b => { b with errCycle := 0, lastCode := 0x4001 }) s)
    rw [hj]
    refine ⟨(inside_setBlock f _ s).trans ⟨rfl, fun _ _ => rfl, List.prefix_rfl⟩, 0, 0x4001, ?_⟩
    exact (block_setBlock f f _ s).trans (if_pos rfl)

/-- A frame that fails its check is counted; the block keeps the last good one. -/
theorem inbound_bad {f : Fin 4} {ns vf : Nat} {temp : BitVec 16} {ls : List Nat} {loops : List (Nat × Nat)} {hot : Word} {s : State}
    (hf : s.fldFitted f = true) :
    ∃ t, exec (.fieldLinkInboundFrame f ns true vf temp ls loops hot) s = .next t ∧ Inside f (advance ns s) t
      ∧ (t.block f).inSeq = (s.block f).inSeq + 1 ∧ (t.block f).vfield = vf ∧ (t.block f).temp = temp.toInt
      ∧ (t.block f).errIn = min 0xFFFF ((s.block f).errIn + 1) ∧ (t.block f).lastIn = (s.block f).lastIn ∧ (t.block f).frame = (s.block f).frame := by
  let u := advance ns s
  let s2 := sampleFrontEnds f loops (measured f vf temp ls hot u)
  let s3 := setBlock f (fun b => { b with errIn := sat 0xFFFF (b.errIn + 1), errCycle := b.errCycle + 1, discarded := b.discarded + 1 }) s2
  have he : exec (.fieldLinkInboundFrame f ns true vf temp ls loops hot) s = .next (if gathers u then s3 else flushLinkErrors f s3) := by
    change execFieldLinkInboundFrame f ns true vf temp ls loops hot s = _
    simp only [execFieldLinkInboundFrame, fldFitted_advance, hf]
    rfl
  obtain ⟨h2, w, c, hb2⟩ := samples_sampleFrontEnds f loops (measured f vf temp ls hot u)
  have hb1 : (measured f vf temp ls hot u).block f = _ := (block_setBlock f f _ u).trans (if_pos rfl)
  have hb3 : s3.block f = _ := (block_setBlock f f _ s2).trans (if_pos rfl)
  have h3 : Inside f u s3 := ((inside_setBlock f _ u).trans h2).trans (inside_setBlock f _ s2)
  obtain ⟨h4, n, k, hb4⟩ := flushLinkErrors_spec f s3
  have hend : Inside f u (if gathers u then s3 else flushLinkErrors f s3)
      ∧ ∃ n k, (if gathers u then s3 else flushLinkErrors f s3).block f = { s3.block f with errCycle := n, lastCode := k } := by
    split
    · exact ⟨h3, _, _, rfl⟩
    · exact ⟨h3.trans h4, n, k, hb4⟩
  obtain ⟨h5, n', k', hb5⟩ := hend
  have hu : u.block f = s.block f := block_advance f ns s
  refine ⟨_, he, h5, ?_⟩
  rw [hb5, hb3, hb2, hb1, hu]
  exact ⟨rfl, rfl, rfl, rfl, rfl, rfl⟩

/-- A good frame is the block's last one, at its stamp; its samples and the words of a snapshot are delivered; a block that has forced its
fail-safe states asks for its reset. -/
theorem inbound_good {f : Fin 4} {ns vf : Nat} {temp : BitVec 16} {ls : List Nat} {loops : List (Nat × Nat)} {hot : Word} {s : State}
    (hf : s.fldFitted f = true) :
    ∃ t, exec (.fieldLinkInboundFrame f ns false vf temp ls loops hot) s = .next t ∧ AroundSnap f (advance ns s) t
      ∧ (t.block f).inSeq = (s.block f).inSeq + 1 ∧ (t.block f).vfield = vf ∧ (t.block f).temp = temp.toInt
      ∧ (t.block f).errIn = (s.block f).errIn ∧ (t.block f).lastIn = (advance ns s).now ∧ (t.block f).silent = false
      ∧ (t.block f).frame.map InFrame.stamp = some ((advance ns s).now - 26_000) := by
  let u := advance ns s
  let s2 := sampleFrontEnds f loops (measured f vf temp ls hot u)
  let fr : InFrame := { words := blockWords f s2, stamp := u.now - 26_000, samples := (List.range 4).filterMap (fun j =>
    if cbit (fldReg f (0x500 + 4 * j)) 0 u then some (j, (look ({} : FrontEnd) j (s2.block f).wfe).samples) else none) }
  let s3 := setBlock f (fun b => { b with lastIn := u.now, inAcc := b.inSeq, silent := false, frame := some fr }) s2
  let s4 := deliverSnapshot f (if (u.block f).resetAt.isSome || (u.block f).isolated then s3 else deliverSamples f s3)
  let s5 := raise (148 + f) (blkRecord f 0x4002 [] (setBlock f (fun b => { b with reported := true }) s4))
  have he : exec (.fieldLinkInboundFrame f ns false vf temp ls loops hot) s
      = .next (if (s4.block f).forced && !(s4.block f).reported then askFieldReset f 0x4002 s5 else s4) := by
    change execFieldLinkInboundFrame f ns false vf temp ls loops hot s = _
    simp only [execFieldLinkInboundFrame, fldFitted_advance, hf]
    exact (apply_ite Host.Outcome.next _ _ _).symm
  obtain ⟨h2, w, c, hb2⟩ := samples_sampleFrontEnds f loops (measured f vf temp ls hot u)
  have hb1 : (measured f vf temp ls hot u).block f = _ := (block_setBlock f f _ u).trans (if_pos rfl)
  have hb3 : s3.block f = _ := (block_setBlock f f _ s2).trans (if_pos rfl)
  have h3 : Inside f u s3 := ((inside_setBlock f _ u).trans h2).trans (inside_setBlock f _ s2)
  have hd : InFbk s3 (if (u.block f).resetAt.isSome || (u.block f).isolated then s3 else deliverSamples f s3) :=
    .ite (.refl s3) (inFbk_deliverSamples f s3)
  obtain ⟨h4, h4f⟩ := deliverSnapshot_spec f (if (u.block f).resetAt.isSome || (u.block f).isolated then s3 else deliverSamples f s3)
  have hb4 : s4.block f = s3.block f := (congrArg (fun F : Machine.Field => look ({} : Block) f F.blocks) h4f).trans (hd.block f)
  have h4' : AroundSnap f u s4 := (h3.around.trans (hd.around f)).snap.trans h4
  have h5 : Inside f s4 s5 := (inside_setBlock f _ s4).trans ((inside_blkRecord f rfl _ _).trans (inside_raise f _ _))
  have hb5 : s5.block f = { s4.block f with reported := true, lastCode := 0x4002 } := by simp [s5]
  have hend : AroundSnap f u (if (s4.block f).forced && !(s4.block f).reported then askFieldReset f 0x4002 s5 else s4)
      ∧ LinkKept (s4.block f) ((if (s4.block f).forced && !(s4.block f).reported then askFieldReset f 0x4002 s5 else s4).block f) := by
    split
    · obtain ⟨k1, k2, -⟩ := askFieldReset_asks 0x4002 (s := s5) (f := f) (by rw [h5.fitted, h4'.fitted, fldFitted_advance]; exact hf)
      refine ⟨h4'.trans (h5.around.trans k1).snap, ?_⟩
      rw [hb5] at k2
      exact ⟨k2.inSeq, k2.vfield, k2.temp, k2.errIn, k2.lastIn, k2.silent, k2.frame, k2.fclk⟩
    · exact ⟨h4', linkKept_of_fixed rfl⟩
  obtain ⟨h6, k1, k2, k3, k4, k5, k6, k7, -⟩ := hend
  have hu : u.block f = s.block f := block_advance f ns s
  refine ⟨_, he, h6, ?_⟩
  rw [k1, k2, k3, k4, k5, k6, k7, hb4, hb3, hb2, hb1, hu]
  exact ⟨rfl, rfl, rfl, rfl, rfl, rfl, rfl⟩

/-! ### Silence and faults (R406, R407, R409, R410) -/

/-- Nothing outside the block changes: what a statement about one block says. -/
theorem Around.does {f : Nat} {s v t : State} (h : Around f v t) (hv : ∀ g, v.block g = s.block g) :
    (∀ g, g ≠ f → t.block g = s.block g)
      ∧ t = { v.noted t with fld := t.fld, fbk := t.fbk, keep := { v.keep with lastCode := t.keep.lastCode } } :=
  ⟨fun g hg => (h.others g hg).trans (hv g), h.frame⟩

theorem Around.told {f : Nat} {s t : State} (h : Around f s t) {x : Nat × Nat} (hx : x ∈ s.svc.toggles) : x ∈ t.svc.toggles := h.raised.subset hx

theorem fieldBlockSilent_due {f : Fin 4} {ns : Nat} {s : State} (hf : s.fldFitted f = true) (h1 : (s.block f).silent = false)
    (h2 : (s.block f).isolated = false) (h3 : 1_000_000 ≤ (advance ns s).now - (s.block f).lastIn) :
    ∃ t, exec (.fieldBlockSilent f ns) s = .next t ∧ Around f (advance ns s) t ∧ (t.block f).silent = true
      ∧ (mayReset f s → (t.block f).resetAt = some (advance ns s).now ∧ (t.block f).link = 1)
      ∧ (¬ mayReset f s → (t.block f).resetAt = (s.block f).resetAt ∧ (t.block f).link = 0)
      ∧ (144 + f.val, (advance ns s).now) ∈ t.svc.toggles := by
  let u := advance ns s
  let s2 := blkRecord f 0x4003 [] (setBlock f (fun b => { b with silent := true, link := 0 }) u)
  have hu : u.block f = s.block f := block_advance f ns s
  have hi2 : Inside f u s2 := (inside_setBlock f _ u).trans (inside_blkRecord f rfl _ _)
  have hb : (raise (144 + f.val) s2).block f = { s.block f with silent := true, link := 0, lastCode := 0x4003 } := by simp [s2, hu]
  obtain ⟨k1, k2, k3, k4⟩ := askFieldReset_asks 0x4003 (f := f) (s := raise (144 + f.val) s2)
    ((hi2.trans (inside_raise f _ _)).fitted f |>.trans (by rw [fldFitted_advance]; exact hf))
  have hm : mayReset f (raise (144 + f.val) s2) ↔ mayReset f s :=
    mayReset_congr ((congrArg Keeper.mode hi2.keep).trans (advance_keep_mode ns s)) (by rw [hb]) (by rw [hb])
  have hnow : (raise (144 + f.val) s2).now = u.now := hi2.now
  rw [hm, hnow] at k3
  rw [hm, hb] at k4
  rw [hb] at k2
  have hf' : u.fldFitted f = true := (fldFitted_advance f ns s).trans hf
  exact ⟨_, if_pos ⟨hf', by rw [hu]; exact h1, by rw [hu]; exact h2, by rw [hu]; exact h3⟩,
    (hi2.trans (inside_raise f _ _)).around.trans k1, k2.silent, k3, k4, k1.told (hi2.now ▸ told_raise _ s2)⟩

theorem fclkDeviation_spec {f : Fin 4} {s : State} (hf : s.fldFitted f = true) :
    ∃ t, exec (.fclkDeviation f) s = .next t ∧ Around f s t ∧ (t.block f).fclk = true
      ∧ (mayReset f s → (t.block f).resetAt = some s.now) ∧ (¬ mayReset f s → (t.block f).resetAt = (s.block f).resetAt) := by
  let s1 := blkRecord f 0x400A [] (setBlock f (fun b => { b with fclk := true }) s)
  have hi1 : Inside f s s1 := (inside_setBlock f _ s).trans (inside_blkRecord f rfl _ _)
  have hb1 : s1.block f = { s.block f with fclk := true, lastCode := 0x400A } := by simp [s1]
  have h2 := settles_evalBlock f false s1
  have hi2 := hi1.trans h2.inside
  obtain ⟨k1, k2, k3, k4⟩ := askFieldReset_asks 0x400A (f := f) (s := evalBlock f false s1) ((hi2.fitted f).trans hf)
  have hm : mayReset f (evalBlock f false s1) ↔ mayReset f s :=
    mayReset_congr (congrArg Keeper.mode hi2.keep) (by rw [h2.resetAt, hb1]) (by rw [h2.isolated, hb1])
  rw [hm, hi2.now] at k3
  rw [hm, h2.resetAt, hb1] at k4
  refine ⟨_, if_neg (by simp [hf]), hi2.around.trans k1, ?_, fun h => (k3 h).1, fun h => (k4 h).1⟩
  rw [k2.fclk, h2.fclk, hb1]

/-- The demands of a block that forces its fail-safe states: the stored ones, and none of what is safety-marked (R409). -/
theorem forced_demands {f : Nat} {s : State} (hfo : (s.block f).forcing = true) :
    (∀ c, dioDemand f c (evalBlock f false s) = ((s.block f).fsDio.getLsbD c && !dioSafety f c s))
      ∧ ∀ i < 8, lsDemand f i (evalBlock f false s) = ((s.block f).fsLs.getLsbD i && !lsSafety f i s) := by
  have h := settles_evalBlock f false s
  refine ⟨fun c => (h.dioDemand c).trans (by simp [dioDemand, hfo]), fun i hi => ?_⟩
  have hoff : lsPaired f i s = true → (((evalBlock f false s).block f).soOf (i / 2)).st.isOn = false := fun hp =>
    notOn_evalBlock (by omega) hp (by simp [soDemand, hfo])
  simp only [lsDemand, h.lsPaired, h.forcing, hfo, h.fsLs, h.lsSafety]
  cases hp : lsPaired f i s
  · simp
  · simp [lsSafety, hp, hoff hp]

theorem serialWatchdogExpiry_due {f : Fin 4} {ns : Nat} {s : State} (hf : s.fldFitted f = true)
    (h : 98 * wdNs f s ≤ 100 * ((advance ns s).now - (s.block f).lastOut)) :
    ∃ t, exec (.serialWatchdogExpiry f ns) s = .next t ∧ Around f (advance ns s) t ∧ (t.block f).forced = true ∧ (t.block f).dDio = (s.block f).dDio
      ∧ (∀ c, dioDemand f c t = ((s.block f).fsDio.getLsbD c && !dioSafety f c s))
      ∧ ∀ i < 8, lsDemand f i t = ((s.block f).fsLs.getLsbD i && !lsSafety f i s) := by
  let u := advance ns s
  let s1 := setBlock f (fun b => { b with forced := true }) u
  have hu : u.block f = s.block f := block_advance f ns s
  have hi : Inside f u s1 := inside_setBlock f _ u
  have hb : s1.block f = { s.block f with forced := true } := by simp [s1, hu]
  have h2 := settles_evalBlock f false s1
  obtain ⟨k1, k2⟩ := forced_demands (f := f) (s := s1) (by rw [hb]; rfl)
  have hd : ∀ c, dioSafety f c s1 = dioSafety f c s := fun c => (hi.cbit _ _).trans (cbit_advance _ _ _ _)
  have hl : ∀ i, lsSafety f i s1 = lsSafety f i s := fun i => by
    simp only [lsSafety, lsPaired, soEnabled, soRangesOk, hi.cbit, hi.cf, u, cbit_advance, cf_advance]
  have hwd : wdNs f u = wdNs f s := by simp only [wdNs, u, cf_advance]
  have hp : fclkPassed (u.block f).lastOut (wdNs f u) u = true := by rw [hu, hwd, fclkPassed_iff]; exact h
  refine ⟨evalBlock f false s1, if_pos ⟨(fldFitted_advance f ns s).trans hf, hp⟩, (hi.trans h2.inside).around, ?_, ?_, fun c => ?_, fun i h8 => ?_⟩
  · rw [h2.forced, hb]
  · rw [h2.dDio, hb]
  · rw [k1, hb, hd]
  · rw [k2 i h8, hb, hl]

/-- What is safety-marked is off while the trip is latched (R410). -/
theorem dioDriven_of_trip {f c : Nat} {s : State} (ht : (s.block f).trip = true) (hs : dioSafety f c s = true) : dioDriven f c s = false := by
  have : dioDemand f c s = false := by simp [dioDemand, ht, hs]
  simp [dioDriven, this]

theorem lsDemand_of_trip {f i : Nat} {s : State} (ht : (s.block f).trip = true) (hi : i < 8) (hs : lsSafety f i s = true) :
    lsDemand f i (evalBlock f false s) = false := by
  have h := settles_evalBlock f false s
  have hoff : lsPaired f i s = true → (((evalBlock f false s).block f).soOf (i / 2)).st.isOn = false := fun hp =>
    notOn_evalBlock (by omega) hp (by simp [soDemand, ht])
  simp only [lsDemand, h.lsPaired, h.forcing, h.fsLs, h.lsSafety, h.trip, ht, hs]
  cases hp : lsPaired f i s
  · simp
  · simp [hoff hp]

theorem tripLineLow_due {f : Fin 4} {s : State} (hf : s.fldFitted f = true) (h1 : tripLineLow f s = true) (h2 : (s.block f).trip = false) :
    ∃ t, exec (.tripLineLow f) s = .next t ∧ Around f s t ∧ (t.block f).trip = true ∧ (148 + f.val, s.now) ∈ t.svc.toggles
      ∧ (∀ c, dioSafety f c s = true → dioDriven f c t = false) ∧ ∀ i < 8, lsSafety f i s = true → lsDemand f i t = false := by
  let s2 := blkRecord f 0x4007 [] (setBlock f (fun b => { b with trip := true }) s)
  let s3 := raise (148 + f.val) s2
  have hi2 : Inside f s s2 := (inside_setBlock f _ s).trans (inside_blkRecord f rfl _ _)
  have hi3 : Inside f s s3 := hi2.trans (inside_raise f _ _)
  have hb : s3.block f = { s.block f with trip := true, lastCode := 0x4007 } := by simp [s3, s2]
  have h4 := settles_evalBlock f false s3
  have htrip : (s3.block f).trip = true := by rw [hb]
  have hs3 : ∀ c, dioSafety f c s3 = dioSafety f c s := fun c => hi3.cbit _ _
  have hl3 : ∀ i, lsSafety f i s3 = lsSafety f i s := fun i => by
    simp only [lsSafety, lsPaired, soEnabled, soRangesOk, hi3.cbit, hi3.cf]
  refine ⟨evalBlock f false s3, if_pos ⟨hf, h1, h2⟩, (hi3.trans h4.inside).around, by rw [h4.trip, hb], h4.inside.told (hi2.now ▸ told_raise _ s2),
    fun c hc => (h4.dioDriven c).trans (dioDriven_of_trip htrip ((hs3 c).trans hc)), fun i h8 hs => lsDemand_of_trip htrip h8 ((hl3 i).trans hs)⟩

end Sys2Proof.Machine
end

section
/-!
PROOFS. Resets and under-voltage of a field block, and O36.
-/
namespace Sys2Proof.Machine

/-! ### Resets (R412, R413, R423) -/

theorem fieldBlockReset_spec {f : Fin 4} {s : State} (hf : s.fldFitted f = true) (hi : (s.block f).isolated = false) :
    ∃ t, exec (.fieldBlockReset f) s = .next t ∧ Around f s t ∧ (t.block f).resetAt = some s.now ∧ (t.block f).link = 1
      ∧ (t.block f).dDio = 0 ∧ (t.block f).dLs = 0 ∧ (t.block f).dSo = 0 ∧ (t.block f).cmds = [] ∧ (t.block f).words = none
      ∧ (t.block f).pairs = [] ∧ (t.block f).fsDio = (s.block f).fsDio ∧ (t.block f).fsLs = (s.block f).fsLs
      ∧ (∀ c, ((t.block f).dioOf c).overload = false ∧ ((t.block f).dioOf c).overTemp = false
          ∧ ((t.block f).dioOf c).level = ((s.block f).dioOf c).level)
      ∧ ∀ j < 4, ((t.block f).soOf j).st = .interlock := by
  obtain ⟨k1, k2, -, k4, k5⟩ := applyFieldReset_spec 0 hf hi
  have hp : ∀ {α : Type} (p : Block → α), (∀ b, p b.fixed = p b) → p ((applyFieldReset f 0 s).block f) = p ((s.block f).atReset s.now) :=
    fun p hp => (hp _).symm.trans ((congrArg p k2).trans (hp _))
  have hd : ∀ {α : Type} (p : Dio → α) c, (∀ d, p d.fixed = p d) → p (((applyFieldReset f 0 s).block f).dioOf c) = p ((s.block f).dioOf c).afterReset :=
    fun p c hp => (hp _).symm.trans ((congrArg p (k4 c)).trans (hp _))
  exact ⟨_, rfl, k1, hp Block.resetAt fun _ => rfl, hp Block.link fun _ => rfl, hp Block.dDio fun _ => rfl, hp Block.dLs fun _ => rfl,
    hp Block.dSo fun _ => rfl, hp Block.cmds fun _ => rfl, hp Block.words fun _ => rfl, hp Block.pairs fun _ => rfl, hp Block.fsDio fun _ => rfl,
    hp Block.fsLs fun _ => rfl, fun c => ⟨hd Dio.overload c fun _ => rfl, hd Dio.overTemp c fun _ => rfl, hd Dio.level c fun _ => rfl⟩, k5⟩

/-- A block rejoins with its demands and its pairs in INTERLOCK (R413). -/
theorem rejoinBlock_spec (f : Nat) (s : State) :
    let t := rejoinBlock f s
    Around f s t ∧ (t.block f).link = 2 ∧ (t.block f).resetAt = none ∧ (t.block f).forced = false ∧ (t.block f).trip = false
      ∧ (t.block f).fclk = false ∧ (t.block f).silent = false ∧ (∀ j < 4, ((t.block f).soOf j).st = .interlock)
      ∧ (t.block f).dDio = (s.block f).dDio ∧ (t.block f).fsDio = (s.block f).fsDio ∧ (144 + f, s.now) ∈ t.svc.toggles := by
  intro t
  let s1 := setBlock f (fun b => { b with
    link := 2, resetAt := none, forced := false, trip := false, fclk := false, reported := false, silent := false, so := [] }) s
  let s2 := evalBlock f false s1
  have hb1 : s1.block f = { s.block f with
      link := 2, resetAt := none, forced := false, trip := false, fclk := false, reported := false, silent := false, so := [] } := by simp [s1]
  have h2 : Settles f s1 s2 := settles_evalBlock f false s1
  have h3 : Settles f s2 t := (settles_blkRecord f rfl [] s2).trans (settles_raise f _ _)
  have h := h2.trans h3
  have hi : Inside f s s2 := (inside_setBlock f _ s).trans h2.inside
  have hso : ∀ j, ((s1.block f).soOf j).st = .interlock := fun j => by simp [hb1, Block.soOf]
  have hso3 : (t.block f).so = (s2.block f).so := by simp [t, rejoinBlock, s2, s1]
  refine ⟨(hi.trans h3.inside).around, by rw [h.link, hb1], by rw [h.resetAt, hb1], by rw [h.forced, hb1], by rw [h.trip, hb1], by rw [h.fclk, hb1],
    by rw [h.silent, hb1], fun j hj => ?_, by rw [h.dDio, hb1], by rw [h.fsDio, hb1], ?_⟩
  · rw [Block.soOf, hso3]
    exact (congrArg SoPair.st (interlock_evalBlock hj (hso j))).trans (hso j)
  · exact (hi.trans (inside_blkRecord f (code := 0x4005) rfl [] s2)).now ▸ told_raise (144 + f) (blkRecord f 0x4005 [] s2)

theorem linkCheckPassed_due {f : Fin 4} {ns t0 : Nat} {s : State} (hr : (s.block f).resetAt = some t0) (ht : (advance ns s).now ≤ t0 + 10_000_000)
    (hi : (s.block f).isolated = false) : exec (.linkCheckPassed f ns) s = .next (rejoinBlock f (advance ns s)) := by
  change execLinkCheckPassed f ns s = _
  simp only [execLinkCheckPassed, block_advance, hr, ht, hi, and_self, if_true]

/-- A block that fails its link check is isolated, its trip line held low (R413). -/
theorem isolateBlock_spec (f : Nat) (s : State) :
    let t := isolateBlock f s
    Around f s t ∧ (t.block f).isolated = true ∧ (t.block f).lineLow = true ∧ (t.block f).link = 0 ∧ (t.block f).resetAt = none := by
  intro t
  have hn := inFbk_headsNotReady f s
  let s1 := setBlock f (fun b => { b with link := 0, resetAt := none, isolated := true, lineLow := true }) (headsNotReady f s)
  have hb1 : s1.block f = { s.block f with link := 0, resetAt := none, isolated := true, lineLow := true } := by simp [s1, hn.block]
  have h : Settles f s1 t := (settles_evalBlock f false s1).trans ((settles_blkRecord f rfl [] _).trans (settles_raise f _ _))
  exact ⟨(hn.around f).trans ((inside_setBlock f _ _).trans h.inside).around, by rw [h.isolated, hb1], by rw [h.lineLow, hb1], by rw [h.link, hb1],
    by rw [h.resetAt, hb1]⟩

/-- DEGRADED serves every berth. -/
theorem setMode_degraded {cause : Nat} {s : State} (h : s.keep.mode = .run) : setMode .degraded cause s
    = raise 0 (record 0x9000 [s.keep.mode.code, Mode.degraded.code, cause]
        { s with keep := { s.keep with mode := .degraded, prev := s.keep.mode, cause := BitVec.ofNat 16 cause } }) := by
  have hr : ∀ u, resetUnserved .degraded u = u := by
    intro u
    unfold resetUnserved
    refine List.foldl_fixed' (fun b => ?_) _
    refine if_pos ?_
    unfold modeServes
    split
    · rfl
    · split
      · decide
      · decide
  simp only [setMode, h, hr]
  exact if_neg (fun h' => absurd h'.1 (by decide))

/-- The module enters DEGRADED from RUN alone; the field blocks stay (R26). -/
theorem enterDegraded_spec (cause : Nat) (s : State) :
    let t := enterDegraded cause s
    t.keep.mode = (if s.keep.mode = .run then .degraded else s.keep.mode) ∧ t.fld = s.fld ∧ t.fbk = s.fbk ∧ t.seq.tripFlop = s.seq.tripFlop
      ∧ t.keep.tripLow = s.keep.tripLow ∧ t = { s.noted t with keep := t.keep } := by
  intro t
  by_cases h : s.keep.mode = .run
  · have ht : t = _ := (if_pos h).trans (setMode_degraded h)
    obtain ⟨⟨h1, -, -⟩, h2, h3⟩ := around_record 0 (code := 0x9000) (by decide) [s.keep.mode.code, Mode.degraded.code, cause]
      { s with keep := { s.keep with mode := .degraded, prev := s.keep.mode, cause := BitVec.ofNat 16 cause } }
    rw [if_pos h, ht]
    generalize record 0x9000 [s.keep.mode.code, Mode.degraded.code, cause]
      { s with keep := { s.keep with mode := .degraded, prev := s.keep.mode, cause := BitVec.ofNat 16 cause } } = v at h1 h2 h3
    refine ⟨by rw [h1]; rfl, h2, h3, by rw [h1]; rfl, by rw [h1]; rfl, ?_⟩
    rw [h1, h2, h3]
    rfl
  · have ht : t = s := if_neg h
    rw [if_neg h, ht]
    exact ⟨rfl, rfl, rfl, rfl, rfl, rfl⟩

theorem linkCheckTimeout_due {f : Fin 4} {ns t0 : Nat} {s : State} (hr : (s.block f).resetAt = some t0) (ht : t0 + 10_000_000 ≤ (advance ns s).now) :
    Completes (.linkCheckTimeout f ns) s (fun t => let B := t.block f
      B.isolated = true ∧ B.lineLow = true ∧ B.link = 0 ∧ B.resetAt = none ∧ (∀ g, g ≠ f.val → t.block g = s.block g)
      ∧ t.keep.mode = (if s.keep.mode = .run then .degraded else s.keep.mode) ∧ tripLineLow f t = true
      ∧ t = { (advance ns s).noted t with fld := t.fld, fbk := t.fbk, keep := t.keep }) := by
  obtain ⟨k1, k2, k3, k4, k5⟩ := isolateBlock_spec f (advance ns s)
  obtain ⟨h1, h2, h3⟩ := around_record f (code := 0x9104) (by decide) [] (isolateBlock f (advance ns s))
  obtain ⟨m1, m2, -, -, -, m6⟩ := enterDegraded_spec 0x9104 (record 0x9104 [] (isolateBlock f (advance ns s)))
  have hb : ∀ g, (enterDegraded 0x9104 (record 0x9104 [] (isolateBlock f (advance ns s)))).block g = (isolateBlock f (advance ns s)).block g := fun g =>
    congrArg (fun F : Machine.Field => look ({} : Block) g F.blocks) (m2.trans h2)
  have hm : (record 0x9104 [] (isolateBlock f (advance ns s))).keep.mode = s.keep.mode := by rw [(k1.trans h1).mode, advance_keep_mode]
  have he : exec (.linkCheckTimeout f ns) s = .next (enterDegraded 0x9104 (record 0x9104 [] (isolateBlock f (advance ns s)))) := by
    change execLinkCheckTimeout f ns s = _
    simp only [execLinkCheckTimeout, block_advance, hr, ht, if_true]
  refine ⟨_, he, ?_⟩
  simp only [hb, tripLineLow]
  rw [m1, hm]
  refine ⟨k2, k3, k4, k5, fun g hg => (k1.others g hg).trans (block_advance g ns s), rfl, by rw [k3]; simp, ?_⟩
  rw [m6, (k1.trans h1).rest]
  rfl

/-- What is driven of a block in under-voltage (R423). -/
theorem vfieldUndervoltage_due {f : Fin 4} {s : State} (hf : s.fldFitted f = true) (hu : (s.block f).uv = false) :
    ∃ t, exec (.vfieldUndervoltage f) s = .next t ∧ Around f s t ∧ (t.block f).uv = true ∧ (∀ c, dioDriven f c t = false)
      ∧ (∀ i < 8, ((t.block f).lsOf i).st.conducts = false) ∧ (152 + f.val, s.now) ∈ t.svc.toggles := by
  let s2 := blkRecord f 0x4008 [] (setBlock f (fun b => { b with uv := true }) s)
  let s3 := raise (152 + f.val) s2
  have hi2 : Inside f s s2 := (inside_setBlock f _ s).trans (inside_blkRecord f rfl _ _)
  have hb : (s3.block f).uv = true := by simp [s3, s2]
  have h4 := settles_evalBlock f false s3
  refine ⟨evalBlock f false s3, congrArg Host.Outcome.next (if_pos ⟨hf, hu⟩), ((hi2.trans (inside_raise f _ _)).trans h4.inside).around, h4.uv.trans hb,
    fun c => (h4.dioDriven c).trans (by simp [dioDriven, hb]), fun i hi => conducts_evalBlock hi hb, h4.inside.told (hi2.now ▸ told_raise _ s2)⟩

theorem vfieldRestored_due {f : Fin 4} {s : State} (hu : (s.block f).uv = true) :
    ∃ t, exec (.vfieldRestored f) s = .next t ∧ Around f s t ∧ (t.block f).uv = false ∧ (t.block f).dDio = (s.block f).dDio
      ∧ (152 + f.val, s.now) ∈ t.svc.toggles := by
  let s2 := blkRecord f 0x4009 [] (setBlock f (fun b => { b with uv := false }) s)
  let s3 := raise (152 + f.val) s2
  have hi2 : Inside f s s2 := (inside_setBlock f _ s).trans (inside_blkRecord f rfl _ _)
  have hb : s3.block f = { s.block f with uv := false, lastCode := 0x4009 } := by simp [s3, s2]
  have h4 := (Settles.foldl (fun u j => settles_soRestore f j u) (List.range 4) s3).trans (settles_evalBlock f false _)
  exact ⟨_, if_pos hu, ((hi2.trans (inside_raise f _ _)).trans h4.inside).around, h4.uv.trans (by rw [hb]), h4.dDio.trans (by rw [hb]),
    h4.inside.told (hi2.now ▸ told_raise _ s2)⟩

/-! ### What is not due -/

/-- Nothing happens at a block that is not fitted, nor where a command is not due. -/
theorem fieldLink_idle (f : Fin 4) (ns : Nat) (s : State) :
    let b := s.block f
    let u := advance ns s
    (s.fldFitted f = false ∨ b.silent = true ∨ b.isolated = true ∨ u.now - b.lastIn < 1_000_000 → exec (.fieldBlockSilent f ns) s = .next u)
    ∧ (s.fldFitted f = false ∨ 100 * (u.now - b.lastOut) < 98 * wdNs f s → exec (.serialWatchdogExpiry f ns) s = .next u)
    ∧ (s.fldFitted f = false ∨ tripLineLow f s = false ∨ b.trip = true → exec (.tripLineLow f) s = .next s)
    ∧ (s.fldFitted f = false → exec (.fclkDeviation f) s = .next s ∧ (∀ bad, exec (.fieldLinkOutboundFrame f ns bad) s = .next (advance (frameEnd ns s) s))
        ∧ ∀ bad vf temp ls loops hot, exec (.fieldLinkInboundFrame f ns bad vf temp ls loops hot) s = .next u) := by
  intro b u
  have hu : u.block f = b := block_advance f ns s
  have hfit : u.fldFitted f = s.fldFitted f := fldFitted_advance f ns s
  refine ⟨fun h => if_neg ?_, fun h => if_neg ?_, fun h => if_neg ?_, fun h => ⟨if_pos (by simp [h]), fun bad => if_pos ?_, fun bad vf temp ls loops hot => if_pos ?_⟩⟩
  · rintro ⟨h1, h2, h3, h4⟩
    rw [show advance ns s = u from rfl, hu] at h2 h3 h4
    obtain h | h | h | h := h
    · rw [hfit, h] at h1; exact Bool.false_ne_true h1
    · rw [h] at h2; exact Bool.false_ne_true h2.symm
    · rw [h] at h3; exact Bool.false_ne_true h3.symm
    · omega
  · rintro ⟨h1, h2⟩
    have hwd : wdNs f u = wdNs f s := by simp only [wdNs, u, cf_advance]
    rw [show advance ns s = u from rfl, hu, hwd, fclkPassed_iff] at h2
    obtain h | h := h
    · rw [hfit, h] at h1; exact Bool.false_ne_true h1
    · omega
  · rintro ⟨h1, h2, h3⟩
    obtain h | h | h := h
    · rw [h] at h1; exact Bool.false_ne_true h1
    · rw [h] at h2; exact Bool.false_ne_true h2
    · rw [show (s.block f).trip = true from h] at h3; exact Bool.false_ne_true h3.symm
  · rw [fldFitted_advance, h]; rfl
  · rw [fldFitted_advance, h]; rfl

/-- Settles O36: each frame, fault and reset by what its lemma says of the block and of what is around it. -/
theorem fieldLinkActs : Obligations.FieldLinkActs := by
  refine ⟨fun f ns s => ?_, fun f ns s => ?_⟩
  · intro b u now resets does e carries
    have hs : ∀ g, s.block g = s.block g := fun _ => rfl
    have hu : ∀ g, u.block g = s.block g := fun g => block_advance g ns s
    have he : ∀ g, e.block g = s.block g := fun g => block_advance g _ s
    refine ⟨fun hf => ⟨?_, ?_, ?_, fun h1 h2 h3 => ?_, ?_, fun h => ?_, fun h1 h2 => ?_⟩, fieldLink_idle f ns s⟩
    · have h := inside_setBlock f (fun b => { b with errOut := sat 0xFFFF (b.errOut + 1) }) e
      have hx : exec (.fieldLinkOutboundFrame f ns true) s = .next (setBlock f (fun b => { b with errOut := sat 0xFFFF (b.errOut + 1) }) e) :=
        (if_neg (by rw [fldFitted_advance, hf]; decide)).trans (if_pos rfl)
      exact ⟨_, hx, ⟨by rw [block_setBlock, if_pos rfl, he]; rfl, h.fbk.trans (advance_fbk _ s)⟩, h.around.does he⟩
    · obtain ⟨h1, ⟨k1, k2, k3, k4, k5⟩, h3, h4, h5, h6⟩ := outboundGood_spec f e
      rw [he] at k2 h3 h4 h5 h6
      refine ⟨_, exec_outbound hf, ⟨k1, k2, k3.trans ?_, k4.trans ?_, k5.trans ?_, h1.fbk.trans (advance_fbk _ s), h3, h4, h5, h6⟩, h1.around.does he⟩
      · simp only [failsafeDio, dioSafety, e, cbit_advance]; rfl
      · simp only [failsafeLs, lsSafety, lsPaired, soEnabled, soRangesOk, e, cbit_advance, cf_advance]; rfl
      · rw [advance_keep_mode]
    · intro bad vf temp ls loops hot
      cases bad
      · obtain ⟨t, k1, k2, k3, k4, k5, k6, k7, k8, k9⟩ := inbound_good (f := f) (ns := ns) (vf := vf) (temp := temp) (ls := ls) (loops := loops) (hot := hot) hf
        exact ⟨t, k1, k3, k4, k5, fun g hg => (k2.others g hg).trans (hu g), fun h => absurd h (by decide), fun _ => ⟨k6, k7, k8, k9⟩, k2.frame⟩
      · obtain ⟨t, k1, k2, k3, k4, k5, k6, k7, k8⟩ := inbound_bad (f := f) (ns := ns) (vf := vf) (temp := temp) (ls := ls) (loops := loops) (hot := hot) hf
        exact ⟨t, k1, k3, k4, k5, fun g hg => (k2.others g hg).trans (hu g),
          fun _ => ⟨k6, k7, k8, k2.fbk.trans (advance_fbk ns s), k2.snap.trans (advance_snap ns s)⟩, fun h => absurd h (by decide), k2.around.snap.frame⟩
    · obtain ⟨t, k1, k2, k3, k4, k5, k6⟩ := fieldBlockSilent_due hf h1 h2 h3
      exact ⟨t, k1, ⟨k3, k4, k5, k6⟩, k2.does hu⟩
    · obtain ⟨t, k1, k2, k3, k4, k5⟩ := fclkDeviation_spec hf
      exact ⟨t, k1, ⟨k3, k4, k5⟩, k2.does hs⟩
    · obtain ⟨t, k1, k2, k3⟩ := serialWatchdogExpiry_due hf h
      exact ⟨t, k1, k3, k2.does hu⟩
    · obtain ⟨t, k1, k2, k3⟩ := tripLineLow_due hf h1 h2
      exact ⟨t, k1, k3, k2.does hs⟩
  · intro b u now does
    have hs : ∀ g, s.block g = s.block g := fun _ => rfl
    have hu : ∀ g, u.block g = s.block g := fun g => block_advance g ns s
    refine ⟨fun hf hi => ?_, fun h => ?_, fun t0 hr ht hi => ?_, fun t0 hr ht => linkCheckTimeout_due hr ht, fun hr => ⟨?_, ?_⟩, fun hf hv => ?_, fun hv => ?_,
      fun h => ?_, fun h => if_neg (by rw [h]; decide)⟩
    · obtain ⟨t, k1, k2, k3⟩ := fieldBlockReset_spec hf hi
      exact ⟨t, k1, k3, k2.does hs⟩
    · refine congrArg Host.Outcome.next (if_neg ?_)
      rintro ⟨h1, h2⟩
      obtain h | h := h
      · rw [h] at h1; exact Bool.false_ne_true h1
      · rw [show (s.block f).isolated = true from h] at h2; exact Bool.false_ne_true h2.symm
    · obtain ⟨k1, k2, k3, k4, k5, k6, k7, k8, k9, k10, k11⟩ := rejoinBlock_spec f u
      rw [hu] at k9 k10
      exact ⟨_, linkCheckPassed_due hr ht hi, ⟨k2, k3, k4, k5, k6, k7, k8, k9, k10, k11⟩, k1.does hu⟩
    · change execLinkCheckPassed f ns s = _
      simp only [execLinkCheckPassed, block_advance, show (s.block f).resetAt = none from hr, u]
    · change execLinkCheckTimeout f ns s = _
      simp only [execLinkCheckTimeout, block_advance, show (s.block f).resetAt = none from hr, u]
    · obtain ⟨t, k1, k2, k3⟩ := vfieldUndervoltage_due hf hv
      exact ⟨t, k1, k3, k2.does hs⟩
    · obtain ⟨t, k1, k2, k3⟩ := vfieldRestored_due hv
      exact ⟨t, k1, k3, k2.does hs⟩
    · refine congrArg Host.Outcome.next (if_neg ?_)
      rintro ⟨h1, h2⟩
      obtain h | h := h
      · rw [h] at h1; exact Bool.false_ne_true h1
      · rw [show (s.block f).uv = true from h] at h2; exact Bool.false_ne_true h2.symm

end Sys2Proof.Machine
end

section
/-!
PROOFS. Reads that latch (O53).
-/
namespace Sys2Proof.Machine

/-! ### Latches (R44, R475, R544) -/

theorem find?_put {α : Type} (k j : Nat) (v : α) (t : Tab α) :
    ((put k v t).find? (fun p => p.1 == j)).map Prod.snd = if j = k then some v else (t.find? (fun p => p.1 == j)).map Prod.snd := by
  induction t with
  | nil => by_cases h : j = k <;> simp [put, h, Ne.symm]
  | cons e t ih =>
    obtain ⟨i, w⟩ := e
    rw [put]
    split
    · by_cases h : j = k
      · simp [h]
      · simp [h, Ne.symm h]
    · split
      · next hik =>
        subst hik
        by_cases h : j = i
        · simp [h]
        · simp [h, Ne.symm h]
      · next hik =>
        by_cases h : i = j
        · simp [h, show j ≠ k from h ▸ hik]
        · simp only [List.find?_cons, beq_eq_false_iff_ne.mpr h, ih]

theorem find?_del {α : Type} (k j : Nat) (t : Tab α) :
    ((del k t).find? (fun p => p.1 == j)).map Prod.snd = if j = k then none else (t.find? (fun p => p.1 == j)).map Prod.snd := by
  induction t with
  | nil => simp [del]
  | cons e t ih =>
    obtain ⟨i, w⟩ := e
    by_cases hik : i = k
    · have hd : del k ((i, w) :: t) = del k t := by simp [del, hik]
      rw [hd, ih]
      by_cases h : j = k
      · simp [h]
      · simp [h, hik, Ne.symm h]
    · have hd : del k ((i, w) :: t) = (i, w) :: del k t := by simp [del, hik]
      rw [hd]
      by_cases h : i = j
      · simp [h, show j ≠ k from h ▸ hik]
      · simp only [List.find?_cons, beq_eq_false_iff_ne.mpr h, ih]

theorem latchOf_setLatch (q a o x : Nat) (v : Word) (s : State) :
    latchOf o x (setLatch q a v s) = if o = q ∧ x = a then some v else latchOf o x s := by
  simp only [latchOf, setLatch, look_upd]
  by_cases ho : o = q
  · subst ho
    rw [if_pos rfl, find?_put]
    simp
  · rw [if_neg ho, if_neg (fun h => ho h.1)]

theorem latchOf_dropLatch (q a o x : Nat) (s : State) : latchOf o x (dropLatch q a s) = if o = q ∧ x = a then none else latchOf o x s := by
  simp only [latchOf, dropLatch, look_upd]
  by_cases ho : o = q
  · subst ho
    rw [if_pos rfl, find?_del]
    simp
  · rw [if_neg ho, if_neg (fun h => ho h.1)]

/-- What latching several words for a requester makes of the latches. -/
theorem latchOf_foldl (q o x : Nat) (v : Nat → Word) (l : List Nat) (s : State) :
    latchOf o x (l.foldl (fun t u => setLatch q u (v u) t) s) = if o = q ∧ x ∈ l then some (v x) else latchOf o x s := by
  induction l generalizing s with
  | nil => simp
  | cons a l ih =>
    rw [List.foldl_cons, ih, latchOf_setLatch]
    by_cases ho : o = q
    · by_cases hl : x ∈ l
      · simp [ho, hl]
      · by_cases hx : x = a
        · simp [ho, hx]
        · simp [ho, hl, hx]
    · simp [ho]

/-- Nothing but the latches of requester `q` differs. -/
structure Latches (q : Nat) (s t : State) : Prop where
  rest : t = { s with latches := t.latches }
  others : ∀ o, o ≠ q → ∀ x, latchOf o x t = latchOf o x s

theorem latches_foldl (q : Nat) (v : Nat → Word) (l : List Nat) (s : State) : Latches q s (l.foldl (fun t u => setLatch q u (v u) t) s) := by
  obtain ⟨k, hk⟩ := foldl_setLatch_latches q v l s
  exact ⟨by rw [hk], fun o ho x => by rw [latchOf_foldl, if_neg (fun h => ho h.1)]⟩

theorem latches_dropLatch (q a : Nat) (s : State) : Latches q s (dropLatch q a s) :=
  ⟨rfl, fun o ho x => by rw [latchOf_dropLatch, if_neg (fun h => ho h.1)]⟩

theorem latchOf_advance (o x ns : Nat) (s : State) : latchOf o x (advance ns s) = latchOf o x s := by simp [latchOf]

/-! ### The words that latch -/

/-- The low words of the split values: a register whose read clears nothing. -/
theorem splitLow_spec {a : Nat} (h : upperWords a ≠ []) : areaAt a ≠ some .metrics ∧ ∃ r i, findReg a = some (r, i, 0) ∧ ∀ s, clearRc r.reg i s = s := by
  have ha : a ∈ [0x00FF_0000, 0x00FF_0008, 0x0800_0050, 0x0900_0008, 0x0900_0010] := by
    unfold upperWords at h
    simp only [List.mem_cons, List.not_mem_nil, or_false]
    split at h
    · exact .inl ‹_›
    · split at h
      · exact .inr (.inl ‹_›)
      · split at h
        · exact .inr (.inr (.inl ‹_›))
        · split at h
          · exact .inr (.inr (.inr (.inl ‹_›)))
          · split at h
            · exact .inr (.inr (.inr (.inr ‹_›)))
            · exact absurd rfl h
  simp only [List.mem_cons, List.not_mem_nil, or_false] at ha
  obtain rfl | rfl | rfl | rfl | rfl := ha
  · exact ⟨by decide, _, _, rfl, fun _ => rfl⟩
  · exact ⟨by decide, _, _, rfl, fun _ => rfl⟩
  · exact ⟨by decide, _, _, rfl, fun _ => rfl⟩
  · exact ⟨by decide, _, _, rfl, fun _ => rfl⟩
  · exact ⟨by decide, _, _, rfl, fun _ => rfl⟩

/-- A read of the low word of a split value. -/
theorem readWord_splitLow (q : Nat) {a : Nat} (h : upperWords a ≠ []) (s : State) :
    (readWord q a s).2 = if latchOf q a s = none then (upperWords a).foldl (fun t u => setLatch q u (liveWord u s) t) s else dropLatch q a s := by
  obtain ⟨hm, r, i, hr, hc⟩ := splitLow_spec h
  have hb : (areaAt a == some .metrics) = false := beq_eq_false_iff_ne.mpr hm
  have hl : latchOthers q a s = (upperWords a).foldl (fun t u => setLatch q u (liveWord u s) t) s := by
    simp only [latchOthers, hm, false_and, if_false]
  simp only [readWord, hr, hc, hb, Bool.false_and, Bool.false_eq_true, if_false, ite_self]
  cases latchOf q a s with
  | none => exact hl
  | some w => rfl

/-- Word 32 of a metric lies in the metrics area and is no register. -/
theorem metric_spec (m : Fin 4096) : areaAt (0x0610_0080 + 0xA0 * m.val) = some .metrics ∧ metricOf (0x0610_0080 + 0xA0 * m.val) = (m.val, 32) := by
  have hm := m.isLt
  refine ⟨?_, ?_⟩
  · unfold areaAt
    rw [if_neg (by omega), if_neg (by omega), if_neg (by omega), if_neg (by omega), if_pos (by omega)]
  · exact Prod.ext (by simp only [metricOf]; omega) (by simp only [metricOf]; omega)

/-- Every register of the JNL window ends below the metrics area. -/
theorem rowsJnl_below : ∀ r ∈ rowsJnl, 0 < r.step ∧ r.base + r.n * r.step ≤ 0x0610_0000 := by decide

theorem findReg_metric (m : Fin 4096) : findReg (0x0610_0080 + 0xA0 * m.val) = none := by
  have hm := m.isLt
  have hw : (0x0610_0080 + 0xA0 * m.val) / 0x0100_0000 = 6 := by omega
  rw [findReg, rowsAt, hw, List.findSome?_eq_none_iff]
  intro r hr
  obtain ⟨hstep, hend⟩ := rowsJnl_below r hr
  rw [at_of_beyond hstep (by omega)]
  rfl

/-- A read of word 32 of a metric latches its 40 words. -/
theorem readWord_metric (q : Nat) (m : Fin 4096) (s : State) : (readWord q (0x0610_0080 + 0xA0 * m.val) s).2
    = ((List.range 40).map (fun w => 0x0610_0000 + 0xA0 * m.val + 4 * w)).foldl (fun t u => setLatch q u (liveWord u s) t) s := by
  obtain ⟨h1, h2⟩ := metric_spec m
  simp only [readWord, findReg_metric, h1, h2, latchOthers]
  rfl

/-- Settles O53: what a granted read latches, and which latch it ends. -/
theorem readsLatchAndClear : Obligations.ReadsLatchAndClear := by
  intro acc a s q u only
  have honly : ∀ t, Latches q u t → only t := fun t h => ⟨h.rest, fun o ho x => (h.others o ho x).trans (latchOf_advance o x acc.at_ s)⟩
  refine ⟨fun m hg => ?_, fun hg h => ⟨fun hl => ?_, fun hl => ?_⟩, fun h => ?_⟩
  · refine ⟨_, congrArg Host.Outcome.next ((accessRead_of_granted hg).trans (readWord_metric q m u)), fun w hw => ?_, honly _ (latches_foldl q _ _ u)⟩
    rw [latchOf_foldl, if_pos ⟨rfl, List.mem_map.mpr ⟨w, List.mem_range.mpr hw, rfl⟩⟩]
  · have ht := readWord_splitLow q h u
    rw [latchOf_advance, if_pos hl] at ht
    refine ⟨_, congrArg Host.Outcome.next ((accessRead_of_granted hg).trans ht), fun x hx => ?_, honly _ (latches_foldl q _ _ u)⟩
    rw [latchOf_foldl, if_pos ⟨rfl, hx⟩]
  · have ht := readWord_splitLow q h u
    rw [latchOf_advance, if_neg hl] at ht
    refine ⟨_, congrArg Host.Outcome.next ((accessRead_of_granted hg).trans ht), ?_, fun x hx => ?_, honly _ (latches_dropLatch q _ u)⟩
    · rw [latchOf_dropLatch, if_pos ⟨rfl, rfl⟩]
    · rw [latchOf_dropLatch, if_neg (fun h' => hx h'.2), latchOf_advance]
  · have hr : accessRead acc a.toNat s = u := if_pos (by rw [show requesterActive acc.req (advance acc.at_ s) = false from h]; rfl)
    exact congrArg Host.Outcome.next hr

end Sys2Proof.Machine
end

section
/-!
PROOFS. Accesses by message and by service cores (O56).
-/
namespace Sys2Proof.Machine

/-! ### The checks of an access (R541 to R543) -/

/-- Whether a write changes the field depends on what the register reads. -/
abbrev Fld.Compares (f : Fld) : Prop := f.acc = .rw ∨ f.acc = .rwc ∨ f.acc = .wo

theorem changes_of_not_compares {f : Fld} (h : ¬ f.Compares) (x y v : Word) : f.changes x v = f.changes y v := by
  unfold Fld.changes
  split <;> simp_all [Fld.Compares]

/-- The registers with such fields. -/
def comparedRegs : List RegName := [.stored, .motTest, .fbkPcCfg, .fbkPcLines, .fbkWcCfg, .fbkSecCfg, .fbkSsCfg, .fbkSsCreep, .fbkEoCfg, .fldDioCfg,
  .fldPairCfg, .fldLsCfg, .fldSoCfg, .fldSoFb, .fldTest, .netPortCfg, .netTriCfg, .jnlMetClr, .evcCtrl, .evcWake, .evcStmrCfg, .evcSrcCfg, .lkpIdent,
  .lkpWallSlo, .lkpWallShi, .lkpWallNs, .snpCtrl]

theorem mem_comparedRegs (a : Nat) : ∀ r ∈ rowsAt a, ∀ f ∈ r.fields, f.Compares → r.reg ∈ comparedRegs := by
  unfold rowsAt
  split <;> decide

/-- What the check of a write reads, of the state, is the same in `s` and `t`. -/
structure ChecksAlike (s t : State) : Prop where
  read : ∀ k ∈ comparedRegs, ∀ i j, readReg k i j t = readReg k i j s
  ctl : t.ctl = s.ctl
  fused : t.fused = s.fused
  mode : t.keep.mode = s.keep.mode

namespace ChecksAlike

variable {s t : State}

theorem ctlGet (h : ChecksAlike s t) (a : Nat) : Machine.ctlGet a t = Machine.ctlGet a s := by
  simp only [Machine.ctlGet, h.ctl, ctlReset, h.fused]

theorem fitted (h : ChecksAlike s t) (u : Unit_) (i : Nat) : u.fitted i t = u.fitted i s := fitted_congr h.fused u i

theorem changedFields (h : ChecksAlike s t) {a : Nat} {r : RegRow} {i j : Nat} (hr : findReg a = some (r, i, j)) (v : Word) :
    Machine.changedFields r i j a v t = Machine.changedFields r i j a v s := by
  have hrow := mem_rowsAt_of_findReg hr
  have hf : ∀ f ∈ r.fields, f.changes (liveReg r i j a t) v = f.changes (liveReg r i j a s) v := fun f hf => by
    by_cases hc : f.Compares
    · rw [liveReg_congr (h.fitted _ _) (h.read _ (mem_comparedRegs a r hrow f hf hc) i j) (h.ctlGet a)]
    · exact changes_of_not_compares hc ..
  simp only [Machine.changedFields, h.fitted]
  split
  · exact List.filter_congr hf
  · rfl

theorem checkWrite (h : ChecksAlike s t) {q : Requester} (hmay : ∀ g, mayWrite q g t = mayWrite q g s) (a : Nat) (v : Word) :
    Machine.checkWrite q a v t = Machine.checkWrite q a v s := by
  have hfields : ∀ all changed, checkFields q all changed t = checkFields q all changed s := fun all changed => by
    simp only [checkFields, hmay, h.mode]
  have hst : stabledRefuses q true a v t = stabledRefuses q true a v s := by
    cases q <;> simp only [stabledRefuses, h.mode]
  have haxes : t.axesFitted = s.axesFitted := by simp only [State.axesFitted, h.fused]
  unfold Machine.checkWrite
  rw [hst]
  cases hf : findReg a with
  | some p =>
    obtain ⟨r, i, j⟩ := p
    simp only [h.changedFields hf, hfields]
  | none =>
    by_cases hs : areaAt a = some .segments
    · have hlive : liveWord a t = liveWord a s := by simp only [liveWord, hf, hs, liveArea, haxes, h.ctlGet]
      simp only [if_pos hs, hfields, haxes, hlive]
    · simp only [if_neg hs]

end ChecksAlike

/-- No such register shows when a berth was last used, nor how many requests wait in it. -/
theorem checksAlike_touch (b : Nat) (s : State) : ChecksAlike s (touch b s) where
  read := by
    intro k hk i j
    fin_cases hk <;> rfl
  ctl := rfl
  fused := rfl
  mode := rfl

theorem hasAny_touch (b c : Nat) (rs : List Nat) (s : State) : hasAny c rs (touch b s) = hasAny c rs s := by
  have h : ∀ r, hasRole c r (touch b s) = hasRole c r s := fun r => by
    by_cases hc : c = b
    · simp [hasRole, touch, hc, Berth.effective]
    · simp [hasRole, touch, hc]
  simp only [hasAny, h]

theorem checkWrite_touch (b c : Fin 8) (a : Nat) (v : Word) (s : State) : checkWrite (.berth c) a v (touch b s) = checkWrite (.berth c) a v s :=
  (checksAlike_touch b s).checkWrite (fun g => by cases g <;> simp only [mayWrite, hasAny_touch]) a v

/-- No such register shows the marks of a core's handler, nor what was drawn. -/
theorem checksAlike_issuedService (c : Nat) (n : Nat) (s : State) : ChecksAlike s ((issuedService c s).drawn n) where
  read := by
    intro k hk i j
    fin_cases hk <;> rfl
  ctl := rfl
  fused := rfl
  mode := rfl

/-! ### Replies and refusals on a berth (R307, R311, R322) -/

/-- A reply on BTHb: it leaves or waits, and of a TLS session the key may change. -/
structure Replies (b : Nat) (s t : State) : Prop where
  rest : t = { s with bth := { s.bth with berths := t.bth.berths }, free := t.free }
  own : t.berth b = { s.berth b with
    out := (t.berth b).out, slotWait := (t.berth b).slotWait, rplTail := (t.berth b).rplTail, msiCount := (t.berth b).msiCount
    records := (t.berth b).records, keyOut := (t.berth b).keyOut, keyUpdates := (t.berth b).keyUpdates }
  others : ∀ n, n ≠ b → t.berth n = s.berth n

theorem Replies.refl (b : Nat) (s : State) : Replies b s s := ⟨rfl, rfl, fun _ _ => rfl⟩

theorem Replies.trans {b : Nat} {s t u : State} (h : Replies b s t) (k : Replies b t u) : Replies b s u :=
  ⟨by rw [k.rest, h.rest], by rw [k.own, h.own], fun n hn => (k.others n hn).trans (h.others n hn)⟩

theorem Replies.frame {b : Nat} {s t : State} (h : Replies b s t) : t = { s with bth := t.bth, free := t.free } := by rw [h.rest]

theorem replies_setBerth (b : Nat) {f : Berth → Berth} (s : State) (hf : f (s.berth b) = { s.berth b with
    out := (f (s.berth b)).out, slotWait := (f (s.berth b)).slotWait, rplTail := (f (s.berth b)).rplTail, msiCount := (f (s.berth b)).msiCount
    records := (f (s.berth b)).records, keyOut := (f (s.berth b)).keyOut, keyUpdates := (f (s.berth b)).keyUpdates }) :
    Replies b s (setBerth b f s) := by
  have hb : (setBerth b f s).berth b = f (s.berth b) := by rw [berth_setBerth, if_pos rfl]
  exact ⟨rfl, by rw [hb]; exact hf, fun n hn => by rw [berth_setBerth, if_neg hn]⟩

theorem replies_countRecord (b : Nat) (s : State) : Replies b s (countRecord b s) := by
  unfold countRecord
  simp only [drawBytes_state]
  split
  · split
    · exact replies_setBerth b s rfl
    · exact .trans (t := { s with free := s.free + 16 }) ⟨rfl, rfl, fun _ _ => rfl⟩ (replies_setBerth b _ rfl)
  · exact .refl b s

theorem replies_sendReply (b : Nat) (r : Reply) (s : State) : Replies b s (sendReply b r s) := by
  unfold sendReply
  refine .trans (replies_setBerth b s ?_) (replies_countRecord b _)
  split
  · split
    · rfl
    · rfl
  · rfl

/-- A refusal on BTHb is counted and recorded. -/
structure Refuses (b : Nat) (s t : State) : Prop where
  rest : t = { s with jnl := t.jnl, bth := { s.bth with berths := t.bth.berths } }
  own : t.berth b = { s.berth b with refused := sat 0xFFFF ((s.berth b).refused + 1), refusals := (t.berth b).refusals }
  others : ∀ n, n ≠ b → t.berth n = s.berth n

theorem Refuses.frame {b : Nat} {s t : State} (h : Refuses b s t) : t = { s with jnl := t.jnl, bth := t.bth } := by rw [h.rest]

theorem jnlOnly_recordC_six {code : Nat} (s : State) (h : code / 0x1000 = 6) (flags count : Nat) (extra : List Byte) :
    JnlOnly s (recordC code flags count extra s) := by
  have hk := jnlOnly_recordC code flags count extra s
  rwa [show noteCode code s = s by simp [noteCode, h, show code / 0x100 ≠ 0x11 by omega]] at hk

/-- The refusals have codes of chapter 6, which no region keeps as its last. -/
theorem refuses_refuseAccess (b arg : Nat) (s : State) {code : Nat} (h : code / 0x1000 = 6) : Refuses b s (refuseAccess b code arg s) := by
  simp only [refuseAccess, recordRefusal]
  split
  · exact ⟨rfl, by simp, fun n hn => by simp [hn]⟩
  · unfold recordRefusals
    generalize hu : setBerth b (fun B => { B with refusals := _ }) (setBerth b _ s) = u
    have hb : u.berth b = { s.berth b with refused := sat 0xFFFF ((s.berth b).refused + 1), refusals := (u.berth b).refusals } := by
      rw [← hu]
      simp
    have hn : ∀ n, n ≠ b → u.berth n = s.berth n := fun n hn => by
      rw [← hu]
      simp [hn]
    have hrest : u = { s with bth := { s.bth with berths := u.bth.berths } } := by rw [← hu]; rfl
    obtain ⟨j, hj⟩ := jnlOnly_recordC_six u h _ _ _
    rw [hj]
    exact ⟨by rw [hrest], hb, hn⟩


/-! ### CWRITE (R307, R308, R541) -/

/-- A message that its berth's checks admit is not permitted here (R307). -/
theorem gate_of_not_permitted {b typ : Nat} {m : MsgHead} {body : List Byte} {s : State} (h : Admits b typ m body s) (k : State → State) :
    gate b typ m body true false s k = refuseMsg b typ m.tag 0x6011 typ (touch b s) := by
  obtain ⟨h1, h2, h3, h4, h5⟩ := h
  have h6 : ¬ (s.keep.mode = .stabled ∧ 17 < typ) := fun e => Nat.not_lt.mpr (h4 e.1) e.2
  simp [gate, h1, h2, h3, h5, h6]

/-- Taking a message on BTHb notes the time and what it has fetched. -/
theorem touch_berth (b n : Nat) (s : State) :
    (touch b s).berth n = if n = b then { s.berth b with lastUse := s.now, fetched := (s.berth b).fetched - 1 } else s.berth n := berth_setBerth ..

/-- A reply after changes of the berth that its queue does not show. -/
theorem sends_of_congr {b : Nat} {r : Reply} {s u t : State} (h : Sends b r u t) (hout : (u.berth b).out = (s.berth b).out)
    (hwait : (u.berth b).slotWait = (s.berth b).slotWait) (hfree : (u.berth b).freeReplies = (s.berth b).freeReplies)
    (hslots : (u.berth b).replySlots = (s.berth b).replySlots) (hbase : (u.berth b).rplBase = (s.berth b).rplBase)
    (htail : (u.berth b).rplTail = (s.berth b).rplTail) : Sends b r s t := by
  simpa only [Sends, hout, hwait, hfree, hslots, hbase, htail] using h

/-- A message refused with `code`. -/
theorem refuseMsg_spec (b typ : Nat) (tag : Word) (arg : Nat) (s : State) {code : Nat} (h : code / 0x1000 = 6) (t : State)
    (ht : t = refuseMsg b typ tag code arg (touch b s)) :
    Sends b { typ := typ, tag := tag, status := code, body := [] } s t ∧ (t.berth b).refused = sat 0xFFFF ((s.berth b).refused + 1)
      ∧ t = { s.noted t with bth := t.bth } := by
  subst ht
  have hr := refuses_refuseAccess b arg (touch b s) h
  have hs : Replies b (refuseAccess b code arg (touch b s)) (refuseMsg b typ tag code arg (touch b s)) := replies_sendReply ..
  have ht := sends_sendReply b { typ := typ, tag := tag, status := code, body := [] } (refuseAccess b code arg (touch b s))
  have hb : (touch b s).berth b = { s.berth b with lastUse := s.now, fetched := (s.berth b).fetched - 1 } := by rw [touch_berth, if_pos rfl]
  refine ⟨sends_of_congr ht ?_ ?_ ?_ ?_ ?_ ?_, ?_, ?_⟩
  · rw [hr.own, hb]
  · rw [hr.own, hb]
  · rw [hr.own, hb]; rfl
  · rw [hr.own, hb]; rfl
  · rw [hr.own, hb]
  · rw [hr.own, hb]
  · exact (congrArg Berth.refused hs.own).trans ((congrArg Berth.refused hr.own).trans (by rw [hb]))
  · rw [hs.frame, hr.frame]
    rfl

/-- A message answered with status 0 and a body. -/
theorem replyOk_spec (b typ : Nat) (tag : Word) (body : List Byte) (s : State) (t : State) (ht : t = replyOk b typ tag body (touch b s)) :
    Sends b { typ := typ, tag := tag, status := 0, body := body } s t ∧ t = { s with bth := t.bth, free := t.free } := by
  subst ht
  have hs : Replies b (touch b s) (replyOk b typ tag body (touch b s)) := replies_sendReply ..
  have ht := sends_sendReply b { typ := typ, tag := tag, status := 0, body := body } (touch b s)
  have hb : (touch b s).berth b = { s.berth b with lastUse := s.now, fetched := (s.berth b).fetched - 1 } := by rw [touch_berth, if_pos rfl]
  refine ⟨sends_of_congr ht ?_ ?_ ?_ ?_ ?_ ?_, ?_⟩
  · rw [hb]
  · rw [hb]
  · rw [hb]; rfl
  · rw [hb]; rfl
  · rw [hb]
  · rw [hb]
  · rw [hs.frame]
    rfl

theorem checkFields_codes (q : Requester) (all changed : List Fld) (s : State) :
    checkFields q all changed s = 0 ∨ checkFields q all changed s / 0x1000 = 6 := by
  unfold checkFields
  split
  · exact .inr rfl
  · split
    · exact .inr rfl
    · split
      · exact .inr rfl
      · exact .inl rfl

/-- The checks of a write have codes of chapter 6. -/
theorem checkWrite_codes (q : Requester) (a : Nat) (v : Word) (s : State) : checkWrite q a v s = 0 ∨ checkWrite q a v s / 0x1000 = 6 := by
  unfold checkWrite
  split
  · exact .inr rfl
  · split
    · exact .inr rfl
    · split
      · exact .inl rfl
      · split
        · exact checkFields_codes ..
        · split
          · exact checkFields_codes ..
          · cases q with
            | keeper => exact .inr (by simp)
            | berth b => exact .inr (by simp)
            | service c =>
              by_cases h : areaAt a = some .source255
              · exact .inl (by simp [h])
              · exact .inr (by simp [h])

/-- A write of a register that only holds a value; in the FBK window the functions follow their configuration. -/
theorem regWrite_stored {a : Nat} {r : RegRow} {k j : Nat} (h : findReg a = some (r, k, j)) (hr : r.reg = .stored) {s : State}
    (hfit : r.unit.fitted k s = true) (v : Word) :
    regWrite a v s = if a / 0x0100_0000 = 2 then chanChanged (storeBits r a v s) else storeBits r a v s := by
  rw [regWrite_of_findReg h, if_pos hfit]
  by_cases h2 : a / 0x0100_0000 = 2
  · simp only [writeReg, hr, h2, if_true]
  · rw [if_neg h2]
    simp only [writeReg, hr]
    split
    · rfl
    · rfl
    · exact absurd ‹_› h2
    all_goals rfl

theorem ctlGet_regWrite_stored {a : Nat} {r : RegRow} {k j : Nat} (h : findReg a = some (r, k, j)) (hr : r.reg = .stored) {s : State}
    (hfit : r.unit.fitted k s = true) (v : Word) (o : Nat) : ctlGet o (regWrite a v s) = ctlGet o (storeBits r a v s) := by
  rw [regWrite_stored h hr hfit]
  split
  · exact (watches_chanChanged _).ctlGet o
  · rfl

/-! ### LDC and STC (R174, R176) -/

/-- A privileged instruction of a service core that can issue runs in its issued state. -/
theorem svcOp_of_canIssue {c : Fin 4} {s : State} (h : CanIssue ⟨.service c, false⟩ 1 [] false s) (hpriv : (s.svcCore c).priv = true) :
    ∃ n, ∀ k, svcOp ⟨.service c, false⟩ k s = k c ((issuedService c s).drawn n) := by
  obtain ⟨n, hn⟩ := issueAs_service c 1 [] false s h
  refine ⟨n, fun k => ?_⟩
  have hp : (((issuedService c s).drawn n).svcCore c).priv = true := by rw [svcCore_issuedService]; exact hpriv
  rw [svcOp, issue, hn]
  simp only [hp, if_true]

/-- Settles O56. -/
theorem messageAndCoreAccesses : Obligations.MessageAndCoreAccesses := by
  intro s
  refine ⟨fun b h a v hadm => ?_, fun a v r k j hreg hr hfit => ?_, fun c rd ra imm => ?_⟩
  · intro code refused
    have hcode : checkWrite (.berth b) a.toNat v (touch b s) = code := checkWrite_touch b b a.toNat v s
    refine ⟨fun ho h0 => ?_, fun ho h0 => ?_, fun ho => ?_⟩
    · refine ⟨_, ?_, replyOk b 0x11 h.tag [] (touch b s), rfl, replyOk_spec b 0x11 h.tag [] s _ rfl⟩
      refine congrArg Host.Outcome.next ?_
      rw [ho]
      exact (gate_of_admits hadm _).trans (if_pos (hcode.trans h0))
    · refine ⟨_, ?_, refuseMsg_spec b 0x11 h.tag a.toNat s ((checkWrite_codes _ _ _ _).resolve_left h0) _ rfl⟩
      refine congrArg Host.Outcome.next ?_
      rw [ho]
      refine (gate_of_admits hadm _).trans ?_
      rw [if_neg (fun e => h0 (hcode.symm.trans e)), hcode]
    · refine ⟨_, ?_, refuseMsg_spec b 0x11 h.tag 0x11 s rfl _ rfl⟩
      refine congrArg Host.Outcome.next ?_
      rw [beq_eq_false_iff_ne.mpr ho]
      exact gate_of_not_permitted hadm _
  · exact ⟨(ctlGet_regWrite_stored hreg hr hfit v a).trans (ctlGet_storeBits r a v s),
      fun o ho => (ctlGet_regWrite_stored hreg hr hfit v o).trans (ctlGet_storeBits_other r ho v s)⟩
  · intro i a v q hpriv hcan
    obtain ⟨n, hn⟩ := svcOp_of_canIssue hcan hpriv
    have hu := issued_issuedService c false n s
    have hreg : ∀ g, regOf i.ctx g ((issuedService c s).drawn n) = regOf i.ctx g s := congrFun (regOf_issued hu)
    have hpc : (((issuedService c s).drawn n).svcCore c).pc = (s.svcCore c).pc := by rw [svcCore_issuedService]
    have hw : ∀ x w, checkWrite (.service c) x w ((issuedService c s).drawn n) = checkWrite (.service c) x w s :=
      (checksAlike_issuedService c n s).checkWrite (fun g => rfl)
    refine ⟨_, hu, congrArg Host.Outcome.next ((hn _).trans ?_), congrArg Host.Outcome.next ((hn _).trans ?_)⟩
    · simp only [controlAddr, hreg, finOfNat_val, hpc]
      rfl
    · simp only [controlAddr, hreg, finOfNat_val, hpc, hw]
      rfl

end Sys2Proof.Machine
end

section
/-!
PROOFS. Granted and refused register writes (O52).
-/
namespace Sys2Proof.Machine

/-! ### Changes of berths -/

/-- Nothing but the berth gate, the journal, the free values drawn and the events raised differs. -/
structure Gates (s t : State) : Prop where
  rest : t = { s with jnl := t.jnl, bth := t.bth, free := t.free, svc := { s.svc with toggles := t.svc.toggles } }
  raised : s.svc.toggles <+: t.svc.toggles

namespace Gates

theorem refl (s : State) : Gates s s := ⟨rfl, List.prefix_rfl⟩

variable {s t u : State}

theorem trans (h : Gates s t) (k : Gates t u) : Gates s u := ⟨by rw [k.rest, h.rest], h.raised.trans k.raised⟩

theorem foldl {α : Type} {op : State → α → State} (h : ∀ u i, Gates u (op u i)) (l : List α) (s : State) : Gates s (l.foldl op s) := by
  induction l generalizing s with
  | nil => exact .refl s
  | cons i l ih => exact (h s i).trans (ih _)

theorem ite {p : Prop} [Decidable p] (h : Gates s t) (k : Gates s u) : Gates s (if p then t else u) := by
  split
  · exact h
  · exact k

theorem of_jnlOnly (h : JnlOnly s t) : Gates s t := by
  obtain ⟨j, rfl⟩ := h
  exact ⟨rfl, List.prefix_rfl⟩

theorem noted (h : Gates s t) : t = { s.noted t with bth := t.bth } := by rw [h.rest]; rfl
theorem now (h : Gates s t) : t.now = s.now := by rw [h.rest]; rfl
theorem ctl (h : Gates s t) : t.ctl = s.ctl := by rw [h.rest]
theorem keep (h : Gates s t) : t.keep = s.keep := by rw [h.rest]

end Gates

theorem gates_setBerth (b : Nat) (f : Berth → Berth) (s : State) : Gates s (setBerth b f s) := ⟨rfl, List.prefix_rfl⟩

/-- A code that neither the lock-keeper nor the sequencer keeps as its last. -/
theorem gates_record (code : Nat) (args : List Nat) (s : State) (h9 : code / 0x1000 ≠ 9) (h11 : code / 0x100 ≠ 0x11) : Gates s (record code args s) :=
  .of_jnlOnly (jnlOnly_record code args s h9 h11)

theorem berth_record (code : Nat) (args : List Nat) (n : Nat) (s : State) : (record code args s).berth n = s.berth n := by
  simp [State.berth, record, recordB]

/-- BTHb after its reset (R320, R321). -/
def Berth.afterReset (B : Berth) : Berth :=
  { B with
    state := .resetting, nonce := none, granted := 0, removed := 0, certRoles := 0, certHash := [], certIds := [], staged := {}, waiting := []
    slotWait := [], tcp := none, tls := false, keyIn := [], keyOut := [], records := 0
    fetched := 0, reqHead := B.reqTail, enable := false }

/-- A reset in its parts: BTHb is cleared, its seals no longer wait, and the reset is recorded. -/
theorem resetBerth_eq (b : Nat) (s : State) : ∃ j d, resetBerth b s
    = raise 225 (record 0x6032 [b, d] { setBerth b Berth.afterReset s with jnl := j, free := s.free + 1 }) := ⟨_, _, rfl⟩

theorem gates_resetBerth (b : Nat) (s : State) : Gates s (resetBerth b s) := by
  obtain ⟨j, d, h⟩ := resetBerth_eq b s
  rw [h]
  have hraise : ∀ u, Gates u (raise 225 u) := fun u => ⟨rfl, (talks_raise 225 u).raised⟩
  have hrecord := gates_record 0x6032 [b, d] { setBerth b Berth.afterReset s with jnl := j, free := s.free + 1 } (by decide) (by decide)
  have hset : Gates s { setBerth b Berth.afterReset s with jnl := j, free := s.free + 1 } := ⟨rfl, List.prefix_rfl⟩
  exact (hset.trans hrecord).trans (hraise _)

theorem berth_resetBerth (b n : Nat) (s : State) : (resetBerth b s).berth n = if n = b then (s.berth b).afterReset else s.berth n := by
  obtain ⟨j, d, h⟩ := resetBerth_eq b s
  rw [h, ← berth_setBerth]
  exact berth_record 0x6032 [b, d] n _

theorem toggles_resetBerth (b : Nat) (s : State) : (resetBerth b s).svc.toggles = s.svc.toggles ++ [(225, s.now)] := by
  obtain ⟨j, d, h⟩ := resetBerth_eq b s
  obtain ⟨k, hk⟩ := jnlOnly_record 0x6032 [b, d] { setBerth b Berth.afterReset s with jnl := j, free := s.free + 1 } (by decide) (by decide)
  rw [h, hk]
  rfl

/-! ### Bits of a word -/

theorem onesBelow_zero (n : Nat) : onesBelow n 0 = [] := by
  simp [onesBelow]

theorem forOnes_eq_self (n : Nat) {v : Word} (h : ∀ k < n, v.getLsbD k = false) (f : Nat → State → State) (s : State) : forOnes n v f s = s := by
  have hl : onesBelow n v = [] := List.filter_eq_nil_iff.mpr (fun k hk => by simp [h k (List.mem_range.mp hk)])
  rw [forOnes, hl]
  rfl

/-! ### Cluster requests (R203, R205) -/

/-- Cluster `k` may be asked to move to mode `m`. -/
def MayMove (m : Nat) (s : State) (k : Nat) : Prop :=
  (s.keep.mode = .run ∨ s.keep.mode = .degraded) ∧ s.img.modes.getD k 2 = 1 ∧ look (clusterMode k s) k s.seq.clTarget ≠ m ∧ k < s.clustersFitted

/-- Nothing but the requests held, the accord's last code, the journal and the free values drawn differs. -/
structure Requests (s t : State) : Prop where
  rest : t = { s with
    jnl := t.jnl, free := t.free, seq := { s.seq with
      clReq := t.seq.clReq, lastPass := t.seq.lastPass, lastCore := t.seq.lastCore, lastAccord := t.seq.lastAccord, clLast := t.seq.clLast } }

namespace Requests

theorem refl (s : State) : Requests s s := ⟨rfl⟩

variable {s t u : State}

theorem trans (h : Requests s t) (k : Requests t u) : Requests s u := ⟨by rw [k.rest, h.rest]⟩

theorem clusterMode (h : Requests s t) (k : Nat) : Machine.clusterMode k t = Machine.clusterMode k s := by rw [h.rest]; rfl

theorem mayMove (h : Requests s t) (m k : Nat) : MayMove m t k ↔ MayMove m s k := by rw [h.rest]; rfl

end Requests

theorem requests_accordRecord (c pass : Nat) (s : State) : Requests s (accordRecord 0x1321 c pass s)
    ∧ (accordRecord 0x1321 c pass s).seq.clReq = s.seq.clReq ∧ (accordRecord 0x1321 c pass s).seq.lastAccord = 0x1321
    ∧ (accordRecord 0x1321 c pass s).seq.lastCore = c := by
  have h : ∀ (d : Nat) (u : State), Requests u (accordMark 0x1321 c pass d u) ∧ (accordMark 0x1321 c pass d u).seq.clReq = u.seq.clReq
      ∧ (accordMark 0x1321 c pass d u).seq.lastAccord = 0x1321 ∧ (accordMark 0x1321 c pass d u).seq.lastCore = c := fun d u => by
    obtain ⟨j, hj⟩ := jnlOnly_record 0x1321 [c, pass, d, u.seq.mcc % 2 ^ 32] { u with seq := { u.seq with
      lastPass := pass, lastCore := c, lastAccord := 0x1321, clLast := put (c / 8) 0x1321 u.seq.clLast } } (by decide) (by decide)
    simp only [accordMark]
    rw [hj]
    exact ⟨⟨rfl⟩, rfl, rfl, rfl⟩
  obtain ⟨h1, h2, h3, h4⟩ := h (s.draw 32).1.toNat (s.draw 32).2
  exact ⟨.trans ⟨rfl⟩ h1, h2, h3, h4⟩

/-- One request: held, or refused. -/
theorem requestCluster_spec (m k : Nat) (s : State) : Requests s (requestCluster m k s)
    ∧ (MayMove m s k → (requestCluster m k s).seq.clReq = put k m s.seq.clReq)
    ∧ (¬ MayMove m s k → (requestCluster m k s).seq.clReq = s.seq.clReq ∧ (requestCluster m k s).seq.lastAccord = 0x1321
      ∧ (requestCluster m k s).seq.lastCore = 8 * k) := by
  obtain ⟨h1, h2, h3, h4⟩ := requests_accordRecord (8 * k) 3 s
  unfold requestCluster
  split
  · next h =>
    refine ⟨h1, fun hm => ?_, fun _ => ⟨h2, h3, h4⟩⟩
    obtain ⟨hmode, himg, htarget, hfit⟩ := hm
    obtain ⟨hr, hd⟩ | h | h | h := h
    · exact absurd hmode (not_or.mpr ⟨hr, hd⟩)
    · exact absurd himg h
    · exact absurd h htarget
    · omega
  · next h =>
    refine ⟨⟨rfl⟩, fun _ => rfl, fun hm => absurd ?_ hm⟩
    simp only [not_or, not_and_or, not_not, Nat.not_le] at h
    obtain ⟨hmode, himg, htarget, hfit⟩ := h
    exact ⟨hmode, himg, htarget, hfit⟩

/-- Requests for several clusters: the clusters that may move have theirs held. -/
theorem requestClusters_spec (m : Nat) (l : List Nat) (s : State) : Requests s (l.foldl (fun u k => requestCluster m k u) s)
    ∧ ∀ k, (k ∈ l → MayMove m s k → look 0 k (l.foldl (fun u k => requestCluster m k u) s).seq.clReq = m)
      ∧ (¬ (k ∈ l ∧ MayMove m s k) → look 0 k (l.foldl (fun u k => requestCluster m k u) s).seq.clReq = look 0 k s.seq.clReq) := by
  induction l generalizing s with
  | nil => exact ⟨.refl s, fun k => ⟨fun h => absurd h List.not_mem_nil, fun _ => rfl⟩⟩
  | cons j l ih =>
    obtain ⟨h1, h2, h3⟩ := requestCluster_spec m j s
    obtain ⟨i1, i2⟩ := ih (requestCluster m j s)
    have hkeep : ∀ k, ¬ (k = j ∧ MayMove m s k) → look 0 k (requestCluster m j s).seq.clReq = look 0 k s.seq.clReq := fun k hk => by
      by_cases hm : MayMove m s j
      · rw [h2 hm, look_put, if_neg (fun h => hk ⟨h, h ▸ hm⟩)]
      · rw [(h3 hm).1]
    refine ⟨h1.trans i1, fun k => ⟨fun hk hm => ?_, fun hk => ?_⟩⟩
    · by_cases hl : k ∈ l
      · exact (i2 k).1 hl ((h1.mayMove m k).mpr hm)
      · obtain rfl : k = j := (List.mem_cons.mp hk).resolve_right hl
        rw [List.foldl_cons, (i2 k).2 (fun h => hl h.1), h2 hm, look_put, if_pos rfl]
    · rw [List.foldl_cons, (i2 k).2 (fun h => hk ⟨List.mem_cons_of_mem _ h.1, (h1.mayMove m k).mp h.2⟩),
        hkeep k (fun h => hk ⟨h.1 ▸ List.mem_cons_self, h.2⟩)]

/-- What LGC_ACC_CLREQ reads of a word whose requests are those of `l`, to mode `m`. -/
theorem writeClreq_split (cl : BitVec 8) (s : State) :
    writeClreq (cl.setWidth 32 <<< 8) s = (onesBelow 8 (cl.setWidth 32)).foldl (fun u k => requestCluster 1 k u) s := by
  have hshift : (cl.setWidth 32 <<< 8) >>> 8 = cl.setWidth 32 := by
    apply BitVec.eq_of_toNat_eq
    simp only [BitVec.toNat_ushiftRight, BitVec.toNat_shiftLeft, BitVec.toNat_setWidth, Nat.shiftLeft_eq, Nat.shiftRight_eq_div_pow]
    have hcl := cl.isLt
    omega
  have hlow : ∀ k < 8, (cl.setWidth 32 <<< 8).getLsbD k = false := fun k hk => by simp [hk]
  rw [writeClreq, hshift, forOnes_eq_self 8 hlow]
  rfl

theorem writeClreq_park (cl : BitVec 8) (s : State) :
    writeClreq (cl.setWidth 32) s = (onesBelow 8 (cl.setWidth 32)).foldl (fun u k => requestCluster 2 k u) s := by
  have hlow : ∀ k < 8, (cl.setWidth 32 >>> 8).getLsbD k = false := fun k hk => by simp
  rw [writeClreq, forOnes_eq_self 8 hlow]
  rfl

theorem mem_onesBelow_setWidth {cl : BitVec 8} {k : Nat} (hk : k < 8) : k ∈ onesBelow 8 (cl.setWidth 32) ↔ cl.getLsbD k = true := by
  rw [mem_onesBelow, BitVec.getLsbD_setWidth]
  simp [hk, show k < 32 by omega]

theorem onesBelow_single : ∀ k : Fin 8, onesBelow 8 ((1#8 <<< k.val).setWidth 32) = [k.val] := by decide

/-! ### Berths (R287, R294, R320) -/

/-- Resetting the berths of a list resets each of them, and no other. -/
theorem resetBerths_spec (l : List Nat) (s : State) (hl : l.Nodup) : Gates s (l.foldl (fun u b => resetBerth b u) s)
    ∧ ∀ b, (b ∈ l → (l.foldl (fun u b => resetBerth b u) s).berth b = (s.berth b).afterReset
        ∧ (225, s.now) ∈ (l.foldl (fun u b => resetBerth b u) s).svc.toggles)
      ∧ (b ∉ l → (l.foldl (fun u b => resetBerth b u) s).berth b = s.berth b) := by
  refine ⟨.foldl (fun u b => gates_resetBerth b u) l s, ?_⟩
  induction l generalizing s with
  | nil => exact fun b => ⟨fun h => absurd h List.not_mem_nil, fun _ => rfl⟩
  | cons c l ih =>
    obtain ⟨hc, hl⟩ := List.nodup_cons.mp hl
    have hi := ih (resetBerth c s) hl
    have hnow := (gates_resetBerth c s).now
    have hl2 := Gates.foldl (fun u b => gates_resetBerth b u) l (resetBerth c s)
    refine fun b => ⟨fun hb => ?_, fun hb => ?_⟩
    · by_cases hbl : b ∈ l
      · have hne : b ≠ c := fun h => hc (h ▸ hbl)
        obtain ⟨h1, h2⟩ := (hi b).1 hbl
        rw [berth_resetBerth, if_neg hne] at h1
        rw [hnow] at h2
        exact ⟨h1, h2⟩
      · obtain rfl : b = c := (List.mem_cons.mp hb).resolve_right hbl
        refine ⟨((hi b).2 hbl).trans (by rw [berth_resetBerth, if_pos rfl]), hl2.raised.subset ?_⟩
        rw [toggles_resetBerth]
        exact List.mem_append_right _ List.mem_cons_self
    · have hne : b ≠ c := fun h => hb (h ▸ List.mem_cons_self)
      rw [List.foldl_cons, (hi b).2 (fun h => hb (List.mem_cons_of_mem _ h)), berth_resetBerth, if_neg hne]

theorem onesBelow_nodup (n : Nat) (v : Word) : (onesBelow n v).Nodup := List.nodup_range.filter _

theorem gates_policyChanged (s : State) : Gates s (policyChanged s) := by
  unfold policyChanged
  exact .foldl (fun u b => .ite (gates_resetBerth b u) (.refl u)) _ s

theorem policy_resetBerth (b : Nat) (s : State) : (resetBerth b s).bth.policy = s.bth.policy := by
  obtain ⟨j, d, h⟩ := resetBerth_eq b s
  rw [h]
  simp [raise, record, recordB]
  rfl

theorem policy_policyChanged (s : State) : (policyChanged s).bth.policy = s.bth.policy := by
  unfold policyChanged
  refine foldl_keeps (fun u => u.bth.policy) (fun u b => ?_) _ s
  simp only
  split
  · exact policy_resetBerth b u
  · rfl

/-! ### Rows -/

def seqCtrlRow : RegRow := row .lgcSeqCtrl 0x00F0_000C 1 0x4 1 0x4 .always [fld .w1s 1 1 .maintain, fld .w1s 0 0 .maintain]
def accClreqRow : RegRow := row .lgcAccClreq 0x00F1_000C 1 0x4 1 0x4 .always [fld .w1s 15 8 .maintain, fld .w1s 7 0 .maintain]
def triCtrlRow : RegRow := row .netTriCtrl 0x0480_0014 1 0x4 1 0x4 .always [fld .w1s 0 0 .maintain]
def bthNarrowRow : RegRow := row .bthNarrow 0x0500_0004 8 0x20 1 0x4 .always [fld .w1s 5 0 .serviceCore]
def bthResetRow : RegRow := row .bthReset 0x0500_0100 1 0x4 1 0x4 .always [fld .w1s 7 0 .serviceCore]
def lkpIdentRow : RegRow := row .lkpIdent 0x0800_0028 1 0x4 1 0x4 .always [rwc 11 0]

theorem findReg_bthNarrow : ∀ b : Fin 8, findReg (0x0500_0004 + 0x20 * b.val) = some (bthNarrowRow, b.val, 0) := by decide +kernel

/-- A granted write of a register that is always fitted. -/
theorem accessWrite_always {acc : Access} {a : Nat} {v : Word} {s : State} (hw : WriteGranted acc a v s) {r : RegRow} {i j : Nat}
    (hr : findReg a = some (r, i, j)) (hu : r.unit = .always) : accessWrite acc a v s = writeReg r i j a v (advance acc.at_ s) := by
  rw [accessWrite_of_granted hw, regWrite_of_findReg hr, hu]
  exact if_pos rfl

theorem accessWrite_seqCtrl {acc : Access} {v : Word} {s : State} (hw : WriteGranted acc 0x00F0_000C v s) :
    accessWrite acc 0x00F0_000C v s = writeSeqCtrl v (advance acc.at_ s) := by
  rw [accessWrite_always hw (r := seqCtrlRow) rfl rfl]
  simp only [writeReg, storeBits_of_mask_zero (show seqCtrlRow.mask [.rw, .rwc] = 0 by decide)]
  rfl

theorem accessWrite_accClreq {acc : Access} {v : Word} {s : State} (hw : WriteGranted acc 0x00F1_000C v s) :
    accessWrite acc 0x00F1_000C v s = writeClreq v (advance acc.at_ s) := by
  rw [accessWrite_always hw (r := accClreqRow) rfl rfl]
  simp only [writeReg, storeBits_of_mask_zero (show accClreqRow.mask [.rw, .rwc] = 0 by decide)]
  rfl

theorem accessWrite_triCtrl {acc : Access} {v : Word} {s : State} (hw : WriteGranted acc 0x0480_0014 v s) : accessWrite acc 0x0480_0014 v s
    = if v.getLsbD 0 && (advance acc.at_ s).tri.state != .off then departTriad 0x580B (advance acc.at_ s) else advance acc.at_ s := by
  rw [accessWrite_always hw (r := triCtrlRow) rfl rfl]
  simp only [writeReg, storeBits_of_mask_zero (show triCtrlRow.mask [.rw, .rwc] = 0 by decide)]
  rfl

theorem accessWrite_bthNarrow {acc : Access} {b : Fin 8} {v : Word} {s : State} (hw : WriteGranted acc (0x0500_0004 + 0x20 * b.val) v s) :
    accessWrite acc (0x0500_0004 + 0x20 * b.val) v s = narrowBerth b v (advance acc.at_ s) := by
  rw [accessWrite_always hw (findReg_bthNarrow b) rfl]
  simp only [writeReg, storeBits_of_mask_zero (show bthNarrowRow.mask [.rw, .rwc] = 0 by decide), show (0x0500_0004 + 0x20 * b.val) / 0x0100_0000 = 5 by omega]
  rfl

theorem accessWrite_bthReset {acc : Access} {v : Word} {s : State} (hw : WriteGranted acc 0x0500_0100 v s) :
    accessWrite acc 0x0500_0100 v s = (onesBelow 8 v).foldl (fun u b => resetBerth b u) (advance acc.at_ s) := by
  rw [accessWrite_always hw (r := bthResetRow) rfl rfl]
  simp only [writeReg, storeBits_of_mask_zero (show bthResetRow.mask [.rw, .rwc] = 0 by decide)]
  rfl

theorem accessWrite_lkpIdent {acc : Access} {v : Word} {s : State} (hw : WriteGranted acc 0x0800_0028 v s) :
    accessWrite acc 0x0800_0028 v s = identWritten (advance acc.at_ s) (storeBits lkpIdentRow 0x0800_0028 v (advance acc.at_ s)) := by
  rw [accessWrite_always hw (r := lkpIdentRow) rfl rfl]
  rfl

end Sys2Proof.Machine
end

section
/-!
PROOFS. Granted and refused register writes, settled (O52).
-/
namespace Sys2Proof.Machine

theorem mayMove_advance (m n k : Nat) (s : State) : MayMove m (advance n s) k ↔ MayMove m s k := by
  unfold advance
  split <;> rfl

theorem clusterMode_advance (n k : Nat) (s : State) : clusterMode k (advance n s) = clusterMode k s := by
  unfold advance
  split <;> rfl

/-- Requests for the clusters of `cl` to move to mode `m` (R203, R205). -/
theorem clusterRequests_spec (m n : Nat) (cl : BitVec 8) (s t : State)
    (ht : t = (onesBelow 8 (cl.setWidth 32)).foldl (fun u k => requestCluster m k u) (advance n s)) :
    (∀ k < 8, (cl.getLsbD k = true → MayMove m s k → look 0 k t.seq.clReq = m)
        ∧ (¬ (cl.getLsbD k = true ∧ MayMove m s k) → look 0 k t.seq.clReq = look 0 k s.seq.clReq)
        ∧ (cl = 1#8 <<< k → ¬ MayMove m s k → t.seq.lastAccord = 0x1321 ∧ t.seq.lastCore = 8 * k ∧ t.seq.clReq = s.seq.clReq))
      ∧ (∀ k, clusterMode k t = clusterMode k s) ∧ t = { (advance n s).noted t with seq := t.seq } := by
  obtain ⟨h1, h2⟩ := requestClusters_spec m (onesBelow 8 (cl.setWidth 32)) (advance n s)
  rw [← ht] at h1 h2
  refine ⟨fun k hk => ⟨fun hc hm => ?_, fun hc => ?_, fun hc hm => ?_⟩, fun k => (h1.clusterMode k).trans (clusterMode_advance n k s), ?_⟩
  · exact (h2 k).1 ((mem_onesBelow_setWidth hk).mpr hc) ((mayMove_advance m n k s).mpr hm)
  · rw [(h2 k).2 (fun h => hc ⟨(mem_onesBelow_setWidth hk).mp h.1, (mayMove_advance m n k s).mp h.2⟩), advance_seq]
  · have hl : onesBelow 8 (cl.setWidth 32) = [k] := by rw [hc]; exact onesBelow_single ⟨k, hk⟩
    obtain ⟨-, -, h⟩ := requestCluster_spec m k (advance n s)
    obtain ⟨hreq, haccord, hcore⟩ := h (fun h => hm ((mayMove_advance m n k s).mp h))
    rw [hl] at ht
    subst ht
    exact ⟨haccord, hcore, hreq.trans (by rw [advance_seq])⟩
  · rw [h1.rest]
    rfl

/-- Leaving the triad by command (R242). -/
theorem departTriad_spec (s : State) (h : s.tri.state ≠ .off) : (departTriad 0x580B s).tri.state = .out ∧ (departTriad 0x580B s).keep.mode = .hold
    ∧ (s.keep.mode ≠ .hold → (departTriad 0x580B s).keep.cause = 0x580B) := by
  obtain ⟨h1, h2, -⟩ := leaveTriad_spec 0x580B (record 0x580B [] s)
  have hr := talks_record 0x580B [] s
  have htri : (leaveTriad 0x580B (record 0x580B [] s)).tri.state = .out := by rw [h2, hr.tri, if_neg h]
  have hmode : (leaveTriad 0x580B (record 0x580B [] s)).keep.mode = s.keep.mode := by rw [h1.keep, hr.mode]
  unfold departTriad
  generalize leaveTriad 0x580B (record 0x580B [] s) = u at htri hmode
  refine ⟨?_, mode_enterHold _ _, fun hm => cause_enterHold (hmode ▸ hm)⟩
  by_cases hm : u.keep.mode = .hold
  · rw [show enterHold 0x580B u = u from if_pos hm, htri]
  · rw [(entersHold (cause := 0x580B) hm).tri, htri, if_neg (by decide)]

/-- Roles are removed from BTHb, never granted (R287, R288). -/
theorem narrowBerth_spec (b : Nat) (v : Word) (s : State) (h : v.toNat % 64 ≠ 0) : Gates s (narrowBerth b v s)
    ∧ ∀ n, (narrowBerth b v s).berth n = if n = b then { s.berth b with removed := (s.berth b).removed ||| v.setWidth 6 } else s.berth n := by
  simp only [narrowBerth, if_neg h]
  refine ⟨(gates_setBerth b _ s).trans (gates_record 0x6033 _ _ (by decide) (by decide)), fun n => ?_⟩
  rw [berth_record, berth_setBerth]

theorem berth_advance (b n : Nat) (s : State) : (advance n s).berth b = s.berth b := by simp [State.berth]

/-- What a change of the identity leaves, when a policy table is active. -/
theorem identRecorded_spec (s t : State) (w : Word) (ht : t = record 0x6108 [] (policyChanged { ctlSet 0x0800_0028 w s with
    bth := { s.bth with policy := none } })) : t.ctl = (ctlSet 0x0800_0028 w s).ctl ∧ t.bth.policy = none ∧ t = { s.noted t with ctl := t.ctl, bth := t.bth } := by
  have hp := policy_policyChanged { ctlSet 0x0800_0028 w s with bth := { s.bth with policy := none } }
  have hc := gates_policyChanged { ctlSet 0x0800_0028 w s with bth := { s.bth with policy := none } }
  generalize policyChanged { ctlSet 0x0800_0028 w s with bth := { s.bth with policy := none } } = p at *
  obtain ⟨j, hj⟩ := jnlOnly_record 0x6108 [] p (by decide) (by decide)
  rw [hj] at ht
  subst ht
  refine ⟨hc.ctl, hp, ?_⟩
  rw [hc.rest]
  rfl

/-- A change of the identity makes the policy table inactive (R294). -/
theorem identWritten_spec (s t : State) (w : Word) (ht : t = identWritten s (ctlSet 0x0800_0028 w s)) :
    t.ctl = (ctlSet 0x0800_0028 w s).ctl
      ∧ t.fused = s.fused ∧ (w = ctlGet 0x0800_0028 s ∨ s.bth.policy = none → t = { s with ctl := t.ctl })
      ∧ (w ≠ ctlGet 0x0800_0028 s → t.bth.policy = none ∧ t = { s.noted t with ctl := t.ctl, bth := t.bth }) := by
  have hw : ctlGet 0x0800_0028 (ctlSet 0x0800_0028 w s) = w := by rw [ctlGet_ctlSet, if_pos rfl]
  rw [identWritten, hw] at ht
  split at ht
  · next h =>
    obtain ⟨hne, hp⟩ := h
    obtain ⟨h1, h2, h3⟩ := identRecorded_spec s t w ht
    refine ⟨h1, by rw [h3]; rfl, fun h => ?_, fun _ => ⟨h2, h3⟩⟩
    obtain h | h := h
    · exact absurd h.symm hne
    · rw [show (ctlSet 0x0800_0028 w s).bth.policy = none from h] at hp
      cases hp
  · next h =>
    subst ht
    rw [not_and] at h
    exact ⟨rfl, rfl, fun _ => rfl, fun hne => ⟨Option.not_isSome_iff_eq_none.mp (h (Ne.symm hne)), rfl⟩⟩

/-- A refused access of a berth is counted (R322). -/
theorem refusedAccess_berth (b : Fin 8) (a : Nat) (s : State) {code : Nat} (h : code / 0x1000 = 6) :
    ((refusedAccess (.berth b) code a s).berth b).refused = sat 0xFFFF ((s.berth b).refused + 1)
      ∧ (∀ o, o ≠ b.val → (refusedAccess (.berth b) code a s).berth o = s.berth o)
      ∧ refusedAccess (.berth b) code a s = { s.noted (refusedAccess (.berth b) code a s) with bth := (refusedAccess (.berth b) code a s).bth } := by
  have hr := refuses_refuseAccess b a s h
  refine ⟨congrArg Berth.refused hr.own, hr.others, ?_⟩
  change refuseAccess b code a s = { s.noted (refuseAccess b code a s) with bth := (refuseAccess b code a s).bth }
  rw [hr.frame]
  rfl

/-- A refused access of another requester: a misaligned one is recorded (R13). -/
theorem refusedAccess_other {q : Requester} (h : ∀ b, q ≠ .berth b) (code a : Nat) (s : State) :
    refusedAccess q code a s = if code = 0x6001 then record 0x6001 [Requester.code q, a] s else s := by
  cases q with
  | berth b => exact absurd rfl (h b)
  | service c => rfl
  | keeper => rfl

theorem accessWrite_of_refused {acc : Access} {a : Nat} {v : Word} {s : State} (hact : requesterActive acc.req (advance acc.at_ s) = true)
    (hne : checkWrite acc.req a v (advance acc.at_ s) ≠ 0) :
    accessWrite acc a v s = refusedAccess acc.req (checkWrite acc.req a v (advance acc.at_ s)) a (advance acc.at_ s) := by
  simp only [accessWrite, hact, Bool.not_true, Bool.false_eq_true, if_false, if_neg hne]

/-- LKP_IDENT holds twelve bits. -/
theorem storeBits_lkpIdent (v : Word) (s : State) : storeBits lkpIdentRow 0x0800_0028 v s
    = ctlSet 0x0800_0028 ((ctlGet 0x0800_0028 s &&& 0xFFFF_F000) ||| (v &&& 0xFFF)) s := by
  rw [storeBits, show lkpIdentRow.mask [.rw, .rwc] = 0xFFF by decide]
  rfl

theorem storeBits_ctl (r : RegRow) (a : Nat) (v : Word) (s : State) : storeBits r a v s = { s with ctl := (storeBits r a v s).ctl } := by
  simp only [storeBits]
  split
  · rfl
  · rfl

/-- Settles O52: each granted write is the action of its register in the advanced state; a refused one is counted, or recorded. -/
theorem registerWritesAct : Obligations.RegisterWritesAct := by
  intro acc v a s u
  refine ⟨fun hg => ?_, fun hg => ?_, fun cl => ⟨fun hg => ?_, fun hg => ?_⟩, fun hg => ⟨fun hv ht => ?_, fun h => ?_⟩, fun b hg => ⟨fun hv => ?_, fun hv => ?_⟩,
    fun hg => ?_, fun hg => ?_, fun r i j hr hg hfit hreg => ?_, fun hin => ?_, fun hact hne => ⟨fun b hb => ?_, fun hb => ⟨fun h => ?_, fun h => ?_⟩⟩⟩
  · refine congrArg Host.Outcome.next ((accessWrite_seqCtrl hg).trans ?_)
    change { u with seq := { u.seq with ovrtot := 0, tmax := u.seq.tmax } } = _
    rw [advance_seq]
  · refine congrArg Host.Outcome.next ((accessWrite_seqCtrl hg).trans ?_)
    change { u with seq := { u.seq with ovrtot := u.seq.ovrtot, tmax := 0 } } = _
    rw [advance_seq]
  · exact ⟨_, congrArg Host.Outcome.next ((accessWrite_accClreq hg).trans (writeClreq_split cl u)), clusterRequests_spec 1 acc.at_ cl s _ rfl⟩
  · exact ⟨_, congrArg Host.Outcome.next ((accessWrite_accClreq hg).trans (writeClreq_park cl u)), clusterRequests_spec 2 acc.at_ cl s _ rfl⟩
  · have hu : u.tri.state ≠ .off := by rw [advance_tri]; exact ht
    obtain ⟨h1, h2, h3⟩ := departTriad_spec u hu
    refine ⟨_, congrArg Host.Outcome.next ((accessWrite_triCtrl hg).trans (if_pos ?_)), h1, h2, fun hm => h3 (by rwa [advance_keep_mode])⟩
    rw [hv, Bool.true_and, bne_iff_ne]
    exact hu
  · refine congrArg Host.Outcome.next ((accessWrite_triCtrl hg).trans (if_neg ?_))
    rw [Bool.and_eq_true, bne_iff_ne, advance_tri]
    exact fun hn => h.elim (fun hv => absurd (hv.symm.trans hn.1) (by decide)) hn.2
  · obtain ⟨h1, h2⟩ := narrowBerth_spec b v u hv
    refine ⟨_, congrArg Host.Outcome.next (accessWrite_bthNarrow hg), ?_, ?_, fun o ho => ?_, h1.noted⟩
    · rw [h2, if_pos rfl, berth_advance]
    · rw [h2, if_pos rfl, berth_advance]
    · rw [h2, if_neg ho, berth_advance]
  · exact congrArg Host.Outcome.next ((accessWrite_bthNarrow hg).trans (if_pos hv))
  · obtain ⟨h1, h2⟩ := resetBerths_spec (onesBelow 8 v) u (onesBelow_nodup 8 v)
    refine ⟨_, congrArg Host.Outcome.next (accessWrite_bthReset hg), h1.noted, fun b hb => ⟨fun hv => ?_, fun hv => ?_⟩⟩
    · obtain ⟨h3, h4⟩ := (h2 b).1 (mem_onesBelow.mpr ⟨hb, hv⟩)
      rw [h3]
      exact ⟨rfl, rfl, rfl, rfl, h4⟩
    · rw [(h2 b).2 (fun h => absurd ((mem_onesBelow.mp h).2.symm.trans hv) (by decide)), berth_advance]
  · refine ⟨_, congrArg Host.Outcome.next (accessWrite_lkpIdent hg), ?_⟩
    rw [storeBits_lkpIdent]
    generalize ht : identWritten u _ = t
    obtain ⟨h1, hf, h2, h3⟩ := identWritten_spec u t _ ht.symm
    have hu : ∀ o, ctlGet o u = ctlGet o s := fun o => advance_ctlGet acc.at_ o s
    have hget : ∀ o, ctlGet o t = if o = 0x0800_0028 then (ctlGet 0x0800_0028 s &&& 0xFFFF_F000) ||| (v &&& 0xFFF) else ctlGet o s := fun o => by
      rw [← hu o, ← hu 0x0800_0028, ← ctlGet_ctlSet, ctlGet, h1]
      simp only [ctlGet, ctlReset, hf]
      rfl
    have hw : (ctlGet 0x0800_0028 u &&& 0xFFFF_F000) ||| (v &&& 0xFFF) = ctlGet 0x0800_0028 t := by rw [hget, if_pos rfl, hu]
    refine ⟨by rw [hget, if_pos rfl], fun o ho => by rw [hget, if_neg ho], fun h => h2 ?_, fun h => h3 ?_⟩
    · exact h.imp (fun h => hw.trans (h.trans (hu _).symm)) (fun h => by rw [advance_bth]; exact h)
    · rw [hw, hu]
      exact h
  · have hfit' : r.unit.fitted i u = true := by rw [fitted_advance]; exact hfit
    refine ⟨_, congrArg Host.Outcome.next (accessWrite_of_granted hg), ?_, fun o ho => ?_, fun hwin => ?_⟩
    · rw [ctlGet_regWrite_stored hr hreg hfit', ctlGet_storeBits, advance_ctlGet]
    · rw [ctlGet_regWrite_stored hr hreg hfit', ctlGet_storeBits_other r ho, advance_ctlGet]
    · rw [regWrite_stored hr hreg hfit', if_neg hwin]
      exact storeBits_ctl r _ v u
  · refine congrArg Host.Outcome.next (if_pos ?_)
    rw [show requesterActive acc.req (advance acc.at_ s) = false from hin]
    rfl
  · have hx : accessWrite acc a.toNat v s = refusedAccess acc.req (checkWrite acc.req a.toNat v u) a.toNat u := accessWrite_of_refused hact hne
    obtain ⟨h1, h2, h3⟩ := refusedAccess_berth b a.toNat u ((checkWrite_codes acc.req a.toNat v u).resolve_left hne)
    rw [hb] at hx
    refine ⟨_, congrArg Host.Outcome.next hx, ?_⟩
    rw [hb] at h1 h2 h3
    exact ⟨h1.trans (by rw [berth_advance]), fun o ho => (h2 o ho).trans (berth_advance o _ s), h3⟩
  · refine congrArg Host.Outcome.next ((accessWrite_of_refused hact hne).trans ?_)
    rw [refusedAccess_other hb, if_neg h]
  · refine congrArg Host.Outcome.next ((accessWrite_of_refused hact hne).trans ?_)
    rw [refusedAccess_other hb, if_pos h]

end Sys2Proof.Machine
end

section
/-!
PROOFS. The end of a cycle: samples, journal requests, answers and the OUTBOX buffer; overruns (O13).
-/
namespace Sys2Proof.Machine

/-! ### Cleared memory -/

theorem memGet_memClear {d : Byte} {lo hi a : Nat} (hlo : lo ≤ a) (hhi : a < hi) (m : Memory) : memGet d a (memClear lo hi m) = d := by
  induction m with
  | nil => rfl
  | cons c m ih =>
    obtain ⟨b, v⟩ := c
    by_cases hb : b < lo ∨ hi ≤ b
    · have hne : b ≠ a := by omega
      simpa [memClear, hb, memGet, hne] using ih
    · simpa [memClear, hb] using ih

/-- Words of the data areas read 0 once cleared. -/
theorem sramWord_sramClear {lo hi a : Nat} (hlo : lo ≤ a) (hhi : a + 4 ≤ hi) (hbase : 0x0300_0000 ≤ a) (s : State) :
    sramWord a (sramClear lo hi s) = 0 := by
  have hd : ∀ i < 4, sramDefault (a + i) = 0 := fun i hi => by
    unfold sramDefault
    rw [if_neg (by omega)]
  have hbyte : (List.range 4).map (fun i => memGet (sramDefault (a + i)) (a + i) (sramClear lo hi s).sram) = List.replicate 4 0 :=
    List.map_congr_left (g := fun _ => (0 : Byte)) (fun i hi' => by
      have hi' := List.mem_range.mp hi'
      rw [← hd i hi']
      exact memGet_memClear (by omega) (by omega) _)
  rw [sramWord, hbyte]
  rfl

/-! ### What the end of a cycle tells -/

theorem talks_divFree (num : Int) (den : Nat) (s : State) : Talks s (divFree num den s).2 := by
  simp only [divFree]
  split
  · exact .refl s
  · exact talks_draw 1 s

theorem talks_cycleSamples (s : State) : Talks s (cycleSamples s).2 := by
  have h := (((talks_divFree (s.seq.evalEnd - s.seq.start : Nat) 1000 s).trans (talks_divFree (s.seq.closeEnd - s.seq.start : Nat) 1000 _)).trans
    (talks_divFree ((s.deadline : Int) - s.seq.closeEnd) 1000 _))
  simp only [cycleSamples]
  split
  · exact h.trans (talks_divFree _ 1000 _)
  · exact h

theorem talks_stageRec (r : Rec) (s : State) : Talks s (stageRec r s) := by
  obtain ⟨j, hj⟩ := jnlOnly_stageRec r s
  rw [hj]
  exact talks_setJnl j s

theorem talks_doorCycle (w0 w1 w2 w3 : Word) (late : Bool) (dtime : Nat) (s : State) : Talks s (doorCycle w0 w1 w2 w3 late dtime s) := by
  unfold doorCycle
  refine ((talks_stageRec _ s).trans (.foldl (fun u n => ?_) _ _)).trans (.foldl (fun u n => talks_setJnl _ u) _ _)
  exact (talks_sample _ _ u).trans (talks_sample _ _ _)

theorem talks_journalSlot (slot : Nat) (w0 w1 w2 w3 : Word) (late : Bool) (s : State) : Talks s (journalSlot slot w0 w1 w2 w3 late s) := by
  unfold journalSlot
  exact .ite ((talks_recordC _ _ _ _ s).trans (talks_raise 247 _)) (.ite (talks_stageRec _ s) (.ite (talks_doorCycle _ _ _ _ _ _ s) (talks_sample _ _ s)))

theorem talks_journalSlots (late : Bool) (s : State) : Talks s (journalSlots late s) := by
  unfold journalSlots
  exact .foldl (fun u i => .ite (.refl u) (talks_journalSlot ..)) _ s

theorem talks_answerBatch (released : Bool) (s : State) : Talks s (answerBatch released s) := by
  unfold answerBatch
  exact (Talks.foldl (fun u p => talks_answerEntry _ _ u) _ s).trans (talks_setBth _ _)

/-! ### A cycle that is not released (R82, R87, R238) -/

/-- What a discarded cycle leaves: no lists, a stale cycle, the OUTBOX buffer read 0. -/
theorem discardCycle_spec (s : State) : ∃ u, Talks s u
    ∧ discardCycle s = zeroOutbox { u with seq := { u.seq with motionList := [], fieldList := [], stale := true } } :=
  ⟨_, (talks_journalSlots true s).trans (talks_answerBatch false _), rfl⟩

theorem outbox_zeroOutbox {i : Nat} (hi : i < 0x8_0000) (s : State) : sramWord (outboxBase s.seq.outboxCur + 4 * i) (zeroOutbox s) = 0 :=
  sramWord_sramClear (by omega) (by omega) (by unfold outboxBase; omega) s

/-! ### Overruns (R87, R88) -/

/-- HOLD at the start of the next cycle while the last has not completed (R88). -/
theorem holds_lateCycle (n : Nat) (s : State) (h : s.keep.mode ≠ .hold) : (enterHold 0x1102 (record 0x1102 [] (advance n s))).keep.mode = .hold
    ∧ (enterHold 0x1102 (record 0x1102 [] (advance n s))).keep.cause = 0x1102 :=
  ⟨mode_enterHold _ _, cause_enterHold (by rw [(talks_record 0x1102 [] _).mode, advance_keep_mode]; exact h)⟩

/-- The state in which an overrun is noted at D(n). -/
def overrunNoted (s : State) : State := raise 17 { s with seq := { s.seq with
  overrun := true, overruns := s.seq.overruns + 1, stale := true, ovrtot := sat 0xFFFF_FFFF (s.seq.ovrtot + 1) } }

/-- A first overrun marks the cycle and is recorded; of a module alone nothing more (R87). -/
theorem overrunNow_first {s : State} (h0 : s.seq.overruns = 0) (htri : s.tri.state = .off) : overrunNow s = record 0x1100 [] (overrunNoted s) := by
  have hn : ¬ 2 ≤ (overrunNoted s).seq.overruns := by simp [overrunNoted, raise, h0]
  have ht : triadActive (record 0x1100 [] (overrunNoted s)) = false := by
    simp only [triadActive, (talks_record 0x1100 [] (overrunNoted s)).tri, show (overrunNoted s).tri.state = .off from htri]
    rfl
  unfold overrunNow
  refine (if_neg hn).trans ?_
  simp only
  exact if_neg (Bool.eq_false_iff.mp ht)

/-- A second overrun in a row is HOLD (R88). -/
theorem overrunNow_second {s : State} (h1 : 1 ≤ s.seq.overruns) : overrunNow s = enterHold 0x1101 (record 0x1101 [] (overrunNoted s)) := by
  have hn : 2 ≤ (overrunNoted s).seq.overruns := by simp only [overrunNoted, raise]; omega
  exact if_pos hn

/-- What an overrun leaves at D(n), of a module alone. -/
theorem overrunNow_spec (n : Nat) (s : State) (hm : s.keep.mode ≠ .hold) (htri : s.tri.state = .off) (t : State)
    (ht : t = overrunNow (advance n s)) : t.seq.overruns = s.seq.overruns + 1 ∧ t.mot = (if s.seq.overruns = 0 then s.mot else t.mot)
      ∧ (s.seq.overruns = 0 → t.seq.overrun = true ∧ t.seq.stale = true ∧ t.seq.phase = s.seq.phase ∧ t.keep.mode = s.keep.mode
          ∧ t.seq.motionList = s.seq.motionList ∧ t.sram = s.sram)
      ∧ (1 ≤ s.seq.overruns → t.keep.mode = .hold ∧ t.keep.cause = 0x1101) := by
  have hseq : (overrunNoted (advance n s)).seq = { s.seq with
      overrun := true, overruns := s.seq.overruns + 1, stale := true, ovrtot := sat 0xFFFF_FFFF (s.seq.ovrtot + 1) } := by
    simp only [overrunNoted, raise, advance_seq]
  have hmode : (overrunNoted (advance n s)).keep.mode = s.keep.mode := advance_keep_mode n s
  by_cases h0 : s.seq.overruns = 0
  · rw [overrunNow_first (by rw [advance_seq]; exact h0) (by rw [advance_tri]; exact htri)] at ht
    have h := talks_record 0x1100 [] (overrunNoted (advance n s))
    rw [← ht] at h
    rw [if_pos h0]
    refine ⟨?_, h.mot.trans (advance_mot n s), fun _ => ⟨?_, ?_, ?_, h.mode.trans hmode, ?_, h.sram.trans (advance_sram n s)⟩, fun h1 => by omega⟩
    all_goals rw [h.seq, hseq]
  · rw [overrunNow_second (by rw [advance_seq]; omega)] at ht
    have h := talks_record 0x1101 [] (overrunNoted (advance n s))
    have he := entersHold (cause := 0x1101) (s := record 0x1101 [] (overrunNoted (advance n s))) (by rw [h.mode, hmode]; exact hm)
    rw [← ht] at he
    refine ⟨?_, by rw [if_neg h0], fun h => absurd h h0, fun _ => ⟨by rw [he.keep], by rw [he.keep]; rfl⟩⟩
    rw [he.seq, stopSequencer, h.seq, hseq]

/-- What the discard of an overrun cycle leaves (R87). -/
theorem discardOverrun_spec (n : Nat) (s : State) (x : List (Nat × Int)) (u v t : State) (hu : u = (cycleSamples (advance n s)).2)
    (hv : v = discardCycle { u with seq := { u.seq with heldSamples := u.seq.heldSamples ++ x } })
    (ht : t = { v with seq := { v.seq with complete := true } }) : t.seq.complete = true
      ∧ t.seq.motionList = [] ∧ t.seq.fieldList = [] ∧ t.seq.stale = true ∧ t.mot = s.mot ∧ t.fld = s.fld
      ∧ ∀ i < 0x8_0000, sramWord (outboxBase s.seq.outboxCur + 4 * i) t = 0 := by
  have hc := talks_cycleSamples (advance n s)
  rw [← hu] at hc
  obtain ⟨w, hw, hd⟩ := discardCycle_spec { u with seq := { u.seq with heldSamples := u.seq.heldSamples ++ x } }
  rw [hd] at hv
  subst hv
  subst ht
  have hcur : w.seq.outboxCur = s.seq.outboxCur := by rw [hw.seq, hc.seq, advance_seq]
  refine ⟨rfl, rfl, rfl, rfl, ?_, ?_, fun i hi => ?_⟩
  · exact hw.mot.trans (hc.mot.trans (advance_mot n s))
  · exact hw.fld.trans (hc.fld.trans (advance_fld n s))
  · rw [← hcur]
    exact outbox_zeroOutbox hi { w with seq := { w.seq with motionList := [], fieldList := [], stale := true } }

/-- Settles O13: each command is the branch of the sequencer that its premises name. -/
theorem overrunsAct : Obligations.OverrunsAct := by
  refine ⟨fun fb mo s hrun hc => ?_, fun s hmode hover hc htri hphase => ?_, fun n s hover hphase hc => ⟨fun hlt hmode => ?_, fun hle => ?_⟩⟩
  · have hm : s.keep.mode ≠ .hold := fun h => by simp [sequencerRuns, h] at hrun
    exact ⟨_, (if_neg (by rw [hrun]; decide)).trans (if_pos hc), holds_lateCycle _ s hm⟩
  · have hm : s.keep.mode ≠ .hold := fun h => by simp [h] at hmode
    have hrun : ¬ ((s.keep.mode ≠ .run ∧ s.keep.mode ≠ .degraded) ∨ s.seq.overrun = true ∨ s.seq.phase = .notRunning ∨ s.seq.phase = .release
        ∨ s.seq.phase = .housekeeping) := by
      rintro (⟨hr, hd⟩ | h | h | h | h)
      · exact absurd hmode (not_or.mpr ⟨hr, hd⟩)
      · exact absurd (hover.symm.trans h) (by decide)
      all_goals simp [h] at hphase
    have hx : exec .release s = .next (overrunNow (advance s.deadline s)) := by
      refine (if_neg hrun).trans (if_neg ?_)
      rw [advance_seq, hc]
      decide
    exact ⟨_, hx, overrunNow_spec _ s hm htri _ rfl⟩
  · exact ⟨_, (if_pos ⟨hover, hphase, hc⟩).trans (if_pos hlt), holds_lateCycle _ s hmode⟩
  · refine ⟨_, (if_pos ⟨hover, hphase, hc⟩).trans (if_neg (by omega)), ?_⟩
    generalize hu : (cycleSamples (advance n s)).2 = u
    generalize hv : discardCycle _ = v
    exact discardOverrun_spec n s (cycleSamples (advance n s)).1 u v _ hu.symm hv.symm rfl

end Sys2Proof.Machine
end

section
/-!
PROOFS. What forms the input image: areas, INBOX, batch and agreement (R61 to R72, R222 to R235).
-/
namespace Sys2Proof.Machine

/-! ### What a triad member sends and chooses -/

/-- Nothing but the triad's state, the start of the next cycle, and what `Talks` names, differs. -/
structure Weighs (s t : State) : Prop where
  rest : t = { s with
    jnl := t.jnl, bth := t.bth, free := t.free, svc := { s.svc with toggles := t.svc.toggles }, tri := t.tri
    keep := { s.keep with lastCode := t.keep.lastCode }, seq := { s.seq with lastCode := t.seq.lastCode, nextStart := t.seq.nextStart } }
  raised : s.svc.toggles <+: t.svc.toggles

namespace Weighs

theorem refl (s : State) : Weighs s s := ⟨rfl, List.prefix_rfl⟩

variable {s t u : State}

theorem trans (h : Weighs s t) (k : Weighs t u) : Weighs s u := ⟨by rw [k.rest, h.rest], h.raised.trans k.raised⟩

theorem foldl {α : Type} {op : State → α → State} (h : ∀ u i, Weighs u (op u i)) (l : List α) (s : State) : Weighs s (l.foldl op s) := by
  induction l generalizing s with
  | nil => exact .refl s
  | cons i l ih => exact (h s i).trans (ih _)

theorem ite {p : Prop} [Decidable p] (h : Weighs s t) (k : Weighs s u) : Weighs s (if p then t else u) := by
  split
  · exact h
  · exact k

theorem of_talks (h : Talks s t) : Weighs s t := ⟨by rw [h.rest], h.raised⟩
theorem seq (h : Weighs s t) : t.seq = { s.seq with lastCode := t.seq.lastCode, nextStart := t.seq.nextStart } := by rw [h.rest]
theorem sram (h : Weighs s t) : t.sram = s.sram := by rw [h.rest]
theorem now (h : Weighs s t) : t.now = s.now := by rw [h.rest]; rfl

end Weighs

/-- Nothing but the triad's state differs. -/
def InTri (s t : State) : Prop := t = { s with tri := t.tri }

namespace InTri

theorem refl (s : State) : InTri s s := rfl

variable {s t u : State}

theorem trans (h : InTri s t) (k : InTri t u) : InTri s u := by
  unfold InTri at *
  rw [k, h]

theorem foldl {α : Type} {op : State → α → State} (h : ∀ u i, InTri u (op u i)) (l : List α) (s : State) : InTri s (l.foldl op s) := by
  induction l generalizing s with
  | nil => exact .refl s
  | cons i l ih => exact (h s i).trans (ih _)

theorem ite {p : Prop} [Decidable p] (h : InTri s t) (k : InTri s u) : InTri s (if p then t else u) := by
  split
  · exact h
  · exact k

theorem weighs (h : InTri s t) : Weighs s t := by
  rw [h]
  exact ⟨rfl, List.prefix_rfl⟩

end InTri

theorem inTri_triF (f : Tri → Tri) (s : State) : InTri s (setTriF f s) := rfl
theorem inTri_setPeer (x : Nat) (f : Peer → Peer) (s : State) : InTri s (setPeer x f s) := rfl
theorem inTri_setTp (p : Nat) (f : TpPort → TpPort) (s : State) : InTri s (setTp p f s) := rfl

theorem inTri_tpSend (p typ : Nat) (payload : List Byte) (s : State) : InTri s (tpSend p typ payload s) := by
  simp only [tpSend]
  split
  · rfl
  · split
    · rfl
    · rfl

theorem inTri_sendCycle (typ : Nat) (payload : List Byte) (s : State) : InTri s (sendCycle typ payload s) := by
  unfold sendCycle
  exact .foldl (fun u p => .ite (inTri_tpSend p typ payload u) (.refl u)) _ s

theorem inTri_sendSummary (s : State) : InTri s (sendSummary s) := by
  unfold sendSummary
  exact .ite (.refl s) ((inTri_triF _ s).trans (inTri_sendCycle _ _ _))

theorem inTri_sendHash (ready : Bool) (s : State) : InTri s (sendHash ready s) := (inTri_sendCycle _ _ s).trans (inTri_sendCycle _ _ _)

theorem inTri_sendCut (s : State) : InTri s (sendCut s) := by
  unfold sendCut
  extract_lets sent s1
  have h1 : InTri s s1 := rfl
  exact h1.trans (inTri_sendCycle _ _ _)

theorem talks_recordReason (code : Nat) (args : List Nat) (s : State) : Talks s (recordReason code args s) :=
  (talks_draw 32 s).trans (talks_record code _ _)

theorem weighs_align (s : State) : Weighs s (align s) := by
  unfold align
  extract_lets e32 r rate lim c own near dv s1 s2
  have h1 : Weighs s s1 := .trans (.of_talks ((talks_divFree _ 16 s).trans (talks_divFree _ 2 r.2))) ((inTri_triF _ dv.2).weighs)
  have h2 : Weighs s1 s2 := .foldl (fun u x => (inTri_setPeer x _ u).weighs) _ s1
  exact (h1.trans h2).trans ⟨rfl, List.prefix_rfl⟩

theorem weighs_decideUsed (s : State) : Weighs s (decideUsed s) := by
  unfold decideUsed
  split
  · exact .refl s
  · extract_lets s0 used s1 s2
    have h0 : Weighs s s0 := weighs_align s
    have h1 : Weighs s0 s1 := (inTri_triF _ s0).weighs
    have h2 : Weighs s1 s2 := .foldl (fun u x => .ite (.refl u) (.trans (.ite (.refl u) (inTri_setTp _ _ u).weighs)
      (.of_talks ((talks_recordReason 0x5809 [x] _).trans (talks_raise 218 _))))) _ s1
    refine ((h0.trans h1).trans h2).trans (.foldl (fun u y => ?_) _ s2)
    split
    · exact .refl u
    · refine .foldl (fun v x => ?_) _ u
      split
      · exact .ite (.of_talks (talks_record _ _ v)) (.refl v)
      · exact .refl v

/-! ### What is placed in the buffers -/

/-- Nothing but the memory, the network region, the INBOX buffers and samples of the cycle, and what `Talks` names, differs. -/
structure Updates (s t : State) : Prop where
  rest : t = { s with
    jnl := t.jnl, bth := t.bth, free := t.free, svc := { s.svc with toggles := t.svc.toggles }, net := t.net, sram := t.sram
    keep := { s.keep with lastCode := t.keep.lastCode }
    seq := { s.seq with
      lastCode := t.seq.lastCode, inboxFill := t.seq.inboxFill, inboxFrozen := t.seq.inboxFrozen, updSamples := t.seq.updSamples } }
  raised : s.svc.toggles <+: t.svc.toggles

namespace Updates

theorem refl (s : State) : Updates s s := ⟨rfl, List.prefix_rfl⟩

variable {s t u : State}

theorem trans (h : Updates s t) (k : Updates t u) : Updates s u := ⟨by rw [k.rest, h.rest], h.raised.trans k.raised⟩

theorem foldl {α : Type} {op : State → α → State} (h : ∀ u i, Updates u (op u i)) (l : List α) (s : State) : Updates s (l.foldl op s) := by
  induction l generalizing s with
  | nil => exact .refl s
  | cons i l ih => exact (h s i).trans (ih _)

theorem ite {p : Prop} [Decidable p] (h : Updates s t) (k : Updates s u) : Updates s (if p then t else u) := by
  split
  · exact h
  · exact k

theorem of_talks (h : Talks s t) : Updates s t := ⟨by rw [h.rest], h.raised⟩
theorem tri (h : Updates s t) : t.tri = s.tri := by rw [h.rest]

end Updates

theorem updates_setSram (m : Memory) (s : State) : Updates s { s with sram := m } := ⟨rfl, List.prefix_rfl⟩
theorem updates_setConn (c : Nat) (f : Conn → Conn) (s : State) : Updates s (setConn c f s) := ⟨rfl, List.prefix_rfl⟩
theorem updates_imageArea (i : Nat) (ws : List Word) (s : State) : Updates s (imageArea i ws s) := updates_setSram _ s
theorem updates_imageInSet (i : Nat) (v : Word) (s : State) : Updates s (imageInSet i v s) := updates_setSram _ s
theorem updates_sramFill (a n : Nat) (ws : List Word) (s : State) : Updates s (sramFill a n ws s) := updates_setSram _ s
theorem updates_placeMsg (c b : Nat) (ws : List Word) (s : State) : Updates s (placeMsg c b ws s) := updates_setSram _ s
theorem updates_sramClear (lo hi : Nat) (s : State) : Updates s (sramClear lo hi s) := updates_setSram _ s
theorem updates_sramPutBytes (a : Nat) (l : List Byte) (s : State) : Updates s (sramPutBytes a l s) := updates_setSram _ s
theorem updates_staleField (n : Nat) (s : State) : Updates s (staleField n s) := updates_imageArea _ _ s
theorem updates_staleFeedback (s : State) : Updates s (staleFeedback s) := updates_imageArea _ _ s

/-! ### The connection update (R276) -/

theorem updates_connRecord (c code : Nat) (args : List Nat) (s : State) : Updates s (connRecord c code args s) :=
  (updates_setConn c _ s).trans (.of_talks (talks_record _ _ _))

theorem updates_connTo (c st : Nat) (s : State) : Updates s (connTo c st s) := by
  unfold connTo
  exact .ite (.refl s) (.ite ((updates_setConn c _ s).trans (.of_talks (talks_raise 192 _)))
    (.ite ((updates_setConn c _ s).trans (.of_talks (talks_raise 193 _))) (updates_setConn c _ s)))

theorem updates_deliver (c : Nat) (m : SlotMsg) (missed shown : Nat) (gap : Bool) (s : State) : Updates s (deliver c m missed shown gap s) :=
  updates_setConn c _ s

theorem updates_updateMsg (c : Nat) (s : State) : Updates s (updateMsg c s) := by
  unfold updateMsg
  extract_lets w k q s1 s2
  split
  · have h1 : Updates s s1 := updates_setConn c _ s
    have h2 : Updates s1 s2 := .ite (((updates_setConn c _ s1).trans (updates_connTo c 0 _)).trans (updates_connRecord c 0x5301 [] _)) (.refl s1)
    exact (h1.trans h2).trans (updates_setConn c _ s2)
  · split
    · exact updates_deliver _ _ _ _ _ s
    · extract_lets d s3 s4
      have h3 : Updates s s3 := .ite ((updates_connTo c 1 s).trans (updates_connRecord _ _ _ _)) (.ite (updates_connRecord _ _ _ s) (.refl s))
      have h4 : Updates s s4 := .ite ((updates_connTo c 0 s).trans (updates_connRecord _ _ _ _)) (.refl s)
      exact .ite (updates_setConn c _ s) (.ite (h3.trans (updates_deliver _ _ _ _ _ s3)) (h4.trans (updates_deliver _ _ _ _ _ s4)))

theorem updates_connUpdate (c : Nat) (s : State) : Updates s (connUpdate c s) := by
  unfold connUpdate
  extract_lets w s0 s1 v s2
  have h0 : Updates s s0 := updates_sramFill _ _ _ s
  have h1 : Updates s s1 := .ite ((updates_setConn c _ s).trans (updates_connTo c 0 _)) (.refl s)
  have hv : Updates s1 v := (updates_setConn c _ s1).trans (updates_connRecord c 0x5303 _ _)
  have h2 : Updates s1 s2 := .ite (.refl s1) (.ite (hv.trans (updates_connTo c 0 v)) hv)
  exact .ite (h0.trans (updates_setConn c _ s0)) ((h1.trans h2).trans (updates_updateMsg c s2))

theorem updates_countStates (s : State) : Updates s (countStates s) := ⟨rfl, List.prefix_rfl⟩

theorem updates_connUpdateAll (s : State) : Updates s (connUpdateAll s) := by
  unfold connUpdateAll
  exact (Updates.foldl (fun u c => updates_connUpdate c u) _ s).trans (updates_countStates _)

theorem updates_updateConns (s : State) : Updates s (updateConns s) := (updates_connUpdateAll s).trans ⟨rfl, List.prefix_rfl⟩

/-! ### INBOX buffers and the batch -/

theorem updates_swapInbox (s : State) : Updates s (swapInbox s) := ⟨rfl, List.prefix_rfl⟩

theorem updates_unswapConn (c : Nat) (s : State) : Updates s (unswapConn c s) := by
  unfold unswapConn
  extract_lets k g f n late s1
  have h1 : Updates s s1 := .ite (updates_placeMsg _ _ _ s) (.refl s)
  exact (h1.trans (updates_sramFill _ _ _ s1)).trans (updates_setConn c _ _)

theorem updates_unswapInbox (s : State) : Updates s (unswapInbox s) :=
  (Updates.foldl (fun u c => updates_unswapConn c u) (definedConns s.net.table) s).trans ⟨rfl, List.prefix_rfl⟩

theorem talks_returnBatch (s : State) : Talks s (returnBatch s) := by
  unfold returnBatch
  exact (talks_setBth _ s).trans (.foldl (fun u b => talks_setBerth b _ u) _ _)

theorem updates_restrictUnwritten (missing : Nat) (s : State) : Updates s (restrictUnwritten missing s) := by
  unfold restrictUnwritten
  extract_lets s1 s2 s3 s4
  have h1 : Updates s s1 := .foldl (fun u n => .ite (updates_staleField n u) (.refl u)) _ s
  have h2 : Updates s1 s2 := .ite (updates_staleFeedback s1) (.refl s1)
  have h3 : Updates s2 s3 := .ite (updates_imageArea _ _ s2) (.refl s2)
  have h4 : Updates s3 s4 := .ite (updates_unswapInbox s3) (.refl s3)
  exact (((h1.trans h2).trans h3).trans h4).trans (.ite (.of_talks (talks_returnBatch s4)) (.refl s4))

/-! ### What forms the image -/

/-- Nothing but the memory, the network region, the buffers and counts of the cycle, and what `Weighs` names, differs. -/
structure Forms (s t : State) : Prop where
  rest : t = { s with
    jnl := t.jnl, bth := t.bth, free := t.free, svc := { s.svc with toggles := t.svc.toggles }, tri := t.tri, net := t.net, sram := t.sram
    keep := { s.keep with lastCode := t.keep.lastCode }
    seq := { s.seq with
      lastCode := t.seq.lastCode, nextStart := t.seq.nextStart, inboxFill := t.seq.inboxFill, inboxFrozen := t.seq.inboxFrozen
      updSamples := t.seq.updSamples, batchCount := t.seq.batchCount, batchRefused := t.seq.batchRefused } }
  raised : s.svc.toggles <+: t.svc.toggles

namespace Forms

theorem refl (s : State) : Forms s s := ⟨rfl, List.prefix_rfl⟩

variable {s t u : State}

theorem trans (h : Forms s t) (k : Forms t u) : Forms s u := ⟨by rw [k.rest, h.rest], h.raised.trans k.raised⟩

theorem foldl {α : Type} {op : State → α → State} (h : ∀ u i, Forms u (op u i)) (l : List α) (s : State) : Forms s (l.foldl op s) := by
  induction l generalizing s with
  | nil => exact .refl s
  | cons i l ih => exact (h s i).trans (ih _)

theorem ite {p : Prop} [Decidable p] (h : Forms s t) (k : Forms s u) : Forms s (if p then t else u) := by
  split
  · exact h
  · exact k

theorem of_weighs (h : Weighs s t) : Forms s t := ⟨by rw [h.rest], h.raised⟩
theorem of_talks (h : Talks s t) : Forms s t := .of_weighs (.of_talks h)
theorem of_updates (h : Updates s t) : Forms s t := ⟨by rw [h.rest], h.raised⟩
theorem of_inTri (h : InTri s t) : Forms s t := .of_weighs h.weighs

section
variable (h : Forms s t)
include h

theorem seq : t.seq = { s.seq with
    lastCode := t.seq.lastCode, nextStart := t.seq.nextStart, inboxFill := t.seq.inboxFill, inboxFrozen := t.seq.inboxFrozen
    updSamples := t.seq.updSamples, batchCount := t.seq.batchCount, batchRefused := t.seq.batchRefused } := by rw [h.rest]
theorem mot : t.mot = s.mot := by rw [h.rest]
theorem ctl : t.ctl = s.ctl := by rw [h.rest]
theorem cores : t.cores = s.cores := by rw [h.rest]
theorem splits : t.splits = s.splits := by rw [h.rest]
theorem image : t.image = s.image := by rw [h.rest]
theorem now : t.now = s.now := by rw [h.rest]; rfl
theorem mode : t.keep.mode = s.keep.mode := by rw [h.rest]
theorem inService (c : Nat) : Machine.inService c t = Machine.inService c s := by rw [h.rest]; rfl

end

end Forms

/-- What forms the image once the contributions used are chosen. -/
structure Agrees (s t : State) : Prop extends Forms s t where
  decided : t.tri.decided = s.tri.decided

namespace Agrees

theorem refl (s : State) : Agrees s s := ⟨.refl s, rfl⟩

variable {s t u : State}

theorem trans (h : Agrees s t) (k : Agrees t u) : Agrees s u := ⟨h.toForms.trans k.toForms, k.decided.trans h.decided⟩

theorem foldl {α : Type} {op : State → α → State} (h : ∀ u i, Agrees u (op u i)) (l : List α) (s : State) : Agrees s (l.foldl op s) := by
  induction l generalizing s with
  | nil => exact .refl s
  | cons i l ih => exact (h s i).trans (ih _)

theorem ite {p : Prop} [Decidable p] (h : Agrees s t) (k : Agrees s u) : Agrees s (if p then t else u) := by
  split
  · exact h
  · exact k

theorem of_updates (h : Updates s t) : Agrees s t := ⟨.of_updates h, congrArg Tri.decided h.tri⟩
theorem of_talks (h : Talks s t) : Agrees s t := .of_updates (.of_talks h)

end Agrees

theorem agrees_triF {f : Tri → Tri} (hf : ∀ T, (f T).decided = T.decided) (s : State) : Agrees s (setTriF f s) := ⟨.of_inTri (inTri_triF f s), hf s.tri⟩

theorem agrees_resolveBatch (s : State) : Agrees s (resolveBatch s) := by
  unfold resolveBatch
  extract_lets l r _ _ _ s1 s2
  have h1 : Agrees s s1 := ⟨⟨rfl, List.prefix_rfl⟩, rfl⟩
  have h2 : Agrees s1 s2 := .foldl (fun u e => .of_talks (talks_recordB _ _ u)) _ s1
  exact (h1.trans h2).trans (.ite (.of_talks (talks_raise 229 s2)) (.refl s2))

/-! ### Agreement (R222 to R235) -/

theorem agrees_agreeAreas (s : State) : Agrees s (agreeAreas s) := by
  have h : ∀ (l : List (Nat × Nat)) (f : (State × Nat × Tab Nat × Nat) → (Nat × Nat) → (State × Nat × Tab Nat × Nat)),
      (∀ a w, Agrees a.1 (f a w).1) → ∀ a, Agrees a.1 (l.foldl f a).1 := fun l f hf => by
    induction l with
    | nil => exact fun a => .refl _
    | cons w l ih => exact fun a => (hf a w).trans (ih _)
  unfold agreeAreas
  extract_lets us acc
  have h1 : Agrees s acc.1 := h agreedWords _ (fun a w => .of_updates (updates_imageInSet _ _ a.1)) (s, 0, [], 0)
  refine h1.trans (agrees_triF ?_ acc.1)
  exact fun _ => rfl

theorem agrees_agreeHeader (s : State) : Agrees s (agreeHeader s) := by
  unfold agreeHeader
  exact .foldl (fun u w => .of_updates (updates_imageInSet _ _ u)) _ s

/-- A fold that also gathers a value changes the state as its steps do. -/
theorem talks_foldl_snd {α β : Type} {op : α × State → β → α × State} (h : ∀ a x, Talks a.2 (op a x).2) (l : List β) (a : α × State) :
    Talks a.2 (l.foldl op a).2 := by
  induction l generalizing a with
  | nil => exact .refl _
  | cons x l ih => exact (h a x).trans (ih _)

theorem talks_contribEntry (m k : Nat) (s : State) : Talks s (contribEntry m k s).2 := talks_draw 64 s

theorem talks_memberBatch (m : Nat) (s : State) : Talks s (memberBatch m s).2 := by
  unfold memberBatch
  split
  · exact .refl s
  · refine talks_foldl_snd (a := (([] : List BatchEntry), s)) (fun a k => ?_) _
    exact talks_contribEntry m k a.2

theorem talks_mergeBatch (s : State) : Talks s (mergeBatch s) := by
  unfold mergeBatch
  extract_lets us own b s1
  have hb : Talks s b.2 := by
    refine talks_foldl_snd (a := (([] : List BatchEntry), s)) (fun a m => ?_) us
    exact talks_memberBatch m a.2
  have h1 : Talks b.2 s1 := .foldl (fun u e => (talks_recordC _ _ _ _ u).trans (talks_answerEntry _ _ _)) _ b.2
  exact (hb.trans h1).trans (talks_setBth _ s1)

theorem agrees_mergeMsg (x : Nat) (r : Relay) (s : State) : Agrees s (mergeMsg x r s) := by
  unfold mergeMsg
  extract_lets t wins
  exact .ite ((Agrees.of_updates (updates_sramFill _ _ _ s)).trans (Agrees.of_updates (updates_setConn _ _ _))) (.refl s)

theorem agrees_mergeInbox (s : State) : Agrees s (mergeInbox s) := by
  unfold mergeInbox
  extract_lets s1 n
  have h1 : Agrees s s1 := .foldl (fun u x => .ite (.foldl (fun v r => agrees_mergeMsg x r v) _ u) (.refl u)) _ s
  refine h1.trans (agrees_triF ?_ s1)
  exact fun _ => rfl

theorem agrees_agree (s : State) : Agrees s (agree s) := by
  unfold agree
  extract_lets s1 fresh s2 s3 s4
  have h1 : Agrees s s1 := (agrees_agreeAreas s).trans (.of_talks (talks_mergeBatch _))
  have h2 : Agrees s1 s2 := .trans (.ite ((agrees_mergeInbox s1).trans (Agrees.of_updates (updates_updateConns _))) (.refl s1)) (agrees_resolveBatch _)
  have h3 : Agrees s2 s3 := (Agrees.of_updates (updates_imageArea _ _ s2)).trans (agrees_agreeHeader _)
  have h4 : Agrees s3 s4 := .of_updates (updates_imageArea _ _ s3)
  exact ((((h1.trans h2).trans h3).trans h4).trans (Agrees.of_updates (updates_imageArea _ _ s4))).trans (Agrees.of_updates (updates_sramClear _ _ _))

end Sys2Proof.Machine
end

section
/-!
PROOFS. How EVALUATE begins, and the phases of a cycle (O14).
-/
namespace Sys2Proof.Machine

/-! ### EVALUATE begins (R112, R123) -/

/-- Nothing but the passes of the cores and the SPLIT contexts differs. -/
def OnlyPasses (s t : State) : Prop := t = { s with cores := t.cores, splits := t.splits }

theorem OnlyPasses.trans {s t u : State} (h : OnlyPasses s t) (k : OnlyPasses t u) : OnlyPasses s u := by
  unfold OnlyPasses at *
  rw [k, h]

theorem onlyPasses_foldl {α : Type} {op : State → α → State} (h : ∀ u i, OnlyPasses u (op u i)) (l : List α) (s : State) : OnlyPasses s (l.foldl op s) := by
  induction l generalizing s with
  | nil => rfl
  | cons i l ih => exact (h s i).trans (ih _)

/-- Core `c` as EVALUATE starts it at CCLK cycle `t`. -/
def Core.started (s : State) (C : Core) : Core :=
  { C with
    top := startPass .top s.cclk s, heart := startPass .heart s.cclk s, base := startPass .base s.cclk s,
    decided := 0, outvoted := [], posts := (0, 0, 0), completed := 0, segTop := 0, segBase := 0 }

/-- One core of `startEvaluate`. -/
def startCore (s s' : State) (c : Nat) : State :=
  if inService c s then setCore c (Core.started s) s'
  else if clusterMode (c / 8) s = 1 then
    (List.range 3).foldl (fun s' k =>
      if (s.split c k).run = .ended then
        setSplit c k (fun X => { X with run := .running, pc := BitVec.ofNat 20 (((s.img.splitEntry.getD (c / 8) []).getD k 0)) }) s'
      else s') s'
  else s'

theorem startEvaluate_eq (s : State) : startEvaluate s =
    { (List.range 64).foldl (startCore s) s with seq := { ((List.range 64).foldl (startCore s) s).seq with phase := .evaluate } } := rfl

theorem onlyPasses_startCore (s u : State) (c : Nat) : OnlyPasses u (startCore s u c) := by
  unfold startCore
  split
  · rfl
  · split
    · refine onlyPasses_foldl (fun v k => ?_) _ u
      split
      · rfl
      · rfl
    · rfl

theorem core_startCore (s u : State) (c d : Nat) :
    (startCore s u c).core d = if d = c then (if inService c s then (u.core c).started s else u.core c) else u.core d := by
  unfold startCore
  by_cases hs : inService c s = true
  · rw [if_pos hs, core_setCore, if_pos hs]
  · rw [if_neg hs, if_neg hs]
    have hd : (if d = c then u.core c else u.core d) = u.core d := by split <;> simp_all
    rw [hd]
    split
    · refine foldl_keeps (fun v => State.core d v) (fun v k => ?_) _ u
      split
      · exact core_setSplit ..
      · rfl
    · rfl

/-- EVALUATE begins: every core in service is started; nothing else but SPLIT contexts and the phase changes. -/
theorem startEvaluate_spec (s : State) : startEvaluate s = { s with
      cores := (startEvaluate s).cores, splits := (startEvaluate s).splits, seq := { s.seq with phase := .evaluate } }
    ∧ ∀ c < 64, inService c s = true → (startEvaluate s).core c = (s.core c).started s := by
  obtain ⟨h1, h2⟩ := foldl_range_each (op := startCore s) (fun c u => State.core c u)
    (fun c u => if inService c s then (u.core c).started s else u.core c) OnlyPasses (fun _ => rfl) (fun _ _ _ => .trans) (fun u c => onlyPasses_startCore s u c)
    (fun u c d hd => by rw [core_startCore, if_neg hd]) (fun u v c _ hv => by rw [core_startCore, if_pos rfl, hv]) 64 s
  rw [startEvaluate_eq]
  refine ⟨?_, fun c hc hs => ?_⟩
  · rw [h1]
  · exact (h2 c).trans (by rw [if_pos hc, if_pos hs])

/-! ### The end of ACCORD-CLOSE in HOLD -/

/-- A module in HOLD whose sequencer stands in ACCORD-CLOSE of a cycle that has overrun. -/
def heldInAccordClose : State :=
  { State.reset with keep := { State.reset.keep with mode := .hold }, seq := { State.reset.seq with phase := .accordClose, overrun := true } }

/-- In HOLD the end of ACCORD-CLOSE does nothing. -/
theorem accordCloseEnd_heldInAccordClose : exec (.accordCloseEnd 0) heldInAccordClose = .next heldInAccordClose := rfl

/-- Refutes O14: the fourth part asks that ACCORD-CLOSE ends in phase waiting in every mode but STABLED, but in HOLD the command leaves the state as it
is. -/
theorem not_phasesFollow : ¬ Obligations.PhasesFollow := by
  intro h
  obtain ⟨-, -, -, hclose, -⟩ := h 0 0 heldInAccordClose (by decide)
  obtain ⟨t, ht, hphase, -⟩ := hclose rfl (.inl rfl)
  rw [accordCloseEnd_heldInAccordClose] at ht
  cases ht
  exact absurd hphase (by decide)

end Sys2Proof.Machine
end

section
/-!
PROOFS. The deadlines of AGREE and the agreed word (O19).
-/
namespace Sys2Proof.Machine

/-! ### The agreed word (R227) -/

/-- The agreed word of three contributions, by which of them agree. -/
theorem agreeWord_three (i j k a b c r : Nat) : agreeWord [(i, a), (j, b), (k, c)] r
    = if a = b then (a, false, if b = c then none else some k) else if a = c then (a, false, some j) else if b = c then (b, false, some i)
      else (r, true, none) := rfl

theorem agreeWord_three_unanimous (i j k a b c r : Nat) : agreeWord [(i, a), (j, b), (k, c)] r = (a, false, none) ↔ a = b ∧ b = c := by
  rw [agreeWord_three]
  by_cases hab : a = b <;> by_cases hbc : b = c <;> by_cases hac : a = c <;> simp_all

theorem agreeWord_three_outvoted (i j k a b c r v m : Nat) : agreeWord [(i, a), (j, b), (k, c)] r = (v, false, some m) ↔
    (m = k ∧ v = a ∧ a = b ∧ b ≠ c) ∨ (m = j ∧ v = a ∧ a = c ∧ a ≠ b) ∨ (m = i ∧ v = b ∧ b = c ∧ a ≠ b) := by
  rw [agreeWord_three]
  by_cases hab : a = b <;> by_cases hbc : b = c <;> by_cases hac : a = c <;> simp_all [eq_comm, and_comm]

theorem agreeWord_three_restrictive (i j k a b c r : Nat) :
    agreeWord [(i, a), (j, b), (k, c)] r = (r, true, none) ↔ a ≠ b ∧ a ≠ c ∧ b ≠ c := by
  rw [agreeWord_three]
  by_cases hab : a = b <;> by_cases hbc : b = c <;> by_cases hac : a = c <;> simp_all

/-! ### The deadlines (R225, R226, R235) -/

theorem summarised_tpSend (p typ : Nat) (payload : List Byte) (s : State) : (tpSend p typ payload s).tri.summarised = s.tri.summarised := by
  unfold tpSend
  extract_lets q f s1 s2
  split
  · rfl
  · split
    · rfl
    · rfl

theorem summarised_sendSummary {s : State} (h : s.tri.state ≠ .joining) : (sendSummary s).tri.summarised = true := by
  have hj : (s.tri.state == .joining) = false := beq_eq_false_iff_ne.mpr h
  unfold sendSummary
  rw [hj, Bool.or_false]
  split
  · assumption
  · extract_lets body
    refine foldl_keeps (fun u : State => u.tri.summarised) (fun u p => ?_) _ _
    split
    · exact summarised_tpSend ..
    · rfl

theorem sendSummary_joining {s : State} (h : s.tri.state = .joining) : sendSummary s = s := by
  unfold sendSummary
  rw [if_pos (by simp [h])]

theorem decided_decideUsed (s : State) : (decideUsed s).tri.decided = true := by
  unfold decideUsed
  split
  · assumption
  · extract_lets s0 used s1 s2
    have h2 : s2.tri.decided = true := by
      refine foldl_keeps (fun u => u.tri.decided) (fun u x => ?_) _ s1
      split
      · rfl
      · extract_lets v
        have hv : v.tri.decided = u.tri.decided := by
          unfold v
          split <;> rfl
        exact (congrArg Tri.decided ((talks_recordReason 0x5809 [x] v).trans (talks_raise 218 _)).tri).trans hv
    refine (foldl_keeps (fun u => u.tri.decided) (fun u y => ?_) _ s2).trans h2
    split
    · rfl
    · refine foldl_keeps (fun u => u.tri.decided) (fun v x => ?_) _ u
      split
      · split
        · exact congrArg Tri.decided (talks_record 0x5817 [x] v).tri
        · rfl
      · rfl

/-- Until a module sleeps, the deadlines wait for their time. -/
theorem le_now_advance {n : Nat} {s : State} (h : s.keep.mode ≠ .stabled) : n ≤ (advance n s).now := by
  rw [advance_now n s h]
  exact le_max_right ..

theorem advance_onlyTime {n : Nat} {s : State} (h : s.keep.mode ≠ .stabled) : advance n s = { s with time := (advance n s).time } := by
  rw [advance_of_awake n s h]

/-- AGREE ends: the image is formed, and EVALUATE begins (R70, R225). -/
theorem completes_agreeEnd {ns : Nat} {s : State} (hmode : s.keep.mode ≠ .stabled) (hp : s.seq.phase = .agree) :
    Completes (.agreeEnd ns) s (fun t => t.seq.phase = .evaluate ∧ t.tri.decided = true ∧ t.seq.agreeEnd = t.now
      ∧ t.now = max s.now (min ns (s.seq.start + 96_000)) ∧ t.mot = s.mot ∧ t.ctl = s.ctl) := by
  have hnow := advance_now (min ns (s.seq.start + 96_000)) s hmode
  have hsend := (inTri_sendSummary (advance (min ns (s.seq.start + 96_000)) s)).weighs.trans (weighs_decideUsed _)
  have hagree := agrees_agree (decideUsed (sendSummary (advance (min ns (s.seq.start + 96_000)) s)))
  have hforms := (Forms.of_weighs hsend).trans hagree.toForms
  have hdecided := hagree.decided.trans (decided_decideUsed _)
  refine ⟨_, if_pos hp, ?_⟩
  generalize agree (decideUsed (sendSummary (advance (min ns (s.seq.start + 96_000)) s))) = w at hforms hdecided
  have hw := (startEvaluate_spec { w with seq := { w.seq with agreeEnd := w.now } }).1
  simp only
  rw [hw]
  exact ⟨rfl, hdecided, rfl, hforms.now.trans hnow, hforms.mot.trans (advance_mot _ s), hforms.ctl.trans (advance_ctl _ s)⟩

/-- Settles O19: each deadline is the member's action in the advanced state, and the agreed word is a choice among what agrees. -/
theorem agreementOfWords : Obligations.AgreementOfWords := by
  refine ⟨fun ns s hmode => ⟨fun hp ht => ?_, fun hp ht => ?_, fun hp => ⟨?_, ?_⟩, fun ha hd hp => ?_⟩, fun i j k a b c r => ⟨agreeWord_three_unanimous .., ?_,
    agreeWord_three_restrictive .., rfl, rfl, rfl⟩⟩
  · have h := inTri_sendSummary (advance (s.seq.start + 80_000) s)
    refine ⟨_, if_pos hp, summarised_sendSummary (by rwa [advance_tri]), ?_, ?_⟩
    · exact (le_now_advance hmode).trans h.weighs.now.ge
    · rw [h, advance_onlyTime hmode]
  · refine ⟨_, if_pos hp, ?_⟩
    rw [sendSummary_joining (by rwa [advance_tri])]
    exact ⟨advance_tri _ s, le_now_advance hmode, advance_onlyTime hmode⟩
  · have h := (inTri_sendSummary (advance (s.seq.start + 90_000) s)).weighs.trans (weighs_decideUsed _)
    refine ⟨_, if_pos hp, decided_decideUsed _, (le_now_advance hmode).trans h.now.ge, ?_, h.sram.trans (advance_sram _ s)⟩
    rw [h.seq, advance_seq]
    exact hp
  · exact completes_agreeEnd hmode hp
  · have hu := advance_onlyTime (n := ns) hmode
    generalize hv : advance ns s = u at hu
    have htri : u.tri = s.tri := by rw [hu]
    have hdig : imageDigest u = imageDigest s := by rw [hu]; rfl
    refine ⟨_, if_pos ⟨ha, hd, hp⟩, ?_⟩
    rw [hv, finishDigest, htri, hdig]
    split
    · next h => exact ⟨htri ▸ h, by rw [htri], by rw [hu]⟩
    · next h => exact ⟨rfl, rfl, by rw [hu]; rfl⟩
  · exact fun v m => agreeWord_three_outvoted ..

end Sys2Proof.Machine
end

section
/-!
PROOFS. CAPTURE and its sources (O12).
-/
namespace Sys2Proof.Machine

/-! ### The cycle boundary (R123, R203, R204) -/

/-- Nothing but the cores, the memory, the peripheral regions, the clusters' modes and loads, and what `Talks` names, differs. -/
structure Begins (s t : State) : Prop where
  rest : t = { s with
    jnl := t.jnl, bth := t.bth, free := t.free, svc := { s.svc with toggles := t.svc.toggles }, cores := t.cores, splits := t.splits, sram := t.sram
    scratchTags := t.scratchTags, fbk := t.fbk, fld := t.fld, net := t.net, mot := t.mot
    keep := { s.keep with lastCode := t.keep.lastCode }
    seq := { s.seq with
      lastCode := t.seq.lastCode, clMode := t.seq.clMode, clTarget := t.seq.clTarget, clReq := t.seq.clReq, coreload := t.seq.coreload
      wmax := t.seq.wmax } }
  raised : s.svc.toggles <+: t.svc.toggles

namespace Begins

theorem refl (s : State) : Begins s s := ⟨rfl, List.prefix_rfl⟩

variable {s t u : State}

theorem trans (h : Begins s t) (k : Begins t u) : Begins s u := ⟨by rw [k.rest, h.rest], h.raised.trans k.raised⟩

theorem foldl {α : Type} {op : State → α → State} (h : ∀ u i, Begins u (op u i)) (l : List α) (s : State) : Begins s (l.foldl op s) := by
  induction l generalizing s with
  | nil => exact .refl s
  | cons i l ih => exact (h s i).trans (ih _)

theorem ite {p : Prop} [Decidable p] (h : Begins s t) (k : Begins s u) : Begins s (if p then t else u) := by
  split
  · exact h
  · exact k

theorem of_talks (h : Talks s t) : Begins s t := ⟨by rw [h.rest], h.raised⟩

section
variable (h : Begins s t)
include h

theorem seq : t.seq = { s.seq with
    lastCode := t.seq.lastCode, clMode := t.seq.clMode, clTarget := t.seq.clTarget, clReq := t.seq.clReq, coreload := t.seq.coreload
    wmax := t.seq.wmax } := by rw [h.rest]
theorem mode : t.keep.mode = s.keep.mode := by rw [h.rest]
theorem tri : t.tri = s.tri := by rw [h.rest]
theorem timers : t.timers = s.timers := by rw [h.rest]
theorem image : t.image = s.image := by rw [h.rest]
theorem ctl : t.ctl = s.ctl := by rw [h.rest]
theorem time : t.time = s.time := by rw [h.rest]
theorem svcMcc : t.svc.mcc = s.svc.mcc := by rw [h.rest]

end

end Begins

theorem begins_setCore (c : Nat) (f : Core → Core) (s : State) : Begins s (setCore c f s) := ⟨rfl, List.prefix_rfl⟩
theorem begins_setSplit (c k : Nat) (f : SplitCtx → SplitCtx) (s : State) : Begins s (setSplit c k f s) := ⟨rfl, List.prefix_rfl⟩
theorem begins_clearCore (c : Nat) (s : State) : Begins s (clearCore c s) := ⟨rfl, List.prefix_rfl⟩
theorem begins_imageArea (i : Nat) (ws : List Word) (s : State) : Begins s (imageArea i ws s) := ⟨rfl, List.prefix_rfl⟩
theorem begins_setChan (n : Nat) (f : PosChan → PosChan) (s : State) : Begins s (setChan n f s) := ⟨rfl, List.prefix_rfl⟩
theorem begins_setBlock (n : Nat) (f : Block → Block) (s : State) : Begins s (setBlock n f s) := ⟨rfl, List.prefix_rfl⟩

theorem begins_stopSplits (s : State) : Begins s (stopSplits s) := by
  unfold stopSplits
  refine .foldl (fun u c => .ite (.foldl (fun v k => ?_) _ u) (.refl u)) _ s
  exact .trans (.ite (.of_talks (talks_record _ _ v)) (.refl v)) (begins_setSplit c k _ _)

/-- A core's histories are forgotten, and the core and its SPLIT contexts are cleared. -/
theorem begins_scrubCore (c : Nat) (s : State) :
    Begins s ((List.range 3).foldl (fun u j => setSplit c j (fun _ => {}) u)
      (clearCore c (setCore c (fun C => { C with histTop := [], histHeart := [], histBase := [] }) s))) := by
  have h1 : Begins s (setCore c (fun C => { C with histTop := [], histHeart := [], histBase := [] }) s) := begins_setCore c _ s
  have h2 := begins_clearCore c (setCore c (fun C => { C with histTop := [], histHeart := [], histBase := [] }) s)
  exact (h1.trans h2).trans (.foldl (fun v j => begins_setSplit c j _ v) _ _)

theorem begins_scrubCluster (k : Nat) (s : State) : Begins s (scrubCluster k s) := .foldl (fun u c => begins_scrubCore c u) _ s

theorem begins_beginHandover (k m : Nat) (s : State) : Begins s (beginHandover k m s) := by
  unfold beginHandover
  extract_lets s1
  have h1 : Begins s s1 := begins_scrubCluster k s
  clear_value s1
  exact h1.trans ⟨rfl, List.prefix_rfl⟩

theorem begins_beginRequested (s : State) : Begins s (beginRequested s) := by
  unfold beginRequested
  refine .foldl (fun u p => ?_) _ s
  exact .ite (begins_beginHandover p.1 p.2 u) (.refl u)

theorem begins_assign (s : State) : Begins s (assign s) := by
  unfold assign
  extract_lets shares loads s1
  have h1 : Begins s s1 := .foldl (fun u p => begins_setCore _ _ u) _ s
  clear_value s1
  exact h1.trans ⟨rfl, List.prefix_rfl⟩

/-- No core is to be retired. -/
theorem retireCores_none {s : State} (h : ∀ c < 64, (s.core c).retiring = false) : retireCores s = s := by
  have hcs : (List.range 64).filter (fun c => (s.core c).retiring) = [] :=
    List.filter_eq_nil_iff.mpr (fun c hc => by simp [h c (List.mem_range.mp hc)])
  unfold retireCores
  simp only [hcs, if_true]

/-- The boundary of a cycle of a module alone, with no core to be retired. -/
theorem cycleBoundary_alone {s : State} (hmode : s.keep.mode ≠ .hold) (htri : s.tri.state = .off) (h : ∀ c < 64, (s.core c).retiring = false) :
    Begins s (cycleBoundary s) := by
  have ht : triadBoundary s = s := by
    unfold triadBoundary
    rw [show triadActive s = false by rw [triadActive, htri]; rfl]
    exact if_pos rfl
  unfold cycleBoundary
  extract_lets s1 s2 s3
  have h1 : s1 = s := ht
  have h2 : s2 = s := by rw [show s2 = retireCores s1 from rfl, h1, retireCores_none h]
  have h3 : Begins s s3 := h2 ▸ (begins_stopSplits s2).trans (begins_beginRequested _)
  rw [if_neg (h1 ▸ hmode), if_neg (h2 ▸ hmode)]
  exact .ite h3 (h3.trans (begins_assign s3))

/-! ### What the cycle before has gathered (R275, R406) -/

theorem talks_flushChanCode (n code : Nat) (s : State) : Talks s (flushChanCode n code s) := by
  unfold flushChanCode
  extract_lets hits
  split
  · exact .refl s
  · exact talks_recordC _ _ _ _ s

theorem begins_flushChan (n : Nat) (s : State) : Begins s (flushChan n s) := by
  have h1 : Begins s ([0x3001, 0x3002, 0x3003, 0x3004].foldl (fun s code => flushChanCode n code s) s) :=
    .foldl (fun v code => .of_talks (talks_flushChanCode n code v)) _ s
  exact .ite (.refl s) (h1.trans (begins_setChan n _ _))

theorem begins_flushChannels (s : State) : Begins s (flushChannels s) := .foldl (fun u n => begins_flushChan n u) _ s

theorem begins_flushLinkErrors (f : Nat) (s : State) : Begins s (flushLinkErrors f s) := by
  have h1 : Begins s (setBlock f (fun b => { b with errCycle := 0, lastCode := 0x4001 }) s) := begins_setBlock f _ s
  exact .ite (.refl s) (h1.trans (.of_talks (talks_recordC _ _ _ _ _)))

theorem begins_recordViolation (key : Nat) (s : State) (v : Nat × Nat) :
    Begins s (recordC v.1 (if v.2 = 1 then 0 else 2) v.2 (le 4 key ++ le 4 v.2) s) := .of_talks (talks_recordC _ _ _ _ s)

theorem begins_flushViolations (s : State) : Begins s (flushViolations s) := by
  unfold flushViolations
  extract_lets one s1 s2
  have hone : ∀ key u (l : List (Nat × Nat)), Begins u (l.foldl (one key) u) := fun key u l => .foldl (begins_recordViolation key) l u
  clear_value one
  have h1 : Begins s s1 := .foldl (fun u p => hone _ u _) _ s
  clear_value s1
  have h2 : Begins s1 s2 := .foldl (fun u p => hone _ u _) _ s1
  clear_value s2
  exact (h1.trans h2).trans ⟨rfl, List.prefix_rfl⟩

theorem begins_flushGathered (s : State) : Begins s (flushGathered s) := by
  unfold flushGathered
  have h1 : Begins s ((List.range 4).foldl (fun u f => flushLinkErrors f u) (flushChannels s)) :=
    (begins_flushChannels s).trans (.foldl (fun u f => begins_flushLinkErrors f u) _ _)
  exact h1.trans (begins_flushViolations _)

/-! ### The areas that CAPTURE writes (R61, R62, R66) -/

theorem begins_staleField (n : Nat) (s : State) : Begins s (staleField n s) := begins_imageArea _ _ s

theorem begins_staleFeedback (s : State) : Begins s (staleFeedback s) := begins_imageArea _ _ s

theorem begins_writeAreas (stale : Nat) (s : State) : Begins s (writeAreas stale s) := by
  unfold writeAreas
  extract_lets s1 s2
  have h1 : Begins s s1 := .foldl (fun u n => .ite (begins_staleField n u) (begins_imageArea _ _ u)) _ s
  have h2 : Begins s1 s2 := .ite (begins_staleFeedback s1) (begins_imageArea _ _ s1)
  clear_value s2
  exact (h1.trans h2).trans (begins_imageArea _ _ s2)

/-- The areas are in the SRAM: the berths are as they were. -/
theorem bth_writeAreas (stale : Nat) (s : State) : (writeAreas stale s).bth = s.bth := by
  unfold writeAreas
  extract_lets s1 s2
  have h1 : s1.bth = s.bth := by
    refine foldl_keeps (fun u : State => u.bth) (fun u n => ?_) _ s
    split <;> rfl
  have h2 : s2.bth = s1.bth := by
    show (if _ then _ else _ : State).bth = _
    split <;> rfl
  exact h2.trans h1

theorem begins_clearHappenings (s : State) : Begins s (clearHappenings s) := ⟨rfl, List.prefix_rfl⟩

/-! ### CAPTURE of a module alone (R54, R55, R59) -/

theorem unfittedSources_testBit (s : State) : (unfittedSources s).testBit 6 = false ∧ (unfittedSources s).testBit 7 = false := by
  have h : ∀ a b c d e f : Bool, (packBits [(0, a), (1, b), (2, c), (3, d)] + packBits [(4, e), (5, f)]).testBit 6 = false
      ∧ (packBits [(0, a), (1, b), (2, c), (3, d)] + packBits [(4, e), (5, f)]).testBit 7 = false := by decide
  exact h _ _ _ _ _ _

/-- INBOX and batch are not fresh until they report (R61). -/
theorem staleAtCapture_testBit (fb mo : Bool) (s : State) :
    (staleAtCapture fb mo s).testBit 6 = true ∧ (staleAtCapture fb mo s).testBit 7 = true := by
  have h : ∀ a b c d e f : Bool, (packBits [(0, a), (1, b), (2, c), (3, d), (4, e), (5, f), (6, true), (7, true)]).testBit 6 = true
      ∧ (packBits [(0, a), (1, b), (2, c), (3, d), (4, e), (5, f), (6, true), (7, true)]).testBit 7 = true := by decide
  have hb := h (!fieldFresh 0 s || s.reiniting 3) (!fieldFresh 1 s || s.reiniting 3) (!fieldFresh 2 s || s.reiniting 3)
    (!fieldFresh 3 s || s.reiniting 3) (!fb || s.reiniting 2) (!mo || s.reiniting 1)
  constructor
  · rw [staleAtCapture, Nat.testBit_or]
    exact Bool.or_eq_true_iff.mpr (.inr hb.1)
  · rw [staleAtCapture, Nat.testBit_or]
    exact Bool.or_eq_true_iff.mpr (.inr hb.2)

/-- The order that a timer holds for the next cycle takes effect (R116). -/
def LTimer.begun (x : LTimer) : LTimer :=
  match x.next with
  | none => x
  | some st => { started := st, next := none }

theorem LTimer.begun_started (x : LTimer) : x.begun.started = x.next.getD x.started := by
  unfold LTimer.begun
  split
  case h_1 h => rw [h]; rfl
  case h_2 st h => rw [h]; rfl

/-- A new cycle, before the triad part begins afresh (R54, R55). -/
def opened (s : State) : State :=
  { s with
    timers := s.timers.map (fun p => (p.1, p.2.begun))
    scratchTags := []
    svc := { s.svc with mcc := w32 (nextMcc s) }
    net := { s.net with sealed := 0 }
    fld := { s.fld with blocks := s.fld.blocks.map (fun p => (p.1, { p.2 with taken := p.2.frame })) }
    seq := { s.seq with
      phase := .capture, mcc := nextMcc s, captured := true, start := s.seq.nextStart,
      nextStart := s.seq.nextStart + 10_000 * s.seq.period, complete := false, overrun := false, outWritten := [],
      motionList := [], fieldList := [], corrected := 0, correctedBank := [], outvotes := 0, updSamples := [], batchCount := 0
      batchRefused := 0 }
    bth := { s.bth with batch := [], batchDone := false } }

theorem newTriadCycle_state (s : State) : (newTriadCycle s).tri.state = s.tri.state := by
  unfold newTriadCycle
  extract_lets s1
  have h1 : s1.tri.state = s.tri.state := by
    refine foldl_keeps (fun u : State => u.tri.state) (fun u x => ?_) _ s
    rfl
  exact h1

theorem inTri_newTriadCycle (s : State) : InTri s (newTriadCycle s) := by
  unfold newTriadCycle
  extract_lets s1
  have h1 : InTri s s1 := .foldl (fun u x => inTri_setPeer x _ u) _ s
  clear_value s1
  exact (h1.trans (inTri_setPeer _ _ s1)).trans (inTri_triF _ _)

theorem inTri_openCycle (s : State) : InTri (opened s) (openCycle s) := inTri_newTriadCycle (opened s)

theorem openCycle_state (s : State) : (openCycle s).tri.state = s.tri.state := newTriadCycle_state (opened s)

theorem completes_capture {fb mo : Bool} {s : State} (hrun : sequencerRuns s = true) (hcomplete : s.seq.complete = true)
    (hphase : s.seq.phase ≠ .release) (hover : s.seq.phase = .waiting → s.seq.overrun = true) (htri : s.tri.state = .off)
    (hret : ∀ c < 64, (s.core c).retiring = false) :
    ∃ (u v : State) (fresh : Nat), Begins (advance s.seq.nextStart s) u ∧ Begins (openCycle u) v
      ∧ v.bth = (openCycle u).bth ∧ fresh.testBit 6 = true ∧ fresh.testBit 7 = true
      ∧ exec (.capture fb mo) s = .next { v with seq := { v.seq with notFresh := BitVec.ofNat 8 fresh } } := by
  have hmode : s.keep.mode ≠ .hold := fun h => by simp [sequencerRuns, h] at hrun
  have hb := cycleBoundary_alone (s := advance s.seq.nextStart s) (by simpa using hmode) (by simpa using htri)
    (fun c hc => by rw [State.core, advance_cores]; exact hret c hc)
  have hu : Begins (advance s.seq.nextStart s) (flushGathered (cycleBoundary (advance s.seq.nextStart s))) := hb.trans (begins_flushGathered _)
  have hm : (cycleBoundary (advance s.seq.nextStart s)).keep.mode ≠ .hold := by rw [hb.mode]; simpa using hmode
  have hnot : ¬ (s.seq.phase = .release ∨ (s.seq.phase = .waiting ∧ s.seq.overrun = false)) := by
    rintro (h | ⟨hw, ho⟩)
    · exact hphase h
    · simp [hover hw] at ho
  refine ⟨_, _, staleAtCapture fb mo (openCycle (flushGathered (cycleBoundary (advance s.seq.nextStart s)))), hu,
    (begins_writeAreas (staleAtCapture fb mo (openCycle (flushGathered (cycleBoundary (advance s.seq.nextStart s))))) _).trans (begins_clearHappenings _),
    bth_writeAreas _ _, (staleAtCapture_testBit _ _ _).1, (staleAtCapture_testBit _ _ _).2, ?_⟩
  show execCapture fb mo s = _
  unfold execCapture
  extract_lets s0 s1 s2 st s3 _ s4
  have hactive : triadActive s4 = false := by
    have h3 : s3.tri.state = .off := by
      rw [show s3.tri = s2.tri from ((begins_writeAreas st s2).trans (begins_clearHappenings _)).tri,
        show s2.tri.state = _ from openCycle_state _, show (flushGathered s1).tri = _ from hu.tri]
      simpa using htri
    have h4 : s4.tri = s3.tri := rfl
    rw [triadActive, h4, h3]
    rfl
  rw [if_neg (by simp [hrun]), if_neg (by simp [hcomplete]), if_neg hnot, if_neg hm, hactive]
  rfl

theorem testBit_ofNat_eight {n b : Nat} (hb : b < 8) (h : n.testBit b = true) : (BitVec.ofNat 8 n).getLsbD b = true := by
  rw [BitVec.getLsbD_ofNat, h, decide_eq_true hb]
  rfl

/-- CAPTURE of a module alone starts the next cycle (R54, R55, R59, R61, R116). -/
theorem capture_starts (fb mo : Bool) (s : State) (hrun : sequencerRuns s = true) (hcomplete : s.seq.complete = true)
    (hphase : s.seq.phase ≠ .release) (hover : s.seq.phase = .waiting → s.seq.overrun = true) (htri : s.tri.state = .off)
    (hret : ∀ c < 64, (s.core c).retiring = false) :
    Completes (.capture fb mo) s (fun t =>
      t.seq.phase = .capture ∧ t.seq.mcc = (if s.seq.captured then (s.seq.mcc + 1) % 2 ^ 48 else 0) ∧ t.seq.captured = true
      ∧ t.seq.start = s.seq.nextStart ∧ t.seq.nextStart = s.seq.nextStart + 10_000 * s.seq.period ∧ s.seq.nextStart ≤ t.now
      ∧ t.seq.complete = false ∧ t.seq.overrun = false ∧ t.seq.motionList = [] ∧ t.seq.fieldList = [] ∧ t.seq.outWritten = []
      ∧ t.bth.batch = [] ∧ t.svc.mcc = BitVec.ofNat 32 t.seq.mcc ∧ t.seq.notFresh.getLsbD 6 = true ∧ t.seq.notFresh.getLsbD 7 = true
      ∧ (∀ n, (look {} n t.timers).started = ((look {} n s.timers).next).getD (look {} n s.timers).started)
      ∧ t.keep.mode = s.keep.mode ∧ t.image = s.image ∧ t.ctl = s.ctl) := by
  obtain ⟨u, v, fresh, hu, hv, hbth, h6, h7, hexec⟩ := completes_capture (fb := fb) (mo := mo) hrun hcomplete hphase hover htri hret
  refine ⟨_, hexec, ?_⟩
  have ho : openCycle u = { opened u with tri := (openCycle u).tri } := inTri_openCycle u
  have hawake : s.keep.mode ≠ .stabled := fun h => by simp [sequencerRuns, h] at hrun
  have hnow : s.seq.nextStart ≤ v.now := by
    have h : v.time = (advance s.seq.nextStart s).time := by rw [hv.time, ho, ← hu.time]; rfl
    rw [State.now, h]
    exact le_now_advance hawake
  have hmcc : nextMcc u = if s.seq.captured then (s.seq.mcc + 1) % 2 ^ 48 else 0 := by
    have hc : u.seq.captured = s.seq.captured := by rw [hu.seq, advance_seq]
    have hm : u.seq.mcc = s.seq.mcc := by rw [hu.seq, advance_seq]
    have hj : u.tri.state ≠ .joining := by rw [hu.tri, advance_tri, htri]; decide
    rw [nextMcc, hc, hm, if_neg hj]
  have hseq := hv.seq
  rw [ho] at hseq
  have hus := hu.seq
  rw [advance_seq] at hus
  have hmode : v.keep.mode = s.keep.mode := by rw [hv.mode, ho]; exact hu.mode.trans (advance_keep_mode _ s)
  have htimers : v.timers = s.timers.map (fun p => (p.1, p.2.begun)) := by rw [hv.timers, ho, ← advance_timers s.seq.nextStart s, ← hu.timers]; rfl
  have hsvc : v.svc.mcc = w32 (nextMcc u) := by rw [hv.svcMcc, ho]; rfl
  have hbatch : v.bth.batch = [] := by rw [hbth, ho]; rfl
  have himage : v.image = s.image := by rw [hv.image, ho, ← advance_image s.seq.nextStart s, ← hu.image]; rfl
  have hctl : v.ctl = s.ctl := by rw [hv.ctl, ho, ← advance_ctl s.seq.nextStart s, ← hu.ctl]; rfl
  have hus' : u.seq.nextStart = s.seq.nextStart := by rw [hus]
  have hphase' : v.seq.phase = .capture := by rw [hseq]; rfl
  have hmcc' : v.seq.mcc = nextMcc u := by rw [hseq]; rfl
  refine ⟨hphase', hmcc'.trans hmcc, by rw [hseq]; rfl, ?_, ?_, hnow, by rw [hseq]; rfl, by rw [hseq]; rfl, by rw [hseq]; rfl, by rw [hseq]; rfl,
    by rw [hseq]; rfl, hbatch, hsvc.trans (congrArg _ hmcc'.symm), testBit_ofNat_eight (by decide) h6, testBit_ofNat_eight (by decide) h7, fun n => ?_, hmode, himage, hctl⟩
  · rw [hseq, ← hus']; rfl
  · rw [hseq]; show u.seq.nextStart + 10_000 * u.seq.period = _; rw [hus]
  · show (look {} n v.timers).started = _
    rw [htimers, look_map_fixed rfl, LTimer.begun_started]

/-! ### The sources of INBOX and batch (R63 to R65) -/

theorem getLsbD_setFresh (n b : Nat) (s : State) :
    (setFresh n s).seq.notFresh.getLsbD b = (s.seq.notFresh.getLsbD b && b != n) := by
  have hval : (setFresh n s).seq.notFresh = s.seq.notFresh &&& ~~~(BitVec.ofNat 8 (2 ^ n)) := rfl
  rw [hval, BitVec.getLsbD_and, BitVec.getLsbD_not]
  by_cases hb : b < 8
  · rw [BitVec.getLsbD_ofNat, Nat.testBit_two_pow, decide_eq_true hb]
    by_cases hbn : b = n
    · simp [hbn]
    · simp [hbn, Ne.symm hbn]
  · rw [BitVec.getLsbD_of_ge _ _ (Nat.le_of_not_lt hb)]
    rfl

theorem look_map_related {α β : Type} {d : α} {e : β} {f : Nat → α → β} (R : α → β → Prop) (hd : R d e) (hf : ∀ k x, R x (f k x)) (k : Nat) (l : Tab α) :
    R (look d k l) (look e k (l.map (fun p => (p.1, f p.1 p.2)))) := by
  induction l with
  | nil => exact hd
  | cons p l ih =>
    rw [List.map_cons, look_cons, look_cons]
    split
    · exact hf _ _
    · exact ih

/-- The connection as the exchange of the INBOX buffers leaves it: what has come in is what the cycle reads, and its slot is empty. -/
theorem conn_swapInbox (c : Nat) (s : State) :
    ((swapInbox s).conn c).frozen = (s.conn c).fill ∧ ((swapInbox s).conn c).fill = none ∧ ((swapInbox s).conn c).status = (s.conn c).status := by
  refine look_map_related (d := ({} : Conn)) (e := ({} : Conn)) (f := fun k (x : Conn) => { x with
    frozen := x.fill, fill := none, kept := x.frozen
    keptWords := sramWords (inboxBase (1 - s.seq.inboxFill) + 4 * connSlot s.net.table k) (connS s.net.table k) s }) (fun x y : Conn => y.frozen = x.fill ∧ y.fill = none ∧ y.status = x.status) ⟨rfl, rfl, rfl⟩ (fun _ _ => ⟨rfl, rfl, rfl⟩) c s.net.conns

theorem sramWord_swapInbox {i : Nat} (hi : i < 0x8_0000) (s : State) : sramWord (inboxBase (1 - s.seq.inboxFill) + 4 * i) (swapInbox s) = 0 :=
  sramWord_sramClear (by omega) (by omega) (by unfold inboxBase; omega) _

theorem netWorks_advance (n : Nat) (s : State) : netWorks (advance n s) = netWorks s := by
  simp only [netWorks, State.reiniting, advance_net, advance_keep_reinit, advance_keep_mode]

/-- The INBOX buffers of a module alone are exchanged in CAPTURE, and source 6 is fresh (R63, R64). -/
theorem inboxSwap_reports {ns : Nat} {s : State} (hphase : s.seq.phase = .capture) (htri : s.tri.state = .off)
    (hstale : s.seq.notFresh.getLsbD 6 = true) (hnet : netWorks s = true) (hin : ns ≤ s.seq.start + 10_000) :
    Completes (.inboxSwap ns) s (fun t => t.seq.inboxFrozen = s.seq.inboxFill ∧ t.seq.inboxFill = 1 - s.seq.inboxFill
      ∧ (∀ b, t.seq.notFresh.getLsbD b = (s.seq.notFresh.getLsbD b && b != 6)) ∧ ns ≤ t.now ∧ t.seq.phase = .capture
      ∧ (∀ c, (t.conn c).frozen = (s.conn c).fill ∧ (t.conn c).fill = none ∧ (t.conn c).status = (s.conn c).status)
      ∧ (∀ i < 0x8_0000, sramWord (inboxBase (1 - s.seq.inboxFill) + 4 * i) t = 0) ∧ t.bth = s.bth ∧ t.mot = s.mot ∧ t.ctl = s.ctl) := by
  have hawake : s.keep.mode ≠ .stabled := fun h => by simp [netWorks, h] at hnet
  have hx : exec (.inboxSwap ns) s = .next (setFresh 6 (swapInbox (advance ns s))) := by
    show execInboxSwap ns s = _
    unfold execInboxSwap
    extract_lets s0 s1 J
    have hcond : s0.seq.phase = .capture ∧ s0.seq.notFresh.getLsbD 6 = true ∧ netWorks s0 = true ∧ ns ≤ s0.seq.start + 10_000 := by
      simp only [s0, advance_seq, netWorks_advance]
      exact ⟨hphase, hstale, hnet, hin⟩
    have htri' : s1.tri.state = .off := (congrArg Tri.state (advance_tri ns s)).trans htri
    rw [if_pos hcond, show triadActive s1 = false by rw [triadActive, htri']; rfl]
    rfl
  have hs : (advance ns s).seq = s.seq := advance_seq ns s
  have hconn : ∀ c, (advance ns s).conn c = s.conn c := fun c => by rw [State.conn, advance_net]; rfl
  refine ⟨_, hx, congrArg Seq.inboxFill hs, congrArg (fun q : Seq => 1 - q.inboxFill) hs, fun b => ?_, le_now_advance (n := ns) hawake,
    (congrArg Seq.phase hs).trans hphase, fun c => hconn c ▸ conn_swapInbox c (advance ns s), ?_,
    advance_bth ns s, advance_mot ns s, advance_ctl ns s⟩
  · rw [getLsbD_setFresh 6 b]
    show ((advance ns s).seq.notFresh.getLsbD b && b != 6) = _
    rw [hs]
  · rw [← hs]
    exact fun i hi => sramWord_swapInbox hi (advance ns s)

theorem bth_recordC (code flags count : Nat) (extra : List Byte) (s : State) : (recordC code flags count extra s).bth = s.bth := by
  obtain ⟨j, k, q, h⟩ := recordC_frame code flags count extra s
  rw [h]

/-- Talk that leaves the command batch and what waits for the next as they are. -/
structure TalksBeside (s t : State) : Prop where
  talks : Talks s t
  batch : t.bth.batch = s.bth.batch
  filling : t.bth.filling = s.bth.filling

namespace TalksBeside

theorem trans {s t u : State} (h : TalksBeside s t) (k : TalksBeside t u) : TalksBeside s u :=
  ⟨h.talks.trans k.talks, k.batch.trans h.batch, k.filling.trans h.filling⟩

theorem foldl {α : Type} {op : State → α → State} (h : ∀ u i, TalksBeside u (op u i)) (l : List α) (s : State) : TalksBeside s (l.foldl op s) := by
  induction l generalizing s with
  | nil => exact ⟨.refl s, rfl, rfl⟩
  | cons i l ih => exact (h s i).trans (ih _)

end TalksBeside

theorem talksBeside_setBerth (b : Nat) (f : Berth → Berth) (s : State) : TalksBeside s (setBerth b f s) := ⟨talks_setBerth b f s, rfl, rfl⟩

theorem talksBeside_recordC (code flags count : Nat) (extra : List Byte) (s : State) : TalksBeside s (recordC code flags count extra s) :=
  ⟨talks_recordC _ _ _ _ s, congrArg Berths.batch (bth_recordC _ _ _ _ s), congrArg Berths.filling (bth_recordC _ _ _ _ s)⟩

/-- The answer and the record to an entry beyond the batch's limit (R65). -/
theorem talksBeside_refuseEntry (e : BatchEntry) (s : State) (a : EntryAnswer) :
    TalksBeside s (answerEntry e a (recordC 0x1104 0 1 (le 4 e.berth ++ le 4 e.obj) s)) :=
  (talksBeside_recordC _ _ _ _ s).trans (talksBeside_setBerth e.berth _ _)

/-- The batch is closed by the freeze mark (R65). -/
theorem takeBatch_spec {s : State} (htri : triadActive s = false) {due : List BatchEntry}
    (hdue : due = (batchOrder (s.bth.filling.filter (fun e => e.stamp + 20 < s.seq.start))).map (fun e => { e with member := 0 })) :
    (takeBatch s).bth.batch = due.take (batchMax s)
      ∧ (takeBatch s).bth.filling = s.bth.filling.filter (fun e => ¬ e.stamp + 20 < s.seq.start)
      ∧ (∃ q, (takeBatch s).seq = { s.seq with batchRefused := sat 0xFFFF (due.length - batchMax s), lastCode := q })
      ∧ (takeBatch s).sram = s.sram ∧ (takeBatch s).mot = s.mot ∧ (takeBatch s).ctl = s.ctl := by
  unfold takeBatch
  extract_lets due' rest excess _ _ s1 s2
  have hd : due' = due := by
    rw [hdue]
    show List.map (fun e : BatchEntry => { e with member := if triadActive s then s.member else 0 }) _ = _
    rw [htri]
    rfl
  have hrest : rest = s.bth.filling.filter (fun e => ¬ e.stamp + 20 < s.seq.start) :=
    List.filter_congr (fun e _ => (decide_not (p := e.stamp + 20 < s.seq.start)).symm)
  have h1 : s1.bth.batch = due.take (batchMax s) ∧ s1.bth.filling = rest
      ∧ s1.seq = { s.seq with batchRefused := sat 0xFFFF (due.length - batchMax s) } ∧ s1.sram = s.sram ∧ s1.mot = s.mot ∧ s1.ctl = s.ctl :=
    ⟨hd ▸ rfl, rfl, by rw [← List.length_drop, ← hd], rfl, rfl, rfl⟩
  have h2 : TalksBeside s1 s2 := .foldl (fun u e => talksBeside_refuseEntry e u _) excess s1
  clear_value s2
  have h3 : TalksBeside s1 ((List.range 8).foldl (fun s b => setBerth b (fun B => { B with filled := (rest.filter (fun e => e.berth == b)).length }) s) s2) :=
    h2.trans (.foldl (fun u b => talksBeside_setBerth b _ u) _ s2)
  obtain ⟨hbatch, hfilling, hseq, hsram, hmot, hctl⟩ := h1
  have hq := h3.talks.seq
  rw [hseq] at hq
  refine ⟨h3.batch.trans hbatch, h3.filling.trans (hfilling.trans hrest), 
    ⟨_, hq⟩, h3.talks.sram.trans hsram, h3.talks.mot.trans hmot,
    h3.talks.ctl.trans hctl⟩

/-- The freeze mark of a module alone closes the batch in CAPTURE, and source 7 is fresh (R65). -/
theorem freezeMark_reports {ns : Nat} {s : State} (hphase : s.seq.phase = .capture) (htri : s.tri.state = .off)
    (hstale : s.seq.notFresh.getLsbD 7 = true) (hin : ns ≤ s.seq.start + 15_000) {due : List BatchEntry}
    (hdue : due = (batchOrder (s.bth.filling.filter (fun e => e.stamp + 20 < s.seq.start))).map (fun e => { e with member := 0 })) :
    Completes (.freezeMark ns) s (fun t =>
      t.bth.batch = due.take (batchMax s) ∧ t.seq.batchRefused = sat 0xFFFF (due.length - batchMax s)
      ∧ t.bth.filling = s.bth.filling.filter (fun e => ¬ e.stamp + 20 < s.seq.start)
      ∧ (∀ b, t.seq.notFresh.getLsbD b = (s.seq.notFresh.getLsbD b && b != 7)) ∧ t.sram = s.sram ∧ t.mot = s.mot ∧ t.ctl = s.ctl) := by
  have hx : exec (.freezeMark ns) s = .next (setFresh 7 (takeBatch (advance ns s))) := by
    refine if_pos ?_
    rw [advance_seq]
    exact ⟨hphase, hstale, hin⟩
  have hactive : triadActive (advance ns s) = false := by
    rw [triadActive, advance_tri, htri]
    rfl
  obtain ⟨hbatch, hfilling, ⟨q, hseq⟩, hsram, hmot, hctl⟩ := takeBatch_spec hactive (due := due) (by rw [advance_seq, advance_bth]; exact hdue)
  have hmax : batchMax (advance ns s) = batchMax s := by
    have htri : (advance ns s).triadOn = s.triadOn := by simp only [State.triadOn, cbit, advance_ctlGet]
    rw [batchMax, batchMax, htri]
  rw [advance_seq] at hseq hfilling
  rw [hmax] at hbatch hseq
  refine ⟨_, hx, hbatch, congrArg Seq.batchRefused hseq, hfilling.trans (congrArg _ (congrArg Berths.filling (advance_bth ns s))), fun b => ?_,
    hsram.trans (advance_sram ns s), hmot.trans (advance_mot ns s), hctl.trans (advance_ctl ns s)⟩
  rw [getLsbD_setFresh 7 b, hseq]

/-- Settles O12: CAPTURE opens the cycle behind what the boundary and the gathering change, and the sources' reports are the exchange of the INBOX
buffers and the closing of the batch. -/
theorem captureAndSources : Obligations.CaptureAndSources := by
  unfold Obligations.CaptureAndSources
  exact ⟨capture_starts, fun ns s hphase htri => ⟨fun hstale hnet hin => inboxSwap_reports hphase htri hstale hnet hin,
    fun hstale hin => freezeMark_reports hphase htri hstale hin rfl⟩⟩

end Sys2Proof.Machine
end

section
/-!
PROOFS. The release decision of a triad member and the transfer deadline of a joiner (O20).
-/
namespace Sys2Proof.Machine

/-! ### The release is handed over (R81 to R85) -/

/-- Nothing but the peripheral regions on the way of a release, the buffers of the OUTBOX, and what `Talks` names, differs. -/
structure Delivers (s t : State) : Prop where
  rest : t = { s with
    jnl := t.jnl, bth := t.bth, free := t.free, svc := { s.svc with toggles := t.svc.toggles }, fbk := t.fbk, fld := t.fld, net := t.net
    keep := { s.keep with lastCode := t.keep.lastCode }
    seq := { s.seq with lastCode := t.seq.lastCode, outboxHeld := t.seq.outboxHeld, outboxCur := t.seq.outboxCur } }
  raised : s.svc.toggles <+: t.svc.toggles

namespace Delivers

theorem refl (s : State) : Delivers s s := ⟨rfl, List.prefix_rfl⟩

variable {s t u : State}

theorem trans (h : Delivers s t) (k : Delivers t u) : Delivers s u := ⟨by rw [k.rest, h.rest], h.raised.trans k.raised⟩

theorem foldl {α : Type} {op : State → α → State} (h : ∀ u i, Delivers u (op u i)) (l : List α) (s : State) : Delivers s (l.foldl op s) := by
  induction l generalizing s with
  | nil => exact .refl s
  | cons i l ih => exact (h s i).trans (ih _)

theorem ite {p : Prop} [Decidable p] (h : Delivers s t) (k : Delivers s u) : Delivers s (if p then t else u) := by
  split
  · exact h
  · exact k

theorem of_talks (h : Talks s t) : Delivers s t := ⟨by rw [h.rest], h.raised⟩
theorem of_inFbk (h : InFbk s t) : Delivers s t := ⟨by rw [h.rest], h.raised⟩
theorem of_inside {f : Nat} (h : Inside f s t) : Delivers s t := ⟨by rw [h.rest], h.raised⟩

theorem tri (h : Delivers s t) : t.tri = s.tri := by rw [h.rest]
theorem mot (h : Delivers s t) : t.mot = s.mot := by rw [h.rest]
theorem mode (h : Delivers s t) : t.keep.mode = s.keep.mode := by rw [h.rest]
theorem motionList (h : Delivers s t) : t.seq.motionList = s.seq.motionList := by rw [h.rest]

end Delivers

theorem delivers_setNet (n : Net) (s : State) : Delivers s { s with net := n } := ⟨rfl, List.prefix_rfl⟩
theorem delivers_setFld (f : Field) (s : State) : Delivers s { s with fld := f } := ⟨rfl, List.prefix_rfl⟩
theorem delivers_setBlock (n : Nat) (f : Block → Block) (s : State) : Delivers s (setBlock n f s) := ⟨rfl, List.prefix_rfl⟩

theorem inFbk_sectionCommand (cmd k : Nat) (fieldsOk excess : Bool) (s : State) : InFbk s (sectionCommand cmd k fieldsOk excess s) := by
  unfold sectionCommand
  extract_lets refuse c s1
  have hrefuse : ∀ r, InFbk s (refuse r) := fun r => (inFbk_setSection k _ s).trans (inFbk_record rfl _ _)
  have h1 : InFbk s s1 := inFbk_setSection k _ s
  clear_value refuse s1
  refine .ite (hrefuse 1) (.ite (hrefuse 2) (.ite ((inFbk_disturb k 10 s).trans (inFbk_setSection k _ _)) (.ite (hrefuse 3) (.ite (hrefuse 3)
    (.ite (hrefuse 4) (.ite ?_ ?_))))))
  · exact (h1.trans (inFbk_secState k .clear s1)).trans (inFbk_record rfl _ _)
  · exact (h1.trans (inFbk_secState k .restoring s1)).trans (inFbk_record rfl _ _)

theorem delivers_sectionPost (cmd : Nat) (a b c : Word) (excess : Bool) (s : State) : Delivers s (sectionPost cmd a b c excess s) := by
  unfold sectionPost
  extract_lets ch fields
  refine .ite (.of_inFbk (inFbk_sectionCommand _ _ _ _ s)) ((delivers_setFld _ s).trans (.of_talks ((talks_record _ _ _).trans (talks_raise _ _))))

theorem delivers_refuseFields (n : Nat) (own : List Post) (dem : Word) (s : State) : Delivers s (own.foldl (fun s q => fieldCommand n dem q s) s) :=
  .foldl (fun u q => .of_inside (steady_fieldCommand n dem q u).inside) own s

theorem delivers_releaseField (s : State) : Delivers s (releaseField s) := by
  unfold releaseField
  extract_lets isSec secs disturbed s1
  have h1 : Delivers s s1 := .foldl (fun u q => delivers_sectionPost _ _ _ _ _ u) _ s
  clear_value s1
  refine h1.trans (.foldl (fun u n => ?_) _ s1)
  exact .ite ((delivers_refuseFields _ _ _ u).trans (delivers_setBlock n _ _)) (delivers_setBlock n _ u)

theorem delivers_enqueue (p q : Nat) (frame : List Byte) (s : State) : Delivers s (enqueue p q frame s) := delivers_setNet _ s

theorem delivers_connRecord (c code : Nat) (args : List Nat) (s : State) : Delivers s (connRecord c code args s) :=
  (delivers_setNet _ s).trans (.of_talks (talks_record _ _ _))

theorem delivers_raiseCeiling (s : State) : Delivers s (raiseCeiling s) := .ite (delivers_setNet _ s) (.refl s)

theorem delivers_sendUnit (c : Nat) (u : List Byte) (s : State) : Delivers s (sendUnit c u s) := by
  unfold sendUnit
  extract_lets t copies
  exact (delivers_setNet _ s).trans (.foldl (fun v q => delivers_enqueue _ _ _ v) _ _)

theorem delivers_sealConn (c : Nat) (s : State) : Delivers s (sealConn c s) := by
  unfold sealConn
  extract_lets base w inner next e _ s1
  have hfault : ∀ code, Delivers s (raise 196 (connRecord c code [] s)) := fun code =>
    (delivers_connRecord c code [] s).trans (.of_talks (talks_raise 196 _))
  have h1 : Delivers s s1 := ((delivers_setNet _ s).trans (delivers_setNet _ _)).trans (delivers_raiseCeiling _)
  clear_value s1
  exact .ite (.refl s) (.ite (hfault _) (.ite (delivers_sendUnit _ _ s) (.ite (hfault _) (h1.trans (delivers_sendUnit _ _ s1)))))

theorem delivers_drainPort (s : State) (p : Nat) : Delivers s (drainPort s p) := delivers_setNet _ s

theorem delivers_sealAll (s : State) : Delivers s (sealAll s) := by
  unfold sealAll
  extract_lets s1 _ _
  have h1 : Delivers s s1 := .foldl (fun u c => delivers_sealConn c u) _ s
  clear_value s1
  exact .ite ((h1.trans (delivers_setNet _ s1)).trans (.foldl delivers_drainPort _ _)) (delivers_setNet _ s)

theorem delivers_releaseOutbox (s : State) : Delivers s (releaseOutbox s) := by
  unfold releaseOutbox
  extract_lets s1 _ _ s2
  have h1 : Delivers s s1 := .ite (.refl s) (.of_talks (talks_record _ _ s))
  clear_value s1
  have h2 : Delivers s1 s2 := ⟨rfl, List.prefix_rfl⟩
  clear_value s2
  exact ((h1.trans h2).trans (delivers_setNet _ s2)).trans (delivers_sealAll _)

/-- The state of a release when its journal requests and its batch have been answered. -/
def released (s : State) : State := answerBatch true (journalSlots false (releaseOutbox (releaseMotion (releaseField s))))

/-- The sequencer and the keeper after a release. -/
def handedOver (words : Tab Word) (low : Bool) (s : State) : State :=
  raise 16 { s with
    seq := { s.seq with overruns := 0, stale := false, motionList := [], fieldList := [], statusWords := words }
    keep := { s.keep with liveLow := low } }

theorem handedOver_spec (words : Tab Word) (low : Bool) (s : State) : (handedOver words low s).tri = s.tri ∧ (handedOver words low s).mot = s.mot
    ∧ (handedOver words low s).keep.mode = s.keep.mode ∧ (handedOver words low s).seq.motionList = [] ∧ (handedOver words low s).seq.stale = false :=
  ⟨rfl, rfl, rfl, rfl, rfl⟩

theorem handOver_eq (s : State) : ∃ words low, handOver s = handedOver words low (released s) := ⟨_, _, rfl⟩

theorem talks_released (s : State) : Talks (releaseOutbox (releaseMotion (releaseField s))) (released s) := by
  unfold released
  exact (talks_journalSlots false _).trans (talks_answerBatch true _)

theorem released_spec (s : State) : (released s).tri = s.tri ∧ (released s).keep.mode = s.keep.mode
    ∧ (released s).mot.arriving = some { posts := s.seq.motionList } := by
  have hf := delivers_releaseField s
  have ho := delivers_releaseOutbox (releaseMotion (releaseField s))
  have h2 := talks_released s
  have hm : (releaseMotion (releaseField s)).mot.arriving = some { posts := (releaseField s).seq.motionList } := rfl
  refine ⟨h2.tri.trans (ho.tri.trans hf.tri), h2.mode.trans (ho.mode.trans hf.mode), ?_⟩
  rw [h2.mot, ho.mot, hm, hf.motionList]

/-- A release hands the motion posts of the cycle over; the triad part and the mode stay (R81, R84). -/
theorem handOver_spec (s : State) : (handOver s).tri = s.tri ∧ (handOver s).seq.motionList = []
    ∧ (handOver s).mot.arriving = some { posts := s.seq.motionList } ∧ (handOver s).keep.mode = s.keep.mode ∧ (handOver s).seq.stale = false := by
  obtain ⟨htri, hmode, harriving⟩ := released_spec s
  obtain ⟨words, low, h⟩ := handOver_eq s
  obtain ⟨htri', hmot', hmode', hposts, hstale⟩ := handedOver_spec words low (released s)
  rw [h, htri', hmot', hmode']
  exact ⟨htri, hposts, harriving, hmode, hstale⟩

/-! ### HOLD takes the posts back (R518) -/

theorem arriving_disableAxes (code : Nat) (s : State) : (disableAxes code s).mot.arriving = s.mot.arriving := by
  unfold disableAxes
  extract_lets m s1
  have h1 : s1.mot.arriving = s.mot.arriving := by
    refine foldl_keeps (fun u : State => u.mot.arriving) (fun u n => ?_) _ s
    show (if _ then _ else _ : State).mot.arriving = _
    split <;> rfl
  clear_value s1
  split
  · exact h1
  · rw [(talks_record code [m] s1).mot]
    exact h1

theorem arriving_dropReady (s : State) : (dropReady s).mot.arriving = s.mot.arriving := by
  unfold dropReady
  refine foldl_keeps (fun u : State => u.mot.arriving) (fun u q => ?_) _ _
  rw [(talks_record _ _ _).mot]
  rfl

theorem arriving_enterHold {cause : Nat} {s : State} (h : s.keep.mode ≠ .hold) : (enterHold cause s).mot.arriving = none := by
  have h1 : (stopAll cause s).mot.arriving = none := by
    unfold stopAll
    rw [(leaveTriad_spec cause _).1.mot, arriving_disableAxes, arriving_dropReady]
  obtain ⟨stage, ms, h5, -⟩ := endBoot_spec (stopAll cause s)
  have h7 := (talks_setMode .hold cause (endBoot (stopAll cause s))).trans (talks_askCheckpoint _)
  have h8 := talks_applyHeldSamples (askCheckpoint (setMode .hold cause (endBoot (stopAll cause s))))
  have h9 := ((h8.trans (talks_askFrame _)).trans (talks_answerAllHeld _)).trans (talks_alertAll cause [] _)
  rw [enterHold_of_mode h, h9.mot]
  show (askCheckpoint (setMode .hold cause (endBoot (stopAll cause s)))).mot.arriving = none
  rw [h7.mot]
  show (endBoot (stopAll cause s)).mot.arriving = none
  rw [h5.mot]
  exact h1

/-- HOLD of a member that was in the triad part: nothing is released (R237, R518). -/
theorem enterHold_withholds {code : Nat} {s : State} (hmode : s.keep.mode ≠ .hold) (htri : s.tri.state = .out) :
    (enterHold code s).keep.mode = .hold ∧ (enterHold code s).keep.cause = BitVec.ofNat 16 code ∧ (enterHold code s).tri.state = .out
      ∧ (enterHold code s).seq.motionList = [] ∧ (enterHold code s).mot.arriving = none := by
  have h := entersHold (cause := code) hmode
  refine ⟨mode_enterHold _ _, cause_enterHold hmode, ?_, ?_, arriving_enterHold hmode⟩
  · rw [h.tri, htri, if_neg (by decide)]
  · rw [h.seq]
    rfl

/-! ### The release decision (R237 to R239) -/

/-- A cycle that is discarded leaves motion, mode and the triad part as they were (R238). -/
theorem discardCycle_keeps (s : State) : (discardCycle s).tri = s.tri ∧ (discardCycle s).mot = s.mot ∧ (discardCycle s).keep.mode = s.keep.mode
    ∧ (discardCycle s).seq.motionList = [] ∧ (discardCycle s).seq.stale = true := by
  obtain ⟨u, hu, hd⟩ := discardCycle_spec s
  rw [hd]
  exact ⟨hu.tri, hu.mot, hu.mode, rfl, rfl⟩

theorem setTri_out (s : State) : (setTri .out s).tri.state = .out ∧ (setTri .out s).keep = s.keep := by
  unfold setTri
  split
  · next h => exact ⟨h, rfl⟩
  · exact ⟨rfl, rfl⟩

/-- What a member that goes to HOLD at its release decision leaves, in the triad or out of it. -/
theorem applyVerdict_hold {code : Nat} {s : State} {v : Verdict} (hv : v = .hold code ∨ (v = .leave code ∧ s.tri.state = .triad))
    (hmode : s.keep.mode ≠ .hold) :
    (applyVerdict v s).keep.mode = .hold ∧ (applyVerdict v s).keep.cause = BitVec.ofNat 16 code ∧ (applyVerdict v s).tri.state = .out
      ∧ (applyVerdict v s).seq.motionList = [] ∧ (applyVerdict v s).mot.arriving = none := by
  obtain ⟨htri, -, hm, -, -⟩ := discardCycle_keeps s
  have hr := talks_record code [] (discardCycle s)
  have hleaves : s.tri.state = .triad → (departTriad code (discardCycle s)).keep.mode = .hold
      ∧ (departTriad code (discardCycle s)).keep.cause = BitVec.ofNat 16 code ∧ (departTriad code (discardCycle s)).tri.state = .out
      ∧ (departTriad code (discardCycle s)).seq.motionList = [] ∧ (departTriad code (discardCycle s)).mot.arriving = none := fun h => by
    obtain ⟨h1, h2, -⟩ := leaveTriad_spec code (record code [] (discardCycle s))
    refine enterHold_withholds ?_ ?_
    · rw [h1.keep, hr.mode, hm]
      exact hmode
    · rw [h2, hr.tri, htri, h, if_neg (by decide)]
  obtain rfl | ⟨rfl, h⟩ := hv
  · by_cases h : s.tri.state = .triad
    · rw [show applyVerdict (.hold code) s = departTriad code (discardCycle s) from if_pos h]
      exact hleaves h
    · rw [show applyVerdict (.hold code) s = departSilent code (discardCycle s) from if_neg h]
      obtain ⟨h1, h2⟩ := setTri_out (record code [] (discardCycle s))
      refine enterHold_withholds ?_ h1
      rw [h2, hr.mode, hm]
      exact hmode
  · exact hleaves h

theorem countAbsent_spec (s : State) : InTri s (countAbsent s) ∧ (countAbsent s).tri.state = s.tri.state
    ∧ (countAbsent s).tri.probation = s.tri.probation := by
  unfold countAbsent
  refine ⟨.foldl (fun u x => ?_) _ s, ?_, ?_⟩
  · exact inTri_setPeer x _ u
  · refine foldl_keeps (fun u : State => u.tri.state) (fun u x => ?_) _ s
    rfl
  · refine foldl_keeps (fun u : State => u.tri.probation) (fun u x => ?_) _ s
    rfl

/-- The state at the decision: time, the peers' absences and the counts have been brought up to date. -/
structure Decides (s u : State) : Prop where
  runs : exec .hashDeadline s = .next (applyVerdict (verdict s.tri.state (peerViews s).1 (peerViews s).2 (peersMatch s)) u)
  hashed : u.tri.hashed = true
  state : u.tri.state = s.tri.state
  probation : s.tri.state = .joining → u.tri.probation = s.tri.probation
  seq : u.seq = s.seq
  mot : u.mot = s.mot
  mode : u.keep.mode = s.keep.mode

theorem execHashDeadline_due {s : State} (hhash : s.tri.hashed = false) (hphase : s.seq.phase = .release) (hactive : triadActive s = true) :
    ∃ u, Decides s u := by
  obtain ⟨hc, hstate, hprob⟩ := countAbsent_spec (advance (s.deadline + 15_000) s)
  refine ⟨setTriF (fun t => { t with
    hashed := true, matched := matchedMask s, probation := if joinerMatches s then min 16 (t.probation + 1) else t.probation })
      (countAbsent (advance (s.deadline + 15_000) s)), ?_, rfl, ?_, fun hj => ?_, ?_, ?_, ?_⟩
  · have hn : ¬ (triadActive s = false ∨ s.tri.hashed = true ∨ (s.seq.phase ≠ .release ∧ s.seq.overrun = false)) := by
      simp [hactive, hhash, hphase]
    exact (if_neg hn).trans (if_pos hphase)
  · exact hstate.trans (congrArg Tri.state (advance_tri _ s))
  · have hj' : joinerMatches s = false := by simp [joinerMatches, hj]
    show (if joinerMatches s then _ else _ : Nat) = _
    rw [hj', if_neg (by decide), hprob, advance_tri]
  · show (countAbsent _).seq = _
    rw [hc, advance_seq]
  · show (countAbsent _).mot = _
    rw [hc, advance_mot]
  · show (countAbsent _).keep.mode = _
    rw [hc, advance_keep_mode]

section
variable {s u : State} (h : Decides s u)
include h

/-- A release, where the verdict is one. -/
theorem Decides.released (hv : verdict s.tri.state (peerViews s).1 (peerViews s).2 (peersMatch s) = .release) :
    Completes .hashDeadline s (fun t => t.tri.hashed = true ∧ t.seq.motionList = [] ∧ t.mot.arriving = some { posts := s.seq.motionList }
      ∧ t.keep.mode = s.keep.mode ∧ t.seq.stale = false) := by
  obtain ⟨htri, hposts, harriving, hmode, hstale⟩ := handOver_spec u
  refine ⟨handOver u, by rw [h.runs, hv]; rfl, ?_, hposts, ?_, hmode.trans h.mode, hstale⟩
  · rw [htri]
    exact h.hashed
  · rw [harriving, h.seq]

/-- No release, where both peers are absent. -/
theorem Decides.withheld {code : Nat} (hv : verdict s.tri.state (peerViews s).1 (peerViews s).2 (peersMatch s) = .noRelease code) :
    Completes .hashDeadline s (fun t => t.keep.mode = s.keep.mode ∧ t.mot = s.mot ∧ t.seq.stale = true ∧ t.seq.motionList = []) := by
  obtain ⟨-, hmot, hmode, hposts, hstale⟩ := discardCycle_keeps (record code [] u)
  have hr := talks_record code [] u
  exact ⟨discardCycle (record code [] u), by rw [h.runs, hv]; rfl, hmode.trans (hr.mode.trans h.mode), hmot.trans (hr.mot.trans h.mot), hstale, hposts⟩

/-- HOLD, where the verdict asks for it. -/
theorem Decides.held {code : Nat} (hmode : s.keep.mode ≠ .hold) {v : Verdict}
    (hv : verdict s.tri.state (peerViews s).1 (peerViews s).2 (peersMatch s) = v)
    (hcode : v = .hold code ∨ (v = .leave code ∧ s.tri.state = .triad)) :
    Completes .hashDeadline s (fun t => t.keep.mode = .hold ∧ t.keep.cause = BitVec.ofNat 16 code ∧ t.tri.state = .out
      ∧ t.seq.motionList = [] ∧ t.mot.arriving = none) := by
  refine ⟨applyVerdict v u, by rw [h.runs, hv], applyVerdict_hold ?_ (by rw [h.mode]; exact hmode)⟩
  rw [h.state]
  exact hcode

/-- A joiner that matches both peers comes one step nearer to taking part (R249). -/
theorem Decides.probates (hstate : s.tri.state = .joining)
    (hv : verdict s.tri.state (peerViews s).1 (peerViews s).2 (peersMatch s) = .probation) :
    Completes .hashDeadline s (fun t => t.tri.probation = min 16 (s.tri.probation + 1) ∧ t.mot = s.mot ∧ t.keep.mode = s.keep.mode) := by
  obtain ⟨htri, hmot, hmode, -, -⟩ := discardCycle_keeps (setTriF (fun t => { t with probation := min 16 (t.probation + 1) }) u)
  refine ⟨discardCycle (setTriF (fun t => { t with probation := min 16 (t.probation + 1) }) u), by rw [h.runs, hv]; rfl, ?_, hmot.trans h.mot,
    hmode.trans h.mode⟩
  rw [htri, ← h.probation hstate]
  rfl

end

/-! ### The transfer deadline (R247, R249) -/

/-- An attempt to join that has failed: the member is FORMING again (R249). -/
theorem failJoin_eq {code : Nat} {s : State} (h : s.tri.state = .joining) (hcode : code / 0x1000 = 5) : ∃ j L T,
    failJoin code s = raise 220 { s with jnl := j, svc := { s.svc with toggles := L }, tri := T } ∧ T.state = .forming
      ∧ T.attempts = min 4 (s.tri.attempts + 1) ∧ T.members = 0 ∧ T.joinAt = none := by
  unfold failJoin
  extract_lets s1 s2
  have h1 : InTri s s1 := .foldl (fun u x => inTri_setPeer x _ u) _ s
  have hattempts : s1.tri.attempts = s.tri.attempts := by
    refine foldl_keeps (fun u : State => u.tri.attempts) (fun u x => ?_) _ s
    rfl
  have hstate : s1.tri.state = .joining := by
    rw [← h]
    refine foldl_keeps (fun u : State => u.tri.state) (fun u x => ?_) _ s
    rfl
  clear_value s1
  obtain ⟨T, rfl⟩ : ∃ T, s1 = { s with tri := T } := ⟨_, h1⟩
  have h3 : setTri .forming s2 = raise 216 { s2 with tri := { s2.tri with state := .forming } } :=
    if_neg (fun hf : T.state = .forming => absurd (hstate.symm.trans hf) (by decide))
  obtain ⟨j, hr⟩ := jnlOnly_record code [] (setTri .forming s2) (by omega) (by omega)
  rw [hr, h3]
  exact ⟨j, _, _, rfl, rfl, congrArg (fun n => min 4 (n + 1)) hattempts, rfl, rfl⟩

theorem stateWrite_spec (i : Nat) (v : Word) (s : State) : stateWrite i v s = { s with sram := (stateWrite i v s).sram } := rfl

theorem loadState_spec (lo hi : List Byte) (s : State) : ∃ m l, loadState lo hi s = { s with sram := m, timers := l } := by
  have h : ∀ l : List (Word × Nat), l.foldl (fun s e => stateWrite e.2 e.1 s) s = { s with sram := (l.foldl (fun s e => stateWrite e.2 e.1 s) s).sram } := by
    intro l
    induction l generalizing s with
    | nil => rfl
    | cons e l ih =>
      rw [List.foldl_cons, ih]
      rfl
  unfold loadState
  extract_lets n recs s1 timer half
  have h1 : s1 = { s with sram := s1.sram } := h _
  clear_value s1
  exact ⟨s1.sram, _, by rw [h1]⟩

theorem advance_time {n : Nat} {s : State} (h : s.keep.mode ≠ .stabled) : ∃ τ, advance n s = { s with time := τ } := ⟨_, advance_onlyTime h⟩

theorem others_advance (n : Nat) (s : State) : (advance n s).others = s.others := by
  simp only [State.others, State.member, cf, advance_ctlGet]

theorem xferHeld_advance (n x : Nat) (s : State) : xferHeld x (advance n s) = xferHeld x s := by
  simp only [xferHeld, advance_tri]

theorem xferHalf_advance (n x : Nat) (s : State) : xferHalf x (advance n s) = xferHalf x s := by
  simp only [xferHalf, advance_tri]

/-- The transfer deadline of a joiner that is still to be given its state. -/
theorem exec_xferDeadline {start x y : Nat} {s : State} (hstate : s.tri.state = .joining) (hdone : s.tri.xferDone = false)
    (hcap : s.seq.captured = false) (hothers : s.others = [x, y]) {u v : State} (hu : u = advance (start - 10_000) s)
    (hv : v = loadState (xferHalf x u) (xferHalf y u) (setTriF (fun t => { t with xferDone := true, xferBytes := [], xferRanges := [] }) u)) :
    exec (.xferDeadline start) s
      = if start < s.tri.xferAt + 10_000 ∨ (!xferHeld x s) = true ∨ (!xferHeld y s) = true then .next (failJoin 0x5821 u)
        else if look [] x s.tri.xferHash = stateHash (xferHalf x s) (xferHalf y s) ∧ look [] y s.tri.xferHash = stateHash (xferHalf x s) (xferHalf y s)
          then .next { v with seq := { v.seq with nextStart := start } }
        else .next (failJoin 0x5822 u) := by
  subst hv
  have hn : ¬ (u.tri.state ≠ .joining ∨ u.tri.xferDone = true ∨ u.seq.captured = true) := by
    simp [hu, hstate, hdone, hcap]
  have hany : (u.others.any (fun x => !xferHeld x u)) = true ↔ (!xferHeld x s) = true ∨ (!xferHeld y s) = true := by
    rw [hu, others_advance, hothers]
    simp only [List.any_cons, List.any_nil, Bool.or_false, Bool.or_eq_true, xferHeld_advance]
  subst hu
  refine (if_neg hn).trans (if_congr (or_congr (by rw [advance_tri]) hany) rfl ?_)
  rw [others_advance, hothers]
  exact if_congr (by simp only [xferHalf_advance, advance_tri]) rfl rfl

/-- A joiner takes a transfer that is complete in time and whose hashes agree (R247). -/
theorem xferDeadline_accepts {start x y : Nat} {s : State} (hstate : s.tri.state = .joining) (hdone : s.tri.xferDone = false)
    (hcap : s.seq.captured = false) (hothers : s.others = [x, y]) (hmode : s.keep.mode ≠ .stabled) (hin : s.tri.xferAt + 10_000 ≤ start)
    (hx : xferHeld x s = true) (hy : xferHeld y s = true) (hdx : look [] x s.tri.xferHash = stateHash (xferHalf x s) (xferHalf y s))
    (hdy : look [] y s.tri.xferHash = stateHash (xferHalf x s) (xferHalf y s)) :
    Completes (.xferDeadline start) s (fun t => t.tri.xferDone = true ∧ t.tri.state = .joining ∧ t.seq.nextStart = start
      ∧ t = { s with time := t.time, tri := t.tri, sram := t.sram, timers := t.timers, seq := { s.seq with nextStart := start } }) := by
  refine ⟨_, (exec_xferDeadline hstate hdone hcap hothers rfl rfl).trans ((if_neg ?_).trans (if_pos ⟨hdx, hdy⟩)), ?_⟩
  · simp [hx, hy, hin]
  · obtain ⟨τ, hτ⟩ := advance_time (n := start - 10_000) hmode
    obtain ⟨m, l, hload⟩ := loadState_spec (xferHalf x { s with time := τ }) (xferHalf y { s with time := τ })
      (setTriF (fun t => { t with xferDone := true, xferBytes := [], xferRanges := [] }) { s with time := τ })
    rw [hτ, hload]
    exact ⟨rfl, hstate, rfl, rfl⟩

/-- A joiner whose transfer is late, incomplete or wrong is FORMING again (R249). -/
theorem xferDeadline_fails {start x y : Nat} {s : State} (hstate : s.tri.state = .joining) (hdone : s.tri.xferDone = false)
    (hcap : s.seq.captured = false) (hothers : s.others = [x, y]) (hmode : s.keep.mode ≠ .stabled)
    (hbad : ¬ s.tri.xferAt + 10_000 ≤ start ∨ xferHeld x s = false ∨ xferHeld y s = false
      ∨ look [] x s.tri.xferHash ≠ stateHash (xferHalf x s) (xferHalf y s) ∨ look [] y s.tri.xferHash ≠ stateHash (xferHalf x s) (xferHalf y s)) :
    Completes (.xferDeadline start) s (fun t => t.tri.state = .forming ∧ t.tri.attempts = min 4 (s.tri.attempts + 1) ∧ t.tri.members = 0
      ∧ t.tri.joinAt = none ∧ t = { s.noted t with tri := t.tri }) := by
  have hfails : ∀ code, code / 0x1000 = 5 → exec (.xferDeadline start) s = .next (failJoin code (advance (start - 10_000) s)) →
      Completes (.xferDeadline start) s (fun t => t.tri.state = .forming ∧ t.tri.attempts = min 4 (s.tri.attempts + 1) ∧ t.tri.members = 0
        ∧ t.tri.joinAt = none ∧ t = { s.noted t with tri := t.tri }) := fun code hcode h => by
    obtain ⟨τ, hτ⟩ := advance_time (n := start - 10_000) hmode
    rw [hτ] at h
    obtain ⟨j, L, T, hf, hst, hat, hme, hjo⟩ := failJoin_eq (code := code) (s := { s with time := τ }) hstate hcode
    rw [hf] at h
    exact ⟨_, h, hst, hat, hme, hjo, rfl⟩
  have hexec := exec_xferDeadline (start := start) hstate hdone hcap hothers rfl rfl
  by_cases hc : start < s.tri.xferAt + 10_000 ∨ (!xferHeld x s) = true ∨ (!xferHeld y s) = true
  · exact hfails 0x5821 rfl (hexec.trans (if_pos hc))
  · refine hfails 0x5822 rfl (hexec.trans ((if_neg hc).trans (if_neg ?_)))
    rintro ⟨hdx, hdy⟩
    simp only [not_or, Nat.not_lt, Bool.not_eq_true', Bool.not_eq_false] at hc
    obtain ⟨hin, hx, hy⟩ := hc
    simp [hin, hx, hy, hdx, hdy] at hbad

theorem triadActive_of {s : State} (h : s.tri.state = .triad ∨ s.tri.state = .pair ∨ s.tri.state = .joining) : triadActive s = true := by
  rw [triadActive]
  obtain h | h | h := h <;> rw [h] <;> rfl

/-- Settles O20: the verdict of the two peers' hashes decides between hand-over, discard and HOLD; the transfer is taken or the attempt has failed. -/
theorem releaseAndTransferDecide : Obligations.ReleaseAndTransferDecide := by
  unfold Obligations.ReleaseAndTransferDecide
  refine ⟨fun s hhash hphase hmode => ?_, fun start x y s hstate hdone hcap hothers hmode => ⟨xferDeadline_accepts hstate hdone hcap hothers hmode,
    xferDeadline_fails hstate hdone hcap hothers hmode⟩⟩
  have hhold : s.keep.mode ≠ .hold := by obtain h | h := hmode <;> rw [h] <;> decide
  refine ⟨fun hst => ?_, fun hst => ?_, fun hst => ?_⟩
  · obtain ⟨u, hu⟩ := execHashDeadline_due hhash hphase (triadActive_of (.inl hst))
    refine ⟨fun h => hu.released ?_, fun ha hb => hu.withheld (code := 0x5808) ?_, fun ha hb => ?_,
      fun h => hu.held hhold (v := .hold 0x5807) ?_ (.inl rfl)⟩
    · rw [hst]
      obtain h | h := h
      · rw [h]; cases (peerViews s).2 <;> rfl
      · rw [h]; cases (peerViews s).1 <;> rfl
    · rw [hst, ha, hb]
      rfl
    · refine hu.held hhold (v := if peersMatch s then .leave 0x5803 else .hold 0x5807) ?_ ?_
      · rw [hst, ha, hb]
        rfl
      · split
        · exact .inr ⟨rfl, hst⟩
        · exact .inl rfl
    · rw [hst]
      obtain ⟨ha, hb⟩ | ⟨ha, hb⟩ := h <;> rw [ha, hb] <;> rfl
  · obtain ⟨u, hu⟩ := execHashDeadline_due hhash hphase (triadActive_of (.inr (.inl hst)))
    refine ⟨fun h => hu.released ?_, fun ha hb => ?_, fun ha hb h => hu.held hhold (v := .hold 0x5807) ?_ (.inl rfl)⟩
    · rw [hst]
      obtain h | h := h
      · rw [h]; cases (peerViews s).2 <;> rfl
      · rw [h]; cases (peerViews s).1 <;> rfl
    · obtain ⟨t, ht, hm, hmot, hstale, -⟩ := hu.withheld (code := 0x5808) (by rw [hst, ha, hb]; rfl)
      exact ⟨t, ht, hm, hmot, hstale⟩
    · rw [hst]
      revert ha hb h
      cases (peerViews s).1 <;> cases (peerViews s).2 <;> simp [verdict]
  · obtain ⟨u, hu⟩ := execHashDeadline_due hhash hphase (triadActive_of (.inr (.inr hst)))
    refine ⟨fun ha hb => hu.probates hst ?_, fun h => hu.held hhold (v := .hold 0x5823) ?_ (.inl rfl)⟩
    · rw [hst, ha, hb]
      rfl
    · rw [hst]
      exact if_neg (fun hn => h.elim (· hn.1) (· hn.2))

end Sys2Proof.Machine
end

section
/-!
PROOFS. Settings, activations and wall time (O50).
-/
namespace Sys2Proof.Machine

/-! ### Rows and records -/

def lkpCmsnRow : RegRow := row .lkpCmsn 0x0800_0018 1 0x4 1 0x4 .always [ro 31 16, ro 2 2, fld .w1s 1 1 .engineer true, ro 0 0]
def lkpWallSloRow : RegRow := row .lkpWallSlo 0x0800_0050 1 0x4 1 0x4 .always [fld .rw 31 0 .maintain]
def lkpWallShiRow : RegRow := row .lkpWallShi 0x0800_0054 1 0x4 1 0x4 .always [ro 31 31, fld .rw 15 0 .maintain]
def lkpWallNsRow : RegRow := row .lkpWallNs 0x0800_0058 1 0x4 1 0x4 .always [fld .rw 31 0 .maintain]
def lkpUpdCtrlRow : RegRow := row .lkpUpdCtrl 0x0800_0220 1 0x4 1 0x4 .always
  [fld .w1s 3 3 .engineerUpdate, fld .w1s 2 2 .engineer true, fld .w1s 1 1 .engineer true, fld .w1s 0 0 .engineer true]

theorem accessWrite_lkpCmsn {acc : Access} {v : Word} {s : State} (hw : WriteGranted acc 0x0800_0018 v s) : accessWrite acc 0x0800_0018 v s
    = if v.getLsbD 1 && (advance acc.at_ s).keep.mode == .commission then commitSettings (advance acc.at_ s) else advance acc.at_ s := by
  rw [accessWrite_always hw (r := lkpCmsnRow) rfl rfl]
  simp only [writeReg, storeBits_of_mask_zero (show lkpCmsnRow.mask [.rw, .rwc] = 0 by decide)]
  rfl

theorem accessWrite_lkpUpdCtrl {acc : Access} {v : Word} {s : State} (hw : WriteGranted acc 0x0800_0220 v s) :
    accessWrite acc 0x0800_0220 v s = writeUpdCtrl v (advance acc.at_ s) := by
  rw [accessWrite_always hw (r := lkpUpdCtrlRow) rfl rfl]
  simp only [writeReg, storeBits_of_mask_zero (show lkpUpdCtrlRow.mask [.rw, .rwc] = 0 by decide)]
  rfl

theorem accessWrite_lkpWallNs {acc : Access} {v : Word} {s : State} (hw : WriteGranted acc 0x0800_0058 v s) :
    accessWrite acc 0x0800_0058 v s = setWall v (advance acc.at_ s) := by
  rw [accessWrite_always hw (r := lkpWallNsRow) rfl rfl]
  rfl

/-- A record of the lock-keeper's own codes changes the journal and the keeper's last code. -/
theorem recordB_keeper {code : Nat} (h : code / 0x1000 = 9) (extra : List Byte) (s : State) :
    ∃ j, recordB code extra s = { s with jnl := j, keep := { s.keep with lastCode := code } } := by
  have hk := jnlOnly_recordC code 0 1 extra s
  rwa [show noteCode code s = { s with keep := { s.keep with lastCode := code } } from if_pos h] at hk

theorem record_keeper {code : Nat} (h : code / 0x1000 = 9) (args : List Nat) (s : State) :
    ∃ j, record code args s = { s with jnl := j, keep := { s.keep with lastCode := code } } := recordB_keeper h _ s

/-! ### Settings (R528) -/

theorem workingCopy_advance (n : Nat) (s : State) : workingCopy (advance n s) = workingCopy s := by
  have h : ctlReset (advance n s) = ctlReset s := funext (fun a => by simp only [ctlReset, advance_fused])
  rw [workingCopy, workingCopy, advance_ctl, h]

/-- The generation of a settings copy that counts. -/
def Settings.counts (c : Settings) : Nat := if c.valid then c.generation else 0

/-- The settings copy that a commit writes (R528). -/
def newSettings (s : State) : Settings :=
  { generation := max s.keep.settingsA.counts s.keep.settingsB.counts + 1, values := workingCopy s, policy := s.bth.policy
    conf := if s.net.confActive then some s.bth.confPayload else none, confAnchor := s.bth.confAnchor, devCert := s.bth.devCert
    rollback := s.keep.rollback, valid := true }

theorem commitSettings_eq (s : State) : ∃ j, commitSettings s = raise 15 { s with jnl := j, keep := { s.keep with
    settingsA := if s.keep.settingsB.counts < s.keep.settingsA.counts then s.keep.settingsA else newSettings s
    settingsB := if s.keep.settingsB.counts < s.keep.settingsA.counts then newSettings s else s.keep.settingsB
    generation := (newSettings s).generation, committed := workingCopy s, lastCode := 0x9040 } } := by
  obtain ⟨j, hj⟩ := record_keeper (code := 0x9040) rfl [(newSettings s).generation] (setKeep (fun q => { q with
    settingsA := if s.keep.settingsB.counts < s.keep.settingsA.counts then q.settingsA else newSettings s
    settingsB := if s.keep.settingsB.counts < s.keep.settingsA.counts then newSettings s else q.settingsB
    generation := (newSettings s).generation, committed := workingCopy s }) s)
  exact ⟨j, congrArg (raise 15) hj⟩

/-- A commit writes the older copy with the next generation (R528). -/
theorem settingsCommit_commits {acc : Access} {s : State} (hw : WriteGranted acc 0x0800_0018 2 s) (hmode : s.keep.mode = .commission)
    {u : State} (hu : u = advance acc.at_ s) {genA genB : Nat} (ha : genA = s.keep.settingsA.counts) (hb : genB = s.keep.settingsB.counts) :
    Completes (.settingsCommit acc) s (fun t =>
      let new := if genB < genA then t.keep.settingsB else t.keep.settingsA
      new.valid = true ∧ new.generation = max genA genB + 1 ∧ new.values = workingCopy s ∧ new.policy = s.bth.policy ∧ new.devCert = s.bth.devCert
      ∧ new.conf = (if s.net.confActive then some s.bth.confPayload else none) ∧ new.rollback = s.keep.rollback ∧ t.keep.generation = new.generation
      ∧ (if genB < genA then t.keep.settingsA = s.keep.settingsA else t.keep.settingsB = s.keep.settingsB)
      ∧ t.svc.toggles = s.svc.toggles ++ [(15, u.now)] ∧ t = { u.noted t with keep := t.keep } ∧ t.keep.mode = s.keep.mode) := by
  subst hu ha hb
  have hA : (advance acc.at_ s).keep.settingsA = s.keep.settingsA := advance_keep_settingsA _ s
  have hB : (advance acc.at_ s).keep.settingsB = s.keep.settingsB := advance_keep_settingsB _ s
  have hnew : newSettings (advance acc.at_ s) = newSettings s := by
    simp only [newSettings, hA, hB, workingCopy_advance, advance_bth, advance_net, advance_keep_rollback]
  obtain ⟨j, hj⟩ := commitSettings_eq (advance acc.at_ s)
  have hexec : exec (.settingsCommit acc) s = .next (commitSettings (advance acc.at_ s)) := by
    refine congrArg Host.Outcome.next ((accessWrite_lkpCmsn hw).trans (if_pos ?_))
    rw [advance_keep_mode, hmode]
    rfl
  rw [hj, hA, hB, hnew] at hexec
  refine ⟨_, hexec, ?_⟩
  simp only [raise, State.noted, advance_svc, advance_keep_mode]
  by_cases h : s.keep.settingsB.counts < s.keep.settingsA.counts
  · simp only [if_pos h]
    exact ⟨rfl, rfl, rfl, rfl, rfl, rfl, rfl, trivial, trivial, rfl, trivial, trivial⟩
  · simp only [if_neg h]
    exact ⟨rfl, rfl, rfl, rfl, rfl, rfl, rfl, trivial, trivial, rfl, trivial, trivial⟩

/-! ### Slots (R529 to R532) -/

theorem slot_setSlot (k : Nat) (f : Slot → Slot) (n : Nat) (s : State) : (setSlot k f s).slot n = if n = k then f (s.slot k) else s.slot n := by
  simp [setSlot, setKeep, State.slot, look_upd]

theorem slot_advance (n k : Nat) (s : State) : (advance n s).slot k = s.slot k := by simp only [State.slot, advance_keep_slots]

theorem slotIn_advance (st : SlotState) (ks : List Nat) (n : Nat) (s : State) : slotIn st ks (advance n s) = slotIn st ks s := by
  simp only [slotIn, advance_keep_slots]

theorem slotIn_congr {s t : State} (h : t.keep.slots = s.keep.slots) (st : SlotState) (ks : List Nat) : slotIn st ks t = slotIn st ks s := by
  rw [slotIn, slotIn, h]

theorem state_of_slotIn {st : SlotState} {ks : List Nat} {k : Nat} {s : State} (h : slotIn st ks s = some k) : (s.slot k).state = st ∧ k ∈ ks :=
  ⟨eq_of_beq (List.find?_some (p := fun k => (s.slot k).state == st) h), List.mem_of_find?_eq_some h⟩

/-- Nothing but the slots differs. -/
structure InSlots (s t : State) : Prop where
  rest : t = { s with keep := { s.keep with slots := t.keep.slots } }

theorem InSlots.refl (s : State) : InSlots s s := ⟨rfl⟩
theorem InSlots.trans {s t u : State} (h : InSlots s t) (k : InSlots t u) : InSlots s u := ⟨by rw [k.rest, h.rest]⟩
theorem inSlots_setSlot (k : Nat) (f : Slot → Slot) (s : State) : InSlots s (setSlot k f s) := ⟨rfl⟩

/-- One slot of a discard. -/
def discardOne (s : State) (k : Nat) : State := if (s.slot k).state = .staged then setSlot k (fun _ => {}) s else s

theorem slot_discardOne (k n : Nat) (s : State) :
    (discardOne s k).slot n = if n = k then (if (s.slot k).state = .staged then {} else s.slot k) else s.slot n := by
  unfold discardOne
  split
  · rw [slot_setSlot]
  · split
    · next h => rw [h]
    · rfl

theorem inSlots_discardOne (k : Nat) (s : State) : InSlots s (discardOne s k) := by
  unfold discardOne
  split
  · exact inSlots_setSlot k _ s
  · exact .refl s

theorem discardStaged_spec (s : State) : InSlots s (discardStaged s)
    ∧ ∀ k, (discardStaged s).slot k = if k < 6 then (if (s.slot k).state = .staged then {} else s.slot k) else s.slot k :=
  foldl_range_each (op := discardOne) (fun k (u : State) => u.slot k) (fun k u => if (u.slot k).state = .staged then {} else u.slot k) InSlots .refl
    (fun _ _ _ => .trans) (fun u i => inSlots_discardOne i u) (fun u i j hj => by rw [slot_discardOne, if_neg hj])
    (fun v u i _ hi => by rw [slot_discardOne, if_pos rfl, hi]) 6 s

theorem updateControl_zero (s : State) : updateControl 0 s = s := by
  simp only [updateControl, show (0 : Word).getLsbD 0 = false from rfl, show (0 : Word).getLsbD 1 = false from rfl, show (0 : Word).getLsbD 2 = false from rfl, show (0 : Word).getLsbD 3 = false from rfl,
    Bool.false_eq_true, if_false, Bool.and_not_self]

theorem updateControl_discard (s : State) : updateControl 8 s = discardStaged s := by
  simp only [updateControl, show (8 : Word).getLsbD 0 = false from rfl, show (8 : Word).getLsbD 1 = false from rfl, show (8 : Word).getLsbD 2 = false from rfl, show (8 : Word).getLsbD 3 = true from rfl,
    Bool.false_eq_true, if_false, if_true, Bool.and_not_self]

theorem updateControl_prog (s : State) : updateControl 1 s = activateProg s := by
  simp only [updateControl, show (1 : Word).getLsbD 0 = true from rfl, show (1 : Word).getLsbD 1 = false from rfl, show (1 : Word).getLsbD 2 = false from rfl, show (1 : Word).getLsbD 3 = false from rfl,
    Bool.false_eq_true, if_false, if_true, Bool.and_not_self]

/-- What follows once a firmware slot has been set to trial: the lock-keeper command reset. -/
def trialReset (s t : State) : State := if onTrial t && !onTrial s then wholeReset 2 0x9051 [] {} t else t

theorem updateControl_lkfw (s : State) : updateControl 2 s = trialReset s (beginTrial lkSlots s) := rfl
theorem updateControl_svfw (s : State) : updateControl 4 s = trialReset s (beginTrial svcSlots s) := rfl

/-! ### Nothing staged -/

theorem beginTrial_none {ks : List Nat} {s : State} (h : slotIn .staged ks s = none) : beginTrial ks s = record 0x6103 [] s := by
  rw [beginTrial, h]

theorem activateProg_none {s : State} (h : slotIn .staged progSlots s = none) : activateProg s = record 0x6103 [] s := by
  rw [activateProg, h]

theorem trialReset_record (s : State) : trialReset s (record 0x6103 [] s) = record 0x6103 [] s := by
  obtain ⟨j, hj⟩ := jnlOnly_record 0x6103 [] s (by decide) (by decide)
  have h : onTrial (record 0x6103 [] s) = onTrial s := by
    rw [hj]
    rfl
  rw [trialReset, h, Bool.and_not_self]
  rfl

/-! ### A program image (R531) -/

/-- Nothing but the logic SRAM differs. -/
structure InSram (s t : State) : Prop where
  rest : t = { s with sram := t.sram }

namespace InSram

theorem refl (s : State) : InSram s s := ⟨rfl⟩
theorem trans {s t u : State} (h : InSram s t) (k : InSram t u) : InSram s u := ⟨by rw [k.rest, h.rest]⟩

theorem foldl {α : Type} {op : State → α → State} (h : ∀ u i, InSram u (op u i)) (l : List α) (s : State) : InSram s (l.foldl op s) := by
  induction l generalizing s with
  | nil => exact .refl s
  | cons i l ih => exact (h s i).trans (ih _)

end InSram

theorem inSram_paramWrite (i : Nat) (v : Word) (s : State) : InSram s (paramWrite i v s) := ⟨rfl⟩
theorem inSram_stateWrite (n : Nat) (v : Word) (s : State) : InSram s (stateWrite n v s) := ⟨stateWrite_spec n v s⟩
theorem inSram_stateInit (n : Nat) (v : Word) (s : State) : InSram s (stateInit n v s) := (inSram_stateWrite _ v s).trans (inSram_stateWrite _ v _)

theorem inSram_writeBlock {put_ : Nat → Word → State → State} (h : ∀ i v u, InSram u (put_ i v u)) (b : RunBlock) (s : State) :
    InSram s (writeBlock put_ b s) := .foldl (fun u _ => h _ _ u) _ s

/-- An image that is loaded: what it declares, and its words in the SRAM (R103, R521). -/
theorem loadImage_eq (I : Image) (s : State) : InSram { s with
    image := some I, timers := []
    seq := { s.seq with
      period := I.period, reloff := I.reloff, quantum := I.quantum, depth := I.depth, limit := I.limit, window := I.window
      wlim := I.period * 131_072 / 100 } } (loadImage I s) := by
  unfold loadImage
  extract_lets _ s1 s2
  have h2 : InSram s1 s2 := ⟨rfl⟩
  have h3 : InSram s2 (I.paramInit.foldl (fun s b => writeBlock paramWrite b s) s2) := .foldl (fun u b => inSram_writeBlock inSram_paramWrite b u) _ _
  have h4 : InSram (I.paramInit.foldl (fun s b => writeBlock paramWrite b s) s2)
      (I.stateInit.foldl (fun s b => writeBlock stateInit b s) (I.paramInit.foldl (fun s b => writeBlock paramWrite b s) s2)) :=
    .foldl (fun u b => inSram_writeBlock inSram_stateInit b u) _ _
  exact (h2.trans h3).trans h4

theorem inSlots_slotState (k : Nat) (st : SlotState) (s : State) : InSlots s (slotState k st s) := inSlots_setSlot k _ s

theorem slot_slotState (k : Nat) (st : SlotState) (n : Nat) (s : State) :
    (slotState k st s).slot n = if n = k then { s.slot k with state := st } else s.slot n := slot_setSlot k _ n s

/-- The staged slot becomes active and the one that was active the fallback (R531). -/
theorem activateSlot_spec {ks : List Nat} {k : Nat} (s : State) : InSlots s (activateSlot ks k s) ∧ ((activateSlot ks k s).slot k).state = .active
    ∧ ∀ o, o ≠ k → slotIn .active ks s = some o → ((activateSlot ks k s).slot o).state = .fallback := by
  unfold activateSlot
  cases h : slotIn .active ks s with
  | none => exact ⟨inSlots_slotState k .active s, by rw [slot_slotState, if_pos rfl], fun o _ hn => by simp at hn⟩
  | some a =>
    refine ⟨(inSlots_slotState a .fallback s).trans (inSlots_slotState k .active _), by rw [slot_slotState, if_pos rfl], fun o ho hn => ?_⟩
    obtain rfl : a = o := Option.some.inj hn
    rw [slot_slotState, if_neg ho, slot_slotState, if_pos rfl]

/-- The staged program image is loaded, and its activation recorded (R127, R531). -/
theorem activateProg_spec {k : Nat} {s : State} (hk : slotIn .staged progSlots s = some k) :
    (∀ n, (activateProg s).slot n = (activateSlot progSlots k s).slot n) ∧ (activateProg s).image = some (parseImage (s.slot k).payload)
      ∧ (activateProg s).svc.toggles = s.svc.toggles ++ [(12, s.now)] ∧ (activateProg s).keep.mode = s.keep.mode ∧ (activateProg s).now = s.now := by
  obtain ⟨ha⟩ := (activateSlot_spec (ks := progSlots) (k := k) s).1
  obtain ⟨hl⟩ := loadImage_eq (parseImage (s.slot k).payload) (activateSlot progSlots k s)
  rw [activateProg, hk]
  simp only
  generalize parseImage (s.slot k).payload = I at *
  obtain ⟨j, hr⟩ := recordB_keeper (code := 0x9051) rfl (le 4 k ++ le 4 I.version.toNat ++ I.buildId) (loadImage I (activateSlot progSlots k s))
  rw [hr]
  generalize loadImage I (activateSlot progSlots k s) = u at hl
  generalize activateSlot progSlots k s = w at ha hl
  rw [hl, ha]
  exact ⟨fun n => rfl, rfl, rfl, rfl, rfl⟩

theorem writeUpdCtrl_commission {v : Word} {s : State} (h : s.keep.mode = .commission) : writeUpdCtrl v s = updateControl v s := by
  rw [writeUpdCtrl, if_pos h]

theorem actProg_activates {acc : Access} {s : State} {k : Nat} (hmode : s.keep.mode = .commission) (hw : WriteGranted acc 0x0800_0220 1 s)
    (hk : slotIn .staged progSlots s = some k) : Completes (.actProg acc) s (fun t => (t.slot k).state = .active
      ∧ (∀ o, o ≠ k → slotIn .active progSlots s = some o → (t.slot o).state = .fallback) ∧ t.image = some (parseImage (s.slot k).payload)
      ∧ t.svc.toggles = s.svc.toggles ++ [(12, (advance acc.at_ s).now)] ∧ t.keep.mode = .commission ∧ t.now = (advance acc.at_ s).now) := by
  have hm : (advance acc.at_ s).keep.mode = .commission := (advance_keep_mode _ s).trans hmode
  have hexec : exec (.actProg acc) s = .next (activateProg (advance acc.at_ s)) :=
    congrArg Host.Outcome.next ((accessWrite_lkpUpdCtrl hw).trans ((writeUpdCtrl_commission hm).trans (updateControl_prog _)))
  obtain ⟨-, hactive, hfallback⟩ := activateSlot_spec (ks := progSlots) (k := k) (advance acc.at_ s)
  obtain ⟨hslot, himage, htog, hmode', hnow⟩ := activateProg_spec (k := k) (s := advance acc.at_ s) ((slotIn_advance _ _ _ s).trans hk)
  rw [slot_advance] at himage
  rw [advance_svc] at htog
  refine ⟨_, hexec, by rw [hslot]; exact hactive, fun o ho hn => ?_, himage, htog, hmode'.trans hm, hnow⟩
  rw [hslot]
  exact hfallback o ho ((slotIn_advance _ _ _ s).trans hn)

/-! ### Firmware on trial (R531) -/

theorem talks_coldJournal (j : StoreLoss) (s : State) : Talks s (coldJournal j s) := by
  unfold coldJournal
  extract_lets now
  split
  · split
    · exact (talks_drawBytes _ s).trans (talks_setJnl _ _)
    · exact talks_setJnl _ s
  · exact talks_setJnl _ s

/-- A BOOT that begins: its cause, its stage, and its mode (R517). -/
theorem beginBoot_spec (b : BootKind) (stage kind code : Nat) (s : State) : (beginBoot b stage kind code s).keep.slots = s.keep.slots
    ∧ (beginBoot b stage kind code s).keep.mode = .boot ∧ (beginBoot b stage kind code s).keep.resetKind = kind
    ∧ (beginBoot b stage kind code s).keep.resetCode = BitVec.ofNat 16 code ∧ (beginBoot b stage kind code s).keep.bootStage = stage := by
  unfold beginBoot
  extract_lets s1 s2
  have h2 : Talks s1 s2 := .ite (.refl s1) (talks_record _ _ s1)
  have h1 : s1.keep.slots = s.keep.slots ∧ s1.keep.resetKind = kind ∧ s1.keep.resetCode = BitVec.ofNat 16 code ∧ s1.keep.bootStage = stage :=
    ⟨rfl, rfl, rfl, rfl⟩
  clear_value s1 s2
  have hkept : s2.keep.slots = s.keep.slots ∧ s2.keep.resetKind = kind ∧ s2.keep.resetCode = BitVec.ofNat 16 code ∧ s2.keep.bootStage = stage := by
    rw [h2.keep]
    exact h1
  obtain ⟨hslots, hkind, hcode, hstage⟩ := hkept
  split
  · next hm => exact ⟨hslots, hm, hkind, hcode, hstage⟩
  · rw [(talks_setMode .boot (if code = 0 then 0x9030 else code) s2).keep]
    exact ⟨hslots, rfl, hkind, hcode, hstage⟩

theorem wholeReset_spec (kind code : Nat) (by_ : List Nat) (j : StoreLoss) (s : State) : (wholeReset kind code by_ j s).keep.slots = s.keep.slots
    ∧ (wholeReset kind code by_ j s).keep.mode = .boot ∧ (wholeReset kind code by_ j s).keep.resetKind = kind
    ∧ (wholeReset kind code by_ j s).keep.resetCode = BitVec.ofNat 16 code ∧ (wholeReset kind code by_ j s).keep.bootStage = 1 := by
  unfold wholeReset
  extract_lets u k fresh
  obtain ⟨hslots, hrest⟩ := beginBoot_spec .whole 1 kind code fresh
  refine ⟨hslots.trans ?_, hrest⟩
  show (coldJournal j s).keep.slots = _
  rw [(talks_coldJournal j s).keep]

theorem beginTrial_spec {ks : List Nat} {k : Nat} {s : State} (h : slotIn .staged ks s = some k) :
    ((beginTrial ks s).slot k).state = .trial := by
  rw [beginTrial, h]
  obtain ⟨j, hr⟩ := record_keeper (code := 0x9051) rfl [k] (slotState k .trial s)
  simp only
  rw [hr]
  show ((slotState k .trial s).slot k).state = _
  rw [slot_slotState, if_pos rfl]

/-- A staged firmware goes on trial, and the module boots it. -/
theorem trial_boots {ks : List Nat} {k : Nat} {s : State} (hk : k < 4) (h : slotIn .staged ks s = some k) (hno : onTrial s = false) :
    ((trialReset s (beginTrial ks s)).slot k).state = .trial ∧ (trialReset s (beginTrial ks s)).keep.mode = .boot
      ∧ (trialReset s (beginTrial ks s)).keep.resetKind = 2 ∧ (trialReset s (beginTrial ks s)).keep.resetCode = 0x9051
      ∧ (trialReset s (beginTrial ks s)).keep.bootStage = 1 := by
  have hs := beginTrial_spec h
  have hon : onTrial (beginTrial ks s) = true := by
    rw [onTrial, slotIn, List.find?_isSome]
    exact ⟨k, by simp; omega, by rw [beq_iff_eq]; exact hs⟩
  rw [trialReset, hon, hno]
  obtain ⟨hslots, hmode, hkind, hcode, hstage⟩ := wholeReset_spec 2 0x9051 [] {} (beginTrial ks s)
  exact ⟨by rw [← hs]; exact congrArg (fun l => (look ({} : Slot) k l).state) hslots, hmode, hkind, hcode, hstage⟩

theorem updateDiscard_empties {acc : Access} {s : State} (hw : WriteGranted acc 0x0800_0220 8 s) {u : State} (hu : u = advance acc.at_ s) :
    Completes (.updateDiscard acc) s (fun t => (∀ k < 6, t.slot k = if (s.slot k).state = .staged then {} else s.slot k)
      ∧ t = { u with keep := { u.keep with slots := t.keep.slots } }) := by
  subst hu
  have hx : writeUpdCtrl 8 (advance acc.at_ s) = discardStaged (advance acc.at_ s) := by
    rw [writeUpdCtrl, show (8 : Word) &&& 8 = 8 from rfl, ite_self, updateControl_discard]
  obtain ⟨hrest, hslot⟩ := discardStaged_spec (advance acc.at_ s)
  refine ⟨_, congrArg Host.Outcome.next ((accessWrite_lkpUpdCtrl hw).trans hx), fun k hk => ?_, hrest.rest⟩
  rw [hslot, if_pos hk, slot_advance]

/-! ### Wall time (R43) -/

theorem stage_advance (n : Nat) (s : State) :
    (advance n s).time.stageLo = s.time.stageLo ∧ (advance n s).time.stageHi = s.time.stageHi := by
  unfold advance countAclk
  split <;> exact ⟨rfl, rfl⟩

theorem setWall_spec {v : Word} {s : State} (hv : v.toNat ≤ 999_999_999) : ∃ j, setWall v s = { s with
    jnl := j, keep := { s.keep with lastCode := 0x9140 }
    time := { s.time with
      wallBase := (s.time.stageLo.toNat + 2 ^ 32 * s.time.stageHi.toNat) * 1_000_000_000 + v.toNat, wallRef := s.now, wallValid := true } } := by
  rw [setWall, if_neg (by omega)]
  exact recordB_keeper rfl _ _

/-- A wall time that is a time of day is taken, and counts from now on. -/
theorem wallTimeSet_sets {acc : Access} {v : Word} {s : State} (hw : WriteGranted acc 0x0800_0058 v s) (hv : v.toNat ≤ 999_999_999)
    {u : State} (hu : u = advance acc.at_ s) : Completes (.wallTimeSet acc v) s (fun t => t.time.wallValid = true ∧ t.now = u.now
      ∧ t.wall = (s.time.stageLo.toNat + 2 ^ 32 * s.time.stageHi.toNat) * 1_000_000_000 + v.toNat
      ∧ t = { u.noted t with keep := { u.keep with lastCode := t.keep.lastCode } }) := by
  subst hu
  obtain ⟨hlo, hhi⟩ := stage_advance acc.at_ s
  have hexec : exec (.wallTimeSet acc v) s = .next (setWall v (advance acc.at_ s)) := congrArg Host.Outcome.next (accessWrite_lkpWallNs hw)
  rw [← hlo, ← hhi]
  generalize advance acc.at_ s = u at *
  obtain ⟨j, hj⟩ := setWall_spec (s := u) hv
  rw [hj] at hexec
  refine ⟨_, hexec, rfl, rfl, ?_, rfl⟩
  show _ + (u.now - u.now) = _
  rw [Nat.sub_self, Nat.add_zero]

/-- Settles O50: each write is one effect of its register, told apart by the mode and by what is staged. -/
theorem settingsAndTime : Obligations.SettingsAndTime := by
  unfold Obligations.SettingsAndTime
  intro acc v s
  have hmode : (advance acc.at_ s).keep.mode = s.keep.mode := advance_keep_mode _ s
  refine ⟨fun hw => ⟨fun hc => settingsCommit_commits hw hc rfl rfl rfl, fun hc => ?_⟩, fun hc x hx hw => ?_, fun hc => ⟨fun x hx hw hn => ?_,
    fun k hw hk => actProg_activates hc hw hk, fun k hno x hx hw hk => ?_⟩, fun hw => updateDiscard_empties hw rfl, fun hw => ?_, fun hw => ?_,
    fun hw => ⟨fun hv => wallTimeSet_sets hw hv rfl, fun hv => ?_⟩⟩
  · refine congrArg Host.Outcome.next ((accessWrite_lkpCmsn hw).trans (if_neg ?_))
    rw [hmode, Bool.and_eq_true, beq_iff_eq]
    exact fun h => hc h.2
  · have hv : x.2 = 1 ∨ x.2 = 2 ∨ x.2 = 4 := by fin_cases hx <;> simp
    have hbit : x.2 &&& 8 = 0 := by obtain h | h | h := hv <;> rw [h] <;> decide
    have h : writeUpdCtrl x.2 (advance acc.at_ s) = advance acc.at_ s := by
      rw [writeUpdCtrl, if_neg (by rw [hmode]; exact hc), hbit, updateControl_zero]
    have hexec : exec x.1 s = .next (accessWrite acc 0x0800_0220 x.2 s) := by fin_cases hx <;> rfl
    rw [hexec, accessWrite_lkpUpdCtrl hw, h]
  · have hn' : slotIn .staged x.2.2 (advance acc.at_ s) = none := (slotIn_advance _ _ _ s).trans hn
    have h : writeUpdCtrl x.2.1 (advance acc.at_ s) = record 0x6103 [] (advance acc.at_ s) := by
      rw [writeUpdCtrl_commission (hmode.trans hc)]
      fin_cases hx
      · exact (updateControl_prog _).trans (activateProg_none hn')
      · exact (updateControl_lkfw _).trans ((congrArg (trialReset _) (beginTrial_none hn')).trans (trialReset_record _))
      · exact (updateControl_svfw _).trans ((congrArg (trialReset _) (beginTrial_none hn')).trans (trialReset_record _))
    have hexec : exec x.1 s = .next (accessWrite acc 0x0800_0220 x.2.1 s) := by fin_cases hx <;> rfl
    obtain ⟨j, hj⟩ := jnlOnly_record 0x6103 [] (advance acc.at_ s) (by decide) (by decide)
    refine ⟨_, hexec.trans (congrArg Host.Outcome.next ((accessWrite_lkpUpdCtrl hw).trans h)), ?_⟩
    rw [hj]
    exact ⟨rfl, advance_svc _ s⟩
  · have hk' : slotIn .staged x.2.2 (advance acc.at_ s) = some k := (slotIn_advance _ _ _ s).trans hk
    have hno' : onTrial (advance acc.at_ s) = false := by rw [onTrial, slotIn_advance]; exact hno
    have hlt : k < 4 := by
      have hmem := (state_of_slotIn hk).2
      fin_cases hx <;> simp [lkSlots, svcSlots] at hmem <;> omega
    have h : writeUpdCtrl x.2.1 (advance acc.at_ s) = trialReset (advance acc.at_ s) (beginTrial x.2.2 (advance acc.at_ s)) := by
      rw [writeUpdCtrl_commission (hmode.trans hc)]
      fin_cases hx
      · exact updateControl_lkfw _
      · exact updateControl_svfw _
    have hexec : exec x.1 s = .next (accessWrite acc 0x0800_0220 x.2.1 s) := by fin_cases hx <;> rfl
    exact ⟨_, hexec.trans (congrArg Host.Outcome.next ((accessWrite_lkpUpdCtrl hw).trans h)), trial_boots hlt hk' hno'⟩
  · exact congrArg Host.Outcome.next (accessWrite_always hw (r := lkpWallSloRow) rfl rfl)
  · exact congrArg Host.Outcome.next (accessWrite_always hw (r := lkpWallShiRow) rfl rfl)
  · exact congrArg Host.Outcome.next ((accessWrite_lkpWallNs hw).trans (if_pos hv))

end Sys2Proof.Machine
end

section
/-!
PROOFS. Snapshots (O51).
-/
namespace Sys2Proof.Machine

/-! ### What a record depends on -/

theorem condRec_congr {s t : State} (hseq : t.seq = s.seq) (hnow : t.now = s.now) (code flags count : Nat) (extra : List Byte) :
    condRec code flags count extra t = condRec code flags count extra s := by
  simp only [condRec, hseq, hnow]

theorem klogPut_congr {s t : State} (hj : t.jnl = s.jnl) (hf : t.fused = s.fused) (r : Rec) : (klogPut r t).jnl = (klogPut r s).jnl := by
  have hu : t.klogUnits = s.klogUnits := by rw [State.klogUnits, State.klogUnits, State.bigStore, State.bigStore, hf]
  simp only [klogPut, hu, hj]

theorem stageRec_congr {s t : State} (hj : t.jnl = s.jnl) (r : Rec) : (stageRec r t).jnl = (stageRec r s).jnl := by
  have hl : (loseRec r t).jnl = (loseRec r s).jnl := by simp only [loseRec, hj]
  simp only [stageRec, hj]
  split
  · rfl
  · split
    · rfl
    · exact hl
  · exact hl
  · exact hl

/-- The journal after a record depends on the journal before it, the time, the cycle and the fit of the store. -/
theorem recordC_congr {s t : State} (hj : t.jnl = s.jnl) (hseq : t.seq = s.seq) (hnow : t.now = s.now) (hf : t.fused = s.fused)
    (code flags count : Nat) (extra : List Byte) : (recordC code flags count extra t).jnl = (recordC code flags count extra s).jnl := by
  have hn : ∀ u : State, (noteCode code u).jnl = u.jnl ∧ (noteCode code u).fused = u.fused := fun u => by
    unfold noteCode
    split
    · exact ⟨rfl, rfl⟩
    · split <;> exact ⟨rfl, rfl⟩
  have hj' : (noteCode code t).jnl = (noteCode code s).jnl := by rw [(hn t).1, (hn s).1, hj]
  have hf' : (noteCode code t).fused = (noteCode code s).fused := by rw [(hn t).2, (hn s).2, hf]
  simp only [recordC, condRec_congr hseq hnow, hj']
  split
  · rfl
  · have hk : (if (keeperOnly code || keeperBoth code) = true then klogPut (condRec code flags count extra s) (noteCode code t) else noteCode code t).jnl
        = (if (keeperOnly code || keeperBoth code) = true then klogPut (condRec code flags count extra s) (noteCode code s) else noteCode code s).jnl := by
      split
      · exact klogPut_congr hj' hf' _
      · exact hj'
    split
    · exact hk
    · exact stageRec_congr hk _

theorem recordC_eq (code flags count : Nat) (extra : List Byte) (s : State) :
    recordC code flags count extra s = { noteCode code s with jnl := (recordC code flags count extra s).jnl } := by
  obtain ⟨j, hj⟩ := jnlOnly_recordC code flags count extra s
  rw [hj]

/-- A record leaves the control space and the snapshot out of account. -/
theorem recordB_beside (code : Nat) (extra : List Byte) (c : Tab Word) (n : Snapshot) (s : State) :
    recordB code extra { s with ctl := c, snap := n } = { recordB code extra s with ctl := c, snap := n } := by
  have hj : (recordC code 0 1 extra { s with ctl := c, snap := n }).jnl = (recordC code 0 1 extra s).jnl :=
    recordC_congr (s := s) (t := { s with ctl := c, snap := n }) rfl rfl rfl rfl _ _ _ _
  have hn : noteCode code { s with ctl := c, snap := n } = { noteCode code s with ctl := c, snap := n } := by
    unfold noteCode
    split
    · rfl
    · split <;> rfl
  show recordC code 0 1 extra { s with ctl := c, snap := n } = { recordC code 0 1 extra s with ctl := c, snap := n }
  rw [recordC_eq, hj, hn, recordC_eq code 0 1 extra s]

/-- Nothing but the journal and the keeper's last code differs. -/
structure Logs (s t : State) : Prop where
  rest : t = { s with jnl := t.jnl, keep := { s.keep with lastCode := t.keep.lastCode } }

namespace Logs

theorem refl (s : State) : Logs s s := ⟨rfl⟩
theorem trans {s t u : State} (h : Logs s t) (k : Logs t u) : Logs s u := ⟨by rw [k.rest, h.rest]⟩

theorem foldl {α : Type} {op : State → α → State} (h : ∀ u i, Logs u (op u i)) (l : List α) (s : State) : Logs s (l.foldl op s) := by
  induction l generalizing s with
  | nil => exact .refl s
  | cons i l ih => exact (h s i).trans (ih _)

end Logs

theorem logs_recordB {code : Nat} (h : code / 0x1000 = 9) (extra : List Byte) (s : State) : Logs s (recordB code extra s) := by
  obtain ⟨j, hj⟩ := recordB_keeper h extra s
  exact ⟨by rw [hj]⟩

/-- Records in a row leave the control space and the snapshot out of account. -/
theorem foldl_recordB_beside {α : Type} (code : Nat) (f : α → List Byte) (c : Tab Word) (n : Snapshot) (l : List α) (s : State) :
    l.foldl (fun s x => recordB code (f x) s) { s with ctl := c, snap := n } = { l.foldl (fun s x => recordB code (f x) s) s with ctl := c, snap := n } := by
  induction l generalizing s with
  | nil => rfl
  | cons x l ih => rw [List.foldl_cons, recordB_beside, ih, List.foldl_cons]

/-! ### The missing words of field blocks (R50) -/

theorem reportMissing_eq (s : State) : reportMissing s = { (missingBlocks s).foldl (fun s f => record 0x9122 [f] s) s with
    snap := { s.snap with fieldWords := [] } } := by
  have h := foldl_recordB_beside 0x9122 (fun f : Nat => [f].flatMap (le 4)) s.ctl { s.snap with fieldWords := [] } (missingBlocks s) s
  have hl : Logs s ((missingBlocks s).foldl (fun s f => record 0x9122 [f] s) s) := .foldl (fun u f => logs_recordB rfl _ u) _ s
  refine h.trans ?_
  have hc : ((missingBlocks s).foldl (fun s f => record 0x9122 [f] s) s).ctl = s.ctl := by rw [hl.rest]
  show _ = ({ (missingBlocks s).foldl (fun s f => record 0x9122 [f] s) s with snap := _ } : State)
  rw [← hc]
  rfl

/-! ### Triggers (R45 to R49) -/

/-- Nothing but the triad's ports, the snapshot, what is recorded and what is raised differs. -/
structure Snaps (s t : State) : Prop where
  rest : t = { s with
    jnl := t.jnl, svc := { s.svc with toggles := t.svc.toggles }, snap := t.snap, tri := t.tri, keep := { s.keep with lastCode := t.keep.lastCode } }

namespace Snaps

theorem refl (s : State) : Snaps s s := ⟨rfl⟩
theorem trans {s t u : State} (h : Snaps s t) (k : Snaps t u) : Snaps s u := ⟨by rw [k.rest, h.rest]⟩
theorem of_logs {s t : State} (h : Logs s t) : Snaps s t := ⟨by rw [h.rest]⟩
theorem ctlGet {s t : State} (h : Snaps s t) (a : Nat) : ctlGet a t = ctlGet a s := by rw [h.rest]; rfl
theorem ctl {s t : State} (h : Snaps s t) : t.ctl = s.ctl := by rw [h.rest]

end Snaps

/-- The peers are asked with the next frame on each link (R48). -/
theorem requestPeers_spec (s : State) : requestPeers s = { s with tri := (requestPeers s).tri }
    ∧ ∀ p < 2, ((requestPeers s).tp p).snapDue = ((s.tp p).snapDue || cbit 0x0900_0000 3 s) := by
  unfold requestPeers
  split
  · next h =>
    refine ⟨rfl, fun p hp => ?_⟩
    rw [h, Bool.or_true]
    obtain rfl | rfl : p = 0 ∨ p = 1 := by omega
    · simp [State.tp, List.range_succ, look_upd]
    · simp [State.tp, List.range_succ, look_upd]
  · next h =>
    refine ⟨rfl, fun p _ => ?_⟩
    rw [Bool.eq_false_iff.mpr h, Bool.or_false]

theorem reportMissing_snaps (s : State) : Snaps s (reportMissing s) ∧ (reportMissing s).snap = { s.snap with fieldWords := [] }
    ∧ (reportMissing s).tri = s.tri ∧ (reportMissing s).svc = s.svc := by
  have hl : Logs s ((missingBlocks s).foldl (fun s f => record 0x9122 [f] s) s) := .foldl (fun u f => logs_recordB rfl _ u) _ s
  rw [reportMissing_eq]
  exact ⟨⟨by rw [hl.rest]⟩, rfl, by rw [hl.rest], by rw [hl.rest]⟩

/-- A state whose control space holds the same words under another table. -/
structure SameWords (c : Tab Word) (u : State) : Prop where
  words : ∀ a, ctlGet a { u with ctl := c } = ctlGet a u

theorem reportMissing_ctl (c : Tab Word) (u : State) : reportMissing { u with ctl := c } = { reportMissing u with ctl := c } := by
  have h := foldl_recordB_beside 0x9122 (fun f : Nat => [f].flatMap (le 4)) c { u.snap with fieldWords := [] } (missingBlocks u) u
  refine h.trans ?_
  rw [reportMissing_eq]
  rfl

theorem snapFieldWords_ctl {c : Tab Word} {u : State} (h : SameWords c u) : snapFieldWords { u with ctl := c } = snapFieldWords u := by
  have hb : ∀ n, snapBlock { u with ctl := c } n = snapBlock u n := fun n => by
    simp only [snapBlock, cf, h.words]
    rfl
  have hbs : snapBlock { u with ctl := c } = snapBlock u := funext hb
  rw [snapFieldWords, snapFieldWords, hbs]
  rfl

theorem snaps_latch (n : Snapshot) (s : State) : Snaps s (raise 13 { s with snap := n }) := ⟨rfl⟩

theorem Snaps.withCtl {s t : State} (h : Snaps s t) (c : Tab Word) : Snaps { s with ctl := c } { t with ctl := c } := ⟨by rw [h.rest]⟩

/-- A new snapshot: its time, its source, and the words of every block (R45 to R47). -/
theorem latchSnapshot_spec {src : Nat} (hsrc : src < 16) {c : Tab Word} {u : State} (h : SameWords c u) :
    let t := latchSnapshot src false { u with ctl := c }
    t.snap.held = true ∧ t.snap.src.toNat = src ∧ t.snap.number = u.snap.number + 1 ∧ t.snap.dtime = u.now ∧ t.snap.mcc = u.seq.mcc
      ∧ t.snap.fbValid = 0 ∧ t.snap.copied = false ∧ t.snap.fieldWords = snapFieldWords (reportMissing u)
      ∧ t.snap.words = snapWords { reportMissing u with ctl := c } ∧ t.svc.toggles = u.svc.toggles ++ [(13, u.now)] ∧ t.tri = u.tri
      ∧ Snaps { u with ctl := c } t := by
  intro t
  obtain ⟨hs, hsnap, htri, hsvc⟩ := reportMissing_snaps u
  have ht : t = raise 13 { reportMissing u with
      ctl := c
      snap := { (reportMissing u).snap with
        held := true, src := BitVec.ofNat 4 src, overwritten := (reportMissing u).snap.overwritten || false
        fbValid := 0, copied := false, number := (reportMissing u).snap.number + 1, dtime := (reportMissing u).now, mcc := (reportMissing u).seq.mcc
        words := snapWords { reportMissing u with ctl := c }, fieldWords := snapFieldWords { reportMissing u with ctl := c } } } := by
    show latchSnapshot src false { u with ctl := c } = _
    unfold latchSnapshot
    rw [reportMissing_ctl]
    rfl
  have hw : SameWords c (reportMissing u) := ⟨fun a => by
    have := h.words a
    rw [hs.rest]
    exact this⟩
  rw [ht, snapFieldWords_ctl hw]
  have hall := (hs.withCtl c).trans (snaps_latch { (reportMissing u).snap with
    held := true, src := BitVec.ofNat 4 src, overwritten := (reportMissing u).snap.overwritten || false
    fbValid := 0, copied := false, number := (reportMissing u).snap.number + 1, dtime := (reportMissing u).now, mcc := (reportMissing u).seq.mcc
    words := snapWords { reportMissing u with ctl := c }, fieldWords := snapFieldWords (reportMissing u) } { reportMissing u with ctl := c })
  generalize reportMissing u = v at hs hsnap htri hsvc hall
  have hnow : v.now = u.now := by rw [hs.rest]; rfl
  have hseq : v.seq = u.seq := by rw [hs.rest]
  refine ⟨rfl, Nat.mod_eq_of_lt hsrc, ?_, hnow, congrArg Seq.mcc hseq, rfl, rfl, ?_, ?_, ?_, htri, hall⟩
  · show v.snap.number + 1 = _
    rw [hsnap]
  · simp only [raise]
  · simp only [raise]
  · show v.svc.toggles ++ [(13, v.now)] = _
    rw [hsvc, hnow]

theorem advance_snap_kept (n : Nat) (s : State) : (advance n s).snap = s.snap ∧ (advance n s).seq = s.seq ∧ (advance n s).jnl = s.jnl
    ∧ (advance n s).tri = s.tri ∧ (advance n s).svc.toggles = s.svc.toggles ∧ ∀ a, ctlGet a (advance n s) = ctlGet a s :=
  ⟨advance_snap n s, advance_seq n s, advance_jnl n s, advance_tri n s, congrArg Service.toggles (advance_svc n s), fun a => advance_ctlGet n a s⟩

/-- The three outcomes of a trigger (R45, R46, R49), in a state whose control space holds what it held in `u`. -/
theorem triggerSnapshot_spec {x : Instr} {src : Nat} (hsrc : src < 16) {c : Tab Word} {u s : State} (h : SameWords c u)
    (hexec : exec x s = .next (triggerSnapshot src true { u with ctl := c })) {n : Nat} (hu : u = advance n s) :
    let only := fun (t : State) => (∀ a, ctlGet a t = ctlGet a s)
      ∧ t = { u.noted t with ctl := t.ctl, snap := t.snap, tri := t.tri, keep := { u.keep with lastCode := t.keep.lastCode } }
    let asks := fun (t : State) => ∀ p < 2, (t.tp p).snapDue = ((s.tp p).snapDue || cbit 0x0900_0000 3 s)
    let noted := s.snap.held = true ∧ s.snap.dtime = u.now ∧ s.snap.src &&& BitVec.ofNat 4 src = 0
    (s.snap.held = false → Completes x s (fun t => let v := reportMissing u
        t.snap.held = true ∧ t.snap.src.toNat = src ∧ t.snap.number = s.snap.number + 1 ∧ t.snap.dtime = u.now ∧ t.snap.mcc = s.seq.mcc
        ∧ t.snap.fbValid = 0 ∧ t.snap.copied = false ∧ t.snap.fieldWords = snapFieldWords v ∧ t.snap.words = snapWords { v with ctl := t.ctl }
        ∧ t.svc.toggles = s.svc.toggles ++ [(13, u.now)] ∧ asks t ∧ only t))
      ∧ (noted → Completes x s (fun t => t.snap = { s.snap with src := s.snap.src ||| BitVec.ofNat 4 src } ∧ asks t ∧ t.jnl = s.jnl ∧ only t))
      ∧ (s.snap.held = true → ¬ noted → Completes x s (fun t => t.snap = { s.snap with missed := t.snap.missed }
          ∧ t.snap.missed.toNat = min 255 (s.snap.missed.toNat + 1) ∧ t.tri = s.tri ∧ only t)) := by
  intro only asks noted
  obtain ⟨hsnap, hseq, hjnl, htri, htog, hctl⟩ := advance_snap_kept n s
  rw [← hu] at hsnap hseq hjnl htri htog hctl
  have honly : ∀ t, Snaps { u with ctl := c } t → only t := fun t ht =>
    ⟨fun a => (ht.ctlGet a).trans ((h.words a).trans (hctl a)), by rw [ht.rest]; rfl⟩
  have hcbit : cbit 0x0900_0000 3 { u with ctl := c } = cbit 0x0900_0000 3 s := by simp only [cbit, h.words, hctl]
  have hasks : ∀ w : State, Snaps { u with ctl := c } w → w.tri = u.tri → asks (requestPeers w) := fun w hw hwt p hp => by
    rw [(requestPeers_spec w).2 p hp, State.tp, hwt, htri, show cbit 0x0900_0000 3 w = cbit 0x0900_0000 3 s by
      rw [← hcbit]; simp only [cbit, hw.ctlGet]]
    rfl
  have hreq : ∀ w : State, Snaps { u with ctl := c } w → Snaps { u with ctl := c } (requestPeers w) := fun w hw =>
    hw.trans ⟨by rw [(requestPeers_spec w).1]⟩
  refine ⟨fun hheld => ?_, fun hn => ?_, fun hheld hn => ?_⟩
  · have hrun : triggerSnapshot src true { u with ctl := c } = requestPeers (latchSnapshot src false { u with ctl := c }) := by
      have hh : u.snap.held = false := (congrArg Snapshot.held hsnap).trans hheld
      simp only [triggerSnapshot, sameT0, hh]
      rfl
    have hlatch := latchSnapshot_spec hsrc h
    generalize latchSnapshot src false { u with ctl := c } = w at hlatch hrun
    obtain ⟨h1, h2, h3, h4, h5, h6, h7, h8, h9, h10, h11, hw⟩ := hlatch
    have hc : (requestPeers w).ctl = c := (hreq w hw).ctl
    have ha := hasks w hw h11
    have ho := honly _ (hreq w hw)
    have hp := (requestPeers_spec w).1
    rw [hrun] at hexec
    refine ⟨_, hexec, ?_⟩
    generalize requestPeers w = t at hc ha ho hp
    obtain ⟨T, rfl⟩ : ∃ T, t = { w with tri := T } := ⟨_, hp⟩
    refine ⟨h1, h2, ?_, h4, ?_, h6, h7, h8, ?_, ?_, ha, ho⟩
    · rw [← hsnap]; exact h3
    · rw [← hseq]; exact h5
    · rw [hc]; exact h9
    · rw [← htog]; exact h10
  · obtain ⟨hheld, hdt, hfree⟩ := hn
    have hrun : triggerSnapshot src true { u with ctl := c } = requestPeers (mergeSource src { u with ctl := c }) := by
      have hsame : sameT0 { u with ctl := c } = true := by
        show (u.snap.held && u.snap.dtime == u.now) = true
        rw [hsnap, hheld, hdt, beq_self_eq_true]
        rfl
      have hf : u.snap.src &&& BitVec.ofNat 4 src = 0 := by rw [hsnap]; exact hfree
      simp only [triggerSnapshot, hsame, hf, Bool.true_and, beq_self_eq_true, if_true]
    have hw : Snaps { u with ctl := c } (mergeSource src { u with ctl := c }) := ⟨rfl⟩
    have ha := hasks _ hw rfl
    have ho := honly _ (hreq _ hw)
    have hp := (requestPeers_spec (mergeSource src { u with ctl := c })).1
    rw [hrun] at hexec
    refine ⟨_, hexec, ?_⟩
    generalize requestPeers (mergeSource src { u with ctl := c }) = t at ha ho hp
    obtain ⟨T, rfl⟩ : ∃ T, t = { mergeSource src { u with ctl := c } with tri := T } := ⟨_, hp⟩
    exact ⟨congrArg (fun n : Snapshot => { n with src := n.src ||| BitVec.ofNat 4 src }) hsnap, ha, hjnl, ho⟩
  · have hrun : triggerSnapshot src true { u with ctl := c } = record 0x9121 [src] { { u with ctl := c } with
        snap := { u.snap with missed := BitVec.ofNat 8 (sat 255 (u.snap.missed.toNat + 1)) } } := by
      have hcond : (sameT0 { u with ctl := c } && u.snap.src &&& BitVec.ofNat 4 src == 0) = false := by
        rw [Bool.eq_false_iff]
        intro hb
        obtain ⟨h1, h2⟩ := Bool.and_eq_true_iff.mp hb
        obtain ⟨h3, h4⟩ := Bool.and_eq_true_iff.mp h1
        refine hn ⟨hheld, ?_, ?_⟩
        · rw [← hsnap]; exact eq_of_beq h4
        · rw [← hsnap]; exact eq_of_beq h2
      have hh : u.snap.held = true := (congrArg Snapshot.held hsnap).trans hheld
      simp only [triggerSnapshot, hcond, hh, Bool.false_eq_true, if_false, if_true]
    obtain ⟨j, hj⟩ := record_keeper (code := 0x9121) rfl [src] { { u with ctl := c } with
        snap := { u.snap with missed := BitVec.ofNat 8 (sat 255 (u.snap.missed.toNat + 1)) } }
    rw [hj] at hrun
    rw [hrun] at hexec
    refine ⟨_, hexec, ?_, ?_, htri, honly _ ⟨rfl⟩⟩
    · rw [← hsnap]
    · rw [← hsnap]
      exact Nat.mod_eq_of_lt (lt_of_le_of_lt (Nat.min_le_left _ _) (by decide))

/-! ### The copy in the keeper log (R50) -/

/-- The record of a chunk of a snapshot's words. -/
def logChunk (number : Word) (s : State) (c : List (Nat × Word)) : State :=
  recordB 0x9120 (le 4 number.toNat ++ c.flatMap (fun p => le 4 p.1 ++ le 4 p.2.toNat)) s

theorem logs_logChunk (number : Word) (s : State) (c : List (Nat × Word)) : Logs s (logChunk number s c) := logs_recordB rfl _ s

theorem logWords_chunks (fuel : Nat) (ws : List (Nat × Word)) (s : State) (h : ws.length < 500 * fuel) :
    ∃ chunks : List (List (Nat × Word)), chunks.flatten = ws ∧ logWords fuel ws s = chunks.foldl (logChunk s.snap.number) s := by
  induction fuel generalizing ws s with
  | zero => omega
  | succ n ih =>
    by_cases hl : ws.length ≤ snapRecWords
    · refine ⟨[ws], by simp, ?_⟩
      have ht : ws.take snapRecWords = ws := List.take_of_length_le hl
      simp only [logWords, if_pos hl, ht]
      rfl
    · have hn : snapRecWords = 500 := rfl
      obtain ⟨chunks, hflat, hlog⟩ := ih (ws.drop snapRecWords) (logChunk s.snap.number s (ws.take snapRecWords)) (by
        rw [List.length_drop]
        omega)
      refine ⟨ws.take snapRecWords :: chunks, by rw [List.flatten_cons, hflat, List.take_append_drop], ?_⟩
      have hnum : (logChunk s.snap.number s (ws.take snapRecWords)).snap.number = s.snap.number := by rw [(logs_logChunk _ _ _).rest]
      rw [hnum] at hlog
      rw [List.foldl_cons, ← hlog]
      simp only [logWords, if_neg hl]
      rfl

/-- The words that stand before those of the blocks. -/
def snapHead (n : Snapshot) : List (Nat × Word) :=
  [(0x4, w32 n.src.toNat), (0x8, w32 n.dtime), (0xC, w32 (n.dtime / 2 ^ 32)), (0x10, w32 n.mcc), (0x14, w32 (n.mcc / 2 ^ 32))]

theorem copySnapshot_done {s : State} (h : ¬ (s.snap.copied = false ∧ s.snap.number ≠ 0)) : copySnapshot s = s := by
  refine if_pos ?_
  rw [Bool.or_eq_true, beq_iff_eq]
  by_cases hc : s.snap.copied = true
  · exact .inl hc
  · exact .inr (by_contra (fun hn => h ⟨Bool.eq_false_iff.mpr hc, hn⟩))

theorem copySnapshot_logs {c : Tab Word} {u : State} (h : u.snap.copied = false ∧ u.snap.number ≠ 0) :
    ∃ chunks : List (List (Nat × Word)), chunks.flatten = snapHead u.snap ++ u.snap.words
      ∧ copySnapshot { u with ctl := c } = { chunks.foldl (logChunk u.snap.number) u with ctl := c, snap := { u.snap with copied := true } } := by
  obtain ⟨hc, hn⟩ := h
  have hcond : ¬ (u.snap.copied || u.snap.number == 0) = true := by
    rw [hc, Bool.false_or, beq_iff_eq]
    exact hn
  obtain ⟨chunks, hflat, hlog⟩ := logWords_chunks ((snapHead u.snap ++ u.snap.words).length / snapRecWords + 1) (snapHead u.snap ++ u.snap.words)
    { { u with ctl := c } with snap := { u.snap with copied := true } } (by
      show _ < 500 * (_ / 500 + 1)
      omega)
  refine ⟨chunks, hflat, (if_neg hcond).trans (hlog.trans ?_)⟩
  exact foldl_recordB_beside 0x9120 _ c { u.snap with copied := true } chunks u

theorem logs_logChunks (number : Word) (chunks : List (List (Nat × Word))) (s : State) : Logs s (chunks.foldl (logChunk number) s) :=
  .foldl (fun u c => logs_logChunk number u c) chunks s

/-- The copy of the words of a snapshot: what the statement asks of the keeper log. -/
def Copied (n : Snapshot) (u t : State) : Prop :=
  ∃ chunks : List (List (Nat × Word)), chunks.flatten = snapHead n ++ n.words ∧ t.jnl = (chunks.foldl (logChunk n.number) u).jnl

/-! ### The register (R48, R51) -/

def snpCtrlRow : RegRow := row .snpCtrl 0x0900_0000 1 0x4 1 0x4 .always [rwc 3 3, rwc 2 2, fld .w1s 1 1 .maintain, fld .w1s 0 0 .nobody]

theorem masked_kept {w v m : Word} (hv : v &&& m = 0) : (w &&& ~~~m) ||| (((w &&& m) ||| v) &&& m) = w := by
  apply BitVec.eq_of_getLsbD_eq
  intro i hi
  have hb : (v.getLsbD i && m.getLsbD i) = false := by
    rw [← BitVec.getLsbD_and, hv]
    exact BitVec.getLsbD_zero
  simp only [BitVec.getLsbD_or, BitVec.getLsbD_and, BitVec.getLsbD_not, hi, decide_true, Bool.true_and]
  revert hb
  cases w.getLsbD i <;> cases m.getLsbD i <;> cases v.getLsbD i <;> decide

/-- A write of SNP_CTRL that keeps its RWC bits: the control space holds the same words. -/
theorem accessWrite_snpCtrl {acc : Access} {s : State} {v : Word} (hw : WriteGranted acc 0x0900_0000 ((ctlGet 0x0900_0000 s &&& 0xC) ||| v) s)
    (hv : v &&& 0xC = 0) : ∃ c, SameWords c (advance acc.at_ s)
      ∧ accessWrite acc 0x0900_0000 ((ctlGet 0x0900_0000 s &&& 0xC) ||| v) s
        = writeSnpCtrl ((ctlGet 0x0900_0000 s &&& 0xC) ||| v) { advance acc.at_ s with ctl := c } := by
  have hst := storeBits_ctl snpCtrlRow 0x0900_0000 ((ctlGet 0x0900_0000 s &&& 0xC) ||| v) (advance acc.at_ s)
  refine ⟨(storeBits snpCtrlRow 0x0900_0000 ((ctlGet 0x0900_0000 s &&& 0xC) ||| v) (advance acc.at_ s)).ctl, ⟨fun a => ?_⟩, ?_⟩
  · rw [← hst]
    by_cases ha : a = 0x0900_0000
    · rw [ha, ctlGet_storeBits, show snpCtrlRow.mask [.rw, .rwc] = 0xC by decide, advance_ctlGet]
      exact masked_kept hv
    · exact ctlGet_storeBits_other _ ha _ _
  · rw [← hst, accessWrite_always hw (r := snpCtrlRow) rfl rfl]
    rfl

theorem snpBit {w v : Word} (i : Nat) (hi : (0xC : Word).getLsbD i = false) : ((w &&& 0xC) ||| v).getLsbD i = v.getLsbD i := by
  rw [BitVec.getLsbD_or, BitVec.getLsbD_and, hi, Bool.and_false, Bool.false_or]

theorem writeSnpCtrl_trigger (w : Word) (s : State) : writeSnpCtrl ((w &&& 0xC) ||| 1) s = triggerSnapshot 4 true s := by
  simp only [writeSnpCtrl, snpBit 0 (by decide), snpBit 1 (by decide)]
  rfl

theorem writeSnpCtrl_release (w : Word) (s : State) : writeSnpCtrl ((w &&& 0xC) ||| 2) s = releaseSnapshot s := by
  simp only [writeSnpCtrl, snpBit 0 (by decide), snpBit 1 (by decide)]
  rfl

/-- The release of a snapshot, copied first where it has not been (R50). -/
theorem snapshotRelease_spec {acc : Access} {s : State} (hw : WriteGranted acc 0x0900_0000 ((ctlGet 0x0900_0000 s &&& 0xC) ||| 2) s)
    {u : State} (hu : u = advance acc.at_ s) :
    Completes (.snapshotRelease acc) s (fun t => t.snap.held = false ∧ t.snap = { s.snap with
        held := false, missed := 0, overwritten := false, copied := t.snap.copied }
      ∧ ((∀ a, ctlGet a t = ctlGet a s)
        ∧ t = { u.noted t with ctl := t.ctl, snap := t.snap, tri := t.tri, keep := { u.keep with lastCode := t.keep.lastCode } })
      ∧ (s.snap.copied = false ∧ s.snap.number ≠ 0 → Copied s.snap u t ∧ t.snap.copied = true)
      ∧ (¬ (s.snap.copied = false ∧ s.snap.number ≠ 0) → t.jnl = s.jnl ∧ t.snap.copied = s.snap.copied)) := by
  obtain ⟨c, hc, hacc⟩ := accessWrite_snpCtrl hw (by decide)
  obtain ⟨hsnap, -, hjnl, -, -, hctl⟩ := advance_snap_kept acc.at_ s
  rw [← hu] at hc hacc hsnap hjnl hctl
  have hexec : exec (.snapshotRelease acc) s = .next (releaseSnapshot { u with ctl := c }) :=
    congrArg Host.Outcome.next (hacc.trans (writeSnpCtrl_release _ _))
  rw [← hsnap, ← hjnl]
  by_cases hf : u.snap.copied = false ∧ u.snap.number ≠ 0
  · obtain ⟨chunks, hflat, hcopy⟩ := copySnapshot_logs (c := c) hf
    rw [releaseSnapshot, hcopy] at hexec
    have hl := logs_logChunks u.snap.number chunks u
    refine ⟨_, hexec, rfl, rfl, ?_, fun _ => ⟨⟨chunks, hflat, rfl⟩, rfl⟩, fun hn => absurd hf hn⟩
    generalize chunks.foldl (logChunk u.snap.number) u = v at hl
    obtain ⟨j, k, rfl⟩ : ∃ j k, v = { u with jnl := j, keep := { u.keep with lastCode := k } } := ⟨_, _, hl.rest⟩
    exact ⟨fun a => (hc.words a).trans (hctl a), rfl⟩
  · rw [releaseSnapshot, copySnapshot_done (s := { u with ctl := c }) hf] at hexec
    exact ⟨_, hexec, rfl, rfl, ⟨fun a => (hc.words a).trans (hctl a), rfl⟩, fun h => absurd h hf, fun _ => ⟨rfl, rfl⟩⟩

/-- The copy alone (R50). -/
theorem snapshotCopied_spec {s : State} (hf : s.snap.copied = false ∧ s.snap.number ≠ 0) :
    Completes .snapshotCopied s (fun t => t.snap = { s.snap with copied := true } ∧ Copied s.snap s t ∧ ((∀ a, ctlGet a t = ctlGet a s)
      ∧ t = { s.noted t with ctl := t.ctl, snap := t.snap, tri := t.tri, keep := { s.keep with lastCode := t.keep.lastCode } })) := by
  obtain ⟨chunks, hflat, hcopy⟩ := copySnapshot_logs (c := s.ctl) hf
  have hexec : exec .snapshotCopied s = .next (copySnapshot { s with ctl := s.ctl }) := rfl
  rw [hcopy] at hexec
  refine ⟨_, hexec, rfl, ⟨chunks, hflat, rfl⟩, ?_⟩
  have hl := logs_logChunks s.snap.number chunks s
  generalize chunks.foldl (logChunk s.snap.number) s = v at hl
  obtain ⟨j, k, rfl⟩ : ∃ j k, v = { s with jnl := j, keep := { s.keep with lastCode := k } } := ⟨_, _, hl.rest⟩
  exact ⟨fun a => rfl, rfl⟩

/-- Words of field blocks that have not come within 10 ms are given up (R50). -/
theorem snapshotFbTimeout_due {ns : Nat} {s u : State} (hu : u = advance ns s) (h : s.snap.dtime + 10_000_000 ≤ u.now) :
    Completes (.snapshotFbTimeout ns) s (fun t => t.snap = { s.snap with fieldWords := [] } ∧ ((∀ a, ctlGet a t = ctlGet a s)
      ∧ t = { u.noted t with ctl := t.ctl, snap := t.snap, tri := t.tri, keep := { u.keep with lastCode := t.keep.lastCode } })
      ∧ t.jnl = ((missingBlocks s).foldl (fun w f => record 0x9122 [f] w) u).jnl) := by
  obtain ⟨hsnap, -, -, -, -, hctl⟩ := advance_snap_kept ns s
  have hmiss : missingBlocks s = missingBlocks u := by
    rw [hu]
    simp only [missingBlocks, State.blocksFitted, advance_snap, advance_fused]
  have hexec : exec (.snapshotFbTimeout ns) s = .next (reportMissing u) := by
    rw [hu]
    refine congrArg Host.Outcome.next (if_neg ?_)
    rw [hsnap, ← hu]
    omega
  rw [← hu] at hsnap hctl
  rw [hmiss, ← hsnap]
  rw [reportMissing_eq] at hexec
  refine ⟨_, hexec, rfl, ?_, rfl⟩
  have hl : Logs u ((missingBlocks u).foldl (fun s f => record 0x9122 [f] s) u) := .foldl (fun u f => logs_recordB rfl _ u) _ u
  generalize (missingBlocks u).foldl (fun s f => record 0x9122 [f] s) u = v at hl
  obtain ⟨j, k, rfl⟩ : ∃ j k, v = { u with jnl := j, keep := { u.keep with lastCode := k } } := ⟨_, _, hl.rest⟩
  exact ⟨fun a => hctl a, rfl⟩

theorem sameWords_self (u : State) : SameWords u.ctl u := ⟨fun _ => rfl⟩

/-- Settles O51: every trigger is one of three outcomes of `triggerSnapshot`; the copy, the release and the timeout are its other operations. -/
theorem snapshotsAct : Obligations.SnapshotsAct := by
  unfold Obligations.SnapshotsAct
  intro acc ns s
  have hcb : cbit 0x0900_0000 2 (advance ns s) = cbit 0x0900_0000 2 s := by simp only [cbit, advance_ctlGet]
  refine ⟨fun hon => triggerSnapshot_spec (by decide) (sameWords_self _) ?_ rfl, fun hoff => ?_, fun hw => ?_, fun hw => snapshotRelease_spec hw rfl,
    snapshotCopied_spec, fun hf => congrArg Host.Outcome.next (copySnapshot_done hf), fun hlt => ?_, snapshotFbTimeout_due rfl⟩
  · exact congrArg Host.Outcome.next (if_pos (hcb.trans hon))
  · exact congrArg Host.Outcome.next (if_neg (by rw [hcb, hoff]; decide))
  · obtain ⟨c, hc, hacc⟩ := accessWrite_snpCtrl hw (by decide)
    exact triggerSnapshot_spec (by decide) hc (congrArg Host.Outcome.next (hacc.trans (writeSnpCtrl_trigger _ _))) rfl
  · refine congrArg Host.Outcome.next (if_pos ?_)
    rw [advance_snap]
    exact hlt

end Sys2Proof.Machine
end

section
/-!
PROOFS. STABLED and wake (O46).
-/
namespace Sys2Proof.Machine

/-! ### The request (R535) -/

def lkpStblRow : RegRow := row .lkpStbl 0x0800_0300 1 0x4 1 0x4 .always [ro 15 8, fld .w1s 1 1 .maintain, fld .w1s 0 0 .maintain]

theorem accessWrite_lkpStbl {acc : Access} {v : Word} {s : State} (hw : WriteGranted acc 0x0800_0300 v s) :
    accessWrite acc 0x0800_0300 v s = writeStbl v (advance acc.at_ s) := by
  rw [accessWrite_always hw (r := lkpStblRow) rfl rfl]
  simp only [writeReg, storeBits_of_mask_zero (show lkpStblRow.mask [.rw, .rwc] = 0 by decide)]
  rfl

theorem writeStbl_request (s : State) : writeStbl 1 s = requestStabled s := by
  simp only [writeStbl, show (1 : Word).getLsbD 1 = false from rfl, show (1 : Word).getLsbD 0 = true from rfl, Bool.false_and, Bool.false_eq_true,
    if_false, if_true]

theorem writeStbl_wake (s : State) : writeStbl 2 s = if s.keep.mode = .stabled then wakeEdge 7 s else s := by
  simp only [writeStbl, show (2 : Word).getLsbD 1 = true from rfl, show (2 : Word).getLsbD 0 = false from rfl, Bool.true_and, Bool.false_eq_true,
    if_false, beq_iff_eq]

/-- A refused request: its reason is kept and recorded. -/
theorem refuseStabled_spec (reason : Nat) (s : State) : refuseStabled reason s = { s.noted (refuseStabled reason s) with
    keep := { s.keep with stblRequest := false, stblReason := BitVec.ofNat 8 reason, lastCode := (refuseStabled reason s).keep.lastCode } } := by
  obtain ⟨j, hj⟩ := record_keeper (code := 0x9060) rfl [reason] (setKeep (fun q => { q with stblRequest := false, stblReason := BitVec.ofNat 8 reason }) s)
  rw [refuseStabled, hj]
  rfl

theorem requestStabled_refused {s : State} (h : s.keep.mode ≠ .run) (h' : s.keep.mode ≠ .degraded) : requestStabled s = refuseStabled 1 s :=
  if_neg (fun hn => hn.elim h h')

/-! ### The wake watcher (R508, R537) -/

/-- An edge of wake source `k` sets its wake bit where the armed watcher listens to it. -/
theorem wakeEdge_eq {k : Nat} (hk : k < 16) {armed : Bool} {on : Bool} {s : State} (ha : s.svc.armed = armed) (hon : cbit 0x0700_0008 k s = on) :
    wakeEdge k s = if armed = true ∧ on = true then { s with svc := { s.svc with wakePend := s.svc.wakePend ||| (1#16 <<< k) } } else s := by
  unfold wakeEdge
  rw [ha, hon]
  exact if_congr ⟨fun h => ⟨h.1, h.2.2⟩, fun h => ⟨h.1, hk, h.2⟩⟩ rfl rfl

/-! ### Wake (R41, R538) -/

theorem now_countAclk (k : Nat) (s : State) :
    (countAclk k s).now = max s.now (s.keep.stblEntry + max s.keep.stblAclk k * 30_517_578_125 / 1_000_000) := by
  show max s.time.t6 (6 * aclkTime s.keep.stblEntry (max s.keep.stblAclk k)) / 6 = max (s.time.t6 / 6) _
  unfold aclkTime
  omega

theorem talks_endReset (b : Nat) (s : State) : Talks s (endReset b s) := talks_setBerth b _ s

/-- The keeper as a BOOT begins, but for the mode (R517). -/
def Keeper.booting (b : BootKind) (stage kind code now : Nat) (q : Keeper) : Keeper :=
  { q with
    bootKind := b, bootStage := stage, bootFailed := 0, bootStart := now, bootCount := q.bootCount + 1
    resetKind := kind, resetCode := BitVec.ofNat 16 code, romRecovery := false }

theorem beginBoot_eq (b : BootKind) (stage kind code : Nat) (s : State) : ∃ s2, Talks { s with keep := s.keep.booting b stage kind code s.now } s2
    ∧ beginBoot b stage kind code s = if s2.keep.mode = .boot then s2 else setMode .boot (if code = 0 then 0x9030 else code) s2 :=
  ⟨_, .ite (.refl _) (talks_record _ _ _), rfl⟩

/-- A BOOT that begins changes the keeper alone, besides what is told (R517). -/
theorem talks_beginBoot (b : BootKind) (stage kind code : Nat) (s : State) : ∃ prev cause, Talks { s with
    keep := { s.keep.booting b stage kind code s.now with mode := .boot, prev := prev, cause := cause } } (beginBoot b stage kind code s) := by
  obtain ⟨s2, h2, heq⟩ := beginBoot_eq b stage kind code s
  rw [heq]
  by_cases hm : s2.keep.mode = .boot
  · rw [if_pos hm]
    have hm' : s.keep.mode = .boot := h2.mode.symm.trans hm
    refine ⟨s.keep.prev, s.keep.cause, ?_⟩
    rw [← hm']
    exact h2
  · rw [if_neg hm]
    refine ⟨s2.keep.mode, BitVec.ofNat 16 (if code = 0 then 0x9030 else code), .trans ⟨?_, ?_⟩ (talks_setMode .boot (if code = 0 then 0x9030 else code) s2)⟩
    · rw [h2.rest]
    · exact h2.raised

/-- What a wake leaves: BOOT from S3, with the wake bits latched (R538). -/
theorem wake_boots {aclk : Nat} {s : State} (hmode : s.keep.mode = .stabled) (hpend : s.svc.wakePend ≠ 0) :
    Completes (.wake aclk) s (fun t => t.keep.mode = .boot ∧ t.keep.bootKind = .wake ∧ t.keep.bootStage = 3
      ∧ t.keep.resetKind = 5 ∧ t.svc.latched = s.svc.wakePend ∧ t.svc.wakeOwed = s.svc.wakePend ∧ t.svc.armed = false
      ∧ t.keep.bootCount = s.keep.bootCount + 1 ∧ t.sram = [] ∧ t.keep.slots = s.keep.slots
      ∧ t.now = max s.now (s.keep.stblEntry + max s.keep.stblAclk aclk * 30_517_578_125 / 1_000_000)) := by
  obtain ⟨j, hr⟩ := record_keeper (code := 0x9062) rfl [s.svc.wakePend.toNat] s
  have hc := now_countAclk aclk { s with jnl := j, keep := { s.keep with lastCode := 0x9062 } }
  have hexec : ∃ w, Talks (setKeep (fun q => { q with reinit := [], isolated := [] })
      (wakeRegions (countAclk aclk { s with jnl := j, keep := { s.keep with lastCode := 0x9062 } }))) w
      ∧ exec (.wake aclk) s = .next (beginBoot .wake 3 5 0x9062 w) := by
    rw [← hr]
    exact ⟨_, .ite (.refl _) ((talks_resetBerth 0 _).trans (talks_endReset 0 _)), if_neg (not_or.mpr ⟨not_not.mpr hmode, hpend⟩)⟩
  obtain ⟨w, hw, hx⟩ := hexec
  obtain ⟨prev, cause, hb⟩ := talks_beginBoot .wake 3 5 0x9062 w
  refine ⟨_, hx, ?_⟩
  beta_reduce
  rw [hb.keep, hb.sram, hb.now]
  have hsvc : (beginBoot .wake 3 5 0x9062 w).svc = { w.svc with toggles := (beginBoot .wake 3 5 0x9062 w).svc.toggles } := by rw [hb.rest]
  have hwsvc : w.svc = { latched := s.svc.wakePend, wakeOwed := s.svc.wakePend, toggles := w.svc.toggles } := by rw [hw.rest]; rfl
  have hkept : w.keep.bootCount = s.keep.bootCount ∧ w.keep.slots = s.keep.slots := by
    rw [hw.keep]
    exact ⟨rfl, rfl⟩
  obtain ⟨hcount, hslots⟩ := hkept
  rw [hsvc, hwsvc]
  refine ⟨rfl, rfl, rfl, rfl, rfl, rfl, rfl, congrArg (· + 1) hcount, hw.sram, hslots, ?_⟩
  exact hw.now.trans hc

/-! ### Entry to STABLED (R535, R536) -/

/-- The sequencer is stopped, and the journal is asked for what R536 wants stored. -/
def stabledFirst (s : State) : State := askFrame (applyHeldSamples (askCheckpoint (stopSequencer s)))

theorem stabledFirst_spec (s : State) : (stabledFirst s).seq.phase = .notRunning ∧ (stabledFirst s).sram = s.sram ∧ (stabledFirst s).image = s.image
    ∧ (stabledFirst s).now = s.now ∧ (stabledFirst s).fused = s.fused := by
  have h0 := talks_askCheckpoint (stopSequencer s)
  have h1 := (talks_applyHeldSamples (askCheckpoint (stopSequencer s))).trans (talks_askFrame _)
  unfold stabledFirst
  refine ⟨?_, ?_, ?_, ?_, ?_⟩
  · rw [h1.seq]
    show (askCheckpoint (stopSequencer s)).seq.phase = _
    rw [h0.seq]
    rfl
  · exact h1.sram.trans h0.sram
  · exact h1.image.trans h0.image
  · exact h1.now.trans h0.now
  · exact h1.fused.trans h0.fused

/-- Watcher, axes, ports and triad of a module in STABLED. -/
def stabledSecond (s : State) : State :=
  setKeep (fun q => { q with stblRequest := false, stblEntry := s.now, stblAclk := 0, liveLow := true, tripLow := true }) { s with
    svc := { s.svc with
      armed := true, wakePend := 0, latched := 0, wakeOwed := 0, held := true, toggles := []
      cores := s.svc.cores.map (fun p => (p.1, { p.2 with released := false, presented := none })) }
    mot := { s.mot with axes := s.mot.axes.map (fun p => (p.1, ({} : Axis))), arriving := none, ready := [] }
    net := { s.net with ports := [] }
    tri := {} }

/-- The field blocks as a module goes to STABLED: FB0 keeps its outputs' fail-safe states, the others lose their supply. -/
def stabledBlock (s : State) (f : Nat) : State :=
  if f = 0 then evalBlock 0 false (setBlock 0 (fun b => { b with modeForce := true, link := 0, frame := none, cmds := [], words := none }) s)
  else setBlock f (fun _ => {}) s

theorem delivers_stabledBlock (s : State) (f : Nat) : Delivers s (stabledBlock s f) := by
  unfold stabledBlock
  split
  · exact (delivers_setBlock 0 _ s).trans (.of_inside (settles_evalBlock 0 false _).inside)
  · exact delivers_setBlock f _ s

theorem enterStabled_eq (s : State) : enterStabled s = setMode .stabled 0x9061 (record 0x9061 []
    ((List.range (stabledSecond (stabledFirst s)).blocksFitted).foldl stabledBlock (stabledSecond (stabledFirst s)))) := rfl

theorem look_map_const {α : Type} (d : α) (n : Nat) (l : Tab α) : look d n (l.map (fun p => (p.1, d))) = d :=
  look_map_fixed (f := fun _ => d) rfl n l

theorem enterStabled_spec (s : State) : (enterStabled s).keep.mode = .stabled ∧ (enterStabled s).keep.stblRequest = false
    ∧ (enterStabled s).keep.stblEntry = s.now ∧ (enterStabled s).keep.stblAclk = 0 ∧ (enterStabled s).keep.tripLow = true
    ∧ (enterStabled s).keep.liveLow = true ∧ (enterStabled s).svc.armed = true ∧ (enterStabled s).svc.wakePend = 0 ∧ (enterStabled s).svc.held = true
    ∧ (enterStabled s).seq.phase = .notRunning ∧ (enterStabled s).sram = s.sram ∧ (enterStabled s).image = s.image ∧ (enterStabled s).tri = {}
    ∧ ∀ n, ((enterStabled s).axis n).st = .disabled := by
  obtain ⟨hphase, hsram, himage, hnow, -⟩ := stabledFirst_spec s
  have h3 : Delivers (stabledSecond (stabledFirst s)) ((List.range (stabledSecond (stabledFirst s)).blocksFitted).foldl stabledBlock
    (stabledSecond (stabledFirst s))) := .foldl delivers_stabledBlock _ _
  rw [enterStabled_eq]
  generalize (List.range (stabledSecond (stabledFirst s)).blocksFitted).foldl stabledBlock (stabledSecond (stabledFirst s)) = v at h3
  generalize stabledFirst s = u at hphase hsram himage hnow h3
  have h4 := talks_record 0x9061 [] v
  have h5 := talks_setMode .stabled 0x9061 (record 0x9061 [] v)
  generalize setMode .stabled 0x9061 (record 0x9061 [] v) = t at h5
  generalize record 0x9061 [] v = w at h4 h5
  have h6 : Delivers (stabledSecond u) w := h3.trans (.of_talks h4)
  have hk : w.keep = { (stabledSecond u).keep with lastCode := w.keep.lastCode } := by rw [h6.rest]
  have hs : w.svc = { (stabledSecond u).svc with toggles := w.svc.toggles } := by rw [h6.rest]
  have hq : w.seq.phase = (stabledSecond u).seq.phase := by rw [h6.rest]
  have hm : w.sram = (stabledSecond u).sram := by rw [h6.rest]
  have hi : w.image = (stabledSecond u).image := by rw [h6.rest]
  have ht : t.svc = { w.svc with toggles := t.svc.toggles } := by rw [h5.rest]
  have hax : t.mot = (stabledSecond u).mot := h5.mot.trans h6.mot
  rw [h5.keep, hk, ht, hs, h5.seq]
  refine ⟨rfl, rfl, hnow, rfl, rfl, rfl, rfl, rfl, rfl, hq.trans hphase, h5.sram.trans (hm.trans hsram), h5.image.trans (hi.trans himage),
    h5.tri.trans h6.tri, fun n => ?_⟩
  rw [State.axis, hax]
  exact congrArg Axis.st (look_map_const ({} : Axis) n u.mot.axes)

/-- Settles O46: the request, the watcher, the wake and the entry are each one operation of the keeper. -/
theorem stabledAndWake : Obligations.StabledAndWake := by
  unfold Obligations.StabledAndWake
  intro acc s
  have hmode : (advance acc.at_ s).keep.mode = s.keep.mode := advance_keep_mode _ s
  have hedge : ∀ k < 16, wakeEdge k s = _ := fun k hk => wakeEdge_eq hk rfl rfl
  refine ⟨fun hw => ⟨fun hm => ?_, fun h1 h2 => ?_⟩, fun k => congrArg Host.Outcome.next (hedge k k.isLt), fun hst => ⟨?_, ?_, ?_, fun hw => ?_, fun w => ?_,
    fun aclk hp => wake_boots hst hp⟩, fun hst => ⟨⟨_, congrArg Host.Outcome.next (if_neg hst), rfl, rfl⟩, fun x hx => ?_, fun w => ?_, fun hw => ?_⟩,
    fun h aclk => if_pos h, fun hn => if_pos ?_, fun hd hr => ?_, fun hd hr => ?_⟩
  · refine congrArg Host.Outcome.next ((accessWrite_lkpStbl hw).trans ((writeStbl_request _).trans (if_pos ?_)))
    rw [hmode]
    exact hm
  · refine ⟨_, congrArg Host.Outcome.next ((accessWrite_lkpStbl hw).trans ((writeStbl_request _).trans (requestStabled_refused ?_ ?_))), refuseStabled_spec 1 _⟩
    · rwa [hmode]
    · rwa [hmode]
  · exact congrArg Host.Outcome.next ((if_pos hst).trans (hedge 5 (by decide)))
  · exact congrArg Host.Outcome.next ((if_pos hst).trans (hedge 7 (by decide)))
  · exact congrArg Host.Outcome.next (if_congr (and_iff_right hst) (hedge 6 (by decide)) rfl)
  · refine congrArg Host.Outcome.next ((accessWrite_lkpStbl hw).trans ((writeStbl_wake _).trans ((if_pos (hmode.trans hst)).trans ?_)))
    exact wakeEdge_eq (by decide) (congrArg Service.armed (advance_svc _ s)) (by simp only [cbit, advance_ctlGet])
  · exact congrArg Host.Outcome.next (if_congr (and_iff_right hst) (hedge (8 + w.val) (by omega)) rfl)
  · fin_cases hx
    · exact congrArg Host.Outcome.next (if_neg hst)
    · exact congrArg Host.Outcome.next (if_neg (fun h => hst h.1))
  · exact congrArg Host.Outcome.next (if_neg (fun h => hst h.1))
  · exact congrArg Host.Outcome.next ((accessWrite_lkpStbl hw).trans ((writeStbl_wake _).trans (if_neg (by rw [hmode]; exact hst))))
  · by_contra h
    simp only [not_or, Bool.not_eq_false, not_not, Bool.not_eq_true, Nat.not_lt] at h
    exact hn ⟨h.1, h.2.1, h.2.2.1, h.2.2.2⟩
  · obtain ⟨h1, h2, h3, h4⟩ := hd
    refine ⟨_, (if_neg ?_).trans (if_neg hr), refuseStabled_spec _ s⟩
    simp [h1, h2, h3, h4]
  · obtain ⟨h1, h2, h3, h4⟩ := hd
    refine ⟨_, (if_neg ?_).trans (if_pos hr), enterStabled_spec s⟩
    simp [h1, h2, h3, h4]

end Sys2Proof.Machine
end

section
/-!
PROOFS. MOT_TEST (O32).
-/
namespace Sys2Proof.Machine

/-! ### One axis -/

/-- Nothing but the motion region and what is told differs, and of the axes none but `n`. -/
structure OnAxis (n : Nat) (s t : State) : Prop where
  stops : Stops s t
  others : ∀ k, k ≠ n → t.axis k = s.axis k

namespace OnAxis

theorem refl (n : Nat) (s : State) : OnAxis n s s := ⟨.refl s, fun _ _ => rfl⟩
theorem trans {n : Nat} {s t u : State} (h : OnAxis n s t) (k : OnAxis n t u) : OnAxis n s u :=
  ⟨h.stops.trans k.stops, fun m hm => (k.others m hm).trans (h.others m hm)⟩
theorem of_talks {n : Nat} {s t : State} (h : Talks s t) : OnAxis n s t := ⟨h.stops, fun k _ => h.axis k⟩

end OnAxis

theorem onAxis_setAxis (n : Nat) (f : Axis → Axis) (s : State) : OnAxis n s (setAxis n f s) :=
  ⟨stops_setAxis n f s, fun k hk => by rw [axis_setAxis, if_neg hk]⟩

theorem onAxis_noteAxisCode (n code : Nat) (s : State) : OnAxis n s (noteAxisCode n code s) :=
  ⟨stops_noteAxisCode n code s, fun k hk => by rw [axis_noteAxisCode, if_neg hk]⟩

theorem onAxis_axRecord (n code : Nat) (args : List Nat) (s : State) : OnAxis n s (axRecord n code args s) :=
  (onAxis_noteAxisCode n code s).trans (.of_talks (talks_record _ _ _))

theorem axis_axRecord (n code : Nat) (args : List Nat) (s : State) : (axRecord n code args s).axis n = { s.axis n with lastCode := code } := by
  rw [axRecord, (talks_record _ _ _).axis, axis_noteAxisCode, if_pos rfl]

theorem onAxis_refusePost (n code : Nat) (s : State) : OnAxis n s (refusePost n code s) := by
  unfold refusePost
  extract_lets s1
  have h1 : OnAxis n s s1 := onAxis_setAxis n _ s
  clear_value s1
  have h2 : OnAxis n s1 { s1 with mot := { s1.mot with refusedRc := sat 0xFFFF (s1.mot.refusedRc + 1) } } := ⟨stops_setMot _ s1, fun _ _ => rfl⟩
  exact ((h1.trans h2).trans (onAxis_axRecord n code [] _)).trans (.of_talks (talks_raise 87 _))

theorem axis_refusePost (n code : Nat) (s : State) :
    (refusePost n code s).axis n = { s.axis n with refused := sat 0xFFFF ((s.axis n).refused + 1), lastCode := code } := by
  unfold refusePost
  extract_lets s1
  have h1 : s1.axis n = { s.axis n with refused := sat 0xFFFF ((s.axis n).refused + 1) } :=
    (axis_setAxis n n (fun a => { a with refused := sat 0xFFFF (a.refused + 1) }) s).trans (if_pos rfl)
  clear_value s1
  show (axRecord n code [] _).axis n = _
  rw [axis_axRecord]
  exact congrArg (fun a : Axis => { a with lastCode := code }) h1

theorem onAxis_rampAxis (n acc den : Nat) (st : AxState) (s : State) : OnAxis n s (rampAxis n acc den st s) := onAxis_setAxis n _ s

theorem onAxis_abortHoming (n code : Nat) (s : State) : OnAxis n s (abortHoming n code s) := by
  unfold abortHoming
  split
  · exact ((onAxis_setAxis n _ s).trans (onAxis_axRecord n code [] _)).trans (.of_talks (talks_raise 84 _))
  · exact .refl n s

/-- What an abort of homing leaves of its axis: everything but the homing and the last code. -/
theorem axis_abortHoming (n code : Nat) (s : State) : ∃ last, (abortHoming n code s).axis n = { s.axis n with homing := none, lastCode := last } := by
  unfold abortHoming
  split
  · refine ⟨code, ?_⟩
    show (axRecord n code [] _).axis n = _
    rw [axis_axRecord, axis_setAxis, if_pos rfl]
  · next h =>
    refine ⟨(s.axis n).lastCode, ?_⟩
    rw [← Option.not_isSome_iff_eq_none.mp h]

/-! ### The end of a test (R362) -/

/-- An axis that is alone leaves no group. -/
theorem leaveGroup_alone {n : Nat} {s : State} (hteam : (s.axis n).team = none) (hpend : (s.axis n).pendingRun = none) : leaveGroup n s = s := by
  unfold leaveGroup stopOthers
  rw [hpend, runMembers, hteam]
  simp [stopMembers]

/-- The end of the test of an axis that is alone: DISABLED at rest, else a stop. -/
theorem endTest_spec {n : Nat} {s : State} (hen : (s.axis n).st.en = true) (hteam : (s.axis n).team = none) (hpend : (s.axis n).pendingRun = none) :
    OnAxis n s (endTest n s) ∧ ((endTest n s).axis n).testKind = 0 ∧ ((s.axis n).v = 0 → ((endTest n s).axis n).st = .disabled)
      ∧ ((s.axis n).v ≠ 0 → ((endTest n s).axis n).st = .stopping ∧ ((endTest n s).axis n).testEnding = true
        ∧ ((endTest n s).axis n).homing = none) := by
  obtain ⟨last, ha⟩ := axis_abortHoming n 0x2033 s
  have ho := onAxis_abortHoming n 0x2033 s
  by_cases hv : (s.axis n).v = 0
  · have h : endTest n s = axRecord n 0x2001 [1] (setAxis n (Axis.coast .disabled (noFeedback n s)) (abortHoming n 0x2033 s)) := by
      simp only [endTest, disableAxis, hen, hv, Bool.not_true, Bool.false_eq_true, if_false, if_true]
      rw [leaveGroup_alone (by rw [ha]; exact hteam) (by rw [ha]; exact hpend)]
    rw [h, axis_axRecord, axis_setAxis, if_pos rfl, ha]
    exact ⟨(ho.trans (onAxis_setAxis n _ _)).trans (onAxis_axRecord n _ _ _), rfl, fun _ => rfl, fun hn => absurd hv hn⟩
  · have h : endTest n s = setAxis n (fun a => { a with testEnding := true, testKind := 0 })
        (rampAxis n (axAstop n s) 1 .stopping (abortHoming n 0x2033 s)) := by
      simp only [endTest, hen, hv, Bool.not_true, Bool.false_eq_true, if_false]
    rw [h, axis_setAxis, if_pos rfl, rampAxis, axis_setAxis, if_pos rfl, ha]
    exact ⟨(ho.trans (onAxis_setAxis n _ _)).trans (onAxis_setAxis n _ _), rfl, fun hn => absurd hn hv, fun _ => ⟨rfl, rfl, rfl⟩⟩

/-! ### The register (R362) -/

def motTestRow : RegRow := row .motTest 0x010A_0004 1 0x4 1 0x4 .always [fld .rw 10 8 .maintain true, fld .rw 4 0 .maintain true]

/-- Two states whose axes are enabled alike: they differ in MOT_TEST, in the axes, and in what enabling does not look at. -/
structure EnablesAlike (s t : State) : Prop where
  words : ∀ a, a ≠ 0x010A_0004 → ctlGet a t = ctlGet a s
  fused : t.fused = s.fused
  fbk : t.fbk = s.fbk
  fault : t.mot.sdFault = s.mot.sdFault
  mode : t.keep.mode = s.keep.mode

theorem EnablesAlike.axHomeDio {s t : State} (h : EnablesAlike s t) {n : Nat} (hn : n < 32) : axHomeDio n t = axHomeDio n s := by
  rw [Machine.axHomeDio, Machine.axHomeDio, cf, cf, h.words _ (by unfold axReg; omega)]

theorem EnablesAlike.enableConfigOk {s t : State} (h : EnablesAlike s t) {n : Nat} (hn : n < 32) : enableConfigOk n t = enableConfigOk n s := by
  have hax : ∀ off, off < 0x100 → ctlGet (axReg n off) t = ctlGet (axReg n off) s := fun off ho => h.words _ (by unfold axReg; omega)
  have hgrp : ctlGet (grpReg (n / 8)) t = ctlGet (grpReg (n / 8)) s := h.words _ (by unfold grpReg; omega)
  have hpc : ctlGet (pcReg n 0) t = ctlGet (pcReg n 0) s := h.words _ (by unfold pcReg; omega)
  have haxes : t.axesFitted = s.axesFitted := by rw [State.axesFitted, State.axesFitted, h.fused]
  have hblocks : t.blocksFitted = s.blocksFitted := by rw [State.blocksFitted, State.blocksFitted, h.fused]
  have hchan : t.chan n = s.chan n := by rw [State.chan, State.chan, h.fbk]
  have hmode : chanMode n t = chanMode n s := by rw [chanMode, chanMode, cf, cf, hpc]
  have hvalid : chanValid n t = chanValid n s := by
    rw [chanValid, chanValid, chanOn, chanOn, State.chansFitted, State.chansFitted, haxes, hmode, h.mode, hchan]
  have hdio : ∀ d, dioFitted d t = dioFitted d s := fun d => by rw [dioFitted, dioFitted, hblocks]
  have hcf : ∀ off i j, off < 0x100 → cf (axReg n off) i j t = cf (axReg n off) i j s := fun off i j ho => by rw [cf, cf, hax off ho]
  have hcg : ∀ i j, cf (grpReg (n / 8)) i j t = cf (grpReg (n / 8)) i j s := fun i j => by rw [cf, cf, hgrp]
  have hfault : grpFaulted (n / 8) t = grpFaulted (n / 8) s := by rw [grpFaulted, grpFaulted, h.fault]
  have hk : axKind n t = axKind n s := hcf 0 _ _ (by decide)
  have hm : axMs n t = axMs n s := hcf 0 _ _ (by decide)
  have hf : axFb n t = axFb n s := hcf 0 _ _ (by decide)
  have hr : axRegMode n t = axRegMode n s := hcf 0 _ _ (by decide)
  have hs : axShift n t = axShift n s := by rw [axShift, axShift, hcf 0 _ _ (by decide)]
  have hv : axVmax n t = axVmax n s := hcf 8 _ _ (by decide)
  have hvr : axVrev n t = axVrev n s := hcf 8 _ _ (by decide)
  have hvh : axVhome n t = axVhome n s := hcf 0x30 _ _ (by decide)
  have hvu : axVup n t = axVup n s := hcf 0xC _ _ (by decide)
  have hvd : axVdn n t = axVdn n s := hcf 0xC _ _ (by decide)
  have ha1 : axAmax n t = axAmax n s := by rw [axAmax, axAmax, hax 0x10 (by decide)]
  have ha2 : axAstop n t = axAstop n s := by rw [axAstop, axAstop, hax 0x14 (by decide)]
  have ha3 : axAobs n t = axAobs n s := by rw [axAobs, axAobs, hax 0x18 (by decide)]
  have hi1 : axImax n t = axImax n s := hcf 0x1C _ _ (by decide)
  have hi2 : axIhold n t = axIhold n s := hcf 0x1C _ _ (by decide)
  have he : axEnv n t = axEnv n s := hcf 0x2C _ _ (by decide)
  have ho : axObsDio n t = axObsDio n s := hcf 0x20 _ _ (by decide)
  have hcar : carrierN (n / 8) t = carrierN (n / 8) s := hcg _ _
  simp only [Machine.enableConfigOk, haxes, hfault, hk, hm, hf, hr, hs, hv, hvr, hvh, hvu, hvd, ha1, ha2, ha3, hi1, hi2, he, ho, hcar, h.axHomeDio hn, hcg,
    hcf 4 _ _ (by decide), hvalid, hmode, hdio]

/-! ### A test command (R362) -/

/-- The axis that a test command names, with the time of the command. -/
def named (n : Nat) (s : State) : State := setAxis n (fun a => { a with testAt := s.now }) s

theorem axis_named (n : Nat) (s : State) : (named n s).axis n = { s.axis n with testAt := s.now } := by
  rw [named, axis_setAxis, if_pos rfl]

theorem onAxis_named (n : Nat) (s : State) : OnAxis n s (named n s) := onAxis_setAxis n _ s

theorem enablesAlike_named (n : Nat) (s : State) : EnablesAlike s (named n s) := ⟨fun _ _ => rfl, rfl, rfl, rfl, rfl⟩

/-- What a test command makes of an axis in TEST, or just entered into it. `s`: as the command found it. -/
def retest (kind n : Nat) (s s1 : State) : State :=
  if (s1.axis n).testKind = 0 ∨ (s1.axis n).testKind = kind then s1
  else if kind = 4 then startHome n true (setAxis n (fun a => { a with testKind := 4 }) s1)
  else if kind = 1 then
    setAxis n (fun a => { a with testKind := 1 }) (if (s1.axis n).v = 0 then s1 else rampAxis n (axAstop n s) 1 .test s1)
  else setAxis n (fun a => { a with testKind := kind, jogStart := a.p, ramp := none, due := {} }) s1

theorem testCommand_end (n : Nat) (s : State) : testCommand 0 n s = endTest n (named n s) := by
  simp only [testCommand, ↓reduceIte, named]

theorem testCommand_refused {kind n : Nat} {s : State} (hk : kind ≠ 0) (hn : n < 32) (hst : (s.axis n).st = .disabled)
    (hok : enableConfigOk n s = false) : testCommand kind n s = refusePost n 0x2060 (named n s) := by
  refine (if_neg hk).trans (if_pos ?_)
  show (decide (((named n s).axis n).st = .disabled) && !enableConfigOk n (named n s)) = true
  rw [axis_named, (enablesAlike_named n s).enableConfigOk hn, hok, decide_eq_true hst]
  rfl

theorem homeDio_named {n : Nat} (hn : n < 32) {kind : Nat} {s : State} (h : kind = 4 → axHomeDio n s ≠ 127) :
    ¬ (kind = 4 && axHomeDio n (named n s) == 127) = true := by
  rw [(enablesAlike_named n s).axHomeDio hn]
  by_cases hk : kind = 4
  · simp [hk, h hk]
  · simp [hk]

/-- A disabled axis that passes its checks enters TEST. -/
theorem testCommand_enters {kind n : Nat} {s : State} (hk : kind ≠ 0) (hn : n < 32) (hst : (s.axis n).st = .disabled)
    (hok : enableConfigOk n s = true) (hdio : kind = 4 → axHomeDio n s ≠ 127) :
    testCommand kind n s = retest kind n (named n s) (enterTest n 1 (named n s)) := by
  have hst' : ((named n s).axis n).st = .disabled := by rw [axis_named]; exact hst
  have hcond : ¬ (decide (((named n s).axis n).st = .disabled) && !enableConfigOk n (named n s)) = true := by
    rw [(enablesAlike_named n s).enableConfigOk hn, hok, Bool.not_true, Bool.and_false]
    decide
  have henter : ((enterTest n 1 (named n s)).axis n).st = .test := by
    rw [enterTest, axis_setAxis, if_pos rfl]
  refine (if_neg hk).trans ((if_neg hcond).trans ((if_neg (homeDio_named hn hdio)).trans ?_))
  rw [if_pos (show (State.axis n (setAxis n (fun a => { a with testAt := s.now }) s)).st = .disabled from hst')]
  change ((enterTest n 1 (setAxis n (fun a => { a with testAt := s.now }) s)).axis n).st = .test at henter
  simp only [henter]
  rfl

/-- An axis in TEST takes the command. -/
theorem testCommand_changes {kind n : Nat} {s : State} (hk : kind ≠ 0) (hn : n < 32) (hst : (s.axis n).st = .test)
    (hdio : kind = 4 → axHomeDio n s ≠ 127) : testCommand kind n s = retest kind n (named n s) (named n s) := by
  have hst' : (State.axis n (setAxis n (fun a => { a with testAt := s.now }) s)).st = .test := by
    rw [axis_setAxis, if_pos rfl]
    exact hst
  have hne : ¬ (State.axis n (setAxis n (fun a => { a with testAt := s.now }) s)).st = .disabled := by
    rw [hst']
    decide
  refine (if_neg hk).trans ((if_neg ?_).trans ((if_neg (homeDio_named hn hdio)).trans ?_))
  · rw [decide_eq_false hne, Bool.false_and]
    decide
  · rw [if_neg hne]
    simp only [hst']
    rfl

section
variable {n : Nat} {s s1 : State} (hst : (s1.axis n).st = .test)
include hst

theorem retest_hold (h0 : (s1.axis n).testKind ≠ 0) (h1 : (s1.axis n).testKind ≠ 1) : OnAxis n s1 (retest 1 n s s1)
    ∧ ((retest 1 n s s1).axis n).st = .test ∧ ((retest 1 n s s1).axis n).testKind = 1 := by
  rw [retest, if_neg (not_or.mpr ⟨h0, h1⟩), if_neg (by decide), if_pos rfl, axis_setAxis, if_pos rfl]
  split
  · exact ⟨onAxis_setAxis n _ s1, hst, rfl⟩
  · refine ⟨(onAxis_rampAxis n _ 1 .test s1).trans (onAxis_setAxis n _ _), ?_, rfl⟩
    rw [rampAxis, axis_setAxis, if_pos rfl]

omit hst in
theorem retest_same {kind : Nat} (h : (s1.axis n).testKind = kind) : retest kind n s s1 = s1 := if_pos (.inr h)

theorem retest_jog {kind : Nat} (hk : kind = 2 ∨ kind = 3) (h0 : (s1.axis n).testKind ≠ 0) (h1 : (s1.axis n).testKind ≠ kind) :
    OnAxis n s1 (retest kind n s s1) ∧ ((retest kind n s s1).axis n).st = .test ∧ ((retest kind n s s1).axis n).testKind = kind
      ∧ ((retest kind n s s1).axis n).jogStart = (s1.axis n).p ∧ ((retest kind n s s1).axis n).p = (s1.axis n).p
      ∧ ((retest kind n s s1).axis n).testAt = (s1.axis n).testAt := by
  rw [retest, if_neg (not_or.mpr ⟨h0, h1⟩), if_neg (by omega), if_neg (by omega), axis_setAxis, if_pos rfl]
  exact ⟨onAxis_setAxis n _ s1, hst, rfl, rfl, rfl, rfl⟩

omit hst in
theorem retest_home (h0 : (s1.axis n).testKind ≠ 0) (h4 : (s1.axis n).testKind ≠ 4) :
    OnAxis n s1 (retest 4 n s s1) ∧ ((retest 4 n s s1).axis n).st = .homing ∧ ((retest 4 n s s1).axis n).testKind = 4
      ∧ ((retest 4 n s s1).axis n).homed = false ∧ ((retest 4 n s s1).axis n).homing.map Homing.armed = some true := by
  rw [retest, if_neg (not_or.mpr ⟨h0, h4⟩), if_pos rfl, startHome, axis_setAxis, if_pos rfl, axis_setAxis, if_pos rfl]
  exact ⟨(onAxis_setAxis n _ s1).trans (onAxis_setAxis n _ _), rfl, rfl, rfl, rfl⟩

end

/-! ### The access -/

/-- A granted test command in COMMISSION: the command on a state whose axes are those of `s`. -/
theorem motTest_granted {acc : Access} {n : Fin 32} {kind : Nat} {s : State} (hk : kind ≤ 4) (hm : s.keep.mode = .commission)
    (hw : WriteGranted acc 0x010A_0004 (BitVec.ofNat 32 (2 ^ 8 * kind + n.val)) s) :
    ∃ w, motTest acc kind n s = testCommand kind n w ∧ EnablesAlike s w ∧ (∀ k, w.axis k = s.axis k) ∧ w.sram = s.sram ∧ w.keep.mode = s.keep.mode
      ∧ w.now = (advance acc.at_ s).now := by
  have hb : bits 10 8 (BitVec.ofNat 32 (2 ^ 8 * kind + n.val)).toNat = kind ∧ bits 4 0 (BitVec.ofNat 32 (2 ^ 8 * kind + n.val)).toNat = n.val := by
    have h32 := n.isLt
    rw [BitVec.toNat_ofNat, Nat.mod_eq_of_lt (by omega)]
    unfold bits
    constructor <;> omega
  obtain ⟨hkind, hn⟩ := hb
  have hst := storeBits_ctl motTestRow 0x010A_0004 (BitVec.ofNat 32 (2 ^ 8 * kind + n.val)) (advance acc.at_ s)
  have hword := fun o (ho : o ≠ 0x010A_0004) => ctlGet_storeBits_other motTestRow ho (BitVec.ofNat 32 (2 ^ 8 * kind + n.val)) (advance acc.at_ s)
  have hx : motTest acc kind n s
      = testCommand kind n (storeBits motTestRow 0x010A_0004 (BitVec.ofNat 32 (2 ^ 8 * kind + n.val)) (advance acc.at_ s)) := by
    refine (accessWrite_always hw (r := motTestRow) rfl rfl).trans ?_
    show writeMotTest (BitVec.ofNat 32 (2 ^ 8 * kind + n.val)) (advance acc.at_ s) _ = _
    unfold writeMotTest
    simp only [hkind, hn]
    rw [if_neg (by rw [advance_keep_mode, hm]; decide), if_neg (by omega)]
  generalize storeBits motTestRow 0x010A_0004 (BitVec.ofNat 32 (2 ^ 8 * kind + n.val)) (advance acc.at_ s) = w at hst hword hx
  refine ⟨w, hx, ⟨fun a ha => (hword a ha).trans (advance_ctlGet _ a s), ?_, ?_, ?_, ?_⟩, fun k => ?_, ?_, ?_, ?_⟩
  all_goals rw [hst]
  · exact advance_fused _ s
  · exact advance_fbk _ s
  · exact congrArg Motion.sdFault (advance_mot _ s)
  · exact advance_keep_mode _ s
  · exact congrArg (fun m : Motion => look {} k m.axes) (advance_mot _ s)
  · exact advance_sram _ s
  · exact advance_keep_mode _ s
  · rfl

/-- An outcome of an axis operation: what it says of its axis, and that nothing else of the axes, the SRAM or the mode changes. -/
theorem completes_onAxis {x : Instr} {n : Fin 32} {s w t : State} {P : Axis → Prop} (hexec : exec x s = .next t) (hax : ∀ k, w.axis k = s.axis k)
    (hsram : w.sram = s.sram) (hmode : w.keep.mode = s.keep.mode) (ho : OnAxis n w t) (hP : P (t.axis n)) :
    Completes x s (fun t => P (t.axis n) ∧ (∀ k, k ≠ n.val → t.axis k = s.axis k) ∧ t.sram = s.sram ∧ t.keep.mode = s.keep.mode) := by
  have hs : t.sram = w.sram := by rw [ho.stops.rest]
  have hm : t.keep.mode = w.keep.mode := by rw [ho.stops.keep]
  exact ⟨t, hexec, hP, fun k hk => (ho.others k hk).trans (hax k), hs.trans hsram, hm.trans hmode⟩

/-- The test command `kind` of an axis as an instruction. -/
def testInstr (acc : Access) (n : Fin 32) : Nat → Instr
  | 0 => .motTestEnd acc n
  | 1 => .motTestEnableHold acc n
  | 2 => .motTestJogPositive acc n
  | 3 => .motTestJogNegative acc n
  | _ => .motTestHome acc n

section
variable {acc : Access} {n : Fin 32} {kind : Nat} {s : State} (hk : kind ≤ 4) (hm : s.keep.mode = .commission)
  (hw : WriteGranted acc 0x010A_0004 (BitVec.ofNat 32 (2 ^ 8 * kind + n.val)) s)
include hk hm hw

theorem exec_testInstr : ∃ w, exec (testInstr acc n kind) s = .next (testCommand kind n w) ∧ EnablesAlike s w ∧ (∀ k, w.axis k = s.axis k)
    ∧ w.sram = s.sram ∧ w.keep.mode = s.keep.mode ∧ w.now = (advance acc.at_ s).now := by
  obtain ⟨w, hx, hrest⟩ := motTest_granted hk hm hw
  refine ⟨w, (show exec (testInstr acc n kind) s = .next (motTest acc kind n s) from ?_).trans (congrArg Host.Outcome.next hx), hrest⟩
  interval_cases kind <;> rfl

/-- A test command that its axis does not pass is refused (R362). -/
theorem testInstr_refused (h0 : kind ≠ 0) (hst : (s.axis n).st = .disabled) (hok : enableConfigOk n s = false) :
    Completes (testInstr acc n kind) s (fun t => ((t.axis n).refused = sat 0xFFFF ((s.axis n).refused + 1) ∧ (t.axis n).lastCode = 0x2060
      ∧ (t.axis n).st = .disabled) ∧ (∀ k, k ≠ n.val → t.axis k = s.axis k) ∧ t.sram = s.sram ∧ t.keep.mode = s.keep.mode) := by
  obtain ⟨w, hx, ha, hax, hsram, hmode, -⟩ := exec_testInstr hk hm hw
  rw [testCommand_refused h0 n.isLt (by rw [hax]; exact hst) (by rw [ha.enableConfigOk n.isLt]; exact hok)] at hx
  refine completes_onAxis (P := fun B => B.refused = sat 0xFFFF ((s.axis n).refused + 1) ∧ B.lastCode = 0x2060 ∧ B.st = .disabled) hx hax hsram hmode
    ((onAxis_named n w).trans (onAxis_refusePost n 0x2060 _)) ?_
  rw [axis_refusePost, axis_named, hax]
  exact ⟨rfl, rfl, hst⟩

/-- A test command that a disabled axis passes (R362). -/
theorem testInstr_enters (h0 : kind ≠ 0) (hst : (s.axis n).st = .disabled) (hok : enableConfigOk n s = true)
    (hdio : kind = 4 → axHomeDio n s ≠ 127) {P : Axis → Prop}
    (hP : ∀ w s1 : State, (s1.axis n).st = .test → (s1.axis n).testKind = 1 → (s1.axis n).v = 0 → (s1.axis n).testAt = (advance acc.at_ s).now →
      OnAxis n s1 (retest kind n w s1) ∧ P ((retest kind n w s1).axis n)) :
    Completes (testInstr acc n kind) s (fun t => P (t.axis n) ∧ (∀ k, k ≠ n.val → t.axis k = s.axis k) ∧ t.sram = s.sram ∧ t.keep.mode = s.keep.mode) := by
  obtain ⟨w, hx, ha, hax, hsram, hmode, hnow⟩ := exec_testInstr hk hm hw
  rw [testCommand_enters h0 n.isLt (by rw [hax]; exact hst) (by rw [ha.enableConfigOk n.isLt]; exact hok)
    (fun h => by rw [ha.axHomeDio n.isLt]; exact hdio h)] at hx
  obtain ⟨ho, hp⟩ := hP (named n w) (enterTest n 1 (named n w)) (by rw [enterTest, axis_setAxis, if_pos rfl]) (by rw [enterTest, axis_setAxis, if_pos rfl])
    (by rw [enterTest, axis_setAxis, if_pos rfl]) (by rw [enterTest, axis_setAxis, if_pos rfl, axis_named]; exact hnow)
  exact completes_onAxis hx hax hsram hmode (((onAxis_named n w).trans (onAxis_setAxis n _ _)).trans ho) hp

/-- A test command that an axis in TEST takes (R362). -/
theorem testInstr_changes (h0 : kind ≠ 0) (hst : (s.axis n).st = .test) (hdio : kind = 4 → axHomeDio n s ≠ 127) {P : Axis → Prop}
    (hP : ∀ w s1 : State, (s1.axis n).st = .test → (s1.axis n).testKind = (s.axis n).testKind → (s1.axis n).p = (s.axis n).p →
      OnAxis n s1 (retest kind n w s1) ∧ P ((retest kind n w s1).axis n)) :
    Completes (testInstr acc n kind) s (fun t => P (t.axis n) ∧ (∀ k, k ≠ n.val → t.axis k = s.axis k) ∧ t.sram = s.sram ∧ t.keep.mode = s.keep.mode) := by
  obtain ⟨w, hx, ha, hax, hsram, hmode, -⟩ := exec_testInstr hk hm hw
  rw [testCommand_changes h0 n.isLt (by rw [hax]; exact hst) (fun h => by rw [ha.axHomeDio n.isLt]; exact hdio h)] at hx
  obtain ⟨ho, hp⟩ := hP (named n w) (named n w) (by rw [axis_named, hax]; exact hst) (by rw [axis_named, hax]) (by rw [axis_named, hax])
  exact completes_onAxis hx hax hsram hmode ((onAxis_named n w).trans ho) hp

end

theorem axis_advance (ns k : Nat) (s : State) : (advance ns s).axis k = s.axis k := by
  rw [State.axis, advance_mot]
  rfl

/-- Settles O32: a test command is the end of a test, a refusal, an entry into TEST or a change of the test. -/
theorem motionTests : Obligations.MotionTests := by
  unfold Obligations.MotionTests
  intro acc n ns s A u w granted does alone ends
  refine ⟨fun hm => ⟨fun hst hok => ⟨fun hw => ?_, fun hw => ?_, fun hw => ?_, fun hw hdio => ?_⟩, fun hst hok => ?_,
    fun hst => ⟨fun hk hw => ?_, fun hk hw => ?_, fun hk hw => ?_, fun hk hw hdio => ?_⟩, fun hw hen hal => ?_⟩, fun h0 hdue hen hal => ?_, fun h => ?_⟩
  · refine testInstr_enters (kind := 1) (P := fun B => B.st = .test ∧ B.testKind = 1 ∧ B.v = 0 ∧ B.testAt = u.now) (by decide) hm hw (by decide) hst hok (fun h => absurd h (by decide)) (fun w s1 h1 h2 h3 h4 => ?_)
    rw [retest_same h2]
    exact ⟨.refl _ _, h1, h2, h3, h4⟩
  · refine testInstr_enters (kind := 2) (P := fun B => B.st = .test ∧ B.testKind = 2 ∧ B.jogStart = B.p ∧ B.testAt = u.now) (by decide) hm hw (by decide) hst hok (fun h => absurd h (by decide)) (fun w s1 h1 h2 h3 h4 => ?_)
    obtain ⟨ho, hs, hk, hj, hp, ha⟩ := retest_jog (s := w) h1 (kind := 2) (.inl rfl) (by rw [h2]; decide) (by rw [h2]; decide)
    exact ⟨ho, hs, hk, hj.trans hp.symm, ha.trans h4⟩
  · refine testInstr_enters (kind := 3) (P := fun B => B.st = .test ∧ B.testKind = 3 ∧ B.jogStart = B.p ∧ B.testAt = u.now) (by decide) hm hw (by decide) hst hok (fun h => absurd h (by decide)) (fun w s1 h1 h2 h3 h4 => ?_)
    obtain ⟨ho, hs, hk, hj, hp, ha⟩ := retest_jog (s := w) h1 (kind := 3) (.inr rfl) (by rw [h2]; decide) (by rw [h2]; decide)
    exact ⟨ho, hs, hk, hj.trans hp.symm, ha.trans h4⟩
  · exact testInstr_enters (kind := 4) (P := fun B => B.st = .homing ∧ B.testKind = 4 ∧ B.homed = false ∧ B.homing.map Homing.armed = some true) (by decide) hm hw (by decide) hst hok (fun _ => hdio) (fun w s1 h1 h2 h3 h4 =>
      retest_home (by rw [h2]; decide) (by rw [h2]; decide))
  · exact ⟨fun hw => testInstr_refused (kind := 1) (by decide) hm hw (by decide) hst hok, fun hw => testInstr_refused (kind := 2) (by decide) hm hw (by decide) hst hok,
      fun hw => testInstr_refused (kind := 3) (by decide) hm hw (by decide) hst hok, fun hw => testInstr_refused (kind := 4) (by decide) hm hw (by decide) hst hok⟩
  · refine testInstr_changes (kind := 1) (P := fun B => B.st = .test ∧ B.testKind = 1) (by decide) hm hw (by decide) hst (fun h => absurd h (by decide)) (fun w s1 h1 h2 h3 => ?_)
    exact retest_hold h1 (by rw [h2]; show A.testKind ≠ 0; omega) (by rw [h2]; show A.testKind ≠ 1; omega)
  · refine testInstr_changes (kind := 2) (P := fun B => B.st = .test ∧ B.testKind = 2 ∧ B.jogStart = A.p) (by decide) hm hw (by decide) hst (fun h => absurd h (by decide)) (fun w s1 h1 h2 h3 => ?_)
    obtain ⟨ho, hs, hk', hj, -⟩ := retest_jog (s := w) h1 (kind := 2) (.inl rfl) (by rw [h2]; show A.testKind ≠ 0; omega) (by rw [h2]; show A.testKind ≠ 2; omega)
    exact ⟨ho, hs, hk', hj.trans h3⟩
  · refine testInstr_changes (kind := 3) (P := fun B => B.st = .test ∧ B.testKind = 3 ∧ B.jogStart = A.p) (by decide) hm hw (by decide) hst (fun h => absurd h (by decide)) (fun w s1 h1 h2 h3 => ?_)
    obtain ⟨ho, hs, hk', hj, -⟩ := retest_jog (s := w) h1 (kind := 3) (.inr rfl) (by rw [h2]; show A.testKind ≠ 0; omega) (by rw [h2]; show A.testKind ≠ 3; omega)
    exact ⟨ho, hs, hk', hj.trans h3⟩
  · refine testInstr_changes (kind := 4) (P := fun B => B.st = .homing ∧ B.testKind = 4 ∧ B.homed = false) (by decide) hm hw (by decide) hst (fun _ => hdio) (fun w s1 h1 h2 h3 => ?_)
    obtain ⟨ho, hs, hk', hh, -⟩ := retest_home (s := w) (s1 := s1) (n := n) (by rw [h2]; show A.testKind ≠ 0; omega) (by rw [h2]; show A.testKind ≠ 4; omega)
    exact ⟨ho, hs, hk', hh⟩
  · obtain ⟨v, hx, -, hax, hsram, hmode, -⟩ := exec_testInstr (kind := 0) (by decide) hm hw
    rw [testCommand_end] at hx
    have ha : (named n v).axis n = { s.axis n with testAt := v.now } := by rw [axis_named, hax]
    obtain ⟨ho, h1, h2, h3⟩ := endTest_spec (s := named n v) (n := n) (by rw [ha]; exact hen) (by rw [ha]; exact hal.1) (by rw [ha]; exact hal.2)
    rw [ha] at h2 h3
    exact completes_onAxis (P := ends) hx hax hsram hmode ((onAxis_named n v).trans ho) ⟨h1, h2, h3⟩
  · have hwax : w.axis n = s.axis n := axis_advance ns n s
    have hx : exec (.motTestNotRenewed n ns) s = .next (endTest n (axRecord n 0x2061 [] w)) := if_pos (by rw [hwax]; exact ⟨h0, hdue⟩)
    have hr : (axRecord n 0x2061 [] w).axis n = { s.axis n with lastCode := 0x2061 } := by rw [axis_axRecord, hwax]
    obtain ⟨ho, h1, h2, h3⟩ := endTest_spec (s := axRecord n 0x2061 [] w) (n := n) (by rw [hr]; exact hen) (by rw [hr]; exact hal.1) (by rw [hr]; exact hal.2)
    rw [hr] at h2 h3
    exact completes_onAxis (P := ends) (w := w) hx (fun k => axis_advance ns k s) (advance_sram ns s)
      (advance_keep_mode ns s) ((onAxis_axRecord n _ _ w).trans ho) ⟨h1, h2, h3⟩
  · have hwax : w.axis n = s.axis n := axis_advance ns n s
    refine if_neg ?_
    rw [hwax]
    exact fun hn => h.elim (fun h0 => hn.1 h0) (fun hlt => absurd hn.2 (Nat.not_le.mpr hlt))

end Sys2Proof.Machine
end

section
/-!
PROOFS. What hosts read (O27).
-/
namespace Sys2Proof.Machine

/-! ### Messages that the gate refuses (R307, R308) -/

/-- A message of the right type whose shape its command does not take. -/
theorem gate_of_bad_shape {b typ : Nat} {m : MsgHead} {body : List Byte} {s : State} (h : Admits b typ m body s) (permitted : Bool) (k : State → State) :
    gate b typ m body false permitted s k = refuseMsg b typ m.tag 0x6010 typ (touch b s) := by
  obtain ⟨hserved, hhead, htyp, -, -⟩ := h
  simp [gate, hserved, hhead, htyp]

/-- A message whose head does not fit what follows it. -/
theorem gate_of_bad_head {b typ : Nat} {m : MsgHead} {body : List Byte} {s : State} (hserved : served b s = true) (hhead : headOk m body = false)
    (shapeOk permitted : Bool) (k : State → State) :
    gate b typ m body shapeOk permitted s k = refuseMsg b m.typ.toNat m.tag 0x6010 m.typ.toNat (touch b s) := by
  simp [gate, hserved, hhead]

/-- A message of another type than the command's. -/
theorem gate_of_other_type {b typ : Nat} {m : MsgHead} {body : List Byte} {s : State} (hserved : served b s = true) (hhead : headOk m body = true)
    (htyp : m.typ.toNat ≠ typ) (shapeOk permitted : Bool) (k : State → State) :
    gate b typ m body shapeOk permitted s k = refuseMsg b m.typ.toNat m.tag 0x6011 m.typ.toNat (touch b s) := by
  simp [gate, hserved, hhead, htyp]

/-! ### Reads on behalf of a berth (R308, R541 to R544) -/

theorem checkRead_touch (b : Nat) (c : Fin 8) (a : Nat) (s : State) : checkRead (.berth c) a (touch b s) = checkRead (.berth c) a s := by
  have hholds : holds (.berth c) (readRoles a) (touch b s) = holds (.berth c) (readRoles a) s := hasAny_touch b c _ s
  unfold checkRead
  rw [hholds]
  rfl

theorem checkRead_cases (q : Requester) (a : Nat) (s : State) :
    checkRead q a s = 0 ∨ checkRead q a s = 0x6001 ∨ checkRead q a s = 0x6004 ∨ checkRead q a s = 0x6002 := by
  unfold checkRead
  split
  · exact .inr (.inl rfl)
  · split
    · exact .inr (.inr (.inl rfl))
    · split
      · exact .inr (.inr (.inr rfl))
      · exact .inl rfl

theorem checkRead_codes (q : Requester) (a : Nat) (s : State) : checkRead q a s = 0 ∨ checkRead q a s / 0x1000 = 6 := by
  obtain h | h | h | h := checkRead_cases q a s
  · exact .inl h
  · exact .inr (by rw [h])
  · exact .inr (by rw [h])
  · exact .inr (by rw [h])

/-- The code that `earliest` picks stands beside one of its addresses. -/
theorem mem_of_earliest {codes : List (Nat × Nat)} {p : Nat × Nat} (h : earliest codes = some p) : p ∈ codes := by
  obtain ⟨c, -, hc⟩ := List.exists_of_findSome?_eq_some h
  exact List.mem_of_find?_eq_some hc

theorem earliest_eq_none_iff {codes : List (Nat × Nat)} :
    earliest codes = none ↔ ∀ p ∈ codes, p.1 ≠ 0x6001 ∧ p.1 ≠ 0x6004 ∧ p.1 ≠ 0x6002 := by
  simp only [earliest, List.findSome?_eq_none_iff, List.mem_cons, List.not_mem_nil, or_false, forall_eq_or_imp, forall_eq, List.find?_eq_none,
    beq_iff_eq]
  exact ⟨fun ⟨h1, h2, h3⟩ p hp => ⟨h1 p hp, h2 p hp, h3 p hp⟩, fun h => ⟨fun p hp => (h p hp).1, fun p hp => (h p hp).2.1, fun p hp => (h p hp).2.2⟩⟩

/-- The checks of the words that a CREAD names. -/
def readChecks (b : Fin 8) (a n : Nat) (s : State) : List (Nat × Nat) := (wordsFrom a n).map (fun x => (checkRead (.berth b) x s, x))

theorem mem_readChecks {b : Fin 8} {a n : Nat} {s : State} {p : Nat × Nat} :
    p ∈ readChecks b a n s ↔ ∃ k < n, p = (checkRead (.berth b) (a + 4 * k) s, a + 4 * k) := by
  simp [readChecks, wordsFrom, eq_comm]

theorem readChecks_touch (b : Nat) (c : Fin 8) (a n : Nat) (s : State) : readChecks c a n (touch b s) = readChecks c a n s := by
  simp only [readChecks, checkRead_touch]

theorem earliest_of_granted {b : Fin 8} {a n : Nat} {s : State} (h : ∀ k < n, checkRead (.berth b) (a + 4 * k) s = 0) : earliest (readChecks b a n s) = none := by
  refine earliest_eq_none_iff.mpr fun p hp => ?_
  obtain ⟨k, hk, rfl⟩ := mem_readChecks.mp hp
  simp [h k hk]

theorem earliest_of_refused {b : Fin 8} {a n k : Nat} {s : State} (hk : k < n) (h : checkRead (.berth b) (a + 4 * k) s ≠ 0) :
    ∃ i < n, earliest (readChecks b a n s) = some (checkRead (.berth b) (a + 4 * i) s, a + 4 * i) ∧ checkRead (.berth b) (a + 4 * i) s ≠ 0 := by
  have hmem : (checkRead (.berth b) (a + 4 * k) s, a + 4 * k) ∈ readChecks b a n s := mem_readChecks.mpr ⟨k, hk, rfl⟩
  cases he : earliest (readChecks b a n s) with
  | none =>
    obtain ⟨h1, h2, h3⟩ := earliest_eq_none_iff.mp he _ hmem
    obtain h0 | h0 | h0 | h0 := checkRead_cases (.berth b) (a + 4 * k) s
    · exact absurd h0 h
    · exact absurd h0 h1
    · exact absurd h0 h2
    · exact absurd h0 h3
  | some p =>
    obtain ⟨i, hi, rfl⟩ := mem_readChecks.mp (mem_of_earliest he)
    refine ⟨i, hi, rfl, fun h0 => ?_⟩
    obtain ⟨c, hc, hf⟩ := List.exists_of_findSome?_eq_some he
    have hp := List.find?_some hf
    rw [h0] at hp
    simp only [List.mem_cons, List.not_mem_nil, or_false] at hc
    obtain rfl | rfl | rfl := hc <;> simp at hp

/-- Of a berth, reads change at most the counts that BTH_FAIL shows. -/
structure ReadsBeside (s t : State) : Prop where
  own : ∀ b, ∃ r o, t.berth b = { s.berth b with refused := r, opens := o }

theorem ReadsBeside.of_bth {s t : State} (h : t.bth = s.bth) : ReadsBeside s t :=
  ⟨fun b => ⟨_, _, show look {} b t.bth.berths = look {} b s.bth.berths by rw [h]⟩⟩

theorem ReadsBeside.trans {s t u : State} (h : ReadsBeside s t) (k : ReadsBeside t u) : ReadsBeside s u where
  own := fun b => by
    obtain ⟨r, o, h⟩ := h.own b
    obtain ⟨r', o', k⟩ := k.own b
    exact ⟨r', o', by rw [k, h]⟩

theorem readsBeside_clearRc (k : RegName) (i : Nat) (s : State) : ReadsBeside s (clearRc k i s) := by
  unfold clearRc
  split
  case h_11 =>
    refine ⟨fun b => ?_⟩
    by_cases hb : b = i
    · exact ⟨0, 0, by rw [berth_setBerth, if_pos hb, hb]⟩
    · exact ⟨_, _, by rw [berth_setBerth, if_neg hb]⟩
  all_goals exact .of_bth rfl

theorem readsBeside_readWord (q a : Nat) (s : State) : ReadsBeside s (readWord q a s).2 := by
  have hlatch : ReadsBeside s (latchOthers q a s) := by
    obtain ⟨hl, -⟩ : Latches q s (latchOthers q a s) := latches_foldl q (fun u => liveWord u s) _ s
    exact .of_bth (by rw [hl])
  have h1 : ∀ (metric : Bool) (held : Option Word),
      ReadsBeside s (match held with | some _ => if metric then s else dropLatch q a s | none => latchOthers q a s) := fun metric held => by
    cases held with
    | none => exact hlatch
    | some w => cases metric <;> exact .of_bth rfl
  unfold readWord
  dsimp only
  split
  · split
    · exact (h1 _ _).trans (readsBeside_clearRc ..)
    · exact h1 _ _
  · exact h1 _ _

theorem readsBeside_readWords (q : Nat) (l : List Nat) (s : State) : ReadsBeside s (readWords q l s).2 := by
  induction l generalizing s with
  | nil => exact .of_bth rfl
  | cons a l ih => exact (readsBeside_readWord q a s).trans (ih _)

theorem length_readWords (q : Nat) (l : List Nat) (s : State) : (readWords q l s).1.length = l.length := by
  induction l generalizing s with
  | nil => rfl
  | cons a l ih => exact congrArg (· + 1) (ih _)

/-- A word that is not latched is read as it stands. -/
theorem readWord_of_not_latched {q a : Nat} {s : State} (h : latchOf q a s = none) : (readWord q a s).1 = liveWord a s := by
  simp only [readWord, h, ite_self]

theorem head?_readWords {q a : Nat} (l : List Nat) {s : State} (h : latchOf q a s = none) : (readWords q (a :: l) s).1.head? = some (liveWord a s) :=
  congrArg some (readWord_of_not_latched h)

/-- A reply after reads of the berth that took the message. -/
theorem sends_replyOk_reads {b typ : Nat} {tag : Word} {body : List Byte} {s u : State} (h : ReadsBeside (touch b s) u) :
    Sends b { typ := typ, tag := tag, status := 0, body := body } s (replyOk b typ tag body u) := by
  have hs := sends_sendReply b { typ := typ, tag := tag, status := 0, body := body } u
  have hb : (touch b s).berth b = { s.berth b with lastUse := s.now, fetched := (s.berth b).fetched - 1 } := by rw [touch_berth, if_pos rfl]
  obtain ⟨r, o, hu⟩ := h.own b
  rw [hb] at hu
  refine sends_of_congr hs ?_ ?_ ?_ ?_ ?_ ?_
  · rw [hu]
  · rw [hu]
  · rw [hu]; rfl
  · rw [hu]; rfl
  · rw [hu]
  · rw [hu]

/-- What an admitted CREAD of a sound shape does to an open berth. -/
theorem cread_of_admits {b : Fin 8} {m : MsgHead} {s : State} {a : Word} {n : BitVec 16} (hadm : Admits b 0x10 m (be 4 a.toNat ++ be 2 n.toNat ++ be 2 0) s)
    (ho : (s.berth b).state = .open_) (h1 : 1 ≤ n.toNat) (h2 : n.toNat ≤ 256) :
    exec (.cread b m a n 0) s = .next (match earliest (readChecks b a.toNat n.toNat (touch b s)) with
      | some p => refuseMsg b 0x10 m.tag p.1 p.2 (touch b s)
      | none =>
        let r := readWords b (wordsFrom a.toNat n.toNat) (touch b s)
        replyOk b 0x10 m.tag (r.1.flatMap (fun w => be 4 w.toNat)) r.2) := by
  have hshape : decide (1 ≤ n.toNat ∧ n.toNat ≤ 256 ∧ (0 : BitVec 16) = 0) = true := decide_eq_true ⟨h1, h2, rfl⟩
  have hopen : ((s.berth b).state == .open_) = true := beq_iff_eq.mpr ho
  refine congrArg Host.Outcome.next ?_
  rw [hshape, hopen]
  exact gate_of_admits hadm _

theorem hashReads (b : Fin 8) (m : MsgHead) (s : State) (hadm : Admits b 0x31 m [] s) :
    (hasAny b [roleB, roleM, roleE, roleI, roleU] s = true ∨ firstCommissioning b s = true →
        Completes (.hashread b m) s (fun t => Sends b {
          typ := 0x31, tag := m.tag, status := 0
          body := (s.image.map Image.hash).getD (zeros 32) ++ policyHash s } s t ∧ t = { s with bth := t.bth, free := t.free }))
      ∧ (hasAny b [roleB, roleM, roleE, roleI, roleU] s = false → firstCommissioning b s = false →
        Completes (.hashread b m) s (fun t => Sends b { typ := m.typ.toNat, tag := m.tag, status := 0x6011, body := [] } s t
          ∧ (t.berth b).refused = sat 0xFFFF ((s.berth b).refused + 1) ∧ t = { s.noted t with bth := t.bth })) := by
  refine ⟨fun h => ⟨_, congrArg Host.Outcome.next ?_, replyOk_spec b 0x31 m.tag _ s _ rfl⟩, 
    fun h1 h2 => ⟨refuseMsg b 0x31 m.tag 0x6011 0x31 (touch b s), congrArg Host.Outcome.next ?_, ?_⟩⟩
  · rw [Bool.or_eq_true _ _ |>.mpr h]
    exact gate_of_admits hadm _
  · rw [h1, h2]
    exact gate_of_not_permitted hadm _
  · rw [hadm.2.2.1]
    exact refuseMsg_spec b 0x31 m.tag 0x31 s rfl _ rfl

theorem statesRead (b : Fin 8) (m : MsgHead) (s : State) (first count : Word) (hadm : Admits b 0x30 m (be 4 first.toNat ++ be 4 count.toNat) s) :
    let shape := 1 ≤ count.toNat ∧ count.toNat ≤ 512 ∧ first.toNat + count.toNat ≤ 2 ^ 20
    let refused := fun (code : Nat) (t : State) => Sends b { typ := m.typ.toNat, tag := m.tag, status := code, body := [] } s t
      ∧ (t.berth b).refused = sat 0xFFFF ((s.berth b).refused + 1) ∧ t = { s.noted t with bth := t.bth }
    (hasAny b [roleB, roleM] s = true → shape →
          Completes (.sread b m first count) s (fun t => Sends b {
            typ := 0x30, tag := m.tag, status := 0
            body := be 8 s.seq.mcc ++ (List.range count.toNat).flatMap (fun i => be 4 (oldTopWord (first.toNat + i) s).toNat) } s t
            ∧ t = { s with bth := t.bth, free := t.free }))
        ∧ (¬ shape → Completes (.sread b m first count) s (refused 0x6010))
        ∧ (shape → hasAny b [roleB, roleM] s = false → Completes (.sread b m first count) s (refused 0x6011)) := by
  intro shape refused
  have htyp : m.typ.toNat = 0x30 := hadm.2.2.1
  refine ⟨fun hrole hshape => ⟨_, congrArg Host.Outcome.next ?_, replyOk_spec b 0x30 m.tag _ s _ rfl⟩,
    fun hshape => ⟨refuseMsg b 0x30 m.tag 0x6010 0x30 (touch b s), congrArg Host.Outcome.next ?_, ?_⟩,
    fun hshape hrole => ⟨refuseMsg b 0x30 m.tag 0x6011 0x30 (touch b s), congrArg Host.Outcome.next ?_, ?_⟩⟩
  · rw [gateRoles, hrole, show decide _ = true from decide_eq_true hshape]
    exact gate_of_admits hadm _
  · rw [gateRoles, show decide _ = false from decide_eq_false hshape]
    exact gate_of_bad_shape hadm _ _
  · simp only [refused, htyp]
    exact refuseMsg_spec b 0x30 m.tag 0x30 s rfl _ rfl
  · rw [gateRoles, hrole, show decide _ = true from decide_eq_true hshape]
    exact gate_of_not_permitted hadm _
  · simp only [refused, htyp]
    exact refuseMsg_spec b 0x30 m.tag 0x30 s rfl _ rfl

/-- Settles O27: each message by what the gate answers it; of a CREAD's reads the berth keeps all but the counts of BTH_FAIL. -/
theorem hostsRead : Obligations.HostsRead := by
  intro b m s refused
  refine ⟨hashReads b m s, fun first count => ?_, fun a n hadm ho h1 h2 => ?_, fun hs hh => ?_, fun hs hh ht => ?_, fun hs => ?_⟩
  · intro body shape
    exact ⟨fun hadm => (statesRead b m s first count hadm).1, fun hadm => (statesRead b m s first count hadm).2.1,
      fun hadm => (statesRead b m s first count hadm).2.2⟩
  · have hexec := cread_of_admits hadm ho h1 h2
    rw [readChecks_touch] at hexec
    refine ⟨fun hall => ?_, fun k hk hbad => ?_⟩
    · rw [earliest_of_granted hall] at hexec
      refine ⟨_, hexec, (readWords b (wordsFrom a.toNat n.toNat) (touch b s)).1, ?_, sends_replyOk_reads (readsBeside_readWords ..), fun hl => ?_⟩
      · rw [length_readWords, wordsFrom, List.length_map, List.length_range]
      · have hw : wordsFrom a.toNat n.toNat = a.toNat :: ((List.range n.toNat).map (fun i => a.toNat + 4 * i)).tail := by
          rw [wordsFrom, ← List.cons_head?_tail (l := (List.range n.toNat).map (fun i => a.toNat + 4 * i)) (a := a.toNat)]
          · rfl
          · simp [List.head?_range, show n.toNat ≠ 0 by omega]
        rw [hw]
        exact head?_readWords _ hl
    · obtain ⟨i, hi, he, hne⟩ := earliest_of_refused hk hbad
      rw [he] at hexec
      refine ⟨_, hexec, i, hi, ?_⟩
      simp only [refused, show m.typ.toNat = 0x10 from hadm.2.2.1]
      exact refuseMsg_spec b 0x10 m.tag _ s ((checkRead_codes _ _ _).resolve_left hne) _ rfl
  · exact ⟨_, congrArg Host.Outcome.next (gate_of_bad_head hs hh _ _ _), refuseMsg_spec b m.typ.toNat m.tag _ s rfl _ rfl⟩
  · have htyp : m.typ.toNat ≠ 0x31 := fun h => ht (BitVec.eq_of_toNat_eq h)
    exact ⟨_, congrArg Host.Outcome.next (gate_of_other_type hs hh htyp _ _ _), refuseMsg_spec b m.typ.toNat m.tag _ s rfl _ rfl⟩
  · refine congrArg Host.Outcome.next ?_
    simp [gate, hs]

end Sys2Proof.Machine
end

section
/-!
PROOFS. The queues of BTH1 and BTH2 and the UART (O25).
-/
namespace Sys2Proof.Machine

/-! ### The ring registers (R311) -/

theorem lowWord_written (x : BitVec 64) (v : Word) : ((x &&& 0xFFFF_FFFF_0000_0000) ||| v.setWidth 64).setWidth 32 = v := by
  rw [show (0xFFFF_FFFF_0000_0000 : BitVec 64) = BitVec.allOnes 32 ++ 0#32 from rfl]
  refine BitVec.eq_of_getLsbD_eq fun i hi => ?_
  simp [hi]

theorem highWord_written (x : BitVec 64) (v : Word) : ((x &&& (0xFFFF_FFFF : BitVec 64)) ||| (v.setWidth 64 <<< 32)) >>> 32 = v.setWidth 64 := by
  rw [show (0xFFFF_FFFF : BitVec 64) = 0#32 ++ BitVec.allOnes 32 from rfl]
  refine BitVec.eq_of_getLsbD_eq fun i hi => ?_
  have hv : v.getLsbD i = true → i < 32 := BitVec.lt_of_getLsbD
  simp only [BitVec.getLsbD_ushiftRight, BitVec.getLsbD_or, BitVec.getLsbD_and, BitVec.getLsbD_append, BitVec.getLsbD_shiftLeft,
    BitVec.getLsbD_setWidth, BitVec.getLsbD_zero]
  grind

/-! ### Replies that leave when slots come free (R311) -/

/-- The replies `gone` in the slots from the tail of the ring on. -/
def Berth.sentFrom (B : Berth) (gone : List (Reply × Nat)) : List SentMsg :=
  gone.zipIdx.map (fun r => { bytes := r.1.1.bytes, slot := some (ringSlot B.rplBase (B.rplTail + BitVec.ofNat 16 r.2) B.replySlots) })

theorem Berth.sentFrom_cons (B : Berth) (r : Reply × Nat) (gone : List (Reply × Nat)) (t : List (Reply × Nat)) :
    B.sentFrom (r :: gone) = { bytes := r.1.bytes, slot := some (ringSlot B.rplBase B.rplTail B.replySlots) }
      :: ({ B with slotWait := t }.push r.1).sentFrom gone := by
  have hshift : (gone.zipIdx (0 + 1)) = gone.zipIdx.map (Prod.map id (· + 1)) := by rw [List.zipIdx_succ]; rfl
  have htail : ∀ i : Nat, B.rplTail + BitVec.ofNat 16 (i + 1) = B.rplTail + 1 + BitVec.ofNat 16 i := fun i => by
    rw [BitVec.ofNat_add, BitVec.add_assoc, BitVec.add_comm 1]
    rfl
  simp only [Berth.sentFrom, List.zipIdx_cons, List.map_cons, hshift, List.map_map]
  refine congrArg₂ List.cons ?_ (List.map_congr_left fun p _ => ?_)
  · rw [show B.rplTail + BitVec.ofNat 16 0 = B.rplTail from BitVec.add_zero _]
  · simp only [Function.comp_apply, Prod.map, id, htail]
    rfl

/-- What pushing the replies that wait leaves. -/
structure Berth.Pushed (B : Berth) (gone rest : List (Reply × Nat)) (C : Berth) : Prop where
  waited : B.slotWait = gone ++ rest
  waits : C.slotWait = rest
  head : C.rplHead = B.rplHead
  tail : C.rplTail = B.rplTail + BitVec.ofNat 16 gone.length
  out : C.out = B.out ++ B.sentFrom gone
  stops : rest = [] ∨ C.freeReplies = 0

theorem pushWaiting_spec (n : Nat) (B : Berth) (h : B.slotWait.length ≤ n) : ∃ gone rest, B.Pushed gone rest (pushWaiting n B) := by
  have hstay : ∀ B : Berth, B.slotWait = [] ∨ B.freeReplies = 0 → ∃ gone rest, B.Pushed gone rest B := fun B hB =>
    ⟨[], B.slotWait, rfl, rfl, rfl, (BitVec.add_zero _).symm, (List.append_nil _).symm, hB⟩
  induction n generalizing B with
  | zero => exact hstay B (.inl (List.length_eq_zero_iff.mp (Nat.le_zero.mp h)))
  | succ n ih =>
    rw [pushWaiting]
    cases hw : B.slotWait with
    | nil => exact hstay B (.inl hw)
    | cons r t =>
      by_cases hf : 1 ≤ B.freeReplies
      · show ∃ gone rest, B.Pushed gone rest (if 1 ≤ B.freeReplies then pushWaiting n ({ B with slotWait := t }.push r.1) else B)
        obtain ⟨gone, rest, hP⟩ := ih ({ B with slotWait := t }.push r.1) (by rw [hw] at h; exact Nat.le_of_succ_le_succ h)
        rw [if_pos hf]
        refine ⟨r :: gone, rest, ?_, hP.waits, hP.head, hP.tail.trans ?_, hP.out.trans ?_, hP.stops⟩
        · rw [hw, List.cons_append, ← hP.waited]
          rfl
        · rw [List.length_cons, Nat.add_comm, BitVec.ofNat_add, ← BitVec.add_assoc]
          rfl
        · rw [Berth.sentFrom_cons B r gone t]
          exact List.append_assoc ..
      · show ∃ gone rest, B.Pushed gone rest (if 1 ≤ B.freeReplies then pushWaiting n ({ B with slotWait := t }.push r.1) else B)
        rw [if_neg hf]
        exact hstay B (.inr (by omega))

/-! ### Resets of a berth (R311, R320) -/

/-- BTHb has been reset; nothing outside the berths changes but what is noted. -/
theorem resetBerth_leaves (b : Nat) (s : State) : (resetBerth b s).berth b = (s.berth b).afterReset
    ∧ resetBerth b s = { s.noted (resetBerth b s) with bth := (resetBerth b s).bth } := by
  refine ⟨by rw [berth_resetBerth, if_pos rfl], ?_⟩
  obtain ⟨j, d, h⟩ := resetBerth_eq b s
  obtain ⟨k, hk⟩ := jnlOnly_record 0x6032 [b, d] { setBerth b Berth.afterReset s with jnl := j, free := s.free + 1 } (by decide) (by decide)
  rw [h, hk]
  rfl

theorem berth_setBerth_same (b : Nat) (f : Berth → Berth) (s : State) : (setBerth b f s).berth b = f (s.berth b) := by
  rw [berth_setBerth, if_pos rfl]

theorem completes_ringWrite {h : Fin 2} {s : State} (he : (s.berth (1 + h.val)).enable = false) (reg : Fin 5) (v : Word) {P : State → Prop}
    (hP : P (setBerth (1 + h.val) (Berth.ringWrite reg v) s)) : Completes (.bqRingWrite h reg v) s P :=
  ⟨_, congrArg Host.Outcome.next (if_neg (by rw [queueBerth, he]; simp)), hP⟩

/-- Settles O25. -/
theorem queuesAct : Obligations.QueuesAct := by
  intro h x v ns s b B u resets reset
  have hresets : ∀ w : State, resets (resetBerth b w)
      ∧ resetBerth b w = { w.noted (resetBerth b w) with bth := (resetBerth b w).bth } := fun w => by
    obtain ⟨hb, hrest⟩ := resetBerth_leaves b w
    exact ⟨by simp only [resets, hb]; exact ⟨rfl, rfl, rfl, rfl, rfl, rfl, rfl⟩, hrest⟩
  refine ⟨⟨_, rfl, berth_setBerth_same .., rfl⟩, ?_, fun hv => ?_, fun hv => ?_, fun he => ⟨?_, ?_, ?_, ?_, ?_⟩,
    fun he => ⟨fun r => ?_, ?_, fun hne hfree hmode => ?_⟩, fun hno => ?_, fun r l hw hlate => ?_, ?_, fun line => rfl⟩
  · obtain ⟨gone, rest, hP⟩ := pushWaiting_spec B.slotWait.length { B with rplHead := x } (le_refl _)
    refine ⟨_, rfl, gone, rest, hP.waited, ?_⟩
    rw [show (setBerth (queueBerth h) (fun B => pushWaiting B.slotWait.length { B with rplHead := x }) s).berth b
      = pushWaiting B.slotWait.length { B with rplHead := x } from berth_setBerth_same ..]
    exact ⟨hP.waits, hP.head, hP.tail, hP.out, hP.stops, rfl⟩
  · refine ⟨_, congrArg Host.Outcome.next (if_neg (fun e => absurd (hv.symm.trans e) (by decide))), berth_setBerth_same .., rfl⟩
  · refine ⟨_, congrArg Host.Outcome.next (if_pos hv), ?_⟩
    exact hresets (setBerth b (fun B => { B with msi := v.getLsbD 2, enable := v.getLsbD 0 && ringsOk B.ringCfg }) s)
  · exact completes_ringWrite he 0 v ⟨by rw [berth_setBerth_same]; rfl, rfl⟩
  · exact completes_ringWrite he 1 v ⟨by rw [berth_setBerth_same]; exact lowWord_written .., rfl⟩
  · exact completes_ringWrite he 2 v ⟨by rw [berth_setBerth_same]; exact highWord_written .., rfl⟩
  · exact completes_ringWrite he 3 v ⟨by rw [berth_setBerth_same]; exact lowWord_written .., rfl⟩
  · exact completes_ringWrite he 4 v ⟨by rw [berth_setBerth_same]; exact highWord_written .., rfl⟩
  · exact ⟨_, congrArg Host.Outcome.next (if_pos he), hresets (setBerth b (Berth.ringWrite r v) s)⟩
  · exact ⟨_, congrArg Host.Outcome.next (if_pos he), hresets s⟩
  · exact ⟨_, congrArg Host.Outcome.next (if_pos ⟨he, hne, hfree, hmode⟩), berth_setBerth_same .., rfl⟩
  · refine congrArg Host.Outcome.next (if_neg fun hyes => ?_)
    obtain ⟨he, hne, hfree, -⟩ := hyes
    obtain hno | hno | hno := hno
    · exact absurd (hno.symm.trans he) (by decide)
    · exact hne hno
    · exact absurd (hno : (s.berth (queueBerth h)).freeReplies < 2) (Nat.not_lt.mpr hfree)
  · refine ⟨resetBerth b u, congrArg Host.Outcome.next ?_, hresets u⟩
    show (match (u.berth b).slotWait with | [] => u | r :: _ => if r.2 + 1_000_000_000 ≤ u.now then resetBerth b u else u) = _
    rw [hw]
    exact if_pos hlate
  · obtain ⟨hb, hrest⟩ := resetBerth_leaves 0 s
    exact ⟨_, rfl, by rw [hb]; rfl, by rw [hb]; rfl, by rw [hb]; rfl, hrest⟩

end Sys2Proof.Machine
end

section
/-!
PROOFS. Clocks, reinitialisation and the keeper watchdog (O48).
-/
namespace Sys2Proof.Machine

/-! ### What the keeper has observed survives (R39, R513, R514) -/

/-- Of the keeper nothing differs but what entries to HOLD and reinitialisations change, no time passes, and what was raised stays raised. -/
structure Clocks (s t : State) : Prop where
  keep : t.keep = { s.keep with
    mode := t.keep.mode, prev := t.keep.prev, cause := t.keep.cause, liveLow := t.keep.liveLow, tripLow := t.keep.tripLow
    stblRequest := t.keep.stblRequest, lastCode := t.keep.lastCode, bootStage := t.keep.bootStage, bootMs := t.keep.bootMs, owed := t.keep.owed
    reinit := t.keep.reinit }
  time : t.time = s.time
  fused : t.fused = s.fused
  raised : s.svc.toggles <+: t.svc.toggles

namespace Clocks

theorem refl (s : State) : Clocks s s := ⟨rfl, rfl, rfl, List.prefix_rfl⟩

variable {s t u : State}

theorem trans (h : Clocks s t) (k : Clocks t u) : Clocks s u := ⟨by rw [k.keep, h.keep], k.time.trans h.time, k.fused.trans h.fused, h.raised.trans k.raised⟩

theorem now (h : Clocks s t) : t.keep.clkNow = s.keep.clkNow := by rw [h.keep]
theorem seen (h : Clocks s t) : t.keep.clkSeen = s.keep.clkSeen := by rw [h.keep]

theorem of_talks (h : Talks s t) : Clocks s t := ⟨by rw [h.keep], by rw [h.rest], by rw [h.rest], h.raised⟩
theorem of_departs (h : Departs s t) : Clocks s t := ⟨by rw [h.keep], by rw [h.rest], by rw [h.rest], h.raised⟩
theorem of_delivers (h : Delivers s t) : Clocks s t := ⟨by rw [h.rest], by rw [h.rest], by rw [h.rest], h.raised⟩

end Clocks

theorem clocks_enterHold (cause : Nat) (s : State) : Clocks s (enterHold cause s) := by
  by_cases h : s.keep.mode = .hold
  · rw [show enterHold cause s = s from if_pos h]
    exact .refl s
  · have hh := entersHold (cause := cause) h
    exact ⟨by rw [hh.keep], by rw [hh.rest], by rw [hh.rest], hh.raised⟩

theorem halts_enterHold (cause : Nat) (s : State) : Halts s (enterHold cause s) := by
  by_cases h : s.keep.mode = .hold
  · rw [show enterHold cause s = s from if_pos h]
    exact .refl s
  · exact (entersHold h).toHalts

theorem clocks_startReinit (region : Nat) (s : State) : Clocks s (startReinit region s) := by
  unfold startReinit
  split
  · exact (Clocks.of_talks (talks_record ..)).trans (clocks_enterHold ..)
  · exact Clocks.trans (t := { s with keep := { s.keep with reinit := put region (some s.now) s.keep.reinit } }) ⟨rfl, rfl, rfl, List.prefix_rfl⟩
      (.of_talks (talks_record ..))

theorem clocks_beginReinit (region : Nat) (s : State) : Clocks s (beginReinit region s) := by
  unfold beginReinit
  split
  · exact .refl s
  · exact clocks_startReinit region s

theorem net_startReinit (region : Nat) (s : State) : (startReinit region s).net = s.net := by
  unfold startReinit
  split
  · rw [(halts_enterHold _ _).rest]
    exact (talks_record _ _ s).net
  · exact (talks_record _ _ _).net

/-! ### The network goes down (R28, R39) -/

theorem delivers_portDown (p : Nat) (s : State) : Delivers s (portDown p s) :=
  .ite (((delivers_setNet _ s).trans (.of_talks (talks_record ..))).trans (.of_talks (talks_raise ..))) (.refl s)

theorem port_portDown (p q : Nat) (s : State) : ((portDown p s).port q).link = if q = p then false else (s.port q).link := by
  unfold portDown
  split
  · have ht := (talks_record 0x5001 [p] (setPort p (fun q => { q with
      link := false, egress := [], blockLock := false, anDone := false, fecOn := false, trained := false, sgmiiSync := false }) s)).trans (talks_raise 195 _)
    rw [State.port, ht.net]
    refine (congrArg Port.link (port_setPort p q _ s)).trans ?_
    split <;> rfl
  · next h =>
    split
    · next hq => rw [hq]; exact Bool.eq_false_of_not_eq_true h
    · rfl

theorem portsDown_spec (s : State) : Delivers s ((List.range 4).foldl (fun s p => portDown p s) s)
    ∧ ∀ q < 4, (((List.range 4).foldl (fun s p => portDown p s) s).port q).link = false := by
  obtain ⟨hd, hq⟩ := foldl_range_each (op := fun s p => portDown p s) (fun q u => (u.port q).link) (fun _ _ => false) Delivers .refl
    (fun _ _ _ h k => h.trans k) (fun u p => delivers_portDown p u) (fun u i j hj => by rw [port_portDown, if_neg hj])
    (fun s u i _ _ => by rw [port_portDown, if_pos rfl]) 4 s
  exact ⟨hd, fun q hq4 => (hq q).trans (if_pos hq4)⟩

/-- LIVE and the trip lines are low, and every axis is disabled (R201). -/
def Dead (s : State) : Prop := s.keep.liveLow = true ∧ s.keep.tripLow = true ∧ ∀ n < s.axesFitted, (s.axis n).st = .disabled

theorem Dead.of_fields {s t : State} (h : Dead s) (hl : t.keep.liveLow = s.keep.liveLow) (ht : t.keep.tripLow = s.keep.tripLow) (hf : t.fused = s.fused)
    (hm : t.mot = s.mot) : Dead t := by
  obtain ⟨h1, h2, h3⟩ := h
  refine ⟨hl.trans h1, ht.trans h2, fun n hn => ?_⟩
  rw [State.axis, hm]
  exact h3 n (by simpa only [State.axesFitted, hf] using hn)

theorem Talks.dead {s t : State} (h : Talks s t) (hs : Dead s) : Dead t := hs.of_fields (by rw [h.keep]) (by rw [h.keep]) h.fused h.mot

theorem Delivers.dead {s t : State} (h : Delivers s t) (hs : Dead s) : Dead t :=
  hs.of_fields (by rw [h.rest]) (by rw [h.rest]) (by rw [h.rest]) h.mot

theorem dead_enterHold {cause : Nat} {s : State} (h : Dead s) : Dead (enterHold cause s) := by
  by_cases hm : s.keep.mode = .hold
  · rwa [show enterHold cause s = s from if_pos hm]
  · have hh := entersHold (cause := cause) hm
    refine ⟨by rw [hh.keep], by rw [hh.keep], fun n hn => hh.axes n ?_⟩
    rw [State.axesFitted, hh.rest] at hn
    exact hn

/-- What a towpath link that goes down leaves: without a triad the mode stays. -/
structure Unlinks (s t : State) : Prop extends Clocks s t where
  net : t.net = s.net
  alone : s.tri.state = .off → t.tri.state = .off ∧ t.keep.mode = s.keep.mode
  dead : Dead s → Dead t

theorem Unlinks.refl (s : State) : Unlinks s s := ⟨.refl s, rfl, fun h => ⟨h, rfl⟩, id⟩

theorem Unlinks.trans {s t u : State} (h : Unlinks s t) (k : Unlinks t u) : Unlinks s u :=
  ⟨h.toClocks.trans k.toClocks, k.net.trans h.net, fun hs => ⟨(k.alone (h.alone hs).1).1, (k.alone (h.alone hs).1).2.trans (h.alone hs).2⟩,
    fun hs => k.dead (h.dead hs)⟩

theorem unlinks_setTp (p : Nat) (f : TpPort → TpPort) (s : State) : Unlinks s (setTp p f s) :=
  ⟨⟨rfl, rfl, rfl, List.prefix_rfl⟩, rfl, fun h => ⟨h, rfl⟩, fun h => h.of_fields rfl rfl rfl rfl⟩

theorem Talks.unlinks {s t : State} (h : Talks s t) : Unlinks s t := ⟨.of_talks h, h.net, fun hs => ⟨by rw [h.tri, hs], h.mode⟩, h.dead⟩

theorem unlinks_losePeer (x : Nat) (s : State) : Unlinks s (losePeer x s) :=
  ⟨⟨rfl, rfl, rfl, List.prefix_rfl⟩, rfl, fun h => ⟨h, rfl⟩, fun h => h.of_fields rfl rfl rfl rfl⟩

theorem departTriad_keeps (code : Nat) (s : State) : Clocks s (departTriad code s) ∧ (departTriad code s).net = s.net
    ∧ (Dead s → Dead (departTriad code s)) := by
  have hr := talks_record code [] s
  have hl := (leaveTriad_spec code (record code [] s)).1
  refine ⟨((Clocks.of_talks hr).trans (.of_departs hl)).trans (clocks_enterHold code _), ?_, fun h => dead_enterHold ?_⟩
  · rw [departTriad, (halts_enterHold _ _).rest]
    exact (congrArg State.net hl.rest).trans hr.net
  · exact (hr.dead h).of_fields (by rw [hl.keep]) (by rw [hl.keep]) (by rw [hl.rest]) hl.mot

theorem unlinks_tpDown (p : Nat) (s : State) : Unlinks s (tpDown p s) := by
  unfold tpDown
  extract_lets q x y s1 s2
  have h1 : Unlinks s s1 := unlinks_setTp p _ s
  clear_value s1
  have h2 : Unlinks s s2 := h1.trans (((talks_record 0x5816 [p] s1).trans (talks_raise 219 _)).unlinks.trans (unlinks_losePeer x _))
  clear_value s2
  split
  · exact h1.trans (talks_raise 219 s1).unlinks
  · split
    · split
      · next h =>
        obtain ⟨hc, hn, hd⟩ := departTriad_keeps 0x5806 s2
        exact ⟨h2.toClocks.trans hc, hn.trans h2.net, fun hs => absurd (hs.symm.trans h.1) (by decide), fun hs => hd (h2.dead hs)⟩
      · exact h2
    · exact h1

theorem unlinks_tpOff (p : Nat) (s : State) : Unlinks s (tpOff p s) := by
  unfold tpOff
  extract_lets s1
  have h1 : Unlinks s s1 := unlinks_tpDown p s
  clear_value s1
  split
  · exact .refl s
  · split
    · exact (h1.trans (talks_raise 219 s1).unlinks).trans (unlinks_setTp p _ _)
    · exact h1.trans (unlinks_setTp p _ _)

theorem unlinks_foldl_tpOff (l : List Nat) (s : State) : Unlinks s (l.foldl (fun s p => tpOff p s) s) := by
  induction l generalizing s with
  | nil => exact .refl s
  | cons p l ih => exact (unlinks_tpOff p s).trans (ih _)

/-- The network region loses its clock or its supply. -/
theorem networkDown_spec (s : State) : Clocks s (networkDown s) ∧ (networkDown s).net.up = false ∧ (∀ p < 4, ((networkDown s).port p).link = false)
    ∧ (s.tri.state = .off → (networkDown s).keep.mode = s.keep.mode) ∧ (Dead s → Dead (networkDown s)) := by
  unfold networkDown
  extract_lets s1 s2
  obtain ⟨h1, hlink⟩ : Delivers s s1 ∧ ∀ q < 4, (s1.port q).link = false := portsDown_spec s
  clear_value s1
  have h2 : Unlinks s1 s2 := unlinks_foldl_tpOff _ s1
  clear_value s2
  have hc : Clocks s s2 := (Clocks.of_delivers h1).trans h2.toClocks
  have hmode : s.tri.state = .off → s2.keep.mode = s.keep.mode := fun hs => (h2.alone (h1.tri ▸ hs)).2.trans h1.mode
  have hport : ∀ p < 4, (s2.port p).link = false := fun p hp => by
    rw [State.port, h2.net]
    exact hlink p hp
  have hdead : Dead s → Dead s2 := fun h => h2.dead (h1.dead h)
  split
  · exact ⟨⟨hc.keep, hc.time, hc.fused, hc.raised⟩, rfl, hport, hmode, fun h => (hdead h).of_fields rfl rfl rfl rfl⟩
  · exact ⟨hc.trans ⟨rfl, rfl, rfl, List.prefix_rfl⟩, rfl, hport, hmode, fun h => (hdead h).of_fields rfl rfl rfl rfl⟩

/-! ### Every connection SAFE (R28, R276) -/

theorem delivers_connTo (c st : Nat) (s : State) : Delivers s (connTo c st s) := by
  unfold connTo
  extract_lets s1
  have h1 : Delivers s s1 := delivers_setNet _ s
  clear_value s1
  exact .ite (.refl s) (.ite (h1.trans (.of_talks (talks_raise ..))) (.ite (h1.trans (.of_talks (talks_raise ..))) h1))

theorem connState_connTo (c st d : Nat) (s : State) : ((connTo c st s).conn d).state = if d = c then st else (s.conn d).state := by
  unfold connTo
  extract_lets s1
  have h1 : (s1.conn d).state = if d = c then st else (s.conn d).state := (congrArg Conn.state (conn_setConn c d _ s)).trans (by split <;> rfl)
  clear_value s1
  split
  · next h =>
    split
    · next hd => rw [hd, h]
    · rfl
  · split
    · exact h1
    · split
      · exact h1
      · exact h1

/-- One connection is SAFE without reference, unless it is closed. -/
def safeOne (s : State) (c : Nat) : State :=
  let s := setConn c (fun k => { k with ref := none, fill := none, quiet := 0 }) s
  if (s.conn c).state = 2 then s else setConn c (fun k => { k with status := statusWord 0 0 0 false false }) (connTo c 0 s)

theorem delivers_safeOne (s : State) (c : Nat) : Delivers s (safeOne s c) := by
  unfold safeOne
  extract_lets s1
  have h1 : Delivers s s1 := delivers_setNet _ s
  clear_value s1
  exact .ite h1 ((h1.trans (delivers_connTo c 0 s1)).trans (delivers_setNet _ _))

theorem table_safeOne (s : State) (c : Nat) : (safeOne s c).net.table = s.net.table := by
  unfold safeOne connTo
  dsimp only
  split
  · rfl
  · split
    · rfl
    · rfl

/-- SAFE or closed. -/
def AtRest (c : Nat) (s : State) : Prop := (s.conn c).state = 0 ∨ (s.conn c).state = 2

theorem atRest_safeOne (s : State) (c d : Nat) (h : d = c ∨ AtRest d s) : AtRest d (safeOne s c) := by
  unfold safeOne
  extract_lets s1
  have h1 : ∀ d, (s1.conn d).state = (s.conn d).state := fun d => by
    refine (congrArg Conn.state (conn_setConn c d _ s)).trans ?_
    split
    · next hd => rw [hd]
    · rfl
  have h' : d = c ∨ AtRest d s1 := h.imp_right (fun h => by rwa [AtRest, h1])
  clear_value s1
  split
  · next h2 => exact h'.elim (fun e => .inr (e ▸ h2)) id
  · have hs : ((setConn c (fun k => { k with status := statusWord 0 0 0 false false }) (connTo c 0 s1)).conn d).state
        = if d = c then 0 else (s1.conn d).state := by
      rw [← connState_connTo]
      refine (congrArg Conn.state (conn_setConn c d _ _)).trans ?_
      split
      · next hd => rw [hd]
      · rfl
    rw [AtRest, hs]
    split
    · exact .inl rfl
    · next hd => exact h'.resolve_left hd

theorem allSafe_spec (s : State) : Delivers s (allSafe s) ∧ (allSafe s).net.table = s.net.table ∧ ∀ c ∈ definedConns s.net.table, AtRest c (allSafe s) := by
  have hd : Delivers s ((definedConns s.net.table).foldl safeOne s) := .foldl delivers_safeOne _ s
  have ht := foldl_keeps (fun u => u.net.table) table_safeOne (definedConns s.net.table) s
  have hr : ∀ c ∈ definedConns s.net.table, AtRest c ((definedConns s.net.table).foldl safeOne s) := fun c hc =>
    foldl_reaches (AtRest c) (fun _ => True) c (fun u k h => atRest_safeOne u k c (.inr h)) (fun _ _ _ _ => .inr trivial)
      (fun u _ => atRest_safeOne u c c (.inl rfl)) _ s (.inr ⟨hc, trivial⟩)
  exact ⟨hd.trans (delivers_setNet _ _), ht, hr⟩

theorem netRestart_spec (s : State) : Delivers s (netRestart s) ∧ ∀ c ∈ definedConns s.net.table, AtRest c (netRestart s) := by
  obtain ⟨hd, -, hr⟩ := allSafe_spec s
  exact ⟨hd.trans (delivers_setNet _ _), hr⟩

/-! ### The service region is reinitialised (R28, R39) -/

theorem talks_foldl_resetBerth (l : List Nat) (s : State) :
    Talks s (l.foldl (fun s b => if (s.berth b).tcp.isSome || (s.berth b).tls then resetBerth b s else s) s) :=
  .foldl (fun u b => .ite (talks_resetBerth b u) (.refl u)) l s

theorem serviceReinit_spec (s : State) : Clocks s (serviceReinit s) ∧ (serviceReinit s).svc.held = true ∧ (∀ o, ((serviceReinit s).svcCore o).released = false)
    ∧ (s.keep.mode ≠ .hold → s.reiniting 5 = false → (serviceReinit s).reiniting 5 = true ∧ (serviceReinit s).keep.mode = s.keep.mode) := by
  unfold serviceReinit
  extract_lets s1
  have h1 : Talks (beginReinit 5 s) s1 := talks_foldl_resetBerth _ _
  clear_value s1
  have hc : Clocks s s1 := (clocks_beginReinit 5 s).trans (.of_talks h1)
  refine ⟨⟨hc.keep, hc.time, hc.fused, hc.raised⟩, rfl, fun o => ?_, fun hm hr => ⟨?_, ?_⟩⟩
  · exact look_map_of (f := fun c : SvcCore => { c with released := false, presented := none }) (fun c : SvcCore => c.released = false) rfl (fun _ => rfl) o _
  · exact (h1.reiniting 5).trans (reiniting_beginReinit hm hr)
  · exact h1.mode.trans (mode_beginReinit hr)

/-! ### A clock out of range (R39) -/

/-- The monitor of clock `n` has found it out of range. -/
def clockOut (n : Nat) (s : State) : State :=
  let bit := BitVec.ofNat 8 (2 ^ n)
  let s1 := raise 4 (record 0x9110 [n] (setKeep (fun q => { q with clkNow := q.clkNow ||| bit, clkSeen := q.clkSeen ||| bit }) s))
  if n = 6 then record 0x9111 [] s1 else s1

theorem getLsbD_or_bit (x : BitVec 8) (n : Fin 8) : (x ||| BitVec.ofNat 8 (2 ^ n.val)).getLsbD n = true := by
  rw [BitVec.getLsbD_or, BitVec.getLsbD_ofNat, Nat.testBit_two_pow_self]
  simp

theorem getLsbD_clear_bit (x : BitVec 8) (n : Fin 8) : (x &&& ~~~BitVec.ofNat 8 (2 ^ n.val)).getLsbD n = false := by
  rw [BitVec.getLsbD_and, BitVec.getLsbD_not, BitVec.getLsbD_ofNat, Nat.testBit_two_pow_self]
  simp

/-- What finding a clock out of range leaves, before what its domain does. -/
structure FoundOut (n : Fin 8) (s t : State) : Prop where
  rest : t = { s.noted t with keep := { s.keep with clkNow := t.keep.clkNow, clkSeen := t.keep.clkSeen, lastCode := t.keep.lastCode } }
  now : t.keep.clkNow.getLsbD n = true
  seen : t.keep.clkSeen.getLsbD n = true
  raised : (4, s.now) ∈ t.svc.toggles

theorem foundOut_clockOut (n : Fin 8) (s : State) : FoundOut n s (clockOut n s) := by
  have hone : ∀ s1 : State, FoundOut n s s1 → FoundOut n s (if n.val = 6 then record 0x9111 [] s1 else s1) := fun s1 h1 => by
    split
    · obtain ⟨j, hj⟩ := record_keeper (code := 0x9111) rfl [] s1
      rw [hj]
      exact ⟨by rw [h1.rest]; rfl, h1.now, h1.seen, h1.raised⟩
    · exact h1
  refine hone _ ?_
  obtain ⟨j, hj⟩ := record_keeper (code := 0x9110) rfl [n.val] (setKeep (fun q => { q with
    clkNow := q.clkNow ||| BitVec.ofNat 8 (2 ^ n.val), clkSeen := q.clkSeen ||| BitVec.ofNat 8 (2 ^ n.val) }) s)
  rw [hj]
  exact ⟨rfl, getLsbD_or_bit _ n, getLsbD_or_bit _ n, List.mem_append_right _ (List.mem_singleton_self _)⟩

namespace FoundOut

variable {n : Fin 8} {s u t : State}

theorem mode (h : FoundOut n s u) : u.keep.mode = s.keep.mode := by rw [h.rest]

/-- What the domain's action leaves of the monitor's finding. -/
theorem act (h : FoundOut n s u) (k : Clocks u t) : t.keep.clkNow.getLsbD n = true ∧ t.keep.clkSeen.getLsbD n = true ∧ (4, s.now) ∈ t.svc.toggles :=
  ⟨by rw [k.now, h.now], by rw [k.seen, h.seen], k.raised.subset h.raised⟩

end FoundOut

/-- PCLK: the queues' berths are shut. -/
theorem shutQueues_spec (s : State) :
    let t := [1, 2].foldl (fun s b => setBerth b Berth.shut s) (setKeep (fun q => { q with owed := q.owed ||| 0x20 }) s)
    (∀ b ∈ [1, 2], t.berth b = (s.berth b).shut) ∧ t = { s with bth := t.bth, keep := { s.keep with owed := s.keep.owed ||| 0x20 } } := by
  intro t
  have hb : ∀ b, t.berth b = if b = 2 then (s.berth 2).shut else if b = 1 then (s.berth 1).shut else s.berth b := fun b => by
    refine (berth_setBerth 2 b _ _).trans ?_
    rw [berth_setBerth, berth_setBerth]
    rfl
  refine ⟨fun b h => ?_, rfl⟩
  rw [hb]
  simp only [List.mem_cons, List.not_mem_nil, or_false] at h
  obtain rfl | rfl := h
  · rfl
  · rfl

/-- What O48 says of a monitor that finds clock `n` out of range. -/
def ClockLost (n : Fin 8) (s t : State) : Prop :=
  t.keep.clkNow.getLsbD n = true ∧ t.keep.clkSeen.getLsbD n = true ∧ (4, s.now) ∈ t.svc.toggles
  ∧ (n.val ∈ [0, 1, 3, 7] → t.keep.mode = .hold)
  ∧ (n.val = 6 ∨ (s.keep.mode = .hold ∧ n.val ≠ 4) → t = { s.noted t with keep := {
      s.keep with clkNow := t.keep.clkNow, clkSeen := t.keep.clkSeen, lastCode := t.keep.lastCode } })
  ∧ (s.keep.mode ≠ .hold →
      (n.val = 2 → t.svc.held = true ∧ (∀ o, (t.svcCore o).released = false) ∧ (s.reiniting 5 = false → t.reiniting 5 = true ∧ t.keep.mode = s.keep.mode))
      ∧ (n.val = 5 → (∀ b ∈ [1, 2], (t.berth b).granted = 0
          ∧ (t.berth b).state = if (s.berth b).state = .lockedOut then .lockedOut else .closed)
        ∧ t = { s.noted t with bth := t.bth, keep := t.keep } ∧ t.keep.mode = s.keep.mode))
  ∧ (n.val = 4 → t.net.up = false ∧ (∀ p < 4, (t.port p).link = false) ∧ (s.tri.state = .off → t.keep.mode = s.keep.mode))

section
variable {n : Fin 8} {s u t : State} (hf : FoundOut n s u)
include hf

/-- In HOLD, or for ACLK, the finding is all. -/
theorem clockLost_found (h4 : n.val ≠ 4) (h : s.keep.mode = .hold ∨ n.val = 6) : ClockLost n s u := by
  refine ⟨hf.now, hf.seen, hf.raised, fun hl => ?_, fun _ => hf.rest, fun hh => ?_, fun e => absurd e h4⟩
  · obtain h | h := h
    · exact hf.mode.trans h
    · simp [h] at hl
  · have h6 := h.resolve_left hh
    exact ⟨fun e => absurd (h6.symm.trans e) (by decide), fun e => absurd (h6.symm.trans e) (by decide)⟩

theorem clockLost_hold (ht : t = enterHold 0x9110 u) (hh : s.keep.mode ≠ .hold) (h0 : n.val ∈ [0, 1, 3, 7]) : ClockLost n s t := by
  have hc : Clocks u t := ht ▸ clocks_enterHold 0x9110 u
  have hmode : t.keep.mode = .hold := ht ▸ mode_enterHold 0x9110 u
  obtain ⟨a, b, c⟩ := hf.act hc
  have hne : ∀ k, k ∉ [0, 1, 3, 7] → n.val ≠ k := fun k hk e => hk (e ▸ h0)
  exact ⟨a, b, c, fun _ => hmode, fun h => h.elim (fun e => absurd e (hne 6 (by decide))) (fun e => absurd e.1 hh),
    fun _ => ⟨fun e => absurd e (hne 2 (by decide)), fun e => absurd e (hne 5 (by decide))⟩, fun e => absurd e (hne 4 (by decide))⟩

theorem clockLost_service (ht : t = serviceReinit u) (hh : s.keep.mode ≠ .hold) (h : n.val = 2) : ClockLost n s t := by
  obtain ⟨hc, hheld, hrel, hre⟩ := serviceReinit_spec u
  rw [← ht] at hc hheld hrel hre
  obtain ⟨a, b, c⟩ := hf.act hc
  refine ⟨a, b, c, fun e => by simp [h] at e, fun e => e.elim (fun e => absurd (h.symm.trans e) (by decide)) (fun e => absurd e.1 hh),
    fun _ => ⟨fun _ => ⟨hheld, hrel, fun hr => ?_⟩, fun e => absurd (h.symm.trans e) (by decide)⟩, fun e => absurd (h.symm.trans e) (by decide)⟩
  obtain ⟨hr', hm'⟩ := hre (hf.mode ▸ hh) (by rw [hf.rest]; exact hr)
  exact ⟨hr', hm'.trans hf.mode⟩

theorem clockLost_network {v : State} (hv : Delivers u v) (ht : t = networkDown v) (h : n.val = 4) : ClockLost n s t := by
  have hu : u.tri = s.tri := by rw [hf.rest]; rfl
  obtain ⟨hc, hup, hlink, hmode, -⟩ := networkDown_spec v
  rw [← ht] at hc hup hlink hmode
  obtain ⟨a, b, c⟩ := hf.act ((Clocks.of_delivers hv).trans hc)
  exact ⟨a, b, c, fun e => by simp [h] at e, fun e => e.elim (fun e => absurd (h.symm.trans e) (by decide)) (fun e => absurd h e.2),
    fun _ => ⟨fun e => absurd (h.symm.trans e) (by decide), fun e => absurd (h.symm.trans e) (by decide)⟩,
    fun _ => ⟨hup, hlink, fun hs => ((hmode (by rw [hv.tri, hu, hs])).trans hv.mode).trans hf.mode⟩⟩

theorem clockLost_queues (ht : t = clockAction 5 u) (hh : s.keep.mode ≠ .hold) (h : n.val = 5) : ClockLost n s t := by
  obtain ⟨hb, hfr⟩ := shutQueues_spec u
  have hb : ∀ b ∈ [1, 2], t.berth b = (u.berth b).shut := ht ▸ hb
  have hfr : t = { u with bth := t.bth, keep := { u.keep with owed := u.keep.owed ||| 0x20 } } := ht ▸ hfr
  obtain ⟨a, b, c⟩ := hf.act (t := t) ⟨by rw [hfr], by rw [hfr], by rw [hfr], by rw [hfr]⟩
  refine ⟨a, b, c, fun e => by simp [h] at e, fun e => e.elim (fun e => absurd (h.symm.trans e) (by decide)) (fun e => absurd e.1 hh),
    fun _ => ⟨fun e => absurd (h.symm.trans e) (by decide), fun _ => ⟨fun b hb' => ?_, ?_, ?_⟩⟩, fun e => absurd (h.symm.trans e) (by decide)⟩
  · rw [hb b hb', show u.berth b = s.berth b by rw [hf.rest]; rfl]
    exact ⟨rfl, rfl⟩
  · rw [hfr, hf.rest]
    rfl
  · rw [hfr]
    exact hf.mode

end

theorem clockOutOfRange_spec (n : Fin 8) (s : State) (hn : s.keep.clkNow.getLsbD n = false) (hm : s.keep.mode ≠ .stabled ∨ n.val = 6) :
    Completes (.clockMonitorOutOfRange n) s (ClockLost n s) := by
  have hact : ¬ (s.keep.clkNow.getLsbD n = true ∨ (s.keep.mode = .stabled ∧ n.val ≠ 6)) := by
    rw [hn]
    rintro (h | ⟨h1, h2⟩)
    · exact absurd h (by decide)
    · exact hm.elim (fun h => h h1) h2
  have hf := foundOut_clockOut n s
  refine ⟨if s.keep.mode = .hold then (if n.val = 4 then networkDown (clockOut n s) else clockOut n s) else clockAction n (clockOut n s),
    if_neg hact, ?_⟩
  generalize clockOut n s = u at hf
  by_cases hh : s.keep.mode = .hold
  · rw [if_pos hh]
    by_cases h4 : n.val = 4
    · rw [if_pos h4]
      exact clockLost_network hf (.refl u) rfl h4
    · rw [if_neg h4]
      exact clockLost_found hf h4 (.inl hh)
  · rw [if_neg hh]
    by_cases h0 : n.val ∈ [0, 1, 3, 7]
    · refine clockLost_hold hf ?_ hh h0
      simp only [List.mem_cons, List.not_mem_nil, or_false] at h0
      obtain h | h | h | h := h0 <;> rw [h] <;> rfl
    · have hrest : n.val = 2 ∨ n.val = 4 ∨ n.val = 5 ∨ n.val = 6 := by
        have := n.isLt
        simp only [List.mem_cons, List.not_mem_nil, or_false] at h0
        omega
      obtain h | h | h | h := hrest
      · exact clockLost_service hf (by rw [h]; rfl) hh h
      · exact clockLost_network hf (allSafe_spec u).1 (by rw [h]; rfl) h
      · exact clockLost_queues hf (by rw [h]) hh h
      · rw [h]
        exact clockLost_found hf (by omega) (.inr h)

end Sys2Proof.Machine
end

section
/-!
PROOFS. The end of a reinitialisation, and the keeper watchdog (O48).
-/
namespace Sys2Proof.Machine

/-! ### A clock back in range (R39) -/

/-- Clock `n` is back in range. -/
def clockIn (n : Nat) (s : State) : State := setKeep (fun q => { q with clkNow := q.clkNow &&& ~~~(BitVec.ofNat 8 (2 ^ n)) }) s

theorem clocks_networkBack (s : State) : Clocks s (networkBack s) := by
  unfold networkBack
  extract_lets _ s1
  have h1 : Clocks s s1 := ⟨rfl, rfl, rfl, List.prefix_rfl⟩
  clear_value s1
  have h2 : Clocks s1 (payOwed 4 s1) := ⟨rfl, rfl, rfl, List.prefix_rfl⟩
  split
  · exact .refl s
  · split
    · exact (h1.trans h2).trans (clocks_startReinit 4 _)
    · exact h1

/-- A region that works begins its reinitialisation. -/
theorem startReinit_spec {region : Nat} {s : State} (hr : s.reiniting region = false) :
    (startReinit region s).reiniting region = true ∧ (startReinit region s).keep.mode = s.keep.mode := by
  have ht := talks_record 0x9101 [region] { s with keep := { s.keep with reinit := put region (some s.now) s.keep.reinit } }
  rw [startReinit, if_neg (by simp [hr])]
  exact ⟨by rw [ht.reiniting, State.reiniting, look_put_same]; rfl, ht.mode⟩

/-- The network region comes back when its clock and its rails are good; with a debt it is reinitialised. -/
theorem networkBack_spec {s : State} (hclk : s.keep.clkNow.getLsbD 4 = false) :
    let back := s.net.up = false ∧ (s.volt 5).out = false ∧ (s.volt 6).out = false
    (back → (networkBack s).net.up = true ∧ (s.keep.owed.getLsbD 4 = true → s.reiniting 4 = false →
        (networkBack s).reiniting 4 = true ∧ (networkBack s).keep.mode = s.keep.mode))
      ∧ (¬ back → networkBack s = s) := by
  intro back
  unfold networkBack
  refine ⟨fun ⟨hup, h5, h6⟩ => ?_, fun hb => if_pos ?_⟩
  · rw [hup, hclk, h5, h6, if_neg (by decide)]
    extract_lets _ s1
    have hup1 : s1.net.up = true := rfl
    have hr1 : s1.reiniting 4 = s.reiniting 4 := rfl
    have hm1 : s1.keep.mode = s.keep.mode := rfl
    clear_value s1
    split
    · refine ⟨?_, fun _ hr => ?_⟩
      · rw [net_startReinit]
        exact hup1
      · obtain ⟨ha, hb⟩ := startReinit_spec (s := payOwed 4 s1) (hr1.trans hr)
        exact ⟨ha, hb.trans hm1⟩
    · next ho => exact ⟨hup1, fun h => absurd h ho⟩
  · rw [hclk, Bool.or_false, Bool.or_assoc, Bool.or_eq_true, Bool.or_eq_true]
    by_contra hno
    rw [not_or, not_or, Bool.not_eq_true, Bool.not_eq_true, Bool.not_eq_true] at hno
    exact hb hno

theorem clockBackInRange_spec (n : Fin 8) (s : State) (hn : s.keep.clkNow.getLsbD n = true) :
    Completes (.clockBackInRange n) s (fun t => t.keep.clkNow.getLsbD n = false
      ∧ (n.val ≠ 4 → n.val ≠ 5 ∨ s.keep.owed.getLsbD 5 = false → t = { s with keep := { s.keep with clkNow := t.keep.clkNow } })
      ∧ (n.val = 5 → s.keep.owed.getLsbD 5 = true → (t.berth 1).state = .resetting ∧ (t.berth 2).state = .resetting ∧ t.keep.owed.getLsbD 5 = false)
      ∧ (n.val = 4 →
          let back := s.net.up = false ∧ (s.volt 5).out = false ∧ (s.volt 6).out = false;
          (back → t.net.up = true ∧ (s.keep.owed.getLsbD 4 = true → s.reiniting 4 = false → t.reiniting 4 = true ∧ t.keep.mode = s.keep.mode))
          ∧ (¬ back → t = { s with keep := { s.keep with clkNow := t.keep.clkNow } }))) := by
  have hnow : (clockIn n s).keep.clkNow.getLsbD n = false := getLsbD_clear_bit _ n
  have hrest : clockIn n s = { s with keep := { s.keep with clkNow := (clockIn n s).keep.clkNow } } := rfl
  have hvolt : ∀ v, (clockIn n s).volt v = s.volt v := fun _ => rfl
  have hre : ∀ r, (clockIn n s).reiniting r = s.reiniting r := fun _ => rfl
  refine ⟨if n.val = 4 then networkBack (clockIn n s)
    else if n.val = 5 ∧ (clockIn n s).keep.owed.getLsbD 5 then resetBerth 2 (resetBerth 1 (payOwed 5 (clockIn n s))) else clockIn n s,
    if_neg (by rw [hn]; decide), ?_⟩
  have howed : ∀ k, (clockIn n s).keep.owed.getLsbD k = s.keep.owed.getLsbD k := fun _ => rfl
  have hmode : (clockIn n s).keep.mode = s.keep.mode := rfl
  have hup : (clockIn n s).net.up = s.net.up := rfl
  generalize clockIn n s = u at hnow hrest hvolt hre howed hmode hup
  by_cases h4 : n.val = 4
  · rw [if_pos h4]
    have h5 : n.val ≠ 5 := by omega
    obtain ⟨hback, hno⟩ := networkBack_spec (s := u) (by rwa [h4] at hnow)
    rw [hup, hvolt, hvolt, howed, hre, hmode] at hback
    rw [hup, hvolt, hvolt] at hno
    refine ⟨?_, fun e => absurd h4 e, fun e => absurd e h5, fun _ => ⟨hback, fun hb => ?_⟩⟩
    · rw [(clocks_networkBack u).now]
      exact hnow
    · rw [hno hb]
      exact hrest
  · rw [if_neg h4]
    split
    · next h =>
      obtain ⟨h5, ho⟩ := h
      have g := (gates_resetBerth 1 (payOwed 5 u)).trans (gates_resetBerth 2 _)
      have hk : (resetBerth 2 (resetBerth 1 (payOwed 5 u))).keep = { u.keep with owed := u.keep.owed &&& ~~~(BitVec.ofNat 8 (2 ^ 5)) } := g.keep
      have hb : ∀ b, (resetBerth 2 (resetBerth 1 (payOwed 5 u))).berth b
          = if b = 2 then (u.berth 2).afterReset else if b = 1 then (u.berth 1).afterReset else u.berth b := fun b => by
        rw [berth_resetBerth, berth_resetBerth, berth_resetBerth]
        rfl
      refine ⟨by rw [hk]; exact hnow, fun _ hor => ?_, fun _ _ => ⟨by rw [hb]; rfl, by rw [hb]; rfl, by rw [hk]; exact getLsbD_clear_bit _ 5⟩,
        fun e => absurd e h4⟩
      exact hor.elim (fun e => absurd h5 e) (fun e => absurd (e.symm.trans ((howed 5).symm.trans ho)) (by decide))
    · next h =>
      exact ⟨hnow, fun _ _ => hrest, fun h5 ho => absurd ⟨h5, (howed 5).trans ho⟩ h, fun e => absurd e h4⟩

/-! ### Functions at their first use (R24, R28) -/

/-- Of the feedback region the encoder outputs alone differ, beside what is told. -/
structure Encodes (s t : State) : Prop where
  rest : t = { s with
    jnl := t.jnl, bth := t.bth, free := t.free, svc := { s.svc with toggles := t.svc.toggles }, fbk := { s.fbk with eo := t.fbk.eo }
    keep := { s.keep with lastCode := t.keep.lastCode }, seq := { s.seq with lastCode := t.seq.lastCode } }

theorem Encodes.refl (s : State) : Encodes s s := ⟨rfl⟩
theorem Encodes.trans {s t u : State} (h : Encodes s t) (k : Encodes t u) : Encodes s u := ⟨by rw [k.rest, h.rest]⟩
theorem Talks.encodes {s t : State} (h : Talks s t) : Encodes s t := ⟨by rw [h.rest]⟩
theorem encodes_setEnc (e : Nat) (f : EncOut → EncOut) (s : State) : Encodes s (setEnc e f s) := ⟨rfl⟩

theorem encodes_eoFollow (e : Nat) (s : State) : Encodes s (eoFollow e s) := by
  unfold eoFollow
  extract_lets o v num den r q p s1
  have h1 : Encodes s s1 := encodes_setEnc e _ s
  clear_value s1
  split
  · exact .refl s
  · split
    · split
      · exact .refl s
      · exact (encodes_setEnc e _ s).trans (talks_record ..).encodes
    · split
      · exact encodes_setEnc e _ s
      · split
        · exact h1.trans ((talks_record ..).trans (talks_raise ..)).encodes
        · exact h1

theorem encodes_eoFollowAll (axes : Bool) (s : State) : Encodes s (eoFollowAll axes s) := by
  unfold eoFollowAll
  generalize List.range 8 = l
  induction l generalizing s with
  | nil => exact .refl s
  | cons e l ih =>
    refine Encodes.trans (t := if decide (48 ≤ eoSrc e s) == axes then eoFollow e s else s) ?_ (ih _)
    split
    · exact encodes_eoFollow e s
    · exact .refl s

theorem encodes_encodersFirstUse (s : State) : Encodes s (encodersFirstUse s) :=
  (Encodes.trans ⟨rfl⟩ (encodes_eoFollowAll false _)).trans (encodes_eoFollowAll true _)

/-- What O48 says of region `r` when its reinitialisation completes, beside that it is over. -/
def FirstUse (r : Nat) (s t : State) : Prop :=
  t.keep.mode = s.keep.mode ∧ t.keep.reinit = s.keep.reinit
    ∧ (r = 1 → t.fbk.chans = s.fbk.chans ∧ t.fbk.heads = s.fbk.heads ∧ t.mot = s.mot)
    ∧ (r = 2 → t.fbk.heads = [] ∧ t.fbk.stand = [] ∧ (∀ k < 16, (t.section_ k).state = .disturbed) ∧ t.fbk.eo = s.fbk.eo)
    ∧ (r = 4 → ∀ c ∈ definedConns s.net.table, (t.conn c).state = 0 ∨ (t.conn c).state = 2)
    ∧ (r = 5 → t.svc.held = false ∧ t.svc.src = [] ∧ t.svc.timers = [] ∧ t.svc.sram = s.svc.sram)

theorem firstUse_regionFirstUse (r : Fin 7) (s : State) : FirstUse r s (regionFirstUse r s) := by
  have hne : ∀ {k : Nat} {P : Prop}, r.val ≠ k → r.val = k → P := fun h e => absurd e h
  have hr := r.isLt
  by_cases h1 : r.val = 1
  · have h := (encodes_encodersFirstUse s).rest
    rw [h1, show regionFirstUse 1 s = encodersFirstUse s from rfl]
    generalize encodersFirstUse s = t at h
    rw [h]
    exact ⟨rfl, rfl, fun _ => ⟨rfl, rfl, rfl⟩, fun e => absurd e (by decide), fun e => absurd e (by decide), fun e => absurd e (by decide)⟩
  · by_cases h2 : r.val = 2
    · obtain ⟨-, hh, hs, hsec, -, -, he, hk⟩ := feedbackFirstUse_spec s
      rw [h2, show regionFirstUse 2 s = feedbackFirstUse s from rfl]
      generalize feedbackFirstUse s = t at hh hs hsec he hk
      exact ⟨by rw [hk], by rw [hk], fun e => absurd e (by decide), fun _ => ⟨hh, hs, fun k hk4 => (hsec k hk4).1, he⟩, fun e => absurd e (by decide),
        fun e => absurd e (by decide)⟩
    · by_cases h4 : r.val = 4
      · obtain ⟨hd, hc⟩ := netRestart_spec s
        rw [h4, show regionFirstUse 4 s = netRestart s from rfl]
        generalize netRestart s = t at hd hc
        exact ⟨hd.mode, by rw [hd.rest], fun e => absurd e (by decide), fun e => absurd e (by decide), fun _ => hc, fun e => absurd e (by decide)⟩
      · by_cases h5 : r.val = 5
        · rw [h5, show regionFirstUse 5 s = serviceFirstUse s from rfl]
          exact ⟨rfl, rfl, fun e => absurd e (by decide), fun e => absurd e (by decide), fun e => absurd e (by decide), fun _ => ⟨rfl, rfl, rfl, rfl⟩⟩
        · have hid : regionFirstUse r s = s := by
            have : r.val = 0 ∨ r.val = 3 ∨ r.val = 6 := by omega
            obtain h | h | h := this <;> rw [h] <;> rfl
          rw [hid]
          exact ⟨rfl, rfl, hne h1, hne h2, hne h4, hne h5⟩

theorem reinitComplete_spec (r : Fin 7) (ns : Nat) (s : State) {t0 : Nat} (hl : look none r.val s.keep.reinit = some t0)
    (hin : (advance ns s).now ≤ t0 + reinitBound r) : Completes (.regionReinitComplete r ns) s (fun t => t.reiniting r = false ∧ t.keep.mode = s.keep.mode
            ∧ (r.val = 1 → t.fbk.chans = s.fbk.chans ∧ t.fbk.heads = s.fbk.heads ∧ t.mot = s.mot)
            ∧ (r.val = 2 → t.fbk.heads = [] ∧ t.fbk.stand = [] ∧ (∀ k < 16, (t.section_ k).state = .disturbed) ∧ t.fbk.eo = s.fbk.eo)
            ∧ (r.val = 4 → ∀ c ∈ definedConns s.net.table, (t.conn c).state = 0 ∨ (t.conn c).state = 2)
            ∧ (r.val = 5 → t.svc.held = false ∧ t.svc.src = [] ∧ t.svc.timers = [] ∧ t.svc.sram = s.svc.sram)) := by
  let v := record 0x9102 [] (setKeep (fun q => { q with reinit := put r.val none q.reinit }) (advance ns s))
  have hexec : exec (.regionReinitComplete r ns) s = .next (regionFirstUse r v) := by
    show (match look none r.val (advance ns s).keep.reinit with
      | none => Host.Outcome.next (advance ns s)
      | some t => if (advance ns s).now ≤ t + reinitBound r then .next (regionFirstUse r v) else .next (advance ns s)) = _
    rw [advance_keep_reinit, hl]
    exact if_pos hin
  have hv : Talks (setKeep (fun q => { q with reinit := put r.val none q.reinit }) (advance ns s)) v := talks_record ..
  have hmode : v.keep.mode = s.keep.mode := hv.mode.trans (advance_keep_mode ns s)
  have hre : v.keep.reinit = put r.val none (advance ns s).keep.reinit := by rw [hv.keep]; rfl
  have hfbk : v.fbk = s.fbk := hv.fbk.trans (advance_fbk ns s)
  have hmot : v.mot = s.mot := hv.mot.trans (advance_mot ns s)
  have hnet : v.net = s.net := hv.net.trans (advance_net ns s)
  have hsvc : v.svc.sram = s.svc.sram := hv.svcSram.trans (congrArg Service.sram (advance_svc ns s))
  obtain ⟨hm, hr, h1, h2, h4, h5⟩ := firstUse_regionFirstUse r v
  refine ⟨_, hexec, ?_⟩
  generalize regionFirstUse r v = t at hm hr h1 h2 h4 h5
  rw [hfbk, hmot] at h1
  rw [hfbk] at h2
  rw [hnet] at h4
  rw [hsvc] at h5
  exact ⟨by rw [State.reiniting, hr, hre, look_put_same]; rfl, hm.trans hmode, h1, h2, h4, h5⟩

/-! ### The keeper watchdog (R512, R533) -/

/-- A slot on trial has failed. -/
def failTrial (s : State) (k : Nat) : State := if (s.slot k).state = .trial then slotState k .failed s else s

theorem slot_failTrial (s : State) (k n : Nat) :
    ((failTrial s k).slot n).state = if n = k ∧ (s.slot n).state = .trial then .failed else (s.slot n).state := by
  have hset : ((slotState k .failed s).slot n).state = if n = k then .failed else (s.slot n).state := by
    rw [slot_slotState]
    split <;> rfl
  unfold failTrial
  by_cases hn : n = k
  · rw [if_pos hn] at hset
    rw [← hn] at hset ⊢
    by_cases h : (s.slot n).state = .trial
    · rw [if_pos h, hset, if_pos ⟨rfl, h⟩]
    · rw [if_neg h, if_neg (fun e => h e.2)]
  · rw [if_neg hn] at hset
    rw [if_neg (show ¬ (n = k ∧ (s.slot n).state = .trial) from fun e => hn e.1)]
    split
    · exact hset
    · rfl

theorem slots_failTrial (s : State) {n : Nat} (hn : n < 4) :
    (([0, 1, 2, 3].foldl failTrial s).slot n).state = if (s.slot n).state = .trial then .failed else (s.slot n).state := by
  simp only [List.foldl_cons, List.foldl_nil, slot_failTrial]
  interval_cases n
  · by_cases h : (s.slot 0).state = .trial <;> simp [h]
  · by_cases h : (s.slot 1).state = .trial <;> simp [h]
  · by_cases h : (s.slot 2).state = .trial <;> simp [h]
  · by_cases h : (s.slot 3).state = .trial <;> simp [h]

theorem trialFails_eq (s : State) : trialFails s = wholeReset 4 0x9052 [] {} (record 0x9052 [] ([0, 1, 2, 3].foldl failTrial s)) := rfl

theorem trialFails_spec (s : State) : (trialFails s).keep.mode = .boot ∧ (trialFails s).keep.resetKind = 4 ∧ (trialFails s).keep.bootStage = 1
    ∧ ∀ k < 4, ((trialFails s).slot k).state = if (s.slot k).state = .trial then .failed else (s.slot k).state := by
  rw [trialFails_eq]
  have hs1 := fun n (hn : n < 4) => slots_failTrial s hn
  generalize [0, 1, 2, 3].foldl failTrial s = s1 at hs1
  obtain ⟨hslots, hm, hk, -, hst⟩ := wholeReset_spec 4 0x9052 [] {} (record 0x9052 [] s1)
  have hkeep : (record 0x9052 [] s1).keep.slots = s1.keep.slots := by rw [(talks_record 0x9052 [] s1).keep]
  refine ⟨hm, hk, hst, fun k hk4 => ?_⟩
  rw [State.slot, hslots, hkeep]
  exact hs1 k hk4

theorem keeperWatchdog_spec (s : State) :
      (s.keep.mode ≠ .boot ∨ onTrial s = false → Completes .keeperWatchdogExpiry s (fun t => t.keep.mode = .hold ∧ t.keep.tripLow = true
        ∧ (s.keep.mode ≠ .hold → t.keep.cause = 0x9032)))
      ∧ (s.keep.mode = .boot → onTrial s = true → Completes .keeperWatchdogExpiry s (fun t => t.keep.mode = .boot ∧ t.keep.resetKind = 4
          ∧ t.keep.bootStage = 1 ∧ ∀ k < 4, (t.slot k).state = if (s.slot k).state = .trial then .failed else (s.slot k).state)) := by
  refine ⟨fun h => ?_, fun hm ht => ?_⟩
  · have hno : ¬ (s.keep.mode = .boot ∧ onTrial s = true) := fun e => h.elim (fun h => h e.1) (fun h => absurd (h.symm.trans e.2) (by decide))
    have hr := talks_record 0x9032 [] (setKeep (fun q => { q with tripLow := true }) s)
    refine ⟨enterHold 0x9032 (record 0x9032 [] (setKeep (fun q => { q with tripLow := true }) s)), if_neg hno, mode_enterHold _ _, ?_,
      fun hm => cause_enterHold (by rw [hr.mode]; exact hm)⟩
    by_cases hm : (record 0x9032 [] (setKeep (fun q => { q with tripLow := true }) s)).keep.mode = .hold
    · rw [show enterHold 0x9032 (record 0x9032 [] (setKeep (fun q => { q with tripLow := true }) s)) = _ from if_pos hm, hr.keep]
      rfl
    · rw [(entersHold (cause := 0x9032) hm).keep]
  · obtain ⟨h1, h2, h3, h4⟩ := trialFails_spec (record 0x9032 [] s)
    refine ⟨_, if_pos ⟨hm, ht⟩, h1, h2, h3, fun k hk => (h4 k hk).trans ?_⟩
    rw [State.slot, (talks_record 0x9032 [] s).keep]
    rfl

/-- Settles O48. -/
theorem regionsAct : Obligations.RegionsAct := by
  refine ⟨fun n s => ?_, fun r ns s => ?_, keeperWatchdog_spec⟩
  · refine ⟨fun h => if_pos h, fun hn hm => clockOutOfRange_spec n s hn hm, fun hn => if_pos (by rw [hn]; rfl), clockBackInRange_spec n s⟩
  · intro u
    have hre : u.keep.reinit = s.keep.reinit := advance_keep_reinit ns s
    refine ⟨fun h => ⟨?_, ?_⟩, fun t0 hl => ⟨fun hin => ⟨?_, reinitComplete_spec r ns s hl hin⟩, fun hlate => ⟨?_, ?_⟩⟩⟩
    · show (match look none r.val u.keep.reinit with | none => Host.Outcome.next u | some t => _) = _
      rw [hre, h]
    · show (match look none r.val u.keep.reinit with | none => Host.Outcome.next u | some t => _) = _
      rw [hre, h]
    · show (match look none r.val u.keep.reinit with
        | none => Host.Outcome.next u
        | some t => if t + reinitBound r < u.now then .next (enterHold 0x9103 (record 0x9103 [r.val] u)) else .next u) = _
      rw [hre, hl]
      exact if_neg (Nat.not_lt.mpr hin)
    · show (match look none r.val u.keep.reinit with
        | none => Host.Outcome.next u
        | some t => if u.now ≤ t + reinitBound r then
            .next (regionFirstUse r (record 0x9102 [] (setKeep (fun q => { q with reinit := put r.val none q.reinit }) u)))
          else .next u) = _
      rw [hre, hl]
      exact if_neg (Nat.not_le.mpr hlate)
    · refine ⟨enterHold 0x9103 (record 0x9103 [r.val] u), ?_, mode_enterHold _ _, fun hm => cause_enterHold ?_⟩
      · show (match look none r.val u.keep.reinit with
          | none => Host.Outcome.next u
          | some t => if t + reinitBound r < u.now then .next (enterHold 0x9103 (record 0x9103 [r.val] u)) else .next u) = _
        rw [hre, hl]
        exact if_pos hlate
      · rw [(talks_record _ _ u).mode, show u.keep.mode = s.keep.mode from advance_keep_mode ns s]
        exact hm

end Sys2Proof.Machine
end

section
/-!
PROOFS. Slots, samples and metrics (O42).
-/
namespace Sys2Proof.Machine

/-! ### What staging and samples leave (R449, R471) -/

/-- Nothing but the journal differs, and of it neither metrics nor the accumulators. -/
structure Stages (s t : State) : Prop where
  rest : t = { s with jnl := t.jnl }
  metrics : t.jnl.metrics = s.jnl.metrics
  acc : t.jnl.acc = s.jnl.acc

theorem stages_stageRec (r : Rec) (s : State) : Stages s (stageRec r s) := by
  unfold stageRec loseRec
  split
  · exact ⟨rfl, rfl, rfl⟩
  · split
    · exact ⟨rfl, rfl, rfl⟩
    · exact ⟨rfl, rfl, rfl⟩
  · exact ⟨rfl, rfl, rfl⟩
  · exact ⟨rfl, rfl, rfl⟩

/-- A record that finds room becomes the last of the staging buffer. -/
theorem staging_stageRec {r : Rec} {s : State} (hs : s.jnl.state = .recording) (hr : s.jnl.fill + r.size ≤ Config.stagingBytes) :
    (stageRec r s).jnl.staging = s.jnl.staging ++ [r] := by
  rw [stageRec, hs]
  exact congrArg (fun t : State => t.jnl.staging) (if_pos hr)

theorem stages_klogPut (r : Rec) (s : State) : Stages s (klogPut r s) := ⟨rfl, rfl, rfl⟩

/-- A code of the journal's chapter is recorded: the metrics and the accumulators stay. -/
theorem stages_recordC_seven {code : Nat} (h : code / 0x1000 = 7) (flags count : Nat) (extra : List Byte) (s : State) :
    Stages s (recordC code flags count extra s) := by
  have hcode : noteCode code s = s := by simp [noteCode, h, show code / 0x100 ≠ 0x11 by omega]
  have hput : ∀ b : Bool, Stages s (if b then klogPut (condRec code flags count extra s) s else s) := fun b => by
    cases b
    · exact ⟨rfl, rfl, rfl⟩
    · exact stages_klogPut _ s
  have hstage : ∀ (r : Rec) {u : State}, Stages s u → Stages s (stageRec r u) := fun r u h =>
    have k := stages_stageRec r u
    ⟨by rw [k.rest, h.rest], k.metrics.trans h.metrics, k.acc.trans h.acc⟩
  simp only [recordC, hcode]
  split
  · exact ⟨rfl, rfl, rfl⟩
  · split
    · exact hput _
    · exact hstage _ (hput _)

/-- Nothing but metrics differs. -/
structure SamplesOnly (s t : State) : Prop where
  rest : t = { s with jnl := { s.jnl with metrics := t.jnl.metrics } }

theorem SamplesOnly.trans {s t u : State} (h : SamplesOnly s t) (k : SamplesOnly t u) : SamplesOnly s u := ⟨by rw [k.rest, h.rest]⟩

theorem samplesOnly_sample (m : Nat) (v : Int) (s : State) : SamplesOnly s (sample m v s) := by
  unfold sample
  split
  · exact ⟨rfl⟩
  · exact ⟨rfl⟩

theorem samplesOnly_foldl (op : State → Nat → State) (h : ∀ u n, SamplesOnly u (op u n)) (l : List Nat) (s : State) : SamplesOnly s (l.foldl op s) := by
  induction l generalizing s with
  | nil => exact ⟨rfl⟩
  | cons n l ih => exact (h s n).trans (ih _)

/-! ### A slot's kind and order (R458) -/

/-- The word that names kind `k` in its low byte, as the slot's command forms it. -/
def kindWord (w0 : Word) (k : Nat) : Word := w32 (w0.toNat / 256 * 256 + k)

theorem toNat_kindWord (w0 : Word) {k : Nat} (hk : k < 256) : (kindWord w0 k).toNat = w0.toNat / 256 * 256 + k := by
  have hw := w0.isLt
  simp only [kindWord, w32, BitVec.toNat_ofNat]
  exact Nat.mod_eq_of_lt (by omega)

theorem kind_kindWord (w0 : Word) {k : Nat} (hk : k < 256) : bits 7 0 (kindWord w0 k).toNat = k := by
  simp only [bits, toNat_kindWord w0 hk]
  omega

theorem metric_kindWord (w0 : Word) {k : Nat} (hk : k < 256) : bits 31 16 (kindWord w0 k).toNat = w0.toNat / 2 ^ 16 := by
  have hw := w0.isLt
  simp only [bits, toNat_kindWord w0 hk]
  omega

theorem zero_kindWord (w0 : Word) {k : Nat} (hk : k < 256) : bits 15 8 (kindWord w0 k).toNat = bits 15 8 w0.toNat := by
  simp only [bits, toNat_kindWord w0 hk]
  omega

theorem slotOk_program (w0 w1 w2 w3 : Word) (s : State) : slotOk (kindWord w0 1) w1 w2 w3 s = true ↔ bits 15 8 w0.toNat = 0 := by
  simp [slotOk, kind_kindWord, zero_kindWord]

theorem slotOk_door (w0 w1 w2 w3 : Word) (s : State) : slotOk (kindWord w0 2) w1 w2 w3 s = true
    ↔ bits 15 8 w0.toNat = 0 ∧ w1 ≠ 0 ∧ w1.toNat < 2 ^ s.axesFitted ∧ bits 31 8 w2.toNat = 0 := by
  simp [slotOk, kind_kindWord, zero_kindWord]

theorem slotOk_sample (w0 w1 w2 w3 : Word) (s : State) : slotOk (kindWord w0 3) w1 w2 w3 s = true
    ↔ bits 15 8 w0.toNat = 0 ∧ 256 ≤ w0.toNat / 2 ^ 16 ∧ w0.toNat / 2 ^ 16 ≤ 4095 ∧ w2 = 0 ∧ w3 = 0 ∧ cbit (metCfg (w0.toNat / 2 ^ 16)) 0 s = true := by
  simp [slotOk, kind_kindWord, zero_kindWord, metric_kindWord, and_assoc]

/-- A slot out of order is refused with event source 247. -/
theorem journalSlot_refused {slot : Nat} {w0 w1 w2 w3 : Word} {late : Bool} {s : State} (h : slotOk w0 w1 w2 w3 s ≠ true) :
    let t := journalSlot slot w0 w1 w2 w3 late s
    t.svc.toggles = s.svc.toggles ++ [(247, s.now)] ∧ t.jnl.metrics = s.jnl.metrics ∧ t.jnl.acc = s.jnl.acc ∧ t = s.noted t := by
  intro t
  have ht : t = raise 247 (recordC 0x7030 (b2n late) 1 (le 4 slot ++ le 4 w0.toNat) s) := if_pos (by simp [h])
  obtain ⟨hrest, hm, ha⟩ := stages_recordC_seven (code := 0x7030) rfl (b2n late) 1 (le 4 slot ++ le 4 w0.toNat) s
  generalize recordC 0x7030 (b2n late) 1 (le 4 slot ++ le 4 w0.toNat) s = u at ht hrest hm ha
  rw [ht]
  refine ⟨?_, hm, ha, ?_⟩
  · rw [hrest]
    rfl
  · rw [hrest]
    rfl

theorem journalSlot_of_ok {slot : Nat} {w0 w1 w2 w3 : Word} {late : Bool} {s : State} {k : Nat} (h : slotOk (kindWord w0 k) w1 w2 w3 s = true) (hk : k < 256) :
    journalSlot slot (kindWord w0 k) w1 w2 w3 late s = if k = 1 then
      stageRec { typ := 3, dtime := s.deadline
                 payload := le 2 slot ++ le 2 (b2n late) ++ le 4 s.seq.mcc ++ [kindWord w0 k, w1, w2, w3].flatMap (fun w => le 4 w.toNat) } s
    else if k = 2 then doorCycle (kindWord w0 k) w1 w2 w3 late s.deadline s
    else sample (w0.toNat / 2 ^ 16) (signed 32 w1.toNat) s := by
  unfold journalSlot
  rw [h, kind_kindWord w0 hk, metric_kindWord w0 hk]
  rfl

/-! ### DOOR_CYCLE (R461, R471) -/

/-- The axes that a word names. -/
def axesOf (w : Word) : List Nat := (List.range 32).filter (fun n => w.getLsbD n)

theorem mem_axesOf {w : Word} {n : Nat} : n ∈ axesOf w ↔ w.getLsbD n = true := by
  simp only [axesOf, List.mem_filter, List.mem_range, and_iff_right_iff_imp]
  exact BitVec.lt_of_getLsbD

/-- The accumulators of axis `n` are cleared. -/
def clearAcc (s : State) (n : Nat) : State := setJnl (fun j => { j with acc := put n { cleared := s.now } j.acc }) s

/-- Nothing but accumulators differs. -/
structure Clears (s t : State) : Prop where
  rest : t = { s with jnl := { s.jnl with acc := t.jnl.acc } }

theorem foldl_clearAcc (l : List Nat) (s : State) : Clears s (l.foldl clearAcc s)
    ∧ ∀ n, look ({} : DoorAcc) n (l.foldl clearAcc s).jnl.acc = if n ∈ l then { cleared := s.now } else look {} n s.jnl.acc := by
  induction l generalizing s with
  | nil => exact ⟨⟨rfl⟩, fun n => rfl⟩
  | cons i l ih =>
    obtain ⟨hr, hn⟩ := ih (clearAcc s i)
    have hnow : (clearAcc s i).now = s.now := rfl
    have hacc : ∀ n, look ({} : DoorAcc) n (clearAcc s i).jnl.acc = if n = i then { cleared := s.now } else look {} n s.jnl.acc := fun n => look_put ..
    refine ⟨⟨by rw [List.foldl_cons, hr.rest]; rfl⟩, fun n => ?_⟩
    rw [List.foldl_cons, hn, hnow, hacc]
    by_cases hl : n ∈ l
    · simp [hl]
    · by_cases hi : n = i
      · simp [hi]
      · simp [hl, hi]

/-- A door cycle in its parts: its record of 32 bytes is staged, its samples are taken, the accumulators of its axes are cleared. -/
theorem doorCycle_parts (w0 w1 w2 w3 : Word) (late : Bool) (dtime : Nat) (s : State) :
    ∃ (x ms : List Byte) (rest : List Byte) (v : Nat) (f : Nat → Nat), x.length = 2 ∧ ms.length = 4 ∧ rest.length = 12
      ∧ doorCycle w0 w1 w2 w3 late dtime s = (axesOf w1).foldl clearAcc ((axesOf w1).foldl (fun s n => sample (48 + n) (f n) (sample (16 + n) v s)) (stageRec
        { typ := 4, dtime := dtime
          payload := le 2 (bits 31 16 w0.toNat) ++ x ++ le 4 s.seq.mcc ++ ms ++ le 4 w1.toNat ++ rest ++ le 4 w3.toNat } s)) := by
  unfold doorCycle
  extract_lets axes acc largest start ms flags r s1
  refine ⟨le 1 (bits 7 0 w2.toNat) ++ le 1 flags, le 4 ms, le 2 (sat 65535 (largest DoorAcc.runs)) ++ le 2 (sat 65535 (largest DoorAcc.obstacles))
      ++ le 2 (largest DoorAcc.peakCurrent) ++ le 2 (largest DoorAcc.peakError) ++ le 2 (largest DoorAcc.peakVelocity / 65536)
      ++ le 2 (acc (axes.getLastD 0)).lastCode, ms, fun n => (acc n).peakCurrent, by simp, by simp, by simp, ?_⟩
  simp only [List.append_assoc, s1, r]
  rfl

/-- A door cycle in order. -/
theorem doorCycle_spec (w0 w1 w2 w3 : Word) (late : Bool) (dtime : Nat) (s : State) :
    let t := doorCycle w0 w1 w2 w3 late dtime s
    t = { s with jnl := t.jnl }
      ∧ (s.jnl.state = .recording ∧ s.jnl.fill + 64 ≤ Config.stagingBytes → ∃ r : Rec, t.jnl.staging = s.jnl.staging ++ [r] ∧ r.typ = 4 ∧ r.dtime = dtime
          ∧ r.payload.length = 32 ∧ slice 0 2 r.payload = le 2 (bits 31 16 w0.toNat) ∧ slice 4 4 r.payload = le 4 s.seq.mcc
          ∧ slice 12 4 r.payload = le 4 w1.toNat ∧ slice 28 4 r.payload = le 4 w3.toNat)
      ∧ ∀ n, look {} n t.jnl.acc = if w1.getLsbD n = true then { cleared := s.now } else look ({} : DoorAcc) n s.jnl.acc := by
  intro t
  obtain ⟨x, ms, rest, v, f, hx, hms, hrest, ht⟩ := doorCycle_parts w0 w1 w2 w3 late dtime s
  generalize hr : Rec.mk _ _ _ = r at ht
  have hst := stages_stageRec r s
  have hsa : SamplesOnly (stageRec r s) ((axesOf w1).foldl (fun s n => sample (48 + n) (f n) (sample (16 + n) v s)) (stageRec r s)) :=
    samplesOnly_foldl _ (fun u n => (samplesOnly_sample ..).trans (samplesOnly_sample ..)) _ _
  have hroom : s.jnl.state = .recording ∧ s.jnl.fill + 64 ≤ Config.stagingBytes → (stageRec r s).jnl.staging = s.jnl.staging ++ [r] := fun ⟨h1, h2⟩ =>
    staging_stageRec h1 (by rw [← hr]; simpa [Rec.size, hx, hms, hrest, roundUp] using h2)
  generalize stageRec r s = a at ht hst hsa hroom
  generalize (axesOf w1).foldl (fun s n => sample (48 + n) (f n) (sample (16 + n) v s)) a = b at ht hsa
  obtain ⟨hc, hn⟩ := foldl_clearAcc (axesOf w1) b
  have hnow : b.now = s.now := by rw [hsa.rest, hst.rest]; rfl
  have hacc : b.jnl.acc = s.jnl.acc := by rw [hsa.rest]; exact hst.acc
  have htc : Clears b t := (congrArg (Clears b) ht).mpr hc
  have htn : ∀ n, look ({} : DoorAcc) n t.jnl.acc = if n ∈ axesOf w1 then { cleared := b.now } else look {} n b.jnl.acc := fun n => (congrArg (fun u : State => look {} n u.jnl.acc) ht).trans (hn n)
  refine ⟨by rw [htc.rest, hsa.rest, hst.rest], fun hrm => ⟨r, ?_, ?_⟩, fun n => ?_⟩
  · rw [htc.rest, hsa.rest]
    exact hroom hrm
  · rw [← hr]
    refine ⟨rfl, rfl, by simp [hx, hms, hrest], ?_, ?_, ?_, ?_⟩
    all_goals simp [slice, List.drop_append, List.drop_of_length_le, hx, hms, hrest]
  · rw [htn, hnow, hacc]
    simp only [mem_axesOf]

/-! ### Frames and the clearing of a metric (R472, R473) -/

theorem frameLimit_pos (s : State) : 0 < frameLimit s := by
  unfold frameLimit
  split <;> decide

theorem getLast?_drop_snoc {α : Type} (l : List α) (x : α) {n : Nat} (hn : 0 < n) : ((l ++ [x]).drop ((l ++ [x]).length - n)).getLast? = some x := by
  rw [List.drop_append_of_le_length (by simp only [List.length_append, List.length_singleton]; omega), List.getLast?_concat]

theorem persistFrame_spec (u : State) :
    let t := persistFrame u
    t.jnl.nextFrame = (u.jnl.nextFrame + 1) % 2 ^ 32 ∧ t.jnl.lastFrameAt = u.now ∧ t.svc.toggles = u.svc.toggles ++ [(246, u.now)]
      ∧ (∃ F, t.jnl.frames.getLast? = some F ∧ F.number = u.jnl.nextFrame ∧ F.metrics = u.jnl.metrics ∧ F.dtime = u.now)
      ∧ t.jnl.metrics = u.jnl.metrics ∧ t = u.noted t :=
  ⟨rfl, rfl, rfl, ⟨_, getLast?_drop_snoc _ _ (frameLimit_pos u), rfl, rfl, rfl⟩, rfl, rfl⟩

theorem clearMetric_spec (m : Nat) (s : State) : look {} m (clearMetric m s).jnl.metrics = ({} : Metric)
    ∧ (∀ k, k ≠ m → look {} k (clearMetric m s).jnl.metrics = look ({} : Metric) k s.jnl.metrics) ∧ clearMetric m s = s.noted (clearMetric m s) := by
  obtain ⟨hrest, hm, -⟩ := stages_recordC_seven (code := 0x7021) rfl 0 1 ([m].flatMap (le 4)) (setJnl (fun j => { j with metrics := del m j.metrics }) s)
  have ht : clearMetric m s = recordC 0x7021 0 1 ([m].flatMap (le 4)) (setJnl (fun j => { j with metrics := del m j.metrics }) s) := rfl
  rw [← ht] at hrest hm
  generalize clearMetric m s = t at hrest hm
  have hlook : ∀ k, look ({} : Metric) k t.jnl.metrics = if k = m then {} else look {} k s.jnl.metrics := fun k => by
    rw [hm]
    exact look_del ..
  exact ⟨by rw [hlook, if_pos rfl], fun k hk => by rw [hlook, if_neg hk], by rw [hrest]; rfl⟩

def jnlMetClrRow : RegRow := row .jnlMetClr 0x0600_0024 1 0x4 1 0x4 .always [fld .w1s 31 31 .maintain, fld .wo 11 0 .maintain]

theorem accessWrite_jnlMetClr {acc : Access} {v : Word} {s : State} (hw : WriteGranted acc 0x0600_0024 v s) :
    accessWrite acc 0x0600_0024 v s = if v.getLsbD 31 then clearMetric (v.toNat % 4096) (advance acc.at_ s) else advance acc.at_ s := by
  rw [accessWrite_always hw (r := jnlMetClrRow) rfl rfl]
  simp only [writeReg, storeBits_of_mask_zero (show jnlMetClrRow.mask [.rw, .rwc] = 0 by decide)]
  rfl

/-- Settles O42: each slot by its kind and order. -/
theorem statisticsAct : Obligations.StatisticsAct := by
  refine ⟨fun slot w0 w1 w2 w3 late s => ?_, fun acc v ns s => ⟨?_, fun hw => ?_⟩⟩
  · intro m zero room refused
    have hrefused : ∀ {c : Instr} {w : Word}, exec c s = .next (journalSlot slot w w1 w2 w3 late s) → slotOk w w1 w2 w3 s ≠ true → refused c := fun hc hn =>
      ⟨_, hc, journalSlot_refused hn⟩
    refine ⟨fun hz => ?_, fun hz => hrefused rfl (mt (slotOk_program w0 w1 w2 w3 s).mp hz), ?_, ?_⟩
    · have hok : journalSlot slot (kindWord w0 1) w1 w2 w3 late s = _ := (journalSlot_of_ok ((slotOk_program w0 w1 w2 w3 s).mpr hz) (by decide)).trans (if_pos rfl)
      refine ⟨_, congrArg Host.Outcome.next hok, (stages_stageRec _ s).rest, fun hroom => ?_⟩
      exact staging_stageRec hroom.1 (by simpa [Rec.size, roundUp] using hroom.2)
    · intro good
      refine ⟨fun hg => ?_, fun hg => hrefused rfl (mt (slotOk_door w0 w1 w2 w3 s).mp hg)⟩
      have hok : journalSlot slot (kindWord w0 2) w1 w2 w3 late s = doorCycle (kindWord w0 2) w1 w2 w3 late s.deadline s :=
        journalSlot_of_ok ((slotOk_door w0 w1 w2 w3 s).mpr hg) (by decide)
      obtain ⟨h1, h2, h3⟩ := doorCycle_spec (kindWord w0 2) w1 w2 w3 late s.deadline s
      rw [metric_kindWord w0 (by decide)] at h2
      exact ⟨_, congrArg Host.Outcome.next hok, h1, h2, h3⟩
    · intro good
      refine ⟨fun hg => ?_, fun hg => hrefused rfl (mt (slotOk_sample w0 w1 w2 w3 s).mp hg)⟩
      have hbit : cbit (metCfg m) 0 s = true := hg.2.2.2.2.2
      have hok : journalSlot slot (kindWord w0 3) w1 w2 w3 late s = _ :=
        (journalSlot_of_ok ((slotOk_sample w0 w1 w2 w3 s).mpr hg) (by decide)).trans (if_pos hbit)
      exact ⟨_, congrArg Host.Outcome.next hok, rfl, look_upd_same ({} : Metric) m (fun M => M.take _ _) s.jnl.metrics,
        fun k hk => look_upd_other ({} : Metric) hk (fun M => M.take _ _) s.jnl.metrics⟩
  · intro u
    have hdue : persistNs u ≤ u.now - u.jnl.lastFrameAt ↔ persistNs s ≤ u.now - s.jnl.lastFrameAt := by
      rw [show u.jnl = s.jnl from advance_jnl ns s, show persistNs u = persistNs s by simp only [persistNs, u, cf_advance]]
    refine ⟨fun h => ?_, fun h => if_neg (fun hd => Nat.not_le.mpr h (hdue.mp hd))⟩
    · have hp := persistFrame_spec u
      rw [show u.jnl = s.jnl from advance_jnl ns s, show u.svc = s.svc from advance_svc ns s] at hp
      exact ⟨_, if_pos (hdue.mpr h), hp⟩
  · intro u
    have hexec : exec (.metricClear acc v) s = .next (if v.getLsbD 31 then clearMetric (v.toNat % 4096) u else u) :=
      congrArg Host.Outcome.next (accessWrite_jnlMetClr hw)
    refine ⟨fun hv => ?_, fun hv => hexec.trans (congrArg Host.Outcome.next (if_neg (fun e => absurd (hv.symm.trans e) (by decide))))⟩
    have hc := clearMetric_spec (v.toNat % 4096) u
    rw [show u.jnl = s.jnl from advance_jnl acc.at_ s] at hc
    exact ⟨_, hexec.trans (congrArg Host.Outcome.next (if_pos hv)), hc⟩

end Sys2Proof.Machine
end

section
/-!
PROOFS. Ethernet ports (O21).
-/
namespace Sys2Proof.Machine

/-! ### Records of the network region (R252) -/

theorem record_net {code : Nat} (h : code / 0x1000 = 5) (args : List Nat) (s : State) : record code args s = { s with jnl := (record code args s).jnl } := by
  obtain ⟨j, hj⟩ := jnlOnly_record code args s (by omega) (by omega)
  rw [hj]

/-- What is recorded does not depend on the network region. -/
theorem record_setNet {code : Nat} (h : code / 0x1000 = 5) (args : List Nat) (n : Net) (s : State) :
    record code args { s with net := n } = { s with net := n, jnl := (record code args s).jnl } := by
  have hj : (record code args { s with net := n }).jnl = (record code args s).jnl := recordC_congr (s := s) (t := { s with net := n }) rfl rfl rfl rfl ..
  rw [record_net h args { s with net := n }, hj]

/-! ### What leaves a port (R252) -/

/-- Frame `f` leaves port `p` with what waits there. -/
structure Leaves (p : Nat) (f : List Byte) (s t : State) : Prop where
  sent : t.net.sent = s.net.sent ++ (egressOrder ((s.port p).egress ++ [(0, f)])).map (fun x => { port := p, frame := x })
  own : t.port p = { s.port p with egress := [], tx := sat 0xFFFF_FFFF ((s.port p).tx + (egressOrder ((s.port p).egress ++ [(0, f)])).length) }
  rest : t = { s with net := t.net }

theorem port_setPort_same (p : Nat) (f : Port → Port) (s : State) : (setPort p f s).port p = f (s.port p) := by rw [port_setPort, if_pos rfl]

theorem leaves_drain (p : Nat) (f : List Byte) (s : State) : Leaves p f s (drainPort (enqueue p 0 f s) p) := by
  have hq : (enqueue p 0 f s).port p = { s.port p with egress := (s.port p).egress ++ [(0, f)] } := port_setPort_same ..
  have hsent : (enqueue p 0 f s).net.sent = s.net.sent := rfl
  have hrest : enqueue p 0 f s = { s with net := (enqueue p 0 f s).net } := rfl
  generalize enqueue p 0 f s = u at hq hsent hrest
  refine ⟨?_, ?_, ?_⟩
  · show u.net.sent ++ (egressOrder (u.port p).egress).map _ = _
    rw [hsent, hq]
  · refine (port_setPort_same p (fun P => { P with egress := [], tx := sat 0xFFFF_FFFF (P.tx + (egressOrder (u.port p).egress).length) }) u).trans ?_
    rw [hq]
  · rw [hrest]
    rfl

theorem etherFrame_untagged (dst src etype : Nat) (data : List Byte) :
    etherFrame dst src 0 0 etype data = be 6 dst ++ be 6 src ++ be 2 etype ++ data := by
  simp [etherFrame]

/-- A frame that a port of a working region receives. -/
theorem countRx_spec (p : Nat) (s : State) : (countRx p s).port p = { s.port p with rx := sat 0xFFFF_FFFF ((s.port p).rx + 1) }
    ∧ (countRx p s).net.sent = s.net.sent ∧ countRx p s = { s with net := (countRx p s).net } := ⟨port_setPort_same .., rfl, rfl⟩

theorem countOther_spec (p : Nat) (s : State) : (countOther p s).port p = { s.port p with other := sat 0xFFFF ((s.port p).other + 1) }
    ∧ (countOther p s).net.sent = s.net.sent ∧ countOther p s = { s with net := (countOther p s).net } := ⟨port_setPort_same .., rfl, rfl⟩

section
variable {p : Fin 4} {s : State}

/-- An ARP request for the port's own address. -/
theorem arpAnswered (hw : netWorks s = true) (hl : (s.port p).link = true) (mac : BitVec 48) (asker : Word) {tgt : Word} (h0 : tgt ≠ 0)
    (hip : tgt = ctlGet (portReg p 0x10) s) : ∃ u, (u.port p) = { s.port p with rx := sat 0xFFFF_FFFF ((s.port p).rx + 1) } ∧ u.net.sent = s.net.sent
      ∧ u = { s with net := u.net } ∧ ∃ t, exec (.arpRequest p mac asker tgt) s = .next t
        ∧ Leaves p (be 6 mac.toNat ++ be 6 (ownMac p s) ++ be 2 0x0806
            ++ arpPacket 2 (ownMac p s) (ctlGet (portReg p 0x10) s).toNat mac.toNat asker.toNat) u t := by
  obtain ⟨hp, hsent, hrest⟩ := countRx_spec p s
  refine ⟨countRx p s, hp, hsent, hrest, _, congrArg Host.Outcome.next ((if_neg (by simp [hw, hl])).trans (if_pos ⟨h0, hip⟩)), ?_⟩
  rw [etherFrame_untagged]
  exact leaves_drain ..

/-- A port that takes no frames. -/
theorem portDeaf (h : netWorks s = false ∨ (s.port p).link = false) : (!(netWorks s && (s.port p).link)) = true := by
  obtain h | h := h <;> simp [h]

theorem frameCounted (hw : netWorks s = true) (hl : (s.port p).link = true) (fcsOk : Bool) (n : BitVec 16) (g : Option TcpSegment) :
    Completes (.nonYalaFrame p fcsOk n g) s (fun t =>
          t.net.sent = s.net.sent ∧ t = { s with net := t.net }
          ∧ (fcsOk = false ∨ clientMax p s < n.toNat → (t.port p).fcs = sat 0xFFFF ((s.port p).fcs + 1) ∧ (t.port p).rx = (s.port p).rx)
          ∧ (fcsOk = true → n.toNat ≤ clientMax p s → (t.port p).rx = sat 0xFFFF_FFFF ((s.port p).rx + 1) ∧ (t.port p).fcs = (s.port p).fcs
              ∧ ((∃ x, g = some x ∧ toBerth p x s = true) → (t.port p).other = (s.port p).other)
              ∧ ((∀ x, g = some x → toBerth p x s = false) → (t.port p).other = sat 0xFFFF ((s.port p).other + 1)))) := by
  have hears : ¬ (!(netWorks s && (s.port p).link)) = true := by simp [hw, hl]
  obtain ⟨hp, hsent, hrest⟩ := countRx_spec p s
  obtain ⟨hp', hsent', hrest'⟩ := countOther_spec p (countRx p s)
  by_cases hbad : (!fcsOk || decide (clientMax p s < n.toNat)) = true
  · refine ⟨countFcs p s, congrArg Host.Outcome.next ((if_neg hears).trans (if_pos hbad)), rfl, rfl, fun _ => ?_, fun hf hn => ?_⟩
    · rw [show (countFcs p s).port p = { s.port p with fcs := sat 0xFFFF ((s.port p).fcs + 1) } from port_setPort_same ..]
      exact ⟨rfl, rfl⟩
    · rw [hf] at hbad
      exact absurd hbad (by simp; omega)
  · have hgood : fcsOk = true ∧ n.toNat ≤ clientMax p s := by simpa using hbad
    have hno : ∀ {P : Prop}, fcsOk = false ∨ clientMax p s < n.toNat → P := fun h =>
      absurd h (by rw [hgood.1]; simp; omega)
    by_cases hb : (g.map (fun x => toBerth p x s)).getD false = true
    · refine ⟨countRx p s, congrArg Host.Outcome.next (((if_neg hears).trans (if_neg hbad)).trans (if_pos hb)), hsent, hrest, hno, fun _ _ => ?_⟩
      rw [hp]
      refine ⟨rfl, rfl, fun _ => rfl, fun hall => ?_⟩
      cases g with
      | none => exact absurd hb (by simp)
      | some x => exact absurd ((hall x rfl).symm.trans hb) (by decide)
    · refine ⟨countOther p (countRx p s), congrArg Host.Outcome.next (((if_neg hears).trans (if_neg hbad)).trans (if_neg hb)), hsent'.trans hsent,
        by rw [hrest', hrest], hno, fun _ _ => ?_⟩
      rw [hp', hp]
      refine ⟨rfl, rfl, fun ⟨x, hx, ht⟩ => ?_, fun _ => rfl⟩
      rw [hx] at hb
      exact absurd ht hb

/-- A link that goes down is recorded. -/
theorem portLinkDown_spec (hl : (s.port p).link = true) : Completes (.portLinkDown p) s (fun t => (t.port p).link = false
    ∧ t.svc.toggles = s.svc.toggles ++ [(195, s.now)] ∧ t.jnl = (record 0x5001 [p] s).jnl ∧ t.keep = s.keep ∧ t = { s.noted t with net := t.net }) := by
  let f : Port → Port := fun q => { q with
    link := false, egress := [], blockLock := false, anDone := false, fecOn := false, trained := false, sgmiiSync := false }
  have hrec : record 0x5001 [p.val] (setPort p f s) = { s with net := (setPort p f s).net, jnl := (record 0x5001 [p.val] s).jnl } :=
    record_setNet (by decide) ..
  refine ⟨raise 195 (record 0x5001 [p.val] (setPort p f s)), congrArg Host.Outcome.next (if_pos hl), ?_⟩
  rw [hrec]
  exact ⟨congrArg Port.link (port_setPort_same p f s), rfl, rfl, rfl, rfl⟩

/-- A link of the right speed comes up. -/
theorem portLinkUp_spec (hw : netWorks s = true) (hl : (s.port p).link = false) (hc : portCfgOk p s = true) (fec : Bool) {fast : Bool}
    (hs : p.val < 2 ∨ fast = true) : ∃ u, (u.port p).link = true ∧ (u.port p).egress = (s.port p).egress ∧ (u.port p).tx = (s.port p).tx
      ∧ u.svc.toggles = s.svc.toggles ++ [(195, s.now)] ∧ u.jnl = (record 0x5000 [p] s).jnl ∧ u.net.sent = s.net.sent
      ∧ u = { s.noted u with net := u.net } ∧ ∃ t, exec (.portLinkUp p fec fast) s = .next t ∧ (ctlGet (portReg p 0x10) s = 0 → t = u)
        ∧ (ctlGet (portReg p 0x10) s ≠ 0 → Leaves p (be 6 (2 ^ 48 - 1) ++ be 6 (ownMac p s) ++ be 2 0x0806
            ++ arpPacket 1 (ownMac p s) (ctlGet (portReg p 0x10) s).toNat 0 (ctlGet (portReg p 0x10) s).toNat) u t) := by
  have h1 : ¬ (!(netWorks s && portCfgOk p s) || (s.port p).link) = true := by simp [hw, hc, hl]
  have h2 : ¬ (!decide (p.val < 2) && !fast) = true := by
    obtain h | h := hs <;> simp [h]
  let f : Port → Port := fun q => { q with
    link := true, blockLock := decide (p.val < 2), trained := decide (p.val < 2) && cf (portReg p 0) 2 1 s == 0
    anDone := (decide (p.val < 2) && cf (portReg p 0) 2 1 s == 0) && cbit (portReg p 0) 3 s
    fecOn := decide (cf (portReg p 0) 5 4 s = 2) || (decide (cf (portReg p 0) 5 4 s = 1) && fec), sgmiiSync := !decide (p.val < 2) }
  let u := raise 195 (record 0x5000 [p] (setPort p f s))
  have hrec : record 0x5000 [p] (setPort p f s) = { s with net := (setPort p f s).net, jnl := (record 0x5000 [p] s).jnl } := record_setNet (by decide) ..
  have hctl : u.ctl = s.ctl ∧ u.fused = s.fused := by simp only [u, hrec]; exact ⟨rfl, rfl⟩
  have hget : ∀ a, ctlGet a u = ctlGet a s := fun a => by simp only [ctlGet, hctl, ctlReset]
  have hport : u.port p = f (s.port p) := by
    rw [← port_setPort_same p f s]
    simp only [u, hrec]
    rfl
  refine ⟨u, by rw [hport], by rw [hport], by rw [hport], by simp only [u, hrec]; rfl, by simp only [u, hrec]; rfl, by simp only [u, hrec]; rfl,
    by simp only [u, hrec]; rfl,
    if ctlGet (portReg p 0x10) s = 0 then u
      else drainPort (enqueue p 0 (etherFrame (2 ^ 48 - 1) (ownMac p u) 0 0 0x0806 (arpPacket 1 (ownMac p u) (ownIp p u) 0 (ownIp p u))) u) p,
    congrArg Host.Outcome.next ((if_neg h1).trans (if_neg h2)), fun h => if_pos h, fun h => ?_⟩
  have hmac : ownMac p u = ownMac p s := by simp only [ownMac, cf, hget]
  have hip : ownIp p u = (ctlGet (portReg p 0x10) s).toNat := by simp only [ownIp, hget]
  rw [if_neg h, etherFrame_untagged, hmac, hip]
  exact leaves_drain ..

/-- An SGMII link of another speed. -/
theorem portLinkSlow_spec (hw : netWorks s = true) (hl : (s.port p).link = false) (hc : portCfgOk p s = true) (fec : Bool) (hp : 2 ≤ p.val) :
    exec (.portLinkUp p fec false) s = .next (record 0x5003 [p] s) := by
  refine congrArg Host.Outcome.next ((if_neg (by simp [hw, hc, hl])).trans (if_pos ?_))
  simp [show ¬ p.val < 2 by omega]

theorem noted_record_net {code : Nat} (h : code / 0x1000 = 5) (args : List Nat) (s : State) :
    (record code args s).net = s.net ∧ record code args s = s.noted (record code args s) := by
  rw [record_net h args s]
  exact ⟨rfl, rfl⟩

end

/-- Settles O21. -/
theorem portsAct : Obligations.PortsAct := by
  intro p s Q ip own leaves
  have hleaves : ∀ {f : List Byte} {u t : State}, u.net.sent = s.net.sent → (u.port p).egress = Q.egress → (u.port p).tx = Q.tx → Leaves p f u t → leaves f t := by
    intro f u t h1 h2 h3 ⟨k1, k2, _⟩
    rw [h1, h2] at k1
    rw [h2, h3] at k2
    exact ⟨k1, by rw [k2], by rw [k2]⟩
  refine ⟨fun hw hl => ⟨fun mac asker tgt => ⟨fun h0 hip => ?_, fun hno => ?_⟩, frameCounted hw hl, portLinkDown_spec hl⟩, fun hdeaf => ⟨?_, ?_⟩,
    fun hl => congrArg Host.Outcome.next (if_neg (by rw [hl]; decide)), fun hw hl hc => ⟨fun fec fast => ⟨fun hs => ?_, fun hp hf => ?_⟩, ?_⟩⟩
  · obtain ⟨u, hu, hsent, hrest, t, ht, hlv⟩ := arpAnswered hw hl mac asker h0 hip
    refine ⟨t, ht, hleaves hsent (by rw [hu]) (by rw [hu]) hlv, by rw [hlv.own, hu], by rw [hlv.own, hu], ?_⟩
    rw [hlv.rest, hrest]
  · obtain ⟨hp, hsent, hrest⟩ := countRx_spec p s
    obtain ⟨hp', hsent', hrest'⟩ := countOther_spec p (countRx p s)
    have hnot : ¬ (tgt ≠ 0 ∧ tgt = ctlGet (portReg p 0x10) s) := fun h => hno.elim h.1 (fun e => e h.2)
    refine ⟨countOther p (countRx p s), congrArg Host.Outcome.next ((if_neg (by simp only [hw]; simp [show (s.port p).link = true from hl])).trans (if_neg hnot)),
      hsent'.trans hsent, ?_, ?_, by rw [hrest', hrest]⟩
    · rw [hp', hp]
    · rw [hp', hp]
  · exact fun mac asker tgt => congrArg Host.Outcome.next (if_pos (portDeaf hdeaf))
  · exact fun fcsOk n g => congrArg Host.Outcome.next (if_pos (portDeaf hdeaf))
  · obtain ⟨u, hlink, heg, htx, htog, hjnl, hsent, hrest, t, ht, hnone, hsome⟩ := portLinkUp_spec hw hl hc fec hs
    refine ⟨t, ht, ?_⟩
    by_cases hip : ip = 0
    · rw [hnone hip]
      exact ⟨hlink, htog, hjnl, fun _ => hsent, fun e => absurd hip e, hrest⟩
    · have hlv := hsome hip
      refine ⟨by rw [hlv.own]; exact hlink, by rw [hlv.rest]; exact htog, by rw [hlv.rest]; exact hjnl, fun e => absurd e hip,
        fun _ => hleaves hsent heg htx hlv, ?_⟩
      rw [hlv.rest, hrest]
      rfl
  · subst hf
    exact ⟨_, portLinkSlow_spec hw hl hc fec hp, rfl, noted_record_net (by decide) ..⟩
  · by_cases h : p.val < 2 ∧ portCfgOk p s ∧ cf (portReg p 0) 2 1 s = 0 ∧ !(s.port p).link ∧ netWorks s
    · obtain ⟨h1, h2⟩ := noted_record_net (code := 0x5002) (by decide) [p.val] s
      exact ⟨_, congrArg Host.Outcome.next (if_pos h), h1, h2, fun _ _ => rfl⟩
    · exact ⟨s, congrArg Host.Outcome.next (if_neg h), rfl, rfl, fun hp hk => absurd ⟨hp, hc, hk, by simp [show (s.port p).link = false from hl], hw⟩ h⟩

end Sys2Proof.Machine
end

section
/-!
PROOFS. The update of a Yala connection (O23).
-/
namespace Sys2Proof.Machine

/-! ### What the operations leave of their connection (R276) -/

theorem conn_setConn_same (c : Nat) (f : Conn → Conn) (s : State) : (setConn c f s).conn c = f (s.conn c) := by rw [conn_setConn, if_pos rfl]

theorem conn_connRecord_same (c code : Nat) (args : List Nat) (s : State) : (connRecord c code args s).conn c = { s.conn c with lastCode := code } := by
  rw [connRecord, State.conn, (talks_record ..).net]
  exact conn_setConn_same ..

theorem conn_connTo_same (c st : Nat) (s : State) : (connTo c st s).conn c = { s.conn c with state := st } := by
  unfold connTo
  split
  · next h => rw [← h]
  · have h1 : (setConn c (fun k => { k with state := st }) s).conn c = { s.conn c with state := st } := conn_setConn_same ..
    dsimp only
    split
    · exact h1
    · split
      · exact h1
      · exact h1

theorem table_setConn (c : Nat) (f : Conn → Conn) (s : State) : (setConn c f s).net.table = s.net.table := rfl

theorem table_connRecord (c code : Nat) (args : List Nat) (s : State) : (connRecord c code args s).net.table = s.net.table := by
  rw [connRecord, (talks_record ..).net]
  rfl

theorem table_connTo (c st : Nat) (s : State) : (connTo c st s).net.table = s.net.table := by
  unfold connTo
  dsimp only
  split
  · rfl
  · split
    · rfl
    · split <;> rfl

/-- What the connection and its table stand at, for the operations that the update is made of. -/
structure ConnAt (c : Nat) (K : Conn) (T : Tab Word) (s : State) : Prop where
  own : s.conn c = K
  table : s.net.table = T

namespace ConnAt

variable {c : Nat} {K : Conn} {T : Tab Word} {s : State}

theorem set (h : ConnAt c K T s) (f : Conn → Conn) : ConnAt c (f K) T (setConn c f s) := ⟨by rw [conn_setConn_same, h.own], h.table⟩

theorem goes (h : ConnAt c K T s) (st : Nat) : ConnAt c { K with state := st } T (connTo c st s) :=
  ⟨by rw [conn_connTo_same, h.own], by rw [table_connTo, h.table]⟩

theorem notes (h : ConnAt c K T s) (code : Nat) (args : List Nat) : ConnAt c { K with lastCode := code } T (connRecord c code args s) :=
  ⟨by rw [conn_connRecord_same, h.own], by rw [table_connRecord, h.table]⟩

theorem deliver (h : ConnAt c K T s) (m : SlotMsg) (missed shown : Nat) (gap : Bool) : ConnAt c { K with
    ref := some m.seq, quiet := 0, delivered := sat 0xFFFF_FFFF (K.delivered + 1)
    missed := sat 0xFFFF_FFFF (K.missed + missed), status := statusWord K.state 0 shown true gap } T (deliver c m missed shown gap s) :=
  h.set (fun k => { k with
    ref := some m.seq, quiet := 0, delivered := sat 0xFFFF_FFFF (k.delivered + 1)
    missed := sat 0xFFFF_FFFF (k.missed + missed), status := statusWord k.state 0 shown true gap })

end ConnAt

/-! ### The update by message (R264, R276) -/

section
variable {c : Nat} {K : Conn} {T : Tab Word} {s : State} (h : ConnAt c K T s) (hst : K.state ≤ 1)
include h hst

theorem updateMsg_quiet (hf : K.frozen = none) : let L := (updateMsg c s).conn c
    L.quiet = sat 15 (K.quiet + 1) ∧ L.state = (if connQ T c ≤ sat 15 (K.quiet + 1) then 0 else K.state) ∧ L.status = statusWord L.state L.quiet 0 false false := by
  intro L
  have h1 : ConnAt c { K with quiet := sat 15 (K.quiet + 1) } T (setConn c (fun k => { k with quiet := sat 15 (K.quiet + 1) }) s) :=
    h.set (fun k => { k with quiet := sat 15 (K.quiet + 1) })
  by_cases hq : K.state = 1 ∧ connQ T c ≤ sat 15 (K.quiet + 1)
  · have hL : L = (setConn c (fun k => { k with status := statusWord k.state k.quiet 0 false false }) (connRecord c 0x5301 []
        (connTo c 0 (setConn c (fun k => { k with ref := none }) (setConn c (fun k => { k with quiet := sat 15 (K.quiet + 1) }) s))))).conn c := by
      simp only [L, updateMsg, h.own, h.table, hf]
      rw [if_pos hq]
    rw [hL, ((((h1.set (fun k => { k with ref := none })).goes 0).notes 0x5301 []).set
      (fun k => { k with status := statusWord k.state k.quiet 0 false false })).own, if_pos hq.2]
    exact ⟨rfl, rfl, rfl⟩
  · have hL : L = (setConn c (fun k => { k with status := statusWord k.state k.quiet 0 false false })
        (setConn c (fun k => { k with quiet := sat 15 (K.quiet + 1) }) s)).conn c := by
      simp only [L, updateMsg, h.own, h.table, hf]
      rw [if_neg hq]
    rw [hL, (h1.set (fun k => { k with status := statusWord k.state k.quiet 0 false false })).own]
    refine ⟨rfl, ?_, rfl⟩
    split
    · next hle => exact Nat.le_zero.mp (Nat.lt_succ_iff.mp (lt_of_le_of_ne hst (fun e => hq ⟨e, hle⟩)))
    · rfl

/-- What a message that is delivered leaves. -/
def Conn.Took (K L : Conn) (m : SlotMsg) : Prop := L.ref = some m.seq ∧ L.quiet = 0 ∧ L.delivered = sat 0xFFFF_FFFF (K.delivered + 1)

omit hst in
theorem updateMsg_first {m : SlotMsg} (hf : K.frozen = some m) (hr : K.ref = none) : let L := (updateMsg c s).conn c
    K.Took L m ∧ L.state = K.state ∧ L.status = statusWord K.state 0 0 true false := by
  intro L
  have hL : L = (Machine.deliver c m 0 0 false s).conn c := by simp only [L, updateMsg, h.own, hf, hr]
  rw [hL, (h.deliver m 0 0 false).own]
  exact ⟨⟨rfl, rfl, rfl⟩, rfl, rfl⟩

theorem updateMsg_next {m : SlotMsg} {r : Word} (hf : K.frozen = some m) (hr : K.ref = some r) :
    let L := (updateMsg c s).conn c
    let d := (m.seq - r).toNat
    (d = 0 → L.ref = some r ∧ L.delivered = K.delivered ∧ L.state = K.state)
      ∧ (d = 1 → K.Took L m ∧ L.state = 1 ∧ L.status = statusWord 1 0 0 true false)
      ∧ (1 < d → d ≤ connG T c + 1 → K.Took L m ∧ L.state = K.state ∧ L.status = statusWord K.state 0 (d - 1) true true
          ∧ L.missed = sat 0xFFFF_FFFF (K.missed + (d - 1)))
      ∧ (connG T c + 1 < d → K.Took L m ∧ L.state = 0 ∧ L.missed = sat 0xFFFF_FFFF (K.missed + (d - 1))
          ∧ L.status = statusWord 0 0 (if 256 < d then 255 else d - 1) true true) := by
  intro L d
  have hL : L = (if d = 0 then setConn c (fun k => { k with status := statusWord k.state k.quiet 0 false false }) s
      else if d ≤ connG T c + 1 then
        deliver c m (d - 1) (d - 1) (decide (1 < d)) (if K.state = 0 ∧ d = 1 then connRecord c 0x5304 [] (connTo c 1 s)
          else if K.state = 1 ∧ 1 < d then connRecord c 0x5305 [d - 1] s else s)
      else deliver c m (d - 1) (if 256 < d then 255 else d - 1) true (if K.state = 1 then connRecord c 0x5300 [d] (connTo c 0 s) else s)).conn c := by
    simp only [L, updateMsg, h.own, h.table, hf, hr]
    rfl
  refine ⟨fun hd => ?_, fun hd => ?_, fun h1 hd => ?_, fun hd => ?_⟩
  · rw [hL, if_pos hd, (h.set (fun k => { k with status := statusWord k.state k.quiet 0 false false })).own]
    exact ⟨hr, rfl, rfl⟩
  · rw [hL, if_neg (by omega), if_pos (by omega), hd]
    by_cases h0 : K.state = 0
    · rw [if_pos ⟨h0, rfl⟩, (((h.goes 1).notes 0x5304 []).deliver m _ _ _).own]
      exact ⟨⟨rfl, rfl, rfl⟩, rfl, rfl⟩
    · have hk : K.state = 1 := by omega
      rw [if_neg (fun e => h0 e.1), if_neg (fun e => absurd e.2 (by decide)), (h.deliver m _ _ _).own]
      exact ⟨⟨rfl, rfl, rfl⟩, hk, by rw [hk]; rfl⟩
  · rw [hL, if_neg (by omega), if_pos hd, if_neg (fun e => by omega), decide_eq_true h1]
    by_cases hk : K.state = 1
    · rw [if_pos ⟨hk, h1⟩, ((h.notes 0x5305 [d - 1]).deliver m _ _ _).own]
      exact ⟨⟨rfl, rfl, rfl⟩, rfl, rfl, rfl⟩
    · rw [if_neg (fun e => hk e.1), (h.deliver m _ _ _).own]
      exact ⟨⟨rfl, rfl, rfl⟩, rfl, rfl, rfl⟩
  · rw [hL, if_neg (by omega), if_neg (by omega)]
    by_cases hk : K.state = 1
    · rw [if_pos hk, (((h.goes 0).notes 0x5300 [d]).deliver m _ _ _).own]
      exact ⟨⟨rfl, rfl, rfl⟩, rfl, rfl, rfl⟩
    · have h0 : K.state = 0 := by omega
      rw [if_neg hk, (h.deliver m _ _ _).own]
      exact ⟨⟨rfl, rfl, rfl⟩, h0, rfl, by rw [h0]⟩

end

/-! ### What comes before the message (R276) -/

/-- The state that the update of an open connection starts from. -/
def openBase (c : Nat) (s : State) : State :=
  let w := (look 0 c s.net.control).toNat
  let s1 := if (s.conn c).state = 2 then connTo c 0 (setConn c (fun k => { k with ref := none }) s) else s
  if bitAt 1 w then s1
  else
    let s2 := connRecord c 0x5303 [bits 5 2 w] (setConn c (fun k => { k with ref := none }) s1)
    if (s2.conn c).state = 1 then connTo c 0 s2 else s2

theorem connUpdate_of_open {c : Nat} {s : State} (h : bitAt 0 (look 0 c s.net.control).toNat = true) : connUpdate c s = updateMsg c (openBase c s) :=
  if_neg (by rw [h]; decide)

/-- A connection that starts SAFE without reference. -/
def Conn.fromSafe (K : Conn) (x : Nat) : Conn := { K with ref := none, state := 0, lastCode := x }

/-- A connection that was CLOSED, or whose control bit 1 is clear, starts SAFE without reference; any other as it is. -/
theorem connAt_openBase (c : Nat) (s : State) (hst : (s.conn c).state ≤ 2) :
    ((s.conn c).state = 2 ∨ bitAt 1 (look 0 c s.net.control).toNat = false → ∃ x, ConnAt c ((s.conn c).fromSafe x) s.net.table (openBase c s))
      ∧ (¬ ((s.conn c).state = 2 ∨ bitAt 1 (look 0 c s.net.control).toNat = false) → openBase c s = s) := by
  unfold openBase
  extract_lets w s1 s2
  have h0 : ConnAt c (s.conn c) s.net.table s := ⟨rfl, rfl⟩
  have hclosed : (s.conn c).state = 2 → ConnAt c ((s.conn c).fromSafe (s.conn c).lastCode) s.net.table s1 := fun h => by
    rw [show s1 = connTo c 0 (setConn c (fun k => { k with ref := none }) s) from if_pos h]
    exact (h0.set (fun k => { k with ref := none })).goes 0
  have hopen : (s.conn c).state ≠ 2 → s1 = s := fun h => if_neg h
  have h1 : ∃ K, ConnAt c K s.net.table s1 ∧ K.state ≤ 1 ∧ ∀ x, K.fromSafe x = (s.conn c).fromSafe x := by
    by_cases h : (s.conn c).state = 2
    · exact ⟨_, hclosed h, Nat.zero_le _, fun _ => rfl⟩
    · exact ⟨_, hopen h ▸ h0, by omega, fun _ => rfl⟩
  clear_value s1
  by_cases hb : bitAt 1 w = true
  · rw [if_pos hb]
    refine ⟨fun h => ⟨_, hclosed (h.resolve_right (fun e => absurd (hb.symm.trans e) (by decide)))⟩, fun h => hopen (fun e => h (.inl e))⟩
  · rw [if_neg hb]
    refine ⟨fun _ => ?_, fun h => absurd (.inr (Bool.eq_false_of_not_eq_true hb)) h⟩
    obtain ⟨K, hK, hle, hsafe⟩ := h1
    have h2 : ConnAt c { K with ref := none, lastCode := 0x5303 } s.net.table s2 := (hK.set (fun k => { k with ref := none })).notes 0x5303 _
    clear_value s2
    refine ⟨0x5303, ?_⟩
    rw [← hsafe, h2.own]
    by_cases h : K.state = 1
    · rw [if_pos h]
      exact h2.goes 0
    · rw [if_neg h]
      have h00 : K.state = 0 := by omega
      refine ⟨h2.own.trans ?_, h2.table⟩
      rw [Conn.fromSafe, ← h00]

/-! ### A connection that is closed (R278), and a fault of the sealer (R28, R30 to R32) -/

theorem connUpdate_closed {c : Nat} {s : State} (h : bitAt 0 (look 0 c s.net.control).toNat = false) : let K := (connUpdate c s).conn c
    K.state = 2 ∧ K.ref = none ∧ K.quiet = 0 ∧ K.frozen = none ∧ K.status = 2 := by
  have hu : connUpdate c s = setConn c (fun k => { k with state := 2, ref := none, quiet := 0, frozen := none, status := 2 })
      (sramFill (inboxBase s.seq.inboxFrozen + 4 * connSlot s.net.table c) (connS s.net.table c) [] s) := if_pos (by rw [h]; rfl)
  rw [hu, conn_setConn_same]
  exact ⟨rfl, rfl, rfl, rfl, rfl⟩

/-- The connection without reference and message, SAFE unless it was closed: `st` is the state that it had. -/
def Restarted (st c : Nat) (s : State) : Prop := (s.conn c).ref = none ∧ (s.conn c).fill = none ∧ (s.conn c).state = if st = 2 then 2 else 0

theorem conn_connTo_other {c d : Nat} (h : d ≠ c) (st : Nat) (s : State) : (connTo c st s).conn d = s.conn d := by
  have h1 : (setConn c (fun k => { k with state := st }) s).conn d = s.conn d := by rw [conn_setConn, if_neg h]
  unfold connTo
  dsimp only
  split
  · rfl
  · split
    · exact h1
    · split
      · exact h1
      · exact h1

theorem conn_safeOne_other {c d : Nat} (h : d ≠ c) (s : State) : (safeOne s c).conn d = s.conn d := by
  have hs : ∀ (f : Conn → Conn) (u : State), (setConn c f u).conn d = u.conn d := fun f u => by rw [conn_setConn, if_neg h]
  unfold safeOne
  extract_lets s1
  have h1 : s1.conn d = s.conn d := hs _ s
  clear_value s1
  split
  · exact h1
  · rw [hs, conn_connTo_other h, h1]

theorem restarted_safeOne (c : Nat) (s : State) : Restarted (s.conn c).state c (safeOne s c) := by
  have h0 : ConnAt c (s.conn c) s.net.table s := ⟨rfl, rfl⟩
  unfold safeOne
  extract_lets s1
  have h1 : ConnAt c { s.conn c with ref := none, fill := none, quiet := 0 } s.net.table s1 :=
    h0.set (fun k => { k with ref := none, fill := none, quiet := 0 })
  clear_value s1
  unfold Restarted
  rw [h1.own]
  by_cases h : (s.conn c).state = 2
  · rw [if_pos h, if_pos h, h1.own]
    exact ⟨rfl, rfl, h⟩
  · rw [if_neg h, if_neg h, ((h1.goes 0).set (fun k => { k with status := statusWord 0 0 0 false false })).own]
    exact ⟨rfl, rfl, rfl⟩

theorem Restarted.safeOne {st c : Nat} {s : State} (h : Restarted st c s) (k : Nat) : Restarted st c (safeOne s k) := by
  by_cases hk : c = k
  · subst hk
    obtain ⟨h1, h2, h3⟩ := restarted_safeOne c s
    refine ⟨h1, h2, h3.trans ?_⟩
    rw [h.2.2]
    split <;> rfl
  · obtain ⟨h1, h2, h3⟩ := h
    exact ⟨by rw [conn_safeOne_other hk, h1], by rw [conn_safeOne_other hk, h2], by rw [conn_safeOne_other hk, h3]⟩

theorem restarted_allSafe (s : State) : ∀ c ∈ definedConns s.net.table, Restarted (s.conn c).state c (allSafe s) := fun c hc =>
  foldl_reaches (Restarted (s.conn c).state c) (fun u => (u.conn c).state = (s.conn c).state) c (fun _ k h => h.safeOne k)
    (fun u k hk h => .inr (by rw [conn_safeOne_other hk.symm]; exact h)) (fun u h => h ▸ restarted_safeOne c u) _ s (.inr ⟨hc, rfl⟩)

/-- The fault's record: a code of the network region. -/
theorem sealerRecord_spec (s : State) : let s1 := record (0x5000 + (s.draw 12).1.toNat) [] (s.draw 12).2
    s1.jnl = (record (0x5000 + (s.draw 12).1.toNat) [] s).jnl ∧ s1 = { s with jnl := s1.jnl, free := s1.free } := by
  have hlt := (s.draw 12).1.isLt
  have hcode : (0x5000 + (s.draw 12).1.toNat) / 0x1000 = 5 := by omega
  intro s1
  refine ⟨recordC_congr (s := s) (t := (s.draw 12).2) rfl rfl rfl rfl .., ?_⟩
  rw [show s1 = _ from record_net hcode [] (s.draw 12).2]
  rfl

theorem sealerFault_spec (s : State) :
    let recorded := fun (t : State) => t.jnl = (record (0x5000 + (s.draw 12).1.toNat) [] s).jnl
    (s.keep.mode ≠ .hold → look none 4 s.keep.reinit = none →
            Completes .sealerEngineFault s (fun t =>
              (∀ c ∈ definedConns s.net.table, (t.conn c).ref = none ∧ (t.conn c).fill = none
                ∧ (t.conn c).state = (if (s.conn c).state = 2 then 2 else 0))
              ∧ look none 4 t.keep.reinit = some s.now ∧ t.keep.mode = s.keep.mode ∧ t.mot = s.mot ∧ t.sram = s.sram))
          ∧ (s.keep.mode ≠ .hold → look none 4 s.keep.reinit ≠ none → Completes .sealerEngineFault s (fun t => t.keep.mode = .hold))
          ∧ (s.keep.mode = .hold → Completes .sealerEngineFault s (fun t => recorded t ∧ t = s.noted t)) := by
  intro recorded
  obtain ⟨hjnl, hs1⟩ := sealerRecord_spec s
  have hexec : exec .sealerEngineFault s = .next (if s.keep.mode = .hold then record (0x5000 + (s.draw 12).1.toNat) [] (s.draw 12).2
      else beginReinit 4 (allSafe (record (0x5000 + (s.draw 12).1.toNat) [] (s.draw 12).2))) := rfl
  generalize record (0x5000 + (s.draw 12).1.toNat) [] (s.draw 12).2 = u at hjnl hs1 hexec
  have hnet : u.net = s.net := by rw [hs1]
  have hkeep : u.keep = s.keep := by rw [hs1]
  have hconn : ∀ c, u.conn c = s.conn c := fun c => by rw [State.conn, hnet]; rfl
  obtain ⟨hd, -, -⟩ := allSafe_spec u
  have hr := restarted_allSafe u
  generalize allSafe u = v at hd hr hexec
  have hmode : v.keep.mode = s.keep.mode := by rw [hd.mode, hkeep]
  have hre : v.keep.reinit = s.keep.reinit := by rw [hd.rest, hkeep]
  have hnow : v.now = s.now := by rw [hd.rest, hs1]; rfl
  refine ⟨fun hm hn => ?_, fun hm hn => ?_, fun hm => ?_⟩
  · rw [if_neg hm] at hexec
    have hrei : v.reiniting 4 = false := by rw [State.reiniting, hre, hn]; rfl
    have ht := beginReinit_spec (region := 4) (hmode ▸ hm) hrei
    refine ⟨_, hexec, fun c hc => ?_, ?_, ht.mode.trans hmode, ?_, ?_⟩
    · rw [show (beginReinit 4 v).conn c = v.conn c by rw [State.conn, ht.net]; rfl, ← hconn]
      exact hr c (hnet ▸ hc)
    · rw [ht.keep]
      exact (look_put_same ..).trans (by rw [hnow])
    · rw [ht.mot, hd.rest, hs1]
    · rw [ht.sram, hd.rest, hs1]
  · rw [if_neg hm] at hexec
    exact ⟨_, hexec, mode_beginReinit_again (by rw [State.reiniting, hre]; exact Option.isSome_iff_ne_none.mpr hn)⟩
  · rw [if_pos hm] at hexec
    exact ⟨_, hexec, hjnl, by rw [hs1]; rfl⟩

/-- Settles O23: by the state before the message, then by the message. -/
theorem connectionUpdates : Obligations.ConnectionUpdates := by
  refine ⟨fun c m r s => ?_, fun c s h => connUpdate_closed h, sealerFault_spec⟩
  intro K T t d fromSafe ref st taken hopen hle
  have ht : t = updateMsg c (openBase c s) := connUpdate_of_open hopen
  obtain ⟨hsafe, hkeep⟩ := connAt_openBase c s hle
  have hbase : ∃ L, ConnAt c L T (openBase c s) ∧ L.state = st ∧ L.ref = ref ∧ L.quiet = K.quiet ∧ L.frozen = K.frozen ∧ L.delivered = K.delivered
      ∧ L.missed = K.missed ∧ st ≤ 1 := by
    by_cases hs : fromSafe
    · obtain ⟨x, hx⟩ := hsafe hs
      exact ⟨_, hx, (if_pos hs).symm, (if_pos hs).symm, rfl, rfl, rfl, rfl, by simp only [st, if_pos hs]; omega⟩
    · have h2 : K.state ≠ 2 := fun e => hs (.inl e)
      have hK : K.state ≤ 2 := hle
      refine ⟨K, ⟨by rw [hkeep hs], by rw [hkeep hs]⟩, (if_neg hs).symm, (if_neg hs).symm, rfl, rfl, rfl, rfl, ?_⟩
      simp only [st, if_neg hs]
      omega
  obtain ⟨L, hL, hLst, hLref, hLq, hLf, hLd, hLm, h1⟩ := hbase
  rw [← hLst] at h1 ⊢
  rw [← hLq, ← hLf, ← hLm, ht]
  have htaken : L.Took (t.conn c) m → taken := fun ⟨a, b, e⟩ => ⟨a, b, by rw [e, hLd]⟩
  rw [ht] at htaken
  refine ⟨fun hf => updateMsg_quiet hL h1 hf, fun hf => ⟨fun hr => ?_, fun hr => ?_⟩⟩
  · obtain ⟨a, b, e⟩ := updateMsg_first hL hf (hLref.trans hr)
    exact ⟨htaken a, b, e⟩
  · obtain ⟨a0, a1, a2, a3⟩ := updateMsg_next hL h1 hf (hLref.trans hr)
    rw [hLd] at a0
    exact ⟨a0, fun hd => ⟨htaken (a1 hd).1, (a1 hd).2⟩, fun h hd => ⟨htaken (a2 h hd).1, (a2 h hd).2⟩, fun hd => ⟨htaken (a3 hd).1, (a3 hd).2⟩⟩

end Sys2Proof.Machine
end

section
/-!
PROOFS. The state of the journal store: what leaves it as it is, and its fault (R449, R454, R513, R514).
-/
namespace Sys2Proof.Machine

/-- The state of the journal store. -/
def State.store (s : State) : JState := s.jnl.state

theorem store_stageRec (r : Rec) (s : State) : (stageRec r s).store = s.store := by
  unfold stageRec loseRec
  split
  · rfl
  · split <;> rfl
  · rfl
  · rfl

theorem store_recordC (code flags count : Nat) (extra : List Byte) (s : State) : (recordC code flags count extra s).store = s.store := by
  have hn : (noteCode code s).store = s.store := by
    unfold noteCode
    split
    · rfl
    · split <;> rfl
  have hput : ∀ (b : Bool) (r : Rec) (u : State), (if b then klogPut r u else u).store = u.store := fun b _ _ => by cases b <;> rfl
  simp only [recordC]
  split
  · exact hn
  · split
    · exact (hput ..).trans hn
    · exact (store_stageRec ..).trans ((hput ..).trans hn)

theorem store_record (code : Nat) (args : List Nat) (s : State) : (record code args s).store = s.store := store_recordC ..

theorem store_dropReady (s : State) : (dropReady s).store = s.store :=
  foldl_keeps (op := fun s (q : Post) => record 0x2012 [bits 4 0 q.a.toNat] (noteAxisCode (bits 4 0 q.a.toNat) 0x2012 s)) State.store
    (fun _ _ => store_record ..) _ _

theorem store_disableAxes (code : Nat) (s : State) : (disableAxes code s).store = s.store := by
  have hone : ∀ u n, (disableOne code (enMask s) u n).store = u.store := fun u n => by
    unfold disableOne
    dsimp only
    split <;> rfl
  have h1 : ((List.range s.axesFitted).foldl (disableOne code (enMask s)) s).store = s.store := foldl_keeps State.store hone _ _
  unfold disableAxes
  dsimp only
  split
  · exact h1
  · exact (store_record ..).trans h1

theorem store_resetBerth (b : Nat) (s : State) : (resetBerth b s).store = s.store := store_record ..

theorem store_setMode (m : Mode) (cause : Nat) (s : State) : (setMode m cause s).store = s.store := by
  have hunserved : ∀ u, (resetUnserved m u).store = u.store := fun u => foldl_keeps
    (op := fun s b => if modeServes b m then s else resetBerth b s) State.store (fun u b => by
      split
      · rfl
      · exact store_resetBerth b u) _ u
  have h1 : ∀ k : Keeper, (resetUnserved m (raise 0 (record 0x9000 [s.keep.mode.code, m.code, cause] { s with keep := k }))).store = s.store :=
    fun k => (hunserved _).trans (store_record ..)
  unfold setMode
  dsimp only
  split
  · exact (store_resetBerth ..).trans (h1 _)
  · exact h1 _

theorem store_endBoot (s : State) : (endBoot s).store = s.store := by
  unfold endBoot askBootRecord
  split
  · rfl
  · dsimp only
    split <;> rfl

theorem store_askCheckpoint (s : State) : (askCheckpoint s).store = s.store := by
  unfold askCheckpoint
  split <;> rfl

theorem store_askFrame (s : State) : (askFrame s).store = s.store := by
  unfold askFrame
  split <;> rfl

theorem store_sample (m : Nat) (v : Int) (s : State) : (sample m v s).store = s.store := by
  unfold sample
  split <;> rfl

theorem store_applyHeldSamples (s : State) : (applyHeldSamples s).store = s.store :=
  foldl_keeps (op := fun s (p : Nat × Int) => sample p.1 p.2 s) State.store (fun _ _ => store_sample ..) _ _

theorem store_replies {b : Nat} {s t : State} (h : Replies b s t) : t.store = s.store := by
  rw [h.rest]
  rfl

theorem store_alertAll (code : Nat) (payload : List Byte) (s : State) : (alertAll code payload s).store = s.store :=
  foldl_keeps (op := fun s b => alertTo b code payload s) State.store (fun u b => by
    unfold alertTo
    dsimp only
    split
    · rfl
    · split
      · rfl
      · exact (store_replies (replies_countRecord b _)).trans rfl) _ _

theorem store_flushReplies (b : Nat) (s : State) : (flushReplies b s).store = s.store :=
  foldl_keeps (op := fun s (w : WaitingCommand) => sendReply b w.reply s) State.store (fun u w => store_replies (replies_sendReply b w.reply u)) _ _

theorem store_answerAllHeld (s : State) : (answerAllHeld s).store = s.store := by
  have hanswer : ∀ (a : State → BatchEntry → EntryAnswer) (l : List BatchEntry) (u : State),
      (l.foldl (fun s e => answerEntry e (a s e) s) u).store = u.store := fun a l u =>
    foldl_keeps (op := fun s e => answerEntry e (a s e) s) State.store (fun _ _ => rfl) l u
  have hflush : ∀ u, ((List.range 8).foldl (fun s b => flushReplies b (setBerth b (fun B => { B with filled := 0 }) s)) u).store = u.store := fun u =>
    foldl_keeps (op := fun s b => flushReplies b (setBerth b (fun B => { B with filled := 0 }) s)) State.store (fun u b => store_flushReplies b _) _ u
  unfold answerAllHeld
  extract_lets a s1 s2 _ s3
  have h1 : s1.store = s.store := hanswer _ _ s
  clear_value s1
  have h2 : s2.store = s1.store := hanswer _ _ s1
  clear_value s2
  exact (hflush _).trans (h2.trans h1)

theorem store_leaveTriad (cause : Nat) (s : State) : (leaveTriad cause s).store = s.store := by
  rw [(leaveTriad_spec cause s).1.rest]
  rfl

/-- An entry to HOLD leaves the store recording, full or at fault. -/
theorem store_enterHold (cause : Nat) (s : State) : (enterHold cause s).store = s.store := by
  by_cases h : s.keep.mode = .hold
  · rw [show enterHold cause s = s from if_pos h]
  · rw [enterHold_of_mode h, store_alertAll, store_answerAllHeld, store_askFrame, store_applyHeldSamples, store_askCheckpoint, store_setMode,
      store_endBoot, stopAll, store_leaveTriad, store_disableAxes, store_dropReady]
    rfl

/-! ### A fault of the store (R454) -/

theorem store_loseRec (r : Rec) (s : State) : (loseRec r s).store = s.store := rfl

/-- The parts of a fault that is new: what waits is lost, the fault is recorded and raised. -/
theorem storeFault_parts {s : State} (h : s.store ≠ .storeFault) : ∃ u, Talks s u ∧ u.store = .storeFault
    ∧ storeFault s = if cbit 0x0600_0000 0 s then enterHold 0x7005 u else u := by
  unfold storeFault
  rw [if_neg (show ¬ s.jnl.state = .storeFault from h)]
  extract_lets held s0 s1 s2 s3 s4
  have h0 : Talks s s0 := by
    unfold s0
    split
    · exact talks_setJnl _ s
    · exact .refl s
  clear_value s0
  have h1 : Talks s0 s1 ∧ s1.store = .storeFault := ⟨talks_setJnl _ s0, rfl⟩
  clear_value s1
  have h2 : Talks s1 s2 ∧ s2.store = s1.store :=
    ⟨.foldl (fun u r => talks_setJnl _ u) _ s1, foldl_keeps (op := fun s r => loseRec r s) State.store (fun _ _ => rfl) _ s1⟩
  clear_value s2
  have h3 : Talks s2 s3 ∧ s3.store = s2.store := by
    let op := fun (s : State) (h : Rec × Bool × Bool) =>
      let s := if h.2.2 then klogPut h.1 s else s
      if h.2.1 then loseRec h.1 s else s
    have hop : ∀ u x, Talks u (op u x) ∧ (op u x).store = u.store := fun u x => by
      obtain ⟨r, a, b⟩ := x
      cases a <;> cases b <;> exact ⟨talks_setJnl _ u, rfl⟩
    exact ⟨.foldl (op := op) (fun u x => (hop u x).1) held s2, foldl_keeps (op := op) State.store (fun u x => (hop u x).2) held s2⟩
  clear_value s3
  have h4 : Talks s3 s4 ∧ s4.store = s3.store := ⟨(talks_record ..).trans (talks_raise 245 _), store_record ..⟩
  clear_value s4
  have ht : Talks s s4 := h0.trans (h1.1.trans (h2.1.trans (h3.1.trans h4.1)))
  exact ⟨s4, ht, h4.2.trans (h3.2.trans (h2.2.trans h1.2)), rfl⟩

/-- After it the store is at fault, and the mode is HOLD or what it was. -/
theorem storeFault_spec (s : State) : Halts s (storeFault s) ∧ Clocks s (storeFault s) ∧ (storeFault s).store = .storeFault
    ∧ ((storeFault s).keep.mode = .hold ∨ (storeFault s).keep.mode = s.keep.mode) := by
  by_cases h : s.store = .storeFault
  · rw [show storeFault s = s from if_pos h]
    exact ⟨.refl s, .refl s, h, .inr rfl⟩
  · obtain ⟨u, hu, hs, ht⟩ := storeFault_parts h
    rw [ht]
    split
    · exact ⟨hu.halts.trans (halts_enterHold ..), (Clocks.of_talks hu).trans (clocks_enterHold ..), (store_enterHold ..).trans hs, .inl (mode_enterHold ..)⟩
    · exact ⟨hu.halts, .of_talks hu, hs, .inr hu.mode⟩

end Sys2Proof.Machine
end

section
/-!
PROOFS. Temperature sensors (O47).
-/
namespace Sys2Proof.Machine

/-! ### What samples leave (R513) -/

/-- What the sampling of the sensors leaves, whatever it finds: time and marks stay, and the mode, unless it is HOLD. -/
structure Feels (s t : State) : Prop where
  time : t.time = s.time
  fused : t.fused = s.fused
  raised : s.svc.toggles <+: t.svc.toggles
  seen : ∀ k, s.keep.tseen.getLsbD k = true → t.keep.tseen.getLsbD k = true
  mode : t.keep.mode = .hold ∨ t.keep.mode = s.keep.mode
  fault : s.store = .storeFault → t.store = .storeFault

namespace Feels

theorem refl (s : State) : Feels s s := ⟨rfl, rfl, List.prefix_rfl, fun _ h => h, .inr rfl, id⟩

variable {s t u : State}

theorem trans (h : Feels s t) (k : Feels t u) : Feels s u where
  time := k.time.trans h.time
  fused := k.fused.trans h.fused
  raised := h.raised.trans k.raised
  seen := fun i hi => k.seen i (h.seen i hi)
  mode := k.mode.elim .inl (fun e => h.mode.elim (fun e' => .inl (e.trans e')) (fun e' => .inr (e.trans e')))
  fault := fun h' => k.fault (h.fault h')

theorem hold (h : Feels s t) (hs : s.keep.mode = .hold) : t.keep.mode = .hold := h.mode.elim id (fun e => e.trans hs)

theorem awake (h : Feels s t) (hs : s.keep.mode ≠ .stabled) : t.keep.mode ≠ .stabled := by
  obtain e | e := h.mode
  · rw [e]
    decide
  · rwa [e]

theorem now (h : Feels s t) : t.now = s.now := by rw [State.now, h.time]; rfl

theorem of_clocks (h : Clocks s t) (hm : t.keep.mode = .hold ∨ t.keep.mode = s.keep.mode)
    (hs : s.store = .storeFault → t.store = .storeFault) : Feels s t := ⟨h.time, h.fused, h.raised, fun k hk => by rw [h.keep]; exact hk, hm, hs⟩

end Feels

theorem Clocks.temp {s t : State} (h : Clocks s t) (i : Nat) : t.temp i = s.temp i := by
  rw [State.temp, h.keep]
  rfl

theorem feels_record (code : Nat) (args : List Nat) (s : State) : Feels s (record code args s) :=
  .of_clocks (.of_talks (talks_record ..)) (.inr (talks_record ..).mode) (fun h => (store_record ..).trans h)

theorem feels_enterHold (cause : Nat) (s : State) : Feels s (enterHold cause s) :=
  .of_clocks (clocks_enterHold ..) (.inl (mode_enterHold ..)) (fun h => (store_enterHold ..).trans h)

theorem feels_storeFault (s : State) : Feels s (storeFault s) := by
  obtain ⟨-, hc, hs, hm⟩ := storeFault_spec s
  exact .of_clocks hc hm (fun _ => hs)

/-- Bit `k` of the sensors' marks is set. -/
def markTemp (k : Nat) (s : State) : State := setKeep (fun q => { q with tseen := q.tseen ||| BitVec.ofNat 32 (2 ^ k) }) s

theorem feels_markTemp (k : Nat) (s : State) : Feels s (markTemp k s) :=
  ⟨rfl, rfl, List.prefix_rfl, fun i h => by
    show (s.keep.tseen ||| BitVec.ofNat 32 (2 ^ k)).getLsbD i = true
    rw [BitVec.getLsbD_or, h, Bool.true_or], .inr rfl, id⟩

theorem tseen_markTemp {k : Nat} (hk : k < 32) (s : State) : (markTemp k s).keep.tseen.getLsbD k = true := by
  show (s.keep.tseen ||| BitVec.ofNat 32 (2 ^ k)).getLsbD k = true
  rw [BitVec.getLsbD_or, BitVec.getLsbD_ofNat, Nat.testBit_two_pow_self]
  simp [hk]

theorem feels_raise (n : Nat) (s : State) : Feels s (raise n s) := ⟨rfl, rfl, List.prefix_append _ _, fun _ h => h, .inr rfl, id⟩

theorem raised_raise (n : Nat) (s : State) : (n, s.now) ∈ (raise n s).svc.toggles := List.mem_append_right _ (List.mem_singleton_self _)

/-! ### One sample -/

/-- TSi at a limit. -/
theorem tempAtLimit_spec {i : Nat} (hi : i < 12) (x : Int) (s : State) : Feels s (tempAtLimit i x s) ∧ (∀ j, (tempAtLimit i x s).temp j = s.temp j)
    ∧ (tempAtLimit i x s).keep.tseen.getLsbD (16 + i) = true ∧ (2, s.now) ∈ (tempAtLimit i x s).svc.toggles
    ∧ (i ≠ 10 → (tempAtLimit i x s).keep.mode = .hold) ∧ (i = 10 → (tempAtLimit i x s).store = .storeFault) := by
  unfold tempAtLimit
  extract_lets s1
  have h1 : Feels s s1 := (feels_markTemp _ s).trans (feels_raise 2 _)
  have ht1 : ∀ j, s1.temp j = s.temp j := fun _ => rfl
  have hseen : s1.keep.tseen.getLsbD (16 + i) = true := tseen_markTemp (by omega) s
  have hraised : (2, s.now) ∈ s1.svc.toggles := raised_raise 2 (markTemp (16 + i) s)
  clear_value s1
  split
  · next h10 =>
    obtain ⟨-, hc, hs, -⟩ := storeFault_spec s1
    have h2 := feels_storeFault s1
    exact ⟨h1.trans h2, fun j => (hc.temp j).trans (ht1 j), h2.seen _ hseen, h2.raised.subset hraised, fun e => absurd h10 e, fun _ => hs⟩
  · next h10 =>
    have h2 := (feels_record 0x9021 [i, low16 x] s1).trans (feels_enterHold 0x9021 _)
    have hc : Clocks s1 (enterHold 0x9021 (record 0x9021 [i, low16 x] s1)) := (Clocks.of_talks (talks_record ..)).trans (clocks_enterHold ..)
    exact ⟨h1.trans h2, fun j => (hc.temp j).trans (ht1 j), h2.seen _ hseen, h2.raised.subset hraised, fun _ => mode_enterHold .., fun e => absurd e h10⟩

/-- TSi after a reading of `x`, before what follows from it. -/
def Sensor.sampled (lim : Int × Int × Int) (x : Int) (old : Sensor) : Sensor :=
  let q : Sensor := { old.note x with
    warnRun := runOf 3 (decide (lim.1 < x)) old.warnRun, highRun := runOf 3 (decide (lim.2.1 < x)) old.highRun
    lowRun := runOf 3 (decide (x < lim.2.2)) old.lowRun }
  let warns := decide (3 ≤ q.warnRun) && !old.warned
  { q with
    limitRun := max q.highRun q.lowRun, atLimit := decide (3 ≤ max q.highRun q.lowRun)
    warned := warns || (old.warned && decide (lim.1 - 50 < x)) }

theorem temp_setTemp (i j : Nat) (f : Sensor → Sensor) (s : State) : (setTemp i f s).temp j = if j = i then f (s.temp i) else s.temp j := look_upd ..

/-- A sample that TSi does not take: the sensors of the gated dies in STABLED. -/
theorem sampleTemp_asleep {i : Nat} {s : State} (hm : s.keep.mode = .stabled) (hi : i ≤ 8) (x : Int) : sampleTemp i x s = s := if_pos ⟨hm, hi⟩

/-- A sample of a sensor that is live. -/
theorem sampleTemp_spec {i : Nat} (hi : i < 12) (x : Int) {s : State} (hlive : s.keep.mode ≠ .stabled ∨ 8 < i) :
    let t := sampleTemp i x s
    let q := (s.temp i).sampled (tempLimits i s) x
    Feels s t ∧ t.temp i = q ∧ (∀ j, j ≠ i → t.temp j = s.temp j)
      ∧ (3 ≤ q.warnRun → (s.temp i).warned = false → t.keep.tseen.getLsbD i = true ∧ (1, s.now) ∈ t.svc.toggles)
      ∧ (q.atLimit = true → (s.temp i).atLimit = false → t.keep.tseen.getLsbD (16 + i) = true ∧ (2, s.now) ∈ t.svc.toggles
          ∧ (i ≠ 10 → t.keep.mode = .hold) ∧ (i = 10 → t.store = .storeFault)) := by
  intro t q
  have hno : ¬ (s.keep.mode = .stabled ∧ i ≤ 8) := fun h => hlive.elim (fun e => e h.1) (fun e => Nat.not_le.mpr e h.2)
  let s1 := setTemp i (fun _ => q) s
  let s2 := if decide (3 ≤ q.warnRun) && !(s.temp i).warned then raise 1 (record 0x9020 [i, low16 x] (markTemp i s1)) else s1
  have ht : t = if q.atLimit && !(s.temp i).atLimit then tempAtLimit i x s2 else s2 := if_neg hno
  have h1 : Feels s s1 := ⟨rfl, rfl, List.prefix_rfl, fun _ h => h, .inr rfl, id⟩
  have ht1 : ∀ j, s1.temp j = if j = i then q else s.temp j := fun j => temp_setTemp i j _ s
  have hwarn : Feels s1 (raise 1 (record 0x9020 [i, low16 x] (markTemp i s1))) :=
    ((feels_markTemp i s1).trans (feels_record ..)).trans (feels_raise 1 _)
  have h2 : Feels s1 s2 := by
    unfold s2
    split
    · exact hwarn
    · exact .refl s1
  have ht2 : ∀ j, s2.temp j = s1.temp j := fun j => by
    unfold s2
    split
    · exact (Clocks.of_talks (talks_record 0x9020 [i, low16 x] (markTemp i s1))).temp j
    · rfl
  have hw2 : 3 ≤ q.warnRun → (s.temp i).warned = false → s2.keep.tseen.getLsbD i = true ∧ (1, s.now) ∈ s2.svc.toggles := fun hq ho => by
    have hc : (decide (3 ≤ q.warnRun) && !(s.temp i).warned) = true := by rw [ho, decide_eq_true hq]; rfl
    rw [show s2 = raise 1 (record 0x9020 [i, low16 x] (markTemp i s1)) from if_pos hc]
    have hr := feels_record 0x9020 [i, low16 x] (markTemp i s1)
    refine ⟨hr.seen i (tseen_markTemp (by omega) s1), ?_⟩
    rw [show s.now = (record 0x9020 [i, low16 x] (markTemp i s1)).now by rw [hr.now]; rfl]
    exact raised_raise 1 _
  have hnow : s2.now = s.now := (h1.trans h2).now
  have hf2 := h1.trans h2
  clear_value s2
  obtain ⟨h3, ht3, hseen, hraised, hhold, hfault⟩ := tempAtLimit_spec hi x s2
  have htemp : ∀ j, t.temp j = if j = i then q else s.temp j := fun j => by
    rw [ht]
    split
    · rw [ht3, ht2, ht1]
    · rw [ht2, ht1]
  refine ⟨?_, by rw [htemp, if_pos rfl], fun j hj => by rw [htemp, if_neg hj], fun hq ho => ?_, fun hq ho => ?_⟩
  · rw [ht]
    split
    · exact hf2.trans h3
    · exact hf2
  · obtain ⟨ha, hb⟩ := hw2 hq ho
    rw [ht]
    split
    · exact ⟨h3.seen _ ha, h3.raised.subset hb⟩
    · exact ⟨ha, hb⟩
  · rw [ht, if_pos (by rw [hq, ho]; rfl), ← hnow]
    exact ⟨hseen, hraised, hhold, hfault⟩

/-- Whether a sample is taken or not, it leaves the other sensors alone. -/
theorem sampleTemp_other {i j : Nat} (hi : i < 12) (hj : j ≠ i) (x : Int) (s : State) : Feels s (sampleTemp i x s) ∧ (sampleTemp i x s).temp j = s.temp j := by
  by_cases h : s.keep.mode = .stabled ∧ i ≤ 8
  · rw [sampleTemp_asleep h.1 h.2]
    exact ⟨.refl s, rfl⟩
  · obtain ⟨hf, -, ho, -⟩ := sampleTemp_spec hi x (s := s) (by
      by_cases hm : s.keep.mode = .stabled
      · exact .inr (Nat.lt_of_not_le (fun e => h ⟨hm, e⟩))
      · exact .inl hm)
    exact ⟨hf, ho j hj⟩

/-! ### The samples of one command -/

/-- The readings with the numbers of their sensors. -/
def tempReadings (xs : List (BitVec 16)) : List (Nat × Int) := (xs.take 12).zipIdx.map (fun p => (p.2, p.1.toInt))

theorem getElem?_tempReadings (xs : List (BitVec 16)) (i : Nat) :
    (tempReadings xs)[i]? = ((xs.take 12)[i]?).map (fun x => (i, x.toInt)) := by
  simp [tempReadings, List.getElem?_map, List.getElem?_zipIdx, Function.comp_def]

theorem getElem?_tempReadings_of_lt (xs : List (BitVec 16)) {i : Nat} (hi : i < 12) : (tempReadings xs)[i]? = (xs[i]?).map (fun x => (i, x.toInt)) := by
  rw [getElem?_tempReadings, List.getElem?_take, if_pos hi]

theorem fst_of_mem_tempReadings {xs : List (BitVec 16)} {i : Nat} {p : Nat × Int} (h : (tempReadings xs)[i]? = some p) : p.1 = i ∧ i < 12 := by
  have hlt : i < 12 := by
    by_contra hge
    rw [getElem?_tempReadings, List.getElem?_take, if_neg hge] at h
    exact absurd h (by simp)
  rw [getElem?_tempReadings_of_lt xs hlt] at h
  obtain ⟨x, -, rfl⟩ := Option.map_eq_some_iff.mp h
  exact ⟨rfl, hlt⟩

/-- The samples `l` one after the other. -/
def sampleAll (l : List (Nat × Int)) (s : State) : State := l.foldl (fun s p => sampleTemp p.1 p.2 s) s

theorem sampleAll_other {l : List (Nat × Int)} {i : Nat} (hl : ∀ p ∈ l, p.1 < 12 ∧ i ≠ p.1) (s : State) :
    Feels s (sampleAll l s) ∧ (sampleAll l s).temp i = s.temp i := by
  induction l generalizing s with
  | nil => exact ⟨.refl s, rfl⟩
  | cons p l ih =>
    obtain ⟨h1, h2⟩ := hl p (List.mem_cons_self ..)
    obtain ⟨hf, ht⟩ := sampleTemp_other h1 h2 p.2 s
    obtain ⟨hf', ht'⟩ := ih (fun q hq => hl q (List.mem_cons_of_mem _ hq)) (sampleTemp p.1 p.2 s)
    exact ⟨hf.trans hf', ht'.trans ht⟩

theorem sampleAll_asleep {l : List (Nat × Int)} {s : State} (hl : ∀ p ∈ l, p.1 ≤ 8) (hm : s.keep.mode = .stabled) : sampleAll l s = s := by
  induction l with
  | nil => rfl
  | cons p l ih =>
    rw [sampleAll, List.foldl_cons, sampleTemp_asleep hm (hl p (List.mem_cons_self ..))]
    exact ih (fun q hq => hl q (List.mem_cons_of_mem _ hq))

/-- The samples before that of TSi, and those after it. -/
theorem tempReadings_split {xs : List (BitVec 16)} {i : Nat} (hi : i < 12) {x : BitVec 16} (hx : xs[i]? = some x) :
    ∃ a b, tempReadings xs = a ++ (i, x.toInt) :: b ∧ (∀ p ∈ a, p.1 < i) ∧ ∀ p ∈ b, p.1 < 12 ∧ i < p.1 := by
  have hat : (tempReadings xs)[i]? = some (i, x.toInt) := by rw [getElem?_tempReadings_of_lt xs hi, hx]; rfl
  refine ⟨(tempReadings xs).take i, (tempReadings xs).drop (i + 1), ?_, fun p hp => ?_, fun p hp => ?_⟩
  · obtain ⟨hlt, hget⟩ := List.getElem?_eq_some_iff.mp hat
    rw [← hget, ← List.drop_eq_getElem_cons hlt, List.take_append_drop]
  · obtain ⟨j, hj⟩ := List.mem_iff_getElem?.mp hp
    rw [List.getElem?_take] at hj
    split at hj
    · rw [(fst_of_mem_tempReadings hj).1]
      assumption
    · exact absurd hj (by simp)
  · obtain ⟨j, hj⟩ := List.mem_iff_getElem?.mp hp
    rw [List.getElem?_drop] at hj
    obtain ⟨h1, h2⟩ := fst_of_mem_tempReadings hj
    omega

/-- The state in which the samples of a command are taken: the metrics may have taken theirs (R471). -/
theorem temperatureSample_exec (ns : Nat) (xs : List (BitVec 16)) (s : State) : ∃ v, exec (.temperatureSample ns xs) s = .next (sampleAll (tempReadings xs) v)
    ∧ Feels (advance ns s) v ∧ (∀ i, v.temp i = s.temp i) ∧ v.keep.mode = s.keep.mode := by
  let u := advance ns s
  let v := if u.keep.lastTemp + 1_000_000_000 ≤ u.now then
      (tempReadings xs).foldl (fun s p => sample (80 + p.1) p.2 s) (setKeep (fun q => { q with lastTemp := u.now }) u) else u
  have htemp : ∀ i, u.temp i = s.temp i := fun i => by rw [State.temp, advance_keep_temp]; rfl
  have hmode : u.keep.mode = s.keep.mode := advance_keep_mode ns s
  have hs : ∀ (l : List (Nat × Int)) (w : State), Talks w (l.foldl (fun s p => sample (80 + p.1) p.2 s) w)
      ∧ (l.foldl (fun s p => sample (80 + p.1) p.2 s) w).store = w.store := fun l w =>
    ⟨.foldl (fun u p => talks_sample _ _ u) l w, foldl_keeps (op := fun s (p : Nat × Int) => sample (80 + p.1) p.2 s) State.store (fun _ _ => store_sample ..) l w⟩
  refine ⟨v, rfl, ?_⟩
  unfold v
  split
  · obtain ⟨h1, h2⟩ := hs (tempReadings xs) (setKeep (fun q => { q with lastTemp := u.now }) u)
    have h0 : Feels u (setKeep (fun q => { q with lastTemp := u.now }) u) := ⟨rfl, rfl, List.prefix_rfl, fun _ h => h, .inr rfl, id⟩
    exact ⟨h0.trans (.of_clocks (.of_talks h1) (.inr h1.mode) (fun h => h2.trans h)), fun i => ((Clocks.of_talks h1).temp i).trans (htemp i),
      h1.mode.trans hmode⟩
  · exact ⟨.refl u, htemp, hmode⟩

theorem tempLimits_congr {s t : State} (h : t.fused = s.fused) (i : Nat) : tempLimits i t = tempLimits i s := by
  have hg : t.gradeE = s.gradeE := by rw [State.gradeE, h]; rfl
  rw [tempLimits, tempLimits, hg]

/-- What O47 says of the sensors. -/
theorem temperatureSample_spec (ns : Nat) (xs : List (BitVec 16)) (i : Nat) (s : State) (hi : i < 12) :
    let u := advance ns s
    let lim := tempLimits i s
    let q := s.temp i
    let live := s.keep.mode ≠ .stabled ∨ 8 < i
    (xs[i]? = none ∨ ¬ live → Completes (.temperatureSample ns xs) s (fun t => t.temp i = q ∧ u.now = t.now))
    ∧ (∀ x, xs[i]? = some x → live → Completes (.temperatureSample ns xs) s (fun t =>
        let high := if lim.2.1 < x.toInt then min 3 (q.highRun + 1) else 0
        let low := if x.toInt < lim.2.2 then min 3 (q.lowRun + 1) else 0
        let warn := if lim.1 < x.toInt then min 3 (q.warnRun + 1) else 0
        (t.temp i).reading = x.toInt ∧ (t.temp i).highRun = high ∧ (t.temp i).lowRun = low ∧ (t.temp i).warnRun = warn
        ∧ (t.temp i).atLimit = decide (3 ≤ max high low)
        ∧ (3 ≤ warn → q.warned = false → (t.temp i).warned = true ∧ t.keep.tseen.getLsbD i = true ∧ (1, u.now) ∈ t.svc.toggles)
        ∧ (3 ≤ max high low → q.atLimit = false → t.keep.tseen.getLsbD (16 + i) = true
            ∧ (2, u.now) ∈ t.svc.toggles ∧ (i ≠ 10 → t.keep.mode = .hold) ∧ (i = 10 → t.jnl.state = .storeFault)))) := by
  intro u lim q live
  obtain ⟨v, hexec, hfv, htv, hmv⟩ := temperatureSample_exec ns xs s
  refine ⟨fun hno => ?_, fun x hx hlive => ?_⟩
  · have hstay : Feels v (sampleAll (tempReadings xs) v) ∧ (sampleAll (tempReadings xs) v).temp i = v.temp i := by
      by_cases hx : xs[i]? = none
      · refine sampleAll_other (fun p hp => ?_) v
        obtain ⟨j, hj⟩ := List.mem_iff_getElem?.mp hp
        obtain ⟨h1, h2⟩ := fst_of_mem_tempReadings hj
        refine ⟨h1 ▸ h2, fun e => ?_⟩
        rw [← h1, ← e, getElem?_tempReadings_of_lt xs hi, hx] at hj
        exact absurd hj (by simp)
      · obtain ⟨x, hx'⟩ := Option.ne_none_iff_exists'.mp hx
        have hdead := not_or.mp (hno.resolve_left hx)
        have hm : v.keep.mode = .stabled := hmv.trans (not_not.mp hdead.1)
        have h8 : i ≤ 8 := Nat.le_of_not_lt hdead.2
        obtain ⟨a, b, hsplit, ha, hb⟩ := tempReadings_split hi hx'
        have hfirst : sampleAll (tempReadings xs) v = sampleAll b v := by
          rw [hsplit, sampleAll, List.foldl_append, List.foldl_cons]
          rw [show a.foldl (fun s p => sampleTemp p.1 p.2 s) v = v from sampleAll_asleep (fun p hp => by have := ha p hp; omega) hm,
            sampleTemp_asleep hm h8]
          rfl
        rw [hfirst]
        exact sampleAll_other (fun p hp => ⟨(hb p hp).1, Nat.ne_of_lt (hb p hp).2⟩) v
    exact ⟨_, hexec, hstay.2.trans (htv i), (hfv.trans hstay.1).now.symm⟩
  · obtain ⟨a, b, hsplit, ha, hb⟩ := tempReadings_split hi hx
    obtain ⟨hfa, hta⟩ := sampleAll_other (l := a) (i := i) (fun p hp => ⟨(ha p hp).trans hi, (Nat.ne_of_lt (ha p hp)).symm⟩) v
    have hfirst : sampleAll (tempReadings xs) v = sampleAll b (sampleTemp i x.toInt (sampleAll a v)) := by
      rw [hsplit, sampleAll, List.foldl_append, List.foldl_cons]
      rfl
    have hlive' : (sampleAll a v).keep.mode ≠ .stabled ∨ 8 < i := hlive.imp_left (fun h => hfa.awake (hmv ▸ h))
    obtain ⟨hfi, hti, -, hw, hl⟩ := sampleTemp_spec hi x.toInt hlive'
    obtain ⟨hfb, htb⟩ := sampleAll_other (l := b) (i := i) (fun p hp => ⟨(hb p hp).1, Nat.ne_of_lt (hb p hp).2⟩) (sampleTemp i x.toInt (sampleAll a v))
    have hq : (sampleAll a v).temp i = q := hta.trans (htv i)
    have hlim : tempLimits i (sampleAll a v) = lim := tempLimits_congr (hfa.fused.trans (hfv.fused.trans (advance_fused ns s))) i
    have hnow : (sampleAll a v).now = u.now := (hfv.trans hfa).now
    rw [hq, hlim] at hti hw hl
    rw [hnow] at hw hl
    rw [hfirst] at hexec
    have ht := htb.trans hti
    refine ⟨_, hexec, ?_⟩
    generalize sampleAll b (sampleTemp i x.toInt (sampleAll a v)) = t at hfb ht
    generalize sampleTemp i x.toInt (sampleAll a v) = w at hfb hw hl
    intro high low warn
    have hrun : ∀ (b : Prop) [Decidable b] (r : Nat), runOf 3 (decide b) r = if b then min 3 (r + 1) else 0 := fun b _ r => by
      by_cases h : b <;> simp [runOf, h]
    have hwarn : (q.sampled lim x.toInt).warnRun = warn := hrun ..
    have hhigh : (q.sampled lim x.toInt).highRun = high := hrun ..
    have hlow : (q.sampled lim x.toInt).lowRun = low := hrun ..
    have hat : (q.sampled lim x.toInt).atLimit = decide (3 ≤ max high low) := by rw [← hhigh, ← hlow]; rfl
    rw [ht]
    refine ⟨rfl, hhigh, hlow, hwarn, hat, fun h3 ho => ?_, fun h3 ho => ?_⟩
    · obtain ⟨h1, h2⟩ := hw (hwarn.symm ▸ h3) ho
      refine ⟨?_, hfb.seen _ h1, hfb.raised.subset h2⟩
      show ((decide (3 ≤ (q.sampled lim x.toInt).warnRun) && !q.warned) || _) = true
      rw [hwarn, ho, decide_eq_true h3]
      rfl
    · obtain ⟨h1, h2, h4, h5⟩ := hl (hat.trans (decide_eq_true h3)) ho
      exact ⟨hfb.seen _ h1, hfb.raised.subset h2, fun e => hfb.hold (h4 e), fun e => hfb.fault (h5 e)⟩

end Sys2Proof.Machine
end

section
/-!
PROOFS. Voltage monitors, rails and the sensor summary (O47).
-/
namespace Sys2Proof.Machine

theorem volt_setVolt (v k : Nat) (f : Sensor → Sensor) (s : State) : (setVolt v f s).volt k = if k = v then f (s.volt v) else s.volt k := look_upd ..

theorem Clocks.volt {s t : State} (h : Clocks s t) (v : Nat) : t.volt v = s.volt v := by
  rw [State.volt, h.keep]
  rfl

theorem runOf_two (b : Prop) [Decidable b] (r : Nat) : runOf 2 (decide b) r = if b then min 2 (r + 1) else 0 := by
  by_cases h : b <;> simp [runOf, h]

/-! ### Resets that a rail holds (R514, R526) -/

/-- A whole reset begins, held by the rails `by_`: the SRAM is clear. -/
theorem wholeReset_held (kind code : Nat) (by_ : List Nat) (j : StoreLoss) (s : State) :
    (wholeReset kind code by_ j s).keep.resetHeld = by_ ∧ (wholeReset kind code by_ j s).sram = [] := by
  unfold wholeReset
  extract_lets u k fresh
  obtain ⟨p, c, ht⟩ := talks_beginBoot .whole 1 kind code fresh
  exact ⟨by rw [ht.keep]; rfl, ht.sram⟩

/-- What a reset of kind `kind` leaves that the rail of VMv holds, when the rails `by_` hold already. -/
def HeldBy (kind v : Nat) (by_ : List Nat) (t : State) : Prop :=
  t.keep.mode = .boot ∧ t.keep.bootStage = 1 ∧ t.keep.resetKind = kind ∧ t.sram = [] ∧ t.keep.resetHeld = v :: by_

theorem heldBy_wholeReset (kind code v : Nat) (by_ : List Nat) (j : StoreLoss) (s : State) : HeldBy kind v by_ (wholeReset kind code (v :: by_) j s) := by
  obtain ⟨-, hm, hk, -, hs⟩ := wholeReset_spec kind code (v :: by_) j s
  obtain ⟨hr, hz⟩ := wholeReset_held kind code (v :: by_) j s
  exact ⟨hm, hs, hk, hz, hr⟩

/-! ### One comparison (R514) -/

/-- VMv after a comparison at `mv`. -/
def Sensor.compared (w : Nat × Nat) (mv : Nat) (old : Sensor) : Sensor :=
  let q : Sensor := { old.note mv with
    lowRun := runOf 2 (decide (mv < w.1)) old.lowRun, highRun := runOf 2 (decide (w.2 < mv)) old.highRun
    limitRun := runOf 2 (decide (mv < w.1 ∨ w.2 < mv)) old.limitRun }
  { q with out := decide (2 ≤ q.limitRun) }

/-- The excursion of VMv is marked, recorded and raised. -/
def excursion (v mv : Nat) (q : Sensor) (s : State) : State :=
  let bit := if mv < (railWindow v).1 then v else 16 + v
  raise 3 (record 0x9022 [v, mv] (setKeep (fun k => { k with vseen := k.vseen ||| BitVec.ofNat 32 (2 ^ bit) }) (setVolt v (fun _ => q) s)))

theorem compareVolt_eq {v : Nat} {s : State} (hw : voltIgnored v s = false) (hf : voltFitted v s = true) (mv : Nat) :
    let q := (s.volt v).compared (railWindow v) mv
    compareVolt v mv s = if q.out && !(s.volt v).out then voltAction v mv (excursion v mv q s) else setVolt v (fun _ => q) s :=
  if_neg (by rw [hw, hf]; decide)

/-- What an excursion leaves before what it leads to. -/
structure Excurses (v : Nat) (s t : State) : Prop where
  rest : t = { s.noted t with keep := { s.keep with volt := t.keep.volt, vseen := t.keep.vseen, lastCode := t.keep.lastCode } }
  time : t.time = s.time
  raised : t.svc.toggles = s.svc.toggles ++ [(3, s.now)]
  out : (t.volt v).out = true

theorem excurses_excursion (v mv : Nat) {q : Sensor} (hq : q.out = true) (s : State) : Excurses v s (excursion v mv q s) := by
  unfold excursion
  extract_lets bit
  obtain ⟨j, hj⟩ := record_keeper (code := 0x9022) rfl [v, mv]
    (setKeep (fun k => { k with vseen := k.vseen ||| BitVec.ofNat 32 (2 ^ bit) }) (setVolt v (fun _ => q) s))
  rw [hj]
  refine ⟨rfl, rfl, rfl, ?_⟩
  exact (congrArg Sensor.out (volt_setVolt v v (fun _ => q) s)).trans (by rw [if_pos rfl, hq])

namespace Excurses

variable {v : Nat} {s u t : State}

theorem mode (h : Excurses v s u) : u.keep.mode = s.keep.mode := by rw [h.rest]
theorem resetHeld (h : Excurses v s u) : u.keep.resetHeld = s.keep.resetHeld := by rw [h.rest]
theorem tri (h : Excurses v s u) : u.tri = s.tri := by rw [h.rest]; rfl

/-- What the action leaves of the excursion. -/
theorem act (h : Excurses v s u) (k : Clocks u t) : (t.volt v).out = true ∧ (3, s.now) ∈ t.svc.toggles :=
  ⟨by rw [k.volt, h.out], k.raised.subset (by rw [h.raised]; exact List.mem_append_right _ (List.mem_singleton_self _))⟩

end Excurses

theorem voltAction_hold {v : Nat} (h : v ∈ [0, 1, 2, 4, 10]) (mv : Nat) (s : State) :
    voltAction v mv s = enterHold 0x9023 (record 0x9023 [v, mv] s) := by
  simp only [List.mem_cons, List.not_mem_nil, or_false] at h
  obtain rfl | rfl | rfl | rfl | rfl := h <;> rfl

theorem voltAction_store {v : Nat} (h : v ∈ [8, 11]) (mv : Nat) (s : State) : voltAction v mv s = storeFault s := by
  simp only [List.mem_cons, List.not_mem_nil, or_false] at h
  obtain rfl | rfl := h <;> rfl

theorem voltAction_net {v : Nat} (h : v ∈ [5, 6]) (mv : Nat) (s : State) : voltAction v mv s = networkDown s := by
  simp only [List.mem_cons, List.not_mem_nil, or_false] at h
  obtain rfl | rfl := h <;> rfl

theorem voltAction_power {v : Nat} (h : v ∈ [7, 9]) (mv : Nat) (s : State) :
    voltAction v mv s = if s.keep.resetHeld.contains v then s else wholeReset 0 0x9022 (v :: s.keep.resetHeld) {} s := by
  simp only [List.mem_cons, List.not_mem_nil, or_false] at h
  obtain rfl | rfl := h <;> rfl

theorem voltAction_blocks {v : Nat} (h : 12 ≤ v) (mv : Nat) (s : State) : voltAction v mv s = s := by
  unfold voltAction
  split
  case h_8 => exact if_neg (by omega)
  all_goals exact absurd h (by decide)

/-- What O47 says of an excursion that begins. -/
def ExcursionActs (v : Nat) (s t : State) : Prop :=
  (v ∈ [0, 1, 2, 4, 10] → t.keep.mode = .hold ∧ (t.volt v).out = true ∧ (3, s.now) ∈ t.svc.toggles)
  ∧ (v ∈ [8, 11] → t.jnl.state = .storeFault ∧ (t.volt v).out = true ∧ (3, s.now) ∈ t.svc.toggles)
  ∧ (v ∈ [5, 6] → t.net.up = false ∧ (s.tri.state = .off → t.keep.mode = s.keep.mode) ∧ (t.volt v).out = true)
  ∧ (v ∈ [7, 9] → v ∉ s.keep.resetHeld → HeldBy 0 v s.keep.resetHeld t)
  ∧ (v = 3 → v ∉ s.keep.resetHeld → s.keep.mode ≠ .hold → HeldBy 6 v s.keep.resetHeld t)
  ∧ (v ∈ [3, 7, 9] → v ∈ s.keep.resetHeld ∨ (v = 3 ∧ s.keep.mode = .hold) → t.keep.mode = s.keep.mode ∧ (t.volt v).out = true)
  ∧ (12 ≤ v → t.svc.toggles = s.svc.toggles ++ [(3, s.now)] ∧ (t.volt v).out = true ∧ t = { s.noted t with keep := t.keep }
      ∧ t.keep.mode = s.keep.mode)

theorem not_mem_of_le {v : Nat} (h : 12 ≤ v) {l : List Nat} (hl : ∀ x ∈ l, x < 12) : v ∉ l := fun hv => absurd (hl v hv) (by omega)

theorem excursionActs {v : Nat} {s u : State} (hu : Excurses v s u) (mv : Nat) : ExcursionActs v s (voltAction v mv u) := by
  refine ⟨fun h => ?_, fun h => ?_, fun h => ?_, fun h hr => ?_, fun h hr hm => ?_, fun h hr => ?_, fun h => ?_⟩
  · rw [voltAction_hold h]
    exact ⟨mode_enterHold .., hu.act ((Clocks.of_talks (talks_record ..)).trans (clocks_enterHold ..))⟩
  · rw [voltAction_store h]
    obtain ⟨-, hc, hs, -⟩ := storeFault_spec u
    exact ⟨hs, hu.act hc⟩
  · rw [voltAction_net h]
    obtain ⟨hc, hup, -, hmode, -⟩ := networkDown_spec u
    exact ⟨hup, fun ht => (hmode (hu.tri ▸ ht)).trans hu.mode, (hu.act hc).1⟩
  · rw [voltAction_power h, hu.resetHeld, if_neg (by simpa using hr)]
    exact heldBy_wholeReset ..
  · subst h
    rw [show voltAction 3 mv u = if u.keep.mode = .hold ∨ u.keep.resetHeld.contains 3 = true then u
      else wholeReset 6 0x9022 (3 :: u.keep.resetHeld) {} u from rfl, hu.resetHeld, hu.mode, if_neg (by simpa [hm] using hr)]
    exact heldBy_wholeReset ..
  · have hself : voltAction v mv u = u := by
      by_cases h3 : v = 3
      · subst h3
        rw [show voltAction 3 mv u = if u.keep.mode = .hold ∨ u.keep.resetHeld.contains 3 = true then u
          else wholeReset 6 0x9022 (3 :: u.keep.resetHeld) {} u from rfl, hu.resetHeld, hu.mode]
        exact if_pos (hr.symm.imp (fun e => e.2) (fun e => by simpa using e))
      · have hv : v ∈ s.keep.resetHeld := hr.resolve_right (fun e => h3 e.1)
        rw [voltAction_power (by simpa [h3] using h), hu.resetHeld]
        exact if_pos (by simpa using hv)
    rw [hself]
    exact ⟨hu.mode, hu.out⟩
  · rw [voltAction_blocks h]
    exact ⟨hu.raised, hu.out, by rw [hu.rest]; rfl, hu.mode⟩

/-! ### A rail back in its window (R514, R523) -/

/-- VMv after a comparison in its window that ends what went before. -/
def Sensor.back (mv : Nat) (q : Sensor) : Sensor := { q.note mv with lowRun := 0, highRun := 0, limitRun := 0, out := false }

theorem releaseHeldReset_eq (v : Nat) (s : State) : releaseHeldReset v s = { s with keep := { s.keep with
    resetHeld := s.keep.resetHeld.filter (fun x => x != v), bootStart := if v ∈ s.keep.resetHeld then s.now else s.keep.bootStart } } := by
  unfold releaseHeldReset
  by_cases h : v ∈ s.keep.resetHeld
  · rw [if_pos (by simpa using h), if_pos h]
    rfl
  · have hf : s.keep.resetHeld.filter (fun x => x != v) = s.keep.resetHeld := List.filter_eq_self.mpr (fun x hx => by
      rw [bne_iff_ne]
      exact fun e => h (e ▸ hx))
    rw [if_neg (by simpa using h), if_neg h, hf]

/-- The rail of VMv is in its window again: its excursion has ended and it holds no reset. -/
def railBack (v mv : Nat) (s : State) : State := releaseHeldReset v (setVolt v (Sensor.back mv) s)

theorem railBack_spec (v mv : Nat) (s : State) : let t := railBack v mv s
    ((t.volt v).out = false ∧ (t.volt v).limitRun = 0 ∧ (t.volt v).reading = mv) ∧ (∀ k, k ≠ v → t.volt k = s.volt k)
      ∧ t.keep.resetHeld = s.keep.resetHeld.filter (fun x => x != v) ∧ t.keep.bootStart = (if v ∈ s.keep.resetHeld then s.now else s.keep.bootStart)
      ∧ t = { s with keep := { s.keep with volt := t.keep.volt, resetHeld := t.keep.resetHeld, bootStart := t.keep.bootStart } } := by
  intro t
  have ht : t = _ := releaseHeldReset_eq v (setVolt v (Sensor.back mv) s)
  have hv : ∀ k, t.volt k = if k = v then (s.volt v).back mv else s.volt k := fun k => by
    rw [ht]
    exact volt_setVolt v k (Sensor.back mv) s
  refine ⟨?_, fun k hk => by rw [hv, if_neg hk], by rw [ht]; rfl, by rw [ht]; rfl, by rw [ht]; rfl⟩
  rw [hv, if_pos rfl]
  exact ⟨rfl, rfl, rfl⟩

/-- A domain is no longer isolated. -/
def rejoin (v : Nat) (s : State) : State := setKeep (fun q => { q with isolated := q.isolated.filter (fun x => x != v) }) s

theorem not_mem_isolated_rejoin (v : Nat) (s : State) : v ∉ (rejoin v s).keep.isolated := by
  show v ∉ s.keep.isolated.filter (fun x => x != v)
  simp [List.mem_filter]

/-- What a rail of the network region that comes back does beyond its own sensor. -/
theorem networkBack_rail (s : State) :
    let back := s.net.up = false ∧ s.keep.clkNow.getLsbD 4 = false ∧ (s.volt 5).out = false ∧ (s.volt 6).out = false
    Clocks s (networkBack s) ∧ (back → (networkBack s).net = { s.net with up := true })
      ∧ (back → s.keep.owed.getLsbD 4 = true → s.reiniting 4 = false → (networkBack s).reiniting 4 = true ∧ (networkBack s).keep.mode = s.keep.mode)
      ∧ (back → s.keep.owed.getLsbD 4 = false → networkBack s = { s with net := { s.net with up := true } })
      ∧ (¬ back → networkBack s = s) := by
  intro back
  have hgo : back → networkBack s = if s.keep.owed.getLsbD 4 then startReinit 4 (payOwed 4 { s with net := { s.net with up := true } })
      else { s with net := { s.net with up := true } } := fun ⟨h1, h2, h3, h4⟩ => if_neg (by rw [h1, h2, h3, h4]; decide)
  refine ⟨clocks_networkBack s, fun hb => ?_, fun hb ho hr => ?_, fun hb ho => ?_, fun hb => if_pos ?_⟩
  · rw [hgo hb]
    split
    · rw [net_startReinit]
      rfl
    · rfl
  · rw [hgo hb, if_pos ho]
    exact startReinit_spec (s := payOwed 4 { s with net := { s.net with up := true } }) hr
  · rw [hgo hb, if_neg (by rw [ho]; decide)]
  · by_contra hno
    rw [Bool.not_eq_true, Bool.or_eq_false_iff, Bool.or_eq_false_iff, Bool.or_eq_false_iff] at hno
    exact hb ⟨hno.1.1.1, hno.1.1.2, hno.1.2, hno.2⟩

/-! ### A rail that is not good (R523) -/

/-- The domain of VMv is isolated. -/
def isolate (v : Nat) (s : State) : State := if s.keep.isolated.contains v then s else setKeep (fun q => { q with isolated := v :: q.isolated }) s

theorem isolate_spec (v : Nat) (s : State) : v ∈ (isolate v s).keep.isolated ∧ isolate v s = { s with keep := { s.keep with isolated := (isolate v s).keep.isolated } } := by
  unfold isolate
  split
  · next h => exact ⟨by simpa using h, rfl⟩
  · exact ⟨List.mem_cons_self .., rfl⟩

theorem Clocks.isolated {s t : State} (h : Clocks s t) : t.keep.isolated = s.keep.isolated := by rw [h.keep]

/-- The links of the field blocks are cut. -/
def cutLinks (s : State) : State := { s with fld := { s.fld with blocks := s.fld.blocks.map (fun p => (p.1, { p.2 with link := 0, frame := none })) } }

/-- LIVE and the trip lines are made low. -/
def dropLines (s : State) : State := setKeep (fun q => { q with liveLow := true, tripLow := true }) s

theorem isolateDomain_low {v : Nat} (hv : v < 3) (loss : StoreLoss) (s : State) :
    isolateDomain v loss s = networkDown (cutLinks (disableAxes 0x2041 (dropLines (isolate v s)))) := by
  unfold isolateDomain isolate dropLines cutLinks
  split
  case h_10 => rw [if_pos hv]
  all_goals exact absurd hv (by omega)

/-- Motion rails: LIVE and the trip lines fall, the axes are disabled, the domain and the network are cut off. -/
theorem isolateDomain_motion {v : Nat} (hv : v < 3) (loss : StoreLoss) (s : State) : let t := isolateDomain v loss s
    t.keep.liveLow = true ∧ t.keep.tripLow = true ∧ v ∈ t.keep.isolated ∧ t.net.up = false ∧ ∀ n < s.axesFitted, (t.axis n).st = .disabled := by
  intro t
  have ht : t = networkDown (cutLinks (disableAxes 0x2041 (dropLines (isolate v s)))) := isolateDomain_low hv loss s
  obtain ⟨hin, hrest⟩ := isolate_spec v s
  have hfused : (dropLines (isolate v s)).fused = s.fused := by
    show (isolate v s).fused = _
    rw [hrest]
  have hkeep : (dropLines (isolate v s)).keep.isolated = (isolate v s).keep.isolated := rfl
  have hlow : (dropLines (isolate v s)).keep.liveLow = true ∧ (dropLines (isolate v s)).keep.tripLow = true := ⟨rfl, rfl⟩
  generalize dropLines (isolate v s) = u at ht hfused hkeep hlow
  obtain ⟨hs, hax⟩ := disableAxes_spec 0x2041 u
  have hw : Dead (disableAxes 0x2041 u) ∧ (disableAxes 0x2041 u).fused = u.fused ∧ (disableAxes 0x2041 u).keep.isolated = u.keep.isolated := by
    have hf : (disableAxes 0x2041 u).axesFitted = u.axesFitted := by rw [State.axesFitted, hs.fused]; rfl
    refine ⟨⟨by rw [hs.keep]; exact hlow.1, by rw [hs.keep]; exact hlow.2, fun n hn => ?_⟩, hs.fused, by rw [hs.keep]⟩
    rw [hax, if_pos (hf ▸ hn)]
    rfl
  generalize disableAxes 0x2041 u = w at ht hw
  obtain ⟨hdead, hfw, hiw⟩ := hw
  have hcut : Dead (cutLinks w) ∧ (cutLinks w).fused = w.fused ∧ (cutLinks w).keep = w.keep := ⟨hdead.of_fields rfl rfl rfl rfl, rfl, rfl⟩
  generalize cutLinks w = x at ht hcut
  obtain ⟨hc, hup, -, -, hd⟩ := networkDown_spec x
  rw [← ht] at hc hup hd
  obtain ⟨h1, h2, h3⟩ := hd hcut.1
  have hfit : t.axesFitted = s.axesFitted := by
    rw [State.axesFitted, hc.fused, hcut.2.1, hfw, hfused]
    rfl
  refine ⟨h1, h2, ?_, hup, fun n hn => h3 n (hfit ▸ hn)⟩
  rw [hc.isolated, hcut.2.2, hiw, hkeep]
  exact hin

/-- The channel is taken as invalid if it was valid. -/
def chanLost (s : State) (n : Nat) : State := if chanValid n s then chanInvalidate n s else s

theorem chanLost_spec (s : State) (n : Nat) : (chanLost s n).keep = s.keep ∧ chanValid n (chanLost s n) = false
    ∧ ∀ k, k ≠ n → chanValid k (chanLost s n) = chanValid k s := by
  unfold chanLost
  split
  · obtain ⟨h, hn⟩ := chanInvalidate_spec n s
    have hctl : ∀ a, ctlGet a (chanInvalidate n s) = ctlGet a s := fun a => by rw [h.rest]; rfl
    have hon : ∀ k, chanOn k (chanInvalidate n s) = chanOn k s := fun k => by
      have hf : (chanInvalidate n s).fused = s.fused := by rw [h.rest]
      have hk : (chanInvalidate n s).keep = s.keep := by rw [h.rest]
      have hcf : cf (pcReg k 0) 1 0 (chanInvalidate n s) = cf (pcReg k 0) 1 0 s := by
        rw [cf, hctl]
        rfl
      have hm : chanMode k (chanInvalidate n s) = chanMode k s := by rw [chanMode, chanMode, hcf]
      rw [chanOn, chanOn, hm, hk, State.chansFitted, State.axesFitted, hf]
      rfl
    refine ⟨by rw [h.rest], by rw [chanValid, hn, Bool.not_true, Bool.and_false], fun k hk => by rw [chanValid, hon, h.others k hk]; rfl⟩
  · next h => exact ⟨rfl, Bool.eq_false_of_not_eq_true h, fun _ _ => rfl⟩

/-- The rail of the sensors: every channel is invalid. -/
theorem isolateDomain_sensors (loss : StoreLoss) (s : State) : let t := isolateDomain 4 loss s
    4 ∈ t.keep.isolated ∧ (∀ n < s.chansFitted, chanValid n t = false) ∧ t.keep.mode = s.keep.mode := by
  obtain ⟨hin, hrest⟩ := isolate_spec 4 s
  obtain ⟨hk, hv⟩ := foldl_range_each (op := chanLost) (fun n u => chanValid n u) (fun _ _ => false) (fun s t : State => t.keep = s.keep) (fun _ => rfl)
    (fun _ _ _ h k => k.trans h) (fun u n => (chanLost_spec u n).1) (fun u n k hk => (chanLost_spec u n).2.2 k hk)
    (fun _ u n _ _ => (chanLost_spec u n).2.1) s.chansFitted (isolate 4 s)
  intro t
  have ht : t = (List.range s.chansFitted).foldl chanLost (isolate 4 s) := rfl
  rw [ht]
  refine ⟨by rw [hk]; exact hin, fun n hn => (hv n).trans (if_pos hn), ?_⟩
  rw [hk, hrest]

theorem isolateDomain_net {v : Nat} (h : v ∈ [5, 6]) (loss : StoreLoss) (s : State) : isolateDomain v loss s = networkDown (isolate v s) := by
  simp only [List.mem_cons, List.not_mem_nil, or_false] at h
  obtain rfl | rfl := h <;> rfl

theorem isolateDomain_power {v : Nat} (h : v ∈ [3, 7, 9]) (loss : StoreLoss) (s : State) : isolateDomain v loss s
    = if s.keep.resetHeld.contains v then s else wholeReset (if v = 3 then 6 else 0) 0x9022 (v :: s.keep.resetHeld) loss s := by
  simp only [List.mem_cons, List.not_mem_nil, or_false] at h
  obtain rfl | rfl | rfl := h <;> rfl

theorem isolateDomain_blocks {v : Nat} (h : 12 ≤ v) (loss : StoreLoss) (s : State) : isolateDomain v loss s = blockUndervolt (v - 12) s := by
  unfold isolateDomain
  split
  case h_10 => exact if_neg (by omega)
  all_goals exact absurd h (by decide)

theorem blockUndervolt_spec {f : Fin 4} {s : State} (hf : s.fldFitted f = true) : ((blockUndervolt f s).block f).uv = true
    ∧ (blockUndervolt f s).keep.mode = s.keep.mode := by
  by_cases hu : (s.block f).uv = false
  · obtain ⟨t, ht, ha, huv, -⟩ := vfieldUndervoltage_due hf hu
    have he : blockUndervolt f s = t := (Host.Outcome.next.inj (ht : Host.Outcome.next (blockUndervolt f s) = Host.Outcome.next t))
    rw [he]
    exact ⟨huv, by rw [ha.rest]⟩
  · rw [show blockUndervolt f s = s from if_neg (fun e => hu e.2)]
    exact ⟨Bool.eq_true_of_not_eq_false hu, rfl⟩

/-- What O47 says of a rail that is not good. -/
theorem railNotGood_spec (v : Fin 16) (loss : StoreLoss) (s : State) (hf : voltFitted v s = true) : let t := isolateDomain v loss s
    (v.val < 3 → t.keep.liveLow = true ∧ t.keep.tripLow = true ∧ v.val ∈ t.keep.isolated ∧ t.net.up = false ∧ ∀ n < s.axesFitted, (t.axis n).st = .disabled)
      ∧ (v.val = 4 → v.val ∈ t.keep.isolated ∧ (∀ n < s.chansFitted, chanValid n t = false) ∧ t.keep.mode = s.keep.mode)
      ∧ (v.val ∈ [5, 6] → t.net.up = false ∧ v.val ∈ t.keep.isolated ∧ (s.tri.state = .off → t.keep.mode = s.keep.mode))
      ∧ (v.val ∈ [7, 9] → v.val ∉ s.keep.resetHeld → HeldBy 0 v s.keep.resetHeld t)
      ∧ (v.val = 3 → v.val ∉ s.keep.resetHeld → HeldBy 6 v s.keep.resetHeld t) ∧ (v.val ∈ [3, 7, 9] → v.val ∈ s.keep.resetHeld → t = s)
      ∧ (v.val = 8 → t.jnl.state = .storeFault) ∧ (v.val ∈ [10, 11] → t = s)
      ∧ (12 ≤ v.val → (t.block (v.val - 12)).uv = true ∧ t.keep.mode = s.keep.mode) := by
  intro t
  refine ⟨fun h => isolateDomain_motion h loss s, fun h => ?_, fun h => ?_, fun h hr => ?_, fun h hr => ?_, fun h hr => ?_, fun h => ?_, fun h => ?_, fun h => ?_⟩
  · simp only [t, h]
    exact isolateDomain_sensors loss s
  · obtain ⟨hin, hrest⟩ := isolate_spec v s
    have htri : (isolate v s).tri = s.tri := by rw [hrest]
    have hmode : (isolate v s).keep.mode = s.keep.mode := by rw [hrest]
    have ht : t = networkDown (isolate v s) := isolateDomain_net h loss s
    generalize isolate v s = u at hin htri hmode ht
    obtain ⟨hc, hup, -, hm, -⟩ := networkDown_spec u
    rw [ht]
    exact ⟨hup, by rw [hc.isolated]; exact hin, fun e => (hm (htri ▸ e)).trans hmode⟩
  · have h3 : v.val ≠ 3 := fun e => absurd (e ▸ h) (by decide)
    rw [show t = _ from isolateDomain_power (List.mem_cons_of_mem _ h) loss s, if_neg (by simpa using hr), if_neg h3]
    exact heldBy_wholeReset ..
  · rw [show t = _ from isolateDomain_power (by rw [h]; decide) loss s, if_neg (by simpa using hr), if_pos h]
    exact heldBy_wholeReset ..
  · exact (isolateDomain_power h loss s).trans (if_pos (by simpa using hr))
  · have ht : t = storeFault s := by simp only [t, h]; rfl
    rw [ht]
    exact (storeFault_spec s).2.2.1
  · simp only [List.mem_cons, List.not_mem_nil, or_false] at h
    obtain h | h := h
    · simp only [t, h]; rfl
    · simp only [t, h]; rfl
  · have hlt := v.isLt
    have hfit : s.fldFitted ((⟨v.val - 12, by omega⟩ : Fin 4) : Nat) = true := by
      rw [voltFitted, decide_eq_true_eq] at hf
      exact decide_eq_true (show v.val - 12 < s.blocksFitted by omega)
    rw [show t = _ from isolateDomain_blocks h loss s]
    exact blockUndervolt_spec hfit

/-! ### The summary (R516) -/

theorem look_clearExtremes (i : Nat) (l : Tab Sensor) : look ({} : Sensor) i (l.map (fun p => (p.1, { p.2 with hi := none, lo := none })))
    = { look ({} : Sensor) i l with hi := none, lo := none } := by
  induction l with
  | nil => rfl
  | cons p l ih =>
    rw [List.map_cons, look_cons, look_cons, ih]
    split <;> rfl

theorem sensorSummary_spec (ns : Nat) (s : State) : let u := advance ns s
    (s.keep.lastSummary + 600_000_000_000 ≤ u.now →
        Completes (.sensorSummary ns) s (fun t => t.keep.lastSummary = u.now ∧ (∀ i, (t.temp i).hi = none ∧ (t.temp i).lo = none
          ∧ (t.temp i).reading = (s.temp i).reading) ∧ (∀ v, (t.volt v).hi = none ∧ (t.volt v).lo = none ∧ (t.volt v).reading = (s.volt v).reading)
          ∧ t = { u.noted t with keep := t.keep }))
      ∧ (u.now < s.keep.lastSummary + 600_000_000_000 → exec (.sensorSummary ns) s = .next u) := by
  intro u
  have hlast : u.keep.lastSummary = s.keep.lastSummary := advance_keep_lastSummary ns s
  have htemp : u.keep.temp = s.keep.temp := advance_keep_temp ns s
  have hvolt : u.keep.volt = s.keep.volt := advance_keep_volt ns s
  refine ⟨fun h => ?_, fun h => if_pos (by rw [show (advance ns s).keep.lastSummary = _ from hlast]; exact h)⟩
  let all := (List.range 12).map (fun i => u.temp i) ++ (List.range 16).map (fun v => u.volt v)
  obtain ⟨j, hj⟩ := record_keeper (code := 0x9080) rfl (all.flatMap (fun q => [low16 (q.hi.getD q.reading), low16 (q.lo.getD q.reading)])) u
  have hexec : exec (.sensorSummary ns) s = .next (setKeep (fun q => { q with
      lastSummary := u.now, temp := q.temp.map (fun p => (p.1, { p.2 with hi := none, lo := none }))
      volt := q.volt.map (fun p => (p.1, { p.2 with hi := none, lo := none })) })
      (record 0x9080 (all.flatMap (fun q => [low16 (q.hi.getD q.reading), low16 (q.lo.getD q.reading)])) u)) :=
    if_neg (by rw [show (advance ns s).keep.lastSummary = _ from hlast]; exact Nat.not_lt.mpr h)
  rw [hj] at hexec
  refine ⟨_, hexec, rfl, fun i => ?_, fun v => ?_, rfl⟩
  · have h := look_clearExtremes i u.keep.temp
    exact ⟨congrArg Sensor.hi h, congrArg Sensor.lo h, (congrArg Sensor.reading h).trans (by rw [htemp]; rfl)⟩
  · have h := look_clearExtremes v u.keep.volt
    exact ⟨congrArg Sensor.hi h, congrArg Sensor.lo h, (congrArg Sensor.reading h).trans (by rw [hvolt]; rfl)⟩

/-! ### O47 -/

theorem not_inside_iff {w : Nat × Nat} {x : Nat} : (x < w.1 ∨ w.2 < x) ↔ ¬ (w.1 ≤ x ∧ x ≤ w.2) := by omega

/-- Settles O47. -/
theorem sensorsAct : Obligations.SensorsAct := by
  refine ⟨fun ns xs i s hi => temperatureSample_spec ns xs i s hi, fun v mv loss s => ?_, sensorSummary_spec⟩
  intro w inside V watched sees held
  refine ⟨fun hno => ?_, fun hw => ?_⟩
  · have hout : voltIgnored v s = true ∨ voltFitted v s = false := by
      by_contra h
      rw [not_or] at h
      exact hno ⟨Bool.eq_false_of_not_eq_true h.1, Bool.eq_true_of_not_eq_false h.2⟩
    have hskip : (voltIgnored v s || !voltFitted v s) = true := by
      obtain h | h := hout <;> rw [h]
      · rfl
      · exact Bool.or_true _
    exact ⟨congrArg Host.Outcome.next (if_pos hskip), if_pos (.inr (.inr hout)), congrArg Host.Outcome.next (if_pos hskip)⟩
  · obtain ⟨hw1, hw2⟩ := hw
    have hq := compareVolt_eq (v := v) hw1 hw2 mv.toNat
    have hlimit : (V.compared w mv.toNat).limitRun = if inside then 0 else min 2 (V.limitRun + 1) := by
      refine (runOf_two (mv.toNat < w.1 ∨ w.2 < mv.toNat) V.limitRun).trans ?_
      by_cases h : inside
      · rw [if_pos h, if_neg (fun e => not_inside_iff.mp e h)]
      · rw [if_neg h, if_pos (not_inside_iff.mpr h)]
    have hout : (V.compared w mv.toNat).out = decide (2 ≤ (V.compared w mv.toNat).limitRun) := rfl
    have hsees : ∀ P : Sensor → Prop, (V.compared w mv.toNat).out = false ∨ V.out = true → P (V.compared w mv.toNat) → sees P := fun P hn hP => by
      refine ⟨_, congrArg Host.Outcome.next (hq.trans (if_neg ?_)), ?_⟩
      · obtain h | h := hn
        · rw [show ((s.volt v).compared (railWindow v) mv.toNat).out = false from h, Bool.false_and]
          decide
        · rw [show (s.volt v).out = true from h, Bool.not_true, Bool.and_false]
          decide
      · beta_reduce
        rw [volt_setVolt, if_pos rfl]
        exact ⟨rfl, hP, rfl⟩
    refine ⟨fun hin => ?_, fun hin h0 => ?_, fun hin h1 ho => ?_, fun hin h1 ho => ?_, fun hin => if_pos ?_, fun hin => ?_, ?_⟩
    · rw [if_pos hin] at hlimit
      have ho : (V.compared w mv.toNat).out = false := by rw [hout, hlimit]; rfl
      exact hsees (fun q => q.out = false ∧ q.limitRun = 0) (.inl ho) ⟨ho, hlimit⟩
    · rw [if_neg hin, h0] at hlimit
      have ho : (V.compared w mv.toNat).out = false := by rw [hout, hlimit]; rfl
      exact hsees (fun q => q.out = false ∧ q.limitRun = 1) (.inl ho) ⟨ho, hlimit⟩
    · rw [if_neg hin, show min 2 (V.limitRun + 1) = 2 by omega] at hlimit
      exact hsees (fun q => q.out = true ∧ q.limitRun = 2) (.inr ho) ⟨by rw [hout, hlimit]; rfl, hlimit⟩
    · rw [if_neg hin, show min 2 (V.limitRun + 1) = 2 by omega] at hlimit
      have hon : (V.compared w mv.toNat).out = true := by rw [hout, hlimit]; rfl
      exact ⟨_, congrArg Host.Outcome.next (hq.trans (if_pos (by
        rw [show ((s.volt v).compared (railWindow v) mv.toNat).out = true from hon, show (s.volt v).out = false from ho]; rfl))),
        excursionActs (excurses_excursion v mv.toNat hon s) mv.toNat⟩
    · exact (or_assoc.mp (.inl (not_inside_iff.mpr hin)))
    · have hgo : ¬ (mv.toNat < w.1 ∨ w.2 < mv.toNat ∨ voltIgnored v s = true ∨ voltFitted v s = false) := by
        rw [hw1, hw2]
        rintro (h | h | h | h)
        · exact not_inside_iff.mp (.inl h) hin
        · exact not_inside_iff.mp (.inr h) hin
        · exact absurd h (by decide)
        · exact absurd h (by decide)
      obtain ⟨hv, hother, hheld, hboot, hrest⟩ := railBack_spec v mv.toNat s
      refine ⟨if v.val = 5 ∨ v.val = 6 then networkBack (rejoin v (railBack v mv.toNat s)) else railBack v mv.toNat s, if_neg hgo, ?_⟩
      generalize railBack v mv.toNat s = r at hv hother hheld hboot hrest
      by_cases h56 : v.val = 5 ∨ v.val = 6
      · rw [if_pos h56]
        have hjoin : ∀ k, (rejoin v r).volt k = r.volt k := fun _ => rfl
        have hjk : rejoin v r = { s with keep := (rejoin v r).keep } := by rw [hrest]; rfl
        have hjm : (rejoin v r).keep.mode = s.keep.mode ∧ (rejoin v r).keep.clkNow = s.keep.clkNow ∧ (rejoin v r).keep.owed = s.keep.owed
            ∧ (rejoin v r).keep.reinit = s.keep.reinit := by
          rw [hrest]
          exact ⟨rfl, rfl, rfl, rfl⟩
        have hiso := not_mem_isolated_rejoin v r
        generalize rejoin v r = j at hjoin hjk hjm hiso
        obtain ⟨hjmode, hjclk, hjowed, hjre⟩ := hjm
        have hjnet : j.net = s.net := by rw [hjk]
        have hjvolt : (j.volt 5).out = false ∧ (j.volt 6).out = false ↔ (s.volt (11 - v.val)).out = false := by
          rw [hjoin, hjoin]
          obtain h | h := h56
          · rw [h] at hv hother ⊢
            rw [hv.1, hother 6 (by decide)]
            simp
          · rw [h] at hv hother ⊢
            rw [hv.1, hother 5 (by decide)]
            simp
        obtain ⟨hc, h1, h2, h3, h4⟩ := networkBack_rail j
        rw [hjnet, hjclk, hjvolt] at h1 h2 h3 h4
        rw [hjowed, State.reiniting, hjre, hjmode] at h2
        rw [hjowed] at h3
        generalize networkBack j = t at hc h1 h2 h3 h4
        refine ⟨by rw [hc.volt, hjoin]; exact hv.1, by rw [hc.volt, hjoin]; exact hv.2.1, by rw [hc.volt, hjoin]; exact hv.2.2,
          fun a b => absurd h56 (not_or.mpr ⟨a, b⟩), fun _ => ⟨by rw [hc.isolated]; exact hiso, h1, h2, fun hb ho => ?_, fun hb => ?_⟩⟩
        · rw [h3 hb ho]
          exact ⟨by rw [hjk], hjmode⟩
        · rw [h4 hb]
          exact ⟨hjk, hjmode⟩
      · rw [if_neg h56]
        refine ⟨hv.1, hv.2.1, hv.2.2, fun _ _ => ⟨hheld, hboot, hrest⟩, fun h => absurd ?_ h56⟩
        simpa using h
    · have hgo : ¬ (voltIgnored v s || !voltFitted v s) = true := by rw [hw1, hw2]; decide
      exact ⟨_, congrArg Host.Outcome.next (if_neg hgo), railNotGood_spec v loss s hw2⟩

end Sys2Proof.Machine
end

section
/-!
THE QUEUE AND THE MEMORIES. What every function of the model does to the queue of commands and to the two byte memories: the queue stays as
it is, and a memory in canonical form stays in it. Each lemma speaks of one function of the model, in the order of the model.
-/
namespace Sys2Proof.Machine

/-- `t` has the queue and the two memories of `s`. -/
@[simp] abbrev SameMems (s t : State) : Prop := t.pending = s.pending ∧ t.sram = s.sram ∧ t.svc.sram = s.svc.sram

/-- The canonical form of the logic SRAM, and that of the SRAM of the service region. -/
def LogicForm (m : Memory) : Prop := Memory.wf sramDefault m = true
def ServiceForm (m : Memory) : Prop := Memory.wf (fun _ => 0) m = true

@[simp] theorem logicForm_nil : LogicForm [] := rfl
@[simp] theorem serviceForm_nil : ServiceForm [] := rfl

/-- `t` has the queue of `s`, and its memories are in canonical form where those of `s` are. -/
@[simp] abbrev KeepsMems (s t : State) : Prop := t.pending = s.pending ∧ (LogicForm s.sram → LogicForm t.sram)
  ∧ (ServiceForm s.svc.sram → ServiceForm t.svc.sram)

/-- The command goes on, and its next state keeps queue and memories. -/
def Proceeds (s : State) (o : Host.Outcome State Fault Refusal) : Prop := ∃ t, o = .next t ∧ KeepsMems s t

section
variable {s t u : State}

theorem KeepsMems.trans (h : KeepsMems s t) (k : KeepsMems t u) : KeepsMems s u :=
  ⟨k.1.trans h.1, k.2.1 ∘ h.2.1, k.2.2 ∘ h.2.2⟩

theorem KeepsMems.of_same (h : SameMems s t) : KeepsMems s t := by
  obtain ⟨hp, hm, hv⟩ := h
  exact ⟨hp, fun h => hm ▸ h, fun h => hv ▸ h⟩

theorem SameMems.trans (h : SameMems s t) (k : SameMems t u) : SameMems s u :=
  ⟨k.1.trans h.1, k.2.1.trans h.2.1, k.2.2.trans h.2.2⟩

theorem SameMems.foldl {α : Type} {f : State → α → State} (hf : ∀ v a, SameMems v (f v a)) (l : List α) (u : State) :
    SameMems u (l.foldl f u) := by
  induction l generalizing u with
  | nil => exact ⟨rfl, rfl, rfl⟩
  | cons a l ih => exact (hf u a).trans (ih (f u a))

/-- A fold that carries a value beside the state. -/
theorem SameMems.foldl_fst {α β : Type} {f : State × β → α → State × β} (hf : ∀ v a, SameMems v.1 (f v a).1) (l : List α) (v : State × β) :
    SameMems v.1 (l.foldl f v).1 := by
  induction l generalizing v with
  | nil => exact ⟨rfl, rfl, rfl⟩
  | cons a l ih => exact (hf v a).trans (ih (f v a))

theorem SameMems.foldl_snd {α β : Type} {f : β × State → α → β × State} (hf : ∀ v a, SameMems v.2 (f v a).2) (l : List α) (v : β × State) :
    SameMems v.2 (l.foldl f v).2 := by
  induction l generalizing v with
  | nil => exact ⟨rfl, rfl, rfl⟩
  | cons a l ih => exact (hf v a).trans (ih (f v a))

/-- The state of a pair; said of a variable, so that no proof compares the pairs themselves. -/
theorem SameMems.pair {α : Type} (a : α) (h : SameMems s t) : SameMems s (a, t).2 := h

theorem SameMems.ite {c : Prop} [Decidable c] (ht : SameMems s t) (hu : SameMems s u) : SameMems s (if c then t else u) := by
  split <;> assumption

theorem SameMems.setAxis (h : SameMems s t) (n : Nat) (f : Axis → Axis) : SameMems s (setAxis n f t) := h

theorem SameMems.setDue (h : SameMems s t) (n : Nat) (f : AxDue → AxDue) : SameMems s (setDue n f t) := h

theorem SameMems.ite_snd {α : Type} {c : Prop} [Decidable c] {x y : α × State} (hx : SameMems s x.2) (hy : SameMems s y.2) :
    SameMems s (if c then x else y).2 := by split <;> assumption

theorem KeepsMems.rfl : KeepsMems s s := ⟨Eq.refl _, id, id⟩

theorem KeepsMems.ite {c : Prop} [Decidable c] (ht : KeepsMems s t) (hu : KeepsMems s u) : KeepsMems s (if c then t else u) := by
  split <;> assumption

theorem KeepsMems.foldl {α : Type} {f : State → α → State} (hf : ∀ v a, KeepsMems v (f v a)) (l : List α) (u : State) :
    KeepsMems u (l.foldl f u) := by
  induction l generalizing u with
  | nil => exact .rfl
  | cons a l ih => exact (hf u a).trans (ih (f u a))

/-- A fold that carries a value beside the state. -/
theorem KeepsMems.foldl_fst {α β : Type} {f : State × β → α → State × β} (hf : ∀ v a, KeepsMems v.1 (f v a).1) (l : List α) (v : State × β) :
    KeepsMems v.1 (l.foldl f v).1 := by
  induction l generalizing v with
  | nil => exact .rfl
  | cons a l ih => exact (hf v a).trans (ih (f v a))

theorem KeepsMems.pair_fst {α : Type} (h : KeepsMems s t) (a : α) : KeepsMems s (t, a).1 := h

section
variable {p : List Instr} {m : Memory} {v : Service}

/-- A state that is written out keeps what its three parts keep. -/
theorem SameMems.literal {a1 a2 a3 a4 a5 a7 a8 a9 a10 a11 a12 a13 a15 a16 a17 a18 a19 a20 a21 a22} (hp : p = s.pending) (hm : m = s.sram) (hv : v.sram = s.svc.sram) :
    SameMems s (State.mk p a1 a2 a3 a4 a5 m a7 a8 a9 a10 a11 a12 a13 v a15 a16 a17 a18 a19 a20 a21 a22) := ⟨hp, hm, hv⟩

theorem KeepsMems.literal {a1 a2 a3 a4 a5 a7 a8 a9 a10 a11 a12 a13 a15 a16 a17 a18 a19 a20 a21 a22} (hp : p = s.pending) (hm : LogicForm s.sram → LogicForm m) (hv : ServiceForm s.svc.sram → ServiceForm v.sram) :
    KeepsMems s (State.mk p a1 a2 a3 a4 a5 m a7 a8 a9 a10 a11 a12 a13 v a15 a16 a17 a18 a19 a20 a21 a22) := ⟨hp, hm, hv⟩

end

theorem KeepsMems.setTriF (h : KeepsMems s t) (f : Tri → Tri) : KeepsMems s (setTriF f t) := h

theorem Proceeds.next (h : KeepsMems s t) : Proceeds s (.next t) := ⟨t, rfl, h⟩

theorem Proceeds.next_same (h : SameMems s t) : Proceeds s (.next t) := .next (.of_same h)

theorem Proceeds.ite {c : Prop} [Decidable c] {a b : Host.Outcome State Fault Refusal} (ha : Proceeds s a) (hb : Proceeds s b) :
    Proceeds s (if c then a else b) := by split <;> assumption

end

/-! ### Choices and folds under the three projections -/

section
variable {α : Type} (c : Prop) [Decidable c]

@[simp] theorem pending_ite (s t : State) : (if c then s else t).pending = if c then s.pending else t.pending := apply_ite ..
@[simp] theorem sram_ite (s t : State) : (if c then s else t).sram = if c then s.sram else t.sram := apply_ite ..
@[simp] theorem svc_ite (s t : State) : (if c then s else t).svc = if c then s.svc else t.svc := apply_ite ..
@[simp] theorem service_sram_ite (s t : Service) : (if c then s else t).sram = if c then s.sram else t.sram := apply_ite ..
@[simp] theorem snd_ite (s t : α × State) : (if c then s else t).2 = if c then s.2 else t.2 := apply_ite ..

end

section
variable {α : Type} {f : State → α → State} {l : List α} {s : State}

@[simp] theorem pending_foldl (h : ∀ s a, (f s a).pending = s.pending) : (l.foldl f s).pending = s.pending :=
  List.foldlRecOn (motive := fun t => t.pending = s.pending) l f rfl (fun t ht a _ => (h t a).trans ht)
@[simp] theorem sram_foldl (h : ∀ s a, (f s a).sram = s.sram) : (l.foldl f s).sram = s.sram :=
  List.foldlRecOn (motive := fun t => t.sram = s.sram) l f rfl (fun t ht a _ => (h t a).trans ht)
@[simp] theorem service_sram_foldl (h : ∀ s a, (f s a).svc.sram = s.svc.sram) : (l.foldl f s).svc.sram = s.svc.sram :=
  List.foldlRecOn (motive := fun t => t.svc.sram = s.svc.sram) l f rfl (fun t ht a _ => (h t a).trans ht)

variable {β : Type} {g : β × State → α → β × State} {v : β × State}

@[simp] theorem pending_foldl_snd (h : ∀ v a, (g v a).2.pending = v.2.pending) : (l.foldl g v).2.pending = v.2.pending :=
  List.foldlRecOn (motive := fun t => t.2.pending = v.2.pending) l g rfl (fun t ht a _ => (h t a).trans ht)
@[simp] theorem sram_foldl_snd (h : ∀ v a, (g v a).2.sram = v.2.sram) : (l.foldl g v).2.sram = v.2.sram :=
  List.foldlRecOn (motive := fun t => t.2.sram = v.2.sram) l g rfl (fun t ht a _ => (h t a).trans ht)
@[simp] theorem service_sram_foldl_snd (h : ∀ v a, (g v a).2.svc.sram = v.2.svc.sram) : (l.foldl g v).2.svc.sram = v.2.svc.sram :=
  List.foldlRecOn (motive := fun t => t.2.svc.sram = v.2.svc.sram) l g rfl (fun t ht a _ => (h t a).trans ht)

end

/-! ### The shared functions of the model and their commands -/

@[simp] theorem sameMems_draw (w : Nat) (s : State) : SameMems s (State.draw w s).2 :=
  ⟨rfl, rfl, rfl⟩

@[simp] theorem sameMems_divFree (num : Int) (den : Nat) (s : State) : SameMems s (divFree num den s).2 := by
  unfold divFree
  simp

@[simp] theorem sameMems_drawBytes (n : Nat) (s : State) : SameMems s (drawBytes n s).2 := by
  induction n generalizing s with
  | zero => exact ⟨rfl, rfl, rfl⟩
  | succ n ih => exact ih (s.draw 8).2

@[simp] theorem sameMems_countAclk (k : Nat) (s : State) : SameMems s (countAclk k s) :=
  ⟨rfl, rfl, rfl⟩

@[simp] theorem sameMems_advance (ns : Nat) (s : State) : SameMems s (advance ns s) := by
  unfold advance
  simp

@[simp] theorem sameMems_tickCclk (s : State) : SameMems s (tickCclk s) := by
  unfold tickCclk
  simp

@[simp] theorem sameMems_ctlSet (a : Nat) (v : Word) (s : State) : SameMems s (ctlSet a v s) :=
  ⟨rfl, rfl, rfl⟩

@[simp] theorem keepsMems_sramSet (a : Nat) (v : Word) (s : State) : KeepsMems s (sramSet a v s) :=
  ⟨rfl, sram_wf_sramSet a v s, id⟩

@[simp] theorem keepsMems_sramSetWords (a : Nat) (ws : List Word) (s : State) : KeepsMems s (sramSetWords a ws s) := by
  induction ws generalizing a s with
  | nil => exact ⟨rfl, id, id⟩
  | cons w ws ih => exact (keepsMems_sramSet a w s).trans (ih (a + 4) (sramSet a w s))

@[simp] theorem keepsMems_sramArea (a : Nat) (ws : List Word) (s : State) : KeepsMems s (sramArea a ws s) :=
  ⟨rfl, sram_wf_sramArea a ws s, id⟩

@[simp] theorem keepsMems_sramClear (lo hi : Nat) (s : State) : KeepsMems s (sramClear lo hi s) :=
  ⟨rfl, sram_wf_sramClear lo hi s, id⟩

@[simp] theorem keepsMems_imageInSet (i : Nat) (v : Word) (s : State) : KeepsMems s (imageInSet i v s) := by
  unfold imageInSet
  exact ⟨by simp, fun h => by simp [h], fun h => by simp [h]⟩

@[simp] theorem sameMems_raise (src : Nat) (s : State) : SameMems s (raise src s) :=
  ⟨rfl, rfl, rfl⟩

@[simp] theorem sameMems_loseRec (r : Rec) (s : State) : SameMems s (loseRec r s) :=
  ⟨rfl, rfl, rfl⟩

@[simp] theorem sameMems_stageRec (r : Rec) (s : State) : SameMems s (stageRec r s) := by
  unfold stageRec
  (repeat' split) <;> simp

@[simp] theorem sameMems_klogPut (r : Rec) (s : State) : SameMems s (klogPut r s) :=
  ⟨rfl, rfl, rfl⟩

@[simp] theorem sameMems_noteCode (code : Nat) (s : State) : SameMems s (noteCode code s) := by
  unfold noteCode
  simp

@[simp] theorem sameMems_recordC (code flags count : Nat) (extra : List Byte) (s : State) : SameMems s (recordC code flags count extra s) := by
  unfold recordC
  simp

@[simp] theorem sameMems_recordB (code : Nat) (extra : List Byte) (s : State) : SameMems s (recordB code extra s) := by
  unfold recordB
  simp

@[simp] theorem sameMems_record (code : Nat) (args : List Nat) (s : State) : SameMems s (record code args s) := by
  unfold record
  simp

@[simp] theorem sameMems_setChan (n : Nat) (f : PosChan → PosChan) (s : State) : SameMems s (setChan n f s) :=
  ⟨rfl, rfl, rfl⟩

@[simp] theorem sameMems_sample (m : Nat) (v : Int) (s : State) : SameMems s (sample m v s) := by
  unfold sample
  simp

@[simp] theorem sameMems_applyHeldSamples (s : State) : SameMems s (applyHeldSamples s) := by
  unfold applyHeldSamples
  simp

@[simp] theorem sameMems_askBootRecord (s : State) : SameMems s (askBootRecord s) := by
  unfold askBootRecord
  simp

@[simp] theorem sameMems_persistFrame (s : State) : SameMems s (persistFrame s) :=
  ⟨rfl, rfl, rfl⟩

@[simp] theorem sameMems_askCheckpoint (s : State) : SameMems s (askCheckpoint s) := by
  unfold askCheckpoint
  (repeat' split) <;> simp

@[simp] theorem sameMems_askFrame (s : State) : SameMems s (askFrame s) := by
  unfold askFrame
  (repeat' split) <;> simp

@[simp] theorem sameMems_setBerth (b : Nat) (f : Berth → Berth) (s : State) : SameMems s (setBerth b f s) :=
  ⟨rfl, rfl, rfl⟩

@[simp] theorem sameMems_countRecord (b : Nat) (s : State) : SameMems s (countRecord b s) := by
  unfold countRecord
  simp

@[simp] theorem sameMems_sendReply (b : Nat) (r : Reply) (s : State) : SameMems s (sendReply b r s) := by
  unfold sendReply
  simp

@[simp] theorem sameMems_alertTo (b code : Nat) (payload : List Byte) (s : State) : SameMems s (alertTo b code payload s) := by
  unfold alertTo
  simp

@[simp] theorem sameMems_alertAll (code : Nat) (payload : List Byte) (s : State) : SameMems s (alertAll code payload s) := by
  unfold alertAll
  simp

@[simp] theorem sameMems_flushReplies (b : Nat) (s : State) : SameMems s (flushReplies b s) := by
  unfold flushReplies
  simp

@[simp] theorem sameMems_answerEntry (e : BatchEntry) (a : EntryAnswer) (s : State) : SameMems s (answerEntry e a s) :=
  ⟨rfl, rfl, rfl⟩

@[simp] theorem sameMems_reportMissing (s : State) : SameMems s (reportMissing s) := by
  unfold reportMissing
  simp

@[simp] theorem sameMems_logWords (fuel : Nat) (ws : List (Nat × Word)) (s : State) : SameMems s (logWords fuel ws s) := by
  induction fuel generalizing ws s with
  | zero => exact ⟨rfl, rfl, rfl⟩
  | succ n ih =>
    unfold logWords
    have := fun ws s => (ih ws s).1
    split
    · simp
    · simp [ih]

@[simp] theorem sameMems_logSnapWords (ws : List (Nat × Word)) (s : State) : SameMems s (logSnapWords ws s) := by
  unfold logSnapWords
  simp

@[simp] theorem sameMems_copySnapshot (s : State) : SameMems s (copySnapshot s) := by
  unfold copySnapshot
  simp

@[simp] theorem sameMems_latchSnapshot (src : Nat) (replaces : Bool) (s : State) : SameMems s (latchSnapshot src replaces s) := by
  unfold latchSnapshot
  simp

@[simp] theorem sameMems_requestPeers (s : State) : SameMems s (requestPeers s) := by
  unfold requestPeers
  simp

@[simp] theorem sameMems_mergeSource (src : Nat) (s : State) : SameMems s (mergeSource src s) :=
  ⟨rfl, rfl, rfl⟩

@[simp] theorem sameMems_triggerSnapshot (src : Nat) (local_ : Bool) (s : State) : SameMems s (triggerSnapshot src local_ s) := by
  unfold triggerSnapshot
  simp

@[simp] theorem sameMems_triggerAccordSnapshot (s : State) : SameMems s (triggerAccordSnapshot s) := by
  unfold triggerAccordSnapshot
  simp

@[simp] theorem sameMems_setTp (p : Nat) (f : TpPort → TpPort) (s : State) : SameMems s (setTp p f s) :=
  ⟨rfl, rfl, rfl⟩

@[simp] theorem sameMems_tpSend (p typ : Nat) (payload : List Byte) (s : State) : SameMems s (tpSend p typ payload s) := by
  unfold tpSend
  simp

@[simp] theorem sameMems_tpSendAll (typ : Nat) (payload : List Byte) (s : State) : SameMems s (tpSendAll typ payload s) := by
  unfold tpSendAll
  simp

@[simp] theorem sameMems_tpDrain (p n : Nat) (s : State) : SameMems s (tpDrain p n s) := by
  induction n generalizing s with
  | zero => exact ⟨rfl, rfl, rfl⟩
  | succ n ih =>
    unfold tpDrain
    dsimp only
    (repeat' split) <;> simp [ih]

@[simp] theorem sameMems_setTri (t0 : TriState) (s : State) : SameMems s (setTri t0 s) := by
  unfold setTri
  simp

@[simp] theorem sameMems_setPeer (x : Nat) (f : Peer → Peer) (s : State) : SameMems s (setPeer x f s) :=
  ⟨rfl, rfl, rfl⟩

@[simp] theorem sameMems_setTriF (f : Tri → Tri) (s : State) : SameMems s (setTriF f s) :=
  ⟨rfl, rfl, rfl⟩

@[simp] theorem sameMems_sendCycle (typ : Nat) (payload : List Byte) (s : State) : SameMems s (sendCycle typ payload s) := by
  unfold sendCycle
  simp

@[simp] theorem sameMems_sendRelay (r : Relay) (s : State) : SameMems s (sendRelay r s) := by
  unfold sendRelay
  simp

@[simp] theorem sameMems_setAxis (n : Nat) (f : Axis → Axis) (s : State) : SameMems s (setAxis n f s) :=
  ⟨rfl, rfl, rfl⟩

@[simp] theorem sameMems_noteAxisCode (n code : Nat) (s : State) : SameMems s (noteAxisCode n code s) :=
  ⟨rfl, rfl, rfl⟩

@[simp] theorem sameMems_disableAxes (code : Nat) (s : State) : SameMems s (disableAxes code s) := by
  unfold disableAxes
  simp

@[simp] theorem sameMems_dropReady (s : State) : SameMems s (dropReady s) := by
  unfold dropReady
  simp

@[simp] theorem sameMems_resetBerth (b : Nat) (s : State) : SameMems s (resetBerth b s) := by
  unfold resetBerth
  simp

@[simp] theorem sameMems_resetUnserved (m : Mode) (s : State) : SameMems s (resetUnserved m s) := by
  unfold resetUnserved
  simp

@[simp] theorem sameMems_setMode (m : Mode) (cause : Nat) (s : State) : SameMems s (setMode m cause s) := by
  unfold setMode
  simp

@[simp] theorem sameMems_stopSequencer (s : State) : SameMems s (stopSequencer s) :=
  ⟨rfl, rfl, rfl⟩

@[simp] theorem sameMems_answerAllHeld (s : State) : SameMems s (answerAllHeld s) := by
  unfold answerAllHeld
  simp

@[simp] theorem sameMems_leaveTriad (cause : Nat) (s : State) : SameMems s (leaveTriad cause s) := by
  unfold leaveTriad
  simp

@[simp] theorem sameMems_endBoot (s : State) : SameMems s (endBoot s) := by
  unfold endBoot
  simp

@[simp] theorem sameMems_enterHold (cause : Nat) (s : State) : SameMems s (enterHold cause s) := by
  unfold enterHold
  simp

@[simp] theorem sameMems_enterDegraded (cause : Nat) (s : State) : SameMems s (enterDegraded cause s) := by
  unfold enterDegraded
  simp

@[simp] theorem sameMems_trip (s : State) : SameMems s (trip s) := by
  unfold trip
  simp

@[simp] theorem sameMems_startReinit (region : Nat) (s : State) : SameMems s (startReinit region s) := by
  unfold startReinit
  simp

@[simp] theorem sameMems_beginReinit (region : Nat) (s : State) : SameMems s (beginReinit region s) := by
  unfold beginReinit
  simp

@[simp] theorem sameMems_endReset (b : Nat) (s : State) : SameMems s (endReset b s) :=
  ⟨rfl, rfl, rfl⟩

@[simp] theorem sameMems_recordRefusals (b code n arg : Nat) (s : State) : SameMems s (recordRefusals b code n arg s) := by
  unfold recordRefusals
  simp

@[simp] theorem sameMems_recordRefusal (b code arg : Nat) (s : State) : SameMems s (recordRefusal b code arg s) := by
  unfold recordRefusal
  simp

@[simp] theorem sameMems_flushRefusals (s : State) (b : Nat) : SameMems s (flushRefusals s b) := by
  unfold flushRefusals
  simp

@[simp] theorem sameMems_refuseAccess (b code arg : Nat) (s : State) : SameMems s (refuseAccess b code arg s) := by
  unfold refuseAccess
  simp

@[simp] theorem sameMems_refuseMsg (b typ : Nat) (tag : Word) (code arg : Nat) (s : State) : SameMems s (refuseMsg b typ tag code arg s) := by
  unfold refuseMsg
  simp

@[simp] theorem sameMems_replyOk (b typ : Nat) (tag : Word) (body : List Byte) (s : State) : SameMems s (replyOk b typ tag body s) := by
  unfold replyOk
  simp

@[simp] theorem sameMems_touch (b : Nat) (s : State) : SameMems s (touch b s) :=
  ⟨rfl, rfl, rfl⟩

@[simp] theorem sameMems_gate (b typ : Nat) (m : MsgHead) (body : List Byte) (shapeOk permitted : Bool) (s : State) (k : State → State)
    (hk : ∀ v, SameMems v (k v)) : SameMems s (gate b typ m body shapeOk permitted s k) := by
  have hp := fun v => (hk v).1
  have hm := fun v => (hk v).2.1
  have hv := fun v => (hk v).2.2
  unfold gate
  simp [hp, hm, hv]

@[simp] theorem sameMems_gateRoles (b typ : Nat) (m : MsgHead) (body : List Byte) (shapeOk : Bool) (roles : List Nat) (s : State)
    (k : State → State) (hk : ∀ v, SameMems v (k v)) : SameMems s (gateRoles b typ m body shapeOk roles s k) :=
  sameMems_gate b typ m body shapeOk _ s k hk

@[simp] theorem sameMems_lockBerth (b : Nat) (s : State) : SameMems s (lockBerth b s) := by
  unfold lockBerth
  simp

@[simp] theorem sameMems_globalFailure (s : State) : SameMems s (globalFailure s) := by
  unfold globalFailure
  simp

@[simp] theorem sameMems_failedOpen (b : Nat) (s : State) : SameMems s (failedOpen b s) := by
  unfold failedOpen
  simp

@[simp] theorem sameMems_openWith (b : Nat) (leaf : Signer) (s : State) : SameMems s (openWith b leaf s) := by
  unfold openWith
  simp

@[simp] theorem sameMems_openFails (b code : Nat) (s : State) : SameMems s (openFails b code s) := by
  unfold openFails
  simp

@[simp] theorem sameMems_policyChanged (s : State) : SameMems s (policyChanged s) := by
  unfold policyChanged
  simp

@[simp] theorem sameMems_setJnl (f : Journal → Journal) (s : State) : SameMems s (setJnl f s) :=
  ⟨rfl, rfl, rfl⟩

@[simp] theorem sameMems_writeRec (r : Rec) (s : State) : SameMems s (writeRec r s) := by
  unfold writeRec
  simp

@[simp] theorem sameMems_storeFault (s : State) : SameMems s (storeFault s) := by
  unfold storeFault
  simp

@[simp] theorem sameMems_retireUnit (u0 : Nat) (s : State) : SameMems s (retireUnit u0 s) := by
  unfold retireUnit
  simp

@[simp] theorem sameMems_fillFlacon (s : State) : SameMems s (fillFlacon s) := by
  unfold fillFlacon
  simp

@[simp] theorem sameMems_formSigned (s : State) : SameMems s (formSigned s) := by
  unfold formSigned
  dsimp only
  (repeat' split) <;> simp

@[simp] theorem sameMems_addSignature (s : State) : SameMems s (addSignature s) := by
  unfold addSignature
  (repeat' split) <;> simp

@[simp] theorem sameMems_answerSeals (all : Bool) (s : State) : SameMems s (answerSeals all s) := by
  unfold answerSeals
  simp

@[simp] theorem sameMems_releaseHeld (s : State) : SameMems s (releaseHeld s) := by
  unfold releaseHeld
  simp

@[simp] theorem sameMems_finishScan (s : State) : SameMems s (finishScan s) := by
  unfold finishScan
  dsimp only
  (repeat' split) <;> simp

@[simp] theorem sameMems_jack (k : Nat) (c : List Byte) (s : State) : SameMems s (jack k c s).2 := by
  unfold jack
  simp

@[simp] theorem sameMems_rearmRec (arm units : Nat) (s : State) : SameMems s (rearmRec arm units s) := by
  unfold rearmRec
  simp

@[simp] theorem sameMems_jrearm (s : State) : SameMems s (jrearm s).2 := by
  unfold jrearm
  simp

@[simp] theorem sameMems_clearMetric (m : Nat) (s : State) : SameMems s (clearMetric m s) := by
  unfold clearMetric
  simp

@[simp] theorem sameMems_doorCycle (w0 w1 w2 w3 : Word) (late : Bool) (dtime : Nat) (s : State) :
    SameMems s (doorCycle w0 w1 w2 w3 late dtime s) := by
  unfold doorCycle
  extract_lets axes acc largest start ms flags r s1
  have h1 : SameMems s s1 := (sameMems_stageRec r s).trans (SameMems.foldl (fun _ _ => by simp) _ _)
  refine h1.trans (SameMems.foldl (fun _ _ => ?_) _ _)
  simp

@[simp] theorem sameMems_journalSlot (slot : Nat) (w0 w1 w2 w3 : Word) (late : Bool) (s : State) : SameMems s (journalSlot slot w0 w1 w2 w3 late s) := by
  unfold journalSlot
  simp

@[simp] theorem sameMems_journalSlots (late : Bool) (s : State) : SameMems s (journalSlots late s) := by
  unfold journalSlots
  simp

@[simp] theorem sameMems_setSvc (c : Nat) (f : SvcCore → SvcCore) (s : State) : SameMems s (setSvc c f s) :=
  ⟨rfl, rfl, rfl⟩

@[simp] theorem sameMems_setSrc (k : Nat) (f : EvSource → EvSource) (s : State) : SameMems s (setSrc k f s) :=
  ⟨rfl, rfl, rfl⟩

@[simp] theorem sameMems_evEdge (k : Nat) (s : State) : SameMems s (evEdge k s) := by
  unfold evEdge
  simp

@[simp] theorem sameMems_srcClear (k : Nat) (s : State) : SameMems s (srcClear k s) :=
  ⟨rfl, rfl, rfl⟩

@[simp] theorem sameMems_srcCfgWrite (k : Nat) (v : Word) (s : State) : SameMems s (srcCfgWrite k v s) := by
  unfold srcCfgWrite
  simp

@[simp] theorem keepsMems_svcSet (i : Nat) (v : Word) (s : State) : KeepsMems s (svcSet i v s) :=
  ⟨rfl, id, svc_wf_svcSet i v s⟩

@[simp] theorem sameMems_mpuView (c : Nat) (s : State) : SameMems s (mpuView c s).2 := by
  unfold mpuView
  generalize (s.svcCore c).mpuOld = l
  generalize (s.svcCore c).mpu = m
  induction l generalizing m s with
  | nil => exact ⟨rfl, rfl, rfl⟩
  | cons p l ih => exact ih _ _

@[simp] theorem sameMems_mpuAllows (c : Nat) (priv : Bool) (kind a : Nat) (s : State) : SameMems s (mpuAllows c priv kind a s).2 := by
  unfold mpuAllows
  simp

@[simp] theorem sameMems_serviceReinit (s : State) : SameMems s (serviceReinit s) := by
  unfold serviceReinit
  simp

@[simp] theorem sameMems_dropSessions (s : State) : SameMems s (dropSessions s) := by
  unfold dropSessions
  simp

@[simp] theorem sameMems_svcFatal (c cause : Nat) (s : State) : SameMems s (svcFatal c cause s) := by
  unfold svcFatal
  simp

@[simp] theorem sameMems_svcFatalFree (c : Nat) (s : State) : SameMems s (svcFatalFree c s) := by
  unfold svcFatalFree
  simp

@[simp] theorem keepsMems_saveFrame (c pc : Nat) (s : State) : KeepsMems s (saveFrame c pc s).2 := by
  unfold saveFrame
  extract_lets k sp ok ws s1
  have hok : SameMems s ok.2 := sameMems_mpuAllows ..
  have h1 : KeepsMems s s1 := (KeepsMems.of_same hok).trans (.foldl (fun _ _ => keepsMems_svcSet ..) _ _)
  clear_value s1 ok
  (repeat' split)
  · exact .of_same (by simp)
  · exact .of_same (hok.trans (by simp))
  · exact h1.trans (.of_same (by simp))

@[simp] theorem keepsMems_svcException (c code imm pc : Nat) (s : State) : KeepsMems s (svcException c code imm pc s) := by
  unfold svcException
  dsimp only
  (repeat' split)
  · exact .of_same (by simp)
  · exact keepsMems_saveFrame c pc s
  · exact (keepsMems_saveFrame c pc s).trans (.of_same (by simp))

@[simp] theorem sameMems_svcEret (c : Nat) (s : State) : SameMems s (svcEret c s) := by
  unfold svcEret
  simp

@[simp] theorem sameMems_svcEoi (c : Nat) (s : State) : SameMems s (svcEoi c s) := by
  unfold svcEoi
  simp

@[simp] theorem sameMems_claimSource (c k prio : Nat) (s : State) : SameMems s (claimSource c k prio s) := by
  unfold claimSource
  simp

@[simp] theorem sameMems_noteSpurious (c : Nat) (s : State) : SameMems s (noteSpurious c s) := by
  unfold noteSpurious
  simp

@[simp] theorem sameMems_flushSpurious (s : State) (c : Nat) : SameMems s (flushSpurious s c) := by
  unfold flushSpurious
  dsimp only
  (repeat' split) <;> simp

@[simp] theorem sameMems_claimPresented (c : Nat) (s : State) : SameMems s (claimPresented c s) := by
  unfold claimPresented
  (repeat' split) <;> simp

@[simp] theorem keepsMems_presentTo (c : Nat) (tail : Bool) (s : State) : KeepsMems s (presentTo c tail s) := by
  have saved := keepsMems_saveFrame c (s.svcCore c).pc s
  unfold presentTo
  dsimp only
  (repeat' split)
  · exact .rfl
  · exact .of_same (by simp)
  · exact saved.trans (.of_same (by simp))
  · exact saved

@[simp] theorem sameMems_stmrWrite (t0 : Nat) (v : Word) (s : State) : SameMems s (stmrWrite t0 v s) :=
  ⟨rfl, rfl, rfl⟩

@[simp] theorem sameMems_setPort (p : Nat) (f : Port → Port) (s : State) : SameMems s (setPort p f s) :=
  ⟨rfl, rfl, rfl⟩

@[simp] theorem sameMems_enqueue (p q : Nat) (frame : List Byte) (s : State) : SameMems s (enqueue p q frame s) :=
  ⟨rfl, rfl, rfl⟩

@[simp] theorem sameMems_drainPort (s : State) (p : Nat) : SameMems s (drainPort s p) :=
  ⟨rfl, rfl, rfl⟩

@[simp] theorem sameMems_drainPorts (s : State) : SameMems s (drainPorts s) := by
  unfold drainPorts
  simp

@[simp] theorem sameMems_portDown (p : Nat) (s : State) : SameMems s (portDown p s) := by
  unfold portDown
  simp

@[simp] theorem sameMems_countRx (p : Nat) (s : State) : SameMems s (countRx p s) :=
  ⟨rfl, rfl, rfl⟩

@[simp] theorem sameMems_countFcs (p : Nat) (s : State) : SameMems s (countFcs p s) :=
  ⟨rfl, rfl, rfl⟩

@[simp] theorem sameMems_countOther (p : Nat) (s : State) : SameMems s (countOther p s) :=
  ⟨rfl, rfl, rfl⟩

@[simp] theorem sameMems_connsFirstUse (s : State) : SameMems s (connsFirstUse s) :=
  ⟨rfl, rfl, rfl⟩

@[simp] theorem sameMems_activateConf (payload : List Byte) (s : State) : SameMems s (activateConf payload s) :=
  ⟨rfl, rfl, rfl⟩

@[simp] theorem sameMems_setEpoch (s : State) : SameMems s (setEpoch s) :=
  ⟨rfl, rfl, rfl⟩

@[simp] theorem sameMems_raiseCeiling (s : State) : SameMems s (raiseCeiling s) := by
  unfold raiseCeiling
  simp

@[simp] theorem sameMems_setConn (c : Nat) (f : Conn → Conn) (s : State) : SameMems s (setConn c f s) :=
  ⟨rfl, rfl, rfl⟩

@[simp] theorem sameMems_connRecord (c code : Nat) (args : List Nat) (s : State) : SameMems s (connRecord c code args s) := by
  unfold connRecord
  simp

@[simp] theorem sameMems_flushViolations (s : State) : SameMems s (flushViolations s) := by
  unfold flushViolations
  simp

@[simp] theorem sameMems_closeInterval (s : State) : SameMems s (closeInterval s) := by
  unfold closeInterval
  simp

@[simp] theorem sameMems_portViolation (p code : Nat) (s : State) : SameMems s (portViolation p code s) := by
  unfold portViolation
  simp

@[simp] theorem sameMems_connViolation (c code : Nat) (s : State) : SameMems s (connViolation c code s) := by
  unfold connViolation
  simp

@[simp] theorem keepsMems_sramFill (a n : Nat) (ws : List Word) (s : State) : KeepsMems s (sramFill a n ws s) := by
  unfold sramFill
  exact ⟨by simp, fun h => by simp [h], fun h => by simp [h]⟩

@[simp] theorem keepsMems_placeMsg (c buf : Nat) (ws : List Word) (s : State) : KeepsMems s (placeMsg c buf ws s) := by
  unfold placeMsg
  exact ⟨by simp, fun h => by simp [h], fun h => by simp [h]⟩

@[simp] theorem sameMems_relayOwn (c : Nat) (seq : Word) (ws : List Word) (s : State) : SameMems s (relayOwn c seq ws s) := by
  unfold relayOwn
  simp

@[simp] theorem keepsMems_acceptInner (c : Nat) (inner : List Byte) (s : State) : KeepsMems s (acceptInner c inner s) := by
  unfold acceptInner
  dsimp only
  (repeat' split) <;> exact ⟨by simp, fun h => by simp [h], fun h => by simp [h]⟩

@[simp] theorem keepsMems_checkUnit (p : Nat) (f : NetFrame) (s : State) : KeepsMems s (checkUnit p f s) := by
  unfold checkUnit
  dsimp only
  (repeat' split) <;> exact ⟨by simp, fun h => by simp [h], fun h => by simp [h]⟩

@[simp] theorem sameMems_connTo (c st : Nat) (s : State) : SameMems s (connTo c st s) := by
  unfold connTo
  simp

@[simp] theorem sameMems_deliver (c : Nat) (m : SlotMsg) (missed shown : Nat) (gap : Bool) (s : State) : SameMems s (deliver c m missed shown gap s) :=
  ⟨rfl, rfl, rfl⟩

@[simp] theorem sameMems_updateMsg (c : Nat) (s : State) : SameMems s (updateMsg c s) := by
  unfold updateMsg
  dsimp only
  (repeat' split) <;> simp

@[simp] theorem keepsMems_connUpdate (c : Nat) (s : State) : KeepsMems s (connUpdate c s) := by
  unfold connUpdate
  dsimp only
  (repeat' split) <;> exact ⟨by simp, fun h => by simp [h], fun h => by simp [h]⟩

@[simp] theorem sameMems_countStates (s : State) : SameMems s (countStates s) :=
  ⟨rfl, rfl, rfl⟩

@[simp] theorem keepsMems_connUpdateAll (s : State) : KeepsMems s (connUpdateAll s) :=
  (KeepsMems.foldl (fun _ _ => keepsMems_connUpdate ..) _ s).trans (.of_same (sameMems_countStates _))

@[simp] theorem keepsMems_swapInbox (s : State) : KeepsMems s (swapInbox s) := by
  unfold swapInbox
  exact ⟨by simp, fun h => by simp [h], fun h => by simp [h]⟩

@[simp] theorem keepsMems_unswapConn (c : Nat) (s : State) : KeepsMems s (unswapConn c s) := by
  unfold unswapConn
  dsimp only
  (repeat' split) <;> exact ⟨by simp, fun h => by simp [h], fun h => by simp [h]⟩

@[simp] theorem keepsMems_unswapInbox (s : State) : KeepsMems s (unswapInbox s) :=
  KeepsMems.foldl (fun _ _ => keepsMems_unswapConn ..) _ s

@[simp] theorem sameMems_allSafe (s : State) : SameMems s (allSafe s) := by
  unfold allSafe
  simp

@[simp] theorem sameMems_netRestart (s : State) : SameMems s (netRestart s) := by
  unfold netRestart
  simp

@[simp] theorem sameMems_sendUnit (c : Nat) (u0 : List Byte) (s : State) : SameMems s (sendUnit c u0 s) := by
  unfold sendUnit
  simp

@[simp] theorem sameMems_sealConn (c : Nat) (s : State) : SameMems s (sealConn c s) := by
  unfold sealConn
  simp

@[simp] theorem sameMems_sealAll (s : State) : SameMems s (sealAll s) := by
  unfold sealAll
  simp

@[simp] theorem sameMems_takeControl (s : State) : SameMems s (takeControl s) :=
  ⟨rfl, rfl, rfl⟩

@[simp] theorem sameMems_setCore (c : Nat) (f : Core → Core) (s : State) : SameMems s (setCore c f s) :=
  ⟨rfl, rfl, rfl⟩

@[simp] theorem sameMems_setPass (c : Nat) (p : Pass) (f : PassCtx → PassCtx) (s : State) : SameMems s (setPass c p f s) :=
  ⟨rfl, rfl, rfl⟩

@[simp] theorem sameMems_setArch (c : Nat) (p : Pass) (f : Arch → Arch) (s : State) : SameMems s (setArch c p f s) :=
  ⟨rfl, rfl, rfl⟩

@[simp] theorem sameMems_setSplit (c k : Nat) (f : SplitCtx → SplitCtx) (s : State) : SameMems s (setSplit c k f s) :=
  ⟨rfl, rfl, rfl⟩

@[simp] theorem sameMems_setReg (ctx : Ctx) (g : Nat) (v : Word) (bad : Bool) (s : State) : SameMems s (setReg ctx g v bad s) := by
  unfold setReg
  (repeat' split) <;> simp

@[simp] theorem sameMems_setPc (ctx : Ctx) (pc : Nat) (s : State) : SameMems s (setPc ctx pc s) := by
  unfold setPc
  (repeat' split) <;> simp

@[simp] theorem sameMems_stepPc (ctx : Ctx) (s : State) : SameMems s (stepPc ctx s) := by
  unfold stepPc
  simp

@[simp] theorem keepsMems_stateWrite (i : Nat) (v : Word) (s : State) : KeepsMems s (stateWrite i v s) :=
  KeepsMems.foldl (fun _ _ => keepsMems_sramSet ..) _ s

@[simp] theorem keepsMems_paramWrite (i : Nat) (v : Word) (s : State) : KeepsMems s (paramWrite i v s) := by
  unfold paramWrite
  exact ⟨by simp, fun h => by simp [h], fun h => by simp [h]⟩

theorem proceeds_execProof (b : Fin 8) (m : MsgHead) (sig chain : List Byte) (s : State) :
    Proceeds s (execProof b m sig chain s) := by
  refine .next_same (sameMems_gate _ _ _ _ _ _ _ _ (fun v => ?_))
  dsimp only
  (repeat' split) <;> simp

@[simp] theorem sameMems_takeEntry (b msg stamp : Nat) (e : CmdEntry) (place : Nat) (s : State) : SameMems s (takeEntry b msg stamp e place s) := by
  unfold takeEntry
  (repeat' split) <;> simp

@[simp] theorem sameMems_replyRead (b typ : Nat) (tag : Word) (r : Nat × List Byte) (s : State) : SameMems s (replyRead b typ tag r s) := by
  unfold replyRead
  simp

theorem proceeds_execJseal (b : Fin 8) (m : MsgHead) (s : State) : Proceeds s (execJseal b m s) := by
  refine .next_same (sameMems_gateRoles _ _ _ _ _ _ _ _ (fun v => ?_))
  dsimp only
  (repeat' split) <;> simp

@[simp] theorem sameMems_refuseEnvelope (b : Nat) (tag : Word) (code : Nat) (s : State) : SameMems s (refuseEnvelope b tag code s) := by
  unfold refuseEnvelope
  simp

@[simp] theorem sameMems_tlsFails (b alert : Nat) (s : State) : SameMems s (tlsFails b alert s) := by
  unfold tlsFails
  simp

@[simp] theorem sameMems_startSession (b : Nat) (s : State) : SameMems s (startSession b s) := by
  unfold startSession
  simp

@[simp] theorem sameMems_setStand (k : Nat) (f : Standstill → Standstill) (s : State) : SameMems s (setStand k f s) :=
  ⟨rfl, rfl, rfl⟩

@[simp] theorem sameMems_ssWithdraw (k cause : Nat) (s : State) : SameMems s (ssWithdraw k cause s) := by
  unfold ssWithdraw
  simp

@[simp] theorem sameMems_ssLook (k since : Nat) (s : State) : SameMems s (ssLook k since s) := by
  unfold ssLook
  simp

@[simp] theorem sameMems_ssEval (k : Nat) (s : State) : SameMems s (ssEval k s) := by
  unfold ssEval
  simp

@[simp] theorem sameMems_ssPass (s : State) : SameMems s (ssPass s) := by
  unfold ssPass
  simp

@[simp] theorem sameMems_chanTime (atNs : Nat) (s : State) : SameMems s (chanTime atNs s) := by
  unfold chanTime
  simp

@[simp] theorem sameMems_ssEvalAll (s : State) : SameMems s (ssEvalAll s) := by
  unfold ssEvalAll
  simp

@[simp] theorem sameMems_ssStep (n : Nat) (s : State) : SameMems s (ssStep n s) :=
  ⟨pending_foldl (fun _ _ => rfl), sram_foldl (fun _ _ => rfl), service_sram_foldl (fun _ _ => rfl)⟩

@[simp] theorem sameMems_setEnc (e : Nat) (f : EncOut → EncOut) (s : State) : SameMems s (setEnc e f s) :=
  ⟨rfl, rfl, rfl⟩

@[simp] theorem sameMems_eoFollow (e : Nat) (s : State) : SameMems s (eoFollow e s) := by
  unfold eoFollow
  simp

@[simp] theorem sameMems_eoFollowAll (axes : Bool) (s : State) : SameMems s (eoFollowAll axes s) := by
  unfold eoFollowAll
  simp

@[simp] theorem sameMems_chanChanged (s : State) : SameMems s (chanChanged s) := by
  unfold chanChanged
  simp

@[simp] theorem sameMems_flushChanCode (n code : Nat) (s : State) : SameMems s (flushChanCode n code s) := by
  unfold flushChanCode
  dsimp only
  (repeat' split) <;> simp

@[simp] theorem sameMems_flushChan (n : Nat) (s : State) : SameMems s (flushChan n s) := by
  unfold flushChan
  simp

@[simp] theorem sameMems_flushChannels (s : State) : SameMems s (flushChannels s) := by
  unfold flushChannels
  simp

@[simp] theorem sameMems_chanRecord (n code arg : Nat) (s : State) : SameMems s (chanRecord n code arg s) := by
  unfold chanRecord
  simp

@[simp] theorem sameMems_countStep (n : Nat) (up : Bool) (s : State) : SameMems s (countStep n up s) := by
  unfold countStep
  simp

@[simp] theorem sameMems_unhome (n : Nat) (s : State) : SameMems s (unhome n s) := by
  unfold unhome
  simp

@[simp] theorem sameMems_chanInvalidate (n : Nat) (s : State) : SameMems s (chanInvalidate n s) := by
  unfold chanInvalidate
  simp

@[simp] theorem sameMems_chanError (n code arg : Nat) (imp line : Bool) (s : State) : SameMems s (chanError n code arg imp line s) := by
  unfold chanError
  simp

@[simp] theorem sameMems_chanValidate (n code : Nat) (s : State) : SameMems s (chanValidate n code s) := by
  unfold chanValidate
  simp

@[simp] theorem sameMems_chanFirstUse (n : Nat) (s : State) : SameMems s (chanFirstUse n s) := by
  unfold chanFirstUse
  simp

@[simp] theorem sameMems_setHead (k : Nat) (f : Head → Head) (s : State) : SameMems s (setHead k f s) :=
  ⟨rfl, rfl, rfl⟩

@[simp] theorem sameMems_setSection (k : Nat) (f : Section → Section) (s : State) : SameMems s (setSection k f s) :=
  ⟨rfl, rfl, rfl⟩

@[simp] theorem sameMems_secState (k : Nat) (t0 : SecState) (s : State) : SameMems s (secState k t0 s) := by
  unfold secState
  simp

@[simp] theorem sameMems_disturb (k bit : Nat) (s : State) : SameMems s (disturb k bit s) := by
  unfold disturb
  simp

@[simp] theorem sameMems_secRestored (k : Nat) (s : State) : SameMems s (secRestored k s) := by
  unfold secRestored
  simp

@[simp] theorem sameMems_secStep (k : Nat) (enter : Bool) (s : State) : SameMems s (secStep k enter s) := by
  unfold secStep
  dsimp only
  (repeat' split) <;> simp

@[simp] theorem sameMems_headNotReady (k : Nat) (seqErr : Bool) (arg1 arg2 : Nat) (s : State) : SameMems s (headNotReady k seqErr arg1 arg2 s) := by
  unfold headNotReady
  simp

@[simp] theorem sameMems_headCount (k : Nat) (isIn : Bool) (s : State) : SameMems s (headCount k isIn s) := by
  unfold headCount
  simp

@[simp] theorem sameMems_headSample (k num ra rb : Nat) (s : State) : SameMems s (headSample k num ra rb s).1 := by
  unfold headSample
  dsimp only
  (repeat' split) <;> simp

@[simp] theorem sameMems_applySteps (steps : List (Nat × Bool)) (s : State) : SameMems s (applySteps steps s) := by
  unfold applySteps
  simp

@[simp] theorem sameMems_disturbBounds (k bit : Nat) (s : State) : SameMems s (disturbBounds k bit s) := by
  unfold disturbBounds
  simp

@[simp] theorem sameMems_sectionFirstUse (k : Nat) (s : State) : SameMems s (sectionFirstUse k s) := by
  unfold sectionFirstUse
  simp

@[simp] theorem sameMems_feedbackFirstUse (s : State) : SameMems s (feedbackFirstUse s) := by
  unfold feedbackFirstUse
  simp

@[simp] theorem sameMems_encodersFirstUse (s : State) : SameMems s (encodersFirstUse s) := by
  unfold encodersFirstUse
  simp

@[simp] theorem sameMems_sectionCommand (cmd k : Nat) (fieldsOk excess : Bool) (s : State) : SameMems s (sectionCommand cmd k fieldsOk excess s) := by
  unfold sectionCommand
  simp

@[simp] theorem sameMems_sectionPost (cmd : Nat) (a b c : Word) (excess : Bool) (s : State) : SameMems s (sectionPost cmd a b c excess s) := by
  unfold sectionPost
  simp

@[simp] theorem sameMems_putVal (c : Nat) (p : Pass) (v : Val) (bad : Bool) (s : State) : SameMems s (putVal c p v bad s) :=
  ⟨rfl, rfl, rfl⟩

@[simp] theorem sameMems_spoil (c : Nat) (p : Pass) (s : State) : SameMems s (spoil c p s) :=
  ⟨rfl, rfl, rfl⟩

@[simp] theorem sameMems_accordFault (c code : Nat) (args : List Nat) (s : State) : SameMems s (accordFault c code args s) := by
  unfold accordFault
  simp

@[simp] theorem sameMems_accordFailure (c code : Nat) (args : List Nat) (s : State) : SameMems s (accordFailure c code args s) := by
  unfold accordFailure
  simp

@[simp] theorem sameMems_postTo (motion : Bool) (c ord : Nat) (a b w : Word) (s : State) : SameMems s (postTo motion c ord a b w s) := by
  unfold postTo
  simp

@[simp] theorem keepsMems_commitStore (c ord : Nat) (sp : Space) (i : Nat) (v : Word) (s : State) : KeepsMems s (commitStore c ord sp i v s) := by
  unfold commitStore
  (repeat' split) <;> exact ⟨by simp, fun h => by simp [h], fun h => by simp [h]⟩

@[simp] theorem sameMems_commitException (c code : Nat) (pc obj : BitVec 20) (acode : BitVec 16) (typ : BitVec 8) (s : State) : SameMems s (commitException c code pc obj acode typ s) := by
  unfold commitException
  simp

@[simp] theorem keepsMems_commitOut (c ord : Nat) (typ : BitVec 8) (o : BusOut) (s : State) : KeepsMems s (commitOut c ord typ o s) := by
  unfold commitOut
  (repeat' split) <;> exact ⟨by simp, fun h => by simp [h], fun h => by simp [h]⟩

@[simp] theorem sameMems_countOutvote (c : Nat) (p : Pass) (g : Nat) (s : State) : SameMems s (countOutvote c p g s) := by
  unfold countOutvote
  simp

@[simp] theorem keepsMems_renewWord (a : Nat) (v : Word) (s : State) : KeepsMems s (renewWord a v s) := by
  unfold renewWord
  exact ⟨by simp, fun h => by simp [h], fun h => by simp [h]⟩

@[simp] theorem keepsMems_rewritePoisoned (c : Nat) (p : Pass) (g : Nat) (s : State) : KeepsMems s (rewritePoisoned c p g s) := by
  refine KeepsMems.foldl (fun v k => ?_) _ s
  split
  · exact keepsMems_renewWord ..
  · exact keepsMems_renewWord ..
  · exact .ite (keepsMems_renewWord ..) .rfl
  all_goals exact .rfl

@[simp] theorem keepsMems_recover (c : Nat) (p : Pass) (g : Nat) (pc : BitVec 20) (s : State) : KeepsMems s (recover c p g pc s) := by
  refine KeepsMems.trans (.of_same ?_) (keepsMems_rewritePoisoned c p g _)
  cases p <;> simp

@[simp] theorem sameMems_endPass (c : Nat) (p : Pass) (g : Nat) (s : State) : SameMems s (endPass c p g s) :=
  ⟨rfl, rfl, rfl⟩

@[simp] theorem sameMems_dropSegment (c g : Nat) (s : State) : SameMems s (dropSegment c g s) :=
  ⟨rfl, rfl, rfl⟩

@[simp] theorem keepsMems_closeSegment (c g : Nat) (t h b : Option CloseRec) (s : State) : KeepsMems s (closeSegment c g t h b s) := by
  unfold closeSegment
  dsimp only
  split
  · exact .of_same (by simp)
  split
  · exact .of_same (by simp)
  · refine KeepsMems.trans (KeepsMems.ite ?_ ?_) (.of_same (sameMems_dropSegment ..))
    · refine KeepsMems.trans ?_ (keepsMems_rewritePoisoned ..)
      exact .of_same (by simp)
    · refine KeepsMems.trans ?_ (keepsMems_recover ..)
      exact .of_same (by simp)
  · exact .of_same (by simp)

@[simp] theorem keepsMems_decidePosition (c g j : Nat) (s : State) : KeepsMems s (decidePosition c g j s) := by
  unfold decidePosition
  dsimp only
  split
  · exact .of_same (by simp)
  split
  · refine KeepsMems.trans ?_ (keepsMems_commitOut ..)
    exact .of_same ⟨rfl, rfl, rfl⟩
  all_goals exact .of_same (by simp)

theorem keepsMems_settleStep {c : Nat} {s t : State} (h : settleStep c s = some t) : KeepsMems s t := by
  unfold settleStep at h
  dsimp only at h
  split at h
  · exact absurd h (by simp)
  split at h
  · obtain rfl := Option.some.inj h
    exact keepsMems_decidePosition ..
  · obtain rfl := Option.some.inj h
    exact keepsMems_closeSegment ..

@[simp] theorem keepsMems_settleN (c n : Nat) (s : State) : KeepsMems s (settleN c n s) := by
  induction n generalizing s with
  | zero => exact .rfl
  | succ n ih =>
    unfold settleN
    split
    · exact .rfl
    split
    · exact .rfl
    · next h => exact (keepsMems_settleStep h).trans (ih _)

@[simp] theorem keepsMems_settle (c : Nat) (s : State) : KeepsMems s (settle c s) := keepsMems_settleN ..

@[simp] theorem keepsMems_raiseJoined (c : Nat) (p : Pass) (code : Nat) (acode : BitVec 16) (pois : Bool) (s : State) :
    KeepsMems s (raiseJoined c p code acode pois s) := by
  refine KeepsMems.trans ?_ (keepsMems_settle ..)
  exact .of_same (by simp)

@[simp] theorem sameMems_raiseSplit (c k code : Nat) (acode : BitVec 16) (s : State) : SameMems s (raiseSplit c k code acode s) := by
  unfold raiseSplit
  simp

@[simp] theorem keepsMems_raiseIn (ctx : Ctx) (code svc : Nat) (acode : BitVec 16) (pois : Bool) (s : State) :
    KeepsMems s (raiseIn ctx code svc acode pois s) := by
  cases ctx with
  | joined c p => exact keepsMems_raiseJoined ..
  | split c k => exact .of_same (by simp [raiseIn])
  | service c => exact keepsMems_svcException ..

@[simp] theorem keepsMems_raiseInvalid (ctx : Ctx) (s : State) : KeepsMems s (raiseInvalid ctx s) := keepsMems_raiseIn ..

@[simp] theorem sameMems_setStall (c : Nat) (p : Pass) (x : Stall) (s : State) : SameMems s (setStall c p x s) :=
  ⟨rfl, rfl, rfl⟩

@[simp] theorem sameMems_useSlots (c : Nat) (p : Pass) (t0 n : Nat) (counted : Bool) (s : State) : SameMems s (useSlots c p t0 n counted s) :=
  ⟨rfl, rfl, rfl⟩

theorem keepsMems_issueJoined (c : Nat) (p : Pass) (slots used : Nat) (reads : List Nat) (closes bad : Bool) {k : State → State}
    (hk : ∀ v, KeepsMems v (k v)) (s : State) : KeepsMems s (issueJoined c p slots used reads closes bad k s) := by
  have raises : ∀ (t code : Nat) (b : Bool), KeepsMems s (raiseJoined c p code 0 b (useSlots c p t 1 false s)) := fun t code b =>
    KeepsMems.trans (.of_same (sameMems_useSlots ..)) (keepsMems_raiseJoined ..)
  have goes : ∀ (t : Nat) (b : Bool), KeepsMems s (k (if bad then spoil c p (useSlots c p t used b s) else useSlots c p t used b s)) :=
    fun t b => by
      refine KeepsMems.trans ?_ (hk _)
      exact .of_same (by simp)
  exact .ite .rfl (.ite (.of_same (by simp)) (.ite (.of_same (by simp)) (.ite (.of_same (by simp)) (.ite (raises ..) (.ite (raises ..) (goes ..))))))

theorem keepsMems_issueSplit (c j : Nat) {k : State → State} (hk : ∀ v, KeepsMems v (k v)) (s : State) :
    KeepsMems s (issueSplit c j k s) :=
  .ite .rfl (.ite (.of_same (by simp)) (hk s))

theorem keepsMems_issueService (c : Nat) (bad : Bool) {k : State → State} (hk : ∀ v, KeepsMems v (k v)) (s : State) :
    KeepsMems s (issueService c bad k s) := by
  unfold issueService
  refine .ite .rfl ?_
  dsimp only
  refine .ite (.of_same (by simp)) ?_
  generalize hf : mpuAllows c _ _ _ _ = f
  have hs : SameMems s f.2 := by
    rw [← hf]
    simp
  exact .ite ((KeepsMems.of_same hs).trans (keepsMems_svcException ..))
    (.ite ((KeepsMems.of_same hs).trans (.of_same (by simp))) ((KeepsMems.of_same hs).trans (hk _)))

theorem keepsMems_issueAs (i : Issue) (slots : Nat) (reads : List Nat) (closes : Bool) {k : State → State} (hk : ∀ v, KeepsMems v (k v))
    (s : State) : KeepsMems s (issueAs i slots reads closes k s) := by
  unfold issueAs
  split
  · exact keepsMems_issueJoined _ _ _ _ _ _ _ hk s
  · exact keepsMems_issueSplit _ _ hk s
  · exact keepsMems_issueService _ _ hk s

theorem keepsMems_issue (i : Issue) (slots : Nat) (reads : List Nat) {k : State → State} (hk : ∀ v, KeepsMems v (k v)) (s : State) :
    KeepsMems s (issue i slots reads k s) :=
  keepsMems_issueAs i slots reads false hk s

@[simp] theorem sameMems_writeBack (ctx : Ctx) (rd : Nat) (v : Word) (pois : Bool) (s : State) : SameMems s (writeBack ctx rd v pois s) := by
  unfold writeBack
  simp

@[simp] theorem sameMems_keepLate (ctx : Ctx) (rd : Nat) (s : State) : SameMems s (keepLate ctx rd s) := by
  unfold keepLate
  (repeat' split) <;> simp

@[simp] theorem keepsMems_compute (i : Issue) (rd : Nat) (reads : List Nat) (slots : Nat) (late : Bool) (f : (Nat → Word) → Word) (s : State) :
    KeepsMems s (compute i rd reads slots late f s) :=
  keepsMems_issue i slots reads (fun _ => .of_same (by simp)) s

@[simp] theorem sameMems_spoilIn (ctx : Ctx) (s : State) : SameMems s (spoilIn ctx s) := by
  unfold spoilIn
  (repeat' split) <;> simp

@[simp] theorem keepsMems_branch (i : Issue) (reads : List Nat) (d : Word) (taken : (Nat → Word) → Bool) (s : State) :
    KeepsMems s (branch i reads d taken s) :=
  keepsMems_issue i 1 reads (fun _ => .of_same (by simp)) s

@[simp] theorem keepsMems_closeOpen (c : Nat) (p : Pass) (endc : Bool) (pc : BitVec 20) (f : Arch → Arch) (s : State) :
    KeepsMems s (closeOpen c p endc pc f s) := by
  unfold closeOpen
  refine KeepsMems.trans ?_ (keepsMems_settle ..)
  exact .of_same (by simp)

@[simp] theorem sameMems_segAt (p0 v0 p1 v1 : Int) (us t0 : Nat) (s : State) : SameMems s (segAt p0 v0 p1 v1 us t0 s).2 := by
  unfold segAt
  simp

@[simp] theorem sameMems_rampAt (r : Ramp) (k : Nat) (s : State) : SameMems s (rampAt r k s).2 := by
  unfold rampAt
  simp

@[simp] theorem sameMems_velStep (a : Axis) (target : Int) (acc : Nat) (s : State) : SameMems s (velStep a target acc s).2 := by
  unfold velStep
  simp

@[simp] theorem sameMems_revAt (drev vrev aobs k : Nat) (s : State) : SameMems s (revAt drev vrev aobs k s).2 := by
  have once : ∀ (a : Int) (b : Nat), SameMems s (divFree a b s).2 := fun a b => sameMems_divFree a b s
  have twice : ∀ (a : Int) (b : Nat) (c : Int) (d : Nat), SameMems s (divFree c d (divFree a b s).2).2 := fun a b c d =>
    (once a b).trans (sameMems_divFree c d _)
  unfold revAt
  exact .ite_snd (.ite_snd (.pair _ (twice ..)) (.pair _ (twice ..)))
    (.ite_snd (.pair _ (twice ..)) (.ite_snd (.pair _ (once ..)) (.pair _ (twice ..))))

@[simp] theorem sameMems_axRecord (n code : Nat) (args : List Nat) (s : State) : SameMems s (axRecord n code args s) := by
  unfold axRecord
  simp

@[simp] theorem sameMems_refusePost (n code : Nat) (s : State) : SameMems s (refusePost n code s) := by
  unfold refusePost
  simp

@[simp] theorem sameMems_dropPost (n : Nat) (s : State) : SameMems s (dropPost n s) := by
  unfold dropPost
  simp

@[simp] theorem sameMems_rampAxis (n acc den : Nat) (st : AxState) (s : State) : SameMems s (rampAxis n acc den st s) :=
  ⟨rfl, rfl, rfl⟩

@[simp] theorem sameMems_stopMembers (ms : List Nat) (acc : Nat) (st : AxState) (s : State) : SameMems s (stopMembers ms acc st s) := by
  unfold stopMembers
  simp

@[simp] theorem sameMems_stopAxis (n : Nat) (s : State) : SameMems s (stopAxis n s) := by
  unfold stopAxis
  simp

@[simp] theorem sameMems_stopOthers (n : Nat) (s : State) : SameMems s (stopOthers n s) := by
  unfold stopOthers
  simp

@[simp] theorem sameMems_dropPending (g n : Nat) (s : State) : SameMems s (dropPending g n s) := by
  unfold dropPending
  simp

@[simp] theorem sameMems_dropOwnPending (n : Nat) (s : State) : SameMems s (dropOwnPending n s) := by
  unfold dropOwnPending
  (repeat' split) <;> simp

@[simp] theorem sameMems_leaveGroup (n : Nat) (s : State) : SameMems s (leaveGroup n s) := by
  unfold leaveGroup
  (repeat' split) <;> simp

@[simp] theorem sameMems_abortHoming (n code : Nat) (s : State) : SameMems s (abortHoming n code s) := by
  unfold abortHoming
  simp

@[simp] theorem sameMems_faultAxis (n code : Nat) (s : State) : SameMems s (faultAxis n code s) := by
  unfold faultAxis
  simp

@[simp] theorem sameMems_disableAxis (n cause : Nat) (s : State) : SameMems s (disableAxis n cause s) := by
  unfold disableAxis
  simp

@[simp] theorem sameMems_runAccepted (n : Nat) (target : Word) (s : State) : SameMems s (runAccepted n target s) :=
  ⟨rfl, rfl, rfl⟩

@[simp] theorem sameMems_limitStop (n : Nat) (s : State) : SameMems s (limitStop n s) := by
  unfold limitStop
  simp

@[simp] theorem sameMems_startRun (n : Nat) (q : RunPost) (s : State) : SameMems s (startRun n q s) := by
  unfold startRun
  simp

@[simp] theorem sameMems_applyRun (n : Nat) (q : RunPost) (s : State) : SameMems s (applyRun n q s) := by
  unfold applyRun
  dsimp only
  (repeat' split) <;> simp

@[simp] theorem sameMems_startHome (n : Nat) (armed : Bool) (s : State) : SameMems s (startHome n armed s) :=
  ⟨rfl, rfl, rfl⟩

@[simp] theorem sameMems_endReversal (n : Nat) (s : State) : SameMems s (endReversal n s) := by
  unfold endReversal
  simp

@[simp] theorem sameMems_applyPost (n : Nat) (q : Post) (s : State) : SameMems s (applyPost n q s) := by
  unfold applyPost
  dsimp only
  (repeat' split) <;> simp

@[simp] theorem sameMems_combinePosts (n : Nat) (qs : List Post) (blocked : Bool) (s : State) : SameMems s (combinePosts n qs blocked s).1 := by
  unfold combinePosts
  dsimp only
  (repeat' split) <;> simp

@[simp] theorem sameMems_setDue (n : Nat) (f : AxDue → AxDue) (s : State) : SameMems s (setDue n f s) :=
  ⟨rfl, rfl, rfl⟩

@[simp] theorem sameMems_hold (n : Nat) (s : State) : SameMems s (hold n s) :=
  ⟨rfl, rfl, rfl⟩

@[simp] theorem sameMems_doEnabled (n : Nat) (s : State) : SameMems s (doEnabled n s) := by
  unfold doEnabled
  simp

@[simp] theorem sameMems_doRunEnd (n : Nat) (s : State) : SameMems s (doRunEnd n s) := by
  unfold doRunEnd
  simp

@[simp] theorem sameMems_faultAfterStop (n : Nat) (s : State) : SameMems s (faultAfterStop n s) :=
  ⟨rfl, rfl, rfl⟩

@[simp] theorem sameMems_homeStep3 (n : Nat) (h0 : Homing) (s : State) : SameMems s (homeStep3 n h0 s) :=
  ⟨rfl, rfl, rfl⟩

@[simp] theorem sameMems_unstep (n : Nat) (s : State) : SameMems s (unstep n s) :=
  ⟨rfl, rfl, rfl⟩

@[simp] theorem sameMems_beginStep (n : Nat) (s : State) : SameMems s (beginStep n s) :=
  ⟨rfl, rfl, rfl⟩

@[simp] theorem sameMems_accStep (n : Nat) (s : State) : SameMems s (accStep n s) := by
  unfold accStep
  simp

@[simp] theorem sameMems_enterObstacle (lead : Nat) (causes : BitVec 3) (m : Nat) (s : State) : SameMems s (enterObstacle lead causes m s) := by
  unfold enterObstacle
  simp

@[simp] theorem sameMems_reversalPeriod (n : Nat) (r : Reversal) (s : State) : SameMems s (reversalPeriod n r s) := by
  unfold reversalPeriod
  simp

@[simp] theorem sameMems_doReversal (n : Nat) (s : State) : SameMems s (doReversal n s) := by
  unfold doReversal
  simp

@[simp] theorem sameMems_doReference (n : Nat) (s : State) : SameMems s (doReference n s) := by
  unfold doReference
  dsimp only
  (repeat' split) <;> simp

@[simp] theorem sameMems_homeAbort (n code : Nat) (s : State) : SameMems s (homeAbort n code s) := by
  unfold homeAbort
  simp

@[simp] theorem sameMems_doChatter (n : Nat) (s : State) : SameMems s (doChatter n s) := by
  unfold doChatter
  simp

@[simp] theorem sameMems_servoTake (n : Nat) (s : State) : SameMems s (servoTake n s) :=
  ⟨rfl, rfl, rfl⟩

@[simp] theorem sameMems_servoObstacle (n : Nat) (s : State) : SameMems s (servoObstacle n s) := by
  unfold servoObstacle
  simp

@[simp] theorem sameMems_servoHome (n : Nat) (s : State) : SameMems s (servoHome n s) := by
  unfold servoHome
  dsimp only
  (repeat' split) <;> simp

@[simp] theorem sameMems_velPeriod (n : Nat) (target : Int) (acc : Nat) (s : State) : SameMems s (velPeriod n target acc s) := by
  unfold velPeriod
  simp

@[simp] theorem sameMems_amplitude (n : Nat) (s : State) : SameMems s (amplitude n s).2 := by
  unfold amplitude
  simp

@[simp] theorem sameMems_servoControl (n : Nat) (s : State) : SameMems s (servoControl n s) := by
  unfold servoControl
  simp

@[simp] theorem sameMems_servoPublish (n : Nat) (s : State) : SameMems s (servoPublish n s) :=
  ⟨rfl, rfl, rfl⟩

@[simp] theorem sameMems_servoEnd (n : Nat) (s : State) : SameMems s (servoEnd n s) := by
  unfold servoEnd
  simp

@[simp] theorem sameMems_directPost (code : Nat) (a b c : Word) (s : State) : SameMems s (directPost code a b c s) := by
  unfold directPost
  simp

@[simp] theorem sameMems_sincCode (k r : Nat) (bits_ : List Bool) (s : State) : SameMems s (sincCode k r bits_ s).2 := by
  unfold sincCode
  simp

@[simp] theorem sameMems_sdclkAxis (n : Nat) (s : State) : SameMems s (sdclkAxis n s) := by
  unfold sdclkAxis
  simp

@[simp] theorem sameMems_carrierStart (n m : Nat) (s : State) : SameMems s (carrierStart n m s).2 := by
  unfold carrierStart
  simp

@[simp] theorem sameMems_quietPhase (n ph : Nat) (p : PhaseReg) (s : State) : SameMems s (quietPhase n ph p s).2 := by
  unfold quietPhase
  simp

@[simp] theorem sameMems_chopperCode (stepper : Bool) (ph : Nat) (bitsA bitsB : List Bool) (s : State) : SameMems s (chopperCode stepper ph bitsA bitsB s).2 := by
  unfold chopperCode
  simp

@[simp] theorem sameMems_endTest (n : Nat) (s : State) : SameMems s (endTest n s) := by
  unfold endTest
  simp

@[simp] theorem sameMems_enterTest (n kind : Nat) (s : State) : SameMems s (enterTest n kind s) :=
  ⟨rfl, rfl, rfl⟩

@[simp] theorem sameMems_setBlock (f : Nat) (g : Block → Block) (s : State) : SameMems s (setBlock f g s) :=
  ⟨rfl, rfl, rfl⟩

@[simp] theorem sameMems_setDio (f c : Nat) (g : Dio → Dio) (s : State) : SameMems s (setDio f c g s) :=
  ⟨rfl, rfl, rfl⟩

@[simp] theorem sameMems_setLs (f i : Nat) (g : LoadSwitch → LoadSwitch) (s : State) : SameMems s (setLs f i g s) :=
  ⟨rfl, rfl, rfl⟩

@[simp] theorem sameMems_setSo (f j : Nat) (g : SoPair → SoPair) (s : State) : SameMems s (setSo f j g s) :=
  ⟨rfl, rfl, rfl⟩

@[simp] theorem sameMems_blkRecord (f code : Nat) (args : List Nat) (s : State) : SameMems s (blkRecord f code args s) := by
  unfold blkRecord
  simp

@[simp] theorem sameMems_flushLinkErrors (f : Nat) (s : State) : SameMems s (flushLinkErrors f s) := by
  unfold flushLinkErrors
  simp

@[simp] theorem sameMems_lsOff (f i : Nat) (s : State) : SameMems s (lsOff f i s) :=
  ⟨rfl, rfl, rfl⟩

@[simp] theorem sameMems_lsOn (f i : Nat) (s : State) : SameMems s (lsOn f i s) :=
  ⟨rfl, rfl, rfl⟩

@[simp] theorem sameMems_lsEval (f i : Nat) (s : State) : SameMems s (lsEval f i s) := by
  unfold lsEval
  (repeat' split) <;> simp

theorem proceeds_execOpenBerth (b : Fin 8) (m : MsgHead) (s : State) : Proceeds s (execOpenBerth b m s) := by
  unfold execOpenBerth
  dsimp only
  (repeat' split) <;> exact .next_same (by simp)

theorem proceeds_execClose (b : Fin 8) (m : MsgHead) (s : State) : Proceeds s (execClose b m s) := by
  unfold execClose
  exact .next_same (by simp)

theorem proceeds_execBerthReset (b : Fin 8) (s : State) : Proceeds s (execBerthReset b s) := by
  unfold execBerthReset
  exact .next_same (by simp)

theorem proceeds_execLockoutEnd (b : Fin 8) (atNs : Nat) (s : State) : Proceeds s (execLockoutEnd b atNs s) := by
  unfold execLockoutEnd
  dsimp only
  (repeat' split) <;> exact .next_same (by simp)

theorem proceeds_execBerthIdleTimeout (b : Fin 8) (atNs : Nat) (s : State) : Proceeds s (execBerthIdleTimeout b atNs s) := by
  unfold execBerthIdleTimeout
  exact .next_same (by simp)

theorem proceeds_execCommand (b : Fin 8) (m : MsgHead) (atNs : Nat) (entries : List CmdEntry) (s : State) : Proceeds s (execCommand b m atNs entries s) := by
  unfold execCommand
  exact .next_same (by simp)

theorem proceeds_execCommandReply (b : Fin 8) (s : State) : Proceeds s (execCommandReply b s) := by
  unfold execCommandReply
  exact .next_same (by simp)

theorem proceeds_execHashread (b : Fin 8) (m : MsgHead) (s : State) : Proceeds s (execHashread b m s) := by
  unfold execHashread
  exact .next_same (by simp)

theorem proceeds_execSread (b : Fin 8) (m : MsgHead) (first count : Word) (s : State) : Proceeds s (execSread b m first count s) := by
  unfold execSread
  exact .next_same (by simp)

theorem proceeds_execJstat (b : Fin 8) (m : MsgHead) (s : State) : Proceeds s (execJstat b m s) := by
  unfold execJstat
  exact .next_same (by simp)

theorem proceeds_execJread (b : Fin 8) (m : MsgHead) (unit offset length : Word) (s : State) : Proceeds s (execJread b m unit offset length s) := by
  unfold execJread
  exact .next_same (by simp)

theorem proceeds_execKread (b : Fin 8) (m : MsgHead) (unit offset length : Word) (s : State) : Proceeds s (execKread b m unit offset length s) := by
  unfold execKread
  exact .next_same (by simp)

theorem proceeds_execShread (b : Fin 8) (m : MsgHead) (frame offset length : Word) (s : State) : Proceeds s (execShread b m frame offset length s) := by
  unfold execShread
  exact .next_same (by simp)

theorem proceeds_execJack (b : Fin 8) (m : MsgHead) (k : Word) (c : List Byte) (s : State) : Proceeds s (execJack b m k c s) := by
  unfold execJack
  exact .next_same (by simp)

theorem proceeds_execJrearm (b : Fin 8) (m : MsgHead) (s : State) : Proceeds s (execJrearm b m s) := by
  unfold execJrearm
  exact .next_same (by simp)

theorem proceeds_execEchunk (b : Fin 8) (m : MsgHead) (offset total : Word) (data : List Byte) (s : State) : Proceeds s (execEchunk b m offset total data s) := by
  unfold execEchunk
  exact .next_same (by simp)

theorem proceeds_execEcommit (b : Fin 8) (m : MsgHead) (total : Word) (kind zero : BitVec 16) (atNs : Nat) (s : State) : Proceeds s (execEcommit b m total kind zero atNs s) := by
  unfold execEcommit
  exact .next_same (by simp)

theorem proceeds_execUartBreak (s : State) : Proceeds s (execUartBreak s) := by
  unfold execUartBreak
  exact .next_same (by simp)

theorem proceeds_execUartFrameGap (_line : List Byte) (s : State) : Proceeds s (execUartFrameGap _line s) := by
  unfold execUartFrameGap
  exact .next_same (by simp)

theorem proceeds_execBqDoorbell (h0 : Fin 2) (tail : BitVec 16) (s : State) : Proceeds s (execBqDoorbell h0 tail s) := by
  unfold execBqDoorbell
  exact .next_same (by simp)

theorem proceeds_execBqRplHeadWrite (h0 : Fin 2) (head : BitVec 16) (s : State) : Proceeds s (execBqRplHeadWrite h0 head s) := by
  unfold execBqRplHeadWrite
  exact .next_same (by simp)

theorem proceeds_execBqReset (h0 : Fin 2) (v : Word) (s : State) : Proceeds s (execBqReset h0 v s) := by
  unfold execBqReset
  exact .next_same (by simp)

theorem proceeds_execBqRingWrite (h0 : Fin 2) (reg : Fin 5) (v : Word) (s : State) : Proceeds s (execBqRingWrite h0 reg v s) := by
  unfold execBqRingWrite
  exact .next_same (by simp)

theorem proceeds_execBqRequestFetch (h0 : Fin 2) (s : State) : Proceeds s (execBqRequestFetch h0 s) := by
  unfold execBqRequestFetch
  exact .next_same (by simp)

theorem proceeds_execPcieCompletionError (h0 : Fin 2) (s : State) : Proceeds s (execPcieCompletionError h0 s) := by
  unfold execPcieCompletionError
  exact .next_same (by simp)

theorem proceeds_execReplySlotWaitTimeout (h0 : Fin 2) (atNs : Nat) (s : State) : Proceeds s (execReplySlotWaitTimeout h0 atNs s) := by
  unfold execReplySlotWaitTimeout
  dsimp only
  (repeat' split) <;> exact .next_same (by simp)

theorem proceeds_execTcpConnectionRequest (p : Fin 4) (port : BitVec 16) (atNs : Nat) (s : State) : Proceeds s (execTcpConnectionRequest p port atNs s) := by
  unfold execTcpConnectionRequest
  dsimp only
  (repeat' split) <;> exact .next_same (by simp)

theorem proceeds_execTlsHandshakeComplete (b : Fin 8) (hello : ClientHello) (certs : List (List Byte)) (transcript verify : List Byte) (alert : Option Byte) (atNs : Nat) (s : State) : Proceeds s (execTlsHandshakeComplete b hello certs transcript verify alert atNs s) := by
  unfold execTlsHandshakeComplete
  dsimp only
  (repeat' split) <;> exact .next_same (by simp)

theorem proceeds_execTlsHandshakeTimeout (b : Fin 8) (atNs : Nat) (s : State) : Proceeds s (execTlsHandshakeTimeout b atNs s) := by
  unfold execTlsHandshakeTimeout
  exact .next_same (by simp)

theorem proceeds_execKeyupdate (b : Fin 8) (s : State) : Proceeds s (execKeyupdate b s) := by
  unfold execKeyupdate
  exact .next_same (by simp)

theorem proceeds_execTcpConnectionClosed (b : Fin 8) (s : State) : Proceeds s (execTcpConnectionClosed b s) := by
  unfold execTcpConnectionClosed
  exact .next_same (by simp)

theorem proceeds_execQuadratureStep (n : Fin 32) (a b : Bool) (atNs : Nat) (s : State) : Proceeds s (execQuadratureStep n a b atNs s) := by
  unfold execQuadratureStep
  dsimp only
  (repeat' split) <;> exact .next_same (by simp)

theorem proceeds_execHallCodeChange (n : Fin 32) (code : Fin 8) (atNs : Nat) (s : State) : Proceeds s (execHallCodeChange n code atNs s) := by
  unfold execHallCodeChange
  dsimp only
  (repeat' split) <;> exact .next_same (by simp)

theorem proceeds_execIndexLatch (n : Fin 32) (level : Bool) (atNs : Nat) (s : State) : Proceeds s (execIndexLatch n level atNs s) := by
  unfold execIndexLatch
  dsimp only
  (repeat' split) <;> exact .next_same (by simp)

theorem proceeds_execErrorLevelDecay (s : State) : Proceeds s (execErrorLevelDecay s) := by
  unfold execErrorLevelDecay
  exact .next_same (by simp)

theorem proceeds_execFrequencyGateEnd (n : Fin 32) (s : State) : Proceeds s (execFrequencyGateEnd n s) := by
  unfold execFrequencyGateEnd
  exact .next_same (by simp)

theorem proceeds_execZeroSpeedTimeout (_n : Fin 32) (atNs : Nat) (s : State) : Proceeds s (execZeroSpeedTimeout _n atNs s) := by
  unfold execZeroSpeedTimeout
  exact .next_same (by simp)

theorem proceeds_execStandstillAssert (k : Fin 8) (atNs : Nat) (s : State) : Proceeds s (execStandstillAssert k atNs s) := by
  unfold execStandstillAssert
  dsimp only
  (repeat' split) <;> exact .next_same (by simp)

theorem proceeds_execHeadSampleTimeout (k : Fin 16) (atNs : Nat) (s : State) : Proceeds s (execHeadSampleTimeout k atNs s) := by
  unfold execHeadSampleTimeout
  dsimp only
  (repeat' split) <;> exact .next_same (by simp)

theorem proceeds_execHeadReady (k : Fin 16) (atNs : Nat) (s : State) : Proceeds s (execHeadReady k atNs s) := by
  unfold execHeadReady
  dsimp only
  (repeat' split) <;> exact .next_same (by simp)

theorem proceeds_execSectionReset (a b c : Word) (excess : Bool) (s : State) : Proceeds s (execSectionReset a b c excess s) := by
  unfold execSectionReset
  exact .next_same (by simp)

theorem proceeds_execRestore (a b c : Word) (excess : Bool) (s : State) : Proceeds s (execRestore a b c excess s) := by
  unfold execRestore
  exact .next_same (by simp)

theorem proceeds_execDisturb (a b c : Word) (s : State) : Proceeds s (execDisturb a b c s) := by
  unfold execDisturb
  exact .next_same (by simp)

theorem proceeds_execEoOutputStep (e : Fin 8) (atNs : Nat) (s : State) : Proceeds s (execEoOutputStep e atNs s) := by
  unfold execEoOutputStep
  dsimp only
  (repeat' split) <;> exact .next_same (by simp)

theorem proceeds_execFeedbackUncorrectableError (s : State) : Proceeds s (execFeedbackUncorrectableError s) := by
  unfold execFeedbackUncorrectableError
  exact .next_same (by simp)

theorem proceeds_execEnable (a b c : Word) (s : State) : Proceeds s (execEnable a b c s) := by
  unfold execEnable
  exact .next_same (by simp)

theorem proceeds_execDisable (a b c : Word) (s : State) : Proceeds s (execDisable a b c s) := by
  unfold execDisable
  exact .next_same (by simp)

theorem proceeds_execStop (a b c : Word) (s : State) : Proceeds s (execStop a b c s) := by
  unfold execStop
  exact .next_same (by simp)

theorem proceeds_execHome (a b c : Word) (s : State) : Proceeds s (execHome a b c s) := by
  unfold execHome
  exact .next_same (by simp)

theorem proceeds_execClear (a b c : Word) (s : State) : Proceeds s (execClear a b c s) := by
  unfold execClear
  exact .next_same (by simp)

theorem proceeds_execSetpos (a b c : Word) (s : State) : Proceeds s (execSetpos a b c s) := by
  unfold execSetpos
  exact .next_same (by simp)

theorem proceeds_execRun (a b c : Word) (s : State) : Proceeds s (execRun a b c s) := by
  unfold execRun
  exact .next_same (by simp)

theorem proceeds_execReleaseMarker (atNs : Nat) (s : State) : Proceeds s (execReleaseMarker atNs s) := by
  unfold execReleaseMarker
  exact .next_same (by simp)

theorem proceeds_execMailboxSilent (atNs : Nat) (s : State) : Proceeds s (execMailboxSilent atNs s) := by
  unfold execMailboxSilent
  dsimp only
  (repeat' split) <;> exact .next_same (by simp)

theorem proceeds_execSdStreamStuck (n : Fin 32) (phaseB : Bool) (s : State) : Proceeds s (execSdStreamStuck n phaseB s) := by
  unfold execSdStreamStuck
  (repeat' split) <;> exact .next_same (by simp)

theorem proceeds_execSdclkFault (g : Fin 4) (s : State) : Proceeds s (execSdclkFault g s) := by
  unfold execSdclkFault
  dsimp only
  (repeat' split) <;> exact .next_same (by simp)

theorem proceeds_execChopperCrossing (n : Fin 32) (ph : Fin 3) (bitsA bitsB : List Bool) (atNs : Nat) (s : State) : Proceeds s (execChopperCrossing n ph bitsA bitsB atNs s) := by
  unfold execChopperCrossing
  dsimp only
  (repeat' split) <;> exact .next_same (by simp)

theorem proceeds_execMotTestNotRenewed (n : Fin 32) (atNs : Nat) (s : State) : Proceeds s (execMotTestNotRenewed n atNs s) := by
  unfold execMotTestNotRenewed
  dsimp only
  (repeat' split) <;> exact .next_same (by simp)

@[simp] theorem sameMems_startGroup (g : Nat) (ms : List Nat) (post : Nat → RunPost) (s : State) :
    SameMems s (startGroup g ms post s) := by
  unfold startGroup
  extract_lets target lead lq ratio a rest
  have hrest : SameMems s (rest s) := SameMems.foldl (fun _ _ => by simp) _ _
  clear_value rest
  (repeat' split)
  · exact hrest.trans (SameMems.foldl (fun _ _ => by simp) _ _)
  · exact hrest.trans (SameMems.foldl (fun _ _ => by simp) _ _)
  · exact SameMems.foldl (fun _ _ => by simp) _ _

@[simp] theorem sameMems_applyGroup (g : Nat) (posts : List (Nat × Post)) (s : State) : SameMems s (applyGroup g posts s) := by
  unfold applyGroup
  extract_lets ms named post inGroup moving stateOk target lead limits s1
  have h1 : SameMems s s1 := SameMems.foldl (fun _ _ => by simp) _ _
  clear_value s1 limits stateOk moving
  (repeat' split)
  · exact SameMems.foldl (fun _ _ => by simp) _ _
  · exact h1.trans ((sameMems_stopAxis _ s1).trans (SameMems.foldl (fun _ _ => by simp) _ _))
  · exact h1.trans (sameMems_startGroup ..)

@[simp] theorem sameMems_applyRelease (posts : List Post) (blocked : Nat → Bool) (s : State) :
    SameMems s (applyRelease posts blocked s) := by
  unfold applyRelease
  extract_lets r
  have hr : SameMems s r.1 := by
    refine SameMems.foldl_fst (v := (s, [])) (fun v n => ?_) _
    dsimp only
    split <;> simp
  clear_value r
  refine hr.trans (SameMems.foldl (fun v g => ?_) _ _)
  dsimp only
  split <;> simp

@[simp] theorem sameMems_runSetpoint (n : Nat) (r : RunState) (s : State) : SameMems s (runSetpoint n r s) := by
  unfold runSetpoint
  extract_lets x at_ s1
  have hat : SameMems s at_.2 := SameMems.ite_snd (.pair _ (by simp)) (sameMems_segAt ..)
  clear_value at_
  have h1 : SameMems s s1 := hat.trans (by simp [s1])
  clear_value s1
  split
  · exact h1
  refine h1.trans (SameMems.foldl (fun u m => ?_) _ _)
  split
  · simp
  split
  · simp
  · extract_lets den num p v a
    have hp : SameMems u p.2 := sameMems_divFree ..
    clear_value p
    have hv : SameMems u v.2 := hp.trans (sameMems_divFree ..)
    clear_value v
    have ha : SameMems u a.2 := hv.trans (sameMems_divFree ..)
    clear_value a
    exact ha.trans (by simp)

@[simp] theorem sameMems_doSegment (n : Nat) (s : State) : SameMems s (doSegment n s) := by
  unfold doSegment
  dsimp only
  (repeat' split) <;> simp

@[simp] theorem sameMems_startPending (n : Nat) (q : RunPost) (s : State) : SameMems s (startPending n q s) := by
  unfold startPending
  (repeat' split) <;> simp

@[simp] theorem sameMems_doStopEnd (n : Nat) (s : State) : SameMems s (doStopEnd n s) := by
  unfold doStopEnd
  dsimp only
  (repeat' split) <;> simp

@[simp] theorem sameMems_rampPeriod (n : Nat) (s : State) : SameMems s (rampPeriod n s) := by
  unfold rampPeriod
  split
  · exact ⟨rfl, rfl, rfl⟩
  · exact .ite (.setDue (.setAxis (sameMems_rampAt ..) ..) ..) (.setAxis (sameMems_rampAt ..) ..)

@[simp] theorem sameMems_doObstacle (n : Nat) (s : State) : SameMems s (doObstacle n s) := by
  unfold doObstacle
  dsimp only
  (repeat' split) <;> simp

@[simp] theorem sameMems_runPeriod (n : Nat) (r : RunState) (s : State) : SameMems s (runPeriod n r s) := by
  unfold runPeriod
  simp

@[simp] theorem sameMems_groupPeriod (n : Nat) (s : State) : SameMems s (groupPeriod n s) := by
  unfold groupPeriod
  dsimp only
  (repeat' split) <;> simp

@[simp] theorem sameMems_obstaclePeriod (n : Nat) (s : State) : SameMems s (obstaclePeriod n s) := by
  unfold obstaclePeriod
  dsimp only
  (repeat' split) <;> simp

@[simp] theorem sameMems_ownPeriod (n : Nat) (s : State) : SameMems s (ownPeriod n s) := by
  unfold ownPeriod
  dsimp only
  (repeat' split) <;> simp

@[simp] theorem sameMems_servoSetpoint (n : Nat) (s : State) : SameMems s (servoSetpoint n s) := by
  unfold servoSetpoint
  simp

@[simp] theorem sameMems_servoSettle (force : Bool) (n : Nat) (s : State) : SameMems s (servoSettle force n s) := by
  unfold servoSettle
  simp

@[simp] theorem sameMems_fulfil (n : Nat) (act : State → State) (s : State) (h : ∀ v, SameMems v (act v)) : SameMems s (fulfil n act s) :=
  (h s).trans (SameMems.foldl (fun _ _ => sameMems_servoSettle ..) _ _)

@[simp] theorem sameMems_finishDue (n : Nat) (s : State) : SameMems s (finishDue n s) := by
  unfold finishDue
  extract_lets s1 s2
  have h1 : SameMems s s1 := by simp [s1]
  clear_value s1
  have h2 : SameMems s s2 := .ite (h1.trans (SameMems.foldl (fun _ _ => sameMems_doSegment ..) _ _)) h1
  clear_value s2
  exact h2.trans (by simp)

@[simp] theorem sameMems_finishAllDue (s : State) : SameMems s (finishAllDue s) :=
  SameMems.trans (SameMems.foldl (fun _ _ => sameMems_finishDue ..) _ _) (SameMems.foldl (fun _ _ => sameMems_servoSettle ..) _ _)

@[simp] theorem sameMems_servoAxis (n : Nat) (s : State) : SameMems s (servoAxis n s) := by
  unfold servoAxis
  (repeat' split) <;> simp

@[simp] theorem sameMems_servoSlot (j : Nat) (s : State) : SameMems s (servoSlot j s) := by
  unfold servoSlot
  extract_lets s1
  have h1 : SameMems s s1 := by simp [s1]
  clear_value s1
  exact SameMems.trans (t := { s1 with mot := { s1.mot with slot := j + 1 } }) h1 (SameMems.foldl (fun _ _ => sameMems_servoAxis ..) _ _)

theorem proceeds_execEnablingComplete (n : Fin 32) (s : State) : Proceeds s (execEnablingComplete n s) :=
  .next_same (sameMems_fulfil _ _ _ (fun _ => by simp))

theorem proceeds_execSegmentEnd (n : Fin 32) (s : State) : Proceeds s (execSegmentEnd n s) :=
  .next_same (sameMems_fulfil _ _ _ (fun _ => by simp))

theorem proceeds_execRunComplete (n : Fin 32) (s : State) : Proceeds s (execRunComplete n s) :=
  .next_same (sameMems_fulfil _ _ _ (fun _ => by simp))

theorem proceeds_execStopComplete (n : Fin 32) (s : State) : Proceeds s (execStopComplete n s) :=
  .next_same (sameMems_fulfil _ _ _ (fun _ => by simp))

theorem proceeds_execObstacle (n : Fin 32) (s : State) : Proceeds s (execObstacle n s) :=
  .next_same (sameMems_fulfil _ _ _ (fun _ => by simp))

theorem proceeds_execReversalComplete (n : Fin 32) (s : State) : Proceeds s (execReversalComplete n s) :=
  .next_same (sameMems_fulfil _ _ _ (fun _ => by simp))

theorem proceeds_execHomingReference (n : Fin 32) (s : State) : Proceeds s (execHomingReference n s) :=
  .next_same (sameMems_fulfil _ _ _ (fun _ => by simp))

theorem proceeds_execHomingChatterAbort (n : Fin 32) (s : State) : Proceeds s (execHomingChatterAbort n s) :=
  .next_same (sameMems_fulfil _ _ _ (fun _ => by simp))

theorem proceeds_execCarrierPeriod (n : Fin 32) (bitsA bitsB : List Bool) (atNs : Nat) (s : State) :
    Proceeds s (execCarrierPeriod n bitsA bitsB atNs s) := by
  unfold execCarrierPeriod
  have h0 : SameMems s (advance atNs s) := by simp
  generalize advance atNs s = v at *
  refine .ite (.next_same h0) ?_
  extract_lets c s1 ca cb s2 a stepper pa pb bad w mag shift toQuiet strong x0 s3 N m b highs qa qb qc high highs'
  have hb : SameMems s s2 := ((h0.trans (sameMems_carrierStart ..)).trans (sameMems_advance ..)).trans
    ((sameMems_sincCode ..).trans (sameMems_sincCode ..))
  have h3 : SameMems s s3 := .setAxis hb ..
  have hqb : SameMems s qb.2 := h3.trans ((sameMems_quietPhase ..).trans (sameMems_quietPhase ..))
  have hqc : SameMems s qc.2 := .ite_snd (.pair _ hqb) (hqb.trans (sameMems_quietPhase ..))
  exact .ite (.next_same h3) (.ite (.next_same (.setAxis h3 ..)) (.next_same (.setAxis hqc ..)))

@[simp] theorem sameMems_lsEvalAll (f : Nat) (s : State) : SameMems s (lsEvalAll f s) := by
  unfold lsEvalAll
  simp

@[simp] theorem sameMems_soSet (f j : Nat) (st : SoState) (s : State) : SameMems s (soSet f j st s) :=
  ⟨rfl, rfl, rfl⟩

@[simp] theorem sameMems_soFault (f j cause code : Nat) (args : List Nat) (s : State) : SameMems s (soFault f j cause code args s) := by
  unfold soFault
  simp

@[simp] theorem sameMems_soOffRows (f j : Nat) (s : State) : SameMems s (soOffRows f j s) := by
  unfold soOffRows
  simp

@[simp] theorem sameMems_soEval (f j : Nat) (applied : Bool) (s : State) : SameMems s (soEval f j applied s) := by
  unfold soEval
  (repeat' split) <;> simp

@[simp] theorem sameMems_soRestore (f j : Nat) (s : State) : SameMems s (soRestore f j s) := by
  unfold soRestore
  simp

@[simp] theorem sameMems_evalBlock (f : Nat) (applied : Bool) (s : State) : SameMems s (evalBlock f applied s) := by
  unfold evalBlock
  simp

@[simp] theorem sameMems_startWaiting (f j : Nat) (s : State) : SameMems s (startWaiting f j s) := by
  unfold startWaiting
  simp

@[simp] theorem sameMems_dioRecord (f c code : Nat) (s : State) : SameMems s (dioRecord f c code s) := by
  unfold dioRecord
  simp

@[simp] theorem sameMems_dioClear (f c : Nat) (excess hot : Bool) (s : State) : SameMems s (dioClear f c excess hot s) := by
  unfold dioClear
  simp

@[simp] theorem sameMems_clearLs (f i : Nat) (s : State) : SameMems s (clearLs f i s) := by
  unfold clearLs
  simp

@[simp] theorem sameMems_clearSo (f j : Nat) (s : State) : SameMems s (clearSo f j s) := by
  unfold clearSo
  simp

@[simp] theorem sameMems_fieldCommand (f : Nat) (dem : Word) (q : Post) (s : State) : SameMems s (fieldCommand f dem q s) := by
  unfold fieldCommand
  (repeat' split) <;> simp

@[simp] theorem sameMems_pairCheck (f j : Nat) (s : State) : SameMems s (pairCheck f j s) := by
  unfold pairCheck
  simp

@[simp] theorem sameMems_headsNotReady (f : Nat) (s : State) : SameMems s (headsNotReady f s) := by
  unfold headsNotReady
  simp

@[simp] theorem sameMems_beginFieldReset (f : Nat) (s : State) : SameMems s (beginFieldReset f s) := by
  unfold beginFieldReset
  simp

@[simp] theorem sameMems_applyFieldReset (f cause : Nat) (s : State) : SameMems s (applyFieldReset f cause s) := by
  unfold applyFieldReset
  simp

@[simp] theorem sameMems_askFieldReset (f cause : Nat) (s : State) : SameMems s (askFieldReset f cause s) := by
  unfold askFieldReset
  simp

@[simp] theorem sameMems_recordReason (code : Nat) (args : List Nat) (s : State) : SameMems s (recordReason code args s) := by
  unfold recordReason
  simp

@[simp] theorem sameMems_losePeer (x : Nat) (s : State) : SameMems s (losePeer x s) :=
  ⟨rfl, rfl, rfl⟩

@[simp] theorem sameMems_departTriad (code : Nat) (s : State) : SameMems s (departTriad code s) := by
  unfold departTriad
  simp

@[simp] theorem sameMems_departSilent (code : Nat) (s : State) : SameMems s (departSilent code s) := by
  unfold departSilent
  simp

@[simp] theorem sameMems_tpDown (p : Nat) (s : State) : SameMems s (tpDown p s) := by
  unfold tpDown
  simp

@[simp] theorem sameMems_tpOff (p : Nat) (s : State) : SameMems s (tpOff p s) := by
  unfold tpOff
  simp

@[simp] theorem sameMems_tpViolation (p code : Nat) (s : State) : SameMems s (tpViolation p code s) := by
  unfold tpViolation
  simp

@[simp] theorem sameMems_tpLate (p : Nat) (s : State) : SameMems s (tpLate p s) :=
  ⟨rfl, rfl, rfl⟩

@[simp] theorem sameMems_tpDiscard (p : Nat) (s : State) : SameMems s (tpDiscard p s) :=
  ⟨rfl, rfl, rfl⟩

@[simp] theorem sameMems_tpRetransmit (p i : Nat) (s : State) : SameMems s (tpRetransmit p i s) := by
  unfold tpRetransmit
  simp

@[simp] theorem sameMems_tpAcked (p : Nat) (a : Word) (again : Bool) (s : State) : SameMems s (tpAcked p a again s) := by
  unfold tpAcked
  simp

@[simp] theorem sameMems_heedSnap (w : WireFrame) (s : State) : SameMems s (heedSnap w s) := by
  unfold heedSnap
  simp

@[simp] theorem keepsMems_sramPutBytes (a : Nat) (l : List Byte) (s : State) : KeepsMems s (sramPutBytes a l s) :=
  ⟨rfl, sram_wf_sramPutBytes a l s, id⟩

@[simp] theorem sameMems_sendCut (s : State) : SameMems s (sendCut s) := by
  unfold sendCut
  simp

@[simp] theorem sameMems_sendSummary (s : State) : SameMems s (sendSummary s) := by
  unfold sendSummary
  simp

@[simp] theorem sameMems_trySummary (s : State) : SameMems s (trySummary s) := by
  unfold trySummary
  simp

theorem proceeds_execGrun (posts : List (Word × Word × Word)) (s : State) : Proceeds s (execGrun posts s) := by
  unfold execGrun
  exact .next_same (by simp)

@[simp] theorem sameMems_motionReinit (s : State) : SameMems s (motionReinit s) := by
  unfold motionReinit
  extract_lets s1 _ _ _ s2
  have h1 : SameMems s s1 := (sameMems_dropReady s).trans (SameMems.foldl (fun _ _ => by simp) _ _)
  clear_value s1
  have h2 : SameMems s s2 := h1
  clear_value s2
  exact h2.trans (by simp)

@[simp] theorem sameMems_motionError (s : State) : SameMems s (motionError s) := by
  unfold motionError
  (repeat' split) <;> simp

@[simp] theorem sameMems_servoBoundary (s : State) : SameMems s (servoBoundary s) := by
  unfold servoBoundary
  extract_lets t s0 _ s1 _ axes s2 ahead blocked
  have h1 : SameMems s s1 := by simp [s1, s0]
  clear_value s1
  have h2 : SameMems s s2 := by
    refine (h1.trans (sameMems_finishAllDue s1)).trans ((sameMems_eoFollowAll ..).trans (SameMems.foldl (fun _ _ => ?_) _ _))
    simp
  clear_value blocked ahead s2
  split
  · exact h1
  · exact SameMems.trans (t := { s2 with mot := { s2.mot with ready := [] } }) h2 (SameMems.foldl (fun _ _ => sameMems_applyRelease ..) _ _)

theorem proceeds_execServoPeriod (upTo : Fin 8) (uncorrectable : Bool) (s : State) :
    Proceeds s (execServoPeriod upTo uncorrectable s) := by
  unfold execServoPeriod
  extract_lets s1 first
  have h1 : SameMems s s1 := .ite (sameMems_servoBoundary s) ⟨rfl, rfl, rfl⟩
  clear_value first s1
  split
  · exact .next_same (SameMems.trans (t := { s1 with mot := { s1.mot with slot := 8 } }) h1 (sameMems_motionError _))
  · refine .next_same (h1.trans (SameMems.foldl (fun _ _ => ?_) _ _))
    split <;> simp

@[simp] theorem sameMems_testCommand (kind n : Nat) (s : State) : SameMems s (testCommand kind n s) := by
  unfold testCommand
  extract_lets s0 a s1 b
  have h0 : SameMems s s0 := by simp [s0]
  clear_value s0
  have h1 : SameMems s s1 := .ite (h0.trans (by simp)) h0
  clear_value s1
  (repeat' split)
  · exact h0.trans (by simp)
  · exact h0.trans (by simp)
  · exact h0.trans (by simp)
  · exact h1
  all_goals exact h1.trans (by simp)

theorem keepsMems_tpReceive (p typ : Nat) (w : WireFrame) {k : State → State} (hk : ∀ v, KeepsMems v (k v)) (s : State) :
    KeepsMems s (tpReceive p typ w k s) := by
  have goes : ∀ v, SameMems s v → KeepsMems s (k v) := fun v hv => (KeepsMems.of_same hv).trans (hk v)
  unfold tpReceive
  extract_lets v q x s1 expect s2
  have h0 : SameMems s v := by simp [v]
  clear_value x q v
  have h1 : SameMems s s1 := h0.trans (by simp [s1])
  clear_value s1
  have h2 : SameMems s s2 := h1.trans (by simp [s2])
  clear_value s2
  exact .ite (.of_same h0) (.ite (.of_same (h0.trans (by simp))) (.ite (.of_same h0) (.ite (.of_same (h0.trans (by simp)))
    (.ite (.of_same (h0.trans (by simp))) (.ite (.of_same (h0.trans (by simp))) (.ite (.of_same (h0.trans (by simp)))
      (.ite (goes _ (h1.trans (by simp))) (.ite (goes _ (h2.trans (by simp)))
        (.ite (.of_same (h1.trans (by simp))) (.of_same (h1.trans (by simp))))))))))))

theorem keepsMems_cycleFrame (p typ : Nat) (w : WireFrame) {k other : State → State} (hk : ∀ v, KeepsMems v (k v))
    (ho : ∀ v, KeepsMems v (other v)) (s : State) : KeepsMems s (cycleFrame p typ w k s other) := by
  refine keepsMems_tpReceive p typ w (fun v => ?_) s
  dsimp only
  refine .ite .rfl (.ite ?_ (hk v))
  refine KeepsMems.trans ?_ (ho _)
  exact .of_same (by simp)

@[simp] theorem sameMems_align (s : State) : SameMems s (align s) := by
  unfold align
  extract_lets e32 r rate lim c own peersNear dv s1 s2
  have hr : SameMems s r.2 := sameMems_divFree ..
  have hd : SameMems s dv.2 := hr.trans (sameMems_divFree ..)
  clear_value dv
  have h1 : SameMems s s1 := hd.trans ⟨rfl, rfl, rfl⟩
  clear_value s1
  have h2 : SameMems s s2 := h1.trans (SameMems.foldl (fun _ _ => by simp) _ _)
  clear_value s2 c
  exact h2

@[simp] theorem sameMems_decideUsed (s : State) : SameMems s (decideUsed s) := by
  unfold decideUsed
  extract_lets s0 used s1 s2
  have h0 : SameMems s s0 := sameMems_align s
  clear_value s0
  have h1 : SameMems s s1 := h0.trans ⟨rfl, rfl, rfl⟩
  clear_value s1
  have h2 : SameMems s s2 := by
    refine h1.trans (SameMems.foldl (fun v x => ?_) _ _)
    (repeat' split) <;> simp
  clear_value s2
  split
  · exact ⟨rfl, rfl, rfl⟩
  refine h2.trans (SameMems.foldl (fun v y => ?_) _ _)
  split
  · simp
  refine SameMems.foldl (fun v x => ?_) _ _
  (repeat' split) <;> simp

@[simp] theorem keepsMems_agreeAreas (s : State) : KeepsMems s (agreeAreas s) := by
  unfold agreeAreas
  generalize agreedWords = l
  refine .setTriF (KeepsMems.foldl_fst (v := (s, (0 : Nat), ([] : Tab Nat), (0 : Nat))) (fun v w => ?_) l) _
  exact .pair_fst (keepsMems_imageInSet ..) _

@[simp] theorem keepsMems_agreeHeader (s : State) : KeepsMems s (agreeHeader s) :=
  KeepsMems.foldl (fun _ _ => keepsMems_imageInSet ..) _ s

@[simp] theorem sameMems_contribEntry (m k : Nat) (s : State) : SameMems s (contribEntry m k s).2 := by
  unfold contribEntry
  simp

@[simp] theorem sameMems_memberBatch (m : Nat) (s : State) : SameMems s (memberBatch m s).2 := by
  unfold memberBatch
  simp

@[simp] theorem keepsMems_mergeMsg (x : Nat) (r : Relay) (s : State) : KeepsMems s (mergeMsg x r s) := by
  unfold mergeMsg
  exact .ite ((keepsMems_sramFill _ _ _ s).trans (.of_same ⟨rfl, rfl, rfl⟩)) .rfl

@[simp] theorem keepsMems_mergeInbox (s : State) : KeepsMems s (mergeInbox s) := by
  unfold mergeInbox
  refine KeepsMems.trans (KeepsMems.foldl (fun v x => ?_) _ s) (.of_same ⟨rfl, rfl, rfl⟩)
  exact .ite (KeepsMems.foldl (fun _ _ => keepsMems_mergeMsg ..) _ v) .rfl

@[simp] theorem sameMems_dropPeer (x : Nat) (s : State) : SameMems s (dropPeer x s) := by
  unfold dropPeer
  (repeat' split) <;> simp

@[simp] theorem sameMems_dropLost (s : State) : SameMems s (dropLost s) := by
  unfold dropLost
  simp

@[simp] theorem sameMems_withoutMember (x : Nat) (s : State) : SameMems s (withoutMember x s) := by
  unfold withoutMember
  simp

@[simp] theorem sameMems_endProbation (s : State) : SameMems s (endProbation s) := by
  unfold endProbation
  (repeat' split) <;> simp

@[simp] theorem sameMems_triadBoundary (s : State) : SameMems s (triadBoundary s) := by
  unfold triadBoundary
  simp

@[simp] theorem sameMems_sendHash (ready : Bool) (s : State) : SameMems s (sendHash ready s) := by
  unfold sendHash
  simp

@[simp] theorem sameMems_sendTransfer (s : State) : SameMems s (sendTransfer s) := by
  unfold sendTransfer
  (repeat' split) <;> simp

@[simp] theorem sameMems_assign (s : State) : SameMems s (assign s) := by
  unfold assign
  extract_lets shares loads s1
  have h1 : SameMems s s1 := SameMems.foldl (fun _ _ => by simp) _ _
  clear_value s1
  exact h1

@[simp] theorem sameMems_accordMark (code c pass seg : Nat) (s : State) : SameMems s (accordMark code c pass seg s) := by
  unfold accordMark
  simp

@[simp] theorem sameMems_accordRecord (code c pass : Nat) (s : State) : SameMems s (accordRecord code c pass s) := by
  unfold accordRecord
  simp

@[simp] theorem keepsMems_clearCore (c : Nat) (s : State) : KeepsMems s (clearCore c s) := by
  refine KeepsMems.trans ?_ (keepsMems_sramClear ..)
  exact .of_same ⟨rfl, rfl, rfl⟩

@[simp] theorem keepsMems_retireCores (s : State) : KeepsMems s (retireCores s) := by
  unfold retireCores
  extract_lets cs s1
  have h1 : KeepsMems s s1 := by
    refine KeepsMems.foldl (fun v c => ?_) _ s
    exact (keepsMems_clearCore c v).trans (.of_same (by simp))
  clear_value s1
  exact .ite .rfl (.ite (h1.trans (.of_same (by simp))) (h1.trans (.of_same (by simp))))

@[simp] theorem sameMems_stopSplits (s : State) : SameMems s (stopSplits s) := by
  unfold stopSplits
  simp

@[simp] theorem keepsMems_scrubCluster (k : Nat) (s : State) : KeepsMems s (scrubCluster k s) := by
  refine KeepsMems.foldl (fun v c => ?_) _ s
  generalize hu : setCore c _ v = u
  have hc : SameMems v u := by
    rw [← hu]
    exact ⟨rfl, rfl, rfl⟩
  exact (KeepsMems.of_same hc).trans ((keepsMems_clearCore c u).trans (.of_same (SameMems.foldl (fun _ _ => by simp) _ _)))

@[simp] theorem sameMems_grantStart (s : State) : SameMems s (grantStart s) := by
  unfold grantStart
  simp

@[simp] theorem sameMems_proofFault (f : ProofFail) (s : State) : SameMems s (proofFault f s) := by
  unfold proofFault
  simp

@[simp] theorem sameMems_proofTest (k : Nat) (fail : Option ProofFail) (s : State) : SameMems s (proofTest k fail s) := by
  unfold proofTest
  (repeat' split) <;> simp

@[simp] theorem sameMems_flushGathered (s : State) : SameMems s (flushGathered s) := by
  unfold flushGathered
  simp

@[simp] theorem sameMems_clearHappenings (s : State) : SameMems s (clearHappenings s) := by
  unfold clearHappenings
  simp

@[simp] theorem keepsMems_imageArea (i : Nat) (ws : List Word) (s : State) : KeepsMems s (imageArea i ws s) := by
  unfold imageArea
  exact ⟨by simp, fun h => by simp [h], fun h => by simp [h]⟩

@[simp] theorem keepsMems_staleField (n : Nat) (s : State) : KeepsMems s (staleField n s) := by
  unfold staleField
  exact ⟨by simp, fun h => by simp [h], fun h => by simp [h]⟩

@[simp] theorem sameMems_resolveBatch (s : State) : SameMems s (resolveBatch s) := by
  unfold resolveBatch
  simp

@[simp] theorem sameMems_answerBatch (released : Bool) (s : State) : SameMems s (answerBatch released s) := by
  unfold answerBatch
  simp

@[simp] theorem sameMems_startEvaluate (s : State) : SameMems s (startEvaluate s) := by
  unfold startEvaluate
  simp

@[simp] theorem sameMems_sortLists (s : State) : SameMems s (sortLists s) := by
  unfold sortLists
  simp

@[simp] theorem sameMems_releaseField (s : State) : SameMems s (releaseField s) := by
  unfold releaseField
  simp

@[simp] theorem sameMems_releaseMotion (s : State) : SameMems s (releaseMotion s) := by
  unfold releaseMotion
  simp

@[simp] theorem sameMems_releaseOutbox (s : State) : SameMems s (releaseOutbox s) := by
  unfold releaseOutbox
  simp

@[simp] theorem keepsMems_zeroOutbox (s : State) : KeepsMems s (zeroOutbox s) := by
  unfold zeroOutbox
  exact ⟨by simp, fun h => by simp [h], fun h => by simp [h]⟩

@[simp] theorem sameMems_cycleSamples (s : State) : SameMems s (cycleSamples s).2 := by
  unfold cycleSamples
  simp

@[simp] theorem sameMems_housekeepMetrics (s : State) : SameMems s (housekeepMetrics s) := by
  unfold housekeepMetrics
  simp

@[simp] theorem sameMems_scrubWord (f : ScrubFinding) (s : State) : SameMems s (scrubWord f s) := by
  unfold scrubWord
  (repeat' split) <;> simp

@[simp] theorem sameMems_scrub (n : Nat) (found : List ScrubFinding) (s : State) : SameMems s (scrub n found s) := by
  unfold scrub
  simp

@[simp] theorem sameMems_setFresh (b : Nat) (s : State) : SameMems s (setFresh b s) := by
  unfold setFresh
  simp

@[simp] theorem keepsMems_updateConns (s : State) : KeepsMems s (updateConns s) := by
  unfold updateConns
  exact ⟨by simp, fun h => by simp [h], fun h => by simp [h]⟩

@[simp] theorem sameMems_overrunNow (s : State) : SameMems s (overrunNow s) := by
  unfold overrunNow
  simp

@[simp] theorem sameMems_overrunBefore (ns : Nat) (s : State) : SameMems s (overrunBefore ns s) := by
  unfold overrunBefore
  simp

@[simp] theorem sameMems_finishDigest (s : State) : SameMems s (finishDigest s) := by
  unfold finishDigest
  simp

@[simp] theorem sameMems_proofTests (fail : Option ProofFail) (s : State) : SameMems s (proofTests fail s) := by
  unfold proofTests
  simp

@[simp] theorem sameMems_applyWords (f : Nat) (w : Word × Word × Word) (s : State) : SameMems s (applyWords f w s) := by
  unfold applyWords
  simp

@[simp] theorem sameMems_belowBand (lo hi x : Nat) (s : State) : SameMems s (belowBand lo hi x s).2 := by
  unfold belowBand
  simp

@[simp] theorem sameMems_reportSystem (f j : Nat) (sysB : Bool) (report cause : Nat) (s : State) : SameMems s (reportSystem f j sysB report cause s) := by
  unfold reportSystem
  simp

@[simp] theorem sameMems_classify (occupied : Bool) (ua : Nat) (s : State) : SameMems s (classify occupied ua s).2 := by
  unfold classify
  simp

@[simp] theorem sameMems_sampleSystem (f j : Nat) (sysB : Bool) (ua : Nat) (s : State) : SameMems s (sampleSystem f j sysB ua s) := by
  unfold sampleSystem
  simp

@[simp] theorem sameMems_sampleFrontEnds (f : Nat) (loops : List (Nat × Nat)) (s : State) : SameMems s (sampleFrontEnds f loops s) := by
  unfold sampleFrontEnds
  simp

@[simp] theorem sameMems_deliverSnapshot (f : Nat) (s : State) : SameMems s (deliverSnapshot f s) := by
  unfold deliverSnapshot
  simp

@[simp] theorem sameMems_rejoinBlock (f : Nat) (s : State) : SameMems s (rejoinBlock f s) := by
  unfold rejoinBlock
  simp

@[simp] theorem sameMems_isolateBlock (f : Nat) (s : State) : SameMems s (isolateBlock f s) := by
  unfold isolateBlock
  simp

@[simp] theorem sameMems_blockUndervolt (f : Nat) (s : State) : SameMems s (blockUndervolt f s) := by
  unfold blockUndervolt
  simp

@[simp] theorem sameMems_soTimeout (f j : Nat) (s : State) : SameMems s (soTimeout f j s) := by
  unfold soTimeout
  simp

@[simp] theorem sameMems_soCheck (f j : Nat) (s : State) : SameMems s (soCheck f j s) := by
  unfold soCheck
  dsimp only
  (repeat' split) <;> simp

@[simp] theorem sameMems_directField (f code : Nat) (a b c dem : Word) (s : State) : SameMems s (directField f code a b c dem s) := by
  unfold directField
  simp

@[simp] theorem sameMems_clearKind (f lo hi : Nat) (a b c dem : Word) (s : State) : SameMems s (clearKind f lo hi a b c dem s) := by
  unfold clearKind
  simp

@[simp] theorem sameMems_endFieldTest (s : State) : SameMems s (endFieldTest s) := by
  unfold endFieldTest
  simp

@[simp] theorem sameMems_fieldTestWrite (v : Word) (s : State) : SameMems s (fieldTestWrite v s) := by
  unfold fieldTestWrite
  simp

@[simp] theorem sameMems_setLatch (q a : Nat) (v : Word) (s : State) : SameMems s (setLatch q a v s) := by
  unfold setLatch
  simp

@[simp] theorem sameMems_dropLatch (q a : Nat) (s : State) : SameMems s (dropLatch q a s) := by
  unfold dropLatch
  simp

@[simp] theorem sameMems_latchOthers (q a : Nat) (s : State) : SameMems s (latchOthers q a s) := by
  unfold latchOthers
  simp

@[simp] theorem sameMems_clearRc (k : RegName) (i : Nat) (s : State) : SameMems s (clearRc k i s) := by
  unfold clearRc
  (repeat' split) <;> simp

@[simp] theorem sameMems_readWord (q a : Nat) (s : State) : SameMems s (readWord q a s).2 := by
  unfold readWord
  dsimp only
  (repeat' split) <;> simp

@[simp] theorem sameMems_setKeep (f : Keeper → Keeper) (s : State) : SameMems s (setKeep f s) := by
  unfold setKeep
  simp

@[simp] theorem sameMems_setSlot (k : Nat) (f : Slot → Slot) (s : State) : SameMems s (setSlot k f s) := by
  unfold setSlot
  simp

@[simp] theorem sameMems_slotState (k : Nat) (t0 : SlotState) (s : State) : SameMems s (slotState k t0 s) := by
  unfold slotState
  simp

@[simp] theorem sameMems_activateSlot (ks : List Nat) (k : Nat) (s : State) : SameMems s (activateSlot ks k s) := by
  unfold activateSlot
  (repeat' split) <;> simp

@[simp] theorem sameMems_advanceFuse (get : Fused → Nat) (set : Nat → Fused → Fused) (k : Nat) (s : State) : SameMems s (advanceFuse get set k s) := by
  unfold advanceFuse
  simp

@[simp] theorem sameMems_fuseLk (k : Nat) (s : State) : SameMems s (fuseLk k s) := by
  unfold fuseLk
  simp

@[simp] theorem sameMems_fuseSvc (k : Nat) (s : State) : SameMems s (fuseSvc k s) := by
  unfold fuseSvc
  simp

@[simp] theorem sameMems_fuseProg (k : Nat) (s : State) : SameMems s (fuseProg k s) := by
  unfold fuseProg
  simp

@[simp] theorem keepsMems_stateInit (n : Nat) (v : Word) (s : State) : KeepsMems s (stateInit n v s) := by
  unfold stateInit
  exact ⟨by simp, fun h => by simp [h], fun h => by simp [h]⟩

@[simp] theorem sameMems_coldJournal (j : StoreLoss) (s : State) : SameMems s (coldJournal j s) := by
  unfold coldJournal
  (repeat' split) <;> simp

@[simp] theorem sameMems_beginBoot (b : BootKind) (stage kind code : Nat) (s : State) : SameMems s (beginBoot b stage kind code s) := by
  unfold beginBoot
  simp

@[simp] theorem sameMems_expireArmed (s : State) : SameMems s (expireArmed s) := by
  unfold expireArmed
  (repeat' split) <;> simp

@[simp] theorem sameMems_commitSettings (s : State) : SameMems s (commitSettings s) := by
  unfold commitSettings
  simp

@[simp] theorem sameMems_judgeCopy (n : Nat) (bad : Bool) (get : Keeper → Settings) (set : Settings → Keeper → Keeper) (s : State) : SameMems s (judgeCopy n bad get set s) := by
  unfold judgeCopy
  simp

@[simp] theorem sameMems_restoreValues (p : Nat → Bool) (values : Tab Word) (s : State) : SameMems s (restoreValues p values s) := by
  unfold restoreValues
  simp

@[simp] theorem sameMems_activatePolicy (p : Policy) (s : State) : SameMems s (activatePolicy p s) := by
  unfold activatePolicy
  simp

@[simp] theorem sameMems_beginTrial (ks : List Nat) (s : State) : SameMems s (beginTrial ks s) := by
  unfold beginTrial
  (repeat' split) <;> simp

@[simp] theorem sameMems_discardStaged (s : State) : SameMems s (discardStaged s) := by
  unfold discardStaged
  simp

@[simp] theorem sameMems_romRecover (s : State) : SameMems s (romRecover s) := by
  unfold romRecover
  simp

@[simp] theorem sameMems_stageS3 (r : BootRun) (s : State) : SameMems s (stageS3 r s) := by
  unfold stageS3
  simp

@[simp] theorem sameMems_failTorn (r : BootRun) (s : State) : SameMems s (failTorn r s) := by
  unfold failTorn
  simp

@[simp] theorem sameMems_bootPolicy (r : BootRun) (g : Settings) (s : State) : SameMems s (bootPolicy r g s) := by
  unfold bootPolicy
  (repeat' split) <;> simp

@[simp] theorem sameMems_bootConf (r : BootRun) (g : Settings) (s : State) : SameMems s (bootConf r g s) := by
  unfold bootConf
  (repeat' split) <;> simp

@[simp] theorem sameMems_bootImage (r : BootRun) (s : State) : SameMems s (bootImage r s) := by
  unfold bootImage
  (repeat' split) <;> simp

@[simp] theorem sameMems_stageS6 (r : BootRun) (s : State) : SameMems s (stageS6 r s) := by
  unfold stageS6
  dsimp only
  (repeat' split) <;> simp

@[simp] theorem sameMems_disturbSections (s : State) : SameMems s (disturbSections s) := by
  unfold disturbSections
  simp

@[simp] theorem sameMems_confirmTrials (s : State) : SameMems s (confirmTrials s) := by
  unfold confirmTrials
  dsimp only
  (repeat' split) <;> simp

@[simp] theorem sameMems_stageSlot (k : Nat) (h0 : EnvHead) (p : List Byte) (s : State) : SameMems s (stageSlot k h0 p s) := by
  unfold stageSlot
  simp

@[simp] theorem sameMems_noteCounter (h0 : EnvHead) (s : State) : SameMems s (noteCounter h0 s) := by
  unfold noteCounter
  simp

@[simp] theorem sameMems_fuseAnchor (p : List Byte) (s : State) : SameMems s (fuseAnchor p s) := by
  unfold fuseAnchor
  (repeat' split) <;> simp

@[simp] theorem sameMems_rejectEnvelope (b code : Nat) (c : Checking) (s : State) : SameMems s (rejectEnvelope b code c s) := by
  unfold rejectEnvelope
  simp

@[simp] theorem sameMems_wakeEdge (k : Nat) (s : State) : SameMems s (wakeEdge k s) := by
  unfold wakeEdge
  simp

@[simp] theorem sameMems_setTemp (i : Nat) (f : Sensor → Sensor) (s : State) : SameMems s (setTemp i f s) := by
  unfold setTemp
  simp

@[simp] theorem sameMems_tempAtLimit (i : Nat) (x : Int) (s : State) : SameMems s (tempAtLimit i x s) := by
  unfold tempAtLimit
  simp

@[simp] theorem sameMems_sampleTemp (i : Nat) (x : Int) (s : State) : SameMems s (sampleTemp i x s) := by
  unfold sampleTemp
  simp

@[simp] theorem sameMems_setVolt (v : Nat) (f : Sensor → Sensor) (s : State) : SameMems s (setVolt v f s) := by
  unfold setVolt
  simp

@[simp] theorem sameMems_networkDown (s : State) : SameMems s (networkDown s) := by
  unfold networkDown
  simp

@[simp] theorem sameMems_payOwed (n : Nat) (s : State) : SameMems s (payOwed n s) := by
  unfold payOwed
  simp

@[simp] theorem sameMems_networkBack (s : State) : SameMems s (networkBack s) := by
  unfold networkBack
  simp

@[simp] theorem sameMems_releaseHeldReset (v : Nat) (s : State) : SameMems s (releaseHeldReset v s) := by
  unfold releaseHeldReset
  simp

@[simp] theorem sameMems_clockAction (n : Nat) (s : State) : SameMems s (clockAction n s) := by
  unfold clockAction
  (repeat' split) <;> simp

@[simp] theorem sameMems_resetWindow (w : Nat) (s : State) : SameMems s (resetWindow w s) := by
  unfold resetWindow
  simp

@[simp] theorem sameMems_serviceFirstUse (s : State) : SameMems s (serviceFirstUse s) := by
  unfold serviceFirstUse
  simp

@[simp] theorem sameMems_regionFirstUse (region : Nat) (s : State) : SameMems s (regionFirstUse region s) := by
  unfold regionFirstUse
  (repeat' split) <;> simp

@[simp] theorem sameMems_refuseStabled (reason : Nat) (s : State) : SameMems s (refuseStabled reason s) := by
  unfold refuseStabled
  simp

@[simp] theorem sameMems_requestStabled (s : State) : SameMems s (requestStabled s) := by
  unfold requestStabled
  simp

@[simp] theorem sameMems_enterStabled (s : State) : SameMems s (enterStabled s) := by
  unfold enterStabled
  simp

@[simp] theorem sameMems_wakeSource (k : Nat) (s : State) : SameMems s (wakeSource k s) := by
  unfold wakeSource
  simp

@[simp] theorem sameMems_releaseSnapshot (s : State) : SameMems s (releaseSnapshot s) := by
  unfold releaseSnapshot
  simp

@[simp] theorem sameMems_idleCycle (s : State) : SameMems s (idleCycle s) := by
  unfold idleCycle
  simp

@[simp] theorem sameMems_noteEcc (e : Ecc) (s : State) : SameMems s (noteEcc e s) := by
  unfold noteEcc
  (repeat' split) <;> simp

@[simp] theorem sameMems_loadResult (ctx : Ctx) (rt : Nat) (v : Word) (pois : Bool) (ecc : Ecc) (s : State) : SameMems s (loadResult ctx rt v pois ecc s) := by
  unfold loadResult
  simp

@[simp] theorem keepsMems_ldJoined (c : Nat) (p : Pass) (rt : Nat) (sp : Space) (i : Nat) (pois : Bool) (ecc : Ecc) (s : State) : KeepsMems s (ldJoined c p rt sp i pois ecc s) := by
  unfold ldJoined
  dsimp only
  (repeat' split) <;> exact ⟨by simp, fun h => by simp [h], fun h => by simp [h]⟩

@[simp] theorem keepsMems_ldService (c rt : Nat) (sp : Space) (i : Nat) (ecc : Ecc) (s : State) : KeepsMems s (ldService c rt sp i ecc s) := by
  unfold ldService
  dsimp only
  (repeat' split) <;> exact ⟨by simp, fun h => by simp [h], fun h => by simp [h]⟩

@[simp] theorem keepsMems_emit (c : Nat) (p : Pass) (o : BusOut) (pois : Bool) (s : State) : KeepsMems s (emit c p o pois s) := by
  unfold emit
  exact ⟨by simp, fun h => by simp [h], fun h => by simp [h]⟩

@[simp] theorem keepsMems_stJoined (c : Nat) (p : Pass) (sp : Space) (i : Nat) (v : Word) (aPois dPois : Bool) (s : State) : KeepsMems s (stJoined c p sp i v aPois dPois s) := by
  unfold stJoined
  (repeat' split) <;> exact ⟨by simp, fun h => by simp [h], fun h => by simp [h]⟩

@[simp] theorem keepsMems_stSplit (c k : Nat) (sp : Space) (i : Nat) (v : Word) (s : State) : KeepsMems s (stSplit c k sp i v s) := by
  unfold stSplit
  (repeat' split) <;> exact ⟨by simp, fun h => by simp [h], fun h => by simp [h]⟩

@[simp] theorem keepsMems_stService (c : Nat) (sp : Space) (i : Nat) (v : Word) (s : State) : KeepsMems s (stService c sp i v s) := by
  unfold stService
  dsimp only
  (repeat' split) <;> exact ⟨by simp, fun h => by simp [h], fun h => by simp [h]⟩

@[simp] theorem sameMems_carryOne (c : Nat) (p : Pass) (x : Nat × Ecc) (s : State) : SameMems s (carryOne c p x s) := by
  unfold carryOne
  simp

@[simp] theorem keepsMems_onextPart (c : Nat) (p : Pass) (n : Nat) (eccs : List Ecc) (s : State) : KeepsMems s (onextPart c p n eccs s) := by
  unfold onextPart
  exact ⟨by simp, fun h => by simp [h], fun h => by simp [h]⟩

@[simp] theorem keepsMems_onextJoined (c : Nat) (p : Pass) (k : Nat) (eccs : List Ecc) (s : State) : KeepsMems s (onextJoined c p k eccs s) := by
  unfold onextJoined
  (repeat' split) <;> exact ⟨by simp, fun h => by simp [h], fun h => by simp [h]⟩

@[simp] theorem sameMems_claimWord (c : Nat) (s : State) : SameMems s (claimWord c s).2 := by
  unfold claimWord
  (repeat' split) <;> simp

@[simp] theorem sameMems_readSr (c sr : Nat) (s : State) : SameMems s (readSr c sr s).2 := by
  unfold readSr
  (repeat' split) <;> simp

@[simp] theorem sameMems_writeSr (c sr : Nat) (v : Word) (s : State) : SameMems s (writeSr c sr v s) := by
  unfold writeSr
  (repeat' split) <;> simp

@[simp] theorem sameMems_measure (p : Nat) (m : Int) (s : State) : SameMems s (measure p m s) := by
  unfold measure
  simp

@[simp] theorem sameMems_tryLinkUp (p : Nat) (s : State) : SameMems s (tryLinkUp p s) := by
  unfold tryLinkUp
  simp

@[simp] theorem sameMems_sendJoin (s : State) : SameMems s (sendJoin s) := by
  unfold sendJoin
  simp

@[simp] theorem sameMems_discardJoin (x st : Nat) (s : State) : SameMems s (discardJoin x st s) := by
  unfold discardJoin
  simp

theorem proceeds_execInboxSwap (ackNs : Nat) (s : State) : Proceeds s (execInboxSwap ackNs s) := by
  unfold execInboxSwap
  dsimp only
  (repeat' split) <;> exact .next ⟨by simp, fun h => by simp [h], fun h => by simp [h]⟩

theorem proceeds_execEvaluateEnd (atNs : Nat) (s : State) : Proceeds s (execEvaluateEnd atNs s) := by
  unfold execEvaluateEnd
  (repeat' split) <;> exact .next_same (by simp)

theorem proceeds_execAccordCloseEnd (atNs : Nat) (s : State) : Proceeds s (execAccordCloseEnd atNs s) := by
  unfold execAccordCloseEnd
  dsimp only
  (repeat' split) <;> exact .next_same (by simp)

theorem proceeds_execReleaseEnd (endNs : Nat) (proof : Option ProofFail) (scrubbed : Nat) (found : List ScrubFinding) (s : State) : Proceeds s (execReleaseEnd endNs proof scrubbed found s) := by
  unfold execReleaseEnd
  dsimp only
  (repeat' split) <;> exact .next ⟨by simp, fun h => by simp [h], fun h => by simp [h]⟩

theorem proceeds_execClusterHandoverComplete (k : Fin 8) (proof : Option ProofFail) (s : State) : Proceeds s (execClusterHandoverComplete k proof s) := by
  unfold execClusterHandoverComplete
  dsimp only
  (repeat' split) <;> exact .next_same (by simp)

theorem proceeds_execFieldLinkOutboundFrame (f : Fin 4) (atNs : Nat) (bad : Bool) (s : State) : Proceeds s (execFieldLinkOutboundFrame f atNs bad s) := by
  unfold execFieldLinkOutboundFrame
  dsimp only
  (repeat' split) <;> exact .next_same (by simp)

theorem proceeds_execFieldBlockSilent (f : Fin 4) (atNs : Nat) (s : State) : Proceeds s (execFieldBlockSilent f atNs s) := by
  unfold execFieldBlockSilent
  dsimp only
  (repeat' split) <;> exact .next_same (by simp)

theorem proceeds_execFclkDeviation (f : Fin 4) (s : State) : Proceeds s (execFclkDeviation f s) := by
  unfold execFclkDeviation
  (repeat' split) <;> exact .next_same (by simp)

theorem proceeds_execSerialWatchdogExpiry (f : Fin 4) (atNs : Nat) (s : State) : Proceeds s (execSerialWatchdogExpiry f atNs s) := by
  unfold execSerialWatchdogExpiry
  dsimp only
  (repeat' split) <;> exact .next_same (by simp)

theorem proceeds_execTripLineLow (f : Fin 4) (s : State) : Proceeds s (execTripLineLow f s) := by
  unfold execTripLineLow
  (repeat' split) <;> exact .next_same (by simp)

theorem proceeds_execFieldBlockReset (f : Fin 4) (s : State) : Proceeds s (execFieldBlockReset f s) := by
  unfold execFieldBlockReset
  exact .next_same (by simp)

theorem proceeds_execLinkCheckPassed (f : Fin 4) (atNs : Nat) (s : State) : Proceeds s (execLinkCheckPassed f atNs s) := by
  unfold execLinkCheckPassed
  dsimp only
  (repeat' split) <;> exact .next_same (by simp)

theorem proceeds_execLinkCheckTimeout (f : Fin 4) (atNs : Nat) (s : State) : Proceeds s (execLinkCheckTimeout f atNs s) := by
  unfold execLinkCheckTimeout
  dsimp only
  (repeat' split) <;> exact .next_same (by simp)

theorem proceeds_execVfieldUndervoltage (f : Fin 4) (s : State) : Proceeds s (execVfieldUndervoltage f s) := by
  unfold execVfieldUndervoltage
  exact .next_same (by simp)

theorem proceeds_execVfieldRestored (f : Fin 4) (s : State) : Proceeds s (execVfieldRestored f s) := by
  unfold execVfieldRestored
  (repeat' split) <;> exact .next_same (by simp)

theorem proceeds_execDioInputLevelChange (f : Fin 4) (c : Fin 24) (level : Bool) (atNs : Nat) (s : State) : Proceeds s (execDioInputLevelChange f c level atNs s) := by
  unfold execDioInputLevelChange
  exact .next_same (by simp)

theorem proceeds_execWireBreakSet (f : Fin 4) (c : Fin 24) (s : State) : Proceeds s (execWireBreakSet f c s) := by
  unfold execWireBreakSet
  (repeat' split) <;> exact .next_same (by simp)

theorem proceeds_execWireBreakClear (f : Fin 4) (c : Fin 24) (s : State) : Proceeds s (execWireBreakClear f c s) := by
  unfold execWireBreakClear
  exact .next_same (by simp)

theorem proceeds_execDioOverload (f : Fin 4) (c : Fin 24) (s : State) : Proceeds s (execDioOverload f c s) := by
  unfold execDioOverload
  (repeat' split) <;> exact .next_same (by simp)

theorem proceeds_execDioOverTemperature (f : Fin 4) (c : Fin 24) (s : State) : Proceeds s (execDioOverTemperature f c s) := by
  unfold execDioOverTemperature
  (repeat' split) <;> exact .next_same (by simp)

theorem proceeds_execOpenWireSet (f : Fin 4) (c : Fin 24) (s : State) : Proceeds s (execOpenWireSet f c s) := by
  unfold execOpenWireSet
  dsimp only
  (repeat' split) <;> exact .next_same (by simp)

theorem proceeds_execOpenWireClear (f : Fin 4) (c : Fin 24) (s : State) : Proceeds s (execOpenWireClear f c s) := by
  unfold execOpenWireClear
  exact .next_same (by simp)

theorem proceeds_execTwoChannelCheckSample (f : Fin 4) (atNs : Nat) (s : State) : Proceeds s (execTwoChannelCheckSample f atNs s) := by
  unfold execTwoChannelCheckSample
  exact .next_same (by simp)

theorem proceeds_execLoadSwitchInrushEnd (f : Fin 4) (i : Fin 8) (atNs : Nat) (s : State) : Proceeds s (execLoadSwitchInrushEnd f i atNs s) := by
  unfold execLoadSwitchInrushEnd
  dsimp only
  (repeat' split) <;> exact .next_same (by simp)

theorem proceeds_execLoadSwitchCurrentLimit (f : Fin 4) (i : Fin 8) (s : State) : Proceeds s (execLoadSwitchCurrentLimit f i s) := by
  unfold execLoadSwitchCurrentLimit
  (repeat' split) <;> exact .next_same (by simp)

theorem proceeds_execLimitRecovery (f : Fin 4) (i : Fin 8) (s : State) : Proceeds s (execLimitRecovery f i s) := by
  unfold execLimitRecovery
  (repeat' split) <;> exact .next_same (by simp)

theorem proceeds_execThermalShutdown (f : Fin 4) (i : Fin 8) (s : State) : Proceeds s (execThermalShutdown f i s) := by
  unfold execThermalShutdown
  dsimp only
  (repeat' split) <;> exact .next_same (by simp)

theorem proceeds_execCoolingRestart (f : Fin 4) (i : Fin 8) (s : State) : Proceeds s (execCoolingRestart f i s) := by
  unfold execCoolingRestart
  (repeat' split) <;> exact .next_same (by simp)

theorem proceeds_execOpenLoadSet (f : Fin 4) (i : Fin 8) (atNs : Nat) (s : State) : Proceeds s (execOpenLoadSet f i atNs s) := by
  unfold execOpenLoadSet
  dsimp only
  (repeat' split) <;> exact .next_same (by simp)

theorem proceeds_execOpenLoadClear (f : Fin 4) (i : Fin 8) (s : State) : Proceeds s (execOpenLoadClear f i s) := by
  unfold execOpenLoadClear
  exact .next_same (by simp)

theorem proceeds_execRetryCountReset (f : Fin 4) (i : Fin 8) (atNs : Nat) (s : State) : Proceeds s (execRetryCountReset f i atNs s) := by
  unfold execRetryCountReset
  dsimp only
  (repeat' split) <;> exact .next_same (by simp)

theorem proceeds_execSoCheckSample (f : Fin 4) (atNs : Nat) (s : State) : Proceeds s (execSoCheckSample f atNs s) := by
  unfold execSoCheckSample
  exact .next_same (by simp)

theorem proceeds_execSoFeedbackTimeout (f j : Fin 4) (s : State) : Proceeds s (execSoFeedbackTimeout f j s) := by
  unfold execSoFeedbackTimeout
  exact .next_same (by simp)

theorem proceeds_execTestPulseDue (f j : Fin 4) (second : Bool) (atNs : Nat) (s : State) : Proceeds s (execTestPulseDue f j second atNs s) := by
  unfold execTestPulseDue
  dsimp only
  (repeat' split) <;> exact .next_same (by simp)

theorem proceeds_execTestPulseReadback (f j : Fin 4) (pulsed other vfield atNs : Nat) (s : State) : Proceeds s (execTestPulseReadback f j pulsed other vfield atNs s) := by
  unfold execTestPulseReadback
  dsimp only
  (repeat' split) <;> exact .next_same (by simp)

theorem proceeds_execTestPulseEnd (f j : Fin 4) (atNs : Nat) (s : State) : Proceeds s (execTestPulseEnd f j atNs s) := by
  unfold execTestPulseEnd
  dsimp only
  (repeat' split) <;> exact .next_same (by simp)

theorem proceeds_execWheelSystemCurrentLimit (f j : Fin 4) (sysB : Bool) (atNs : Nat) (s : State) : Proceeds s (execWheelSystemCurrentLimit f j sysB atNs s) := by
  unfold execWheelSystemCurrentLimit
  dsimp only
  (repeat' split) <;> exact .next_same (by simp)

theorem proceeds_execWheelSystemRetry (f j : Fin 4) (sysB : Bool) (atNs : Nat) (s : State) : Proceeds s (execWheelSystemRetry f j sysB atNs s) := by
  unfold execWheelSystemRetry
  dsimp only
  (repeat' split) <;> exact .next_same (by simp)

theorem proceeds_execPwm (f : Fin 4) (a b c : Word) (s : State) : Proceeds s (execPwm f a b c s) := by
  unfold execPwm
  exact .next_same (by simp)

theorem proceeds_execClearDioOutput (f : Fin 4) (a b c : Word) (s : State) : Proceeds s (execClearDioOutput f a b c s) := by
  unfold execClearDioOutput
  exact .next_same (by simp)

theorem proceeds_execClearLoadSwitch (f : Fin 4) (a b c : Word) (s : State) : Proceeds s (execClearLoadSwitch f a b c s) := by
  unfold execClearLoadSwitch
  exact .next_same (by simp)

theorem proceeds_execClearPair (f : Fin 4) (a b c dem : Word) (s : State) : Proceeds s (execClearPair f a b c dem s) := by
  unfold execClearPair
  exact .next_same (by simp)

theorem proceeds_execFldTestNotRenewed (atNs : Nat) (s : State) : Proceeds s (execFldTestNotRenewed atNs s) := by
  unfold execFldTestNotRenewed
  dsimp only
  (repeat' split) <;> exact .next_same (by simp)

theorem proceeds_execYalaUnitReceived (p : Fin 4) (f : NetFrame) (s : State) : Proceeds s (execYalaUnitReceived p f s) := by
  unfold execYalaUnitReceived
  dsimp only
  (repeat' split) <;> exact .next ⟨by simp, fun h => by simp [h], fun h => by simp [h]⟩

theorem proceeds_execArpRequest (p : Fin 4) (mac : BitVec 48) (ip target : Word) (s : State) : Proceeds s (execArpRequest p mac ip target s) := by
  unfold execArpRequest
  exact .next_same (by simp)

theorem proceeds_execNonYalaFrame (p : Fin 4) (fcsOk : Bool) (length : BitVec 16) (tcp : Option TcpSegment) (s : State) : Proceeds s (execNonYalaFrame p fcsOk length tcp s) := by
  unfold execNonYalaFrame
  exact .next_same (by simp)

theorem proceeds_execPortLinkUp (p : Fin 4) (fec gigabit : Bool) (s : State) : Proceeds s (execPortLinkUp p fec gigabit s) := by
  unfold execPortLinkUp
  exact .next_same (by simp)

theorem proceeds_execPortLinkDown (p : Fin 4) (s : State) : Proceeds s (execPortLinkDown p s) := by
  unfold execPortLinkDown
  exact .next_same (by simp)

theorem proceeds_execTrainingOrNegotiationFailed (p : Fin 4) (s : State) : Proceeds s (execTrainingOrNegotiationFailed p s) := by
  unfold execTrainingOrNegotiationFailed
  exact .next_same (by simp)

theorem proceeds_execSealerEngineFault (s : State) : Proceeds s (execSealerEngineFault s) := by
  unfold execSealerEngineFault
  exact .next_same (by simp)

theorem proceeds_execRecordWritten (unitFails : Bool) (s : State) : Proceeds s (execRecordWritten unitFails s) := by
  unfold execRecordWritten
  dsimp only
  (repeat' split) <;> exact .next_same (by simp)

theorem proceeds_execCheckpoint (s : State) : Proceeds s (execCheckpoint s) := by
  unfold execCheckpoint
  exact .next_same (by simp)

theorem proceeds_execCheckpointSigned (s : State) : Proceeds s (execCheckpointSigned s) := by
  unfold execCheckpointSigned
  exact .next_same (by simp)

theorem proceeds_execLostRecord (s : State) : Proceeds s (execLostRecord s) := by
  unfold execLostRecord
  dsimp only
  (repeat' split) <;> exact .next_same (by simp)

theorem proceeds_execJournalStoreFault (s : State) : Proceeds s (execJournalStoreFault s) := by
  unfold execJournalStoreFault
  exact .next_same (by simp)

theorem proceeds_execFlaconScanComplete (atNs : Nat) (s : State) : Proceeds s (execFlaconScanComplete atNs s) := by
  unfold execFlaconScanComplete
  dsimp only
  (repeat' split) <;> exact .next_same (by simp)

theorem proceeds_execUnitErased (fails : Bool) (s : State) : Proceeds s (execUnitErased fails s) := by
  unfold execUnitErased
  (repeat' split) <;> exact .next_same (by simp)

theorem proceeds_execProgramRecordSlot (slot : Fin 512) (w0 w1 w2 w3 : Word) (late : Bool) (s : State) : Proceeds s (execProgramRecordSlot slot w0 w1 w2 w3 late s) := by
  unfold execProgramRecordSlot
  exact .next_same (by simp)

theorem proceeds_execDoorCycleSlot (slot : Fin 512) (w0 w1 w2 w3 : Word) (late : Bool) (s : State) : Proceeds s (execDoorCycleSlot slot w0 w1 w2 w3 late s) := by
  unfold execDoorCycleSlot
  exact .next_same (by simp)

theorem proceeds_execMetricSampleSlot (slot : Fin 512) (w0 w1 w2 w3 : Word) (late : Bool) (s : State) : Proceeds s (execMetricSampleSlot slot w0 w1 w2 w3 late s) := by
  unfold execMetricSampleSlot
  exact .next_same (by simp)

theorem proceeds_execStatisticsPersist (atNs : Nat) (s : State) : Proceeds s (execStatisticsPersist atNs s) := by
  unfold execStatisticsPersist
  dsimp only
  (repeat' split) <;> exact .next_same (by simp)

theorem proceeds_execEventEdge (src : Fin 255) (merge : Bool) (atNs : Nat) (s : State) : Proceeds s (execEventEdge src merge atNs s) := by
  unfold execEventEdge
  dsimp only
  (repeat' split) <;> exact .next_same (by simp)

theorem proceeds_execGatherTimeLimit (src : Fin 255) (atNs : Nat) (s : State) : Proceeds s (execGatherTimeLimit src atNs s) := by
  unfold execGatherTimeLimit
  dsimp only
  (repeat' split) <;> exact .next_same (by simp)

theorem proceeds_execEventPresentation (c : Fin 4) (toClaim tail : Bool) (s : State) : Proceeds s (execEventPresentation c toClaim tail s) := by
  unfold execEventPresentation
  dsimp only
  (repeat' split) <;> exact .next ⟨by simp, fun h => by simp [h], fun h => by simp [h]⟩

theorem proceeds_execServiceWatchdogExpiry (c : Fin 4) (atNs : Nat) (s : State) : Proceeds s (execServiceWatchdogExpiry c atNs s) := by
  unfold execServiceWatchdogExpiry
  dsimp only
  (repeat' split) <;> exact .next_same (by simp)

theorem proceeds_execServiceTimerExpiry (t0 : Fin 7) (atNs : Nat) (s : State) : Proceeds s (execServiceTimerExpiry t0 atNs s) := by
  unfold execServiceTimerExpiry
  dsimp only
  (repeat' split) <;> exact .next_same (by simp)

theorem proceeds_execWakeEdge (k : Fin 16) (s : State) : Proceeds s (execWakeEdge k s) := by
  unfold execWakeEdge
  exact .next_same (by simp)

theorem proceeds_execTemperatureSample (atNs : Nat) (readings : List (BitVec 16)) (s : State) : Proceeds s (execTemperatureSample atNs readings s) := by
  unfold execTemperatureSample
  exact .next_same (by simp)

theorem proceeds_execRailBackInWindow (v : Fin 16) (mv : BitVec 16) (s : State) : Proceeds s (execRailBackInWindow v mv s) := by
  unfold execRailBackInWindow
  dsimp only
  (repeat' split) <;> exact .next_same (by simp)

theorem proceeds_execSensorSummary (atNs : Nat) (s : State) : Proceeds s (execSensorSummary atNs s) := by
  unfold execSensorSummary
  dsimp only
  (repeat' split) <;> exact .next_same (by simp)

theorem proceeds_execClockMonitorOutOfRange (n : Fin 8) (s : State) : Proceeds s (execClockMonitorOutOfRange n s) := by
  unfold execClockMonitorOutOfRange
  (repeat' split) <;> exact .next_same (by simp)

theorem proceeds_execClockBackInRange (n : Fin 8) (s : State) : Proceeds s (execClockBackInRange n s) := by
  unfold execClockBackInRange
  (repeat' split) <;> exact .next_same (by simp)

theorem proceeds_execRegionReinitComplete (region : Fin 7) (atNs : Nat) (s : State) : Proceeds s (execRegionReinitComplete region atNs s) := by
  unfold execRegionReinitComplete
  dsimp only
  (repeat' split) <;> exact .next_same (by simp)

theorem proceeds_execRegionReinitTimeout (region : Fin 7) (atNs : Nat) (s : State) : Proceeds s (execRegionReinitTimeout region atNs s) := by
  unfold execRegionReinitTimeout
  dsimp only
  (repeat' split) <;> exact .next_same (by simp)

theorem proceeds_execHoldEntry (cause : BitVec 16) (s : State) : Proceeds s (execHoldEntry cause s) := by
  unfold execHoldEntry
  exact .next_same (by simp)

theorem proceeds_execStabledEntry (s : State) : Proceeds s (execStabledEntry s) := by
  unfold execStabledEntry
  (repeat' split) <;> exact .next_same (by simp)

theorem proceeds_execWakenFalling (s : State) : Proceeds s (execWakenFalling s) := by
  unfold execWakenFalling
  exact .next_same (by simp)

theorem proceeds_execStabledTimerExpiry (s : State) : Proceeds s (execStabledTimerExpiry s) := by
  unfold execStabledTimerExpiry
  exact .next_same (by simp)

theorem proceeds_execUartKStartBit (s : State) : Proceeds s (execUartKStartBit s) := by
  unfold execUartKStartBit
  exact .next_same (by simp)

theorem proceeds_execFb0WakeInput (w : Fin 4) (s : State) : Proceeds s (execFb0WakeInput w s) := by
  unfold execFb0WakeInput
  exact .next_same (by simp)

theorem proceeds_execSnapBallEdge (atNs : Nat) (s : State) : Proceeds s (execSnapBallEdge atNs s) := by
  unfold execSnapBallEdge
  exact .next_same (by simp)

theorem proceeds_execSnapshotCopied (s : State) : Proceeds s (execSnapshotCopied s) := by
  unfold execSnapshotCopied
  exact .next_same (by simp)

theorem proceeds_execSnapshotFbTimeout (atNs : Nat) (s : State) : Proceeds s (execSnapshotFbTimeout atNs s) := by
  unfold execSnapshotFbTimeout
  exact .next_same (by simp)

theorem proceeds_alu2 (i : Issue) (rd ra rb : Reg) (f : Word → Word → Word) (s : State) : Proceeds s (alu2 i rd ra rb f s) := by
  unfold alu2
  exact .next ⟨by simp, fun h => by simp [h], fun h => by simp [h]⟩

theorem proceeds_alu1 (i : Issue) (rd ra : Reg) (f : Word → Word) (s : State) : Proceeds s (alu1 i rd ra f s) := by
  unfold alu1
  exact .next ⟨by simp, fun h => by simp [h], fun h => by simp [h]⟩

theorem proceeds_execAdd (i : Issue) (rd ra rb : Reg) (s : State) : Proceeds s (execAdd i rd ra rb s) := by
  unfold execAdd
  exact .next ⟨by simp, fun h => by simp [h], fun h => by simp [h]⟩

theorem proceeds_execSub (i : Issue) (rd ra rb : Reg) (s : State) : Proceeds s (execSub i rd ra rb s) := by
  unfold execSub
  exact .next ⟨by simp, fun h => by simp [h], fun h => by simp [h]⟩

theorem proceeds_execAndOp (i : Issue) (rd ra rb : Reg) (s : State) : Proceeds s (execAndOp i rd ra rb s) := by
  unfold execAndOp
  exact .next ⟨by simp, fun h => by simp [h], fun h => by simp [h]⟩

theorem proceeds_execOrOp (i : Issue) (rd ra rb : Reg) (s : State) : Proceeds s (execOrOp i rd ra rb s) := by
  unfold execOrOp
  exact .next ⟨by simp, fun h => by simp [h], fun h => by simp [h]⟩

theorem proceeds_execXorOp (i : Issue) (rd ra rb : Reg) (s : State) : Proceeds s (execXorOp i rd ra rb s) := by
  unfold execXorOp
  exact .next ⟨by simp, fun h => by simp [h], fun h => by simp [h]⟩

theorem proceeds_execAndn (i : Issue) (rd ra rb : Reg) (s : State) : Proceeds s (execAndn i rd ra rb s) := by
  unfold execAndn
  exact .next ⟨by simp, fun h => by simp [h], fun h => by simp [h]⟩

theorem proceeds_execOrn (i : Issue) (rd ra rb : Reg) (s : State) : Proceeds s (execOrn i rd ra rb s) := by
  unfold execOrn
  exact .next ⟨by simp, fun h => by simp [h], fun h => by simp [h]⟩

theorem proceeds_execSll (i : Issue) (rd ra rb : Reg) (s : State) : Proceeds s (execSll i rd ra rb s) := by
  unfold execSll
  exact .next ⟨by simp, fun h => by simp [h], fun h => by simp [h]⟩

theorem proceeds_execSrl (i : Issue) (rd ra rb : Reg) (s : State) : Proceeds s (execSrl i rd ra rb s) := by
  unfold execSrl
  exact .next ⟨by simp, fun h => by simp [h], fun h => by simp [h]⟩

theorem proceeds_execSra (i : Issue) (rd ra rb : Reg) (s : State) : Proceeds s (execSra i rd ra rb s) := by
  unfold execSra
  exact .next ⟨by simp, fun h => by simp [h], fun h => by simp [h]⟩

theorem proceeds_execMul (i : Issue) (rd ra rb : Reg) (s : State) : Proceeds s (execMul i rd ra rb s) := by
  unfold execMul
  exact .next ⟨by simp, fun h => by simp [h], fun h => by simp [h]⟩

theorem proceeds_execDivu (i : Issue) (rd ra rb : Reg) (s : State) : Proceeds s (execDivu i rd ra rb s) := by
  unfold execDivu
  exact .next ⟨by simp, fun h => by simp [h], fun h => by simp [h]⟩

theorem proceeds_execRemu (i : Issue) (rd ra rb : Reg) (s : State) : Proceeds s (execRemu i rd ra rb s) := by
  unfold execRemu
  exact .next ⟨by simp, fun h => by simp [h], fun h => by simp [h]⟩

theorem proceeds_execMinu (i : Issue) (rd ra rb : Reg) (s : State) : Proceeds s (execMinu i rd ra rb s) := by
  unfold execMinu
  exact .next ⟨by simp, fun h => by simp [h], fun h => by simp [h]⟩

theorem proceeds_execMaxu (i : Issue) (rd ra rb : Reg) (s : State) : Proceeds s (execMaxu i rd ra rb s) := by
  unfold execMaxu
  exact .next ⟨by simp, fun h => by simp [h], fun h => by simp [h]⟩

theorem proceeds_execMinOp (i : Issue) (rd ra rb : Reg) (s : State) : Proceeds s (execMinOp i rd ra rb s) := by
  unfold execMinOp
  exact .next ⟨by simp, fun h => by simp [h], fun h => by simp [h]⟩

theorem proceeds_execMaxOp (i : Issue) (rd ra rb : Reg) (s : State) : Proceeds s (execMaxOp i rd ra rb s) := by
  unfold execMaxOp
  exact .next ⟨by simp, fun h => by simp [h], fun h => by simp [h]⟩

theorem proceeds_execSltu (i : Issue) (rd ra rb : Reg) (s : State) : Proceeds s (execSltu i rd ra rb s) := by
  unfold execSltu
  exact .next ⟨by simp, fun h => by simp [h], fun h => by simp [h]⟩

theorem proceeds_execSlt (i : Issue) (rd ra rb : Reg) (s : State) : Proceeds s (execSlt i rd ra rb s) := by
  unfold execSlt
  exact .next ⟨by simp, fun h => by simp [h], fun h => by simp [h]⟩

theorem proceeds_execAddi (i : Issue) (rd ra : Reg) (imm : BitVec 16) (s : State) : Proceeds s (execAddi i rd ra imm s) := by
  unfold execAddi
  exact .next ⟨by simp, fun h => by simp [h], fun h => by simp [h]⟩

theorem proceeds_execAndi (i : Issue) (rd ra : Reg) (imm : BitVec 16) (s : State) : Proceeds s (execAndi i rd ra imm s) := by
  unfold execAndi
  exact .next ⟨by simp, fun h => by simp [h], fun h => by simp [h]⟩

theorem proceeds_execOri (i : Issue) (rd ra : Reg) (imm : BitVec 16) (s : State) : Proceeds s (execOri i rd ra imm s) := by
  unfold execOri
  exact .next ⟨by simp, fun h => by simp [h], fun h => by simp [h]⟩

theorem proceeds_execXori (i : Issue) (rd ra : Reg) (imm : BitVec 16) (s : State) : Proceeds s (execXori i rd ra imm s) := by
  unfold execXori
  exact .next ⟨by simp, fun h => by simp [h], fun h => by simp [h]⟩

theorem proceeds_execLui (i : Issue) (rd : Reg) (imm : BitVec 16) (s : State) : Proceeds s (execLui i rd imm s) := by
  unfold execLui
  exact .next ⟨by simp, fun h => by simp [h], fun h => by simp [h]⟩

theorem proceeds_execSlli (i : Issue) (rd ra sh : Reg) (s : State) : Proceeds s (execSlli i rd ra sh s) := by
  unfold execSlli
  exact .next ⟨by simp, fun h => by simp [h], fun h => by simp [h]⟩

theorem proceeds_execSrli (i : Issue) (rd ra sh : Reg) (s : State) : Proceeds s (execSrli i rd ra sh s) := by
  unfold execSrli
  exact .next ⟨by simp, fun h => by simp [h], fun h => by simp [h]⟩

theorem proceeds_execSrai (i : Issue) (rd ra sh : Reg) (s : State) : Proceeds s (execSrai i rd ra sh s) := by
  unfold execSrai
  exact .next ⟨by simp, fun h => by simp [h], fun h => by simp [h]⟩

theorem proceeds_execTall (i : Issue) (rd ra rb : Reg) (s : State) : Proceeds s (execTall i rd ra rb s) := by
  unfold execTall
  exact .next ⟨by simp, fun h => by simp [h], fun h => by simp [h]⟩

theorem proceeds_execTany (i : Issue) (rd ra rb : Reg) (s : State) : Proceeds s (execTany i rd ra rb s) := by
  unfold execTany
  exact .next ⟨by simp, fun h => by simp [h], fun h => by simp [h]⟩

theorem proceeds_execTnone (i : Issue) (rd ra rb : Reg) (s : State) : Proceeds s (execTnone i rd ra rb s) := by
  unfold execTnone
  exact .next ⟨by simp, fun h => by simp [h], fun h => by simp [h]⟩

theorem proceeds_execMsel (i : Issue) (rd ra rb : Reg) (s : State) : Proceeds s (execMsel i rd ra rb s) := by
  unfold execMsel
  exact .next ⟨by simp, fun h => by simp [h], fun h => by simp [h]⟩

theorem proceeds_execPopc (i : Issue) (rd ra : Reg) (s : State) : Proceeds s (execPopc i rd ra s) := by
  unfold execPopc
  exact .next ⟨by simp, fun h => by simp [h], fun h => by simp [h]⟩

theorem proceeds_execFfs (i : Issue) (rd ra : Reg) (s : State) : Proceeds s (execFfs i rd ra s) := by
  unfold execFfs
  exact .next ⟨by simp, fun h => by simp [h], fun h => by simp [h]⟩

theorem proceeds_execClrls (i : Issue) (rd ra : Reg) (s : State) : Proceeds s (execClrls i rd ra s) := by
  unfold execClrls
  exact .next ⟨by simp, fun h => by simp [h], fun h => by simp [h]⟩

theorem proceeds_execBmaj (i : Issue) (rd ra rb : Reg) (s : State) : Proceeds s (execBmaj i rd ra rb s) := by
  unfold execBmaj
  exact .next ⟨by simp, fun h => by simp [h], fun h => by simp [h]⟩

theorem proceeds_execBeq (i : Issue) (ra rb : Reg) (disp : BitVec 16) (s : State) : Proceeds s (execBeq i ra rb disp s) := by
  unfold execBeq
  exact .next ⟨by simp, fun h => by simp [h], fun h => by simp [h]⟩

theorem proceeds_execBne (i : Issue) (ra rb : Reg) (disp : BitVec 16) (s : State) : Proceeds s (execBne i ra rb disp s) := by
  unfold execBne
  exact .next ⟨by simp, fun h => by simp [h], fun h => by simp [h]⟩

theorem proceeds_execBlt (i : Issue) (ra rb : Reg) (disp : BitVec 16) (s : State) : Proceeds s (execBlt i ra rb disp s) := by
  unfold execBlt
  exact .next ⟨by simp, fun h => by simp [h], fun h => by simp [h]⟩

theorem proceeds_execBge (i : Issue) (ra rb : Reg) (disp : BitVec 16) (s : State) : Proceeds s (execBge i ra rb disp s) := by
  unfold execBge
  exact .next ⟨by simp, fun h => by simp [h], fun h => by simp [h]⟩

theorem proceeds_execBltu (i : Issue) (ra rb : Reg) (disp : BitVec 16) (s : State) : Proceeds s (execBltu i ra rb disp s) := by
  unfold execBltu
  exact .next ⟨by simp, fun h => by simp [h], fun h => by simp [h]⟩

theorem proceeds_execBgeu (i : Issue) (ra rb : Reg) (disp : BitVec 16) (s : State) : Proceeds s (execBgeu i ra rb disp s) := by
  unfold execBgeu
  exact .next ⟨by simp, fun h => by simp [h], fun h => by simp [h]⟩

theorem proceeds_execBbs (i : Issue) (ra k : Reg) (disp : BitVec 16) (s : State) : Proceeds s (execBbs i ra k disp s) := by
  unfold execBbs
  exact .next ⟨by simp, fun h => by simp [h], fun h => by simp [h]⟩

theorem proceeds_execBbc (i : Issue) (ra k : Reg) (disp : BitVec 16) (s : State) : Proceeds s (execBbc i ra k disp s) := by
  unfold execBbc
  exact .next ⟨by simp, fun h => by simp [h], fun h => by simp [h]⟩

theorem proceeds_execJump (i : Issue) (disp : BitVec 26) (s : State) : Proceeds s (execJump i disp s) := by
  unfold execJump
  exact .next ⟨by simp, fun h => by simp [h], fun h => by simp [h]⟩

theorem proceeds_execLockChamberStallEnd (core : Fin 64) (pass : Pass) (s : State) : Proceeds s (execLockChamberStallEnd core pass s) := by
  unfold execLockChamberStallEnd
  exact .next_same (by simp)

theorem proceeds_execRunAheadStallEnd (core : Fin 64) (s : State) : Proceeds s (execRunAheadStallEnd core s) := by
  unfold execRunAheadStallEnd
  exact .next_same (by simp)

theorem proceeds_execSkewStallEnd (core : Fin 64) (pass : Pass) (s : State) : Proceeds s (execSkewStallEnd core pass s) := by
  unfold execSkewStallEnd
  dsimp only
  (repeat' split) <;> exact .next_same (by simp)

theorem proceeds_execDualRailMismatch (k lane : Fin 8) (kind : RailFault) (s : State) : Proceeds s (execDualRailMismatch k lane kind s) := by
  unfold execDualRailMismatch
  exact .next_same (by simp)

theorem proceeds_execHelloTimer (atNs : Nat) (s : State) : Proceeds s (execHelloTimer atNs s) := by
  unfold execHelloTimer
  dsimp only
  (repeat' split) <;> exact .next_same (by simp)

theorem proceeds_execBlockLockAcquired (p : Fin 2) (s : State) : Proceeds s (execBlockLockAcquired p s) := by
  unfold execBlockLockAcquired
  exact .next_same (by simp)

theorem proceeds_execBlockLockLost (p : Fin 2) (atNs : Nat) (s : State) : Proceeds s (execBlockLockLost p atNs s) := by
  unfold execBlockLockLost
  exact .next_same (by simp)

theorem proceeds_execTowpathReceiveTimeout (p : Fin 2) (atNs : Nat) (s : State) : Proceeds s (execTowpathReceiveTimeout p atNs s) := by
  unfold execTowpathReceiveTimeout
  exact .next_same (by simp)

theorem proceeds_execJoinRetry (atNs : Nat) (s : State) : Proceeds s (execJoinRetry atNs s) := by
  unfold execJoinRetry
  dsimp only
  (repeat' split) <;> exact .next_same (by simp)

/-! ### The functions of the major cycle -/

@[simp] theorem keepsMems_contribute (s : State) : KeepsMems s (contribute s) := by
  unfold contribute
  generalize ownContribution s = c
  refine KeepsMems.trans ?_ (.of_same (SameMems.foldl (fun _ _ => sameMems_sendCycle ..) _ _))
  refine KeepsMems.trans (keepsMems_sramPutBytes (contribBase s.member) c s) (.of_same ?_)
  simp

@[simp] theorem sameMems_mergeBatch (s : State) : SameMems s (mergeBatch s) := by
  unfold mergeBatch
  extract_lets us own b s1
  have hb : SameMems s b.2 := by
    refine SameMems.foldl_snd (fun v m => ?_) us ([], s)
    exact .pair _ (sameMems_memberBatch ..)
  clear_value b
  have h1 : SameMems s s1 := hb.trans (SameMems.foldl (fun _ _ => by simp) _ _)
  clear_value s1
  exact h1

@[simp] theorem sameMems_newTriadCycle (s : State) : SameMems s (newTriadCycle s) := by
  unfold newTriadCycle
  extract_lets s1
  have h1 : SameMems s s1 := SameMems.foldl (fun _ _ => by simp) _ _
  clear_value s1
  exact h1.trans (by simp)

@[simp] theorem sameMems_countAbsent (s : State) : SameMems s (countAbsent s) := by
  refine SameMems.foldl (fun v x => ?_) _ s
  simp

@[simp] theorem keepsMems_beginHandover (k m : Nat) (s : State) : KeepsMems s (beginHandover k m s) :=
  have h := keepsMems_scrubCluster k s
  .literal h.1 h.2.1 h.2.2

@[simp] theorem keepsMems_beginRequested (s : State) : KeepsMems s (beginRequested s) :=
  KeepsMems.foldl (fun _ _ => .ite (keepsMems_beginHandover ..) .rfl) _ s

@[simp] theorem keepsMems_joinClusters (s : State) : KeepsMems s (joinClusters s) :=
  KeepsMems.foldl (fun _ _ => .ite (keepsMems_beginHandover ..) .rfl) _ s

@[simp] theorem keepsMems_staleFeedback (s : State) : KeepsMems s (staleFeedback s) := keepsMems_imageArea ..

@[simp] theorem sameMems_takeBatch (s : State) : SameMems s (takeBatch s) := by
  unfold takeBatch
  extract_lets due rest excess _ _ s1 s2
  have h1 : SameMems s s1 := ⟨rfl, rfl, rfl⟩
  clear_value s1
  have h2 : SameMems s s2 := h1.trans (SameMems.foldl (fun _ _ => by simp) _ _)
  clear_value s2
  exact h2.trans (SameMems.foldl (fun _ _ => by simp) _ _)

@[simp] theorem sameMems_handOver (s : State) : SameMems s (handOver s) := by
  unfold handOver
  extract_lets s1 s2
  have h2 : SameMems s s2 := by simp [s2, s1]
  exact SameMems.trans (.literal h2.1 h2.2.1 h2.2.2) (sameMems_raise ..)

@[simp] theorem keepsMems_discardCycle (s : State) : KeepsMems s (discardCycle s) := by
  unfold discardCycle
  extract_lets s1
  have h1 : SameMems s s1 := by simp [s1]
  exact KeepsMems.trans (.of_same (.literal h1.1 h1.2.1 h1.2.2)) (keepsMems_zeroOutbox _)

@[simp] theorem sameMems_openCycle (s : State) : SameMems s (openCycle s) :=
  SameMems.trans (.literal rfl rfl rfl) (sameMems_newTriadCycle _)

@[simp] theorem sameMems_returnBatch (s : State) : SameMems s (returnBatch s) := by
  refine SameMems.trans ?_ (SameMems.foldl (fun _ _ => by simp) _ _)
  exact ⟨rfl, rfl, rfl⟩

@[simp] theorem sameMems_deliverSamples (f : Nat) (s : State) : SameMems s (deliverSamples f s) := by
  unfold deliverSamples
  generalize [3, 2, 1, 0] = ages
  refine SameMems.trans (SameMems.foldl (fun v age => ?_) ages s) (sameMems_eoFollowAll false _)
  dsimp only
  refine SameMems.trans ?_ (sameMems_applySteps ..)
  refine SameMems.foldl_fst (fun w j => ?_) _ (v, [])
  (repeat' split) <;> simp

theorem keepsMems_writeBlock {f : Nat → Word → State → State} (hf : ∀ i w v, KeepsMems v (f i w v)) (b : RunBlock) (s : State) :
    KeepsMems s (writeBlock f b s) :=
  KeepsMems.foldl (fun _ _ => hf ..) _ s

@[simp] theorem keepsMems_coldLogic (s : State) : KeepsMems s (coldLogic s) := ⟨rfl, fun _ => logicForm_nil, id⟩

@[simp] theorem keepsMems_cycleBoundary (s : State) : KeepsMems s (cycleBoundary s) := by
  unfold cycleBoundary
  extract_lets s1 s2 s3
  have h1 : KeepsMems s s1 := .of_same (by simp [s1])
  clear_value s1
  have h2 : KeepsMems s s2 := h1.trans (keepsMems_retireCores s1)
  clear_value s2
  have h3 : KeepsMems s s3 := by
    dsimp only [s3]
    exact (h2.trans (.of_same (sameMems_stopSplits s2))).trans (keepsMems_beginRequested _)
  clear_value s3
  exact .ite h1 (.ite h2 (.ite h3 (h3.trans (.of_same (by simp)))))

@[simp] theorem keepsMems_writeAreas (stale : Nat) (s : State) : KeepsMems s (writeAreas stale s) := by
  unfold writeAreas
  extract_lets s1 s2
  have h1 : KeepsMems s s1 := KeepsMems.foldl (fun _ _ => .ite (keepsMems_staleField ..) (keepsMems_imageArea ..)) _ _
  clear_value s1
  have h2 : KeepsMems s s2 := .ite (h1.trans (keepsMems_staleFeedback s1)) (h1.trans (keepsMems_imageArea ..))
  clear_value s2
  exact h2.trans (keepsMems_imageArea ..)

@[simp] theorem keepsMems_restrictUnwritten (missing : Nat) (s : State) : KeepsMems s (restrictUnwritten missing s) := by
  unfold restrictUnwritten
  extract_lets s1 s2 s3 s4
  have h1 : KeepsMems s s1 := KeepsMems.foldl (fun _ _ => .ite (keepsMems_staleField ..) .rfl) _ _
  clear_value s1
  have h2 : KeepsMems s s2 := .ite (h1.trans (keepsMems_staleFeedback s1)) h1
  clear_value s2
  have h3 : KeepsMems s s3 := .ite (h2.trans (keepsMems_imageArea ..)) h2
  clear_value s3
  have h4 : KeepsMems s s4 := .ite (h3.trans (keepsMems_unswapInbox s3)) h3
  clear_value s4
  exact .ite (h4.trans (.of_same (by simp))) h4

@[simp] theorem keepsMems_finishAlone (s : State) : KeepsMems s (finishAlone s) := by
  unfold finishAlone
  extract_lets s1 s2 s3
  have h1 : KeepsMems s s1 := (KeepsMems.ite .rfl (keepsMems_updateConns s)).trans (.of_same (sameMems_resolveBatch _))
  clear_value s1
  have h2 : KeepsMems s s2 := h1.trans (keepsMems_imageArea ..)
  clear_value s2
  have h3 : KeepsMems s s3 := h2.trans (keepsMems_imageArea ..)
  clear_value s3
  exact (h3.trans (keepsMems_imageArea ..)).trans (.of_same (sameMems_startEvaluate _))

/-! ### The cycle, resets, stages of a BOOT and rails -/

theorem proceeds_execCapture (feedbackOnTime motionOnTime : Bool) (s : State) :
    Proceeds s (execCapture feedbackOnTime motionOnTime s) := by
  unfold execCapture
  extract_lets s0 s1 s2 st s3 _ s4
  have h0 : SameMems s s0 := by simp [s0]
  clear_value s0
  have h1 : KeepsMems s s1 := (KeepsMems.of_same h0).trans (keepsMems_cycleBoundary s0)
  clear_value s1
  have h2 : KeepsMems s s2 := h1.trans (.of_same (by simp [s2]))
  clear_value st s2
  have h3 : KeepsMems s s3 := (h2.trans (keepsMems_writeAreas st s2)).trans (.of_same (by simp [s3]))
  clear_value s3
  have h4 : KeepsMems s s4 := h3
  clear_value s4
  exact .ite (.next .rfl) (.ite (.next_same (h0.trans (by simp))) (.ite (.next .rfl)
    (.ite (.next h1) (.next (.ite (h4.trans (.of_same (by simp))) h4)))))

@[simp] theorem keepsMems_loadImage (I : Image) (s : State) : KeepsMems s (loadImage I s) := by
  unfold loadImage
  extract_lets _ s1 s2
  have h2 : KeepsMems s s2 := KeepsMems.trans (.literal rfl (fun _ => logicForm_nil) id) (keepsMems_sramArea ..)
  clear_value s2
  exact h2.trans ((KeepsMems.foldl (fun _ _ => keepsMems_writeBlock (fun _ _ _ => keepsMems_paramWrite ..) ..) _ _).trans
    (KeepsMems.foldl (fun _ _ => keepsMems_writeBlock (fun _ _ _ => keepsMems_stateInit ..) ..) _ _))

@[simp] theorem keepsMems_wholeReset (kind code : Nat) (by_ : List Nat) (j : StoreLoss) (s : State) :
    KeepsMems s (wholeReset kind code by_ j s) := by
  unfold wholeReset
  extract_lets v k fresh
  have hv : SameMems s v := by simp [v]
  have hf : KeepsMems s fresh := ⟨hv.1, fun _ => logicForm_nil, fun _ => serviceForm_nil⟩
  clear_value fresh
  exact hf.trans (.of_same (by simp))

@[simp] theorem keepsMems_logicReset (code : Nat) (s : State) : KeepsMems s (logicReset code s) := by
  unfold logicReset
  extract_lets s1
  have h1 : KeepsMems s s1 :=
    ((KeepsMems.of_same (sameMems_enterHold 0x9030 s)).trans (keepsMems_coldLogic _)).trans (.of_same (sameMems_beginBoot ..))
  clear_value s1
  exact h1.trans (.of_same (by simp))

theorem proceeds_execRelease (s : State) : Proceeds s (execRelease s) := by
  unfold execRelease
  extract_lets s0 _ s1
  have h0 : SameMems s s0 := by simp [s0]
  clear_value s0
  have h1 : SameMems s s1 := h0
  clear_value s1
  exact .ite (.next .rfl) (.ite (.next_same (.ite (h1.trans (by simp)) (h1.trans (by simp))))
    (.next_same (h0.trans (sameMems_overrunNow s0))))

theorem proceeds_execOverrunCycleComplete (atNs : Nat) (s : State) : Proceeds s (execOverrunCycleComplete atNs s) := by
  have discards : ∀ v, SameMems s v → KeepsMems s { discardCycle v with seq := { (discardCycle v).seq with complete := true } } := fun v hv =>
    have h := (KeepsMems.of_same hv).trans (keepsMems_discardCycle v)
    .literal h.1 h.2.1 h.2.2
  have hc : SameMems s (cycleSamples (advance atNs s)).2 := (sameMems_advance atNs s).trans (sameMems_cycleSamples _)
  unfold execOverrunCycleComplete
  refine .ite (.ite (.next_same (by simp)) (.next ?_)) (.next .rfl)
  exact discards _ (.literal hc.1 hc.2.1 hc.2.2)

@[simp] theorem keepsMems_trialFails (s : State) : KeepsMems s (trialFails s) := by
  unfold trialFails
  extract_lets s1
  have h1 : SameMems s s1 := SameMems.foldl (fun _ _ => .ite (by simp) (by simp)) _ _
  clear_value s1
  exact (KeepsMems.of_same (h1.trans (sameMems_record 0x9052 [] s1))).trans (keepsMems_wholeReset ..)

@[simp] theorem keepsMems_applyResets (v : Word) (s : State) : KeepsMems s (applyResets v s) := by
  unfold applyResets
  extract_lets s1
  have h1 : SameMems s s1 := SameMems.foldl (fun _ _ => .ite (by simp) (by simp)) _ _
  clear_value s1
  exact .ite (keepsMems_wholeReset ..) (.ite ((KeepsMems.of_same h1).trans (keepsMems_logicReset ..)) (.of_same h1))

@[simp] theorem keepsMems_resetRequest (v : Word) (s : State) : KeepsMems s (resetRequest v s) := by
  unfold resetRequest
  extract_lets s0 b refuse unarm
  have h0 : SameMems s s0 := by simp [s0]
  clear_value s0
  have hu : SameMems s unarm := h0.trans (by simp [unarm])
  have resets : KeepsMems s (applyResets b unarm) := (KeepsMems.of_same hu).trans (keepsMems_applyResets ..)
  have hr : ∀ v, SameMems s v → KeepsMems s (refuse v) := fun v hv => .of_same (hv.trans (by simp [refuse]))
  clear_value refuse unarm b
  refine .ite (.of_same h0) ?_
  (repeat' split)
  · exact hr _ h0
  · exact resets
  · exact resets
  · exact resets
  · exact .of_same (h0.trans (by simp))
  · exact resets
  · exact hr _ (h0.trans (by simp))

@[simp] theorem keepsMems_activateProg (s : State) : KeepsMems s (activateProg s) := by
  unfold activateProg
  split
  · exact .of_same (by simp)
  · refine KeepsMems.trans ?_ (.of_same ((sameMems_recordB ..).trans (sameMems_raise ..)))
    exact KeepsMems.trans (.of_same (sameMems_activateSlot ..)) (keepsMems_loadImage ..)

@[simp] theorem keepsMems_updateControl (v : Word) (s : State) : KeepsMems s (updateControl v s) := by
  unfold updateControl
  extract_lets s1 s2 s3 s4
  have h1 : KeepsMems s s1 := .ite (.of_same (by simp)) .rfl
  clear_value s1
  have h2 : KeepsMems s s2 := .ite (h1.trans (keepsMems_activateProg s1)) h1
  clear_value s2
  have h3 : KeepsMems s s3 := .ite (h2.trans (.of_same (by simp))) h2
  clear_value s3
  have h4 : KeepsMems s s4 := .ite (h3.trans (.of_same (by simp))) h3
  clear_value s4
  exact .ite (h4.trans (keepsMems_wholeReset ..)) h4

@[simp] theorem keepsMems_failStage (n detail : Nat) (s : State) : KeepsMems s (failStage n detail s) :=
  .ite (KeepsMems.trans (.of_same (by simp)) (keepsMems_trialFails _)) (.of_same (by simp))

@[simp] theorem keepsMems_goOn (n : Nat) (s : State) : KeepsMems s (goOn n s) := .ite (keepsMems_trialFails s) (.of_same (by simp))

@[simp] theorem keepsMems_stageS2 (r : BootRun) (s : State) : KeepsMems s (stageS2 r s) := by
  unfold stageS2
  dsimp only
  split
  · exact .ite .rfl (keepsMems_trialFails s)
  · exact .ite .rfl (.of_same (sameMems_romRecover s))

@[simp] theorem keepsMems_stageS4 (r : BootRun) (s : State) : KeepsMems s (stageS4 r s) :=
  .ite .rfl (.ite ((KeepsMems.of_same (sameMems_storeFault s)).trans (keepsMems_goOn ..)) (.of_same (sameMems_finishScan s)))

@[simp] theorem keepsMems_stageS5 (r : BootRun) (s : State) : KeepsMems s (stageS5 r s) := by
  unfold stageS5
  extract_lets all _ t
  have ht : KeepsMems s t := .rfl
  clear_value t
  split
  · exact ht
  refine .ite ?_ ht
  refine KeepsMems.trans ?_ (keepsMems_failStage ..)
  refine KeepsMems.trans ?_ (.of_same (sameMems_proofFault ..))
  exact ht

@[simp] theorem keepsMems_stageS7 (s : State) : KeepsMems s (stageS7 s) := by
  unfold stageS7
  extract_lets values t s1 s2
  have h1 : SameMems s s1 := .ite (by simp) (by simp [t])
  clear_value s1
  have h2 : KeepsMems s s2 := by
    dsimp only [s2]
    split
    · exact .of_same h1
    · exact (KeepsMems.of_same h1).trans (keepsMems_loadImage ..)
  clear_value s2
  exact h2.trans (.of_same (by simp))

@[simp] theorem keepsMems_serviceNotReady (s : State) : KeepsMems s (serviceNotReady s) := by
  refine KeepsMems.trans ?_ (keepsMems_goOn ..)
  exact .of_same (by simp)

@[simp] theorem keepsMems_stageS8 (r : BootRun) (s : State) : KeepsMems s (stageS8 r s) := by
  unfold stageS8
  dsimp only
  refine .ite .rfl ?_
  split
  · exact .ite (.literal rfl id (fun _ => wf_firmwareCells _)) (keepsMems_serviceNotReady s)
  · exact keepsMems_serviceNotReady s

@[simp] theorem keepsMems_stageS9 (r : BootRun) (s : State) : KeepsMems s (stageS9 r s) := by
  unfold stageS9
  extract_lets s1 s2
  have h1 : SameMems s s1 := by
    refine SameMems.foldl (fun v f => ?_) _ s
    (repeat' split) <;> simp
  clear_value s1
  have h2 : KeepsMems s s2 := .of_same (h1.trans (by simp [s2]))
  clear_value s2
  exact .ite (h2.trans (keepsMems_goOn ..)) h2

@[simp] theorem keepsMems_enterRun (s : State) : KeepsMems s (enterRun s) := by
  unfold enterRun
  extract_lets s1 _ s2 s3 s4
  have h1 : KeepsMems s s1 :=
    ((KeepsMems.of_same (sameMems_setMode ..)).trans (keepsMems_joinClusters _)).trans (.of_same (sameMems_setEpoch _))
  clear_value s1
  have h2 : KeepsMems s s2 := .ite (h1.trans (.of_same (by simp))) h1
  clear_value s2
  have h3 : KeepsMems s s3 := h2.trans (.of_same (sameMems_grantStart s2))
  clear_value s3
  have h4 : KeepsMems s s4 := by
    dsimp only [s4]
    split
    · exact h3.trans (.of_same (by simp))
    · exact h3
  clear_value s4
  exact .ite (h4.trans (.of_same (by simp))) h4

@[simp] theorem keepsMems_stageS10 (s : State) : KeepsMems s (stageS10 s) := by
  unfold stageS10
  extract_lets v next s1
  have h1 : KeepsMems s s1 := .of_same (by simp [s1, v])
  clear_value s1 next
  split
  · exact h1.trans (.of_same (by simp))
  · exact h1.trans (keepsMems_enterRun s1)
  · exact h1.trans (.of_same (by simp))

@[simp] theorem keepsMems_stageFails (n detail : Nat) (s : State) : KeepsMems s (stageFails n detail s) := by
  unfold stageFails
  extract_lets next
  have hn : KeepsMems s next := .of_same (by simp [next])
  clear_value next
  split
  · exact .of_same (by simp)
  · exact .ite (keepsMems_trialFails s) (.of_same (by simp))
  · exact (hn.trans (.of_same (sameMems_storeFault next))).trans (keepsMems_goOn ..)
  · exact hn.trans (keepsMems_goOn ..)
  · exact hn.trans (keepsMems_serviceNotReady next)
  · refine KeepsMems.trans (hn.trans ?_) (keepsMems_goOn ..)
    refine .of_same (SameMems.trans (sameMems_setKeep ..) (SameMems.foldl (fun _ _ => .ite (by simp) (by simp)) _ _))
  · exact keepsMems_failStage ..

theorem keepsMems_bootStage (n : Nat) (r : BootRun) (test : State → Option Nat) {work k : State → State} (hw : ∀ v, KeepsMems v (work v))
    (hk : ∀ v, KeepsMems v (k v)) (s : State) : KeepsMems s (bootStage n r test work k s) := by
  unfold bootStage
  extract_lets v failed t
  have hv : KeepsMems s v := .of_same (by simp [v])
  clear_value failed
  have ht : KeepsMems s t := by
    cases failed with
    | some d => exact hv.trans (keepsMems_stageFails ..)
    | none => exact hv.trans (hw v)
  clear_value t
  exact .ite (hk s) (.ite (ht.trans (hk t)) ht)

@[simp] theorem keepsMems_runBoot (r : BootRun) (s : State) : KeepsMems s (runBoot r s) := by
  have stage := fun (n : Nat) (test : State → Option Nat) (work k : State → State) (hw : ∀ v, KeepsMems v (work v))
    (hk : ∀ v, KeepsMems v (k v)) => keepsMems_bootStage n r test hw hk
  unfold runBoot
  exact stage 1 _ _ _ (fun _ => .rfl) (stage 2 _ _ _ (keepsMems_stageS2 r) (stage 3 _ _ _ (fun v => .of_same (sameMems_stageS3 r v))
    (stage 4 _ _ _ (keepsMems_stageS4 r) (stage 5 _ _ _ (keepsMems_stageS5 r) (stage 6 _ _ _ (fun v => .of_same (sameMems_stageS6 r v))
      (stage 7 _ _ _ keepsMems_stageS7 (stage 8 _ _ _ (keepsMems_stageS8 r) (stage 9 _ _ _ (keepsMems_stageS9 r)
        (stage 10 _ _ _ keepsMems_stageS10 (fun _ => .rfl)))))))))) s

theorem proceeds_execBoot (r : BootRun) (s : State) : Proceeds s (execBoot r s) := .next (.ite (keepsMems_runBoot r s) .rfl)

theorem proceeds_execBootStageTimeout (n : Fin 11) (atNs : Nat) (s : State) : Proceeds s (execBootStageTimeout n atNs s) :=
  .ite (.next (KeepsMems.trans (.of_same (by simp)) (keepsMems_stageFails ..))) (.next .rfl)

@[simp] theorem keepsMems_stageEnvelope (b : Nat) (h : EnvHead) (p : List Byte) (s : State) : KeepsMems s (stageEnvelope b h p s) := by
  unfold stageEnvelope
  split
  · exact .rfl
  · extract_lets s1
    have h1 : KeepsMems s s1 := .of_same (by simp [s1])
    clear_value s1
    refine .ite (h1.trans (KeepsMems.trans (.of_same ?_) (keepsMems_wholeReset ..))) (.ite (h1.trans (keepsMems_activateProg s1)) h1)
    simp

@[simp] theorem keepsMems_voltAction (v mv : Nat) (s : State) : KeepsMems s (voltAction v mv s) := by
  unfold voltAction
  split
  · exact .ite .rfl (keepsMems_wholeReset ..)
  · exact .of_same (by simp)
  · exact .of_same (by simp)
  · exact .ite .rfl (keepsMems_wholeReset ..)
  · exact .ite .rfl (keepsMems_wholeReset ..)
  · exact .of_same (by simp)
  · exact .of_same (by simp)
  · exact .ite (.of_same (by simp)) .rfl

@[simp] theorem keepsMems_compareVolt (v mv : Nat) (s : State) : KeepsMems s (compareVolt v mv s) := by
  unfold compareVolt
  extract_lets w old _ q out s1 bit s2
  have h1 : SameMems s s1 := by simp [s1]
  clear_value s1
  have h2 : KeepsMems s (raise 3 (record 0x9022 [v, mv] s2)) := .of_same (h1.trans (by simp [s2]))
  clear_value s2
  exact .ite .rfl (.ite (h2.trans (keepsMems_voltAction ..)) (.of_same h1))

@[simp] theorem keepsMems_isolateDomain (v : Nat) (loss : StoreLoss) (s : State) : KeepsMems s (isolateDomain v loss s) := by
  unfold isolateDomain
  extract_lets mark s1
  have hm : SameMems s (mark s) := .ite (by simp) (by simp)
  clear_value mark
  have h1 : SameMems s s1 := hm.trans (by simp [s1])
  split
  · exact .ite .rfl (keepsMems_wholeReset ..)
  · exact .of_same (hm.trans (SameMems.foldl (fun _ _ => .ite (by simp) (by simp)) _ _))
  · exact .of_same (hm.trans (by simp))
  · exact .of_same (hm.trans (by simp))
  · exact .ite .rfl (keepsMems_wholeReset ..)
  · exact .ite .rfl (keepsMems_wholeReset ..)
  · exact .of_same (by simp)
  · exact .rfl
  · exact .rfl
  · exact .ite (.of_same (SameMems.trans (.literal h1.1 h1.2.1 h1.2.2) (sameMems_networkDown _))) (.of_same (by simp))

theorem proceeds_execRailNotGood (v : Fin 16) (loss : StoreLoss) (s : State) : Proceeds s (execRailNotGood v loss s) :=
  .next (.ite .rfl (keepsMems_isolateDomain ..))

theorem proceeds_execKeeperWatchdogExpiry (s : State) : Proceeds s (execKeeperWatchdogExpiry s) :=
  .ite (.next (KeepsMems.trans (.of_same (sameMems_record ..)) (keepsMems_trialFails _))) (.next_same (by simp))

theorem proceeds_execCmsnLevelChange (level : Bool) (s : State) : Proceeds s (execCmsnLevelChange level s) := by
  unfold execCmsnLevelChange
  extract_lets s1
  have h1 : SameMems s s1 := by simp [s1]
  clear_value s1
  refine .ite (.next .rfl) ?_
  split
  · exact .next_same h1
  · exact .next (.ite ((KeepsMems.of_same (h1.trans (sameMems_record 0x9070 [] s1))).trans (keepsMems_wholeReset ..)) (.of_same h1))
  · exact .next_same (h1.trans (by simp))

@[simp] theorem keepsMems_wakeRegions (s : State) : KeepsMems s (wakeRegions s) := ⟨rfl, fun _ => logicForm_nil, fun _ => serviceForm_nil⟩

theorem proceeds_execWake (aclk : Nat) (s : State) : Proceeds s (execWake aclk s) := by
  unfold execWake
  extract_lets s1 s2 s3
  have h1 : SameMems s s1 := by simp [s1]
  clear_value s1
  have h2 : KeepsMems s s2 := ((KeepsMems.of_same h1).trans (keepsMems_wakeRegions s1)).trans (.of_same (by simp [s2]))
  clear_value s2
  have h3 : KeepsMems s s3 := .ite h2 (h2.trans (.of_same (by simp)))
  clear_value s3
  exact .ite (.next .rfl) (.next (h3.trans (.of_same (by simp))))

theorem proceeds_execFreezeMark (arriveNs : Nat) (s : State) : Proceeds s (execFreezeMark arriveNs s) := by
  unfold execFreezeMark
  extract_lets s0
  have h0 : KeepsMems s s0 := .of_same (by simp [s0])
  clear_value s0
  exact .ite (.next (h0.trans (.of_same (by simp)))) (.next h0)

/-- What follows in CAPTURE once the flags are known. -/
theorem proceeds_captured {s v : State} (hv : KeepsMems s v) (u : State) (hu : u = { v with seq := { v.seq with phase := .agree } }) :
    Proceeds s (if triadActive v then .next (trySummary (if u.tri.state = .joining then u else contribute u)) else .next (finishAlone v)) := by
  have h : KeepsMems s u := by
    rw [hu]
    exact .literal hv.1 hv.2.1 hv.2.2
  clear hu
  exact .ite (.next (KeepsMems.trans (.ite h (h.trans (keepsMems_contribute u))) (.of_same (sameMems_trySummary _))))
    (.next (hv.trans (keepsMems_finishAlone v)))

theorem proceeds_execCaptureEnd (endNs : Nat) (notWritten : BitVec 8) (s : State) : Proceeds s (execCaptureEnd endNs notWritten s) := by
  have raises : ∀ (v : State) (c : Prop) [Decidable c] (x : Nat), KeepsMems s v → KeepsMems s (if c then v else raise 18 (record 0x1103 [x] v)) :=
    fun v c _ x hv => .ite hv (hv.trans (.of_same (by simp)))
  have restrict : ∀ (v : State) (n : Nat), SameMems s v → KeepsMems s (restrictUnwritten n v) := fun v n hv =>
    (KeepsMems.of_same hv).trans (keepsMems_restrictUnwritten n v)
  have h0 : SameMems s (advance (min endNs (s.seq.start + 20_000)) s) := by simp
  unfold execCaptureEnd
  refine .ite (.next .rfl) (proceeds_captured (raises _ _ _ (restrict _ _ ?_)) _ rfl)
  refine .literal ?_ ?_ ?_
  · exact h0.1
  · exact h0.2.1
  · exact h0.2.2

theorem proceeds_execFieldLinkInboundFrame (f : Fin 4) (atNs : Nat) (bad : Bool) (vfield : Nat) (temp : BitVec 16) (ls : List Nat)
    (loops : List (Nat × Nat)) (hot : Word) (s : State) :
    Proceeds s (execFieldLinkInboundFrame f atNs bad vfield temp ls loops hot s) := by
  unfold execFieldLinkInboundFrame
  extract_lets s0 n s1 b0 s2 s3 smp s4 s5
  have h0 : SameMems s s0 := by simp [s0]
  clear_value s0
  have h1 : SameMems s s1 := h0.trans (sameMems_setBlock ..)
  clear_value s1
  have h2 : SameMems s s2 := h1.trans (by simp [s2])
  clear_value s2
  have h3 : SameMems s s3 := h2.trans (sameMems_setBlock ..)
  clear_value s3
  refine .ite (.next_same h0) (.ite (.next_same (.ite h3 (h3.trans (by simp)))) ?_)
  have h4 : SameMems s s4 := h2.trans (sameMems_setBlock ..)
  clear_value s4
  have h5 : SameMems s s5 := by
    have h := SameMems.ite (c := b0.resetAt.isSome = true ∨ b0.isolated = true) h4 (h4.trans (sameMems_deliverSamples n s4))
    simp [s5] at h ⊢
    exact h
  clear_value s5
  exact .ite (.next_same (h5.trans (by simp))) (.next_same h5)

theorem keepsMems_rmaUnlock (s : State) : KeepsMems s (rmaUnlock s) := by
  have records : ∀ v, KeepsMems s v → KeepsMems s (policyChanged (record 0x6120 [] v)) := fun v hv => hv.trans (.of_same (by simp))
  unfold rmaUnlock
  apply records
  refine .literal ?_ ?_ ?_
  · rfl
  · exact fun _ => logicForm_nil
  · exact id

theorem keepsMems_applyEnvelope (b : Nat) (h0 : EnvHead) (p : List Byte) (s : State) : KeepsMems s (applyEnvelope b h0 p s) := by
  unfold applyEnvelope
  split
  · exact .of_same (by simp)
  · exact .of_same (by simp)
  · exact .of_same (by simp)
  · exact .of_same (by simp)
  · exact .of_same (by simp)
  · exact keepsMems_rmaUnlock s
  · exact keepsMems_stageEnvelope ..

theorem keepsMems_acceptEnvelope (b : Nat) (h0 : EnvHead) (c : Checking) (p : List Byte) (s : State) :
    KeepsMems s (acceptEnvelope b h0 c p s) := by
  unfold acceptEnvelope
  extract_lets s1 s2
  have h2 : SameMems s s2 := by simp [s2, s1]
  clear_value s1 s2
  exact .ite (.of_same h2) ((KeepsMems.literal h2.1 (fun h => h2.2.1 ▸ h) (fun h => h2.2.2 ▸ h)).trans (keepsMems_applyEnvelope ..))

theorem proceeds_execEnvelopeCheckComplete (b : Fin 8) (s : State) : Proceeds s (execEnvelopeCheckComplete b s) := by
  unfold execEnvelopeCheckComplete
  split
  · exact .next .rfl
  · exact .next (.ite (keepsMems_acceptEnvelope ..) (.of_same (sameMems_rejectEnvelope ..)))

theorem proceeds_execVoltageExcursion (v : Fin 16) (mv : BitVec 16) (s : State) : Proceeds s (execVoltageExcursion v mv s) :=
  .next (keepsMems_compareVolt ..)

theorem proceeds_execPowerOnReset (loss : StoreLoss) (s : State) : Proceeds s (execPowerOnReset loss s) :=
  .next (keepsMems_wholeReset ..)

theorem proceeds_execPornLow (loss : StoreLoss) (s : State) : Proceeds s (execPornLow loss s) :=
  .next (keepsMems_wholeReset ..)

/-! ### The instructions of the contexts whose continuation depends on the context -/

theorem proceeds_execMovs (i : Issue) (rd : Reg) (sel : SpecialReg) (s : State) : Proceeds s (execMovs i rd sel s) :=
  .next (keepsMems_issue i 1 [] (fun _ => .of_same (by simp)) s)

theorem proceeds_fieldOp (i : Issue) (rd : Reg) (reads : List Nat) (pos wm1 : Reg) (f : (Nat → Word) → Word) (s : State) :
    Proceeds s (fieldOp i rd reads pos wm1 f s) :=
  .ite (.next (keepsMems_issue i 1 [] (fun _ => keepsMems_raiseInvalid ..) s)) (.next (keepsMems_compute ..))

theorem proceeds_execExt (i : Issue) (rd ra pos wm1 : Reg) (s : State) : Proceeds s (execExt i rd ra pos wm1 s) := proceeds_fieldOp ..

theorem proceeds_execExts (i : Issue) (rd ra pos wm1 : Reg) (s : State) : Proceeds s (execExts i rd ra pos wm1 s) := proceeds_fieldOp ..

theorem proceeds_execIns (i : Issue) (rd ra pos wm1 : Reg) (s : State) : Proceeds s (execIns i rd ra pos wm1 s) := proceeds_fieldOp ..

theorem proceeds_execLd (i : Issue) (rt : Reg) (sp : Space) (ra : Reg) (off : BitVec 13) (ecc : Ecc) (s : State) :
    Proceeds s (execLd i rt sp ra off ecc s) := by
  refine .next (keepsMems_issue i 1 [ra] (fun v => ?_) s)
  dsimp only
  split
  · exact keepsMems_ldJoined ..
  · split
    · exact .of_same (sameMems_raiseSplit ..)
    · exact .of_same (sameMems_loadResult ..)
  · exact keepsMems_ldService ..

theorem proceeds_execSt (i : Issue) (rt : Reg) (sp : Space) (ra : Reg) (off : BitVec 13) (s : State) :
    Proceeds s (execSt i rt sp ra off s) := by
  refine .next (keepsMems_issue i 1 [ra, rt] (fun v => ?_) s)
  dsimp only
  split
  · exact keepsMems_stJoined ..
  · exact keepsMems_stSplit ..
  · exact keepsMems_stService ..

theorem proceeds_timerOp (i : Issue) (ra : Reg) (start : Bool) (s : State) : Proceeds s (timerOp i ra start s) := by
  refine .next (keepsMems_issue i 1 [ra] (fun v => ?_) s)
  dsimp only
  split
  · exact .ite (keepsMems_raiseJoined ..) (.ite (keepsMems_raiseJoined ..) (.ite (keepsMems_raiseJoined ..) (keepsMems_emit ..)))
  · exact .of_same (sameMems_raiseSplit ..)
  · exact keepsMems_raiseInvalid ..

theorem proceeds_execTstart (i : Issue) (ra : Reg) (s : State) : Proceeds s (execTstart i ra s) := proceeds_timerOp ..

theorem proceeds_execTstop (i : Issue) (ra : Reg) (s : State) : Proceeds s (execTstop i ra s) := proceeds_timerOp ..

theorem proceeds_execTtest (i : Issue) (rd ra : Reg) (s : State) : Proceeds s (execTtest i rd ra s) := by
  refine .next (keepsMems_issue i 1 [ra] (fun v => ?_) s)
  dsimp only
  split
  · exact .ite (keepsMems_raiseJoined ..) (.of_same (by simp))
  · exact .of_same (sameMems_raiseSplit ..)
  · exact keepsMems_raiseInvalid ..

theorem proceeds_postOp (i : Issue) (ra rb rc : Reg) (cls : Nat) (allowed : TypeEntry → Nat → State → Bool) (mk : Word → Word → Word → BusOut)
    (s : State) : Proceeds s (postOp i ra rb rc cls allowed mk s) := by
  refine .next (keepsMems_issue i 1 [ra, rb, rc] (fun v => ?_) s)
  dsimp only
  split
  · exact .ite (keepsMems_emit ..) (keepsMems_raiseJoined ..)
  · exact .of_same (sameMems_raiseSplit ..)
  · exact keepsMems_raiseInvalid ..

theorem proceeds_execMcmd (i : Issue) (ra rb rc : Reg) (s : State) : Proceeds s (execMcmd i ra rb rc s) := proceeds_postOp ..

theorem proceeds_execFset (i : Issue) (ra rb rc : Reg) (s : State) : Proceeds s (execFset i ra rb rc s) := proceeds_postOp ..

theorem proceeds_execOloop (i : Issue) (disp : BitVec 16) (s : State) : Proceeds s (execOloop i disp s) := by
  refine .next (keepsMems_issue i 1 [] (fun v => ?_) s)
  dsimp only
  split
  · refine .ite (keepsMems_raiseInvalid ..) ?_
    split
    · exact .of_same (sameMems_setArch ..)
    · exact .of_same (sameMems_setArch ..)
  · exact keepsMems_raiseInvalid ..
  · exact keepsMems_raiseInvalid ..

/-- An instruction that its context does not have. -/
theorem keepsMems_issue_invalid (i : Issue) (s : State) : KeepsMems s (issue i 1 [] (raiseInvalid i.ctx) s) :=
  keepsMems_issue i 1 [] (fun _ => keepsMems_raiseInvalid ..) s

theorem proceeds_execOnext (i : Issue) (eccs : List Ecc) (s : State) : Proceeds s (execOnext i eccs s) := by
  unfold execOnext
  split
  case h_1 c p _ =>
    dsimp only
    split
    · exact .ite (.next (keepsMems_issueAs i _ [] true (fun _ => keepsMems_onextJoined ..) s))
        (.next (keepsMems_issueJoined c p _ _ [] true _ (fun _ => keepsMems_onextPart ..) s))
    · exact .next (keepsMems_issue_invalid i s)
    · exact .next (keepsMems_issue_invalid i s)
  all_goals exact .next (keepsMems_issue_invalid i s)

theorem proceeds_execEndc (i : Issue) (s : State) : Proceeds s (execEndc i s) := by
  unfold execEndc
  split
  · exact .ite (.next (keepsMems_issueAs i 1 [] true (fun _ => keepsMems_closeOpen ..) s)) (.next (keepsMems_issue_invalid i s))
  · exact .next (keepsMems_issue i 1 [] (fun _ => .of_same (sameMems_setSplit ..)) s)
  · exact .next (keepsMems_issue_invalid i s)

theorem proceeds_execSeg (i : Issue) (s : State) : Proceeds s (execSeg i s) := by
  unfold execSeg
  split
  · exact .next (keepsMems_issueAs i 1 [] true (fun _ => keepsMems_closeOpen ..) s)
  · exact .next (keepsMems_issue i 1 [] (fun _ => .of_same (sameMems_stepPc ..)) s)
  · exact .next (keepsMems_issue_invalid i s)

theorem proceeds_execAssertOp (i : Issue) (imm : BitVec 16) (s : State) : Proceeds s (execAssertOp i imm s) :=
  .next (keepsMems_issue i 1 [] (fun _ => keepsMems_raiseIn ..) s)

theorem proceeds_execInvalidEncoding (i : Issue) (w : Word) (s : State) : Proceeds s (execInvalidEncoding i w s) := by
  refine .next (.ite (keepsMems_issue i 1 [] (fun v => ?_) s) .rfl)
  split
  · exact keepsMems_raiseInvalid ..
  · exact keepsMems_raiseInvalid ..
  · exact .ite (keepsMems_svcException ..) (keepsMems_raiseInvalid ..)

theorem proceeds_execScode (i : Issue) (rd ra rb : Reg) (fn : ScodeFn) (ecc : Ecc) (s : State) : Proceeds s (execScode i rd ra rb fn ecc s) := by
  refine .next (keepsMems_issue i _ [ra, rb] (fun v => ?_) s)
  split
  · exact keepsMems_raiseInvalid ..
  all_goals
    refine .ite (keepsMems_raiseIn ..) (.of_same ?_)
    dsimp only
    generalize safetyCode _ _ = code
    simp

/-! ### The instructions of the service cores -/

theorem keepsMems_svcOp (i : Issue) {k : Nat → State → State} (hk : ∀ c v, KeepsMems v (k c v)) (s : State) : KeepsMems s (svcOp i k s) := by
  refine keepsMems_issue i 1 [] (fun v => ?_) s
  split
  · exact keepsMems_raiseInvalid ..
  · exact keepsMems_raiseInvalid ..
  · exact .ite (hk _ v) (keepsMems_svcException ..)

theorem proceeds_execEret (i : Issue) (s : State) : Proceeds s (execEret i s) :=
  .next (keepsMems_svcOp i (fun _ _ => .of_same (sameMems_svcEret ..)) s)

theorem proceeds_execDi (i : Issue) (s : State) : Proceeds s (execDi i s) :=
  .next (keepsMems_svcOp i (fun _ _ => .of_same (by simp)) s)

theorem proceeds_execEi (i : Issue) (s : State) : Proceeds s (execEi i s) :=
  .next (keepsMems_svcOp i (fun _ _ => .of_same (by simp)) s)

theorem proceeds_execWfe (i : Issue) (s : State) : Proceeds s (execWfe i s) :=
  .next (keepsMems_svcOp i (fun _ _ => .ite (.of_same (by simp)) (.of_same (by simp))) s)

theorem proceeds_execMfsr (i : Issue) (rd : Reg) (sr : BitVec 10) (s : State) : Proceeds s (execMfsr i rd sr s) :=
  .next (keepsMems_svcOp i (fun _ _ => .ite (keepsMems_raiseInvalid ..) (.of_same (by simp))) s)

theorem keepsMems_mtsrOp (i : Issue) (ra sr : Nat) (s : State) : KeepsMems s (mtsrOp i ra sr s) :=
  keepsMems_svcOp i (fun _ _ => .ite (keepsMems_raiseInvalid ..) (.of_same (by simp))) s

theorem proceeds_execMtsr (i : Issue) (ra : Reg) (sr : BitVec 10) (s : State) : Proceeds s (execMtsr i ra sr s) :=
  .next (keepsMems_mtsrOp ..)

theorem proceeds_execEoiWrite (i : Issue) (ra : Reg) (s : State) : Proceeds s (execEoiWrite i ra s) := .next (keepsMems_mtsrOp ..)

theorem proceeds_execWdkickWrite (i : Issue) (ra : Reg) (s : State) : Proceeds s (execWdkickWrite i ra s) := .next (keepsMems_mtsrOp ..)

theorem proceeds_execMpuw (i : Issue) (ra rb : Reg) (s : State) : Proceeds s (execMpuw i ra rb s) :=
  .next (keepsMems_svcOp i (fun _ _ => .ite (.of_same (by simp)) (.of_same (by simp))) s)

theorem proceeds_execMpur (i : Issue) (rd ra : Reg) (s : State) : Proceeds s (execMpur i rd ra s) :=
  .next (keepsMems_svcOp i (fun _ _ => .of_same (by simp)) s)

theorem proceeds_execMpusync (i : Issue) (s : State) : Proceeds s (execMpusync i s) :=
  .next (keepsMems_svcOp i (fun _ _ => .of_same (by simp)) s)

theorem proceeds_execTrap (i : Issue) (imm : BitVec 16) (s : State) : Proceeds s (execTrap i imm s) := by
  refine .next (keepsMems_issue i 1 [] (fun v => ?_) s)
  split
  · exact keepsMems_raiseInvalid ..
  · exact keepsMems_raiseInvalid ..
  · exact keepsMems_svcException ..

/-! ### The towpath frames and the deadlines of a triad member -/

@[simp] theorem sameMems_formTriad (mask s0 : Nat) (s : State) : SameMems s (formTriad mask s0 s) := by
  unfold formTriad
  extract_lets st s1 s2 _ s3
  have h1 : SameMems s s1 := SameMems.foldl (fun _ _ => sameMems_setPeer ..) s.others s
  clear_value s1
  have h2 : SameMems s s2 := h1.trans (sameMems_setTriF ..)
  clear_value s2 st
  have h3 : SameMems s s3 := by
    have hr : ∀ v, SameMems s v → SameMems s (record 0x5800 [mask, s0 % 2 ^ 32, s0 / 2 ^ 32] (setTri st v)) := fun v hv => hv.trans (by simp)
    exact hr _ (.literal h2.1 h2.2.1 h2.2.2)
  clear_value s3
  exact .ite (h3.trans (sameMems_enterDegraded ..)) h3

@[simp] theorem sameMems_tryForm (s : State) : SameMems s (tryForm s) := by
  unfold tryForm
  exact .ite ((SameMems.foldl (fun _ _ => sameMems_tpSend ..) _ s).trans (sameMems_formTriad ..)) ⟨rfl, rfl, rfl⟩

theorem proceeds_execHello (p : Fin 2) (w : WireFrame) (s : State) : Proceeds s (execHello p w s) := by
  refine .next (keepsMems_tpReceive p tHello w (fun v => .of_same ?_) s)
  extract_lets l x state t1 t2 ok s1 s2 s3 s4 s4' s5
  have h1 : SameMems v s1 := .ite (by simp) ⟨rfl, rfl, rfl⟩
  clear_value s1
  have h2 : SameMems v s2 := h1.trans (sameMems_setTp ..)
  clear_value s2
  have h3 : SameMems v s3 := .ite h2 (h2.trans (sameMems_measure ..))
  clear_value s3
  have h4 : SameMems v s4 := h3.trans (sameMems_tpViolation ..)
  clear_value s4
  have h4' : SameMems v s4' := .ite h3 (.ite (h4.trans (sameMems_losePeer ..)) h4)
  clear_value s4'
  have h5 : SameMems v s5 := h4'.trans (by simp [s5])
  clear_value s5
  exact .ite (h5.trans (sameMems_sendJoin _)) h5

theorem proceeds_execCycle (p : Fin 2) (w : WireFrame) (s : State) : Proceeds s (execCycle p w s) :=
  .next (keepsMems_cycleFrame p tCycle w (fun _ => .of_same (.ite (sameMems_tpLate ..) (sameMems_setPeer ..))) (fun _ => .rfl) s)

theorem proceeds_execContrib (p : Fin 2) (w : WireFrame) (s : State) : Proceeds s (execContrib p w s) :=
  .next (keepsMems_cycleFrame p tContrib w (fun _ => .ite (.of_same (sameMems_tpLate ..)) (.ite (.of_same (sameMems_setPeer ..))
    ((keepsMems_sramPutBytes ..).trans (.of_same ((sameMems_setPeer ..).trans (sameMems_trySummary _)))))) (fun _ => .rfl) s)

theorem proceeds_execRelay (p : Fin 2) (w : WireFrame) (s : State) : Proceeds s (execRelay p w s) :=
  .next (keepsMems_tpReceive p tRelay w (fun _ => .ite (.of_same (sameMems_setPeer ..)) .rfl) s)

theorem proceeds_execCut (p : Fin 2) (w : WireFrame) (s : State) : Proceeds s (execCut p w s) :=
  .next (keepsMems_cycleFrame p tCut w (fun _ => .of_same (.ite ((sameMems_setPeer ..).trans (sameMems_tpLate ..))
    ((sameMems_setPeer ..).trans (sameMems_trySummary _)))) (fun _ => .of_same (sameMems_setPeer ..)) s)

theorem proceeds_execSummary (p : Fin 2) (w : WireFrame) (s : State) : Proceeds s (execSummary p w s) :=
  .next (keepsMems_cycleFrame p tSummary w (fun _ => .of_same (.ite (sameMems_tpLate ..) (sameMems_setPeer ..))) (fun _ => .rfl) s)

theorem proceeds_execHash (p : Fin 2) (w : WireFrame) (s : State) : Proceeds s (execHash p w s) :=
  .next (keepsMems_cycleFrame p tHash w (fun _ => .of_same (.ite (sameMems_tpLate ..) (sameMems_setPeer ..))) (fun _ => .rfl) s)

theorem proceeds_execJoin (p : Fin 2) (w : WireFrame) (peerLink : Bool) (s : State) : Proceeds s (execJoin p w peerLink s) :=
  .next (keepsMems_tpReceive p tJoin w (fun _ => .ite .rfl (.of_same (.ite (by simp) (sameMems_recordReason ..)))) s)

theorem proceeds_execGrant (p : Fin 2) (w : WireFrame) (s : State) : Proceeds s (execGrant p w s) := by
  refine .next (keepsMems_tpReceive p tGrant w (fun v => .of_same ?_) s)
  dsimp only
  refine .ite (.ite ?_ (.ite (sameMems_setTriF ..) ⟨rfl, rfl, rfl⟩)) (.ite (sameMems_formTriad ..) ⟨rfl, rfl, rfl⟩)
  exact (SameMems.foldl (fun _ _ => sameMems_setPeer ..) _ v).trans ((sameMems_setTriF ..).trans (sameMems_setTri ..))

theorem proceeds_execXfer (p : Fin 2) (w : WireFrame) (s : State) : Proceeds s (execXfer p w s) :=
  .next (keepsMems_tpReceive p tXfer w (fun _ => .of_same (.ite (sameMems_tpViolation ..)
    (.ite (sameMems_setTriF ..) (sameMems_setTriF ..)))) s)

@[simp] theorem sameMems_failJoin (code : Nat) (s : State) : SameMems s (failJoin code s) := by
  unfold failJoin
  extract_lets s1 s2
  have h1 : SameMems s s1 := SameMems.foldl (fun _ _ => sameMems_setPeer ..) s.others s
  clear_value s1
  have h2 : SameMems s s2 := h1.trans (sameMems_setTriF ..)
  clear_value s2
  exact h2.trans (by simp)

@[simp] theorem keepsMems_loadState (lo hi : List Byte) (s : State) : KeepsMems s (loadState lo hi s) := by
  have loads : ∀ l : List (Word × Nat), KeepsMems s (l.foldl (fun s e => stateWrite e.2 e.1 s) s) := fun l =>
    .foldl (fun _ _ => keepsMems_stateWrite ..) l s
  unfold loadState
  refine .literal ?_ ?_ ?_
  · exact (loads _).1
  · exact (loads _).2.1
  · exact (loads _).2.2

theorem proceeds_execXferDeadline (start : Nat) (s : State) : Proceeds s (execXferDeadline start s) := by
  unfold execXferDeadline
  extract_lets s0
  have h0 : KeepsMems s s0 := .of_same (by simp [s0])
  clear_value s0
  refine .ite (.next h0) (.ite (.next (h0.trans (.of_same (sameMems_failJoin ..)))) ?_)
  split
  · extract_lets lo hi d s1
    have h1 : KeepsMems s s1 := h0.trans (KeepsMems.trans (.of_same (sameMems_setTriF ..)) (keepsMems_loadState ..))
    clear_value s1
    exact .ite (.next (.literal h1.1 h1.2.1 h1.2.2)) (.next (h0.trans (.of_same (sameMems_failJoin ..))))
  · exact .next h0

theorem proceeds_execAck (p : Fin 2) (w : WireFrame) (s : State) : Proceeds s (execAck p w s) :=
  .next (keepsMems_tpReceive p tAck w (fun _ => .rfl) s)

theorem proceeds_execNotice (p : Fin 2) (w : WireFrame) (s : State) : Proceeds s (execNotice p w s) :=
  .next (keepsMems_tpReceive p tNotice w (fun _ => .ite (.of_same (sameMems_losePeer ..)) .rfl) s)

theorem proceeds_execAckDue (p : Fin 2) (atNs : Nat) (s : State) : Proceeds s (execAckDue p atNs s) := by
  have h0 := sameMems_advance atNs s
  unfold execAckDue
  dsimp only
  split
  · exact .next_same h0
  · exact .next_same (.ite (h0.trans (sameMems_tpSend ..)) h0)

theorem proceeds_execRetransmitTimeout (p : Fin 2) (atNs : Nat) (s : State) : Proceeds s (execRetransmitTimeout p atNs s) :=
  .next_same (.ite ((sameMems_advance ..).trans (sameMems_tpRetransmit ..)) (sameMems_advance ..))

theorem proceeds_execDataDeadline (s : State) : Proceeds s (execDataDeadline s) :=
  .ite (.next_same (by simp)) (.next .rfl)

theorem proceeds_execSummaryDeadline (s : State) : Proceeds s (execSummaryDeadline s) :=
  .ite (.next_same (by simp)) (.next .rfl)

@[simp] theorem keepsMems_agree (s : State) : KeepsMems s (agree s) := by
  unfold agree
  extract_lets s1 fresh s2 s3 s4
  have h1 : KeepsMems s s1 := (keepsMems_agreeAreas s).trans (.of_same (sameMems_mergeBatch _))
  clear_value s1
  have h2 : KeepsMems s s2 :=
    KeepsMems.trans (.ite ((h1.trans (keepsMems_mergeInbox _)).trans (keepsMems_updateConns _)) h1) (.of_same (sameMems_resolveBatch _))
  clear_value s2
  have h3 : KeepsMems s s3 := (h2.trans (keepsMems_imageArea ..)).trans (keepsMems_agreeHeader _)
  clear_value s3
  have h4 : KeepsMems s s4 := h3.trans (keepsMems_imageArea ..)
  clear_value s4
  exact (h4.trans (keepsMems_imageArea ..)).trans (keepsMems_sramClear ..)

theorem proceeds_execAgreeEnd (atNs : Nat) (s : State) : Proceeds s (execAgreeEnd atNs s) := by
  unfold execAgreeEnd
  extract_lets s0 s1
  have h1 : KeepsMems s s1 := KeepsMems.trans (.of_same (by simp [s0])) (keepsMems_agree _)
  clear_value s1
  exact .ite (.next ((KeepsMems.literal h1.1 h1.2.1 h1.2.2).trans (.of_same (sameMems_startEvaluate _)))) (.next .rfl)

theorem proceeds_execImageDigestComplete (atNs : Nat) (s : State) : Proceeds s (execImageDigestComplete atNs s) :=
  .ite (.next_same (by simp)) (.next .rfl)

@[simp] theorem keepsMems_applyVerdict (v : Verdict) (s : State) : KeepsMems s (applyVerdict v s) := by
  cases v with
  | release => exact .of_same (sameMems_handOver s)
  | noRelease code => exact KeepsMems.trans (.of_same (sameMems_record ..)) (keepsMems_discardCycle _)
  | leave code => exact (keepsMems_discardCycle s).trans (.of_same (sameMems_departTriad ..))
  | hold code =>
    exact .ite ((keepsMems_discardCycle s).trans (.of_same (sameMems_departTriad ..)))
      ((keepsMems_discardCycle s).trans (.of_same (sameMems_departSilent ..)))
  | probation => exact KeepsMems.trans (.of_same (sameMems_setTriF ..)) (keepsMems_discardCycle _)

theorem proceeds_execHashDeadline (s : State) : Proceeds s (execHashDeadline s) := by
  unfold execHashDeadline
  extract_lets s0 s1 v
  have h0 : KeepsMems s s0 := .of_same (by simp [s0])
  clear_value s0
  have h1 : KeepsMems s s1 := h0.trans (.of_same (sameMems_setTriF ..))
  clear_value s1
  exact .ite (.next .rfl) (.ite (.next (h1.trans (keepsMems_applyVerdict ..))) (.next h1))

/-! ### Writes and reads of the control space -/

@[simp] theorem sameMems_requestCluster (m k : Nat) (s : State) : SameMems s (requestCluster m k s) := by
  unfold requestCluster
  simp

@[simp] theorem sameMems_writeSeqCtrl (v : Word) (s : State) : SameMems s (writeSeqCtrl v s) := by
  unfold writeSeqCtrl
  simp

@[simp] theorem sameMems_clearChannel (n : Nat) (s : State) : SameMems s (clearChannel n s) := by
  unfold clearChannel
  simp

@[simp] theorem sameMems_clearHead (k : Nat) (s : State) : SameMems s (clearHead k s) := by
  unfold clearHead
  simp

@[simp] theorem sameMems_reconfigSection (k : Nat) (s : State) : SameMems s (reconfigSection k s) := by
  unfold reconfigSection
  simp

@[simp] theorem sameMems_reconfigHead (k : Nat) (s : State) : SameMems s (reconfigHead k s) := by
  unfold reconfigHead
  simp

@[simp] theorem sameMems_reconfigDetector (k : Nat) (s0 s : State) : SameMems s (reconfigDetector k s0 s) := by
  unfold reconfigDetector
  simp

@[simp] theorem sameMems_reconfigEncoder (e : Nat) (s0 s : State) : SameMems s (reconfigEncoder e s0 s) := by
  unfold reconfigEncoder
  simp

@[simp] theorem sameMems_dropRetention (f : Nat) (dio : Bool) (c a : Nat) (s0 s : State) : SameMems s (dropRetention f dio c a s0 s) := by
  unfold dropRetention
  simp

@[simp] theorem sameMems_reconfigDio (f c a : Nat) (s0 s : State) : SameMems s (reconfigDio f c a s0 s) := by
  unfold reconfigDio
  simp

@[simp] theorem sameMems_reconfigSo (f j : Nat) (s : State) : SameMems s (reconfigSo f j s) := by
  unfold reconfigSo
  simp

@[simp] theorem sameMems_narrowBerth (b : Nat) (v : Word) (s : State) : SameMems s (narrowBerth b v s) := by
  unfold narrowBerth
  simp

@[simp] theorem sameMems_srcDrop (k : Nat) (s : State) : SameMems s (srcDrop k s) := by
  unfold srcDrop
  simp

@[simp] theorem sameMems_identWritten (s0 s : State) : SameMems s (identWritten s0 s) := by
  unfold identWritten
  simp

@[simp] theorem sameMems_setWall (v : Word) (s : State) : SameMems s (setWall v s) := by
  unfold setWall
  simp

@[simp] theorem keepsMems_writeUpdCtrl (v : Word) (s : State) : KeepsMems s (writeUpdCtrl v s) := by
  unfold writeUpdCtrl
  exact ⟨by simp, fun h => by simp [h], fun h => by simp [h]⟩

@[simp] theorem sameMems_writeStbl (v : Word) (s : State) : SameMems s (writeStbl v s) := by
  unfold writeStbl
  simp

@[simp] theorem sameMems_writeSnpCtrl (v : Word) (s : State) : SameMems s (writeSnpCtrl v s) := by
  unfold writeSnpCtrl
  simp

@[simp] theorem sameMems_storeBits (r : RegRow) (a : Nat) (v : Word) (s : State) : SameMems s (storeBits r a v s) := by
  unfold storeBits
  simp

@[simp] theorem sameMems_refusedAccess (q : Requester) (code a : Nat) (s : State) : SameMems s (refusedAccess q code a s) := by
  unfold refusedAccess
  (repeat' split) <;> simp

@[simp] theorem sameMems_accessRead (acc : Access) (a : Nat) (s : State) : SameMems s (accessRead acc a s) := by
  unfold accessRead
  simp

@[simp] theorem sameMems_forOnes (n : Nat) (v : Word) {f : Nat → State → State} (hf : ∀ k u, SameMems u (f k u)) (s : State) :
    SameMems s (forOnes n v f s) := .foldl (fun u k => hf k u) _ s

@[simp] theorem sameMems_writeClreq (v : Word) (s : State) : SameMems s (writeClreq v s) :=
  (sameMems_forOnes 8 _ (fun _ _ => sameMems_requestCluster ..) s).trans (sameMems_forOnes 8 _ (fun _ _ => sameMems_requestCluster ..) _)

@[simp] theorem sameMems_writeDioDiag (f k : Nat) (v : Word) (s : State) : SameMems s (writeDioDiag f k v s) :=
  .ite (sameMems_forOnes 24 v (fun _ _ => sameMems_dioClear ..) s)
    (.ite (sameMems_forOnes 24 v (fun _ _ => sameMems_dioClear ..) s) ⟨rfl, rfl, rfl⟩)

section
variable {s t : State}

/-- The effects of a write: `s` before the stored bits are written, `t` after. -/
theorem sameMems_writeMotTest (v : Word) (h : SameMems s t) : SameMems s (writeMotTest v s t) :=
  .ite h (.ite (sameMems_refusePost ..) (h.trans (sameMems_testCommand ..)))

theorem sameMems_writeMotFbk (k : RegName) (i : Nat) (v : Word) (h : SameMems s t) : SameMems s (writeMotFbk k i v s t) := by
  unfold writeMotFbk
  split
  · exact sameMems_writeMotTest v h
  · exact h.trans (by simp)
  · exact h.trans (by simp)
  · exact h.trans (sameMems_forOnes 32 v (fun _ _ => sameMems_clearChannel ..) t)
  · exact h.trans (sameMems_forOnes 16 v (fun _ _ => sameMems_clearHead ..) t)
  · exact h.trans (sameMems_reconfigHead ..)
  · exact h.trans (sameMems_reconfigSection ..)
  · exact h.trans (sameMems_reconfigDetector ..)
  · exact h.trans (by simp)
  · exact h.trans (sameMems_reconfigEncoder ..)
  · exact .ite (h.trans (by simp)) h
  · exact h

theorem sameMems_writeFldNet (k : RegName) (i j a : Nat) (v : Word) (h : SameMems s t) : SameMems s (writeFldNet k i j a v s t) := by
  unfold writeFldNet
  split
  · exact h.trans (sameMems_reconfigDio ..)
  · exact h.trans (sameMems_dropRetention ..)
  · exact h.trans (sameMems_writeDioDiag ..)
  · exact h.trans (sameMems_setBlock ..)
  · exact h.trans (sameMems_reconfigSo ..)
  · exact h.trans (sameMems_reconfigSo ..)
  · exact .ite (sameMems_fieldTestWrite ..) h
  · exact .ite (h.trans (sameMems_departTriad ..)) h
  · exact h

theorem sameMems_writeBthJnlEvc (k : RegName) (i : Nat) (v : Word) (h : SameMems s t) : SameMems s (writeBthJnlEvc k i v s t) := by
  unfold writeBthJnlEvc
  split
  · exact h.trans (sameMems_narrowBerth ..)
  · exact h.trans (sameMems_forOnes 8 v (fun _ _ => sameMems_resetBerth ..) t)
  · exact .ite (h.trans (sameMems_clearMetric ..)) h
  · exact h.trans (sameMems_forOnes 32 v (fun _ _ => sameMems_srcDrop ..) t)
  · exact h.trans (sameMems_forOnes 32 v (fun _ _ => sameMems_evEdge ..) t)
  · exact sameMems_stmrWrite ..
  · exact sameMems_srcCfgWrite ..
  · exact h

theorem keepsMems_writeLkpSnp (k : RegName) (v : Word) (h : SameMems s t) : KeepsMems s (writeLkpSnp k v s t) := by
  have h' := KeepsMems.of_same h
  unfold writeLkpSnp
  split
  · exact h'.trans (keepsMems_resetRequest ..)
  · exact .ite (h'.trans (.of_same (sameMems_commitSettings _))) h'
  · exact h'.trans (.of_same (sameMems_identWritten ..))
  · exact h'.trans (.of_same (sameMems_setKeep ..))
  · exact .of_same ⟨rfl, rfl, rfl⟩
  · exact .of_same ⟨rfl, rfl, rfl⟩
  · exact .of_same (sameMems_setWall ..)
  · exact h'.trans (.of_same (sameMems_setKeep ..))
  · exact h'.trans (.of_same (sameMems_setKeep ..))
  · exact h'.trans (keepsMems_writeUpdCtrl ..)
  · exact h'.trans (.of_same (sameMems_writeStbl ..))
  · exact h'.trans (.of_same (sameMems_writeSnpCtrl ..))
  · exact h'

end

@[simp] theorem keepsMems_writeReg (r : RegRow) (i j a : Nat) (v : Word) (s : State) : KeepsMems s (writeReg r i j a v s) := by
  unfold writeReg
  extract_lets t
  have h : SameMems s t := sameMems_storeBits ..
  clear_value t
  split
  · exact .of_same (.ite (h.trans (sameMems_writeSeqCtrl ..)) (.ite (h.trans (sameMems_writeClreq ..)) h))
  · exact .of_same (sameMems_writeMotFbk _ i v h)
  · exact .of_same (.ite (h.trans (sameMems_chanChanged _)) (sameMems_writeMotFbk _ i v h))
  · exact .of_same (sameMems_writeFldNet _ i j a v h)
  · exact .of_same (sameMems_writeFldNet _ i j a v h)
  · exact .of_same (sameMems_writeBthJnlEvc _ i v h)
  · exact .of_same (sameMems_writeBthJnlEvc _ i v h)
  · exact .of_same (sameMems_writeBthJnlEvc _ i v h)
  · exact keepsMems_writeLkpSnp _ v h

@[simp] theorem keepsMems_regWrite (a : Nat) (v : Word) (s : State) : KeepsMems s (regWrite a v s) := by
  unfold regWrite
  split
  · exact .ite (keepsMems_writeReg ..) .rfl
  · exact .ite (.of_same (sameMems_ctlSet ..)) .rfl

@[simp] theorem keepsMems_accessWrite (acc : Access) (a : Nat) (v : Word) (s : State) : KeepsMems s (accessWrite acc a v s) := by
  have h0 : KeepsMems s (advance acc.at_ s) := .of_same (sameMems_advance ..)
  exact .ite h0 (.ite (h0.trans (keepsMems_regWrite ..)) (h0.trans (.of_same (sameMems_refusedAccess ..))))

@[simp] theorem sameMems_readWords (q : Nat) (l : List Nat) (s : State) : SameMems s (readWords q l s).2 := by
  induction l generalizing s with
  | nil => exact ⟨rfl, rfl, rfl⟩
  | cons a l ih => exact (sameMems_readWord q a s).trans (ih _)

theorem proceeds_execCread (b : Fin 8) (m : MsgHead) (addr : Word) (count zero : BitVec 16) (s : State) :
    Proceeds s (execCread b m addr count zero s) := by
  refine .next_same (sameMems_gate _ _ _ _ _ _ _ _ (fun v => ?_))
  dsimp only
  split
  · exact sameMems_refuseMsg ..
  · exact (sameMems_readWords ..).trans (sameMems_replyOk ..)

/-- A message whose effect may write the memories. -/
theorem keepsMems_gate (b typ : Nat) (m : MsgHead) (body : List Byte) (shapeOk permitted : Bool) (s : State) {k : State → State}
    (hk : ∀ v, KeepsMems v (k v)) : KeepsMems s (gate b typ m body shapeOk permitted s k) := by
  have ht : KeepsMems s (touch b s) := .of_same (sameMems_touch ..)
  have hr : ∀ code, KeepsMems s (refuseMsg b m.typ.toNat m.tag code m.typ.toNat (touch b s)) := fun code =>
    ht.trans (.of_same (sameMems_refuseMsg ..))
  exact .ite .rfl (.ite (hr _) (.ite (hr _) (.ite (hr _) (.ite (hr _) (.ite (hr _) (.ite (hr _) (ht.trans (hk _))))))))

theorem proceeds_execCwrite (b : Fin 8) (m : MsgHead) (addr value : Word) (s : State) : Proceeds s (execCwrite b m addr value s) :=
  .next (keepsMems_gate _ _ _ _ _ _ _ (fun _ => .ite (KeepsMems.trans (.of_same (sameMems_replyOk ..)) (keepsMems_regWrite ..))
    (.of_same (sameMems_refuseMsg ..))))

theorem proceeds_execLdc (i : Issue) (rd ra : Reg) (imm : BitVec 16) (s : State) : Proceeds s (execLdc i rd ra imm s) :=
  .next (keepsMems_svcOp i (fun _ _ => .ite (.of_same ((sameMems_readWord ..).trans (sameMems_writeBack ..)))
    (KeepsMems.trans (.of_same (sameMems_refusedAccess ..)) (keepsMems_svcException ..))) s)

theorem proceeds_execStc (i : Issue) (rd ra : Reg) (imm : BitVec 16) (s : State) : Proceeds s (execStc i rd ra imm s) :=
  .next (keepsMems_svcOp i (fun _ _ => .ite (KeepsMems.trans (.of_same (sameMems_stepPc ..)) (keepsMems_regWrite ..))
    (KeepsMems.trans (.of_same (sameMems_refusedAccess ..)) (keepsMems_svcException ..))) s)

theorem proceeds_execMetricLatchRead (acc : Access) (m : Fin 4096) (s : State) : Proceeds s (execMetricLatchRead acc m s) := by
  unfold execMetricLatchRead
  exact .next_same (by simp)

theorem proceeds_execLatchingLowWordRead (acc : Access) (addr : Word) (s : State) : Proceeds s (execLatchingLowWordRead acc addr s) := by
  unfold execLatchingLowWordRead
  exact .next_same (by simp)

theorem proceeds_execRcFieldRead (acc : Access) (addr : Word) (s : State) : Proceeds s (execRcFieldRead acc addr s) := by
  unfold execRcFieldRead
  exact .next_same (by simp)

theorem proceeds_execControlRegisterWrite (acc : Access) (addr v : Word) (s : State) : Proceeds s (execControlRegisterWrite acc addr v s) :=
  .next (keepsMems_accessWrite ..)

theorem proceeds_execClrOvr (acc : Access) (s : State) : Proceeds s (execClrOvr acc s) := .next (keepsMems_accessWrite ..)

theorem proceeds_execClrMax (acc : Access) (s : State) : Proceeds s (execClrMax acc s) := .next (keepsMems_accessWrite ..)

theorem proceeds_execClusterSplitRequest (acc : Access) (clusters : BitVec 8) (s : State) : Proceeds s (execClusterSplitRequest acc clusters s) :=
  .next (keepsMems_accessWrite ..)

theorem proceeds_execClusterParkRequest (acc : Access) (clusters : BitVec 8) (s : State) : Proceeds s (execClusterParkRequest acc clusters s) :=
  .next (keepsMems_accessWrite ..)

@[simp] theorem keepsMems_motTest (acc : Access) (kind n : Nat) (s : State) : KeepsMems s (motTest acc kind n s) := keepsMems_accessWrite ..

theorem proceeds_execMotTestEnd (acc : Access) (n : Fin 32) (s : State) : Proceeds s (execMotTestEnd acc n s) := .next (keepsMems_motTest ..)

theorem proceeds_execMotTestEnableHold (acc : Access) (n : Fin 32) (s : State) : Proceeds s (execMotTestEnableHold acc n s) :=
  .next (keepsMems_motTest ..)

theorem proceeds_execMotTestJogPositive (acc : Access) (n : Fin 32) (s : State) : Proceeds s (execMotTestJogPositive acc n s) :=
  .next (keepsMems_motTest ..)

theorem proceeds_execMotTestJogNegative (acc : Access) (n : Fin 32) (s : State) : Proceeds s (execMotTestJogNegative acc n s) :=
  .next (keepsMems_motTest ..)

theorem proceeds_execMotTestHome (acc : Access) (n : Fin 32) (s : State) : Proceeds s (execMotTestHome acc n s) := .next (keepsMems_motTest ..)

theorem proceeds_execPcClear (acc : Access) (mask : Word) (s : State) : Proceeds s (execPcClear acc mask s) := .next (keepsMems_accessWrite ..)

theorem proceeds_execPcConfigWrite (acc : Access) (n : Fin 32) (lines : Bool) (v : Word) (s : State) : Proceeds s (execPcConfigWrite acc n lines v s) :=
  .next (keepsMems_accessWrite ..)

theorem proceeds_execWcClear (acc : Access) (mask : Word) (s : State) : Proceeds s (execWcClear acc mask s) := .next (keepsMems_accessWrite ..)

theorem proceeds_execWcConfigWrite (acc : Access) (k : Fin 16) (v : Word) (s : State) : Proceeds s (execWcConfigWrite acc k v s) :=
  .next (keepsMems_accessWrite ..)

theorem proceeds_execSecConfigWrite (acc : Access) (k : Fin 16) (v : Word) (s : State) : Proceeds s (execSecConfigWrite acc k v s) :=
  .next (keepsMems_accessWrite ..)

theorem proceeds_execEoEnable (acc : Access) (e : Fin 8) (v : Word) (s : State) : Proceeds s (execEoEnable acc e v s) :=
  .next (keepsMems_accessWrite ..)

theorem proceeds_execDioDiagClearWrite (acc : Access) (f k : Fin 4) (v : Word) (s : State) : Proceeds s (execDioDiagClearWrite acc f k v s) :=
  .next (keepsMems_accessWrite ..)

theorem proceeds_execPairConfigWrite (acc : Access) (f : Fin 4) (j : Fin 12) (v : Word) (s : State) : Proceeds s (execPairConfigWrite acc f j v s) :=
  .next (keepsMems_accessWrite ..)

theorem proceeds_execSoConfigWrite (acc : Access) (f j : Fin 4) (fb : Bool) (v : Word) (s : State) : Proceeds s (execSoConfigWrite acc f j fb v s) :=
  .next (keepsMems_accessWrite ..)

theorem proceeds_execFldTestWrite (acc : Access) (v : Word) (s : State) : Proceeds s (execFldTestWrite acc v s) :=
  .next (keepsMems_accessWrite ..)

theorem proceeds_execMetricClear (acc : Access) (v : Word) (s : State) : Proceeds s (execMetricClear acc v s) := .next (keepsMems_accessWrite ..)

theorem proceeds_execTriadLeave (acc : Access) (v : Word) (s : State) : Proceeds s (execTriadLeave acc v s) := .next (keepsMems_accessWrite ..)

theorem proceeds_execBthNarrowWrite (acc : Access) (b : Fin 8) (v : Word) (s : State) : Proceeds s (execBthNarrowWrite acc b v s) :=
  .next (keepsMems_accessWrite ..)

theorem proceeds_execBthResetWrite (acc : Access) (v : Word) (s : State) : Proceeds s (execBthResetWrite acc v s) :=
  .next (keepsMems_accessWrite ..)

theorem proceeds_execStmrEnableWrite (acc : Access) (t : Fin 7) (v : Word) (s : State) : Proceeds s (execStmrEnableWrite acc t v s) :=
  .next (keepsMems_accessWrite ..)

theorem proceeds_execEvcPendWrite (acc : Access) (k : Fin 8) (v : Word) (s : State) : Proceeds s (execEvcPendWrite acc k v s) :=
  .next (keepsMems_accessWrite ..)

theorem proceeds_execEvcRaiseWrite (acc : Access) (k : Fin 8) (v : Word) (s : State) : Proceeds s (execEvcRaiseWrite acc k v s) :=
  .next (keepsMems_accessWrite ..)

theorem proceeds_execSourceEnableWrite (acc : Access) (src : Fin 255) (v : Word) (s : State) : Proceeds s (execSourceEnableWrite acc src v s) :=
  .next (keepsMems_accessWrite ..)

theorem proceeds_execGdisWrite (acc : Access) (v : Word) (s : State) : Proceeds s (execGdisWrite acc v s) := .next (keepsMems_accessWrite ..)

theorem proceeds_execEvcTestWrite (acc : Access) (v : Word) (s : State) : Proceeds s (execEvcTestWrite acc v s) :=
  .next (keepsMems_accessWrite ..)

theorem proceeds_execLkpIdentWrite (acc : Access) (v : Word) (s : State) : Proceeds s (execLkpIdentWrite acc v s) :=
  .next (keepsMems_accessWrite ..)

theorem proceeds_execLockKeeperCommandReset (acc : Access) (s : State) : Proceeds s (execLockKeeperCommandReset acc s) :=
  .next (keepsMems_accessWrite ..)

theorem proceeds_execLogicRegionReset (acc : Access) (s : State) : Proceeds s (execLogicRegionReset acc s) := .next (keepsMems_accessWrite ..)

theorem proceeds_execFieldBlockResetRequest (acc : Access) (blocks : BitVec 4) (s : State) : Proceeds s (execFieldBlockResetRequest acc blocks s) :=
  .next (keepsMems_accessWrite ..)

theorem proceeds_execSettingsCommit (acc : Access) (s : State) : Proceeds s (execSettingsCommit acc s) := .next (keepsMems_accessWrite ..)

theorem proceeds_execActProg (acc : Access) (s : State) : Proceeds s (execActProg acc s) := .next (keepsMems_accessWrite ..)

theorem proceeds_execActLkfw (acc : Access) (s : State) : Proceeds s (execActLkfw acc s) := .next (keepsMems_accessWrite ..)

theorem proceeds_execActSvfw (acc : Access) (s : State) : Proceeds s (execActSvfw acc s) := .next (keepsMems_accessWrite ..)

theorem proceeds_execUpdateDiscard (acc : Access) (s : State) : Proceeds s (execUpdateDiscard acc s) := .next (keepsMems_accessWrite ..)

theorem proceeds_execWallTimeStageLo (acc : Access) (v : Word) (s : State) : Proceeds s (execWallTimeStageLo acc v s) :=
  .next (keepsMems_accessWrite ..)

theorem proceeds_execWallTimeStageHi (acc : Access) (v : Word) (s : State) : Proceeds s (execWallTimeStageHi acc v s) :=
  .next (keepsMems_accessWrite ..)

theorem proceeds_execWallTimeSet (acc : Access) (v : Word) (s : State) : Proceeds s (execWallTimeSet acc v s) := .next (keepsMems_accessWrite ..)

theorem proceeds_execStabledRequest (acc : Access) (s : State) : Proceeds s (execStabledRequest acc s) := .next (keepsMems_accessWrite ..)

theorem proceeds_execStabledWake (acc : Access) (s : State) : Proceeds s (execStabledWake acc s) := .next (keepsMems_accessWrite ..)

theorem proceeds_execSnapshotTriggerCommand (acc : Access) (s : State) : Proceeds s (execSnapshotTriggerCommand acc s) :=
  .next (keepsMems_accessWrite ..)

theorem proceeds_execSnapshotRelease (acc : Access) (s : State) : Proceeds s (execSnapshotRelease acc s) := .next (keepsMems_accessWrite ..)

/-! ### Every command goes on and keeps queue and memories -/

theorem proceeds_exec (c : Instr) (s : State) : Proceeds s (exec c s) := by
  cases c with
  | add => exact proceeds_execAdd ..
  | sub => exact proceeds_execSub ..
  | andOp => exact proceeds_execAndOp ..
  | orOp => exact proceeds_execOrOp ..
  | xorOp => exact proceeds_execXorOp ..
  | andn => exact proceeds_execAndn ..
  | orn => exact proceeds_execOrn ..
  | sll => exact proceeds_execSll ..
  | srl => exact proceeds_execSrl ..
  | sra => exact proceeds_execSra ..
  | mul => exact proceeds_execMul ..
  | divu => exact proceeds_execDivu ..
  | remu => exact proceeds_execRemu ..
  | minu => exact proceeds_execMinu ..
  | maxu => exact proceeds_execMaxu ..
  | minOp => exact proceeds_execMinOp ..
  | maxOp => exact proceeds_execMaxOp ..
  | sltu => exact proceeds_execSltu ..
  | slt => exact proceeds_execSlt ..
  | tall => exact proceeds_execTall ..
  | tany => exact proceeds_execTany ..
  | tnone => exact proceeds_execTnone ..
  | msel => exact proceeds_execMsel ..
  | popc => exact proceeds_execPopc ..
  | ffs => exact proceeds_execFfs ..
  | clrls => exact proceeds_execClrls ..
  | bmaj => exact proceeds_execBmaj ..
  | ext => exact proceeds_execExt ..
  | exts => exact proceeds_execExts ..
  | ins => exact proceeds_execIns ..
  | addi => exact proceeds_execAddi ..
  | andi => exact proceeds_execAndi ..
  | ori => exact proceeds_execOri ..
  | xori => exact proceeds_execXori ..
  | lui => exact proceeds_execLui ..
  | slli => exact proceeds_execSlli ..
  | srli => exact proceeds_execSrli ..
  | srai => exact proceeds_execSrai ..
  | movs => exact proceeds_execMovs ..
  | ld => exact proceeds_execLd ..
  | st => exact proceeds_execSt ..
  | beq => exact proceeds_execBeq ..
  | bne => exact proceeds_execBne ..
  | blt => exact proceeds_execBlt ..
  | bge => exact proceeds_execBge ..
  | bltu => exact proceeds_execBltu ..
  | bgeu => exact proceeds_execBgeu ..
  | bbs => exact proceeds_execBbs ..
  | bbc => exact proceeds_execBbc ..
  | jump => exact proceeds_execJump ..
  | oloop => exact proceeds_execOloop ..
  | onext => exact proceeds_execOnext ..
  | endc => exact proceeds_execEndc ..
  | seg => exact proceeds_execSeg ..
  | assertOp => exact proceeds_execAssertOp ..
  | tstart => exact proceeds_execTstart ..
  | tstop => exact proceeds_execTstop ..
  | ttest => exact proceeds_execTtest ..
  | scode => exact proceeds_execScode ..
  | mcmd => exact proceeds_execMcmd ..
  | fset => exact proceeds_execFset ..
  | invalidEncoding => exact proceeds_execInvalidEncoding ..
  | eret => exact proceeds_execEret ..
  | di => exact proceeds_execDi ..
  | ei => exact proceeds_execEi ..
  | wfe => exact proceeds_execWfe ..
  | mfsr => exact proceeds_execMfsr ..
  | mtsr => exact proceeds_execMtsr ..
  | eoiWrite => exact proceeds_execEoiWrite ..
  | wdkickWrite => exact proceeds_execWdkickWrite ..
  | ldc => exact proceeds_execLdc ..
  | stc => exact proceeds_execStc ..
  | mpuw => exact proceeds_execMpuw ..
  | mpur => exact proceeds_execMpur ..
  | mpusync => exact proceeds_execMpusync ..
  | trap => exact proceeds_execTrap ..
  | lockChamberStallEnd => exact proceeds_execLockChamberStallEnd ..
  | runAheadStallEnd => exact proceeds_execRunAheadStallEnd ..
  | capture => exact proceeds_execCapture ..
  | inboxSwap => exact proceeds_execInboxSwap ..
  | freezeMark => exact proceeds_execFreezeMark ..
  | captureEnd => exact proceeds_execCaptureEnd ..
  | evaluateEnd => exact proceeds_execEvaluateEnd ..
  | accordCloseEnd => exact proceeds_execAccordCloseEnd ..
  | release => exact proceeds_execRelease ..
  | releaseEnd => exact proceeds_execReleaseEnd ..
  | overrunCycleComplete => exact proceeds_execOverrunCycleComplete ..
  | clrOvr => exact proceeds_execClrOvr ..
  | clrMax => exact proceeds_execClrMax ..
  | clusterSplitRequest => exact proceeds_execClusterSplitRequest ..
  | clusterParkRequest => exact proceeds_execClusterParkRequest ..
  | clusterHandoverComplete => exact proceeds_execClusterHandoverComplete ..
  | hello => exact proceeds_execHello ..
  | helloTimer => exact proceeds_execHelloTimer ..
  | cycle => exact proceeds_execCycle ..
  | contrib => exact proceeds_execContrib ..
  | relay => exact proceeds_execRelay ..
  | cut => exact proceeds_execCut ..
  | summary => exact proceeds_execSummary ..
  | hash => exact proceeds_execHash ..
  | join => exact proceeds_execJoin ..
  | grant => exact proceeds_execGrant ..
  | xfer => exact proceeds_execXfer ..
  | ack => exact proceeds_execAck ..
  | notice => exact proceeds_execNotice ..
  | ackDue => exact proceeds_execAckDue ..
  | retransmitTimeout => exact proceeds_execRetransmitTimeout ..
  | blockLockLost => exact proceeds_execBlockLockLost ..
  | towpathReceiveTimeout => exact proceeds_execTowpathReceiveTimeout ..
  | dataDeadline => exact proceeds_execDataDeadline ..
  | summaryDeadline => exact proceeds_execSummaryDeadline ..
  | agreeEnd => exact proceeds_execAgreeEnd ..
  | imageDigestComplete => exact proceeds_execImageDigestComplete ..
  | hashDeadline => exact proceeds_execHashDeadline ..
  | joinRetry => exact proceeds_execJoinRetry ..
  | xferDeadline => exact proceeds_execXferDeadline ..
  | triadLeave => exact proceeds_execTriadLeave ..
  | yalaUnitReceived => exact proceeds_execYalaUnitReceived ..
  | arpRequest => exact proceeds_execArpRequest ..
  | nonYalaFrame => exact proceeds_execNonYalaFrame ..
  | portLinkUp => exact proceeds_execPortLinkUp ..
  | portLinkDown => exact proceeds_execPortLinkDown ..
  | openBerth => exact proceeds_execOpenBerth ..
  | proof => exact proceeds_execProof ..
  | close => exact proceeds_execClose ..
  | cread => exact proceeds_execCread ..
  | cwrite => exact proceeds_execCwrite ..
  | command => exact proceeds_execCommand ..
  | commandReply => exact proceeds_execCommandReply ..
  | hashread => exact proceeds_execHashread ..
  | sread => exact proceeds_execSread ..
  | echunk => exact proceeds_execEchunk ..
  | ecommit => exact proceeds_execEcommit ..
  | envelopeCheckComplete => exact proceeds_execEnvelopeCheckComplete ..
  | jstat => exact proceeds_execJstat ..
  | jread => exact proceeds_execJread ..
  | jseal => exact proceeds_execJseal ..
  | jack => exact proceeds_execJack ..
  | jrearm => exact proceeds_execJrearm ..
  | kread => exact proceeds_execKread ..
  | shread => exact proceeds_execShread ..
  | berthReset => exact proceeds_execBerthReset ..
  | berthIdleTimeout => exact proceeds_execBerthIdleTimeout ..
  | uartBreak => exact proceeds_execUartBreak ..
  | uartFrameGap line => exact proceeds_execUartFrameGap line s
  | bqDoorbell => exact proceeds_execBqDoorbell ..
  | bqRplHeadWrite => exact proceeds_execBqRplHeadWrite ..
  | bqReset => exact proceeds_execBqReset ..
  | bqRingWrite => exact proceeds_execBqRingWrite ..
  | bqRequestFetch => exact proceeds_execBqRequestFetch ..
  | pcieCompletionError => exact proceeds_execPcieCompletionError ..
  | replySlotWaitTimeout => exact proceeds_execReplySlotWaitTimeout ..
  | tcpConnectionRequest => exact proceeds_execTcpConnectionRequest ..
  | tlsHandshakeComplete => exact proceeds_execTlsHandshakeComplete ..
  | tlsHandshakeTimeout => exact proceeds_execTlsHandshakeTimeout ..
  | keyupdate => exact proceeds_execKeyupdate ..
  | tcpConnectionClosed => exact proceeds_execTcpConnectionClosed ..
  | lockoutEnd => exact proceeds_execLockoutEnd ..
  | bthNarrowWrite => exact proceeds_execBthNarrowWrite ..
  | bthResetWrite => exact proceeds_execBthResetWrite ..
  | lkpIdentWrite => exact proceeds_execLkpIdentWrite ..
  | servoPeriod => exact proceeds_execServoPeriod ..
  | releaseMarker => exact proceeds_execReleaseMarker ..
  | enable => exact proceeds_execEnable ..
  | disable => exact proceeds_execDisable ..
  | stop => exact proceeds_execStop ..
  | home => exact proceeds_execHome ..
  | clear => exact proceeds_execClear ..
  | setpos => exact proceeds_execSetpos ..
  | run => exact proceeds_execRun ..
  | grun => exact proceeds_execGrun ..
  | enablingComplete => exact proceeds_execEnablingComplete ..
  | segmentEnd => exact proceeds_execSegmentEnd ..
  | runComplete => exact proceeds_execRunComplete ..
  | stopComplete => exact proceeds_execStopComplete ..
  | obstacle => exact proceeds_execObstacle ..
  | reversalComplete => exact proceeds_execReversalComplete ..
  | homingReference => exact proceeds_execHomingReference ..
  | homingChatterAbort => exact proceeds_execHomingChatterAbort ..
  | sdStreamStuck => exact proceeds_execSdStreamStuck ..
  | sdclkFault => exact proceeds_execSdclkFault ..
  | mailboxSilent => exact proceeds_execMailboxSilent ..
  | motTestEnd => exact proceeds_execMotTestEnd ..
  | motTestEnableHold => exact proceeds_execMotTestEnableHold ..
  | motTestJogPositive => exact proceeds_execMotTestJogPositive ..
  | motTestJogNegative => exact proceeds_execMotTestJogNegative ..
  | motTestHome => exact proceeds_execMotTestHome ..
  | motTestNotRenewed => exact proceeds_execMotTestNotRenewed ..
  | quadratureStep => exact proceeds_execQuadratureStep ..
  | hallCodeChange => exact proceeds_execHallCodeChange ..
  | indexLatch => exact proceeds_execIndexLatch ..
  | errorLevelDecay => exact proceeds_execErrorLevelDecay ..
  | pcClear => exact proceeds_execPcClear ..
  | pcConfigWrite => exact proceeds_execPcConfigWrite ..
  | frequencyGateEnd => exact proceeds_execFrequencyGateEnd ..
  | zeroSpeedTimeout n atNs => exact proceeds_execZeroSpeedTimeout n atNs s
  | standstillAssert => exact proceeds_execStandstillAssert ..
  | headSampleTimeout => exact proceeds_execHeadSampleTimeout ..
  | headReady => exact proceeds_execHeadReady ..
  | wcClear => exact proceeds_execWcClear ..
  | wcConfigWrite => exact proceeds_execWcConfigWrite ..
  | secConfigWrite => exact proceeds_execSecConfigWrite ..
  | sectionReset => exact proceeds_execSectionReset ..
  | restore => exact proceeds_execRestore ..
  | disturb => exact proceeds_execDisturb ..
  | eoEnable => exact proceeds_execEoEnable ..
  | eoOutputStep => exact proceeds_execEoOutputStep ..
  | fieldLinkOutboundFrame => exact proceeds_execFieldLinkOutboundFrame ..
  | fieldLinkInboundFrame => exact proceeds_execFieldLinkInboundFrame ..
  | fieldBlockSilent => exact proceeds_execFieldBlockSilent ..
  | fclkDeviation => exact proceeds_execFclkDeviation ..
  | serialWatchdogExpiry => exact proceeds_execSerialWatchdogExpiry ..
  | tripLineLow => exact proceeds_execTripLineLow ..
  | fieldBlockReset => exact proceeds_execFieldBlockReset ..
  | linkCheckPassed => exact proceeds_execLinkCheckPassed ..
  | linkCheckTimeout => exact proceeds_execLinkCheckTimeout ..
  | vfieldUndervoltage => exact proceeds_execVfieldUndervoltage ..
  | vfieldRestored => exact proceeds_execVfieldRestored ..
  | dioInputLevelChange => exact proceeds_execDioInputLevelChange ..
  | wireBreakSet => exact proceeds_execWireBreakSet ..
  | wireBreakClear => exact proceeds_execWireBreakClear ..
  | dioOverload => exact proceeds_execDioOverload ..
  | dioOverTemperature => exact proceeds_execDioOverTemperature ..
  | openWireSet => exact proceeds_execOpenWireSet ..
  | openWireClear => exact proceeds_execOpenWireClear ..
  | dioDiagClearWrite => exact proceeds_execDioDiagClearWrite ..
  | twoChannelCheckSample => exact proceeds_execTwoChannelCheckSample ..
  | pairConfigWrite => exact proceeds_execPairConfigWrite ..
  | loadSwitchInrushEnd => exact proceeds_execLoadSwitchInrushEnd ..
  | loadSwitchCurrentLimit => exact proceeds_execLoadSwitchCurrentLimit ..
  | limitRecovery => exact proceeds_execLimitRecovery ..
  | thermalShutdown => exact proceeds_execThermalShutdown ..
  | coolingRestart => exact proceeds_execCoolingRestart ..
  | openLoadSet => exact proceeds_execOpenLoadSet ..
  | openLoadClear => exact proceeds_execOpenLoadClear ..
  | retryCountReset => exact proceeds_execRetryCountReset ..
  | soCheckSample => exact proceeds_execSoCheckSample ..
  | soFeedbackTimeout => exact proceeds_execSoFeedbackTimeout ..
  | soConfigWrite => exact proceeds_execSoConfigWrite ..
  | testPulseDue => exact proceeds_execTestPulseDue ..
  | testPulseReadback => exact proceeds_execTestPulseReadback ..
  | testPulseEnd => exact proceeds_execTestPulseEnd ..
  | wheelSystemCurrentLimit => exact proceeds_execWheelSystemCurrentLimit ..
  | wheelSystemRetry => exact proceeds_execWheelSystemRetry ..
  | pwm => exact proceeds_execPwm ..
  | clearDioOutput => exact proceeds_execClearDioOutput ..
  | clearLoadSwitch => exact proceeds_execClearLoadSwitch ..
  | clearPair => exact proceeds_execClearPair ..
  | fldTestWrite => exact proceeds_execFldTestWrite ..
  | fldTestNotRenewed => exact proceeds_execFldTestNotRenewed ..
  | recordWritten => exact proceeds_execRecordWritten ..
  | checkpoint => exact proceeds_execCheckpoint ..
  | checkpointSigned => exact proceeds_execCheckpointSigned ..
  | lostRecord => exact proceeds_execLostRecord ..
  | journalStoreFault => exact proceeds_execJournalStoreFault ..
  | flaconScanComplete => exact proceeds_execFlaconScanComplete ..
  | unitErased => exact proceeds_execUnitErased ..
  | programRecordSlot => exact proceeds_execProgramRecordSlot ..
  | doorCycleSlot => exact proceeds_execDoorCycleSlot ..
  | metricSampleSlot => exact proceeds_execMetricSampleSlot ..
  | statisticsPersist => exact proceeds_execStatisticsPersist ..
  | metricClear => exact proceeds_execMetricClear ..
  | metricLatchRead => exact proceeds_execMetricLatchRead ..
  | latchingLowWordRead => exact proceeds_execLatchingLowWordRead ..
  | rcFieldRead => exact proceeds_execRcFieldRead ..
  | eventEdge => exact proceeds_execEventEdge ..
  | gatherTimeLimit => exact proceeds_execGatherTimeLimit ..
  | eventPresentation => exact proceeds_execEventPresentation ..
  | serviceWatchdogExpiry => exact proceeds_execServiceWatchdogExpiry ..
  | serviceTimerExpiry => exact proceeds_execServiceTimerExpiry ..
  | stmrEnableWrite => exact proceeds_execStmrEnableWrite ..
  | evcPendWrite => exact proceeds_execEvcPendWrite ..
  | evcRaiseWrite => exact proceeds_execEvcRaiseWrite ..
  | sourceEnableWrite => exact proceeds_execSourceEnableWrite ..
  | gdisWrite => exact proceeds_execGdisWrite ..
  | evcTestWrite => exact proceeds_execEvcTestWrite ..
  | wakeEdge => exact proceeds_execWakeEdge ..
  | wakenFalling => exact proceeds_execWakenFalling ..
  | stabledTimerExpiry => exact proceeds_execStabledTimerExpiry ..
  | uartKStartBit => exact proceeds_execUartKStartBit ..
  | fb0WakeInput => exact proceeds_execFb0WakeInput ..
  | stabledWake => exact proceeds_execStabledWake ..
  | wake => exact proceeds_execWake ..
  | stabledRequest => exact proceeds_execStabledRequest ..
  | stabledEntry => exact proceeds_execStabledEntry ..
  | temperatureSample => exact proceeds_execTemperatureSample ..
  | voltageExcursion => exact proceeds_execVoltageExcursion ..
  | sensorSummary => exact proceeds_execSensorSummary ..
  | keeperWatchdogExpiry => exact proceeds_execKeeperWatchdogExpiry ..
  | clockMonitorOutOfRange => exact proceeds_execClockMonitorOutOfRange ..
  | clockBackInRange => exact proceeds_execClockBackInRange ..
  | regionReinitComplete => exact proceeds_execRegionReinitComplete ..
  | regionReinitTimeout => exact proceeds_execRegionReinitTimeout ..
  | holdEntry => exact proceeds_execHoldEntry ..
  | boot => exact proceeds_execBoot ..
  | bootStageTimeout => exact proceeds_execBootStageTimeout ..
  | cmsnLevelChange => exact proceeds_execCmsnLevelChange ..
  | powerOnReset => exact proceeds_execPowerOnReset ..
  | pornLow => exact proceeds_execPornLow ..
  | railNotGood => exact proceeds_execRailNotGood ..
  | lockKeeperCommandReset => exact proceeds_execLockKeeperCommandReset ..
  | logicRegionReset => exact proceeds_execLogicRegionReset ..
  | fieldBlockResetRequest => exact proceeds_execFieldBlockResetRequest ..
  | settingsCommit => exact proceeds_execSettingsCommit ..
  | actProg => exact proceeds_execActProg ..
  | actLkfw => exact proceeds_execActLkfw ..
  | actSvfw => exact proceeds_execActSvfw ..
  | updateDiscard => exact proceeds_execUpdateDiscard ..
  | wallTimeStageLo => exact proceeds_execWallTimeStageLo ..
  | wallTimeStageHi => exact proceeds_execWallTimeStageHi ..
  | wallTimeSet => exact proceeds_execWallTimeSet ..
  | snapBallEdge => exact proceeds_execSnapBallEdge ..
  | snapshotTriggerCommand => exact proceeds_execSnapshotTriggerCommand ..
  | snapshotRelease => exact proceeds_execSnapshotRelease ..
  | snapshotCopied => exact proceeds_execSnapshotCopied ..
  | snapshotFbTimeout => exact proceeds_execSnapshotFbTimeout ..
  | controlRegisterWrite => exact proceeds_execControlRegisterWrite ..
  | blockLockAcquired => exact proceeds_execBlockLockAcquired ..
  | railBackInWindow => exact proceeds_execRailBackInWindow ..
  | carrierPeriod => exact proceeds_execCarrierPeriod ..
  | chopperCrossing => exact proceeds_execChopperCrossing ..
  | skewStallEnd => exact proceeds_execSkewStallEnd ..
  | dualRailMismatch => exact proceeds_execDualRailMismatch ..
  | sealerEngineFault => exact proceeds_execSealerEngineFault ..
  | feedbackUncorrectableError => exact proceeds_execFeedbackUncorrectableError ..
  | trainingOrNegotiationFailed => exact proceeds_execTrainingOrNegotiationFailed ..

theorem keepsMems_idleCycle (s : State) : KeepsMems s (idleCycle s) := by
  unfold idleCycle
  exact .of_same (by simp)

/-- A step takes the front of the queue, and keeps the memories. -/
theorem next_step (s : State) : ∃ t, step s = .next t ∧ (LogicForm s.sram → LogicForm t.sram) ∧ (ServiceForm s.svc.sram → ServiceForm t.svc.sram) := by
  unfold step
  split
  · exact ⟨_, rfl, (keepsMems_idleCycle s).2⟩
  · next c rest _ =>
    obtain ⟨t, ht, -, hm⟩ := proceeds_exec c { s with pending := rest }
    exact ⟨t, ht, hm⟩

/-- Settles O58: every command proceeds, and a run is steps. -/
theorem commandsKeepTheQueue : Obligations.CommandsKeepTheQueue := by
  refine ⟨fun c s => ?_, fun n => ?_⟩
  · obtain ⟨t, ht, hp, -⟩ := proceeds_exec c s
    exact ⟨t, ht, hp⟩
  · induction n with
    | zero => exact fun s => ⟨s, rfl⟩
    | succ n ih =>
      intro s
      obtain ⟨t, ht, -⟩ := next_step s
      obtain ⟨u, hu⟩ := ih t
      refine ⟨u, ?_⟩
      simp only [Host.Core.run, core, ht]
      exact hu

/-- Settles O60: the memories of the next state are those of `next_step`. -/
theorem stepKeepsMemories : Obligations.StepKeepsMemories := by
  intro s t ⟨hlogic, hservice⟩ hst
  obtain ⟨u, hu, hl, hv⟩ := next_step s
  obtain rfl : u = t := by
    rw [hu] at hst
    injection hst
  exact ⟨hl hlogic, hv hservice⟩

end Sys2Proof.Machine
end

section
/-!
RESETS (R525, R526). What a reset leaves, what a request of one does, and what telling leaves of the stores.
-/
namespace Sys2Proof.Machine

/-! ### What is told leaves the stores -/

/-- `t` has the sequencer, the flacon and the keys and certificate of `s`. -/
structure Tells (s t : State) : Prop where
  seq : t.seq = s.seq
  flacon : t.jnl.flacon = s.jnl.flacon
  acked : t.jnl.acked = s.jnl.acked
  keys : t.bth.keys = s.bth.keys
  anchors : t.bth.anchors = s.bth.anchors
  devCert : t.bth.devCert = s.bth.devCert

namespace Tells

variable {s t u : State}

theorem refl (s : State) : Tells s s := ⟨rfl, rfl, rfl, rfl, rfl, rfl⟩

theorem trans (h : Tells s t) (k : Tells t u) : Tells s u :=
  ⟨k.seq.trans h.seq, k.flacon.trans h.flacon, k.acked.trans h.acked, k.keys.trans h.keys, k.anchors.trans h.anchors,
    k.devCert.trans h.devCert⟩

theorem ite {p : Prop} [Decidable p] (h : Tells s t) (k : Tells s u) : Tells s (if p then t else u) := by
  split
  · exact h
  · exact k

theorem foldl {α : Type} {op : State → α → State} (h : ∀ u i, Tells u (op u i)) (l : List α) (s : State) : Tells s (l.foldl op s) := by
  induction l generalizing s with
  | nil => exact .refl s
  | cons i l ih => exact (h s i).trans (ih _)

end Tells

theorem tells_loseRec (r : Rec) (s : State) : Tells s (loseRec r s) := ⟨rfl, rfl, rfl, rfl, rfl, rfl⟩

theorem tells_stageRec (r : Rec) (s : State) : Tells s (stageRec r s) := by
  unfold stageRec
  split
  · exact ⟨rfl, rfl, rfl, rfl, rfl, rfl⟩
  · exact .ite ⟨rfl, rfl, rfl, rfl, rfl, rfl⟩ (tells_loseRec r s)
  · exact tells_loseRec r s
  · exact tells_loseRec r s

theorem tells_klogPut (r : Rec) (s : State) : Tells s (klogPut r s) := ⟨rfl, rfl, rfl, rfl, rfl, rfl⟩

theorem tells_hold (l : List (Rec × Bool × Bool)) (s : State) : Tells s { s with jnl := { s.jnl with held := l } } := ⟨rfl, rfl, rfl, rfl, rfl, rfl⟩

theorem tells_setKeep (q : Keeper) (s : State) : Tells s { s with keep := q } := ⟨rfl, rfl, rfl, rfl, rfl, rfl⟩

theorem tells_raise (n : Nat) (s : State) : Tells s (raise n s) := ⟨rfl, rfl, rfl, rfl, rfl, rfl⟩

theorem tells_draw (w : Nat) (s : State) : Tells s (s.draw w).2 := ⟨rfl, rfl, rfl, rfl, rfl, rfl⟩

theorem tells_recordC {code : Nat} (hc : code / 0x100 ≠ 0x11) (flags count : Nat) (extra : List Byte) (s : State) :
    Tells s (recordC code flags count extra s) := by
  have hn : Tells s (noteCode code s) := by
    unfold noteCode
    rw [if_neg hc]
    exact .ite ⟨rfl, rfl, rfl, rfl, rfl, rfl⟩ (.refl s)
  unfold recordC
  extract_lets r v _ v1
  have h1 : Tells s v1 := .ite (hn.trans (tells_klogPut r v)) hn
  clear_value v1
  exact .ite (hn.trans (tells_hold _ v)) (.ite h1 (h1.trans (tells_stageRec r v1)))

theorem tells_record {code : Nat} (hc : code / 0x100 ≠ 0x11) (args : List Nat) (s : State) : Tells s (record code args s) := tells_recordC hc ..

theorem tells_resetBerth (b : Nat) (s : State) : Tells s (resetBerth b s) := by
  unfold resetBerth
  extract_lets s1 _ s2 d
  have h1 : Tells s s1 := ⟨rfl, rfl, rfl, rfl, rfl, rfl⟩
  have h2 : Tells s1 s2 := ⟨rfl, rfl, rfl, rfl, rfl, rfl⟩
  have hd : Tells s2 d.2 := tells_draw 32 s2
  exact ((h1.trans (h2.trans hd)).trans (tells_record (code := 0x6032) (by decide) _ d.2)).trans (tells_raise 225 _)

theorem tells_setMode (m : Mode) (cause : Nat) (s : State) : Tells s (setMode m cause s) := by
  unfold setMode
  extract_lets old _ s1
  have h0 : Tells s (raise 0 (record 0x9000 [old.code, m.code, cause]
      { s with keep := { s.keep with mode := m, prev := old, cause := BitVec.ofNat 16 cause } })) :=
    ((tells_setKeep _ s).trans (tells_record (code := 0x9000) (by decide) _ _)).trans (tells_raise 0 _)
  have h1 : Tells s s1 := h0.trans (.foldl (fun u b => .ite (.refl u) (tells_resetBerth b u)) _ _)
  clear_value s1
  exact .ite (h1.trans (tells_resetBerth 0 s1)) h1

theorem tells_beginBoot (b : BootKind) (stage kind code : Nat) (s : State) : Tells s (beginBoot b stage kind code s) := by
  unfold beginBoot
  extract_lets s1 s2
  have h1 : Tells s s1 := tells_setKeep _ s
  have h2 : Tells s s2 := .ite h1 (h1.trans (tells_record (code := 0x9030) (by decide) _ s1))
  clear_value s2
  exact .ite h2 (h2.trans (tells_setMode ..))

/-! ### A whole-module reset (R526) -/

theorem tells_drawBytes (n : Nat) (s : State) : Tells s (drawBytes n s).2 := by
  induction n generalizing s with
  | zero => exact .refl s
  | succ n ih => exact (tells_draw 8 s).trans (ih (s.draw 8).2)

/-- The journal keeps the flacon's records through a reset, and what has been acknowledged (R457). -/
theorem coldJournal_spec (j : StoreLoss) (s : State) : Talks s (coldJournal j s)
    ∧ (∀ x ∈ s.jnl.flacon, x ∈ (coldJournal j s).jnl.flacon) ∧ (coldJournal j s).jnl.acked = s.jnl.acked
    ∧ (coldJournal j s).bth.keys = s.bth.keys ∧ (coldJournal j s).bth.anchors = s.bth.anchors := by
  refine ⟨talks_coldJournal j s, ?_⟩
  unfold coldJournal
  extract_lets now
  have hd := fun n => tells_drawBytes n s
  split
  · split
    · exact ⟨fun x hx => List.mem_append_left _ hx, rfl, (hd _).keys, (hd _).anchors⟩
    · exact ⟨fun x hx => hx, rfl, rfl, rfl⟩
  · exact ⟨fun x hx => hx, rfl, rfl, rfl⟩

/-- What a whole-module reset leaves of `v`. -/
def StartsAfresh (v t : State) : Prop :=
  t.keep.mode = .boot ∧ t.keep.bootKind = .whole ∧ t.keep.bootStage = 1 ∧ t.now = 0 ∧ t.sram = []
    ∧ t.seq = {} ∧ t.image = none ∧ t.pending = v.pending ∧ t.fused = v.fused ∧ t.keep.slots = v.keep.slots ∧ t.keep.settingsA = v.keep.settingsA
    ∧ t.keep.settingsB = v.keep.settingsB ∧ t.bth.keys = v.bth.keys ∧ t.bth.anchors = v.bth.anchors ∧ t.net.ceiling = v.net.ceiling
    ∧ t.keep.bootCount = v.keep.bootCount + 1 ∧ (∀ x ∈ v.jnl.flacon, x ∈ t.jnl.flacon) ∧ t.jnl.acked = v.jnl.acked

theorem StartsAfresh.bootCount {v t : State} (h : StartsAfresh v t) : t.keep.bootCount = v.keep.bootCount + 1 := by
  obtain ⟨-, -, -, -, -, -, -, -, -, -, -, -, -, -, -, hcount, -⟩ := h
  exact hcount

theorem wholeReset_fresh (kind code : Nat) (by_ : List Nat) (j : StoreLoss) (s : State) : StartsAfresh s (wholeReset kind code by_ j s)
    ∧ (wholeReset kind code by_ j s).keep.resetKind = kind ∧ (wholeReset kind code by_ j s).keep.resetHeld = by_ := by
  obtain ⟨hc, hfl, hack, hkeys, hanch⟩ := coldJournal_spec j s
  unfold wholeReset
  extract_lets u k fresh
  obtain ⟨p, c, ht⟩ := talks_beginBoot .whole 1 kind code fresh
  have hl := tells_beginBoot .whole 1 kind code fresh
  have hk : k = { s.keep with lastCode := u.keep.lastCode } := hc.keep
  refine ⟨⟨by rw [ht.keep], by rw [ht.keep]; rfl, by rw [ht.keep]; rfl, ht.now.trans (Nat.zero_div 6), ht.sram, hl.seq, ht.image, ht.pending.trans hc.pending, ht.fused.trans hc.fused,
    ?_, ?_, ?_, hl.keys.trans hkeys, hl.anchors.trans hanch, ?_, ?_, ?_, hl.acked.trans hack⟩, by rw [ht.keep]; rfl, by rw [ht.keep]; rfl⟩
  · rw [ht.keep]
    show k.slots = _
    rw [hk]
  · rw [ht.keep]
    show k.settingsA = _
    rw [hk]
  · rw [ht.keep]
    show k.settingsB = _
    rw [hk]
  · rw [ht.net]
    show u.net.ceiling = _
    rw [hc.net]
  · rw [ht.keep]
    show k.bootCount + 1 = _
    rw [hk]
  · intro x hx
    rw [hl.flacon]
    exact hfl x hx

/-! ### Resets of field blocks and of the logic region (R525, R526) -/

/-- Nothing but the field blocks, the feedback region and what is told differs. -/
structure AmongBlocks (s t : State) : Prop where
  rest : t = { s with
    jnl := t.jnl, svc := { s.svc with toggles := t.svc.toggles }, free := t.free, fbk := t.fbk
    fld := { s.fld with blocks := t.fld.blocks }, keep := { s.keep with lastCode := t.keep.lastCode } }

namespace AmongBlocks

variable {s t u : State}

theorem refl (s : State) : AmongBlocks s s := ⟨rfl⟩
theorem trans (h : AmongBlocks s t) (k : AmongBlocks t u) : AmongBlocks s u := ⟨by rw [k.rest, h.rest]⟩
theorem of_around {f : Nat} (h : Around f s t) : AmongBlocks s t := ⟨h.rest⟩
theorem keep (h : AmongBlocks s t) : t.keep = { s.keep with lastCode := t.keep.lastCode } := by rw [h.rest]
theorem mode (h : AmongBlocks s t) : t.keep.mode = s.keep.mode := by rw [h.rest]
theorem now (h : AmongBlocks s t) : t.now = s.now := by rw [h.rest]; rfl
theorem fitted (h : AmongBlocks s t) (g : Nat) : t.fldFitted g = s.fldFitted g := by rw [h.rest]; rfl

end AmongBlocks

/-- The field-block resets among the requests `v`. -/
def resetBlock (v : Word) (s : State) (f : Nat) : State := if v.getLsbD (4 + f) then applyFieldReset f 0 s else s

theorem around_applyFieldReset (f cause : Nat) (s : State) : Around f s (applyFieldReset f cause s) := by
  by_cases h : s.fldFitted f = true ∧ (s.block f).isolated = false
  · exact (applyFieldReset_spec cause h.1 h.2).1
  · rw [applyFieldReset, if_neg h]
    exact .refl f s

theorem around_resetBlock (v : Word) (s : State) (f : Nat) : Around f s (resetBlock v s f) := by
  unfold resetBlock
  split
  · exact around_applyFieldReset f 0 s
  · exact .refl f s

/-- Each requested block that is fitted and not isolated begins its reset; the others stay. -/
theorem resetBlocks_spec (v : Word) (s : State) : let t := (List.range 4).foldl (resetBlock v) s
    AmongBlocks s t ∧ ∀ f < 4, if v.getLsbD (4 + f) && s.fldFitted f && !(s.block f).isolated
      then (t.block f).resetAt = some s.now ∧ (t.block f).link = 1 else t.block f = s.block f := by
  intro t
  have at_ : ∀ f < 4, ∃ u, AmongBlocks s u ∧ u.block f = s.block f ∧ AmongBlocks s t ∧ t.block f = (resetBlock v u f).block f := fun f hf =>
    foldl_range_at (op := resetBlock v) (fun f u => u.block f) AmongBlocks .refl (fun _ _ _ => .trans)
      (fun u g => .of_around (around_resetBlock v u g)) (fun u g k hk => (around_resetBlock v u g).others k hk) f 4 s hf
  refine ⟨?_, fun f hf => ?_⟩
  · obtain ⟨-, -, -, h, -⟩ := at_ 0 (by decide)
    exact h
  · obtain ⟨u, hu, hb, -, ht⟩ := at_ f hf
    rw [ht]
    by_cases hv : v.getLsbD (4 + f) = true
    · rw [resetBlock, if_pos hv, hv, Bool.true_and]
      split
      · next h =>
        rw [Bool.and_eq_true, Bool.not_eq_true'] at h
        obtain ⟨-, hfix, -⟩ := applyFieldReset_spec (f := f) 0 (s := u) ((hu.fitted f).trans h.1) (by rw [hb]; exact h.2)
        exact ⟨(congrArg Block.resetAt hfix).trans (congrArg some hu.now), congrArg Block.link hfix⟩
      · next h =>
        rw [applyFieldReset, if_neg, hb]
        rw [hu.fitted, hb]
        simpa using h
    · rw [resetBlock, if_neg hv, hb, eq_false_of_ne_true hv]
      simp only [Bool.false_and, Bool.false_eq_true, if_false]

theorem applyResets_module (s : State) : applyResets 1 s = wholeReset 2 0 [] {} s := rfl

theorem applyResets_logic (s : State) : applyResets 2 s = logicReset 0 s := rfl

theorem getLsbD_blocks (blocks : BitVec 4) : (blocks.setWidth 32 <<< 4).getLsbD 0 = false ∧ (blocks.setWidth 32 <<< 4).getLsbD 1 = false
    ∧ ∀ f < 4, (blocks.setWidth 32 <<< 4).getLsbD (4 + f) = blocks.getLsbD f := by
  refine ⟨by simp, by simp, fun f hf => ?_⟩
  have h : 4 + f < 32 := by omega
  simp [h]

theorem applyResets_blocks (blocks : BitVec 4) (s : State) :
    applyResets (blocks.setWidth 32 <<< 4) s = (List.range 4).foldl (resetBlock (blocks.setWidth 32 <<< 4)) s := by
  obtain ⟨h0, h1, -⟩ := getLsbD_blocks blocks
  unfold applyResets
  simp only [h0, h1, Bool.false_eq_true, if_false]
  rfl

/-- Entry to HOLD leaves slots, boot count and exception status. -/
theorem enterHold_keeps (cause : Nat) (s : State) : (enterHold cause s).keep.slots = s.keep.slots
    ∧ (enterHold cause s).keep.bootCount = s.keep.bootCount ∧ (enterHold cause s).seq.excCode = s.seq.excCode := by
  by_cases h : s.keep.mode = .hold
  · rw [show enterHold cause s = s from if_pos h]
    exact ⟨rfl, rfl, rfl⟩
  · rw [(entersHold h).keep, (entersHold h).seq]
    exact ⟨rfl, rfl, rfl⟩

/-- What a reset of the logic region leaves (R526). -/
theorem logicReset_spec (code : Nat) (s : State) : let t := logicReset code s
    t.keep.mode = .boot ∧ t.keep.bootKind = .logic ∧ t.keep.resetKind = 3 ∧ t.keep.bootStage = 3 ∧ t.sram = [] ∧ t.cores = [] ∧ t.splits = []
      ∧ t.svc.sram = s.svc.sram ∧ t.now = s.now ∧ t.keep.slots = s.keep.slots ∧ t.seq.excCode = s.seq.excCode
      ∧ t.keep.bootCount = s.keep.bootCount + 1 := by
  obtain ⟨hslots, hcount, hexc⟩ := enterHold_keeps 0x9030 s
  have hh := halts_enterHold 0x9030 s
  intro t
  let v := coldLogic (enterHold 0x9030 s)
  obtain ⟨p, c, hb⟩ := talks_beginBoot .logic 3 3 code v
  have htell := tells_beginBoot .logic 3 3 code v
  let s1 := beginBoot .logic 3 3 code v
  have h1 : Talks s1 t := talks_stageRec _ s1
  have hseq : t.seq = v.seq := (tells_stageRec _ s1).seq.trans htell.seq
  refine ⟨?_, ?_, ?_, ?_, h1.sram.trans hb.sram, h1.cores.trans hb.cores, h1.splits.trans hb.splits, ?_, ?_, ?_, ?_, ?_⟩
  · rw [h1.mode, hb.mode]
  · rw [h1.keep, hb.keep]
    rfl
  · rw [h1.keep, hb.keep]
    rfl
  · rw [h1.keep, hb.keep]
    rfl
  · rw [h1.svcSram, hb.svcSram]
    show (enterHold 0x9030 s).svc.sram = _
    rw [hh.rest]
  · rw [h1.now, hb.now]
    exact hh.now
  · rw [h1.keep, hb.keep]
    exact hslots
  · rw [hseq]
    exact hexc
  · rw [h1.keep, hb.keep]
    exact congrArg (· + 1) hcount

/-! ### Requests of a reset (R525) -/

def lkpResetRow : RegRow :=
  row .lkpReset 0x0800_000C 1 0x4 1 0x4 .always [ro 8 8, fld .w1s 7 4 .maintain, fld .w1s 1 1 .maintain, fld .w1s 0 0 .maintain]

theorem accessWrite_lkpReset {acc : Access} {v : Word} {s : State} (hw : WriteGranted acc 0x0800_000C v s) :
    accessWrite acc 0x0800_000C v s = resetRequest v (advance acc.at_ s) := by
  rw [accessWrite_always hw (r := lkpResetRow) rfl rfl]
  simp only [writeReg, storeBits_of_mask_zero (show lkpResetRow.mask [.rw, .rwc] = 0 by decide)]
  rfl

/-- Nothing but the request held and what is told differs. -/
def ArmedOnly (u t : State) : Prop := t = { u.noted t with keep := { u.keep with armed := t.keep.armed, lastCode := t.keep.lastCode } }

theorem ArmedOnly.trans {s t u : State} (h : ArmedOnly s t) (k : ArmedOnly t u) : ArmedOnly s u := by
  unfold ArmedOnly at *
  rw [k, h]
  rfl

theorem ArmedOnly.mode {s t : State} (h : ArmedOnly s t) : t.keep.mode = s.keep.mode := by
  rw [show t = _ from h]

theorem armedOnly_setArmed (a : Option (Word × Nat)) (s : State) : ArmedOnly s (setKeep (fun q => { q with armed := a }) s) := rfl

theorem armedOnly_record (args : List Nat) (s : State) : ArmedOnly s (record 0x9031 args s) := by
  obtain ⟨j, hj⟩ := record_keeper (code := 0x9031) rfl args s
  rw [hj]
  rfl

theorem armed_record (args : List Nat) (s : State) : (record 0x9031 args s).keep.armed = s.keep.armed := by
  obtain ⟨j, hj⟩ := record_keeper (code := 0x9031) rfl args s
  rw [hj]

/-- A request that has waited too long is refused; one in time stays. -/
theorem expireArmed_spec (s : State) : ArmedOnly s (expireArmed s) ∧ (s.keep.armed = none → expireArmed s = s)
    ∧ ∀ w t, s.keep.armed = some (w, t) → if t + 2_000_000_000 < s.now then (expireArmed s).keep.armed = none else expireArmed s = s := by
  unfold expireArmed
  cases hs : s.keep.armed with
  | none => exact ⟨rfl, fun _ => rfl, fun w t h => absurd h (by simp)⟩
  | some x =>
    obtain ⟨w, t⟩ := x
    dsimp only
    by_cases hlate : t + 2_000_000_000 < s.now
    · rw [if_pos hlate]
      refine ⟨(armedOnly_setArmed none s).trans (armedOnly_record _ _), fun h => absurd h (by simp), fun w' t' h => ?_⟩
      obtain ⟨rfl, rfl⟩ : w = w' ∧ t = t' := by simpa using h
      rw [if_pos hlate]
      exact armed_record _ _
    · rw [if_neg hlate]
      refine ⟨rfl, fun h => absurd h (by simp), fun w' t' h => ?_⟩
      obtain ⟨rfl, rfl⟩ : w = w' ∧ t = t' := by simpa using h
      rw [if_neg hlate]

section
variable {v : Word} {s : State} (hv : resetBits v = v) (h0 : v ≠ 0)
include hv h0

theorem resetRequest_now (hm : s.keep.mode = .commission ∨ s.keep.mode = .hold ∨ s.keep.mode = .boot) :
    resetRequest v s = applyResets v (setKeep (fun q => { q with armed := none }) (expireArmed s)) := by
  have hmode := (expireArmed_spec s).1.mode
  unfold resetRequest
  simp only [hv, h0, if_false, hmode]
  obtain h | h | h := hm <;> rw [h]

theorem resetRequest_stabled (hm : s.keep.mode = .stabled) : ArmedOnly s (resetRequest v s) := by
  have hmode := (expireArmed_spec s).1.mode
  have ht : resetRequest v s = record 0x9031 [v.toNat] (expireArmed s) := by
    unfold resetRequest
    simp only [hv, h0, if_false, hmode, hm]
  rw [ht]
  exact (expireArmed_spec s).1.trans (armedOnly_record _ _)

/-- In RUN and DEGRADED what becomes of the request depends on the one that is held. -/
theorem resetRequest_running (hm : s.keep.mode = .run ∨ s.keep.mode = .degraded) : resetRequest v s = match (expireArmed s).keep.armed with
    | none => setKeep (fun q => { q with armed := some (v, (expireArmed s).now) }) (expireArmed s)
    | some (w, t) =>
      if w = v ∧ t + 100_000_000 ≤ (expireArmed s).now then applyResets v (setKeep (fun q => { q with armed := none }) (expireArmed s))
      else record 0x9031 [v.toNat] (setKeep (fun q => { q with armed := some (v, (expireArmed s).now) }) (expireArmed s)) := by
  have hmode := (expireArmed_spec s).1.mode
  unfold resetRequest
  simp only [hv, h0, if_false, hmode]
  obtain h | h := hm
  · rw [h] <;> rfl
  · rw [h] <;> rfl

end

/-- The request `x` as it is held from `u` on. -/
def Arms (x : Word) (u t : State) : Prop := t.keep.armed = some (x, u.now) ∧ ArmedOnly u t

theorem arms_set (x : Word) {s u : State} (h : ArmedOnly u s) (hn : s.now = u.now) : Arms x u (setKeep (fun q => { q with armed := some (x, s.now) }) s) :=
  ⟨congrArg (fun n => some (x, n)) hn, h.trans (armedOnly_setArmed _ s)⟩

theorem now_expireArmed (s : State) : (expireArmed s).now = s.now := by
  unfold expireArmed
  split
  · split
    · exact (talks_record _ _ _).now
    · rfl
  · rfl

/-- A first request is held. -/
theorem resetRequest_first {v : Word} {s : State} (hv : resetBits v = v) (h0 : v ≠ 0) (hm : s.keep.mode = .run ∨ s.keep.mode = .degraded)
    (ha : s.keep.armed = none) : Arms v s (resetRequest v s) := by
  rw [resetRequest_running hv h0 hm, (expireArmed_spec s).2.1 ha, ha]
  exact arms_set v rfl rfl

/-- A second request within its time is granted; any other begins afresh. -/
theorem resetRequest_second {v w : Word} {t0 : Nat} {s : State} (hv : resetBits v = v) (h0 : v ≠ 0) (hm : s.keep.mode = .run ∨ s.keep.mode = .degraded)
    (ha : s.keep.armed = some (w, t0)) : let again := w = v ∧ t0 + 100_000_000 ≤ s.now ∧ s.now ≤ t0 + 2_000_000_000
    (again → resetRequest v s = applyResets v (setKeep (fun q => { q with armed := none }) s)) ∧ (¬ again → Arms v s (resetRequest v s)) := by
  intro again
  obtain ⟨hx, -, hsome⟩ := expireArmed_spec s
  have hcase := hsome w t0 ha
  rw [resetRequest_running hv h0 hm]
  by_cases hlate : t0 + 2_000_000_000 < s.now
  · rw [if_pos hlate] at hcase
    refine ⟨fun h => absurd h.2.2 (by omega), fun _ => ?_⟩
    rw [hcase]
    exact arms_set v hx (now_expireArmed s)
  · rw [if_neg hlate] at hcase
    rw [hcase, ha]
    dsimp only
    refine ⟨fun h => if_pos ⟨h.1, h.2.1⟩, fun h => ?_⟩
    rw [if_neg (fun hk => h ⟨hk.1, hk.2, by omega⟩)]
    obtain ⟨harm, hset⟩ := arms_set v (s := s) (u := s) rfl rfl
    exact ⟨(armed_record _ _).trans harm, hset.trans (armedOnly_record _ _)⟩

theorem resetBits_blocks : ∀ blocks : BitVec 4, resetBits (blocks.setWidth 32 <<< 4) = blocks.setWidth 32 <<< 4 := by decide

/-- The three requests, each with the bits that it writes. -/
theorem resetRequests_act {s : State} (acc : Access) (blocks : BitVec 4) : ∀ x ∈ [(Instr.lockKeeperCommandReset acc, (1 : Word)),
      (.logicRegionReset acc, 2), (.fieldBlockResetRequest acc blocks, blocks.setWidth 32 <<< 4)],
    let u := advance acc.at_ s
    x.2 ≠ 0 → WriteGranted acc 0x0800_000C x.2 s →
    (s.keep.mode = .commission ∨ s.keep.mode = .hold ∨ s.keep.mode = .boot → ∃ v, exec x.1 s = .next (applyResets x.2 v) ∧ v.keep.armed = none
      ∧ v = { u.noted v with keep := { u.keep with armed := none, lastCode := v.keep.lastCode } })
    ∧ (s.keep.mode = .stabled → Completes x.1 s (ArmedOnly u))
    ∧ (s.keep.mode = .run ∨ s.keep.mode = .degraded →
      (s.keep.armed = none → Completes x.1 s (Arms x.2 u))
      ∧ ∀ w t0, s.keep.armed = some (w, t0) →
          let again := w = x.2 ∧ t0 + 100_000_000 ≤ u.now ∧ u.now ≤ t0 + 2_000_000_000
          (again → exec x.1 s = .next (applyResets x.2 { u with keep := { u.keep with armed := none } }))
          ∧ (¬ again → Completes x.1 s (Arms x.2 u))) := by
  intro x hx u h0 hw
  obtain ⟨hexec, hv⟩ : exec x.1 s = .next (accessWrite acc 0x0800_000C x.2 s) ∧ resetBits x.2 = x.2 := by
    simp only [List.mem_cons, List.not_mem_nil, or_false] at hx
    obtain rfl | rfl | rfl := hx
    · exact ⟨rfl, show resetBits 1 = 1 by decide⟩
    · exact ⟨rfl, show resetBits 2 = 2 by decide⟩
    · exact ⟨rfl, resetBits_blocks blocks⟩
  rw [accessWrite_lkpReset hw] at hexec
  have hmode : u.keep.mode = s.keep.mode := advance_keep_mode ..
  have harm : u.keep.armed = s.keep.armed := advance_keep_armed ..
  refine ⟨fun hm => ?_, fun hm => ⟨_, hexec, resetRequest_stabled hv h0 (hmode.trans hm)⟩, fun hm => ?_⟩
  · rw [resetRequest_now hv h0 (by rw [hmode]; exact hm)] at hexec
    refine ⟨_, hexec, rfl, ?_⟩
    exact (expireArmed_spec u).1.trans (armedOnly_setArmed none _)
  · rw [← hmode] at hm
    refine ⟨fun ha => ⟨_, hexec, resetRequest_first hv h0 hm (harm.trans ha)⟩, fun w t0 ha => ?_⟩
    obtain ⟨hagain, hafresh⟩ := resetRequest_second hv h0 hm (harm.trans ha)
    exact ⟨fun h => hexec.trans (congrArg _ (hagain h)), fun h => ⟨_, hexec, hafresh h⟩⟩

end Sys2Proof.Machine
end

section
/-!
THE STAGES OF A BOOT (R521, R528, R532, R533). What each stage leaves when no slot is on trial.
-/
namespace Sys2Proof.Machine

/-! ### Slots on trial -/

theorem onTrial_congr {s t : State} (h : t.keep.slots = s.keep.slots) : onTrial t = onTrial s := by
  rw [onTrial, onTrial, slotIn_congr h]

theorem slotIn_trial_of_onTrial {s : State} (h : onTrial s = false) {ks : List Nat} (hks : ∀ k ∈ ks, k ∈ [0, 1, 2, 3]) : slotIn .trial ks s = none := by
  rw [onTrial, Option.isSome_eq_false_iff, Option.isNone_iff_eq_none, slotIn, List.find?_eq_none] at h
  rw [slotIn, List.find?_eq_none]
  exact fun k hk => h k (hks k hk)

/-! ### S2 and S3 -/

/-- Slot `k` holds a firmware that S2 can start. -/
def goodSlot (r : BootRun) (s : State) (k : Nat) : Prop := r.badSlots.getLsbD k = false ∧ (s.slot k).payload.length ≤ 1_572_864

/-- ROM recovery holds the module (R533). -/
theorem romRecover_spec (s : State) : (romRecover s).keep.mode = .hold ∧ (romRecover s).keep.romRecovery = true ∧ (romRecover s).keep.bootFailed = 2
    ∧ (s.keep.mode ≠ .hold → (romRecover s).keep.cause = 0x9054) := by
  obtain ⟨u, hu, hm, hr, hf⟩ : ∃ u, romRecover s = enterHold 0x9054 u ∧ u.keep.mode = s.keep.mode ∧ u.keep.romRecovery = true ∧ u.keep.bootFailed = 2 := by
    refine ⟨_, rfl, ?_, ?_, ?_⟩
    · exact (talks_record 0x9054 [] _).mode
    · rw [(talks_record 0x9054 [] _).keep]
      rfl
    · rw [(talks_record 0x9054 [] _).keep]
      rfl
  rw [hu, ← hm]
  by_cases h : u.keep.mode = .hold
  · rw [show enterHold 0x9054 u = u from if_pos h]
    exact ⟨h, hr, hf, fun hn => absurd h hn⟩
  · rw [(entersHold h).keep]
    exact ⟨rfl, hr, hf, fun _ => rfl⟩

theorem stageS2_spec {r : BootRun} {s : State} (h : onTrial s = false) :
    ((∃ k, (slotIn .active lkSlots s = some k ∨ slotIn .fallback lkSlots s = some k) ∧ goodSlot r s k) → stageS2 r s = s)
      ∧ ((∀ k, slotIn .active lkSlots s = some k ∨ slotIn .fallback lkSlots s = some k → ¬ goodSlot r s k) → stageS2 r s = romRecover s) := by
  have htrial : slotIn .trial lkSlots s = none := slotIn_trial_of_onTrial h (by decide)
  have hgood : ∀ k, (!r.badSlots.getLsbD k && decide ((look ({} : Slot) k s.keep.slots).payload.length ≤ 1_572_864)) = true ↔ goodSlot r s k := fun k => by
    rw [Bool.and_eq_true, Bool.not_eq_true', decide_eq_true_eq]
    rfl
  have hany : ∀ o : Option Nat, o.any (fun k => !r.badSlots.getLsbD k && decide ((look ({} : Slot) k s.keep.slots).payload.length ≤ 1_572_864)) = true
      ↔ ∃ k, o = some k ∧ goodSlot r s k := fun o => by
    cases o with
    | none => simp
    | some k => rw [Option.any_some, hgood]; simp
  unfold stageS2
  rw [htrial]
  refine ⟨fun hk => if_pos ((Bool.or_eq_true _ _).mpr ?_), fun hno => if_neg (fun h => ?_)⟩
  · obtain ⟨k, hk | hk, hg⟩ := hk
    · exact .inl ((hany _).2 ⟨k, hk, hg⟩)
    · exact .inr ((hany _).2 ⟨k, hk, hg⟩)
  · obtain h | h := (Bool.or_eq_true _ _).mp h
    · obtain ⟨k, hk, hg⟩ := (hany _).1 h
      exact hno k (.inl hk) hg
    · obtain ⟨k, hk, hg⟩ := (hany _).1 h
      exact hno k (.inr hk) hg

theorem and_low_eq_zero (x : BitVec 8) : x &&& 0x1F = 0 ↔ ∀ n < 5, x.getLsbD n = false := by
  revert x
  decide

theorem testS3_none (s : State) : testS3 s = none ↔ (∀ n < 5, s.keep.clkNow.getLsbD n = false) ∧ ∀ i < 12, (s.temp i).atLimit = false := by
  rw [← and_low_eq_zero]
  unfold testS3
  by_cases h : s.keep.clkNow &&& 0x1F = 0
  · simp only [h, ne_eq, not_true_eq_false, if_false, true_and]
    rw [ite_eq_right_iff]
    simp [State.temp]
  · simp only [h, ne_eq, not_false_eq_true, if_true, false_and, reduceCtorEq]

/-! ### S6 (R528) -/

/-- A step of S6 that changes neither the keeper nor the certificate, but for what is told. -/
structure Verifies (s t : State) : Prop where
  keep : t.keep = { s.keep with lastCode := t.keep.lastCode }
  devCert : t.bth.devCert = s.bth.devCert

theorem Verifies.refl (s : State) : Verifies s s := ⟨rfl, rfl⟩

theorem Verifies.trans {s t u : State} (h : Verifies s t) (k : Verifies t u) : Verifies s u := ⟨by rw [k.keep, h.keep], k.devCert.trans h.devCert⟩

theorem Verifies.of_told {s t : State} (h : Talks s t) (k : Tells s t) : Verifies s t := ⟨h.keep, k.devCert⟩

theorem verifies_record {code : Nat} (hc : code / 0x100 ≠ 0x11) (args : List Nat) (s : State) : Verifies s (record code args s) :=
  .of_told (talks_record ..) (tells_record hc ..)

theorem verifies_policyChanged (s : State) : Verifies s (policyChanged s) :=
  .of_told (.foldl (fun u b => .ite (talks_resetBerth b u) (.refl u)) _ s) (.foldl (fun u b => .ite (tells_resetBerth b u) (.refl u)) _ s)

theorem verifies_bootPolicy (r : BootRun) (g : Settings) (s : State) : Verifies s (bootPolicy r g s) := by
  unfold bootPolicy
  split
  · exact .refl s
  · split
    · exact verifies_record (by decide) [] s
    · split
      · exact (show Verifies s { s with bth := { s.bth with policy := some _ } } from ⟨rfl, rfl⟩).trans (verifies_policyChanged _)
      · exact verifies_record (by decide) [] s

theorem verifies_bootConf (r : BootRun) (g : Settings) (s : State) : Verifies s (bootConf r g s) := by
  unfold bootConf
  split
  · exact .refl s
  · split
    · exact verifies_record (by decide) [] s
    · split
      · exact ⟨rfl, rfl⟩
      · exact verifies_record (by decide) [] s

theorem talks_code_bootImage (code : Nat) (s : State) : Verifies s (record code [] s) := by
  obtain ⟨j, hj⟩ := jnlOnly_recordC code 0 1 ([].flatMap (le 4)) s
  refine ⟨(talks_record code [] s).keep, ?_⟩
  show (recordC code 0 1 _ s).bth.devCert = _
  rw [hj]
  unfold noteCode
  split
  · rfl
  · split <;> rfl

theorem verifies_bootImage (r : BootRun) (s : State) : Verifies s (bootImage r s) := by
  have hnone : Verifies s { s with image := none } := ⟨rfl, rfl⟩
  unfold bootImage
  split
  · exact hnone
  · extract_lets code
    clear_value code
    split
    · exact ⟨rfl, rfl⟩
    · exact hnone.trans (talks_code_bootImage code _)

/-- An active program slot that fails its check gives no image. -/
theorem image_bootImage {r : BootRun} {s : State} {k : Nat} (hk : slotIn .active progSlots s = some k) (hb : r.badSlots.getLsbD k = true) :
    (bootImage r s).image = none := by
  unfold bootImage
  rw [hk]
  simp only [hb, Bool.true_or, if_true]
  exact (talks_record 0x6101 [] _).image

theorem restoreValues_frame (p : Nat → Bool) (l : Tab Word) (s : State) : ∃ c : Tab Word, restoreValues p l s = { s with ctl := c } := by
  refine List.foldlRecOn (motive := fun t => ∃ c : Tab Word, t = { s with ctl := c }) l _ ⟨s.ctl, rfl⟩ (fun t ht e _ => ?_)
  obtain ⟨c, rfl⟩ := ht
  split
  · exact ⟨_, rfl⟩
  · exact ⟨c, rfl⟩

/-- A copy that was never written, that verifies, or that was not in use stays as it is. -/
theorem verifies_judgeCopy (n : Nat) {get : Keeper → Settings} {set : Settings → Keeper → Keeper} (hset : ∀ q, set (get q) q = q) (s : State) :
    Verifies s (judgeCopy n false get set s) := by
  unfold judgeCopy
  extract_lets c
  split
  · exact .refl s
  · split
    · next h =>
      have hc : ({ c with valid := false } : Settings) = c := by
        have hv : c.valid = false := by simpa using h
        rw [← hv]
      have hk : setKeep (set c) s = s := congrArg (fun q => { s with keep := q }) (hset s.keep)
      rw [hc, hk]
      exact verifies_record (by decide) [n] s
    · exact .refl s

theorem failTorn_none {r : BootRun} (h : r.tornSlots = 0) (s : State) : failTorn r s = s := by
  unfold failTorn
  refine List.foldl_fixed' (fun k => ?_) _
  rw [h]
  simp

theorem bestSettings_congr {s t : State} (ha : t.keep.settingsA = s.keep.settingsA) (hb : t.keep.settingsB = s.keep.settingsB) :
    bestSettings t = bestSettings s := by
  rw [bestSettings, bestSettings, ha, hb]

/-- S6 with both copies sound takes the settings record in use (R528). -/
theorem stageS6_spec {r : BootRun} {s : State} {g : Settings} (hk : s.keep.bootKind ≠ .logic) (ha : r.badA = false) (hb : r.badB = false)
    (ht : r.tornSlots = 0) (hg : bestSettings s = some g) :
    (stageS6 r s).keep.generation = g.generation ∧ (stageS6 r s).bth.devCert = g.devCert
      ∧ ∀ k, slotIn .active progSlots s = some k → r.badSlots.getLsbD k = true → (stageS6 r s).image = none := by
  unfold stageS6
  extract_lets _ s0 s1 _ _ s2
  have h0 : s0.keep = s.keep := by
    simp only [s0]
    split <;> rfl
  have h1 : Verifies s0 s1 := by
    simp only [s1, ha, hb, failTorn_none ht]
    exact (verifies_judgeCopy 0 (fun _ => rfl) s0).trans (verifies_judgeCopy 1 (fun _ => rfl) _)
  clear_value s1
  have h2 : s2.keep = { s.keep with lastCode := s2.keep.lastCode } := by
    show s1.keep = { s.keep with lastCode := s1.keep.lastCode }
    rw [h1.keep, h0]
  clear_value s2
  have hbest : bestSettings s2 = some g := (bestSettings_congr (by rw [h2]) (by rw [h2])).trans hg
  rw [if_neg (by rw [h0]; exact hk), hbest]
  dsimp only
  obtain ⟨c, hc⟩ := restoreValues_frame (fun a => a == 0x0800_0028) g.values
    (setKeep (fun q => { q with generation := g.generation, rollback := g.rollback }) { s2 with bth := { s2.bth with devCert := g.devCert } })
  rw [hc]
  generalize hv : ({ setKeep _ _ with ctl := c } : State) = v
  have hgen : v.keep.generation = g.generation := by rw [← hv]; rfl
  have hcert : v.bth.devCert = g.devCert := by rw [← hv]; rfl
  have hslots : v.keep.slots = s.keep.slots := by
    rw [← hv]
    show s2.keep.slots = _
    rw [h2]
  have hu := (verifies_bootPolicy r g v).trans (verifies_bootConf r g _)
  have hall := hu.trans (verifies_bootImage r _)
  refine ⟨by rw [hall.keep]; exact hgen, hall.devCert.trans hcert, fun k hk hbad => image_bootImage ?_ hbad⟩
  refine (slotIn_congr ?_ _ _).trans hk
  rw [hu.keep]
  exact hslots

/-! ### S8 and S9 -/

theorem goOn_of_no_trial {n : Nat} {s : State} (h : onTrial s = false) : goOn n s = setKeep (fun q => { q with bootFailed := n }) s := by
  unfold goOn
  rw [h]
  rfl

theorem serviceNotReady_spec {s : State} (h : onTrial s = false) : (serviceNotReady s).svc.held = true ∧ (serviceNotReady s).keep.bootFailed = 8
    ∧ (serviceNotReady s).keep.mode = s.keep.mode ∧ (serviceNotReady s).keep.bootStage = s.keep.bootStage := by
  have ht := talks_record 0x9046 [] { s with svc := { s.svc with held := true } }
  have hno : onTrial (record 0x9046 [] { s with svc := { s.svc with held := true } }) = false := (onTrial_congr (by rw [ht.keep])).trans h
  unfold serviceNotReady
  rw [goOn_of_no_trial hno]
  refine ⟨?_, rfl, ht.mode, ?_⟩
  · show (record 0x9046 [] _).svc.held = true
    rw [ht.rest]
  · show (record 0x9046 [] _).keep.bootStage = _
    rw [ht.keep]

/-- S8 releases the cores with the active service firmware, or leaves the region in reset. -/
theorem stageS8_spec {r : BootRun} {s : State} {k : Nat} (h : onTrial s = false) (hl : s.keep.bootKind ≠ .logic)
    (hk : slotIn .active svcSlots s = some k) :
    (r.badSlots.getLsbD k = false → r.ready = 15 → (stageS8 r s).svc.held = false ∧ (stageS8 r s).svc.sram = firmwareCells (s.slot k).payload
        ∧ ∀ c < 4, (stageS8 r s).svcCore c = { released := true })
      ∧ (r.badSlots.getLsbD k = true ∨ r.ready ≠ 15 → (stageS8 r s).svc.held = true ∧ (stageS8 r s).keep.bootFailed = 8) := by
  unfold stageS8
  rw [if_neg hl, slotIn_trial_of_onTrial h (by decide), hk]
  simp only [Option.orElse_none]
  refine ⟨fun hb hr => ?_, fun hbad => ?_⟩
  · rw [if_pos (by simp [hb, hr])]
    refine ⟨rfl, rfl, fun c hc => ?_⟩
    obtain rfl | rfl | rfl | rfl : c = 0 ∨ c = 1 ∨ c = 2 ∨ c = 3 := by omega
    all_goals rfl
  · rw [if_neg]
    · exact ⟨(serviceNotReady_spec h).1, (serviceNotReady_spec h).2.1⟩
    · rintro hn
      rw [Bool.and_eq_true, Bool.not_eq_true', beq_iff_eq] at hn
      obtain hbad | hbad := hbad
      · rw [hn.1] at hbad
        exact Bool.false_ne_true hbad
      · exact hbad hn.2

/-- What S9 does to block `f`. -/
def admitBlock (r : BootRun) (s : State) (f : Nat) : State :=
  if (s.block f).isolated then s
  else if r.linkOk.getLsbD f then rejoinBlock f (beginFieldReset f s)
  else isolateBlock f (beginFieldReset f s)

theorem around_admitBlock (r : BootRun) (s : State) (f : Nat) : Around f s (admitBlock r s f) := by
  have h := (beginFieldReset_spec f s).1
  unfold admitBlock
  split
  · exact .refl f s
  · split
    · exact h.trans (rejoinBlock_spec f _).1
    · exact h.trans (isolateBlock_spec f _).1

theorem isolated_rejoinBlock (f : Nat) (s : State) : ((rejoinBlock f s).block f).isolated = (s.block f).isolated := by
  let s1 := setBlock f (fun b => { b with
    link := 2, resetAt := none, forced := false, trip := false, fclk := false, reported := false, silent := false, so := [] }) s
  have hb1 : (s1.block f).isolated = (s.block f).isolated := by simp [s1]
  have h : Settles f s1 (rejoinBlock f s) := (settles_evalBlock f false s1).trans ((settles_blkRecord f rfl [] _).trans (settles_raise f _ _))
  rw [h.isolated, hb1]

theorem admitBlock_spec {r : BootRun} {s : State} {f : Nat} (h : (s.block f).isolated = false) : let b := (admitBlock r s f).block f
    if r.linkOk.getLsbD f then b.link = 2 ∧ b.isolated = false ∧ b.resetAt = none else b.link = 0 ∧ b.isolated = true ∧ b.lineLow = true := by
  obtain ⟨-, hfix, -⟩ := beginFieldReset_spec f s
  have ht : admitBlock r s f = if r.linkOk.getLsbD f then rejoinBlock f (beginFieldReset f s) else isolateBlock f (beginFieldReset f s) :=
    if_neg (by rw [h]; exact Bool.false_ne_true)
  rw [ht]
  by_cases hl : r.linkOk.getLsbD f = true
  · simp only [hl, if_true]
    obtain ⟨-, hlink, hreset, -⟩ := rejoinBlock_spec f (beginFieldReset f s)
    refine ⟨hlink, ?_, hreset⟩
    rw [isolated_rejoinBlock]
    exact (congrArg Block.isolated hfix).trans h
  · simp only [hl, Bool.false_eq_true, if_false]
    obtain ⟨-, hi, hlow, hlink, -⟩ := isolateBlock_spec f (beginFieldReset f s)
    exact ⟨hlink, hi, hlow⟩

/-- The end of S9: the trip lines are released, and BOOT goes on past the blocks that failed. -/
def endAdmission (failed : Bool) (s : State) : State :=
  let t := setKeep (fun q => { q with tripLow := false }) s
  if failed then goOn 9 t else t

theorem stageS9_eq (r : BootRun) (s : State) : stageS9 r s = endAdmission ((List.range s.blocksFitted).any (fun f => !r.linkOk.getLsbD f))
    ((List.range s.blocksFitted).foldl (admitBlock r) s) := rfl

theorem endAdmission_spec (failed : Bool) {s : State} (h : onTrial s = false) : (endAdmission failed s).keep.tripLow = false
    ∧ ∀ f, (endAdmission failed s).block f = s.block f := by
  unfold endAdmission
  extract_lets t
  rw [goOn_of_no_trial (show onTrial t = false from h)]
  split
  · exact ⟨rfl, fun _ => rfl⟩
  · exact ⟨rfl, fun _ => rfl⟩

/-- S9 takes each fitted block in, or isolates it, and releases the trip lines (R410, R413). -/
theorem stageS9_spec {r : BootRun} {s : State} (h : onTrial s = false) : (stageS9 r s).keep.tripLow = false
    ∧ ∀ f < s.blocksFitted, (s.block f).isolated = false → let b := (stageS9 r s).block f
        if r.linkOk.getLsbD f then b.link = 2 ∧ b.isolated = false ∧ b.resetAt = none else b.link = 0 ∧ b.isolated = true ∧ b.lineLow = true := by
  have hs1 : AmongBlocks s ((List.range s.blocksFitted).foldl (admitBlock r) s) :=
    List.foldlRecOn (motive := AmongBlocks s) _ _ (.refl s) (fun t ht f _ => ht.trans (.of_around (around_admitBlock r t f)))
  obtain ⟨htrip, hblock⟩ := endAdmission_spec ((List.range s.blocksFitted).any (fun f => !r.linkOk.getLsbD f))
    ((onTrial_congr (by rw [hs1.keep])).trans h)
  rw [stageS9_eq]
  refine ⟨htrip, fun f hf hi => ?_⟩
  obtain ⟨u, -, hb, -, ht⟩ := foldl_range_at (op := admitBlock r) (fun f u => u.block f) AmongBlocks .refl (fun _ _ _ => .trans)
    (fun u g => .of_around (around_admitBlock r u g)) (fun u g k hk => (around_admitBlock r u g).others k hk) f s.blocksFitted s hf
  rw [hblock, ht]
  exact admitBlock_spec (by rw [hb]; exact hi)

end Sys2Proof.Machine
end

section
/-!
THE MODE DECISION (R517, R532). What S10 leaves, by the mode that it grants.
-/
namespace Sys2Proof.Machine

/-! ### The end of a BOOT (R521) -/

/-- Nothing differs but slots, fuses, stage and length of the BOOT, and what is recorded. -/
structure Confirms (s t : State) : Prop where
  rest : t = { s with
    jnl := t.jnl, free := t.free, fused := { s.fused with fuseLk := t.fused.fuseLk, fuseSvc := t.fused.fuseSvc, fuseProg := t.fused.fuseProg }
    keep := { s.keep with slots := t.keep.slots, lastCode := t.keep.lastCode, bootStage := t.keep.bootStage, bootMs := t.keep.bootMs } }

namespace Confirms

variable {s t u : State}

theorem refl (s : State) : Confirms s s := ⟨rfl⟩
theorem trans (h : Confirms s t) (k : Confirms t u) : Confirms s u := ⟨by rw [k.rest, h.rest]⟩
theorem of_inSlots (h : InSlots s t) : Confirms s t := ⟨by rw [h.rest]⟩

section
variable (h : Confirms s t)
include h

theorem keep : t.keep = { s.keep with
    slots := t.keep.slots, lastCode := t.keep.lastCode, bootStage := t.keep.bootStage, bootMs := t.keep.bootMs } := by rw [h.rest]
theorem ctlGet (a : Nat) : ctlGet a t = ctlGet a s := by rw [h.rest]; rfl
theorem runnable : runnable t = runnable s := by rw [h.rest]; rfl
theorem triadOn : t.triadOn = s.triadOn := by rw [h.rest]; rfl
theorem isolatedAny : (List.range t.blocksFitted).any (fun f => (t.block f).isolated) = (List.range s.blocksFitted).any (fun f => (s.block f).isolated) := by
  rw [h.rest]
  rfl

end

end Confirms

theorem confirms_record {code : Nat} (hc : code / 0x1000 = 9) (args : List Nat) (s : State) : Confirms s (record code args s)
    ∧ (record code args s).keep = { s.keep with lastCode := (record code args s).keep.lastCode } := by
  obtain ⟨j, hj⟩ := record_keeper hc args s
  rw [hj]
  exact ⟨⟨rfl⟩, rfl⟩

/-- A fuse counter advances beside the slots. -/
theorem confirms_advanceFuse {get : Fused → Nat} {set : Nat → Fused → Fused}
    (hset : ∀ c f, set c f = { f with fuseLk := (set c f).fuseLk, fuseSvc := (set c f).fuseSvc, fuseProg := (set c f).fuseProg }) (k : Nat) (s : State) :
    Confirms s (advanceFuse get set k s) ∧ (advanceFuse get set k s).keep = { s.keep with lastCode := (advanceFuse get set k s).keep.lastCode } := by
  unfold advanceFuse
  extract_lets c d
  split
  · obtain ⟨h, hk⟩ := confirms_record (code := 0x9053) rfl [d.1.toNat, c] { d.2 with fused := set c d.2.fused }
    refine ⟨.trans ⟨?_⟩ h, hk⟩
    show ({ d.2 with fused := set c d.2.fused } : State) = _
    rw [hset c d.2.fused]
    rfl
  · exact ⟨.refl s, rfl⟩

theorem confirms_fuseLk (k : Nat) (s : State) : Confirms s (fuseLk k s) ∧ (fuseLk k s).keep = { s.keep with lastCode := (fuseLk k s).keep.lastCode } :=
  confirms_advanceFuse (fun _ _ => rfl) k s
theorem confirms_fuseSvc (k : Nat) (s : State) : Confirms s (fuseSvc k s) ∧ (fuseSvc k s).keep = { s.keep with lastCode := (fuseSvc k s).keep.lastCode } :=
  confirms_advanceFuse (fun _ _ => rfl) k s
theorem confirms_fuseProg (k : Nat) (s : State) :
    Confirms s (fuseProg k s) ∧ (fuseProg k s).keep = { s.keep with lastCode := (fuseProg k s).keep.lastCode } :=
  confirms_advanceFuse (fun _ _ => rfl) k s

theorem slot_activateSlot_other {ks : List Nat} {k n : Nat} (hk : k ∈ ks) (hn : n ∉ ks) (s : State) : (activateSlot ks k s).slot n = s.slot n := by
  have hne : n ≠ k := fun h => hn (h ▸ hk)
  unfold activateSlot
  rw [slot_slotState, if_neg hne]
  split
  · next a ha => exact (slot_slotState a .fallback n s).trans (if_neg (fun h : n = a => hn (h ▸ (state_of_slotIn ha).2)))
  · rfl

/-- The firmware on trial becomes active at the S10 of the BOOT that used it (R532). -/
theorem confirmTrials_spec (s : State) : Confirms s (confirmTrials s) ∧ (confirmTrials s).keep.bootStage = s.keep.bootStage
    ∧ ∀ k, slotIn .trial lkSlots s = some k → ((confirmTrials s).slot k).state = .active := by
  have hslot : ∀ (f : State) (v : State) (k : Nat), f.keep = { v.keep with lastCode := f.keep.lastCode } → f.slot k = v.slot k := fun f v k h => by
    rw [State.slot, h]
    rfl
  unfold confirmTrials
  extract_lets s1
  have h1 : Confirms s s1 ∧ s1.keep.bootStage = s.keep.bootStage ∧ ∀ k, slotIn .trial lkSlots s = some k → (s1.slot k).state = .active := by
    simp only [s1]
    cases hk : slotIn .trial lkSlots s with
    | none => exact ⟨.refl s, rfl, fun k h => absurd h (by simp)⟩
    | some k =>
      obtain ⟨ha, hact, -⟩ := activateSlot_spec (ks := lkSlots) (k := k) s
      obtain ⟨hf, hkeep⟩ := confirms_fuseLk k (activateSlot lkSlots k s)
      refine ⟨(Confirms.of_inSlots ha).trans hf, ?_, fun n hn => ?_⟩
      · rw [hkeep, ha.rest]
      · obtain rfl : k = n := by simpa using hn
        exact (congrArg Slot.state (hslot _ _ k hkeep)).trans hact
  clear_value s1
  obtain ⟨hs1, hstage, hact⟩ := h1
  split
  · next j hj =>
    obtain ⟨ha, -, hother⟩ := activateSlot_spec (ks := svcSlots) (k := j) s1
    obtain ⟨hf, hkeep⟩ := confirms_fuseSvc j (activateSlot svcSlots j s1)
    refine ⟨hs1.trans ((Confirms.of_inSlots ha).trans hf), ?_, fun k hk => ?_⟩
    · rw [hkeep, ha.rest]
      exact hstage
    · have hk' : k ∈ lkSlots := (state_of_slotIn hk).2
      have hout : k ∉ svcSlots := (by decide : ∀ n ∈ lkSlots, n ∉ svcSlots) k hk'
      rw [hslot _ _ k hkeep, slot_activateSlot_other (state_of_slotIn hj).2 hout]
      exact hact k hk
  · exact ⟨hs1, hstage, hact⟩

/-- BOOT ends in stage 15. -/
theorem endBoot_boot {s : State} (hm : s.keep.mode = .boot) : Confirms s (endBoot s) ∧ (endBoot s).keep.bootStage = 15
    ∧ (endBoot s).keep.slots = s.keep.slots := by
  unfold endBoot
  split
  · next h => exact ⟨.refl s, (h.resolve_left (fun hn => hn hm)), rfl⟩
  · have h1 : Confirms s (askBootRecord s) ∧ (askBootRecord s).keep = s.keep := by
      unfold askBootRecord
      split
      · exact ⟨⟨rfl⟩, rfl⟩
      · exact ⟨⟨rfl⟩, rfl⟩
    refine ⟨h1.1.trans ⟨rfl⟩, rfl, ?_⟩
    show (askBootRecord s).keep.slots = _
    rw [h1.2]

/-- A BOOT that leads to HOLD has ended. -/
theorem bootStage_enterHold {cause : Nat} {s : State} (hm : s.keep.mode = .boot) : (enterHold cause s).keep.bootStage = 15 := by
  rw [enterHold_of_mode (by rw [hm]; decide)]
  obtain ⟨-, hkeep, -⟩ := stopAll_spec cause s
  have h15 := (endBoot_boot (s := stopAll cause s) (by rw [hkeep]; exact hm)).2.1
  have h6 := talks_setMode .hold cause (endBoot (stopAll cause s))
  have h7 := h6.trans (talks_askCheckpoint _)
  have h8 := talks_applyHeldSamples (askCheckpoint (setMode .hold cause (endBoot (stopAll cause s))))
  have h9 := ((h8.trans (talks_askFrame _)).trans (talks_answerAllHeld _)).trans (talks_alertAll cause [] _)
  rw [h9.keep, h7.keep]
  exact h15

/-! ### The mode entered -/

/-- `t` has the stage, the failed stage and the slots of the BOOT of `s`. -/
def SameBootWords (s t : State) : Prop :=
  t.keep.bootStage = s.keep.bootStage ∧ t.keep.bootFailed = s.keep.bootFailed ∧ t.keep.slots = s.keep.slots

theorem sameBootWords_of_keep {s t : State} {q : Keeper} (h : t.keep = q) (hs : q.bootStage = s.keep.bootStage) (hf : q.bootFailed = s.keep.bootFailed)
    (hk : q.slots = s.keep.slots) : SameBootWords s t := by
  rw [SameBootWords, h]
  exact ⟨hs, hf, hk⟩

/-- RUN is granted (R517): the mode, and the state of the triad. -/
theorem enterRun_spec (s : State) : SameBootWords s (enterRun s)
    ∧ (enterRun s).keep.mode = (if (List.range s.blocksFitted).any (fun f => (s.block f).isolated) then .degraded else .run)
    ∧ (enterRun s).tri.state = (if s.triadOn then .forming else .off) := by
  unfold enterRun
  extract_lets s1 _ s2 s3 s4
  have h1 : s1.keep = { s.keep with mode := .run, prev := s1.keep.prev, cause := s1.keep.cause, lastCode := s1.keep.lastCode } := by
    have hm := talks_setMode .run 0x9002 s
    have hj : Begins (setMode .run 0x9002 s) (joinClusters (setMode .run 0x9002 s)) :=
      .foldl (fun u k => .ite (begins_beginHandover ..) (.refl u)) _ _
    show (joinClusters (setMode .run 0x9002 s)).keep = { s.keep with
      mode := .run, prev := (joinClusters (setMode .run 0x9002 s)).keep.prev, cause := (joinClusters (setMode .run 0x9002 s)).keep.cause
      lastCode := (joinClusters (setMode .run 0x9002 s)).keep.lastCode }
    rw [hj.rest, hm.keep]
  clear_value s1
  have h2 : s2.keep = s1.keep ∧ s2.tri.state = if s.triadOn then .forming else .off := by
    simp only [s2]
    split
    · obtain ⟨hd, hst⟩ := departs_setTri .forming { s1 with tri := { s1.tri with members := 0, attempts := 0 } }
      exact ⟨hd.keep, hst⟩
    · exact ⟨rfl, rfl⟩
  clear_value s2
  have h3 : s3.keep = s2.keep ∧ s3.tri = s2.tri := by
    simp only [s3, grantStart]
    split
    · exact ⟨rfl, rfl⟩
    · exact ⟨rfl, rfl⟩
  clear_value s3
  have h4 : s4.keep = { s3.keep with lastCode := s4.keep.lastCode } ∧ s4.tri = s3.tri := by
    simp only [s4]
    split
    · exact ⟨(confirms_fuseProg _ s3).2, by rw [(confirms_fuseProg _ s3).1.rest]⟩
    · exact ⟨rfl, rfl⟩
  clear_value s4
  have hk4 : s4.keep = { s.keep with mode := .run, prev := s1.keep.prev, cause := s1.keep.cause, lastCode := s4.keep.lastCode } := by
    rw [h4.1, h3.1, h2.1, h1]
  have ht4 : s4.tri.state = if s.triadOn then .forming else .off := by rw [h4.2, h3.2, h2.2]
  split
  · have hr := talks_record 0x9104 [] s4
    have hm : (record 0x9104 [] s4).keep.mode = .run := by rw [hr.mode, hk4]
    have hd : enterDegraded 0x9104 (record 0x9104 [] s4) = setMode .degraded 0x9104 (record 0x9104 [] s4) := if_pos hm
    have ht := talks_setMode .degraded 0x9104 (record 0x9104 [] s4)
    rw [hd]
    refine ⟨sameBootWords_of_keep ht.keep ?_ ?_ ?_, ht.mode, ?_⟩
    · show (record 0x9104 [] s4).keep.bootStage = _
      rw [hr.keep, hk4]
    · show (record 0x9104 [] s4).keep.bootFailed = _
      rw [hr.keep, hk4]
    · show (record 0x9104 [] s4).keep.slots = _
      rw [hr.keep, hk4]
    · rw [ht.tri]
      exact (congrArg Tri.state hr.tri).trans ht4
  · exact ⟨sameBootWords_of_keep hk4 rfl rfl rfl, by rw [hk4], ht4⟩

/-- What S10 leaves (R517, R532). -/
theorem stageS10_spec {s : State} (hm : s.keep.mode = .boot) : let t := stageS10 s
    t.keep.bootStage = 15 ∧ t.keep.bootFailed = s.keep.bootFailed
      ∧ (∀ k, slotIn .trial lkSlots s = some k → (t.slot k).state = .active)
      ∧ (s.keep.cmsn = false → t.keep.mode = .commission)
      ∧ (s.keep.cmsn = true → runnable s = true →
          t.keep.mode = (if (List.range s.blocksFitted).any (fun f => (s.block f).isolated) then .degraded else .run)
          ∧ t.tri.state = (if s.triadOn then .forming else .off))
      ∧ (s.keep.cmsn = true → runnable s = false → t.keep.mode = .hold ∧ t.keep.cause = 0x9003) := by
  obtain ⟨hc, -, hact⟩ := confirmTrials_spec s
  have hmc : (confirmTrials s).keep.mode = .boot := by rw [hc.keep]; exact hm
  obtain ⟨he, h15, hslots⟩ := endBoot_boot hmc
  unfold stageS10
  extract_lets e next s1
  have hall : Confirms s e := hc.trans he
  obtain ⟨hr, hrk⟩ := confirms_record (code := 0x9002) rfl [e.keep.bootMs, next.code] e
  have h1 : Confirms s s1 := hall.trans hr
  have hstage : s1.keep.bootStage = 15 ∧ s1.keep.slots = (confirmTrials s).keep.slots := by
    rw [show s1.keep = _ from hrk]
    exact ⟨h15, hslots⟩
  have hfailed : s1.keep.bootFailed = s.keep.bootFailed := by rw [h1.keep]
  have hmode : s1.keep.mode = .boot := by rw [h1.keep]; exact hm
  have hnext : next = if !s.keep.cmsn then Mode.commission else if runnable s then .run else .hold := by
    simp only [next, hall.runnable, show e.keep.cmsn = s.keep.cmsn by rw [hall.keep]]
  clear_value next s1 e
  have hslot : ∀ t : State, t.keep.slots = s1.keep.slots → ∀ k, slotIn .trial lkSlots s = some k → (t.slot k).state = .active := by
    intro t ht k hk
    rw [State.slot, ht, hstage.2]
    exact hact k hk
  cases hcm : s.keep.cmsn with
  | false =>
    rw [hcm] at hnext
    subst hnext
    have ht := talks_setMode .commission 0x9002 s1
    refine ⟨?_, ?_, hslot _ ?_, fun _ => ht.mode, fun h => absurd h (by decide), fun h => absurd h (by decide)⟩
    · show (setMode .commission 0x9002 s1).keep.bootStage = 15
      rw [ht.keep]
      exact hstage.1
    · show (setMode .commission 0x9002 s1).keep.bootFailed = _
      rw [ht.keep]
      exact hfailed
    · show (setMode .commission 0x9002 s1).keep.slots = _
      rw [ht.keep]
  | true =>
    rw [hcm] at hnext
    cases hrun : runnable s with
    | true =>
      rw [hrun] at hnext
      subst hnext
      obtain ⟨⟨hst, hfa, hsl⟩, hm', ht'⟩ := enterRun_spec s1
      rw [h1.isolatedAny] at hm'
      rw [h1.triadOn] at ht'
      exact ⟨hst.trans hstage.1, hfa.trans hfailed, hslot _ hsl, fun h => absurd h (by decide), fun _ _ => ⟨hm', ht'⟩, fun _ h => absurd h (by decide)⟩
    | false =>
      rw [hrun] at hnext
      subst hnext
      have ht := talks_record 0x9003 [] s1
      have hb : (record 0x9003 [] s1).keep.mode = .boot := ht.mode.trans hmode
      have hh := entersHold (cause := 0x9003) (show (record 0x9003 [] s1).keep.mode ≠ .hold by rw [hb]; decide)
      refine ⟨bootStage_enterHold hb, ?_, hslot _ ?_, fun h => absurd h (by decide), fun _ h => absurd h (by decide), fun _ _ => ⟨mode_enterHold .., ?_⟩⟩
      · show (enterHold 0x9003 _).keep.bootFailed = _
        rw [hh.keep, ht.keep]
        exact hfailed
      · show (enterHold 0x9003 _).keep.slots = _
        rw [hh.keep, ht.keep]
      · exact cause_enterHold (by rw [hb]; decide)

/-! ### Stages that fail (R521) -/

theorem failStage_of_no_trial {n d : Nat} {s : State} (h : onTrial s = false) :
    ∃ u, failStage n d s = enterHold 0x9001 u ∧ u.keep.mode = s.keep.mode ∧ u.keep.bootFailed = n := by
  unfold failStage
  rw [h]
  refine ⟨_, rfl, (talks_record 0x9001 [n, d] _).mode, ?_⟩
  rw [(talks_record 0x9001 [n, d] _).keep]
  rfl

theorem failStage_of_trial {n d : Nat} {s : State} (h : onTrial s = true) :
    failStage n d s = trialFails (setKeep (fun q => { q with bootFailed := n }) s) := if_pos h

/-- What a stage that fails leaves where it holds the module. -/
theorem failStage_spec {n d : Nat} {s : State} (hm : s.keep.mode = .boot) (h : onTrial s = false) :
    (failStage n d s).keep.mode = .hold ∧ (failStage n d s).keep.cause = 0x9001 ∧ (failStage n d s).keep.bootFailed = n := by
  obtain ⟨u, hu, humode, hf⟩ := failStage_of_no_trial (n := n) (d := d) h
  have hne : u.keep.mode ≠ .hold := by rw [humode, hm]; decide
  rw [hu]
  refine ⟨mode_enterHold .., cause_enterHold hne, ?_⟩
  rw [(entersHold hne).keep]
  exact hf

theorem failTrial_keeps (s : State) : ([0, 1, 2, 3].foldl failTrial s).keep.bootCount = s.keep.bootCount := by
  refine foldl_keeps (op := failTrial) (fun u => u.keep.bootCount) (fun u k => ?_) _ s
  unfold failTrial
  split
  · rfl
  · rfl

theorem onTrial_of_slots {t : State} (h : ∀ k < 4, (t.slot k).state ≠ .trial) : onTrial t = false := by
  rw [onTrial, Option.isSome_eq_false_iff, Option.isNone_iff_eq_none, slotIn, List.find?_eq_none]
  intro k hk
  rw [beq_iff_eq]
  exact h k (by simp at hk; omega)

/-- What a trial that fails leaves: a BOOT of its own, with no slot on trial (R532). -/
theorem trialFails_boots (s : State) : (trialFails s).keep.mode = .boot ∧ (trialFails s).keep.resetKind = 4 ∧ (trialFails s).keep.resetCode = 0x9052
    ∧ (trialFails s).keep.bootStage = 1 ∧ onTrial (trialFails s) = false ∧ (trialFails s).keep.bootCount = s.keep.bootCount + 1 := by
  obtain ⟨hm, hk, hst, hslots⟩ := trialFails_spec s
  have hcount := failTrial_keeps s
  rw [trialFails_eq] at hm hk hst hslots ⊢
  generalize [0, 1, 2, 3].foldl failTrial s = u at hm hk hst hslots hcount ⊢
  have hcnt := (wholeReset_fresh 4 0x9052 [] {} (record 0x9052 [] u)).1.bootCount
  obtain ⟨-, -, -, hcode, -⟩ := wholeReset_spec 4 0x9052 [] {} (record 0x9052 [] u)
  refine ⟨hm, hk, hcode, hst, onTrial_of_slots (fun k hlt => ?_), ?_⟩
  · rw [hslots k hlt]
    split
    · decide
    · next h => exact h
  · rw [hcnt, (talks_record 0x9052 [] u).keep]
    exact congrArg (· + 1) hcount

end Sys2Proof.Machine
end

section
/-!
PROOFS. HOLD, BOOT and resets (O49).
-/
namespace Sys2Proof.Machine

/-! ### A stage that fails (R521) -/

theorem goOn_of_trial {n : Nat} {s : State} (h : onTrial s = true) : goOn n s = trialFails s := if_pos h

/-- What S9 leaves of block `f` where it fails: a block that has not joined is isolated. -/
def rejectBlock (s : State) (f : Nat) : State := if (s.block f).link = 2 then s else isolateBlock f s

theorem around_rejectBlock (s : State) (f : Nat) : Around f s (rejectBlock s f) := by
  unfold rejectBlock
  split
  · exact .refl f s
  · exact (isolateBlock_spec f s).1

/-- BOOT goes on with stage `n + 1`. -/
def nextStage (n : Nat) (s : State) : State := setKeep (fun q => { q with bootStage := n + 1 }) s

/-- S9 with the trip lines released. -/
def rejectBlocks (s : State) : State :=
  (List.range s.blocksFitted).foldl rejectBlock (setKeep (fun q => { q with tripLow := false }) (nextStage 9 s))

theorem stageFails_nine (d : Nat) (s : State) : stageFails 9 d s = goOn 9 (rejectBlocks s) := rfl

theorem among_rejectBlocks (s : State) : AmongBlocks (setKeep (fun q => { q with tripLow := false }) (nextStage 9 s)) (rejectBlocks s) :=
  List.foldlRecOn (motive := AmongBlocks (setKeep (fun q => { q with tripLow := false }) (nextStage 9 s))) _ _ (.refl _)
    (fun t ht f _ => ht.trans (.of_around (around_rejectBlock t f)))

/-- The service region is held. -/
def holdService (s : State) : State := { s with svc := { s.svc with held := true } }

/-- The stages that hold the module when they fail. -/
theorem stageFails_holds {n : Nat} (hn : n ∈ [3, 5, 7, 10]) (d : Nat) (s : State) : stageFails n d s = failStage n d s := by
  simp only [List.mem_cons, List.not_mem_nil, or_false] at hn
  obtain rfl | rfl | rfl | rfl := hn
  all_goals rfl

/-- Every stage from S2 on that fails while a slot is on trial ends the trial. -/
theorem stageFails_trial {n : Nat} (h2 : 2 ≤ n) (h10 : n ≤ 10) (d : Nat) {s : State} (h : onTrial s = true) :
    ∃ v, stageFails n d s = trialFails v ∧ v.keep.bootCount = s.keep.bootCount := by
  have hn : n ∈ [3, 5, 7, 10] ∨ n = 2 ∨ n = 4 ∨ n = 6 ∨ n = 8 ∨ n = 9 := by
    simp only [List.mem_cons, List.not_mem_nil, or_false]
    omega
  have on : ∀ v : State, v.keep.slots = s.keep.slots → onTrial v = true := fun v hv => (onTrial_congr hv).trans h
  obtain hn | rfl | rfl | rfl | rfl | rfl := hn
  · exact ⟨_, (stageFails_holds hn d s).trans (failStage_of_trial h), rfl⟩
  · exact ⟨s, if_pos h, rfl⟩
  · have hk := (storeFault_spec (nextStage 4 s)).2.1.keep
    have hv : onTrial (storeFault (nextStage 4 s)) = true := on _ (by rw [hk]; rfl)
    have hc : (storeFault (nextStage 4 s)).keep.bootCount = s.keep.bootCount := by rw [hk]; rfl
    exact ⟨_, goOn_of_trial hv, hc⟩
  · exact ⟨nextStage 6 s, goOn_of_trial (on _ rfl), rfl⟩
  · have hk := (talks_record 0x9046 [] (holdService (nextStage 8 s))).keep
    have hv : onTrial (record 0x9046 [] (holdService (nextStage 8 s))) = true := on _ (by rw [hk]; rfl)
    have hc : (record 0x9046 [] (holdService (nextStage 8 s))).keep.bootCount = s.keep.bootCount := by rw [hk]; rfl
    exact ⟨_, goOn_of_trial hv, hc⟩
  · have hk := (among_rejectBlocks s).keep
    exact ⟨rejectBlocks s, (stageFails_nine d s).trans (goOn_of_trial (on _ (by rw [hk]; rfl))), by rw [hk]; rfl⟩

section
variable {s : State} (hm : s.keep.mode = .boot) (h : onTrial s = false)
include hm h

omit hm in
theorem stageFails_two (d : Nat) : (stageFails 2 d s).keep.mode = .hold ∧ (stageFails 2 d s).keep.romRecovery = true
    ∧ (stageFails 2 d s).keep.bootFailed = 2 := by
  have ht : stageFails 2 d s = romRecover s := if_neg (by rw [h]; exact Bool.false_ne_true)
  obtain ⟨hmode, hrom, hf, -⟩ := romRecover_spec s
  rw [ht]
  exact ⟨hmode, hrom, hf⟩

theorem stageFails_four (d : Nat) : (stageFails 4 d s).keep.bootFailed = 4 ∧ (stageFails 4 d s).jnl.state = .storeFault
    ∧ (cbit 0x0600_0000 0 s = false → (stageFails 4 d s).keep.mode = .boot ∧ (stageFails 4 d s).keep.bootStage = 5) := by
  obtain ⟨-, hc, hstore, -⟩ := storeFault_spec (nextStage 4 s)
  have hno : onTrial (storeFault (nextStage 4 s)) = false := (onTrial_congr (by rw [hc.keep]; rfl)).trans h
  have ht : stageFails 4 d s = setKeep (fun q => { q with bootFailed := 4 }) (storeFault (nextStage 4 s)) := goOn_of_no_trial hno
  rw [ht]
  refine ⟨rfl, hstore, fun hcfg => ?_⟩
  show (storeFault (nextStage 4 s)).keep.mode = .boot ∧ (storeFault (nextStage 4 s)).keep.bootStage = 5
  by_cases hf : (nextStage 4 s).store = .storeFault
  · rw [show storeFault (nextStage 4 s) = nextStage 4 s from if_pos hf]
    exact ⟨hm, rfl⟩
  · obtain ⟨u, hu, -, heq⟩ := storeFault_parts hf
    rw [if_neg (show ¬ cbit 0x0600_0000 0 (nextStage 4 s) = true by rw [show cbit 0x0600_0000 0 (nextStage 4 s) = cbit 0x0600_0000 0 s from rfl, hcfg]; exact Bool.false_ne_true)] at heq
    rw [heq, hu.keep]
    exact ⟨hm, rfl⟩

omit hm in
theorem stageFails_six (d : Nat) : stageFails 6 d s = setKeep (fun q => { q with bootFailed := 6 }) (nextStage 6 s) :=
  goOn_of_no_trial (s := nextStage 6 s) h

theorem stageFails_eight (d : Nat) : (stageFails 8 d s).keep.bootFailed = 8 ∧ (stageFails 8 d s).keep.mode = .boot
    ∧ (stageFails 8 d s).keep.bootStage = 9 ∧ (stageFails 8 d s).svc.held = true := by
  obtain ⟨hheld, hf, hmode, hstage⟩ := serviceNotReady_spec (s := nextStage 8 s) h
  exact ⟨hf, hmode.trans hm, hstage, hheld⟩

theorem stageFails_nine_spec (d : Nat) : let t := stageFails 9 d s
    t.keep.bootFailed = 9 ∧ t.keep.mode = .boot ∧ t.keep.bootCount = s.keep.bootCount ∧ t.keep.tripLow = false ∧ t.keep.bootStage = 10
      ∧ ∀ f < s.blocksFitted, (s.block f).link ≠ 2 → (t.block f).isolated = true := by
  have ha := among_rejectBlocks s
  have hno : onTrial (rejectBlocks s) = false := (onTrial_congr (by rw [ha.keep]; rfl)).trans h
  rw [stageFails_nine, goOn_of_no_trial hno]
  refine ⟨rfl, ?_, ?_, ?_, ?_, fun f hf hl => ?_⟩
  · exact ha.mode.trans hm
  · exact (congrArg Keeper.bootCount ha.keep).trans rfl
  · exact (congrArg Keeper.tripLow ha.keep).trans rfl
  · exact (congrArg Keeper.bootStage ha.keep).trans rfl
  · obtain ⟨u, -, hb, -, ht⟩ := foldl_range_at (op := rejectBlock) (fun f u => u.block f) AmongBlocks .refl (fun _ _ _ => .trans)
      (fun u g => .of_around (around_rejectBlock u g)) (fun u g k hk => (around_rejectBlock u g).others k hk) f s.blocksFitted
      (setKeep (fun q => { q with tripLow := false }) (nextStage 9 s)) hf
    have hl' : (u.block f).link ≠ 2 := by
      rw [hb]
      exact hl
    show ((rejectBlocks s).block f).isolated = true
    rw [show (rejectBlocks s).block f = _ from ht, rejectBlock, if_neg hl']
    exact (isolateBlock_spec f u).2.1

end

/-! ### The run of a BOOT -/

/-- Stage `n` of the run `r` as its work ends or fails. -/
def atStage (n : Nat) (r : BootRun) (s : State) : State := setKeep (fun q => { q with bootStage := n }) (advance (r.ends.getD (n - 1) 0) s)

section
variable {n : Nat} {r : BootRun} {test : State → Option Nat} {work k : State → State} {s : State}

theorem bootStage_skip (h : n < s.keep.bootStage) : bootStage n r test work k s = k s := if_pos (.inl h)

/-- A stage that the run lets fail. -/
theorem bootStage_fails {m : Fin 11} {d : BitVec 32} (hn : n = s.keep.bootStage) (hl : ¬ (n = 4 ∧ s.keep.bootKind = .logic)) (hf : r.fail = some (m, d))
    (hm : m.val = n) : bootStage n r test work k s =
      let t := stageFails n d.toNat (atStage n r s)
      if sameBoot (atStage n r s) t && goesOn n then k t else t := by
  unfold bootStage
  rw [if_neg (by rintro (h | h); exacts [by omega, hl h])]
  simp only [hf, hm, if_true, Option.isNone_some, Bool.false_or]
  rfl

end

section
variable {r : BootRun} {n : Fin 11} {d : BitVec 32} {s : State} (hf : r.fail = some (n, d)) (hn : n.val = s.keep.bootStage)
  (hl : ¬ (n.val = 4 ∧ s.keep.bootKind = .logic))
include hf hn hl

/-- The first stage that is left fails, and the run ends with it. -/
theorem runBoot_fails (h1 : 1 ≤ n.val) (hstop : (sameBoot (atStage n.val r s) (stageFails n.val d.toNat (atStage n.val r s)) && goesOn n.val) = false) :
    runBoot r s = stageFails n.val d.toNat (atStage n.val r s) := by
  have fails : ∀ {m : Nat} {test : State → Option Nat} {work k : State → State}, m = n.val →
      bootStage m r test work k s = stageFails n.val d.toNat (atStage n.val r s) := fun {m test work k} hm => by
    subst hm
    rw [bootStage_fails hn hl hf rfl]
    simp only [hstop, Bool.false_eq_true, if_false]
  have hcases : n.val = 1 ∨ n.val = 2 ∨ n.val = 3 ∨ n.val = 4 ∨ n.val = 5 ∨ n.val = 6 ∨ n.val = 7 ∨ n.val = 8 ∨ n.val = 9 ∨ n.val = 10 := by omega
  unfold runBoot
  obtain h | h | h | h | h | h | h | h | h | h := hcases
  · exact fails h.symm
  all_goals
    simp (disch := omega) only [bootStage_skip]
    exact fails h.symm

omit hl in
/-- S9 fails, and the run goes on with S10. -/
theorem runBoot_fails_nine (h9 : n.val = 9) (hgo : sameBoot (atStage 9 r s) (stageFails 9 d.toNat (atStage 9 r s)) = true) :
    runBoot r s = bootStage 10 r noTest stageS10 id (stageFails 9 d.toNat (atStage 9 r s)) := by
  unfold runBoot
  simp (disch := omega) only [bootStage_skip]
  rw [bootStage_fails (by omega) (by omega) hf h9]
  simp only [hgo, show goesOn 9 = true from rfl, Bool.and_self, if_true]

end

theorem runBoot_ten {r : BootRun} {s : State} (h : s.keep.bootStage = 10) : runBoot r s = bootStage 10 r noTest stageS10 id s := by
  unfold runBoot
  simp (disch := omega) only [bootStage_skip]

/-- S10 of a run that lets no stage from here on fail does its work. -/
theorem bootStage_ten {r : BootRun} {s : State} (h : s.keep.bootStage = 10) (hf : ∀ m d, r.fail = some (m, d) → m.val ≠ 10) :
    bootStage 10 r noTest stageS10 id s = stageS10 (atStage 10 r s) := by
  unfold bootStage
  rw [if_neg (by omega)]
  have hnone : (match r.fail with | some (m, d) => if m.val = 10 then some d.toNat else noTest (atStage 10 r s) | none => noTest (atStage 10 r s))
      = none := by
    cases hr : r.fail with
    | none => rfl
    | some x => exact if_neg (hf x.1 x.2 hr)
  show (let failed := (match r.fail with | some (m, d) => if m.val = 10 then some d.toNat else noTest (atStage 10 r s) | none => noTest (atStage 10 r s))
    let t := match failed with | some d => stageFails 10 d (atStage 10 r s) | none => stageS10 (atStage 10 r s)
    if sameBoot (atStage 10 r s) t && (failed.isNone || goesOn 10) then id t else t) = _
  rw [hnone]
  exact ite_self _

/-! ### The state as a stage begins -/

theorem atStage_boot {s : State} (hm : s.keep.mode = .boot) (n : Nat) (r : BootRun) : ∃ m, atStage n r s = { s with
    time := m, keep := { s.keep with bootStage := n } } := by
  refine ⟨(advance (r.ends.getD (n - 1) 0) s).time, ?_⟩
  unfold atStage advance
  rw [hm]
  rfl

section
variable {s : State} (hm : s.keep.mode = .boot) (n : Nat) (r : BootRun)
include hm

theorem atStage_mode : (atStage n r s).keep.mode = .boot := by
  obtain ⟨m, h⟩ := atStage_boot hm n r
  rw [h]
  exact hm

theorem atStage_onTrial : onTrial (atStage n r s) = onTrial s := by
  obtain ⟨m, h⟩ := atStage_boot hm n r
  rw [h]
  rfl

end

/-! ### The run that decides the mode -/

theorem booting_iff {s : State} (h : booting s = true) : s.keep.mode = .boot := by
  unfold booting at h
  rw [Bool.and_eq_true, Bool.and_eq_true, beq_iff_eq] at h
  exact h.1.1

theorem exec_boot {r : BootRun} {s : State} (h : booting s = true) : exec (.boot r) s = .next (runBoot r s) := congrArg Host.Outcome.next (if_pos h)

theorem boot_decides {r : BootRun} {s : State} (hb : booting s = true) (hf : r.fail = none) (h10 : s.keep.bootStage = 10) :
    (∀ k, slotIn .trial lkSlots s = some k → Completes (.boot r) s (fun t => (t.slot k).state = .active))
      ∧ (s.keep.cmsn = false → Completes (.boot r) s (fun t => t.keep.mode = .commission ∧ t.keep.bootStage = 15))
      ∧ (s.keep.cmsn = true → runnable s = true →
          Completes (.boot r) s (fun t => t.keep.bootStage = 15
            ∧ t.keep.mode = (if (List.range s.blocksFitted).any (fun f => (s.block f).isolated) then .degraded else .run)
            ∧ t.tri.state = (if s.triadOn then .forming else .off)))
      ∧ (s.keep.cmsn = true → runnable s = false → Completes (.boot r) s (fun t => t.keep.mode = .hold ∧ t.keep.cause = 0x9003)) := by
  have hm := booting_iff hb
  have hexec : exec (.boot r) s = .next (stageS10 (atStage 10 r s)) := by
    rw [exec_boot hb, runBoot_ten h10, bootStage_ten h10 (fun m d h => by rw [hf] at h; cases h)]
  obtain ⟨h15, -, hact, hcom, hrun, hhold⟩ := stageS10_spec (atStage_mode hm 10 r)
  obtain ⟨m, hat⟩ := atStage_boot hm 10 r
  rw [hat] at h15 hact hcom hrun hhold hexec
  exact ⟨fun k hk => ⟨_, hexec, hact k hk⟩, fun hc => ⟨_, hexec, hcom hc, h15⟩, fun hc hr => ⟨_, hexec, h15, hrun hc hr⟩,
    fun hc hr => ⟨_, hexec, hhold hc hr⟩⟩

/-! ### The run whose first stage fails -/

theorem boot_fails {r : BootRun} {n : Fin 11} {d : BitVec 32} {s : State} (hb : booting s = true) (hf : r.fail = some (n, d))
    (hn : n.val = s.keep.bootStage) (hl : ¬ (n.val = 4 ∧ s.keep.bootKind = .logic)) :
    (n.val = 1 → Completes (.boot r) s (fun t => t.keep.mode = .boot ∧ t.keep.bootFailed = 1 ∧ booting t = false))
      ∧ (onTrial s = false →
          (n.val ∈ [3, 5, 7, 10] → Completes (.boot r) s (fun t => t.keep.mode = .hold ∧ t.keep.cause = 0x9001 ∧ t.keep.bootFailed = n.val))
          ∧ (n.val = 2 → Completes (.boot r) s (fun t => t.keep.mode = .hold ∧ t.keep.romRecovery = true ∧ t.keep.bootFailed = 2))
          ∧ (n.val = 9 → Completes (.boot r) s (fun t => t.keep.bootStage = 15 ∧ t.keep.bootFailed = 9)))
      ∧ (2 ≤ n.val → onTrial s = true → Completes (.boot r) s (fun t => t.keep.mode = .boot ∧ t.keep.resetKind = 4 ∧ onTrial t = false)) := by
  have hm := booting_iff hb
  have hu := atStage_mode hm n.val r
  have hexec : (sameBoot (atStage n.val r s) (stageFails n.val d.toNat (atStage n.val r s)) && goesOn n.val) = false → 1 ≤ n.val →
      exec (.boot r) s = .next (stageFails n.val d.toNat (atStage n.val r s)) := fun hstop h1 => by
    rw [exec_boot hb, runBoot_fails hf hn hl h1 hstop]
  have stops : goesOn n.val = false → 1 ≤ n.val → exec (.boot r) s = .next (stageFails n.val d.toNat (atStage n.val r s)) := fun h =>
    hexec (by rw [h, Bool.and_false])
  refine ⟨fun h1 => ?_, fun hno => ⟨fun h3 => ?_, fun h2 => ?_, fun h9 => ?_⟩, fun h2 hon => ?_⟩
  · have he := stops (by rw [h1]; rfl) (by omega)
    rw [h1] at he hu
    refine ⟨_, he, hu, rfl, ?_⟩
    exact Bool.and_false _
  · rw [← atStage_onTrial hm n.val r] at hno
    have hgo : goesOn n.val = false ∧ 1 ≤ n.val := by
      simp only [List.mem_cons, List.not_mem_nil, or_false] at h3
      obtain h | h | h | h := h3 <;> rw [h] <;> exact ⟨rfl, by decide⟩
    refine ⟨_, stops hgo.1 hgo.2, ?_⟩
    rw [stageFails_holds h3]
    exact failStage_spec hu hno
  · rw [← atStage_onTrial hm n.val r] at hno
    have he := stops (by rw [h2]; rfl) (by omega)
    rw [h2] at he hno
    exact ⟨_, he, stageFails_two hno d.toNat⟩
  · rw [h9] at hu
    rw [← atStage_onTrial hm 9 r] at hno
    obtain ⟨hfail, hmode, hcount, -, hstage, -⟩ := stageFails_nine_spec hu hno d.toNat
    have hgo : sameBoot (atStage 9 r s) (stageFails 9 d.toNat (atStage 9 r s)) = true := by
      rw [sameBoot, hmode, hcount]
      simp
    have he : exec (.boot r) s = .next (stageS10 (atStage 10 r (stageFails 9 d.toNat (atStage 9 r s)))) := by
      rw [exec_boot hb, runBoot_fails_nine hf hn h9 hgo, bootStage_ten hstage (fun m e h => by rw [hf] at h; cases h; omega)]
    obtain ⟨h15, hf10, -⟩ := stageS10_spec (atStage_mode hmode 10 r)
    refine ⟨_, he, h15, hf10.trans ?_⟩
    obtain ⟨m, hat⟩ := atStage_boot hmode 10 r
    rw [hat]
    exact hfail
  · rw [← atStage_onTrial hm n.val r] at hon
    obtain ⟨v, hv, hcount⟩ := stageFails_trial h2 (by omega) d.toNat hon
    obtain ⟨hvm, hvk, -, -, hvo, hvc⟩ := trialFails_boots v
    have hstop : sameBoot (atStage n.val r s) (stageFails n.val d.toNat (atStage n.val r s)) = false := by
      rw [sameBoot, hv, hvc, hcount]
      simp
    refine ⟨_, hexec (by rw [hstop, Bool.false_and]) (by omega), ?_⟩
    rw [hv]
    exact ⟨hvm, hvk, hvo⟩

/-! ### A stage that exceeds its time -/

theorem bootStageTimeout_passed {n : Fin 11} {ns : Nat} {s : State} (h : n.val < s.keep.bootStage ∨ n.val = 0) :
    exec (.bootStageTimeout n ns) s = .next s := by
  refine if_neg ?_
  rintro ⟨-, hle, h0⟩
  omega

/-- The state as stage `n` exceeds its time. -/
def atTimeout (n ns : Nat) (s : State) : State := setKeep (fun q => { q with bootStage := n }) (advance ns s)

theorem exec_bootStageTimeout {n : Fin 11} {ns : Nat} {s : State} (hb : booting s = true) (hle : s.keep.bootStage ≤ n.val) (h0 : n.val ≠ 0) :
    exec (.bootStageTimeout n ns) s = .next (stageFails n.val 0 (atTimeout n.val ns s)) := if_pos ⟨hb, hle, h0⟩

theorem atTimeout_boot {s : State} (hm : s.keep.mode = .boot) (n ns : Nat) : ∃ m, atTimeout n ns s = { s with
    time := m, keep := { s.keep with bootStage := n } } := by
  refine ⟨(advance ns s).time, ?_⟩
  unfold atTimeout advance
  rw [hm]
  rfl

theorem bootStageTimeout_trial {n : Fin 11} {ns : Nat} {s : State} (hb : booting s = true) (hle : s.keep.bootStage ≤ n.val) (h2 : 2 ≤ n.val)
    (hon : onTrial s = true) : Completes (.bootStageTimeout n ns) s (fun t => t.keep.mode = .boot
      ∧ t.keep.resetKind = 4 ∧ t.keep.resetCode = 0x9052 ∧ t.keep.bootStage = 1 ∧ onTrial t = false) := by
  obtain ⟨m, hu⟩ := atTimeout_boot (booting_iff hb) n.val ns
  have hon' : onTrial (atTimeout n.val ns s) = true := by
    rw [hu]
    exact hon
  obtain ⟨v, hv, -⟩ := stageFails_trial h2 (by omega) 0 hon'
  obtain ⟨hvm, hvk, hvc, hvs, hvo, -⟩ := trialFails_boots v
  refine ⟨_, exec_bootStageTimeout hb hle (by omega), ?_⟩
  rw [hv]
  exact ⟨hvm, hvk, hvc, hvs, hvo⟩

/-- What a stage leaves that exceeds its time while no slot is on trial (R521). -/
theorem stageFails_spec {n : Nat} (h2 : 2 ≤ n) (h10 : n ≤ 10) {s : State} (hm : s.keep.mode = .boot) (h : onTrial s = false) :
    let t := stageFails n 0 s
    t.keep.bootFailed = n
      ∧ (n = 2 → t.keep.mode = .hold ∧ t.keep.romRecovery = true)
      ∧ (n ∈ [3, 5, 7, 10] → t.keep.mode = .hold ∧ t.keep.cause = 0x9001)
      ∧ (n = 4 → t.jnl.state = .storeFault ∧ (cbit 0x0600_0000 0 s = false → t.keep.mode = .boot ∧ t.keep.bootStage = 5))
      ∧ (n = 6 → t.keep.mode = .boot ∧ t.keep.bootStage = 7) ∧ (n = 8 → t.keep.mode = .boot ∧ t.keep.bootStage = 9 ∧ t.svc.held = true)
      ∧ (n = 9 → t.keep.tripLow = false ∧ t.keep.bootStage = 10
          ∧ ∀ f < s.blocksFitted, (s.block f).link ≠ 2 → (t.block f).isolated = true) := by
  have hcases : n ∈ [3, 5, 7, 10] ∨ n = 2 ∨ n = 4 ∨ n = 6 ∨ n = 8 ∨ n = 9 := by
    simp only [List.mem_cons, List.not_mem_nil, or_false]
    omega
  have hf : (stageFails n 0 s).keep.bootFailed = n := by
    obtain hn | rfl | rfl | rfl | rfl | rfl := hcases
    · rw [stageFails_holds hn]
      exact (failStage_spec hm h).2.2
    · exact (stageFails_two h 0).2.2
    · exact (stageFails_four hm h 0).1
    · exact congrArg (fun u : State => u.keep.bootFailed) (stageFails_six h 0)
    · exact (stageFails_eight hm h 0).1
    · exact (stageFails_nine_spec hm h 0).1
  refine ⟨hf, ?_, fun hn => ?_, ?_, ?_, ?_, ?_⟩
  · rintro rfl
    exact ⟨(stageFails_two h 0).1, (stageFails_two h 0).2.1⟩
  · rw [stageFails_holds hn]
    exact ⟨(failStage_spec hm h).1, (failStage_spec hm h).2.1⟩
  · rintro rfl
    exact (stageFails_four hm h 0).2
  · rintro rfl
    rw [stageFails_six h 0]
    exact ⟨hm, rfl⟩
  · rintro rfl
    exact (stageFails_eight hm h 0).2
  · rintro rfl
    obtain ⟨-, -, -, htrip, hstage, hblocks⟩ := stageFails_nine_spec hm h 0
    exact ⟨htrip, hstage, hblocks⟩

/-! ### The CMSN input (R517) -/

theorem exec_cmsnLevelChange {level : Bool} {s : State} (h : s.keep.cmsn ≠ level) :
    let s1 := raise 14 (setKeep (fun q => { q with cmsn := level }) s)
    (s.keep.mode = .commission → level = true →
        exec (.cmsnLevelChange level) s = .next (wholeReset 2 0x9070 [] {} (record 0x9070 [] s1)))
      ∧ (s.keep.mode ≠ .commission ∨ level = false →
        exec (.cmsnLevelChange level) s = .next s1 ∨ exec (.cmsnLevelChange level) s = .next (record 0x9071 [] s1)) := by
  intro s1
  show (_ → _ → execCmsnLevelChange level s = _) ∧ (_ → execCmsnLevelChange level s = _ ∨ execCmsnLevelChange level s = _)
  have he : execCmsnLevelChange level s = match s.keep.mode with
      | .boot => .next s1
      | .commission => .next (if level then wholeReset 2 0x9070 [] {} (record 0x9070 [] s1) else s1)
      | _ => .next (record 0x9071 [] s1) := if_neg h
  rw [he]
  refine ⟨fun hm hl => ?_, fun hno => ?_⟩
  · rw [hm, hl]
    rfl
  · cases hm : s.keep.mode with
    | commission =>
      obtain hno | hl := hno
      · exact absurd hm hno
      · rw [hl]
        exact .inl rfl
    | boot => exact .inl rfl
    | run => exact .inr rfl
    | degraded => exact .inr rfl
    | hold => exact .inr rfl
    | stabled => exact .inr rfl

theorem cmsnLevelChange_spec {level : Bool} {s : State} (h : s.keep.cmsn ≠ level) :
    (s.keep.mode = .commission → level = true → Completes (.cmsnLevelChange level) s (fun t => t.keep.mode = .boot ∧ t.keep.resetKind = 2
        ∧ t.keep.resetCode = 0x9070 ∧ t.keep.bootStage = 1))
      ∧ (s.keep.mode ≠ .commission ∨ level = false → Completes (.cmsnLevelChange level) s (fun t => t.svc.toggles = s.svc.toggles ++ [(14, s.now)]
          ∧ t = { s.noted t with keep := { s.keep with cmsn := level, lastCode := t.keep.lastCode } })) := by
  obtain ⟨hreset, hnote⟩ := exec_cmsnLevelChange h
  refine ⟨fun hm hl => ?_, fun hno => ?_⟩
  · obtain ⟨-, hmode, hkind, hcode, hstage⟩ := wholeReset_spec 2 0x9070 [] {} (record 0x9070 [] (raise 14 (setKeep (fun q => { q with cmsn := level }) s)))
    exact ⟨_, hreset hm hl, hmode, hkind, hcode, hstage⟩
  · obtain he | he := hnote hno
    · exact ⟨_, he, rfl, rfl⟩
    · refine ⟨_, he, ?_⟩
      obtain ⟨j, hj⟩ := record_keeper (code := 0x9071) rfl [] (raise 14 (setKeep (fun q => { q with cmsn := level }) s))
      rw [hj]
      exact ⟨rfl, rfl⟩

/-! ### The obligation -/

theorem holdEntry_spec {cause : BitVec 16} {s : State} (h : s.keep.mode ≠ .hold) : Completes (.holdEntry cause) s (fun t => t.keep.mode = .hold
    ∧ t.keep.prev = s.keep.mode ∧ t.keep.cause = cause ∧ t.keep.liveLow = true ∧ t.keep.tripLow = true ∧ t.keep.stblRequest = false
    ∧ t.seq.phase = .notRunning ∧ (∀ n < s.axesFitted, (t.axis n).st = .disabled) ∧ t.sram = s.sram ∧ t.image = s.image) := by
  have he := entersHold (cause := cause.toNat) h
  refine ⟨_, rfl, ?_, ?_, ?_, ?_, ?_, ?_, ?_, he.axes, ?_, ?_⟩
  · rw [he.keep]
  · rw [he.keep]
  · rw [he.keep]
    exact BitVec.eq_of_toNat_eq (by simp)
  · rw [he.keep]
  · rw [he.keep]
  · rw [he.keep]
  · rw [he.seq]
    rfl
  · rw [he.rest]
  · rw [he.rest]

/-- Settles O49: the stages by `boot_decides` and `boot_fails`, the resets by `wholeReset_fresh` and `logicReset_spec`. -/
theorem holdBootAndResets : Obligations.HoldBootAndResets := by
  refine ⟨fun s => ⟨fun cause => ⟨holdEntry_spec, fun h => congrArg Host.Outcome.next (if_pos h)⟩, fun h => ⟨fun r => ?_, fun n ns => ?_⟩,
    fun r hb => ⟨fun hf h10 => boot_decides hb hf h10, fun n d hf hn hl => boot_fails hb hf hn hl⟩, fun n ns hb => ⟨bootStageTimeout_passed, ?_,
      fun hle h2 hon => bootStageTimeout_trial hb hle h2 hon, fun hle h2 hno => ?_⟩, fun level => ⟨fun h => if_pos h, cmsnLevelChange_spec⟩⟩,
    fun r s h => ⟨⟨(stageS2_spec h).1, fun hno hm => ?_⟩, testS3_none s, fun hp => ?_, fun g hk ha hb ht hg => stageS6_spec hk ha hb ht hg,
      fun k hl hk => stageS8_spec h hl hk, stageS9_spec h⟩, fun s => ?_⟩
  · exact congrArg Host.Outcome.next (if_neg (by rw [h]; exact Bool.false_ne_true))
  · exact if_neg (fun hn => Bool.false_ne_true (h.symm.trans hn.1))
  · intro hle h1
    obtain ⟨m, hu⟩ := atTimeout_boot (booting_iff hb) n.val ns
    have he := exec_bootStageTimeout (ns := ns) hb hle (by omega)
    rw [hu, h1] at he
    have hm := booting_iff hb
    exact ⟨_, he, hm, rfl⟩
  · obtain ⟨m, hu⟩ := atTimeout_boot (booting_iff hb) n.val ns
    have he := exec_bootStageTimeout (ns := ns) hb hle (by omega)
    rw [hu] at he
    have hm := booting_iff hb
    exact ⟨_, he, stageFails_spec h2 (by omega) hm hno⟩
  · obtain ⟨hmode, hrom, -, hcause⟩ := romRecover_spec s
    rw [(stageS2_spec h).2 hno]
    exact ⟨hmode, hrom, hcause hm⟩
  · unfold stageS5
    rw [hp]
  · refine ⟨fun loss => ⟨⟨_, rfl, wholeReset_fresh 0 0 [] loss s⟩, ⟨_, rfl, wholeReset_fresh 1 0 s.keep.resetHeld loss s⟩⟩,
      wholeReset_fresh 2 0 [] {} s, logicReset_spec 0 s, fun blocks => ?_, fun acc blocks => resetRequests_act acc blocks⟩
    obtain ⟨ha, hblock⟩ := resetBlocks_spec (blocks.setWidth 32 <<< 4) s
    intro t
    have ht : t = (List.range 4).foldl (resetBlock (blocks.setWidth 32 <<< 4)) s := applyResets_blocks blocks s
    rw [ht]
    refine ⟨ha.mode, ha.now, fun f hf => ?_⟩
    have hspec := hblock f hf
    rw [(getLsbD_blocks blocks).2.2 f hf] at hspec
    exact hspec

end Sys2Proof.Machine
end

section
/-!
PROOFS. Exceptions (O8): what a pass, a SPLIT context and a service core do with one (R124 to R126, R164, R485 to R487).
-/
namespace Sys2Proof.Machine

/-! ### A pass -/

/-- The exception of a pass is the last output of its open segment (R124). -/
theorem raiseJoined_spec {c : Fin 64} {p : Pass} {b : Bool} {s v : State} (h : Ready c p b s v) (code : Nat) (acode : BitVec 16)
    (hpc : ((v.core c).pass p).arch.pc = ((s.core c).pass p).arch.pc) (hobj : ((v.core c).pass p).arch.obj = ((s.core c).pass p).arch.obj) :
    ∃ u, raiseJoined c p code acode false v = settle c u ∧ ((u.core c).pass p).run = .excepted ∧ OthersKept (.joined c p) s u ∧ OnlyContexts s u
      ∧ ((u.core c).pass p).find ((s.core c).pass p).seg = (((s.core c).pass p).find ((s.core c).pass p).seg).map (fun g =>
        { g with
          outs := g.outs ++ [(((s.core c).pass p).arch.ordinal, (if g.bad || b then Val.spoilt else Val.out)
            (.exception code ((s.core c).pass p).arch.pc ((s.core c).pass p).arch.obj acode))]
          bad := g.bad || b }) := by
  obtain ⟨⟨-, -, hothers, honly⟩, hseg, hord, hfound⟩ := h
  refine ⟨_, rfl, ?_, ?_, ?_, ?_⟩
  · rw [pass_core_setPass]
  · exact othersKept_trans hothers (othersKept_trans (othersKept_setPass c p _ v) (othersKept_setPass c p _ _))
  · exact onlyContexts_trans honly (onlyContexts_trans (onlyContexts_setPass c p _ v) (onlyContexts_setPass c p _ _))
  · rw [pass_core_setPass, putVal, pass_core_setPass, PassCtx.find]
    simp only
    rw [hseg]
    refine (find_map_open _ _ _ ?_).trans ?_
    · exact fun _ => rfl
    rw [PassCtx.find] at hfound
    rw [hfound, Option.map_map, hord, hpc, hobj, PassCtx.find]
    congr 1
    funext g
    simp only [Function.comp_apply, Bool.or_false, Val.spoil]
    cases g.bad || b <;> rfl

/-- An instruction that raises `code` in a pass that can issue it. -/
theorem completes_raiseJoined {x : Instr} {c : Fin 64} {p : Pass} {b : Bool} {s : State} {code : Nat} {acode : BitVec 16}
    (h : CanIssue ⟨.joined c p, b⟩ 1 [] false s)
    (hx : exec x s = .next (issue ⟨.joined c p, b⟩ 1 [] (raiseJoined c p code acode false) s)) :
    Completes x s (fun t => ∃ u, t = settle c u ∧ ((u.core c).pass p).run = .excepted ∧ OthersKept (.joined c p) s u ∧ OnlyContexts s u
      ∧ ((u.core c).pass p).find ((s.core c).pass p).seg = (((s.core c).pass p).find ((s.core c).pass p).seg).map (fun g =>
        { g with
          outs := g.outs ++ [(((s.core c).pass p).arch.ordinal, (if g.bad || b then Val.spoilt else Val.out)
            (.exception code ((s.core c).pass p).arch.pc ((s.core c).pass p).arch.obj acode))]
          bad := g.bad || b })) := by
  refine ⟨_, hx.trans (congrArg Host.Outcome.next (issueAs_joined c p b 1 [] false s h _)), ?_⟩
  exact raiseJoined_spec (ready_issuedJoined c p b 1 [] s) code acode (by rw [arch_issuedJoined]) (by rw [arch_issuedJoined])

/-! ### A SPLIT context -/

theorem completes_raiseSplit {x : Instr} {c : Fin 64} {k : Fin 3} {b : Bool} {s : State} {code : Nat} {acode : BitVec 16}
    (h : CanIssue ⟨.split c k, b⟩ 1 [] false s) (hx : exec x s = .next (issue ⟨.split c k, b⟩ 1 [] (raiseSplit c k code acode) s)) :
    Completes x s (fun t => (t.split c k).run = .excepted ∧ t.seq.excCode = code ∧ t.seq.excCore = c ∧ t.seq.excCtx = k + 1
      ∧ t.seq.excPc = (s.split c k).pc ∧ t.seq.excObj = BitVec.ofNat 20 (4 * c + k) ∧ t.sram = s.sram ∧ OthersKept (.split c k) s t
      ∧ t.svc.toggles = s.svc.toggles ++ [(19, s.now)]) := by
  refine ⟨_, hx.trans (congrArg Host.Outcome.next (issueAs_split c k b 1 [] false s h _)), ?_⟩
  unfold raiseSplit
  extract_lets pc _ s1
  obtain ⟨j, hj⟩ := jnlOnly_recordC 0x1210 0 1 ([code, c, k, pc.toNat].flatMap (le 4)) (setSplit c k (fun X => { X with run := .excepted }) s1)
  have hr : record 0x1210 [code, c, k, pc.toNat] (setSplit c k (fun X => { X with run := .excepted }) s1)
      = { setSplit c k (fun X => { X with run := .excepted }) s1 with jnl := j } := hj
  rw [hr]
  refine ⟨?_, rfl, rfl, rfl, rfl, rfl, rfl, ?_, rfl⟩
  · show ((setSplit c k (fun X => { X with run := .excepted }) s1).split c k).run = _
    simp
  · exact othersKept_setSplit c k (fun X => { X with run := .excepted }) s

/-! ### The frame of a service core (R486) -/

theorem mpuAllows_granted {c : Nat} {priv : Bool} {kind a : Nat} {s : State} (hpriv : priv = true)
    (h : (s.svcCore c).mpuEn = true → (s.svcCore c).mpuOld = [] ∧ mpuGrants (s.svcCore c).mpu priv kind a = true) :
    mpuAllows c priv kind a s = (true, s) := by
  subst hpriv
  cases hen : (s.svcCore c).mpuEn with
  | false => exact mpuAllows_of_off hen
  | true =>
    obtain ⟨hold, hgrant⟩ := h hen
    have hview : mpuView c s = ((s.svcCore c).mpu, s) := by rw [mpuView, hold]; rfl
    unfold mpuAllows
    simp only [hen, Bool.not_true, Bool.false_eq_true, if_false, hview, hgrant]

/-- The words of a frame: the return PC, the status and g1 to g6. -/
def frameWords (c pc : Nat) (s : State) : List Word := [w32 pc, w32 (s.svcCore c).status] ++ (List.range 6).map (fun i => look 0 (i + 1) (s.svcCore c).regs)

/-- The words `ws` are written to the SRAM of the service region from word `base` on. -/
def pushWords (base : Nat) (ws : List (Word × Nat)) (s : State) : State := ws.foldl (fun s p => svcSet (base + p.2) p.1 s) s

theorem pushWords_frame (base : Nat) (ws : List (Word × Nat)) (s : State) : ∃ m : Memory, pushWords base ws s = { s with svc := { s.svc with sram := m } } := by
  refine List.foldlRecOn (motive := fun t => ∃ m : Memory, t = { s with svc := { s.svc with sram := m } }) ws _ ⟨s.svc.sram, rfl⟩ (fun t ht p _ => ?_)
  obtain ⟨m, rfl⟩ := ht
  exact ⟨_, rfl⟩

/-- The bytes of a word, from address `a` on. -/
def putBytes (a n : Nat) (v : Word) (m : Memory) : Memory := (List.range n).foldl (fun m j => memPut 0 (a + j) (BitVec.ofNat 8 (v.toNat / 256 ^ j)) m) m

theorem putBytes_spec {m : Memory} (h : Rising m) (a n : Nat) (v : Word) : Rising (putBytes a n v m)
    ∧ ∀ x, memGet 0 x (putBytes a n v m) = if a ≤ x ∧ x < a + n then BitVec.ofNat 8 (v.toNat / 256 ^ (x - a)) else memGet 0 x m := by
  induction n with
  | zero => exact ⟨h, fun x => by rw [if_neg (by omega)]; rfl⟩
  | succ n ih =>
    obtain ⟨hr, hx⟩ := ih
    have hs : putBytes a (n + 1) v m = memPut 0 (a + n) (BitVec.ofNat 8 (v.toNat / 256 ^ n)) (putBytes a n v m) := by
      simp only [putBytes, List.range_succ, List.foldl_append, List.foldl_cons, List.foldl_nil]
    rw [hs]
    refine ⟨rising_memPut 0 _ _ _ hr, fun x => ?_⟩
    rw [memGet_memPut (fun _ => 0) (a + n) x _ _ hr, hx x]
    by_cases hlast : x = a + n
    · rw [if_pos hlast, if_pos (by omega), hlast, Nat.add_sub_cancel_left]
    · rw [if_neg hlast]
      exact if_congr (by omega) rfl rfl

theorem memGet_svcSet {s : State} (h : Rising s.svc.sram) (i : Nat) (v : Word) : Rising (svcSet i v s).svc.sram
    ∧ ∀ x, memGet 0 x (svcSet i v s).svc.sram
      = if 4 * i ≤ x ∧ x < 4 * i + 4 then BitVec.ofNat 8 (v.toNat / 256 ^ (x - 4 * i)) else memGet 0 x s.svc.sram :=
  putBytes_spec h (4 * i) 4 v

theorem svcWord_svcSet_same {s : State} (h : Rising s.svc.sram) (i : Nat) (v : Word) : svcWord i (svcSet i v s) = v := by
  have hb : ∀ j < 4, memGet 0 (4 * i + j) (svcSet i v s).svc.sram = BitVec.ofNat 8 (v.toNat / 256 ^ j) := fun j hj => by
    rw [(memGet_svcSet h i v).2, if_pos (by omega), Nat.add_sub_cancel_left]
  have e : List.range 4 = [0, 1, 2, 3] := rfl
  unfold svcWord
  simp only [e, List.map_cons, List.map_nil]
  rw [hb 0 (by decide), hb 1 (by decide), hb 2 (by decide), hb 3 (by decide)]
  apply BitVec.eq_of_toNat_eq
  have hv := v.isLt
  simp [ofLe]
  omega

theorem svcWord_svcSet_other {s : State} (h : Rising s.svc.sram) {i j : Nat} (hij : j ≠ i) (v : Word) : svcWord j (svcSet i v s) = svcWord j s := by
  have hb : ∀ k < 4, memGet 0 (4 * j + k) (svcSet i v s).svc.sram = memGet 0 (4 * j + k) s.svc.sram := fun k hk => by
    rw [(memGet_svcSet h i v).2, if_neg (by omega)]
  unfold svcWord
  rw [List.map_congr_left (fun k hk => hb k (List.mem_range.mp hk))]

/-- The word at the foot of a frame is the return PC. -/
theorem svcWord_pushWords_other {base : Nat} {ws : List (Word × Nat)} (hws : ∀ p ∈ ws, p.2 ≠ 0) {s : State} (h : Rising s.svc.sram) :
    svcWord base (pushWords base ws s) = svcWord base s := by
  induction ws generalizing s with
  | nil => rfl
  | cons p ws ih =>
    have hp : p.2 ≠ 0 := hws p (List.mem_cons_self ..)
    refine (ih (fun q hq => hws q (List.mem_cons_of_mem _ hq)) (memGet_svcSet h _ _).1).trans ?_
    exact svcWord_svcSet_other h (by omega) p.1

theorem svcWord_pushWords_frame (base c pc : Nat) {s u : State} (h : Rising s.svc.sram) :
    svcWord base (pushWords base (frameWords c pc u).zipIdx s) = w32 pc := by
  have hz : (frameWords c pc u).zipIdx = (w32 pc, 0) :: (frameWords c pc u).tail.zipIdx 1 := rfl
  have hpush : ∀ l, pushWords base ((w32 pc, 0) :: l) s = pushWords base l (svcSet (base + 0) (w32 pc) s) := fun _ => rfl
  rw [hz, hpush, svcWord_pushWords_other (fun p hp => ?_) (memGet_svcSet h _ _).1]
  · exact svcWord_svcSet_same h base (w32 pc)
  · have := List.le_snd_of_mem_zipIdx hp
    omega

/-- A frame that finds its room and its grant is saved. -/
theorem saveFrame_saves {c pc : Nat} {s : State} (hroom : 32 + (s.svcCore c).splim.toNat ≤ (s.svcCore c).sp.toNat)
    (hgrant : (s.svcCore c).mpuEn = true → (s.svcCore c).mpuOld = [] ∧ mpuGrants (s.svcCore c).mpu true 1 ((s.svcCore c).sp.toNat - 32) = true) :
    saveFrame c pc s = (true, setSvc c (fun k => { k with sp := k.sp - 32 })
      (pushWords (((s.svcCore c).sp.toNat - 32) / 4) (frameWords c pc s).zipIdx s)) := by
  unfold saveFrame
  simp only [mpuAllows_granted rfl hgrant, Bool.not_true, Bool.false_eq_true, if_false]
  rw [if_neg (by omega)]
  rfl

/-! ### A service core (R485 to R487) -/

/-- What a service exception makes of its core (R486). -/
def SvcCore.excepted (code imm : Nat) (k : SvcCore) : SvcCore :=
  { k with
    exc := true, priv := true, waiting := false, presented := none, causeReg := w32 (code + 2 ^ 16 * imm), sp := k.sp - 32
    pc := (k.vbase.toNat + 0x1000) / 4 % 2_097_152 }

theorem svcException_saves {c : Fin 4} {code imm pc : Nat} {s : State} (hexc : (s.svcCore c).exc = false)
    (hroom : 32 + (s.svcCore c).splim.toNat ≤ (s.svcCore c).sp.toNat)
    (hgrant : (s.svcCore c).mpuEn = true → (s.svcCore c).mpuOld = [] ∧ mpuGrants (s.svcCore c).mpu true 1 ((s.svcCore c).sp.toNat - 32) = true) :
    let t := svcException c code imm pc s
    t.svcCore c = (s.svcCore c).excepted code imm ∧ OthersKept (.service c) s t ∧ t.sram = s.sram
      ∧ (Rising s.svc.sram → svcWord (((s.svcCore c).sp.toNat - 32) / 4) t = w32 pc) := by
  unfold svcException
  rw [hexc, saveFrame_saves hroom hgrant]
  simp only [Bool.false_eq_true, if_false, Bool.not_true]
  have hw := fun h => svcWord_pushWords_frame (((s.svcCore c).sp.toNat - 32) / 4) c pc (s := s) (u := s) h
  obtain ⟨m, hm⟩ := pushWords_frame (((s.svcCore c).sp.toNat - 32) / 4) (frameWords c pc s).zipIdx s
  have hcore : (pushWords (((s.svcCore c).sp.toNat - 32) / 4) (frameWords c pc s).zipIdx s).svcCore c = s.svcCore c := by
    rw [hm]
    rfl
  have hothers : OthersKept (.service c) s (pushWords (((s.svcCore c).sp.toNat - 32) / 4) (frameWords c pc s).zipIdx s) := by
    rw [hm]
    exact fun o _ => by cases o <;> exact ⟨rfl, fun _ => ⟨rfl, rfl⟩⟩
  have hsram : (pushWords (((s.svcCore c).sp.toNat - 32) / 4) (frameWords c pc s).zipIdx s).sram = s.sram := by
    rw [hm]
  generalize pushWords (((s.svcCore c).sp.toNat - 32) / 4) (frameWords c pc s).zipIdx s = v at hw hcore hothers hsram
  refine ⟨?_, othersKept_trans (othersKept_trans hothers (othersKept_setSvc c _ _)) (othersKept_setSvc c _ _), hsram, hw⟩
  simp [SvcCore.excepted, hcore]

/-! ### A fatal exception (R487, R488) -/

/-- The SRAM of the service region and its cores stay, but that cores may be held. -/
structure Serves (s t : State) : Prop where
  sram : t.svc.sram = s.svc.sram
  core : ∀ c, t.svcCore c = { s.svcCore c with released := (t.svcCore c).released, presented := (t.svcCore c).presented }

namespace Serves

variable {s t u : State}

theorem refl (s : State) : Serves s s := ⟨rfl, fun _ => rfl⟩
theorem trans (h : Serves s t) (k : Serves t u) : Serves s u := ⟨k.sram.trans h.sram, fun c => by rw [k.core, h.core]⟩
theorem of_talks (h : Talks s t) : Serves s t := ⟨h.svcSram, fun c => by rw [h.svcCore]⟩
theorem of_halts (h : Halts s t) : Serves s t := by
  have hc : ∀ c, t.svcCore c = s.svcCore c := fun c => by rw [h.rest]; rfl
  exact ⟨by rw [h.rest], fun c => by rw [hc]⟩

end Serves

theorem serves_beginReinit (region : Nat) (s : State) : Serves s (beginReinit region s) := by
  unfold beginReinit startReinit
  split
  · exact .refl s
  · split
    · exact .of_halts ((talks_record ..).halts.trans (halts_enterHold ..))
    · exact .trans (t := { s with keep := { s.keep with reinit := put region (some s.now) s.keep.reinit } }) ⟨rfl, fun _ => rfl⟩ (.of_talks (talks_record ..))

theorem serves_serviceReinit (s : State) : Serves s (serviceReinit s) := by
  unfold serviceReinit
  extract_lets s1
  have h1 : Serves s s1 := (serves_beginReinit 5 s).trans (.of_talks (talks_foldl_resetBerth _ _))
  clear_value s1
  refine h1.trans ⟨rfl, fun c => ?_⟩
  exact look_map_related (d := ({} : SvcCore)) (e := ({} : SvcCore)) (f := fun _ (q : SvcCore) => { q with released := false, presented := none })
    (fun q r : SvcCore => r = { q with released := r.released, presented := r.presented }) rfl (fun _ _ => rfl) c s1.svc.cores

/-- A core as a fatal exception leaves it: it starts from word 0, and keeps its counts. -/
def SvcCore.restarted (cause : Nat) (k : SvcCore) : SvcCore :=
  { released := k.released, spurious := k.spurious, spurOpen := k.spurOpen, spurAt := k.spurAt, lastClaim := k.lastClaim
    resets := BitVec.ofNat 16 (sat 0xFFFF (k.resets.toNat + 1)), fatalCode := BitVec.ofNat 16 cause }

/-- Core `c` is noted as the last that was reset, at `at_`. -/
def noteReset (c at_ : Nat) (s : State) : State := { s with svc := { s.svc with lastReset := some (c, at_) } }

/-- What a fatal exception of core `c` does before the region is looked at: it is recorded, the core starts again and its sessions end. -/
def restartCore (c cause : Nat) (s : State) : State :=
  let lost := ((s.svcCore c).stack.map Prod.snd).filter (fun x => x != 255)
  let s1 := record 0x8000 [c, cause] s
  let s2 := if lost = [] then s1 else record 0x8001 (c :: lost) s1
  noteReset c s.now (dropSessions (setSvc c (SvcCore.restarted cause) s2))

/-- Whether another core was reset within the second before (R488). -/
def secondReset (c : Nat) (s : State) : Bool :=
  match s.svc.lastReset with
  | none => false
  | some p => decide (p.1 ≠ c ∧ s.now < p.2 + 1_000_000_000)

theorem svcFatal_eq (c cause : Nat) (s : State) : svcFatal c cause s = if secondReset c s = true ∧ s.keep.mode ≠ .hold
    then serviceReinit (record 0x9100 [] (record 0x8002 [c] (restartCore c cause s))) else restartCore c cause s := by
  unfold svcFatal
  extract_lets k lost s1 s2 s3 s4 second v s5
  have h : restartCore c cause s = noteReset c s.now (dropSessions (setSvc c (SvcCore.restarted cause) s2)) := rfl
  have h2 : second = secondReset c s := rfl
  have h3 : s3 = setSvc c (SvcCore.restarted cause) s2 := rfl
  have h4 : s4 = dropSessions s3 := rfl
  have h5 : s5 = noteReset c s.now s4 := by
    clear_value s4
    rfl
  rw [h.trans (by rw [h5, h4, h3] : noteReset c s.now _ = s5)]
  clear_value s5
  exact if_congr (by rw [h2]) rfl rfl

/-- Berths without a session stay as they are. -/
theorem berth_dropSessions {n : Nat} {s : State} (htls : (s.berth n).tls = false) (htcp : (s.berth n).tcp = none) : (dropSessions s).berth n = s.berth n := by
  unfold dropSessions
  refine List.foldlRecOn (motive := fun u : State => u.berth n = s.berth n) _ _ rfl (fun u hu b _ => ?_)
  by_cases hb : ((u.berth b).tls || (u.berth b).tcp.isSome) = true
  · have hne : n ≠ b := fun e => by
      rw [← e, hu, htls, htcp] at hb
      exact absurd hb (by decide)
    rw [if_pos hb]
    refine Eq.trans ?_ hu
    dsimp only
    split
    · rw [berth_resetBerth, if_neg hne]
      rfl
    · rfl
  · rw [if_neg hb]
    exact hu

theorem gates_dropSessions (s : State) : Gates s (dropSessions s) := by
  unfold dropSessions
  refine .foldl (fun u b => .ite ?_ (.refl u)) _ s
  exact .ite (.trans (t := (u.draw 1).2) ⟨rfl, List.prefix_rfl⟩ (gates_resetBerth b _)) ⟨rfl, List.prefix_rfl⟩

/-- Core `c` starts again with `cause`. -/
structure Restarts (c cause : Nat) (s t : State) : Prop where
  rest : t = { s with
    jnl := t.jnl, bth := t.bth, free := t.free
    svc := { s.svc with cores := t.svc.cores, toggles := t.svc.toggles, lastReset := some (c, s.now) } }
  core : ∀ o, t.svcCore o = if o = c then (s.svcCore c).restarted cause else s.svcCore o
  berth : ∀ n, (s.berth n).tls = false → (s.berth n).tcp = none → t.berth n = s.berth n

theorem restarts_setSvc {c cause : Nat} {s t : State} (h : Gates (setSvc c (SvcCore.restarted cause) s) t)
    (hb : ∀ n, (s.berth n).tls = false → (s.berth n).tcp = none → t.berth n = s.berth n) :
    Restarts c cause s (noteReset c s.now t) := by
  refine ⟨by rw [h.rest]; rfl, fun o => ?_, hb⟩
  have hcores : t.svcCore o = (setSvc c (SvcCore.restarted cause) s).svcCore o := by rw [h.rest]; rfl
  exact hcores.trans (svcCore_setSvc ..)

theorem restarts_of_gates {c cause : Nat} {s u t : State} (h : Gates s u) (hb : ∀ n, u.berth n = s.berth n) (k : Restarts c cause u t) :
    Restarts c cause s t := by
  have hcore : ∀ o, u.svcCore o = s.svcCore o := fun o => by rw [h.rest]; rfl
  have hnow := h.now
  refine ⟨?_, fun o => ?_, fun n htls htcp => ?_⟩
  · rw [k.rest, hnow, h.rest]
  · rw [k.core, hcore, hcore]
  · rw [k.berth n (by rw [hb]; exact htls) (by rw [hb]; exact htcp), hb]

theorem restartCore_spec (c cause : Nat) (s : State) : Restarts c cause s (restartCore c cause s) := by
  unfold restartCore
  extract_lets lost s1 s2
  have h1 : Gates s s1 := gates_record 0x8000 [c, cause] s (by decide) (by decide)
  have h2 : Gates s s2 := .ite h1 (h1.trans (gates_record 0x8001 (c :: lost) s1 (by decide) (by decide)))
  have hb : ∀ n, s2.berth n = s.berth n := fun n => by
    have hb1 : s1.berth n = s.berth n := berth_record 0x8000 [c, cause] n s
    simp only [s2]
    split
    · exact hb1
    · exact (berth_record ..).trans hb1
  have hnow : s2.now = s.now := h2.now
  rw [← hnow]
  clear_value s2
  exact restarts_of_gates h2 hb (restarts_setSvc (gates_dropSessions _) (fun n htls htcp => berth_dropSessions htls htcp))

/-- A fatal exception keeps the SRAM of the region, and the core that it resets starts again. -/
theorem svcFatal_spec (c cause : Nat) (s : State) : (svcFatal c cause s).svc.sram = s.svc.sram
    ∧ (svcFatal c cause s).svcCore c = { (s.svcCore c).restarted cause with
        released := ((svcFatal c cause s).svcCore c).released, presented := ((svcFatal c cause s).svcCore c).presented } := by
  have h := restartCore_spec c cause s
  have hcore : (restartCore c cause s).svcCore c = (s.svcCore c).restarted cause := (h.core c).trans (if_pos rfl)
  have hsram : (restartCore c cause s).svc.sram = s.svc.sram := by rw [h.rest]
  have hend : Serves (restartCore c cause s) (svcFatal c cause s) := by
    rw [svcFatal_eq]
    generalize restartCore c cause s = u
    split
    · exact (Serves.of_talks ((talks_record 0x8002 [c] u).trans (talks_record ..))).trans (serves_serviceReinit _)
    · exact .refl u
  exact ⟨hend.sram.trans hsram, by rw [hend.core c, hcore]⟩

/-! ### The obligation -/

/-- What O8 says of a service core that raises `code` at `pc`. -/
theorem completes_svcException {x : Instr} {c : Fin 4} {code imm pc : Nat} {s : State} (hcode : code < 2 ^ 16)
    (h : CanIssue ⟨.service c, false⟩ 1 [] false s)
    (hx : ∀ u, (u.svcCore c).priv = (s.svcCore c).priv → (u.svcCore c).pc = (s.svcCore c).pc → ∃ k : State → State,
      exec x s = .next (issue ⟨.service c, false⟩ 1 [] k s) ∧ k u = svcException c code imm pc u) :
    let K := s.svcCore c
    let saves := 32 + K.splim.toNat ≤ K.sp.toNat ∧ (K.mpuEn = true → K.mpuOld = [] ∧ mpuGrants K.mpu true 1 (K.sp.toNat - 32) = true)
    (K.exc = false → saves → Completes x s (fun t =>
        (t.svcCore c).causeReg = BitVec.ofNat 32 (code + 2 ^ 16 * imm) ∧ (t.svcCore c).sp = K.sp - 32
        ∧ (t.svcCore c).exc = true ∧ (t.svcCore c).priv = true ∧ (t.svcCore c).pc = (K.vbase.toNat + 0x1000) / 4 % 2 ^ 21
        ∧ (s.wf → svcWord ((K.sp.toNat - 32) / 4) t = BitVec.ofNat 32 pc) ∧ OthersKept (.service c) s t ∧ t.sram = s.sram))
      ∧ (K.exc = true → Completes x s (fun t => (t.svcCore c).pc = 0 ∧ (t.svcCore c).fatalCode.toNat = code
        ∧ (t.svcCore c).resets.toNat = min 0xFFFF (K.resets.toNat + 1) ∧ t.svc.sram = s.svc.sram)) := by
  intro K saves
  obtain ⟨n, hn⟩ := issueAs_service c 1 [] false s h
  have hu := issued_issuedService c false n s
  have hK := svcCore_issuedService c n s
  have hwf : ((issuedService c s).drawn n).svc.sram = s.svc.sram := rfl
  have hsram : ((issuedService c s).drawn n).sram = s.sram := rfl
  generalize (issuedService c s).drawn n = u at hn hu hK hwf hsram
  obtain ⟨k, hk, hku⟩ := hx u (by rw [hK]) (by rw [hK])
  have hexec : exec x s = .next (svcException c code imm pc u) := hk.trans (congrArg Host.Outcome.next ((hn k).trans hku))
  refine ⟨fun hexc hsaves => ⟨_, hexec, ?_⟩, fun hexc => ⟨_, hexec, ?_⟩⟩
  · obtain ⟨hcore, hothers, hmem, hword⟩ := svcException_saves (code := code) (imm := imm) (pc := pc) (s := u) (c := c) (by rw [hK]; exact hexc)
      (by rw [hK]; exact hsaves.1) (by rw [hK]; exact hsaves.2)
    rw [hK] at hcore hword
    rw [hcore]
    refine ⟨rfl, rfl, rfl, rfl, rfl, fun hs => hword ?_, othersKept_trans hu.2.2.1 hothers, hmem.trans hsram⟩
    rw [hwf]
    exact ((wf_iff _ _).mp hs.2).2
  · have ht : svcException c code imm pc u = svcFatal c code u := if_pos (by rw [hK]; exact hexc)
    obtain ⟨hmem, hcore⟩ := svcFatal_spec c code u
    rw [ht]
    dsimp only
    rw [hcore, hK]
    refine ⟨rfl, ?_, ?_, hmem.trans hwf⟩
    · exact BitVec.toNat_ofNat code 16 ▸ Nat.mod_eq_of_lt hcode
    · show (BitVec.ofNat 16 (sat 0xFFFF (K.resets.toNat + 1))).toNat = _
      rw [BitVec.toNat_ofNat]
      unfold sat
      omega

/-- Settles O8: ASSERT and an invalid encoding raise their exception by `completes_raiseJoined`, `completes_raiseSplit`, `completes_svcException`. -/
theorem exceptionsAreTaken : Obligations.ExceptionsAreTaken := by
  intro b w imm s
  refine ⟨?_, ?_, ?_⟩
  · intro c p i h x hx hinv
    simp only [List.mem_cons, List.not_mem_nil, or_false] at hx
    obtain rfl | rfl := hx
    · exact completes_raiseJoined h rfl
    · exact completes_raiseJoined h (congrArg Host.Outcome.next (if_pos (hinv rfl)))
  · intro c k i h x hx hinv
    simp only [List.mem_cons, List.not_mem_nil, or_false] at hx
    obtain rfl | rfl := hx
    · exact completes_raiseSplit h rfl
    · exact completes_raiseSplit h (congrArg Host.Outcome.next (if_pos (hinv rfl)))
  · intro c i K saves h x hx hinv
    simp only [List.mem_cons, List.not_mem_nil, or_false] at hx
    obtain rfl | rfl := hx
    · refine completes_svcException ?_ h (fun u hpriv hpc => ⟨_, congrArg Host.Outcome.next (if_pos (hinv ?_)), ?_⟩)
      · show (if _ then 0x8101 else 0x8100) < _
        split <;> decide
      · show (if _ then 0x8101 else 0x8100) ≠ _
        split <;> decide
      · show (if privilegedOp w && !(u.svcCore c).priv then svcException c 0x8101 0 (u.svcCore c).pc u
          else svcException c 0x8100 0 (u.svcCore c).pc u) = svcException c (if privilegedOp w && !K.priv then 0x8101 else 0x8100) 0 K.pc u
        rw [hpriv, hpc]
        exact (apply_ite (fun n => svcException c n 0 K.pc u) _ _ _).symm
    · refine completes_svcException (show 0x8107 < 2 ^ 16 by decide) h (fun u hpriv hpc => ⟨_, rfl, ?_⟩)
      show svcException c 0x8107 imm.toNat (((u.svcCore c).pc + 1) % Config.svcSramWords) u = _
      rw [hpc]
      rfl

end Sys2Proof.Machine
end

section
/-!
PROOFS. The privileged instructions of a service core, and ERET (O9; R173, R174, R479, R480, R482, R484, R489, R503 to R506).
-/
namespace Sys2Proof.Machine

/-! ### Where a privileged instruction runs -/

/-- A privileged instruction outside the service cores is an invalid encoding (R173). -/
theorem svcOp_invalid {ctx : Ctx} {s : State} (hctx : ∀ c, ctx ≠ .service c) (h : CanIssue ⟨ctx, false⟩ 1 [] false s) :
    ∃ u, Issued ⟨ctx, false⟩ s u ∧ (∀ k, svcOp ⟨ctx, false⟩ k s = raiseInvalid ctx u)
      ∧ ∀ imm, exec (.trap ⟨ctx, false⟩ imm) s = .next (raiseInvalid ctx u) := by
  obtain ⟨u, hu, hk⟩ := issueAs_of_canIssue ⟨ctx, false⟩ 1 [] false s h
  refine ⟨u, hu, fun k => (hk _).trans ?_, fun imm => congrArg Host.Outcome.next ((hk _).trans ?_)⟩
  · cases ctx with
    | joined c p => rfl
    | split c p => rfl
    | service c => exact absurd rfl (hctx c)
  · cases ctx with
    | joined c p => rfl
    | split c p => rfl
    | service c => exact absurd rfl (hctx c)

/-- In user mode a privileged instruction raises 0x8101 at its own PC (R174, R479). -/
theorem svcOp_denied {c : Fin 4} {s : State} (h : CanIssue ⟨.service c, false⟩ 1 [] false s) (hpriv : (s.svcCore c).priv = false) :
    ∃ u, Issued ⟨.service c, false⟩ s u ∧ ∀ k, svcOp ⟨.service c, false⟩ k s = svcException c 0x8101 0 (s.svcCore c).pc u := by
  obtain ⟨n, hn⟩ := issueAs_service c 1 [] false s h
  refine ⟨_, issued_issuedService c false n s, fun k => ?_⟩
  have hK := svcCore_issuedService c n s
  rw [svcOp, issue, hn]
  simp [hK, hpriv]

/-- The privileged instructions are run by `svcOp`. -/
theorem privileged_svcOp (i : Issue) (ra rb rd : Reg) (sr : BitVec 10) (imm : BitVec 16) (s : State) :
    ∀ x ∈ [Instr.di i, .ei i, .wfe i, .eret i, .mpusync i, .mfsr i rd sr, .mtsr i ra sr, .eoiWrite i ra, .wdkickWrite i ra, .mpuw i ra rb,
      .mpur i rd ra, .ldc i rd ra imm, .stc i rd ra imm], ∃ k, exec x s = .next (svcOp i k s) := by
  simp only [List.forall_mem_cons]
  exact ⟨⟨_, rfl⟩, ⟨_, rfl⟩, ⟨_, rfl⟩, ⟨_, rfl⟩, ⟨_, rfl⟩, ⟨_, rfl⟩, ⟨_, rfl⟩, ⟨_, rfl⟩, ⟨_, rfl⟩, ⟨_, rfl⟩, ⟨_, rfl⟩, ⟨_, rfl⟩, ⟨_, rfl⟩,
    fun _ h => absurd h List.not_mem_nil⟩

/-! ### What goes on with the next word -/

theorem svcCore_stepPc (c : Fin 4) (s : State) :
    (stepPc (.service c) s).svcCore c = { s.svcCore c with pc := ((s.svcCore c).pc + 1) % 2 ^ 21 } := by
  simp [stepPc, setPc, pcOf, Config.svcSramWords]

theorem svcDoes_of_core {c : Fin 4} {f : SvcCore → SvcCore} {s t : State} {e : Bool} {w : Nat} (h : OthersKept (.service c) s t)
    (hcore : t.svcCore c = { f (s.svcCore c) with pc := ((s.svcCore c).pc + 1) % 2 ^ 21, eoiJust := e, eretJust := 0, wdStart := some w }) :
    SvcDoes c f s t := ⟨some w, by rw [hcore], rfl, h⟩

section

variable (c : Fin 4) (n : Nat) (s : State)

/-- The core `c` of `s` once its instruction runs. -/
def SvcCore.issuedAt (now : Nat) (k : SvcCore) : SvcCore := { k with eoiJust := false, eretJust := 0, wdStart := some (k.wdStart.getD now) }

theorem svcDoes_issued : SvcDoes c id s (stepPc (.service c) ((issuedService c s).drawn n)) := by
  have hu := issued_issuedService c false n s
  refine svcDoes_of_core (e := false) (w := (s.svcCore c).wdStart.getD s.now) (othersKept_trans hu.2.2.1 (othersKept_setPc _ _ _)) ?_
  rw [svcCore_stepPc, svcCore_issuedService]
  rfl

/-- A change `g` of the core that issues, after which it goes on with the next word, does `f`. -/
theorem svcDoes_setSvc {f g : SvcCore → SvcCore} {e : Bool} {w : Nat}
    (hg : g ((s.svcCore c).issuedAt s.now) = { f (s.svcCore c) with pc := (s.svcCore c).pc, eoiJust := e, eretJust := 0, wdStart := some w }) :
    SvcDoes c f s (stepPc (.service c) (setSvc c g ((issuedService c s).drawn n))) := by
  have hu := issued_issuedService c false n s
  refine svcDoes_of_core (e := e) (w := w) (othersKept_trans hu.2.2.1 (othersKept_trans (othersKept_setSvc c _ _) (othersKept_setPc _ _ _))) ?_
  have hcore : (setSvc c g ((issuedService c s).drawn n)).svcCore c = g ((s.svcCore c).issuedAt s.now) := by
    rw [svcCore_setSvc, if_pos rfl, svcCore_issuedService]
    rfl
  rw [svcCore_stepPc, hcore, hg]

end

/-! ### WFE (R174, R495) -/

/-- Which request a core is presented depends on the marks of the core that delivery reads alone. -/
theorem winner_setSvc {c : Nat} {g : SvcCore → SvcCore} {s : State} (hrel : (g (s.svcCore c)).released = (s.svcCore c).released)
    (hdi : (g (s.svcCore c)).di = (s.svcCore c).di) (hexc : (g (s.svcCore c)).exc = (s.svcCore c).exc)
    (hstack : (g (s.svcCore c)).stack = (s.svcCore c).stack) : winner c (setSvc c g s) = winner c s := by
  have hprio : (g (s.svcCore c)).prio = (s.svcCore c).prio := by unfold SvcCore.prio; rw [hstack]
  have hdepth : (g (s.svcCore c)).depth = (s.svcCore c).depth := by unfold SvcCore.depth; rw [hstack]
  have hp : ∀ k, presentable c k (setSvc c g s) = presentable c k s := fun k => by
    unfold presentable
    simp only [svcCore_setSvc, if_true, hrel, hdi, hexc, hprio, hdepth]
    rfl
  show winnerOf (fun k => presentable c k (setSvc c g s)) s = winnerOf (fun k => presentable c k s) s
  rw [funext hp]

theorem winner_issuedService (c : Fin 4) (n : Nat) (s : State) : winner c ((issuedService c s).drawn n) = winner c s :=
  winner_setSvc (c := c.val) (s := s) rfl rfl rfl rfl

theorem winner_stepPc (c : Fin 4) (s : State) : winner c (stepPc (.service c) s) = winner c s := winner_setSvc (c := c.val) (s := s) rfl rfl rfl rfl

theorem svcDoes_wfe_waits {c : Fin 4} {s : State} (n : Nat) (h : winner c s = none) :
    let s1 := stepPc (.service c) ((issuedService c s).drawn n)
    SvcDoes c (fun q => { q with waiting := true }) s (if (winner c s1).isSome then s1 else setSvc c (fun q => { q with waiting := true }) s1) := by
  intro s1
  have hs1 := svcDoes_issued c n s
  rw [winner_stepPc, winner_issuedService, h, if_neg (by decide)]
  obtain ⟨w, hcore, hw, hothers⟩ := hs1
  refine ⟨w, ?_, hw, othersKept_trans hothers (othersKept_setSvc c _ _)⟩
  simp only [svcCore_setSvc, if_true]
  rw [hcore]
  rfl

theorem svcDoes_wfe {c : Fin 4} {s : State} (n : Nat) (h : winner c s ≠ none) :
    let s1 := stepPc (.service c) ((issuedService c s).drawn n)
    SvcDoes c id s (if (winner c s1).isSome then s1 else setSvc c (fun q => { q with waiting := true }) s1) := by
  intro s1
  rw [winner_stepPc, winner_issuedService, if_pos (Option.isSome_iff_ne_none.mpr h)]
  exact svcDoes_issued c n s

/-! ### MFSR (R44, R480) -/

theorem issued_readSr (c : Fin 4) (k : Nat) (u : State) : Issued ⟨.service c, false⟩ u (readSr c k u).2 := by
  have hset : ∀ f : Option Word, Issued ⟨.service c, false⟩ u (setSvc c (fun q => { q with dtLatch := f }) u) := fun f =>
    ⟨fun g => by simp [regOf, poisonOf], by simp [pcOf], othersKept_setSvc c _ u, rfl⟩
  have hrefl : Issued ⟨.service c, false⟩ u u := issued_free _ u u.free
  unfold readSr
  split
  case h_6 =>
    unfold claimWord
    split
    · exact hrefl
    · exact issued_free _ u _
  case h_9 => exact hset _
  case h_10 => exact hset _
  all_goals exact hrefl

/-! ### ERET (R504, R506) -/

theorem look_restored (f : Nat → Word) (n g : Nat) (regs : Tab Word) :
    look 0 g ((List.range n).foldl (fun t i => put (i + 1) (f i) t) regs) = if 1 ≤ g ∧ g ≤ n then f (g - 1) else look 0 g regs := by
  induction n with
  | zero => rw [if_neg (by omega)]; rfl
  | succ n ih =>
    rw [List.range_succ, List.foldl_append, List.foldl_cons, List.foldl_nil, look_put, ih]
    by_cases hg : g = n + 1
    · rw [if_pos hg, if_pos (by omega), hg, Nat.add_sub_cancel]
    · rw [if_neg hg]
      exact if_congr (by omega) rfl rfl

/-- A core as ERET leaves it: `word` reads its frame. -/
def SvcCore.returned (word : Nat → Word) (ready : Bool) (q : SvcCore) : SvcCore :=
  { q with
    pc := (word 0).toNat % 2_097_152, priv := bitAt 0 (word 1).toNat, di := bitAt 1 (word 1).toNat, exc := bitAt 2 (word 1).toNat
    mpuEn := bitAt 3 (word 1).toNat
    regs := (List.range 6).foldl (fun t i => put (i + 1) (word (2 + i)) t) q.regs
    sp := q.sp + 32, stack := q.stack.drop (q.depth - bits 11 8 (word 1).toNat), eretJust := if ready then 2 else 1 }

theorem svcEret_granted {c : Fin 4} {u : State}
    (h : (u.svcCore c).mpuEn = true → (u.svcCore c).mpuOld = [] ∧ mpuGrants (u.svcCore c).mpu true 0 (u.svcCore c).sp.toNat = true) :
    ∃ j, svcEret c u = setSvc c (SvcCore.returned (fun k => svcWord ((u.svcCore c).sp.toNat / 4 + k) u) (winner c u).isSome) { u with jnl := j }
      ∧ ((u.svcCore c).depth ≤ bits 11 8 (svcWord ((u.svcCore c).sp.toNat / 4 + 1) u).toNat → j = u.jnl) := by
  obtain ⟨j, hj⟩ := jnlOnly_recordC 0x8012 0 1 ([c.val].flatMap (le 4)) u
  have hr : record 0x8012 [c.val] u = { u with jnl := j } := hj
  have hsame : u = { u with jnl := u.jnl } := rfl
  have hcore : ∀ i, ({ u with jnl := i } : State).svcCore c = u.svcCore c := fun _ => rfl
  unfold svcEret
  simp only [mpuAllows_granted rfl h, Bool.not_true, Bool.false_eq_true, if_false]
  by_cases hd : bits 11 8 (svcWord ((u.svcCore c).sp.toNat / 4 + 1) u).toNat < (u.svcCore c).depth
  · refine ⟨j, ?_, fun hle => absurd hd (Nat.not_lt.mpr hle)⟩
    rw [if_pos hd, hr]
    rfl
  · refine ⟨u.jnl, ?_, fun _ => rfl⟩
    rw [if_neg hd]
    rfl

/-- Where the MPU lets ERET read no frame, the core is reset (R506). -/
theorem svcEret_refused {c : Fin 4} {u : State} (hen : (u.svcCore c).mpuEn = true) (hold : (u.svcCore c).mpuOld = [])
    (hgrant : mpuGrants (u.svcCore c).mpu true 0 (u.svcCore c).sp.toNat = false) : svcEret c u = svcFatalFree c u := by
  have hview : mpuView c u = ((u.svcCore c).mpu, u) := by rw [mpuView, hold]; rfl
  have hall : mpuAllows c true 0 (u.svcCore c).sp.toNat u = (false, u) := by
    unfold mpuAllows
    simp only [hen, Bool.not_true, Bool.false_eq_true, if_false, hview, hgrant]
  unfold svcEret
  simp only [hall, Bool.not_false, if_true]

/-! ### The obligation -/

/-- What a core that raises its privilege does goes on as `SvcDoes` has it. -/
theorem completes_svcOp {x : Instr} {c : Fin 4} {k : Nat → State → State} {s : State} {P : State → Prop}
    (h : CanIssue ⟨.service c, false⟩ 1 [] false s) (hpriv : (s.svcCore c).priv = true) (hx : exec x s = .next (svcOp ⟨.service c, false⟩ k s))
    (hP : ∀ n, P (k c ((issuedService c s).drawn n))) : Completes x s P := by
  obtain ⟨n, hn⟩ := svcOp_of_canIssue h hpriv
  exact ⟨_, hx.trans (congrArg Host.Outcome.next (hn k)), hP n⟩

/-- MFSR of a register that it may read writes what `readSr` reads. -/
theorem completes_mfsr {c : Fin 4} {rd : Reg} {sr : BitVec 10} {k : Nat} {s : State} {P : Word → Prop} (h : CanIssue ⟨.service c, false⟩ 1 [] false s)
    (hpriv : (s.svcCore c).priv = true) (hk : sr.toNat = k) (hle : k ≤ 11) (hP : ∀ n, P (readSr c k ((issuedService c s).drawn n)).1) :
    Completes (.mfsr ⟨.service c, false⟩ rd sr) s (fun t => ∃ x, P x ∧ Computes (.service c) rd x false s t) := by
  refine completes_svcOp h hpriv rfl (fun n => ?_)
  have hu := issued_issuedService c false n s
  have hvalue := hP n
  dsimp only
  rw [hk, if_neg (by omega)]
  generalize (issuedService c s).drawn n = u at hu hvalue
  exact ⟨_, hvalue, computes_of_issued (issued_trans hu (issued_readSr c k u)) (computes_writeBack _ _ _ _ _)⟩

theorem completes_mfsr_eq {c : Fin 4} {rd : Reg} {sr : BitVec 10} {k : Nat} {s : State} {v : Word} (h : CanIssue ⟨.service c, false⟩ 1 [] false s)
    (hpriv : (s.svcCore c).priv = true) (hk : sr.toNat = k) (hle : k ≤ 11) (hv : ∀ n, (readSr c k ((issuedService c s).drawn n)).1 = v) :
    Completes (.mfsr ⟨.service c, false⟩ rd sr) s (Computes (.service c) rd v false s) := by
  obtain ⟨t, ht, x, rfl, hx⟩ := completes_mfsr (P := fun x => x = v) h hpriv hk hle hv
  exact ⟨t, ht, hx⟩

/-- Bit 8 of a CLAIM with no active handler is set (R480). -/
theorem claimWord_none {c : Nat} {u : State} (h : (u.svcCore c).stack = []) : (claimWord c u).1.getLsbD 8 = true := by
  have hbit : ∀ d : BitVec 8, (w32 (0x100 + d.toNat)).getLsbD 8 = true := fun d => by
    rw [w32, BitVec.getLsbD_ofNat, show 0x100 + d.toNat = 2 ^ 8 + d.toNat from rfl, Nat.testBit_two_pow_add_eq, Nat.testBit_lt_two_pow d.isLt]
    rfl
  unfold claimWord
  rw [h]
  exact hbit _

/-- MTSR of a register that it may write goes on after the write. -/
theorem completes_mtsr {c : Fin 4} {ra : Reg} {sr : BitVec 10} {k : Nat} {s : State} {P : State → Prop} (h : CanIssue ⟨.service c, false⟩ 1 [] false s)
    (hpriv : (s.svcCore c).priv = true) (hk : sr.toNat = k) (hle : k ≤ 11)
    (hP : ∀ n, P (stepPc (.service c) (writeSr c k (regOf (.service c) ra s) ((issuedService c s).drawn n)))) :
    Completes (.mtsr ⟨.service c, false⟩ ra sr) s P := by
  refine completes_svcOp h hpriv rfl (fun n => ?_)
  have hreg := congrFun (regOf_issued (issued_issuedService c false n s)) ra.val
  dsimp only at hreg ⊢
  rw [hk, if_neg (by omega), hreg]
  exact hP n

/-- The end of a handler while one runs pops its priority (R503). -/
theorem svcDoes_svcEoi {c : Fin 4} {s : State} (n : Nat) (h : (s.svcCore c).stack ≠ []) :
    let t := stepPc (.service c) (svcEoi c ((issuedService c s).drawn n))
    SvcDoes c (fun q => { q with stack := q.stack.tail }) s t ∧ OnlyContexts s t := by
  have heoi : svcEoi c ((issuedService c s).drawn n)
      = setSvc c (fun k => { k with stack := k.stack.drop 1, eoiJust := true }) ((issuedService c s).drawn n) := by
    have hstack : (((issuedService c s).drawn n).svcCore c).stack ≠ [] := by rw [svcCore_issuedService]; exact h
    unfold svcEoi
    extract_lets k s1
    rw [show s1 = _ from if_neg hstack]
  intro t
  have ht : t = stepPc (.service c) (setSvc c (fun k => { k with stack := k.stack.drop 1, eoiJust := true }) ((issuedService c s).drawn n)) :=
    congrArg (stepPc (.service c)) heoi
  rw [ht]
  refine ⟨svcDoes_setSvc (e := true) (w := (s.svcCore c).wdStart.getD s.now) c n s ?_, onlyContexts_setPc _ _ _⟩
  simp only [SvcCore.issuedAt, List.drop_one]

/-- The end of a handler while none runs is recorded (R503). -/
theorem svcDoes_svcEoi_none {c : Fin 4} {s : State} (n : Nat) (h : (s.svcCore c).stack = []) :
    let t := stepPc (.service c) (svcEoi c ((issuedService c s).drawn n))
    SvcDoes c id s t ∧ t.jnl = (record 0x8013 [c.val] s).jnl := by
  have hu := issued_issuedService c false n s
  have hK := svcCore_issuedService c n s
  have hj : (record 0x8013 [c.val] ((issuedService c s).drawn n)).jnl = (record 0x8013 [c.val] s).jnl :=
    recordC_congr (s := s) (t := (issuedService c s).drawn n) rfl rfl rfl rfl _ _ _ _
  generalize (issuedService c s).drawn n = u at hu hK hj
  have hsame : OthersKept (.service c) u (record 0x8013 [c.val] u) ∧ (record 0x8013 [c.val] u).svcCore c = u.svcCore c := by
    obtain ⟨j, hr⟩ := jnlOnly_recordC 0x8013 0 1 ([c.val].flatMap (le 4)) u
    have hr : record 0x8013 [c.val] u = { u with jnl := j } := hr
    rw [hr]
    exact ⟨fun o _ => by cases o <;> exact ⟨rfl, fun _ => ⟨rfl, rfl⟩⟩, rfl⟩
  have heoi : svcEoi c u = setSvc c (fun k => { k with stack := k.stack.drop 1, eoiJust := true }) (record 0x8013 [c.val] u) := by
    have hstack : (u.svcCore c).stack = [] := by rw [hK]; exact h
    unfold svcEoi
    extract_lets k s1
    rw [show s1 = _ from if_pos hstack]
  intro t
  have ht : t = stepPc (.service c) (setSvc c (fun k => { k with stack := k.stack.drop 1, eoiJust := true }) (record 0x8013 [c.val] u)) :=
    congrArg (stepPc (.service c)) heoi
  rw [ht]
  obtain ⟨hothers, hcore⟩ := hsame
  generalize record 0x8013 [c.val] u = v at hothers hcore hj
  refine ⟨svcDoes_of_core (e := true) (w := (s.svcCore c).wdStart.getD s.now) (othersKept_trans hu.2.2.1
    (othersKept_trans hothers (othersKept_trans (othersKept_setSvc c _ _) (othersKept_setPc _ _ _)))) ?_, hj⟩
  rw [svcCore_stepPc, svcCore_setSvc, if_pos rfl, hcore, hK]
  simp only [h, List.drop_nil, id_eq]

/-- MPUW of a descriptor word keeps what the other words were before (R484). -/
theorem look_mpuOld (k j : Nat) (q : SvcCore) (h : j ≠ k) :
    look 0 j (if (keysOf q.mpuOld).contains k then q.mpuOld else put k (look 0 k q.mpu) q.mpuOld) = look 0 j q.mpuOld := by
  split
  · rfl
  · rw [look_put, if_neg h]

/-- What ERET does where it may read its frame (R504). -/
theorem completes_eret {c : Fin 4} {s : State} (n : Nat)
    (h : (s.svcCore c).mpuEn = true → (s.svcCore c).mpuOld = [] ∧ mpuGrants (s.svcCore c).mpu true 0 (s.svcCore c).sp.toNat = true) :
    let K := s.svcCore c
    let base := K.sp.toNat / 4
    let st := svcWord (base + 1) s
    let t := svcEret c ((issuedService c s).drawn n)
    let L := t.svcCore c
    L.pc = (svcWord base s).toNat % 2 ^ 21 ∧ L.priv = st.getLsbD 0 ∧ L.di = st.getLsbD 1
      ∧ L.exc = st.getLsbD 2 ∧ L.mpuEn = st.getLsbD 3 ∧ L.sp = K.sp + 32 ∧ L.stack = K.stack.drop (K.stack.length - bits 11 8 st.toNat)
      ∧ L.eretJust = (if (winner c s).isSome then 2 else 1)
      ∧ (∀ k < 6, regOf (.service c) (k + 1) t = svcWord (base + 2 + k) s) ∧ (∀ g, 6 < g → regOf (.service c) g t = regOf (.service c) g s)
      ∧ OthersKept (.service c) s t ∧ (K.stack.length ≤ bits 11 8 st.toNat → t.jnl = s.jnl)
      ∧ t = { s with jnl := t.jnl, free := t.free, svc := { s.svc with cores := t.svc.cores } } := by
  intro K base st t L
  have hK := svcCore_issuedService c n s
  have hu := issued_issuedService c false n s
  have hwin := winner_issuedService c n s
  obtain ⟨j, ht, hj⟩ := svcEret_granted (c := c) (u := (issuedService c s).drawn n) (by rw [hK]; exact h)
  have hword : ∀ k, svcWord k ((issuedService c s).drawn n) = svcWord k s := fun _ => rfl
  rw [hwin] at ht
  simp only [hK, hword] at ht hj
  have hcore : L = (K.issuedAt s.now).returned (fun k => svcWord (base + k) s) (winner c s).isSome := by
    show t.svcCore c = _
    rw [show t = _ from ht, svcCore_setSvc, if_pos rfl]
    exact congrArg (SvcCore.returned _ _) hK
  have hregs : L.regs = (List.range 6).foldl (fun m i => put (i + 1) (svcWord (base + (2 + i)) s) m) K.regs := by
    rw [hcore]
    rfl
  have hothers : OthersKept (.service c) ((issuedService c s).drawn n) { (issuedService c s).drawn n with jnl := j } := fun o _ => by
    cases o <;> exact ⟨rfl, fun _ => ⟨rfl, rfl⟩⟩
  refine ⟨?_, ?_, ?_, ?_, ?_, ?_, ?_, ?_, fun k hk => ?_, fun g hg => ?_, ?_, fun hle => ?_, ?_⟩
  · rw [hcore]; rfl
  · rw [hcore]; rfl
  · rw [hcore]; rfl
  · rw [hcore]; rfl
  · rw [hcore]; rfl
  · rw [hcore]; rfl
  · rw [hcore]; rfl
  · rw [hcore]; rfl
  · show (if k + 1 = 0 then 0 else look 0 (k + 1) L.regs) = _
    rw [if_neg (by omega), hregs, look_restored (fun i => svcWord (base + (2 + i)) s), if_pos (by omega), Nat.add_sub_cancel, Nat.add_assoc]
  · show (if g = 0 then 0 else look 0 g L.regs) = (if g = 0 then 0 else look 0 g K.regs)
    rw [hregs, look_restored (fun i => svcWord (base + (2 + i)) s), if_neg (by omega : ¬ (1 ≤ g ∧ g ≤ 6))]
  · rw [show t = _ from ht]
    exact othersKept_trans hu.2.2.1 (othersKept_trans hothers (othersKept_setSvc c _ _))
  · rw [show t = _ from ht]
    exact hj hle
  · rw [show t = _ from ht]
    rfl

/-- Settles O9: what each privileged instruction of a service core does, and where it is refused. -/
theorem serviceInstructionsAct : Obligations.ServiceInstructionsAct := by
  refine ⟨fun ctx ra rb rd sr imm s => ?_, fun c s => ?_⟩
  · intro i v w privileged h
    have hops := privileged_svcOp i ra rb rd sr imm s
    refine ⟨fun hctx => ?_, fun c hc => ?_⟩
    · obtain ⟨u, hu, hk, htrap⟩ := svcOp_invalid hctx h
      refine List.forall_mem_cons.mpr ⟨⟨u, hu, htrap imm⟩, fun x hx => ?_⟩
      obtain ⟨k, hxk⟩ := hops x hx
      exact ⟨u, hu, hxk.trans (congrArg Host.Outcome.next (hk k))⟩
    subst hc
    intro K goes reads
    refine ⟨fun hpriv x hx => ?_, fun hpriv => ?_⟩
    · obtain ⟨u, hu, hk⟩ := svcOp_denied h hpriv
      obtain ⟨k, hxk⟩ := hops x hx
      exact ⟨u, hu, hxk.trans (congrArg Host.Outcome.next (hk k))⟩
    have hreg : ∀ n g, regOf i.ctx g ((issuedService c s).drawn n) = regOf i.ctx g s := fun n => congrFun (regOf_issued (issued_issuedService c false n s))
    have hK := fun n => svcCore_issuedService c n s
    have hread : ∀ k x, k ≤ 11 → (∀ n, (readSr c k ((issuedService c s).drawn n)).1 = x) → reads k x :=
      fun k x hle hv hk => completes_mfsr_eq h hpriv hk hle hv
    have hcore : ∀ k (f : SvcCore → Word), k ≤ 11 → (∀ u, (readSr c k u).1 = f (u.svcCore c)) → reads k (f (K.issuedAt s.now)) :=
      fun k f hle hf => hread k _ hle (fun n => (hf _).trans (congrArg f (hK n)))
    have hdoes := fun n => svcDoes_issued c n s
    have hv : ∀ n, regOf i.ctx ra ((issuedService c s).drawn n) = v := fun n => hreg n ra
    have hstack : ∀ n, (((issuedService c s).drawn n).svcCore c).stack = K.stack := fun n => by rw [hK n]
    refine ⟨?_, ?_, ?_, ?_, ?_, ?_, ?_, ?_, ?_, ?_, ?_, ?_, ?_, rfl, rfl, ?_, ?_, ?_, ?_, ?_, ?_, ?_, ?_, ?_, ?_, ?_, ?_, ?_, ?_, ?_, ?_, ?_⟩
    · exact completes_svcOp h hpriv rfl (fun n => svcDoes_setSvc c n s rfl)
    · exact completes_svcOp h hpriv rfl (fun n => svcDoes_setSvc c n s rfl)
    · exact completes_svcOp h hpriv rfl (fun n => svcDoes_setSvc c n s rfl)
    · intro hw
      exact completes_svcOp h hpriv rfl (fun n => svcDoes_wfe_waits n hw)
    · intro hw
      exact completes_svcOp h hpriv rfl (fun n => svcDoes_wfe n hw)
    · refine completes_svcOp h hpriv rfl (fun n => ⟨svcDoes_setSvc c n s rfl, ?_⟩)
      have hcore := svcCore_stepPc c (setSvc c (fun q => { q with wdStart := some s.now }) ((issuedService c s).drawn n))
      rw [svcCore_setSvc, if_pos rfl] at hcore
      exact congrArg SvcCore.wdStart hcore
    · intro hs
      exact completes_svcOp h hpriv rfl (fun n => svcDoes_svcEoi n hs)
    · intro hs
      exact completes_svcOp h hpriv rfl (fun n => svcDoes_svcEoi_none n hs)
    · exact completes_mtsr h hpriv rfl (by decide) (fun n => svcDoes_setSvc c n s rfl)
    · exact completes_mtsr h hpriv rfl (by decide) (fun n => svcDoes_setSvc c n s rfl)
    · exact completes_mtsr h hpriv rfl (by decide) (fun n => svcDoes_setSvc c n s rfl)
    · exact completes_mtsr h hpriv rfl (by decide) (fun n => svcDoes_setSvc c n s rfl)
    · intro hk
      simp only [List.mem_cons, List.not_mem_nil, or_false] at hk
      obtain hk | hk | hk | hk | hk | hk := hk
      · exact completes_mtsr h hpriv hk (by decide) hdoes
      · exact completes_mtsr h hpriv hk (by decide) hdoes
      · exact completes_mtsr h hpriv hk (by decide) hdoes
      · exact completes_mtsr h hpriv hk (by decide) hdoes
      · exact completes_mtsr h hpriv hk (by decide) hdoes
      · exact completes_mtsr h hpriv hk (by decide) hdoes
    · intro hlt
      refine completes_svcOp h hpriv rfl (fun n => ?_)
      have hrb := hreg n rb
      dsimp only
      rw [hv n, hrb, if_neg (by omega)]
      exact ⟨_, svcDoes_setSvc c n s rfl, fun k hk => look_mpuOld v.toNat k K hk⟩
    · intro hge
      refine completes_svcOp h hpriv rfl (fun n => ?_)
      dsimp only
      rw [hv n, if_pos (by omega)]
      exact hdoes n
    · intro hlt
      refine completes_svcOp h hpriv rfl (fun n => ?_)
      dsimp only
      rw [hv n, if_neg (by omega), hK n]
      exact computes_of_issued (issued_issuedService c false n s) (computes_writeBack _ _ _ _ _)
    · intro hge
      refine completes_svcOp h hpriv rfl (fun n => ?_)
      dsimp only
      rw [hv n, if_pos (by omega)]
      exact ⟨_, computes_of_issued (issued_trans (issued_issuedService c false n s) (issued_free _ _ _)) (computes_writeBack _ _ _ _ _)⟩
    · exact hcore 0 (fun q => w32 q.status) (by decide) (fun _ => rfl)
    · exact hcore 1 (fun q => q.vbase) (by decide) (fun _ => rfl)
    · exact hcore 2 (fun q => q.sp) (by decide) (fun _ => rfl)
    · exact hcore 3 (fun q => q.splim) (by decide) (fun _ => rfl)
    · exact hcore 4 (fun q => q.causeReg) (by decide) (fun _ => rfl)
    · intro p l hs
      refine ⟨hread 5 _ (by decide) (fun n => ?_), hread 7 _ (by decide) (fun n => ?_)⟩
      · show (claimWord c _).1 = _
        unfold claimWord
        rw [hstack n, hs] <;> rfl
      · show w32 (SvcCore.prio _ + 16 * SvcCore.depth _) = _
        unfold SvcCore.prio SvcCore.depth
        rw [hstack n, hs] <;> rfl
    · intro hs
      refine ⟨hread 7 _ (by decide) (fun n => ?_), fun hk => ?_⟩
      · show w32 (SvcCore.prio _ + 16 * SvcCore.depth _) = _
        unfold SvcCore.prio SvcCore.depth
        rw [hstack n, hs] <;> rfl
      · exact completes_mfsr h hpriv hk (by decide) (fun n => claimWord_none ((hstack n).trans hs))
    · exact hread 6 _ (by decide) (fun n => rfl)
    · exact hread 8 _ (by decide) (fun n => rfl)
    · exact hread 9 _ (by decide) (fun n => rfl)
    · exact hread 10 _ (by decide) (fun n => rfl)
    · refine hread 11 _ (by decide) (fun n => ?_)
      show (State.svcCore c ((issuedService c s).drawn n)).dtLatch.getD (w32 (s.replica .sclk / 2 ^ 32)) = _
      rw [hK n]
      rfl
    · intro hlt
      obtain ⟨n, hn⟩ := svcOp_of_canIssue h hpriv
      refine List.forall_mem_cons.mpr ⟨⟨_, issued_issuedService c false n s, ?_⟩, List.forall_mem_cons.mpr ⟨⟨_, issued_issuedService c false n s, ?_⟩, ?_⟩⟩
      · exact congrArg Host.Outcome.next ((hn _).trans (if_pos hlt))
      · exact congrArg Host.Outcome.next ((hn _).trans (if_pos hlt))
      · exact fun _ hx => absurd hx List.not_mem_nil
  · intro i K base st reads hpriv h
    refine ⟨fun hreads => completes_svcOp h hpriv rfl (fun n => ?_), fun hen hold hgrant => completes_svcOp h hpriv rfl (fun n => ?_)⟩
    · exact completes_eret n hreads
    · have hK := svcCore_issuedService c n s
      dsimp only
      rw [svcEret_refused (by rw [hK]; exact hen) (by rw [hK]; exact hold) (by rw [hK]; exact hgrant)]
      obtain ⟨hmem, hcore⟩ := svcFatal_spec c (0x1000 + (((issuedService c s).drawn n).draw 16).1.toNat % 0x9000) (((issuedService c s).drawn n).draw 16).2
      have hK' : (((issuedService c s).drawn n).draw 16).2.svcCore c = K.issuedAt s.now := hK
      unfold svcFatalFree
      dsimp only
      rw [hcore, hK']
      refine ⟨rfl, rfl, ?_, hmem⟩
      show (BitVec.ofNat 16 (sat 0xFFFF (K.resets.toNat + 1))).toNat = _
      rw [BitVec.toNat_ofNat]
      unfold sat
      omega

end Sys2Proof.Machine
end

section
/-!
PROOFS. The events of the service region: edges, gathering and service timers, and the watchdog of a service core (O43; R28, R487 to R492, R507).
-/
namespace Sys2Proof.Machine

/-! ### Edges (R491, R492) -/

/-- A source with one more edge, of which `n` make a batch and `t` µs end it. -/
def EvSource.counted (now n t : Nat) (e : EvSource) : EvSource :=
  let e1 := if e.gathering = false ∧ e.pending = false then { e with gathering := true, t0 := now, n := n, t := t } else e
  let e2 := { e1 with batch := min (e1.batch + 1) 255 }
  if e2.gathering = true ∧ e2.n ≤ e2.batch then { e2 with pending := true, gathering := false } else e2

theorem evEdge_of_enabled {k : Nat} {s : State} (hk : k < 255) (hon : srcEnabled k s = true) (hheld : s.svc.held = false) :
    evEdge k s = setSrc k (EvSource.counted s.now (max 1 (cf (srcReg k 0) 15 8 s)) (max 1 (cf (srcReg k 4) 15 0 s))) s := by
  unfold evEdge
  rw [if_neg (by simp [hon, hheld]; omega)]
  rfl

section

variable {now n t : Nat} {e : EvSource}

theorem counted_pending (h : e.pending = true) : (e.counted now n t).pending = true ∧ (e.counted now n t).batch = min (e.batch + 1) 255 := by
  simp only [EvSource.counted, h, Bool.true_eq_false, and_false, if_false]
  split
  · exact ⟨rfl, rfl⟩
  · exact ⟨rfl, rfl⟩

theorem counted_first (hp : e.pending = false) (hg : e.gathering = false) : e.counted now n t = (if n ≤ min (e.batch + 1) 255
    then { e with gathering := false, pending := true, t0 := now, n := n, t := t, batch := min (e.batch + 1) 255 }
    else { e with gathering := true, t0 := now, n := n, t := t, batch := min (e.batch + 1) 255 }) := by
  simp only [EvSource.counted, hp, hg, and_self, if_true, true_and]

theorem counted_next (hp : e.pending = false) (hg : e.gathering = true) : e.counted now n t = (if e.n ≤ min (e.batch + 1) 255
    then { e with gathering := false, pending := true, batch := min (e.batch + 1) 255 } else { e with batch := min (e.batch + 1) 255 }) := by
  simp only [EvSource.counted, hp, hg, Bool.true_eq_false, false_and, if_false, true_and]

end

/-- The toggles that an edge command leaves. -/
def togglesLeft (src : Nat) (merge : Bool) (first : Nat × Nat) (l : List (Nat × Nat)) : List (Nat × Nat) :=
  let rest := l.erase first
  let second := rest.find? (fun x => x.1 == src && decide (x.2 < first.2 + 3))
  if merge then (second.map (fun x => rest.erase x)).getD rest else rest

theorem exec_eventEdge {src : Fin 255} {merge : Bool} {ns : Nat} {s : State} {first : Nat × Nat}
    (h : s.svc.toggles.find? (fun x => x.1 == src.val) = some first) : exec (.eventEdge src merge ns) s
      = .next (evEdge src { advance ns s with svc := { s.svc with toggles := togglesLeft src merge first s.svc.toggles } }) := by
  have hsvc : (advance ns s).svc = s.svc := by simp
  show execEventEdge src merge ns s = _
  unfold execEventEdge togglesLeft
  simp only [hsvc, h]
  cases (s.svc.toggles.erase first).find? (fun x => x.1 == src.val && decide (x.2 < first.2 + 3)) with
  | none => cases merge <;> rfl
  | some x => cases merge <;> rfl

/-- An edge that is detected counts for its source alone. -/
theorem eventEdge_counts {src : Fin 255} {merge : Bool} {ns : Nat} {s : State} {first : Nat × Nat}
    (h : s.svc.toggles.find? (fun x => x.1 == src.val) = some first) (hon : srcEnabled src s = true) (hheld : s.svc.held = false) :
    Completes (.eventEdge src merge ns) s (fun t =>
      t.evSrc src = (s.evSrc src).counted (advance ns s).now (max 1 (cf (srcReg src 0) 15 8 s)) (max 1 (cf (srcReg src 4) 15 0 s))
        ∧ (∀ k, k ≠ src.val → t.evSrc k = s.evSrc k)
        ∧ t = { advance ns s with svc := { s.svc with toggles := togglesLeft src merge first s.svc.toggles, src := t.svc.src } }) := by
  refine ⟨_, exec_eventEdge h, ?_⟩
  have hctl : ∀ a, ctlGet a (advance ns s) = ctlGet a s := fun a => advance_ctlGet ns a s
  generalize advance ns s = u at hctl
  generalize togglesLeft src merge first s.svc.toggles = left
  have hget : ∀ a, ctlGet a { u with svc := { s.svc with toggles := left } } = ctlGet a s := hctl
  have hcf : ∀ a i j, cf a i j { u with svc := { s.svc with toggles := left } } = cf a i j s := fun a i j => by unfold cf; rw [hget]
  have hsrc : ∀ k, State.evSrc k { u with svc := { s.svc with toggles := left } } = s.evSrc k := fun _ => rfl
  have hnow : State.now { u with svc := { s.svc with toggles := left } } = u.now := rfl
  rw [evEdge_of_enabled src.isLt ((srcEnabled_congr (hget _)).trans hon) hheld, hcf, hcf, hnow]
  refine ⟨?_, fun k hk => ?_, rfl⟩
  · rw [evSrc_setSrc, if_pos rfl, hsrc]
  · rw [evSrc_setSrc, if_neg hk, hsrc]

theorem eventEdge_lost {src : Fin 255} {merge : Bool} {ns : Nat} {s : State} {first : Nat × Nat}
    (h : s.svc.toggles.find? (fun x => x.1 == src.val) = some first) (hoff : srcEnabled src s = false ∨ s.svc.held = true) :
    exec (.eventEdge src merge ns) s
      = .next { advance ns s with svc := { s.svc with toggles := togglesLeft src merge first s.svc.toggles } } := by
  rw [exec_eventEdge h]
  have hen : srcEnabled src { advance ns s with svc := { s.svc with toggles := togglesLeft src merge first s.svc.toggles } } = srcEnabled src s :=
    srcEnabled_congr (advance_ctlGet ns _ s)
  congr 1
  refine if_pos ?_
  rw [hen]
  obtain h | h := hoff
  · rw [h]
    rfl
  · simp [h]

/-! ### The time limit of a batch (R492) and the service timers (R507) -/

theorem exec_gatherTimeLimit (src : Fin 255) (ns : Nat) (s : State) : exec (.gatherTimeLimit src ns) s
    = .next (if (s.evSrc src).gathering = true ∧ 1000 * (s.evSrc src).t ≤ (advance ns s).now - (s.evSrc src).t0
        then setSrc src (fun e => { e with pending := true, gathering := false }) (advance ns s) else advance ns s) := by
  have hsrc := evSrc_advance src ns s
  show execGatherTimeLimit src ns s = _
  unfold execGatherTimeLimit
  simp only [hsrc]
  exact (apply_ite Host.Outcome.next _ _ _).symm

/-- A service timer that expires raises its source, and a single one is disabled. -/
def timerExpired (m e : Nat) (s : State) : State :=
  let per := cbit (stmrReg m 0) 1 s
  let s1 := raise (248 + m) s
  let s2 := if per then s1 else ctlSet (stmrReg m 0) (ctlGet (stmrReg m 0) s &&& ~~~1#32) s1
  { s2 with svc := { s2.svc with timers := put m { expires := if per then some (stmrExpiry m e s) else none } s2.svc.timers } }

theorem exec_serviceTimerExpiry (m : Fin 7) (ns : Nat) (s : State) : exec (.serviceTimerExpiry m ns) s
    = .next (match (look ({} : SvcTimer) m s.svc.timers).expires with
      | none => advance ns s
      | some e => if (advance ns s).now < e then advance ns s else timerExpired m e (advance ns s)) := by
  have hsvc : (advance ns s).svc = s.svc := by simp
  show execServiceTimerExpiry m ns s = _
  unfold execServiceTimerExpiry timerExpired
  simp only [hsvc]
  cases (look ({} : SvcTimer) m s.svc.timers).expires with
  | none => rfl
  | some e => exact (apply_ite Host.Outcome.next _ _ _).symm

theorem timerExpired_periodic {m e : Nat} {s : State} (h : cbit (stmrReg m 0) 1 s = true) : timerExpired m e s
    = { raise (248 + m) s with svc := { (raise (248 + m) s).svc with
        timers := put m { expires := some (stmrExpiry m e s) } (raise (248 + m) s).svc.timers } } := by
  simp only [timerExpired, h, if_true]

theorem timerExpired_single {m e : Nat} {s : State} (h : cbit (stmrReg m 0) 1 s = false) : timerExpired m e s
    = ctlSet (stmrReg m 0) (ctlGet (stmrReg m 0) s &&& ~~~1#32) { raise (248 + m) s with svc := { (raise (248 + m) s).svc with
        timers := put m { expires := none } (raise (248 + m) s).svc.timers } } := by
  simp only [timerExpired, h, Bool.false_eq_true, if_false]
  rfl

theorem timerExpired_spec (m e : Nat) (s : State) : (timerExpired m e s).svc.toggles = s.svc.toggles ++ [(248 + m, s.now)]
    ∧ (look {} m (timerExpired m e s).svc.timers).expires = (if cbit (stmrReg m 0) 1 s then some (stmrExpiry m e s) else none)
    ∧ (∀ o, o ≠ m → look {} o (timerExpired m e s).svc.timers = look ({} : SvcTimer) o s.svc.timers)
    ∧ cbit (stmrReg m 0) 0 (timerExpired m e s) = (cbit (stmrReg m 0) 0 s && cbit (stmrReg m 0) 1 s)
    ∧ timerExpired m e s = { s with
        ctl := (timerExpired m e s).ctl
        svc := { s.svc with toggles := (timerExpired m e s).svc.toggles, timers := (timerExpired m e s).svc.timers } } := by
  cases hper : cbit (stmrReg m 0) 1 s with
  | true =>
    rw [timerExpired_periodic hper]
    refine ⟨rfl, ?_, fun o ho => ?_, (Bool.and_true _).symm, rfl⟩
    · rw [look_put, if_pos rfl]
      rfl
    · rw [look_put, if_neg ho]
      rfl
  | false =>
    rw [timerExpired_single hper]
    refine ⟨rfl, ?_, fun o ho => ?_, ?_, rfl⟩
    · show (look ({} : SvcTimer) m (put m ({ expires := none } : SvcTimer) s.svc.timers)).expires = _
      rw [look_put, if_pos rfl]
      rfl
    · show look ({} : SvcTimer) o (put m ({ expires := none } : SvcTimer) s.svc.timers) = _
      rw [look_put, if_neg ho]
    · rw [Bool.and_false]
      unfold cbit
      rw [ctlGet_ctlSet, if_pos rfl, BitVec.testBit_toNat]
      simp

/-! ### The watchdog of a service core (R487 to R489) -/

theorem svcWdtNs_advance (c ns : Nat) (s : State) : svcWdtNs c (advance ns s) = svcWdtNs c s := by
  unfold svcWdtNs cf
  rw [advance_ctlGet]

theorem svcCore_advance (c ns : Nat) (s : State) : (advance ns s).svcCore c = s.svcCore c := by
  unfold State.svcCore
  simp

theorem exec_serviceWatchdogExpiry_due {c : Fin 4} {ns t0 : Nat} {s : State} (h : (s.svcCore c).wdStart = some t0)
    (hrel : (s.svcCore c).released = true) (hle : svcWdtNs c s ≤ (advance ns s).now - t0) :
    exec (.serviceWatchdogExpiry c ns) s = .next (svcFatalFree c (advance ns s)) := by
  show execServiceWatchdogExpiry c ns s = _
  unfold execServiceWatchdogExpiry
  simp only [svcCore_advance, h, hrel, svcWdtNs_advance, hle, and_self, if_true]

theorem exec_serviceWatchdogExpiry_idle {c : Fin 4} {ns : Nat} {s : State}
    (h : ¬ ∃ t0, (s.svcCore c).wdStart = some t0 ∧ (s.svcCore c).released = true ∧ svcWdtNs c s ≤ (advance ns s).now - t0) :
    exec (.serviceWatchdogExpiry c ns) s = .next (advance ns s) := by
  show execServiceWatchdogExpiry c ns s = _
  unfold execServiceWatchdogExpiry
  simp only [svcCore_advance, svcWdtNs_advance]
  cases hw : (s.svcCore c).wdStart with
  | none => rfl
  | some t0 => exact if_neg (fun hd => h ⟨t0, hw, hd.2, hd.1⟩)

/-- A fatal exception with a free cause resets core `c` alone, or, a second within the second outside HOLD, the region. -/
theorem svcFatalFree_spec (c : Nat) (s : State) : ∃ code : BitVec 16, 0x1000 ≤ code.toNat ∧ code.toNat < 0xA000 ∧ ∃ u,
    Restarts c code.toNat s u
      ∧ svcFatalFree c s = (if secondReset c s = true ∧ s.keep.mode ≠ .hold then serviceReinit (record 0x9100 [] (record 0x8002 [c] u)) else u) := by
  have h : svcFatalFree c s = svcFatal c (0x1000 + (s.draw 16).1.toNat % 0x9000) (s.draw 16).2 := rfl
  have hg : Gates s (s.draw 16).2 := ⟨rfl, List.prefix_rfl⟩
  have hb : ∀ n, (s.draw 16).2.berth n = s.berth n := fun _ => rfl
  have hs : secondReset c (s.draw 16).2 = secondReset c s := rfl
  rw [h, svcFatal_eq, hs, hg.keep]
  clear h hs
  generalize s.draw 16 = d at hg hb
  obtain ⟨x, v⟩ := d
  have hlt := x.isLt
  have hn : (BitVec.ofNat 16 (0x1000 + x.toNat % 0x9000)).toNat = 0x1000 + x.toNat % 0x9000 := by
    rw [BitVec.toNat_ofNat]
    omega
  refine ⟨BitVec.ofNat 16 (0x1000 + x.toNat % 0x9000), by omega, by omega, restartCore c (0x1000 + x.toNat % 0x9000) v, ?_, rfl⟩
  rw [hn]
  exact restarts_of_gates hg hb (restartCore_spec _ _ _)

theorem restarted_of_released {k : SvcCore} (h : k.released = true) (code : BitVec 16) : k.restarted code.toNat = {
    released := true, spurious := k.spurious, spurOpen := k.spurOpen, spurAt := k.spurAt, lastClaim := k.lastClaim
    resets := BitVec.ofNat 16 (min 0xFFFF (k.resets.toNat + 1)), fatalCode := code } := by
  simp only [SvcCore.restarted, h, BitVec.ofNat_toNat, BitVec.setWidth_eq]
  rfl

/-- What `serviceReinit` makes of the service region alone. -/
theorem serviceReinit_beside (s : State) : (serviceReinit s).svc.lastReset = (beginReinit 5 s).svc.lastReset
    ∧ (serviceReinit s).mot = (beginReinit 5 s).mot ∧ (serviceReinit s).keep.mode = (beginReinit 5 s).keep.mode := by
  unfold serviceReinit
  extract_lets s1
  have h1 : Talks (beginReinit 5 s) s1 := talks_foldl_resetBerth _ _
  clear_value s1
  have hlast : s1.svc.lastReset = (beginReinit 5 s).svc.lastReset := by rw [h1.rest]
  exact ⟨hlast, h1.mot, h1.mode⟩

/-- A second core reset within the second reinitialises the region, or leads to HOLD when it does so already (R28, R488). -/
theorem serviceReinit_after {c n : Nat} {s v : State} (hlast : v.svc.lastReset = some (c, n)) (hmode : v.keep.mode = s.keep.mode)
    (hreinit : v.reiniting 5 = s.reiniting 5) (hmot : v.mot = s.mot) (hh : s.keep.mode ≠ .hold) :
    let t := serviceReinit (record 0x9100 [] (record 0x8002 [c] v))
    t.svc.held = true ∧ (∀ o, (t.svcCore o).released = false) ∧ t.svc.lastReset = some (c, n)
      ∧ (s.reiniting 5 = false → t.reiniting 5 = true ∧ t.keep.mode = s.keep.mode ∧ t.mot = s.mot)
      ∧ (s.reiniting 5 = true → t.keep.mode = .hold) := by
  have hw : Talks v (record 0x9100 [] (record 0x8002 [c] v)) := (talks_record 0x8002 [c] v).trans (talks_record ..)
  generalize record 0x9100 [] (record 0x8002 [c] v) = w at hw
  have hre : w.reiniting 5 = s.reiniting 5 := (hw.reiniting 5).trans hreinit
  have hwmode : w.keep.mode = s.keep.mode := hw.mode.trans hmode
  have hwh : w.keep.mode ≠ .hold := by rw [hwmode]; exact hh
  have hwlast : w.svc.lastReset = some (c, n) := by rw [hw.rest]; exact hlast
  obtain ⟨-, hheld, hrel, hnext⟩ := serviceReinit_spec w
  obtain ⟨hbeside, hbmot, hbmode⟩ := serviceReinit_beside w
  have hagain : s.reiniting 5 = true → beginReinit 5 w = enterHold 0x9103 (record 0x9103 [5] w) := fun hr => by
    rw [beginReinit, if_neg hwh, startReinit, if_pos (hre.trans hr)]
  refine ⟨hheld, hrel, hbeside.trans (Eq.trans ?_ hwlast), fun hr => ?_, fun hr => ?_⟩
  · cases hr : s.reiniting 5 with
    | false => rw [(beginReinit_spec hwh (hre.trans hr)).rest]
    | true =>
      rw [hagain hr, ((talks_record 0x9103 [5] w).halts.trans (halts_enterHold ..)).rest]
  · obtain ⟨h1, h2⟩ := hnext hwh (hre.trans hr)
    exact ⟨h1, h2.trans hwmode, hbmot.trans ((beginReinit_spec hwh (hre.trans hr)).mot.trans (hw.mot.trans hmot))⟩
  · rw [hbmode, hagain hr]
    exact mode_enterHold _ _

end Sys2Proof.Machine
end

section
/-!
PROOFS. How an event is presented to a service core and claimed (O43; R495, R497, R500 to R505).
-/
namespace Sys2Proof.Machine

/-! ### The frame of an entry (R500) -/

theorem svcWord_pushWords_ne {base j : Nat} {ws : List (Word × Nat)} (hws : ∀ p ∈ ws, base + p.2 ≠ j) {s : State} (h : Rising s.svc.sram) :
    svcWord j (pushWords base ws s) = svcWord j s := by
  induction ws generalizing s with
  | nil => rfl
  | cons p ws ih =>
    refine (ih (fun q hq => hws q (List.mem_cons_of_mem _ hq)) (memGet_svcSet h _ _).1).trans ?_
    exact svcWord_svcSet_other h (hws p (List.mem_cons_self ..)).symm p.1

/-- The words that are pushed are read back, each at its place. -/
theorem svcWord_pushWords {base : Nat} {ws : List Word} {k i : Nat} {w : Word} (hi : ws[i]? = some w) {s : State} (h : Rising s.svc.sram) :
    svcWord (base + (k + i)) (pushWords base (ws.zipIdx k) s) = w := by
  induction ws generalizing k i s with
  | nil => exact absurd hi (by simp)
  | cons v ws ih =>
    have hpush : pushWords base ((v :: ws).zipIdx k) s = pushWords base (ws.zipIdx (k + 1)) (svcSet (base + k) v s) := rfl
    have hr := (memGet_svcSet h (base + k) v).1
    rw [hpush]
    cases i with
    | zero =>
      rw [svcWord_pushWords_ne (fun p hp => ?_) hr]
      · simp only [List.getElem?_cons_zero, Option.some.injEq] at hi
        rw [Nat.add_zero, svcWord_svcSet_same h, hi]
      · have := List.le_snd_of_mem_zipIdx hp
        omega
    | succ i =>
      rw [← ih (k := k + 1) (by simpa using hi) hr]
      congr 1
      omega

/-- What `saveFrame` does where the frame has its room and the MPU grants it. -/
theorem saveFrame_granted {c pc : Nat} {s : State} (hroom : 32 + (s.svcCore c).splim.toNat ≤ (s.svcCore c).sp.toNat)
    (hgrant : (mpuAllows c true 1 ((s.svcCore c).sp.toNat - 32) s).1 = true) : ∃ n,
    saveFrame c pc s = (true, setSvc c (fun k => { k with sp := k.sp - 32 })
      (pushWords (((s.svcCore c).sp.toNat - 32) / 4) (frameWords c pc s).zipIdx (s.drawn n))) := by
  obtain ⟨-, n, hn⟩ := mpuAllows_spec c true 1 ((s.svcCore c).sp.toNat - 32) s s rfl rfl rfl rfl
  refine ⟨n, ?_⟩
  unfold saveFrame
  simp only [hgrant, hn, Bool.not_true, Bool.false_eq_true, if_false]
  rw [if_neg (by omega)]
  rfl

/-- A frame without its room, or refused by the MPU, is fatal. -/
theorem saveFrame_refused {c pc : Nat} {s : State} (h : ¬ (32 + (s.svcCore c).splim.toNat ≤ (s.svcCore c).sp.toNat
    ∧ (mpuAllows c true 1 ((s.svcCore c).sp.toNat - 32) s).1 = true)) : ∃ n, saveFrame c pc s = (false, svcFatalFree c (s.drawn n)) := by
  obtain ⟨-, n, hn⟩ := mpuAllows_spec c true 1 ((s.svcCore c).sp.toNat - 32) s s rfl rfl rfl rfl
  unfold saveFrame
  by_cases hroom : (s.svcCore c).sp.toNat < 32 + (s.svcCore c).splim.toNat
  · exact ⟨s.free, if_pos hroom⟩
  · refine ⟨n, ?_⟩
    have hgrant : (mpuAllows c true 1 ((s.svcCore c).sp.toNat - 32) s).1 = false := by
      cases hg : (mpuAllows c true 1 ((s.svcCore c).sp.toNat - 32) s).1 with
      | false => rfl
      | true => exact absurd ⟨by omega, hg⟩ h
    simp only [if_neg hroom, hgrant, hn, Bool.not_false, if_true]

/-- The registers that a tail entry leaves undefined are g1 to g6 (R505). -/
theorem tailRegs_spec (n : Nat) (regs : Tab Word) (s : State) : ∃ R m, (List.range n).foldl (fun (acc : Tab Word × State) i =>
    let d := acc.2.draw 32
    (put (i + 1) d.1 acc.1, d.2)) (regs, s) = (R, s.drawn m) ∧ ∀ g, g = 0 ∨ n < g → look 0 g R = look 0 g regs := by
  induction n with
  | zero => exact ⟨regs, s.free, rfl, fun _ _ => rfl⟩
  | succ n ih =>
    obtain ⟨R, m, hfold, hlook⟩ := ih
    rw [List.range_succ, List.foldl_append, hfold]
    refine ⟨_, m + 1, rfl, fun g hg => ?_⟩
    rw [look_put, if_neg (by omega), hlook g (by omega)]

/-! ### Presentation (R495, R500, R505) -/

/-- A core that is presented the request of source `k` at priority `prio`, its frame kept or saved. -/
def SvcCore.entering (regs : Tab Word) (k prio : Nat) (q : SvcCore) : SvcCore :=
  { q with sp := q.sp - 32, regs := regs, eretJust := 0, presented := some { src := k, prio := prio } }

/-- The state with `n` draws and the SRAM of the service region `m`. -/
def State.pushed (n : Nat) (m : Memory) (s : State) : State := { s with free := n, svc := { s.svc with sram := m } }

/-- What a tail entry is: the return just made had found a request, or finds one now (R505). -/
def tailEntry (c : Nat) (tail : Bool) (s : State) : Prop := (s.svcCore c).eretJust = 2 ∨ ((s.svcCore c).eretJust = 1 ∧ tail = true)

theorem tailEntry_iff (c : Nat) (tail : Bool) (s : State) :
    (decide ((s.svcCore c).eretJust = 2) || (decide ((s.svcCore c).eretJust = 1) && tail)) = true ↔ tailEntry c tail s := by
  simp [tailEntry]

theorem presentTo_tail {c prio k : Nat} {tail : Bool} {s : State} (hw : winner c s = some (prio, k)) (h : tailEntry c tail s) : ∃ R n,
    presentTo c tail s = setSvc c (SvcCore.entering R k prio) (s.pushed n s.svc.sram) ∧ ∀ g, g = 0 ∨ 6 < g → look 0 g R = look 0 g (s.svcCore c).regs := by
  obtain ⟨R, n, hfold, hlook⟩ := tailRegs_spec 6 (s.svcCore c).regs s
  refine ⟨R, n, ?_, hlook⟩
  unfold presentTo
  rw [hw]
  dsimp only
  rw [if_pos ((tailEntry_iff c tail s).mpr h), hfold]
  rfl

/-- The words of a frame, by their places. -/
theorem frameWords_getElem (c pc : Nat) (s : State) {i : Nat} (hi : i < 8) : (frameWords c pc s)[i]?
    = some (if i = 0 then w32 pc else if i = 1 then w32 (s.svcCore c).status else look 0 (i - 1) (s.svcCore c).regs) := by
  match i, hi with
  | 0, _ => rfl
  | 1, _ => rfl
  | i + 2, hi =>
    have h6 : i < 6 := by omega
    simp [frameWords, h6]

theorem put_put {α : Type} (k : Nat) (v w : α) (t : Tab α) : put k v (put k w t) = put k v t := by
  induction t with
  | nil => simp [put]
  | cons p t ih =>
    obtain ⟨j, x⟩ := p
    by_cases hlt : k < j
    · simp [put, hlt]
    · by_cases heq : j = k
      · simp [put, heq]
      · simp [put, hlt, heq, ih]

/-- Two changes of a core are one. -/
theorem setSvc_setSvc (c : Nat) (f g : SvcCore → SvcCore) (s : State) : setSvc c g (setSvc c f s) = setSvc c (fun q => g (f q)) s := by
  have h : upd {} c g (upd {} c f s.svc.cores) = upd {} c (fun q => g (f q)) s.svc.cores := by
    unfold upd
    rw [put_put, look_put, if_pos rfl]
  show { s with svc := { s.svc with cores := upd {} c g (upd {} c f s.svc.cores) } } = _
  rw [h]
  rfl

theorem setSvc_congr {c : Nat} {f g : SvcCore → SvcCore} {s : State} (h : f (s.svcCore c) = g (s.svcCore c)) : setSvc c f s = setSvc c g s := by
  have hu : upd {} c f s.svc.cores = upd {} c g s.svc.cores := congrArg (fun q => put c q s.svc.cores) h
  unfold setSvc
  rw [hu]

theorem presentTo_saves {c prio k : Nat} {tail : Bool} {s : State} (hw : winner c s = some (prio, k)) (h : ¬ tailEntry c tail s)
    (hroom : 32 + (s.svcCore c).splim.toNat ≤ (s.svcCore c).sp.toNat) (hgrant : (mpuAllows c true 1 ((s.svcCore c).sp.toNat - 32) s).1 = true) : ∃ n m,
    presentTo c tail s = setSvc c (SvcCore.entering (s.svcCore c).regs k prio) (s.pushed n m)
      ∧ (Rising s.svc.sram → ∀ i < 8, svcWord (((s.svcCore c).sp.toNat - 32) / 4 + i) (s.pushed n m)
        = if i = 0 then w32 (s.svcCore c).pc else if i = 1 then w32 (s.svcCore c).status else look 0 (i - 1) (s.svcCore c).regs) := by
  obtain ⟨n, hsave⟩ := saveFrame_granted (pc := (s.svcCore c).pc) hroom hgrant
  obtain ⟨m, hm⟩ := pushWords_frame (((s.svcCore c).sp.toNat - 32) / 4) (frameWords c (s.svcCore c).pc s).zipIdx (s.drawn n)
  refine ⟨n, m, ?_, fun hr i hi => ?_⟩
  · unfold presentTo
    rw [hw]
    dsimp only
    rw [if_neg (fun e => h ((tailEntry_iff c tail s).mp e)), hsave, hm, if_pos rfl]
    dsimp only
    rw [setSvc_setSvc]
    exact setSvc_congr (s := s.pushed n m) rfl
  · have hpushed : s.pushed n m = pushWords (((s.svcCore c).sp.toNat - 32) / 4) (frameWords c (s.svcCore c).pc s).zipIdx (s.drawn n) := hm.symm
    have hword := fun w hw => svcWord_pushWords (base := ((s.svcCore c).sp.toNat - 32) / 4) (k := 0) (i := i) (w := w)
      (ws := frameWords c (s.svcCore c).pc s) hw (s := s.drawn n) hr
    rw [hpushed]
    rw [Nat.zero_add] at hword
    exact hword _ (frameWords_getElem c _ s hi)

/-! ### The claim edge (R500 to R502) -/

theorem claimSource_spec {c k prio : Nat} (hk : k ≠ 255) (s : State) :
    (∀ o, o ≠ c → (claimSource c k prio s).svcCore o = s.svcCore o)
      ∧ (claimSource c k prio s).svcCore c = { s.svcCore c with
          stack := (prio, k) :: (s.svcCore c).stack, priv := true, waiting := false, presented := none, eoiJust := false, eretJust := 0
          lastClaim := BitVec.ofNat 8 k, pc := ((s.svcCore c).vbase.toNat + 16 * k) / 4 % 2 ^ 21 }
      ∧ (claimSource c k prio s).evSrc k = { s.evSrc k with claimed := (s.evSrc k).batch, batch := 0, pending := false }
      ∧ (∀ o, o ≠ k → (claimSource c k prio s).evSrc o = s.evSrc o)
      ∧ claimSource c k prio s
        = { s with svc := { s.svc with cores := (claimSource c k prio s).svc.cores, src := (claimSource c k prio s).svc.src } } := by
  have h : claimSource c k prio s = setSvc c (fun q => { q with
      stack := (prio, k) :: q.stack, priv := true, waiting := false, presented := none, eoiJust := false, eretJust := 0
      lastClaim := BitVec.ofNat 8 k, pc := (q.vbase.toNat + 16 * k) / 4 % 2_097_152 })
      (setSrc k (fun e => { e with claimed := e.batch, batch := 0, pending := false }) s) := by
    unfold claimSource
    rw [if_neg hk]
  have hsrc : ∀ (f : SvcCore → SvcCore) (o : Nat) (u : State), (setSvc c f u).evSrc o = u.evSrc o := fun _ _ _ => rfl
  have hcore : ∀ (f : EvSource → EvSource) (o : Nat), (setSrc k f s).svcCore o = s.svcCore o := fun _ _ => rfl
  rw [h]
  refine ⟨fun o ho => ?_, ?_, ?_, fun o ho => ?_, rfl⟩
  · rw [svcCore_setSvc, if_neg ho, hcore]
  · rw [svcCore_setSvc, if_pos rfl, hcore] <;> rfl
  · rw [hsrc, evSrc_setSrc, if_pos rfl]
  · rw [hsrc, evSrc_setSrc, if_neg ho]

theorem claimPresented_wins {c : Nat} {p : Presented} {w : Nat × Nat} {s : State} (hp : (s.svcCore c).presented = some p) (hw : winner c s = some w)
    (hwins : winsOver w (p.prio, p.src) s = true) : claimPresented c s = claimSource c w.2 w.1 s := by
  unfold claimPresented
  simp only [hp, hw, hwins, if_true]

theorem claimPresented_keeps {c : Nat} {p : Presented} {w : Nat × Nat} {s : State} (hp : (s.svcCore c).presented = some p) (hw : winner c s = some w)
    (hwins : winsOver w (p.prio, p.src) s = false) (hk : presentable c p.src s = true) : claimPresented c s = claimSource c p.src p.prio s := by
  unfold claimPresented
  simp only [hp, hw, hwins, hk, Bool.false_eq_true, if_false, if_true]

theorem claimPresented_spurious {c : Nat} {p : Presented} {s : State} (hp : (s.svcCore c).presented = some p)
    (h : ∀ w, winner c s = some w → winsOver w (p.prio, p.src) s = false ∧ presentable c p.src s = false) :
    claimPresented c s = claimSource c 255 (if stacked s then p.prio else 15) (noteSpurious c s) := by
  unfold claimPresented
  simp only [hp]
  cases hw : winner c s with
  | none => rfl
  | some w =>
    obtain ⟨h1, h2⟩ := h w hw
    simp only [h1, h2, Bool.false_eq_true, if_false]

/-- A spurious claim is counted, and the journal alone hears of it (R502). -/
theorem noteSpurious_spec (c : Nat) (s : State) : ∃ f : SvcCore → SvcCore, ∃ j, noteSpurious c s = { setSvc c f s with jnl := j }
    ∧ ∀ q, f q = { q with spurious := BitVec.ofNat 16 (sat 0xFFFF (q.spurious.toNat + 1)), spurOpen := (f q).spurOpen, spurAt := (f q).spurAt } := by
  unfold noteSpurious
  extract_lets k n quiet s1
  refine ⟨fun q => { q with
    spurious := BitVec.ofNat 16 (sat 0xFFFF (q.spurious.toNat + 1))
    spurOpen := if quiet then n else 0, spurAt := if quiet then q.spurAt else some s.now }, ?_⟩
  by_cases hq : quiet = true
  · exact ⟨s.jnl, if_pos hq, fun _ => rfl⟩
  · obtain ⟨j, hj⟩ := jnlOnly_recordC 0x8010 (if n = 1 then 0 else 2) n (le 4 c ++ le 4 n) s1
    exact ⟨j, (if_neg hq).trans hj, fun _ => rfl⟩

/-- What a spurious claim leaves. -/
theorem claimSource_spurious (c : Fin 4) (prio : Nat) (s : State) :
    let t := claimSource c 255 prio (noteSpurious c s)
    let L := t.svcCore c
    let K := s.svcCore c
    L.stack = (prio, 255) :: K.stack ∧ L.pc = (K.vbase.toNat + 16 * 255) / 4 % 2 ^ 21 ∧ L.priv = true ∧ L.presented = none
      ∧ L.lastClaim = 255 ∧ L.spurious.toNat = min 0xFFFF (K.spurious.toNat + 1) ∧ L.regs = K.regs ∧ L.sp = K.sp
      ∧ (∀ o, o ≠ c.val → t.svcCore o = s.svcCore o) ∧ t = { s with jnl := t.jnl, svc := { s.svc with cores := t.svc.cores } } := by
  obtain ⟨f, j, hnote, hf⟩ := noteSpurious_spec c s
  have h : claimSource c 255 prio (noteSpurious c s) = setSvc c (fun q => { q with
      stack := (prio, 255) :: q.stack, priv := true, waiting := false, presented := none, eoiJust := false, eretJust := 0
      lastClaim := BitVec.ofNat 8 255, pc := (q.vbase.toNat + 16 * 255) / 4 % 2_097_152 }) { setSvc c f s with jnl := j } := by
    rw [hnote]
    rfl
  have hcore : ∀ o, ({ setSvc c f s with jnl := j } : State).svcCore o = if o = c.val then f (s.svcCore c) else s.svcCore o :=
    fun o => svcCore_setSvc c.val o f s
  rw [h]
  dsimp only
  refine ⟨?_, ?_, ?_, ?_, ?_, ?_, ?_, ?_, fun o ho => ?_, rfl⟩
  · rw [svcCore_setSvc, if_pos rfl, hcore, if_pos rfl, hf]
  · rw [svcCore_setSvc, if_pos rfl, hcore, if_pos rfl, hf] <;> rfl
  · rw [svcCore_setSvc, if_pos rfl]
  · rw [svcCore_setSvc, if_pos rfl]
  · rw [svcCore_setSvc, if_pos rfl] <;> rfl
  · rw [svcCore_setSvc, if_pos rfl, hcore, if_pos rfl, hf]
    show (BitVec.ofNat 16 (sat 0xFFFF ((s.svcCore c).spurious.toNat + 1))).toNat = _
    rw [BitVec.toNat_ofNat]
    unfold sat
    omega
  · rw [svcCore_setSvc, if_pos rfl, hcore, if_pos rfl, hf]
  · rw [svcCore_setSvc, if_pos rfl, hcore, if_pos rfl, hf]
  · rw [svcCore_setSvc, if_neg ho, hcore, if_neg ho]

/-! ### The entry as one command -/

theorem exec_eventPresentation {c : Fin 4} {toClaim tail : Bool} {s : State} (hp : (s.svcCore c).presented = none)
    (hwait : ¬ ((s.svcCore c).eoiJust = true ∧ svcWord (s.svcCore c).pc s = 0xC000_0000)) : exec (.eventPresentation c toClaim tail) s
      = .next (if toClaim then claimPresented c (presentTo c tail s) else presentTo c tail s) := by
  show execEventPresentation c toClaim tail s = _
  unfold execEventPresentation
  simp only [hp, Option.isSome_none, Bool.false_eq_true, if_false]
  refine if_neg (fun h => hwait ?_)
  simpa using h

theorem exec_eventPresentation_presented {c : Fin 4} {toClaim tail : Bool} {p : Presented} {s : State} (hp : (s.svcCore c).presented = some p) :
    exec (.eventPresentation c toClaim tail) s = .next (claimPresented c s) := by
  show execEventPresentation c toClaim tail s = _
  unfold execEventPresentation
  simp only [hp, Option.isSome_some, if_true]

theorem presented_serviceReinit (c : Nat) (s : State) : ((serviceReinit s).svcCore c).presented = none := by
  unfold serviceReinit
  extract_lets s1
  clear_value s1
  exact look_map_of (f := fun k : SvcCore => { k with released := false, presented := none }) (fun k : SvcCore => k.presented = none) rfl (fun _ => rfl) c _

/-- A core that is reset is presented nothing. -/
theorem presented_svcFatalFree (c : Nat) (s : State) : ((svcFatalFree c s).svcCore c).presented = none := by
  obtain ⟨code, -, -, u, hu, hfatal⟩ := svcFatalFree_spec c s
  have hcore : (u.svcCore c).presented = none := by rw [hu.core, if_pos rfl]; rfl
  rw [hfatal]
  split
  · exact presented_serviceReinit c _
  · exact hcore

/-- A core whose frame finds no room or no grant is reset, and nothing is claimed. -/
theorem completes_presentation_fatal {c : Fin 4} {prio k : Nat} {toClaim tail : Bool} {s : State} (hp : (s.svcCore c).presented = none)
    (hwait : ¬ ((s.svcCore c).eoiJust = true ∧ svcWord (s.svcCore c).pc s = 0xC000_0000)) (hw : winner c s = some (prio, k))
    (hagain : ¬ tailEntry c tail s) (hsaves : ¬ (32 + (s.svcCore c).splim.toNat ≤ (s.svcCore c).sp.toNat
      ∧ (mpuAllows c true 1 ((s.svcCore c).sp.toNat - 32) s).1 = true)) :
    Completes (.eventPresentation c toClaim tail) s (fun t => let L := t.svcCore c
      L.resets.toNat = min 0xFFFF ((s.svcCore c).resets.toNat + 1) ∧ L.pc = 0 ∧ L.stack = [] ∧ L.di = true ∧ t.svc.sram = s.svc.sram) := by
  obtain ⟨n, hn⟩ := saveFrame_refused (pc := (s.svcCore c).pc) hsaves
  have hpresent : presentTo c tail s = svcFatalFree c (s.drawn n) := by
    unfold presentTo
    rw [hw]
    dsimp only
    rw [if_neg (fun e => hagain ((tailEntry_iff c tail s).mp e)), hn]
    exact if_neg Bool.false_ne_true
  have hclaim : claimPresented c (svcFatalFree c (s.drawn n)) = svcFatalFree c (s.drawn n) := by
    unfold claimPresented
    rw [presented_svcFatalFree]
  refine ⟨svcFatalFree c (s.drawn n), ?_, ?_⟩
  · rw [exec_eventPresentation hp hwait, hpresent, hclaim]
    exact congrArg Host.Outcome.next (ite_self _)
  · obtain ⟨hmem, hcore⟩ := svcFatal_spec c (0x1000 + ((s.drawn n).draw 16).1.toNat % 0x9000) ((s.drawn n).draw 16).2
    have hK : ((s.drawn n).draw 16).2.svcCore c = s.svcCore c := rfl
    unfold svcFatalFree
    dsimp only
    rw [hcore, hK]
    refine ⟨?_, rfl, rfl, rfl, hmem⟩
    show (BitVec.ofNat 16 (sat 0xFFFF ((s.svcCore c).resets.toNat + 1))).toNat = _
    rw [BitVec.toNat_ofNat]
    unfold sat
    omega

/-- What a core that enters has, and what its claim edge finds. -/
theorem entered_spec {c : Fin 4} {prio k : Nat} {R : Tab Word} {s v : State} (hv : v = setSvc c (SvcCore.entering R k prio) s)
    (hw : winner c s = some (prio, k)) :
    v.svcCore c = (s.svcCore c).entering R k prio ∧ (∀ o, o ≠ c.val → v.svcCore o = s.svcCore o) ∧ claimPresented c v = claimSource c k prio v := by
  subst hv
  have hcore : (setSvc c (SvcCore.entering R k prio) s).svcCore c = (s.svcCore c).entering R k prio := by rw [svcCore_setSvc, if_pos rfl]
  refine ⟨hcore, fun o ho => by rw [svcCore_setSvc, if_neg ho], ?_⟩
  have hwin : winner c (setSvc c (SvcCore.entering R k prio) s) = some (prio, k) := (winner_setSvc (c := c.val) (s := s) rfl rfl rfl rfl).trans hw
  have hpres : presentable c k (setSvc c (SvcCore.entering R k prio) s) = true := ((winnerIsChosen c _).2 (prio, k) hwin).1
  exact claimPresented_keeps (p := { src := k, prio := prio }) (by rw [hcore]; rfl) hwin (winsOver_irrefl _ _) hpres

end Sys2Proof.Machine
end

section
/-!
PROOFS. Events are gathered, presented and configured (O43).
-/
namespace Sys2Proof.Machine

/-! ### Registers of the event controller -/

/-- A change of sources alone. -/
theorem forOnes_sources {g : Nat → State → State} (h : ∀ k u, ∃ src, g k u = { u with svc := { u.svc with src := src } }) (v : Word) (s : State) :
    forOnes 32 v g s = { s with svc := { s.svc with src := (forOnes 32 v g s).svc.src } } := by
  unfold forOnes
  refine List.foldlRecOn (motive := fun t : State => t = { s with svc := { s.svc with src := t.svc.src } }) _ _ rfl (fun t ht k _ => ?_)
  obtain ⟨src, hsrc⟩ := h k t
  rw [hsrc, ht]

theorem evEdge_sources (k : Nat) (s : State) : ∃ src, evEdge k s = { s with svc := { s.svc with src := src } } := by
  unfold evEdge
  split
  · exact ⟨s.svc.src, rfl⟩
  · exact ⟨_, rfl⟩

theorem srcDrop_sources (k : Nat) (s : State) : ∃ src, srcDrop k s = { s with svc := { s.svc with src := src } } := by
  unfold srcDrop
  split
  · exact ⟨_, rfl⟩
  · exact ⟨s.svc.src, rfl⟩

/-- An edge of an enabled source is counted, and its batch gathers or is pending. -/
theorem counted_either (now n t : Nat) (e : EvSource) : (e.counted now n t).batch = min (e.batch + 1) 255
    ∧ ((e.counted now n t).pending = true ∨ (e.counted now n t).gathering = true) := by
  cases hp : e.pending with
  | true => exact ⟨(counted_pending hp).2, .inl (counted_pending hp).1⟩
  | false =>
    cases hg : e.gathering with
    | false =>
      rw [counted_first hp hg]
      split
      · exact ⟨rfl, .inl rfl⟩
      · exact ⟨rfl, .inr rfl⟩
    | true =>
      rw [counted_next hp hg]
      split
      · exact ⟨rfl, .inl rfl⟩
      · exact ⟨rfl, .inr hg⟩

/-- The row of EVC_CTRL. -/
abbrev evcCtrlRow : RegRow := rowsEvc[0]
/-- The row of EVC_STMR_CFG. -/
abbrev evcStmrRow : RegRow := rowsEvc[9]

theorem findReg_evcCtrl : findReg 0x0700_0000 = some (evcCtrlRow, 0, 0) :=
  findReg_evc (p := 0) rfl (by decide) (by decide) rfl (show 0 < 1 by decide) rfl (by decide)

theorem findReg_evcStmr (m : Fin 7) : findReg (stmrReg m 0) = some (evcStmrRow, m.val, 0) :=
  findReg_evc (p := 9) rfl (by decide) (by decide) rfl m.isLt rfl (by unfold stmrReg; omega)

theorem regWrite_evcCtrl (v : Word) (s : State) : regWrite 0x0700_0000 v s = storeBits evcCtrlRow 0x0700_0000 v s :=
  regWrite_evc findReg_evcCtrl rfl (by decide) v s

theorem regWrite_evcStmr (m : Fin 7) (v : Word) (s : State) :
    regWrite (stmrReg m 0) v s = stmrWrite m (ctlGet (stmrReg m 0) (storeBits evcStmrRow (stmrReg m 0) v s)) s :=
  regWrite_evc (findReg_evcStmr m) rfl (by unfold stmrReg; omega) v s

/-- What a row that stores stores of `v` at `a`. -/
theorem stored_bit {r : RegRow} {a i : Nat} {m : Word} (hm : r.mask [.rw, .rwc] = m) (hi : m.getLsbD i = true) (v : Word) (s : State) :
    (ctlGet a (storeBits r a v s)).getLsbD i = v.getLsbD i := by
  rw [ctlGet_storeBits, hm]
  simp [hi]

theorem storeBits_rest (r : RegRow) (a : Nat) (v : Word) (s : State) : storeBits r a v s = { s with ctl := (storeBits r a v s).ctl } := by
  unfold storeBits
  dsimp only
  split
  · rfl
  · rfl

/-- EVC_CTRL stores its two bits. -/
theorem evcCtrl_written (v : Word) {u s : State} (hctl : ∀ a, ctlGet a u = ctlGet a s) :
    storeBits evcCtrlRow 0x0700_0000 v u = { u with ctl := (storeBits evcCtrlRow 0x0700_0000 v u).ctl }
      ∧ (∀ i < 2, cbit 0x0700_0000 i (storeBits evcCtrlRow 0x0700_0000 v u) = v.getLsbD i)
      ∧ ∀ a, a ≠ 0x0700_0000 → ctlGet a (storeBits evcCtrlRow 0x0700_0000 v u) = ctlGet a s := by
  refine ⟨storeBits_rest _ _ _ _, fun i hi => ?_, fun a ha => (ctlGet_storeBits_other _ ha v u).trans (hctl a)⟩
  have hm : evcCtrlRow.mask [.rw, .rwc] = 3 := by decide
  have h3 : ∀ j < 2, (3 : Word).getLsbD j = true := by decide
  exact (BitVec.testBit_toNat _).trans (stored_bit hm (h3 i hi) v u)

/-- A bit of EVC_RAISE is one edge of its source (R493). -/
theorem raised_of {j : Nat} {bit : Bool} {u s t : State} (hj : j < 255) (hen : srcEnabled j u = srcEnabled j s) (hsvc : u.svc = s.svc)
    (hsrc : u.evSrc j = s.evSrc j) (h : t.evSrc j = if bit then (evEdge j u).evSrc j else s.evSrc j) :
    if bit && srcEnabled j s && !s.svc.held then (t.evSrc j).batch = min ((s.evSrc j).batch + 1) 255
        ∧ ((t.evSrc j).pending = true ∨ (t.evSrc j).gathering = true) else t.evSrc j = s.evSrc j := by
  cases bit with
  | false => exact h
  | true =>
    rw [if_pos rfl] at h
    cases hon : srcEnabled j s with
    | false =>
      rw [evEdge_of_disabled (hen.trans hon), hsrc] at h
      exact h
    | true =>
      cases hheld : s.svc.held with
      | true =>
        have hoff : evEdge j u = u := if_pos (by rw [hsvc, hheld]; simp)
        rw [hoff, hsrc] at h
        exact h
      | false =>
        rw [evEdge_of_enabled hj (hen.trans hon) (by rw [hsvc, hheld]), evSrc_setSrc, if_pos rfl, hsrc] at h
        rw [h]
        exact counted_either _ _ _ _

/-- A write of EVC_STMR_CFG starts or stops its timer (R507). -/
theorem stmrWrite_spec (m : Fin 7) (v : Word) {u s : State} (hctl : ∀ a, ctlGet a u = ctlGet a s) (hsvc : u.svc = s.svc) :
    let t := stmrWrite m (ctlGet (stmrReg m 0) (storeBits evcStmrRow (stmrReg m 0) v u)) u
    t = { u with ctl := t.ctl, svc := t.svc }
      ∧ (look {} m t.svc.timers).expires = (if v.getLsbD 0 then some (stmrExpiry m u.now s) else none)
      ∧ cbit (stmrReg m 0) 0 t = v.getLsbD 0 ∧ cbit (stmrReg m 0) 1 t = v.getLsbD 1 ∧ (∀ a, a ≠ stmrReg m 0 → ctlGet a t = ctlGet a s)
      ∧ ∀ o, o ≠ m.val → look {} o t.svc.timers = look ({} : SvcTimer) o s.svc.timers := by
  have hm : evcStmrRow.mask [.rw, .rwc] = 3 := by decide
  have h0 := stored_bit (a := stmrReg m 0) hm (show (3 : Word).getLsbD 0 = true by decide) v u
  have h1 := stored_bit (a := stmrReg m 0) hm (show (3 : Word).getLsbD 1 = true by decide) v u
  generalize ctlGet (stmrReg m 0) (storeBits evcStmrRow (stmrReg m 0) v u) = w at h0 h1
  have hexp : stmrExpiry m u.now u = stmrExpiry m u.now s := by
    unfold stmrExpiry
    rw [hctl]
  have hget : ∀ a, ctlGet a (stmrWrite m w u) = if a = stmrReg m 0 then w else ctlGet a u := fun a => ctlGet_ctlSet (stmrReg m 0) a w u
  have htimers : (stmrWrite m w u).svc.timers
      = put m { expires := if w.getLsbD 0 then some (stmrExpiry m u.now u) else none } u.svc.timers := rfl
  intro t
  refine ⟨rfl, ?_, ?_, ?_, fun a ha => ?_, fun o ho => ?_⟩
  · rw [show t.svc.timers = _ from htimers, look_put, if_pos rfl, h0, hexp]
  · unfold cbit
    rw [hget, if_pos rfl, BitVec.testBit_toNat, h0]
  · unfold cbit
    rw [hget, if_pos rfl, BitVec.testBit_toNat, h1]
  · rw [hget, if_neg ha, hctl]
  · rw [show t.svc.timers = _ from htimers, look_put, if_neg ho, hsvc]

/-- EVC_SRC_CFG stores the priority as written. -/
theorem srcPrio_stored (src : Nat) (v : Word) (u : State) : bits 3 0 (ctlGet (srcReg src 0) (storeBits evcSrcCfgRow (srcReg src 0) v u)).toNat
    = v.toNat % 16 := by
  have hm : evcSrcCfgRow.mask [.rw, .rwc] = 0x800F_FF0F := by decide
  have hlow : ∀ i < 4, (0x800F_FF0F : Word).getLsbD i = true := by decide
  have h : (ctlGet (srcReg src 0) (storeBits evcSrcCfgRow (srcReg src 0) v u)).setWidth 4 = v.setWidth 4 := by
    apply BitVec.eq_of_getLsbD_eq
    intro i hi
    rw [BitVec.getLsbD_setWidth, BitVec.getLsbD_setWidth, stored_bit hm (hlow i hi)]
  have h2 := congrArg BitVec.toNat h
  rw [BitVec.toNat_setWidth, BitVec.toNat_setWidth] at h2
  unfold bits
  omega

/-- What EVC_SRC_CFG reads once it holds `w`, whose enable and priority are those of `v`. -/
theorem srcCfg_read {src : Nat} {v w : Word} {s t : State} (h : ∀ a, ctlGet a t = if a = srcReg src 0 then w else ctlGet a s)
    (hen : w.getLsbD 31 = v.getLsbD 31) (hprio : bits 3 0 w.toNat = v.toNat % 16) :
    srcEnabled src t = v.getLsbD 31 ∧ srcPrio src t = v.toNat % 16 ∧ ∀ a, a ≠ srcReg src 0 → ctlGet a t = ctlGet a s := by
  refine ⟨?_, ?_, fun a ha => by rw [h, if_neg ha]⟩
  · unfold srcEnabled cbit
    rw [h, if_pos rfl, BitVec.testBit_toNat, hen]
  · unfold srcPrio cf
    rw [h, if_pos rfl, hprio]

/-- A write of EVC_SRC_CFG configures its source; a clear enable clears it, and the first enable after a wake finds what the watcher latched (R493, R509). -/
theorem srcCfgWrite_spec (src : Fin 255) (v : Word) {u s : State} (hctl : ∀ a, ctlGet a u = ctlGet a s) (hsvc : u.svc = s.svc) :
    let t := srcCfgWrite src (ctlGet (srcReg src 0) (storeBits evcSrcCfgRow (srcReg src 0) v u)) u
    let owed := v.getLsbD 31 = true ∧ srcEnabled src s = false ∧ src.val < 16 ∧ s.svc.wakeOwed.getLsbD src = true
    t = { u with ctl := t.ctl, svc := t.svc } ∧ srcEnabled src t = v.getLsbD 31 ∧ srcPrio src t = v.toNat % 16
      ∧ (∀ o, o ≠ src.val → t.evSrc o = s.evSrc o) ∧ (∀ a, a ≠ srcReg src 0 → ctlGet a t = ctlGet a s)
      ∧ (v.getLsbD 31 = false → t.evSrc src = { s.evSrc src with pending := false, gathering := false, batch := 0 })
      ∧ (owed → (t.evSrc src).pending = true ∧ t.svc.wakeOwed.getLsbD src = false)
      ∧ (v.getLsbD 31 = true → ¬ owed → t.evSrc src = s.evSrc src) := by
  have hprio := srcPrio_stored src v u
  have hen := enable_storeBits_evcSrcCfg (srcReg src 0) v u
  have hwas : srcEnabled src u = srcEnabled src s := srcEnabled_congr (hctl _)
  have hsrc : ∀ o, u.evSrc o = s.evSrc o := fun o => by unfold State.evSrc; rw [hsvc]
  generalize ctlGet (srcReg src 0) (storeBits evcSrcCfgRow (srcReg src 0) v u) = w at hprio hen
  have hget : ∀ a, ctlGet a (ctlSet (srcReg src 0) w u) = if a = srcReg src 0 then w else ctlGet a s := fun a => by rw [ctlGet_ctlSet, hctl]
  have hev : ∀ o, (ctlSet (srcReg src 0) w u).evSrc o = s.evSrc o := hsrc
  have hcore := fun (t : State) (h : ∀ a, ctlGet a t = if a = srcReg src 0 then w else ctlGet a s) => srcCfg_read (src := src) (t := t) h hen hprio
  intro t owed
  by_cases hon : w.getLsbD 31 = true
  · have hv : v.getLsbD 31 = true := hen.symm.trans hon
    by_cases howed : owed
    · have ht : t = setSrc src (fun e => { e with pending := true, gathering := false, batch := min (e.batch + 1) 255 })
          { ctlSet (srcReg src 0) w u with
            svc := { (ctlSet (srcReg src 0) w u).svc with wakeOwed := (ctlSet (srcReg src 0) w u).svc.wakeOwed &&& ~~~(1#16 <<< src.val) } } := by
        obtain ⟨-, hoff, hlt, hwake⟩ := howed
        simp only [t, srcCfgWrite, hon, hwas, hoff, hlt, hsvc, hwake, Bool.not_true, Bool.not_false, decide_true, Bool.and_self, Bool.false_eq_true,
          if_false, if_true]
      rw [ht]
      obtain ⟨h1, h2, h3⟩ := hcore _ hget
      refine ⟨rfl, h1, h2, fun o ho => ?_, h3, fun h => absurd (h.symm.trans hv) (by decide), fun _ => ⟨?_, ?_⟩, fun _ h => absurd howed h⟩
      · rw [evSrc_setSrc, if_neg ho]
        exact hev o
      · rw [evSrc_setSrc, if_pos rfl]
      · show (u.svc.wakeOwed &&& ~~~(1#16 <<< src.val)).getLsbD src = false
        have := howed.2.2.1
        simp [this]
    · have ht : t = ctlSet (srcReg src 0) w u := by
        simp only [t, srcCfgWrite, hon, hwas, hsvc, Bool.not_true, Bool.false_eq_true, if_false]
        refine if_neg (fun h => howed ?_)
        simpa [owed, hv, and_assoc] using h
      rw [ht]
      obtain ⟨h1, h2, h3⟩ := hcore _ hget
      exact ⟨rfl, h1, h2, fun o _ => hev o, h3, fun h => absurd (h.symm.trans hv) (by decide), fun h => absurd h howed, fun _ _ => hev src⟩
  · have hoff : w.getLsbD 31 = false := by simpa using hon
    have hv : v.getLsbD 31 = false := hen.symm.trans hoff
    have ht : t = srcClear src (ctlSet (srcReg src 0) w u) := srcCfgWrite_of_disable hoff src u
    rw [ht]
    obtain ⟨h1, h2, h3⟩ := hcore (srcClear src (ctlSet (srcReg src 0) w u)) hget
    refine ⟨rfl, h1, h2, fun o ho => ?_, h3, fun _ => ?_, fun h => absurd (hv.symm.trans h.1) (by decide), fun h => absurd (hv.symm.trans h) (by decide)⟩
    · unfold srcClear
      rw [evSrc_setSrc, if_neg ho]
      exact hev o
    · rw [evSrc_srcClear, hev]

/-- What an entry leaves, whether its claim edge has followed or not. -/
structure Enters (c k prio : Nat) (claimed : Bool) (R : Tab Word) (n : Nat) (m : Memory) (s t : State) : Prop where
  core : t.svcCore c = (if claimed then { (s.svcCore c).entering R k prio with
      stack := (prio, k) :: (s.svcCore c).stack, priv := true, waiting := false, presented := none, eoiJust := false, eretJust := 0
      lastClaim := BitVec.ofNat 8 k, pc := ((s.svcCore c).vbase.toNat + 16 * k) / 4 % 2 ^ 21 }
    else (s.svcCore c).entering R k prio)
  others : ∀ o, o ≠ c → t.svcCore o = s.svcCore o
  source : claimed = true → t.evSrc k = { s.evSrc k with claimed := (s.evSrc k).batch, batch := 0, pending := false }
  sources : claimed = false → t.svc.src = s.svc.src
  rest : t = { s with free := n, svc := { s.svc with cores := t.svc.cores, sram := m, src := t.svc.src } }

theorem enters_of {c : Fin 4} {k prio : Nat} {s : State} (hw : winner c s = some (prio, k)) (hk : k < 255) (claimed : Bool) (R : Tab Word) (n : Nat)
    (m : Memory) : Enters c k prio claimed R n m s (if claimed then claimPresented c (setSvc c (SvcCore.entering R k prio) (s.pushed n m))
      else setSvc c (SvcCore.entering R k prio) (s.pushed n m)) := by
  obtain ⟨hcore, hothers, hclaim⟩ := entered_spec (R := R) (s := s.pushed n m) rfl hw
  have hrest : setSvc c (SvcCore.entering R k prio) (s.pushed n m) = { s with
      free := n
      svc := { s.svc with
        cores := (setSvc c (SvcCore.entering R k prio) (s.pushed n m)).svc.cores, sram := m
        src := (setSvc c (SvcCore.entering R k prio) (s.pushed n m)).svc.src } } := rfl
  have hsrc : (setSvc c (SvcCore.entering R k prio) (s.pushed n m)).svc.src = s.svc.src := rfl
  have hK : (s.pushed n m).svcCore = s.svcCore := rfl
  generalize setSvc c (SvcCore.entering R k prio) (s.pushed n m) = v at hcore hothers hclaim hrest hsrc
  cases claimed with
  | false => exact ⟨hcore, hothers, fun h => absurd h (by decide), fun _ => hsrc, hrest⟩
  | true =>
    obtain ⟨ho, hc, hs, -, hr⟩ := claimSource_spec (c := c) (prio := prio) (Nat.ne_of_lt hk) v
    have hev : v.evSrc k = s.evSrc k := by unfold State.evSrc; rw [hsrc]
    rw [if_pos rfl, hclaim]
    refine ⟨?_, fun o h => (ho o h).trans (hothers o h), fun _ => hs.trans (by rw [hev]), fun h => absurd h (by decide), ?_⟩
    · rw [hc, hcore]
      rfl
    · rw [hr, hrest]

section

variable {c k prio n : Nat} {claimed : Bool} {R : Tab Word} {m : Memory} {s t : State} (h : Enters c k prio claimed R n m s t)
include h

theorem Enters.kept : (t.svcCore c).sp = (s.svcCore c).sp - 32 ∧ (t.svcCore c).eretJust = 0 ∧ (t.svcCore c).vbase = (s.svcCore c).vbase
    ∧ (t.svcCore c).di = (s.svcCore c).di ∧ (t.svcCore c).exc = (s.svcCore c).exc ∧ (t.svcCore c).regs = R := by
  rw [h.core]
  cases claimed with
  | false => exact ⟨rfl, rfl, rfl, rfl, rfl, rfl⟩
  | true => exact ⟨rfl, rfl, rfl, rfl, rfl, rfl⟩

theorem Enters.waits (hc : claimed = false) : (t.svcCore c).presented = some { src := k, prio := prio } ∧ (t.svcCore c).pc = (s.svcCore c).pc
    ∧ (t.svcCore c).stack = (s.svcCore c).stack ∧ (t.svcCore c).priv = (s.svcCore c).priv ∧ t.svc.src = s.svc.src := by
  refine ⟨?_, ?_, ?_, ?_, h.sources hc⟩
  all_goals
    rw [h.core, hc]
    rfl

theorem Enters.claims (hc : claimed = true) (hk : k < 255) : (t.svcCore c).presented = none ∧ (t.svcCore c).stack = (prio, k) :: (s.svcCore c).stack
    ∧ (t.svcCore c).pc = ((s.svcCore c).vbase.toNat + 16 * k) / 4 % 2 ^ 21 ∧ (t.svcCore c).priv = true ∧ (t.svcCore c).lastClaim.toNat = k
    ∧ t.evSrc k = { s.evSrc k with claimed := (s.evSrc k).batch, batch := 0, pending := false } := by
  have hlast : (BitVec.ofNat 8 k).toNat = k := by rw [BitVec.toNat_ofNat]; omega
  refine ⟨?_, ?_, ?_, ?_, ?_, h.source hc⟩
  · rw [h.core, hc]; rfl
  · rw [h.core, hc]; rfl
  · rw [h.core, hc]; rfl
  · rw [h.core, hc]; rfl
  · rw [h.core, hc]
    exact hlast

end

/-- Without a request, or before the ERET that an EOI announced, nothing is presented (R495, R505). -/
theorem exec_eventPresentation_idle {c : Fin 4} {toClaim tail : Bool} {s : State} (hp : (s.svcCore c).presented = none)
    (h : ((s.svcCore c).eoiJust = true ∧ svcWord (s.svcCore c).pc s = 0xC000_0000) ∨ winner c s = none) :
    exec (.eventPresentation c toClaim tail) s = .next s := by
  by_cases hwait : (s.svcCore c).eoiJust = true ∧ svcWord (s.svcCore c).pc s = 0xC000_0000
  · show execEventPresentation c toClaim tail s = _
    unfold execEventPresentation
    simp only [hp, Option.isSome_none, Bool.false_eq_true, if_false]
    exact if_pos (by simp [hwait.1, hwait.2])
  · have hpresent : presentTo c tail s = s := by
      unfold presentTo
      rw [h.resolve_left hwait]
    have hclaim : claimPresented c s = s := by
      unfold claimPresented
      rw [hp]
    rw [exec_eventPresentation hp hwait, hpresent, hclaim]
    exact congrArg Host.Outcome.next (ite_self _)

/-- Settles O43: how an edge counts, how a request is presented and claimed, when a core is reset, and what the granted writes do. -/
theorem eventsAct : Obligations.EventsAct := by
  refine ⟨fun src merge ns s => ?_, fun c toClaim tail s => ?_, fun c ns s => ?_, fun acc v s => ?_⟩
  · intro e u others
    have hsvc : u.svc = s.svc := by simp [u]
    refine ⟨fun hnone => ?_, ?_, fun hg ht => ?_, fun hno => ?_, fun m => ?_⟩
    · show execEventEdge src merge ns s = _
      unfold execEventEdge
      simp only [show (advance ns s).svc = s.svc from hsvc, hnone]
      rfl
    · intro first hfirst n b rest second left does
      refine ⟨fun hoff => ⟨_, eventEdge_lost hfirst hoff, rfl, fun _ _ => rfl, rfl⟩, fun hon hheld => ?_⟩
      obtain ⟨t, ht, hsrc, hothers, hrest⟩ := eventEdge_counts (merge := merge) (ns := ns) hfirst hon hheld
      have hdoes : ∀ P : EvSource → Prop, P (e.counted u.now n (max 1 (cf (srcReg src 4) 15 0 s))) → does P := fun P hP =>
        ⟨t, ht, by rw [hsrc]; exact hP, hothers, hrest⟩
      refine ⟨fun hp => hdoes (fun f => f.pending = true ∧ f.batch = b) (counted_pending hp), fun hp hg => ?_, fun hp hg => ?_⟩
      · refine ⟨fun hle => hdoes (fun f => f.pending = true ∧ f.gathering = false ∧ f.batch = b) ?_, fun hlt => hdoes (fun f => f.pending = false
          ∧ f.gathering = true ∧ f.batch = b ∧ f.t0 = u.now ∧ f.n = n ∧ f.t = max 1 (cf (srcReg src 4) 15 0 s)) ?_⟩
        · rw [counted_first hp hg, if_pos hle]
          exact ⟨rfl, rfl, rfl⟩
        · rw [counted_first hp hg, if_neg (Nat.not_le.mpr hlt)]
          exact ⟨hp, rfl, rfl, rfl, rfl, rfl⟩
      · refine ⟨fun hle => hdoes (fun f => f.pending = true ∧ f.gathering = false ∧ f.batch = b) ?_,
          fun hlt => hdoes (fun f => f = { e with batch := b }) ?_⟩
        · rw [counted_next hp hg, if_pos hle]
          exact ⟨rfl, rfl, rfl⟩
        · rw [counted_next hp hg, if_neg (Nat.not_le.mpr hlt)]
    · refine ⟨_, (exec_gatherTimeLimit src ns s).trans (congrArg Host.Outcome.next (if_pos ⟨hg, ht⟩)), ?_, fun k hk => ?_, ?_⟩
      · rw [evSrc_setSrc, if_pos rfl, evSrc_advance]
      · rw [evSrc_setSrc, if_neg hk, evSrc_advance]
      · show setSrc src _ u = _
        rw [← hsvc]
        rfl
    · refine (exec_gatherTimeLimit src ns s).trans (congrArg Host.Outcome.next (if_neg (fun h => ?_)))
      obtain hno | hno := hno
      · exact absurd (h.1.symm.trans hno) (by decide)
      · exact absurd h.2 (Nat.not_le.mpr hno)
    · intro due
      refine ⟨fun x hx hle => ?_, fun hno => ?_⟩
      · have hexec : exec (.serviceTimerExpiry m ns) s = .next (timerExpired m x u) := by
          rw [exec_serviceTimerExpiry]
          dsimp only [due] at hx
          simp only [hx]
          exact congrArg Host.Outcome.next (if_neg (Nat.not_lt.mpr hle))
        have hctl : ∀ a, ctlGet a u = ctlGet a s := fun a => advance_ctlGet ns a s
        obtain ⟨htog, hexp, hoth, hbit, hrest⟩ := timerExpired_spec m x u
        have hcbit : ∀ a i, cbit a i u = cbit a i s := fun a i => by unfold cbit; rw [hctl]
        have hx' : stmrExpiry m x u = stmrExpiry m x s := by unfold stmrExpiry; rw [hctl]
        rw [hcbit, hx'] at hexp
        rw [hcbit, hcbit] at hbit
        rw [hsvc] at htog hoth hrest
        exact ⟨_, hexec, htog, hexp, hoth, hbit, hrest⟩
      · rw [exec_serviceTimerExpiry]
        congr 1
        cases hd : (look ({} : SvcTimer) m s.svc.timers).expires with
        | none => rfl
        | some x => exact if_pos (hno x hd)
  · intro K others vector wait
    refine ⟨fun hp h => ?_, fun prio k hp hwait hw hk => ?_, fun p hp => ?_⟩
    · exact exec_eventPresentation_idle hp h
    · intro again saves
      have hfinish : ∀ R n m, presentTo c tail s = setSvc c (SvcCore.entering R k prio) (s.pushed n m) →
          ∃ t, exec (.eventPresentation c toClaim tail) s = .next t ∧ Enters c k prio toClaim R n m s t := fun R n m h => by
        refine ⟨_, exec_eventPresentation hp hwait, ?_⟩
        rw [h]
        exact enters_of hw hk _ _ _ _
      refine ⟨fun h => ?_, fun hno hsaves => completes_presentation_fatal hp hwait hw hno hsaves⟩
      by_cases ha : again
      · obtain ⟨R, n, hpres, hlook⟩ := presentTo_tail hw ha
        obtain ⟨t, ht, he⟩ := hfinish R n _ hpres
        obtain ⟨hsp, heret, hvb, hdi, hexc, hregs⟩ := he.kept
        refine ⟨t, ht, hsp, heret, hvb, hdi, hexc, he.others, fun _ => ⟨by rw [he.rest], fun g hg => ?_⟩, fun hno => absurd ha hno, he.waits,
          fun hc => he.claims hc hk, by rw [he.rest]⟩
        rw [hregs]
        exact hlook g hg
      · obtain ⟨n, m, hpres, hword⟩ := presentTo_saves hw ha (h.resolve_left ha).1 (h.resolve_left ha).2
        obtain ⟨t, ht, he⟩ := hfinish _ n m hpres
        obtain ⟨hsp, heret, hvb, hdi, hexc, hregs⟩ := he.kept
        have hmem : t.svc.sram = m := by rw [he.rest]
        have hsvcWord : ∀ i, svcWord i t = svcWord i (s.pushed n m) := fun i => by
          unfold svcWord
          rw [hmem]
          rfl
        refine ⟨t, ht, hsp, heret, hvb, hdi, hexc, he.others, fun hyes => absurd hyes ha, fun _ => ⟨hregs, fun hwf i hi => ?_⟩, he.waits,
          fun hc => he.claims hc hk, by rw [he.rest]⟩
        rw [hsvcWord]
        exact hword ((wf_iff _ _).mp hwf.2).2 i hi
    · intro claims
      have hclaims : ∀ prio k : Nat, k < 255 → claimPresented c s = claimSource c k prio s → claims prio k := fun prio k hk h => by
        obtain ⟨hothers, hcore, hsrc, hsrcs, hrest⟩ := claimSource_spec (c := c) (prio := prio) (Nat.ne_of_lt hk) s
        exact ⟨_, (exec_eventPresentation_presented hp).trans (congrArg Host.Outcome.next h), hothers, hcore, hsrc, hsrcs, hrest⟩
      refine ⟨fun w hw hlt hwins => hclaims _ _ hlt (claimPresented_wins hp hw hwins),
        fun w hw hlt hwins hpres => hclaims _ _ hlt (claimPresented_keeps hp hw hwins hpres), fun h => ?_⟩
      exact ⟨_, (exec_eventPresentation_presented hp).trans (congrArg Host.Outcome.next (claimPresented_spurious hp h)), claimSource_spurious c _ s⟩
  · intro u K due second
    have hK : ∀ o, u.svcCore o = s.svcCore o := fun o => svcCore_advance o ns s
    have hsvc : u.svc = s.svc := by simp [u]
    have hmode : u.keep.mode = s.keep.mode := by simp [u]
    have hberth : ∀ b, u.berth b = s.berth b := fun b => by simp [u, State.berth]
    have hsecond : secondReset c u = true ↔ second := by
      unfold secondReset
      rw [hsvc]
      dsimp only [second]
      cases s.svc.lastReset with
      | none => simp
      | some p => simp
    obtain ⟨code, hlo, hhi, v, hv, hfatal⟩ := svcFatalFree_spec c u
    refine ⟨fun hno => exec_serviceWatchdogExpiry_idle hno, fun ⟨t0, hw, hrel, hle⟩ hone => ?_, fun ⟨t0, hw, hrel, hle⟩ htwo hh => ?_⟩
    · rw [if_neg (fun h => hone.elim (absurd (hsecond.mp h.1)) (fun hm => h.2 (hmode.trans hm)))] at hfatal
      refine ⟨v, (exec_serviceWatchdogExpiry_due hw hrel hle).trans (congrArg Host.Outcome.next hfatal), ⟨code, hlo, hhi, ?_⟩, fun o ho => ?_, ?_, ?_, ?_⟩
      · rw [hv.core, if_pos rfl, hK]
        exact restarted_of_released hrel code
      · rw [hv.core, if_neg ho, hK]
      · rw [hv.rest]
      · intro b htls htcp
        rw [hv.berth b (by rw [hberth]; exact htls) (by rw [hberth]; exact htcp), hberth]
      · rw [hv.rest, hsvc]
        rfl
    · rw [if_pos ⟨hsecond.mpr htwo, fun h => hh (hmode.symm.trans h)⟩] at hfatal
      refine ⟨_, (exec_serviceWatchdogExpiry_due hw hrel hle).trans (congrArg Host.Outcome.next hfatal), ?_⟩
      have hlast : v.svc.lastReset = some (c.val, u.now) := by rw [hv.rest]
      have hmot : v.mot = s.mot := by
        rw [hv.rest]
        exact advance_mot ns s
      have hvkeep : v.keep = u.keep := by rw [hv.rest]
      have hreinit : v.reiniting 5 = s.reiniting 5 := by
        unfold State.reiniting
        rw [hvkeep]
        simp [u]
      exact serviceReinit_after hlast (hvkeep ▸ hmode) hreinit hmot hh
  · intro u onlySvc
    have hctl : ∀ a, ctlGet a u = ctlGet a s := fun a => advance_ctlGet acc.at_ a s
    have hsrc : ∀ k, u.evSrc k = s.evSrc k := fun k => evSrc_advance k acc.at_ s
    have huctl : u.ctl = s.ctl := advance_ctl acc.at_ s
    have hsvc : u.svc = s.svc := advance_svc acc.at_ s
    have hbits : ∀ k n : Nat, n < 32 → 32 * ((32 * k + n) / 32) = 32 * k ∧ (32 * k + n) % 32 = n := fun k n hn => by omega
    refine ⟨fun k => ⟨fun hg => ?_, fun hg => ?_⟩, fun m hg => ?_, fun src hg => ?_, fun hg => ⟨?_, ?_⟩⟩
    · apply completes_of_accessWrite rfl hg
      rw [regWrite_evcPend]
      have hframe := forOnes_sources (fun n => srcDrop_sources (32 * k.val + n)) v u
      refine ⟨?_, ?_, fun n hn hlt => ?_⟩
      · rw [hframe]
      · rw [hframe]
        exact huctl
      · obtain ⟨h1, h2⟩ := hbits k n hn
        have h := sourceLocal_srcDrop.evSrc_forOnes (32 * k.val + n) v u
        rw [h1, h2, evSrc_srcDrop hlt, hsrc] at h
        exact h
    · apply completes_of_accessWrite rfl hg
      rw [regWrite_evcRaise]
      have hframe := forOnes_sources (fun n => evEdge_sources (32 * k.val + n)) v u
      refine ⟨?_, ?_, fun n hn => ?_⟩
      · rw [hframe]
      · rw [hframe]
        exact huctl
      · intro j hlt
        obtain ⟨h1, h2⟩ := hbits k n hn
        have h := sourceLocal_evEdge.evSrc_forOnes (32 * k.val + n) v u
        rw [h1, h2, hsrc] at h
        exact raised_of hlt (srcEnabled_advance _ _ _) hsvc (hsrc j) h
    · apply completes_of_accessWrite rfl hg
      rw [regWrite_evcStmr]
      exact stmrWrite_spec m v hctl hsvc
    · apply completes_of_accessWrite rfl hg
      rw [regWrite_evcSrcCfg]
      exact srcCfgWrite_spec src v hctl hsvc
    · apply completes_of_accessWrite rfl hg
      rw [regWrite_evcCtrl]
      obtain ⟨hrest, hbit, hother⟩ := evcCtrl_written v hctl
      refine ⟨hrest, hbit 0 (by decide), fun hv c k => ?_, hother⟩
      unfold presentable
      rw [hbit 0 (by decide), hv]
      simp
    · apply completes_of_accessWrite rfl hg
      rw [regWrite_evcCtrl]
      obtain ⟨hrest, hbit, hother⟩ := evcCtrl_written v hctl
      refine ⟨hrest, hbit 1 (by decide), fun hv => ?_, hother⟩
      unfold stacked
      rw [hbit 1 (by decide), hv]
      simp

end Sys2Proof.Machine
end

section
/-!
PROOFS. Berths open, close and are reset (O24; R287 to R291, R307, R309, R313, R320, R323).
-/
namespace Sys2Proof.Machine

/-! ### What HOLD leaves of a berth -/

/-- What an open that failed left of a berth: its state, nonce, failed opens and session. -/
def Berth.session (B : Berth) : BthState × Option (List Byte) × Nat × Option Nat × Bool := (B.state, B.nonce, B.opens, B.tcp, B.tls)

theorem session_setBerth (b c : Nat) {f : Berth → Berth} (hf : ∀ B, (f B).session = B.session) (s : State) :
    ((setBerth c f s).berth b).session = (s.berth b).session := by
  rw [berth_setBerth]
  split
  · next h => rw [hf, h]
  · rfl

theorem session_of_bth {s t : State} (h : t.bth = s.bth) (b : Nat) : (t.berth b).session = (s.berth b).session := by
  unfold State.berth
  rw [h]

theorem session_countRecord (b c : Nat) (s : State) : ((countRecord c s).berth b).session = (s.berth b).session := by
  unfold countRecord
  simp only [drawBytes_state]
  split
  · split
    · exact session_setBerth b c (by exact fun _ => rfl) s
    · exact (session_setBerth b c (by exact fun _ => rfl) _).trans rfl
  · rfl

theorem session_sendReply (b c : Nat) (r : Reply) (s : State) : ((sendReply c r s).berth b).session = (s.berth b).session := by
  unfold sendReply
  refine (session_countRecord b c _).trans (session_setBerth b c (fun B => ?_) s)
  split
  · split
    · rfl
    · rfl
  · rfl

theorem session_alertTo (b c code : Nat) (payload : List Byte) (s : State) : ((alertTo c code payload s).berth b).session = (s.berth b).session := by
  unfold alertTo
  extract_lets m
  split
  · rfl
  · split
    · refine session_setBerth b c (fun B => ?_) s
      split
      · rfl
      · rfl
    · exact (session_countRecord b c _).trans (session_setBerth b c (by exact fun _ => rfl) s)

theorem session_flushReplies (b c : Nat) (s : State) : ((flushReplies c s).berth b).session = (s.berth b).session := by
  unfold flushReplies
  exact (foldl_keeps (fun u : State => (u.berth b).session) (fun u w => session_sendReply b c _ u) _ _).trans (session_setBerth b c (by exact fun _ => rfl) s)

theorem session_answerAllHeld (b : Nat) (s : State) : ((answerAllHeld s).berth b).session = (s.berth b).session := by
  have hanswer : ∀ (u : State) (e : BatchEntry) (a : EntryAnswer), ((answerEntry e a u).berth b).session = (u.berth b).session := fun u e a =>
    session_setBerth b e.berth (by exact fun _ => rfl) u
  unfold answerAllHeld
  refine (foldl_keeps (fun u : State => (u.berth b).session) (fun u c => ?_) _ _).trans ?_
  · exact (session_flushReplies b c _).trans (session_setBerth b c (by exact fun _ => rfl) u)
  · refine (foldl_keeps (fun u : State => (u.berth b).session) (fun u e => hanswer u e _) _ _).trans ?_
    exact foldl_keeps (fun u : State => (u.berth b).session) (fun u e => hanswer u e _) _ _

theorem bth_stopAll (cause : Nat) (s : State) : (stopAll cause s).bth = s.bth := by
  have hnote : ∀ (n code : Nat) (u : State), (noteAxisCode n code u).bth = u.bth := fun _ _ _ => rfl
  have hleave : ∀ u, (leaveTriad cause u).bth = u.bth := fun u => by rw [(leaveTriad_spec cause u).1.rest]
  have hdis : ∀ u, (disableAxes 0x2041 u).bth = u.bth := fun u => by
    have hfold : ((List.range u.axesFitted).foldl (disableOne 0x2041 (enMask u)) u).bth = u.bth := by
      refine foldl_keeps State.bth (fun v n => ?_) _ _
      unfold disableOne
      split
      · rfl
      · rfl
    unfold disableAxes
    extract_lets m s1
    have h1 : s1.bth = u.bth := hfold
    split
    · exact h1
    · exact (bth_recordC ..).trans h1
  have hdrop : ∀ u, (dropReady u).bth = u.bth := fun u =>
    foldl_keeps State.bth (fun v q => (bth_recordC ..).trans (hnote _ _ _)) _ _
  unfold stopAll
  rw [hleave, hdis, hdrop]
  rfl

/-- Every berth is served in HOLD, and none that is closed is reset on the way there. -/
theorem session_setMode_hold (b cause : Nat) (s : State) (h : s.bth.policy ≠ none) :
    ((setMode .hold cause s).berth b).session = (s.berth b).session := by
  have hserves : ∀ c < 8, modeServes c .hold = true := by decide
  have hun : ∀ u, resetUnserved .hold u = u := fun u => by
    unfold resetUnserved
    refine List.foldlRecOn (motive := fun v : State => v = u) _ _ rfl (fun v hv c hc => ?_)
    rw [if_pos (hserves c (List.mem_range.mp hc)), hv]
  unfold setMode
  extract_lets old _ s1
  have h1 : s1.bth = s.bth := by
    show (resetUnserved .hold _).bth = _
    rw [hun]
    exact bth_recordC _ _ _ _ _
  rw [if_neg (fun e => h e.2.1)]
  exact session_of_bth h1 b

theorem session_enterHold (b cause : Nat) (s : State) (h : s.bth.policy ≠ none) : ((enterHold cause s).berth b).session = (s.berth b).session := by
  by_cases hm : s.keep.mode = .hold
  · rw [enterHold, if_pos hm]
  · rw [enterHold_of_mode hm]
    have h1 := bth_stopAll cause s
    generalize stopAll cause s = u at h1
    have h2 : (endBoot u).bth = u.bth := by
      unfold endBoot askBootRecord
      split
      · rfl
      · split
        · rfl
        · rfl
    have h3 := session_setMode_hold b cause (endBoot u) (by rw [h2, h1]; exact h)
    generalize setMode .hold cause (endBoot u) = v at h3
    have h4 : (askCheckpoint v).bth = v.bth := by
      unfold askCheckpoint
      split <;> rfl
    have h5 : (applyHeldSamples (askCheckpoint v)).bth = (askCheckpoint v).bth := by
      unfold applyHeldSamples
      refine foldl_keeps State.bth (fun x p => ?_) _ _
      unfold sample
      split
      · rfl
      · rfl
    have h6 : (askFrame (applyHeldSamples (askCheckpoint v))).bth = (applyHeldSamples (askCheckpoint v)).bth := by
      unfold askFrame
      split <;> rfl
    unfold alertAll
    refine (foldl_keeps (fun x : State => (x.berth b).session) (fun x c => session_alertTo b c cause [] x) _ _).trans ?_
    rw [session_answerAllHeld, session_of_bth (h6.trans (h5.trans h4)), h3, session_of_bth (h2.trans h1)]

/-! ### Failed opens (R323) -/

/-- What a reply on a berth reads of it. -/
def Berth.queue (B : Berth) : List SentMsg × List (Reply × Nat) × BitVec 16 × BitVec 16 × Word × BitVec 64 :=
  (B.out, B.slotWait, B.rplHead, B.rplTail, B.ringCfg, B.rplBase)

theorem sends_of_queue {b : Nat} {r : Reply} {s u t : State} (h : Sends b r u t) (hq : (u.berth b).queue = (s.berth b).queue) : Sends b r s t := by
  simp only [Berth.queue, Prod.mk.injEq] at hq
  obtain ⟨hout, hwait, hhead, htail, hcfg, hbase⟩ := hq
  have hslots : (u.berth b).replySlots = (s.berth b).replySlots := by unfold Berth.replySlots; rw [hcfg]
  refine sends_of_congr h hout hwait ?_ hslots hbase htail
  unfold Berth.freeReplies
  rw [hslots, hhead, htail]

/-- BTHb as its lockout until `e` leaves it. -/
def Berth.locked (e : Nat) (B : Berth) : Berth :=
  if B.state = .open_ then { B with lockEnd := some e } else { B with state := .lockedOut, lockEnd := some e, nonce := none, tcp := none }

theorem gates_raise (n : Nat) (s : State) : Gates s (raise n s) := ⟨rfl, List.prefix_append _ _⟩

theorem gates_lockBerth (b : Nat) (s : State) : Gates s (lockBerth b s) :=
  ((gates_setBerth b _ s).trans (gates_record 0x6024 [b] _ (by decide) (by decide))).trans (gates_raise 230 _)

theorem berth_lockBerth (b n : Nat) (s : State) :
    (lockBerth b s).berth n = if n = b then (s.berth b).locked (s.now + lockoutNs s) else s.berth n :=
  (berth_record 0x6024 [b] n _).trans (berth_setBerth ..)

/-- A berth whose open has failed, for the `n`th time. -/
def Berth.FailedOpen (n : Nat) (B : Berth) : Prop := B.state ≠ .open_ ∧ B.nonce = none ∧ B.opens = n ∧ B.tcp = none ∧ B.tls = false

theorem Berth.FailedOpen.locked {n e : Nat} {B : Berth} (h : B.FailedOpen n) : (B.locked e).FailedOpen n := by
  obtain ⟨hst, -, hopens, -, htls⟩ := h
  unfold Berth.locked
  rw [if_neg hst]
  exact ⟨show BthState.lockedOut ≠ .open_ by decide, rfl, hopens, rfl, htls⟩

theorem Berth.FailedOpen.of_session {n : Nat} {B C : Berth} (h : B.FailedOpen n) (hs : C.session = B.session) : C.FailedOpen n := by
  simp only [Berth.session, Prod.mk.injEq] at hs
  obtain ⟨h1, h2, h3, h4, h5⟩ := hs
  unfold Berth.FailedOpen
  rw [h1, h2, h3, h4, h5]
  exact h

theorem queue_locked (e : Nat) (B : Berth) : (B.locked e).queue = B.queue := by
  unfold Berth.locked
  split
  · rfl
  · rfl

theorem lockBerth_keeps {b n c : Nat} {s : State} (h : (s.berth b).FailedOpen n) :
    ((lockBerth c s).berth b).FailedOpen n ∧ ((lockBerth c s).berth b).queue = (s.berth b).queue := by
  rw [berth_lockBerth]
  split
  · next hb =>
    rw [← hb]
    exact ⟨h.locked, queue_locked _ _⟩
  · exact ⟨h, rfl⟩

/-- The global limit locks every berth but BTH0 out, or leads to HOLD (R323). -/
theorem globalFailure_spec {b n : Nat} {s : State} (h : (s.berth b).FailedOpen n) : ((globalFailure s).berth b).FailedOpen n
    ∧ Halts s (globalFailure s) ∧ (holdOnLimit s = false → Gates s (globalFailure s) ∧ ((globalFailure s).berth b).queue = (s.berth b).queue) := by
  unfold globalFailure
  extract_lets recent _ s1 s2
  have hg1 : Gates s s1 := ⟨rfl, List.prefix_rfl⟩
  have hb1 : s1.berth b = s.berth b := rfl
  have hp1 : s1.bth.policy = s.bth.policy := rfl
  have hg2 : Gates s s2 := hg1.trans ((gates_record 0x6300 [recent.length] s1 (by decide) (by decide)).trans (gates_raise 231 _))
  have hb2 : s2.berth b = s.berth b := (berth_record 0x6300 [recent.length] b s1).trans hb1
  have hp2 : s2.bth.policy = s.bth.policy := (congrArg Berths.policy (bth_recordC _ _ _ _ s1)).trans hp1
  have hh : ∀ {t}, Gates s t → Halts s t := fun {t} hg => ⟨by rw [hg.rest], hg.raised⟩
  clear_value s1 s2
  by_cases hlim : recent.length < globalLimit s
  · rw [if_pos hlim, hb1]
    exact ⟨h, hh hg1, fun _ => ⟨hg1, rfl⟩⟩
  · rw [if_neg hlim]
    cases hhold : holdOnLimit s with
    | true =>
      have hpol : s2.bth.policy ≠ none := fun e => by
        rw [hp2] at e
        rw [holdOnLimit, e] at hhold
        exact absurd hhold (by decide)
      rw [if_pos rfl]
      refine ⟨?_, (hh hg2).trans (halts_enterHold _ _), fun e => absurd e (by decide)⟩
      rw [← hb2] at h
      exact h.of_session (session_enterHold b 0x6300 s2 hpol)
    | false =>
      rw [if_neg (by decide)]
      have hfold : Gates s2 ((List.range 8).foldl (fun s b => if b = 0 then s else lockBerth b s) s2)
          ∧ (((List.range 8).foldl (fun s b => if b = 0 then s else lockBerth b s) s2).berth b).FailedOpen n
          ∧ (((List.range 8).foldl (fun s b => if b = 0 then s else lockBerth b s) s2).berth b).queue = (s2.berth b).queue := by
        refine List.foldlRecOn (motive := fun t : State => Gates s2 t ∧ (t.berth b).FailedOpen n ∧ (t.berth b).queue = (s2.berth b).queue) _ _
          ⟨.refl s2, by rw [hb2]; exact h, rfl⟩ (fun t ht c _ => ?_)
        obtain ⟨hg, hf, hq⟩ := ht
        split
        · exact ⟨hg, hf, hq⟩
        · obtain ⟨hf', hq'⟩ := lockBerth_keeps (c := c) hf
          exact ⟨hg.trans (gates_lockBerth c t), hf', hq'.trans hq⟩
      obtain ⟨hg, hf, hq⟩ := hfold
      exact ⟨hf, hh (hg2.trans hg), fun _ => ⟨hg2.trans hg, hq.trans (by rw [hb2])⟩⟩

theorem holdOnLimit_of_policy {s t : State} (h : t.bth.policy = s.bth.policy) : holdOnLimit t = holdOnLimit s := by
  unfold holdOnLimit
  rw [h]

theorem failedOpen_spec (b : Nat) (s : State) : ((failedOpen b s).berth b).FailedOpen (sat 0xFFFF ((s.berth b).opens + 1))
    ∧ Halts s (failedOpen b s) ∧ (holdOnLimit s = false → Gates s (failedOpen b s) ∧ ((failedOpen b s).berth b).queue = (s.berth b).queue) := by
  unfold failedOpen
  extract_lets recent s1
  have hg1 : Gates s s1 := (gates_setBerth b _ s).trans (gates_raise 226 _)
  have hb1 : (s1.berth b).FailedOpen (sat 0xFFFF ((s.berth b).opens + 1)) ∧ (s1.berth b).queue = (s.berth b).queue := by
    have hb : s1.berth b = { s.berth b with
        state := .closed, nonce := none, opens := sat 0xFFFF ((s.berth b).opens + 1), failAt := recent, tcp := none, tls := false } :=
      (berth_setBerth ..).trans (if_pos rfl)
    rw [hb]
    exact ⟨⟨show BthState.closed ≠ .open_ by decide, rfl, rfl, rfl, rfl⟩, rfl⟩
  have hp1 : s1.bth.policy = s.bth.policy := rfl
  clear_value s1
  obtain ⟨hf1, hq1⟩ := hb1
  have h2 : ∃ u, (if openLimit s ≤ recent.length then lockBerth b s1 else s1) = u ∧ Gates s u
      ∧ (u.berth b).FailedOpen (sat 0xFFFF ((s.berth b).opens + 1)) ∧ (u.berth b).queue = (s.berth b).queue ∧ u.bth.policy = s.bth.policy := by
    refine ⟨_, rfl, ?_⟩
    split
    · obtain ⟨hf', hq'⟩ := lockBerth_keeps (c := b) hf1
      exact ⟨hg1.trans (gates_lockBerth b s1), hf', hq'.trans hq1, (congrArg Berths.policy (bth_recordC ..)).trans hp1⟩
    · exact ⟨hg1, hf1, hq1, hp1⟩
  obtain ⟨u, hu, hg, hf, hq, hp⟩ := h2
  rw [hu]
  obtain ⟨k1, k2, k3⟩ := globalFailure_spec hf
  have hgh : Halts s u := ⟨by rw [hg.rest], hg.raised⟩
  refine ⟨k1, hgh.trans k2, fun hno => ?_⟩
  obtain ⟨g, q⟩ := k3 ((holdOnLimit_of_policy hp).trans hno)
  exact ⟨hg.trans g, q.trans hq⟩

/-- What an open that fails leaves, whatever is recorded before. -/
theorem failedOpen_after {b : Nat} {s u : State} (hg : Gates s u) (hb : u.bth = s.bth) :
    ((failedOpen b u).berth b).FailedOpen (sat 0xFFFF ((s.berth b).opens + 1)) ∧ Halts s (failedOpen b u)
      ∧ (holdOnLimit s = false → Gates s (failedOpen b u) ∧ ((failedOpen b u).berth b).queue = (s.berth b).queue) := by
  have hberth : u.berth b = s.berth b := by unfold State.berth; rw [hb]
  obtain ⟨h1, h2, h3⟩ := failedOpen_spec b u
  rw [hberth] at h1 h3
  have hgh : Halts s u := ⟨by rw [hg.rest], hg.raised⟩
  refine ⟨h1, hgh.trans h2, fun hno => ?_⟩
  obtain ⟨g, q⟩ := h3 ((holdOnLimit_of_policy (by rw [hb])).trans hno)
  exact ⟨hg.trans g, q⟩

theorem tlsFails_spec (b alert : Nat) (s : State) : ((tlsFails b alert s).berth b).FailedOpen (sat 0xFFFF ((s.berth b).opens + 1))
    ∧ Halts s (tlsFails b alert s)
    ∧ (holdOnLimit s = false → Gates s (tlsFails b alert s) ∧ ((tlsFails b alert s).berth b).queue = (s.berth b).queue) :=
  failedOpen_after (gates_record 0x6025 [b, alert] s (by decide) (by decide)) (bth_recordC ..)

theorem openFails_spec {b code : Nat} (hcode : code / 0x1000 = 6) (s : State) :
    ((openFails b code s).berth b).FailedOpen (sat 0xFFFF ((s.berth b).opens + 1)) ∧ Halts s (openFails b code s)
      ∧ (holdOnLimit s = false → Gates s (openFails b code s) ∧ ((openFails b code s).berth b).queue = (s.berth b).queue) := by
  have h9 : code / 0x1000 ≠ 9 := by omega
  have h11 : code / 0x100 ≠ 0x11 := by omega
  unfold openFails
  extract_lets d
  split
  · have hd : Gates s d.2 := ⟨rfl, List.prefix_rfl⟩
    have hbth : d.2.bth = s.bth := rfl
    clear_value d
    exact failedOpen_after (hd.trans (gates_record code _ _ h9 h11)) ((bth_recordC ..).trans hbth)
  · exact failedOpen_after (gates_record code [b] s h9 h11) (bth_recordC ..)

end Sys2Proof.Machine
end

section
/-!
PROOFS. Berths open, close and are reset (O24; R287 to R291, R307, R309, R313, R320, R323).
-/
namespace Sys2Proof.Machine

/-! ### Opens that succeed (R287, R288) -/

theorem openWith_spec (b : Nat) (g : Signer) (s : State) : (openWith b g s).berth b = { s.berth b with
      state := .open_, nonce := none, granted := g.roles &&& policyRoles b s, certRoles := g.roles, certHash := g.hash, certIds := g.ids
      lastUse := s.now }
    ∧ Gates s (openWith b g s) ∧ (openWith b g s).svc.toggles = s.svc.toggles ++ [(224, s.now)] := by
  unfold openWith
  extract_lets r s1
  have hb : s1.berth b = { s.berth b with
      state := .open_, nonce := none, granted := r, certRoles := g.roles, certHash := g.hash, certIds := g.ids, lastUse := s.now } :=
    (berth_setBerth ..).trans (if_pos rfl)
  have hg : Gates s s1 := gates_setBerth b _ s
  have htog : s1.svc.toggles = s.svc.toggles := rfl
  clear_value s1
  have hj : JnlOnly s1 (recordB 0x6030 (le 4 b ++ le 4 r.toNat ++ g.hash) s1) := jnlOnly_recordC_six s1 (by decide) _ _ _
  obtain ⟨j, hj⟩ := hj
  rw [hj]
  refine ⟨hb, (hg.trans (u := { s1 with jnl := j }) ⟨rfl, List.prefix_rfl⟩).trans (gates_raise 224 _), ?_⟩
  show s1.svc.toggles ++ [(224, s1.now)] = _
  rw [htog, hg.now]

theorem openCode_codes (b : Nat) (leaf : Option Signer) (ok : Signer → Bool) (s : State) :
    openCode b leaf ok s = 0 ∨ openCode b leaf ok s / 0x1000 = 6 := by
  unfold openCode
  split
  · exact .inr rfl
  · split
    · exact .inr rfl
    · split
      · exact .inr rfl
      · exact .inl rfl

/-- Taking a message changes nothing that the check of a proof reads. -/
theorem proofText_touch (b : Nat) (s : State) : proofText b (touch b s) = proofText b s := by
  unfold proofText
  rw [touch_berth, if_pos rfl]
  rfl

/-! ### PROOF (R287, R309) -/

section

variable {b : Fin 8} {m : MsgHead} {sig chain : List Byte} {s : State} (hadm : Admits b 2 m (sig ++ chain) s) (hlen : sig.length = 64)
  (hst : (s.berth b).state = .opening)

/-- The leaf that the chain of a PROOF gives. -/
def proofLeaf (chain : List Byte) (s : State) : Option Signer := (chainCerts 3 chain).bind (fun ders => hostLeaf ders s)

/-- The code with which a PROOF fails, or 0. -/
def proofCode (b : Nat) (sig chain : List Byte) (s : State) : Nat :=
  openCode b (proofLeaf chain s) (fun g => ecdsaOk g.key (proofText b s) (rawSig sig)) s

include hadm hlen hst

theorem exec_proof : exec (.proof b m sig chain) s = .next (match proofLeaf chain s, proofCode b sig chain s with
    | some g, 0 => replyOk b 2 m.tag (be 1 ((openWith b g (touch b s)).berth b).effective.toNat ++ zeros 3) (openWith b g (touch b s))
    | _, _ => sendReply b { typ := 2, tag := m.tag, status := proofCode b sig chain s, body := [] }
      (openFails b (proofCode b sig chain s) (touch b s))) := by
  have hleaf : (chainCerts 3 chain).bind (fun ders => hostLeaf ders (touch b s)) = proofLeaf chain s := rfl
  have hcode : openCode b (proofLeaf chain s) (fun g => ecdsaOk g.key (proofText b (touch b s)) (rawSig sig)) (touch b s) = proofCode b sig chain s := by
    rw [proofText_touch]
    rfl
  show execProof b m sig chain s = _
  unfold execProof
  rw [decide_eq_true hlen, beq_iff_eq.mpr hst, gate_of_admits hadm]
  dsimp only
  rw [hleaf, hcode] <;> rfl

theorem exec_proof_opens {g : Signer} (hleaf : proofLeaf chain s = some g) (hcode : proofCode b sig chain s = 0) : exec (.proof b m sig chain) s
    = .next (replyOk b 2 m.tag (be 1 ((openWith b g (touch b s)).berth b).effective.toNat ++ zeros 3) (openWith b g (touch b s))) := by
  rw [exec_proof hadm hlen hst, hleaf, hcode] <;> rfl

theorem exec_proof_fails (hcode : proofCode b sig chain s ≠ 0) : exec (.proof b m sig chain) s
    = .next (sendReply b { typ := 2, tag := m.tag, status := proofCode b sig chain s, body := [] }
      (openFails b (proofCode b sig chain s) (touch b s))) := by
  rw [exec_proof hadm hlen hst]
  split
  · exact absurd ‹_› hcode
  · rfl

end

/-! ### OPEN (R307, R323) -/

theorem length_drawBytes (n : Nat) (s : State) : (drawBytes n s).1.length = n := by
  induction n generalizing s with
  | zero => rfl
  | succ n ih => exact congrArg (· + 1) (ih _)

theorem gates_touch (b : Nat) (s : State) : Gates s (touch b s) := gates_setBerth b _ s

theorem queue_touch (b : Nat) (s : State) : ((touch b s).berth b).queue = (s.berth b).queue := by
  rw [touch_berth, if_pos rfl]
  rfl

/-- A reply after other changes of its berth. -/
theorem reply_spec (b : Nat) (r : Reply) (s u : State) (hq : (u.berth b).queue = (s.berth b).queue) :
    Sends b r s (sendReply b r u) ∧ Replies b u (sendReply b r u) := ⟨sends_of_queue (sends_sendReply b r u) hq, replies_sendReply b r u⟩

theorem session_replies {b : Nat} {s t : State} (h : Replies b s t) : (t.berth b).session = (s.berth b).session := by
  rw [h.own]
  rfl

theorem gates_of_replies {b : Nat} {s u t : State} (h : Gates s u) (k : Replies b u t) : Gates s t :=
  h.trans ⟨by rw [k.frame], by rw [k.frame]⟩

theorem completes_openBerth {b : Fin 8} {m : MsgHead} {s : State} (hadm : Admits b 1 m [] s) (hb : b.val ≤ 2) (hst : (s.berth b).state = .closed)
    (hanchor : s.bth.anchorSlot.isSome = true) (hentry : entryEnabled b s = true) : Completes (.openBerth b m) s (fun t => ∃ n : List Byte,
      n.length = 32 ∧ (t.berth b).state = .opening ∧ (t.berth b).nonce = some n
        ∧ Sends b { typ := 1, tag := m.tag, status := 0, body := n ++ be 8 s.fused.serial.toNat } s t ∧ t = { s with bth := t.bth, free := t.free }) := by
  have hx : exec (.openBerth b m) s = .next (replyOk b 1 m.tag ((drawBytes 32 (touch b s)).1 ++ be 8 s.fused.serial.toNat)
      (setBerth b (fun B => { B with state := .opening, nonce := some (drawBytes 32 (touch b s)).1 }) (drawBytes 32 (touch b s)).2)) := by
    show execOpenBerth b m s = _
    unfold execOpenBerth
    dsimp only
    rw [if_neg (fun e => absurd (hst.symm.trans e.1) (by decide)), decide_eq_true hb, beq_iff_eq.mpr hst, hanchor, hentry]
    exact congrArg Host.Outcome.next (gate_of_admits hadm _)
  have hlen := length_drawBytes 32 (touch b s)
  have hstate := drawBytes_state 32 (touch b s)
  generalize drawBytes 32 (touch b s) = d at hx hlen hstate
  obtain ⟨n, v⟩ := d
  dsimp only at hx hlen hstate
  have hvb : (setBerth b (fun B => { B with state := .opening, nonce := some n }) v).berth b
      = { (touch b s).berth b with state := .opening, nonce := some n } := by
    rw [berth_setBerth, if_pos rfl, hstate]
    rfl
  have hframe : setBerth b (fun B => { B with state := .opening, nonce := some n }) v = { s with
      bth := (setBerth b (fun B => { B with state := .opening, nonce := some n }) v).bth, free := v.free } := by
    rw [hstate]
    rfl
  generalize setBerth b (fun B => { B with state := .opening, nonce := some n }) v = w at hx hvb hframe
  have hq : (w.berth b).queue = (s.berth b).queue := by
    rw [hvb]
    exact queue_touch b s
  obtain ⟨hsends, hrep⟩ := reply_spec b { typ := 1, tag := m.tag, status := 0, body := n ++ be 8 s.fused.serial.toNat } s w hq
  unfold replyOk at hx
  generalize sendReply b { typ := 1, tag := m.tag, status := 0, body := n ++ be 8 s.fused.serial.toNat } w = t at hx hsends hrep
  have hown := hrep.own
  rw [hvb] at hown
  exact ⟨_, hx, n, hlen, congrArg Berth.state hown, congrArg Berth.nonce hown, hsends, hrep.frame.trans (by rw [hframe])⟩

/-- A locked-out berth refuses OPEN with 0x6024 (R323). -/
theorem completes_openBerth_locked {b : Fin 8} {m : MsgHead} {s : State} (hadm : Admits b 1 m [] s) (hb : b.val ≤ 2)
    (hst : (s.berth b).state = .lockedOut) : Completes (.openBerth b m) s (fun t => (t.berth b).state = .lockedOut
      ∧ (t.berth b).refused = sat 0xFFFF ((s.berth b).refused + 1) ∧ Sends b { typ := 1, tag := m.tag, status := 0x6024, body := [] } s t
      ∧ t = { s.noted t with bth := t.bth }) := by
  obtain ⟨hserved, hhead, htyp, -, -⟩ := hadm
  have hm : m.typ = 1 := BitVec.eq_of_toNat_eq htyp
  have hx : exec (.openBerth b m) s = .next (refuseMsg b 1 m.tag 0x6024 1 (touch b s)) := if_pos ⟨hst, hb, hhead, hm, hserved⟩
  obtain ⟨hsends, hrefused, hrest⟩ := refuseMsg_spec b 1 m.tag 1 s (code := 0x6024) (by decide) _ rfl
  refine ⟨_, hx, ?_, hrefused, hsends, hrest⟩
  have hr := refuses_refuseAccess b 1 (touch b s) (code := 0x6024) (by decide)
  have hs : Replies b (refuseAccess b 0x6024 1 (touch b s)) (refuseMsg b 1 m.tag 0x6024 1 (touch b s)) := replies_sendReply ..
  refine (congrArg Berth.state hs.own).trans ((congrArg Berth.state hr.own).trans ?_)
  rw [touch_berth, if_pos rfl]
  exact hst

/-- CLOSE is answered, then the berth is reset (R320). -/
theorem completes_close {b : Fin 8} {m : MsgHead} {s : State} (hadm : Admits b 3 m [] s)
    (hst : (s.berth b).state = .open_ ∨ (s.berth b).state = .opening ∨ firstCommissioning b s = true) : Completes (.close b m) s (fun t =>
      (t.berth b).state = .resetting ∧ (t.berth b).granted = 0 ∧ (t.berth b).staged = {} ∧ (t.berth b).waiting = []
        ∧ t.svc.toggles = s.svc.toggles ++ [(225, s.now)]
        ∧ (∃ u, Sends b { typ := 3, tag := m.tag, status := 0, body := [] } s u ∧ (t.berth b).out = (u.berth b).out)
        ∧ t = { s.noted t with bth := t.bth }) := by
  have hx : exec (.close b m) s = .next (resetBerth b (replyOk b 3 m.tag [] (touch b s))) := by
    have hperm : ((s.berth b).state == .open_ || (s.berth b).state == .opening || firstCommissioning b s) = true := by
      simpa [or_assoc] using hst
    show execClose b m s = _
    unfold execClose
    dsimp only
    rw [hperm]
    exact congrArg Host.Outcome.next (gate_of_admits hadm _)
  obtain ⟨hsends, hframe⟩ := replyOk_spec b 3 m.tag [] s _ rfl
  generalize replyOk b 3 m.tag [] (touch b s) = v at hx hsends hframe
  obtain ⟨hb, hrest⟩ := resetBerth_leaves b v
  have htog := toggles_resetBerth b v
  have hv : Gates s v := ⟨by rw [hframe], by rw [hframe]⟩
  refine ⟨_, hx, ?_⟩
  dsimp only
  rw [hb]
  refine ⟨rfl, rfl, rfl, rfl, htog.trans ?_, ⟨v, hsends, rfl⟩, ?_⟩
  · rw [hv.now, hframe]
  · exact (hv.trans (gates_resetBerth b v)).noted

/-! ### TLS sessions (R289, R313, R323) -/

theorem exec_tcpConnectionRequest {b : Fin 8} {p : Fin 4} {port : BitVec 16} {ns : Nat} {s : State}
    (hlisten : listener p port.toNat (advance ns s) = some b.val) (hserves : modeServes b (advance ns s).keep.mode = true)
    (hheld : (advance ns s).svc.held = false) (hrom : (advance ns s).keep.romRecovery = false) (hnet : netWorks (advance ns s) = true)
    (hlink : ((advance ns s).port p).link = true) (hip : ownIp p (advance ns s) ≠ 0) : exec (.tcpConnectionRequest p port ns) s
      = .next (if ((advance ns s).berth b).state = .closed ∧ ((advance ns s).berth b).tcp = none
        then setBerth b (fun B => { B with state := .opening, tcp := some (advance ns s).now }) (advance ns s)
        else if ((advance ns s).berth b).state = .lockedOut
          then refuseAccess b 0x6024 port.toNat (setBerth b (fun B => { B with tcpResets := B.tcpResets + 1 }) (advance ns s))
          else setBerth b (fun B => { B with tcpResets := B.tcpResets + 1 }) (advance ns s)) := by
  show execTcpConnectionRequest p port ns s = _
  unfold execTcpConnectionRequest
  generalize advance ns s = u at *
  dsimp only
  rw [hlisten]
  dsimp only
  rw [if_neg (by simp [hnet, hlink, hip]), if_neg (by simp [hserves, hheld, hrom])]
  split
  · rfl
  · rfl

theorem exec_tlsHandshakeTimeout {b : Fin 8} {ns : Nat} {s : State} (htls : ((advance ns s).berth b).tls = false)
    (hlate : handshakeLate b (advance ns s) = true) : exec (.tlsHandshakeTimeout b ns) s
      = .next (tlsFails b ((advance ns s).draw 8).1.toNat ((advance ns s).draw 8).2) := by
  show execTlsHandshakeTimeout b ns s = _
  unfold execTlsHandshakeTimeout
  dsimp only
  rw [if_neg (by simp [htls, hlate])]

/-- A session starts with keys of its own (R313). -/
theorem startSession_spec (b : Nat) (s : State) : Gates s (startSession b s)
    ∧ (startSession b s).berth b = { s.berth b with
        tls := true, keyIn := (drawBytes 32 s).1.take 16, keyOut := (drawBytes 32 s).1.drop 16, records := 0 }
    ∧ policyRoles b (startSession b s) = policyRoles b s ∧ (startSession b s).svc.toggles = s.svc.toggles := by
  unfold startSession
  simp only [drawBytes_state]
  refine ⟨⟨rfl, List.prefix_rfl⟩, ?_, rfl, rfl⟩
  rw [berth_setBerth, if_pos rfl]
  rfl

section

variable {b : Fin 8} {hello : ClientHello} {certs : List (List Byte)} {transcript verify : List Byte} {alert : Option Byte} {ns : Nat} {s : State}
  (htcp : ((advance ns s).berth b).tcp.isSome = true) (htls : ((advance ns s).berth b).tls = false) (hlate : handshakeLate b (advance ns s) = false)

/-- The code with which a handshake's open fails, or 0. -/
def handshakeCode (b : Nat) (certs : List (List Byte)) (transcript verify : List Byte) (u : State) : Nat :=
  openCode b (hostLeaf certs u) (fun g => ((derSig verify).map (ecdsaOk g.key (verifyText transcript))).getD false) u

/-- What a handshake whose offer is good comes to. -/
def handshakeEnds (b : Nat) (certs : List (List Byte)) (transcript verify : List Byte) (u : State) : State :=
  match hostLeaf certs u, handshakeCode b certs transcript verify u with
  | some g, 0 => openWith b g (startSession b u)
  | _, _ => if handshakeCode b certs transcript verify u = 0x6021 then tlsFails b 51 u else openFails b (handshakeCode b certs transcript verify u) u

include htcp htls hlate

theorem exec_tls : exec (.tlsHandshakeComplete b hello certs transcript verify alert ns) s = .next (match alert with
    | some a => tlsFails b a.toNat (advance ns s)
    | none =>
      if helloAlert hello ≠ 0 then tlsFails b (helloAlert hello) (advance ns s)
      else if certs = [] then tlsFails b 116 (advance ns s)
      else handshakeEnds b certs transcript verify (advance ns s)) := by
  show execTlsHandshakeComplete b hello certs transcript verify alert ns s = _
  unfold execTlsHandshakeComplete
  dsimp only
  rw [if_neg (by simp [htls, hlate, Option.isSome_iff_ne_none.mp htcp])]
  cases alert with
  | some a => rfl
  | none => rfl

theorem exec_tls_opens {g : Signer} (hal : alert = none) (hhello : helloAlert hello = 0) (hcerts : certs ≠ [])
    (hleaf : hostLeaf certs (advance ns s) = some g) (hcode : handshakeCode b certs transcript verify (advance ns s) = 0) :
    exec (.tlsHandshakeComplete b hello certs transcript verify alert ns) s = .next (openWith b g (startSession b (advance ns s))) := by
  have hends : handshakeEnds b certs transcript verify (advance ns s) = openWith b g (startSession b (advance ns s)) := by
    unfold handshakeEnds
    rw [hleaf, hcode] <;> rfl
  rw [exec_tls htcp htls hlate, hal, ← hends]
  exact congrArg Host.Outcome.next ((if_neg (fun h => h hhello)).trans (if_neg hcerts))

/-- A handshake that fails ends the open, whatever it fails by. -/
theorem exec_tls_fails (hbad : alert.isSome = true ∨ helloAlert hello ≠ 0 ∨ certs = []
      ∨ handshakeCode b certs transcript verify (advance ns s) ≠ 0) :
    ∃ t, exec (.tlsHandshakeComplete b hello certs transcript verify alert ns) s = .next t
      ∧ (t.berth b).FailedOpen (sat 0xFFFF (((advance ns s).berth b).opens + 1)) ∧ Halts (advance ns s) t
      ∧ (holdOnLimit (advance ns s) = false → Gates (advance ns s) t ∧ (t.berth b).queue = ((advance ns s).berth b).queue) := by
  refine ⟨_, exec_tls htcp htls hlate, ?_⟩
  generalize advance ns s = u at *
  cases alert with
  | some a => exact tlsFails_spec b a.toNat u
  | none =>
    dsimp only
    split
    · exact tlsFails_spec b _ u
    · split
      · exact tlsFails_spec b 116 u
      · next hhello hcerts =>
        have hcode : handshakeCode b certs transcript verify u ≠ 0 := by
          obtain h | h | h | h := hbad
          · exact absurd h (by decide)
          · exact absurd h hhello
          · exact absurd h hcerts
          · exact h
        have hsix : handshakeCode b certs transcript verify u / 0x1000 = 6 := (openCode_codes b _ _ u).resolve_left hcode
        unfold handshakeEnds
        split
        · exact absurd ‹_› hcode
        · split
          · exact tlsFails_spec b 51 u
          · exact openFails_spec hsix u

end

/-- The answer to a PROOF that fails. -/
theorem answered_openFails {b code : Nat} {tag : Word} {s t : State} (hcode : code / 0x1000 = 6)
    (ht : t = sendReply b { typ := 2, tag := tag, status := code, body := [] } (openFails b code (touch b s))) :
    (t.berth b).state ≠ .open_ ∧ (t.berth b).opens = sat 0xFFFF ((s.berth b).opens + 1) ∧ (t.berth b).nonce = none
      ∧ (holdOnLimit s = false → Sends b { typ := 2, tag := tag, status := code, body := [] } s t ∧ t = { s.noted t with bth := t.bth }) := by
  obtain ⟨hf, -, hno⟩ := openFails_spec hcode (b := b) (touch b s)
  have hopens : ((touch b s).berth b).opens = (s.berth b).opens := by rw [touch_berth, if_pos rfl]
  have hhold : holdOnLimit (touch b s) = holdOnLimit s := rfl
  rw [hopens] at hf
  rw [hhold] at hno
  have hrep := replies_sendReply b { typ := 2, tag := tag, status := code, body := [] } (openFails b code (touch b s))
  have hsend := sends_sendReply b { typ := 2, tag := tag, status := code, body := [] } (openFails b code (touch b s))
  rw [← ht] at hrep hsend
  obtain ⟨h1, h2, h3, -, -⟩ := hf.of_session (session_replies hrep)
  refine ⟨h1, h3, h2, fun hh => ?_⟩
  obtain ⟨hg, hq⟩ := hno hh
  exact ⟨sends_of_queue hsend (hq.trans (queue_touch b s)), (gates_of_replies ((gates_touch b s).trans hg) hrep).noted⟩

/-- Settles O24: how a berth opens by OPEN and PROOF or by TCP and TLS, how an open fails, and what ends or resets it. -/
theorem berthsOpenAndClose : Obligations.BerthsOpenAndClose := by
  refine ⟨fun b m s => ?_, fun b ns s => ?_⟩
  · intro B
    refine ⟨fun hadm hb => ⟨fun hst hanchor hentry => ?_, fun hst => ?_⟩, fun sig chain hadm hlen hst => ?_, fun hadm hst => ?_, fun hst => ?_, fun hst => ?_⟩
    · exact completes_openBerth hadm hb hst hanchor hentry
    · exact completes_openBerth_locked hadm hb hst
    · intro leaf code
      refine ⟨fun g hleaf hcode => ?_, fun hcode => ?_⟩
      · refine ⟨_, exec_proof_opens hadm hlen hst hleaf hcode, ?_⟩
        obtain ⟨hopen, hg, htog⟩ := openWith_spec b g (touch b s)
        have hgates := (gates_touch b s).trans hg
        have htouch : (touch b s).berth b = { B with lastUse := s.now, fetched := B.fetched - 1 } := by rw [touch_berth, if_pos rfl]
        rw [htouch] at hopen
        have hnow : (touch b s).now = s.now := rfl
        have htoggles : (touch b s).svc.toggles = s.svc.toggles := rfl
        rw [hnow, htoggles] at htog
        have hroles : policyRoles b (touch b s) = policyRoles b s := rfl
        rw [hroles] at hopen
        generalize openWith b g (touch b s) = v at hopen hgates htog
        have hq : (v.berth b).queue = B.queue := by rw [hopen]; rfl
        obtain ⟨hsends, hrep⟩ := reply_spec b { typ := 2, tag := m.tag, status := 0, body := be 1 (v.berth b).effective.toNat ++ zeros 3 } s v hq
        unfold replyOk
        generalize sendReply b { typ := 2, tag := m.tag, status := 0, body := be 1 (v.berth b).effective.toNat ++ zeros 3 } v = t at hsends hrep
        have heff : (t.berth b).effective = (v.berth b).effective := by
          rw [hrep.own]
          rfl
        have hown := hrep.own
        rw [hopen] at hown
        dsimp only
        rw [heff]
        exact ⟨by rw [hown], by rw [hown], by rw [hown], by rw [hown],
          (congrArg (fun x : State => x.svc.toggles) hrep.frame).trans htog, hsends, (gates_of_replies hgates hrep).noted⟩
      · refine ⟨_, exec_proof_fails hadm hlen hst hcode, ?_⟩
        exact answered_openFails ((openCode_codes b leaf _ s).resolve_left hcode) rfl
    · exact completes_close hadm hst
    · refine ⟨_, rfl, ?_, rfl⟩
      rw [endReset, berth_setBerth, if_pos rfl, if_pos hst]
    · refine ⟨_, rfl, ?_, rfl⟩
      rw [endReset, berth_setBerth, if_pos rfl, if_neg hst]
  · intro u B failed
    have hfails : ∀ {x : Instr} (t : State), exec x s = .next t → (t.berth b).FailedOpen (sat 0xFFFF (B.opens + 1)) ∧ Halts u t
        ∧ (holdOnLimit u = false → Gates u t ∧ (t.berth b).queue = B.queue) → Completes x s failed := fun t hx ⟨hf, hh, hno⟩ => by
      obtain ⟨h1, -, h3, h4, h5⟩ := hf
      refine ⟨t, hx, h5, h4, h1, h3, ?_, ?_, fun h => (hno h).1.noted⟩
      · rw [hh.rest]
        exact advance_sram ns s
      · rw [hh.rest]
        exact advance_image ns s
    refine ⟨fun p port hlisten hserves hheld hrom hnet hlink hip => ⟨fun hst htcp => ?_, fun hno => ?_⟩, fun hello certs transcript verify alert htcp htls hlate => ?_,
      fun htls hlate => ?_, fun htls => ?_, fun htcp => ?_, fun p hp hidle hst hle => ?_, fun e he hle => ?_, fun e he hlt => ?_⟩
    · have hx : exec (.tcpConnectionRequest p port ns) s = .next (setBerth b (fun B => { B with state := .opening, tcp := some u.now }) u) := by
        rw [exec_tcpConnectionRequest hlisten hserves hheld hrom hnet hlink hip, if_pos ⟨hst, htcp⟩]
      refine ⟨_, hx, ?_, ?_, rfl⟩
      · rw [berth_setBerth, if_pos rfl]
      · rw [berth_setBerth, if_pos rfl]
    · have hx := exec_tcpConnectionRequest hlisten hserves hheld hrom hnet hlink hip
      rw [if_neg (fun e => hno.elim (fun h => h e.1) (fun h => h e.2))] at hx
      have hb : (setBerth b (fun B => { B with tcpResets := B.tcpResets + 1 }) u).berth b = { B with tcpResets := B.tcpResets + 1 } := by
        rw [berth_setBerth, if_pos rfl]
      have hg := gates_setBerth b (fun B => { B with tcpResets := B.tcpResets + 1 }) u
      change exec _ s = .next (if B.state = .lockedOut then refuseAccess b 0x6024 port.toNat (setBerth b (fun B => { B with tcpResets := B.tcpResets + 1 }) u)
        else setBerth b (fun B => { B with tcpResets := B.tcpResets + 1 }) u) at hx
      generalize setBerth b (fun B => { B with tcpResets := B.tcpResets + 1 }) u = w at hx hb hg
      by_cases hlock : B.state = .lockedOut
      · rw [if_pos hlock] at hx
        have hr := refuses_refuseAccess b port.toNat w (code := 0x6024) (by decide)
        have hown := hr.own
        rw [hb] at hown
        have hgr : Gates u (refuseAccess b 0x6024 port.toNat w) := hg.trans ⟨by rw [hr.frame], by rw [hr.frame]⟩
        refine ⟨_, hx, ?_, ?_, ?_, hgr.noted, fun h => absurd hlock h, fun _ => ?_⟩
        · rw [hown]
        · rw [hown]
        · rw [hown]
        · rw [hown]
      · rw [if_neg hlock] at hx
        refine ⟨_, hx, ?_, ?_, ?_, hg.noted, fun _ => ?_, fun h => absurd h hlock⟩
        · rw [hb]
        · rw [hb]
        · rw [hb]
        · rw [hb]
    · intro leaf code
      refine ⟨fun g hal hhello hcerts hleaf hcode => ?_, fun hbad => ?_⟩
      · have hx : exec (.tlsHandshakeComplete b hello certs transcript verify alert ns) s = .next (openWith b g (startSession b u)) :=
          exec_tls_opens htcp htls hlate hal hhello hcerts hleaf hcode
        obtain ⟨hgs, hbs, hroles, htog0⟩ := startSession_spec b u
        obtain ⟨hopen, hg, htog⟩ := openWith_spec b g (startSession b u)
        rw [hroles, hbs] at hopen
        rw [htog0, hgs.now] at htog
        refine ⟨_, hx, ?_, ?_, ?_, ?_, ?_, (hgs.trans hg).noted⟩
        · rw [hopen]
        · rw [hopen]
        · rw [hopen]
        · rw [hopen]
        · exact htog.trans (by rw [show u.svc = s.svc from advance_svc ns s])
      · obtain ⟨t, ht, hP⟩ := exec_tls_fails (hello := hello) (certs := certs) (transcript := transcript) (verify := verify) htcp htls hlate hbad
        exact hfails t ht hP
    · refine hfails _ (exec_tlsHandshakeTimeout htls hlate) ?_
      have hg : Gates u (u.draw 8).2 := ⟨rfl, List.prefix_rfl⟩
      exact failedOpen_after (hg.trans (gates_record 0x6025 _ _ (by decide) (by decide))) ((bth_recordC ..).trans rfl)
    · refine ⟨_, congrArg Host.Outcome.next (if_pos htls), ?_⟩
      simp only [drawBytes_state]
      refine ⟨?_, ?_, ?_, rfl⟩
      · rw [berth_setBerth, if_pos rfl]; rfl
      · rw [berth_setBerth, if_pos rfl]
      · rw [berth_setBerth, if_pos rfl]; rfl
    · refine ⟨_, congrArg Host.Outcome.next (if_pos htcp), ?_⟩
      obtain ⟨hb, hrest⟩ := resetBerth_leaves b s
      rw [hb]
      exact ⟨rfl, rfl, rfl, rfl, hrest⟩
    · have hx : exec (.berthIdleTimeout b ns) s = .next (resetBerth b u) := by
        show execBerthIdleTimeout b ns s = _
        unfold execBerthIdleTimeout
        dsimp only
        rw [show (advance ns s).bth.policy = some p from hp]
        exact congrArg Host.Outcome.next (if_pos ⟨hidle, hst, hle⟩)
      obtain ⟨hb, hrest⟩ := resetBerth_leaves b u
      refine ⟨_, hx, ?_⟩
      dsimp only
      rw [hb]
      exact ⟨rfl, rfl, hrest⟩
    · have hx : exec (.lockoutEnd b ns) s
          = .next (setBerth b (fun B => { B with lockEnd := none, state := if B.state = .lockedOut then .closed else B.state }) u) := by
        show execLockoutEnd b ns s = _
        unfold execLockoutEnd
        dsimp only
        rw [show ((advance ns s).berth b).lockEnd = some e from he]
        exact if_neg (Nat.not_lt.mpr hle)
      refine ⟨_, hx, ?_, ?_, rfl⟩
      · rw [berth_setBerth, if_pos rfl]
      · rw [berth_setBerth, if_pos rfl]
    · show execLockoutEnd b ns s = _
      unfold execLockoutEnd
      dsimp only
      rw [show ((advance ns s).berth b).lockEnd = some e from he]
      exact if_pos hlt

end Sys2Proof.Machine
end

section
/-!
PROOFS. The transitions of an axis (O30; R338, R349): ENABLING_COMPLETE of an axis that shares a group run settles the other members too, and
one of them in MOVING forms the setpoint of the leader, which a state may name outside the group.
-/
namespace Sys2Proof.Machine

/-- The run of a group whose leader is AX2. -/
def teamOfTwo : Team := { group := 0, leader := 2, num := 1, den := 1 }

/-- The run that AX2 performs. -/
def leaderRun : RunState := { post := { first := 0, count := 1, armed := false, target := 0 }, seg := 0, p0 := 0, v0 := 0 }

/-- AX0 and AX1 are the members of the group, AX0 at the end of ENABLING and AX1 in MOVING with its setpoint to come; AX2 runs. -/
def enablingMember : State := {
  mot := { axes := [
    (0, { st := .enabling, due := { enabled := true }, team := some teamOfTwo }),
    (1, { st := .moving, control := true, team := some teamOfTwo }),
    (2, { st := .moving, run := some leaderRun })] } }

theorem runMembers_enablingMember : runMembers (0 : Fin 32).val enablingMember = [0, 1] := by decide +kernel

/-- AX2 goes on by one servo period. -/
theorem tick_leaderRun : ((fulfil (0 : Fin 32).val (doEnabled (0 : Fin 32).val) enablingMember).axis 2).run.map RunState.tick = some 125 := by
  decide +kernel

/-- Refutes O30: ENABLING_COMPLETE of AX0 changes AX2, which is not in the group run of AX0. -/
theorem not_axisTransitions : ¬ Obligations.AxisTransitions := by
  unfold Obligations.AxisTransitions
  intro h
  obtain ⟨henabled, -⟩ := h 0 enablingMember
  obtain ⟨t, hexec, -, hothers, -⟩ := henabled rfl
  obtain rfl := Host.Outcome.next.inj (show Host.Outcome.next (fulfil (0 : Fin 32).val (doEnabled (0 : Fin 32).val) enablingMember) = _ from hexec)
  have haxis := hothers 2 (by rw [runMembers_enablingMember]; decide)
  have htick := tick_leaderRun
  rw [haxis] at htick
  exact absurd htick (by decide)

end Sys2Proof.Machine
end

section
/-!
PROOFS. What a frame that leaves a towpath port changes (R216, R217), and what a violation of a Yala unit leaves (R272, R274, R275).
-/
namespace Sys2Proof.Machine

/-! ### Frames that leave -/

/-- From `s` to `t` frames have been sent or queued on towpath ports. -/
structure Queues (s t : State) : Prop where
  rest : t = { s with tri := { s.tri with ports := t.tri.ports, sent := t.tri.sent } }
  ports : ∀ p, t.tp p = { s.tp p with
    txSeq := (t.tp p).txSeq, wrapped := (t.tp p).wrapped, snapDue := (t.tp p).snapDue, ackDue := (t.tp p).ackDue
    buffer := (t.tp p).buffer, waiting := (t.tp p).waiting }

namespace Queues

variable {s t u : State}

theorem refl (s : State) : Queues s s := ⟨rfl, fun _ => rfl⟩

theorem trans (h : Queues s t) (k : Queues t u) : Queues s u :=
  ⟨by rw [k.rest, h.rest], fun p => by rw [k.ports p, h.ports p]⟩

theorem ite {c : Prop} [Decidable c] (h : Queues s t) (k : Queues s u) : Queues s (if c then t else u) := by
  split
  · exact h
  · exact k

theorem foldl {α : Type} {op : State → α → State} (h : ∀ u i, Queues u (op u i)) (l : List α) (s : State) : Queues s (l.foldl op s) := by
  induction l generalizing s with
  | nil => exact .refl s
  | cons i l ih => exact (h s i).trans (ih _)

theorem peer (h : Queues s t) (x : Nat) : t.peer x = s.peer x := by
  rw [h.rest]
  rfl

end Queues

theorem queues_setTp (p : Nat) {f : TpPort → TpPort} (s : State) (hf : ∀ q, f q = { q with
    txSeq := (f q).txSeq, wrapped := (f q).wrapped, snapDue := (f q).snapDue, ackDue := (f q).ackDue
    buffer := (f q).buffer, waiting := (f q).waiting }) : Queues s (setTp p f s) := by
  refine ⟨rfl, fun m => ?_⟩
  rw [tp_setTp]
  split
  · next h => rw [h]; exact hf _
  · rfl

theorem queues_sent (l : List (Nat × TpFrame)) (s : State) : Queues s { s with tri := { s.tri with sent := l } } := ⟨rfl, fun _ => rfl⟩

theorem queues_tpSend (p typ : Nat) (payload : List Byte) (s : State) : Queues s (tpSend p typ payload s) := by
  unfold tpSend
  extract_lets q f s1 _ s2
  have h1 : Queues s s1 := queues_setTp p s (fun _ => rfl)
  have h2 : Queues s s2 := queues_setTp p s (fun _ => rfl)
  have hw : Queues s (setTp p (fun q => { q with waiting := q.waiting ++ [f] }) s) := queues_setTp p s (fun _ => rfl)
  exact .ite (h1.trans (queues_sent _ s1)) (.ite hw (h2.trans (queues_sent _ s2)))

theorem queues_sendRelay (r : Relay) (s : State) : Queues s (sendRelay r s) :=
  .foldl (fun u p => .ite (queues_tpSend p tRelay (relayPayload r) u) (.refl u)) _ s

theorem queues_sendCycle (typ : Nat) (payload : List Byte) (s : State) : Queues s (sendCycle typ payload s) :=
  .foldl (fun u p => .ite (queues_tpSend p typ payload u) (.refl u)) _ s

/-! ### The interval of violations (R275) -/

/-- The interval in progress takes the violation: it does not end before it. -/
def State.countsOn (s : State) : Prop := s.keep.mode = .run ∨ s.keep.mode = .degraded ∨ s.now < s.net.interval + 1_000_000_000

theorem closeInterval_of_countsOn {s : State} (h : s.countsOn) : closeInterval s = s := by
  unfold closeInterval
  obtain h | h | h := h
  · rw [h]; rfl
  · rw [h]; rfl
  · rw [if_neg (Nat.not_le.mpr h)]
    exact ite_self s

/-- What the end of an interval leaves: every count by code is 0 again. -/
structure IntervalEnds (s t : State) : Prop where
  interval : t.net.interval = s.now
  conn : ∀ c, t.conn c = { s.conn c with open_ := [] }
  port : ∀ p, t.port p = { s.port p with viol := [] }
  alarms : t.net.alarms = s.net.alarms
  sram : t.sram = s.sram
  toggles : t.svc.toggles = s.svc.toggles
  now : t.now = s.now

theorem look_map_emptied {α : Type} {d : α} {f : α → α} (hd : f d = d) (k : Nat) (l : Tab α) :
    look d k (l.map (fun p => (p.1, f p.2))) = f (look d k l) :=
  (look_map_related (fun x y => y = f x) hd.symm (fun _ _ => rfl) k l)

theorem recordC_beside (code flags count : Nat) (extra : List Byte) (s : State) :
    (recordC code flags count extra s).net = s.net ∧ (recordC code flags count extra s).sram = s.sram
      ∧ (recordC code flags count extra s).svc = s.svc ∧ (recordC code flags count extra s).time = s.time := by
  obtain ⟨j, h⟩ := jnlOnly_recordC code flags count extra s
  rw [h]
  unfold noteCode
  split
  · exact ⟨rfl, rfl, rfl, rfl⟩
  · split <;> exact ⟨rfl, rfl, rfl, rfl⟩

theorem flushViolations_ends (s : State) : IntervalEnds s (flushViolations s) := by
  let φ : State → Net × Memory × Service × Time := fun u => (u.net, u.sram, u.svc, u.time)
  have hrec : ∀ (code flags count : Nat) (extra : List Byte) (u : State), φ (recordC code flags count extra u) = φ u := fun code flags count extra u => by
    obtain ⟨h1, h2, h3, h4⟩ := recordC_beside code flags count extra u
    simp only [φ, h1, h2, h3, h4]
  unfold flushViolations
  extract_lets one s1 s2 _
  have h1 : φ s1 = φ s := foldl_keeps φ (fun u p => foldl_keeps φ (fun v x => hrec ..) _ u) _ s
  have h2 : φ s2 = φ s := (foldl_keeps φ (fun u p => foldl_keeps φ (fun v x => hrec ..) _ u) _ s1).trans h1
  clear_value s2
  simp only [φ, Prod.mk.injEq] at h2
  obtain ⟨hnet, hsram, hsvc, htime⟩ := h2
  have hnow : s2.now = s.now := by unfold State.now; rw [htime]
  refine ⟨rfl, fun c => ?_, fun p => ?_, show s2.net.alarms = _ by rw [hnet], hsram, show s2.svc.toggles = _ by rw [hsvc], hnow⟩
  · show look ({} : Conn) c (s2.net.conns.map _) = _
    rw [hnet]
    exact look_map_emptied (f := fun K : Conn => { K with open_ := [] }) rfl c _
  · show look ({} : Port) p (s2.net.ports.map _) = _
    rw [hnet]
    exact look_map_emptied (f := fun P : Port => { P with viol := [] }) rfl p _

theorem closeInterval_ends {s : State} (h : ¬ s.countsOn) : IntervalEnds s (closeInterval s) := by
  unfold State.countsOn at h
  simp only [not_or, Nat.not_lt] at h
  obtain ⟨hrun, hdeg, hnow⟩ := h
  unfold closeInterval
  rw [if_neg (by simp [hrun, hdeg]), if_pos hnow]
  exact flushViolations_ends s

end Sys2Proof.Machine
end

section
/-!
PROOFS. Yala units are accepted or turned away (O22; R255 to R259, R269 to R275).
-/
namespace Sys2Proof.Machine

/-! ### Violations (R274, R275) -/

/-- Whether the interval ends or not, a connection keeps all but its counts by code. -/
theorem closeInterval_keeps (s : State) : (∀ c, (closeInterval s).conn c = { s.conn c with open_ := ((closeInterval s).conn c).open_ })
    ∧ (closeInterval s).net.alarms = s.net.alarms ∧ (closeInterval s).sram = s.sram ∧ (closeInterval s).svc.toggles = s.svc.toggles
    ∧ (closeInterval s).now = s.now := by
  by_cases h : s.countsOn
  · rw [closeInterval_of_countsOn h]
    exact ⟨fun _ => rfl, rfl, rfl, rfl, rfl⟩
  · obtain ⟨-, hc, -, ha, hs, ht, hn⟩ := closeInterval_ends h
    exact ⟨fun c => by rw [hc c], ha, hs, ht, hn⟩

/-- A violation of connection `c` with `code` has been counted. -/
structure ConnMarked (c code : Nat) (s t : State) : Prop where
  viol : (t.conn c).viol = sat 0xFFFF ((s.conn c).viol + 1)
  lastCode : (t.conn c).lastCode = code
  fill : (t.conn c).fill = (s.conn c).fill
  state : (t.conn c).state = (s.conn c).state
  sram : t.sram = s.sram
  on : s.countsOn → look 0 code (t.conn c).open_ = look 0 code (s.conn c).open_ + 1
  off : ¬ s.countsOn → look 0 code (t.conn c).open_ = 1 ∧ t.net.interval = s.now

/-- The masquerade alarm of a violation (R274). -/
structure Alarmed (c code : Nat) (s t : State) : Prop where
  alarms : t.net.alarms = sat 0xFFFF_FFFF (s.net.alarms + 1)
  last : t.net.lastAlarm = BitVec.ofNat 32 (code * 2 ^ 16 + c)
  toggles : t.svc.toggles = s.svc.toggles ++ [(194, s.now)]

/-- The violation as `connViolation` counts it, in the interval that its frame finds. -/
def countViolation (c code : Nat) (s : State) : State :=
  setConn c (fun k => { k with viol := sat 0xFFFF (k.viol + 1), lastCode := code, open_ := upd 0 code (· + 1) k.open_ }) (closeInterval s)

theorem connMarked_countViolation (c code : Nat) (s : State) : ConnMarked c code s (countViolation c code s) := by
  obtain ⟨hconn, -, hsram, -, -⟩ := closeInterval_keeps s
  have hc : (countViolation c code s).conn c = { (closeInterval s).conn c with
      viol := sat 0xFFFF (((closeInterval s).conn c).viol + 1), lastCode := code, open_ := upd 0 code (· + 1) ((closeInterval s).conn c).open_ } :=
    conn_setConn_same ..
  refine ⟨?_, by rw [hc], ?_, ?_, hsram, fun hon => ?_, fun hoff => ⟨?_, (closeInterval_ends hoff).interval⟩⟩
  · rw [hc, hconn c]
  · rw [hc, hconn c]
  · rw [hc, hconn c]
  · rw [hc, closeInterval_of_countsOn hon]
    exact look_upd_same ..
  · rw [hc, (closeInterval_ends hoff).conn c]
    exact look_upd_same ..

theorem connViolation_masquerade {c code : Nat} (h : code = 0x5202 ∨ code = 0x5203) (s : State) :
    ConnMarked c code s (connViolation c code s) ∧ Alarmed c code s (connViolation c code s) := by
  obtain ⟨-, halarms, -, htoggles, hnow⟩ := closeInterval_keeps s
  obtain ⟨h1, h2, h3, h4, h5, h6, h7⟩ := connMarked_countViolation c code s
  have ha : (countViolation c code s).net.alarms = s.net.alarms := halarms
  have ht : (countViolation c code s).svc.toggles = s.svc.toggles := htoggles
  have hn : (countViolation c code s).now = s.now := hnow
  have hv : connViolation c code s = raise 194 { countViolation c code s with net := { (countViolation c code s).net with
      alarms := sat 0xFFFF_FFFF ((countViolation c code s).net.alarms + 1)
      alarmsTotal := sat 0xFFFF_FFFF ((countViolation c code s).net.alarmsTotal + 1), lastAlarm := w32 (code * 2 ^ 16 + c) } } := if_pos h
  rw [hv]
  generalize countViolation c code s = u at h1 h2 h3 h4 h5 h6 h7 ha ht hn ⊢
  refine ⟨⟨h1, h2, h3, h4, h5, h6, h7⟩, ⟨?_, rfl, ?_⟩⟩
  · rw [← ha]; rfl
  · rw [← ht, ← hn]; rfl

theorem connViolation_quiet {c code : Nat} (h : ¬ (code = 0x5202 ∨ code = 0x5203)) (s : State) :
    ConnMarked c code s (connViolation c code s) ∧ (connViolation c code s).net.alarms = s.net.alarms := by
  have hv : connViolation c code s = countViolation c code s := if_neg h
  rw [hv]
  exact ⟨connMarked_countViolation c code s, (closeInterval_keeps s).2.1⟩

/-- A violation of a frame that matches no connection has been counted for port `p`. -/
structure PortMarked (p code : Nat) (s t : State) : Prop where
  alarms : t.net.alarms = s.net.alarms
  sram : t.sram = s.sram
  on : s.countsOn → look 0 code (t.port p).viol = look 0 code (s.port p).viol + 1 ∧ t.net.conns = s.net.conns ∧ t = { s with net := t.net }
  off : ¬ s.countsOn → look 0 code (t.port p).viol = 1 ∧ t.net.interval = s.now

theorem portMarked_portViolation (p code : Nat) (s : State) : PortMarked p code s (portViolation p code s) := by
  obtain ⟨-, halarms, hsram, -, -⟩ := closeInterval_keeps s
  have hp : (portViolation p code s).port p = { (closeInterval s).port p with viol := upd 0 code (· + 1) ((closeInterval s).port p).viol } :=
    port_setPort_same ..
  refine ⟨halarms, hsram, fun hon => ?_, fun hoff => ⟨?_, (closeInterval_ends hoff).interval⟩⟩
  · have hc := closeInterval_of_countsOn hon
    refine ⟨?_, ?_, ?_⟩
    · rw [hp, hc]
      exact look_upd_same ..
    · rw [portViolation, hc]
      rfl
    · rw [portViolation, hc]
      rfl
  · rw [hp, (closeInterval_ends hoff).port p]
    exact look_upd_same ..

/-- What has been counted of a frame before its checks changes nothing that a violation counts. -/
theorem ConnMarked.of_countRx {c code p : Nat} {s t : State} (h : ConnMarked c code (countRx p s) t) : ConnMarked c code s t :=
  ⟨h.viol, h.lastCode, h.fill, h.state, h.sram, h.on, h.off⟩

theorem Alarmed.of_countRx {c code p : Nat} {s t : State} (h : Alarmed c code (countRx p s) t) : Alarmed c code s t := ⟨h.alarms, h.last, h.toggles⟩

theorem PortMarked.of_countRx {code p : Nat} {s t : State} (h : PortMarked p code (countRx p s) t) : PortMarked p code s t := by
  have hviol : ((countRx p s).port p).viol = (s.port p).viol := by rw [(countRx_spec p s).1]
  refine ⟨h.alarms, h.sram, fun hon => ?_, h.off⟩
  obtain ⟨h1, h2, h3⟩ := h.on hon
  exact ⟨by rw [h1, hviol], h2, h3⟩

/-! ### The checks of a unit (R272) -/

/-- A frame that TXp hears, whole and of an admitted length. -/
structure Heard (p : Fin 4) (f : NetFrame) (s : State) : Prop where
  works : netWorks s = true
  link : (s.port p).link = true
  fcs : f.fcsOk = true
  length : (if f.raw then 0 else 28) + f.bytes.length ≤ clientMax p s

/-- The frame is for the Yala endpoint of the port: raw Ethernet, or UDP to its address and the Yala port. -/
structure ToYala (p : Fin 4) (f : NetFrame) (s : State) : Prop where
  raw : f.raw = true → cbit 0x0410_0000 1 s = true
  udp : f.raw = false → cbit 0x0410_0000 0 s = true ∧ ctlGet (portReg p 0x10) s ≠ 0 ∧ f.dstIp = ctlGet (portReg p 0x10) s
    ∧ f.dstPort.toNat = cf 0x0410_0000 31 16 s

/-- The outer header of a unit is good (R272 step 3). -/
structure HeadGood (u : List Byte) : Prop where
  version : bits 7 4 (u.headD 0).toNat = 1
  reserved : bits 1 0 (u.headD 0).toNat = 0
  prot : bits 3 2 (u.headD 0).toNat ≠ 3
  zero : beAt 4 1 u = 0
  aligned : beAt 2 2 u % 4 = 0
  most : beAt 2 2 u ≤ 1440
  least : 40 ≤ beAt 2 2 u
  whole : 8 + beAt 2 2 u + (if bits 3 2 (u.headD 0).toNat = 0 then 0 else 16) ≤ u.length

section
variable {p : Fin 4} {f : NetFrame} {s : State}

theorem exec_yalaUnit_fcs (hw : netWorks s = true) (hl : (s.port p).link = true)
    (h : f.fcsOk = false ∨ clientMax p s < (if f.raw then 0 else 28) + f.bytes.length) :
    exec (.yalaUnitReceived p f) s = .next (countFcs p s) := by
  show execYalaUnitReceived p f s = _
  unfold execYalaUnitReceived
  rw [if_neg (by simp [hw, hl]), if_pos (by simpa using h)]

theorem ToYala.udpTest (k : ToYala p f s) (hraw : f.raw = false) : (cbit 0x0410_0000 0 (countRx p s) && ctlGet (portReg p 0x10) (countRx p s) != 0
    && f.dstIp == ctlGet (portReg p 0x10) (countRx p s) && f.dstPort.toNat == cf 0x0410_0000 31 16 (countRx p s)) = true := by
  obtain ⟨h1, h2, h3, h4⟩ := k.udp hraw
  show (cbit 0x0410_0000 0 s && ctlGet (portReg p 0x10) s != 0 && f.dstIp == ctlGet (portReg p 0x10) s
    && f.dstPort.toNat == cf 0x0410_0000 31 16 s) = true
  rw [h1, h3, h4, bne_iff_ne.mpr h2]
  simp only [BEq.rfl, Bool.and_self]

theorem exec_yalaUnit_fragment (h : Heard p f s) (k : ToYala p f s) (hraw : f.raw = false) (hf : f.fragment = true) :
    exec (.yalaUnitReceived p f) s = .next (portViolation p 0x5207 (countRx p s)) := by
  obtain ⟨hw, hl, hfcs, hlen⟩ := h
  show execYalaUnitReceived p f s = _
  unfold execYalaUnitReceived
  rw [if_neg (by simp [hw, hl]), if_neg (by simpa [hfcs] using hlen)]
  dsimp only
  rw [if_neg (by simp [hraw]), if_pos (k.udpTest hraw), if_pos hf]

theorem exec_yalaUnit_unit (h : Heard p f s) (k : ToYala p f s) (hsums : f.raw = false → f.fragment = false ∧ f.sumsOk = true) :
    exec (.yalaUnitReceived p f) s = .next (checkUnit p f (countRx p s)) := by
  obtain ⟨hw, hl, hfcs, hlen⟩ := h
  show execYalaUnitReceived p f s = _
  unfold execYalaUnitReceived
  rw [if_neg (by simp [hw, hl]), if_neg (by simpa [hfcs] using hlen)]
  dsimp only
  cases hraw : f.raw with
  | true =>
    rw [if_pos rfl, if_pos (show cbit 0x0410_0000 1 (countRx p s) = true from k.raw hraw)]
  | false =>
    obtain ⟨hf, hs⟩ := hsums hraw
    rw [if_neg (by decide), if_pos (k.udpTest hraw), if_neg (by simp [hf]), if_pos hs]

end

end Sys2Proof.Machine
end

section
/-!
PROOFS. Yala units are accepted or turned away, concluded (O22).
-/
namespace Sys2Proof.Machine

/-! ### The outer header -/

theorem HeadGood.checks {u : List Byte} (h : HeadGood u) : ¬ (bits 7 4 (u.headD 0).toNat ≠ 1 ∨ bits 1 0 (u.headD 0).toNat ≠ 0 ∨ beAt 4 1 u ≠ 0
    ∨ bits 3 2 (u.headD 0).toNat = 3 ∨ beAt 2 2 u < 40 ∨ 1440 < beAt 2 2 u ∨ beAt 2 2 u % 4 ≠ 0
    ∨ u.length < 8 + beAt 2 2 u + (if bits 3 2 (u.headD 0).toNat = 0 then 0 else 16)) := by
  simp only [not_or, not_not, Nat.not_lt]
  exact ⟨h.version, h.reserved, h.zero, h.prot, h.least, h.most, h.aligned, h.whole⟩

theorem headGood_of_checks {u : List Byte} (h : ¬ (bits 7 4 (u.headD 0).toNat ≠ 1 ∨ bits 1 0 (u.headD 0).toNat ≠ 0 ∨ beAt 4 1 u ≠ 0
    ∨ bits 3 2 (u.headD 0).toNat = 3 ∨ beAt 2 2 u < 40 ∨ 1440 < beAt 2 2 u ∨ beAt 2 2 u % 4 ≠ 0
    ∨ u.length < 8 + beAt 2 2 u + (if bits 3 2 (u.headD 0).toNat = 0 then 0 else 16))) : HeadGood u := by
  simp only [not_or, not_not, Nat.not_lt] at h
  obtain ⟨h1, h2, h3, h4, h5, h6, h7, h8⟩ := h
  exact ⟨h1, h2, h4, h3, h7, h6, h5, h8⟩

/-- The checks of R272 step 3 in the order of the statement. -/
theorem headGood_iff {u : List Byte} : HeadGood u ↔ ¬ (bits 7 4 (u.headD 0).toNat ≠ 1 ∨ bits 1 0 (u.headD 0).toNat ≠ 0
    ∨ bits 3 2 (u.headD 0).toNat = 3 ∨ beAt 4 1 u ≠ 0 ∨ beAt 2 2 u % 4 ≠ 0 ∨ 1440 < beAt 2 2 u ∨ beAt 2 2 u < 40
    ∨ u.length < 8 + beAt 2 2 u + (if bits 3 2 (u.headD 0).toNat = 0 then 0 else 16)) := by
  simp only [not_or, not_not, Nat.not_lt]
  exact ⟨fun h => ⟨h.version, h.reserved, h.prot, h.zero, h.aligned, h.most, h.least, h.whole⟩,
    fun ⟨h1, h2, h3, h4, h5, h6, h7, h8⟩ => ⟨h1, h2, h3, h4, h5, h6, h7, h8⟩⟩

/-- The header of a unit that is formed with protection `k`. -/
theorem bits_of_protection {b k : Nat} (h : b = 0x10 + 4 * k) (hk : k < 3) : bits 7 4 b = 1 ∧ bits 1 0 b = 0 ∧ bits 3 2 b = k := by
  subst h
  unfold bits
  interval_cases k <;> decide

/-! ### The checks of a unit, in order (R272) -/

section
variable {p c : Nat} {f : NetFrame} {s : State}

/-- The inner message of a unit, and its tag. -/
def unitInner (u : List Byte) : List Byte := slice 8 (beAt 2 2 u) u
def unitTag (u : List Byte) : List Byte := slice (8 + beAt 2 2 u) (if bits 3 2 (u.headD 0).toNat = 0 then 0 else 16) u

theorem checkUnit_head (h : ¬ HeadGood f.bytes) : checkUnit p f s = portViolation p 0x5200 s :=
  if_pos (Classical.byContradiction fun hn => h (headGood_of_checks hn))

theorem checkUnit_unknown (h : HeadGood f.bytes) (hm : matchConn (beAt 4 4 (unitInner f.bytes)) (beAt 8 4 (unitInner f.bytes)) s = none) :
    checkUnit p f s = portViolation p 0x5201 s := by
  refine (if_neg h.checks).trans ?_
  show (match matchConn (beAt 4 4 (unitInner f.bytes)) (beAt 8 4 (unitInner f.bytes)) s with | none => _ | some c => _) = _
  rw [hm]

theorem checkUnit_known (h : HeadGood f.bytes) (hm : matchConn (beAt 4 4 (unitInner f.bytes)) (beAt 8 4 (unitInner f.bytes)) s = some c) :
    checkUnit p f s = if sourceOk c p f s then
        (match openUnit c (f.bytes.take 8) (unitInner f.bytes) (unitTag f.bytes) s with
          | none => connViolation c 0x5203 s
          | some m => acceptInner c m s)
      else connViolation c 0x5202 s := by
  refine (if_neg h.checks).trans ?_
  show (match matchConn (beAt 4 4 (unitInner f.bytes)) (beAt 8 4 (unitInner f.bytes)) s with | none => _ | some c => _) = _
  rw [hm] <;> rfl

/-- The inner header of a message of connection `c` is good (R272 step 7). -/
def InnerGood (c : Nat) (m : List Byte) (s : State) : Prop := bits 31 28 (beAt 0 4 m) = 1 ∧ bits 27 24 (beAt 0 4 m) = 1
  ∧ 40 + bits 15 0 (beAt 0 4 m) = m.length ∧ 10 + bits 15 0 (beAt 0 4 m) / 4 ≤ connS s.net.table c

/-- The words that the safety codes of a message cover (R259). -/
def codeCover (c : Nat) (m : List Byte) (s : State) : List Nat :=
  idBlock c true s ++ (List.range (8 + bits 15 0 (beAt 0 4 m) / 4)).map (fun k => beAt (4 * k) 4 m)

/-- Both safety codes of a message are good (R272 step 8). -/
def CodesGood (c : Nat) (m : List Byte) (s : State) : Prop :=
  safetyCode false (codeCover c m s) = w32 (beAt (4 * (8 + bits 15 0 (beAt 0 4 m) / 4)) 4 m)
    ∧ safetyCode true (codeCover c m s) = w32 (beAt (4 * (9 + bits 15 0 (beAt 0 4 m) / 4)) 4 m)

/-- The message is newer than the reference and than the one in the slot, if there are (R273). -/
def isFresh (K : Conn) (q : Word) : Bool :=
  match K.ref with
  | none => true
  | some r => newer q r && (match K.fill with | none => true | some m => newer q m.seq)

theorem isFresh_iff (K : Conn) (q : Word) :
    isFresh K q = true ↔ ∀ r, K.ref = some r → newer q r = true ∧ ∀ m, K.fill = some m → newer q m.seq = true := by
  unfold isFresh
  cases K.ref with
  | none => simp
  | some r => cases K.fill <;> simp

/-- The words of a message. -/
def msgWords (m : List Byte) : List Word := (List.range (10 + bits 15 0 (beAt 0 4 m) / 4)).map (fun j => w32 (beAt (4 * j) 4 m))

variable {m : List Byte}

theorem acceptInner_inner (h : ¬ InnerGood c m s) : acceptInner c m s = connViolation c 0x5205 s := by
  refine if_pos (Classical.byContradiction fun hn => h ?_)
  simp only [not_or, not_not, Nat.not_lt] at hn
  exact hn

theorem acceptInner_codes (h : InnerGood c m s) (hc : ¬ CodesGood c m s) : acceptInner c m s = connViolation c 0x5204 s := by
  obtain ⟨h1, h2, h3, h4⟩ := h
  refine (if_neg ?_).trans (if_pos (Classical.byContradiction fun hn => hc ?_))
  · simp only [not_or, not_not, Nat.not_lt]
    exact ⟨h1, h2, h3, h4⟩
  · simp only [not_or, not_not] at hn
    exact hn

theorem acceptInner_good (h : InnerGood c m s) (hc : CodesGood c m s) : acceptInner c m s =
    if (s.conn c).state = 2 ∨ isFresh (s.conn c) (w32 (beAt 12 4 m)) = false then setConn c (fun k => { k with dup := sat 0xFFFF (k.dup + 1) }) s
    else if !placesOwn s then s
    else relayOwn c (w32 (beAt 12 4 m)) (msgWords m)
      (setConn c (fun k => { k with fill := some { seq := w32 (beAt 12 4 m), src := s.member } }) (placeMsg c s.seq.inboxFill (msgWords m) s)) := by
  obtain ⟨h1, h2, h3, h4⟩ := h
  refine ((if_neg ?_).trans (if_neg ?_)).trans rfl
  · simp only [not_or, not_not, Nat.not_lt]
    exact ⟨h1, h2, h3, h4⟩
  · simp only [not_or, not_not]
    exact hc

end

/-! ### A message that is placed (R231, R272) -/

theorem relayOwn_spec (c : Nat) (q : Word) (ws : List Word) (s : State) : relayOwn c q ws s = { s with tri := (relayOwn c q ws s).tri }
    ∧ (triadActive s = false → (relayOwn c q ws s).tri = s.tri)
    ∧ (triadActive s = true → (relayOwn c q ws s).tri.ownRelaysNext = s.tri.ownRelaysNext ++ [{ conn := c, seq := q, words := ws }]) := by
  unfold relayOwn
  cases ht : triadActive s with
  | false => exact ⟨rfl, fun _ => rfl, fun h => absurd h (by decide)⟩
  | true =>
    rw [if_pos rfl]
    have h := (queues_sendRelay { conn := c, seq := q, words := ws }
      { s with tri := { s.tri with ownRelaysNext := s.tri.ownRelaysNext ++ [{ conn := c, seq := q, words := ws }] } }).rest
    refine ⟨?_, fun h => absurd h (by decide), fun _ => ?_⟩
    · rw [h]
    · rw [h]

section
variable {p : Fin 4} {f : NetFrame} {c : Nat} {m : List Byte} {s : State}

/-- A good unit of connection `c`, opened to the message `m`. -/
theorem exec_yalaUnit_opened (h : Heard p f s) (k : ToYala p f s) (hsums : f.raw = false → f.fragment = false ∧ f.sumsOk = true)
    (hhead : HeadGood f.bytes) (hm : matchConn (beAt 4 4 (unitInner f.bytes)) (beAt 8 4 (unitInner f.bytes)) s = some c)
    (hsrc : sourceOk c p f s = true) (hopen : openUnit c (f.bytes.take 8) (unitInner f.bytes) (unitTag f.bytes) s = some m) :
    exec (.yalaUnitReceived p f) s = .next (acceptInner c m (countRx p s)) := by
  have hopen' : openUnit c (f.bytes.take 8) (unitInner f.bytes) (unitTag f.bytes) (countRx p s) = some m := hopen
  rw [exec_yalaUnit_unit h k hsums, checkUnit_known hhead (s := countRx p s) hm, if_pos (show sourceOk c p f (countRx p s) = true from hsrc), hopen']

/-- A message that is placed. -/
theorem acceptInner_placed (hg : InnerGood c m s) (hc : CodesGood c m s) (hst : (s.conn c).state ≠ 2)
    (hf : isFresh (s.conn c) (w32 (beAt 12 4 m)) = true) (hp : placesOwn s = true) :
    acceptInner c m (countRx p s) = relayOwn c (w32 (beAt 12 4 m)) (msgWords m)
      (setConn c (fun k => { k with fill := some { seq := w32 (beAt 12 4 m), src := s.member } })
        (placeMsg c s.seq.inboxFill (msgWords m) (countRx p s))) := by
  have hg' : InnerGood c m (countRx p s) := hg
  have hc' : CodesGood c m (countRx p s) := hc
  have hold : ¬ (((countRx p s).conn c).state = 2 ∨ isFresh ((countRx p s).conn c) (w32 (beAt 12 4 m)) = false) := by
    show ¬ ((s.conn c).state = 2 ∨ isFresh (s.conn c) (w32 (beAt 12 4 m)) = false)
    rw [hf]
    exact fun e => e.elim hst (by decide)
  have hp' : ¬ (!placesOwn (countRx p s)) = true := by
    show ¬ (!placesOwn s) = true
    rw [hp]
    decide
  rw [acceptInner_good hg' hc', if_neg hold, if_neg hp']
  rfl

/-- A message that is not newer, or that comes for a closed connection. -/
theorem acceptInner_old (hg : InnerGood c m s) (hc : CodesGood c m s)
    (h : (s.conn c).state = 2 ∨ isFresh (s.conn c) (w32 (beAt 12 4 m)) = false) :
    acceptInner c m (countRx p s) = setConn c (fun k => { k with dup := sat 0xFFFF (k.dup + 1) }) (countRx p s) := by
  have hg' : InnerGood c m (countRx p s) := hg
  have hc' : CodesGood c m (countRx p s) := hc
  rw [acceptInner_good hg' hc']
  exact if_pos h

end

/-- Settles O22: the checks of R272 in order, each with what it leaves; what is counted of the frame before them does not concern them. -/
theorem yalaUnits : Obligations.YalaUnits := by
  unfold Obligations.YalaUnits
  refine ⟨?_, ?_⟩
  · intro p f c m s T u len tagLen inner w n q ws cover K isNew hw hl hfcs hlen hraw hudp hb0 hprot hzero hleast hmost haligned hwhole hm hsrc hopen
      hi1 hi2 hi3 hi4 hcode0 hcode1
    obtain ⟨hb1, hb2, hb3⟩ := bits_of_protection hb0 hprot
    have htag : (if bits 3 2 (f.bytes.headD 0).toNat = 0 then 0 else 16) = tagLen := by rw [hb3]
    have hhead : HeadGood f.bytes := ⟨hb1, hb2, by rw [hb3]; omega, hzero, haligned, hmost, hleast, by rw [htag]; exact hwhole⟩
    have hg : InnerGood c m s := ⟨hi1, hi2, hi3, hi4⟩
    have hc : CodesGood c m s := ⟨hcode0, hcode1⟩
    have hexec : exec (.yalaUnitReceived p f) s = .next (acceptInner c m (countRx p s)) := by
      refine exec_yalaUnit_opened ⟨hw, hl, hfcs, hlen⟩ ⟨hraw, fun e => ?_⟩ (fun e => ?_) hhead hm hsrc (by unfold unitTag; rw [htag]; exact hopen)
      · obtain ⟨h1, h2, h3, h4, -, -⟩ := hudp e
        exact ⟨h1, h2, h3, h4⟩
      · obtain ⟨-, -, -, -, h5, h6⟩ := hudp e
        exact ⟨h5, h6⟩
    have hnew : isNew ↔ isFresh K q = true := (isFresh_iff K q).symm
    refine ⟨fun hst hfresh hp => ?_, fun hold => ?_⟩
    · rw [acceptInner_placed hg hc hst (hnew.mp hfresh) hp] at hexec
      obtain ⟨hrest, hoff, hon⟩ := relayOwn_spec c (w32 (beAt 12 4 m)) (msgWords m)
        (setConn c (fun k => { k with fill := some { seq := w32 (beAt 12 4 m), src := s.member } })
          (placeMsg c s.seq.inboxFill (msgWords m) (countRx p s)))
      refine ⟨_, hexec, ?_⟩
      generalize relayOwn c _ _ _ = t at hrest hoff hon ⊢
      have hconn : t.conn c = { s.conn c with fill := some { seq := w32 (beAt 12 4 m), src := s.member } } := by
        rw [hrest]
        exact conn_setConn_same ..
      have hport : (t.port p).rx = sat 0xFFFF_FFFF ((s.port p).rx + 1) := by
        rw [hrest]
        exact congrArg Port.rx (countRx_spec p s).1
      refine ⟨?_, ?_, ?_, hport, ?_, ?_, hoff, hon⟩
      · rw [hconn]; rfl
      · rw [hconn]
      · rw [hconn]
      · rw [hrest]; rfl
      · rw [hrest]; rfl
    · have hold' : (s.conn c).state = 2 ∨ isFresh (s.conn c) (w32 (beAt 12 4 m)) = false :=
        hold.imp_right fun h => Bool.eq_false_iff.mpr fun e => h (hnew.mpr e)
      rw [acceptInner_old hg hc hold'] at hexec
      exact ⟨_, hexec, conn_setConn_same .., congrArg Port.rx (countRx_spec p s).1, rfl⟩
  · intro p f s hw hl T u b0 len tagLen inner toModule isUnit badHead known opens goodInner goodCodes goesOn run counts marks alarm
    have hunit : isUnit → exec (.yalaUnitReceived p f) s = .next (checkUnit p f (countRx p s)) := fun ⟨⟨h1, h2, h3, h4⟩, h5⟩ =>
      exec_yalaUnit_unit ⟨hw, hl, h1, h2⟩ ⟨h3, h4⟩ h5
    have hhead : HeadGood f.bytes ↔ ¬ badHead := headGood_iff
    have hcounts : ∀ code t, PortMarked p code s t → counts code t := fun code t h => ⟨h.alarms, h.sram, h.on, h.off⟩
    have hmarks : ∀ c code t, ConnMarked c code s t → marks c code t := fun c code t h =>
      ⟨h.viol, h.lastCode, h.fill, h.state, h.sram, h.on, h.off⟩
    have halarm : ∀ c code t, Alarmed c code s t → alarm c code t := fun c code t h => ⟨h.alarms, h.last, h.toggles⟩
    refine ⟨fun h => ?_, fun ⟨h1, h2, h3, h4⟩ hraw hfrag => ?_, fun h hbad => ?_, fun h hgood hm => ?_, fun c ⟨h, hgood, hm⟩ => ?_⟩
    · have hp : (countFcs p s).port p = { s.port p with fcs := sat 0xFFFF ((s.port p).fcs + 1) } := port_setPort_same ..
      refine ⟨_, exec_yalaUnit_fcs hw hl h, ?_, ?_, rfl⟩
      · rw [hp]
      · rw [hp]
    · exact ⟨_, exec_yalaUnit_fragment ⟨hw, hl, h1, h2⟩ ⟨h3, h4⟩ hraw hfrag, hcounts _ _ (portMarked_portViolation p 0x5207 (countRx p s)).of_countRx⟩
    · refine ⟨_, (hunit h).trans (congrArg _ (checkUnit_head fun e => hhead.mp e hbad)), hcounts _ _ ?_⟩
      exact (portMarked_portViolation p 0x5200 (countRx p s)).of_countRx
    · refine ⟨_, (hunit h).trans (congrArg _ (checkUnit_unknown (hhead.mpr hgood) hm)), hcounts _ _ ?_⟩
      exact (portMarked_portViolation p 0x5201 (countRx p s)).of_countRx
    · have hknown := checkUnit_known (p := p.val) (s := countRx p s) (hhead.mpr hgood) hm
      refine ⟨fun hsrc => ?_, fun hsrc hopen => ?_, fun m ⟨_, hsrc, hopen⟩ => ?_⟩
      · obtain ⟨hmark, hal⟩ := connViolation_masquerade (c := c) (.inl rfl) (countRx p s)
        refine ⟨_, (hunit h).trans (congrArg _ (hknown.trans (if_neg ?_))), hmarks _ _ _ hmark.of_countRx, halarm _ _ _ hal.of_countRx⟩
        exact Bool.eq_false_iff.mp hsrc
      · obtain ⟨hmark, hal⟩ := connViolation_masquerade (c := c) (.inr rfl) (countRx p s)
        have hopen' : openUnit c (f.bytes.take 8) (unitInner f.bytes) (unitTag f.bytes) (countRx p s) = none := hopen
        rw [if_pos (show sourceOk c p f (countRx p s) = true from hsrc), hopen'] at hknown
        exact ⟨_, (hunit h).trans (congrArg _ hknown), hmarks _ _ _ hmark.of_countRx, halarm _ _ _ hal.of_countRx⟩
      · have hopen' : openUnit c (f.bytes.take 8) (unitInner f.bytes) (unitTag f.bytes) (countRx p s) = some m := hopen
        rw [if_pos (show sourceOk c p f (countRx p s) = true from hsrc), hopen'] at hknown
        refine ⟨fun hinner => ?_, fun hinner hcodes => ?_⟩
        · obtain ⟨hmark, hal⟩ := connViolation_quiet (c := c) (code := 0x5205) (by decide) (countRx p s)
          exact ⟨_, (hunit h).trans (congrArg _ (hknown.trans (acceptInner_inner hinner))), hmarks _ _ _ hmark.of_countRx, hal⟩
        · obtain ⟨hmark, hal⟩ := connViolation_quiet (c := c) (code := 0x5204) (by decide) (countRx p s)
          exact ⟨_, (hunit h).trans (congrArg _ (hknown.trans (acceptInner_codes hinner hcodes))), hmarks _ _ _ hmark.of_countRx, hal⟩

end Sys2Proof.Machine
end

section
/-!
PROOFS. What a towpath frame that is accepted leaves before its command acts on it (O16; R213 to R217, R250).
-/
namespace Sys2Proof.Machine

/-! ### The acknowledgement and the snapshot request of a frame -/

/-- From `s` to `t` frames have been acknowledged, sent or queued on towpath ports. -/
structure Acks (s t : State) : Prop where
  rest : t = { s with tri := { s.tri with ports := t.tri.ports, sent := t.tri.sent } }
  ports : ∀ p, t.tp p = { s.tp p with
    txSeq := (t.tp p).txSeq, wrapped := (t.tp p).wrapped, snapDue := (t.tp p).snapDue, ackDue := (t.tp p).ackDue
    buffer := (t.tp p).buffer, waiting := (t.tp p).waiting, acked := (t.tp p).acked }

theorem Acks.refl (s : State) : Acks s s := ⟨rfl, fun _ => rfl⟩

theorem Acks.trans {s t u : State} (h : Acks s t) (k : Acks t u) : Acks s u :=
  ⟨by rw [k.rest, h.rest], fun p => by rw [k.ports p, h.ports p]⟩

theorem Queues.acks {s t : State} (h : Queues s t) : Acks s t := ⟨h.rest, fun p => by rw [h.ports p]⟩

theorem queues_tpDrain (p n : Nat) (s : State) : Queues s (tpDrain p n s) := by
  induction n generalizing s with
  | zero => exact .refl s
  | succ n ih =>
    unfold tpDrain
    extract_lets q
    split
    · exact .refl s
    · split
      · exact .refl s
      · exact ((queues_setTp p s (fun _ => rfl)).trans (queues_tpSend ..)).trans (ih _)

theorem acks_tpAcked (p : Nat) (a : Word) (s : State) : Acks s (tpAcked p a false s) := by
  unfold tpAcked
  extract_lets q last n
  split
  · exact .refl s
  · split
    · exact .refl s
    · have h : Acks s (setTp p (fun q => { q with acked := some a, buffer := q.buffer.drop n }) s) := by
        refine ⟨rfl, fun m => ?_⟩
        rw [tp_setTp]
        split
        · next h => rw [h]
        · rfl
      exact h.trans (queues_tpDrain p 64 _).acks

/-- From `s` to `t` a snapshot request has been acted on. -/
structure Heeds (s t : State) : Prop where
  rest : t = { s with snap := t.snap, jnl := t.jnl, keep := { s.keep with lastCode := t.keep.lastCode }, svc := { s.svc with toggles := t.svc.toggles } }

theorem Heeds.refl (s : State) : Heeds s s := ⟨rfl⟩
theorem Heeds.trans {s t u : State} (h : Heeds s t) (k : Heeds t u) : Heeds s u := ⟨by rw [k.rest, h.rest]⟩

theorem heeds_record {code : Nat} (h : code / 0x1000 = 9) (args : List Nat) (s : State) : Heeds s (record code args s) := by
  obtain ⟨j, hr⟩ := record_keeper h args s
  exact ⟨by rw [hr]⟩

theorem heeds_snap (n : Snapshot) (s : State) : Heeds s { s with snap := n } := ⟨rfl⟩

theorem heeds_latchSnapshot (src : Nat) (replaces : Bool) (s : State) : Heeds s (latchSnapshot src replaces s) := by
  have hm : Heeds s (reportMissing s) := by
    unfold reportMissing
    extract_lets _
    exact (heeds_snap _ s).trans (List.foldlRecOn (motive := fun u : State => Heeds _ u) _ _ (.refl _) (fun u hu f _ => hu.trans (heeds_record rfl [f] u)))
  unfold latchSnapshot
  extract_lets u v _
  exact (hm.trans (heeds_snap _ u)).trans ⟨rfl⟩

theorem heeds_heedSnap (w : WireFrame) (s : State) : Heeds s (heedSnap w s) := by
  unfold heedSnap
  split
  · unfold triggerSnapshot
    extract_lets ask
    have hask : ∀ u, ask u = u := fun u => if_neg (by decide)
    rw [hask, hask]
    split
    · exact heeds_snap _ s
    · split
      · exact (heeds_snap _ s).trans (heeds_record rfl _ _)
      · exact heeds_latchSnapshot 8 false s
  · exact .refl s

theorem heedSnap_none {w : WireFrame} (h : towSnap w = false) (s : State) : heedSnap w s = s := by
  unfold heedSnap
  rw [h]
  rfl

theorem tp_setTp_same (p : Nat) (f : TpPort → TpPort) (s : State) : (setTp p f s).tp p = f (s.tp p) := by rw [tp_setTp, if_pos rfl]

/-! ### Receiving a frame (R250) -/

/-- What the acceptance of a frame on TPp leaves for its command to act on. -/
structure Received (p : Nat) (w : WireFrame) (s v : State) : Prop where
  rest : v = { s with
    time := v.time, tri := { s.tri with ports := v.tri.ports, sent := v.tri.sent }, snap := v.snap, jnl := v.jnl
    keep := { s.keep with lastCode := v.keep.lastCode }, svc := { s.svc with toggles := v.svc.toggles } }
  quiet : towSnap w = false → v = { s with time := v.time, tri := { s.tri with ports := v.tri.ports, sent := v.tri.sent } }
  own : v.tp p = { s.tp p with
    rxSeq := some (towSeq w), lastValid := (v.tp p).lastValid, peer := (v.tp p).peer
    txSeq := (v.tp p).txSeq, wrapped := (v.tp p).wrapped, snapDue := (v.tp p).snapDue, ackDue := (v.tp p).ackDue
    buffer := (v.tp p).buffer, waiting := (v.tp p).waiting, acked := (v.tp p).acked }
  now : v.now = max s.now w.arrive

theorem awake_of_netWorks {s : State} (h : netWorks s = true) : s.keep.mode ≠ .stabled := by
  unfold netWorks at h
  simp only [Bool.and_eq_true, bne_iff_ne, ne_eq] at h
  exact h.2

theorem tpReceive_accepts {p typ : Nat} {w : WireFrame} {s : State} (h : TowAccepts p typ w s) (ht : typ ≠ tAck) (k : State → State) :
    ∃ v, tpReceive p typ w k s = k v ∧ Received p w s v := by
  obtain ⟨h1, h2, h3, h4, h5, h6, h7, h8, h9, h10, h11⟩ := h
  have hmode := awake_of_netWorks h3
  have hnow := advance_now w.arrive s hmode
  unfold tpReceive
  rw [advance_onlyTime hmode] at hnow ⊢
  generalize (advance w.arrive s).time = T at hnow ⊢
  extract_lets u q x s1 expect s2
  have hu : ¬ (q.state = 0 ∨ u.tri.state = .off ∨ netWorks u = false) := by
    rintro (e | e | e)
    · exact h1 e
    · exact h2 e
    · exact absurd (h3.symm.trans e) (by decide)
  refine ⟨heedSnap w (tpAcked p (towAck w) false s2), ?_, ?_⟩
  · rw [if_neg hu, if_neg (by simp [h4]), if_neg (by simp [h5]), if_neg (by simp [h6]), if_neg (fun e => e h7), if_neg (by rintro (e | e); exacts [e h8, e h9]),
      if_neg (by rw [show ackUnsent q (towAck w) = false from h10]; decide), if_neg ht, if_pos (show towSeq w = expect from h11 ht)]
  · have hacks := acks_tpAcked p (towAck w) s2
    have hheeds := heeds_heedSnap w (tpAcked p (towAck w) false s2)
    have h1own : s1.tp p = { s.tp p with lastValid := u.now, peer := towSender w } := tp_setTp_same ..
    have h2own : s2.tp p = { s1.tp p with rxSeq := some (towSeq w), ackDue := some ((s1.tp p).ackDue.getD (u.now + 2_000)) } := tp_setTp_same ..
    have h2rest : s2 = { s with time := s2.time, tri := { s.tri with ports := s2.tri.ports } } := rfl
    have hvown : (heedSnap w (tpAcked p (towAck w) false s2)).tp p = (tpAcked p (towAck w) false s2).tp p := by
      rw [hheeds.rest]; rfl
    have hvq := fun hs : towSnap w = false => heedSnap_none hs (tpAcked p (towAck w) false s2)
    have hn2 : s2.now = max s.now w.arrive := hnow
    generalize heedSnap w (tpAcked p (towAck w) false s2) = v at *
    generalize tpAcked p (towAck w) false s2 = y at *
    clear_value s2
    refine ⟨?_, fun hs => ?_, ?_, ?_⟩
    · rw [hheeds.rest, hacks.rest, h2rest]
    · rw [hvq hs, hacks.rest, h2rest]
    · rw [hvown, hacks.ports p, h2own, h1own]
    · rw [hheeds.rest, hacks.rest]
      exact hn2

end Sys2Proof.Machine
end

section
/-!
PROOFS. HELLO frames (O16; R210, R211, R244, R245).
-/
namespace Sys2Proof.Machine

/-! ### What follows a HELLO that has been noted: the link comes up, a triad forms, a joiner asks -/

/-- From `s` to `t` the link of TPp, and what starts when it is up, has gone on: what HELLO frames said on TPp stays; outside FORMING so do the
peers. -/
structure LinkGoesOn (p : Nat) (s t : State) : Prop where
  tp : t.tp p = { s.tp p with
    state := (t.tp p).state, lateLat := (t.tp p).lateLat, txSeq := (t.tp p).txSeq, wrapped := (t.tp p).wrapped
    snapDue := (t.tp p).snapDue, ackDue := (t.tp p).ackDue, buffer := (t.tp p).buffer, waiting := (t.tp p).waiting }
  up : (s.tp p).state ≤ (t.tp p).state
  kept : s.tri.state ≠ .forming → t.tri.peers = s.tri.peers ∧ t.tri.state = s.tri.state
  sram : t.sram = s.sram
  ctl : t.ctl = s.ctl
  now : t.now = s.now

namespace LinkGoesOn

variable {p : Nat} {s t u : State}

theorem refl (p : Nat) (s : State) : LinkGoesOn p s s := ⟨rfl, le_rfl, fun _ => ⟨rfl, rfl⟩, rfl, rfl, rfl⟩

theorem trans (h : LinkGoesOn p s t) (k : LinkGoesOn p t u) : LinkGoesOn p s u := by
  refine ⟨by rw [k.tp, h.tp], h.up.trans k.up, fun hf => ?_, k.sram.trans h.sram, k.ctl.trans h.ctl, k.now.trans h.now⟩
  obtain ⟨h1, h2⟩ := h.kept hf
  obtain ⟨k1, k2⟩ := k.kept (by rw [h2]; exact hf)
  exact ⟨k1.trans h1, k2.trans h2⟩

theorem of_queues (h : Queues s t) : LinkGoesOn p s t := by
  have hp := h.ports p
  refine ⟨by rw [hp], by rw [hp], fun _ => ?_, ?_, ?_, ?_⟩ <;> rw [h.rest]
  · exact ⟨rfl, rfl⟩
  · rfl

theorem of_talks (h : Talks s t) : LinkGoesOn p s t := by
  have hp : t.tp p = s.tp p := by unfold State.tp; rw [h.tri]
  exact ⟨by rw [hp], by rw [hp], fun _ => by rw [h.tri]; exact ⟨rfl, rfl⟩, h.sram, h.ctl, h.now⟩

/-- What changes of the triad in FORMING but its ports. -/
theorem of_tri {f : Tri → Tri} (hp : ∀ T, (f T).ports = T.ports) (hf : s.tri.state ≠ .forming → (f s.tri).peers = s.tri.peers ∧ (f s.tri).state = s.tri.state) :
    LinkGoesOn p s (setTriF f s) := by
  have h : (setTriF f s).tp p = s.tp p := by
    show look ({} : TpPort) p (f s.tri).ports = look {} p s.tri.ports
    rw [hp]
  exact ⟨by rw [h], by rw [h], hf, rfl, rfl, rfl⟩

end LinkGoesOn

theorem linkGoesOn_tryLinkUp (p : Nat) (s : State) : LinkGoesOn p s (tryLinkUp p s) := by
  unfold tryLinkUp
  extract_lets q
  split
  · next h =>
    have hup : ∀ (st : Nat) (l : Bool), q.state ≤ st → LinkGoesOn p s (setTp p (fun q => { q with state := st, lateLat := l }) s) := fun st l hst => by
      have hp : (setTp p (fun q => { q with state := st, lateLat := l }) s).tp p = { s.tp p with state := st, lateLat := l } := tp_setTp_same ..
      exact ⟨by rw [hp], by rw [hp]; exact hst, fun _ => ⟨rfl, rfl⟩, rfl, rfl, rfl⟩
    split
    · exact (hup 3 false (by rw [h.1]; decide)).trans (.of_talks (talks_raise 219 _))
    · split
      · exact .refl p s
      · exact (hup q.state true le_rfl).trans (.of_talks (talks_record 0x5818 [p] _))
  · exact .refl p s

theorem linkGoesOn_discardJoin (p x st : Nat) (s : State) : LinkGoesOn p s (discardJoin x st s) := by
  unfold discardJoin
  split
  · have h1 : LinkGoesOn p s (setTriF (fun t => { t with joiner := none, joinAt := none, probation := 0 }) s) :=
      .of_tri (by exact fun _ => rfl) (fun _ => ⟨rfl, rfl⟩)
    exact h1.trans (.of_tri (f := fun t => { t with members := t.members &&& ~~~(BitVec.ofNat 3 (2 ^ x)) }) (by exact fun _ => rfl) (fun _ => ⟨rfl, rfl⟩))
  · exact .refl p s

/-- The frames of a formation leave in FORMING. -/
theorem queues_grants (body : List Byte) (ps : List Nat) (s : State) : Queues s (ps.foldl (fun s p => tpSend p tGrant body s) s) :=
  .foldl (fun u p => queues_tpSend p tGrant body u) ps s

/-- From `s` to `t` neither the towpath ports nor the memories and the control space nor the time have changed. -/
structure PortsStay (s t : State) : Prop where
  ports : t.tri.ports = s.tri.ports
  sram : t.sram = s.sram
  ctl : t.ctl = s.ctl
  now : t.now = s.now

theorem PortsStay.refl (s : State) : PortsStay s s := ⟨rfl, rfl, rfl, rfl⟩
theorem PortsStay.trans {s t u : State} (h : PortsStay s t) (k : PortsStay t u) : PortsStay s u :=
  ⟨k.ports.trans h.ports, k.sram.trans h.sram, k.ctl.trans h.ctl, k.now.trans h.now⟩
theorem Talks.portsStay {s t : State} (h : Talks s t) : PortsStay s t := ⟨congrArg Tri.ports h.tri, h.sram, h.ctl, h.now⟩

theorem portsStay_setTri (st : TriState) (s : State) : PortsStay s (setTri st s) := by
  unfold setTri
  split
  · exact .refl s
  · exact ⟨rfl, rfl, rfl, rfl⟩

theorem portsStay_enterDegraded (cause : Nat) (s : State) : PortsStay s (enterDegraded cause s) := by
  unfold enterDegraded
  split
  · have h : PortsStay s { s with keep := { s.keep with mode := .degraded, prev := s.keep.mode, cause := BitVec.ofNat 16 cause } } := ⟨rfl, rfl, rfl, rfl⟩
    exact h.trans (talks_setMode .degraded cause s).portsStay
  · exact .refl s

theorem portsStay_formTriad (mask s0 : Nat) (s : State) : PortsStay s (formTriad mask s0 s) := by
  unfold formTriad
  extract_lets st s1 s2 _ s3
  have h1 : PortsStay s s1 :=
    List.foldlRecOn (motive := fun u : State => PortsStay s u) _ _ (.refl s) (fun u hu x _ => hu.trans ⟨rfl, rfl, rfl, rfl⟩)
  have h2 : PortsStay s1 s2 := ⟨rfl, rfl, rfl, rfl⟩
  have hn : PortsStay s2 { s2 with seq := { s2.seq with nextStart := s0 } } := ⟨rfl, rfl, rfl, rfl⟩
  have h3 : PortsStay s2 s3 := (hn.trans (portsStay_setTri st _)).trans (talks_record 0x5800 _ _).portsStay
  have h := (h1.trans h2).trans h3
  split
  · exact h.trans (portsStay_enterDegraded 0x5800 s3)
  · exact h

theorem linkGoesOn_tryForm (p : Nat) (s : State) : LinkGoesOn p s (tryForm s) := by
  unfold tryForm
  extract_lets ps lowest s0 mask
  split
  · next h =>
    have hq := queues_grants (be 4 0 ++ be 4 mask ++ be 8 s0 ++ zeros 8) ps s
    refine (LinkGoesOn.of_queues hq).trans ?_
    generalize ps.foldl (fun s p => tpSend p tGrant (be 4 0 ++ be 4 mask ++ be 8 s0 ++ zeros 8) s) s = u at hq ⊢
    have hs := portsStay_formTriad mask s0 u
    have hp : (formTriad mask s0 u).tp p = u.tp p := by unfold State.tp; rw [hs.ports]
    have hst : u.tri.state = .forming := by rw [hq.rest]; exact h.1
    exact ⟨by rw [hp], by rw [hp], fun hf => absurd hst hf, hs.sram, hs.ctl, hs.now⟩
  · exact .refl p s

theorem linkGoesOn_sendJoin (p : Nat) (s : State) : LinkGoesOn p s (sendJoin s) := by
  unfold sendJoin
  have h1 : LinkGoesOn p s (setTriF (fun t => { t with joinTry := some (s.now + 1_000_000_000) }) s) :=
    .of_tri (by exact fun _ => rfl) (fun _ => ⟨rfl, rfl⟩)
  exact h1.trans (.of_queues (.foldl (fun u q => .ite (queues_tpSend q tJoin _ u) (.refl u)) _ _))

/-- The last steps of HELLO. -/
def helloGoesOn (p x st : Nat) (s : State) : State :=
  let s5 := tryForm (discardJoin x st (tryLinkUp p s))
  if canJoin s5 && s5.tri.joinTry.isNone then sendJoin s5 else s5

theorem linkGoesOn_helloGoesOn (p x st : Nat) (s : State) : LinkGoesOn p s (helloGoesOn p x st s) := by
  unfold helloGoesOn
  extract_lets s5
  have h : LinkGoesOn p s s5 := ((linkGoesOn_tryLinkUp p s).trans (linkGoesOn_discardJoin p x st _)).trans (linkGoesOn_tryForm p _)
  split
  · exact h.trans (linkGoesOn_sendJoin p s5)
  · exact h

/-! ### What a HELLO says (R211, R244) -/

/-- The HELLO is counted, and what it says is kept. -/
def helloKept (p : Nat) (w : WireFrame) (ok : Bool) (s : State) : State :=
  setTp p (fun q => { q with
      hellosIn := q.hellosIn + 1, helloAt := some s.now, helloState := beAt 0 1 (towPayload w), helloView := beAt 1 1 (towPayload w), helloMatch := ok
      t1 := towTsend w, t2 := towArrival w, matching := if ok && beAt 0 1 (towPayload w) == 1 then q.matching + 1 else 0 })
    (if (s.tp p).state = 1 then raise 219 (setTp p (fun q => { q with state := 2 }) s) else s)

/-- Its times give a measurement, unless it answers no HELLO yet. -/
def helloMeasured (p : Nat) (w : WireFrame) (s : State) : State :=
  if beAt 8 8 (towPayload w) = 0 ∧ beAt 16 8 (towPayload w) = 0 then s
  else measure p (((towArrival w : Int) - beAt 8 8 (towPayload w)) - ((towTsend w : Int) - beAt 16 8 (towPayload w))) s

/-- One that does not match is a violation, and loses a peer that is present. -/
def helloJudged (p x : Nat) (ok : Bool) (s : State) : State :=
  if ok then s
  else
    let s4 := tpViolation p 0x5814 s
    if (s4.peer x).present then losePeer x s4 else s4

/-- What the HELLO that `w` carries says of the peer matches (R244). -/
def helloFits (w : WireFrame) (s : State) : Bool :=
  helloMatches (w32 (beAt 4 4 (towPayload w))) (slice 24 32 (towPayload w)) (slice 56 32 (towPayload w)) s

theorem exec_hello (p : Fin 2) (w : WireFrame) (s : State) : exec (.hello p w) s = .next (tpReceive p tHello w (fun v =>
    helloGoesOn p (v.peerOf p) (beAt 0 1 (towPayload w)) (helloJudged p (v.peerOf p) (helloFits w v)
      (helloMeasured p w (helloKept p w (helloFits w v) v)))) s) := rfl

/-- From `s` to `t` only TPp, the draw of free values, the journal and the events have changed. -/
structure OnPort (p : Nat) (s t : State) : Prop where
  rest : t = { s with tri := { s.tri with ports := t.tri.ports }, free := t.free, jnl := t.jnl, svc := { s.svc with toggles := t.svc.toggles } }

theorem OnPort.trans {p : Nat} {s t u : State} (h : OnPort p s t) (k : OnPort p t u) : OnPort p s u := ⟨by rw [k.rest, h.rest]⟩

/-- What `helloKept` makes of the port. -/
def TpPort.afterHello (w : WireFrame) (ok : Bool) (now : Nat) (q : TpPort) : TpPort :=
  { q with
    state := if q.state = 1 then 2 else q.state
    hellosIn := q.hellosIn + 1, helloAt := some now, helloState := beAt 0 1 (towPayload w), helloView := beAt 1 1 (towPayload w), helloMatch := ok
    t1 := towTsend w, t2 := towArrival w, matching := if ok && beAt 0 1 (towPayload w) == 1 then q.matching + 1 else 0 }

theorem helloKept_spec (p : Nat) (w : WireFrame) (ok : Bool) (s : State) :
    OnPort p s (helloKept p w ok s) ∧ (helloKept p w ok s).tp p = (s.tp p).afterHello w ok s.now := by
  unfold helloKept TpPort.afterHello
  by_cases h : (s.tp p).state = 1
  · have hp : (raise 219 (setTp p (fun q => { q with state := 2 }) s)).tp p = { s.tp p with state := 2 } := tp_setTp_same ..
    simp only [if_pos h]
    rw [tp_setTp_same, hp]
    exact ⟨⟨rfl⟩, rfl⟩
  · simp only [if_neg h]
    rw [tp_setTp_same]
    exact ⟨⟨rfl⟩, rfl⟩

theorem divFree_free (num : Int) (den : Nat) (s : State) : (divFree num den s).2 = { s with free := (divFree num den s).2.free } := by
  unfold divFree
  dsimp only
  split
  · rfl
  · rfl

theorem helloMeasured_spec (p : Nat) (w : WireFrame) (s : State) : OnPort p s (helloMeasured p w s) ∧ ∃ l ms,
    (helloMeasured p w s).tp p = { s.tp p with meas := ms, latency := l }
    ∧ (0 < (s.tp p).meas.length ∨ beAt 8 8 (towPayload w) ≠ 0 ∨ beAt 16 8 (towPayload w) ≠ 0 → ms ≠ []) := by
  unfold helloMeasured
  split
  · next h =>
    refine ⟨⟨rfl⟩, (s.tp p).latency, (s.tp p).meas, rfl, fun hm => ?_⟩
    exact List.length_pos_iff.mp (hm.elim id (fun e => absurd e (by simp [h.1, h.2])))
  · generalize ((towArrival w : Int) - beAt 8 8 (towPayload w)) - ((towTsend w : Int) - beAt 16 8 (towPayload w)) = m
    unfold measure
    extract_lets l d
    have hd : d.2 = { s with free := d.2.free } := divFree_free ..
    clear_value d
    have hp : d.2.tp p = s.tp p := by rw [hd]; rfl
    refine ⟨⟨?_⟩, d.1.toNat, l, ?_, fun _ => by simp [l]⟩
    · rw [hd]
      rfl
    · rw [tp_setTp_same, hp]

theorem helloJudged_spec (p x : Nat) (ok : Bool) (s : State) : (helloJudged p x ok s).sram = s.sram ∧ (helloJudged p x ok s).ctl = s.ctl
    ∧ (helloJudged p x ok s).now = s.now ∧ (helloJudged p x ok s).tri.state = s.tri.state
    ∧ (ok = true → (helloJudged p x ok s).tp p = s.tp p)
    ∧ (ok = false → (helloJudged p x ok s).tp p = { s.tp p with viol := sat 0xFFFF ((s.tp p).viol + 1) }
      ∧ ((s.peer x).present = true → ((helloJudged p x ok s).peer x).lostDue.isSome = true)) := by
  unfold helloJudged
  cases ok with
  | true => exact ⟨rfl, rfl, rfl, rfl, fun _ => rfl, fun h => absurd h (by decide)⟩
  | false =>
    have hv : Talks (setTp p (fun q => { q with viol := sat 0xFFFF (q.viol + 1) }) s) (tpViolation p 0x5814 s) := talks_record 0x5814 [p] _
    have htp : (tpViolation p 0x5814 s).tp p = { s.tp p with viol := sat 0xFFFF ((s.tp p).viol + 1) } := by
      rw [State.tp, hv.tri]
      exact tp_setTp_same ..
    have hpeer : (tpViolation p 0x5814 s).peer x = s.peer x := by
      rw [State.peer, hv.tri]
      rfl
    have hstate : (tpViolation p 0x5814 s).tri.state = s.tri.state := by
      rw [hv.tri]
      rfl
    have hsram : (tpViolation p 0x5814 s).sram = s.sram := hv.sram
    have hctl : (tpViolation p 0x5814 s).ctl = s.ctl := hv.ctl
    have hnow : (tpViolation p 0x5814 s).now = s.now := hv.now
    rw [if_neg (by decide)]
    dsimp only
    generalize tpViolation p 0x5814 s = v at *
    split
    · refine ⟨hsram, hctl, hnow, hstate, fun h => absurd h (by decide), fun _ => ⟨htp, fun _ => ?_⟩⟩
      unfold losePeer setPeer State.peer
      rw [look_upd_same]
      rfl
    · next h => exact ⟨hsram, hctl, hnow, hstate, fun h => absurd h (by decide), fun _ => ⟨htp, fun hp => absurd (by rw [hpeer]; exact hp) h⟩⟩

end Sys2Proof.Machine
end

section
/-!
PROOFS. Towpath frames are kept or refused (O16): HELLO, concluded, and the frames of a cycle (R219, R222, R226, R231, R236).
-/
namespace Sys2Proof.Machine

theorem Received.peerOf {p : Nat} {w : WireFrame} {s v : State} (h : Received p w s v) (q : Nat) : v.peerOf q = s.peerOf q := by
  rw [h.rest]
  rfl

theorem Received.peer {p : Nat} {w : WireFrame} {s v : State} (h : Received p w s v) (x : Nat) : v.peer x = s.peer x := by
  rw [h.rest]
  rfl

theorem OnPort.peer {p : Nat} {s t : State} (h : OnPort p s t) (x : Nat) : t.peer x = s.peer x := by
  rw [h.rest]
  rfl

/-- An accepted HELLO (R210, R211, R244). -/
theorem completes_hello {p : Fin 2} {w : WireFrame} {s : State} (h : TowAccepts p tHello w s) :
    Completes (.hello p w) s (fun t =>
      (t.tp p).rxSeq = some (towSeq w) ∧ (t.tp p).hellosIn = (s.tp p).hellosIn + 1 ∧ (t.tp p).helloState = beAt 0 1 (towPayload w)
      ∧ (t.tp p).helloView = beAt 1 1 (towPayload w) ∧ (t.tp p).helloMatch = helloFits w s ∧ (t.tp p).t1 = towTsend w
      ∧ (t.tp p).t2 = towArrival w ∧ (t.tp p).helloAt = some t.now ∧ 2 ≤ (t.tp p).state ∧ (s.tp p).state ≤ (t.tp p).state
      ∧ (helloFits w s = true → beAt 0 1 (towPayload w) = 1 → (t.tp p).matching = (s.tp p).matching + 1)
      ∧ (helloFits w s = false → (t.tp p).matching = 0 ∧ (t.tp p).viol = sat 0xFFFF ((s.tp p).viol + 1)
          ∧ (s.tri.state ≠ .forming → (s.peer (s.peerOf p)).present = true → (t.peer (s.peerOf p)).lostDue.isSome = true))
      ∧ (0 < (s.tp p).meas.length ∨ beAt 8 8 (towPayload w) ≠ 0 ∨ beAt 16 8 (towPayload w) ≠ 0 → (t.tp p).meas ≠ []) ∧ t.sram = s.sram
      ∧ t.ctl = s.ctl) := by
  obtain ⟨v, hv, hrec⟩ := tpReceive_accepts h (by decide) (fun v =>
    helloGoesOn p (v.peerOf p) (beAt 0 1 (towPayload w)) (helloJudged p (v.peerOf p) (helloFits w v)
      (helloMeasured p w (helloKept p w (helloFits w v) v))))
  have hfits : helloFits w v = helloFits w s := by
    rw [hrec.rest]
    rfl
  have hstate0 : (s.tp p).state ≠ 0 := h.1
  rw [hfits, hrec.peerOf p] at hv
  generalize helloFits w s = ok at hv ⊢
  obtain ⟨hk1, hk2⟩ := helloKept_spec p w ok v
  generalize helloKept p w ok v = a at hv hk1 hk2
  obtain ⟨hm1, l, ms, hm2, hm3⟩ := helloMeasured_spec p w a
  generalize helloMeasured p w a = b at hv hm1 hm2
  obtain ⟨hj1, hj2, hj3, hj4, hj5, hj6⟩ := helloJudged_spec p (s.peerOf p) ok b
  generalize helloJudged p (s.peerOf p) ok b = c at hv hj1 hj2 hj3 hj4 hj5 hj6
  obtain ⟨hg1, hg2, hg3, hg4, hg5, hg6⟩ := linkGoesOn_helloGoesOn p (s.peerOf p) (beAt 0 1 (towPayload w)) c
  refine ⟨_, (exec_hello p w s).trans (congrArg Host.Outcome.next hv), ?_⟩
  generalize helloGoesOn p (s.peerOf p) (beAt 0 1 (towPayload w)) c = t at hg1 hg2 hg3 hg4 hg5 hg6
  have hab := hk1.trans hm1
  have hbnow : b.now = v.now := by rw [hab.rest]; rfl
  have hbsram : b.sram = s.sram := by rw [hab.rest, hrec.rest]
  have hbctl : b.ctl = s.ctl := by rw [hab.rest, hrec.rest]
  have hbstate : b.tri.state = s.tri.state := by rw [hab.rest, hrec.rest]
  have hbpeer : ∀ x, b.peer x = s.peer x := fun x => (hab.peer x).trans (hrec.peer x)
  have hb : b.tp p = { (v.tp p).afterHello w ok v.now with meas := ms, latency := l } := by rw [hm2, hk2]
  obtain ⟨vi, hc, hviol⟩ : ∃ vi, c.tp p = { b.tp p with viol := vi } ∧ (ok = false → vi = sat 0xFFFF ((b.tp p).viol + 1)) := by
    cases ok with
    | true => exact ⟨_, hj5 rfl, fun e => absurd e (by decide)⟩
    | false => exact ⟨_, (hj6 rfl).1, fun _ => rfl⟩
  have hstate : (c.tp p).state = if (s.tp p).state = 1 then 2 else (s.tp p).state := by
    rw [hc, hb, TpPort.afterHello, hrec.own]
  have ht : t.now = v.now := hg6.trans (hj3.trans hbnow)
  refine ⟨?_, ?_, ?_, ?_, ?_, ?_, ?_, ?_, ?_, ?_, fun hok h1 => ?_, fun hok => ⟨?_, ?_, fun hf hp => ?_⟩, fun hms => ?_, hg4.trans (hj1.trans hbsram), hg5.trans (hj2.trans hbctl)⟩
  · rw [hg1, hc, hb, TpPort.afterHello, hrec.own]
  · rw [hg1, hc, hb, TpPort.afterHello, hrec.own]
  · rw [hg1, hc, hb, TpPort.afterHello]
  · rw [hg1, hc, hb, TpPort.afterHello]
  · rw [hg1, hc, hb, TpPort.afterHello]
  · rw [hg1, hc, hb, TpPort.afterHello]
  · rw [hg1, hc, hb, TpPort.afterHello]
  · rw [hg1, hc, hb, TpPort.afterHello, ht]
  · refine le_trans ?_ hg2
    rw [hstate]
    split <;> omega
  · refine le_trans ?_ hg2
    rw [hstate]
    split <;> omega
  · rw [hg1, hc, hb, TpPort.afterHello, hrec.own, hok, h1]
    rfl
  · rw [hg1, hc, hb, TpPort.afterHello, hok]
    rfl
  · rw [hg1, hc, hviol hok, hb, TpPort.afterHello, hrec.own]
  · obtain ⟨hpeers, -⟩ := hg3 (by rw [hj4, hbstate]; exact hf)
    have hpx : t.peer (s.peerOf p) = c.peer (s.peerOf p) := by
      unfold State.peer
      rw [hpeers]
    rw [hpx]
    exact (hj6 hok).2 (by rw [hbpeer]; exact hp)
  · rw [hg1, hc, hb, TpPort.afterHello]
    refine hm3 (hms.imp_left fun e => ?_)
    rw [hk2, TpPort.afterHello, hrec.own]
    exact e

end Sys2Proof.Machine
end

section
/-!
PROOFS. The frames of a cycle (O16; R219, R222, R226, R231, R236).
-/
namespace Sys2Proof.Machine

/-! ### A frame that has been received and acted on -/

/-- Acting on a frame within the towpath engine takes it. -/
theorem Received.takes {p : Nat} {w : WireFrame} {s v t : State} (h : Received p w s v) (ht : t = { v with tri := t.tri })
    (hseq : (t.tp p).rxSeq = (v.tp p).rxSeq) : TowTakes p w s t := by
  refine ⟨by rw [hseq, h.own], ?_, fun hs => ?_⟩
  · have hnow : t.now = max s.now w.arrive := by rw [ht]; exact h.now
    rw [hnow]
    exact le_max_left ..
  · have hv := h.quiet hs
    generalize t.tri = T at ht
    rw [ht, hv]
    rfl

/-- What `Received` keeps of the cycle. -/
theorem Received.cycle {p : Nat} {w : WireFrame} {s v : State} (h : Received p w s v) : v.seq = s.seq ∧ v.tri.decided = s.tri.decided
    ∧ v.tri.summarised = s.tri.summarised ∧ v.tri.hashed = s.tri.hashed ∧ v.tri.state = s.tri.state ∧ v.tri.joiner = s.tri.joiner
    ∧ v.tri.joinAt = s.tri.joinAt := by
  rw [h.rest]
  exact ⟨rfl, rfl, rfl, rfl, rfl, rfl, rfl⟩

/-- A cycle frame that counts reaches its command. -/
theorem cycleFrame_counts {p typ : Nat} {w : WireFrame} {s : State} (h : CycleFrameCounts p typ w s) (ht : typ ≠ tAck) (k other : State → State) :
    ∃ v, cycleFrame p typ w k s other = k v ∧ Received p w s v := by
  obtain ⟨h1, h2, h3, h4, h5⟩ := h
  unfold cycleFrame
  obtain ⟨v, hv, hrec⟩ := tpReceive_accepts h1 ht (fun s =>
    let x := s.peerOf p
    if !(triadActive s && cycleTo x s) then s
    else if towMcc w ≠ s.seq.mcc ∨ s.seq.captured = false then
      other (setPeer x (fun q => { q with wrong := true }) (tpViolation p 0x5813 s))
    else k s)
  refine ⟨v, hv.trans ?_, hrec⟩
  obtain ⟨hseq, -, -, -, hstate, -⟩ := hrec.cycle
  have hactive : triadActive v = true := by unfold triadActive at h2 ⊢; rw [hstate]; exact h2
  have hto : cycleTo (v.peerOf p) v = true := by
    unfold cycleTo
    rw [hrec.peerOf, hrec.peer, h3]
    rfl
  dsimp only
  rw [hactive, hto, if_neg (by decide), hseq, if_neg]
  rintro (e | e)
  · exact e h4
  · exact absurd (h5.symm.trans e) (by decide)

/-- The SUMMARY that leaves before the data deadline changes neither the peers nor what has been received. -/
theorem trySummary_spec (s : State) : trySummary s = { s with tri := (trySummary s).tri } ∧ (∀ x, (trySummary s).peer x = s.peer x)
    ∧ ∀ p, ((trySummary s).tp p).rxSeq = (s.tp p).rxSeq := by
  have hsend : ∀ u, (u : State) = sendSummary s → u = { s with tri := u.tri } ∧ (∀ x, u.peer x = s.peer x) ∧ ∀ p, (u.tp p).rxSeq = (s.tp p).rxSeq := by
    rintro u rfl
    unfold sendSummary
    split
    · exact ⟨rfl, fun _ => rfl, fun _ => rfl⟩
    · dsimp only
      generalize (List.range 3).flatMap _ ++ zeros 4 = body
      have h := queues_sendCycle tSummary body (setTriF (fun t => { t with summarised := true }) s)
      refine ⟨?_, fun x => h.peer x, fun p => by rw [h.ports p]; rfl⟩
      rw [h.rest]
      rfl
  unfold trySummary
  split
  · exact hsend _ rfl
  · exact ⟨rfl, fun _ => rfl, fun _ => rfl⟩

/-- A command that changes one peer takes the frame. -/
theorem Received.takes_setPeer {p : Nat} {w : WireFrame} {s v : State} (h : Received p w s v) (x : Nat) (f : Peer → Peer) :
    TowTakes p w s (setPeer x f v) := h.takes rfl rfl

/-! ### Bytes of the logic SRAM -/

theorem rising_putBytes (d : Nat → Byte) (a : Nat) (l : List (Byte × Nat)) {m : Memory} (h : Rising m) :
    Rising (l.foldl (fun m p => memPut (d (a + p.2)) (a + p.2) p.1 m) m) :=
  List.foldlRecOn (motive := Rising) _ _ h (fun _ hm _ _ => rising_memPut _ _ _ _ hm)

/-- A byte read after bytes have been written from `a` on. -/
theorem memGet_putBytes (d : Nat → Byte) (a i : Nat) (l : List Byte) {m : Memory} (h : Rising m) :
    memGet (d (a + i)) (a + i) (l.zipIdx.foldl (fun m p => memPut (d (a + p.2)) (a + p.2) p.1 m) m)
      = (l[i]?).getD (memGet (d (a + i)) (a + i) m) := by
  induction l using List.reverseRecOn with
  | nil => rfl
  | append_singleton l x ih =>
    rw [List.zipIdx_append, List.foldl_append]
    show memGet _ _ (memPut (d (a + (0 + l.length))) (a + (0 + l.length)) x _) = _
    rw [memGet_memPut d _ _ _ _ (rising_putBytes d a _ h), ih, Nat.zero_add]
    rcases lt_trichotomy i l.length with hi | hi | hi
    · rw [if_neg (by omega), List.getElem?_append_left hi]
    · rw [if_pos (by omega), hi, List.getElem?_concat_length]
      rfl
    · rw [if_neg (by omega), List.getElem?_eq_none (by omega), List.getElem?_eq_none (by simp; omega)]

theorem sramBytes_sramPutBytes (a : Nat) (l : List Byte) {s : State} (h : Rising s.sram) : sramBytes a l.length (sramPutBytes a l s) = l := by
  unfold sramBytes sramPutBytes
  apply List.ext_getElem (by simp)
  intro i _ hi
  rw [List.getElem_map, List.getElem_range, memGet_putBytes sramDefault a i l h, List.getElem?_eq_getElem hi]
  rfl

/-! ### The frames -/

theorem completes_cycle {p : Fin 2} {w : WireFrame} {s : State} (h : CycleFrameCounts p tCycle w s) (hd : s.tri.decided = false) :
    Completes (.cycle p w) s (fun t => TowTakes p w s t ∧ (t.peer (s.peerOf p)).dev
      = some ((towArrival w : Int) - (s.tp p).latency - ((towTsend w : Int) - beAt 0 8 (towPayload w)) - s.seq.start)) := by
  obtain ⟨v, hv, hrec⟩ := cycleFrame_counts h (by decide) (fun s => if s.tri.decided then tpLate p s
    else setPeer (s.peerOf p) (fun q => { q with
      dev := some ((towArrival w : Int) - (s.tp p).latency - ((towTsend w : Int) - beAt 0 8 (towPayload w)) - s.seq.start) }) s) id
  obtain ⟨hseq, hdec, -⟩ := hrec.cycle
  have hlat : (v.tp p).latency = (s.tp p).latency := by rw [hrec.own]
  rw [hdec, hd, if_neg (by decide), hrec.peerOf, hlat, hseq] at hv
  refine ⟨_, congrArg Host.Outcome.next hv, hrec.takes_setPeer _ _, ?_⟩
  rw [peer_setPeer, if_pos rfl]

/-- Data that arrives by the data deadline, before the SUMMARY, is used; later data is not (R225). -/
theorem Received.dataLate {p : Nat} {w : WireFrame} {s v : State} (h : Received p w s v) (hs : s.tri.summarised = false) (hd : s.tri.decided = false) :
    Sys2Proof.Machine.dataLate v = decide (s.seq.start + 80_000 < max s.now w.arrive) := by
  obtain ⟨hseq, hdec, hsum, -⟩ := h.cycle
  unfold Sys2Proof.Machine.dataLate
  rw [hdec, hsum, hs, hd, hseq, h.now]
  rfl

/-- What CONTRIB does with an accepted chunk. -/
def contribTaken (p : Nat) (w : WireFrame) (s : State) : State :=
  let x := s.peerOf p
  let q := s.peer x
  let offset := beAt 0 4 (towPayload w)
  let total := beAt 4 4 (towPayload w)
  let bytes := (towPayload w).drop 8
  if dataLate s then tpLate p s
  else if total < offset + bytes.length ∨ 25_680 < total ∨ (q.ranges ≠ [] ∧ q.total ≠ total) then
    setPeer x (fun q => { q with badContrib := true }) s
  else
    let rs := (offset, bytes.length) :: q.ranges
    trySummary (setPeer x (fun q => { q with
      total := total, ranges := rs, contribMcc := towMcc w, complete := coversAll rs total })
      (sramPutBytes (contribBase x + offset) bytes s))

theorem exec_contrib (p : Fin 2) (w : WireFrame) (s : State) : exec (.contrib p w) s = .next (cycleFrame p tContrib w (contribTaken p w) s) := rfl

theorem tp_tpLate (p : Nat) (s : State) : (tpLate p s).tp p = { s.tp p with late := sat 0xFFFF ((s.tp p).late + 1) } := tp_setTp_same ..

theorem completes_contrib_late {p : Fin 2} {w : WireFrame} {s : State} (h : CycleFrameCounts p tContrib w s) (hs : s.tri.summarised = false)
    (hd : s.tri.decided = false) (hlate : s.seq.start + 80_000 < max s.now w.arrive) :
    Completes (.contrib p w) s (fun t => ((t.tp p).late = sat 0xFFFF ((s.tp p).late + 1) ∧ (t.tp p).rxSeq = some (towSeq w))
      ∧ (t.peer (s.peerOf p)).ranges = (s.peer (s.peerOf p)).ranges) := by
  obtain ⟨v, hv, hrec⟩ := cycleFrame_counts h (by decide) (contribTaken p w) id
  have hlater : contribTaken p w v = tpLate p v := by
    unfold contribTaken
    dsimp only
    rw [hrec.dataLate hs hd, decide_eq_true hlate, if_pos rfl]
  rw [hlater] at hv
  have hpeer : (tpLate p v).peer (s.peerOf p) = s.peer (s.peerOf p) := hrec.peer _
  refine ⟨_, (exec_contrib p w s).trans (congrArg Host.Outcome.next hv), ⟨?_, ?_⟩, by rw [hpeer]⟩
  · rw [tp_tpLate, hrec.own]
  · rw [tp_tpLate, hrec.own]

theorem completes_contrib {p : Fin 2} {w : WireFrame} {s : State} (h : CycleFrameCounts p tContrib w s) (hs : s.tri.summarised = false)
    (hd : s.tri.decided = false) (hnow : max s.now w.arrive ≤ s.seq.start + 80_000)
    (hfit : beAt 0 4 (towPayload w) + ((towPayload w).drop 8).length ≤ beAt 4 4 (towPayload w)) (hmost : beAt 4 4 (towPayload w) ≤ 25_680)
    (htotal : (s.peer (s.peerOf p)).ranges = [] ∨ (s.peer (s.peerOf p)).total = beAt 4 4 (towPayload w)) :
    Completes (.contrib p w) s (fun t => (t.tp p).rxSeq = some (towSeq w) ∧ (t.peer (s.peerOf p)).total = beAt 4 4 (towPayload w)
      ∧ (t.peer (s.peerOf p)).ranges = (beAt 0 4 (towPayload w), ((towPayload w).drop 8).length) :: (s.peer (s.peerOf p)).ranges
      ∧ (t.peer (s.peerOf p)).contribMcc = s.seq.mcc
      ∧ (t.peer (s.peerOf p)).complete
        = coversAll ((beAt 0 4 (towPayload w), ((towPayload w).drop 8).length) :: (s.peer (s.peerOf p)).ranges) (beAt 4 4 (towPayload w))
      ∧ (State.wf s → sramBytes (contribBase (s.peerOf p) + beAt 0 4 (towPayload w)) ((towPayload w).drop 8).length t = (towPayload w).drop 8)) := by
  obtain ⟨v, hv, hrec⟩ := cycleFrame_counts h (by decide) (contribTaken p w) id
  obtain ⟨-, -, -, hmcc, -⟩ := h
  have htaken : contribTaken p w v = trySummary (setPeer (s.peerOf p) (fun q => { q with
      total := beAt 4 4 (towPayload w), ranges := (beAt 0 4 (towPayload w), ((towPayload w).drop 8).length) :: (s.peer (s.peerOf p)).ranges
      contribMcc := towMcc w
      complete := coversAll ((beAt 0 4 (towPayload w), ((towPayload w).drop 8).length) :: (s.peer (s.peerOf p)).ranges) (beAt 4 4 (towPayload w)) })
      (sramPutBytes (contribBase (s.peerOf p) + beAt 0 4 (towPayload w)) ((towPayload w).drop 8) v)) := by
    unfold contribTaken
    dsimp only
    rw [hrec.dataLate hs hd, decide_eq_false (by omega), if_neg (by decide), hrec.peerOf, hrec.peer, if_neg]
    rintro (e | e | ⟨e1, e2⟩)
    · omega
    · omega
    · exact htotal.elim e1 e2
  rw [htaken] at hv
  clear htaken
  have hsram : v.sram = s.sram := by rw [hrec.rest]
  generalize hbytes : (towPayload w).drop 8 = bytes at *
  generalize beAt 0 4 (towPayload w) = o at *
  generalize beAt 4 4 (towPayload w) = total at *
  have hput : (sramPutBytes (contribBase (s.peerOf p) + o) bytes v).tri = v.tri := rfl
  have hbytesAt : State.wf s → sramBytes (contribBase (s.peerOf p) + o) bytes.length (sramPutBytes (contribBase (s.peerOf p) + o) bytes v) = bytes :=
    fun hwf => sramBytes_sramPutBytes _ _ (by rw [hsram]; exact ((wf_iff _ _).1 hwf.1).2)
  generalize sramPutBytes (contribBase (s.peerOf p) + o) bytes v = y at *
  obtain ⟨ht1, ht2, ht3⟩ := trySummary_spec (setPeer (s.peerOf p) (fun q => { q with
      total := total, ranges := (o, bytes.length) :: (s.peer (s.peerOf p)).ranges, contribMcc := towMcc w
      complete := coversAll ((o, bytes.length) :: (s.peer (s.peerOf p)).ranges) total }) y)
  refine ⟨_, (exec_contrib p w s).trans (congrArg Host.Outcome.next hv), ?_⟩
  generalize trySummary _ = t at ht1 ht2 ht3
  have hseq : (t.tp p).rxSeq = some (towSeq w) := by
    rw [ht3 p]
    show (look ({} : TpPort) p y.tri.ports).rxSeq = _
    rw [hput]
    show (v.tp p).rxSeq = _
    rw [hrec.own]
  have hpeer := ht2 (s.peerOf p)
  rw [peer_setPeer, if_pos rfl] at hpeer
  refine ⟨hseq, ?_, ?_, ?_, ?_, fun hwf => ?_⟩
  · rw [hpeer]
  · rw [hpeer]
  · rw [hpeer]; exact hmcc
  · rw [hpeer]
  · have htsram : t.sram = y.sram := by rw [ht1]; rfl
    unfold sramBytes at hbytesAt ⊢
    rw [htsram]
    exact hbytesAt hwf

theorem completes_cut {p : Fin 2} {w : WireFrame} {s : State} (h : CycleFrameCounts p tCut w s) (hs : s.tri.summarised = false)
    (hd : s.tri.decided = false) (hnow : max s.now w.arrive ≤ s.seq.start + 80_000) :
    Completes (.cut p w) s (fun t => TowTakes p w s t ∧ (t.peer (s.peerOf p)).cut = true
      ∧ (t.peer (s.peerOf p)).relays = (s.peer (s.peerOf p)).relaysNext ∧ (t.peer (s.peerOf p)).relaysNext = []) := by
  obtain ⟨v, hv, hrec⟩ := cycleFrame_counts h (by decide) (fun s =>
    if dataLate s then tpLate p (setPeer (s.peerOf p) (fun q => { q with relaysNext := [] }) s)
    else trySummary (setPeer (s.peerOf p) (fun q => { q with cut := true, relays := q.relaysNext, relaysNext := [] }) s))
    (fun s => setPeer (s.peerOf p) (fun q => { q with relaysNext := [] }) s)
  rw [hrec.dataLate hs hd, decide_eq_false (by omega), if_neg (by decide), hrec.peerOf] at hv
  obtain ⟨ht1, ht2, ht3⟩ := trySummary_spec (setPeer (s.peerOf p) (fun q => { q with cut := true, relays := q.relaysNext, relaysNext := [] }) v)
  have hpeer := ht2 (s.peerOf p)
  rw [peer_setPeer, if_pos rfl, hrec.peer] at hpeer
  refine ⟨_, congrArg Host.Outcome.next hv, ?_⟩
  generalize trySummary _ = t at ht1 ht2 ht3 hpeer
  refine ⟨hrec.takes ?_ (ht3 p), ?_, ?_, ?_⟩
  · exact ht1
  · rw [hpeer]
  · rw [hpeer]
  · rw [hpeer]

theorem completes_summary {p : Fin 2} {w : WireFrame} {s : State} (h : CycleFrameCounts p tSummary w s)
    (hd : s.tri.decided = false) (hnow : max s.now w.arrive ≤ s.seq.start + 90_000) :
    Completes (.summary p w) s (fun t => TowTakes p w s t ∧ (t.peer (s.peerOf p)).summary = some (summaryEntries (towPayload w))) := by
  obtain ⟨v, hv, hrec⟩ := cycleFrame_counts h (by decide) (fun s =>
    if s.tri.decided || decide (s.seq.start + 90_000 < s.now) then tpLate p s
    else setPeer (s.peerOf p) (fun q => { q with summary := some (summaryEntries (towPayload w)) }) s) id
  obtain ⟨hseq, hdec, -⟩ := hrec.cycle
  rw [hdec, hd, hseq, hrec.now, decide_eq_false (by omega), Bool.or_self, if_neg (by decide), hrec.peerOf] at hv
  refine ⟨_, congrArg Host.Outcome.next hv, hrec.takes_setPeer _ _, ?_⟩
  rw [peer_setPeer, if_pos rfl]

theorem completes_hash {p : Fin 2} {w : WireFrame} {s : State} (h : CycleFrameCounts p tHash w s)
    (hh : s.tri.hashed = false) (hnow : max s.now w.arrive ≤ s.deadline + 15_000) :
    Completes (.hash p w) s (fun t => TowTakes p w s t ∧ (t.peer (s.peerOf p)).hash
      = some ((s.peer (s.peerOf p)).hash.getD (beAt 0 4 (towPayload w) == 1, slice 8 32 (towPayload w), slice 40 32 (towPayload w)))) := by
  obtain ⟨v, hv, hrec⟩ := cycleFrame_counts h (by decide) (fun s =>
    if s.tri.hashed || decide (s.deadline + 15_000 < s.now) then tpLate p s
    else setPeer (s.peerOf p) (fun q => { q with
      hash := some (q.hash.getD (beAt 0 4 (towPayload w) == 1, slice 8 32 (towPayload w), slice 40 32 (towPayload w))) }) s) id
  obtain ⟨hseq, -, -, hhashed, -⟩ := hrec.cycle
  have hdeadline : v.deadline = s.deadline := by
    unfold State.deadline
    rw [hseq]
  rw [hhashed, hh, hdeadline, hrec.now, decide_eq_false (by omega), Bool.or_self, if_neg (by decide), hrec.peerOf] at hv
  refine ⟨_, congrArg Host.Outcome.next hv, hrec.takes_setPeer _ _, ?_⟩
  rw [peer_setPeer, if_pos rfl, hrec.peer]

end Sys2Proof.Machine
end

section
/-!
PROOFS. Relayed messages, notices, the transfer, acknowledgements, and frames that fail a check (O16; R216, R217, R231, R239, R246, R250).
-/
namespace Sys2Proof.Machine

/-! ### RELAY, NOTICE, XFER -/

theorem completes_relay {p : Fin 2} {w : WireFrame} {s : State} (h : TowAccepts p tRelay w s) (ha : triadActive s = true)
    (hx : (s.peer (s.peerOf p)).present = true ∨ s.tri.joiner = some (s.peerOf p)) :
    Completes (.relay p w) s (fun t => TowTakes p w s t
      ∧ (t.peer (s.peerOf p)).relaysNext = (s.peer (s.peerOf p)).relaysNext ++ [relayOf (towPayload w)]) := by
  obtain ⟨v, hv, hrec⟩ := tpReceive_accepts h (by decide) (fun s =>
    let x := s.peerOf p
    if triadActive s && ((s.peer x).present || s.tri.joiner == some x) then
      setPeer x (fun q => { q with relaysNext := q.relaysNext ++ [relayOf (towPayload w)] }) s
    else s)
  obtain ⟨-, -, -, -, hstate, hjoiner, -⟩ := hrec.cycle
  have hactive : triadActive v = true := by unfold triadActive at ha ⊢; rw [hstate]; exact ha
  have hfrom : ((s.peer (s.peerOf p)).present || s.tri.joiner == some (s.peerOf p)) = true := by simpa using hx
  dsimp only at hv
  rw [hactive, hrec.peerOf, hrec.peer, hjoiner, hfrom, if_pos (by decide)] at hv
  refine ⟨_, congrArg Host.Outcome.next hv, hrec.takes_setPeer _ _, ?_⟩
  rw [peer_setPeer, if_pos rfl, hrec.peer]

theorem completes_notice {p : Fin 2} {w : WireFrame} {s : State} (h : TowAccepts p tNotice w s)
    (hx : (s.peer (s.peerOf p)).present = true ∨ s.tri.joiner = some (s.peerOf p)) :
    Completes (.notice p w) s (fun t => TowTakes p w s t ∧ (t.peer (s.peerOf p)).lostDue.isSome = true
      ∧ (t.peer (s.peerOf p)).present = (s.peer (s.peerOf p)).present) := by
  obtain ⟨v, hv, hrec⟩ := tpReceive_accepts h (by decide) (fun s =>
    let x := s.peerOf p
    if (s.peer x).present || s.tri.joiner == some x then losePeer x s else s)
  obtain ⟨-, -, -, -, -, hjoiner, -⟩ := hrec.cycle
  have hfrom : ((s.peer (s.peerOf p)).present || s.tri.joiner == some (s.peerOf p)) = true := by simpa using hx
  dsimp only at hv
  rw [hrec.peerOf, hrec.peer, hjoiner, hfrom, if_pos rfl] at hv
  refine ⟨_, congrArg Host.Outcome.next hv, hrec.takes_setPeer _ _, ?_, ?_⟩
  · rw [losePeer, peer_setPeer, if_pos rfl]
    rfl
  · rw [losePeer, peer_setPeer, if_pos rfl, hrec.peer]

/-- A byte looked up after bytes have been put from `o` on. -/
theorem look_putBytes (o i : Nat) (l : List Byte) (t : Tab Byte) :
    look 0 (o + i) (l.zipIdx.foldl (fun b e => put (o + e.2) e.1 b) t) = (l[i]?).getD (look 0 (o + i) t) := by
  induction l using List.reverseRecOn with
  | nil => rfl
  | append_singleton l x ih =>
    rw [List.zipIdx_append, List.foldl_append]
    show look 0 (o + i) (put (o + (0 + l.length)) x _) = _
    rw [look_put, ih, Nat.zero_add]
    rcases lt_trichotomy i l.length with hi | hi | hi
    · rw [if_neg (by omega), List.getElem?_append_left hi]
    · rw [if_pos (by omega), hi, List.getElem?_concat_length]
      rfl
    · rw [if_neg (by omega), List.getElem?_eq_none (by omega), List.getElem?_eq_none (by simp; omega)]

theorem completes_xfer {p : Fin 2} {w : WireFrame} {s : State} (h : TowAccepts p tXfer w s) (hj : s.tri.state = .joining)
    (hdone : s.tri.xferDone = false) (hc : s.seq.captured = false) :
    Completes (.xfer p w) s (fun t => TowTakes p w s t ∧ t.tri.xferAt = t.now
      ∧ (beAt 4 4 (towPayload w) ≤ beAt 0 4 (towPayload w) → look [] (s.peerOf p) t.tri.xferHash = (towPayload w).drop 8)
      ∧ (beAt 0 4 (towPayload w) < beAt 4 4 (towPayload w) → look 0 (s.peerOf p) t.tri.xferTotal = beAt 4 4 (towPayload w)
          ∧ look [] (s.peerOf p) t.tri.xferRanges
            = (beAt 0 4 (towPayload w), ((towPayload w).drop 8).length) :: look [] (s.peerOf p) s.tri.xferRanges
          ∧ ∀ (i : Nat) (b : Byte), ((towPayload w).drop 8)[i]? = some b →
              look 0 (beAt 0 4 (towPayload w) + i) (look [] (s.peerOf p) t.tri.xferBytes) = b)) := by
  obtain ⟨v, hv, hrec⟩ := tpReceive_accepts h (by decide) (fun s =>
    let x := s.peerOf p
    let offset := beAt 0 4 (towPayload w)
    let total := beAt 4 4 (towPayload w)
    let bytes := (towPayload w).drop 8
    if s.tri.state ≠ .joining ∨ s.tri.xferDone = true ∨ s.seq.captured = true then tpViolation p 0x5810 s
    else if total ≤ offset then setTriF (fun t => { t with xferHash := put x bytes t.xferHash, xferAt := s.now }) s
    else setTriF (fun t => { t with
      xferTotal := put x total t.xferTotal, xferRanges := upd [] x (fun r => (offset, bytes.length) :: r) t.xferRanges, xferAt := s.now
      xferBytes := upd [] x (fun b => bytes.zipIdx.foldl (fun b e => put (offset + e.2) e.1 b) b) t.xferBytes }) s)
  obtain ⟨hseq, -, -, -, hstate, -⟩ := hrec.cycle
  have hvdone : v.tri.xferDone = false := by rw [hrec.rest]; exact hdone
  have hranges : v.tri.xferRanges = s.tri.xferRanges := by rw [hrec.rest]
  have hwaits : ¬ (v.tri.state ≠ .joining ∨ v.tri.xferDone = true ∨ v.seq.captured = true) := by
    rw [hstate, hj, hvdone, hseq, hc]
    simp
  dsimp only at hv
  rw [if_neg hwaits, hrec.peerOf] at hv
  by_cases hto : beAt 4 4 (towPayload w) ≤ beAt 0 4 (towPayload w)
  · rw [if_pos hto] at hv
    refine ⟨_, congrArg Host.Outcome.next hv, ?_⟩
    generalize (towPayload w).drop 8 = bytes
    refine ⟨hrec.takes rfl rfl, rfl, fun _ => ?_, fun e => absurd e (by omega)⟩
    show look [] _ (put _ bytes v.tri.xferHash) = bytes
    rw [look_put_same]
  · rw [if_neg hto] at hv
    refine ⟨_, congrArg Host.Outcome.next hv, ?_⟩
    generalize (towPayload w).drop 8 = bytes
    refine ⟨hrec.takes rfl rfl, rfl, fun e => absurd e hto, fun _ => ⟨?_, ?_, fun i b hb => ?_⟩⟩
    · show look 0 _ (put _ _ v.tri.xferTotal) = _
      rw [look_put_same]
    · show look [] _ (upd [] _ _ v.tri.xferRanges) = _
      rw [look_upd_same, hranges]
    · dsimp only [setTriF]
      rw [look_upd_same, look_putBytes, hb]
      rfl

/-! ### ACK -/

/-- The port of `p` after the checks of an accepted ACK. -/
theorem tpReceive_ack {p : Nat} {w : WireFrame} {s : State} (h : TowAccepts p tAck w s) (hs : towSnap w = false) :
    ∃ v, tpReceive p tAck w id s = tpAcked p (towAck w) true v ∧ v = { s with time := v.time, tri := { s.tri with ports := v.tri.ports } }
      ∧ v.tp p = { s.tp p with lastValid := (v.tp p).lastValid, peer := (v.tp p).peer } := by
  obtain ⟨h1, h2, h3, h4, h5, h6, h7, h8, h9, h10, -⟩ := h
  unfold tpReceive
  rw [advance_onlyTime (awake_of_netWorks h3)]
  generalize (advance w.arrive s).time = T
  extract_lets u q x s1 expect s2
  have hu : ¬ (q.state = 0 ∨ u.tri.state = .off ∨ netWorks u = false) := by
    rintro (e | e | e)
    · exact h1 e
    · exact h2 e
    · exact absurd (h3.symm.trans e) (by decide)
  have hown : s1.tp p = { s.tp p with lastValid := u.now, peer := towSender w } := tp_setTp_same ..
  refine ⟨s1, ?_, rfl, by rw [hown]⟩
  rw [if_neg hu, if_neg (by simp [h4]), if_neg (by simp [h5]), if_neg (by simp [h6]), if_neg (fun e => e h7), if_neg (by rintro (e | e); exacts [e h8, e h9]),
    if_neg (by rw [show ackUnsent q (towAck w) = false from h10]; decide), if_pos rfl, heedSnap_none hs]
  rfl

theorem tpDrain_nothing {p : Nat} {s : State} (h : (s.tp p).waiting = []) (n : Nat) : tpDrain p n s = s := by
  cases n with
  | zero => rfl
  | succ n =>
    unfold tpDrain
    dsimp only
    rw [h]
    split <;> rfl

theorem length_insertBy {α : Type} (le : α → α → Bool) (x : α) (l : List α) : (insertBy le x l).length = l.length + 1 := by
  induction l with
  | nil => rfl
  | cons y l ih =>
    unfold insertBy
    split
    · rfl
    · rw [List.length_cons, ih, List.length_cons]

theorem length_sortBy {α : Type} (le : α → α → Bool) (l : List α) : (sortBy le l).length = l.length := by
  induction l with
  | nil => rfl
  | cons x l ih => rw [sortBy, length_insertBy, ih, List.length_cons]

theorem tp_sent (p : Nat) (l : List (Nat × TpFrame)) (s : State) : ({ s with tri := { s.tri with sent := l } } : State).tp p = s.tp p := rfl

theorem completes_ack_newer {p : Fin 2} {w : WireFrame} {s : State} (h : TowAccepts p tAck w s) (hw : (s.tp p).waiting = []) (hs : towSnap w = false)
    (hne : towAck w ≠ (s.tp p).acked.getD 0xFFFF_FFFF) (hnew : (towAck w - (s.tp p).acked.getD 0xFFFF_FFFF).toNat < 2 ^ 31) :
    Completes (.ack p w) s (fun t => (t.tp p).acked = some (towAck w)
      ∧ (t.tp p).buffer = (s.tp p).buffer.drop ((s.tp p).buffer.filter (fun b => (towAck w - b.frame.seq).toNat < 2 ^ 31)).length
      ∧ t = { s with time := t.time, tri := t.tri } ∧ t.tri.sent = s.tri.sent ∧ (t.tp p).rxSeq = (s.tp p).rxSeq) := by
  obtain ⟨v, hv, hrest, hown⟩ := tpReceive_ack h hs
  have hacked : (v.tp p).acked = (s.tp p).acked := by rw [hown]
  have hbuffer : (v.tp p).buffer = (s.tp p).buffer := by rw [hown]
  have hwaiting : (v.tp p).waiting = [] := by rw [hown]; exact hw
  have hdrop : tpAcked p (towAck w) true v = setTp p (fun q => { q with
      acked := some (towAck w)
      buffer := q.buffer.drop ((s.tp p).buffer.filter (fun b => (towAck w - b.frame.seq).toNat < 2 ^ 31)).length }) v := by
    unfold tpAcked
    dsimp only
    rw [hacked, if_neg hne, if_neg (by omega), hbuffer]
    refine tpDrain_nothing ?_ 64
    rw [tp_setTp_same]
    exact hwaiting
  refine ⟨_, congrArg Host.Outcome.next (hv.trans hdrop), ?_, ?_, ?_, ?_, ?_⟩
  · rw [tp_setTp_same]
  · rw [tp_setTp_same, hbuffer]
  · rw [hrest]
    rfl
  · rw [hrest]
    rfl
  · rw [tp_setTp_same, hown]

theorem completes_ack_repeated {p : Fin 2} {w : WireFrame} {s : State} (h : TowAccepts p tAck w s) (hs : towSnap w = false)
    (heq : towAck w = (s.tp p).acked.getD 0xFFFF_FFFF) (hretx : ∀ b ∈ (s.tp p).buffer, b.retx < 3) :
    Completes (.ack p w) s (fun t => (t.tp p).buffer.map TpSent.retx = (s.tp p).buffer.map (fun b => b.retx + 1)
      ∧ (t.tp p).buffer.map (fun b => b.frame.seq) = (s.tp p).buffer.map (fun b => b.frame.seq)
      ∧ t = { s with time := t.time, tri := t.tri }
      ∧ t.tri.sent.length = s.tri.sent.length + (s.tp p).buffer.length ∧ (t.tp p).rxSeq = (s.tp p).rxSeq) := by
  obtain ⟨v, hv, hrest, hown⟩ := tpReceive_ack h hs
  have hacked : (v.tp p).acked = (s.tp p).acked := by rw [hown]
  have hbuffer : (v.tp p).buffer = (s.tp p).buffer := by rw [hown]
  have hrx : (v.tp p).rxSeq = (s.tp p).rxSeq := by rw [hown]
  have hsent : v.tri.sent = s.tri.sent := by rw [hrest]
  have hkept : v = { s with time := v.time, tri := v.tri } := by
    rw [hrest]
  suffices hagain : ∀ t, t = tpAcked p (towAck w) true v → (t.tp p).buffer.map TpSent.retx = (s.tp p).buffer.map (fun b => b.retx + 1)
      ∧ (t.tp p).buffer.map (fun b => b.frame.seq) = (s.tp p).buffer.map (fun b => b.frame.seq) ∧ t = { v with tri := t.tri }
      ∧ t.tri.sent.length = s.tri.sent.length + (s.tp p).buffer.length ∧ (t.tp p).rxSeq = (s.tp p).rxSeq by
    obtain ⟨h1, h2, h3, h4, h5⟩ := hagain _ rfl
    refine ⟨_, congrArg Host.Outcome.next hv, h1, h2, ?_, h4, h5⟩
    generalize tpAcked p (towAck w) true v = t at h3 ⊢
    generalize t.tri = T at *
    rw [h3, hkept]
  rintro t rfl
  unfold tpAcked
  dsimp only
  rw [hacked, if_pos heq]
  split
  · unfold tpRetransmit
    dsimp only
    rw [List.drop_zero, hbuffer, if_neg]
    · generalize hfresh : (s.tp p).buffer.map (fun b => ({ b with
        frame := { b.frame with ack := (v.tp p).rxSeq.getD 0xFFFF_FFFF, tsend := v.replica .nclk }, sentAt := v.now, retx := b.retx + 1 } : TpSent)) = fresh
      rw [tp_sent, tp_setTp_same]
      refine ⟨?_, ?_, rfl, ?_, hrx⟩
      · rw [List.take_zero, List.nil_append, ← hfresh, List.map_map]
        rfl
      · rw [List.take_zero, List.nil_append, ← hfresh, List.map_map]
        rfl
      · show (v.tri.sent ++ _).length = _
        rw [List.length_append, hsent, List.length_map, length_sortBy, ← hfresh, List.length_map]
    · simpa using hretx
  · next hb =>
    have hempty : (s.tp p).buffer = [] := by
      rw [hbuffer] at hb
      by_contra e
      exact hb ⟨rfl, e⟩
    rw [hbuffer, hempty, hsent]
    exact ⟨rfl, rfl, rfl, rfl, hrx⟩

/-! ### Frames that are not taken (R250) -/

theorem tpViolation_spec (p code : Nat) (s : State) : Talks (setTp p (fun q => { q with viol := sat 0xFFFF (q.viol + 1) }) s) (tpViolation p code s)
    ∧ (tpViolation p code s).tp p = { s.tp p with viol := sat 0xFFFF ((s.tp p).viol + 1) } := by
  have h : Talks (setTp p (fun q => { q with viol := sat 0xFFFF (q.viol + 1) }) s) (tpViolation p code s) := talks_record code [p] _
  refine ⟨h, ?_⟩
  rw [State.tp, h.tri]
  exact tp_setTp_same ..

/-- A HELLO frame that arrives. -/
theorem completes_of_hello {p : Fin 2} {w : WireFrame} {s : State} {P : State → Prop} (hm : s.keep.mode ≠ .stabled)
    (h : ∀ u k, u = { s with time := u.time } → P (
      if (u.tp p).state = 0 ∨ u.tri.state = .off ∨ netWorks u = false then u
      else if !towIntact w then tpSend p tAck [] (tpDiscard p u)
      else if towTypeDefined (towType w) && towType w != tHello then u
      else if !towFormOk w then tpSend p tAck [] (tpViolation p 0x5810 u)
      else if towTriad w ≠ u.triadId then losePeer (u.peerOf p) (tpViolation p 0x5811 u)
      else if towSender w ≠ u.peerOf p ∨ towReceiver w ≠ u.member then losePeer (u.peerOf p) (tpViolation p 0x5812 u)
      else k)) : Completes (.hello p w) s P := by
  refine ⟨_, exec_hello p w s, ?_⟩
  unfold tpReceive
  rw [advance_onlyTime hm]
  exact h { s with time := (advance w.arrive s).time } _ rfl

theorem completes_hello_unlocked {p : Fin 2} {w : WireFrame} {s : State} (hm : s.keep.mode ≠ .stabled) (h0 : (s.tp p).state = 0) :
    Completes (.hello p w) s (fun t => t = { s with time := t.time }) := by
  refine completes_of_hello hm fun u k hu => ?_
  have hu0 : (u.tp p).state = 0 := by rw [hu]; exact h0
  rw [if_pos (.inl hu0)]
  exact hu

/-- What an ACK that leaves in answer to a frame not taken keeps of the port. -/
theorem tp_tpSend_ack (p : Nat) (s : State) : ((tpSend p tAck [] s).tp p).rxSeq = (s.tp p).rxSeq ∧ ((tpSend p tAck [] s).tp p).crc = (s.tp p).crc
    ∧ ((tpSend p tAck [] s).tp p).viol = (s.tp p).viol ∧ ((tpSend p tAck [] s).tp p).hellosIn = (s.tp p).hellosIn
    ∧ (tpSend p tAck [] s).tri.peers = s.tri.peers := by
  have h := queues_tpSend p tAck [] s
  have hpeers : (tpSend p tAck [] s).tri.peers = s.tri.peers := by rw [h.rest]
  refine ⟨?_, ?_, ?_, ?_, hpeers⟩ <;> rw [h.ports p]

/-- The link has block lock, and the towpath engine works. -/
theorem hello_live {p : Nat} {s u : State} (hu : u = { s with time := u.time })
    (h : (s.tp p).state ≠ 0 ∧ s.tri.state ≠ .off ∧ netWorks s = true) : ¬ ((u.tp p).state = 0 ∨ u.tri.state = .off ∨ netWorks u = false) := by
  obtain ⟨h1, h2, h3⟩ := h
  have hw : netWorks u = netWorks s := by rw [hu]; rfl
  rintro (e | e | e)
  · exact h1 (by rw [hu] at e; exact e)
  · exact h2 (by rw [hu] at e; exact e)
  · exact absurd (h3.symm.trans (hw.symm.trans e)) (by decide)

theorem completes_hello_damaged {p : Fin 2} {w : WireFrame} {s : State} (hm : s.keep.mode ≠ .stabled)
    (hl : (s.tp p).state ≠ 0 ∧ s.tri.state ≠ .off ∧ netWorks s = true) (hbad : towIntact w = false) :
    Completes (.hello p w) s (fun t => (t.tp p).rxSeq = (s.tp p).rxSeq ∧ (t.tp p).crc = sat 0xFFFF ((s.tp p).crc + 1)
      ∧ (t.tp p).hellosIn = (s.tp p).hellosIn ∧ t.tri.peers = s.tri.peers) := by
  refine completes_of_hello hm fun u k hu => ?_
  have htp : u.tp p = s.tp p := by rw [hu]; rfl
  have hpeers : u.tri.peers = s.tri.peers := by rw [hu]
  have hdiscard : (tpDiscard p u).tp p = { s.tp p with crc := sat 0xFFFF ((s.tp p).crc + 1) } := by rw [tpDiscard, tp_setTp_same, htp]
  obtain ⟨h1, h2, -, h3, h4⟩ := tp_tpSend_ack p (tpDiscard p u)
  rw [if_neg (hello_live hu hl), hbad, if_pos (by decide)]
  refine ⟨?_, ?_, ?_, h4.trans hpeers⟩
  · rw [h1, hdiscard]
  · rw [h2, hdiscard]
  · rw [h3, hdiscard]

theorem completes_hello_malformed {p : Fin 2} {w : WireFrame} {s : State} (hm : s.keep.mode ≠ .stabled)
    (hl : (s.tp p).state ≠ 0 ∧ s.tri.state ≠ .off ∧ netWorks s = true) (hi : towIntact w = true)
    (htyp : towType w = tHello ∨ towType w = 0 ∨ 0xC < towType w) (hbad : towFormOk w = false) :
    Completes (.hello p w) s (fun t => (t.tp p).rxSeq = (s.tp p).rxSeq ∧ (t.tp p).viol = sat 0xFFFF ((s.tp p).viol + 1)
      ∧ (t.tp p).hellosIn = (s.tp p).hellosIn) := by
  refine completes_of_hello hm fun u k hu => ?_
  have htp : u.tp p = s.tp p := by rw [hu]; rfl
  have hviol := (tpViolation_spec p 0x5810 u).2
  rw [htp] at hviol
  have hmine : (towTypeDefined (towType w) && towType w != tHello) = false := by
    unfold towTypeDefined
    rcases htyp with e | e | e
    · simp [e]
    · simp [e]
    · rw [decide_eq_false (by omega)]
      rfl
  obtain ⟨h1, -, h2, h3, -⟩ := tp_tpSend_ack p (tpViolation p 0x5810 u)
  rw [if_neg (hello_live hu hl), hi, if_neg (by decide), hmine, if_neg (by decide), hbad, if_pos (by decide)]
  refine ⟨?_, ?_, ?_⟩
  · rw [h1, hviol]
  · rw [h2, hviol]
  · rw [h3, hviol]

/-- A violation of the triad, the sender or the receiver loses the peer. -/
theorem losePeer_tpViolation (p x code : Nat) (s : State) : ((losePeer x (tpViolation p code s)).tp p).rxSeq = (s.tp p).rxSeq
    ∧ ((losePeer x (tpViolation p code s)).tp p).viol = sat 0xFFFF ((s.tp p).viol + 1)
    ∧ ((losePeer x (tpViolation p code s)).peer x).lostDue.isSome = true := by
  have h := (tpViolation_spec p code s).2
  have htp : (losePeer x (tpViolation p code s)).tp p = (tpViolation p code s).tp p := rfl
  rw [htp, h]
  refine ⟨rfl, rfl, ?_⟩
  rw [losePeer, peer_setPeer, if_pos rfl]
  rfl

theorem completes_hello_foreign {p : Fin 2} {w : WireFrame} {s : State} (hm : s.keep.mode ≠ .stabled)
    (hl : (s.tp p).state ≠ 0 ∧ s.tri.state ≠ .off ∧ netWorks s = true) (hi : towIntact w = true) (htyp : towType w = tHello)
    (hf : towFormOk w = true) (hother : towTriad w ≠ s.triadId ∨ towSender w ≠ s.peerOf p ∨ towReceiver w ≠ s.member) :
    Completes (.hello p w) s (fun t => (t.tp p).rxSeq = (s.tp p).rxSeq ∧ (t.tp p).viol = sat 0xFFFF ((s.tp p).viol + 1)
      ∧ (t.peer (s.peerOf p)).lostDue.isSome = true) := by
  refine completes_of_hello hm fun u k hu => ?_
  have htp : u.tp p = s.tp p := by rw [hu]; rfl
  have htriad : u.triadId = s.triadId := by rw [hu]; rfl
  have hpeer : u.peerOf p = s.peerOf p := by rw [hu]; rfl
  have hmember : u.member = s.member := by rw [hu]; rfl
  have hlost := fun code => losePeer_tpViolation p (s.peerOf p) code u
  rw [htp] at hlost
  rw [if_neg (hello_live hu hl), hi, if_neg (by decide), htyp, if_neg (by decide), hf, if_neg (by decide), htriad, hpeer, hmember]
  split
  · exact hlost _
  · next ht =>
    rw [if_pos (hother.resolve_left ht)]
    exact hlost _

/-- Settles O16: a frame that passes the checks of R250 has its number kept and is acted on by its command; a HELLO that fails one is not. -/
theorem towpathFrames : Obligations.TowpathFrames := by
  unfold Obligations.TowpathFrames
  refine ⟨fun p w s h => completes_hello h, fun p w s => ⟨completes_cycle, fun h hs hd => ⟨completes_contrib h hs hd, completes_contrib_late h hs hd⟩,
    completes_cut, completes_summary, completes_hash⟩, fun p w s => ⟨completes_relay, completes_notice, completes_xfer, fun h hw hs =>
    ⟨completes_ack_newer h hw hs, completes_ack_repeated h hs⟩⟩, fun p w s hm => ⟨completes_hello_unlocked hm, completes_hello_damaged hm,
    completes_hello_malformed hm, completes_hello_foreign hm⟩⟩

end Sys2Proof.Machine
end

section
/-!
PROOFS. Envelopes (O28; R303 to R307): a program image that uses clusters the module does not have is refused with 0x9010, and the record
of a code 0x9xxx is also the keeper's last code, which the statement keeps.
-/
namespace Sys2Proof.Machine

/-- What the certificate of `engineerCert` has signed: title ROLES:E, for digital signatures. -/
def engineerTbs : List Byte :=
  [0x30, 0x81, 0x98, 0xA0, 3, 2, 1, 2, 2, 1, 1] ++ ecdsaSha256 ++ [0x30, 0, 0x30, 0]
  ++ [0x30, 0x12, 0x31, 0x10, 0x30, 0x0E, 6, 3] ++ oidTitle ++ [0x13, 7, 0x52, 0x4F, 0x4C, 0x45, 0x53, 0x3A, 0x45] ++ p256Spki
  ++ be 32 0x05B236CAF1A3E6D896E3D6EBD748F76BA7B4839AFF7117A64F3FAE97624DD864
  ++ be 32 0x0D7AB0D2C28B4C58A8B57B49FA10164A685255C7B4E6F1F0F8502824E56F5529
  ++ [0xA3, 0x0F, 0x30, 0x0D, 0x30, 0x0B, 6, 3] ++ oidUsage ++ [4, 4, 3, 2, 7, 0x80]

/-- The signature of `engineerTbs` with the key of `imageState`. -/
def engineerSig : Nat × Nat := (0xD87014A05D00100F5998185681D67E9E34C49B33D42A28B02C7053D6B038F219,
  0xE8CA6C3C26DB66A72A4585D4A2D5C6EC8C01D323839D83CFF58297CC6949141E)

/-- A leaf certificate with the title ROLES:E, for digital signatures, signed by the key of `imageState`. -/
def engineerCert : List Byte :=
  [0x30, 0x81, 0xF2] ++ engineerTbs ++ ecdsaSha256 ++ [0x03, 0x49, 0, 0x30, 70, 2, 0x21, 0] ++ be 32 engineerSig.1 ++ [2, 0x21, 0]
  ++ be 32 engineerSig.2
/-- The signature of `imageEnvelope` with the key of `engineerCert`. -/
def imageSig : Nat × Nat := (0xD17DE37B6959FD11FF1849280340E879F63D7BDBD2C09C4DEBB2F8E88A3355F2,
  0x073B44AFAB76E43C666BE79D1DC3ECD3E6270A6A52DE15B1A47C02CF91B882F7)

/-- An envelope of kind 1, not encrypted, whose payload of 48 zeros gives every cluster the mode 0, signed with the key of `engineerCert`. -/
def imageEnvelope : List Byte :=
  be 4 0x414B_4556 ++ be 2 1 ++ be 2 1 ++ zeros 20 ++ be 4 48 ++ be 4 249 ++ zeros 12 ++ be 32 0x17B0761F87B081D5CF10757CCC89F12BE355C70E2E29DF288B65B30710DCBCD1 ++ zeros 96
  ++ be 4 245 ++ engineerCert ++ zeros 7 ++ zeros 48
  ++ be 32 imageSig.1 ++ be 32 imageSig.2

/-- The check of `imageEnvelope`. -/
def imageChecking : Checking := { kind := 1, tag := 0, stamp := 0, commission := true }

/-- A module with four clusters in COMMISSION: BTH0 is open with every role and has `imageEnvelope` staged, whose checks have begun. -/
def imageState : State := {
  fused := { fit := 0 }
  keep := { mode := .commission }
  bth := {
    anchorSlot := some 0
    anchors := [(0, be 32 0x481DAE7E809BBB0ED61328DC321A2D9586FAABD493E3BAE65F7F2FC29DA5760E
      ++ be 32 0xE19D84F14AA14B25A347AD68FA4225F39B90B6695953988FA79765407CEC9DC6)]
    berths := [(0, { state := .open_, granted := 63, staged := {
      total := imageEnvelope.length, ranges := [(0, imageEnvelope.length)], bytes := (List.range imageEnvelope.length).zip imageEnvelope
      checking := some imageChecking } })] } }

/-! The points of the two ECDSA checks. Each multiplication is a lemma of its own, so that the kernel evaluates one at a time. -/

/-- `u` and `v` of the signature `engineerSig`, with the points they give. -/
def engineerU : Nat := 0xBF23164A777E6E0C1D4A4ED889A08629926C8A192C0A4540E6C0DAE5D190F5AE
def engineerV : Nat := 0xF50E714D4C093F356BE3AAE981F3A230BC140B737D3F187919CD1821B894EEBF
def engineerA : Point := some (0x7496AF0C8CBFB1B8A9E7BD599228AC3A869B4F86A13F2A8DD8DF1CCDF04C2F55,
  0x52E65980669D3F4ABC4468057B159689F3E667FD72260214FE2DD637A28ED65A)
def engineerB : Point := some (0x43776BEDE3503B3049E308F54D05EF11360DB34BD2D9B8F4F595B797CAA551B5,
  0xEFCAAD234EF7CAD0FE63B27749EBA736EEA8B5E08A0CA4B8B027FC8AB6B93F7E)
def engineerR : Nat × Nat := (0xD87014A05D00100F5998185681D67E9E34C49B33D42A28B02C7053D6B038F219,
  0x84D93A3AC2F39EA2DBD51B4EEF539375DAF1283983B4C98F8DC3106D3BF25678)

/-- `u` and `v` of the signature `imageSig`, with the points they give. -/
def imageU : Nat := 0xD28E49F514F52F824350D149276245D1E2A38392E1D173D217EE2D2C9CB9619B
def imageV : Nat := 0xDD6A6F1B0A42A3F60F08DC97DD225DBB812864E7A2F391C63772F1D1270724B0
def imageA : Point := some (0xD9F71787BEDBA4C48CA400A464D3EADE3C2EBEADD567DD5C691D13E23A062DE8,
  0x7FF509825C143439F4B87A92253FF2448AD56110C5CB5D3B3022681A76B5EE61)
def imageB : Point := some (0x6E4D11C8AB906F53888E52C217F4A4B3CA384C1131BD5D3DC70F81D5CE1C6045,
  0xF8022648309876BD8ED79058372EF95382FF57D1F40660C11C10D06BF4D53574)
def imageR : Nat × Nat := (0xD17DE37B6959FD11FF1849280340E879F63D7BDBD2C09C4DEBB2F8E88A3355F2,
  0x0525A545BE931C43A5ADD073EFFC56CE6275112F8C864E82FB9B8A3EC9B43C39)

/-- The public keys of `imageState`'s anchor and of `engineerCert`. -/
def anchorPoint : Nat × Nat := (0x481DAE7E809BBB0ED61328DC321A2D9586FAABD493E3BAE65F7F2FC29DA5760E,
  0xE19D84F14AA14B25A347AD68FA4225F39B90B6695953988FA79765407CEC9DC6)
def engineerPoint : Nat × Nat := (0x05B236CAF1A3E6D896E3D6EBD748F76BA7B4839AFF7117A64F3FAE97624DD864,
  0x0D7AB0D2C28B4C58A8B57B49FA10164A685255C7B4E6F1F0F8502824E56F5529)

theorem mulPoint_engineerU : mulPoint engineerU p256G = engineerA := by decide +kernel

theorem mulPoint_engineerV : mulPoint engineerV (some anchorPoint) = engineerB := by decide +kernel

theorem mulPoint_imageU : mulPoint imageU p256G = imageA := by decide +kernel

theorem mulPoint_imageV : mulPoint imageV (some engineerPoint) = imageB := by decide +kernel

theorem engineerU_eq : ofBe (sha256 engineerTbs) * invMod engineerSig.2 p256N % p256N = engineerU := by decide +kernel

theorem imageU_eq : ofBe (sha256 (imageEnvelope.take 480)) * invMod imageSig.2 p256N % p256N = imageU := by decide +kernel

/-- A signature is good when the sum of its two points has its first number as abscissa. -/
theorem ecdsaOk_of_points {key msg : List Byte} {sig q R : Nat × Nat} {u v : Nat} {A B : Point} (hq : pointOf key = some q)
    (hu : ofBe (sha256 msg) * invMod sig.2 p256N % p256N = u) (hv : sig.1 * invMod sig.2 p256N % p256N = v)
    (hA : mulPoint u p256G = A) (hB : mulPoint v (some q) = B) (hR : addPoint A B = some R) (hr : R.1 % p256N = sig.1)
    (hsig : 1 ≤ sig.1 ∧ sig.1 < p256N ∧ 1 ≤ sig.2 ∧ sig.2 < p256N) : ecdsaOk key msg sig = true := by
  unfold ecdsaOk
  rw [hq]
  dsimp only
  rw [hu, hv, hA, hB, hR, decide_eq_true hsig]
  exact decide_eq_true hr

theorem ecdsaOk_engineerCert : ecdsaOk imageState.anchorKey engineerTbs engineerSig = true :=
  ecdsaOk_of_points (q := anchorPoint) (R := engineerR) (by decide +kernel) engineerU_eq (v := engineerV) (by decide +kernel) mulPoint_engineerU
    mulPoint_engineerV (by decide +kernel) (by decide +kernel) (by decide +kernel)

theorem ecdsaOk_imageEnvelope {key : List Byte} (hkey : pointOf key = some engineerPoint) :
    ecdsaOk key (imageEnvelope.take 480) imageSig = true :=
  ecdsaOk_of_points (R := imageR) hkey imageU_eq (v := imageV) (by decide +kernel) mulPoint_imageU
    mulPoint_imageV (by decide +kernel) (by decide +kernel) (by decide +kernel)

/-- The leaf of a chain of one good certificate signs with its key and its roles. -/
theorem chainLeaf_single {most : Nat} {root der : List Byte} {c : Cert} {r : BitVec 6} (hmost : 1 ≤ most) (hc : parseCert der = some c)
    (hplace : c.placeOk 0 = true) (hsig : ecdsaOk root c.tbs c.sig = true) (hroles : c.roles = some r) :
    chainLeaf most root [der] = some { roles := r, hash := sha256 der, key := c.key, ids := certIds root [c] } := by
  have hall : (([c] : List Cert).zipIdx).all (fun p => p.1.placeOk p.2) = true := by simp [hplace]
  unfold chainLeaf
  simp only [List.mapM_cons, List.mapM_nil, hc, Option.bind_eq_bind, Option.bind_some, Option.pure_def]
  rw [if_pos ⟨hmost, hall, hsig⟩, hroles]
  rfl

theorem signed_engineerCert : (parseCert engineerCert).map (fun c => (c.tbs, c.sig)) = some (engineerTbs, engineerSig) := by decide +kernel

theorem leaf_engineerCert : (parseCert engineerCert).map (fun c => (c.placeOk 0, c.roles, pointOf c.key)) = some (true, some 8, some engineerPoint) := by
  decide +kernel

/-- An envelope of kind 1 is signed by the signer that its chain gives, who is an ENGINEER. -/
theorem signedOk_of_signer {e : List Byte} {h : EnvHead} {g : Signer} {s : State} (hkind : h.kind = 1)
    (hsigner : signerOf e 3 s.anchorKey s = some g) : signedOk e h s = (g.roles.getLsbD roleE && signedBy e g.key) := by
  unfold signedOk
  rw [hkind, hsigner]
  rfl

/-- The envelope of `imageState` is signed by an ENGINEER whose chain ends at the anchor. -/
theorem signedOk_imageEnvelope : signedOk imageEnvelope (envHead imageEnvelope) imageState = true := by
  obtain ⟨c, hc, hparts⟩ := Option.map_eq_some_iff.1 signed_engineerCert
  obtain ⟨htbs, hsig⟩ := Prod.mk.inj hparts
  have hleafParts := leaf_engineerCert
  rw [hc, Option.map_some] at hleafParts
  obtain ⟨hplace, hrest⟩ := Prod.mk.inj (Option.some.inj hleafParts)
  obtain ⟨hroles, hkey⟩ := Prod.mk.inj hrest
  have hkind : (envHead imageEnvelope).kind = 1 := by decide +kernel
  have hchain : chainCerts 3 (slice 176 (envHead imageEnvelope).chain imageEnvelope) = some [engineerCert] := by decide +kernel
  have hleaf := chainLeaf_single (most := 3) (by decide) hc hplace (root := imageState.anchorKey) (by rw [htbs, hsig]; exact ecdsaOk_engineerCert) hroles
  have hlast : imageEnvelope.length - 64 = 480 := by decide +kernel
  have hraw : rawSig (imageEnvelope.drop 480) = imageSig := by decide +kernel
  have hsigned : signedBy imageEnvelope c.key = true := by
    unfold signedBy
    rw [hlast, hraw]
    exact ecdsaOk_imageEnvelope hkey
  have hsigner : signerOf imageEnvelope 3 imageState.anchorKey imageState
      = some { roles := 8, hash := sha256 engineerCert, key := c.key, ids := certIds imageState.anchorKey [c] } := by
    unfold signerOf
    rw [hchain, Option.bind_some, hleaf]
    rfl
  rw [signedOk_of_signer hkind hsigner, hsigned, Bool.and_true]
  exact (by decide : (8 : BitVec 6).getLsbD roleE = true)

/-- An envelope that passes every check before that of its content has the content's code. -/
theorem envelopeCode_of_content {b : Nat} {e p : List Byte} {c : Checking} {s : State} (hform : formOk e c.kind = true)
    (hpermit : permitOk b (envHead e) c s = true) (hsigned : signedOk e (envHead e) s = true) (hroll : rollbackOk (envHead e) s = true)
    (hopen : openPayload e (envHead e) s = some p) (hhash : sha256 p = (envHead e).hash) (hbad : contentCode (envHead e) p s ≠ 0) :
    envelopeCode b e c s = contentCode (envHead e) p s := by
  unfold envelopeCode
  dsimp only
  rw [hform, hpermit, hsigned, hroll, hopen]
  rw [if_neg (by decide), if_neg (by decide), if_neg (by decide), if_neg (by decide)]
  dsimp only
  rw [if_neg (not_not_intro hhash), if_pos hbad]

theorem contentCode_imageEnvelope : contentCode (envHead imageEnvelope) (zeros 48) imageState = 0x9010 := by decide +kernel

theorem envelope_imageState : (imageState.berth (0 : Fin 8).val).staged.envelope = imageEnvelope := by decide +kernel

theorem envelopeCode_imageState : envelopeCode (0 : Fin 8).val (imageState.berth (0 : Fin 8).val).staged.envelope imageChecking imageState = 0x9010 := by
  rw [envelope_imageState, ← contentCode_imageEnvelope]
  refine envelopeCode_of_content (by decide +kernel) (by decide +kernel) signedOk_imageEnvelope (by decide +kernel) (by decide +kernel)
    (by decide +kernel) ?_
  rw [contentCode_imageEnvelope]
  decide

/-- Checks that fail refuse the envelope with the code of the first one (R304). -/
theorem exec_envelopeCheckComplete_refused {b : Fin 8} {c : Checking} {code : Nat} {s : State} (hc : (s.berth b).staged.checking = some c)
    (hcode : envelopeCode b (s.berth b).staged.envelope c s = code) (h0 : code ≠ 0) :
    exec (.envelopeCheckComplete b) s = .next (rejectEnvelope b code c s) := by
  show execEnvelopeCheckComplete b s = _
  unfold execEnvelopeCheckComplete
  rw [hc]
  dsimp only
  rw [hcode, if_neg h0]

/-- A refusal with a code 0x9xxx leaves it as the keeper's last code. -/
theorem lastCode_rejectEnvelope (b : Nat) (c : Checking) {code : Nat} (h : code / 0x1000 = 9) (hk : c.kind ≠ 9) (s : State) :
    (rejectEnvelope b code c s).keep.lastCode = code := by
  have h1 : code ≠ 0x6101 := by rintro rfl; exact absurd h (by decide)
  obtain ⟨j, hr⟩ := recordB_keeper h ([b].flatMap (le 4)) (setBerth b (fun B => { B with staged := {} }) s)
  unfold rejectEnvelope
  dsimp only
  rw [if_neg (fun e : _ ∧ _ => hk e.1), if_neg h1]
  unfold refuseEnvelope
  rw [(replies_sendReply b _ _).rest]
  show (record code [b] _).keep.lastCode = code
  rw [record, hr]

/-- Refutes O28: BTH0 commits an image that uses clusters which are not fitted. It is refused with 0x9010, and so the keeper's last code
changes, besides what the statement lets change. -/
theorem not_envelopesAct : ¬ Obligations.EnvelopesAct := by
  unfold Obligations.EnvelopesAct
  intro h
  obtain ⟨-, -, -, hcheck⟩ := h 0 { version := 0, typ := 0, tag := 0, length := 0, crc := 0 } 0 imageState
  obtain ⟨hrefused, -⟩ := hcheck imageChecking rfl
  obtain ⟨t, hexec, -, -, -, -, -, -, -, -, hrest⟩ := hrefused (by rw [envelopeCode_imageState]; decide)
  obtain ⟨-, hframe⟩ := hrest (.inl (by rw [envelopeCode_imageState]; decide))
  have hcode := lastCode_rejectEnvelope (0 : Fin 8).val imageChecking (code := 0x9010) rfl (by decide) imageState
  rw [exec_envelopeCheckComplete_refused rfl envelopeCode_imageState (by decide)] at hexec
  obtain rfl := Host.Outcome.next.inj hexec
  have hkeep := congrArg (fun u : State => u.keep.lastCode) hframe
  dsimp only at hkeep
  rw [hcode] at hkeep
  exact absurd hkeep (by decide)

end Sys2Proof.Machine
end
